-- ==== Sys2Proof/Word.lean ====
section
/-!
DEFINITION. The words the block is made of, the three lanes, and their plainest arithmetic.

Cells of a register are `BitVec 32`; an address into BAR0 or into a list is a `Nat`; a quantity the spec computes
with exactly before it rounds or saturates is an `Int` or a `Nat`.
-/

namespace Sys2Proof

/-- One register word of BAR0 (R7: setup registers are 32 bits wide). -/
abbrev Word := BitVec 32

/-- One byte of a galley entry, a record, a page or a frame. -/
abbrev Byte := BitVec 8

/-- One payload word of a Doxel record (R92: 64-bit words). -/
abbrev Dword := BitVec 64

/-- The three lanes of the device, each on its own substrate region (R4, R9). -/
inductive LaneId where
  | A
  | B
  | C
  deriving DecidableEq, Repr

/-- The lane number the spec uses in fields and masks: 0 A, 1 B, 2 C. -/
def LaneId.num : LaneId → Nat
  | .A => 0
  | .B => 1
  | .C => 2

/-- The lane number as an index. -/
def LaneId.fin : LaneId → Fin 3
  | .A => 0
  | .B => 1
  | .C => 2

/-- The lane with a given number; numbers from 2 up name lane C. -/
def LaneId.ofNum : Nat → LaneId
  | 0 => .A
  | 1 => .B
  | _ => .C

/-- The three lanes in ascending letter. -/
def LaneId.all : List LaneId := [.A, .B, .C]

/-- Peer slot 0 is the lower-lettered of the two other lanes (R119). -/
def LaneId.peer0 : LaneId → LaneId
  | .A => .B
  | .B => .A
  | .C => .A

/-- Peer slot 1 is the higher-lettered of the two other lanes (R119). -/
def LaneId.peer1 : LaneId → LaneId
  | .A => .C
  | .B => .C
  | .C => .B

/-- The peer slot (0 or 1) in which lane `self` sees lane `p`; its own slot is never asked for. -/
def LaneId.slotOf (self p : LaneId) : Nat := if p = self.peer0 then 0 else 1

/-- A signed number of `w` bits held in a natural number (two's complement). -/
def toSigned (w n : Nat) : Int :=
  if n % 2 ^ w < 2 ^ (w - 1) then ((n % 2 ^ w : Nat) : Int) else ((n % 2 ^ w : Nat) : Int) - 2 ^ w

/-- The two's complement pattern of `w` bits of an integer. -/
def ofSigned (w : Nat) (i : Int) : Nat := (i % (2 ^ w : Int)).toNat

/-- The integer nearest `i` in the range of a signed number of `w` bits. -/
def satSigned (w : Nat) (i : Int) : Int := max (-(2 ^ (w - 1) : Int)) (min (2 ^ (w - 1) - 1 : Int) i)

/-- Add one, staying at the maximum of a counter of `w` bits. -/
def satInc (w n : Nat) : Nat := min (2 ^ w - 1) (n + 1)

/-- Bit `i` of a natural number. -/
def bit (n i : Nat) : Bool := n.testBit i

/-- `n` with bit `i` set to `b`. -/
def setBit (n i : Nat) (b : Bool) : Nat :=
  if b then n ||| 2 ^ i else if n.testBit i then n - 2 ^ i else n

/-- 1 for true, 0 for false: the value of a one-bit field. -/
def b2n (b : Bool) : Nat := if b then 1 else 0

/-- A mask (bit k for number k) of the numbers below `n` that a test accepts. -/
def maskOf : Nat → (Nat → Bool) → Nat
  | 0, _ => 0
  | n + 1, p => maskOf n p + (if p n then 2 ^ n else 0)

/-- How many of the low `n` bits are set. -/
def popCount : Nat → Nat → Nat
  | 0, _ => 0
  | n + 1, m => popCount n m + (if m.testBit n then 1 else 0)

/-- The little-endian value of a list of bytes (R6). -/
def leBytes : List Byte → Nat
  | [] => 0
  | b :: bs => b.toNat + 256 * leBytes bs

/-- The big-endian value of a list of bytes: network byte order (R6). -/
def beBytes (bs : List Byte) : Nat := leBytes bs.reverse

/-- The `n` bytes of a value, least significant first (R6). -/
def toLe : Nat → Nat → List Byte
  | 0, _ => []
  | n + 1, v => BitVec.ofNat 8 v :: toLe n (v / 256)

/-- The `n` bytes of a value, most significant first (R6). -/
def toBe (n v : Nat) : List Byte := (toLe n v).reverse

/-- Bytes `off` to `off + n - 1` of a list, as many as there are. -/
def sliceBytes (bs : List Byte) (off n : Nat) : List Byte := (bs.drop off).take n

/-- The little-endian number in bytes `off` to `off + n - 1`. -/
def leAt (bs : List Byte) (off n : Nat) : Nat := leBytes (sliceBytes bs off n)

/-- The big-endian number in bytes `off` to `off + n - 1`. -/
def beAt (bs : List Byte) (off n : Nat) : Nat := beBytes (sliceBytes bs off n)

/-- The median of three integers. -/
def median3 (x y z : Int) : Int := max (min x y) (min (max x y) z)

/-- Division rounded to nearest, ties away from zero, for a positive divisor. -/
def divRound (n : Int) (d : Nat) : Int :=
  if d = 0 then 0
  else if 0 ≤ n then (2 * n + d) / (2 * d) else -((2 * (-n) + d) / (2 * d))

end Sys2Proof
end

