-- ==== Sys2Proof/Syntax.lean ====
section
/-!
DEFINITION. The commands of the block: one constructor for each row of the spec's table of operations and events, with
what the event brings from outside (a written value, the content of a record, a sensor's bits) as its operands.
-/

namespace Sys2Proof

/-- A cycle frame (R91). -/
structure CycleFrame where
  /-- 0 primary, 1 spare; 04 R91. -/
  spare : Bool
  /-- PROOF; 04 R91. -/
  proof : Bool
  /-- SELF: 0 MEMBER, 1 EXCLUDED, 2 SHADOW, 3 DEAD, 4 FORMING; 04 R91. -/
  self : Nat
  /-- MEMBERS lane mask; 04 R91. -/
  members : Nat
  /-- EXCL_REQ lane mask; 04 R91. -/
  exclReq : Nat
  /-- MODE; 04 R91. -/
  mode : Nat
  /-- CYCLE; 32 bits; 04 R91. -/
  cycle : Nat
  /-- T32: the time is T32; 04 R91. -/
  t32 : Bool
  /-- TIME_NS and TIME_S: ns of TIME80 or T32, seconds or wrap count; 04 R91. -/
  time : Nat × Nat
  /-- HOST_UP; 04 R91. -/
  hostUp : Bool
  /-- ATTR_SELF; 04 R91. -/
  attrSelf : Bool
  /-- REF_HELD; 04 R91. -/
  refHeld : Bool
  /-- NET_UP, 4 bits; 04 R91. -/
  netUp : Nat
  /-- DEGRADE, 32 bits; 04 R91. -/
  degrade : Nat
  /-- torque commands of CH0 to CH7, signed Q16.16; 04 R91. -/
  torque : Vector Int 8
  /-- TVALID, 8 bits; 04 R91. -/
  tvalid : Nat
  /-- PROOF_CH; 04 R91. -/
  proofCh : Nat
  /-- RAMP, per mille; 04 R91. -/
  ramp : Nat
  /-- ACK: highest contiguous frame number; 16 bits; 04 R91. -/
  ack : Nat
  deriving DecidableEq, Repr

/-- What a message or bulk frame brings beside its content (R92, R93): who sent it, on which link, its number and the number
up to which its sender has received this lane's frames. A record that came appended to a cycle frame has no number of its
own. -/
structure Arrival where
  /-- SENDER; 04 R92. -/
  lane : LaneId
  /-- LINK: on the spare link; 04 R92. -/
  spare : Bool
  /-- frame number, none for a record appended to a cycle frame; 16 bits; 04 R92, R93. -/
  num : Option (BitVec 16)
  /-- ACK; 16 bits; 04 R92. -/
  ack : BitVec 16
  deriving DecidableEq, Repr

/-- A function with a shutdown sequence, other than a channel (R32 and its table). -/
inductive FunctionId where
  | chopper (k : Fin 2)
  | port (p : Fin 4)
  | safetyOutput (k : Fin 8)
  | lane
  deriving DecidableEq, Repr

/-- What an Ethernet frame brings that the bridge acts on (R283, R295 to R299). -/
structure EthFrame where
  /-- destination address. -/
  dst : BitVec 48
  /-- source address. -/
  src : BitVec 48
  /-- the frame check sequence is good. -/
  fcsOk : Bool
  /-- MACsec: none without a security tag, else whether the integrity check passes, and its packet number. -/
  macsec : Option (Bool × Nat)
  /-- PCP value, the egress queue. -/
  pcp : Fin 8
  /-- 0 any other, 1 Yuwil (the Ethertype of YW_CTRL), 2 PTP. -/
  kind : Fin 3
  /-- it is a PTP event message, with its residence time in ns between the two external ports. -/
  ptpEvent : Option Nat
  /-- bytes of the frame. -/
  length : Nat
  deriving DecidableEq, Repr

/-- A CAN frame heard on a bus (R314, R315). -/
structure CanFrame where
  /-- identifier; 29 bits, an 11-bit one in the low bits. -/
  id : BitVec 29
  /-- extended format. -/
  ide : Bool
  /-- 0 classical, 1 FD, 2 XL. -/
  kind : Fin 3
  /-- BRS, ESI and RTR, in this order from bit 0. -/
  ctrl : BitVec 3
  /-- SDU type of an XL frame. -/
  sdt : Byte
  /-- acceptance field of an XL frame. -/
  af : Word
  /-- virtual CAN network identifier of an XL frame. -/
  vcid : Byte
  /-- data bytes. -/
  data : List Byte
  deriving DecidableEq, Repr

/-- What a DMA read of the host's memory brings (R77, R83): its bytes, none where it failed, and the disturbances of its first
words on the island crossing (R16, R19). -/
structure Transfer where
  /-- the bytes read. -/
  bytes : Option (List Byte)
  /-- the bits that the crossing disturbs, word by word. -/
  flips : List (BitVec 72)
  deriving DecidableEq, Repr

/-- A copy of a descriptor that a lane passes on (R79, R109). -/
structure DescCopy where
  /-- the 64 bytes. -/
  bytes : List Byte
  /-- the instant or boundary of its effect that comes with it, lane time in ns. -/
  at_ : Option Nat
  deriving DecidableEq, Repr

/-- What stands in a cycle frame after its words W0 to W7 (R91, R93). -/
structure FrameTail where
  /-- the words of the records appended. -/
  extra : List Dword
  /-- END: the CRC-32C and the record count. -/
  endWord : Dword
  deriving DecidableEq, Repr

/-- A voting boundary of a lane (R95, R96). -/
structure LaneBoundary where
  /-- the lane. -/
  lane : LaneId
  /-- its VOTE logic sends the cycle frames. -/
  sends : Bool
  deriving DecidableEq, Repr

/-- A new raw level of a line and for how many samples it is held (R204, R222, R323). -/
structure RawLevel where
  /-- the level. -/
  level : Bool
  /-- samples of 10 ns. -/
  held : Nat
  deriving DecidableEq, Repr

/-- New raw levels of a port's lines: for how many samples they are held, and whether the port's second decoder then differs
(R204, R209). -/
structure LineSample where
  /-- samples of 10 ns. -/
  held : Nat
  /-- POS_RAW of the second decoder differs. -/
  mismatch : Bool
  deriving DecidableEq, Repr

/-- The three raw levels of a Hall port (R209, R214). -/
structure HallSample where
  /-- L2, L1, L0. -/
  lines : BitVec 3
  /-- samples of 10 ns for which they are held. -/
  held : Nat
  /-- the second decoder then differs. -/
  mismatch : Bool
  deriving DecidableEq, Repr

/-- A new raw level of line Z of a port (R204, R213). -/
structure ZEdge where
  /-- the port. -/
  port : Fin 24
  /-- the level. -/
  z : Bool
  /-- samples of 10 ns for which it is held. -/
  held : Nat
  deriving DecidableEq, Repr

/-- The data line of a port during an SSI frame (R209, R215): its raw levels with the number of samples of each, and whether
the second decoder then differs. -/
structure SsiSample where
  /-- levels and samples, in order. -/
  runs : List (Bool × Nat)
  /-- the second decoder then differs. -/
  mismatch : Bool
  deriving DecidableEq, Repr

/-- The end of a conversion (R234): its raw code, and the bits of its result that the crossing disturbs (R16, R19). -/
structure Converted where
  /-- the raw code. -/
  code : BitVec 16
  /-- the disturbed bits. -/
  flip : BitVec 72
  deriving DecidableEq, Repr

/-- What the scrubber finds at its word (R421, R422): how many bit errors, and a requester's write that comes in the same
cycle (true) or between the read and the write-back (false). -/
structure ScrubCycle where
  /-- 0 none, 1 one, 2 more. -/
  errs : Fin 3
  /-- the write. -/
  write : Option (Bool × Dword)
  deriving DecidableEq, Repr

/-- The commands: one constructor for each row of `spec/opcode_table.json`. `l` is the lane in which the step happens. -/
inductive Instr where
  /-- REGISTER_WRITE (R8): A host write to a BAR0 register that has no row of its own is applied, with reserved bits discarded and sealed or locked registers refused. -/
  | registerWrite (l : LaneId) (off : Nat) (value : Word)
  /-- REG64_LOW_READ (R7): A read of the low word of a 64-bit register latches the high word for the next high-word read. -/
  | reg64LowRead (l : LaneId) (off : Nat)
  /-- BAR0_BAD_REQUEST (R30): A BAR0 request that is smaller than 32 bits, unaligned or crosses a block completes with Unsupported Request, writes nothing and records a HIF corrected fault. -/
  | bar0BadRequest (l : LaneId)
  /-- QUOIN (R64): A write of the seal key to HIF.QUOIN runs the seal checks and either sets the quoin and sends the setup hash, or records the first failing check in SEAL_ERR. -/
  | quoin (l : LaneId) (key : Word)
  /-- HIF_ENABLE (R62): Setting HIF.CTRL.EN from 0 to 1 clears every galley counter, sets the write phase to 1 and starts polling. -/
  | hifEnable (l : LaneId) (value : Word)
  /-- MACSEC_SAK_WRITE (R299): A write to MS_SAKn before the quoin stores SAK bytes in the key store, never to be read back. -/
  | macsecSakWrite (l : LaneId) (net : Fin 2) (port : Fin 2) (n : Fin 4) (value : Word)
  /-- SETUP_HASH_RECEIVE (R65): A peer's SETUP_HASH record is compared with the lead's hash to set or clear SETUP_DIFFERS. -/
  | setupHashReceive (l : LaneId) (src : Arrival) (hash : BitVec 512)
  /-- DOORBELL_POLL (R44): At each poll period the lane reads the whole doorbell page, accepts valid SG_TAIL and CG_HEAD values and reads the EOI words. -/
  | doorbellPoll (l : LaneId) (page : Option (List Byte))
  /-- DESC_FETCH (R59): Once a completion slot can be reserved and any fence has cleared, the descriptor engine issues a read of up to 8 descriptors by weighted round robin. -/
  | descFetch (l : LaneId)
  /-- DESC_FETCH_COMPLETE (R77): A completed descriptor read is fingerprinted and the galley, SEQ and fingerprint, or a fetch-failed message, are sent to the peers. -/
  | descFetchComplete (l : LaneId) (read : Transfer)
  /-- DESC_FP_RECEIVE (R78): A peer's DESC_FP record is added to the copies held and the descriptor is decided by the table of R78 when no lane is still waited for. -/
  | descFpReceive (l : LaneId) (src : Arrival) (sg : Fin 16) (seq : Word) (fp : Option Dword)
  /-- SINGLE_WAIT_EXPIRED (R78): When SINGLE_WAIT expires the descriptor is decided on the copies held, executed or completed DENIED with LANE_ABSENT. -/
  | singleWaitExpired (l : LaneId) (sg : Fin 16) (seq : Word)
  /-- HOST_LINK_LOST (R39): DL_Down, a cleared Bus Master Enable, entry to D3hot or two failed DMA reads mark the host link lost, stop fetching and tell the peers. -/
  | hostLinkLost (l : LaneId)
  /-- PERST_RESET (R38): PERST_N_x, a hot reset or a link-down reset resets only the HOST island, clears MSI-X state and loses the host link. -/
  | perstReset (l : LaneId)
  /-- LINK_PROBE (R40): Every 1 ms while the link is lost a probe doorbell read is issued, and its success restores the link after taking galley counts from the lead. -/
  | linkProbe (l : LaneId) (trained : Fin 4) (page : Option (List Byte))
  /-- GALLEY_COUNTS_RECEIVE (R57): A GALLEY_COUNTS record updates the lane's view of the lead's consumed and written galley counts. -/
  | galleyCountsReceive (l : LaneId) (src : Arrival) (counts : List Dword)
  /-- HOST_TIMEOUT (R46): When no doorbell read completes or no SG_TAIL advances for HOST_TIMEOUT, HOST_SILENT is set and the controlled stop for loss of all host links starts. -/
  | hostTimeout (l : LaneId)
  /-- COMPLETION_WRITE (R56): The lead writes an agreed completion in two posted writes after the next voting boundary and issues its interrupt if IRQ was set. -/
  | completionWrite (l : LaneId)
  /-- NOP (R48): NOP completes OK at once. -/
  | nop (l : LaneId)
  /-- SETPOINT (R126): SETPOINT sets a position, speed or force target of a channel, replanned at t_r or queued for its AT. -/
  | setpoint (l : LaneId)
  /-- LIMITS (R122): LIMITS changes the profile, torque and speed limits of a channel at t_r or at its AT. -/
  | limits (l : LaneId)
  /-- CHANNEL_MODE_ENABLE (R193): CHANNEL_MODE ENABLE starts a DISABLED channel, returns a TUNE channel to RUN, or is held pending under the re-enable rule. -/
  | channelModeEnable (l : LaneId)
  /-- CHANNEL_MODE_TUNE (R193): CHANNEL_MODE TUNE starts a DISABLED channel into TUNE or moves a RUN channel to TUNE. -/
  | channelModeTune (l : LaneId)
  /-- CHANNEL_MODE_DISABLE (R193): CHANNEL_MODE DISABLE starts the channel's shutdown, or completes NO_CHANGE when the channel is already DISABLED or FAULTED. -/
  | channelModeDisable (l : LaneId)
  /-- CONFIG_STAGE (R83): CONFIG_STAGE copies host bytes into the staging area of every member and checks their CRC. -/
  | configStage (l : LaneId)
  /-- CONFIG_COMMIT (R84): CONFIG_COMMIT checks the epoch lead time, sets COMMIT_PENDING and starts validation of the staged image. -/
  | configCommit (l : LaneId)
  /-- PARAM_READ (R52): PARAM_READ returns a BAR0 register value of a named lane or of the lead in the completion RESULT. -/
  | paramRead (l : LaneId)
  /-- AUTOTUNE (R161): AUTOTUNE puts a slot of a channel in TUNE into relay auto-tune, after the checks of the acceptance table. -/
  | autotune (l : LaneId)
  /-- DIAG_COMPARATOR_SELFTEST (R269): DIAG COMPARATOR_SELFTEST runs the comparator self-test of a STEER bridge in the named lanes and reports the result. -/
  | diagComparatorSelftest (l : LaneId)
  /-- DIAG_TEST_CURRENT_SCAN (R268): DIAG TEST_CURRENT_SCAN runs the ten-step test-current scan of a DISABLED BRAKE channel in the named lanes. -/
  | diagTestCurrentScan (l : LaneId)
  /-- DIAG_SELFTEST_TIMEOUT (R269): A comparator self-test not finished within 1 s completes OK with the untested comparators counted. -/
  | diagSelftestTimeout (l : LaneId) (ch : Fin 8)
  /-- PROOF_REQ (R395): PROOF_REQ proves one region in each named lane and the lead collects the results. -/
  | proofReq (l : LaneId)
  /-- FW_STAGE (R402): FW_STAGE writes a firmware chunk into the inactive slot and, with LAST, verifies the image and marks the slot TRIAL. -/
  | fwStage (l : LaneId)
  /-- LOG_READ (R416): LOG_READ exports change-log entries of a lane to a host buffer, optionally signed, releasing them when signed from the oldest. -/
  | logRead (l : LaneId)
  /-- ATTEST (R400): ATTEST asks a MEMBER lane for a signed attestation report that the lead writes to host memory. -/
  | attest (l : LaneId)
  /-- FLEET_KEY (R405): FLEET_KEY adds or revokes fleet keys in the named lanes, all or none. -/
  | fleetKey (l : LaneId)
  /-- SAFE_RESET_CHANNEL (R193): SAFE_RESET with SCOPE CHANNEL releases a cleared stop latch or FAULTED latch and clears uncertain ports of the channel. -/
  | safeResetChannel (l : LaneId)
  /-- SAFE_RESET_SAFETY_FUNCTION (R333): SAFE_RESET with SCOPE SAFETY_FUNCTION clears cleared latched faults of a function or output, or grants a manual permit. -/
  | safeResetSafetyFunction (l : LaneId)
  /-- SAFE_RESET_LANE (R113): SAFE_RESET with SCOPE LANE excludes one lane with cause HOST_RESET, or, for INDEX 0x03, schedules the restart of every lane. -/
  | safeResetLane (l : LaneId)
  /-- LANE_CLEAR (R113): LANE_CLEAR clears READMITS and moves DEAD lanes to EXCLUDED, or starts readmission of lanes waiting under AUTO = 0. -/
  | laneClear (l : LaneId)
  /-- HOST_RESET (R113): At the first voting boundary after the completion of a SAFE_RESET of every lane is written, every lane takes the HOST reset and runs its start-up path. -/
  | hostReset (l : LaneId)
  /-- FOLIO_SNAPSHOT (R70): At the first voting boundary after each folio period each member builds the folio page and exchanges its SEQ and fingerprint at the next boundary. -/
  | folioSnapshot (l : LaneId)
  /-- FOLIO_FP_RECEIVE (R71): A peer's FOLIO_FP record is compared with the lane's own page fingerprint to decide the write agreement. -/
  | folioFpReceive (l : LaneId) (src : Arrival) (seq : Dword) (fp : Dword)
  /-- FOLIO_WRITE (R72): When the agreement holds, the lead writes the folio page with the odd and then even SEQ, or counts a skipped snapshot. -/
  | folioWrite (l : LaneId)
  /-- COMMIT_READY_CHECK (R84): Each lane finishes checking IMAGE_CRC and validating the staged image and sends READY with its fingerprint or FAIL with its reason. -/
  | commitReadyCheck (l : LaneId)
  /-- COMMIT_RECORD_RECEIVE (R85): A peer's COMMIT record of READY, FAIL, GO or NOGO is recorded for the commit decision. -/
  | commitRecordReceive (l : LaneId) (src : Arrival) (kind : Fin 4) (reason : Byte) (payload : Dword)
  /-- COMMIT_READY_DEADLINE (R85): At the first voting boundary at or after D_r each member sends GO or NOGO. -/
  | commitReadyDeadline (l : LaneId)
  /-- COMMIT_DECISION_DEADLINE (R85): At D_d each member decides to apply the image at EPOCH or aborts the commit. -/
  | commitDecisionDeadline (l : LaneId)
  /-- COMMIT_EPOCH (R86): At the first PWM clock at or after EPOCH the new configuration takes effect in every block. -/
  | commitEpoch (l : LaneId)
  /-- VOTING_BOUNDARY (R97): At each voting boundary the lane sends its cycle frames, applies share tables and membership changes, and evaluates lead, speaker and agreed state. -/
  | votingBoundary (at_ : LaneBoundary)
  /-- FORMATION_WINDOW_EXPIRED (R102): When SHADOW_TMO.FORM has elapsed from the first proof pass the formation boundary is taken without the missing lanes. -/
  | formationWindowExpired (l : LaneId)
  /-- CYCLE_FRAME_RECEIVE (R94): A cycle frame from a peer is checked and taken from the primary or spare link and matched by CYCLE. -/
  | cycleFrameReceive (l : LaneId) (sender : LaneId) (frame : CycleFrame) (tail : FrameTail)
  /-- FRAME_RETRANSMIT (R93): A message or bulk frame not acknowledged within 2 µs is sent again on the spare link. -/
  | frameRetransmit (l : LaneId)
  /-- VOTE_COMPUTE (R97): When all member frames have arrived or the window closes, the torque commands are voted, disagreement counts updated and exclusions, holds or attribution decided. -/
  | voteCompute (l : LaneId)
  /-- PROOF_RESULT_RECEIVE (R101): A PROOF_RESULT record tells the injecting lane whether the peer classified its injected value as disagreeing. -/
  | proofResultReceive (l : LaneId) (src : Arrival) (injector : LaneId) (disagreeing : Bool)
  /-- LINK_LOSS_RECEIVE (R94): A LINK_LOSS record reports a peer whose cycle frame was missing on both links. -/
  | linkLossReceive (l : LaneId) (src : Arrival) (lost : LaneId)
  /-- ATTRIB_RECEIVE (R107): An ATTRIB record reports that a member attributed the disagreement to itself. -/
  | attribReceive (l : LaneId) (src : Arrival)
  /-- ATTRIBUTION_END (R107): After at most 100 µs of attribution, a member that neither excluded itself nor saw its peer attribute the fault enters SAFE. -/
  | attributionEnd (l : LaneId) (found : Bool)
  /-- PEER_ALIVE_STOP (R378): A peer's ALIVE coupler without a transition for 10 µs declares its ALIVE stopped and excludes it with cause PEER_ALIVE. -/
  | peerAliveStop (l : LaneId) (peer : LaneId)
  /-- READMISSION_START (R108): When REJOIN has elapsed with AUTO = 1, an EXCLUDED lane starts readmission with its full proof. -/
  | readmissionStart (l : LaneId)
  /-- PROOF_WAIT_RECHECK (R386): Every 10 ms a waiting readmission proof rechecks that every shorted bridge runs below crossover. -/
  | proofWaitRecheck (l : LaneId)
  /-- READMIT_TIME_ALIGNED (R108): Once the readmitting lane's time lies within 150 ns of the members' median, the static state transfer starts. -/
  | readmitTimeAligned (l : LaneId)
  /-- BULK_STATIC_STATE (R109): A bulk frame of static state carrying the committed image and tables is received by the readmitting lane. -/
  | bulkStaticState (l : LaneId) (src : Arrival) (data : List Byte)
  /-- BULK_DYNAMIC_STATE (R109): A bulk frame of the dynamic snapshot of V_s is received by the readmitting lane. -/
  | bulkDynamicState (l : LaneId) (src : Arrival) (part : Fin 11)
  /-- BULK_DESCRIPTOR_COPY (R79): A descriptor copy is received, checked against the agreed fingerprint and executed, or applied at its instant during readmission. -/
  | bulkDescriptorCopy (l : LaneId) (src : Arrival) (sg : Fin 16) (seq : Word) (copy : DescCopy)
  /-- BULK_HOST_BUFFER_COPY (R79): A copy of a host buffer named in a descriptor is received and checked against its CRC. -/
  | bulkHostBufferCopy (l : LaneId) (src : Arrival) (bytes : List Byte)
  /-- BULK_MISMATCH_COPY (R82): A full descriptor copy is exchanged to find the first differing byte of a MISMATCH. -/
  | bulkMismatchCopy (l : LaneId) (src : Arrival) (sg : Fin 16) (seq : Word) (bytes : List Byte)
  /-- BULK_REPORT_COPY (R400): An attestation report copy reaches the lead, which writes it to DST and completes ATTEST. -/
  | bulkReportCopy (l : LaneId) (src : Arrival) (bytes : List Byte)
  /-- BULK_TELEMETRY_COPY (R429): A member's histograms reach the lead for the telemetry galley batch. -/
  | bulkTelemetryCopy (l : LaneId) (src : Arrival) (bytes : List Byte)
  /-- STATE_TRANSFER_COMPLETE (R110): A finished state transfer is checked; a pass moves the lane to SHADOW, a fail repeats it once or makes the lane DEAD. -/
  | stateTransferComplete (l : LaneId)
  /-- SHADOW_TIMEOUT (R102): SHADOW_TMO elapsed without SHADOW_VOTES agreeing votes makes the lane DEAD with cause READMIT_FAILED. -/
  | shadowTimeout (l : LaneId)
  /-- CONTROLLED_STOP_END (R114): When every channel has come to rest the controlled stop ends in its category. -/
  | controlledStopEnd (l : LaneId)
  /-- STOP_TMAX_EXPIRED (R114): VOTE.STOP.TMAX elapsing ends the controlled stop. -/
  | stopTmaxExpired (l : LaneId)
  /-- REPLAN (R126): At the replan instant a generator replaces its plan from the state its present plan gives there. -/
  | replan (l : LaneId) (g : Fin 16)
  /-- PLAN_STEP (R123): At each 1 µs plan step the planner evaluates the plan and loads the rate multiplier increment. -/
  | planStep (l : LaneId) (g : Fin 16)
  /-- TIMED_ENTRY_APPLY (R130): A queued TIMED SETPOINT or LIMITS is applied when its AT is reached. -/
  | timedEntryApply (l : LaneId) (g : Fin 16)
  /-- PROF_LATCH_EDGE (R135): A latch edge captures the accumulator into PROF.LATCH and increments LATCH_COUNT. -/
  | profLatchEdge (l : LaneId) (g : Fin 16) (rising : Bool)
  /-- LIMIT_SWITCH_EDGE (R136): An active limit-switch edge latches the position, replans to rest and holds the generator. -/
  | limitSwitchEdge (l : LaneId) (g : Fin 16) (positive : Bool)
  /-- LIMIT_SWITCH_RELEASE (R136): A limit input that releases clears its LIMP_HIT or LIMN_HIT flag. -/
  | limitSwitchRelease (l : LaneId) (g : Fin 16) (positive : Bool)
  /-- HOMING_REF_EDGE (R137): The reference edge during homing latches and stops, or moves on toward the index. -/
  | homingRefEdge (l : LaneId) (g : Fin 16)
  /-- HOMING_INDEX (R137): The index pulse during homing latches, offsets accumulator and port to HOME_POS and sets HOMED. -/
  | homingIndex (l : LaneId) (g : Fin 16)
  /-- HOMING_NO_EDGE (R137): HOME_TRAVEL counts travelled without the edge fail homing with NO_EDGE. -/
  | homingNoEdge (l : LaneId) (g : Fin 16)
  /-- HOMING_NO_INDEX (R137): No index within one MODULO after the reference edge fails homing with NO_INDEX. -/
  | homingNoIndex (l : LaneId) (g : Fin 16)
  /-- TIMETABLE_TICK (R146): At a timetable tick the engine samples every selected source at the sampling edge for the slots of that tick. -/
  | timetableTick (l : LaneId) (t : Fin 4)
  /-- SLOT_ISSUE (R154): A scheduled slot is issued on its pipeline and evaluates the control law or the relay. -/
  | slotIssue (l : LaneId) (n : Fin 128) (residueFails : Bool)
  /-- PIPE_ROTATION (R142): Every 100 ms the spare pipeline takes over the next logical pipeline. -/
  | pipeRotation (l : LaneId)
  /-- TUNE_END (R166): At the first voting boundary after the lead's measurement or an abort, the tuned slot returns to RUN bumplessly and the AUTOTUNE completes. -/
  | tuneEnd (l : LaneId) (n : Fin 128)
  /-- TUNE_TIMEOUT (R165): TUNE_TMO elapsing aborts the tune with NOT_STABLE. -/
  | tuneTimeout (l : LaneId) (n : Fin 128)
  /-- OBS_REACQ_TIMEOUT (R190): No lock within OBS.REACQ leaves the winding off and raises OBS_REACQ_FAIL. -/
  | obsReacqTimeout (l : LaneId) (ch : Fin 8)
  /-- REVERSAL_RELEASE (R181): At the first voting boundary with measured speed at or below the threshold a held reversal is released. -/
  | reversalRelease (l : LaneId) (ch : Fin 8)
  /-- REVERSAL_STALL (R182): A reversal hold longer than TMO.REV raises REVERSAL_STALL. -/
  | reversalStall (l : LaneId) (ch : Fin 8)
  /-- OVERSPEED (R178): Measured speed above 1.125 times the speed limit for 10 ms raises OVERSPEED. -/
  | overspeed (l : LaneId) (ch : Fin 8)
  /-- STARTUP_CONTACTOR_READY (R194): The phase-isolation output energized with EDM confirmed lets the channel start-up continue past step 2. -/
  | startupContactorReady (l : LaneId) (ch : Fin 8)
  /-- BOOTSTRAP_CHARGE_DONE (R194): The bootstrap charge time ending completes step 4 of the channel start-up. -/
  | bootstrapChargeDone (l : LaneId) (ch : Fin 8)
  /-- ANGLE_ACQUISITION_START (R195): At the first boundary at which every member has completed step 4, angle acquisition starts on a forced angle. -/
  | angleAcquisitionStart (l : LaneId) (ch : Fin 8)
  /-- ALIGN_HOLD_EXPIRED (R195): The alignment hold ending sets INDEX_REF and moves the port to TRACK, or fails the start-up with ALIGN_FAILED. -/
  | alignHoldExpired (l : LaneId) (ch : Fin 8)
  /-- ALIGN_SEARCH_EXHAUSTED (R195): An index search that turns POLES electrical turns without an index fails with ALIGN_FAILED. -/
  | alignSearchExhausted (l : LaneId) (ch : Fin 8)
  /-- ACQUISITION_END (R195): At the first boundary at which every member has ended its acquisition, the channel's angle acquisition ends. -/
  | acquisitionEnd (l : LaneId) (ch : Fin 8)
  /-- CHANNEL_STARTUP_BOUNDARY (R194): At the start-up boundary the generators are set, the slots enter RUN and the gates are enabled at the next valley. -/
  | channelStartupBoundary (l : LaneId) (ch : Fin 8)
  /-- CHANNEL_STARTUP_COMPLETE (R194): At the next voting boundary the channel enters RUN or TUNE and the enable completes. -/
  | channelStartupComplete (l : LaneId) (ch : Fin 8)
  /-- START_TIMEOUT (R194): TMO.START elapsing fails the start-up with START_ERR of the running step. -/
  | startTimeout (l : LaneId) (ch : Fin 8)
  /-- CHANNEL_SHUTDOWN_COMPLETE (R196): With both generators at rest, the winding takes its safe state at the next valley and the channel becomes DISABLED. -/
  | channelShutdownComplete (l : LaneId) (ch : Fin 8)
  /-- SHUTDOWN_OVERRUN (R193): TMO.DIS elapsing forces the safe state and raises SHUTDOWN_OVERRUN. -/
  | shutdownOverrun (l : LaneId) (ch : Fin 8)
  /-- FUNCTION_SHUTDOWN_COMPLETE (R32): The shutdown of a chopper leg, network port, safety output or lane completes and pending enables are applied or cancelled. -/
  | functionShutdownComplete (l : LaneId) (f : FunctionId)
  /-- FUNCTION_SHUTDOWN_OVERRUN (R32): A function's shutdown exceeding its maximum duration raises a shutdown-overrun fault and cancels pending enables. -/
  | functionShutdownOverrun (l : LaneId) (f : FunctionId)
  /-- QUAD_TRANSITION (R210): A valid change of A or B adds one count in the decoded direction. -/
  | quadTransition (l : LaneId) (port : Fin 24) (a : Bool) (b : Bool) (seen : LineSample)
  /-- DOUBLE_STEP (R211): A sample in which A and B both change infers two steps or records a LOST event. -/
  | doubleStep (l : LaneId) (port : Fin 24) (held : Nat) (mismatch : Bool)
  /-- INDEX_PULSE (R213): An index edge latches POS, sets INDEX_REF at the first index and checks drift afterwards. -/
  | indexPulse (l : LaneId) (edge : ZEdge)
  /-- HALL_STATE (R214): A change of the Hall state decodes, infers or loses sector steps, or raises HALL_INVALID. -/
  | hallState (l : LaneId) (port : Fin 24) (seen : HallSample)
  /-- SSI_TRIGGER (R215): An SSI trigger starts a clocked frame read from the sensor. -/
  | ssiTrigger (l : LaneId) (port : Fin 24)
  /-- SSI_FRAME_END (R217): A finished SSI frame is checked and its value applied to the count, or discarded with FRAME_ERROR. -/
  | ssiFrameEnd (l : LaneId) (port : Fin 24) (seen : SsiSample)
  /-- SENT_FRAME (R216): A received SENT frame is checked and its position applied under R217. -/
  | sentFrame (l : LaneId) (port : Fin 24) (pulses : List Nat) (level : Bool) (mismatch : Bool)
  /-- PT_TRANSITION_EMIT (R224): An emulating pass-through output emits its next owed quadrature transition after MINGAP. -/
  | ptTransitionEmit (l : LaneId) (pt : Fin 4)
  /-- FEEDBACK_STALE (R218): No valid frame for 4 trigger periods sets STALE and raises STALE. -/
  | feedbackStale (l : LaneId) (port : Fin 24)
  /-- VELOCITY_TIMEOUT (R219): No count change for VEL.TMO sets FB_VEL to 0. -/
  | velocityTimeout (l : LaneId) (port : Fin 24)
  /-- PROBE_EDGE (R222): A probe edge latches the named port's POS and the lane time, and increments PRB_COUNT. -/
  | probeEdge (l : LaneId) (probe : Fin 8) (edge : RawLevel)
  /-- PORT_BYPASS_END (R220): A bypass that ends returns the port to ACQUIRE with a new ledger. -/
  | portBypassEnd (l : LaneId) (port : Fin 24)
  /-- SEQUENCE_HOLD (R229): A sequence trigger strobes the holds of all its inputs. -/
  | sequenceHold (l : LaneId) (sq : Fin 16)
  /-- CONVERSION_COMPLETE (R234): A finished conversion is corrected, scaled and delivered to its mailbox and consumers. -/
  | conversionComplete (l : LaneId) (ain : Fin 72) (result : Converted)
  /-- ADC_CALIBRATION (R237): A core measures its internal references and updates its offset and gain correction. -/
  | adcCalibration (l : LaneId) (core : Fin 24) (low : BitVec 16) (high : BitVec 16)
  /-- ZERO_CAL_MEASURE (R238): A current input measures its amplifier zero in a zero-current window and updates ZERO_CAL. -/
  | zeroCalMeasure (l : LaneId) (ain : Fin 72) (z : Int)
  /-- CARRIER_VALLEY (R246): At a carrier valley shadow duties load, carrier alignment is corrected and bootstrap refreshes are inserted. -/
  | carrierValley (l : LaneId) (c : Fin 8) (alignErr : Int)
  /-- DESAT_TRIP (R251): A desaturation trip turns the switch off softly and takes the bridge's active short on the named side. -/
  | desatTrip (l : LaneId) (leg : Fin 26) (low : Bool)
  /-- COARSE_TRIP (R252): A coarse comparator trip acts as a desaturation trip before blanking ends. -/
  | coarseTrip (l : LaneId) (leg : Fin 26) (low : Bool)
  /-- INTERLOCK_STUCK (R250): An opposite gate that does not fall below GOFF within ILK_TMO keeps the waiting switch off and names a short side. -/
  | interlockStuck (l : LaneId) (leg : Fin 26) (low : Bool)
  /-- GATE_STUCK_OFF (R250): A commanded gate that does not rise above GON within ILK_TMO names a short side. -/
  | gateStuckOff (l : LaneId) (leg : Fin 26) (low : Bool)
  /-- BS_UV (R260): A bootstrap below UV turns the high side off and names the short side LOW. -/
  | bsUv (l : LaneId) (leg : Fin 26)
  /-- FORCE_SAFE (R243): An asserted force-safe line puts every leg of the die in its force-safe state within 1 µs. -/
  | forceSafe (l : LaneId) (die : Fin 2)
  /-- EDGE_LINK (R243): An edge link failing its check for 200 ns puts the die's legs in their force-safe state and raises a lane fatal fault. -/
  | edgeLink (l : LaneId) (die : Fin 2)
  /-- CHOP_SHORTED (R262): Chopper current above OFF_I for 10 µs while commanded off latches the leg as shorted. -/
  | chopShorted (l : LaneId) (leg : Fin 2)
  /-- OV3_RELEASE (R264): VDC below OV2 for REL lets the bridges switch again from the next valley. -/
  | ov3Release (l : LaneId)
  /-- OV4_TRIP (R265): The analog OV4 comparator trips, shorting every MOTOR bridge and latching. -/
  | ov4Trip (l : LaneId) (die : Fin 2)
  /-- VGD_LOSS (R266): VGD below 8.5 V for 1 µs is a lane fatal loss of supply. -/
  | vgdLoss (l : LaneId)
  /-- COMPARATOR_SELFTEST_STEP (R267): One DAC step of a comparator self-test runs in a free window and is judged. -/
  | comparatorSelftestStep (l : LaneId) (leg : Fin 26) (low : Bool) (cmp : Fin 3) (aborted : Bool) (tripped : Bool)
  /-- SCAN_STEP (R268): One 250 µs step of the test-current scan drives the phases and reads their voltages. -/
  | scanStep (l : LaneId) (ch : Fin 8) (u : BitVec 72) (v : BitVec 72) (w : BitVec 72)
  /-- PTP_SYNC_RECEIVE (R277): A Sync from the grandmaster updates the servo and may lock the lane to GM_RED or GM_BLUE. -/
  | ptpSyncReceive (l : LaneId) (blue : Bool) (offset : Int)
  /-- GM_LOST (R277): No Sync for 3 intervals or the Announce timeout moves the lane to PEER or HOLDOVER. -/
  | gmLost (l : LaneId)
  /-- PDELAY_REQ (R283): A Pdelay_Req on an external port is answered by the T316 in P2P mode. -/
  | pdelayReq (l : LaneId) (port : Fin 4) (seq : BitVec 16) (residence : Nat)
  /-- TIME_COMPARISON (R286): At the first boundary after each millisecond each member sends a TIME_CMP record to each peer. -/
  | timeComparison (l : LaneId)
  /-- TIME_CMP_RECEIVE (R287): A TIME_CMP record gives the peer's offset, from which GM_SUSPECT, TIME_DIFF and lock state are judged. -/
  | timeCmpReceive (l : LaneId) (src : Arrival) (t32 : Bool) (source : BitVec 3) (stepReady : Bool) (locked : Bool) (ns : Word) (sec : Word)
  /-- HOLDOVER_EXPIRED (R482): At the boundary after HOLDOVER has elapsed every member changes to FREE and T32 form. -/
  | holdoverExpired (l : LaneId)
  /-- TIME_STEP (R279): At the first boundary at least 1 ms after every member reported STEP_READY, each member steps its counter. -/
  | timeStep (l : LaneId)
  /-- COMPARE_UNIT (R290): A compare unit raises its interrupt source at each multiple of its period plus phase. -/
  | compareUnit (l : LaneId) (c : Fin 4)
  /-- TIME_COUNTER (R275): The duplicated time counters differing raise a lane fatal fault. -/
  | timeCounter (l : LaneId)
  /-- ETH_FRAME_RECEIVE (R295): A frame received on an Ethernet port is learned, forwarded, flooded or copied to the internal port. -/
  | ethFrameReceive (l : LaneId) (port : Fin 4) (frame : EthFrame)
  /-- PORT_LINK_DOWN (R294): An Ethernet port link change updates the port status and raises PORT_LINK_DOWN when lost. -/
  | portLinkDown (l : LaneId) (port : Fin 4)
  /-- PORT_DRAIN_TIMEOUT (R297): Frames still queued 1 ms after a port disable are discarded and the PHY taken down. -/
  | portDrainTimeout (l : LaneId) (port : Fin 4)
  /-- QBV_GATE_ENTRY (R298): The next entry of a port's gate control list opens and closes its queues. -/
  | qbvGateEntry (l : LaneId) (port : Fin 4)
  /-- BRIDGE_AGE_OUT (R295): A learned address not refreshed for BRIDGE.AGE seconds is removed. -/
  | bridgeAgeOut (l : LaneId) (blue : Bool) (mac : BitVec 48)
  /-- YW_POLL (R304): A verified POLL copy is paired by SEQ and scheduled for an answer by the speaker. -/
  | ywPoll (l : LaneId) (blue : Bool) (frame : List Byte)
  /-- YW_ANSWER_SEND (R304): ANS_DLY after the poll the speaker sends the answer from the selected buffer, or drops it late. -/
  | ywAnswerSend (l : LaneId) (y : Fin 2)
  /-- YW_SKEW_EXPIRED (R305): SKEW elapsing after a single copy decides its SEQ as SINGLE. -/
  | ywSkewExpired (l : LaneId) (y : Fin 2)
  /-- YW_RX_RECEIVE (R308): A YW_RX record gives a peer's accepted POLL for the common command application. -/
  | ywRxReceive (l : LaneId) (src : Arrival) (y : Fin 2) (single : Bool) (words : List Dword)
  /-- YW_COMMAND_APPLY (R308): At the first boundary at or after t_d + 3 µs every member applies the command of the newest accepted POLL. -/
  | ywCommandApply (l : LaneId)
  /-- NET_LOST (R309): No copy accepted on a network for SAFE_TMO marks it lost, and both lost starts the K6 stop. -/
  | netLost (l : LaneId) (blue : Bool)
  /-- YW_KEY_INIT (R307): A KEY_INIT is checked and answered by the lead with KEY_REPLY, forming new session keys. -/
  | ywKeyInit (l : LaneId) (blue : Bool) (y : Fin 2) (frame : List Byte)
  /-- YW_KEY_RECEIVE (R307): A YW_KEY record gives the peers the new session keys. -/
  | ywKeyReceive (l : LaneId) (src : Arrival) (y : Fin 2) (sid : Word) (keys : List Dword)
  /-- YW_KEY_CONFIRM (R307): A verified KEY_CONFIRM switches the session and starts its ledger. -/
  | ywKeyConfirm (l : LaneId) (blue : Bool) (y : Fin 2) (frame : List Byte)
  /-- YW_FLEET_FRAME (R311): A FLEET frame of session 1 is paired and its accepted record sent as FLEET_COPY. -/
  | ywFleetFrame (l : LaneId) (blue : Bool) (frame : List Byte)
  /-- FLEET_COPY_RECEIVE (R312): Each member checks a fleet stop record's target, key, signature, window and counter. -/
  | fleetCopyReceive (l : LaneId) (src : Arrival) (record : List Byte)
  /-- FLEET_STOP_APPLY (R313): At the first boundary at or after t_d + 100 µs an accepted fleet stop is applied in its category. -/
  | fleetStopApply (l : LaneId)
  /-- FLEET_STOP_EXPIRE (R313): Lane time passing NOT_AFTER clears the FLEET_STOP cause. -/
  | fleetStopExpire (l : LaneId)
  /-- CAN_FRAME_RECEIVE (R317): A CAN frame passing a filter is written by the lead into the receive ring. -/
  | canFrameReceive (l : LaneId) (can : Fin 2) (f : CanFrame)
  /-- CAN_TX_OBJECT (R316): An enabled transmit object sends its folio bytes every PERIOD ms. -/
  | canTxObject (l : LaneId) (can : Fin 2) (obj : Fin 16)
  /-- CAN_BUS_OFF (R315): A controller going bus-off raises CAN_BUS_OFF and may change the speaker. -/
  | canBusOff (l : LaneId) (can : Fin 2)
  /-- SI_LEVEL_CHANGE (R323): A safety input's filtered level changes, is stamped and evaluated for demand. -/
  | siLevelChange (l : LaneId) (si : Fin 20) (change : RawLevel)
  /-- TP_WINDOW_START (R324): A test-pulse window starts and the source switches off. -/
  | tpWindowStart (l : LaneId) (t : Fin 4)
  /-- TP_WINDOW_MIDPOINT (R325): At the window midpoint the inputs on the source are checked low and the source switches on. -/
  | tpWindowMidpoint (l : LaneId) (t : Fin 4)
  /-- TP_WINDOW_END (R325): At the window end the tested inputs are evaluated as usual again. -/
  | tpWindowEnd (l : LaneId) (t : Fin 4)
  /-- TP_FAULT (R324): A source readback disagreeing with its command for 20 µs raises TP_FAULT. -/
  | tpFault (l : LaneId) (t : Fin 4)
  /-- SAFETY_XCHG_RECEIVE (R331): A peer's SAFETY_XCHG record updates levels, faults and demand of every function. -/
  | safetyXchgReceive (l : LaneId) (src : Arrival) (words : List Dword)
  /-- SAFETY_INPUTS_LOST (R328): No record from a lane for 2 × T_v marks its inputs faulty with LANE_LOST. -/
  | safetyInputsLost (l : LaneId) (peer : LaneId)
  /-- DISCREPANCY (R330): Two channels of a pair differing for longer than DISC latch the lagging one faulty. -/
  | discrepancy (l : LaneId) (f : Fin 16) (pair : Fin 2)
  /-- SYNC_EXCEEDED (R330): A two-hand input not active within SYNC raises SYNC_EXCEEDED. -/
  | syncExceeded (l : LaneId) (f : Fin 16)
  /-- SF_PERMIT_GRANT (R331): At the first boundary at which every member reports the function out of demand, the permit is granted. -/
  | sfPermitGrant (l : LaneId) (f : Fin 16)
  /-- SO_TEST_START (R338): An output's dark or light test starts once per test period. -/
  | soTestStart (l : LaneId) (k : Fin 8)
  /-- SO_TEST_END (R338): A test ending checks the readback and latches the output off on failure. -/
  | soTestEnd (l : LaneId) (k : Fin 8) (readbackOk : Bool)
  /-- SO_TEST_RETRY (R339): A test aborted by a command change is repeated 10 ms later. -/
  | soTestRetry (l : LaneId) (k : Fin 8)
  /-- EDM_CONFIRM (R340): EDM reaching the expected state confirms the output change and completes its shutdown. -/
  | edmConfirm (l : LaneId) (k : Fin 8)
  /-- EDM_FAULT (R340): EDM not in the expected state within EDM_TIME latches the output off. -/
  | edmFault (l : LaneId) (k : Fin 8)
  /-- SO_OVERLOAD (R471): An output in current limit for 2 ms is latched off as SO_TEST_FAIL. -/
  | soOverload (l : LaneId) (k : Fin 8)
  /-- IRQ_RAISE_RECEIVE (R350): An IRQ_RAISE record adds a peer's raise to the pending set. -/
  | irqRaiseReceive (l : LaneId) (src : Arrival) (group : Fin 32) (sources : Byte) (raiser : LaneId)
  /-- IRQ_ENTRY (R354): A ready group is snapshotted and its cause record and MSI-X message are issued. -/
  | irqEntry (l : LaneId) (split : Bool)
  /-- IRQ_DELIVER_RECEIVE (R354): An IRQ_DELIVER record updates a lane's mirror of a delivery entry. -/
  | irqDeliverReceive (l : LaneId) (src : Arrival) (group : Fin 32) (snap : Byte) (dseq : Word)
  /-- IRQ_WRITE_RECEIVE (R353): An IRQ_WRITE record applies a lead's bank write in the peer. -/
  | irqWriteReceive (l : LaneId) (src : Arrival) (fast : Bool) (off : Fin 2048) (value : Word)
  /-- IRQ_ACK_WRITE (R357): A write of bit g to ACK ends the delivery in SERVICE of that group. -/
  | irqAckWrite (l : LaneId) (fast : Bool) (value : Word)
  /-- IRQ_MASK_WRITE (R359): A MASK write changes a group's mask, possibly marking a delivery in flight as under mask. -/
  | irqMaskWrite (l : LaneId) (fast : Bool) (k : Fin 8) (value : Word)
  /-- IRQ_CAUSE_WRITE (R363): A CAUSE write sets or clears pending sources. -/
  | irqCauseWrite (l : LaneId) (fast : Bool) (k : Fin 8) (value : Word)
  /-- IRQ_RAISED_CLEAR (R363): Writing 1 to RAISED clears its raise-detection bits. -/
  | irqRaisedClear (l : LaneId) (fast : Bool) (k : Fin 8) (value : Word)
  /-- IRQ_SWSET (R364): Writing 1 to SWSET raises the source as from software. -/
  | irqSwset (l : LaneId) (fast : Bool) (k : Fin 8) (value : Word)
  /-- IRQ_WRITE_REFUSED_CLEAR (R353): Writing 1 to STATUS.WRITE_REFUSED clears it in the lane written. -/
  | irqWriteRefusedClear (l : LaneId) (fast : Bool) (value : Word)
  /-- IRQ_LEADING_END (R354): The leading hold-off of a group elapses and the group becomes IDLE. -/
  | irqLeadingEnd (l : LaneId) (group : Fin 32)
  /-- MSIX_RELEASE (R358): A held MSI-X message is sent once enables and masks allow it. -/
  | msixRelease (l : LaneId) (vec : Fin 64)
  /-- FLT_EVENT_RECEIVE (R375): A peer's FLT_EVENT record is taken into the lane's view of its faults and reactions. -/
  | fltEventReceive (l : LaneId) (src : Arrival) (entry : BitVec 72) (total : Word)
  /-- FLT_SUM_RECEIVE (R379): A peer's FLT_SUM record fills its section of the fault summaries. -/
  | fltSumReceive (l : LaneId) (src : Arrival) (words : List Dword)
  /-- FIRST_READ (R376): A read of FIRST returns the first-error latch, latches FIRST_NS and clears VALID and OVERFLOW. -/
  | firstRead (l : LaneId) (b : Fin 24)
  /-- ALIVE_TOGGLE (R377): Every 5 µs of lane time ALIVE_x toggles while the lane is healthy. -/
  | aliveToggle (l : LaneId)
  /-- ALIVE_READBACK (R377): A readback differing from the driven ALIVE level for 100 ns raises a fatal fault. -/
  | aliveReadback (l : LaneId) (level : Bool)
  /-- FULL_PROOF_COMPLETE (R384): The full proof ends passed or failed, releasing bring-up or readmission, or leaving the lane in reset or DEAD. -/
  | fullProofComplete (l : LaneId) (failStep : Option (Fin 9)) (links : BitVec 4)
  /-- ONLINE_PROOF_START (R389): The next region of a class rotation starts its online proof. -/
  | onlineProofStart (l : LaneId) (cls : Fin 6)
  /-- ONLINE_PROOF_END (R390): A region proof ends and a failure retires, spares or bypasses the region. -/
  | onlineProofEnd (l : LaneId) (cls : Fin 6) (passed : Bool) (coverage : BitVec 10) (duration : BitVec 16)
  /-- PROOF_OVERDUE (R389): A provable region without a passed proof for 1 s sets OVERDUE and is proved next. -/
  | proofOverdue (l : LaneId) (cls : Fin 6) (region : Byte)
  /-- PROOF_XCHG_RECEIVE (R395): A PROOF_XCHG record carries a peer's proof coordination or result. -/
  | proofXchgReceive (l : LaneId) (src : Arrival) (words : List Dword)
  /-- OSC_XCHECK (R393): Every second the crystal rate is compared with the peers' and an outlier raises OSC_XCHECK. -/
  | oscXcheck (l : LaneId) (ppm0 : Int) (ppm1 : Int) (ppmK32 : Int)
  /-- SESSION_TIMEOUT (R412): SESS_TMO without a passing descriptor closes the password session. -/
  | sessionTimeout (l : LaneId)
  /-- SEC_SYNC_RECEIVE (R411): A SEC_SYNC record gives the peers the challenge and session state. -/
  | secSyncReceive (l : LaneId) (src : Arrival) (words : List Dword)
  /-- LOCKOUT_END (R413): The back-off time after wrong password attempts elapses and attempts are examined again. -/
  | lockoutEnd (l : LaneId)
  /-- SRAM_SCRUB (R421): The scrubber reads the next SRAM word and corrects or reports its error. -/
  | sramScrub (l : LaneId) (bank : Fin 9) (cycle : ScrubCycle)
  /-- NVM_PAGE_READ (R423): An NVM page read delivers data and schedules refresh or retirement by its corrected bits. -/
  | nvmPageRead (l : LaneId) (block : Byte) (corrected : Nat) (ok : Bool)
  /-- NVM_REFRESH (R423): The refresh activity reads every in-service NVM page within its period. -/
  | nvmRefresh (l : LaneId)
  /-- NVM_WEAR (R424): At each wear period a levelling decision may move static data into a worn free block. -/
  | nvmWear (l : LaneId)
  /-- BACKGROUND_LAG (R25): At a quarter period an activity with less than 20 % of its work done raises BACKGROUND_LAG. -/
  | backgroundLag (l : LaneId) (a : Fin 8)
  /-- BACKGROUND_STARVED (R25): A period ending before its work is complete raises BACKGROUND_STARVED. -/
  | backgroundStarved (l : LaneId) (a : Fin 8)
  /-- TELEMETRY_SAMPLE (R426): Every 1 ms each driven channel adds to its torque, speed and temperature histograms. -/
  | telemetrySample (l : LaneId) (logic : Int) (gd0 : Int) (gd1 : Int) (vin : Nat) (vgd : Nat) (vio : Nat)
  /-- TELEMETRY_SAVE (R427): Telemetry counts are saved to NVM every 600 s and at HOLD or NAP entry. -/
  | telemetrySave (l : LaneId)
  /-- TELEMETRY_BATCH (R429): At each telemetry period members send histograms and the lead writes the galley batch. -/
  | telemetryBatch (l : LaneId)
  /-- POWER_ON (R437): VIN_x rising through 8.5 V starts the cold bring-up. -/
  | powerOn (l : LaneId)
  /-- POWER_OFF (R441): VIN_x below 7.0 V puts the lane OFF. -/
  | powerOff (l : LaneId)
  /-- VIN_UV (R432): VIN below 8.0 V for 10 µs is a lane fatal fault. -/
  | vinUv (l : LaneId)
  /-- VIO_UV (R432): VIO below 2.9 V for 10 µs is a lane fatal fault. -/
  | vioUv (l : LaneId)
  /-- REG_FAULT (R432): A regulator outside its window is a lane fatal fault. -/
  | regFault (l : LaneId) (reg : Byte)
  /-- BROWNOUT (R433): REG_LP overload or undervoltage resets the whole lane for 1 ms and restarts it cold. -/
  | brownout (l : LaneId)
  /-- PIN_RESET (R437): RESET_N_x low for at least 1 µs resets the whole lane. -/
  | pinReset (l : LaneId)
  /-- SUP_WDOG (R437): The supervisor watchdog not serviced for 100 ms resets the supervisor core only. -/
  | supWdog (l : LaneId)
  /-- TEMP_WARN (R432): A die temperature above PWR.TEMP.WARN raises TEMP_WARN. -/
  | tempWarn (l : LaneId)
  /-- TEMP_TRIP (R432): A die temperature above 155 °C is a lane fatal fault. -/
  | tempTrip (l : LaneId)
  /-- XTAL_FAIL (R436): A crystal that stops or departs by more than 2 % is a lane fatal fault. -/
  | xtalFail (l : LaneId)
  /-- PLL_UNLOCK (R436): A PLL losing lock is a lane fatal fault. -/
  | pllUnlock (l : LaneId) (island : Fin 8)
  /-- HOLD_ENTRY (R442): The park condition held for HOLD_DLY puts every member in HOLD at a boundary. -/
  | holdEntry (l : LaneId)
  /-- SLEEP_REQUEST (R443): SLEEP_N_x low for 10 ms, or TC10 sleep with the host link down, makes a sleep request. -/
  | sleepRequest (l : LaneId) (pin : Bool)
  /-- PWR_SYNC_RECEIVE (R443): A PWR_SYNC record reports a member ready for NAP. -/
  | pwrSyncReceive (l : LaneId) (src : Arrival) (ready : Bool)
  /-- NAP_ENTRY_COMPLETE (R444): The NAP entry sequence finishes and only REG_LP stays on. -/
  | napEntryComplete (l : LaneId)
  /-- WAKE_SOURCE (R445): An enabled wake source in NAP starts the wake and signals the peers. -/
  | wakeSource (l : LaneId) (src : Fin 9)
  /-- PEER_WAKE (R445): A peer's wake signal on the coupler wakes the lane. -/
  | peerWake (l : LaneId) (peer : LaneId)
  /-- WAKE_COMPLETE (R446): The wake sequence finishes, pads are released and the lane enters RUN and FORMING. -/
  | wakeComplete (l : LaneId) (ok : Bool)
  /-- HOST_BUFFER_READ (R83): The DMA read of a host buffer named by CONFIG_STAGE, FW_STAGE or FLEET_KEY completes, its CRC is checked and the descriptor's effect or TIMEOUT HOST_DMA follows. -/
  | hostBufferRead (l : LaneId) (read : Transfer)
  /-- FW_VERIFY_COMPLETE (R402): Verification of a staged firmware image with LAST ends, marking the slot TRIAL and completing OK, or EMPTY with FW_INVALID. -/
  | fwVerifyComplete (l : LaneId)
  /-- HOLD_TO_RUN (R442): A lane leaving HOLD reaches RUN up to 200 µs after an enabling descriptor, and the channel start-up then begins. -/
  | holdToRun (l : LaneId)
  /-- SLEEP_REQUEST_WITHDRAWN (R443): SLEEP_N_x returning high, or a port leaving TC10 sleep, withdraws the sleep request and clears SLEEP_REQ. -/
  | sleepRequestWithdrawn (l : LaneId) (pin : Bool)
  /-- BUS_OFF_RECOVERY (R315): A CAN controller completes its standard bus-off recovery, leaves BUS_OFF and may become speaker again at the next boundary. -/
  | busOffRecovery (l : LaneId) (can : Fin 2)
  /-- ANNOUNCE_RECEIVE (R282): A PTP Announce message is taken into the best master clock algorithm of its network, deciding the grandmaster heard and the election of R285. -/
  | announceReceive (l : LaneId) (blue : Bool) (rank : Nat) (gmId : Dword)
  /-- GRANDMASTER_SYNC (R285): At each sync interval a lane elected grandmaster sends Sync and Announce on both networks. -/
  | grandmasterSync (l : LaneId)
  /-- STEP_PULSE_EMIT (R139): A generator's step output emits its next owed step pulse with HIGH and LOW times and the direction set-up. -/
  | stepPulseEmit (l : LaneId) (g : Fin 16)
  deriving DecidableEq, Repr

end Sys2Proof
end

