-- ==== Sys2Proof/Decode.lean ====
section
/-!
DEFINITION. The command a word of the opcode table spells. The table gives no row any bits (the block takes commands
and register accesses, not instruction words), so no word spells one. Log entry 8.
-/

namespace Sys2Proof

/-- No row of the table gives bits: no word spells a command. Log entry 8. -/
def decodeTableWord (_nbits _w : Nat) : Option Instr := none

end Sys2Proof
end

