-- ==== Sys2Proof/Config.lean ====
section
/-!
DEFINITION. What the spec leaves to the device or names by reference: constants with no body, so that no proof can see
their values. A statement that holds of this model holds whatever they are.
-/

namespace Sys2Proof

/-- The secret of each lane's identity key, 32 bytes (R397): generated in the lane at manufacture, never read. Log
entry 4. -/
opaque Config.identitySecret : LaneId → BitVec 256

/-- The Irusk firmware public key of the key store, 32 bytes (R397): known only to the device. Log entry 4. -/
opaque Config.firmwareKey : List Byte

/-- The ephemeral secrets of the key agreements (R307), 32 bytes, by a drawn index. Log entry 4. -/
opaque Config.ephemeralSecret : Nat → BitVec 256

/-- The colophon of each lane, byte by byte (R398): written at manufacture, known only to the device. Log entry 5. -/
opaque Config.colophon : LaneId → Nat → Byte

/-- The free values of the model: a fresh value for each number of the lane's counter `free`. Nothing constrains
them. Log entry 7. -/
opaque Config.freeValue : LaneId → Nat → Dword

/-- Whether the NET clock of a lane has an edge in an idle step of the model, by the number of the step: the lanes' clocks
are not locked to each other (R15). Log entry 9. -/
opaque Config.netEdge : LaneId → Nat → Bool

/-- The check bits of an interconnect word (R16): no rule gives the code. Log entry 48. -/
opaque Config.checkBits : Dword → Byte

/-- Whether the angle of a vector (quadrature, in-phase) that lies between two angle words is rounded up: no rule gives its
rounding; and the angle of the zero vector, which has none (R175, R185). Log entry 7. -/
opaque Config.atan2 : Int → Int → Word

/-- The observer's phase-locked loop: from its bandwidth in Hz, the time since its last step in ns, its angle word, its
speed and the angle of the estimated back-EMF, the new angle and speed. The rule gives its bandwidth and no arithmetic
(R185). Log entry 7. -/
opaque Config.pll : Nat → Nat → Nat → Int → Nat → Word × Word

/-- Whether a square root that is no integer is rounded up: no rule gives its rounding. Log entry 7. -/
opaque Config.sqrtUp : Nat → Bool

/-- Whether a quotient that is no integer is rounded up, where a formula of the spec divides and no rule gives the
rounding: dividend and divisor. Log entry 7. -/
opaque Config.roundUp : Int → Nat → Bool

/-- A quotient that no rule states: its divisor is 0, or it lies outside the field that shows it. Log entry 7. -/
opaque Config.openQuotient : Int → Nat → Word

end Sys2Proof
end

