-- ==== Sys2Proof/Machine/Crypto.lean ====
section
/-!
DEFINITION. The published algorithms the spec names (R5): SHA-512 (FIPS 180-4), AES-128 (FIPS 197) with CMAC (NIST SP
800-38B), X25519 (RFC 7748) and Ed25519 (RFC 8032). A string of bytes given as a bit vector has its first byte most
significant.
-/

namespace Sys2Proof.Machine

open Sys2Proof

/-! ## SHA-512 -/

/-- Round constants 0 to 15. -/
def shaK0 : List Nat :=
  [
   0x428A2F98D728AE22, 0x7137449123EF65CD, 0xB5C0FBCFEC4D3B2F, 0xE9B5DBA58189DBBC,
   0x3956C25BF348B538, 0x59F111F1B605D019, 0x923F82A4AF194F9B, 0xAB1C5ED5DA6D8118,
   0xD807AA98A3030242, 0x12835B0145706FBE, 0x243185BE4EE4B28C, 0x550C7DC3D5FFB4E2,
   0x72BE5D74F27B896F, 0x80DEB1FE3B1696B1, 0x9BDC06A725C71235, 0xC19BF174CF692694]

/-- Round constants 16 to 31. -/
def shaK1 : List Nat :=
  [
   0xE49B69C19EF14AD2, 0xEFBE4786384F25E3, 0x0FC19DC68B8CD5B5, 0x240CA1CC77AC9C65,
   0x2DE92C6F592B0275, 0x4A7484AA6EA6E483, 0x5CB0A9DCBD41FBD4, 0x76F988DA831153B5,
   0x983E5152EE66DFAB, 0xA831C66D2DB43210, 0xB00327C898FB213F, 0xBF597FC7BEEF0EE4,
   0xC6E00BF33DA88FC2, 0xD5A79147930AA725, 0x06CA6351E003826F, 0x142929670A0E6E70]

/-- Round constants 32 to 47. -/
def shaK2 : List Nat :=
  [
   0x27B70A8546D22FFC, 0x2E1B21385C26C926, 0x4D2C6DFC5AC42AED, 0x53380D139D95B3DF,
   0x650A73548BAF63DE, 0x766A0ABB3C77B2A8, 0x81C2C92E47EDAEE6, 0x92722C851482353B,
   0xA2BFE8A14CF10364, 0xA81A664BBC423001, 0xC24B8B70D0F89791, 0xC76C51A30654BE30,
   0xD192E819D6EF5218, 0xD69906245565A910, 0xF40E35855771202A, 0x106AA07032BBD1B8]

/-- Round constants 48 to 63. -/
def shaK3 : List Nat :=
  [
   0x19A4C116B8D2D0C8, 0x1E376C085141AB53, 0x2748774CDF8EEB99, 0x34B0BCB5E19B48A8,
   0x391C0CB3C5C95A63, 0x4ED8AA4AE3418ACB, 0x5B9CCA4F7763E373, 0x682E6FF3D6B2B8A3,
   0x748F82EE5DEFB2FC, 0x78A5636F43172F60, 0x84C87814A1F0AB72, 0x8CC702081A6439EC,
   0x90BEFFFA23631E28, 0xA4506CEBDE82BDE9, 0xBEF9A3F7B2C67915, 0xC67178F2E372532B]

/-- Round constants 64 to 79. -/
def shaK4 : List Nat :=
  [
   0xCA273ECEEA26619C, 0xD186B8C721C0C207, 0xEADA7DD6CDE0EB1E, 0xF57D4F7FEE6ED178,
   0x06F067AA72176FBA, 0x0A637DC5A2C898A6, 0x113F9804BEF90DAE, 0x1B710B35131C471B,
   0x28DB77F523047D84, 0x32CAAB7B40C72493, 0x3C9EBE0A15C9BEBC, 0x431D67C49C100D4C,
   0x4CC5D4BECB3E42B6, 0x597F299CFC657E2A, 0x5FCB6FAB3AD6FAEC, 0x6C44198C4A475817]

/-- The round constants of SHA-512. -/
def shaK : List Nat := shaK0 ++ shaK1 ++ shaK2 ++ shaK3 ++ shaK4

/-- The initial hash value of SHA-512. -/
def shaInit : List Nat :=
  [
   0x6A09E667F3BCC908, 0xBB67AE8584CAA73B, 0x3C6EF372FE94F82B, 0xA54FF53A5F1D36F1,
   0x510E527FADE682D1, 0x9B05688C2B3E6C1F, 0x1F83D9ABFB41BD6B, 0x5BE0CD19137E2179]

/-- Rotation of a 64-bit word to the right. -/
def rotr64 (n x : Nat) : Nat := x / 2 ^ n + x % 2 ^ n * 2 ^ (64 - n)

/-- One round: the working variables a to h, and the next sixteen words of the message schedule. -/
def shaRound (s : List Nat × List Nat) (k : Nat) : List Nat × List Nat :=
  match s.1 with
  | [a, b, c, d, e, f, g, h] =>
    let w := s.2.getD 0 0
    let w1 := s.2.getD 1 0
    let w14 := s.2.getD 14 0
    let s0 := rotr64 1 w1 ^^^ rotr64 8 w1 ^^^ (w1 / 2 ^ 7)
    let s1 := rotr64 19 w14 ^^^ rotr64 61 w14 ^^^ (w14 / 2 ^ 6)
    let next := (s1 + s.2.getD 9 0 + s0 + w) % 2 ^ 64
    let e1 := rotr64 14 e ^^^ rotr64 18 e ^^^ rotr64 41 e
    let ch := (e &&& f) ^^^ ((2 ^ 64 - 1 - e) &&& g)
    let t1 := h + e1 + ch + k + w
    let e0 := rotr64 28 a ^^^ rotr64 34 a ^^^ rotr64 39 a
    let maj := (a &&& b) ^^^ (a &&& c) ^^^ (b &&& c)
    ([(t1 + e0 + maj) % 2 ^ 64, a, b, c, (d + t1) % 2 ^ 64, e, f, g], s.2.drop 1 ++ [next])
  | _ => s

/-- The hash value after one block of 128 bytes. -/
def shaBlock (h : List Nat) (block : List Byte) : List Nat :=
  let w := (List.range 16).map (fun i => beAt block (8 * i) 8)
  List.zipWith (fun x y => (x + y) % 2 ^ 64) h (shaK.foldl shaRound (h, w)).1

/-- The message with its padding. -/
def shaPad (m : List Byte) : List Byte :=
  m ++ BitVec.ofNat 8 0x80 :: (List.replicate ((239 - m.length % 128) % 128) 0 ++ toBe 16 (8 * m.length))

/-- SHA-512 of FIPS 180-4. -/
def sha512 (m : List Byte) : BitVec 512 :=
  let p := shaPad m
  let h := (List.range (p.length / 128)).foldl (fun h i => shaBlock h (sliceBytes p (128 * i) 128)) shaInit
  BitVec.ofNat 512 (h.foldl (fun x y => x * 2 ^ 64 + y) 0)

/-! ## AES-128 and CMAC -/

/-- The S-box as one number, entry 0 in its lowest byte. -/
def aesBox : Nat :=
  0x16BB54B00F2D99416842E6BF0D89A18CDF2855CEE9871E9B948ED9691198F8E19E1DC186B95735610EF6034866B53E708A8BBD4B1F74DDE8C6B4A61C2E2578BA08AE7A65EAF4566CA94ED58D6D37C8E779E4959162ACD3C25C2406490A3A32E0DB0B5EDE14B8EE4688902A22DC4F816073195D643D7EA7C41744975FEC130CCDD2F3FF1021DAB6BCF5389D928F40A351A89F3C507F02F94585334D43FBAAEFD0CF584C4A39BECB6A5BB1FC20ED00D153842FE329B3D63B52A05A6E1B1A2C830975B227EBE28012079A059618C323C7041531D871F1E5A534CCF73F362693FDB7C072A49CAFA2D4ADF04759FA7DC982CA76ABD7FE2B670130C56F6BF27B777C63

/-- SubBytes of one byte. -/
def aesSub (x : Nat) : Nat := aesBox / 256 ^ x % 256

/-- Doubling in the field of 256 elements. -/
def aesDouble (x : Nat) : Nat := if x < 128 then 2 * x else (2 * x - 256) ^^^ 0x1B

/-- The next round key of four words of four bytes. -/
def aesNextKey (k : List Nat) (rcon : Nat) : List Nat :=
  let g (i : Nat) : Nat := k.getD i 0
  let t := [aesSub (g 13) ^^^ rcon, aesSub (g 14), aesSub (g 15), aesSub (g 12)]
  let w0 := List.zipWith (· ^^^ ·) (k.take 4) t
  let w1 := List.zipWith (· ^^^ ·) ((k.drop 4).take 4) w0
  let w2 := List.zipWith (· ^^^ ·) ((k.drop 8).take 4) w1
  w0 ++ w1 ++ w2 ++ List.zipWith (· ^^^ ·) (k.drop 12) w2

/-- ShiftRows on a state in column order. -/
def aesShift (s : List Nat) : List Nat := (List.range 16).map (fun i => s.getD ((i + 4 * (i % 4)) % 16) 0)

/-- MixColumns of one column. -/
def aesColumn (s : List Nat) (c : Nat) : List Nat :=
  let g (i : Nat) : Nat := s.getD (4 * c + i % 4) 0
  (List.range 4).map (fun i => aesDouble (g i) ^^^ (aesDouble (g (i + 1)) ^^^ g (i + 1)) ^^^ g (i + 2) ^^^ g (i + 3))

/-- One round but the last: state and round key. -/
def aesRound (s : List Nat × List Nat) (rcon : Nat) : List Nat × List Nat :=
  let k := aesNextKey s.2 rcon
  let x := aesShift (s.1.map aesSub)
  (List.zipWith (· ^^^ ·) ((List.range 4).flatMap (aesColumn x)) k, k)

/-- AES-128 of FIPS 197: key and block of 16 bytes each. -/
def aes128 (key block : List Nat) : List Nat :=
  let s := [1, 2, 4, 8, 16, 32, 64, 128, 0x1B].foldl aesRound (List.zipWith (· ^^^ ·) block key, key)
  List.zipWith (· ^^^ ·) (aesShift (s.1.map aesSub)) (aesNextKey s.2 0x36)

/-- Doubling of a block, for the subkeys of CMAC. -/
def cmacDouble (b : List Nat) : List Nat :=
  let n := b.foldl (fun x y => 256 * x + y) 0
  let d := if n < 2 ^ 127 then 2 * n else (2 * n - 2 ^ 128) ^^^ 0x87
  (toBe 16 d).map (·.toNat)

/-- AES-128-CMAC of NIST SP 800-38B, its first 8 bytes (R300): key and message. -/
def cmac (key m : List Byte) : Dword :=
  let k := (key.map (·.toNat)).take 16
  let l := aes128 k (List.replicate 16 0)
  let n := (m.length + 15) / 16
  let last := if n = 0 then 0 else n - 1
  let tail := (m.drop (16 * last)).map (·.toNat)
  let final :=
    if tail.length = 16 then List.zipWith (· ^^^ ·) tail (cmacDouble l)
    else List.zipWith (· ^^^ ·) (tail ++ 0x80 :: List.replicate (15 - tail.length) 0) (cmacDouble (cmacDouble l))
  let x := (List.range last).foldl
    (fun x i => aes128 k (List.zipWith (· ^^^ ·) x ((sliceBytes m (16 * i) 16).map (·.toNat)))) (List.replicate 16 0)
  BitVec.ofNat 64 (((aes128 k (List.zipWith (· ^^^ ·) x final)).take 8).foldl (fun x y => 256 * x + y) 0)

/-! ## The field of X25519 and Ed25519 -/

/-- The prime 2^255 - 19. -/
def edP : Nat := 2 ^ 255 - 19

/-- A power in the field, by the bits of its exponent. -/
def edPow (x e : Nat) : Nat :=
  (List.range 255).foldr (fun i r => r * r % edP * (if e.testBit i then x else 1) % edP) 1

/-- The inverse of a field element. -/
def edInv (x : Nat) : Nat := edPow x (edP - 2)

/-- A difference in the field. -/
def edSub (x y : Nat) : Nat := (x + edP - y % edP) % edP

/-! ## X25519 (RFC 7748) -/

/-- One step of the ladder on (x2, z2, x3, z3). -/
def xLadder (u : Nat) (s : Nat × Nat × Nat × Nat) (b : Bool) : Nat × Nat × Nat × Nat :=
  let q := if b then (s.2.2.1, s.2.2.2, s.1, s.2.1) else s
  let a := (q.1 + q.2.1) % edP
  let aa := a * a % edP
  let c := edSub q.1 q.2.1
  let bb := c * c % edP
  let e := edSub aa bb
  let da := edSub q.2.2.1 q.2.2.2 * a % edP
  let cb := (q.2.2.1 + q.2.2.2) * c % edP
  let x3 := (da + cb) * (da + cb) % edP
  let df := edSub da cb
  let z3 := u * (df * df % edP) % edP
  let x2 := aa * bb % edP
  let z2 := e * (aa + 121665 * e) % edP
  if b then (x3, z3, x2, z2) else (x2, z2, x3, z3)

/-- The function X25519 of a scalar and a u-coordinate of 32 bytes each. -/
def x25519 (scalar point : List Byte) : BitVec 256 :=
  let k := leBytes scalar % 2 ^ 254 / 8 * 8 + 2 ^ 254
  let u := leBytes point % 2 ^ 255 % edP
  let r := (List.range 255).foldr (fun i s => xLadder u s (k.testBit i)) (1, 0, u, 1)
  BitVec.ofNat 256 (beBytes (toLe 32 (r.1 * edInv r.2.1 % edP)))

/-! ## Ed25519 (RFC 8032) -/

/-- A point in extended coordinates. -/
structure EdPoint where
  x : Nat
  y : Nat
  z : Nat
  t : Nat
  deriving DecidableEq, Repr

/-- The order of the base point. -/
def edL : Nat := 2 ^ 252 + 27742317777372353535851937790883648493

/-- The constant d of the curve. -/
def edD : Nat := edSub 0 (121665 * edInv 121666 % edP)

/-- The neutral point. -/
def EdPoint.zero : EdPoint := ⟨0, 1, 1, 0⟩

/-- Addition of points. -/
def EdPoint.add (p q : EdPoint) : EdPoint :=
  let a := edSub p.y p.x * edSub q.y q.x % edP
  let b := (p.y + p.x) * (q.y + q.x) % edP
  let c := 2 * p.t * q.t % edP * edD % edP
  let d := 2 * p.z * q.z % edP
  let e := edSub b a
  let f := edSub d c
  let g := (d + c) % edP
  let h := (b + a) % edP
  ⟨e * f % edP, g * h % edP, f * g % edP, e * h % edP⟩

/-- A multiple of a point. -/
def EdPoint.mul (p : EdPoint) (n : Nat) : EdPoint :=
  (List.range 256).foldr (fun i r => let d := r.add r; if n.testBit i then d.add p else d) EdPoint.zero

/-- Eight times a point. -/
def EdPoint.eight (p : EdPoint) : EdPoint :=
  let q := p.add p
  let r := q.add q
  r.add r

/-- Two points are the same. -/
def EdPoint.same (p q : EdPoint) : Bool := p.x * q.z % edP = q.x * p.z % edP && p.y * q.z % edP = q.y * p.z % edP

/-- The point that 32 bytes encode; none where they encode no point. -/
def edDecode (bs : List Byte) : Option EdPoint :=
  let n := leBytes bs
  let y := n % 2 ^ 255
  let sign := n / 2 ^ 255 % 2
  if bs.length ≠ 32 ∨ edP ≤ y then none
  else
    let u := edSub (y * y % edP) 1
    let v := (edD * (y * y % edP) + 1) % edP
    let v3 := v * v % edP * v % edP
    let x := u * v3 % edP * edPow (u * (v3 * v3 % edP * v % edP) % edP) ((edP - 5) / 8) % edP
    let w := v * (x * x % edP) % edP
    let root : Option Nat :=
      if w = u then some x
      else if w = edSub 0 u then some (x * edPow 2 ((edP - 1) / 4) % edP) else none
    match root with
    | none => none
    | some x =>
      if x = 0 ∧ sign = 1 then none
      else
        let x := if x % 2 = sign then x else edSub 0 x
        some ⟨x, y, 1, x * y % edP⟩

/-- The 32 bytes of a point. -/
def edEncode (p : EdPoint) : List Byte :=
  let i := edInv p.z
  toLe 32 (p.y * i % edP + 2 ^ 255 * (p.x * i % edP % 2))

/-- The base point, with y = 4/5 and even x. -/
def edBase : EdPoint := (edDecode (toLe 32 (4 * edInv 5 % edP))).getD EdPoint.zero

/-- A SHA-512 digest as the little-endian number of RFC 8032. -/
def edHash (bs : List Byte) : Nat := leBytes (toBe 64 (sha512 bs).toNat)

/-- The check of an Ed25519 signature: public key, message, signature. -/
def ed25519Verify (key m sig : List Byte) : Bool :=
  match edDecode key, edDecode (sig.take 32) with
  | some a, some r =>
    let s := leBytes (sig.drop 32)
    let k := edHash (sig.take 32 ++ key ++ m) % edL
    decide (sig.length = 64) && decide (s < edL) && ((edBase.mul s).eight.same (r.eight.add (a.mul k).eight))
  | _, _ => false

/-- The Ed25519 signature of a message by the key pair of a 32-byte secret, 64 bytes. -/
def ed25519Sign (secret m : List Byte) : BitVec 512 :=
  let h := toBe 64 (sha512 secret).toNat
  let s := leBytes (h.take 32) % 2 ^ 254 / 8 * 8 + 2 ^ 254
  let key := edEncode (edBase.mul s)
  let r := edHash (h.drop 32 ++ m) % edL
  let rb := edEncode (edBase.mul r)
  let k := edHash (rb ++ key ++ m) % edL
  BitVec.ofNat 512 (beBytes (rb ++ toLe 32 ((r + k * s) % edL)))

/-! ## With the secrets of a lane -/

/-- The signature of a lane's identity key over a message (R397). -/
def identitySign (k : LaneId) (m : List Byte) : BitVec 512 := ed25519Sign (toBe 32 (Config.identitySecret k).toNat) m

/-- The ephemeral public key of a key agreement (R307), by the index of its secret. -/
def ephemeral (i : Nat) : BitVec 256 := x25519 (toBe 32 (Config.ephemeralSecret i).toNat) (toLe 32 9)

/-- The shared secret of a key agreement (R307): the index of the lane's ephemeral secret, the peer's public key. -/
def sharedSecret (i : Nat) (key : List Byte) : BitVec 256 := x25519 (toBe 32 (Config.ephemeralSecret i).toNat) key

end Sys2Proof.Machine
end

