-- ==== Sys2Proof/Machine/RegFile.lean ====
section
/-!
DEFINITION. Sparse stores in one canonical form, and the shape of register fields and register rows.

A store is a list of key and value pairs with strictly rising keys and no entry equal to the default of its key, so
equal stores are equal lists. The register file of a lane and the staging area are both such stores.
-/

namespace Sys2Proof.Machine

/-- What a store holds at a key: the listed value, or the key's default. -/
def Sparse.get {α : Type} (d : Nat → α) : List (Nat × α) → Nat → α
  | [], k => d k
  | (k', v) :: m, k => if k = k' then v else Sparse.get d m k

/-- Put a value at a key, keeping the keys rising; the default removes the entry. -/
def Sparse.set {α : Type} [DecidableEq α] (d : Nat → α) : List (Nat × α) → Nat → α → List (Nat × α)
  | [], k, v => if v = d k then [] else [(k, v)]
  | (k', v') :: m, k, v =>
    if k < k' then (if v = d k then (k', v') :: m else (k, v) :: (k', v') :: m)
    else if k = k' then (if v = d k then m else (k, v) :: m)
    else (k', v') :: Sparse.set d m k v

/-- Every key is above `lo`, keys rise strictly and no entry holds its default. -/
def Sparse.wfFrom {α : Type} [DecidableEq α] (d : Nat → α) : Nat → List (Nat × α) → Bool
  | _, [] => true
  | lo, (k, v) :: m => decide (lo ≤ k) && decide (v ≠ d k) && Sparse.wfFrom d (k + 1) m

/-- The canonical form of a store. -/
def Sparse.wf {α : Type} [DecidableEq α] (d : Nat → α) (m : List (Nat × α)) : Bool := Sparse.wfFrom d 0 m

/-- A register field: the BAR0 offset of its word, its lowest bit there and its width. A field of width 64 is a
64-bit register, its low word at `off` and its high word at `off + 4` (R7). -/
structure Field where
  off : Nat
  lo : Nat
  width : Nat
  deriving DecidableEq, Repr

/-- One row of a register map: words at `base + s1·i + s2·j` for `i < n1`, `j < n2`, with the masks of the bits of
each access code that the host can write, and the reset word. -/
structure RegRow where
  base : Nat
  s1 : Nat
  n1 : Nat
  s2 : Nat
  n2 : Nat
  rws : Nat
  rw : Nat
  w1c : Nat
  wo : Nat
  reset : Nat
  deriving DecidableEq, Repr

/-- Whether a row holds the word at a BAR0 offset. -/
def RegRow.covers (r : RegRow) (off : Nat) : Bool :=
  let d := off - r.base
  let i := if (d / r.s1) < r.n1 then d / r.s1 else r.n1 - 1
  let e := d - r.s1 * i
  decide (r.base ≤ off) && decide (e / r.s2 < r.n2) && decide (e % r.s2 = 0)

end Sys2Proof.Machine
end

