-- ==== Sys2Proof/Machine/RegMap.lean ====
section
/-!
DEFINITION. The register fields of one lane's BAR0, by the names of the spec's register tables (R29 and the
register tables of the chapters; one definition per field, `BLOCK.REGISTER.FIELD`, with the indices of the map's
strides as arguments). `BLOCK.REGISTER.off` is the BAR0 offset of the register's (first) word.
-/

namespace Sys2Proof.Machine

/-- HIF.CTRL (02, R62). -/
def HIF.CTRL.off : Nat := 0x3000
def HIF.CTRL.EN : Field := ⟨0x3000, 0, 1⟩
def HIF.CTRL.POLL : Field := ⟨0x3000, 1, 7⟩
/-- HIF.STATUS (02, R62). -/
def HIF.STATUS.off : Nat := 0x3004
def HIF.STATUS.SEALED : Field := ⟨0x3004, 0, 1⟩
def HIF.STATUS.LINK_UP : Field := ⟨0x3004, 1, 1⟩
def HIF.STATUS.POLL_CLAMPED : Field := ⟨0x3004, 2, 1⟩
def HIF.STATUS.HOST_SILENT : Field := ⟨0x3004, 3, 1⟩
def HIF.STATUS.SETUP_DIFFERS : Field := ⟨0x3004, 4, 1⟩
def HIF.STATUS.LEAD : Field := ⟨0x3004, 5, 1⟩
def HIF.STATUS.POLL_EFF : Field := ⟨0x3004, 8, 7⟩
/-- HIF.SEAL_ERR (02, R62). -/
def HIF.SEAL_ERR.off : Nat := 0x3008
def HIF.SEAL_ERR.CODE : Field := ⟨0x3008, 0, 8⟩
def HIF.SEAL_ERR.INDEX : Field := ⟨0x3008, 8, 4⟩
/-- HIF.QUOIN (02, R62). -/
def HIF.QUOIN.off : Nat := 0x300C
def HIF.QUOIN.KEY : Field := ⟨0x300C, 0, 32⟩
/-- HIF.DB_BASE (02, R62). -/
def HIF.DB_BASE.off : Nat := 0x3010
def HIF.DB_BASE.ADDR : Field := ⟨0x3010, 8, 24⟩
/-- HIF.DB_BASE_HI (02, R62). -/
def HIF.DB_BASE_HI.off : Nat := 0x3014
def HIF.DB_BASE_HI.ADDR_HI : Field := ⟨0x3014, 0, 32⟩
/-- HIF.FOLIO_BASE (02, R62). -/
def HIF.FOLIO_BASE.off : Nat := 0x3018
def HIF.FOLIO_BASE.ADDR : Field := ⟨0x3018, 12, 20⟩
/-- HIF.FOLIO_BASE_HI (02, R62). -/
def HIF.FOLIO_BASE_HI.off : Nat := 0x301C
def HIF.FOLIO_BASE_HI.ADDR_HI : Field := ⟨0x301C, 0, 32⟩
/-- HIF.FOLIO_CTRL (02, R62). -/
def HIF.FOLIO_CTRL.off : Nat := 0x3020
def HIF.FOLIO_CTRL.PERIOD : Field := ⟨0x3020, 0, 10⟩
/-- HIF.HOST_TIMEOUT (02, R62). -/
def HIF.HOST_TIMEOUT.off : Nat := 0x3024
def HIF.HOST_TIMEOUT.TIMEOUT : Field := ⟨0x3024, 0, 10⟩
/-- HIF.AGREE_CTRL (02, R62). -/
def HIF.AGREE_CTRL.off : Nat := 0x3028
def HIF.AGREE_CTRL.SINGLE_WAIT : Field := ⟨0x3028, 0, 10⟩
def HIF.AGREE_CTRL.SINGLE_EN : Field := ⟨0x3028, 10, 1⟩
/-- HIF.DB_ERRORS (02, R62). -/
def HIF.DB_ERRORS.off : Nat := 0x302C
def HIF.DB_ERRORS.TAIL_INVALID : Field := ⟨0x302C, 0, 16⟩
def HIF.DB_ERRORS.HEAD_INVALID : Field := ⟨0x302C, 16, 16⟩
/-- HIF.SG_BASE (02, R62). -/
def HIF.SG_BASE.off (i : Nat) : Nat := 0x3100 + 16 * i
def HIF.SG_BASE.ADDR (i : Nat) : Field := ⟨0x3100 + 16 * i, 12, 20⟩
/-- HIF.SG_BASE_HI (02, R62). -/
def HIF.SG_BASE_HI.off (i : Nat) : Nat := 0x3104 + 16 * i
def HIF.SG_BASE_HI.ADDR_HI (i : Nat) : Field := ⟨0x3104 + 16 * i, 0, 32⟩
/-- HIF.SG_CTRL (02, R62). -/
def HIF.SG_CTRL.off (i : Nat) : Nat := 0x3108 + 16 * i
def HIF.SG_CTRL.EN (i : Nat) : Field := ⟨0x3108 + 16 * i, 0, 1⟩
def HIF.SG_CTRL.SIZE (i : Nat) : Field := ⟨0x3108 + 16 * i, 1, 4⟩
def HIF.SG_CTRL.WEIGHT (i : Nat) : Field := ⟨0x3108 + 16 * i, 8, 4⟩
def HIF.SG_CTRL.CG (i : Nat) : Field := ⟨0x3108 + 16 * i, 12, 4⟩
/-- HIF.CG_BASE (02, R62). -/
def HIF.CG_BASE.off (i : Nat) : Nat := 0x3200 + 16 * i
def HIF.CG_BASE.ADDR (i : Nat) : Field := ⟨0x3200 + 16 * i, 12, 20⟩
/-- HIF.CG_BASE_HI (02, R62). -/
def HIF.CG_BASE_HI.off (i : Nat) : Nat := 0x3204 + 16 * i
def HIF.CG_BASE_HI.ADDR_HI (i : Nat) : Field := ⟨0x3204 + 16 * i, 0, 32⟩
/-- HIF.CG_CTRL (02, R62). -/
def HIF.CG_CTRL.off (i : Nat) : Nat := 0x3208 + 16 * i
def HIF.CG_CTRL.EN (i : Nat) : Field := ⟨0x3208 + 16 * i, 0, 1⟩
def HIF.CG_CTRL.SIZE (i : Nat) : Field := ⟨0x3208 + 16 * i, 1, 4⟩
/-- HIF.SG_CONSUMED (02, R62). -/
def HIF.SG_CONSUMED.off (i : Nat) : Nat := 0x3300 + 4 * i
def HIF.SG_CONSUMED.COUNT (i : Nat) : Field := ⟨0x3300 + 4 * i, 0, 32⟩
/-- HIF.CG_WRITTEN (02, R62). -/
def HIF.CG_WRITTEN.off (i : Nat) : Nat := 0x3340 + 4 * i
def HIF.CG_WRITTEN.COUNT (i : Nat) : Field := ⟨0x3340 + 4 * i, 0, 32⟩
/-- VOTE.CTRL (04, R119). -/
def VOTE.CTRL.off : Nat := 0xC000
def VOTE.CTRL.PERIOD : Field := ⟨0xC000, 0, 7⟩
def VOTE.CTRL.WINDOW : Field := ⟨0xC000, 8, 3⟩
def VOTE.CTRL.DIS_LIMIT : Field := ⟨0xC000, 12, 4⟩
def VOTE.CTRL.PROOF_EN : Field := ⟨0xC000, 16, 1⟩
/-- VOTE.READMIT (04, R119). -/
def VOTE.READMIT.off : Nat := 0xC004
def VOTE.READMIT.MAX : Field := ⟨0xC004, 0, 3⟩
def VOTE.READMIT.AUTO : Field := ⟨0xC004, 3, 1⟩
def VOTE.READMIT.SHADOW_VOTES : Field := ⟨0xC004, 16, 16⟩
/-- VOTE.TIMING (04, R119). -/
def VOTE.TIMING.off : Nat := 0xC008
def VOTE.TIMING.RAMP : Field := ⟨0xC008, 0, 10⟩
def VOTE.TIMING.REJOIN : Field := ⟨0xC008, 16, 10⟩
/-- VOTE.SHADOW_TMO (04, R119). -/
def VOTE.SHADOW_TMO.off : Nat := 0xC00C
def VOTE.SHADOW_TMO.TMO : Field := ⟨0xC00C, 0, 14⟩
def VOTE.SHADOW_TMO.FORM : Field := ⟨0xC00C, 16, 10⟩
/-- VOTE.STOP (04, R119). -/
def VOTE.STOP.off : Nat := 0xC010
def VOTE.STOP.TMAX : Field := ⟨0xC010, 0, 13⟩
def VOTE.STOP.NET_CAT : Field := ⟨0xC010, 13, 1⟩
def VOTE.STOP.HOST_CAT : Field := ⟨0xC010, 14, 1⟩
def VOTE.STOP.DEG_SPEED : Field := ⟨0xC010, 16, 7⟩
/-- VOTE.STATUS (04, R119). -/
def VOTE.STATUS.off : Nat := 0xC020
def VOTE.STATUS.MODE : Field := ⟨0xC020, 0, 2⟩
def VOTE.STATUS.SELF : Field := ⟨0xC020, 4, 3⟩
def VOTE.STATUS.MEMBERS : Field := ⟨0xC020, 8, 3⟩
def VOTE.STATUS.REF_HELD : Field := ⟨0xC020, 11, 1⟩
def VOTE.STATUS.ATTRIBUTING : Field := ⟨0xC020, 12, 1⟩
def VOTE.STATUS.STOPPING : Field := ⟨0xC020, 13, 1⟩
def VOTE.STATUS.LANE : Field := ⟨0xC020, 14, 2⟩
def VOTE.STATUS.READMITS : Field := ⟨0xC020, 16, 3⟩
def VOTE.STATUS.CAUSE : Field := ⟨0xC020, 24, 8⟩
/-- VOTE.LINKS (04, R119). -/
def VOTE.LINKS.off : Nat := 0xC024
def VOTE.LINKS.P0_STATE : Field := ⟨0xC024, 0, 2⟩
def VOTE.LINKS.P1_STATE : Field := ⟨0xC024, 2, 2⟩
def VOTE.LINKS.P0_ALIVE : Field := ⟨0xC024, 4, 1⟩
def VOTE.LINKS.P1_ALIVE : Field := ⟨0xC024, 5, 1⟩
def VOTE.LINKS.FAILOVERS : Field := ⟨0xC024, 8, 8⟩
/-- VOTE.DISAGREE (04, R119). -/
def VOTE.DISAGREE.off : Nat := 0xC028
def VOTE.DISAGREE.P0 : Field := ⟨0xC028, 0, 16⟩
def VOTE.DISAGREE.P1 : Field := ⟨0xC028, 16, 16⟩
/-- VOTE.NOMAJ (04, R119). -/
def VOTE.NOMAJ.off : Nat := 0xC02C
def VOTE.NOMAJ.VOTES : Field := ⟨0xC02C, 0, 16⟩
def VOTE.NOMAJ.ATTRIB : Field := ⟨0xC02C, 16, 16⟩
/-- VOTE.HOLD_MAX (04, R119). -/
def VOTE.HOLD_MAX.off : Nat := 0xC030
def VOTE.HOLD_MAX.NS : Field := ⟨0xC030, 0, 32⟩
/-- VOTE.GAP_MAX (04, R119). -/
def VOTE.GAP_MAX.off : Nat := 0xC034
def VOTE.GAP_MAX.NS : Field := ⟨0xC034, 0, 32⟩
/-- VOTE.TOL (04, R119). -/
def VOTE.TOL.off (i : Nat) : Nat := 0xC040 + 4 * i
def VOTE.TOL.ABS (i : Nat) : Field := ⟨0xC040 + 4 * i, 0, 16⟩
def VOTE.TOL.REL (i : Nat) : Field := ⟨0xC040 + 4 * i, 16, 10⟩
/-- VOTE.SHARE3 (04, R119). -/
def VOTE.SHARE3.off (i : Nat) : Nat := 0xC060 + 8 * i
def VOTE.SHARE3.A (i : Nat) : Field := ⟨0xC060 + 8 * i, 0, 8⟩
def VOTE.SHARE3.B (i : Nat) : Field := ⟨0xC060 + 8 * i, 8, 8⟩
def VOTE.SHARE3.C (i : Nat) : Field := ⟨0xC060 + 8 * i, 16, 8⟩
/-- VOTE.SHARE2 (04, R119). -/
def VOTE.SHARE2.off (i : Nat) : Nat := 0xC064 + 8 * i
def VOTE.SHARE2.A_AB (i : Nat) : Field := ⟨0xC064 + 8 * i, 0, 8⟩
def VOTE.SHARE2.A_AC (i : Nat) : Field := ⟨0xC064 + 8 * i, 8, 8⟩
def VOTE.SHARE2.B_BC (i : Nat) : Field := ⟨0xC064 + 8 * i, 16, 8⟩
/-- PROF.CTRL (05, R140). -/
def PROF.CTRL.off (i : Nat) : Nat := 0x1E000 + 256 * i
def PROF.CTRL.ROLE (i : Nat) : Field := ⟨0x1E000 + 256 * i, 0, 2⟩
def PROF.CTRL.WRAP (i : Nat) : Field := ⟨0x1E000 + 256 * i, 2, 1⟩
def PROF.CTRL.WRAP_DIR (i : Nat) : Field := ⟨0x1E000 + 256 * i, 3, 2⟩
def PROF.CTRL.POS_OK (i : Nat) : Field := ⟨0x1E000 + 256 * i, 5, 1⟩
def PROF.CTRL.SPEED_OK (i : Nat) : Field := ⟨0x1E000 + 256 * i, 6, 1⟩
def PROF.CTRL.TRAVEL_EN (i : Nat) : Field := ⟨0x1E000 + 256 * i, 7, 1⟩
/-- PROF.MODULO (05, R140). -/
def PROF.MODULO.off (i : Nat) : Nat := 0x1E004 + 256 * i
def PROF.MODULO.COUNT (i : Nat) : Field := ⟨0x1E004 + 256 * i, 0, 32⟩
/-- PROF.VMAX_CFG (05, R140). -/
def PROF.VMAX_CFG.off (i : Nat) : Nat := 0x1E008 + 256 * i
def PROF.VMAX_CFG.VALUE (i : Nat) : Field := ⟨0x1E008 + 256 * i, 0, 32⟩
/-- PROF.AMAX_CFG (05, R140). -/
def PROF.AMAX_CFG.off (i : Nat) : Nat := 0x1E00C + 256 * i
def PROF.AMAX_CFG.VALUE (i : Nat) : Field := ⟨0x1E00C + 256 * i, 0, 32⟩
/-- PROF.JMAX_CFG (05, R140). -/
def PROF.JMAX_CFG.off (i : Nat) : Nat := 0x1E010 + 256 * i
def PROF.JMAX_CFG.VALUE (i : Nat) : Field := ⟨0x1E010 + 256 * i, 0, 32⟩
/-- PROF.STOP_A (05, R140). -/
def PROF.STOP_A.off (i : Nat) : Nat := 0x1E014 + 256 * i
def PROF.STOP_A.VALUE (i : Nat) : Field := ⟨0x1E014 + 256 * i, 0, 32⟩
/-- PROF.STOP_J (05, R140). -/
def PROF.STOP_J.off (i : Nat) : Nat := 0x1E018 + 256 * i
def PROF.STOP_J.VALUE (i : Nat) : Field := ⟨0x1E018 + 256 * i, 0, 32⟩
/-- PROF.TRAVEL_MIN (05, R140). -/
def PROF.TRAVEL_MIN.off (i : Nat) : Nat := 0x1E01C + 256 * i
def PROF.TRAVEL_MIN.VALUE (i : Nat) : Field := ⟨0x1E01C + 256 * i, 0, 32⟩
/-- PROF.TRAVEL_MAX (05, R140). -/
def PROF.TRAVEL_MAX.off (i : Nat) : Nat := 0x1E020 + 256 * i
def PROF.TRAVEL_MAX.VALUE (i : Nat) : Field := ⟨0x1E020 + 256 * i, 0, 32⟩
/-- PROF.HOME_CTRL (05, R140). -/
def PROF.HOME_CTRL.off (i : Nat) : Nat := 0x1E024 + 256 * i
def PROF.HOME_CTRL.MODE (i : Nat) : Field := ⟨0x1E024 + 256 * i, 0, 3⟩
def PROF.HOME_CTRL.EVERY_ENABLE (i : Nat) : Field := ⟨0x1E024 + 256 * i, 3, 1⟩
def PROF.HOME_CTRL.SRC (i : Nat) : Field := ⟨0x1E024 + 256 * i, 4, 4⟩
def PROF.HOME_CTRL.EDGE (i : Nat) : Field := ⟨0x1E024 + 256 * i, 8, 1⟩
/-- PROF.HOME_V (05, R140). -/
def PROF.HOME_V.off (i : Nat) : Nat := 0x1E028 + 256 * i
def PROF.HOME_V.VALUE (i : Nat) : Field := ⟨0x1E028 + 256 * i, 0, 32⟩
/-- PROF.HOME_POS (05, R140). -/
def PROF.HOME_POS.off (i : Nat) : Nat := 0x1E02C + 256 * i
def PROF.HOME_POS.VALUE (i : Nat) : Field := ⟨0x1E02C + 256 * i, 0, 32⟩
/-- PROF.HOME_TRAVEL (05, R140). -/
def PROF.HOME_TRAVEL.off (i : Nat) : Nat := 0x1E030 + 256 * i
def PROF.HOME_TRAVEL.VALUE (i : Nat) : Field := ⟨0x1E030 + 256 * i, 0, 32⟩
/-- PROF.SW_CTRL (05, R140). -/
def PROF.SW_CTRL.off (i : Nat) : Nat := 0x1E034 + 256 * i
def PROF.SW_CTRL.LATCH_SRC (i : Nat) : Field := ⟨0x1E034 + 256 * i, 0, 4⟩
def PROF.SW_CTRL.LATCH_EDGE (i : Nat) : Field := ⟨0x1E034 + 256 * i, 4, 2⟩
def PROF.SW_CTRL.LIMP_SRC (i : Nat) : Field := ⟨0x1E034 + 256 * i, 8, 4⟩
def PROF.SW_CTRL.LIMP_POL (i : Nat) : Field := ⟨0x1E034 + 256 * i, 12, 1⟩
def PROF.SW_CTRL.LIMN_SRC (i : Nat) : Field := ⟨0x1E034 + 256 * i, 16, 4⟩
def PROF.SW_CTRL.LIMN_POL (i : Nat) : Field := ⟨0x1E034 + 256 * i, 20, 1⟩
/-- PROF.STEP_CTRL (05, R140). -/
def PROF.STEP_CTRL.off (i : Nat) : Nat := 0x1E038 + 256 * i
def PROF.STEP_CTRL.EN (i : Nat) : Field := ⟨0x1E038 + 256 * i, 0, 1⟩
def PROF.STEP_CTRL.PAIR (i : Nat) : Field := ⟨0x1E038 + 256 * i, 1, 1⟩
def PROF.STEP_CTRL.DIR_POL (i : Nat) : Field := ⟨0x1E038 + 256 * i, 2, 1⟩
def PROF.STEP_CTRL.HIGH (i : Nat) : Field := ⟨0x1E038 + 256 * i, 3, 8⟩
def PROF.STEP_CTRL.LOW (i : Nat) : Field := ⟨0x1E038 + 256 * i, 11, 8⟩
def PROF.STEP_CTRL.SETUP (i : Nat) : Field := ⟨0x1E038 + 256 * i, 19, 8⟩
/-- PROF.STEP_DIV (05, R140). -/
def PROF.STEP_DIV.off (i : Nat) : Nat := 0x1E03C + 256 * i
def PROF.STEP_DIV.DIV (i : Nat) : Field := ⟨0x1E03C + 256 * i, 0, 16⟩
/-- PROF.STATUS (05, R140). -/
def PROF.STATUS.off (i : Nat) : Nat := 0x1E080 + 256 * i
def PROF.STATUS.STATE (i : Nat) : Field := ⟨0x1E080 + 256 * i, 0, 3⟩
def PROF.STATUS.LIMIT_REDUCE (i : Nat) : Field := ⟨0x1E080 + 256 * i, 3, 1⟩
def PROF.STATUS.SHAPE (i : Nat) : Field := ⟨0x1E080 + 256 * i, 4, 2⟩
def PROF.STATUS.LIMP_HIT (i : Nat) : Field := ⟨0x1E080 + 256 * i, 6, 1⟩
def PROF.STATUS.LIMN_HIT (i : Nat) : Field := ⟨0x1E080 + 256 * i, 7, 1⟩
def PROF.STATUS.HOMED (i : Nat) : Field := ⟨0x1E080 + 256 * i, 8, 1⟩
def PROF.STATUS.HOME_ERR (i : Nat) : Field := ⟨0x1E080 + 256 * i, 9, 2⟩
def PROF.STATUS.QUEUE (i : Nat) : Field := ⟨0x1E080 + 256 * i, 11, 4⟩
def PROF.STATUS.STEP_OVERRUN (i : Nat) : Field := ⟨0x1E080 + 256 * i, 15, 1⟩
def PROF.STATUS.LATCH_COUNT (i : Nat) : Field := ⟨0x1E080 + 256 * i, 16, 16⟩
/-- PROF.COUNTS (05, R140). -/
def PROF.COUNTS.off (i : Nat) : Nat := 0x1E084 + 256 * i
def PROF.COUNTS.REPLANS (i : Nat) : Field := ⟨0x1E084 + 256 * i, 0, 16⟩
def PROF.COUNTS.DISCARDED (i : Nat) : Field := ⟨0x1E084 + 256 * i, 16, 16⟩
/-- PROF.POS (05, R140). -/
def PROF.POS.off (i : Nat) : Nat := 0x1E088 + 256 * i
def PROF.POS.VALUE (i : Nat) : Field := ⟨0x1E088 + 256 * i, 0, 64⟩
/-- PROF.VEL (05, R140). -/
def PROF.VEL.off (i : Nat) : Nat := 0x1E090 + 256 * i
def PROF.VEL.VALUE (i : Nat) : Field := ⟨0x1E090 + 256 * i, 0, 64⟩
/-- PROF.ACC (05, R140). -/
def PROF.ACC.off (i : Nat) : Nat := 0x1E098 + 256 * i
def PROF.ACC.VALUE (i : Nat) : Field := ⟨0x1E098 + 256 * i, 0, 64⟩
/-- PROF.TARGET (05, R140). -/
def PROF.TARGET.off (i : Nat) : Nat := 0x1E0A0 + 256 * i
def PROF.TARGET.VALUE (i : Nat) : Field := ⟨0x1E0A0 + 256 * i, 0, 64⟩
/-- PROF.LATCH (05, R140). -/
def PROF.LATCH.off (i : Nat) : Nat := 0x1E0A8 + 256 * i
def PROF.LATCH.VALUE (i : Nat) : Field := ⟨0x1E0A8 + 256 * i, 0, 64⟩
/-- PROF.PLAN_END (05, R140). -/
def PROF.PLAN_END.off (i : Nat) : Nat := 0x1E0B0 + 256 * i
def PROF.PLAN_END.TIME (i : Nat) : Field := ⟨0x1E0B0 + 256 * i, 0, 64⟩
/-- PROF.VMAX_NOW (05, R140). -/
def PROF.VMAX_NOW.off (i : Nat) : Nat := 0x1E0B8 + 256 * i
def PROF.VMAX_NOW.VALUE (i : Nat) : Field := ⟨0x1E0B8 + 256 * i, 0, 32⟩
/-- PROF.AMAX_NOW (05, R140). -/
def PROF.AMAX_NOW.off (i : Nat) : Nat := 0x1E0BC + 256 * i
def PROF.AMAX_NOW.VALUE (i : Nat) : Field := ⟨0x1E0BC + 256 * i, 0, 32⟩
/-- PROF.JMAX_NOW (05, R140). -/
def PROF.JMAX_NOW.off (i : Nat) : Nat := 0x1E0C0 + 256 * i
def PROF.JMAX_NOW.VALUE (i : Nat) : Field := ⟨0x1E0C0 + 256 * i, 0, 32⟩
/-- PROF.STEP_BACKLOG (05, R140). -/
def PROF.STEP_BACKLOG.off (i : Nat) : Nat := 0x1E0C4 + 256 * i
def PROF.STEP_BACKLOG.STEPS (i : Nat) : Field := ⟨0x1E0C4 + 256 * i, 0, 32⟩
/-- LOOP.CTRL (06, R169). -/
def LOOP.CTRL.off (i : Nat) : Nat := 0x10000 + 256 * i
def LOOP.CTRL.CH (i : Nat) : Field := ⟨0x10000 + 256 * i, 0, 4⟩
def LOOP.CTRL.DMODE (i : Nat) : Field := ⟨0x10000 + 256 * i, 4, 1⟩
def LOOP.CTRL.SAT_CHAIN_EN (i : Nat) : Field := ⟨0x10000 + 256 * i, 5, 1⟩
def LOOP.CTRL.CHAIN_SLOT (i : Nat) : Field := ⟨0x10000 + 256 * i, 6, 7⟩
def LOOP.CTRL.SHIFT (i : Nat) : Field := ⟨0x10000 + 256 * i, 14, 6⟩
def LOOP.CTRL.ERR_FRAC (i : Nat) : Field := ⟨0x10000 + 256 * i, 20, 5⟩
def LOOP.CTRL.OFRAC (i : Nat) : Field := ⟨0x10000 + 256 * i, 25, 5⟩
/-- LOOP.SRC (06, R169). -/
def LOOP.SRC.off (i : Nat) : Nat := 0x10004 + 256 * i
def LOOP.SRC.SP_SEL (i : Nat) : Field := ⟨0x10004 + 256 * i, 0, 16⟩
def LOOP.SRC.PV_SEL (i : Nat) : Field := ⟨0x10004 + 256 * i, 16, 16⟩
/-- LOOP.AUX (06, R169). -/
def LOOP.AUX.off (i : Nat) : Nat := 0x10008 + 256 * i
def LOOP.AUX.FF_SEL (i : Nat) : Field := ⟨0x10008 + 256 * i, 0, 16⟩
def LOOP.AUX.LIM_SEL (i : Nat) : Field := ⟨0x10008 + 256 * i, 16, 16⟩
/-- LOOP.ROUTE (06, R169). -/
def LOOP.ROUTE.off (i : Nat) : Nat := 0x1000C + 256 * i
def LOOP.ROUTE.DEST (i : Nat) : Field := ⟨0x1000C + 256 * i, 0, 8⟩
def LOOP.ROUTE.INDEX (i : Nat) : Field := ⟨0x1000C + 256 * i, 8, 5⟩
/-- LOOP.KP (06, R169). -/
def LOOP.KP.off (i : Nat) : Nat := 0x10010 + 256 * i
def LOOP.KP.VALUE (i : Nat) : Field := ⟨0x10010 + 256 * i, 0, 32⟩
/-- LOOP.KI (06, R169). -/
def LOOP.KI.off (i : Nat) : Nat := 0x10014 + 256 * i
def LOOP.KI.VALUE (i : Nat) : Field := ⟨0x10014 + 256 * i, 0, 32⟩
/-- LOOP.KD (06, R169). -/
def LOOP.KD.off (i : Nat) : Nat := 0x10018 + 256 * i
def LOOP.KD.VALUE (i : Nat) : Field := ⟨0x10018 + 256 * i, 0, 32⟩
/-- LOOP.KFF (06, R169). -/
def LOOP.KFF.off (i : Nat) : Nat := 0x1001C + 256 * i
def LOOP.KFF.VALUE (i : Nat) : Field := ⟨0x1001C + 256 * i, 0, 32⟩
/-- LOOP.DFILT (06, R169). -/
def LOOP.DFILT.off (i : Nat) : Nat := 0x10020 + 256 * i
def LOOP.DFILT.ALPHA (i : Nat) : Field := ⟨0x10020 + 256 * i, 0, 16⟩
/-- LOOP.OUT_MIN (06, R169). -/
def LOOP.OUT_MIN.off (i : Nat) : Nat := 0x10024 + 256 * i
def LOOP.OUT_MIN.VALUE (i : Nat) : Field := ⟨0x10024 + 256 * i, 0, 32⟩
/-- LOOP.OUT_MAX (06, R169). -/
def LOOP.OUT_MAX.off (i : Nat) : Nat := 0x10028 + 256 * i
def LOOP.OUT_MAX.VALUE (i : Nat) : Field := ⟨0x10028 + 256 * i, 0, 32⟩
/-- LOOP.CONST (06, R169). -/
def LOOP.CONST.off (i : Nat) : Nat := 0x1002C + 256 * i
def LOOP.CONST.VALUE (i : Nat) : Field := ⟨0x1002C + 256 * i, 0, 32⟩
/-- LOOP.TUNE_TRAVEL (06, R169). -/
def LOOP.TUNE_TRAVEL.off (i : Nat) : Nat := 0x10030 + 256 * i
def LOOP.TUNE_TRAVEL.COUNTS (i : Nat) : Field := ⟨0x10030 + 256 * i, 0, 32⟩
/-- LOOP.TUNE_TMO (06, R169). -/
def LOOP.TUNE_TMO.off (i : Nat) : Nat := 0x10034 + 256 * i
def LOOP.TUNE_TMO.MS (i : Nat) : Field := ⟨0x10034 + 256 * i, 0, 16⟩
/-- LOOP.STATUS (06, R169). -/
def LOOP.STATUS.off (i : Nat) : Nat := 0x10080 + 256 * i
def LOOP.STATUS.STATE (i : Nat) : Field := ⟨0x10080 + 256 * i, 0, 2⟩
def LOOP.STATUS.SAT_HI (i : Nat) : Field := ⟨0x10080 + 256 * i, 2, 1⟩
def LOOP.STATUS.SAT_LO (i : Nat) : Field := ⟨0x10080 + 256 * i, 3, 1⟩
def LOOP.STATUS.CHAIN_FROZEN (i : Nat) : Field := ⟨0x10080 + 256 * i, 4, 1⟩
def LOOP.STATUS.RESIDUE_ERR (i : Nat) : Field := ⟨0x10080 + 256 * i, 5, 1⟩
/-- LOOP.COUNTS (06, R169). -/
def LOOP.COUNTS.off (i : Nat) : Nat := 0x10084 + 256 * i
def LOOP.COUNTS.SAT_EVALS (i : Nat) : Field := ⟨0x10084 + 256 * i, 0, 16⟩
def LOOP.COUNTS.DISCARDED (i : Nat) : Field := ⟨0x10084 + 256 * i, 16, 8⟩
/-- LOOP.INTEG (06, R169). -/
def LOOP.INTEG.off (i : Nat) : Nat := 0x10088 + 256 * i
def LOOP.INTEG.VALUE (i : Nat) : Field := ⟨0x10088 + 256 * i, 0, 64⟩
/-- LOOP.DSTATE (06, R169). -/
def LOOP.DSTATE.off (i : Nat) : Nat := 0x10090 + 256 * i
def LOOP.DSTATE.VALUE (i : Nat) : Field := ⟨0x10090 + 256 * i, 0, 64⟩
/-- LOOP.OUT (06, R169). -/
def LOOP.OUT.off (i : Nat) : Nat := 0x10098 + 256 * i
def LOOP.OUT.VALUE (i : Nat) : Field := ⟨0x10098 + 256 * i, 0, 32⟩
/-- LOOP.ERR (06, R169). -/
def LOOP.ERR.off (i : Nat) : Nat := 0x1009C + 256 * i
def LOOP.ERR.VALUE (i : Nat) : Field := ⟨0x1009C + 256 * i, 0, 32⟩
/-- LOOP.TUNE_STATUS (06, R169). -/
def LOOP.TUNE_STATUS.off (i : Nat) : Nat := 0x100A0 + 256 * i
def LOOP.TUNE_STATUS.TSTATE (i : Nat) : Field := ⟨0x100A0 + 256 * i, 0, 3⟩
def LOOP.TUNE_STATUS.CYCLES (i : Nat) : Field := ⟨0x100A0 + 256 * i, 3, 8⟩
def LOOP.TUNE_STATUS.STABLE (i : Nat) : Field := ⟨0x100A0 + 256 * i, 11, 3⟩
def LOOP.TUNE_STATUS.EPS_LARGE (i : Nat) : Field := ⟨0x100A0 + 256 * i, 14, 1⟩
def LOOP.TUNE_STATUS.GAIN_CLIPPED (i : Nat) : Field := ⟨0x100A0 + 256 * i, 15, 1⟩
def LOOP.TUNE_STATUS.REASON (i : Nat) : Field := ⟨0x100A0 + 256 * i, 16, 8⟩
def LOOP.TUNE_STATUS.RULE (i : Nat) : Field := ⟨0x100A0 + 256 * i, 24, 4⟩
/-- LOOP.TUNE_TU (06, R169). -/
def LOOP.TUNE_TU.off (i : Nat) : Nat := 0x100A4 + 256 * i
def LOOP.TUNE_TU.NS (i : Nat) : Field := ⟨0x100A4 + 256 * i, 0, 32⟩
/-- LOOP.TUNE_A (06, R169). -/
def LOOP.TUNE_A.off (i : Nat) : Nat := 0x100A8 + 256 * i
def LOOP.TUNE_A.VALUE (i : Nat) : Field := ⟨0x100A8 + 256 * i, 0, 32⟩
/-- LOOP.TUNE_KU (06, R169). -/
def LOOP.TUNE_KU.off (i : Nat) : Nat := 0x100AC + 256 * i
def LOOP.TUNE_KU.VALUE (i : Nat) : Field := ⟨0x100AC + 256 * i, 0, 32⟩
/-- LOOP.TUNE_KP (06, R169). -/
def LOOP.TUNE_KP.off (i : Nat) : Nat := 0x100B0 + 256 * i
def LOOP.TUNE_KP.VALUE (i : Nat) : Field := ⟨0x100B0 + 256 * i, 0, 32⟩
/-- LOOP.TUNE_KI (06, R169). -/
def LOOP.TUNE_KI.off (i : Nat) : Nat := 0x100B4 + 256 * i
def LOOP.TUNE_KI.VALUE (i : Nat) : Field := ⟨0x100B4 + 256 * i, 0, 32⟩
/-- LOOP.TUNE_KD (06, R169). -/
def LOOP.TUNE_KD.off (i : Nat) : Nat := 0x100B8 + 256 * i
def LOOP.TUNE_KD.VALUE (i : Nat) : Field := ⟨0x100B8 + 256 * i, 0, 32⟩
/-- LOOP.TT_CTRL (06, R170). -/
def LOOP.TT_CTRL.off (i : Nat) : Nat := 0x18000 + 16 * i
def LOOP.TT_CTRL.SRC (i : Nat) : Field := ⟨0x18000 + 16 * i, 0, 2⟩
def LOOP.TT_CTRL.CARRIER (i : Nat) : Field := ⟨0x18000 + 16 * i, 2, 3⟩
def LOOP.TT_CTRL.EVENT (i : Nat) : Field := ⟨0x18000 + 16 * i, 5, 1⟩
def LOOP.TT_CTRL.PIPES (i : Nat) : Field := ⟨0x18000 + 16 * i, 8, 4⟩
/-- LOOP.TT_PERIOD (06, R170). -/
def LOOP.TT_PERIOD.off (i : Nat) : Nat := 0x18004 + 16 * i
def LOOP.TT_PERIOD.US (i : Nat) : Field := ⟨0x18004 + 16 * i, 0, 16⟩
/-- LOOP.TT_OFFSET (06, R170). -/
def LOOP.TT_OFFSET.off (i : Nat) : Nat := 0x18008 + 16 * i
def LOOP.TT_OFFSET.EDGES (i : Nat) : Field := ⟨0x18008 + 16 * i, 0, 12⟩
/-- LOOP.PIPE_STATUS (06, R170). -/
def LOOP.PIPE_STATUS.off : Nat := 0x18040
def LOOP.PIPE_STATUS.L0 : Field := ⟨0x18040, 0, 3⟩
def LOOP.PIPE_STATUS.L1 : Field := ⟨0x18040, 3, 3⟩
def LOOP.PIPE_STATUS.L2 : Field := ⟨0x18040, 6, 3⟩
def LOOP.PIPE_STATUS.L3 : Field := ⟨0x18040, 9, 3⟩
def LOOP.PIPE_STATUS.SPARE : Field := ⟨0x18040, 12, 3⟩
def LOOP.PIPE_STATUS.RETIRED : Field := ⟨0x18040, 16, 5⟩
/-- LOOP.SCHED_ERR (06, R170). -/
def LOOP.SCHED_ERR.off : Nat := 0x18044
def LOOP.SCHED_ERR.CODE : Field := ⟨0x18044, 0, 8⟩
def LOOP.SCHED_ERR.SLOT : Field := ⟨0x18044, 8, 7⟩
def LOOP.SCHED_ERR.TT : Field := ⟨0x18044, 16, 2⟩
/-- LOOP.ENG_COUNTS (06, R170). -/
def LOOP.ENG_COUNTS.off : Nat := 0x18048
def LOOP.ENG_COUNTS.ROTATIONS : Field := ⟨0x18048, 0, 16⟩
def LOOP.ENG_COUNTS.RESIDUE : Field := ⟨0x18048, 16, 16⟩
/-- LOOP.ENTRY (06, R170). -/
def LOOP.ENTRY.off (i : Nat) : Nat := 0x18100 + 4 * i
def LOOP.ENTRY.EN (i : Nat) : Field := ⟨0x18100 + 4 * i, 0, 1⟩
def LOOP.ENTRY.TT (i : Nat) : Field := ⟨0x18100 + 4 * i, 1, 2⟩
def LOOP.ENTRY.PIPE (i : Nat) : Field := ⟨0x18100 + 4 * i, 3, 2⟩
def LOOP.ENTRY.STEP (i : Nat) : Field := ⟨0x18100 + 4 * i, 8, 12⟩
def LOOP.ENTRY.DIVLOG (i : Nat) : Field := ⟨0x18100 + 4 * i, 20, 3⟩
def LOOP.ENTRY.PHASE (i : Nat) : Field := ⟨0x18100 + 4 * i, 24, 7⟩
/-- COMM.CTRL (07, R200). -/
def COMM.CTRL.off (i : Nat) : Nat := 0x19000 + 512 * i
def COMM.CTRL.CLASS (i : Nat) : Field := ⟨0x19000 + 512 * i, 0, 1⟩
def COMM.CTRL.SAFE (i : Nat) : Field := ⟨0x19000 + 512 * i, 1, 2⟩
def COMM.CTRL.H3_EN (i : Nat) : Field := ⟨0x19000 + 512 * i, 3, 1⟩
def COMM.CTRL.FW_EN (i : Nat) : Field := ⟨0x19000 + 512 * i, 4, 1⟩
def COMM.CTRL.FORCE_DIRECT (i : Nat) : Field := ⟨0x19000 + 512 * i, 5, 1⟩
def COMM.CTRL.OBS_EN (i : Nat) : Field := ⟨0x19000 + 512 * i, 6, 1⟩
def COMM.CTRL.KE_CHK_EN (i : Nat) : Field := ⟨0x19000 + 512 * i, 7, 1⟩
def COMM.CTRL.CARRIER (i : Nat) : Field := ⟨0x19000 + 512 * i, 8, 3⟩
def COMM.CTRL.POLES (i : Nat) : Field := ⟨0x19000 + 512 * i, 12, 6⟩
/-- COMM.SRC (07, R200). -/
def COMM.SRC.off (i : Nat) : Nat := 0x19004 + 512 * i
def COMM.SRC.PORT_P (i : Nat) : Field := ⟨0x19004 + 512 * i, 0, 5⟩
def COMM.SRC.PORT_S (i : Nat) : Field := ⟨0x19004 + 512 * i, 5, 5⟩
def COMM.SRC.ANG_TOL (i : Nat) : Field := ⟨0x19004 + 512 * i, 16, 8⟩
/-- COMM.CPR (07, R200). -/
def COMM.CPR.off (i : Nat) : Nat := 0x19008 + 512 * i
def COMM.CPR.COUNT (i : Nat) : Field := ⟨0x19008 + 512 * i, 0, 32⟩
/-- COMM.ZERO_P (07, R200). -/
def COMM.ZERO_P.off (i : Nat) : Nat := 0x1900C + 512 * i
def COMM.ZERO_P.COUNT (i : Nat) : Field := ⟨0x1900C + 512 * i, 0, 32⟩
/-- COMM.ZERO_S (07, R200). -/
def COMM.ZERO_S.off (i : Nat) : Nat := 0x19010 + 512 * i
def COMM.ZERO_S.COUNT (i : Nat) : Field := ⟨0x19010 + 512 * i, 0, 32⟩
/-- COMM.RATIO_S (07, R200). -/
def COMM.RATIO_S.off (i : Nat) : Nat := 0x19014 + 512 * i
def COMM.RATIO_S.VALUE (i : Nat) : Field := ⟨0x19014 + 512 * i, 0, 32⟩
/-- COMM.RATED (07, R200). -/
def COMM.RATED.off (i : Nat) : Nat := 0x19018 + 512 * i
def COMM.RATED.VALUE (i : Nat) : Field := ⟨0x19018 + 512 * i, 0, 32⟩
/-- COMM.KT_INV (07, R200). -/
def COMM.KT_INV.off (i : Nat) : Nat := 0x1901C + 512 * i
def COMM.KT_INV.VALUE (i : Nat) : Field := ⟨0x1901C + 512 * i, 0, 32⟩
/-- COMM.I_MAX (07, R200). -/
def COMM.I_MAX.off (i : Nat) : Nat := 0x19020 + 512 * i
def COMM.I_MAX.VALUE (i : Nat) : Field := ⟨0x19020 + 512 * i, 0, 32⟩
/-- COMM.ID_CMD (07, R200). -/
def COMM.ID_CMD.off (i : Nat) : Nat := 0x19024 + 512 * i
def COMM.ID_CMD.VALUE (i : Nat) : Field := ⟨0x19024 + 512 * i, 0, 32⟩
/-- COMM.KE (07, R200). -/
def COMM.KE.off (i : Nat) : Nat := 0x19028 + 512 * i
def COMM.KE.VALUE (i : Nat) : Field := ⟨0x19028 + 512 * i, 0, 32⟩
/-- COMM.RS (07, R200). -/
def COMM.RS.off (i : Nat) : Nat := 0x1902C + 512 * i
def COMM.RS.VALUE (i : Nat) : Field := ⟨0x1902C + 512 * i, 0, 32⟩
/-- COMM.LS (07, R200). -/
def COMM.LS.off (i : Nat) : Nat := 0x19030 + 512 * i
def COMM.LS.VALUE (i : Nat) : Field := ⟨0x19030 + 512 * i, 0, 32⟩
/-- COMM.VLIM (07, R200). -/
def COMM.VLIM.off (i : Nat) : Nat := 0x19034 + 512 * i
def COMM.VLIM.MOD (i : Nat) : Field := ⟨0x19034 + 512 * i, 0, 16⟩
def COMM.VLIM.ADV (i : Nat) : Field := ⟨0x19034 + 512 * i, 16, 16⟩
/-- COMM.FW (07, R200). -/
def COMM.FW.off (i : Nat) : Nat := 0x19038 + 512 * i
def COMM.FW.ID_MAX (i : Nat) : Field := ⟨0x19038 + 512 * i, 0, 16⟩
def COMM.FW.START (i : Nat) : Field := ⟨0x19038 + 512 * i, 16, 8⟩
def COMM.FW.STEP (i : Nat) : Field := ⟨0x19038 + 512 * i, 24, 8⟩
/-- COMM.THRESH (07, R200). -/
def COMM.THRESH.off (i : Nat) : Nat := 0x1903C + 512 * i
def COMM.THRESH.REV_PCT (i : Nat) : Field := ⟨0x1903C + 512 * i, 0, 8⟩
def COMM.THRESH.OBS_MIN_PCT (i : Nat) : Field := ⟨0x1903C + 512 * i, 8, 8⟩
def COMM.THRESH.KE_MIN_PCT (i : Nat) : Field := ⟨0x1903C + 512 * i, 16, 8⟩
def COMM.THRESH.XO_PCT (i : Nat) : Field := ⟨0x1903C + 512 * i, 24, 8⟩
/-- COMM.OBS (07, R200). -/
def COMM.OBS.off (i : Nat) : Nat := 0x19040 + 512 * i
def COMM.OBS.BW (i : Nat) : Field := ⟨0x19040 + 512 * i, 0, 12⟩
def COMM.OBS.LOCK_TOL (i : Nat) : Field := ⟨0x19040 + 512 * i, 12, 7⟩
def COMM.OBS.LOSS_N (i : Nat) : Field := ⟨0x19040 + 512 * i, 19, 4⟩
def COMM.OBS.REACQ (i : Nat) : Field := ⟨0x19040 + 512 * i, 23, 8⟩
/-- COMM.KE_CHK (07, R200). -/
def COMM.KE_CHK.off (i : Nat) : Nat := 0x19044 + 512 * i
def COMM.KE_CHK.BAND (i : Nat) : Field := ⟨0x19044 + 512 * i, 0, 8⟩
def COMM.KE_CHK.COUNT (i : Nat) : Field := ⟨0x19044 + 512 * i, 8, 4⟩
/-- COMM.TORQUE_MAX (07, R200). -/
def COMM.TORQUE_MAX.off (i : Nat) : Nat := 0x19048 + 512 * i
def COMM.TORQUE_MAX.VALUE (i : Nat) : Field := ⟨0x19048 + 512 * i, 0, 32⟩
/-- COMM.TUNE_TORQUE (07, R200). -/
def COMM.TUNE_TORQUE.off (i : Nat) : Nat := 0x1904C + 512 * i
def COMM.TUNE_TORQUE.VALUE (i : Nat) : Field := ⟨0x1904C + 512 * i, 0, 32⟩
/-- COMM.STOP_FORCE (07, R200). -/
def COMM.STOP_FORCE.off (i : Nat) : Nat := 0x19050 + 512 * i
def COMM.STOP_FORCE.VALUE (i : Nat) : Field := ⟨0x19050 + 512 * i, 0, 32⟩
/-- COMM.TMO (07, R200). -/
def COMM.TMO.off (i : Nat) : Nat := 0x19054 + 512 * i
def COMM.TMO.START (i : Nat) : Field := ⟨0x19054 + 512 * i, 0, 10⟩
def COMM.TMO.DIS (i : Nat) : Field := ⟨0x19054 + 512 * i, 10, 10⟩
def COMM.TMO.REV (i : Nat) : Field := ⟨0x19054 + 512 * i, 20, 10⟩
/-- COMM.AUX (07, R200). -/
def COMM.AUX.off (i : Nat) : Nat := 0x19058 + 512 * i
def COMM.AUX.BS_CHARGE (i : Nat) : Field := ⟨0x19058 + 512 * i, 0, 10⟩
def COMM.AUX.ISUM_TOL (i : Nat) : Field := ⟨0x19058 + 512 * i, 16, 10⟩
/-- COMM.ALIGN (07, R200). -/
def COMM.ALIGN.off (i : Nat) : Nat := 0x1905C + 512 * i
def COMM.ALIGN.EN (i : Nat) : Field := ⟨0x1905C + 512 * i, 0, 1⟩
def COMM.ALIGN.I_PCT (i : Nat) : Field := ⟨0x1905C + 512 * i, 1, 7⟩
def COMM.ALIGN.T (i : Nat) : Field := ⟨0x1905C + 512 * i, 8, 8⟩
def COMM.ALIGN.SPEED (i : Nat) : Field := ⟨0x1905C + 512 * i, 16, 8⟩
/-- COMM.STATUS (07, R200). -/
def COMM.STATUS.off (i : Nat) : Nat := 0x19100 + 512 * i
def COMM.STATUS.STATE (i : Nat) : Field := ⟨0x19100 + 512 * i, 0, 4⟩
def COMM.STATUS.WSTATE (i : Nat) : Field := ⟨0x19100 + 512 * i, 4, 4⟩
def COMM.STATUS.ANGLE_SRC (i : Nat) : Field := ⟨0x19100 + 512 * i, 8, 3⟩
def COMM.STATUS.SPEED_LIMITED (i : Nat) : Field := ⟨0x19100 + 512 * i, 12, 1⟩
def COMM.STATUS.REVERSAL_PENDING (i : Nat) : Field := ⟨0x19100 + 512 * i, 13, 1⟩
def COMM.STATUS.KE_ABNORMAL (i : Nat) : Field := ⟨0x19100 + 512 * i, 14, 1⟩
def COMM.STATUS.CUR_LIMITED (i : Nat) : Field := ⟨0x19100 + 512 * i, 15, 1⟩
def COMM.STATUS.VOLT_LIMITED (i : Nat) : Field := ⟨0x19100 + 512 * i, 16, 1⟩
def COMM.STATUS.SPLICED (i : Nat) : Field := ⟨0x19100 + 512 * i, 17, 1⟩
def COMM.STATUS.OBS_LOCKED (i : Nat) : Field := ⟨0x19100 + 512 * i, 18, 1⟩
def COMM.STATUS.OBS_LOST (i : Nat) : Field := ⟨0x19100 + 512 * i, 19, 1⟩
def COMM.STATUS.STOPPING (i : Nat) : Field := ⟨0x19100 + 512 * i, 20, 1⟩
def COMM.STATUS.FW_ACTIVE (i : Nat) : Field := ⟨0x19100 + 512 * i, 21, 1⟩
/-- COMM.SRC_STATUS (07, R200). -/
def COMM.SRC_STATUS.off (i : Nat) : Nat := 0x19104 + 512 * i
def COMM.SRC_STATUS.PRIMARY (i : Nat) : Field := ⟨0x19104 + 512 * i, 0, 2⟩
def COMM.SRC_STATUS.SECONDARY (i : Nat) : Field := ⟨0x19104 + 512 * i, 2, 2⟩
def COMM.SRC_STATUS.OBSERVER (i : Nat) : Field := ⟨0x19104 + 512 * i, 4, 2⟩
/-- COMM.COUNTS (07, R200). -/
def COMM.COUNTS.off (i : Nat) : Nat := 0x19108 + 512 * i
def COMM.COUNTS.POS_LOSSES (i : Nat) : Field := ⟨0x19108 + 512 * i, 0, 8⟩
def COMM.COUNTS.OBS_LOSSES (i : Nat) : Field := ⟨0x19108 + 512 * i, 8, 8⟩
def COMM.COUNTS.REACQ_OK (i : Nat) : Field := ⟨0x19108 + 512 * i, 16, 8⟩
/-- COMM.COUNTS2 (07, R200). -/
def COMM.COUNTS2.off (i : Nat) : Nat := 0x1910C + 512 * i
def COMM.COUNTS2.REVERSALS (i : Nat) : Field := ⟨0x1910C + 512 * i, 0, 16⟩
def COMM.COUNTS2.KE_EVENTS (i : Nat) : Field := ⟨0x1910C + 512 * i, 16, 8⟩
def COMM.COUNTS2.REACQ_FAIL (i : Nat) : Field := ⟨0x1910C + 512 * i, 24, 8⟩
/-- COMM.KE_EST (07, R200). -/
def COMM.KE_EST.off (i : Nat) : Nat := 0x19110 + 512 * i
def COMM.KE_EST.VALUE (i : Nat) : Field := ⟨0x19110 + 512 * i, 0, 32⟩
/-- COMM.TORQUE_CAP (07, R200). -/
def COMM.TORQUE_CAP.off (i : Nat) : Nat := 0x19114 + 512 * i
def COMM.TORQUE_CAP.VALUE (i : Nat) : Field := ⟨0x19114 + 512 * i, 0, 32⟩
/-- COMM.TORQUE_LIMIT (07, R200). -/
def COMM.TORQUE_LIMIT.off (i : Nat) : Nat := 0x19118 + 512 * i
def COMM.TORQUE_LIMIT.VALUE (i : Nat) : Field := ⟨0x19118 + 512 * i, 0, 32⟩
/-- COMM.TMAX_NOW (07, R200). -/
def COMM.TMAX_NOW.off (i : Nat) : Nat := 0x1911C + 512 * i
def COMM.TMAX_NOW.VALUE (i : Nat) : Field := ⟨0x1911C + 512 * i, 0, 32⟩
/-- COMM.SPEED_LIM_NOW (07, R200). -/
def COMM.SPEED_LIM_NOW.off (i : Nat) : Nat := 0x19120 + 512 * i
def COMM.SPEED_LIM_NOW.VALUE (i : Nat) : Field := ⟨0x19120 + 512 * i, 0, 32⟩
/-- COMM.ID_REF (07, R200). -/
def COMM.ID_REF.off (i : Nat) : Nat := 0x19124 + 512 * i
def COMM.ID_REF.VALUE (i : Nat) : Field := ⟨0x19124 + 512 * i, 0, 32⟩
/-- COMM.IQ_REF (07, R200). -/
def COMM.IQ_REF.off (i : Nat) : Nat := 0x19128 + 512 * i
def COMM.IQ_REF.VALUE (i : Nat) : Field := ⟨0x19128 + 512 * i, 0, 32⟩
/-- COMM.ID_FW (07, R200). -/
def COMM.ID_FW.off (i : Nat) : Nat := 0x1912C + 512 * i
def COMM.ID_FW.VALUE (i : Nat) : Field := ⟨0x1912C + 512 * i, 0, 32⟩
/-- COMM.OBS_ANGLE (07, R200). -/
def COMM.OBS_ANGLE.off (i : Nat) : Nat := 0x19130 + 512 * i
def COMM.OBS_ANGLE.VALUE (i : Nat) : Field := ⟨0x19130 + 512 * i, 0, 32⟩
/-- COMM.OBS_SPEED (07, R200). -/
def COMM.OBS_SPEED.off (i : Nat) : Nat := 0x19134 + 512 * i
def COMM.OBS_SPEED.VALUE (i : Nat) : Field := ⟨0x19134 + 512 * i, 0, 32⟩
/-- COMM.START_ERR (07, R200). -/
def COMM.START_ERR.off (i : Nat) : Nat := 0x19138 + 512 * i
def COMM.START_ERR.CODE (i : Nat) : Field := ⟨0x19138 + 512 * i, 0, 8⟩
/-- COMM.SINE (07, R201). -/
def COMM.SINE.off (i : Nat) : Nat := 0x1A000 + 4 * i
def COMM.SINE.SIN (i : Nat) : Field := ⟨0x1A000 + 4 * i, 0, 18⟩
def COMM.SINE.H3 (i : Nat) : Field := ⟨0x1A000 + 4 * i, 18, 14⟩
/-- FBK.CTRL (08, R226). -/
def FBK.CTRL.off (i : Nat) : Nat := 0x20000 + 256 * i
def FBK.CTRL.MODE (i : Nat) : Field := ⟨0x20000 + 256 * i, 0, 3⟩
def FBK.CTRL.LEVEL (i : Nat) : Field := ⟨0x20000 + 256 * i, 3, 2⟩
def FBK.CTRL.FILT (i : Nat) : Field := ⟨0x20000 + 256 * i, 5, 4⟩
def FBK.CTRL.DIR (i : Nat) : Field := ⟨0x20000 + 256 * i, 9, 1⟩
def FBK.CTRL.IDX_EN (i : Nat) : Field := ⟨0x20000 + 256 * i, 10, 1⟩
def FBK.CTRL.REF_SRC (i : Nat) : Field := ⟨0x20000 + 256 * i, 11, 4⟩
def FBK.CTRL.REF_EDGE (i : Nat) : Field := ⟨0x20000 + 256 * i, 15, 1⟩
def FBK.CTRL.DBL_WINDOW (i : Nat) : Field := ⟨0x20000 + 256 * i, 16, 8⟩
/-- FBK.CPR (08, R226). -/
def FBK.CPR.off (i : Nat) : Nat := 0x20004 + 256 * i
def FBK.CPR.COUNT (i : Nat) : Field := ⟨0x20004 + 256 * i, 0, 32⟩
/-- FBK.IDX (08, R226). -/
def FBK.IDX.off (i : Nat) : Nat := 0x20008 + 256 * i
def FBK.IDX.TOL (i : Nat) : Field := ⟨0x20008 + 256 * i, 0, 8⟩
/-- FBK.VEL (08, R226). -/
def FBK.VEL.off (i : Nat) : Nat := 0x2000C + 256 * i
def FBK.VEL.WIN (i : Nat) : Field := ⟨0x2000C + 256 * i, 0, 16⟩
def FBK.VEL.TMO (i : Nat) : Field := ⟨0x2000C + 256 * i, 16, 16⟩
/-- FBK.SSI_CTRL (08, R226). -/
def FBK.SSI_CTRL.off (i : Nat) : Nat := 0x20010 + 256 * i
def FBK.SSI_CTRL.LEN (i : Nat) : Field := ⟨0x20010 + 256 * i, 0, 6⟩
def FBK.SSI_CTRL.GRAY (i : Nat) : Field := ⟨0x20010 + 256 * i, 6, 1⟩
def FBK.SSI_CTRL.PAR (i : Nat) : Field := ⟨0x20010 + 256 * i, 7, 2⟩
def FBK.SSI_CTRL.DIV (i : Nat) : Field := ⟨0x20010 + 256 * i, 9, 9⟩
def FBK.SSI_CTRL.DELAY (i : Nat) : Field := ⟨0x20010 + 256 * i, 18, 7⟩
def FBK.SSI_CTRL.ERR_EN (i : Nat) : Field := ⟨0x20010 + 256 * i, 25, 1⟩
/-- FBK.SSI_FIELD (08, R226). -/
def FBK.SSI_FIELD.off (i : Nat) : Nat := 0x20014 + 256 * i
def FBK.SSI_FIELD.POS_LSB (i : Nat) : Field := ⟨0x20014 + 256 * i, 0, 6⟩
def FBK.SSI_FIELD.POS_WIDTH (i : Nat) : Field := ⟨0x20014 + 256 * i, 6, 6⟩
def FBK.SSI_FIELD.ERR_BIT (i : Nat) : Field := ⟨0x20014 + 256 * i, 12, 6⟩
/-- FBK.SSI_TRIG (08, R226). -/
def FBK.SSI_TRIG.off (i : Nat) : Nat := 0x20018 + 256 * i
def FBK.SSI_TRIG.SRC (i : Nat) : Field := ⟨0x20018 + 256 * i, 0, 2⟩
def FBK.SSI_TRIG.CARRIER (i : Nat) : Field := ⟨0x20018 + 256 * i, 2, 3⟩
def FBK.SSI_TRIG.EVENT (i : Nat) : Field := ⟨0x20018 + 256 * i, 5, 1⟩
def FBK.SSI_TRIG.PERIOD (i : Nat) : Field := ⟨0x20018 + 256 * i, 8, 16⟩
def FBK.SSI_TRIG.MONO (i : Nat) : Field := ⟨0x20018 + 256 * i, 24, 8⟩
/-- FBK.SENT_CTRL (08, R226). -/
def FBK.SENT_CTRL.off (i : Nat) : Nat := 0x2001C + 256 * i
def FBK.SENT_CTRL.TICK (i : Nat) : Field := ⟨0x2001C + 256 * i, 0, 10⟩
def FBK.SENT_CTRL.NIBS (i : Nat) : Field := ⟨0x2001C + 256 * i, 10, 3⟩
def FBK.SENT_CTRL.POS_NIBS (i : Nat) : Field := ⟨0x2001C + 256 * i, 13, 3⟩
def FBK.SENT_CTRL.PAUSE (i : Nat) : Field := ⟨0x2001C + 256 * i, 16, 1⟩
def FBK.SENT_CTRL.CRC_LEGACY (i : Nat) : Field := ⟨0x2001C + 256 * i, 17, 1⟩
def FBK.SENT_CTRL.SLOW (i : Nat) : Field := ⟨0x2001C + 256 * i, 18, 2⟩
/-- FBK.MAX_STEP (08, R226). -/
def FBK.MAX_STEP.off (i : Nat) : Nat := 0x20020 + 256 * i
def FBK.MAX_STEP.COUNT (i : Nat) : Field := ⟨0x20020 + 256 * i, 0, 32⟩
/-- FBK.DBL_LOG (08, R226). -/
def FBK.DBL_LOG.off (i : Nat) (j : Nat) : Nat := 0x20040 + 256 * i + 8 * j
def FBK.DBL_LOG.TIME (i : Nat) (j : Nat) : Field := ⟨0x20040 + 256 * i + 8 * j, 0, 32⟩
def FBK.DBL_LOG.T32 (i : Nat) (j : Nat) : Field := ⟨0x20044 + 256 * i + 8 * j, 0, 1⟩
def FBK.DBL_LOG.KIND (i : Nat) (j : Nat) : Field := ⟨0x20044 + 256 * i + 8 * j, 1, 2⟩
def FBK.DBL_LOG.GAP (i : Nat) (j : Nat) : Field := ⟨0x20044 + 256 * i + 8 * j, 3, 13⟩
def FBK.DBL_LOG.ANGLE (i : Nat) (j : Nat) : Field := ⟨0x20044 + 256 * i + 8 * j, 16, 16⟩
/-- FBK.POS_BASE (08, R226). -/
def FBK.POS_BASE.off (i : Nat) : Nat := 0x20060 + 256 * i
def FBK.POS_BASE.VALUE (i : Nat) : Field := ⟨0x20060 + 256 * i, 0, 64⟩
/-- FBK.STATUS (08, R226). -/
def FBK.STATUS.off (i : Nat) : Nat := 0x20080 + 256 * i
def FBK.STATUS.STATE (i : Nat) : Field := ⟨0x20080 + 256 * i, 0, 3⟩
def FBK.STATUS.ABS_KNOWN (i : Nat) : Field := ⟨0x20080 + 256 * i, 3, 1⟩
def FBK.STATUS.LOST (i : Nat) : Field := ⟨0x20080 + 256 * i, 4, 1⟩
def FBK.STATUS.DIR (i : Nat) : Field := ⟨0x20080 + 256 * i, 5, 1⟩
def FBK.STATUS.LINES (i : Nat) : Field := ⟨0x20080 + 256 * i, 6, 3⟩
def FBK.STATUS.STALE (i : Nat) : Field := ⟨0x20080 + 256 * i, 9, 1⟩
def FBK.STATUS.SLOW_VALID (i : Nat) : Field := ⟨0x20080 + 256 * i, 10, 1⟩
def FBK.STATUS.IDX_SEEN (i : Nat) : Field := ⟨0x20080 + 256 * i, 11, 1⟩
/-- FBK.COUNTS (08, R226). -/
def FBK.COUNTS.off (i : Nat) : Nat := 0x20084 + 256 * i
def FBK.COUNTS.DOUBLES (i : Nat) : Field := ⟨0x20084 + 256 * i, 0, 16⟩
def FBK.COUNTS.ERRORS (i : Nat) : Field := ⟨0x20084 + 256 * i, 16, 16⟩
/-- FBK.INFERRED (08, R226). -/
def FBK.INFERRED.off (i : Nat) : Nat := 0x20088 + 256 * i
def FBK.INFERRED.STEPS (i : Nat) : Field := ⟨0x20088 + 256 * i, 0, 32⟩
/-- FBK.LOST_EVENTS (08, R226). -/
def FBK.LOST_EVENTS.off (i : Nat) : Nat := 0x2008C + 256 * i
def FBK.LOST_EVENTS.EVENTS (i : Nat) : Field := ⟨0x2008C + 256 * i, 0, 32⟩
/-- FBK.POS (08, R226). -/
def FBK.POS.off (i : Nat) : Nat := 0x20090 + 256 * i
def FBK.POS.VALUE (i : Nat) : Field := ⟨0x20090 + 256 * i, 0, 64⟩
/-- FBK.POS_RAW (08, R226). -/
def FBK.POS_RAW.off (i : Nat) : Nat := 0x20098 + 256 * i
def FBK.POS_RAW.VALUE (i : Nat) : Field := ⟨0x20098 + 256 * i, 0, 64⟩
/-- FBK.OFFSET (08, R226). -/
def FBK.OFFSET.off (i : Nat) : Nat := 0x200A0 + 256 * i
def FBK.OFFSET.VALUE (i : Nat) : Field := ⟨0x200A0 + 256 * i, 0, 64⟩
/-- FBK.NET_DECODED (08, R226). -/
def FBK.NET_DECODED.off (i : Nat) : Nat := 0x200A8 + 256 * i
def FBK.NET_DECODED.VALUE (i : Nat) : Field := ⟨0x200A8 + 256 * i, 0, 64⟩
/-- FBK.INFERRED_NET (08, R226). -/
def FBK.INFERRED_NET.off (i : Nat) : Nat := 0x200B0 + 256 * i
def FBK.INFERRED_NET.VALUE (i : Nat) : Field := ⟨0x200B0 + 256 * i, 0, 32⟩
/-- FBK.ANGLE_CNT (08, R226). -/
def FBK.ANGLE_CNT.off (i : Nat) : Nat := 0x200B4 + 256 * i
def FBK.ANGLE_CNT.VALUE (i : Nat) : Field := ⟨0x200B4 + 256 * i, 0, 32⟩
/-- FBK.VELOCITY (08, R226). -/
def FBK.VELOCITY.off (i : Nat) : Nat := 0x200B8 + 256 * i
def FBK.VELOCITY.VALUE (i : Nat) : Field := ⟨0x200B8 + 256 * i, 0, 32⟩
/-- FBK.INDEX_REF (08, R226). -/
def FBK.INDEX_REF.off (i : Nat) : Nat := 0x200BC + 256 * i
def FBK.INDEX_REF.VALUE (i : Nat) : Field := ⟨0x200BC + 256 * i, 0, 32⟩
/-- FBK.IDX_LATCH (08, R226). -/
def FBK.IDX_LATCH.off (i : Nat) : Nat := 0x200C0 + 256 * i
def FBK.IDX_LATCH.VALUE (i : Nat) : Field := ⟨0x200C0 + 256 * i, 0, 64⟩
/-- FBK.REF_LATCH (08, R226). -/
def FBK.REF_LATCH.off (i : Nat) : Nat := 0x200C8 + 256 * i
def FBK.REF_LATCH.VALUE (i : Nat) : Field := ⟨0x200C8 + 256 * i, 0, 64⟩
/-- FBK.PRB_CTRL (08, R226). -/
def FBK.PRB_CTRL.off (i : Nat) : Nat := 0x200D0 + 256 * i
def FBK.PRB_CTRL.PORT (i : Nat) : Field := ⟨0x200D0 + 256 * i, 0, 5⟩
def FBK.PRB_CTRL.EDGE (i : Nat) : Field := ⟨0x200D0 + 256 * i, 5, 2⟩
def FBK.PRB_CTRL.PFILT (i : Nat) : Field := ⟨0x200D0 + 256 * i, 7, 4⟩
/-- FBK.PRB_COUNT (08, R226). -/
def FBK.PRB_COUNT.off (i : Nat) : Nat := 0x200D4 + 256 * i
def FBK.PRB_COUNT.EDGES (i : Nat) : Field := ⟨0x200D4 + 256 * i, 0, 32⟩
/-- FBK.PRB_POS (08, R226). -/
def FBK.PRB_POS.off (i : Nat) : Nat := 0x200D8 + 256 * i
def FBK.PRB_POS.VALUE (i : Nat) : Field := ⟨0x200D8 + 256 * i, 0, 64⟩
/-- FBK.PRB_STAMP (08, R226). -/
def FBK.PRB_STAMP.off (i : Nat) : Nat := 0x200E0 + 256 * i
def FBK.PRB_STAMP.NS (i : Nat) : Field := ⟨0x200E0 + 256 * i, 0, 32⟩
def FBK.PRB_STAMP.S (i : Nat) : Field := ⟨0x200E4 + 256 * i, 0, 16⟩
def FBK.PRB_STAMP.T32 (i : Nat) : Field := ⟨0x200E4 + 256 * i, 31, 1⟩
/-- FBK.SENT_SLOW (08, R226). -/
def FBK.SENT_SLOW.off (i : Nat) : Nat := 0x200E8 + 256 * i
def FBK.SENT_SLOW.ID (i : Nat) : Field := ⟨0x200E8 + 256 * i, 0, 8⟩
def FBK.SENT_SLOW.DATA (i : Nat) : Field := ⟨0x200E8 + 256 * i, 8, 16⟩
def FBK.SENT_SLOW.ENHANCED (i : Nat) : Field := ⟨0x200E8 + 256 * i, 24, 1⟩
def FBK.SENT_SLOW.COUNT (i : Nat) : Field := ⟨0x200EC + 256 * i, 0, 32⟩
/-- FBK.PT_CTRL (08, R226). -/
def FBK.PT_CTRL.off (i : Nat) : Nat := 0x200F0 + 256 * i
def FBK.PT_CTRL.MODE (i : Nat) : Field := ⟨0x200F0 + 256 * i, 0, 2⟩
def FBK.PT_CTRL.SRC (i : Nat) : Field := ⟨0x200F0 + 256 * i, 2, 5⟩
def FBK.PT_CTRL.LEVEL (i : Nat) : Field := ⟨0x200F0 + 256 * i, 7, 2⟩
def FBK.PT_CTRL.Z_EN (i : Nat) : Field := ⟨0x200F0 + 256 * i, 9, 1⟩
/-- FBK.PT_EMU (08, R226). -/
def FBK.PT_EMU.off (i : Nat) : Nat := 0x200F4 + 256 * i
def FBK.PT_EMU.DIV (i : Nat) : Field := ⟨0x200F4 + 256 * i, 0, 16⟩
def FBK.PT_EMU.MINGAP (i : Nat) : Field := ⟨0x200F4 + 256 * i, 16, 8⟩
/-- FBK.PT_STATUS (08, R226). -/
def FBK.PT_STATUS.off (i : Nat) : Nat := 0x200F8 + 256 * i
def FBK.PT_STATUS.BACKLOG (i : Nat) : Field := ⟨0x200F8 + 256 * i, 0, 16⟩
def FBK.PT_STATUS.OVERRUN (i : Nat) : Field := ⟨0x200F8 + 256 * i, 16, 1⟩
def FBK.PT_STATUS.STOPPED (i : Nat) : Field := ⟨0x200F8 + 256 * i, 17, 1⟩
def FBK.PT_STATUS.HELD (i : Nat) : Field := ⟨0x200F8 + 256 * i, 18, 1⟩
/-- ADC.CTRL (09, R240). -/
def ADC.CTRL.off : Nat := 0x22000
def ADC.CTRL.EN : Field := ⟨0x22000, 0, 1⟩
def ADC.CTRL.CAL_EN : Field := ⟨0x22000, 1, 1⟩
def ADC.CTRL.PROOF_EN : Field := ⟨0x22000, 2, 1⟩
def ADC.CTRL.VDC_TOL : Field := ⟨0x22000, 8, 8⟩
def ADC.CTRL.VDC_DUAL : Field := ⟨0x22000, 16, 1⟩
/-- ADC.STATUS (09, R240). -/
def ADC.STATUS.off : Nat := 0x22004
def ADC.STATUS.SUBST : Field := ⟨0x22004, 0, 24⟩
def ADC.STATUS.PROOF_BUSY : Field := ⟨0x22004, 24, 1⟩
/-- ADC.RETIRED (09, R240). -/
def ADC.RETIRED.off : Nat := 0x22008
def ADC.RETIRED.CORES : Field := ⟨0x22008, 0, 24⟩
/-- ADC.COUNTS (09, R240). -/
def ADC.COUNTS.off : Nat := 0x2200C
def ADC.COUNTS.LATE : Field := ⟨0x2200C, 0, 16⟩
/-- ADC.PROOF (09, R240). -/
def ADC.PROOF.off : Nat := 0x22010
def ADC.PROOF.CORE : Field := ⟨0x22010, 0, 5⟩
def ADC.PROOF.RESULT : Field := ⟨0x22010, 5, 2⟩
/-- ADC.SQ_CTRL (09, R240). -/
def ADC.SQ_CTRL.off (i : Nat) : Nat := 0x22100 + 32 * i
def ADC.SQ_CTRL.TRIG (i : Nat) : Field := ⟨0x22100 + 32 * i, 0, 3⟩
def ADC.SQ_CTRL.TT (i : Nat) : Field := ⟨0x22100 + 32 * i, 3, 2⟩
def ADC.SQ_CTRL.CARRIER (i : Nat) : Field := ⟨0x22100 + 32 * i, 5, 3⟩
def ADC.SQ_CTRL.EVENT (i : Nat) : Field := ⟨0x22100 + 32 * i, 8, 1⟩
def ADC.SQ_CTRL.DIVLOG (i : Nat) : Field := ⟨0x22100 + 32 * i, 9, 3⟩
def ADC.SQ_CTRL.PHASE (i : Nat) : Field := ⟨0x22100 + 32 * i, 12, 7⟩
/-- ADC.SQ_OFFSET (09, R240). -/
def ADC.SQ_OFFSET.off (i : Nat) : Nat := 0x22104 + 32 * i
def ADC.SQ_OFFSET.OFFSET (i : Nat) : Field := ⟨0x22104 + 32 * i, 0, 16⟩
/-- ADC.SQ_PERIOD (09, R240). -/
def ADC.SQ_PERIOD.off (i : Nat) : Nat := 0x22108 + 32 * i
def ADC.SQ_PERIOD.PERIOD (i : Nat) : Field := ⟨0x22108 + 32 * i, 0, 24⟩
/-- ADC.SQ_MASK_I (09, R240). -/
def ADC.SQ_MASK_I.off (i : Nat) : Nat := 0x2210C + 32 * i
def ADC.SQ_MASK_I.MASK (i : Nat) : Field := ⟨0x2210C + 32 * i, 0, 24⟩
/-- ADC.SQ_MASK_V (09, R240). -/
def ADC.SQ_MASK_V.off (i : Nat) : Nat := 0x22110 + 32 * i
def ADC.SQ_MASK_V.MASK (i : Nat) : Field := ⟨0x22110 + 32 * i, 0, 24⟩
/-- ADC.SQ_MASK_X (09, R240). -/
def ADC.SQ_MASK_X.off (i : Nat) : Nat := 0x22114 + 32 * i
def ADC.SQ_MASK_X.MASK (i : Nat) : Field := ⟨0x22114 + 32 * i, 0, 24⟩
/-- ADC.SQ_COUNTS (09, R240). -/
def ADC.SQ_COUNTS.off (i : Nat) : Nat := 0x22118 + 32 * i
def ADC.SQ_COUNTS.RUNS (i : Nat) : Field := ⟨0x22118 + 32 * i, 0, 16⟩
def ADC.SQ_COUNTS.SKIPPED (i : Nat) : Field := ⟨0x22118 + 32 * i, 16, 16⟩
/-- ADC.IN_CFG (09, R240). -/
def ADC.IN_CFG.off (i : Nat) : Nat := 0x22400 + 16 * i
def ADC.IN_CFG.ZC (i : Nat) : Field := ⟨0x22400 + 16 * i, 0, 2⟩
def ADC.IN_CFG.ZLIM (i : Nat) : Field := ⟨0x22400 + 16 * i, 8, 8⟩
def ADC.IN_CFG.ZC_SETTLE (i : Nat) : Field := ⟨0x22400 + 16 * i, 16, 8⟩
/-- ADC.IN_ZERO (09, R240). -/
def ADC.IN_ZERO.off (i : Nat) : Nat := 0x22404 + 16 * i
def ADC.IN_ZERO.CODE (i : Nat) : Field := ⟨0x22404 + 16 * i, 0, 16⟩
/-- ADC.IN_SCALE (09, R240). -/
def ADC.IN_SCALE.off (i : Nat) : Nat := 0x22408 + 16 * i
def ADC.IN_SCALE.VALUE (i : Nat) : Field := ⟨0x22408 + 16 * i, 0, 32⟩
/-- ADC.RESULT (09, R240). -/
def ADC.RESULT.off (i : Nat) : Nat := 0x22900 + 16 * i
def ADC.RESULT.VALUE (i : Nat) : Field := ⟨0x22900 + 16 * i, 0, 32⟩
/-- ADC.RAW (09, R240). -/
def ADC.RAW.off (i : Nat) : Nat := 0x22904 + 16 * i
def ADC.RAW.CODE (i : Nat) : Field := ⟨0x22904 + 16 * i, 0, 16⟩
def ADC.RAW.CLIP (i : Nat) : Field := ⟨0x22904 + 16 * i, 16, 1⟩
def ADC.RAW.CORE (i : Nat) : Field := ⟨0x22904 + 16 * i, 17, 5⟩
def ADC.RAW.T32 (i : Nat) : Field := ⟨0x22904 + 16 * i, 23, 1⟩
/-- ADC.ZERO_CAL (09, R240). -/
def ADC.ZERO_CAL.off (i : Nat) : Nat := 0x22908 + 16 * i
def ADC.ZERO_CAL.VALUE (i : Nat) : Field := ⟨0x22908 + 16 * i, 0, 20⟩
/-- ADC.STAMP (09, R240). -/
def ADC.STAMP.off (i : Nat) : Nat := 0x2290C + 16 * i
def ADC.STAMP.NS (i : Nat) : Field := ⟨0x2290C + 16 * i, 0, 32⟩
/-- ADC.CORE_CORR (09, R240). -/
def ADC.CORE_CORR.off (i : Nat) : Nat := 0x22E00 + 8 * i
def ADC.CORE_CORR.GCOR (i : Nat) : Field := ⟨0x22E00 + 8 * i, 0, 16⟩
def ADC.CORE_CORR.OCOR (i : Nat) : Field := ⟨0x22E00 + 8 * i, 16, 16⟩
/-- ADC.CORE_STATUS (09, R240). -/
def ADC.CORE_STATUS.off (i : Nat) : Nat := 0x22E04 + 8 * i
def ADC.CORE_STATUS.STATE (i : Nat) : Field := ⟨0x22E04 + 8 * i, 0, 2⟩
def ADC.CORE_STATUS.SUBST (i : Nat) : Field := ⟨0x22E04 + 8 * i, 2, 1⟩
def ADC.CORE_STATUS.GUEST (i : Nat) : Field := ⟨0x22E04 + 8 * i, 3, 1⟩
def ADC.CORE_STATUS.UNPROVED (i : Nat) : Field := ⟨0x22E04 + 8 * i, 4, 1⟩
/-- GATE.LEG_CTRL (10, R272). -/
def GATE.LEG_CTRL.off (i : Nat) : Nat := 0x24000 + 128 * i
def GATE.LEG_CTRL.USE (i : Nat) : Field := ⟨0x24000 + 128 * i, 0, 2⟩
def GATE.LEG_CTRL.CARRIER (i : Nat) : Field := ⟨0x24000 + 128 * i, 2, 3⟩
/-- GATE.TIMING (10, R272). -/
def GATE.TIMING.off (i : Nat) : Nat := 0x24004 + 128 * i
def GATE.TIMING.KERN (i : Nat) : Field := ⟨0x24004 + 128 * i, 0, 7⟩
def GATE.TIMING.ILK_TMO (i : Nat) : Field := ⟨0x24004 + 128 * i, 8, 8⟩
def GATE.TIMING.MIN_PULSE (i : Nat) : Field := ⟨0x24004 + 128 * i, 16, 8⟩
/-- GATE.DESAT (10, R272). -/
def GATE.DESAT.off (i : Nat) : Nat := 0x24008 + 128 * i
def GATE.DESAT.BLANK (i : Nat) : Field := ⟨0x24008 + 128 * i, 0, 8⟩
def GATE.DESAT.TH (i : Nat) : Field := ⟨0x24008 + 128 * i, 8, 8⟩
def GATE.DESAT.FILT (i : Nat) : Field := ⟨0x24008 + 128 * i, 16, 4⟩
def GATE.DESAT.COARSE_EN (i : Nat) : Field := ⟨0x24008 + 128 * i, 20, 1⟩
/-- GATE.GSENSE (10, R272). -/
def GATE.GSENSE.off (i : Nat) : Nat := 0x2400C + 128 * i
def GATE.GSENSE.GOFF (i : Nat) : Field := ⟨0x2400C + 128 * i, 0, 5⟩
def GATE.GSENSE.GON (i : Nat) : Field := ⟨0x2400C + 128 * i, 8, 6⟩
/-- GATE.BOOT (10, R272). -/
def GATE.BOOT.off (i : Nat) : Nat := 0x24010 + 128 * i
def GATE.BOOT.HOLD (i : Nat) : Field := ⟨0x24010 + 128 * i, 0, 10⟩
def GATE.BOOT.REFRESH (i : Nat) : Field := ⟨0x24010 + 128 * i, 10, 10⟩
def GATE.BOOT.UV (i : Nat) : Field := ⟨0x24010 + 128 * i, 20, 6⟩
/-- GATE.STATUS (10, R272). -/
def GATE.STATUS.off (i : Nat) : Nat := 0x24040 + 128 * i
def GATE.STATUS.STATE (i : Nat) : Field := ⟨0x24040 + 128 * i, 0, 3⟩
def GATE.STATUS.SIDE (i : Nat) : Field := ⟨0x24040 + 128 * i, 3, 2⟩
def GATE.STATUS.DESAT_H (i : Nat) : Field := ⟨0x24040 + 128 * i, 5, 1⟩
def GATE.STATUS.DESAT_L (i : Nat) : Field := ⟨0x24040 + 128 * i, 6, 1⟩
def GATE.STATUS.COARSE_H (i : Nat) : Field := ⟨0x24040 + 128 * i, 7, 1⟩
def GATE.STATUS.COARSE_L (i : Nat) : Field := ⟨0x24040 + 128 * i, 8, 1⟩
def GATE.STATUS.ILK_H (i : Nat) : Field := ⟨0x24040 + 128 * i, 9, 1⟩
def GATE.STATUS.ILK_L (i : Nat) : Field := ⟨0x24040 + 128 * i, 10, 1⟩
def GATE.STATUS.OFF_H (i : Nat) : Field := ⟨0x24040 + 128 * i, 11, 1⟩
def GATE.STATUS.OFF_L (i : Nat) : Field := ⟨0x24040 + 128 * i, 12, 1⟩
def GATE.STATUS.BS_UV (i : Nat) : Field := ⟨0x24040 + 128 * i, 13, 1⟩
def GATE.STATUS.GS_H (i : Nat) : Field := ⟨0x24040 + 128 * i, 14, 1⟩
def GATE.STATUS.GS_L (i : Nat) : Field := ⟨0x24040 + 128 * i, 15, 1⟩
def GATE.STATUS.H_LATCHED (i : Nat) : Field := ⟨0x24040 + 128 * i, 16, 1⟩
def GATE.STATUS.L_LATCHED (i : Nat) : Field := ⟨0x24040 + 128 * i, 17, 1⟩
/-- GATE.COUNTS (10, R272). -/
def GATE.COUNTS.off (i : Nat) : Nat := 0x24044 + 128 * i
def GATE.COUNTS.TRIPS (i : Nat) : Field := ⟨0x24044 + 128 * i, 0, 8⟩
def GATE.COUNTS.ILK (i : Nat) : Field := ⟨0x24044 + 128 * i, 8, 8⟩
def GATE.COUNTS.REFRESHES (i : Nat) : Field := ⟨0x24044 + 128 * i, 16, 16⟩
/-- GATE.ST_DESAT (10, R272). -/
def GATE.ST_DESAT.off (i : Nat) : Nat := 0x24048 + 128 * i
def GATE.ST_DESAT.H (i : Nat) : Field := ⟨0x24048 + 128 * i, 0, 16⟩
def GATE.ST_DESAT.L (i : Nat) : Field := ⟨0x24048 + 128 * i, 16, 16⟩
/-- GATE.ST_GSENSE (10, R272). -/
def GATE.ST_GSENSE.off (i : Nat) : Nat := 0x2404C + 128 * i
def GATE.ST_GSENSE.H (i : Nat) : Field := ⟨0x2404C + 128 * i, 0, 16⟩
def GATE.ST_GSENSE.L (i : Nat) : Field := ⟨0x2404C + 128 * i, 16, 16⟩
/-- GATE.ST_BOOT (10, R272). -/
def GATE.ST_BOOT.off (i : Nat) : Nat := 0x24050 + 128 * i
def GATE.ST_BOOT.H (i : Nat) : Field := ⟨0x24050 + 128 * i, 0, 16⟩
def GATE.ST_BOOT.PASS (i : Nat) : Field := ⟨0x24050 + 128 * i, 16, 6⟩
def GATE.ST_BOOT.TESTED (i : Nat) : Field := ⟨0x24050 + 128 * i, 22, 6⟩
/-- GATE.CAR_CTRL (10, R273). -/
def GATE.CAR_CTRL.off (i : Nat) : Nat := 0x25000 + 32 * i
def GATE.CAR_CTRL.EN (i : Nat) : Field := ⟨0x25000 + 32 * i, 0, 1⟩
def GATE.CAR_CTRL.ALIGN (i : Nat) : Field := ⟨0x25000 + 32 * i, 1, 1⟩
def GATE.CAR_CTRL.FULL (i : Nat) : Field := ⟨0x25000 + 32 * i, 2, 1⟩
def GATE.CAR_CTRL.SLEW (i : Nat) : Field := ⟨0x25000 + 32 * i, 3, 4⟩
/-- GATE.CAR_PERIOD (10, R273). -/
def GATE.CAR_PERIOD.off (i : Nat) : Nat := 0x25004 + 32 * i
def GATE.CAR_PERIOD.PERIOD (i : Nat) : Field := ⟨0x25004 + 32 * i, 0, 16⟩
/-- GATE.CAR_PHASE (10, R273). -/
def GATE.CAR_PHASE.off (i : Nat) : Nat := 0x25008 + 32 * i
def GATE.CAR_PHASE.PHASE (i : Nat) : Field := ⟨0x25008 + 32 * i, 0, 16⟩
/-- GATE.CAR_STATUS (10, R273). -/
def GATE.CAR_STATUS.off (i : Nat) : Nat := 0x2500C + 32 * i
def GATE.CAR_STATUS.ALIGNED (i : Nat) : Field := ⟨0x2500C + 32 * i, 0, 1⟩
def GATE.CAR_STATUS.ALIGN_ERR (i : Nat) : Field := ⟨0x2500C + 32 * i, 16, 16⟩
/-- GATE.CAR_COUNT (10, R273). -/
def GATE.CAR_COUNT.off (i : Nat) : Nat := 0x25010 + 32 * i
def GATE.CAR_COUNT.PERIODS (i : Nat) : Field := ⟨0x25010 + 32 * i, 0, 32⟩
/-- GATE.OV_A (10, R273). -/
def GATE.OV_A.off : Nat := 0x25100
def GATE.OV_A.OV1 : Field := ⟨0x25100, 0, 16⟩
def GATE.OV_A.OV2 : Field := ⟨0x25100, 16, 16⟩
/-- GATE.OV_B (10, R273). -/
def GATE.OV_B.off : Nat := 0x25104
def GATE.OV_B.OV3 : Field := ⟨0x25104, 0, 16⟩
def GATE.OV_B.OV4 : Field := ⟨0x25104, 16, 16⟩
/-- GATE.OV_CTRL (10, R273). -/
def GATE.OV_CTRL.off : Nat := 0x25108
def GATE.OV_CTRL.HYST : Field := ⟨0x25108, 0, 8⟩
def GATE.OV_CTRL.REL : Field := ⟨0x25108, 8, 8⟩
def GATE.OV_CTRL.VDC_MIN : Field := ⟨0x25108, 16, 16⟩
/-- GATE.CHP_CTRL (10, R273). -/
def GATE.CHP_CTRL.off : Nat := 0x2510C
def GATE.CHP_CTRL.EN0 : Field := ⟨0x2510C, 0, 1⟩
def GATE.CHP_CTRL.EN1 : Field := ⟨0x2510C, 1, 1⟩
def GATE.CHP_CTRL.OPEN_PCT : Field := ⟨0x2510C, 8, 8⟩
def GATE.CHP_CTRL.OFF_I : Field := ⟨0x2510C, 16, 8⟩
def GATE.CHP_CTRL.MINT : Field := ⟨0x2510C, 24, 8⟩
/-- GATE.CHP_RES (10, R273). -/
def GATE.CHP_RES.off : Nat := 0x25110
def GATE.CHP_RES.R0 : Field := ⟨0x25110, 0, 16⟩
def GATE.CHP_RES.R1 : Field := ⟨0x25110, 16, 16⟩
/-- GATE.OV_STATUS (10, R273). -/
def GATE.OV_STATUS.off : Nat := 0x25114
def GATE.OV_STATUS.ZONE : Field := ⟨0x25114, 0, 2⟩
def GATE.OV_STATUS.OV3_ACTIVE : Field := ⟨0x25114, 2, 1⟩
def GATE.OV_STATUS.OV4_LATCHED : Field := ⟨0x25114, 3, 1⟩
def GATE.OV_STATUS.FROM_OV1 : Field := ⟨0x25114, 4, 1⟩
def GATE.OV_STATUS.CHP_FAULT : Field := ⟨0x25114, 5, 2⟩
def GATE.OV_STATUS.CHP_ON : Field := ⟨0x25114, 7, 2⟩
def GATE.OV_STATUS.F : Field := ⟨0x25114, 16, 16⟩
/-- GATE.DIE_STATUS (10, R273). -/
def GATE.DIE_STATUS.off : Nat := 0x25118
def GATE.DIE_STATUS.LINK : Field := ⟨0x25118, 0, 2⟩
def GATE.DIE_STATUS.FORCE : Field := ⟨0x25118, 2, 2⟩
def GATE.DIE_STATUS.VGD_OK : Field := ⟨0x25118, 4, 1⟩
def GATE.DIE_STATUS.OV4 : Field := ⟨0x25118, 5, 2⟩
/-- GATE.ST_CTRL (10, R273). -/
def GATE.ST_CTRL.off : Nat := 0x2511C
def GATE.ST_CTRL.BG_EN : Field := ⟨0x2511C, 0, 1⟩
/-- GATE.GATE_COUNTS (10, R273). -/
def GATE.GATE_COUNTS.off : Nat := 0x25120
def GATE.GATE_COUNTS.OV3 : Field := ⟨0x25120, 0, 8⟩
def GATE.GATE_COUNTS.OV4 : Field := ⟨0x25120, 8, 8⟩
def GATE.GATE_COUNTS.CHOP : Field := ⟨0x25120, 16, 8⟩
def GATE.GATE_COUNTS.NO_SIDE : Field := ⟨0x25120, 24, 8⟩
/-- GATE.BRIDGE (10, R273). -/
def GATE.BRIDGE.off (i : Nat) : Nat := 0x25140 + 4 * i
def GATE.BRIDGE.ASC_DEF (i : Nat) : Field := ⟨0x25140 + 4 * i, 0, 1⟩
def GATE.BRIDGE.SIDE (i : Nat) : Field := ⟨0x25140 + 4 * i, 1, 2⟩
def GATE.BRIDGE.SHORT_LOCK (i : Nat) : Field := ⟨0x25140 + 4 * i, 3, 1⟩
def GATE.BRIDGE.EVENTS (i : Nat) : Field := ⟨0x25140 + 4 * i, 4, 4⟩
/-- TIME.CTRL (11, R293). -/
def TIME.CTRL.off : Nat := 0x9000
def TIME.CTRL.PTP_EN : Field := ⟨0x9000, 0, 1⟩
def TIME.CTRL.NET_PREF : Field := ⟨0x9000, 1, 1⟩
def TIME.CTRL.DELAY_MECH : Field := ⟨0x9000, 2, 1⟩
def TIME.CTRL.TRANSPORT : Field := ⟨0x9000, 3, 1⟩
def TIME.CTRL.DOMAIN : Field := ⟨0x9000, 4, 8⟩
def TIME.CTRL.GM_EN : Field := ⟨0x9000, 12, 1⟩
def TIME.CTRL.GM_LANE : Field := ⟨0x9000, 13, 2⟩
def TIME.CTRL.TC_EN : Field := ⟨0x9000, 15, 1⟩
def TIME.CTRL.SYNC_EXP : Field := ⟨0x9000, 16, 3⟩
/-- TIME.SERVO (11, R293). -/
def TIME.SERVO.off : Nat := 0x9004
def TIME.SERVO.STEP_TH : Field := ⟨0x9004, 0, 8⟩
def TIME.SERVO.SLEW_PPM : Field := ⟨0x9004, 8, 8⟩
def TIME.SERVO.LOCK_N : Field := ⟨0x9004, 16, 4⟩
/-- TIME.HOLD (11, R293). -/
def TIME.HOLD.off : Nat := 0x9008
def TIME.HOLD.HOLDOVER : Field := ⟨0x9008, 0, 12⟩
def TIME.HOLD.CMP_TOL : Field := ⟨0x9008, 12, 10⟩
/-- TIME.GM_CFG (11, R293). -/
def TIME.GM_CFG.off : Nat := 0x900C
def TIME.GM_CFG.PRIO1 : Field := ⟨0x900C, 0, 8⟩
def TIME.GM_CFG.PRIO2 : Field := ⟨0x900C, 8, 8⟩
def TIME.GM_CFG.CLASS : Field := ⟨0x900C, 16, 8⟩
/-- TIME.STATUS (11, R293). -/
def TIME.STATUS.off : Nat := 0x9020
def TIME.STATUS.FORM : Field := ⟨0x9020, 0, 1⟩
def TIME.STATUS.SOURCE : Field := ⟨0x9020, 1, 3⟩
def TIME.STATUS.ACQUIRING : Field := ⟨0x9020, 4, 1⟩
def TIME.STATUS.STEP_PENDING : Field := ⟨0x9020, 5, 1⟩
def TIME.STATUS.GM_SUSPECT : Field := ⟨0x9020, 6, 1⟩
def TIME.STATUS.GM_DIFFERS : Field := ⟨0x9020, 7, 1⟩
def TIME.STATUS.HOLD_LEFT : Field := ⟨0x9020, 16, 16⟩
/-- TIME.COUNTS (11, R293). -/
def TIME.COUNTS.off : Nat := 0x9024
def TIME.COUNTS.STEPS : Field := ⟨0x9024, 0, 8⟩
def TIME.COUNTS.GM_LOSSES : Field := ⟨0x9024, 8, 8⟩
def TIME.COUNTS.TIME_DIFF : Field := ⟨0x9024, 16, 8⟩
def TIME.COUNTS.SUSPECT : Field := ⟨0x9024, 24, 8⟩
/-- TIME.NOW (11, R293). -/
def TIME.NOW.off : Nat := 0x9028
def TIME.NOW.VALUE : Field := ⟨0x9028, 0, 64⟩
/-- TIME.NOW_HI (11, R293). -/
def TIME.NOW_HI.off : Nat := 0x9030
def TIME.NOW_HI.SEC_HI : Field := ⟨0x9030, 0, 16⟩
/-- TIME.TCOUNT (11, R293). -/
def TIME.TCOUNT.off : Nat := 0x9038
def TIME.TCOUNT.VALUE : Field := ⟨0x9038, 0, 64⟩
/-- TIME.OFFSET_GM (11, R293). -/
def TIME.OFFSET_GM.off : Nat := 0x9040
def TIME.OFFSET_GM.NS : Field := ⟨0x9040, 0, 32⟩
/-- TIME.RATE (11, R293). -/
def TIME.RATE.off : Nat := 0x9044
def TIME.RATE.VALUE : Field := ⟨0x9044, 0, 32⟩
/-- TIME.PEER_OFF (11, R293). -/
def TIME.PEER_OFF.off : Nat := 0x9048
def TIME.PEER_OFF.P0 : Field := ⟨0x9048, 0, 16⟩
def TIME.PEER_OFF.P1 : Field := ⟨0x9048, 16, 16⟩
/-- TIME.PATH_DELAY (11, R293). -/
def TIME.PATH_DELAY.off : Nat := 0x904C
def TIME.PATH_DELAY.RED : Field := ⟨0x904C, 0, 16⟩
def TIME.PATH_DELAY.BLUE : Field := ⟨0x904C, 16, 16⟩
/-- TIME.GM_ID (11, R293). -/
def TIME.GM_ID.off : Nat := 0x9050
def TIME.GM_ID.ID : Field := ⟨0x9050, 0, 64⟩
/-- TIME.TC_COUNTS (11, R293). -/
def TIME.TC_COUNTS.off : Nat := 0x9058
def TIME.TC_COUNTS.RED : Field := ⟨0x9058, 0, 16⟩
def TIME.TC_COUNTS.BLUE : Field := ⟨0x9058, 16, 16⟩
/-- TIME.TC_MAXRES (11, R293). -/
def TIME.TC_MAXRES.off : Nat := 0x905C
def TIME.TC_MAXRES.RED : Field := ⟨0x905C, 0, 16⟩
def TIME.TC_MAXRES.BLUE : Field := ⟨0x905C, 16, 16⟩
/-- TIME.LAT (11, R293). -/
def TIME.LAT.off (i : Nat) : Nat := 0x9060 + 4 * i
def TIME.LAT.INGRESS (i : Nat) : Field := ⟨0x9060 + 4 * i, 0, 16⟩
def TIME.LAT.EGRESS (i : Nat) : Field := ⟨0x9060 + 4 * i, 16, 16⟩
/-- TIME.CMP_CTRL (11, R293). -/
def TIME.CMP_CTRL.off (i : Nat) : Nat := 0x9080 + 8 * i
def TIME.CMP_CTRL.EN (i : Nat) : Field := ⟨0x9080 + 8 * i, 0, 1⟩
def TIME.CMP_CTRL.TIME80_ONLY (i : Nat) : Field := ⟨0x9080 + 8 * i, 1, 1⟩
def TIME.CMP_CTRL.PHASE (i : Nat) : Field := ⟨0x9080 + 8 * i, 8, 24⟩
/-- TIME.CMP_PERIOD (11, R293). -/
def TIME.CMP_PERIOD.off (i : Nat) : Nat := 0x9084 + 8 * i
def TIME.CMP_PERIOD.PERIOD (i : Nat) : Field := ⟨0x9084 + 8 * i, 0, 24⟩
/-- NET.PORT_CTRL (12, R320). -/
def NET.PORT_CTRL.off (i : Nat) : Nat := 0xA000 + 2048 * i
def NET.PORT_CTRL.EN0 (i : Nat) : Field := ⟨0xA000 + 2048 * i, 0, 1⟩
def NET.PORT_CTRL.EN1 (i : Nat) : Field := ⟨0xA000 + 2048 * i, 1, 1⟩
def NET.PORT_CTRL.SPEED0 (i : Nat) : Field := ⟨0xA000 + 2048 * i, 2, 2⟩
def NET.PORT_CTRL.SPEED1 (i : Nat) : Field := ⟨0xA000 + 2048 * i, 4, 2⟩
def NET.PORT_CTRL.MACSEC0 (i : Nat) : Field := ⟨0xA000 + 2048 * i, 6, 1⟩
def NET.PORT_CTRL.MACSEC1 (i : Nat) : Field := ⟨0xA000 + 2048 * i, 7, 1⟩
def NET.PORT_CTRL.QBV0 (i : Nat) : Field := ⟨0xA000 + 2048 * i, 8, 1⟩
def NET.PORT_CTRL.QBV1 (i : Nat) : Field := ⟨0xA000 + 2048 * i, 9, 1⟩
/-- NET.PORT_STATUS (12, R320). -/
def NET.PORT_STATUS.off (i : Nat) : Nat := 0xA004 + 2048 * i
def NET.PORT_STATUS.LINK0 (i : Nat) : Field := ⟨0xA004 + 2048 * i, 0, 1⟩
def NET.PORT_STATUS.LINK1 (i : Nat) : Field := ⟨0xA004 + 2048 * i, 1, 1⟩
def NET.PORT_STATUS.RATE0 (i : Nat) : Field := ⟨0xA004 + 2048 * i, 2, 2⟩
def NET.PORT_STATUS.RATE1 (i : Nat) : Field := ⟨0xA004 + 2048 * i, 4, 2⟩
def NET.PORT_STATUS.LOST (i : Nat) : Field := ⟨0xA004 + 2048 * i, 6, 1⟩
def NET.PORT_STATUS.SPEAKER (i : Nat) : Field := ⟨0xA004 + 2048 * i, 7, 1⟩
def NET.PORT_STATUS.STOPPING (i : Nat) : Field := ⟨0xA004 + 2048 * i, 8, 2⟩
/-- NET.BRIDGE (12, R320). -/
def NET.BRIDGE.off (i : Nat) : Nat := 0xA008 + 2048 * i
def NET.BRIDGE.AGE (i : Nat) : Field := ⟨0xA008 + 2048 * i, 0, 10⟩
def NET.BRIDGE.LEARN (i : Nat) : Field := ⟨0xA008 + 2048 * i, 10, 1⟩
/-- NET.MAC_LO (12, R320). -/
def NET.MAC_LO.off (i : Nat) : Nat := 0xA00C + 2048 * i
def NET.MAC_LO.ADDR (i : Nat) : Field := ⟨0xA00C + 2048 * i, 0, 32⟩
/-- NET.MAC_HI (12, R320). -/
def NET.MAC_HI.off (i : Nat) : Nat := 0xA010 + 2048 * i
def NET.MAC_HI.ADDR (i : Nat) : Field := ⟨0xA010 + 2048 * i, 0, 16⟩
/-- NET.QBV_BASE_NS (12, R320). -/
def NET.QBV_BASE_NS.off (i : Nat) (j : Nat) : Nat := 0xA020 + 2048 * i + 16 * j
def NET.QBV_BASE_NS.NS (i : Nat) (j : Nat) : Field := ⟨0xA020 + 2048 * i + 16 * j, 0, 30⟩
/-- NET.QBV_BASE_S (12, R320). -/
def NET.QBV_BASE_S.off (i : Nat) (j : Nat) : Nat := 0xA024 + 2048 * i + 16 * j
def NET.QBV_BASE_S.S (i : Nat) (j : Nat) : Field := ⟨0xA024 + 2048 * i + 16 * j, 0, 32⟩
/-- NET.QBV_CYCLE (12, R320). -/
def NET.QBV_CYCLE.off (i : Nat) (j : Nat) : Nat := 0xA028 + 2048 * i + 16 * j
def NET.QBV_CYCLE.CYCLE (i : Nat) (j : Nat) : Field := ⟨0xA028 + 2048 * i + 16 * j, 0, 27⟩
/-- NET.QBV_LEN (12, R320). -/
def NET.QBV_LEN.off (i : Nat) (j : Nat) : Nat := 0xA02C + 2048 * i + 16 * j
def NET.QBV_LEN.ENTRIES (i : Nat) (j : Nat) : Field := ⟨0xA02C + 2048 * i + 16 * j, 0, 7⟩
/-- NET.MS_SAK (12, R320). -/
def NET.MS_SAK.off (i : Nat) (j : Nat) (k : Nat) : Nat := 0xA040 + 2048 * i + 48 * j + 4 * k
def NET.MS_SAK.KEY (i : Nat) (j : Nat) (k : Nat) : Field := ⟨0xA040 + 2048 * i + 48 * j + 4 * k, 0, 32⟩
/-- NET.MS_SCI_LO (12, R320). -/
def NET.MS_SCI_LO.off (i : Nat) (j : Nat) : Nat := 0xA050 + 2048 * i + 48 * j
def NET.MS_SCI_LO.SCI (i : Nat) (j : Nat) : Field := ⟨0xA050 + 2048 * i + 48 * j, 0, 32⟩
/-- NET.MS_SCI_HI (12, R320). -/
def NET.MS_SCI_HI.off (i : Nat) (j : Nat) : Nat := 0xA054 + 2048 * i + 48 * j
def NET.MS_SCI_HI.SCI (i : Nat) (j : Nat) : Field := ⟨0xA054 + 2048 * i + 48 * j, 0, 32⟩
/-- NET.MS_RSCI_LO (12, R320). -/
def NET.MS_RSCI_LO.off (i : Nat) (j : Nat) : Nat := 0xA058 + 2048 * i + 48 * j
def NET.MS_RSCI_LO.SCI (i : Nat) (j : Nat) : Field := ⟨0xA058 + 2048 * i + 48 * j, 0, 32⟩
/-- NET.MS_RSCI_HI (12, R320). -/
def NET.MS_RSCI_HI.off (i : Nat) (j : Nat) : Nat := 0xA05C + 2048 * i + 48 * j
def NET.MS_RSCI_HI.SCI (i : Nat) (j : Nat) : Field := ⟨0xA05C + 2048 * i + 48 * j, 0, 32⟩
/-- NET.MS_CTRL (12, R320). -/
def NET.MS_CTRL.off (i : Nat) (j : Nat) : Nat := 0xA060 + 2048 * i + 48 * j
def NET.MS_CTRL.AN (i : Nat) (j : Nat) : Field := ⟨0xA060 + 2048 * i + 48 * j, 0, 2⟩
def NET.MS_CTRL.STRICT (i : Nat) (j : Nat) : Field := ⟨0xA060 + 2048 * i + 48 * j, 2, 1⟩
/-- NET.PORT_CNT0 (12, R320). -/
def NET.PORT_CNT0.off (i : Nat) (j : Nat) : Nat := 0xA0A0 + 2048 * i + 8 * j
def NET.PORT_CNT0.FCS_ERR (i : Nat) (j : Nat) : Field := ⟨0xA0A0 + 2048 * i + 8 * j, 0, 16⟩
def NET.PORT_CNT0.DROPPED (i : Nat) (j : Nat) : Field := ⟨0xA0A0 + 2048 * i + 8 * j, 16, 16⟩
/-- NET.PORT_CNT1 (12, R320). -/
def NET.PORT_CNT1.off (i : Nat) (j : Nat) : Nat := 0xA0A4 + 2048 * i + 8 * j
def NET.PORT_CNT1.MACSEC_FAIL (i : Nat) (j : Nat) : Field := ⟨0xA0A4 + 2048 * i + 8 * j, 0, 16⟩
def NET.PORT_CNT1.INT_DROP (i : Nat) (j : Nat) : Field := ⟨0xA0A4 + 2048 * i + 8 * j, 16, 16⟩
/-- NET.GCL (12, R320). -/
def NET.GCL.off (i : Nat) (j : Nat) (k : Nat) : Nat := 0xA100 + 2048 * i + 256 * j + 4 * k
def NET.GCL.GATES (i : Nat) (j : Nat) (k : Nat) : Field := ⟨0xA100 + 2048 * i + 256 * j + 4 * k, 0, 8⟩
def NET.GCL.TIME (i : Nat) (j : Nat) (k : Nat) : Field := ⟨0xA100 + 2048 * i + 256 * j + 4 * k, 8, 24⟩
/-- NET.YW_CTRL (12, R321). -/
def NET.YW_CTRL.off : Nat := 0xA400
def NET.YW_CTRL.EN : Field := ⟨0xA400, 0, 1⟩
def NET.YW_CTRL.ANS_DLY : Field := ⟨0xA400, 1, 5⟩
def NET.YW_CTRL.ETYPE : Field := ⟨0xA400, 16, 16⟩
/-- NET.YW_VLAN (12, R321). -/
def NET.YW_VLAN.off : Nat := 0xA404
def NET.YW_VLAN.VID : Field := ⟨0xA404, 0, 12⟩
def NET.YW_VLAN.PCP : Field := ⟨0xA404, 12, 3⟩
def NET.YW_VLAN.TAG : Field := ⟨0xA404, 15, 1⟩
/-- NET.YW_MASTER (12, R321). -/
def NET.YW_MASTER.off : Nat := 0xA408
def NET.YW_MASTER.NODE : Field := ⟨0xA408, 0, 18⟩
/-- NET.YW_GW (12, R321). -/
def NET.YW_GW.off : Nat := 0xA40C
def NET.YW_GW.NODE : Field := ⟨0xA40C, 0, 18⟩
def NET.YW_GW.EN : Field := ⟨0xA40C, 18, 1⟩
/-- NET.YW_TMO (12, R321). -/
def NET.YW_TMO.off : Nat := 0xA410
def NET.YW_TMO.SAFE_TMO : Field := ⟨0xA410, 0, 9⟩
def NET.YW_TMO.SKEW : Field := ⟨0xA410, 16, 10⟩
/-- NET.YW_LIMIT (12, R321). -/
def NET.YW_LIMIT.off : Nat := 0xA414
def NET.YW_LIMIT.MINGAP : Field := ⟨0xA414, 0, 8⟩
/-- NET.FLEET_CTRL (12, R321). -/
def NET.FLEET_CTRL.off : Nat := 0xA418
def NET.FLEET_CTRL.EN : Field := ⟨0xA418, 0, 1⟩
def NET.FLEET_CTRL.ACCEPT_NOSYNC : Field := ⟨0xA418, 1, 1⟩
/-- NET.FLEET_ZONE (12, R321). -/
def NET.FLEET_ZONE.off : Nat := 0xA41C
def NET.FLEET_ZONE.VALUE : Field := ⟨0xA41C, 0, 32⟩
/-- NET.FLEET_GROUPS_LO (12, R321). -/
def NET.FLEET_GROUPS_LO.off : Nat := 0xA420
def NET.FLEET_GROUPS_LO.VALUE : Field := ⟨0xA420, 0, 32⟩
/-- NET.FLEET_GROUPS_HI (12, R321). -/
def NET.FLEET_GROUPS_HI.off : Nat := 0xA424
def NET.FLEET_GROUPS_HI.VALUE : Field := ⟨0xA424, 0, 32⟩
/-- NET.SESS_STATUS (12, R321). -/
def NET.SESS_STATUS.off (i : Nat) : Nat := 0xA440 + 64 * i
def NET.SESS_STATUS.STATE (i : Nat) : Field := ⟨0xA440 + 64 * i, 0, 2⟩
def NET.SESS_STATUS.AGING (i : Nat) : Field := ⟨0xA440 + 64 * i, 2, 1⟩
/-- NET.SESS_ID (12, R321). -/
def NET.SESS_ID.off (i : Nat) : Nat := 0xA444 + 64 * i
def NET.SESS_ID.VALUE (i : Nat) : Field := ⟨0xA444 + 64 * i, 0, 32⟩
/-- NET.SEQ_HI (12, R321). -/
def NET.SEQ_HI.off (i : Nat) : Nat := 0xA448 + 64 * i
def NET.SEQ_HI.VALUE (i : Nat) : Field := ⟨0xA448 + 64 * i, 0, 32⟩
/-- NET.DECIDED (12, R321). -/
def NET.DECIDED.off (i : Nat) : Nat := 0xA44C + 64 * i
def NET.DECIDED.COUNT (i : Nat) : Field := ⟨0xA44C + 64 * i, 0, 32⟩
/-- NET.PAIRED (12, R321). -/
def NET.PAIRED.off (i : Nat) : Nat := 0xA450 + 64 * i
def NET.PAIRED.COUNT (i : Nat) : Field := ⟨0xA450 + 64 * i, 0, 32⟩
/-- NET.SINGLE (12, R321). -/
def NET.SINGLE.off (i : Nat) : Nat := 0xA454 + 64 * i
def NET.SINGLE.COUNT (i : Nat) : Field := ⟨0xA454 + 64 * i, 0, 32⟩
/-- NET.DIFFER (12, R321). -/
def NET.DIFFER.off (i : Nat) : Nat := 0xA458 + 64 * i
def NET.DIFFER.COUNT (i : Nat) : Field := ⟨0xA458 + 64 * i, 0, 32⟩
/-- NET.MISSING (12, R321). -/
def NET.MISSING.off (i : Nat) : Nat := 0xA45C + 64 * i
def NET.MISSING.COUNT (i : Nat) : Field := ⟨0xA45C + 64 * i, 0, 32⟩
/-- NET.REPLAY (12, R321). -/
def NET.REPLAY.off (i : Nat) : Nat := 0xA460 + 64 * i
def NET.REPLAY.COUNT (i : Nat) : Field := ⟨0xA460 + 64 * i, 0, 32⟩
/-- NET.AUTH_FAIL (12, R321). -/
def NET.AUTH_FAIL.off (i : Nat) : Nat := 0xA464 + 64 * i
def NET.AUTH_FAIL.COUNT (i : Nat) : Field := ⟨0xA464 + 64 * i, 0, 32⟩
/-- NET.LATE_COPY (12, R321). -/
def NET.LATE_COPY.off (i : Nat) : Nat := 0xA468 + 64 * i
def NET.LATE_COPY.COUNT (i : Nat) : Field := ⟨0xA468 + 64 * i, 0, 32⟩
/-- NET.ANS_LATE (12, R321). -/
def NET.ANS_LATE.off (i : Nat) : Nat := 0xA46C + 64 * i
def NET.ANS_LATE.COUNT (i : Nat) : Field := ⟨0xA46C + 64 * i, 0, 32⟩
/-- NET.RESTARTS (12, R321). -/
def NET.RESTARTS.off (i : Nat) : Nat := 0xA470 + 64 * i
def NET.RESTARTS.COUNT (i : Nat) : Field := ⟨0xA470 + 64 * i, 0, 32⟩
/-- NET.FLOOD (12, R321). -/
def NET.FLOOD.off (i : Nat) : Nat := 0xA474 + 64 * i
def NET.FLOOD.COUNT (i : Nat) : Field := ⟨0xA474 + 64 * i, 0, 32⟩
/-- NET.KEY_FAIL (12, R321). -/
def NET.KEY_FAIL.off (i : Nat) : Nat := 0xA478 + 64 * i
def NET.KEY_FAIL.COUNT (i : Nat) : Field := ⟨0xA478 + 64 * i, 0, 32⟩
/-- NET.FLEET_STATUS (12, R321). -/
def NET.FLEET_STATUS.off : Nat := 0xA4C0
def NET.FLEET_STATUS.CAT : Field := ⟨0xA4C0, 0, 2⟩
def NET.FLEET_STATUS.ACTIVE : Field := ⟨0xA4C0, 2, 1⟩
def NET.FLEET_STATUS.REASON : Field := ⟨0xA4C0, 3, 4⟩
/-- NET.FLEET_COUNTS (12, R321). -/
def NET.FLEET_COUNTS.off : Nat := 0xA4C4
def NET.FLEET_COUNTS.ACCEPTED : Field := ⟨0xA4C4, 0, 16⟩
def NET.FLEET_COUNTS.REFUSED : Field := ⟨0xA4C4, 16, 16⟩
/-- NET.FLEET_CTR (12, R321). -/
def NET.FLEET_CTR.off : Nat := 0xA4C8
def NET.FLEET_CTR.VALUE : Field := ⟨0xA4C8, 0, 32⟩
/-- CAN.CAN_CTRL (12, R322). -/
def CAN.CAN_CTRL.off (i : Nat) : Nat := 0xB000 + 2048 * i
def CAN.CAN_CTRL.EN (i : Nat) : Field := ⟨0xB000 + 2048 * i, 0, 1⟩
def CAN.CAN_CTRL.PROTO (i : Nat) : Field := ⟨0xB000 + 2048 * i, 1, 2⟩
def CAN.CAN_CTRL.TDC_EN (i : Nat) : Field := ⟨0xB000 + 2048 * i, 3, 1⟩
def CAN.CAN_CTRL.RX_EN (i : Nat) : Field := ⟨0xB000 + 2048 * i, 4, 1⟩
/-- CAN.NBT (12, R322). -/
def CAN.NBT.off (i : Nat) : Nat := 0xB004 + 2048 * i
def CAN.NBT.BRP (i : Nat) : Field := ⟨0xB004 + 2048 * i, 0, 8⟩
def CAN.NBT.TSEG1 (i : Nat) : Field := ⟨0xB004 + 2048 * i, 8, 8⟩
def CAN.NBT.TSEG2 (i : Nat) : Field := ⟨0xB004 + 2048 * i, 16, 7⟩
def CAN.NBT.SJW (i : Nat) : Field := ⟨0xB004 + 2048 * i, 23, 7⟩
/-- CAN.DBT (12, R322). -/
def CAN.DBT.off (i : Nat) : Nat := 0xB008 + 2048 * i
def CAN.DBT.BRP (i : Nat) : Field := ⟨0xB008 + 2048 * i, 0, 5⟩
def CAN.DBT.TSEG1 (i : Nat) : Field := ⟨0xB008 + 2048 * i, 8, 6⟩
def CAN.DBT.TSEG2 (i : Nat) : Field := ⟨0xB008 + 2048 * i, 14, 4⟩
def CAN.DBT.SJW (i : Nat) : Field := ⟨0xB008 + 2048 * i, 18, 4⟩
def CAN.DBT.TDCO (i : Nat) : Field := ⟨0xB008 + 2048 * i, 22, 7⟩
/-- CAN.XBT (12, R322). -/
def CAN.XBT.off (i : Nat) : Nat := 0xB00C + 2048 * i
def CAN.XBT.BRP (i : Nat) : Field := ⟨0xB00C + 2048 * i, 0, 5⟩
def CAN.XBT.TSEG1 (i : Nat) : Field := ⟨0xB00C + 2048 * i, 8, 6⟩
def CAN.XBT.TSEG2 (i : Nat) : Field := ⟨0xB00C + 2048 * i, 14, 4⟩
def CAN.XBT.SJW (i : Nat) : Field := ⟨0xB00C + 2048 * i, 18, 4⟩
def CAN.XBT.TDCO (i : Nat) : Field := ⟨0xB00C + 2048 * i, 22, 7⟩
/-- CAN.STATUS (12, R322). -/
def CAN.STATUS.off (i : Nat) : Nat := 0xB010 + 2048 * i
def CAN.STATUS.BUS (i : Nat) : Field := ⟨0xB010 + 2048 * i, 0, 2⟩
def CAN.STATUS.SPEAKER (i : Nat) : Field := ⟨0xB010 + 2048 * i, 2, 1⟩
def CAN.STATUS.WAKE (i : Nat) : Field := ⟨0xB010 + 2048 * i, 3, 1⟩
/-- CAN.ERRCNT (12, R322). -/
def CAN.ERRCNT.off (i : Nat) : Nat := 0xB014 + 2048 * i
def CAN.ERRCNT.TEC (i : Nat) : Field := ⟨0xB014 + 2048 * i, 0, 8⟩
def CAN.ERRCNT.REC (i : Nat) : Field := ⟨0xB014 + 2048 * i, 8, 8⟩
def CAN.ERRCNT.BUS_OFFS (i : Nat) : Field := ⟨0xB014 + 2048 * i, 16, 16⟩
/-- CAN.RX_BASE (12, R322). -/
def CAN.RX_BASE.off (i : Nat) : Nat := 0xB018 + 2048 * i
def CAN.RX_BASE.ADDR (i : Nat) : Field := ⟨0xB018 + 2048 * i, 7, 25⟩
/-- CAN.RX_BASE_HI (12, R322). -/
def CAN.RX_BASE_HI.off (i : Nat) : Nat := 0xB01C + 2048 * i
def CAN.RX_BASE_HI.ADDR_HI (i : Nat) : Field := ⟨0xB01C + 2048 * i, 0, 32⟩
/-- CAN.RX_CTRL (12, R322). -/
def CAN.RX_CTRL.off (i : Nat) : Nat := 0xB020 + 2048 * i
def CAN.RX_CTRL.SIZE (i : Nat) : Field := ⟨0xB020 + 2048 * i, 0, 4⟩
/-- CAN.RX_COUNT (12, R322). -/
def CAN.RX_COUNT.off (i : Nat) : Nat := 0xB024 + 2048 * i
def CAN.RX_COUNT.ENTRIES (i : Nat) : Field := ⟨0xB024 + 2048 * i, 0, 32⟩
/-- CAN.COUNTS (12, R322). -/
def CAN.COUNTS.off (i : Nat) : Nat := 0xB028 + 2048 * i
def CAN.COUNTS.DROPPED (i : Nat) : Field := ⟨0xB028 + 2048 * i, 0, 16⟩
def CAN.COUNTS.TX_LATE (i : Nat) : Field := ⟨0xB028 + 2048 * i, 16, 16⟩
/-- CAN.TXO_ID (12, R322). -/
def CAN.TXO_ID.off (i : Nat) (j : Nat) : Nat := 0xB100 + 2048 * i + 8 * j
def CAN.TXO_ID.ID (i : Nat) (j : Nat) : Field := ⟨0xB100 + 2048 * i + 8 * j, 0, 29⟩
def CAN.TXO_ID.IDE (i : Nat) (j : Nat) : Field := ⟨0xB100 + 2048 * i + 8 * j, 29, 1⟩
def CAN.TXO_ID.FD (i : Nat) (j : Nat) : Field := ⟨0xB100 + 2048 * i + 8 * j, 30, 1⟩
def CAN.TXO_ID.EN (i : Nat) (j : Nat) : Field := ⟨0xB100 + 2048 * i + 8 * j, 31, 1⟩
/-- CAN.TXO_CFG (12, R322). -/
def CAN.TXO_CFG.off (i : Nat) (j : Nat) : Nat := 0xB104 + 2048 * i + 8 * j
def CAN.TXO_CFG.OFF (i : Nat) (j : Nat) : Field := ⟨0xB104 + 2048 * i + 8 * j, 0, 12⟩
def CAN.TXO_CFG.LEN (i : Nat) (j : Nat) : Field := ⟨0xB104 + 2048 * i + 8 * j, 12, 7⟩
def CAN.TXO_CFG.PERIOD (i : Nat) (j : Nat) : Field := ⟨0xB104 + 2048 * i + 8 * j, 19, 13⟩
/-- CAN.FLT_ID (12, R322). -/
def CAN.FLT_ID.off (i : Nat) (j : Nat) : Nat := 0xB200 + 2048 * i + 8 * j
def CAN.FLT_ID.ID (i : Nat) (j : Nat) : Field := ⟨0xB200 + 2048 * i + 8 * j, 0, 29⟩
def CAN.FLT_ID.IDE (i : Nat) (j : Nat) : Field := ⟨0xB200 + 2048 * i + 8 * j, 29, 1⟩
def CAN.FLT_ID.EN (i : Nat) (j : Nat) : Field := ⟨0xB200 + 2048 * i + 8 * j, 31, 1⟩
/-- CAN.FLT_MASK (12, R322). -/
def CAN.FLT_MASK.off (i : Nat) (j : Nat) : Nat := 0xB204 + 2048 * i + 8 * j
def CAN.FLT_MASK.MASK (i : Nat) (j : Nat) : Field := ⟨0xB204 + 2048 * i + 8 * j, 0, 29⟩
/-- SIO.CTRL (13, R347). -/
def SIO.CTRL.off : Nat := 0x28000
def SIO.CTRL.EN : Field := ⟨0x28000, 0, 1⟩
def SIO.CTRL.SO_TEST_EN : Field := ⟨0x28000, 1, 1⟩
/-- SIO.TP_CFG (13, R347). -/
def SIO.TP_CFG.off : Nat := 0x28004
def SIO.TP_CFG.EN : Field := ⟨0x28004, 0, 4⟩
def SIO.TP_CFG.PERIOD : Field := ⟨0x28004, 8, 10⟩
def SIO.TP_CFG.WIDTH : Field := ⟨0x28004, 18, 7⟩
/-- SIO.SO_TEST (13, R347). -/
def SIO.SO_TEST.off : Nat := 0x28008
def SIO.SO_TEST.DARK : Field := ⟨0x28008, 0, 8⟩
def SIO.SO_TEST.LIGHT : Field := ⟨0x28008, 8, 8⟩
def SIO.SO_TEST.PERIOD : Field := ⟨0x28008, 16, 8⟩
/-- SIO.SI_LEVEL (13, R347). -/
def SIO.SI_LEVEL.off : Nat := 0x28010
def SIO.SI_LEVEL.LEVEL : Field := ⟨0x28010, 0, 20⟩
/-- SIO.SI_FAULT (13, R347). -/
def SIO.SI_FAULT.off : Nat := 0x28014
def SIO.SI_FAULT.FAULT : Field := ⟨0x28014, 0, 20⟩
/-- SIO.SO_STATUS (13, R347). -/
def SIO.SO_STATUS.off : Nat := 0x28018
def SIO.SO_STATUS.ON : Field := ⟨0x28018, 0, 8⟩
def SIO.SO_STATUS.FAULT : Field := ⟨0x28018, 8, 8⟩
def SIO.SO_STATUS.EDM : Field := ⟨0x28018, 16, 8⟩
def SIO.SO_STATUS.EDM_FAULT : Field := ⟨0x28018, 24, 8⟩
/-- SIO.TP_STATUS (13, R347). -/
def SIO.TP_STATUS.off : Nat := 0x2801C
def SIO.TP_STATUS.FAULT : Field := ⟨0x2801C, 0, 4⟩
def SIO.TP_STATUS.ACTIVE : Field := ⟨0x2801C, 4, 4⟩
/-- SIO.SF_SUMMARY (13, R347). -/
def SIO.SF_SUMMARY.off : Nat := 0x28020
def SIO.SF_SUMMARY.PERMIT : Field := ⟨0x28020, 0, 16⟩
def SIO.SF_SUMMARY.FAULT : Field := ⟨0x28020, 16, 16⟩
/-- SIO.SI_CFG (13, R347). -/
def SIO.SI_CFG.off (i : Nat) : Nat := 0x28040 + 4 * i
def SIO.SI_CFG.TP (i : Nat) : Field := ⟨0x28040 + 4 * i, 0, 3⟩
def SIO.SI_CFG.INV (i : Nat) : Field := ⟨0x28040 + 4 * i, 3, 1⟩
def SIO.SI_CFG.FILT (i : Nat) : Field := ⟨0x28040 + 4 * i, 4, 8⟩
def SIO.SI_CFG.OSSD_FILT (i : Nat) : Field := ⟨0x28040 + 4 * i, 12, 7⟩
def SIO.SI_CFG.WAKE (i : Nat) : Field := ⟨0x28040 + 4 * i, 19, 1⟩
/-- SIO.SO_CFG (13, R347). -/
def SIO.SO_CFG.off (i : Nat) : Nat := 0x280A0 + 4 * i
def SIO.SO_CFG.ROLE (i : Nat) : Field := ⟨0x280A0 + 4 * i, 0, 3⟩
def SIO.SO_CFG.LANES (i : Nat) : Field := ⟨0x280A0 + 4 * i, 3, 3⟩
def SIO.SO_CFG.EDM_POL (i : Nat) : Field := ⟨0x280A0 + 4 * i, 7, 1⟩
def SIO.SO_CFG.TARGET (i : Nat) : Field := ⟨0x280A0 + 4 * i, 8, 8⟩
def SIO.SO_CFG.EDM_TIME (i : Nat) : Field := ⟨0x280A0 + 4 * i, 16, 8⟩
def SIO.SO_CFG.EDM_EN (i : Nat) : Field := ⟨0x280A0 + 4 * i, 24, 1⟩
def SIO.SO_CFG.DARK_EN (i : Nat) : Field := ⟨0x280A0 + 4 * i, 25, 1⟩
def SIO.SO_CFG.LIGHT_EN (i : Nat) : Field := ⟨0x280A0 + 4 * i, 26, 1⟩
/-- SIO.SO_OPS (13, R347). -/
def SIO.SO_OPS.off (i : Nat) : Nat := 0x280C0 + 4 * i
def SIO.SO_OPS.COUNT (i : Nat) : Field := ⟨0x280C0 + 4 * i, 0, 32⟩
/-- SIO.SF_CTRL (13, R347). -/
def SIO.SF_CTRL.off (i : Nat) : Nat := 0x28100 + 32 * i
def SIO.SF_CTRL.TYPE (i : Nat) : Field := ⟨0x28100 + 32 * i, 0, 3⟩
def SIO.SF_CTRL.STOP_CAT (i : Nat) : Field := ⟨0x28100 + 32 * i, 3, 1⟩
def SIO.SF_CTRL.RESTART (i : Nat) : Field := ⟨0x28100 + 32 * i, 4, 1⟩
def SIO.SF_CTRL.LOCK (i : Nat) : Field := ⟨0x28100 + 32 * i, 5, 1⟩
def SIO.SF_CTRL.WIRING (i : Nat) : Field := ⟨0x28100 + 32 * i, 6, 2⟩
def SIO.SF_CTRL.STOP_MAP (i : Nat) : Field := ⟨0x28100 + 32 * i, 8, 8⟩
/-- SIO.SF_IN (13, R347). -/
def SIO.SF_IN.off (i : Nat) : Nat := 0x28104 + 32 * i
def SIO.SF_IN.IN0 (i : Nat) : Field := ⟨0x28104 + 32 * i, 0, 8⟩
def SIO.SF_IN.IN1 (i : Nat) : Field := ⟨0x28104 + 32 * i, 8, 8⟩
def SIO.SF_IN.IN2 (i : Nat) : Field := ⟨0x28104 + 32 * i, 16, 8⟩
def SIO.SF_IN.IN3 (i : Nat) : Field := ⟨0x28104 + 32 * i, 24, 8⟩
/-- SIO.SF_TIME (13, R347). -/
def SIO.SF_TIME.off (i : Nat) : Nat := 0x28108 + 32 * i
def SIO.SF_TIME.DISC (i : Nat) : Field := ⟨0x28108 + 32 * i, 0, 11⟩
def SIO.SF_TIME.SYNC (i : Nat) : Field := ⟨0x28108 + 32 * i, 16, 10⟩
/-- SIO.SF_STATUS (13, R347). -/
def SIO.SF_STATUS.off (i : Nat) : Nat := 0x2810C + 32 * i
def SIO.SF_STATUS.STATE (i : Nat) : Field := ⟨0x2810C + 32 * i, 0, 3⟩
def SIO.SF_STATUS.CH_FAULT (i : Nat) : Field := ⟨0x2810C + 32 * i, 4, 4⟩
def SIO.SF_STATUS.OUT_FAULT (i : Nat) : Field := ⟨0x2810C + 32 * i, 8, 1⟩
def SIO.SF_STATUS.RESTART_REFUSED (i : Nat) : Field := ⟨0x2810C + 32 * i, 9, 1⟩
def SIO.SF_STATUS.STOPPING (i : Nat) : Field := ⟨0x2810C + 32 * i, 10, 1⟩
def SIO.SF_STATUS.CAUSE (i : Nat) : Field := ⟨0x2810C + 32 * i, 16, 8⟩
def SIO.SF_STATUS.CAUSE_IN (i : Nat) : Field := ⟨0x2810C + 32 * i, 24, 4⟩
/-- SIO.SF_COUNTS (13, R347). -/
def SIO.SF_COUNTS.off (i : Nat) : Nat := 0x28110 + 32 * i
def SIO.SF_COUNTS.DEMANDS (i : Nat) : Field := ⟨0x28110 + 32 * i, 0, 16⟩
def SIO.SF_COUNTS.FAULTS (i : Nat) : Field := ⟨0x28110 + 32 * i, 16, 16⟩
/-- SIO.SF_STAMP (13, R347). -/
def SIO.SF_STAMP.off (i : Nat) : Nat := 0x28118 + 32 * i
def SIO.SF_STAMP.NS (i : Nat) : Field := ⟨0x28118 + 32 * i, 0, 32⟩
def SIO.SF_STAMP.S (i : Nat) : Field := ⟨0x2811C + 32 * i, 0, 16⟩
def SIO.SF_STAMP.T32 (i : Nat) : Field := ⟨0x2811C + 32 * i, 31, 1⟩
/-- SIO.SI_STAMP (13, R347). -/
def SIO.SI_STAMP.off (i : Nat) : Nat := 0x28300 + 8 * i
def SIO.SI_STAMP.NS (i : Nat) : Field := ⟨0x28300 + 8 * i, 0, 32⟩
def SIO.SI_STAMP.S (i : Nat) : Field := ⟨0x28304 + 8 * i, 0, 16⟩
def SIO.SI_STAMP.T32 (i : Nat) : Field := ⟨0x28304 + 8 * i, 31, 1⟩
/-- IRQ.STATUS (14, R365). -/
def IRQ.STATUS.off (i : Nat) : Nat := 0x4000 + 2048 * i
def IRQ.STATUS.LEAD (i : Nat) : Field := ⟨0x4000 + 2048 * i, 0, 1⟩
def IRQ.STATUS.WRITE_REFUSED (i : Nat) : Field := ⟨0x4000 + 2048 * i, 1, 1⟩
/-- IRQ.DELIVERIES (14, R365). -/
def IRQ.DELIVERIES.off (i : Nat) : Nat := 0x4004 + 2048 * i
def IRQ.DELIVERIES.COUNT (i : Nat) : Field := ⟨0x4004 + 2048 * i, 0, 32⟩
/-- IRQ.EVENTS (14, R365). -/
def IRQ.EVENTS.off (i : Nat) : Nat := 0x4008 + 2048 * i
def IRQ.EVENTS.UNDER_MASK (i : Nat) : Field := ⟨0x4008 + 2048 * i, 0, 16⟩
def IRQ.EVENTS.REDELIVERED (i : Nat) : Field := ⟨0x4008 + 2048 * i, 16, 8⟩
def IRQ.EVENTS.PREEMPTED (i : Nat) : Field := ⟨0x4008 + 2048 * i, 24, 8⟩
/-- IRQ.MASK (14, R365). -/
def IRQ.MASK.off (i : Nat) (j : Nat) : Nat := 0x4020 + 2048 * i + 4 * j
def IRQ.MASK.MASK0 (i : Nat) (j : Nat) : Field := ⟨0x4020 + 2048 * i + 4 * j, 0, 8⟩
def IRQ.MASK.MASK1 (i : Nat) (j : Nat) : Field := ⟨0x4020 + 2048 * i + 4 * j, 8, 8⟩
def IRQ.MASK.MASK2 (i : Nat) (j : Nat) : Field := ⟨0x4020 + 2048 * i + 4 * j, 16, 8⟩
def IRQ.MASK.MASK3 (i : Nat) (j : Nat) : Field := ⟨0x4020 + 2048 * i + 4 * j, 24, 8⟩
/-- IRQ.CAUSE (14, R365). -/
def IRQ.CAUSE.off (i : Nat) (j : Nat) : Nat := 0x4040 + 2048 * i + 4 * j
def IRQ.CAUSE.CAUSE0 (i : Nat) (j : Nat) : Field := ⟨0x4040 + 2048 * i + 4 * j, 0, 8⟩
def IRQ.CAUSE.CAUSE1 (i : Nat) (j : Nat) : Field := ⟨0x4040 + 2048 * i + 4 * j, 8, 8⟩
def IRQ.CAUSE.CAUSE2 (i : Nat) (j : Nat) : Field := ⟨0x4040 + 2048 * i + 4 * j, 16, 8⟩
def IRQ.CAUSE.CAUSE3 (i : Nat) (j : Nat) : Field := ⟨0x4040 + 2048 * i + 4 * j, 24, 8⟩
/-- IRQ.RAISED (14, R365). -/
def IRQ.RAISED.off (i : Nat) (j : Nat) : Nat := 0x4060 + 2048 * i + 4 * j
def IRQ.RAISED.RAISED0 (i : Nat) (j : Nat) : Field := ⟨0x4060 + 2048 * i + 4 * j, 0, 8⟩
def IRQ.RAISED.RAISED1 (i : Nat) (j : Nat) : Field := ⟨0x4060 + 2048 * i + 4 * j, 8, 8⟩
def IRQ.RAISED.RAISED2 (i : Nat) (j : Nat) : Field := ⟨0x4060 + 2048 * i + 4 * j, 16, 8⟩
def IRQ.RAISED.RAISED3 (i : Nat) (j : Nat) : Field := ⟨0x4060 + 2048 * i + 4 * j, 24, 8⟩
/-- IRQ.SNAP (14, R365). -/
def IRQ.SNAP.off (i : Nat) (j : Nat) : Nat := 0x4080 + 2048 * i + 4 * j
def IRQ.SNAP.SNAP0 (i : Nat) (j : Nat) : Field := ⟨0x4080 + 2048 * i + 4 * j, 0, 8⟩
def IRQ.SNAP.SNAP1 (i : Nat) (j : Nat) : Field := ⟨0x4080 + 2048 * i + 4 * j, 8, 8⟩
def IRQ.SNAP.SNAP2 (i : Nat) (j : Nat) : Field := ⟨0x4080 + 2048 * i + 4 * j, 16, 8⟩
def IRQ.SNAP.SNAP3 (i : Nat) (j : Nat) : Field := ⟨0x4080 + 2048 * i + 4 * j, 24, 8⟩
/-- IRQ.SWSET (14, R365). -/
def IRQ.SWSET.off (i : Nat) (j : Nat) : Nat := 0x40A0 + 2048 * i + 4 * j
def IRQ.SWSET.SET0 (i : Nat) (j : Nat) : Field := ⟨0x40A0 + 2048 * i + 4 * j, 0, 8⟩
def IRQ.SWSET.SET1 (i : Nat) (j : Nat) : Field := ⟨0x40A0 + 2048 * i + 4 * j, 8, 8⟩
def IRQ.SWSET.SET2 (i : Nat) (j : Nat) : Field := ⟨0x40A0 + 2048 * i + 4 * j, 16, 8⟩
def IRQ.SWSET.SET3 (i : Nat) (j : Nat) : Field := ⟨0x40A0 + 2048 * i + 4 * j, 24, 8⟩
/-- IRQ.ACK (14, R365). -/
def IRQ.ACK.off (i : Nat) : Nat := 0x40C0 + 2048 * i
def IRQ.ACK.END (i : Nat) : Field := ⟨0x40C0 + 2048 * i, 0, 32⟩
/-- IRQ.IN_SERVICE (14, R365). -/
def IRQ.IN_SERVICE.off (i : Nat) : Nat := 0x40C4 + 2048 * i
def IRQ.IN_SERVICE.GROUPS (i : Nat) : Field := ⟨0x40C4 + 2048 * i, 0, 32⟩
/-- IRQ.LEADING (14, R365). -/
def IRQ.LEADING.off (i : Nat) : Nat := 0x40C8 + 2048 * i
def IRQ.LEADING.GROUPS (i : Nat) : Field := ⟨0x40C8 + 2048 * i, 0, 32⟩
/-- IRQ.CTRL (14, R365). -/
def IRQ.CTRL.off : Nat := 0x4400
def IRQ.CTRL.EN : Field := ⟨0x4400, 0, 1⟩
/-- IRQ.CLASS (14, R365). -/
def IRQ.CLASS.off : Nat := 0x4404
def IRQ.CLASS.FAST : Field := ⟨0x4404, 0, 32⟩
/-- IRQ.CAUSE_BASE (14, R365). -/
def IRQ.CAUSE_BASE.off : Nat := 0x4408
def IRQ.CAUSE_BASE.ADDR : Field := ⟨0x4408, 10, 22⟩
/-- IRQ.CAUSE_BASE_HI (14, R365). -/
def IRQ.CAUSE_BASE_HI.off : Nat := 0x440C
def IRQ.CAUSE_BASE_HI.ADDR_HI : Field := ⟨0x440C, 0, 32⟩
/-- IRQ.GCFG (14, R365). -/
def IRQ.GCFG.off (i : Nat) : Nat := 0x4500 + 4 * i
def IRQ.GCFG.LEADING (i : Nat) : Field := ⟨0x4500 + 4 * i, 0, 16⟩
def IRQ.GCFG.VEC (i : Nat) : Field := ⟨0x4500 + 4 * i, 16, 6⟩
/-- FLT.CTRL (15, R382). -/
def FLT.CTRL.off : Nat := 0x5000
def FLT.CTRL.COMPAT : Field := ⟨0x5000, 0, 1⟩
/-- FLT.STATUS (15, R382). -/
def FLT.STATUS.off : Nat := 0x5004
def FLT.STATUS.FATAL : Field := ⟨0x5004, 0, 1⟩
def FLT.STATUS.ALIVE_RUN : Field := ⟨0x5004, 1, 1⟩
def FLT.STATUS.ALIVE_LEVEL : Field := ⟨0x5004, 2, 1⟩
def FLT.STATUS.FATAL_CODE : Field := ⟨0x5004, 4, 10⟩
def FLT.STATUS.FATAL_SOURCE : Field := ⟨0x5004, 14, 8⟩
/-- FLT.COUNTS (15, R382). -/
def FLT.COUNTS.off : Nat := 0x5008
def FLT.COUNTS.REACT_SAFE : Field := ⟨0x5008, 0, 16⟩
def FLT.COUNTS.REACT_EXCL : Field := ⟨0x5008, 16, 16⟩
/-- FLT.FRISKET_AUX (15, R382). -/
def FLT.FRISKET_AUX.off : Nat := 0x500C
def FLT.FRISKET_AUX.REACTION2 : Field := ⟨0x500C, 8, 3⟩
def FLT.FRISKET_AUX.REACTION3 : Field := ⟨0x500C, 12, 3⟩
def FLT.FRISKET_AUX.REACTION4 : Field := ⟨0x500C, 16, 3⟩
def FLT.FRISKET_AUX.REACTION5 : Field := ⟨0x500C, 20, 3⟩
def FLT.FRISKET_AUX.REACTION6 : Field := ⟨0x500C, 24, 3⟩
/-- FLT.FRISKET (15, R382). -/
def FLT.FRISKET.off (i : Nat) (j : Nat) : Nat := 0x5040 + 16 * i + 4 * j
def FLT.FRISKET.REACTION0 (i : Nat) (j : Nat) : Field := ⟨0x5040 + 16 * i + 4 * j, 0, 3⟩
def FLT.FRISKET.REACTION1 (i : Nat) (j : Nat) : Field := ⟨0x5040 + 16 * i + 4 * j, 4, 3⟩
def FLT.FRISKET.REACTION2 (i : Nat) (j : Nat) : Field := ⟨0x5040 + 16 * i + 4 * j, 8, 3⟩
def FLT.FRISKET.REACTION3 (i : Nat) (j : Nat) : Field := ⟨0x5040 + 16 * i + 4 * j, 12, 3⟩
def FLT.FRISKET.REACTION4 (i : Nat) (j : Nat) : Field := ⟨0x5040 + 16 * i + 4 * j, 16, 3⟩
def FLT.FRISKET.REACTION5 (i : Nat) (j : Nat) : Field := ⟨0x5040 + 16 * i + 4 * j, 20, 3⟩
def FLT.FRISKET.REACTION6 (i : Nat) (j : Nat) : Field := ⟨0x5040 + 16 * i + 4 * j, 24, 3⟩
def FLT.FRISKET.REACTION7 (i : Nat) (j : Nat) : Field := ⟨0x5040 + 16 * i + 4 * j, 28, 3⟩
/-- FLT.TOTAL (15, R382). -/
def FLT.TOTAL.off (i : Nat) : Nat := 0x51C0 + 16 * i
def FLT.TOTAL.COUNT (i : Nat) : Field := ⟨0x51C0 + 16 * i, 0, 32⟩
/-- FLT.SATURATED (15, R382). -/
def FLT.SATURATED.off (i : Nat) : Nat := 0x51C4 + 16 * i
def FLT.SATURATED.COUNT (i : Nat) : Field := ⟨0x51C4 + 16 * i, 0, 32⟩
/-- FLT.FIRST (15, R382). -/
def FLT.FIRST.off (i : Nat) : Nat := 0x51C8 + 16 * i
def FLT.FIRST.CODE (i : Nat) : Field := ⟨0x51C8 + 16 * i, 0, 10⟩
def FLT.FIRST.CLASS (i : Nat) : Field := ⟨0x51C8 + 16 * i, 10, 2⟩
def FLT.FIRST.SOURCE (i : Nat) : Field := ⟨0x51C8 + 16 * i, 12, 8⟩
def FLT.FIRST.VALID (i : Nat) : Field := ⟨0x51C8 + 16 * i, 20, 1⟩
def FLT.FIRST.OVERFLOW (i : Nat) : Field := ⟨0x51C8 + 16 * i, 21, 1⟩
def FLT.FIRST.T32 (i : Nat) : Field := ⟨0x51C8 + 16 * i, 22, 1⟩
/-- FLT.FIRST_NS (15, R382). -/
def FLT.FIRST_NS.off (i : Nat) : Nat := 0x51CC + 16 * i
def FLT.FIRST_NS.NS (i : Nat) : Field := ⟨0x51CC + 16 * i, 0, 32⟩
/-- FLT.HIST_LO (15, R382). -/
def FLT.HIST_LO.off (i : Nat) (j : Nat) : Nat := 0x5400 + 128 * i + 16 * j
def FLT.HIST_LO.ENTRY (i : Nat) (j : Nat) : Field := ⟨0x5400 + 128 * i + 16 * j, 0, 64⟩
/-- FLT.HIST_HI (15, R382). -/
def FLT.HIST_HI.off (i : Nat) (j : Nat) : Nat := 0x5408 + 128 * i + 16 * j
def FLT.HIST_HI.SOURCE (i : Nat) (j : Nat) : Field := ⟨0x5408 + 128 * i + 16 * j, 0, 8⟩
/-- FLT.HIST_NUM (15, R382). -/
def FLT.HIST_NUM.off (i : Nat) (j : Nat) : Nat := 0x540C + 128 * i + 16 * j
def FLT.HIST_NUM.NUMBER (i : Nat) (j : Nat) : Field := ⟨0x540C + 128 * i + 16 * j, 0, 32⟩
/-- BIST.CTRL (16, R396). -/
def BIST.CTRL.off : Nat := 0x6000
def BIST.CTRL.ONLINE_EN : Field := ⟨0x6000, 0, 1⟩
def BIST.CTRL.CLASS_EN : Field := ⟨0x6000, 1, 5⟩
def BIST.CTRL.SPARE_N : Field := ⟨0x6000, 8, 8⟩
/-- BIST.STATUS (16, R396). -/
def BIST.STATUS.off : Nat := 0x6004
def BIST.STATUS.FULL_RUNNING : Field := ⟨0x6004, 0, 1⟩
def BIST.STATUS.FULL_WAIT : Field := ⟨0x6004, 1, 1⟩
def BIST.STATUS.ACTIVE : Field := ⟨0x6004, 2, 6⟩
def BIST.STATUS.SRAM_SPARED : Field := ⟨0x6004, 8, 4⟩
def BIST.STATUS.SRAM_MIRROR : Field := ⟨0x6004, 12, 1⟩
def BIST.STATUS.UNPROVED : Field := ⟨0x6004, 13, 6⟩
/-- BIST.LAST_FULL (16, R396). -/
def BIST.LAST_FULL.off : Nat := 0x6008
def BIST.LAST_FULL.RESULT : Field := ⟨0x6008, 0, 2⟩
def BIST.LAST_FULL.READMISSION : Field := ⟨0x6008, 2, 1⟩
def BIST.LAST_FULL.FAIL_STEP : Field := ⟨0x6008, 8, 4⟩
def BIST.LAST_FULL.DURATION : Field := ⟨0x6008, 16, 16⟩
/-- BIST.COVERAGE (16, R396). -/
def BIST.COVERAGE.off : Nat := 0x600C
def BIST.COVERAGE.STUCK_AT : Field := ⟨0x600C, 0, 10⟩
def BIST.COVERAGE.TRANSITION : Field := ⟨0x600C, 10, 10⟩
/-- BIST.COUNTS (16, R396). -/
def BIST.COUNTS.off : Nat := 0x6010
def BIST.COUNTS.PASSED : Field := ⟨0x6010, 0, 16⟩
def BIST.COUNTS.FAILED : Field := ⟨0x6010, 16, 8⟩
def BIST.COUNTS.ABORTED : Field := ⟨0x6010, 24, 8⟩
/-- BIST.CLS_STATUS (16, R396). -/
def BIST.CLS_STATUS.off (i : Nat) : Nat := 0x6040 + 16 * i
def BIST.CLS_STATUS.INDEX (i : Nat) : Field := ⟨0x6040 + 16 * i, 0, 8⟩
def BIST.CLS_STATUS.RESULT (i : Nat) : Field := ⟨0x6040 + 16 * i, 8, 2⟩
def BIST.CLS_STATUS.OVERDUE (i : Nat) : Field := ⟨0x6040 + 16 * i, 10, 1⟩
def BIST.CLS_STATUS.DURATION (i : Nat) : Field := ⟨0x6040 + 16 * i, 16, 16⟩
/-- BIST.CLS_AGE (16, R396). -/
def BIST.CLS_AGE.off (i : Nat) : Nat := 0x6044 + 16 * i
def BIST.CLS_AGE.US (i : Nat) : Field := ⟨0x6044 + 16 * i, 0, 32⟩
/-- BIST.CLS_COV (16, R396). -/
def BIST.CLS_COV.off (i : Nat) : Nat := 0x6048 + 16 * i
def BIST.CLS_COV.COVERAGE (i : Nat) : Field := ⟨0x6048 + 16 * i, 0, 10⟩
/-- BIST.CLS_FAIL (16, R396). -/
def BIST.CLS_FAIL.off (i : Nat) : Nat := 0x604C + 16 * i
def BIST.CLS_FAIL.FIRST (i : Nat) : Field := ⟨0x604C + 16 * i, 0, 8⟩
def BIST.CLS_FAIL.COUNT (i : Nat) : Field := ⟨0x604C + 16 * i, 8, 8⟩
/-- ID.DEVICE (17, R418). -/
def ID.DEVICE.off : Nat := 0x0
def ID.DEVICE.VENDOR_ID : Field := ⟨0x0, 0, 16⟩
def ID.DEVICE.DEVICE_ID : Field := ⟨0x0, 16, 16⟩
/-- ID.PART (17, R418). -/
def ID.PART.off : Nat := 0x4
def ID.PART.LANE : Field := ⟨0x4, 0, 2⟩
def ID.PART.STEP : Field := ⟨0x4, 8, 8⟩
/-- ID.SERIAL_LO (17, R418). -/
def ID.SERIAL_LO.off : Nat := 0x8
def ID.SERIAL_LO.SERIAL : Field := ⟨0x8, 0, 32⟩
/-- ID.SERIAL_HI (17, R418). -/
def ID.SERIAL_HI.off : Nat := 0xC
def ID.SERIAL_HI.SERIAL : Field := ⟨0xC, 0, 32⟩
/-- ID.NODE (17, R418). -/
def ID.NODE.off : Nat := 0x10
def ID.NODE.NODE : Field := ⟨0x10, 0, 18⟩
/-- ID.PUBKEY (17, R418). -/
def ID.PUBKEY.off (i : Nat) : Nat := 0x20 + 4 * i
def ID.PUBKEY.BYTES (i : Nat) : Field := ⟨0x20 + 4 * i, 0, 32⟩
/-- ID.COLOPHON (17, R418). -/
def ID.COLOPHON.off (i : Nat) : Nat := 0x100 + 4 * i
def ID.COLOPHON.BYTES (i : Nat) : Field := ⟨0x100 + 4 * i, 0, 32⟩
/-- SEC.CTRL (17, R418). -/
def SEC.CTRL.off : Nat := 0x7000
def SEC.CTRL.SESS_TMO : Field := ⟨0x7000, 0, 12⟩
/-- SEC.STATUS (17, R418). -/
def SEC.STATUS.off : Nat := 0x7004
def SEC.STATUS.SESSION : Field := ⟨0x7004, 0, 1⟩
def SEC.STATUS.LOCKED : Field := ⟨0x7004, 1, 1⟩
def SEC.STATUS.PW_SET : Field := ⟨0x7004, 2, 1⟩
def SEC.STATUS.KEYS_OK : Field := ⟨0x7004, 3, 1⟩
def SEC.STATUS.FAILS : Field := ⟨0x7004, 4, 5⟩
def SEC.STATUS.LOCK_LEFT : Field := ⟨0x7004, 16, 16⟩
/-- SEC.CHALLENGE (17, R418). -/
def SEC.CHALLENGE.off (i : Nat) : Nat := 0x7010 + 4 * i
def SEC.CHALLENGE.BYTES (i : Nat) : Field := ⟨0x7010 + 4 * i, 0, 32⟩
/-- SEC.PW_ITER (17, R418). -/
def SEC.PW_ITER.off : Nat := 0x7020
def SEC.PW_ITER.ITER : Field := ⟨0x7020, 0, 32⟩
/-- SEC.SALT (17, R418). -/
def SEC.SALT.off (i : Nat) : Nat := 0x7024 + 4 * i
def SEC.SALT.BYTES (i : Nat) : Field := ⟨0x7024 + 4 * i, 0, 32⟩
/-- SEC.FW_STATUS (17, R418). -/
def SEC.FW_STATUS.off : Nat := 0x7040
def SEC.FW_STATUS.RUNNING : Field := ⟨0x7040, 0, 1⟩
def SEC.FW_STATUS.SLOT_A : Field := ⟨0x7040, 1, 2⟩
def SEC.FW_STATUS.SLOT_B : Field := ⟨0x7040, 3, 2⟩
def SEC.FW_STATUS.STAGING : Field := ⟨0x7040, 5, 1⟩
/-- SEC.FW_VER_A (17, R418). -/
def SEC.FW_VER_A.off : Nat := 0x7044
def SEC.FW_VER_A.VERSION : Field := ⟨0x7044, 0, 32⟩
/-- SEC.FW_VER_B (17, R418). -/
def SEC.FW_VER_B.off : Nat := 0x7048
def SEC.FW_VER_B.VERSION : Field := ⟨0x7048, 0, 32⟩
/-- SEC.FW_FLOOR (17, R418). -/
def SEC.FW_FLOOR.off : Nat := 0x704C
def SEC.FW_FLOOR.VERSION : Field := ⟨0x704C, 0, 32⟩
/-- SEC.FW_STAGED (17, R418). -/
def SEC.FW_STAGED.off : Nat := 0x7050
def SEC.FW_STAGED.BYTES : Field := ⟨0x7050, 0, 32⟩
/-- SEC.FK_MAX (17, R418). -/
def SEC.FK_MAX.off : Nat := 0x7060
def SEC.FK_MAX.KEY_ID : Field := ⟨0x7060, 0, 32⟩
/-- SEC.FK_ID (17, R418). -/
def SEC.FK_ID.off (i : Nat) : Nat := 0x7080 + 16 * i
def SEC.FK_ID.KEY_ID (i : Nat) : Field := ⟨0x7080 + 16 * i, 0, 32⟩
/-- SEC.FK_FLAGS (17, R418). -/
def SEC.FK_FLAGS.off (i : Nat) : Nat := 0x7084 + 16 * i
def SEC.FK_FLAGS.VALID (i : Nat) : Field := ⟨0x7084 + 16 * i, 0, 1⟩
/-- SEC.FK_CTR_LO (17, R418). -/
def SEC.FK_CTR_LO.off (i : Nat) : Nat := 0x7088 + 16 * i
def SEC.FK_CTR_LO.COUNTER (i : Nat) : Field := ⟨0x7088 + 16 * i, 0, 32⟩
/-- SEC.FK_CTR_HI (17, R418). -/
def SEC.FK_CTR_HI.off (i : Nat) : Nat := 0x708C + 16 * i
def SEC.FK_CTR_HI.COUNTER (i : Nat) : Field := ⟨0x708C + 16 * i, 0, 32⟩
/-- SEC.COUNTS (17, R418). -/
def SEC.COUNTS.off : Nat := 0x7100
def SEC.COUNTS.WRONG : Field := ⟨0x7100, 0, 16⟩
def SEC.COUNTS.SESSIONS : Field := ⟨0x7100, 16, 16⟩
/-- CFG.STATUS (17, R418). -/
def CFG.STATUS.off : Nat := 0x8000
def CFG.STATUS.DEFAULTED : Field := ⟨0x8000, 0, 1⟩
def CFG.STATUS.COPY_REPAIRED : Field := ⟨0x8000, 1, 1⟩
def CFG.STATUS.COMMIT_PENDING : Field := ⟨0x8000, 2, 1⟩
def CFG.STATUS.LOG_BROKEN : Field := ⟨0x8000, 3, 1⟩
/-- CFG.IMAGE_LEN (17, R418). -/
def CFG.IMAGE_LEN.off : Nat := 0x8004
def CFG.IMAGE_LEN.VALUE : Field := ⟨0x8004, 0, 32⟩
/-- CFG.IMAGE_FP_LO (17, R418). -/
def CFG.IMAGE_FP_LO.off : Nat := 0x8008
def CFG.IMAGE_FP_LO.FP : Field := ⟨0x8008, 0, 32⟩
/-- CFG.IMAGE_FP_HI (17, R418). -/
def CFG.IMAGE_FP_HI.off : Nat := 0x800C
def CFG.IMAGE_FP_HI.FP : Field := ⟨0x800C, 0, 32⟩
/-- CFG.COMMIT_COUNT (17, R418). -/
def CFG.COMMIT_COUNT.off : Nat := 0x8010
def CFG.COMMIT_COUNT.VALUE : Field := ⟨0x8010, 0, 32⟩
/-- CFG.STORE_SEQ (17, R418). -/
def CFG.STORE_SEQ.off : Nat := 0x8014
def CFG.STORE_SEQ.VALUE : Field := ⟨0x8014, 0, 32⟩
/-- CFG.LOG_STATUS (17, R418). -/
def CFG.LOG_STATUS.off : Nat := 0x8020
def CFG.LOG_STATUS.HELD : Field := ⟨0x8020, 0, 13⟩
def CFG.LOG_STATUS.FULL : Field := ⟨0x8020, 31, 1⟩
/-- CFG.LOG_NUMBER (17, R418). -/
def CFG.LOG_NUMBER.off : Nat := 0x8024
def CFG.LOG_NUMBER.NUMBER : Field := ⟨0x8024, 0, 32⟩
/-- CFG.LOG_HEAD (17, R418). -/
def CFG.LOG_HEAD.off (i : Nat) : Nat := 0x8040 + 4 * i
def CFG.LOG_HEAD.BYTES (i : Nat) : Field := ⟨0x8040 + 4 * i, 0, 32⟩
/-- CFG.LOG_ANCHOR (17, R418). -/
def CFG.LOG_ANCHOR.off (i : Nat) : Nat := 0x8080 + 4 * i
def CFG.LOG_ANCHOR.BYTES (i : Nat) : Field := ⟨0x8080 + 4 * i, 0, 32⟩
/-- MEM.CTRL (18, R430). -/
def MEM.CTRL.off : Nat := 0x30000
def MEM.CTRL.SCRUB_EN : Field := ⟨0x30000, 0, 1⟩
def MEM.CTRL.TG_EN : Field := ⟨0x30000, 1, 1⟩
/-- MEM.STATUS (18, R430). -/
def MEM.STATUS.off : Nat := 0x30004
def MEM.STATUS.LAG : Field := ⟨0x30004, 0, 8⟩
def MEM.STATUS.STARVED : Field := ⟨0x30004, 8, 8⟩
def MEM.STATUS.SPARES_LOW : Field := ⟨0x30004, 16, 1⟩
def MEM.STATUS.NVM_EXHAUSTED : Field := ⟨0x30004, 17, 1⟩
/-- MEM.SCRUB (18, R430). -/
def MEM.SCRUB.off : Nat := 0x30008
def MEM.SCRUB.PASSES : Field := ⟨0x30008, 0, 16⟩
def MEM.SCRUB.LAST_MS : Field := ⟨0x30008, 16, 16⟩
/-- MEM.SRAM_CORR (18, R430). -/
def MEM.SRAM_CORR.off : Nat := 0x3000C
def MEM.SRAM_CORR.COUNT : Field := ⟨0x3000C, 0, 32⟩
/-- MEM.NVM_CTRL (18, R430). -/
def MEM.NVM_CTRL.off : Nat := 0x30010
def MEM.NVM_CTRL.WEAR_SPREAD : Field := ⟨0x30010, 0, 8⟩
def MEM.NVM_CTRL.CORR_TH : Field := ⟨0x30010, 8, 4⟩
def MEM.NVM_CTRL.REFRESH_TH : Field := ⟨0x30010, 12, 4⟩
def MEM.NVM_CTRL.RD_LIMIT : Field := ⟨0x30010, 16, 8⟩
/-- MEM.NVM_STATUS (18, R430). -/
def MEM.NVM_STATUS.off : Nat := 0x30014
def MEM.NVM_STATUS.SPARES : Field := ⟨0x30014, 0, 8⟩
def MEM.NVM_STATUS.RETIRED : Field := ⟨0x30014, 8, 8⟩
/-- MEM.NVM_ERASE (18, R430). -/
def MEM.NVM_ERASE.off : Nat := 0x30018
def MEM.NVM_ERASE.MAX : Field := ⟨0x30018, 0, 16⟩
def MEM.NVM_ERASE.MIN : Field := ⟨0x30018, 16, 16⟩
/-- MEM.NVM_COUNTS (18, R430). -/
def MEM.NVM_COUNTS.off : Nat := 0x3001C
def MEM.NVM_COUNTS.REFRESHES : Field := ⟨0x3001C, 0, 16⟩
def MEM.NVM_COUNTS.MOVES : Field := ⟨0x3001C, 16, 16⟩
/-- MEM.TG_BASE (18, R430). -/
def MEM.TG_BASE.off : Nat := 0x30020
def MEM.TG_BASE.ADDR : Field := ⟨0x30020, 12, 20⟩
/-- MEM.TG_BASE_HI (18, R430). -/
def MEM.TG_BASE_HI.off : Nat := 0x30024
def MEM.TG_BASE_HI.ADDR_HI : Field := ⟨0x30024, 0, 32⟩
/-- MEM.TG_CTRL (18, R430). -/
def MEM.TG_CTRL.off : Nat := 0x30028
def MEM.TG_CTRL.SIZE : Field := ⟨0x30028, 0, 4⟩
def MEM.TG_CTRL.PERIOD : Field := ⟨0x30028, 16, 12⟩
/-- MEM.TG_WRITTEN (18, R430). -/
def MEM.TG_WRITTEN.off : Nat := 0x3002C
def MEM.TG_WRITTEN.COUNT : Field := ⟨0x3002C, 0, 32⟩
/-- MEM.TG_SKIPPED (18, R430). -/
def MEM.TG_SKIPPED.off : Nat := 0x30030
def MEM.TG_SKIPPED.COUNT : Field := ⟨0x30030, 0, 32⟩
/-- MEM.TEMP0 (18, R430). -/
def MEM.TEMP0.off : Nat := 0x30034
def MEM.TEMP0.T_LOGIC : Field := ⟨0x30034, 0, 16⟩
def MEM.TEMP0.T_GD0 : Field := ⟨0x30034, 16, 16⟩
/-- MEM.TEMP1 (18, R430). -/
def MEM.TEMP1.off : Nat := 0x30038
def MEM.TEMP1.T_GD1 : Field := ⟨0x30038, 0, 16⟩
def MEM.TEMP1.T_MAX : Field := ⟨0x30038, 16, 16⟩
/-- MEM.BG (18, R430). -/
def MEM.BG.off (i : Nat) : Nat := 0x30040 + 4 * i
def MEM.BG.PERIODS (i : Nat) : Field := ⟨0x30040 + 4 * i, 0, 16⟩
def MEM.BG.LAGS (i : Nat) : Field := ⟨0x30040 + 4 * i, 16, 8⟩
def MEM.BG.STARVED (i : Nat) : Field := ⟨0x30040 + 4 * i, 24, 8⟩
/-- PWR.CTRL (19, R448). -/
def PWR.CTRL.off : Nat := 0x1000
def PWR.CTRL.HOLD_EN : Field := ⟨0x1000, 0, 1⟩
def PWR.CTRL.HOLD_DLY : Field := ⟨0x1000, 1, 10⟩
def PWR.CTRL.SLEEP_PIN : Field := ⟨0x1000, 11, 1⟩
def PWR.CTRL.SLEEP_LINK : Field := ⟨0x1000, 12, 1⟩
def PWR.CTRL.WAKE_PROOF : Field := ⟨0x1000, 13, 1⟩
def PWR.CTRL.MIN_AWAKE : Field := ⟨0x1000, 16, 12⟩
/-- PWR.WAKE_EN (19, R448). -/
def PWR.WAKE_EN.off : Nat := 0x1004
def PWR.WAKE_EN.PIN : Field := ⟨0x1004, 0, 1⟩
def PWR.WAKE_EN.CAN : Field := ⟨0x1004, 1, 2⟩
def PWR.WAKE_EN.PHY : Field := ⟨0x1004, 3, 4⟩
def PWR.WAKE_EN.PEER : Field := ⟨0x1004, 7, 1⟩
/-- PWR.TEMP (19, R448). -/
def PWR.TEMP.off : Nat := 0x1008
def PWR.TEMP.WARN : Field := ⟨0x1008, 0, 8⟩
/-- PWR.STATUS (19, R448). -/
def PWR.STATUS.off : Nat := 0x1020
def PWR.STATUS.STATE : Field := ⟨0x1020, 0, 3⟩
def PWR.STATUS.SLEEP_REQ : Field := ⟨0x1020, 3, 1⟩
def PWR.STATUS.RETAIN_LOST : Field := ⟨0x1020, 4, 1⟩
def PWR.STATUS.WOKEN : Field := ⟨0x1020, 5, 1⟩
def PWR.STATUS.PADS_LATCHED : Field := ⟨0x1020, 6, 1⟩
/-- PWR.RESET_CAUSE (19, R448). -/
def PWR.RESET_CAUSE.off : Nat := 0x1024
def PWR.RESET_CAUSE.CAUSE : Field := ⟨0x1024, 0, 4⟩
def PWR.RESET_CAUSE.SUP_WDOG : Field := ⟨0x1024, 8, 8⟩
/-- PWR.WAKE_CAUSE (19, R448). -/
def PWR.WAKE_CAUSE.off : Nat := 0x1028
def PWR.WAKE_CAUSE.PIN : Field := ⟨0x1028, 0, 1⟩
def PWR.WAKE_CAUSE.CAN : Field := ⟨0x1028, 1, 2⟩
def PWR.WAKE_CAUSE.PHY : Field := ⟨0x1028, 3, 4⟩
def PWR.WAKE_CAUSE.PEER : Field := ⟨0x1028, 7, 1⟩
def PWR.WAKE_CAUSE.SI : Field := ⟨0x1028, 8, 1⟩
def PWR.WAKE_CAUSE.LATE : Field := ⟨0x1028, 9, 1⟩
/-- PWR.COUNTS (19, R448). -/
def PWR.COUNTS.off : Nat := 0x102C
def PWR.COUNTS.NAPS : Field := ⟨0x102C, 0, 16⟩
def PWR.COUNTS.LATE_WAKES : Field := ⟨0x102C, 16, 8⟩
def PWR.COUNTS.BROWNOUTS : Field := ⟨0x102C, 24, 8⟩
/-- PWR.SUPPLY0 (19, R448). -/
def PWR.SUPPLY0.off : Nat := 0x1030
def PWR.SUPPLY0.VIN : Field := ⟨0x1030, 0, 16⟩
def PWR.SUPPLY0.VGD : Field := ⟨0x1030, 16, 16⟩
/-- PWR.SUPPLY1 (19, R448). -/
def PWR.SUPPLY1.off : Nat := 0x1034
def PWR.SUPPLY1.VIO : Field := ⟨0x1034, 0, 16⟩
/-- PWR.BUDGET (19, R448). -/
def PWR.BUDGET.off : Nat := 0x1038
def PWR.BUDGET.NAP_BUDGET : Field := ⟨0x1038, 0, 16⟩
def PWR.BUDGET.LP_PEAK : Field := ⟨0x1038, 16, 16⟩
/-- CLK.CTRL (19, R449). -/
def CLK.CTRL.off : Nat := 0x2000
def CLK.CTRL.REFCLK : Field := ⟨0x2000, 0, 2⟩
/-- CLK.STATUS (19, R449). -/
def CLK.STATUS.off : Nat := 0x2004
def CLK.STATUS.XTAL_OK : Field := ⟨0x2004, 0, 1⟩
def CLK.STATUS.SYS_LOCK : Field := ⟨0x2004, 1, 1⟩
def CLK.STATUS.NET_LOCK : Field := ⟨0x2004, 2, 1⟩
def CLK.STATUS.SER_LOCK : Field := ⟨0x2004, 3, 1⟩
def CLK.STATUS.PCIE_LOCK : Field := ⟨0x2004, 4, 1⟩
def CLK.STATUS.K32_OK : Field := ⟨0x2004, 5, 1⟩
/-- CLK.XTAL_PPM (19, R449). -/
def CLK.XTAL_PPM.off : Nat := 0x2008
def CLK.XTAL_PPM.PPM : Field := ⟨0x2008, 0, 16⟩
/-- CLK.PEER_PPM (19, R449). -/
def CLK.PEER_PPM.off : Nat := 0x200C
def CLK.PEER_PPM.P0 : Field := ⟨0x200C, 0, 16⟩
def CLK.PEER_PPM.P1 : Field := ⟨0x200C, 16, 16⟩
/-- CLK.COUNTS (19, R449). -/
def CLK.COUNTS.off : Nat := 0x2010
def CLK.COUNTS.XCHECK : Field := ⟨0x2010, 0, 8⟩

end Sys2Proof.Machine
end

