-- ==== Sys2Proof/Machine/FaultCodes.lean ====
section
/-!
DEFINITION. The fault codes of the device with their class and default reaction (R381, and R19 for events 0 and 1 of
every block), and the frisket words these defaults reset to.
-/

namespace Sys2Proof.Machine

/-- One code of R381: code, class (1 corrected, 2 uncorrected but contained, 3 fatal) and default reaction (0 NONE,
1 INTERRUPT, 2 CHANNEL_SAFE, 3 EXCL_REQ, 4 LANE_FATAL; the last is fixed). -/
structure FaultRow where
  code : Nat
  cls : Nat
  dflt : Nat
  deriving DecidableEq, Repr

/-- Codes of block 0. -/
def faultRows0 : List FaultRow :=
  [⟨0x000, 1, 0⟩, ⟨0x001, 2, 1⟩, ⟨0x002, 1, 1⟩, ⟨0x003, 1, 1⟩, ⟨0x004, 1, 1⟩, ⟨0x005, 1, 1⟩, ⟨0x006, 1, 1⟩, ⟨0x007, 2, 1⟩]

/-- Codes of block 1. -/
def faultRows1 : List FaultRow :=
  [⟨0x020, 1, 0⟩, ⟨0x021, 2, 1⟩, ⟨0x022, 1, 0⟩, ⟨0x023, 2, 3⟩, ⟨0x024, 1, 1⟩, ⟨0x025, 1, 0⟩, ⟨0x026, 1, 1⟩, ⟨0x027, 2, 1⟩, ⟨0x028, 1, 1⟩, ⟨0x029, 1, 1⟩]

/-- Codes of block 2. -/
def faultRows2 : List FaultRow :=
  [⟨0x040, 1, 0⟩, ⟨0x041, 2, 1⟩, ⟨0x042, 1, 1⟩, ⟨0x043, 2, 1⟩, ⟨0x044, 2, 1⟩, ⟨0x045, 2, 1⟩, ⟨0x046, 2, 1⟩, ⟨0x047, 3, 4⟩]

/-- Codes of block 3. -/
def faultRows3 : List FaultRow :=
  [⟨0x060, 1, 0⟩, ⟨0x061, 2, 1⟩, ⟨0x062, 1, 1⟩, ⟨0x063, 1, 1⟩, ⟨0x064, 1, 1⟩, ⟨0x065, 2, 1⟩, ⟨0x066, 2, 3⟩, ⟨0x067, 3, 4⟩]

/-- Codes of block 4. -/
def faultRows4 : List FaultRow :=
  [⟨0x080, 1, 0⟩, ⟨0x081, 2, 1⟩, ⟨0x082, 1, 1⟩, ⟨0x083, 2, 1⟩, ⟨0x084, 1, 0⟩, ⟨0x085, 1, 0⟩, ⟨0x086, 1, 0⟩, ⟨0x087, 1, 1⟩, ⟨0x088, 1, 1⟩, ⟨0x089, 1, 1⟩, ⟨0x08A, 1, 1⟩, ⟨0x08B, 1, 1⟩, ⟨0x08C, 1, 1⟩, ⟨0x08D, 1, 1⟩, ⟨0x08E, 2, 1⟩, ⟨0x08F, 1, 1⟩]

/-- Codes of block 5. -/
def faultRows5 : List FaultRow :=
  [⟨0x0A0, 1, 0⟩, ⟨0x0A1, 2, 1⟩, ⟨0x0A2, 1, 1⟩, ⟨0x0A3, 2, 1⟩, ⟨0x0A4, 1, 0⟩, ⟨0x0A5, 1, 1⟩]

/-- Codes of block 6. -/
def faultRows6 : List FaultRow :=
  [⟨0x0C0, 1, 0⟩, ⟨0x0C1, 2, 1⟩, ⟨0x0C2, 1, 1⟩]

/-- Codes of block 7. -/
def faultRows7 : List FaultRow :=
  [⟨0x0E0, 1, 0⟩, ⟨0x0E1, 2, 1⟩, ⟨0x0E2, 2, 1⟩, ⟨0x0E3, 1, 1⟩, ⟨0x0E4, 3, 4⟩]

/-- Codes of block 8. -/
def faultRows8 : List FaultRow :=
  [⟨0x100, 1, 0⟩, ⟨0x101, 2, 1⟩, ⟨0x102, 1, 1⟩, ⟨0x103, 1, 1⟩, ⟨0x104, 1, 1⟩, ⟨0x105, 2, 3⟩, ⟨0x106, 2, 3⟩, ⟨0x107, 2, 2⟩, ⟨0x108, 2, 1⟩, ⟨0x109, 1, 1⟩, ⟨0x10A, 2, 2⟩, ⟨0x10B, 1, 1⟩, ⟨0x10C, 2, 2⟩, ⟨0x10D, 2, 2⟩]

/-- Codes of block 9. -/
def faultRows9 : List FaultRow :=
  [⟨0x120, 1, 0⟩, ⟨0x121, 2, 1⟩, ⟨0x122, 1, 1⟩, ⟨0x123, 1, 1⟩, ⟨0x124, 1, 1⟩, ⟨0x125, 2, 1⟩]

/-- Codes of block 10. -/
def faultRows10 : List FaultRow :=
  [⟨0x140, 1, 0⟩, ⟨0x141, 2, 1⟩, ⟨0x142, 1, 1⟩, ⟨0x143, 1, 1⟩, ⟨0x144, 1, 1⟩, ⟨0x145, 1, 1⟩, ⟨0x146, 1, 0⟩, ⟨0x147, 1, 0⟩, ⟨0x148, 2, 1⟩, ⟨0x149, 2, 1⟩, ⟨0x14A, 1, 1⟩, ⟨0x14B, 2, 1⟩]

/-- Codes of block 11. -/
def faultRows11 : List FaultRow :=
  [⟨0x160, 1, 0⟩, ⟨0x161, 2, 1⟩, ⟨0x162, 1, 1⟩, ⟨0x163, 2, 1⟩, ⟨0x164, 1, 1⟩, ⟨0x165, 1, 1⟩, ⟨0x166, 1, 1⟩, ⟨0x167, 2, 3⟩, ⟨0x168, 2, 3⟩]

/-- Codes of block 12. -/
def faultRows12 : List FaultRow :=
  [⟨0x180, 1, 0⟩, ⟨0x181, 2, 1⟩, ⟨0x182, 2, 3⟩, ⟨0x183, 2, 3⟩, ⟨0x184, 2, 3⟩, ⟨0x185, 2, 3⟩, ⟨0x186, 2, 3⟩, ⟨0x187, 2, 3⟩, ⟨0x188, 3, 4⟩, ⟨0x189, 2, 3⟩, ⟨0x18A, 2, 1⟩, ⟨0x18B, 2, 1⟩, ⟨0x18C, 1, 1⟩, ⟨0x18D, 2, 3⟩, ⟨0x18E, 3, 4⟩, ⟨0x18F, 3, 4⟩, ⟨0x190, 1, 1⟩]

/-- Codes of block 13. -/
def faultRows13 : List FaultRow :=
  [⟨0x1A0, 1, 0⟩, ⟨0x1A1, 2, 1⟩, ⟨0x1A2, 2, 1⟩, ⟨0x1A3, 2, 1⟩, ⟨0x1A4, 2, 1⟩, ⟨0x1A5, 2, 1⟩, ⟨0x1A6, 2, 1⟩, ⟨0x1A7, 2, 1⟩, ⟨0x1A8, 1, 0⟩, ⟨0x1A9, 1, 0⟩]

/-- Codes of block 14. -/
def faultRows14 : List FaultRow :=
  [⟨0x1C0, 1, 0⟩, ⟨0x1C1, 2, 1⟩]

/-- Codes of block 15. -/
def faultRows15 : List FaultRow :=
  [⟨0x1E0, 1, 0⟩, ⟨0x1E1, 2, 1⟩, ⟨0x1E2, 1, 1⟩, ⟨0x1E3, 3, 4⟩, ⟨0x1E4, 3, 4⟩, ⟨0x1E5, 3, 4⟩, ⟨0x1E6, 2, 1⟩, ⟨0x1E7, 3, 4⟩]

/-- Codes of block 16. -/
def faultRows16 : List FaultRow :=
  [⟨0x200, 1, 0⟩, ⟨0x201, 2, 1⟩, ⟨0x202, 2, 3⟩, ⟨0x203, 3, 4⟩, ⟨0x204, 3, 4⟩]

/-- Codes of block 17. -/
def faultRows17 : List FaultRow :=
  [⟨0x220, 1, 0⟩, ⟨0x221, 2, 1⟩, ⟨0x222, 3, 4⟩, ⟨0x223, 3, 4⟩, ⟨0x224, 3, 4⟩]

/-- Codes of block 18. -/
def faultRows18 : List FaultRow :=
  [⟨0x240, 1, 0⟩, ⟨0x241, 2, 1⟩, ⟨0x242, 2, 3⟩, ⟨0x243, 1, 1⟩, ⟨0x244, 1, 1⟩]

/-- Codes of block 19. -/
def faultRows19 : List FaultRow :=
  [⟨0x260, 1, 0⟩, ⟨0x261, 2, 1⟩, ⟨0x262, 1, 1⟩, ⟨0x263, 2, 1⟩, ⟨0x264, 2, 3⟩, ⟨0x265, 3, 4⟩]

/-- Codes of block 20. -/
def faultRows20 : List FaultRow :=
  [⟨0x280, 1, 0⟩, ⟨0x281, 2, 1⟩, ⟨0x282, 2, 1⟩, ⟨0x283, 1, 1⟩, ⟨0x284, 2, 1⟩]

/-- Codes of block 21. -/
def faultRows21 : List FaultRow :=
  [⟨0x2A0, 1, 0⟩, ⟨0x2A1, 2, 1⟩, ⟨0x2A2, 3, 4⟩]

/-- The codes of a block, none of a reserved block. -/
def faultRows : Nat → List FaultRow
  | 0 => faultRows0
  | 1 => faultRows1
  | 2 => faultRows2
  | 3 => faultRows3
  | 4 => faultRows4
  | 5 => faultRows5
  | 6 => faultRows6
  | 7 => faultRows7
  | 8 => faultRows8
  | 9 => faultRows9
  | 10 => faultRows10
  | 11 => faultRows11
  | 12 => faultRows12
  | 13 => faultRows13
  | 14 => faultRows14
  | 15 => faultRows15
  | 16 => faultRows16
  | 17 => faultRows17
  | 18 => faultRows18
  | 19 => faultRows19
  | 20 => faultRows20
  | 21 => faultRows21
  | _ => []

/-- The row of a code; codes not listed are reserved. -/
def faultRow (code : Nat) : Option FaultRow := (faultRows (code / 32)).find? (fun r => r.code = code)

/-- Class of a code; 0 for a reserved one. -/
def faultClass (code : Nat) : Nat := (faultRow code).elim 0 (·.cls)

/-- Default reaction of a code; NONE for a reserved one (R382: 0x0 for codes not listed). -/
def faultDefault (code : Nat) : Nat := (faultRow code).elim 0 (·.dflt)

/-- The reset word of FRISKET_b_w: the defaults of events 8w to 8w + 7 of block b, four bits apart (R382). -/
def friskReset (b w : Nat) : Nat :=
  (List.range 8).foldr (fun j acc => faultDefault (32 * b + 8 * w + j) + 16 * acc) 0

end Sys2Proof.Machine
end

