-- ==== Sys2Proof/Machine/RegRows.lean ====
section
/-!
DEFINITION. The words of one lane's BAR0: where each register of the spec's register maps stands, which of its bits
the host may write and how (R8: RWS until the quoin seal, RW, W1C, WO; every other bit is read only or reserved), and
its reset value. A word that no row covers is reserved space: it reads 0 and discards writes (R8).
-/

namespace Sys2Proof.Machine

/-- Pages 0x00: the registers of ID. -/
def regRows00 : List RegRow :=
  [⟨0x0, 4, 1, 4, 1, 0x0, 0x0, 0x0, 0x0, 0x7316E316⟩,
   ⟨0x4, 4, 1, 4, 1, 0x0, 0x0, 0x0, 0x0, 0x100⟩,
   ⟨0x8, 4, 1, 4, 1, 0x0, 0x0, 0x0, 0x0, 0x0⟩,
   ⟨0xC, 4, 1, 4, 1, 0x0, 0x0, 0x0, 0x0, 0x0⟩,
   ⟨0x10, 4, 1, 4, 1, 0x0, 0x0, 0x0, 0x0, 0x0⟩,
   ⟨0x20, 4, 8, 4, 1, 0x0, 0x0, 0x0, 0x0, 0x0⟩,
   ⟨0x100, 4, 66, 4, 1, 0x0, 0x0, 0x0, 0x0, 0x0⟩]

/-- Pages 0x01: the registers of PWR. -/
def regRows01 : List RegRow :=
  [⟨0x1000, 4, 1, 4, 1, 0xFFF3FFF, 0x0, 0x0, 0x0, 0xA08C9⟩,
   ⟨0x1004, 4, 1, 4, 1, 0x7F, 0x0, 0x0, 0x0, 0x81⟩,
   ⟨0x1008, 4, 1, 4, 1, 0xFF, 0x0, 0x0, 0x0, 0x87⟩,
   ⟨0x1020, 4, 1, 4, 1, 0x0, 0x0, 0x0, 0x0, 0x0⟩,
   ⟨0x1024, 4, 1, 4, 1, 0x0, 0x0, 0x0, 0x0, 0x0⟩,
   ⟨0x1028, 4, 1, 4, 1, 0x0, 0x0, 0x0, 0x0, 0x0⟩,
   ⟨0x102C, 4, 1, 4, 1, 0x0, 0x0, 0x0, 0x0, 0x0⟩,
   ⟨0x1030, 4, 1, 4, 1, 0x0, 0x0, 0x0, 0x0, 0x0⟩,
   ⟨0x1034, 4, 1, 4, 1, 0x0, 0x0, 0x0, 0x0, 0x0⟩,
   ⟨0x1038, 4, 1, 4, 1, 0x0, 0x0, 0x0, 0x0, 0x1F4⟩]

/-- Pages 0x02: the registers of CLK. -/
def regRows02 : List RegRow :=
  [⟨0x2000, 4, 1, 4, 1, 0x3, 0x0, 0x0, 0x0, 0x0⟩,
   ⟨0x2004, 4, 1, 4, 1, 0x0, 0x0, 0x0, 0x0, 0x0⟩,
   ⟨0x2008, 4, 1, 4, 1, 0x0, 0x0, 0x0, 0x0, 0x0⟩,
   ⟨0x200C, 4, 1, 4, 1, 0x0, 0x0, 0x0, 0x0, 0x0⟩,
   ⟨0x2010, 4, 1, 4, 1, 0x0, 0x0, 0x0, 0x0, 0x0⟩]

/-- Pages 0x03: the registers of HIF. -/
def regRows03 : List RegRow :=
  [⟨0x3000, 4, 1, 4, 1, 0xFF, 0x0, 0x0, 0x0, 0x2⟩,
   ⟨0x3004, 4, 1, 4, 1, 0x0, 0x0, 0x0, 0x0, 0x100⟩,
   ⟨0x3008, 4, 1, 4, 1, 0x0, 0x0, 0x0, 0x0, 0x0⟩,
   ⟨0x300C, 4, 1, 4, 1, 0x0, 0x0, 0x0, 0xFFFFFFFF, 0x0⟩,
   ⟨0x3010, 4, 1, 4, 1, 0xFFFFFF00, 0x0, 0x0, 0x0, 0x0⟩,
   ⟨0x3014, 4, 1, 4, 1, 0xFFFFFFFF, 0x0, 0x0, 0x0, 0x0⟩,
   ⟨0x3018, 4, 1, 4, 1, 0xFFFFF000, 0x0, 0x0, 0x0, 0x0⟩,
   ⟨0x301C, 4, 1, 4, 1, 0xFFFFFFFF, 0x0, 0x0, 0x0, 0x0⟩,
   ⟨0x3020, 4, 1, 4, 1, 0x3FF, 0x0, 0x0, 0x0, 0xA⟩,
   ⟨0x3024, 4, 1, 4, 1, 0x3FF, 0x0, 0x0, 0x0, 0x64⟩,
   ⟨0x3028, 4, 1, 4, 1, 0x7FF, 0x0, 0x0, 0x0, 0x432⟩,
   ⟨0x302C, 4, 1, 4, 1, 0x0, 0x0, 0x0, 0x0, 0x0⟩,
   ⟨0x3100, 16, 16, 4, 1, 0xFFFFF000, 0x0, 0x0, 0x0, 0x0⟩,
   ⟨0x3104, 16, 16, 4, 1, 0xFFFFFFFF, 0x0, 0x0, 0x0, 0x0⟩,
   ⟨0x3108, 16, 16, 4, 1, 0xFF1F, 0x0, 0x0, 0x0, 0x100⟩,
   ⟨0x3200, 16, 16, 4, 1, 0xFFFFF000, 0x0, 0x0, 0x0, 0x0⟩,
   ⟨0x3204, 16, 16, 4, 1, 0xFFFFFFFF, 0x0, 0x0, 0x0, 0x0⟩,
   ⟨0x3208, 16, 16, 4, 1, 0x1F, 0x0, 0x0, 0x0, 0x0⟩,
   ⟨0x3300, 4, 16, 4, 1, 0x0, 0x0, 0x0, 0x0, 0x0⟩,
   ⟨0x3340, 4, 16, 4, 1, 0x0, 0x0, 0x0, 0x0, 0x0⟩]

/-- Pages 0x04: the registers of IRQ. -/
def regRows04 : List RegRow :=
  [⟨0x4000, 2048, 2, 4, 1, 0x0, 0x0, 0x2, 0x0, 0x0⟩,
   ⟨0x4004, 2048, 2, 4, 1, 0x0, 0x0, 0x0, 0x0, 0x0⟩,
   ⟨0x4008, 2048, 2, 4, 1, 0x0, 0x0, 0x0, 0x0, 0x0⟩,
   ⟨0x4020, 2048, 2, 4, 8, 0x0, 0xFFFFFFFF, 0x0, 0x0, 0xFFFFFFFF⟩,
   ⟨0x4040, 2048, 2, 4, 8, 0x0, 0xFFFFFFFF, 0x0, 0x0, 0x0⟩,
   ⟨0x4060, 2048, 2, 4, 8, 0x0, 0x0, 0xFFFFFFFF, 0x0, 0x0⟩,
   ⟨0x4080, 2048, 2, 4, 8, 0x0, 0x0, 0x0, 0x0, 0x0⟩,
   ⟨0x40A0, 2048, 2, 4, 8, 0x0, 0x0, 0x0, 0xFFFFFFFF, 0x0⟩,
   ⟨0x40C0, 2048, 2, 4, 1, 0x0, 0x0, 0x0, 0xFFFFFFFF, 0x0⟩,
   ⟨0x40C4, 2048, 2, 4, 1, 0x0, 0x0, 0x0, 0x0, 0x0⟩,
   ⟨0x40C8, 2048, 2, 4, 1, 0x0, 0x0, 0x0, 0x0, 0x0⟩,
   ⟨0x4400, 4, 1, 4, 1, 0x1, 0x0, 0x0, 0x0, 0x0⟩,
   ⟨0x4404, 4, 1, 4, 1, 0xFFFFFFFF, 0x0, 0x0, 0x0, 0x0⟩,
   ⟨0x4408, 4, 1, 4, 1, 0xFFFFFC00, 0x0, 0x0, 0x0, 0x0⟩,
   ⟨0x440C, 4, 1, 4, 1, 0xFFFFFFFF, 0x0, 0x0, 0x0, 0x0⟩,
   ⟨0x4500, 4, 32, 4, 1, 0x3FFFFF, 0x0, 0x0, 0x0, 0x0⟩]

/-- Pages 0x05: the registers of FLT. -/
def regRows05 : List RegRow :=
  [⟨0x5000, 4, 1, 4, 1, 0x1, 0x0, 0x0, 0x0, 0x0⟩,
   ⟨0x5004, 4, 1, 4, 1, 0x0, 0x0, 0x0, 0x0, 0x0⟩,
   ⟨0x5008, 4, 1, 4, 1, 0x0, 0x0, 0x0, 0x0, 0x0⟩,
   ⟨0x500C, 4, 1, 4, 1, 0x7777700, 0x0, 0x0, 0x0, 0x1111100⟩,
   ⟨0x5040, 16, 22, 4, 4, 0x77777777, 0x0, 0x0, 0x0, 0x0⟩,
   ⟨0x51C0, 16, 22, 4, 1, 0x0, 0x0, 0x0, 0x0, 0x0⟩,
   ⟨0x51C4, 16, 22, 4, 1, 0x0, 0x0, 0x0, 0x0, 0x0⟩,
   ⟨0x51C8, 16, 22, 4, 1, 0x0, 0x0, 0x0, 0x0, 0x0⟩,
   ⟨0x51CC, 16, 22, 4, 1, 0x0, 0x0, 0x0, 0x0, 0x0⟩,
   ⟨0x5400, 128, 22, 16, 8, 0x0, 0x0, 0x0, 0x0, 0x0⟩,
   ⟨0x5404, 128, 22, 16, 8, 0x0, 0x0, 0x0, 0x0, 0x0⟩,
   ⟨0x5408, 128, 22, 16, 8, 0x0, 0x0, 0x0, 0x0, 0x0⟩,
   ⟨0x540C, 128, 22, 16, 8, 0x0, 0x0, 0x0, 0x0, 0x0⟩]

/-- Pages 0x06: the registers of BIST. -/
def regRows06 : List RegRow :=
  [⟨0x6000, 4, 1, 4, 1, 0xFF3F, 0x0, 0x0, 0x0, 0x103F⟩,
   ⟨0x6004, 4, 1, 4, 1, 0x0, 0x0, 0x0, 0x0, 0xF00⟩,
   ⟨0x6008, 4, 1, 4, 1, 0x0, 0x0, 0x0, 0x0, 0x3⟩,
   ⟨0x600C, 4, 1, 4, 1, 0x0, 0x0, 0x0, 0x0, 0x0⟩,
   ⟨0x6010, 4, 1, 4, 1, 0x0, 0x0, 0x0, 0x0, 0x0⟩,
   ⟨0x6050, 16, 6, 4, 1, 0x0, 0x0, 0x0, 0x0, 0x0⟩,
   ⟨0x6054, 16, 6, 4, 1, 0x0, 0x0, 0x0, 0x0, 0x0⟩,
   ⟨0x6058, 16, 6, 4, 1, 0x0, 0x0, 0x0, 0x0, 0x0⟩,
   ⟨0x605C, 16, 6, 4, 1, 0x0, 0x0, 0x0, 0x0, 0xFF⟩]

/-- Pages 0x07: the registers of SEC. -/
def regRows07 : List RegRow :=
  [⟨0x7000, 4, 1, 4, 1, 0xFFF, 0x0, 0x0, 0x0, 0x12C⟩,
   ⟨0x7004, 4, 1, 4, 1, 0x0, 0x0, 0x0, 0x0, 0x0⟩,
   ⟨0x7010, 4, 4, 4, 1, 0x0, 0x0, 0x0, 0x0, 0x0⟩,
   ⟨0x7020, 4, 1, 4, 1, 0x0, 0x0, 0x0, 0x0, 0x0⟩,
   ⟨0x7024, 4, 4, 4, 1, 0x0, 0x0, 0x0, 0x0, 0x0⟩,
   ⟨0x7040, 4, 1, 4, 1, 0x0, 0x0, 0x0, 0x0, 0x0⟩,
   ⟨0x7044, 4, 1, 4, 1, 0x0, 0x0, 0x0, 0x0, 0x0⟩,
   ⟨0x7048, 4, 1, 4, 1, 0x0, 0x0, 0x0, 0x0, 0x0⟩,
   ⟨0x704C, 4, 1, 4, 1, 0x0, 0x0, 0x0, 0x0, 0x0⟩,
   ⟨0x7050, 4, 1, 4, 1, 0x0, 0x0, 0x0, 0x0, 0x0⟩,
   ⟨0x7060, 4, 1, 4, 1, 0x0, 0x0, 0x0, 0x0, 0x0⟩,
   ⟨0x7080, 16, 8, 4, 1, 0x0, 0x0, 0x0, 0x0, 0x0⟩,
   ⟨0x7084, 16, 8, 4, 1, 0x0, 0x0, 0x0, 0x0, 0x0⟩,
   ⟨0x7088, 16, 8, 4, 1, 0x0, 0x0, 0x0, 0x0, 0x0⟩,
   ⟨0x708C, 16, 8, 4, 1, 0x0, 0x0, 0x0, 0x0, 0x0⟩,
   ⟨0x7100, 4, 1, 4, 1, 0x0, 0x0, 0x0, 0x0, 0x0⟩]

/-- Pages 0x08: the registers of CFG. -/
def regRows08 : List RegRow :=
  [⟨0x8000, 4, 1, 4, 1, 0x0, 0x0, 0x0, 0x0, 0x0⟩,
   ⟨0x8004, 4, 1, 4, 1, 0x0, 0x0, 0x0, 0x0, 0x0⟩,
   ⟨0x8008, 4, 1, 4, 1, 0x0, 0x0, 0x0, 0x0, 0x0⟩,
   ⟨0x800C, 4, 1, 4, 1, 0x0, 0x0, 0x0, 0x0, 0x0⟩,
   ⟨0x8010, 4, 1, 4, 1, 0x0, 0x0, 0x0, 0x0, 0x0⟩,
   ⟨0x8014, 4, 1, 4, 1, 0x0, 0x0, 0x0, 0x0, 0x0⟩,
   ⟨0x8020, 4, 1, 4, 1, 0x0, 0x0, 0x0, 0x0, 0x0⟩,
   ⟨0x8024, 4, 1, 4, 1, 0x0, 0x0, 0x0, 0x0, 0x0⟩,
   ⟨0x8040, 4, 16, 4, 1, 0x0, 0x0, 0x0, 0x0, 0x0⟩,
   ⟨0x8080, 4, 16, 4, 1, 0x0, 0x0, 0x0, 0x0, 0x0⟩]

/-- Pages 0x09: the registers of TIME. -/
def regRows09 : List RegRow :=
  [⟨0x9000, 4, 1, 4, 1, 0x7FFFF, 0x0, 0x0, 0x0, 0x38005⟩,
   ⟨0x9004, 4, 1, 4, 1, 0xFFFFF, 0x0, 0x0, 0x0, 0x40A0A⟩,
   ⟨0x9008, 4, 1, 4, 1, 0x3FFFFF, 0x0, 0x0, 0x0, 0x12C00A⟩,
   ⟨0x900C, 4, 1, 4, 1, 0xFFFFFF, 0x0, 0x0, 0x0, 0xF8F8F6⟩,
   ⟨0x9020, 4, 1, 4, 1, 0x0, 0x0, 0x0, 0x0, 0x0⟩,
   ⟨0x9024, 4, 1, 4, 1, 0x0, 0x0, 0x0, 0x0, 0x0⟩,
   ⟨0x9028, 4, 1, 4, 1, 0x0, 0x0, 0x0, 0x0, 0x0⟩,
   ⟨0x902C, 4, 1, 4, 1, 0x0, 0x0, 0x0, 0x0, 0x0⟩,
   ⟨0x9030, 4, 1, 4, 1, 0x0, 0x0, 0x0, 0x0, 0x0⟩,
   ⟨0x9038, 4, 1, 4, 1, 0x0, 0x0, 0x0, 0x0, 0x0⟩,
   ⟨0x903C, 4, 1, 4, 1, 0x0, 0x0, 0x0, 0x0, 0x0⟩,
   ⟨0x9040, 4, 1, 4, 1, 0x0, 0x0, 0x0, 0x0, 0x0⟩,
   ⟨0x9044, 4, 1, 4, 1, 0x0, 0x0, 0x0, 0x0, 0x0⟩,
   ⟨0x9048, 4, 1, 4, 1, 0x0, 0x0, 0x0, 0x0, 0x0⟩,
   ⟨0x904C, 4, 1, 4, 1, 0x0, 0x0, 0x0, 0x0, 0x0⟩,
   ⟨0x9050, 4, 1, 4, 1, 0x0, 0x0, 0x0, 0x0, 0x0⟩,
   ⟨0x9054, 4, 1, 4, 1, 0x0, 0x0, 0x0, 0x0, 0x0⟩,
   ⟨0x9058, 4, 1, 4, 1, 0x0, 0x0, 0x0, 0x0, 0x0⟩,
   ⟨0x905C, 4, 1, 4, 1, 0x0, 0x0, 0x0, 0x0, 0x0⟩,
   ⟨0x9060, 4, 4, 4, 1, 0xFFFFFFFF, 0x0, 0x0, 0x0, 0x0⟩,
   ⟨0x9080, 8, 4, 4, 1, 0xFFFFFF03, 0x0, 0x0, 0x0, 0x0⟩,
   ⟨0x9084, 8, 4, 4, 1, 0xFFFFFF, 0x0, 0x0, 0x0, 0x3E8⟩]

/-- Pages 0x0A: the registers of NET. -/
def regRows0A : List RegRow :=
  [⟨0xA000, 2048, 2, 4, 1, 0x3FF, 0x0, 0x0, 0x0, 0x0⟩,
   ⟨0xA004, 2048, 2, 4, 1, 0x0, 0x0, 0x0, 0x0, 0x0⟩,
   ⟨0xA008, 2048, 2, 4, 1, 0x7FF, 0x0, 0x0, 0x0, 0x52C⟩,
   ⟨0xA00C, 2048, 2, 4, 1, 0x0, 0x0, 0x0, 0x0, 0x0⟩,
   ⟨0xA010, 2048, 2, 4, 1, 0x0, 0x0, 0x0, 0x0, 0x0⟩,
   ⟨0xA020, 2048, 2, 16, 2, 0x3FFFFFFF, 0x0, 0x0, 0x0, 0x0⟩,
   ⟨0xA024, 2048, 2, 16, 2, 0xFFFFFFFF, 0x0, 0x0, 0x0, 0x0⟩,
   ⟨0xA028, 2048, 2, 16, 2, 0x7FFFFFF, 0x0, 0x0, 0x0, 0x186A0⟩,
   ⟨0xA02C, 2048, 2, 16, 2, 0x7F, 0x0, 0x0, 0x0, 0x1⟩,
   ⟨0xA040, 48, 2, 4, 4, 0x0, 0x0, 0x0, 0xFFFFFFFF, 0x0⟩,
   ⟨0xA840, 48, 2, 4, 4, 0x0, 0x0, 0x0, 0xFFFFFFFF, 0x0⟩,
   ⟨0xA050, 2048, 2, 48, 2, 0xFFFFFFFF, 0x0, 0x0, 0x0, 0x0⟩,
   ⟨0xA054, 2048, 2, 48, 2, 0xFFFFFFFF, 0x0, 0x0, 0x0, 0x0⟩,
   ⟨0xA058, 2048, 2, 48, 2, 0xFFFFFFFF, 0x0, 0x0, 0x0, 0x0⟩,
   ⟨0xA05C, 2048, 2, 48, 2, 0xFFFFFFFF, 0x0, 0x0, 0x0, 0x0⟩,
   ⟨0xA060, 2048, 2, 48, 2, 0x7, 0x0, 0x0, 0x0, 0x4⟩,
   ⟨0xA0A0, 2048, 2, 8, 2, 0x0, 0x0, 0x0, 0x0, 0x0⟩,
   ⟨0xA0A4, 2048, 2, 8, 2, 0x0, 0x0, 0x0, 0x0, 0x0⟩,
   ⟨0xA100, 256, 2, 4, 64, 0xFFFFFFFF, 0x0, 0x0, 0x0, 0xFF⟩,
   ⟨0xA900, 256, 2, 4, 64, 0xFFFFFFFF, 0x0, 0x0, 0x0, 0xFF⟩,
   ⟨0xA400, 4, 1, 4, 1, 0xFFFF003F, 0x0, 0x0, 0x0, 0x88B50014⟩,
   ⟨0xA404, 4, 1, 4, 1, 0xFFFF, 0x0, 0x0, 0x0, 0x7000⟩,
   ⟨0xA408, 4, 1, 4, 1, 0x3FFFF, 0x0, 0x0, 0x0, 0x0⟩,
   ⟨0xA40C, 4, 1, 4, 1, 0x7FFFF, 0x0, 0x0, 0x0, 0x0⟩,
   ⟨0xA410, 4, 1, 4, 1, 0x3FF01FF, 0x0, 0x0, 0x0, 0x640064⟩,
   ⟨0xA414, 4, 1, 4, 1, 0xFF, 0x0, 0x0, 0x0, 0x14⟩,
   ⟨0xA418, 4, 1, 4, 1, 0x3, 0x0, 0x0, 0x0, 0x2⟩,
   ⟨0xA41C, 4, 1, 4, 1, 0xFFFFFFFF, 0x0, 0x0, 0x0, 0x0⟩,
   ⟨0xA420, 4, 1, 4, 1, 0xFFFFFFFF, 0x0, 0x0, 0x0, 0x0⟩,
   ⟨0xA424, 4, 1, 4, 1, 0xFFFFFFFF, 0x0, 0x0, 0x0, 0x0⟩,
   ⟨0xA440, 64, 2, 4, 1, 0x0, 0x0, 0x0, 0x0, 0x0⟩,
   ⟨0xA444, 64, 2, 4, 1, 0x0, 0x0, 0x0, 0x0, 0x0⟩,
   ⟨0xA448, 64, 2, 4, 1, 0x0, 0x0, 0x0, 0x0, 0x0⟩,
   ⟨0xA44C, 64, 2, 4, 1, 0x0, 0x0, 0x0, 0x0, 0x0⟩,
   ⟨0xA450, 64, 2, 4, 1, 0x0, 0x0, 0x0, 0x0, 0x0⟩,
   ⟨0xA454, 64, 2, 4, 1, 0x0, 0x0, 0x0, 0x0, 0x0⟩,
   ⟨0xA458, 64, 2, 4, 1, 0x0, 0x0, 0x0, 0x0, 0x0⟩,
   ⟨0xA45C, 64, 2, 4, 1, 0x0, 0x0, 0x0, 0x0, 0x0⟩,
   ⟨0xA460, 64, 2, 4, 1, 0x0, 0x0, 0x0, 0x0, 0x0⟩,
   ⟨0xA464, 64, 2, 4, 1, 0x0, 0x0, 0x0, 0x0, 0x0⟩,
   ⟨0xA468, 64, 2, 4, 1, 0x0, 0x0, 0x0, 0x0, 0x0⟩,
   ⟨0xA46C, 64, 2, 4, 1, 0x0, 0x0, 0x0, 0x0, 0x0⟩,
   ⟨0xA470, 64, 2, 4, 1, 0x0, 0x0, 0x0, 0x0, 0x0⟩,
   ⟨0xA474, 64, 2, 4, 1, 0x0, 0x0, 0x0, 0x0, 0x0⟩,
   ⟨0xA478, 64, 2, 4, 1, 0x0, 0x0, 0x0, 0x0, 0x0⟩,
   ⟨0xA4C0, 4, 1, 4, 1, 0x0, 0x0, 0x0, 0x0, 0x0⟩,
   ⟨0xA4C4, 4, 1, 4, 1, 0x0, 0x0, 0x0, 0x0, 0x0⟩,
   ⟨0xA4C8, 4, 1, 4, 1, 0x0, 0x0, 0x0, 0x0, 0x0⟩]

/-- Pages 0x0B: the registers of CAN. -/
def regRows0B : List RegRow :=
  [⟨0xB000, 2048, 2, 4, 1, 0x1F, 0x0, 0x0, 0x0, 0x8⟩,
   ⟨0xB004, 2048, 2, 4, 1, 0x3FFFFFFF, 0x0, 0x0, 0x0, 0xF9F7E01⟩,
   ⟨0xB008, 2048, 2, 4, 1, 0x1FFFFF1F, 0x0, 0x0, 0x0, 0x7E21D00⟩,
   ⟨0xB80C, 4, 1, 4, 1, 0x1FFFFF1F, 0x0, 0x0, 0x0, 0x1444400⟩,
   ⟨0xB010, 2048, 2, 4, 1, 0x0, 0x0, 0x0, 0x0, 0x0⟩,
   ⟨0xB014, 2048, 2, 4, 1, 0x0, 0x0, 0x0, 0x0, 0x0⟩,
   ⟨0xB018, 2048, 2, 4, 1, 0xFFFFFF80, 0x0, 0x0, 0x0, 0x0⟩,
   ⟨0xB01C, 2048, 2, 4, 1, 0xFFFFFFFF, 0x0, 0x0, 0x0, 0x0⟩,
   ⟨0xB020, 2048, 2, 4, 1, 0xF, 0x0, 0x0, 0x0, 0x0⟩,
   ⟨0xB024, 2048, 2, 4, 1, 0x0, 0x0, 0x0, 0x0, 0x0⟩,
   ⟨0xB028, 2048, 2, 4, 1, 0x0, 0x0, 0x0, 0x0, 0x0⟩,
   ⟨0xB100, 2048, 2, 8, 16, 0xFFFFFFFF, 0x0, 0x0, 0x0, 0x0⟩,
   ⟨0xB104, 2048, 2, 8, 16, 0xFFFFFFFF, 0x0, 0x0, 0x0, 0x0⟩,
   ⟨0xB200, 2048, 2, 8, 32, 0xBFFFFFFF, 0x0, 0x0, 0x0, 0x0⟩,
   ⟨0xB204, 2048, 2, 8, 32, 0x1FFFFFFF, 0x0, 0x0, 0x0, 0x0⟩]

/-- Pages 0x0C: the registers of VOTE. -/
def regRows0C : List RegRow :=
  [⟨0xC000, 4, 1, 4, 1, 0x1F77F, 0x0, 0x0, 0x0, 0x1220A⟩,
   ⟨0xC004, 4, 1, 4, 1, 0xFFFF000F, 0x0, 0x0, 0x0, 0x3E8000B⟩,
   ⟨0xC008, 4, 1, 4, 1, 0x3FF03FF, 0x0, 0x0, 0x0, 0x640032⟩,
   ⟨0xC00C, 4, 1, 4, 1, 0x3FF3FFF, 0x0, 0x0, 0x0, 0xC803E8⟩,
   ⟨0xC010, 4, 1, 4, 1, 0x7F7FFF, 0x0, 0x0, 0x0, 0x3203E8⟩,
   ⟨0xC020, 4, 1, 4, 1, 0x0, 0x0, 0x0, 0x0, 0x43⟩,
   ⟨0xC024, 4, 1, 4, 1, 0x0, 0x0, 0x0, 0x0, 0x0⟩,
   ⟨0xC028, 4, 1, 4, 1, 0x0, 0x0, 0x0, 0x0, 0x0⟩,
   ⟨0xC02C, 4, 1, 4, 1, 0x0, 0x0, 0x0, 0x0, 0x0⟩,
   ⟨0xC030, 4, 1, 4, 1, 0x0, 0x0, 0x0, 0x0, 0x0⟩,
   ⟨0xC034, 4, 1, 4, 1, 0x0, 0x0, 0x0, 0x0, 0x0⟩,
   ⟨0xC040, 4, 8, 4, 1, 0x3FFFFFF, 0x0, 0x0, 0x0, 0xA0100⟩,
   ⟨0xC060, 8, 8, 4, 1, 0xFFFFFF, 0x0, 0x0, 0x0, 0x212122⟩,
   ⟨0xC064, 8, 8, 4, 1, 0xFFFFFF, 0x0, 0x0, 0x0, 0x323232⟩]

/-- Pages 0x10, 0x11, 0x12, 0x13, 0x14, 0x15, 0x16, 0x17: the registers of LOOP. -/
def regRows10 : List RegRow :=
  [⟨0x10000, 256, 128, 4, 1, 0x3FFFDFFF, 0x0, 0x0, 0x0, 0xF⟩,
   ⟨0x10004, 256, 128, 4, 1, 0xFFFFFFFF, 0x0, 0x0, 0x0, 0x0⟩,
   ⟨0x10008, 256, 128, 4, 1, 0xFFFFFFFF, 0x0, 0x0, 0x0, 0x0⟩,
   ⟨0x1000C, 256, 128, 4, 1, 0x1FFF, 0x0, 0x0, 0x0, 0x0⟩,
   ⟨0x10010, 256, 128, 4, 1, 0xFFFFFFFF, 0x0, 0x0, 0x0, 0x0⟩,
   ⟨0x10014, 256, 128, 4, 1, 0xFFFFFFFF, 0x0, 0x0, 0x0, 0x0⟩,
   ⟨0x10018, 256, 128, 4, 1, 0xFFFFFFFF, 0x0, 0x0, 0x0, 0x0⟩,
   ⟨0x1001C, 256, 128, 4, 1, 0xFFFFFFFF, 0x0, 0x0, 0x0, 0x0⟩,
   ⟨0x10020, 256, 128, 4, 1, 0xFFFF, 0x0, 0x0, 0x0, 0x0⟩,
   ⟨0x10024, 256, 128, 4, 1, 0xFFFFFFFF, 0x0, 0x0, 0x0, 0x80000000⟩,
   ⟨0x10028, 256, 128, 4, 1, 0xFFFFFFFF, 0x0, 0x0, 0x0, 0x7FFFFFFF⟩,
   ⟨0x1002C, 256, 128, 4, 1, 0xFFFFFFFF, 0x0, 0x0, 0x0, 0x0⟩,
   ⟨0x10030, 256, 128, 4, 1, 0xFFFFFFFF, 0x0, 0x0, 0x0, 0x0⟩,
   ⟨0x10034, 256, 128, 4, 1, 0xFFFF, 0x0, 0x0, 0x0, 0x2710⟩,
   ⟨0x10080, 256, 128, 4, 1, 0x0, 0x0, 0x0, 0x0, 0x0⟩,
   ⟨0x10084, 256, 128, 4, 1, 0x0, 0x0, 0x0, 0x0, 0x0⟩,
   ⟨0x10088, 256, 128, 4, 1, 0x0, 0x0, 0x0, 0x0, 0x0⟩,
   ⟨0x1008C, 256, 128, 4, 1, 0x0, 0x0, 0x0, 0x0, 0x0⟩,
   ⟨0x10090, 256, 128, 4, 1, 0x0, 0x0, 0x0, 0x0, 0x0⟩,
   ⟨0x10094, 256, 128, 4, 1, 0x0, 0x0, 0x0, 0x0, 0x0⟩,
   ⟨0x10098, 256, 128, 4, 1, 0x0, 0x0, 0x0, 0x0, 0x0⟩,
   ⟨0x1009C, 256, 128, 4, 1, 0x0, 0x0, 0x0, 0x0, 0x0⟩,
   ⟨0x100A0, 256, 128, 4, 1, 0x0, 0x0, 0x0, 0x0, 0x0⟩,
   ⟨0x100A4, 256, 128, 4, 1, 0x0, 0x0, 0x0, 0x0, 0x0⟩,
   ⟨0x100A8, 256, 128, 4, 1, 0x0, 0x0, 0x0, 0x0, 0x0⟩,
   ⟨0x100AC, 256, 128, 4, 1, 0x0, 0x0, 0x0, 0x0, 0x0⟩,
   ⟨0x100B0, 256, 128, 4, 1, 0x0, 0x0, 0x0, 0x0, 0x0⟩,
   ⟨0x100B4, 256, 128, 4, 1, 0x0, 0x0, 0x0, 0x0, 0x0⟩,
   ⟨0x100B8, 256, 128, 4, 1, 0x0, 0x0, 0x0, 0x0, 0x0⟩]

/-- Pages 0x18: the registers of LOOP. -/
def regRows18 : List RegRow :=
  [⟨0x18000, 16, 4, 4, 1, 0xF3F, 0x0, 0x0, 0x0, 0x0⟩,
   ⟨0x18004, 16, 4, 4, 1, 0xFFFF, 0x0, 0x0, 0x0, 0x64⟩,
   ⟨0x18008, 16, 4, 4, 1, 0xFFF, 0x0, 0x0, 0x0, 0x0⟩,
   ⟨0x18040, 4, 1, 4, 1, 0x0, 0x0, 0x0, 0x0, 0x4688⟩,
   ⟨0x18044, 4, 1, 4, 1, 0x0, 0x0, 0x0, 0x0, 0x0⟩,
   ⟨0x18048, 4, 1, 4, 1, 0x0, 0x0, 0x0, 0x0, 0x0⟩,
   ⟨0x18100, 4, 128, 4, 1, 0x7F7FFF1F, 0x0, 0x0, 0x0, 0x0⟩]

/-- Pages 0x19: the registers of COMM. -/
def regRows19 : List RegRow :=
  [⟨0x19000, 512, 8, 4, 1, 0x3F7FF, 0x0, 0x0, 0x0, 0x10C0⟩,
   ⟨0x19004, 512, 8, 4, 1, 0xFF03FF, 0x0, 0x0, 0x0, 0xF03FF⟩,
   ⟨0x19008, 512, 8, 4, 1, 0xFFFFFFFF, 0x0, 0x0, 0x0, 0x0⟩,
   ⟨0x1900C, 512, 8, 4, 1, 0xFFFFFFFF, 0x0, 0x0, 0x0, 0x0⟩,
   ⟨0x19010, 512, 8, 4, 1, 0xFFFFFFFF, 0x0, 0x0, 0x0, 0x0⟩,
   ⟨0x19014, 512, 8, 4, 1, 0xFFFFFFFF, 0x0, 0x0, 0x0, 0x10000⟩,
   ⟨0x19018, 512, 8, 4, 1, 0x7FFFFFFF, 0x0, 0x0, 0x0, 0x0⟩,
   ⟨0x1901C, 512, 8, 4, 1, 0xFFFFFFFF, 0x0, 0x0, 0x0, 0x0⟩,
   ⟨0x19020, 512, 8, 4, 1, 0xFFFFFFFF, 0x0, 0x0, 0x0, 0x0⟩,
   ⟨0x19024, 512, 8, 4, 1, 0xFFFFFFFF, 0x0, 0x0, 0x0, 0x0⟩,
   ⟨0x19028, 512, 8, 4, 1, 0xFFFFFFFF, 0x0, 0x0, 0x0, 0x0⟩,
   ⟨0x1902C, 512, 8, 4, 1, 0xFFFFFFFF, 0x0, 0x0, 0x0, 0x0⟩,
   ⟨0x19030, 512, 8, 4, 1, 0xFFFFFFFF, 0x0, 0x0, 0x0, 0x0⟩,
   ⟨0x19034, 512, 8, 4, 1, 0xFFFFFFFF, 0x0, 0x0, 0x0, 0x8000⟩,
   ⟨0x19038, 512, 8, 4, 1, 0xFFFFFFFF, 0x0, 0x0, 0x0, 0x105F0000⟩,
   ⟨0x1903C, 512, 8, 4, 1, 0xFFFFFFFF, 0x0, 0x0, 0x0, 0x5A140502⟩,
   ⟨0x19040, 512, 8, 4, 1, 0x7FFFFFFF, 0x0, 0x0, 0x0, 0x1921E1F4⟩,
   ⟨0x19044, 512, 8, 4, 1, 0xFFF, 0x0, 0x0, 0x0, 0x20C⟩,
   ⟨0x19048, 512, 8, 4, 1, 0xFFFFFFFF, 0x0, 0x0, 0x0, 0x0⟩,
   ⟨0x1904C, 512, 8, 4, 1, 0xFFFFFFFF, 0x0, 0x0, 0x0, 0x0⟩,
   ⟨0x19050, 512, 8, 4, 1, 0xFFFFFFFF, 0x0, 0x0, 0x0, 0x0⟩,
   ⟨0x19054, 512, 8, 4, 1, 0x3FFFFFFF, 0x0, 0x0, 0x0, 0xC832032⟩,
   ⟨0x19058, 512, 8, 4, 1, 0x3FF03FF, 0x0, 0x0, 0x0, 0x320064⟩,
   ⟨0x1905C, 512, 8, 4, 1, 0xFFFFFF, 0x0, 0x0, 0x0, 0x2323C⟩,
   ⟨0x19100, 512, 8, 4, 1, 0x0, 0x0, 0x0, 0x0, 0x0⟩,
   ⟨0x19104, 512, 8, 4, 1, 0x0, 0x0, 0x0, 0x0, 0x3F⟩,
   ⟨0x19108, 512, 8, 4, 1, 0x0, 0x0, 0x0, 0x0, 0x0⟩,
   ⟨0x1910C, 512, 8, 4, 1, 0x0, 0x0, 0x0, 0x0, 0x0⟩,
   ⟨0x19110, 512, 8, 4, 1, 0x0, 0x0, 0x0, 0x0, 0x0⟩,
   ⟨0x19114, 512, 8, 4, 1, 0x0, 0x0, 0x0, 0x0, 0x0⟩,
   ⟨0x19118, 512, 8, 4, 1, 0x0, 0x0, 0x0, 0x0, 0x0⟩,
   ⟨0x1911C, 512, 8, 4, 1, 0x0, 0x0, 0x0, 0x0, 0x0⟩,
   ⟨0x19120, 512, 8, 4, 1, 0x0, 0x0, 0x0, 0x0, 0x0⟩,
   ⟨0x19124, 512, 8, 4, 1, 0x0, 0x0, 0x0, 0x0, 0x0⟩,
   ⟨0x19128, 512, 8, 4, 1, 0x0, 0x0, 0x0, 0x0, 0x0⟩,
   ⟨0x1912C, 512, 8, 4, 1, 0x0, 0x0, 0x0, 0x0, 0x0⟩,
   ⟨0x19130, 512, 8, 4, 1, 0x0, 0x0, 0x0, 0x0, 0x0⟩,
   ⟨0x19134, 512, 8, 4, 1, 0x0, 0x0, 0x0, 0x0, 0x0⟩,
   ⟨0x19138, 512, 8, 4, 1, 0x0, 0x0, 0x0, 0x0, 0x0⟩]

/-- Pages 0x1A, 0x1B, 0x1C, 0x1D: the registers of COMM. -/
def regRows1A : List RegRow :=
  [⟨0x1A000, 4, 4096, 4, 1, 0xFFFFFFFF, 0x0, 0x0, 0x0, 0x0⟩]

/-- Pages 0x1E: the registers of PROF. -/
def regRows1E : List RegRow :=
  [⟨0x1E000, 256, 16, 4, 1, 0xFF, 0x0, 0x0, 0x0, 0x20⟩,
   ⟨0x1E004, 256, 16, 4, 1, 0xFFFFFFFF, 0x0, 0x0, 0x0, 0x0⟩,
   ⟨0x1E008, 256, 16, 4, 1, 0x7FFFFFFF, 0x0, 0x0, 0x0, 0x0⟩,
   ⟨0x1E00C, 256, 16, 4, 1, 0xFFFFFFFF, 0x0, 0x0, 0x0, 0x0⟩,
   ⟨0x1E010, 256, 16, 4, 1, 0xFFFFFFFF, 0x0, 0x0, 0x0, 0x0⟩,
   ⟨0x1E014, 256, 16, 4, 1, 0xFFFFFFFF, 0x0, 0x0, 0x0, 0x0⟩,
   ⟨0x1E018, 256, 16, 4, 1, 0xFFFFFFFF, 0x0, 0x0, 0x0, 0x0⟩,
   ⟨0x1E01C, 256, 16, 4, 1, 0xFFFFFFFF, 0x0, 0x0, 0x0, 0x0⟩,
   ⟨0x1E020, 256, 16, 4, 1, 0xFFFFFFFF, 0x0, 0x0, 0x0, 0x0⟩,
   ⟨0x1E024, 256, 16, 4, 1, 0x1FF, 0x0, 0x0, 0x0, 0x0⟩,
   ⟨0x1E028, 256, 16, 4, 1, 0xFFFFFFFF, 0x0, 0x0, 0x0, 0x0⟩,
   ⟨0x1E02C, 256, 16, 4, 1, 0xFFFFFFFF, 0x0, 0x0, 0x0, 0x0⟩,
   ⟨0x1E030, 256, 16, 4, 1, 0xFFFFFFFF, 0x0, 0x0, 0x0, 0x0⟩,
   ⟨0x1E034, 256, 16, 4, 1, 0x1F1F3F, 0x0, 0x0, 0x0, 0xF0F0F⟩,
   ⟨0x1E038, 256, 16, 4, 1, 0x7FFFFFF, 0x0, 0x0, 0x0, 0xA02020⟩,
   ⟨0x1E03C, 256, 16, 4, 1, 0xFFFF, 0x0, 0x0, 0x0, 0x1⟩,
   ⟨0x1E080, 256, 16, 4, 1, 0x0, 0x0, 0x0, 0x0, 0x0⟩,
   ⟨0x1E084, 256, 16, 4, 1, 0x0, 0x0, 0x0, 0x0, 0x0⟩,
   ⟨0x1E088, 256, 16, 4, 1, 0x0, 0x0, 0x0, 0x0, 0x0⟩,
   ⟨0x1E08C, 256, 16, 4, 1, 0x0, 0x0, 0x0, 0x0, 0x0⟩,
   ⟨0x1E090, 256, 16, 4, 1, 0x0, 0x0, 0x0, 0x0, 0x0⟩,
   ⟨0x1E094, 256, 16, 4, 1, 0x0, 0x0, 0x0, 0x0, 0x0⟩,
   ⟨0x1E098, 256, 16, 4, 1, 0x0, 0x0, 0x0, 0x0, 0x0⟩,
   ⟨0x1E09C, 256, 16, 4, 1, 0x0, 0x0, 0x0, 0x0, 0x0⟩,
   ⟨0x1E0A0, 256, 16, 4, 1, 0x0, 0x0, 0x0, 0x0, 0x0⟩,
   ⟨0x1E0A4, 256, 16, 4, 1, 0x0, 0x0, 0x0, 0x0, 0x0⟩,
   ⟨0x1E0A8, 256, 16, 4, 1, 0x0, 0x0, 0x0, 0x0, 0x0⟩,
   ⟨0x1E0AC, 256, 16, 4, 1, 0x0, 0x0, 0x0, 0x0, 0x0⟩,
   ⟨0x1E0B0, 256, 16, 4, 1, 0x0, 0x0, 0x0, 0x0, 0x0⟩,
   ⟨0x1E0B4, 256, 16, 4, 1, 0x0, 0x0, 0x0, 0x0, 0x0⟩,
   ⟨0x1E0B8, 256, 16, 4, 1, 0x0, 0x0, 0x0, 0x0, 0x0⟩,
   ⟨0x1E0BC, 256, 16, 4, 1, 0x0, 0x0, 0x0, 0x0, 0x0⟩,
   ⟨0x1E0C0, 256, 16, 4, 1, 0x0, 0x0, 0x0, 0x0, 0x0⟩,
   ⟨0x1E0C4, 256, 16, 4, 1, 0x0, 0x0, 0x0, 0x0, 0x0⟩]

/-- Pages 0x20: the registers of FBK. -/
def regRows20 : List RegRow :=
  [⟨0x20000, 256, 24, 4, 1, 0xFFFFFF, 0x0, 0x0, 0x0, 0x107860⟩,
   ⟨0x20004, 256, 24, 4, 1, 0xFFFFFFFF, 0x0, 0x0, 0x0, 0x0⟩,
   ⟨0x20008, 256, 24, 4, 1, 0xFF, 0x0, 0x0, 0x0, 0x1⟩,
   ⟨0x2000C, 256, 24, 4, 1, 0xFFFFFFFF, 0x0, 0x0, 0x0, 0x271003E8⟩,
   ⟨0x20010, 256, 24, 4, 1, 0x3FFFFFF, 0x0, 0x0, 0x0, 0x81A⟩,
   ⟨0x20014, 256, 24, 4, 1, 0x3FFFF, 0x0, 0x0, 0x0, 0x0⟩,
   ⟨0x20018, 256, 24, 4, 1, 0xFFFFFF3F, 0x0, 0x0, 0x0, 0x14006400⟩,
   ⟨0x2001C, 256, 24, 4, 1, 0xFFFFF, 0x0, 0x0, 0x0, 0x781E⟩,
   ⟨0x20020, 256, 24, 4, 1, 0xFFFFFFFF, 0x0, 0x0, 0x0, 0x0⟩,
   ⟨0x20040, 256, 24, 8, 4, 0x0, 0x0, 0x0, 0x0, 0x0⟩,
   ⟨0x20044, 256, 24, 8, 4, 0x0, 0x0, 0x0, 0x0, 0x0⟩,
   ⟨0x20060, 256, 24, 4, 1, 0x0, 0x0, 0x0, 0x0, 0x0⟩,
   ⟨0x20064, 256, 24, 4, 1, 0x0, 0x0, 0x0, 0x0, 0x0⟩,
   ⟨0x20080, 256, 24, 4, 1, 0x0, 0x0, 0x0, 0x0, 0x0⟩,
   ⟨0x20084, 256, 24, 4, 1, 0x0, 0x0, 0x0, 0x0, 0x0⟩,
   ⟨0x20088, 256, 24, 4, 1, 0x0, 0x0, 0x0, 0x0, 0x0⟩,
   ⟨0x2008C, 256, 24, 4, 1, 0x0, 0x0, 0x0, 0x0, 0x0⟩,
   ⟨0x20090, 256, 24, 4, 1, 0x0, 0x0, 0x0, 0x0, 0x0⟩,
   ⟨0x20094, 256, 24, 4, 1, 0x0, 0x0, 0x0, 0x0, 0x0⟩,
   ⟨0x20098, 256, 24, 4, 1, 0x0, 0x0, 0x0, 0x0, 0x0⟩,
   ⟨0x2009C, 256, 24, 4, 1, 0x0, 0x0, 0x0, 0x0, 0x0⟩,
   ⟨0x200A0, 256, 24, 4, 1, 0x0, 0x0, 0x0, 0x0, 0x0⟩,
   ⟨0x200A4, 256, 24, 4, 1, 0x0, 0x0, 0x0, 0x0, 0x0⟩,
   ⟨0x200A8, 256, 24, 4, 1, 0x0, 0x0, 0x0, 0x0, 0x0⟩,
   ⟨0x200AC, 256, 24, 4, 1, 0x0, 0x0, 0x0, 0x0, 0x0⟩,
   ⟨0x200B0, 256, 24, 4, 1, 0x0, 0x0, 0x0, 0x0, 0x0⟩,
   ⟨0x200B4, 256, 24, 4, 1, 0x0, 0x0, 0x0, 0x0, 0x0⟩,
   ⟨0x200B8, 256, 24, 4, 1, 0x0, 0x0, 0x0, 0x0, 0x0⟩,
   ⟨0x200BC, 256, 24, 4, 1, 0x0, 0x0, 0x0, 0x0, 0x0⟩,
   ⟨0x200C0, 256, 24, 4, 1, 0x0, 0x0, 0x0, 0x0, 0x0⟩,
   ⟨0x200C4, 256, 24, 4, 1, 0x0, 0x0, 0x0, 0x0, 0x0⟩,
   ⟨0x200C8, 256, 24, 4, 1, 0x0, 0x0, 0x0, 0x0, 0x0⟩,
   ⟨0x200CC, 256, 24, 4, 1, 0x0, 0x0, 0x0, 0x0, 0x0⟩,
   ⟨0x200D0, 256, 8, 4, 1, 0x7FF, 0x0, 0x0, 0x0, 0x19F⟩,
   ⟨0x200D4, 256, 8, 4, 1, 0x0, 0x0, 0x0, 0x0, 0x0⟩,
   ⟨0x200D8, 256, 8, 4, 1, 0x0, 0x0, 0x0, 0x0, 0x0⟩,
   ⟨0x200DC, 256, 8, 4, 1, 0x0, 0x0, 0x0, 0x0, 0x0⟩,
   ⟨0x200E0, 256, 8, 4, 1, 0x0, 0x0, 0x0, 0x0, 0x0⟩,
   ⟨0x200E4, 256, 8, 4, 1, 0x0, 0x0, 0x0, 0x0, 0x0⟩,
   ⟨0x200E8, 256, 24, 4, 1, 0x0, 0x0, 0x0, 0x0, 0x0⟩,
   ⟨0x200EC, 256, 24, 4, 1, 0x0, 0x0, 0x0, 0x0, 0x0⟩,
   ⟨0x200F0, 256, 4, 4, 1, 0x3FF, 0x0, 0x0, 0x0, 0x0⟩,
   ⟨0x200F4, 256, 4, 4, 1, 0xFFFFFF, 0x0, 0x0, 0x0, 0x40001⟩,
   ⟨0x200F8, 256, 4, 4, 1, 0x0, 0x0, 0x0, 0x0, 0x0⟩]

/-- Pages 0x21: the registers of FBK. -/
def regRows21 : List RegRow :=
  [⟨0x20000, 256, 24, 4, 1, 0xFFFFFF, 0x0, 0x0, 0x0, 0x107860⟩,
   ⟨0x20004, 256, 24, 4, 1, 0xFFFFFFFF, 0x0, 0x0, 0x0, 0x0⟩,
   ⟨0x20008, 256, 24, 4, 1, 0xFF, 0x0, 0x0, 0x0, 0x1⟩,
   ⟨0x2000C, 256, 24, 4, 1, 0xFFFFFFFF, 0x0, 0x0, 0x0, 0x271003E8⟩,
   ⟨0x20010, 256, 24, 4, 1, 0x3FFFFFF, 0x0, 0x0, 0x0, 0x81A⟩,
   ⟨0x20014, 256, 24, 4, 1, 0x3FFFF, 0x0, 0x0, 0x0, 0x0⟩,
   ⟨0x20018, 256, 24, 4, 1, 0xFFFFFF3F, 0x0, 0x0, 0x0, 0x14006400⟩,
   ⟨0x2001C, 256, 24, 4, 1, 0xFFFFF, 0x0, 0x0, 0x0, 0x781E⟩,
   ⟨0x20020, 256, 24, 4, 1, 0xFFFFFFFF, 0x0, 0x0, 0x0, 0x0⟩,
   ⟨0x20040, 256, 24, 8, 4, 0x0, 0x0, 0x0, 0x0, 0x0⟩,
   ⟨0x20044, 256, 24, 8, 4, 0x0, 0x0, 0x0, 0x0, 0x0⟩,
   ⟨0x20060, 256, 24, 4, 1, 0x0, 0x0, 0x0, 0x0, 0x0⟩,
   ⟨0x20064, 256, 24, 4, 1, 0x0, 0x0, 0x0, 0x0, 0x0⟩,
   ⟨0x20080, 256, 24, 4, 1, 0x0, 0x0, 0x0, 0x0, 0x0⟩,
   ⟨0x20084, 256, 24, 4, 1, 0x0, 0x0, 0x0, 0x0, 0x0⟩,
   ⟨0x20088, 256, 24, 4, 1, 0x0, 0x0, 0x0, 0x0, 0x0⟩,
   ⟨0x2008C, 256, 24, 4, 1, 0x0, 0x0, 0x0, 0x0, 0x0⟩,
   ⟨0x20090, 256, 24, 4, 1, 0x0, 0x0, 0x0, 0x0, 0x0⟩,
   ⟨0x20094, 256, 24, 4, 1, 0x0, 0x0, 0x0, 0x0, 0x0⟩,
   ⟨0x20098, 256, 24, 4, 1, 0x0, 0x0, 0x0, 0x0, 0x0⟩,
   ⟨0x2009C, 256, 24, 4, 1, 0x0, 0x0, 0x0, 0x0, 0x0⟩,
   ⟨0x200A0, 256, 24, 4, 1, 0x0, 0x0, 0x0, 0x0, 0x0⟩,
   ⟨0x200A4, 256, 24, 4, 1, 0x0, 0x0, 0x0, 0x0, 0x0⟩,
   ⟨0x200A8, 256, 24, 4, 1, 0x0, 0x0, 0x0, 0x0, 0x0⟩,
   ⟨0x200AC, 256, 24, 4, 1, 0x0, 0x0, 0x0, 0x0, 0x0⟩,
   ⟨0x200B0, 256, 24, 4, 1, 0x0, 0x0, 0x0, 0x0, 0x0⟩,
   ⟨0x200B4, 256, 24, 4, 1, 0x0, 0x0, 0x0, 0x0, 0x0⟩,
   ⟨0x200B8, 256, 24, 4, 1, 0x0, 0x0, 0x0, 0x0, 0x0⟩,
   ⟨0x200BC, 256, 24, 4, 1, 0x0, 0x0, 0x0, 0x0, 0x0⟩,
   ⟨0x200C0, 256, 24, 4, 1, 0x0, 0x0, 0x0, 0x0, 0x0⟩,
   ⟨0x200C4, 256, 24, 4, 1, 0x0, 0x0, 0x0, 0x0, 0x0⟩,
   ⟨0x200C8, 256, 24, 4, 1, 0x0, 0x0, 0x0, 0x0, 0x0⟩,
   ⟨0x200CC, 256, 24, 4, 1, 0x0, 0x0, 0x0, 0x0, 0x0⟩,
   ⟨0x200E8, 256, 24, 4, 1, 0x0, 0x0, 0x0, 0x0, 0x0⟩,
   ⟨0x200EC, 256, 24, 4, 1, 0x0, 0x0, 0x0, 0x0, 0x0⟩]

/-- Pages 0x22: the registers of ADC. -/
def regRows22 : List RegRow :=
  [⟨0x22000, 4, 1, 4, 1, 0x1FF07, 0x0, 0x0, 0x0, 0x10506⟩,
   ⟨0x22004, 4, 1, 4, 1, 0x0, 0x0, 0x0, 0x0, 0x0⟩,
   ⟨0x22008, 4, 1, 4, 1, 0x0, 0x0, 0x0, 0x0, 0x0⟩,
   ⟨0x2200C, 4, 1, 4, 1, 0x0, 0x0, 0x0, 0x0, 0x0⟩,
   ⟨0x22010, 4, 1, 4, 1, 0x0, 0x0, 0x0, 0x0, 0x0⟩,
   ⟨0x22100, 32, 16, 4, 1, 0x7FFFF, 0x0, 0x0, 0x0, 0x0⟩,
   ⟨0x22104, 32, 16, 4, 1, 0xFFFF, 0x0, 0x0, 0x0, 0x0⟩,
   ⟨0x22108, 32, 16, 4, 1, 0xFFFFFF, 0x0, 0x0, 0x0, 0xA⟩,
   ⟨0x2210C, 32, 16, 4, 1, 0xFFFFFF, 0x0, 0x0, 0x0, 0x0⟩,
   ⟨0x22110, 32, 16, 4, 1, 0xFFFFFF, 0x0, 0x0, 0x0, 0x0⟩,
   ⟨0x22114, 32, 16, 4, 1, 0xFFFFFF, 0x0, 0x0, 0x0, 0x0⟩,
   ⟨0x22118, 32, 16, 4, 1, 0x0, 0x0, 0x0, 0x0, 0x0⟩,
   ⟨0x22400, 16, 72, 4, 1, 0xFFFF03, 0x0, 0x0, 0x0, 0x140400⟩,
   ⟨0x22404, 16, 72, 4, 1, 0xFFFF, 0x0, 0x0, 0x0, 0x0⟩,
   ⟨0x22408, 16, 72, 4, 1, 0xFFFFFFFF, 0x0, 0x0, 0x0, 0x0⟩,
   ⟨0x22900, 16, 72, 4, 1, 0x0, 0x0, 0x0, 0x0, 0x0⟩,
   ⟨0x22904, 16, 72, 4, 1, 0x0, 0x0, 0x0, 0x0, 0x0⟩,
   ⟨0x22908, 16, 72, 4, 1, 0x0, 0x0, 0x0, 0x0, 0x0⟩,
   ⟨0x2290C, 16, 72, 4, 1, 0x0, 0x0, 0x0, 0x0, 0x0⟩,
   ⟨0x22E00, 8, 24, 4, 1, 0x0, 0x0, 0x0, 0x0, 0x8000⟩,
   ⟨0x22E04, 8, 24, 4, 1, 0x0, 0x0, 0x0, 0x0, 0x0⟩]

/-- Pages 0x24: the registers of GATE. -/
def regRows24 : List RegRow :=
  [⟨0x24000, 128, 26, 4, 1, 0x1F, 0x0, 0x0, 0x0, 0x0⟩,
   ⟨0x24004, 128, 26, 4, 1, 0xFFFF7F, 0x0, 0x0, 0x0, 0x286408⟩,
   ⟨0x24008, 128, 26, 4, 1, 0x1FFFFF, 0x0, 0x0, 0x0, 0x146408⟩,
   ⟨0x2400C, 128, 26, 4, 1, 0x3F1F, 0x0, 0x0, 0x0, 0x2006⟩,
   ⟨0x24010, 128, 26, 4, 1, 0x3FFFFFF, 0x0, 0x0, 0x0, 0x200C864⟩,
   ⟨0x24040, 128, 26, 4, 1, 0x0, 0x0, 0x0, 0x0, 0x0⟩,
   ⟨0x24044, 128, 26, 4, 1, 0x0, 0x0, 0x0, 0x0, 0x0⟩,
   ⟨0x24048, 128, 26, 4, 1, 0x0, 0x0, 0x0, 0x0, 0x0⟩,
   ⟨0x2404C, 128, 26, 4, 1, 0x0, 0x0, 0x0, 0x0, 0x0⟩,
   ⟨0x24050, 128, 26, 4, 1, 0x0, 0x0, 0x0, 0x0, 0x0⟩]

/-- Pages 0x25: the registers of GATE. -/
def regRows25 : List RegRow :=
  [⟨0x25000, 32, 8, 4, 1, 0x7F, 0x0, 0x0, 0x0, 0x20⟩,
   ⟨0x25004, 32, 8, 4, 1, 0xFFFF, 0x0, 0x0, 0x0, 0x2710⟩,
   ⟨0x25008, 32, 8, 4, 1, 0xFFFF, 0x0, 0x0, 0x0, 0x0⟩,
   ⟨0x2500C, 32, 8, 4, 1, 0x0, 0x0, 0x0, 0x0, 0x0⟩,
   ⟨0x25010, 32, 8, 4, 1, 0x0, 0x0, 0x0, 0x0, 0x0⟩,
   ⟨0x25100, 4, 1, 4, 1, 0xFFFFFFFF, 0x0, 0x0, 0x0, 0x0⟩,
   ⟨0x25104, 4, 1, 4, 1, 0xFFFFFFFF, 0x0, 0x0, 0x0, 0x0⟩,
   ⟨0x25108, 4, 1, 4, 1, 0xFFFFFFFF, 0x0, 0x0, 0x0, 0xA0A⟩,
   ⟨0x2510C, 4, 1, 4, 1, 0xFFFFFF03, 0x0, 0x0, 0x0, 0xA053200⟩,
   ⟨0x25110, 4, 1, 4, 1, 0xFFFFFFFF, 0x0, 0x0, 0x0, 0x0⟩,
   ⟨0x25114, 4, 1, 4, 1, 0x0, 0x0, 0x0, 0x0, 0x80000000⟩,
   ⟨0x25118, 4, 1, 4, 1, 0x0, 0x0, 0x0, 0x0, 0x0⟩,
   ⟨0x2511C, 4, 1, 4, 1, 0x1, 0x0, 0x0, 0x0, 0x1⟩,
   ⟨0x25120, 4, 1, 4, 1, 0x0, 0x0, 0x0, 0x0, 0x0⟩,
   ⟨0x25140, 4, 8, 4, 1, 0x1, 0x0, 0x0, 0x0, 0x0⟩]

/-- Pages 0x28: the registers of SIO. -/
def regRows28 : List RegRow :=
  [⟨0x28000, 4, 1, 4, 1, 0x3, 0x0, 0x0, 0x0, 0x2⟩,
   ⟨0x28004, 4, 1, 4, 1, 0x1FFFF0F, 0x0, 0x0, 0x0, 0x786400⟩,
   ⟨0x28008, 4, 1, 4, 1, 0xFFFFFF, 0x0, 0x0, 0x0, 0xA051E⟩,
   ⟨0x28010, 4, 1, 4, 1, 0x0, 0x0, 0x0, 0x0, 0x0⟩,
   ⟨0x28014, 4, 1, 4, 1, 0x0, 0x0, 0x0, 0x0, 0x0⟩,
   ⟨0x28018, 4, 1, 4, 1, 0x0, 0x0, 0x0, 0x0, 0x0⟩,
   ⟨0x2801C, 4, 1, 4, 1, 0x0, 0x0, 0x0, 0x0, 0x0⟩,
   ⟨0x28020, 4, 1, 4, 1, 0x0, 0x0, 0x0, 0x0, 0x0⟩,
   ⟨0x28040, 4, 20, 4, 1, 0xFFFFF, 0x0, 0x0, 0x0, 0x0⟩,
   ⟨0x280A0, 4, 8, 4, 1, 0x7FFFFBF, 0x0, 0x0, 0x0, 0x71E0000⟩,
   ⟨0x280C0, 4, 8, 4, 1, 0x0, 0x0, 0x0, 0x0, 0x0⟩,
   ⟨0x28100, 32, 16, 4, 1, 0xFFFF, 0x0, 0x0, 0x0, 0x0⟩,
   ⟨0x28104, 32, 16, 4, 1, 0xFFFFFFFF, 0x0, 0x0, 0x0, 0xFFFFFFFF⟩,
   ⟨0x28108, 32, 16, 4, 1, 0x3FF07FF, 0x0, 0x0, 0x0, 0x1F40064⟩,
   ⟨0x2810C, 32, 16, 4, 1, 0x0, 0x0, 0x0, 0x0, 0x0⟩,
   ⟨0x28110, 32, 16, 4, 1, 0x0, 0x0, 0x0, 0x0, 0x0⟩,
   ⟨0x28118, 32, 16, 4, 1, 0x0, 0x0, 0x0, 0x0, 0x0⟩,
   ⟨0x2811C, 32, 16, 4, 1, 0x0, 0x0, 0x0, 0x0, 0x0⟩,
   ⟨0x28300, 8, 20, 4, 1, 0x0, 0x0, 0x0, 0x0, 0x0⟩,
   ⟨0x28304, 8, 20, 4, 1, 0x0, 0x0, 0x0, 0x0, 0x0⟩]

/-- Pages 0x30: the registers of MEM. -/
def regRows30 : List RegRow :=
  [⟨0x30000, 4, 1, 4, 1, 0x3, 0x0, 0x0, 0x0, 0x1⟩,
   ⟨0x30004, 4, 1, 4, 1, 0x0, 0x0, 0x0, 0x0, 0x0⟩,
   ⟨0x30008, 4, 1, 4, 1, 0x0, 0x0, 0x0, 0x0, 0x0⟩,
   ⟨0x3000C, 4, 1, 4, 1, 0x0, 0x0, 0x0, 0x0, 0x0⟩,
   ⟨0x30010, 4, 1, 4, 1, 0xFFFFFF, 0x0, 0x0, 0x0, 0x643664⟩,
   ⟨0x30014, 4, 1, 4, 1, 0x0, 0x0, 0x0, 0x0, 0x20⟩,
   ⟨0x30018, 4, 1, 4, 1, 0x0, 0x0, 0x0, 0x0, 0x0⟩,
   ⟨0x3001C, 4, 1, 4, 1, 0x0, 0x0, 0x0, 0x0, 0x0⟩,
   ⟨0x30020, 4, 1, 4, 1, 0xFFFFF000, 0x0, 0x0, 0x0, 0x0⟩,
   ⟨0x30024, 4, 1, 4, 1, 0xFFFFFFFF, 0x0, 0x0, 0x0, 0x0⟩,
   ⟨0x30028, 4, 1, 4, 1, 0xFFF000F, 0x0, 0x0, 0x0, 0x3C0000⟩,
   ⟨0x3002C, 4, 1, 4, 1, 0x0, 0x0, 0x0, 0x0, 0x0⟩,
   ⟨0x30030, 4, 1, 4, 1, 0x0, 0x0, 0x0, 0x0, 0x0⟩,
   ⟨0x30034, 4, 1, 4, 1, 0x0, 0x0, 0x0, 0x0, 0x0⟩,
   ⟨0x30038, 4, 1, 4, 1, 0x0, 0x0, 0x0, 0x0, 0x0⟩,
   ⟨0x30040, 4, 8, 4, 1, 0x0, 0x0, 0x0, 0x0, 0x0⟩]

/-- The rows that may cover a word of 4 KiB page `p` of BAR0. -/
def regPage : Nat → List RegRow
  | 0x00 => regRows00
  | 0x01 => regRows01
  | 0x02 => regRows02
  | 0x03 => regRows03
  | 0x04 => regRows04
  | 0x05 => regRows05
  | 0x06 => regRows06
  | 0x07 => regRows07
  | 0x08 => regRows08
  | 0x09 => regRows09
  | 0x0A => regRows0A
  | 0x0B => regRows0B
  | 0x0C => regRows0C
  | 0x10 => regRows10
  | 0x11 => regRows10
  | 0x12 => regRows10
  | 0x13 => regRows10
  | 0x14 => regRows10
  | 0x15 => regRows10
  | 0x16 => regRows10
  | 0x17 => regRows10
  | 0x18 => regRows18
  | 0x19 => regRows19
  | 0x1A => regRows1A
  | 0x1B => regRows1A
  | 0x1C => regRows1A
  | 0x1D => regRows1A
  | 0x1E => regRows1E
  | 0x20 => regRows20
  | 0x21 => regRows21
  | 0x22 => regRows22
  | 0x24 => regRows24
  | 0x25 => regRows25
  | 0x28 => regRows28
  | 0x30 => regRows30
  | _ => []

/-- The row of a BAR0 word, none for reserved space (R29). -/
def regRow (off : Nat) : Option RegRow := (regPage (off / 0x1000)).find? (·.covers off)

/-- The low words of the 64-bit registers (R7). -/
def reg64Rows : List RegRow :=
  [⟨0x1E088, 256, 16, 4, 1, 0, 0, 0, 0, 0⟩,
   ⟨0x1E090, 256, 16, 4, 1, 0, 0, 0, 0, 0⟩,
   ⟨0x1E098, 256, 16, 4, 1, 0, 0, 0, 0, 0⟩,
   ⟨0x1E0A0, 256, 16, 4, 1, 0, 0, 0, 0, 0⟩,
   ⟨0x1E0A8, 256, 16, 4, 1, 0, 0, 0, 0, 0⟩,
   ⟨0x1E0B0, 256, 16, 4, 1, 0, 0, 0, 0, 0⟩,
   ⟨0x10088, 256, 128, 4, 1, 0, 0, 0, 0, 0⟩,
   ⟨0x10090, 256, 128, 4, 1, 0, 0, 0, 0, 0⟩,
   ⟨0x20040, 256, 24, 8, 4, 0, 0, 0, 0, 0⟩,
   ⟨0x20060, 256, 24, 4, 1, 0, 0, 0, 0, 0⟩,
   ⟨0x20090, 256, 24, 4, 1, 0, 0, 0, 0, 0⟩,
   ⟨0x20098, 256, 24, 4, 1, 0, 0, 0, 0, 0⟩,
   ⟨0x200A0, 256, 24, 4, 1, 0, 0, 0, 0, 0⟩,
   ⟨0x200A8, 256, 24, 4, 1, 0, 0, 0, 0, 0⟩,
   ⟨0x200C0, 256, 24, 4, 1, 0, 0, 0, 0, 0⟩,
   ⟨0x200C8, 256, 24, 4, 1, 0, 0, 0, 0, 0⟩,
   ⟨0x200D8, 256, 8, 4, 1, 0, 0, 0, 0, 0⟩,
   ⟨0x200E0, 256, 8, 4, 1, 0, 0, 0, 0, 0⟩,
   ⟨0x200E8, 256, 24, 4, 1, 0, 0, 0, 0, 0⟩,
   ⟨0x9028, 4, 1, 4, 1, 0, 0, 0, 0, 0⟩,
   ⟨0x9038, 4, 1, 4, 1, 0, 0, 0, 0, 0⟩,
   ⟨0x9050, 4, 1, 4, 1, 0, 0, 0, 0, 0⟩,
   ⟨0x28118, 32, 16, 4, 1, 0, 0, 0, 0, 0⟩,
   ⟨0x28300, 8, 20, 4, 1, 0, 0, 0, 0, 0⟩,
   ⟨0x5400, 128, 22, 16, 8, 0, 0, 0, 0, 0⟩]

/-- Whether a BAR0 offset is the low word of a 64-bit register. -/
def isReg64 (off : Nat) : Bool := reg64Rows.any (·.covers off)

end Sys2Proof.Machine
end

