-- ==== Sys2Proof/Machine/SineTable.lean ====
section
/-!
DEFINITION. The reset contents of the sine table (R201): word i holds round(131,071 × sin(2π × i / 4,096)) in its low
18 bits. The first quarter is written out; the other three follow by symmetry.
-/

namespace Sys2Proof.Machine

/-- Quarter-wave entries 0 to 63. -/
def sineRow0 : List Nat :=
  [0, 201, 402, 603, 804, 1005, 1206, 1407, 1608, 1809, 2011, 2212,
   2413, 2614, 2815, 3016, 3217, 3418, 3619, 3820, 4021, 4222, 4422, 4623,
   4824, 5025, 5226, 5427, 5628, 5829, 6030, 6231, 6431, 6632, 6833, 7034,
   7234, 7435, 7636, 7837, 8037, 8238, 8439, 8639, 8840, 9041, 9241, 9442,
   9642, 9843, 10043, 10244, 10444, 10644, 10845, 11045, 11246, 11446, 11646, 11846,
   12047, 12247, 12447, 12647]

/-- Quarter-wave entries 64 to 127. -/
def sineRow1 : List Nat :=
  [12847, 13047, 13247, 13447, 13647, 13847, 14047, 14247, 14447, 14647, 14847, 15046,
   15246, 15446, 15645, 15845, 16044, 16244, 16444, 16643, 16842, 17042, 17241, 17440,
   17640, 17839, 18038, 18237, 18436, 18635, 18834, 19033, 19232, 19431, 19630, 19829,
   20027, 20226, 20425, 20623, 20822, 21020, 21219, 21417, 21615, 21814, 22012, 22210,
   22408, 22606, 22804, 23002, 23200, 23398, 23596, 23794, 23991, 24189, 24386, 24584,
   24781, 24979, 25176, 25373]

/-- Quarter-wave entries 128 to 191. -/
def sineRow2 : List Nat :=
  [25571, 25768, 25965, 26162, 26359, 26556, 26753, 26950, 27146, 27343, 27540, 27736,
   27933, 28129, 28325, 28522, 28718, 28914, 29110, 29306, 29502, 29698, 29894, 30089,
   30285, 30481, 30676, 30872, 31067, 31262, 31457, 31653, 31848, 32043, 32238, 32432,
   32627, 32822, 33016, 33211, 33405, 33600, 33794, 33988, 34183, 34377, 34571, 34764,
   34958, 35152, 35346, 35539, 35733, 35926, 36119, 36313, 36506, 36699, 36892, 37085,
   37278, 37470, 37663, 37855]

/-- Quarter-wave entries 192 to 255. -/
def sineRow3 : List Nat :=
  [38048, 38240, 38433, 38625, 38817, 39009, 39201, 39393, 39584, 39776, 39967, 40159,
   40350, 40541, 40733, 40924, 41115, 41305, 41496, 41687, 41877, 42068, 42258, 42449,
   42639, 42829, 43019, 43209, 43398, 43588, 43778, 43967, 44156, 44346, 44535, 44724,
   44913, 45102, 45290, 45479, 45668, 45856, 46044, 46232, 46421, 46609, 46796, 46984,
   47172, 47359, 47547, 47734, 47921, 48108, 48295, 48482, 48669, 48856, 49042, 49228,
   49415, 49601, 49787, 49973]

/-- Quarter-wave entries 256 to 319. -/
def sineRow4 : List Nat :=
  [50159, 50344, 50530, 50715, 50901, 51086, 51271, 51456, 51641, 51826, 52010, 52195,
   52379, 52563, 52748, 52932, 53115, 53299, 53483, 53666, 53850, 54033, 54216, 54399,
   54582, 54765, 54947, 55130, 55312, 55494, 55676, 55858, 56040, 56222, 56403, 56585,
   56766, 56947, 57128, 57309, 57490, 57670, 57851, 58031, 58212, 58392, 58572, 58751,
   58931, 59111, 59290, 59469, 59648, 59827, 60006, 60185, 60363, 60542, 60720, 60898,
   61076, 61254, 61432, 61609]

/-- Quarter-wave entries 320 to 383. -/
def sineRow5 : List Nat :=
  [61786, 61964, 62141, 62318, 62495, 62671, 62848, 63024, 63200, 63376, 63552, 63728,
   63904, 64079, 64254, 64430, 64605, 64780, 64954, 65129, 65303, 65477, 65652, 65825,
   65999, 66173, 66346, 66520, 66693, 66866, 67039, 67211, 67384, 67556, 67729, 67901,
   68073, 68244, 68416, 68587, 68758, 68930, 69101, 69271, 69442, 69612, 69783, 69953,
   70123, 70292, 70462, 70632, 70801, 70970, 71139, 71308, 71476, 71645, 71813, 71981,
   72149, 72317, 72484, 72652]

/-- Quarter-wave entries 384 to 447. -/
def sineRow6 : List Nat :=
  [72819, 72986, 73153, 73320, 73486, 73653, 73819, 73985, 74151, 74317, 74482, 74648,
   74813, 74978, 75143, 75307, 75472, 75636, 75800, 75964, 76128, 76291, 76455, 76618,
   76781, 76944, 77107, 77269, 77431, 77594, 77756, 77917, 78079, 78240, 78402, 78563,
   78723, 78884, 79045, 79205, 79365, 79525, 79685, 79844, 80003, 80163, 80322, 80480,
   80639, 80797, 80956, 81114, 81272, 81429, 81587, 81744, 81901, 82058, 82215, 82371,
   82527, 82683, 82839, 82995]

/-- Quarter-wave entries 448 to 511. -/
def sineRow7 : List Nat :=
  [83151, 83306, 83461, 83616, 83771, 83925, 84080, 84234, 84388, 84541, 84695, 84848,
   85001, 85154, 85307, 85460, 85612, 85764, 85916, 86068, 86219, 86371, 86522, 86673,
   86823, 86974, 87124, 87274, 87424, 87574, 87724, 87873, 88022, 88171, 88319, 88468,
   88616, 88764, 88912, 89060, 89207, 89354, 89501, 89648, 89795, 89941, 90087, 90233,
   90379, 90524, 90670, 90815, 90960, 91104, 91249, 91393, 91537, 91681, 91824, 91968,
   92111, 92254, 92396, 92539]

/-- Quarter-wave entries 512 to 575. -/
def sineRow8 : List Nat :=
  [92681, 92823, 92965, 93107, 93248, 93389, 93530, 93671, 93812, 93952, 94092, 94232,
   94371, 94511, 94650, 94789, 94928, 95066, 95205, 95343, 95481, 95618, 95756, 95893,
   96030, 96166, 96303, 96439, 96575, 96711, 96847, 96982, 97117, 97252, 97387, 97521,
   97655, 97789, 97923, 98057, 98190, 98323, 98456, 98589, 98721, 98853, 98985, 99117,
   99248, 99379, 99510, 99641, 99772, 99902, 100032, 100162, 100291, 100421, 100550, 100679,
   100807, 100936, 101064, 101192]

/-- Quarter-wave entries 576 to 639. -/
def sineRow9 : List Nat :=
  [101319, 101447, 101574, 101701, 101828, 101954, 102080, 102206, 102332, 102458, 102583, 102708,
   102833, 102957, 103081, 103206, 103329, 103453, 103576, 103699, 103822, 103945, 104067, 104189,
   104311, 104433, 104554, 104675, 104796, 104917, 105037, 105157, 105277, 105397, 105516, 105635,
   105754, 105873, 105991, 106110, 106227, 106345, 106462, 106580, 106697, 106813, 106930, 107046,
   107162, 107277, 107393, 107508, 107623, 107737, 107852, 107966, 108080, 108193, 108307, 108420,
   108533, 108645, 108758, 108870]

/-- Quarter-wave entries 640 to 703. -/
def sineRow10 : List Nat :=
  [108982, 109093, 109204, 109316, 109426, 109537, 109647, 109757, 109867, 109976, 110086, 110195,
   110303, 110412, 110520, 110628, 110736, 110843, 110950, 111057, 111164, 111270, 111377, 111482,
   111588, 111693, 111798, 111903, 112008, 112112, 112216, 112320, 112423, 112527, 112630, 112732,
   112835, 112937, 113039, 113140, 113242, 113343, 113444, 113544, 113645, 113745, 113844, 113944,
   114043, 114142, 114241, 114339, 114437, 114535, 114633, 114730, 114827, 114924, 115021, 115117,
   115213, 115309, 115404, 115499]

/-- Quarter-wave entries 704 to 767. -/
def sineRow11 : List Nat :=
  [115594, 115689, 115783, 115877, 115971, 116065, 116158, 116251, 116344, 116436, 116528, 116620,
   116712, 116803, 116894, 116985, 117076, 117166, 117256, 117346, 117435, 117524, 117613, 117702,
   117790, 117878, 117966, 118053, 118141, 118228, 118314, 118401, 118487, 118573, 118658, 118743,
   118828, 118913, 118998, 119082, 119166, 119249, 119332, 119415, 119498, 119581, 119663, 119745,
   119826, 119908, 119989, 120070, 120150, 120230, 120310, 120390, 120469, 120548, 120627, 120706,
   120784, 120862, 120939, 121017]

/-- Quarter-wave entries 768 to 831. -/
def sineRow12 : List Nat :=
  [121094, 121171, 121247, 121323, 121399, 121475, 121550, 121625, 121700, 121775, 121849, 121923,
   121997, 122070, 122143, 122216, 122288, 122361, 122432, 122504, 122575, 122647, 122717, 122788,
   122858, 122928, 122997, 123067, 123136, 123205, 123273, 123341, 123409, 123477, 123544, 123611,
   123678, 123744, 123810, 123876, 123942, 124007, 124072, 124137, 124201, 124265, 124329, 124392,
   124456, 124519, 124581, 124643, 124706, 124767, 124829, 124890, 124951, 125011, 125072, 125132,
   125191, 125251, 125310, 125369]

/-- Quarter-wave entries 832 to 895. -/
def sineRow13 : List Nat :=
  [125427, 125485, 125543, 125601, 125658, 125715, 125772, 125828, 125885, 125940, 125996, 126051,
   126106, 126161, 126215, 126269, 126323, 126377, 126430, 126483, 126535, 126588, 126639, 126691,
   126743, 126794, 126844, 126895, 126945, 126995, 127045, 127094, 127143, 127192, 127240, 127288,
   127336, 127383, 127431, 127478, 127524, 127571, 127617, 127662, 127708, 127753, 127798, 127842,
   127886, 127930, 127974, 128017, 128060, 128103, 128145, 128187, 128229, 128271, 128312, 128353,
   128393, 128433, 128473, 128513]

/-- Quarter-wave entries 896 to 959. -/
def sineRow14 : List Nat :=
  [128553, 128592, 128630, 128669, 128707, 128745, 128782, 128820, 128857, 128893, 128930, 128966,
   129001, 129037, 129072, 129107, 129141, 129176, 129209, 129243, 129276, 129309, 129342, 129374,
   129407, 129438, 129470, 129501, 129532, 129562, 129593, 129623, 129652, 129682, 129711, 129739,
   129768, 129796, 129824, 129851, 129879, 129906, 129932, 129958, 129984, 130010, 130035, 130061,
   130085, 130110, 130134, 130158, 130181, 130205, 130227, 130250, 130272, 130294, 130316, 130337,
   130359, 130379, 130400, 130420]

/-- Quarter-wave entries 960 to 1023. -/
def sineRow15 : List Nat :=
  [130440, 130459, 130479, 130498, 130516, 130535, 130553, 130570, 130588, 130605, 130622, 130638,
   130654, 130670, 130686, 130701, 130716, 130730, 130745, 130759, 130773, 130786, 130799, 130812,
   130824, 130837, 130848, 130860, 130871, 130882, 130893, 130903, 130913, 130923, 130932, 130941,
   130950, 130959, 130967, 130975, 130982, 130989, 130996, 131003, 131009, 131015, 131021, 131026,
   131032, 131036, 131041, 131045, 131049, 131052, 131056, 131059, 131061, 131063, 131065, 131067,
   131069, 131070, 131070, 131071]

/-- Quarter-wave entries 1024 to 1024. -/
def sineRow16 : List Nat :=
  [131071]

/-- Entries 64 r to 64 r + 63 of the quarter wave. -/
def sineRow : Nat → List Nat
  | 0 => sineRow0
  | 1 => sineRow1
  | 2 => sineRow2
  | 3 => sineRow3
  | 4 => sineRow4
  | 5 => sineRow5
  | 6 => sineRow6
  | 7 => sineRow7
  | 8 => sineRow8
  | 9 => sineRow9
  | 10 => sineRow10
  | 11 => sineRow11
  | 12 => sineRow12
  | 13 => sineRow13
  | 14 => sineRow14
  | 15 => sineRow15
  | 16 => sineRow16
  | _ => []

/-- Entry i of the quarter wave, 0 to 1,024. -/
def quarterSine (i : Nat) : Nat := (sineRow (i / 64)).getD (i % 64) 0

/-- round(131,071 × sin(2π × i / 4,096)) for any index. -/
def sineValue (i : Nat) : Int :=
  let k := i % 4096
  if k ≤ 1024 then (quarterSine k : Int)
  else if k ≤ 2048 then (quarterSine (2048 - k) : Int)
  else if k ≤ 3072 then -(quarterSine (k - 2048) : Int)
  else -(quarterSine (4096 - k) : Int)

end Sys2Proof.Machine
end

