-- ==== Sys2Proof/Machine/RegReset.lean ====
section
/-!
DEFINITION. The reset word of every BAR0 word of a lane: the register tables' reset values, with those the tables give
by a formula (sine table, frisket), by the lane (VOTE.STATUS.LANE, ID.PART.LANE) and by the colophon (R398, R418).
-/

namespace Sys2Proof.Machine

open Sys2Proof

/-- `n` bytes of the colophon from byte `off`, as a little-endian number (R398: the colophon is little-endian). -/
def colophonLe (id : LaneId) (off n : Nat) : Nat :=
  (List.range n).foldr (fun i acc => (Config.colophon id (off + i)).toNat + 256 * acc) 0

/-- The ID words that come from the colophon (R418), by BAR0 offset. -/
def idReset (id : LaneId) (off : Nat) : Nat :=
  if off = 0x4 then 0x100 + id.num
  else if off = 0x8 then colophonLe id 20 4
  else if off = 0xC then colophonLe id 24 4
  else if off = 0x10 then colophonLe id 36 3 % 2 ^ 18
  else if 0x20 ≤ off ∧ off < 0x40 then colophonLe id (64 + (off - 0x20)) 4
  else if 0x100 ≤ off ∧ off < 0x208 then colophonLe id (off - 0x100) 4
  else 0

/-- The frisket words (R382). -/
def friskWord (off : Nat) : Nat := friskReset ((off - 0x5040) / 16) ((off - 0x5040) % 16 / 4)

/-- The reset value of the word at a BAR0 offset; reserved space reads 0 (R8). -/
def regReset (id : LaneId) (off : Nat) : Word :=
  BitVec.ofNat 32 (
    if 0x1A000 ≤ off ∧ off < 0x1E000 then
      if off % 4 = 0 then ofSigned 18 (sineValue ((off - 0x1A000) / 4)) else 0
    else match regRow off with
    | none => 0
    | some r =>
      if off < 0x1000 ∧ off ≠ 0 then idReset id off
      else if 0x5040 ≤ off ∧ off < 0x51A0 then friskWord off
      else if off = 0xA00C then colophonLe id 40 4
      else if off = 0xA010 then colophonLe id 44 2
      else if off = 0xA80C then colophonLe id 46 4
      else if off = 0xA810 then colophonLe id 50 2
      else if off = 0xC020 then r.reset + id.num * 2 ^ 14
      else r.reset)

end Sys2Proof.Machine
end

