-- ==== Sys2Proof/Machine/State.lean ====
section
/-!
DEFINITION. The state of the T316, as plain data: three lanes, each with its register file (every register of BAR0,
keyed by offset) and the state the spec gives it beyond its registers, what the device has posted to host memory, the
model's own counter of free values, and the queue of waiting commands.

Each field's docstring names it as the spec does, with its width, the chapter and rule that names it, and its value at
reset.
-/

namespace Sys2Proof.Machine

/-- Reasons a command can stop the machine. No meaning of this model answers with one: the spec gives every event an
effect, and an event that cannot occur in the present state changes nothing (log entry 1). -/
inductive Fault where
  /-- Raised by nobody. It names a command that would need a lane the device does not have; safe, since the machine
  stops where the device has no such case. -/
  | noSuchLane
  deriving DecidableEq, Repr

/-- Reasons a command has no meaning. -/
inductive Refusal where
  /-- Answered by the dispatcher for a command whose meaning is not written; safe: nothing is claimed of it. -/
  | notModelled (mnemonic : String)
  deriving DecidableEq, Repr

/-- One posted write of a lane to host memory, or one MSI-X message (R37, R355). -/
inductive Posted where
  /-- `len` bytes at `addr`; `fields` are (offset, bytes, value), little-endian, every other byte 0. -/
  | write (addr len : Nat) (fields : List (Nat × Nat × Nat))
  /-- the message of an MSI-X vector: its data written at its address, as the table of BAR2 gives them. -/
  | msix (vec addr data : Nat)
  deriving DecidableEq, Repr

/-- One completion a lane has staged (R52, R56). -/
structure Completion where
  /-- completion galley it goes to; 4 bits; 02 R58; no reset value: a queue entry. -/
  cg : Nat
  /-- submission galley of the descriptor; 4 bits; 02 R52. -/
  sg : Nat
  /-- TAG of the descriptor; 32 bits; 02 R52. -/
  tag : Nat
  /-- SEQ of the descriptor; 32 bits; 02 R52. -/
  seq : Nat
  /-- RESULT; 64 bits; 02 R52. -/
  result : Nat
  /-- DETAIL; 32 bits; 02 R54. -/
  detail : Nat
  /-- OPCODE of the descriptor; 8 bits; 02 R52. -/
  opcode : Nat
  /-- completion status; 8 bits; 02 R53. -/
  status : Nat
  /-- lanes whose fingerprints agreed; 3 bits; 02 R52. -/
  agree : Nat
  /-- executed on a single copy; 1 bit; 02 R52. -/
  single : Bool
  /-- raise the completion interrupt when written; 1 bit; 02 R47. -/
  irq : Bool
  /-- STAMP: the voting boundary at which every member held the result, none before it; 64 bits; 02 R52. -/
  stamp : Option Nat
  deriving DecidableEq, Repr

/-- A completion that has been written, kept until the host has consumed its slot (R57). -/
structure Written where
  /-- completion galley; 4 bits; 02 R57. -/
  cg : Nat
  /-- index in the galley (the written count before it); 32 bits; 02 R57. -/
  idx : Nat
  /-- the stamp with which it was first written; 64 bits; 02 R52. -/
  stamp : Nat
  /-- the completion itself; 02 R57. -/
  c : Completion
  deriving DecidableEq, Repr

/-- What a well-formed descriptor asks for, its payload fields decoded (R48, R49). -/
inductive DescOp where
  | nop
  | setpoint (ch kind : Nat) (timed : Bool) (target : Int) (atSec atNs : Nat)
  | limits (ch mask : Nat) (timed : Bool) (vmax amax jmax tmax speedLimit atSec atNs : Nat)
  | channelMode (ch request : Nat)
  | configStage (offset length src crc : Nat)
  | configCommit (epochSec epochNs imageLength imageCrc : Nat)
  | paramRead (offset width lane : Nat)
  | autotune (ch slot rule : Nat) (d : Int) (eps : Nat)
  | diag (ch test lanes dst : Nat)
  | proofReq (region index lanes : Nat)
  | fwStage (lane : Nat) (last : Bool) (offset length src crc : Nat)
  | logRead (lane : Nat) (sign : Bool) (first count dst dstLength : Nat)
  | attest (nonce : List Byte) (lane dst : Nat)
  | fleetKey (lanes src length : Nat)
  | safeReset (scope index lanes : Nat)
  | laneClear (lanes : Nat) (clearCount : Bool)
  deriving DecidableEq, Repr

/-- What a lane has decided on a fetched descriptor (R50 steps 1 and 2, R78). -/
inductive Verdict where
  | execute (op : DescOp)
  | complete (status detail : Nat)
  deriving DecidableEq, Repr

/-- A descriptor a lane has decided on and not yet consumed. -/
structure Decided where
  /-- submission galley; 4 bits; 02 R47. -/
  sg : Nat
  /-- submission number in its galley; 32 bits; 02 R47. -/
  seq : Nat
  /-- SEQ found in the descriptor, the number itself unless the slot is stale; 32 bits; 02 R50. -/
  found : Nat
  /-- TAG; 32 bits; 02 R47. -/
  tag : Nat
  /-- OPCODE byte; 8 bits; 02 R47. -/
  opcode : Nat
  /-- IRQ bit; 1 bit; 02 R47. -/
  irq : Bool
  /-- FENCE bit; 1 bit; 02 R47. -/
  fence : Bool
  /-- SESSION handle; 32 bits; 02 R47. -/
  session : Nat
  /-- AGREE lanes; 3 bits; 03 R78. -/
  agree : Nat
  /-- SINGLE; 1 bit; 03 R78. -/
  single : Bool
  /-- what the decision leads to; 03 R78. -/
  verdict : Verdict
  /-- lane time in ns at which it took effect in the members, for a copy that a lane in readmission follows, else none; 04 R109. -/
  instant : Option Nat
  deriving DecidableEq, Repr

/-- What one lane holds of a descriptor that is fetched and not yet decided, or decided and still awaited (R77 to
R82): per lane the fingerprint, none while it has not arrived, and whether the fetch failed. -/
structure Copies where
  /-- submission galley; 4 bits; 03 R77. -/
  sg : Nat
  /-- submission number; 32 bits; 03 R77. -/
  seq : Nat
  /-- the lane's own copy, 64 bytes; 03 R77. -/
  own : Option (List Byte)
  /-- fingerprints by lane A, B, C; 64 bits each; 03 R77. -/
  fps : Vector (Option Nat) 3
  /-- lanes that reported fetch-failed; 3 bits; 03 R77. -/
  failed : Nat
  /-- the agreed fingerprint once decided; 64 bits; 03 R81. -/
  agreed : Option Nat
  /-- the decision waits for the 64 bytes from a peer: AGREE, SINGLE, and whether it is the denial of R78; 03 R79. -/
  wantCopy : Option (Nat × Bool × Bool)
  /-- members to which this lane has sent the 64 bytes, having been the lowest-lettered holder; lane mask; 03 R79. -/
  sentTo : Nat
  /-- a MISMATCH decision waits for the peers' full copies; 03 R82. -/
  wantMismatch : Bool
  /-- full copies received for the MISMATCH detail, by lane; 03 R82. -/
  full : Vector (Option (List Byte)) 3
  deriving DecidableEq, Repr

/-- Configuration space of a lane's endpoint, the words the host writes (R35, R39; log entry 47). -/
structure PciSt where
  /-- Command register; 16 bits; bit 1 memory space, bit 2 bus master; 02 R39; reset 0 (PRESUMED, log entry 6). -/
  command : Nat
  /-- BAR0 address; 64 bits; 02 R35; reset 0 (PRESUMED, log entry 6). -/
  bar0 : Nat
  /-- BAR2 address; 64 bits; 02 R35; reset 0 (PRESUMED, log entry 6). -/
  bar2 : Nat
  /-- the function is in D3hot; 1 bit; 02 R35, R38; reset false (PRESUMED, log entry 6). -/
  d3 : Bool
  /-- MSI-X Enable and Function Mask; 14 R358; reset (false, false) (PRESUMED, log entry 6). -/
  msixCtl : Bool × Bool
  /-- Device Control: Max Payload Size and Max Read Request Size fields; 16 bits; 02 R35; reset 0x2000 (PRESUMED, log entry 6). -/
  devCtl : Nat
  /-- Device Control 2: Completion Timeout value; 16 bits; 02 R35; reset 0 (PRESUMED, log entry 6). -/
  devCtl2 : Nat
  deriving DecidableEq, Repr

/-- Host interface state of one lane that is no register (chapter 02). -/
structure HifSt where
  /-- accepted SG_TAIL of each galley; 16 × 32 bits; 02 R45; reset 0 (DESIGN CHOICE, log entry 2). -/
  sgTail : Vector Nat 16
  /-- descriptors of each galley whose read has been issued; 16 × 32 bits; 02 R59; reset 0 (DESIGN CHOICE, log entry 2). -/
  fetched : Vector Nat 16
  /-- accepted CG_HEAD of each galley; 16 × 32 bits; 02 R45; reset 0 (DESIGN CHOICE, log entry 2). -/
  cgHead : Vector Nat 16
  /-- reserved count of each completion galley; 16 × 32 bits; 02 R58; reset 0 (DESIGN CHOICE, log entry 2). -/
  cgReserved : Vector Nat 16
  /-- consumed descriptors whose completion is not staged yet: galley, submission number; 02 R60; reset empty (DESIGN CHOICE, log entry 2). -/
  openD : List (Nat × Nat)
  /-- outstanding descriptor reads, oldest first, at most 32: galley, first submission number, descriptors read; 02 R59, R35; reset empty (DESIGN CHOICE, log entry 2). -/
  reads : List (Nat × Nat × Nat)
  /-- galley the weighted round robin serves and descriptors it may still fetch in this round; 02 R59; reset (0, 0) (DESIGN CHOICE, log entry 2). -/
  rr : Nat × Nat
  /-- descriptors with copies held; 03 R77; reset empty (DESIGN CHOICE, log entry 2). -/
  copies : List Copies
  /-- decided descriptors, in order of decision; 03 R80; reset empty (DESIGN CHOICE, log entry 2). -/
  exec : List Decided
  /-- staged completions not yet written, oldest first; 02 R56; reset empty (DESIGN CHOICE, log entry 2). -/
  staged : List Completion
  /-- completions written and not yet consumed by the host; 02 R57; reset empty (DESIGN CHOICE, log entry 2). -/
  written : List Written
  /-- written counts the lead last reported; 16 × 32 bits; 02 R57; reset 0 (DESIGN CHOICE, log entry 2). -/
  peerWritten : Vector Nat 16
  /-- consecutive failed DMA reads; 2 bits; 02 R39; reset 0 (DESIGN CHOICE, log entry 2). -/
  dmaFails : Nat
  /-- the link was restored and the counts of the lead have not arrived; 1 bit; 02 R40; reset false (DESIGN CHOICE, log entry 2). -/
  awaitCounts : Bool
  /-- high words latched by low-word reads: offset of the high word and its value; 00 R7; reset empty (DESIGN CHOICE, log entry 2). -/
  latched : List (Nat × Nat)
  /-- what the last host read returned, none for Unsupported Request; 64 bits; 01 R30, 00 R7; reset none (DESIGN CHOICE, log entry 2). -/
  answer : Option Nat
  /-- configuration space; 02 R35. -/
  pci : PciSt
  /-- MSI-X table of BAR2: message address, message data, vector control of 64 entries; 64 + 32 + 32 bits; 01 R29, 02 R35, R38; reset (0, 0, 1), masked (PRESUMED, log entry 6). -/
  msixTable : Vector (Nat × Nat × Nat) 64
  /-- trained link: 0 Gen1 x1; 1 Gen1 x2, Gen2 x1; 2 Gen2 x2, Gen3 x1; 3 Gen3 x2, Gen4; 2 bits; 02 R44; reset 0 (DESIGN CHOICE, log entry 2). -/
  link : Nat
  /-- vectors whose messages are allowed: MSI-X Enable set, Function Mask and the vector's mask bit clear; 64 bits; 14 R358; reset 0 (PRESUMED, log entry 6). -/
  msixAllowed : Nat
  /-- pending-bit array; 64 bits; 14 R358, 02 R38; reset 0 (PRESUMED, log entry 6). -/
  msixPending : Nat
  /-- a descriptor that waits for bytes read from the host: the decided descriptor, address read and bytes wanted; 03 R83; reset none (DESIGN CHOICE, log entry 2). -/
  bufWait : List (Decided × Nat × Nat)
  /-- host buffers read, or none where the read failed, whose descriptor waits for the other members: the descriptor and the bytes; 03 R83; reset empty (DESIGN CHOICE, log entry 2). -/
  bufDone : List (Decided × Option (List Byte))
  deriving DecidableEq, Repr

/-- A 72-bit interconnect word on its way through a crossing FIFO (R16). -/
structure XWord where
  /-- payload; 64 bits; 01 R16. -/
  data : Dword
  /-- check bits computed at the source; 8 bits; 01 R16. -/
  check : Byte
  /-- bits of the word, payload in [63:0] and check bits in [71:64], disturbed on the way; 72 bits; 01 R19. -/
  flip : BitVec 72
  deriving DecidableEq, Repr

/-- A mailbox (R18); its latest value is the register or field of its producer. -/
structure Mailbox where
  /-- the latest value has not been read; 1 bit; 01 R18; reset false. -/
  unread : Bool
  /-- values replaced before they were read; 16 bits; 01 R18; reset 0. -/
  overwritten : Nat
  deriving DecidableEq, Repr

/-- Island crossings of one lane (R16 to R20), by receiving block 0 to 23. -/
structure XingSt where
  /-- crossing FIFO into each block, oldest first, at most 8 words; 01 R17; reset empty. -/
  fifo : Vector (List XWord) 24
  /-- words whose sender waits for room in that FIFO, oldest first; 01 R17; reset empty. -/
  waiting : Vector (List XWord) 24
  /-- mailboxes of the converter results AIN0 to AIN71; 01 R18. -/
  ain : Vector Mailbox 72
  /-- mailboxes of the feedback port values FB0 to FB23; 01 R18. -/
  port : Vector Mailbox 24
  /-- mailboxes of the safety input samples SI0 to SI19; 01 R18. -/
  si : Vector Mailbox 20
  deriving DecidableEq, Repr

def Mailbox.reset : Mailbox := { unread := false, overwritten := 0 }

def XingSt.reset : XingSt :=
  { fifo := Vector.replicate 24 [], waiting := Vector.replicate 24 [], ain := Vector.replicate 72 .reset,
    port := Vector.replicate 24 .reset, si := Vector.replicate 20 .reset }

/-- A record sent over Doxel and not yet acknowledged (R92, R93). -/
structure DoxTx where
  /-- lane it goes to; 04 R92. -/
  dest : LaneId
  /-- frame number, none while it is appended to the cycle frame of the present boundary; 16 bits; 04 R92, R93. -/
  num : Option Nat
  /-- sent on the spare link; 04 R93. -/
  spare : Bool
  /-- RTYPE, or 0x100 + BTYPE for a bulk frame; 04 R92, R93. -/
  rtype : Nat
  /-- header bits of the record (bits 63 to 16, shifted down); 04 R93. -/
  hdr : Nat
  /-- payload words; 04 R93. -/
  words : List Nat
  deriving DecidableEq, Repr

/-- What a lane knows of one peer (chapter 04). -/
structure PeerView where
  /-- membership of the peer in this lane's view, encoded as SELF; 3 bits; 04 R102; reset 4 FORMING (DESIGN CHOICE, log entry 2). -/
  memb : Nat
  /-- cycle frame of the present cycle, once received on the primary link, or on the spare; 04 R94; reset none (DESIGN CHOICE, log entry 2). -/
  frame : Option CycleFrame
  /-- last cycle frame received in any cycle; 04 R97; reset none (DESIGN CHOICE, log entry 2). -/
  last : Option CycleFrame
  /-- a good frame arrived in this cycle on the primary, on the spare link; 04 R94; reset false (DESIGN CHOICE, log entry 2). -/
  got : Bool × Bool
  /-- a good frame has come since the lane's own last boundary; 04 R102; reset false (DESIGN CHOICE, log entry 2). -/
  fresh : Bool
  /-- cycle frame that came ahead of the lane's own boundary, with its links; 04 R97; reset none (DESIGN CHOICE, log entry 2). -/
  next : Option CycleFrame × (Bool × Bool)
  /-- consecutive boundaries without a good frame, primary and spare; 04 R94; reset 0 (DESIGN CHOICE, log entry 2). -/
  miss : Nat × Nat
  /-- links failed: primary, spare; 04 R94; reset false (DESIGN CHOICE, log entry 2). -/
  failed : Bool × Bool
  /-- links whose loopback passed in a full proof, taken back at the next boundary; 04 R94; reset false (DESIGN CHOICE, log entry 2). -/
  takeBack : Bool × Bool
  /-- SETUP_HASH received; 512 bits; 02 R65; reset none (DESIGN CHOICE, log entry 2). -/
  setupHash : Option Nat
  /-- last folio fingerprint received: SEQ, FOLIO_FP; 03 R70; reset none (DESIGN CHOICE, log entry 2). -/
  folio : Option (Nat × Nat)
  /-- consecutive snapshots at which the peer's FOLIO_FP differed from the agreeing ones; 04 R104; reset 0 (DESIGN CHOICE, log entry 2). -/
  folioBad : Nat
  /-- COMMIT record: READY fingerprint or FAIL reason and argument; 03 R84; reset none (DESIGN CHOICE, log entry 2). -/
  ready : Option (Bool × Nat)
  /-- GO received (true) or NOGO (false); 03 R85; reset none (DESIGN CHOICE, log entry 2). -/
  go : Option Bool
  /-- reason and argument of its NOGO; 03 R87; reset (0, 0) (DESIGN CHOICE, log entry 2). -/
  nogo : Nat × Nat
  /-- consecutive disagreeing votes; 04 R99; reset 0 (DESIGN CHOICE, log entry 2). -/
  dis : Nat
  /-- proof frame sent to the peer and not yet reported: channel; 04 R101; reset none (DESIGN CHOICE, log entry 2). -/
  proofSent : Option Nat
  /-- channel of the last proof frame to the peer; 04 R101; reset 7 (DESIGN CHOICE, log entry 2). -/
  proofCh : Nat
  /-- frame number of the last record sent to the peer; 16 bits; 04 R92; reset 0 (DESIGN CHOICE, log entry 2). -/
  txNum : Nat
  /-- highest contiguous frame number received from the peer; 16 bits; 04 R91; reset 0 (DESIGN CHOICE, log entry 2). -/
  rxNum : Nat
  /-- frame numbers received ahead of a missing one; 16 bits each; 04 R93; reset empty (DESIGN CHOICE, log entry 2). -/
  rxAhead : List Nat
  /-- lane time at which this lane decided to exclude the peer, units of 2^-32 ns, until the share table follows; 04 R104; reset none (DESIGN CHOICE, log entry 2). -/
  outAt : Option Nat
  /-- READY or NOT_READY for NAP; 19 R443; reset false (DESIGN CHOICE, log entry 2). -/
  napReady : Bool
  /-- the dynamic state of a readmission has been captured for the peer: descriptor copies go to it until it is MEMBER; 04 R109; reset false (DESIGN CHOICE, log entry 2). -/
  serving : Bool
  deriving DecidableEq, Repr

/-- Where the readmission of an EXCLUDED lane stands (R108). -/
inductive Readmit where
  | none
  | waitRejoin
  | waitClear
  | proofWait
  | proof
  | align
  | static
  | dynamic
  deriving DecidableEq, Repr

/-- The lane block of one lane as this lane holds it (R117), its fields that are no register. -/
structure LaneBlk where
  /-- READMITS; 8 bits; 04 R117; reset 0 (DESIGN CHOICE, log entry 2). -/
  readmits : Nat
  /-- EXCL_CAUSE; 8 bits; 04 R117; reset 0 (DESIGN CHOICE, log entry 2). -/
  cause : Nat
  /-- EXCL_TIME; time in units of 2^-32 ns; 04 R117; reset 0 (DESIGN CHOICE, log entry 2). -/
  time : Nat
  /-- EXCL_COUNT; 16 bits; 04 R117; reset 0 (DESIGN CHOICE, log entry 2). -/
  count : Nat
  /-- DISAGREE, free-running; 32 bits; 04 R117; reset 0 (DESIGN CHOICE, log entry 2). -/
  disagree : Nat
  /-- SHADOW_VOTES; 32 bits; 04 R117; reset 0 (DESIGN CHOICE, log entry 2). -/
  shadowVotes : Nat
  /-- TIME_OFFSET, signed ns; 04 R117; reset 0 (DESIGN CHOICE, log entry 2). -/
  timeOffset : Int
  /-- PROOF: 0 passed, 1 failed, 2 running; 04 R117; reset 2 (DESIGN CHOICE, log entry 2). -/
  proof : Nat
  /-- DEGRADE; 32 bits; 04 R117; reset 0 (DESIGN CHOICE, log entry 2). -/
  degrade : Nat
  /-- NET_UP; 4 bits; 04 R117; reset 0 (DESIGN CHOICE, log entry 2). -/
  netUp : Nat
  /-- RAMP, per mille; 04 R117, R112; reset 1000 (DESIGN CHOICE, log entry 2). -/
  ramp : Nat
  /-- lane time in ns of the boundary at which the share ramp began, none when it is complete; 04 R112; reset none (DESIGN CHOICE, log entry 2). -/
  rampFrom : Option Nat
  /-- LINKS; 4 bits; 04 R117; reset 0 (DESIGN CHOICE, log entry 2). -/
  links : Nat
  /-- the lane forms anew since it was last MEMBER: its readmission is not counted; 04 R102; reset false (DESIGN CHOICE, log entry 2). -/
  late : Bool
  deriving DecidableEq, Repr

/-- Voting and membership state of one lane that is no register (chapter 04). -/
structure VoteSt where
  /-- view of the peer in slot 0; 04 R119. -/
  p0 : PeerView
  /-- view of the peer in slot 1; 04 R119. -/
  p1 : PeerView
  /-- lane blocks of lanes A, B, C; 04 R117. -/
  blk : Vector LaneBlk 3
  /-- own consecutive disagreeing votes; 04 R99; reset 0 (DESIGN CHOICE, log entry 2). -/
  selfDis : Nat
  /-- consecutive votes without majority; 04 R100; reset 0 (DESIGN CHOICE, log entry 2). -/
  noMaj : Nat
  /-- computed torque command of each channel, signed Q16.16; 04 R91; reset 0 (DESIGN CHOICE, log entry 2). -/
  torque : Vector Int 8
  /-- voted command of each channel; 04 R479; reset 0. -/
  voted : Vector Int 8
  /-- torque reference in force of each channel; 04 R106; reset 0 (DESIGN CHOICE, log entry 2). -/
  ref : Vector Int 8
  /-- membership whose share table is in force; lane mask; 04 R104; reset 0 (DESIGN CHOICE, log entry 2). -/
  shareMembers : Nat
  /-- lanes this lane requests to exclude; lane mask; 04 R91; reset 0 (DESIGN CHOICE, log entry 2). -/
  exclReq : Nat
  /-- cause for which this lane requests each exclusion; 04 R104; reset 0 (DESIGN CHOICE, log entry 2). -/
  reqCause : Vector Nat 3
  /-- lanes that attributed the disagreement to themselves; lane mask; 04 R107; reset 0 (DESIGN CHOICE, log entry 2). -/
  peerAttr : Nat
  /-- lanes that LINK_LOSS records have named since the last boundary, and in the cycle before; 04 R94; reset (0, 0) (DESIGN CHOICE, log entry 2). -/
  linkLoss : Nat × Nat
  /-- attribution of a missing majority has ended and the next vote decides; 04 R100; reset false (DESIGN CHOICE, log entry 2). -/
  noMajWait : Bool
  /-- the vote of the present cycle has been computed; 04 R97; reset true: no cycle has begun (DESIGN CHOICE, log entry 2). -/
  done : Bool
  /-- this lane attributes a disagreement to itself; 04 R107; reset false (DESIGN CHOICE, log entry 2). -/
  attrSelf : Bool
  /-- attribution was started from a missing majority in TRIPLE; 04 R100; reset false (DESIGN CHOICE, log entry 2). -/
  attrTriple : Bool
  /-- lane that leads, in this lane's evaluation; 03 R76; reset none (DESIGN CHOICE, log entry 2). -/
  lead : Option LaneId
  /-- STOP_CAUSE of the controlled stop or of SAFE; 8 bits; 04 R117; reset 0 (DESIGN CHOICE, log entry 2). -/
  stopCause : Nat
  /-- category of the controlled stop in progress; 04 R114; reset 0 (DESIGN CHOICE, log entry 2). -/
  stopCat : Nat
  /-- a stop cause whose entry waits for the next boundary; 04 R114; reset 0 (DESIGN CHOICE, log entry 2). -/
  stopReq : Nat
  /-- stop causes that are still present; bit per cause; 04 R115; reset 0 (DESIGN CHOICE, log entry 2). -/
  causes : Nat
  /-- stage of readmission; 04 R108; reset none (DESIGN CHOICE, log entry 2). -/
  readmit : Readmit
  /-- failed state transfers of this readmission; 04 R102; reset 0 (DESIGN CHOICE, log entry 2). -/
  transferFails : Nat
  /-- bytes received of the state transfer; 04 R109; reset empty (DESIGN CHOICE, log entry 2). -/
  transfer : List Byte
  /-- parts of the dynamic state received; 11 bits; 04 R109; reset 0 (DESIGN CHOICE, log entry 2). -/
  transferParts : Nat
  /-- frames sent and not acknowledged; 04 R93; reset empty (DESIGN CHOICE, log entry 2). -/
  tx : List DoxTx
  /-- cycle frames sent at the present boundary, to slot 0 and slot 1; 04 R97; reset none (DESIGN CHOICE, log entry 2). -/
  sent : Option (CycleFrame × CycleFrame)
  /-- lane time at which the present reference hold began, units of 2^-32 ns; 04 R106; reset none (DESIGN CHOICE, log entry 2). -/
  holdFrom : Option Nat
  /-- lane time of a member's loss whose share table is not yet applied; 04 R119 GAP_MAX; reset none (DESIGN CHOICE, log entry 2). -/
  gapFrom : Option Nat
  /-- every lane is restarted at the next boundary after the completion; 04 R113; reset false (DESIGN CHOICE, log entry 2). -/
  restartAll : Bool
  /-- highest folio SEQ sent or received; 64 bits; 03 R73; reset 0. -/
  folioSeq : Nat
  /-- the formation window has run out; 04 R102; reset false (DESIGN CHOICE, log entry 2). -/
  formExpired : Bool
  /-- votes without majority, free-running; 32 bits; 04 R117; reset 0 (DESIGN CHOICE, log entry 2). -/
  noMajTotal : Nat
  deriving DecidableEq, Repr

/-- Folio and epoch commit state of one lane (chapter 03). -/
structure FolioSt where
  /-- page built at the last snapshot and not yet written: fields (offset, bytes, value) of the 4 KiB page with SEQ even and FOLIO_FP 0; 03 R70; reset none (DESIGN CHOICE, log entry 2). -/
  page : Option (List (Nat × Nat × Nat))
  /-- SEQ and FOLIO_FP of that page, sent to the peers; 03 R70; reset (0, 0) (DESIGN CHOICE, log entry 2). -/
  fp : Nat × Nat
  /-- snapshots not written, free-running; 32 bits; 03 R68 SKIPPED; reset 0. -/
  skipped : Nat
  /-- the next page is the first of a new lead; 03 R68 HANDOVER; reset false. -/
  handover : Bool
  /-- MISMATCH count, free-running; 32 bits; 03 R75; reset 0. -/
  mismatch : Nat
  /-- SINGLE count, free-running; 32 bits; 03 R75; reset 0. -/
  single : Nat
  /-- ODD_FETCH of lanes A, B, C; 16 bits each; 03 R75; reset 0. -/
  oddFetch : Vector Nat 3
  /-- COMMITS_APPLIED, free-running; 32 bits; 03 R75; reset 0. -/
  applied : Nat
  /-- COMMITS_ABORTED, free-running; 32 bits; 03 R75; reset 0. -/
  aborted : Nat
  /-- own consecutive snapshots at which FOLIO_FP differed; 04 R104; reset 0 (DESIGN CHOICE, log entry 2). -/
  bad : Nat
  /-- newest FLT_SUM section of lanes A, B, C: fields of the 160 B section; 15 R379; reset empty (DESIGN CHOICE, log entry 2). -/
  sums : Vector (List (Nat × Nat × Nat)) 3
  /-- the FLT_SUM of that lane arrived at the snapshot; 15 R379; reset false (DESIGN CHOICE, log entry 2). -/
  sumValid : Vector Bool 3
  /-- LAST_TAG of each channel; 32 bits; 03 R74; reset 0. -/
  lastTag : Vector Nat 8
  /-- the latest folio page the lane agreed: fields (offset, bytes, value); 12 R317; reset empty (DESIGN CHOICE, log entry 2). -/
  agreed : List (Nat × Nat × Nat)
  deriving DecidableEq, Repr

/-- A commit that is pending (R83 to R87). -/
structure Commit where
  /-- the CONFIG_COMMIT that waits for its completion; 03 R87. -/
  d : Decided
  /-- EPOCH, units of 2^-32 ns of lane time; 03 R84. -/
  epoch : Nat
  /-- IMAGE_LENGTH; 03 R84. -/
  length : Nat
  /-- IMAGE_CRC; 03 R84. -/
  crc : Nat
  /-- members at execution; lane mask; 03 R85. -/
  members : Nat
  /-- membership has changed since execution; 03 R85. -/
  changed : Bool
  /-- own check: READY with the image fingerprint, or FAIL with reason and argument; 03 R84. -/
  own : Option (Bool × Nat)
  /-- own GO or NOGO; 03 R85. -/
  go : Option Bool
  /-- first reason of an abort with its argument; 03 R88. -/
  reason : Option (Nat × Nat)
  /-- decided at D_d: apply at the epoch; 03 R85. -/
  apply : Bool
  /-- applied at the epoch: CONFIG_FP before it; 03 R87. -/
  oldFp : Option Nat
  deriving DecidableEq, Repr

/-- Stage of one interrupt group (R354). -/
inductive IrqStage where
  | idle
  | entry
  | paused
  | service
  | exiting
  | leading
  deriving DecidableEq, Repr

/-- Delivery state of one interrupt group that is no register (R354 to R362). -/
structure IrqGroup where
  /-- stage of the delivery; 14 R354; reset IDLE. -/
  stage : IrqStage
  /-- bytes 0 to 27 of the record are issued; 14 R355; reset false. -/
  issued : Bool
  /-- DSEQ, free-running; 32 bits; 14 R356; reset 0. -/
  dseq : Nat
  /-- lanes that raised each source since its previous delivery; 8 × 3 bits; 14 R356; reset 0. -/
  origin : Nat
  /-- MERGED; 16 bits; 14 R356; reset 0. -/
  merged : Nat
  /-- pending sources set by software; 8 bits; 14 R356; reset 0. -/
  soft : Nat
  /-- a source in SNAP was set by software; 14 R356; reset false. -/
  snapSoft : Bool
  /-- PREEMPTED of the delivery; 14 R354; reset false. -/
  preempted : Bool
  /-- DELIVERED_UNDER_MASK of the delivery; 14 R359; reset false. -/
  underMask : Bool
  /-- ORIGIN and MERGED of the delivery; 14 R356; reset (0, 0). -/
  snapOrigin : Nat × Nat
  /-- STAMP of the delivery; 64 bits; 14 R356; reset 0. -/
  stamp : Nat
  /-- when the leading timer started, ns of the time the lane has run; 14 R354; reset 0 (DESIGN CHOICE, log entry 2). -/
  leadAt : Nat
  deriving DecidableEq, Repr

/-- Interrupt state of one lane that is no register (chapter 14). -/
structure IrqSt where
  /-- the 32 groups; 14 R348. -/
  groups : Vector IrqGroup 32
  /-- group delivered last of the normal and of the fast class; 14 R360; reset 31 (DESIGN CHOICE, log entry 2). -/
  lastNormal : Nat
  /-- as lastNormal for the fast class; 14 R360; reset 31 (DESIGN CHOICE, log entry 2). -/
  lastFast : Nat
  deriving DecidableEq, Repr

/-- Fault state of one lane that is no register (chapter 15). -/
structure FltSt where
  /-- newest fatal entry, 72 bits; 15 R379; reset 0. -/
  lastFatal : Nat
  /-- newest contained entry, 72 bits; 15 R379; reset 0. -/
  lastContained : Nat
  /-- worst class of each block; 2 bits each; 15 R379; reset 0. -/
  worst : Vector Nat 24
  /-- corrected events, free-running; 32 bits; 15 R379; reset 0. -/
  corrected : Nat
  /-- contained events, free-running; 32 bits; 15 R379; reset 0. -/
  contained : Nat
  /-- fatal events, free-running; 8 bits; 15 R379; reset 0. -/
  fatal : Nat
  /-- CHANNEL_SAFE reactions, free-running; 16 bits; 15 R379; reset 0. -/
  reactSafe : Nat
  /-- EXCL_REQ reactions, free-running; 16 bits; 15 R379; reset 0. -/
  reactExcl : Nat
  /-- channels that every member moves to FAULTED at the next boundary; channel mask; 15 R370; reset 0 (DESIGN CHOICE, log entry 2). -/
  faultNext : Nat
  /-- lane time of the last CHANNEL_SAFE reaction, units of 2^-32 ns; 15 R370; reset 0 (DESIGN CHOICE, log entry 2). -/
  faultAt : Nat
  /-- event that moved each channel to FAULTED (code and source, or none: entry to SAFE or failed start-up); 07 R193; reset none (DESIGN CHOICE, log entry 2). -/
  source : Vector (Option (Nat × Nat)) 8
  /-- the lane transmits on Doxel; 15 R374; reset true (DESIGN CHOICE, log entry 2). -/
  transmits : Bool
  /-- FIRST_NS latched by a read of FIRST, by block; 15 R376; reset empty (DESIGN CHOICE, log entry 2). -/
  firstNs : List (Nat × Nat)
  deriving DecidableEq, Repr

/-- A PROOF_REQ that waits for the named lanes (R395). -/
structure ProofReq where
  /-- the descriptor; 16 R395. -/
  d : Decided
  /-- region class; 16 R395. -/
  region : Nat
  /-- region index; 16 R395. -/
  index : Nat
  /-- lanes that have not reported; lane mask; 16 R395. -/
  waiting : Nat
  /-- lanes passed; 16 R395. -/
  passed : Nat
  /-- lanes failed; 16 R395. -/
  failed : Nat
  /-- lanes aborted; 16 R395. -/
  abortedLanes : Nat
  /-- longest duration in ns; 32 bits; 16 R395. -/
  duration : Nat
  /-- lowest coverage; 10 bits; 16 R395. -/
  coverage : Nat
  deriving DecidableEq, Repr

/-- Proof state of one lane that is no register (chapter 16). -/
structure BistSt where
  /-- region under proof of classes 1 to 6 (index c − 1); 16 R388; reset none. -/
  active : Vector (Option Nat) 6
  /-- a fault event of the region under proof has come during its proof; 16 R391; reset false. -/
  spoiled : Vector Bool 6
  /-- region last proved in rotation of each class; 16 R389; reset none (DESIGN CHOICE, log entry 2). -/
  lastRegion : Vector (Option Nat) 6
  /-- retired, spared or bypassed regions: class, index; 16 R389, R390; reset empty. -/
  out : List (Nat × Nat)
  /-- PROOF_REQs accepted and not completed; 16 R395; reset empty. -/
  reqs : List ProofReq
  /-- lane time in ns of the SRAM_CORR events of each physical bank within the last second, newest first; 16 R394; reset empty. -/
  bankCorr : Vector (List Nat) 9
  /-- the retained state saved at step 1: sealed registers as a register file; 16 R385; reset none. -/
  save : Option (List (Nat × BitVec 32))
  /-- lane time in ns of the last passed proof of each region: class, index, time; 16 R389; reset empty (DESIGN CHOICE, log entry 2). -/
  passedAt : List (Nat × Nat × Nat)
  /-- overdue region of each class, to be proved next; 16 R389; reset none. -/
  overdue : Vector (Option Nat) 6
  deriving DecidableEq, Repr

/-- Time state of one lane that is no register (chapter 11). -/
structure TimeSt where
  /-- the time counter SEC, NS and 32-bit fraction as one number, units of 2^-32 ns; 48 + 30 + 32 bits; 11 R274; reset 0. -/
  now : Nat
  /-- sum of the steps of the counter, signed units of 2^-32 ns: the counter less this is the time the lane has run; 11 R279, R280; reset 0. -/
  moved : Int
  /-- measured offset to the grandmaster, signed ns; 11 R277; reset 0 (DESIGN CHOICE, log entry 2). -/
  gmOffset : Int
  /-- consecutive Sync messages with an offset of at most 1 µs; 11 R277; reset 0 (DESIGN CHOICE, log entry 2). -/
  lockRun : Nat
  /-- network of the grandmaster followed or acquired: false Red, true Blue; 11 R282; reset false (DESIGN CHOICE, log entry 2). -/
  gmBlue : Bool
  /-- identity heard last on Red and on Blue; 64 bits; 11 R282; reset none (DESIGN CHOICE, log entry 2). -/
  gmIds : Option Nat × Option Nat
  /-- priority, class and identity of the best master of the Announce messages heard on Red and Blue; 11 R282; reset none (DESIGN CHOICE, log entry 2). -/
  best : Option Nat × Option Nat
  /-- source the lane returns to when GM_SUSPECT clears; 11 R287; reset 0 (DESIGN CHOICE, log entry 2). -/
  suspectFrom : Nat
  /-- consecutive comparisons beyond CMP_TOL; 11 R287; reset 0 (DESIGN CHOICE, log entry 2). -/
  cmpBad : Nat
  /-- consecutive comparisons at which the grandmaster's time lay within CMP_TOL; 11 R287; reset 0 (DESIGN CHOICE, log entry 2). -/
  cmpGood : Nat
  /-- offsets of the peers in slots 0 and 1 from the last TIME_CMP records, signed ns; 11 R286; reset none (DESIGN CHOICE, log entry 2). -/
  off0 : Option Int
  /-- as off0 for slot 1; 11 R286; reset none (DESIGN CHOICE, log entry 2). -/
  off1 : Option Int
  /-- of the peers' last records, slots 0 and 1: T32, SOURCE, STEP_READY, LOCKED; 11 R286; reset (true, 0, false, false) (DESIGN CHOICE, log entry 2). -/
  rec0 : Bool × Nat × Bool × Bool
  /-- as rec0 for slot 1; 11 R286; reset (true, 0, false, false) (DESIGN CHOICE, log entry 2). -/
  rec1 : Bool × Nat × Bool × Bool
  /-- largest difference at the last comparison, ns; 11 R287, 03 R85; reset 0 (DESIGN CHOICE, log entry 2). -/
  spread : Nat
  /-- lane time of the comparison at which the last member lost its lock, units of 2^-32 ns; 11 R482; reset none (DESIGN CHOICE, log entry 2). -/
  holdStart : Option Nat
  /-- this lane is ready to step and reports STEP_READY; 11 R279; reset false (DESIGN CHOICE, log entry 2). -/
  stepReady : Bool
  /-- every member reported STEP_READY: the step is agreed; 11 R279; reset false (DESIGN CHOICE, log entry 2). -/
  stepAgreed : Bool
  /-- boundary of the comparison at which the step was agreed, lane time in ns; 11 R279; reset 0 (DESIGN CHOICE, log entry 2). -/
  agreedAt : Nat
  /-- RATE_locked, 0.001 ppm; 11 R278; reset 0 (DESIGN CHOICE, log entry 2). -/
  lockedRate : Int
  /-- at the last comparison this lane's time differed from both other members' by more than 1 µs; 11 R287; reset false (DESIGN CHOICE, log entry 2). -/
  differs : Bool
  /-- the TIME_CMP records of slots 0 and 1 that wait for a comparison; 11 R286; reset (false, false) (DESIGN CHOICE, log entry 2). -/
  arrived : Bool × Bool
  /-- the present voting cycle contains a step; 11 R279; reset false (DESIGN CHOICE, log entry 2). -/
  stepped : Bool
  /-- link delay d of the Doxel links to slots 0 and 1, ns; 11 R286; reset (0, 0) (DESIGN CHOICE, log entry 2). -/
  delay : Nat × Nat
  /-- index of the last whole second compared by the crystal cross-check; 16 R393; reset 0 (DESIGN CHOICE, log entry 2). -/
  crystal : Nat
  /-- the NET island runs and the counter advances; 11 R274; reset false (DESIGN CHOICE, log entry 2). -/
  running : Bool
  /-- the last instant of each compare unit that has raised its source, by its number among those of the unit's PERIOD; 11 R290; reset 0: none yet. -/
  cmpAt : Vector Nat 4
  deriving DecidableEq, Repr

/-- A DIAG accepted on a channel (R269). -/
structure Diag where
  /-- the descriptor; 10 R269. -/
  d : Decided
  /-- TEST: 0 COMPARATOR_SELFTEST, 1 TEST_CURRENT_SCAN; 02 R49. -/
  test : Nat
  /-- LANES that run it; lane mask; 10 R269. -/
  lanes : Nat
  /-- DST, 0 none; 64 bits; 10 R270. -/
  dst : Nat
  deriving DecidableEq, Repr

/-- State of one channel in one lane that is no register (chapter 07). -/
structure CommCh where
  /-- the running or pending enable and those merged into it, first to last; 01 R32; reset empty. -/
  enables : List Decided
  /-- the enable was held until a shutdown completed; 01 R32 DEFERRED_STARTED; reset false. -/
  deferred : Bool
  /-- the last request of the merge asks for TUNE; 01 R32; reset false. -/
  wantTune : Bool
  /-- the disable that started the running shutdown, if one did; 01 R32; reset none. -/
  disable : Option Decided
  /-- further disables that complete at its end; 01 R32; reset empty. -/
  disables : List Decided
  /-- the shutdown counts as started by a fault reaction; 01 R32; reset false. -/
  byFault : Bool
  /-- step of the start-up sequence this lane has reached, 0 when none runs, 6 when steps 1 to 5 are complete, 7 from its start-up boundary on; 07 R194; reset 0. -/
  step : Nat
  /-- stop latch: STOP_CAUSE, 0 when none; 8 bits; 04 R115; reset 0. -/
  latch : Nat
  /-- category of the stop latch; 04 R115; reset 1. -/
  latchCat : Nat
  /-- the K1 speed limit is in force; 04 R116; reset false. -/
  k1 : Bool
  /-- SPEED_LIMIT in force, counts per second; 07 R178; reset 0 (no limit set). -/
  speedLimit : Nat
  /-- the channel stops for these safety functions; 16-bit mask; 13 R334; reset 0. -/
  sfStop : Nat
  /-- this lane's own part of the shutdown has ended; 07 R196; reset false. -/
  rested : Bool
  /-- HOLD is being left for this start-up; 19 R442; reset false. -/
  fromHold : Bool
  /-- DIAG that runs on the channel; 10 R269; reset none. -/
  diag : Option Diag
  deriving DecidableEq, Repr

/-- A test-current scan of one bridge (R268). -/
structure ScanSt where
  /-- next step, 1 to 10; 11 when every step has run; 10 R268. -/
  step : Nat
  /-- it belongs to a start-up, not to a DIAG; 07 R194. -/
  startup : Bool
  /-- the record's twelve voltages so far, 10 mV units; 10 R270. -/
  volts : List Int
  /-- findings, the 16 RESULT bits of the lane; 10 R269. -/
  findings : Nat
  deriving DecidableEq, Repr

/-- A comparator self-test of one bridge on DIAG (R267, R269). -/
structure CompTest where
  /-- comparators tested, bit 3 s + c; 10 R269. -/
  tested : Nat
  /-- comparators failed, bit 3 s + c; 10 R269. -/
  failed : Nat
  /-- windows used; 16 bits; 10 R270. -/
  windows : Nat
  /-- steps aborted by edges; 16 bits; 10 R270. -/
  aborted : Nat
  /-- the 1 s has run out; 10 R269. -/
  expired : Bool
  deriving DecidableEq, Repr

/-- Bridge state of one channel that is no register (chapter 10). -/
structure GateCh where
  /-- duties written to the shadow registers and not yet loaded, oldest first: lane time in ns, high-side on-times of U, V, W in units of 312.5 ps; 10 R246; reset empty (DESIGN CHOICE, log entry 2). -/
  shadow : List (Nat × (Nat × Nat × Nat))
  /-- duties in force, high-side on-times of U, V, W in units of 312.5 ps; 10 R246; reset 0 (DESIGN CHOICE, log entry 2). -/
  duty : Nat × Nat × Nat
  /-- duties in force in the period before, to which the second half of a CENTRE pulse belongs; 10 R246; reset 0 (DESIGN CHOICE, log entry 2). -/
  dutyPrev : Nat × Nat × Nat
  /-- side of the short that a switch event ordered and that waits for the gates of the other side: 0 none, 1 LOW, 2 HIGH; 10 R255; reset 0. -/
  naming : Nat
  /-- the gates are enabled at the next carrier valley; 07 R194, R190, 10 R264; reset false. -/
  resume : Bool
  /-- the winding takes its safe state at the next carrier valley; 07 R196; reset false. -/
  park : Bool
  /-- an active short that is not latched waits for the end of HOLD, in which the die is in standby; 19 R442; reset false. -/
  parked : Bool
  /-- OV3 shorted the bridge while it was driving; 10 R264; reset false. -/
  ov3 : Bool
  /-- test-current scan; 10 R268; reset none. -/
  scan : Option ScanSt
  /-- comparator self-test on DIAG; 10 R267; reset none. -/
  test : Option CompTest
  /-- force-safe copy of ASC_DEF in the gate-driver die; 10 R243; reset 0 (DESIGN CHOICE, log entry 2). -/
  dieAsc : Nat
  deriving DecidableEq, Repr

/-- What drives the gate of a switch (R241): its pull-down alone, or its source, sink or soft-off output. -/
inductive GateOut where
  | pull
  | source
  | sink
  | soft
  deriving DecidableEq, Repr

/-- One switch of a leg. Its gate-sense level is GATE.STATUS.GS_H or GS_L. -/
structure Switch where
  /-- output in use; 10 R241, R249, R253; reset the pull-down alone. -/
  out : GateOut
  /-- running time in ns since which its gate reads below GOFF; 10 R249; reset none, since before the reset. -/
  lowAt : Option Nat
  deriving DecidableEq, Repr

/-- Reset of `Switch`. -/
def Switch.reset : Switch := { out := .pull, lowAt := none }

/-- Gate-drive state of one lane that is no register (chapter 10). -/
structure GateSt where
  /-- bridges of CH0 to CH7; 10 R241. -/
  ch : Vector GateCh 8
  /-- lane time in ns since which the high side of each leg is on without its low side; 10 R260; reset none. -/
  hiSince : Vector (Option Nat) 26
  /-- change of each carrier's next period, units of 312.5 ps; 10 R244; reset 0 (DESIGN CHOICE, log entry 2). -/
  adj : Vector Int 8
  /-- AUX duties written and not yet loaded: lane time in ns, on-time in units of 312.5 ps; 10 R246, R248; reset empty (DESIGN CHOICE, log entry 2). -/
  auxShadow : Vector (List (Nat × Nat)) 24
  /-- AUX duties in force, on-time in units of 312.5 ps; 10 R248; reset 0 (DESIGN CHOICE, log entry 2). -/
  aux : Vector Nat 24
  /-- AUX duties in force in the period before; 10 R246; reset 0 (DESIGN CHOICE, log entry 2). -/
  auxPrev : Vector Nat 24
  /-- switches 2m (high) and 2m + 1 (low) of leg m; 10 R241, R249, R253; reset `Switch.reset`. -/
  sw : Vector Switch 52
  /-- switches commanded on that wait for the opposite gate, the latest first; 10 R249; reset empty. -/
  waits : List Nat
  /-- lane time in ns of the last change of CHP0 and CHP1; 10 R261; reset (0, 0) (DESIGN CHOICE, log entry 2). -/
  chpSince : Nat × Nat
  /-- the open check of R262 has been made in the present on interval of CHP0, CHP1; reset (false, false) (DESIGN CHOICE, log entry 2). -/
  chpChecked : Bool × Bool
  /-- next step, 0 to 7, of the comparator sweeps in progress: 6 × leg + 3 × side + comparator, step; 10 R267; reset empty. -/
  sweep : List (Nat × Nat)
  /-- force-safe copy of LEG_CTRL.USE in the gate-driver dies; 10 R243; reset 0 (DESIGN CHOICE, log entry 2). -/
  dieUse : Vector Nat 26
  /-- chopper legs whose shutdown runs: CHP0, CHP1; 01 R32; reset (false, false) (DESIGN CHOICE, log entry 2). -/
  chpStop : Bool × Bool
  deriving DecidableEq, Repr

/-- A value held by a track-and-hold stage and not yet converted (R227). -/
structure Held where
  /-- input; 0 to 71; 09 R227. -/
  ain : Nat
  /-- sequence of the hold; 4 bits; 09 R229. -/
  sq : Nat
  /-- hold instant, lane time in ns; 09 R240 STAMP. -/
  ns : Nat
  /-- zero in sixteenths of an LSB and scale of a hold taken before an epoch that has come since; 09 R233. -/
  old : Option (Int × Int)
  deriving DecidableEq, Repr

/-- Converter state of one lane that is no register (chapter 09). -/
structure AdcSt where
  /-- held values of cores C0 to C23 in the order of their conversion, the first one being converted, at most four each; 09 R227; reset empty (DESIGN CHOICE, log entry 2). -/
  held : Vector (List Held) 24
  /-- consecutive holds of AIN48 and AIN49 that differ beyond VDC_TOL; 09 R236; reset 0 (DESIGN CHOICE, log entry 2). -/
  vdcBad : Nat
  /-- core whose proof moves its inputs to its neighbour; 09 R239; reset none. -/
  proof : Option Nat
  /-- core whose proof has passed and whose inputs move back once its neighbour has no conversion queued; 09 R239; reset none. -/
  back : Option Nat
  /-- correction OCOR, GCOR of cores C0 to C23 that waits for the end of the hold being converted; 09 R237; reset none. -/
  newCorr : Vector (Option (Int × Nat)) 24
  deriving DecidableEq, Repr

def GateCh.reset : GateCh :=
  { shadow := [], duty := (0, 0, 0), dutyPrev := (0, 0, 0), naming := 0, resume := false, park := false, parked := false, ov3 := false, scan := none, test := none,
    dieAsc := 0 }

def GateSt.reset : GateSt :=
  { ch := Vector.replicate 8 .reset, hiSince := Vector.replicate 26 none, adj := Vector.replicate 8 0,
    auxShadow := Vector.replicate 24 [], aux := Vector.replicate 24 0, auxPrev := Vector.replicate 24 0,
    sw := Vector.replicate 52 .reset, waits := [], chpSince := (0, 0),
    chpChecked := (false, false), sweep := [], dieUse := Vector.replicate 26 0,
    chpStop := (false, false) }

def AdcSt.reset : AdcSt := { held := Vector.replicate 24 [], vdcBad := 0, proof := none, back := none, newCorr := Vector.replicate 24 none }

/-- State of one feedback port that is no register (chapter 08). -/
structure FbkPort where
  /-- FBK sample (10 ns of lane time) of the last valid transition since the ledger started; 08 R211; reset none. -/
  last : Option Nat
  /-- stamped changes, newest first: sample, POS_RAW; 08 R219; reset empty. -/
  changes : List (Nat × Int)
  /-- last valid Hall sector; 08 R214; reset none. -/
  sector : Option Nat
  /-- the first valid frame or Hall state since ACQUIRE has come; 08 R208; reset false. -/
  seeded : Bool
  /-- FBK sample at which the SSI frame being read was triggered; 08 R215; reset none. -/
  ssiAt : Option Nat
  /-- FBK sample at which the last SSI frame ended; 08 R215; reset none. -/
  ssiEnd : Option Nat
  /-- raw levels of L0, L1, L2 after the synchronizer and how many samples each has been held, up to 16; 08 R204; reset low, not held (DESIGN CHOICE, log entry 2). -/
  raw : Vector (Bool × Nat) 3
  /-- FBK sample of the last index edge, and what it did: 0 the first, 1 a check passed, 2 a check failed; 08 R223; reset none. -/
  idxAt : Option (Nat × Nat)
  /-- FBK sample of the last change of OFFSET and OFFSET before it; 08 R223; reset none. -/
  offAt : Option (Nat × Int)
  /-- length of the last SENT calibration pulse, samples; 08 R216; reset none. -/
  cal : Option Nat
  /-- status nibbles of the consecutive good SENT frames, newest first, at most 18; 08 R216; reset empty. -/
  slow : List Nat
  deriving DecidableEq, Repr

/-- Feedback state of one lane that is no register (chapter 08). -/
structure FbkSt where
  /-- ports FB0 to FB23; 08 R202. -/
  port : Vector FbkPort 24
  /-- raw level of PRB0 to PRB7 and how many samples it has been held, up to 16; 08 R222; reset low, not held (DESIGN CHOICE, log entry 2). -/
  prb : Vector (Bool × Nat) 8
  /-- filtered level of PRB0 to PRB7; 08 R222; reset low (DESIGN CHOICE, log entry 2). -/
  prbLevel : Vector Bool 8
  /-- emitted transitions E of PT0 to PT3, signed; 08 R224; reset 0 (DESIGN CHOICE, log entry 2). -/
  pt : Vector Int 4
  /-- FBK sample of the last transition emitted by PT0 to PT3; 08 R224; reset none. -/
  ptAt : Vector (Option Nat) 4
  /-- levels that a held output PT0 to PT3 keeps; 3 bits each; 08 R224; reset 0 (DESIGN CHOICE, log entry 2). -/
  ptHeld : Vector Nat 4
  deriving DecidableEq, Repr

/-- State of one loop slot that is no register (chapter 06). -/
structure SlotSt where
  /-- x of the previous evaluation, signed 32-bit; 06 R154; reset 0 (DESIGN CHOICE, log entry 2). -/
  xPrev : Int
  /-- the next evaluation is the first since RUN; 06 R155; reset true. -/
  first : Bool
  /-- output before the latest evaluation; 06 R148; reset 0 (DESIGN CHOICE, log entry 2). -/
  outPrev : Int
  /-- ticks of its timetable up to its latest evaluation, 0 when none; 06 R148; reset 0 (DESIGN CHOICE, log entry 2). -/
  tick : Nat
  /-- output the integrator is loaded for at the next evaluation, after a tune; 06 R166; reset none. -/
  bump : Option Int
  deriving DecidableEq, Repr

/-- The present tick of one timetable (R146). -/
structure TickSt where
  /-- number of ticks taken; 06 R146; reset 0 (DESIGN CHOICE, log entry 2). -/
  count : Nat
  /-- tick index k; 06 R146; reset 0 (DESIGN CHOICE, log entry 2). -/
  k : Nat
  /-- the snapshot: selector and sampled word; 06 R146; reset empty (DESIGN CHOICE, log entry 2). -/
  samples : List (Nat × Int)
  /-- the tick was in progress at an epoch and completes with the values before it; 06 R150; reset false. -/
  old : Bool
  deriving DecidableEq, Repr

/-- A running AUTOTUNE of one channel in one lane (R161 to R168). -/
structure TuneSt where
  /-- the descriptor; 06 R161. -/
  d : Decided
  /-- tuned slot; 7 bits; 06 R161. -/
  slot : Nat
  /-- RULE; 06 R164. -/
  rule : Nat
  /-- relay amplitude as an output word; 06 R161. -/
  amp : Int
  /-- hysteresis as an error word; 06 R161. -/
  eps : Int
  /-- output of the slot at its last evaluation before the tune; 06 R161. -/
  u0 : Int
  /-- set-point and channel position recorded at the first evaluation; 06 R162. -/
  start : Option (Int × Int)
  /-- the relay is high; 06 R162. -/
  high : Bool
  /-- evaluations since the last low-to-high switch, none before the first; 06 R163. -/
  since : Option Nat
  /-- least and greatest PV of the present cycle; 06 R163. -/
  pv : Int × Int
  /-- period in evaluations and swing of the cycles run, newest first; 06 R163. -/
  done : List (Nat × Int)
  /-- consecutive stable cycles; 06 R163. -/
  stable : Nat
  /-- the lane's own measurement is complete; 06 R166. -/
  complete : Bool
  /-- reason code and argument of an abort; 06 R165. -/
  aborted : Option (Nat × Nat)
  deriving DecidableEq, Repr

/-- Angle sources and current loops of one channel in one lane, what is no register (chapter 07). -/
structure AngSt where
  /-- electrical angle at the last sampling edge, 2^32 per turn; 07 R175; reset 0 (DESIGN CHOICE, log entry 2). -/
  theta : Nat
  /-- the primary, the secondary port stopped being valid since the channel's start-up; 07 R184; reset (false, false). -/
  bad : Bool × Bool
  /-- consecutive evaluations at which the ports disagree; 07 R186; reset 0. -/
  dis : Nat
  /-- consecutive evaluations at which the observer disagrees; 07 R186; reset 0. -/
  obsDis : Nat
  /-- SPLICE, signed Q16.16 counts; 07 R187; reset 0. -/
  splice : Int
  /-- consecutive evaluations with the observer's loop error beyond LOCK_TOL; 07 R185; reset 0. -/
  obsErr : Nat
  /-- angle turned by the observer within tolerance, 2^32 per electrical turn; 07 R185; reset 0. -/
  obsTurn : Nat
  /-- estimated line-to-line peak back-EMF, Q16.16 V; 07 R185; reset 0. -/
  bemf : Int
  /-- last locked mechanical speed, counts per second of the primary port; 07 R189; reset 0. -/
  lockSpeed : Int
  /-- sums over the present electrical turn: back-EMF, |speed|, evaluations, angle turned; 07 R191; reset 0. -/
  ke : Int × Int × Nat × Nat
  /-- consecutive turns with KE_EST outside the band; 07 R191; reset 0. -/
  keBad : Nat
  /-- angle acquisition of the start-up: 0 none, 2 running, 3 ended; 07 R195; reset 0. -/
  acq : Nat
  /-- forced angle turned since the acquisition began, 2^32 per electrical turn; 07 R195; reset 0. -/
  forced : Nat
  /-- lane time in ns of the last current-loop evaluation; 07 R173; reset 0 (DESIGN CHOICE, log entry 2). -/
  at_ : Nat
  /-- ticks of the timetable up to the last evaluation; 07 R173; reset 0 (DESIGN CHOICE, log entry 2). -/
  tick : Nat
  /-- ID_MEAS, IQ_MEAS, signed Q16.16 A; 07 R173; reset 0 (DESIGN CHOICE, log entry 2). -/
  meas : Int × Int
  /-- d and q voltage after the limit, signed Q16.16 V; 07 R174; reset 0 (DESIGN CHOICE, log entry 2). -/
  volts : Int × Int
  /-- phase currents of the observer's last step, signed Q16.16 A, none before its first; 07 R185; reset none. -/
  obsPrev : Option (Int × Int × Int)
  deriving DecidableEq, Repr

/-- Control-engine state of one lane that is no register (chapters 06, 07). -/
structure LoopSt where
  /-- slots LS0 to LS127; 06 R154. -/
  slot : Vector SlotSt 128
  /-- timetables TT0 to TT3; 06 R146. -/
  tick : Vector TickSt 4
  /-- lane time in ns of the last residue failure of P0 to P4; 06 R144; reset none. -/
  residue : Vector (Option Nat) 5
  /-- running tune of each channel; 06 R161; reset none. -/
  tune : Vector (Option TuneSt) 8
  /-- angle sources of CH0 to CH7; 07 R183. -/
  ang : Vector AngSt 8
  /-- engine words an epoch changed while a tick was in progress: offset and the word not in force; 06 R150; reset empty. -/
  before : List (Nat × Word)
  /-- slots a tick in progress at an epoch has still to issue; 06 R150; reset empty. -/
  kept : List Nat
  deriving DecidableEq, Repr

def FbkPort.reset : FbkPort :=
  { last := none, changes := [], sector := none, seeded := false, ssiAt := none, ssiEnd := none,
    raw := Vector.replicate 3 (false, 0), idxAt := none, offAt := none, cal := none, slow := [] }

def FbkSt.reset : FbkSt :=
  { port := Vector.replicate 24 .reset, prb := Vector.replicate 8 (false, 0), prbLevel := Vector.replicate 8 false,
    pt := Vector.replicate 4 0, ptAt := Vector.replicate 4 none, ptHeld := Vector.replicate 4 0 }

def SlotSt.reset : SlotSt := { xPrev := 0, first := true, outPrev := 0, tick := 0, bump := none }

def TickSt.reset : TickSt := { count := 0, k := 0, samples := [], old := false }

def AngSt.reset : AngSt :=
  { theta := 0, bad := (false, false), dis := 0, obsDis := 0, splice := 0, obsErr := 0, obsTurn := 0, bemf := 0,
    lockSpeed := 0, ke := (0, 0, 0, 0), keBad := 0, acq := 0, forced := 0, at_ := 0, tick := 0, meas := (0, 0),
    volts := (0, 0), obsPrev := none }

def LoopSt.reset : LoopSt :=
  { slot := Vector.replicate 128 .reset, tick := Vector.replicate 4 .reset, residue := Vector.replicate 5 none,
    tune := Vector.replicate 8 none, ang := Vector.replicate 8 .reset, before := [], kept := [] }

/-- One segment of a plan: constant jerk from its start on (R124). The last segment of a plan is its end: rest, or the
speed of a SPEED plan. -/
structure Seg where
  /-- start, units of 2^-32 ns of lane time; 05 R124. -/
  t : Nat
  /-- jerk, signed Q32.32 units per second cubed; 05 R124. -/
  j : Int
  /-- start position, signed Q32.32 units, counted on without wrap; 05 R124, R125. -/
  p : Int
  /-- start velocity, signed Q32.32 units per second; 05 R124. -/
  v : Int
  /-- start acceleration, signed Q32.32 units per second squared; 05 R124. -/
  a : Int
  /-- the plan reverses at its start, and the check of the reversal is still due; 07 R181. -/
  rev : Bool
  deriving DecidableEq, Repr

/-- What a SETPOINT or LIMITS changes when it takes effect. -/
inductive ProfAct where
  /-- a target: TAG, KIND, TARGET as signed Q32.32. -/
  | target (tag kind : Nat) (x : Int)
  /-- limits: MASK, VMAX, AMAX, JMAX, TMAX, SPEED_LIMIT. -/
  | limits (mask vmax amax jmax tmax speed : Nat)
  deriving DecidableEq, Repr

/-- Stage of homing (R137). -/
inductive HomeStage where
  | none
  | search
  | refStop
  | indexStop
  | toIndex
  | done
  deriving DecidableEq, Repr

/-- State of one profile generator that is no register (chapter 05). -/
structure PgSt where
  /-- plan in force, in order of start; 05 R124; reset empty: at rest at its accumulator. -/
  plan : List Seg
  /-- phase accumulator at the last plan step, signed Q32.32, counted on without wrap; 05 R123; reset 0. -/
  acc : Int
  /-- increment INC of the rate multiplier, Q32.32 per PWM clock; 05 R123; reset 0 (DESIGN CHOICE, log entry 2). -/
  inc : Int
  /-- lane time in ns of the last plan step; 05 R123; reset 0 (DESIGN CHOICE, log entry 2). -/
  stepAt : Nat
  /-- untimed changes that wait for their replan instant: ns of lane time, change; 05 R126; reset empty. -/
  reqs : List (Nat × ProfAct)
  /-- accepted TIMED entries, at most 8, in order of AT: AT rounded up to the µs, in ns, change; 05 R130; reset empty. -/
  queue : List (Nat × ProfAct)
  /-- VMAX of the last LIMITS, before the speed limit; 05 R122; reset 0 (DESIGN CHOICE, log entry 2). -/
  vmax : Nat
  /-- KIND and target last asked for, none after a stop; 05 R131; reset none. -/
  ask : Option (Nat × Int)
  /-- the plan in force was made under the stop limits; 05 R129; reset false. -/
  stop : Bool
  /-- plan step in ns at which a SPEED plan replans to the stop before a travel limit; 05 R125; reset none. -/
  travelStop : Option Nat
  /-- stage of homing; 05 R137; reset none. -/
  home : HomeStage
  /-- position at which the present homing movement began, Q32.32; 05 R137; reset 0 (DESIGN CHOICE, log entry 2). -/
  homeFrom : Int
  /-- point latched by homing, Q32.32; 05 R137; reset 0 (DESIGN CHOICE, log entry 2). -/
  homeRef : Int
  /-- a reversal is held: start of the hold, units of 2^-32 ns of lane time; 07 R181; reset none. -/
  hold : Option Nat
  /-- positions latched by the positive and negative limit edge, Q32.32; 05 R136; reset (0, 0) (DESIGN CHOICE, log entry 2). -/
  lim : Int × Int
  /-- integer part of SP_POS divided by STEP_DIV at the last plan step; 05 R139; reset 0 (DESIGN CHOICE, log entry 2). -/
  stepQ : Int
  /-- the step output has stopped with its backlog kept; 05 R139; reset false. -/
  stepStop : Bool
  /-- level of the direction line before DIR_POL: true for negative; 05 R139; reset false (DESIGN CHOICE, log entry 2). -/
  dirNeg : Bool
  /-- lane time in ns of the last step pulse's rising edge; 05 R139; reset none. -/
  pulseAt : Option Nat
  /-- lane time in ns at which the direction line last changed; 05 R139; reset none. -/
  dirAt : Option Nat
  /-- mailbox of the latch edge registered by FBK: time of its sample in ns of running time, rising; 05 R135; reset none. -/
  edge : Option (Nat × Bool)
  deriving DecidableEq, Repr

def PgSt.reset : PgSt :=
  { plan := [], acc := 0, inc := 0, stepAt := 0, reqs := [], queue := [], vmax := 0, ask := none, stop := false,
    travelStop := none, home := .none, homeFrom := 0, homeRef := 0, hold := none, lim := (0, 0), stepQ := 0,
    stepStop := false, dirNeg := false, pulseAt := none, dirAt := none, edge := none }


/-- One change-log entry (R414). -/
structure LogEntry where
  /-- NUMBER; 32 bits; 17 R414. -/
  number : Nat
  /-- KIND; 8 bits; 17 R414. -/
  kind : Nat
  /-- STAMP: lane time in ns; 17 R414. -/
  ns : Nat
  /-- STAMP_T32; 17 R414. -/
  t32 : Bool
  /-- RECOVERED: appended at bring-up; 17 R414. -/
  recovered : Bool
  /-- ARG; 32 bits; 17 R414. -/
  arg : Nat
  /-- TAG of the causing descriptor, or 0; 32 bits; 17 R414. -/
  tag : Nat
  /-- OLD_FP; 64 bits; 17 R414. -/
  oldFp : Nat
  /-- NEW_FP; 64 bits; 17 R414. -/
  newFp : Nat
  /-- CHAIN; 512 bits; 17 R414. -/
  chain : Nat
  deriving DecidableEq, Repr

/-- Security and configuration state of one lane that is no register (chapter 17). -/
structure SecSt where
  /-- handle of the open session; 32 bits; 17 R411; reset none. -/
  session : Option Nat
  /-- H of the password store; 512 bits; 17 R410; reset 0: 64 zero bytes. -/
  pwHash : Nat
  /-- lane time in ns at which the lockout ends; 17 R413; reset none. -/
  lockUntil : Option Nat
  /-- lane time in ns of the last passing descriptor; 17 R412; reset 0 (DESIGN CHOICE, log entry 2). -/
  idleFrom : Nat
  /-- KEY of the fleet key in each slot, 32 bytes; 17 R405; reset empty. -/
  fleetKeys : Vector (List Byte) 8
  /-- fleet key records accepted and not yet in effect: TAG of the descriptor, entries of KEY_ID, ACTION, KEY; 17 R405; reset empty. -/
  fleetNext : List (Nat × List (Nat × Nat × List Byte))
  /-- bytes of firmware slots A and B; 17 R401; reset empty (DESIGN CHOICE, log entry 2). -/
  fw : Vector (List Byte) 2
  /-- FW_STAGE descriptors whose image is being verified, oldest first; 17 R402; reset empty. -/
  fwVerify : List Decided
  /-- MACsec key store: SAK of each network, port and AN, 16 bytes; 12 R299; reset empty (DESIGN CHOICE, log entry 2). -/
  saks : Vector (List Byte) 16
  /-- committed configuration image; 17 R406; reset empty. -/
  image : List Byte
  /-- public keys of the Yuwil master and the gateway, 32 bytes each; 17 R406, 12 R307; reset empty. -/
  ywKeys : Vector (List Byte) 2
  /-- the two NVM copies of the committed image, each a store sequence and the image, none while it holds no valid one; 17 R409; reset none (DESIGN CHOICE, log entry 2). -/
  copies : Vector (Option (Nat × List Byte)) 2
  /-- change-log entries held, oldest first; 17 R414; reset empty. -/
  log : List LogEntry
  /-- LOG_READ and ATTEST descriptors that wait for the report of the named lane, oldest first; 17 R400, R416; reset empty. -/
  report : List Decided
  /-- lane-specific registers in the lane's own NVM record: FLT.CTRL; 32 bits; 17 R407; reset 0 (DESIGN CHOICE, log entry 2). -/
  ownRecord : Nat
  /-- the colophon passes the check of bring-up: CA_SIG, DEVICE_SIG and IDENTITY_KEY; 1 bit; 17 R399; reset true (DESIGN CHOICE, log entry 5). -/
  colophonOk : Bool
  deriving DecidableEq, Repr

def SecSt.reset : SecSt :=
  { session := none, pwHash := 0, lockUntil := none, idleFrom := 0, fleetKeys := Vector.replicate 8 [],
    fleetNext := [], fw := Vector.replicate 2 [], fwVerify := [], saks := Vector.replicate 16 [],
    image := [], ywKeys := Vector.replicate 2 [],
    copies := Vector.replicate 2 none, log := [], report := [], ownRecord := 0, colophonOk := true }



/-- Safety input and output state of one lane that is no register (chapter 13). -/
structure SioSt where
  /-- filtered levels of SI0 to SI19; 20 bits; 13 R323; reset 0 (DESIGN CHOICE, log entry 2). -/
  filt : Nat
  /-- the test-pulse window that runs in the package: lane and source; 13 R324; reset none. -/
  win : Option (LaneId × Nat)
  /-- that window is in its second half, its source on again; 13 R324; reset false. -/
  winHalf : Bool
  /-- inputs whose filtered level has fallen in the present window of another source; 20 bits; 13 R325; reset 0 (DESIGN CHOICE, log entry 2). -/
  fell : Nat
  /-- CAUSE of each faulty input of the lane, as SF_STATUS.CAUSE; 13 R347; reset 0 (DESIGN CHOICE, log entry 2). -/
  siCause : Vector Nat 20
  /-- sequence of the SAFETY_XCHG record; 8 bits; 13 R327; reset 0 (DESIGN CHOICE, log entry 2). -/
  seq : Nat
  /-- content of the last SAFETY_XCHG record sent; 2 × 64 bits; 13 R327; reset (0, 0) (DESIGN CHOICE, log entry 2). -/
  sent : Nat × Nat
  /-- RESETS; 8 bits; 13 R327; reset 0 (DESIGN CHOICE, log entry 2). -/
  resets : Nat
  /-- latest SAFETY_XCHG record of lanes A, B, C; 13 R331; reset none (DESIGN CHOICE, log entry 2). -/
  recs : Vector (Option (Nat × Nat)) 3
  /-- the inputs of that lane are lost; 13 R328; reset true: no record has arrived (DESIGN CHOICE, log entry 2). -/
  lost : Vector Bool 3
  /-- latched faulty inputs of each peer, from its records; 20 bits; 13 R333; reset 0 (DESIGN CHOICE, log entry 2). -/
  peerFault : Vector Nat 3
  /-- latched faulty outputs of each peer, from its records; 8 bits; 13 R332; reset 0 (DESIGN CHOICE, log entry 2). -/
  peerOut : Vector Nat 3
  /-- SAFE_RESETs that wait for the permit of each function; 13 R333; reset empty. -/
  grant : Vector (List Decided) 16
  /-- outputs in their shutdown, their de-energized state not yet confirmed; 8 bits; 13 R340, 01 R32; reset 0 (DESIGN CHOICE, log entry 2). -/
  shut : Nat
  /-- outputs whose commanded state EDM has confirmed; 8 bits; 13 R340; reset 0 (DESIGN CHOICE, log entry 2). -/
  conf : Nat
  /-- output under test, and whether the test is dark; 13 R338; reset none. -/
  test : Option (Nat × Bool)
  /-- the switch of each output that its next dark test opens; 8 bits; 13 R338; reset 0 (DESIGN CHOICE, log entry 2). -/
  testSw : Nat
  /-- outputs whose test is to be repeated; 8 bits; 13 R339; reset 0 (DESIGN CHOICE, log entry 2). -/
  retry : Nat
  deriving DecidableEq, Repr

def SioSt.reset : SioSt :=
  { filt := 0, win := none, winHalf := false, fell := 0, siCause := Vector.replicate 20 0, seq := 0, sent := (0, 0), resets := 0,
    recs := Vector.replicate 3 none, lost := Vector.replicate 3 true, peerFault := Vector.replicate 3 0,
    peerOut := Vector.replicate 3 0, grant := Vector.replicate 16 [], shut := 0, conf := 0, test := none,
    testSw := 0, retry := 0 }



/-- What a lane sends on an Ethernet port (R283, R295, R304, R307). -/
inductive NetOut where
  /-- a frame the bridge forwards, with what is added to its correctionField, in ns. -/
  | forward (f : EthFrame) (correction : Nat)
  /-- a Yuwil frame of the internal port, from the first byte after the Ethertype. -/
  | yuwil (bytes : List Byte)
  /-- the answer to a Pdelay_Req: its sequence number and residence time in ns. -/
  | pdelayResp (seq residence : Nat)
  /-- Sync of this lane as grandmaster: its time in ns. -/
  | sync (ns : Nat)
  /-- Announce of this lane as grandmaster: priority1, clockClass, priority2. -/
  | announce (prio1 cls prio2 : Nat)
  deriving DecidableEq, Repr

/-- A frame that waits in an egress queue, or has left: port, queue, content. -/
structure Egress where
  /-- port, 0 RED0, 1 RED1, 2 BLU0, 3 BLU1; 12 R294. -/
  port : Nat
  /-- queue, by PCP; 12 R298. -/
  queue : Nat
  /-- the frame; 12 R295. -/
  what : NetOut
  deriving DecidableEq, Repr

/-- A verified Yuwil copy whose SEQ is not yet decided (R305). -/
structure YwCopy where
  /-- SEQ; 32 bits; 12 R301. -/
  seq : Nat
  /-- network it came on; 12 R305. -/
  blue : Bool
  /-- the frame without MAC; 12 R301. -/
  bytes : List Byte
  /-- arrival, ns of the time the lane has run; 12 R305. -/
  at' : Nat
  deriving DecidableEq, Repr

/-- An answer the speaker owes (R304). -/
structure YwAnswer where
  /-- network of the poll copy; 12 R304. -/
  blue : Bool
  /-- SESSION of the poll copy; 12 R302. -/
  sid : Nat
  /-- SEQ of the poll copy; 12 R302. -/
  seq : Nat
  /-- T_POLL in ns; 12 R301. -/
  tPoll : Nat
  /-- arrival of the poll, ns of the time the lane has run; 12 R304. -/
  at' : Nat
  deriving DecidableEq, Repr

/-- One Yuwil session in one lane, what is no register (R302 to R307). -/
structure YwSess where
  /-- K_MN and K_NM in force, 16 bytes each; 12 R302; reset none. -/
  keys : Option (List Byte × List Byte)
  /-- a session whose keys are formed and not confirmed: identifier, K_MN, K_NM; 12 R307; reset none. -/
  next : Option (Nat × List Byte × List Byte)
  /-- first SEQ of the session; 32 bits; 12 R306; reset 0. -/
  first : Nat
  /-- the SEQ after the highest decided one; 12 R305; reset 0. -/
  due : Nat
  /-- copies whose SEQ is not decided, oldest first; 12 R305; reset empty. -/
  copies : List YwCopy
  /-- SEQs decided of which a copy was received; 12 R305; reset empty. -/
  had : List Nat
  /-- answers owed, oldest first; 12 R304; reset empty. -/
  owed : List YwAnswer
  /-- arrival of the last frame examined, on Red and on Blue, lane time in ns; 12 R310; reset none. -/
  last : Option Nat × Option Nat
  /-- consecutive KEY_INITs that failed; 12 R310; reset 0. -/
  keyFails : Nat
  /-- lane time in ns until which KEY_INIT is ignored; 12 R310; reset 0. -/
  keyUntil : Nat
  /-- arrival of the last KEY_INIT examined, lane time in ns; 12 R310; reset none. -/
  keyLast : Option Nat
  deriving DecidableEq, Repr

/-- An accepted fleet stop that is not yet applied, or whose cause has not cleared (R312, R313). -/
structure FleetStop where
  /-- CATEGORY; 12 R311. -/
  cat : Nat
  /-- NOT_AFTER in ns; 12 R311. -/
  notAfter : Nat
  /-- t_d, lane time in ns; 12 R313. -/
  td : Nat
  /-- it has been applied; 12 R313. -/
  applied : Bool
  deriving DecidableEq, Repr

/-- A frame sent on a CAN bus (R316). -/
structure CanTx where
  /-- controller; 12 R314. -/
  can : Nat
  /-- TXO_ID [30:0]: identifier, IDE, FD; 12 R322. -/
  id : Nat
  /-- data bytes; 12 R316. -/
  data : List Byte
  deriving DecidableEq, Repr

/-- Network state of one lane that is no register (chapter 12). -/
structure NetSt where
  /-- learned addresses of the Red and of the Blue bridge: address, port, time of the last refresh in ns of the time the lane has run; at most 256 each; 12 R295; reset empty. -/
  table : Vector (List (BitVec 48 × Nat × Nat)) 2
  /-- frames waiting in egress queues, oldest first; 12 R298; reset empty. -/
  waiting : List Egress
  /-- frames that have left, in their order; 12 R295; reset empty. -/
  sent : List Egress
  /-- entry in force, 64 while it waits for a cycle start after a time step, and open gates of each port's gate control list; 12 R298; reset (0, 255): every queue open (DESIGN CHOICE, log entry 2). -/
  gate : Vector (Nat × Nat) 4
  /-- MACsec of each port: next transmit packet number, last accepted receive packet number; 12 R299; reset (1, 0). -/
  pn : Vector (Nat × Nat) 4
  /-- ports whose pending enable a shutdown overrun has cancelled, bit p; 01 R32; reset 0 (DESIGN CHOICE, log entry 2). -/
  cancelled : Nat
  /-- answer buffers, newest first, at most 16: boundary in ns, 48 B payload; 12 R303; reset empty. -/
  buffers : List (Nat × List Byte)
  /-- Yuwil sessions 0 and 1; 12 R300. -/
  sess : Vector YwSess 2
  /-- the accepted POLL of highest SEQ that waits to be applied: SEQ, CMD, t_d in ns; 12 R308; reset none. -/
  poll : Option (Nat × Nat × Nat)
  /-- RUN_PERMIT in force; 12 R301 PERMIT; reset true: no POLL has withdrawn it (DESIGN CHOICE, log entry 2). -/
  permit : Bool
  /-- t_d of the last copy accepted on Red and on Blue, lane time in ns; 12 R309; reset none (DESIGN CHOICE, log entry 2). -/
  accepted : Option Nat × Option Nat
  /-- fleet stop; 12 R312; reset none. -/
  fleet : Option FleetStop
  /-- last fleet stop record checked and when, lane time in ns; 12 R312; reset none. -/
  fleetSeen : Option (List Byte × Nat)
  /-- transmit objects whose frame waits for the bus, of CAN0 and CAN1; 12 R316; reset empty. -/
  canWait : Vector (List Nat) 2
  /-- frames sent on the CAN buses, in their order; 12 R316; reset empty. -/
  canSent : List CanTx
  deriving DecidableEq, Repr

def YwSess.reset : YwSess :=
  { keys := none, next := none, first := 0, due := 0, copies := [], had := [], owed := [], last := (none, none), keyFails := 0, keyUntil := 0,
    keyLast := none }

def NetSt.reset : NetSt :=
  { table := Vector.replicate 2 [], waiting := [], sent := [], gate := Vector.replicate 4 (0, 255),
    pn := Vector.replicate 4 (1, 0), cancelled := 0, buffers := [], sess := Vector.replicate 2 .reset, poll := none, permit := true,
    accepted := (none, none), fleet := none, fleetSeen := none, canWait := Vector.replicate 2 [],
    canSent := [] }



/-- One erase block of the lane's NVM (R423 to R425). -/
structure NvmBlock where
  /-- 0 in service with data, 1 spare (free), 2 retired; 18 R425; reset 0, blocks 224 to 255 1. -/
  use : Nat
  /-- erase cycles; 18 R424; reset 0. -/
  erases : Nat
  /-- reads since it was last erased; 18 R423; reset 0. -/
  reads : Nat
  deriving DecidableEq, Repr

/-- Telemetry counts of one channel in one lane (R426). -/
structure TelCh where
  /-- TORQUE bins 0 to 15 in ms; 18 R426; reset 0. -/
  torque : Vector Nat 16
  /-- SPEED bins 0 to 15 in ms; 18 R426; reset 0. -/
  speed : Vector Nat 16
  /-- TEMP bins 0 to 15 in ms; 18 R426; reset 0. -/
  temp : Vector Nat 16
  /-- driven time in ms, lifetime; 18 R426 RUN_S; reset 0. -/
  runMs : Nat
  /-- start-ups, lifetime; 18 R426 STARTS; reset 0. -/
  starts : Nat
  /-- travel in counts of the primary port, lifetime; 18 R426 TURNS; reset 0. -/
  travel : Nat
  deriving DecidableEq, Repr

/-- The telemetry counts that are saved to NVM (R427). -/
structure Telemetry where
  /-- channels CH0 to CH7; 18 R426. -/
  ch : Vector TelCh 8
  /-- powered time in ms, lifetime; 18 R428 LIFE_H; reset 0. -/
  lifeMs : Nat
  /-- energizations of SO0 to SO7 up to the last reset; 18 R426; reset 0. -/
  soLife : Vector Nat 8
  deriving DecidableEq, Repr

/-- A telemetry batch of the lead that waits for the members' histograms (R429). -/
structure TelBatch where
  /-- batch instant as the completion stamp; 64 bits; 18 R429. -/
  stamp : Nat
  /-- members at the batch; lane mask; 18 R429. -/
  members : Nat
  deriving DecidableEq, Repr

/-- Background state of one lane that is no register (chapter 18). -/
structure MemSt where
  /-- words scrubbed in the present pass; 18 R421; reset 0. -/
  scrubWords : Nat
  /-- words of the nine SRAM banks that a requester has written while they were scrubbed, by their number among all words; 72 bits with their check bits; 18 R422; reset empty: every word 0 (DESIGN CHOICE, log entry 3). -/
  sram : List (Nat × Dword)
  /-- words left with an error that cannot be corrected; 18 R421; reset empty. -/
  sramBad : List Nat
  /-- next word of each bank to be scrubbed; 18 R421; reset 0. -/
  scrubAt : Vector Nat 9
  /-- banks that have been under online proof in the present pass, bit b; 18 R421; reset 0. -/
  scrubSkip : Nat
  /-- lane time in ns at which the present pass began; 18 R430 LAST_MS; reset 0 (DESIGN CHOICE, log entry 2). -/
  scrubFrom : Nat
  /-- work done of the present period of activities 0 to 7; 18 R419; reset 0. -/
  work : Vector Nat 8
  /-- activities whose present period is complete, bit a; 01 R25; reset 0. -/
  bgDone : Nat
  /-- NVM erase blocks 0 to 255; 18 R423. -/
  nvm : Vector NvmBlock 256
  /-- blocks to be refreshed within the next NVM_WEAR period; 18 R423; reset empty. -/
  nvmDue : List Nat
  /-- telemetry counts; 18 R426. -/
  tel : Telemetry
  /-- telemetry counts as last saved to NVM; 18 R427; reset none: never saved. -/
  telSaved : Option Telemetry
  /-- the next galley batch is the first after a reset that resumed from a save; 18 R427 RESTORED; reset false. -/
  restored : Bool
  /-- |IQ_REF| of the samples of the last 10 s of each channel, newest first, at most 10,000; 18 R428 TORQUE_RMS; reset empty. -/
  rms : Vector (List Nat) 8
  /-- position of the primary port at the last sample of each channel, whole counts; 18 R426; reset none. -/
  lastPos : Vector (Option Int) 8
  /-- highest bridge temperature of each channel since reset, 0.1 °C; 18 R428 TEMP_MAX; reset none. -/
  tempMax : Vector (Option Int) 8
  /-- supplies VIN, VGD, VIO at the last sample, 10 mV; 18 R428; reset 0 (DESIGN CHOICE, log entry 2). -/
  supplies : Nat × Nat × Nat
  /-- a die temperature has been sampled since reset; 18 R430 T_MAX; reset false. -/
  sampled : Bool
  /-- histograms received for the galley batch, lanes A, B, C; 18 R429; reset none. -/
  copies : Vector (Option (List Byte)) 3
  /-- the batch of the lead that waits; 18 R429; reset none. -/
  batch : Option TelBatch
  /-- lane time of the formation in ns; 18 R428 UPTIME_S; reset 0 (DESIGN CHOICE, log entry 2). -/
  formed : Nat
  /-- lane time of the last telemetry sample, whole ms; 18 R426; reset 0 (DESIGN CHOICE, log entry 2). -/
  sampledAt : Nat
  /-- when TELEMETRY_SAVE last saved, ns of the time the lane has run; 18 R427; reset 0 (DESIGN CHOICE, log entry 2). -/
  savedAt : Nat
  /-- lane time of the last galley batch, s, a multiple of PERIOD; 18 R429; reset 0 (DESIGN CHOICE, log entry 2). -/
  batchAt : Nat
  deriving DecidableEq, Repr

def TelCh.reset : TelCh :=
  { torque := Vector.replicate 16 0, speed := Vector.replicate 16 0, temp := Vector.replicate 16 0, runMs := 0,
    starts := 0, travel := 0 }

def Telemetry.reset : Telemetry :=
  { ch := Vector.replicate 8 .reset, lifeMs := 0, soLife := Vector.replicate 8 0 }

def MemSt.reset : MemSt :=
  { scrubWords := 0, sram := [], sramBad := [], scrubAt := Vector.replicate 9 0, scrubSkip := 0, scrubFrom := 0, work := Vector.replicate 8 0, bgDone := 0,
    nvm := Vector.ofFn (fun i : Fin 256 => ⟨if i.val < 224 then 0 else 1, 0, 0⟩), nvmDue := [],
    tel := .reset, telSaved := none, restored := false, rms := Vector.replicate 8 [],
    lastPos := Vector.replicate 8 none, tempMax := Vector.replicate 8 none, supplies := (0, 0, 0), sampled := false,
    copies := Vector.replicate 3 none, batch := none, formed := 0, sampledAt := 0, savedAt := 0, batchAt := 0 }

/-- Power state of one lane that no register shows (chapter 19). -/
structure PwrSt where
  /-- the lane is OFF; 19 R441; reset false: after reset the AON island runs. -/
  off : Bool
  /-- the lane is in NAP; 19 R441; reset false. -/
  nap : Bool
  /-- SLEEP_N_x requests NAP; 19 R443; reset false (DESIGN CHOICE, log entry 2). -/
  pin : Bool
  /-- TC10 sleep with the host link down requests NAP; 19 R443; reset false (DESIGN CHOICE, log entry 2). -/
  link : Bool
  /-- lane time in ns of the last pad release; 19 R443 MIN_AWAKE; reset 0 (DESIGN CHOICE, log entry 2). -/
  awakeFrom : Nat
  /-- READY has been sent at the last boundary; 19 R443; reset false (DESIGN CHOICE, log entry 2). -/
  ready : Bool
  /-- wake sources that came since the last boundary, or during NAP_ENTRY, as WAKE_CAUSE; 19 R445, R447; reset 0 (DESIGN CHOICE, log entry 2). -/
  wake : Nat
  /-- since when the park condition has held at the voting boundaries, ns of the time the lane has run; 19 R441 HOLD_DLY; reset 0 (DESIGN CHOICE, log entry 2). -/
  parkFrom : Nat
  deriving DecidableEq, Repr

def PwrSt.reset : PwrSt :=
  { off := false, nap := false, pin := false, link := false, awakeFrom := 0, ready := false, wake := 0, parkFrom := 0 }

/-- One lane: its letter, its registers and the state beyond them. -/
structure LaneSt where
  /-- the lane's letter; 2 bits; 00 R4, 04 R119 VOTE.STATUS.LANE; reset its letter. -/
  id : LaneId
  /-- every register of BAR0, by offset, those at their reset value not listed; 1 MiB window; 01 R29; reset empty: every register at its reset value. -/
  regs : List (Nat × Word)
  /-- time; chapter 11. -/
  time : TimeSt
  /-- island crossings; 01 R16 to R20. -/
  xing : XingSt
  /-- host interface; chapter 02. -/
  hif : HifSt
  /-- voting and membership; chapter 04. -/
  vote : VoteSt
  /-- folio; chapter 03. -/
  folio : FolioSt
  /-- the pending commit; 03 R83; reset none. -/
  commit : Option Commit
  /-- the staging area, by byte address; 64 KiB; 03 R83; reset empty: every byte 0 (DESIGN CHOICE, log entry 3). -/
  staging : List (Nat × Byte)
  /-- interrupts; chapter 14. -/
  irq : IrqSt
  /-- faults; chapter 15. -/
  flt : FltSt
  /-- proofs; chapter 16. -/
  bist : BistSt
  /-- channels CH0 to CH7; chapter 07. -/
  comm : Vector CommCh 8
  /-- gate drive and PWM; chapter 10. -/
  gate : GateSt
  /-- converters; chapter 09. -/
  adc : AdcSt
  /-- feedback ports; chapter 08. -/
  fbk : FbkSt
  /-- control engine; chapters 06, 07. -/
  loop : LoopSt
  /-- profile generators PG0 to PG15; chapter 05. -/
  prof : Vector PgSt 16
  /-- security, firmware and configuration; chapter 17. -/
  sec : SecSt
  /-- safety inputs and outputs; chapter 13. -/
  sio : SioSt
  /-- networks; chapter 12. -/
  net : NetSt
  /-- background services and telemetry; chapter 18. -/
  mem : MemSt
  /-- power states; chapter 19. -/
  pwr : PwrSt
  /-- posted writes to host memory, in the order issued; 02 R37; reset empty. -/
  posted : List Posted
  /-- the model's own counter of free values, not the spec's; log entry 7; reset 0 (DESIGN CHOICE, log entry 2). -/
  free : Nat
  deriving DecidableEq, Repr

/-- What a donor captures at V_s for a lane that it readmits (R109). -/
structure Snapshot where
  /-- the donor at that boundary; 04 R109. -/
  donor : LaneSt
  /-- the voted count of each feedback port at that boundary; 04 R109. -/
  pos : Vector Int 24
  deriving DecidableEq, Repr

/-- The device: three lanes, and the commands that wait. -/
structure State where
  /-- lane A; 00 R4. -/
  a : LaneSt
  /-- lane B; 00 R4. -/
  b : LaneSt
  /-- lane C; 00 R4. -/
  c : LaneSt
  /-- the dynamic state that the donor captured at V_s for the readmission of lanes A, B, C; 04 R109; reset none: no readmission runs. -/
  snaps : Vector (Option Snapshot) 3
  /-- the model's own count of idle steps, not the spec's; log entry 9; reset 0 (DESIGN CHOICE, log entry 9). -/
  ticks : Nat
  /-- the model's own queue of waiting commands, not the spec's, first in first out; reset empty. -/
  pending : List Instr
  deriving DecidableEq, Repr

/-! ## Reset -/

def PciSt.reset : PciSt :=
  { command := 0, bar0 := 0, bar2 := 0, d3 := false, msixCtl := (false, false), devCtl := 0x2000, devCtl2 := 0 }

def HifSt.reset : HifSt :=
  { sgTail := Vector.replicate 16 0, fetched := Vector.replicate 16 0, cgHead := Vector.replicate 16 0,
    cgReserved := Vector.replicate 16 0, openD := [], reads := [], rr := (0, 0), copies := [], exec := [],
    staged := [], written := [], peerWritten := Vector.replicate 16 0, dmaFails := 0, awaitCounts := false,
    latched := [], answer := none, pci := .reset, msixTable := Vector.replicate 64 (0, 0, 1), link := 0, msixAllowed := 0, msixPending := 0, bufWait := [], bufDone := [] }

def PeerView.reset : PeerView :=
  { memb := 4, frame := none, last := none, got := (false, false), miss := (0, 0), failed := (false, false),
    takeBack := (false, false), setupHash := none, folio := none, folioBad := 0, ready := none, go := none, nogo := (0, 0),
    dis := 0, fresh := false, next := (none, (false, false)), proofSent := none, proofCh := 7, txNum := 0, rxNum := 0, rxAhead := [], outAt := none, napReady := false, serving := false }

def LaneBlk.reset : LaneBlk :=
  { readmits := 0, cause := 0, time := 0, count := 0, disagree := 0, shadowVotes := 0, timeOffset := 0,
    proof := 2, degrade := 0, netUp := 0, ramp := 1000, rampFrom := none, links := 0, late := false }

def VoteSt.reset : VoteSt :=
  { p0 := .reset, p1 := .reset, blk := Vector.replicate 3 .reset, selfDis := 0, noMaj := 0,
    torque := Vector.replicate 8 0, voted := Vector.replicate 8 0, ref := Vector.replicate 8 0,
    shareMembers := 0, exclReq := 0, reqCause := Vector.replicate 3 0, peerAttr := 0, linkLoss := (0, 0), noMajWait := false, done := true,
    attrSelf := false, attrTriple := false, lead := none, stopCause := 0,
    stopCat := 0, stopReq := 0, causes := 0, readmit := .none, transferFails := 0,
    transfer := [], transferParts := 0, tx := [], sent := none, holdFrom := none, gapFrom := none,
    restartAll := false, folioSeq := 0, formExpired := false, noMajTotal := 0 }

def FolioSt.reset : FolioSt :=
  { page := none, fp := (0, 0), skipped := 0, handover := false, mismatch := 0, single := 0,
    oddFetch := Vector.replicate 3 0, applied := 0, aborted := 0, bad := 0, sums := Vector.replicate 3 [],
    sumValid := Vector.replicate 3 false, lastTag := Vector.replicate 8 0, agreed := [] }

def IrqGroup.reset : IrqGroup :=
  { stage := .idle, issued := false, dseq := 0, origin := 0, merged := 0, soft := 0, snapSoft := false, preempted := false,
    underMask := false, snapOrigin := (0, 0), stamp := 0, leadAt := 0 }

def IrqSt.reset : IrqSt := { groups := Vector.replicate 32 .reset, lastNormal := 31, lastFast := 31 }

def FltSt.reset : FltSt :=
  { lastFatal := 0, lastContained := 0, worst := Vector.replicate 24 0, corrected := 0, contained := 0, fatal := 0,
    reactSafe := 0, reactExcl := 0, faultNext := 0, faultAt := 0, source := Vector.replicate 8 none, transmits := true,
    firstNs := [] }

def BistSt.reset : BistSt :=
  { active := Vector.replicate 6 none, spoiled := Vector.replicate 6 false, lastRegion := Vector.replicate 6 none, out := [], reqs := [],
    bankCorr := Vector.replicate 9 [], save := none, passedAt := [], overdue := Vector.replicate 6 none }

def TimeSt.reset : TimeSt :=
  { now := 0, moved := 0, gmOffset := 0, lockRun := 0, gmBlue := false, gmIds := (none, none), best := (none, none),
    suspectFrom := 0, cmpBad := 0, cmpGood := 0, off0 := none, off1 := none, rec0 := (true, 0, false, false),
    rec1 := (true, 0, false, false), spread := 0, holdStart := none, stepReady := false, stepAgreed := false, agreedAt := 0, lockedRate := 0, differs := false, arrived := (false, false),
    stepped := false, delay := (0, 0), crystal := 0, running := false,
    cmpAt := Vector.replicate 4 0 }

def CommCh.reset : CommCh :=
  { enables := [], deferred := false, wantTune := false, disable := none, disables := [], byFault := false,
    step := 0, latch := 0, latchCat := 1, k1 := false, speedLimit := 0, sfStop := 0,
    rested := false, fromHold := false, diag := none }

/-- A lane right after reset: every register at its reset value, nothing in flight. -/
def LaneSt.reset (id : LaneId) : LaneSt :=
  { id := id, regs := [], time := .reset, xing := .reset, hif := .reset, vote := .reset, folio := .reset, commit := none,
    staging := [], irq := .reset, flt := .reset, bist := .reset, comm := Vector.replicate 8 .reset,
    gate := .reset, adc := .reset, fbk := .reset, loop := .reset, prof := Vector.replicate 16 .reset,
    sec := .reset, sio := .reset, net := .reset, mem := .reset, pwr := .reset, posted := [], free := 0 }

/-- The device right after reset: three lanes at reset, no command waiting. -/
def State.reset : State := { a := .reset .A, b := .reset .B, c := .reset .C, snaps := Vector.replicate 3 none, ticks := 0, pending := [] }

end Sys2Proof.Machine
end

