-- ==== Sys2Proof/Machine/Ops.lean ====
section
/-!
DEFINITION. The named operations every meaning is written with: lanes of the state, reads and writes of register
fields, counters, stamps, Doxel records, posted host writes and staged completions.
-/

namespace Sys2Proof.Machine

open Sys2Proof

/-! ## Lanes of the state -/

/-- The lane with a given letter. -/
def State.lane (s : State) : LaneId → LaneSt
  | .A => s.a
  | .B => s.b
  | .C => s.c

/-- The state with one lane replaced. -/
def State.setLane (s : State) (l : LaneId) (x : LaneSt) : State :=
  match l with
  | .A => { s with a := x }
  | .B => { s with b := x }
  | .C => { s with c := x }

/-- A command whose whole effect lies in one lane. -/
def onLane (l : LaneId) (f : LaneSt → LaneSt) (s : State) : Host.Outcome State Fault Refusal :=
  .next (s.setLane l (f (s.lane l)))

/-- A command that is an access to BAR0 of a lane: OFF and in NAP the lane does not answer (R441). -/
def onBar (l : LaneId) (f : LaneSt → LaneSt) (s : State) : Host.Outcome State Fault Refusal :=
  onLane l (fun x => if x.pwr.off || x.pwr.nap then x else f x) s

/-! ## Register fields -/

/-- The field of `width` bits at bit `lo` of a word. -/
def getField (lo width w : Nat) : Nat := w / 2 ^ lo % 2 ^ width

/-- A word with the field of `width` bits at bit `lo` replaced. -/
def putField (lo width w n : Nat) : Nat :=
  w / 2 ^ (lo + width) * 2 ^ (lo + width) + n % 2 ^ width * 2 ^ lo + w % 2 ^ lo

/-- The word a lane's register file holds at a BAR0 offset. -/
def LaneSt.word (l : LaneSt) (off : Nat) : Word := Sparse.get (regReset l.id) l.regs off

/-- A lane with one BAR0 word replaced, the register file staying canonical. -/
def LaneSt.setWord (l : LaneSt) (off : Nat) (w : Word) : LaneSt :=
  { l with regs := Sparse.set (regReset l.id) l.regs off w }

/-- The value of a register field; a field of width 64 is a register pair, low word first (R7). -/
def LaneSt.rd (l : LaneSt) (f : Field) : Nat :=
  if f.width = 64 then (l.word f.off).toNat + 2 ^ 32 * (l.word (f.off + 4)).toNat
  else getField f.lo f.width (l.word f.off).toNat

/-- A lane with a register field replaced by the low bits of a number. -/
def LaneSt.wr (l : LaneSt) (f : Field) (n : Nat) : LaneSt :=
  if f.width = 64 then
    (l.setWord f.off (BitVec.ofNat 32 n)).setWord (f.off + 4) (BitVec.ofNat 32 (n / 2 ^ 32))
  else l.setWord f.off (BitVec.ofNat 32 (putField f.lo f.width (l.word f.off).toNat n))

/-- A field read as a signed number of its width. -/
def LaneSt.rdI (l : LaneSt) (f : Field) : Int := toSigned f.width (l.rd f)

/-- A field written with the two's complement of an integer. -/
def LaneSt.wrI (l : LaneSt) (f : Field) (i : Int) : LaneSt := l.wr f (ofSigned f.width i)

/-- A field written with an integer saturated to its signed range. -/
def LaneSt.wrSat (l : LaneSt) (f : Field) (i : Int) : LaneSt := l.wrI f (satSigned f.width i)

/-- A one-bit field as a truth value. -/
def LaneSt.on (l : LaneSt) (f : Field) : Bool := l.rd f != 0

/-- A one-bit field written with a truth value. -/
def LaneSt.wrB (l : LaneSt) (f : Field) (b : Bool) : LaneSt := l.wr f (b2n b)

/-- A free-running counter field, one up. -/
def LaneSt.inc (l : LaneSt) (f : Field) : LaneSt := l.wr f (l.rd f + 1)

/-- A saturating counter of block `b`, one up: at its maximum it counts in SATURATED_b instead (R368). -/
def LaneSt.satInc (l : LaneSt) (b : Nat) (f : Field) : LaneSt :=
  if l.rd f = 2 ^ f.width - 1 then l.inc (FLT.SATURATED.COUNT b) else l.inc f

/-- A saturating counter that is no register field, with the SATURATED count of its block. -/
def LaneSt.satNote (l : LaneSt) (b width n : Nat) : LaneSt :=
  if n = 2 ^ width - 1 then l.inc (FLT.SATURATED.COUNT b) else l

/-! ## Time and stamps (R276) -/

/-- Lane time in whole nanoseconds: C = SEC × 10^9 + NS. -/
def LaneSt.ns (l : LaneSt) : Nat := l.time.now / 2 ^ 32

/-- The time the lane has run since its counter started, without the steps of the counter: units of 2^-32 ns, and ns. What
an interval is measured with. -/
def LaneSt.runUnits (l : LaneSt) : Nat := ((l.time.now : Int) - l.time.moved).toNat
def LaneSt.run (l : LaneSt) : Nat := l.runUnits / 2 ^ 32

/-- The counter is set. -/
def LaneSt.setTime (l : LaneSt) (t : Nat) : LaneSt :=
  { l with time := { l.time with now := t, moved := l.time.moved + t - l.time.now } }

/-- Whether lane time is in T32 form. -/
def LaneSt.t32 (l : LaneSt) : Bool := l.rd TIME.STATUS.FORM = 0

/-- The nanoseconds part of a time: NS of TIME80, or T32. -/
def stampNs (t32 : Bool) (ns : Nat) : Nat := if t32 then ns % 2 ^ 32 else ns % 10 ^ 9

/-- The seconds part of a time: SEC of TIME80, or the T32 wrap count. -/
def stampS (t32 : Bool) (ns : Nat) : Nat := if t32 then ns / 2 ^ 32 else ns / 10 ^ 9

/-- The 64-bit stamp of a completion, a probe or a cause record: NS, low 16 bits of the seconds, flag in bit 63
(R52). -/
def LaneSt.stamp64 (l : LaneSt) : Nat :=
  stampNs l.t32 l.ns + 2 ^ 32 * (stampS l.t32 l.ns % 2 ^ 16) + 2 ^ 63 * b2n l.t32

/-- A TIME80 as nanoseconds of lane time. -/
def time80 (sec ns : Nat) : Nat := sec * 10 ^ 9 + ns

/-- T_vote in nanoseconds (VOTE.CTRL.PERIOD is in µs). -/
def LaneSt.tVote (l : LaneSt) : Nat := l.rd VOTE.CTRL.PERIOD * 1000

/-- Units of time in a microsecond. -/
def planMicro : Nat := 1000 * 2 ^ 32

/-- The replan instant t_r: the first whole microsecond at least 2 µs after now, in ns (R126). -/
def LaneSt.replanNs (l : LaneSt) : Nat := (l.time.now + 2 * planMicro + (planMicro - 1)) / planMicro * 1000

/-- The voting boundary at or before the present lane time, in nanoseconds. -/
def LaneSt.boundaryNs (l : LaneSt) : Nat := if l.tVote = 0 then l.ns else l.ns / l.tVote * l.tVote

/-! ## Free values -/

/-- The lane's next free value, and the lane with its counter advanced. -/
def LaneSt.fresh (l : LaneSt) : Nat × LaneSt :=
  ((Config.freeValue l.id l.free).toNat, { l with free := l.free + 1 })

/-- A quotient in whole numbers: the exact one where the division leaves no rest; else one of its two neighbours, and
the spec does not say which. Of a quotient by 0 it states nothing (log entry 7). -/
def qdiv (n : Int) (d : Nat) : Int :=
  if d = 0 then (Config.openQuotient n 0).toInt else if n % (d : Int) = 0 ∨ !Config.roundUp n d then n / (d : Int) else n / (d : Int) + 1

/-- The rule for voted values (R70): median of three, mean of two, the one. -/
def votedValue : List Int → Int
  | [x, y, z] => median3 x y z
  | [x, y] => qdiv (x + y) 2
  | [x] => x
  | _ => 0

/-! ## Membership -/

/-- SELF encodings (R91, R119). -/
def selfMember : Nat := 0
def selfExcluded : Nat := 1
def selfShadow : Nat := 2
def selfDead : Nat := 3
def selfForming : Nat := 4

/-- The lane's own membership state. -/
def LaneSt.self (l : LaneSt) : Nat := l.rd VOTE.STATUS.SELF

/-- Whether the lane is MEMBER. -/
def LaneSt.isMember (l : LaneSt) : Bool := l.self = selfMember

/-- The mask of MEMBER lanes in the lane's view. -/
def LaneSt.members (l : LaneSt) : Nat := l.rd VOTE.STATUS.MEMBERS

/-- Operating mode in the lane's view: 0 TRIPLE, 1 DUPLEX, 2 SOLO, 3 SAFE. -/
def LaneSt.mode (l : LaneSt) : Nat := l.rd VOTE.STATUS.MODE

/-- The lanes are in SAFE. At reset MODE has no membership to count. -/
def LaneSt.inSafe (l : LaneSt) : Bool := l.mode = 3 && l.members != 0

/-- The view of a peer. -/
def LaneSt.peer (l : LaneSt) (p : LaneId) : PeerView := if p = l.id.peer0 then l.vote.p0 else l.vote.p1

/-- The lane with the view of a peer changed. -/
def LaneSt.setPeer (l : LaneSt) (p : LaneId) (f : PeerView → PeerView) : LaneSt :=
  if p = l.id.peer0 then { l with vote := { l.vote with p0 := f l.vote.p0 } }
  else { l with vote := { l.vote with p1 := f l.vote.p1 } }

/-- Both peers of a lane, lower letter first. -/
def LaneSt.peers (l : LaneSt) : List LaneId := [l.id.peer0, l.id.peer1]

/-- The peers that are MEMBER in the lane's view. -/
def LaneSt.memberPeers (l : LaneSt) : List LaneId := l.peers.filter (fun p => bit l.members p.num)

/-- The lane with the block of lane `k` changed. -/
def LaneSt.setBlk (l : LaneSt) (k : LaneId) (f : LaneBlk → LaneBlk) : LaneSt :=
  { l with vote := { l.vote with blk := l.vote.blk.set k.fin (f (l.vote.blk.get k.fin)) } }

/-- The block of lane `k`. -/
def LaneSt.blkOf (l : LaneSt) (k : LaneId) : LaneBlk := l.vote.blk.get k.fin

/-- The lane is in HOLD (R442, R51). -/
def LaneSt.inHold (l : LaneSt) : Bool := l.rd PWR.STATUS.STATE = 2

/-- The lane is lead (R76), as its HIF.STATUS and VOTE logic show it. -/
def LaneSt.isLead (l : LaneSt) : Bool := l.on HIF.STATUS.LEAD

/-! ## Doxel (R91 to R93) -/

/-- CRC-32C (polynomial 0x1EDC_6F41), reflected, one bit at a time. -/
def crcBit (c : Nat) : Nat := if c % 2 = 1 then (c / 2) ^^^ 0x82F63B78 else c / 2

/-- One byte of CRC-32C. -/
def crcByte (c : Nat) (b : Byte) : Nat := Nat.repeat crcBit 8 (c ^^^ b.toNat)

/-- CRC-32C of a list of bytes (R5). -/
def crc32c (bs : List Byte) : Nat := (bs.foldl crcByte 0xFFFFFFFF) ^^^ 0xFFFFFFFF

/-- A cycle frame is being sent: its nine words take 180 ns from the boundary on (R90, R93). -/
def LaneSt.sendingCycle (l : LaneSt) : Bool := l.vote.sent.isSome && decide (l.ns - l.boundaryNs < 180)

/-- The payload of one transfer in frames (R92): at most 29 words each, the first of which the model keeps for what the
record or transfer is about (log entry 17). -/
def framesOf (words : List Nat) : List (List Nat) :=
  if words.length ≤ 28 then [words]
  else (List.range ((words.length + 27) / 28)).map (fun i => (words.drop (28 * i)).take 28)

/-- Send one message or bulk frame to a peer: it joins the frames not yet acknowledged, on the spare where the primary has
failed (R93, R94). -/
def LaneSt.sendFrame (l : LaneSt) (p : LaneId) (rtype hdr : Nat) (words : List Nat) : LaneSt :=
  let n := ((l.peer p).txNum + 1) % 2 ^ 16
  let x : DoxTx := ⟨p, some n, (l.peer p).failed.1, rtype, hdr, words⟩
  let l := l.setPeer p (fun v => { v with txNum := n })
  { l with vote := { l.vote with tx := l.vote.tx ++ [x] } }

/-- Send one record or bulk transfer to a peer. A record produced while a cycle frame is being sent is appended to that
frame (R93); a bulk transfer goes in as many frames as it takes (R92). A lane stopped by a fatal fault transmits nothing
(R374). -/
def LaneSt.sendTo (l : LaneSt) (p : LaneId) (rtype hdr : Nat) (words : List Nat) : LaneSt :=
  if !l.flt.transmits then l
  else if rtype < 0x100 then
    if l.sendingCycle then { l with vote := { l.vote with tx := l.vote.tx ++ [⟨p, none, false, rtype, hdr, words⟩] } }
    else l.sendFrame p rtype hdr words
  else (framesOf words).foldl (fun l ws => l.sendFrame p rtype hdr ws) l

/-- Send one record to both peers. -/
def LaneSt.send (l : LaneSt) (rtype hdr : Nat) (words : List Nat) : LaneSt :=
  l.peers.foldl (fun l p => l.sendTo p rtype hdr words) l

/-- The header word of a record (R93): RTYPE, payload word count, the bits of the record's own above. -/
def DoxTx.recordHeader (x : DoxTx) : Nat := x.rtype % 2 ^ 8 + 2 ^ 8 * x.words.length + 2 ^ 16 * x.hdr

/-- The header word of a message or bulk frame from `sender` with its acknowledgement (R92): TYPE, SENDER, LINK, frame
number, ACK, BTYPE. -/
def DoxTx.frameHeader (x : DoxTx) (sender : LaneId) (ack : Nat) : Nat :=
  (if x.rtype < 0x100 then 0xA3 else 0xB5 + 2 ^ 48 * (x.rtype - 0x100)) + 2 ^ 8 * sender.num + 2 ^ 10 * b2n x.spare
    + 2 ^ 16 * (x.num.getD 0) + 2 ^ 32 * ack

/-- A word's bytes, the least significant first (R6). -/
def wordBytes (w : Nat) : List Byte := (List.range 8).map (fun i => BitVec.ofNat 8 (w / 256 ^ i))

/-- The END word of a frame (R91): the CRC-32C of the payloads of all earlier words, and the record count. -/
def endWordOf (words : List Nat) (records : Nat) : Nat := crc32c (words.flatMap wordBytes) + 2 ^ 32 * records

/-- The words of a message or bulk frame as they go out on the link (R92): header, one record or a bulk payload, END. -/
def DoxTx.frameWords (x : DoxTx) (sender : LaneId) (ack : Nat) : List Nat :=
  let body := x.frameHeader sender ack :: (if x.rtype < 0x100 then x.recordHeader else x.hdr) :: x.words
  body ++ [endWordOf body (b2n (decide (x.rtype < 0x100)))]

/-- Frames up to the acknowledged number have arrived (R93). -/
def LaneSt.acked (l : LaneSt) (p : LaneId) (ack : Nat) : LaneSt :=
  { l with vote := { l.vote with
      tx := l.vote.tx.filter (fun x => !(x.dest = p && x.num.any (fun n => decide ((ack + 2 ^ 16 - n) % 2 ^ 16 < 2 ^ 15)))) } }

/-- The numbers received ahead that now follow without a gap join the contiguous ones (R91). -/
def PeerView.advance (v : PeerView) : Nat → PeerView
  | 0 => v
  | k + 1 =>
    let n := (v.rxNum + 1) % 2 ^ 16
    if v.rxAhead.contains n then PeerView.advance { v with rxNum := n, rxAhead := v.rxAhead.filter (· ≠ n) } k else v

/-- Frame number `n` of a peer is one that has not been received (R93). -/
def PeerView.newNum (v : PeerView) (n : Nat) : Bool :=
  let d := (n + 2 ^ 16 - v.rxNum) % 2 ^ 16
  decide (0 < d) && decide (d < 2 ^ 15) && !v.rxAhead.contains n

/-- A transfer of `k` frames whose last is number `n` has been received. -/
def PeerView.arrived (v : PeerView) (n k : Nat) : PeerView :=
  let v := { v with rxAhead := (((List.range k).map (fun i => (n + 2 ^ 16 - i) % 2 ^ 16)).filter v.newNum) ++ v.rxAhead }
  v.advance v.rxAhead.length

/-- A message or bulk frame is used: it comes from a peer, on a link that has not failed (R94), and is no duplicate by its
number (R93). -/
def LaneSt.accepts (l : LaneSt) (src : Arrival) : Bool :=
  decide (src.lane ≠ l.id) && !(if src.spare then (l.peer src.lane).failed.2 else (l.peer src.lane).failed.1)
    && src.num.all (fun n => (l.peer src.lane).newNum n.toNat)

/-- The lane after it has taken note of the `k` frames of an arrival: they are acknowledged from now on, and the sender's
own acknowledgement is taken (R91 to R93). -/
def LaneSt.heard (l : LaneSt) (src : Arrival) (k : Nat) : LaneSt :=
  match src.num with
  | none => l
  | some n => (l.acked src.lane src.ack.toNat).setPeer src.lane (fun v => v.arrived n.toNat k)

/-- A command that is a message frame of a peer, or a bulk transfer of `k` frames: what is not accepted is discarded, else
the frames are noted and `f` takes the content. -/
def onReceiveN (l : LaneId) (src : Arrival) (k : Nat) (f : LaneSt → LaneSt) (s : State) : Host.Outcome State Fault Refusal :=
  onLane l (fun x => if x.accepts src then f (x.heard src k) else x) s

/-- A command that is a message frame of a peer, or a bulk transfer of one frame. -/
def onReceive (l : LaneId) (src : Arrival) (f : LaneSt → LaneSt) (s : State) : Host.Outcome State Fault Refusal :=
  onReceiveN l src 1 f s

/-- The frames that a bulk transfer of bytes takes. -/
def frameCount (bytes : List Byte) : Nat := (framesOf (List.replicate ((bytes.length + 7) / 8) 0)).length

/-! ## Host memory (R37) -/

/-- Post a write of `len` bytes; `fields` are (offset, bytes, value), little-endian, every other byte 0. -/
def LaneSt.post (l : LaneSt) (addr len : Nat) (fields : List (Nat × Nat × Nat)) : LaneSt :=
  { l with posted := l.posted ++ [.write addr len fields] }

/-- Send an MSI-X message on a vector, or hold it in the pending-bit array (R358). -/
def LaneSt.msix (l : LaneSt) (vec : Nat) : LaneSt :=
  let e := l.hif.msixTable.getD vec (0, 0, 0)
  if bit l.hif.msixAllowed vec then { l with posted := l.posted ++ [.msix vec e.1 e.2.1] }
  else { l with hif := { l.hif with msixPending := setBit l.hif.msixPending vec true } }

/-- The byte at offset `i` of a page or record given by fields. -/
def fieldByte : List (Nat × Nat × Nat) → Nat → Byte
  | [], _ => 0
  | (off, n, v) :: fs, i => if off ≤ i ∧ i < off + n then BitVec.ofNat 8 (v / 256 ^ (i - off)) else fieldByte fs i

/-- The bytes of a page or record given by fields. -/
def fieldBytes (len : Nat) (fs : List (Nat × Nat × Nat)) : List Byte := (List.range len).map (fieldByte fs)

/-- The fingerprint of an object (R69): the first 8 bytes of its SHA-512 digest, little-endian. The digest's first
byte is the most significant byte of the 512-bit number. -/
def fingerprint (bs : List Byte) : Nat := leBytes (toBe 8 ((sha512 bs).toNat / 2 ^ 448))

/-- A 64-bit host address from its register pair. -/
def LaneSt.addr (l : LaneSt) (lo hi : Nat) : Nat := (l.word lo).toNat + 2 ^ 32 * (l.word hi).toNat

/-! ## Completions (R52 to R60) -/

/-- Completion status codes (R53). -/
def stOk : Nat := 0
def stAborted : Nat := 1
def stMismatch : Nat := 2
def stRejected : Nat := 3
def stTimeout : Nat := 4
def stDenied : Nat := 5
def stDeferred : Nat := 6

/-- DETAIL of a completion that carries a reason (R54). -/
def reasonDetail (code arg : Nat) : Nat := code % 2 ^ 8 * 2 ^ 8 + arg % 2 ^ 16 * 2 ^ 16

/-- DETAIL of a completion under the re-enable rule (R33, R54). -/
def outcomeDetail (outcome merges : Nat) : Nat := outcome + 16 * min 15 merges

/-- Stage the completion of a consumed descriptor (R56). -/
def LaneSt.complete (l : LaneSt) (d : Decided) (status detail result : Nat) : LaneSt :=
  let c : Completion :=
    { cg := l.rd (HIF.SG_CTRL.CG d.sg), sg := d.sg, tag := d.tag, seq := d.found, result := result % 2 ^ 64,
      detail := detail % 2 ^ 32, opcode := d.opcode, status := status, agree := d.agree, single := d.single,
      irq := d.irq, stamp := none }
  { l with hif := { l.hif with staged := l.hif.staged ++ [c], openD := l.hif.openD.filter (· ≠ (d.sg, d.seq)) } }

/-- Complete a descriptor DENIED with a reason. -/
def LaneSt.deny (l : LaneSt) (d : Decided) (code arg : Nat) : LaneSt := l.complete d stDenied (reasonDetail code arg) 0

/-- Complete a descriptor ABORTED with a reason. -/
def LaneSt.abort (l : LaneSt) (d : Decided) (code arg : Nat) : LaneSt := l.complete d stAborted (reasonDetail code arg) 0

/-- Complete a descriptor OK with a re-enable outcome. -/
def LaneSt.okOutcome (l : LaneSt) (d : Decided) (outcome merges : Nat) : LaneSt :=
  l.complete d stOk (outcomeDetail outcome merges) 0

/-- Reserve the completion slot of a consumed descriptor and count it consumed (R58, R60). -/
def LaneSt.consume (l : LaneSt) (d : Decided) : LaneSt :=
  let cg := l.rd (HIF.SG_CTRL.CG d.sg)
  let l := l.inc (HIF.SG_CONSUMED.COUNT d.sg)
  { l with hif := { l.hif with
      cgReserved := l.hif.cgReserved.setIfInBounds cg ((l.hif.cgReserved.getD cg 0 + 1) % 2 ^ 32),
      openD := l.hif.openD ++ [(d.sg, d.seq)] } }

/-- Whether a completion slot can be reserved for a descriptor of galley `sg`: reserved − CG_HEAD < size (R58). -/
def LaneSt.slotFree (l : LaneSt) (sg : Nat) : Bool :=
  let cg := l.rd (HIF.SG_CTRL.CG sg)
  decide ((l.hif.cgReserved.getD cg 0 + 2 ^ 32 - l.hif.cgHead.getD cg 0) % 2 ^ 32
    < 2 ^ (l.rd (HIF.CG_CTRL.SIZE cg) + 4))

/-- Whether every completion of galley `sg` for a descriptor before `seq` has been written (FENCE, R59). -/
def LaneSt.fenceClear (l : LaneSt) (sg : Nat) : Bool :=
  l.hif.staged.all (fun c => c.sg ≠ sg) && l.hif.openD.all (fun d => d.1 ≠ sg)

end Sys2Proof.Machine
end

