-- ==== Sys2Proof/Machine/Flags.lean ====
section
/-!
DEFINITION. Interrupt flags and fault flags, and what a fault sets off: raising a source (R348 to R350), recording an
event (R366 to R369, R376), its frisket reaction (R370 to R372), the safe state of windings and of the lane, and
exclusion (R102, R104, R106, R374).
-/

namespace Sys2Proof.Machine

open Sys2Proof

/-! ## Interrupt groups -/

/-- The bank of a group: 0 normal, 1 fast (R351). -/
def LaneSt.bank (l : LaneSt) (g : Nat) : Nat := if bit (l.rd IRQ.CLASS.FAST) g then 1 else 0

/-- The byte of group `g` in an IRQ bank register that stands at `base` in the normal bank. -/
def groupByte (base bank g : Nat) : Field := ⟨base + 0x800 * bank + 4 * (g / 4), 8 * (g % 4), 8⟩

def irqMaskF (bank g : Nat) : Field := groupByte 0x4020 bank g
def irqCauseF (bank g : Nat) : Field := groupByte 0x4040 bank g
def irqRaisedF (bank g : Nat) : Field := groupByte 0x4060 bank g
def irqSnapF (bank g : Nat) : Field := groupByte 0x4080 bank g

/-- Reserved groups (R348). -/
def groupReserved (g : Nat) : Bool := (25 ≤ g && g ≤ 29) || g = 31 || g ≥ 32

/-- Groups of LANE scope (R348). -/
def groupLane (g : Nat) : Bool := (6 ≤ g && g ≤ 14) || (16 ≤ g && g ≤ 24)

/-- AGREED sources that only the lead raises (R483). -/
def sourceLead (g s : Nat) : Bool := g ≤ 1 || (g = 2 && (s = 0 || s = 7)) || (g = 5 && s ≤ 1)

/-- Change the delivery state of a group. -/
def LaneSt.setGroup (l : LaneSt) (g : Nat) (f : IrqGroup → IrqGroup) : LaneSt :=
  { l with irq := { l.irq with groups := l.irq.groups.setIfInBounds g (f (l.irq.groups.getD g .reset)) } }

/-- The delivery state of a group. -/
def LaneSt.group (l : LaneSt) (g : Nat) : IrqGroup := l.irq.groups.getD g .reset

/-- Add raises of the sources `srcs` (a byte mask) of group `g` by the lanes `lanes`: CAUSE and RAISED bits set,
ORIGIN noted, raises of pending sources counted in MERGED (R349, R356, R363). -/
def LaneSt.pend (l : LaneSt) (g srcs lanes : Nat) (soft : Bool) : LaneSt :=
  if groupReserved g then l
  else
    let b := l.bank g
    let old := l.rd (irqCauseF b g)
    let l := l.wr (irqCauseF b g) (old ||| srcs)
    let l := l.wr (irqRaisedF b g) (l.rd (irqRaisedF b g) ||| srcs)
    l.setGroup g (fun v => { v with
      merged := min 0xFFFF (v.merged + popCount 8 (old &&& srcs)),
      origin := v.origin ||| maskOf 24 (fun i => bit srcs (i / 3) && bit lanes (i % 3)),
      soft := if soft then v.soft ||| srcs else v.soft })

/-- Raise source `s` of group `g` from the hardware of this lane: into its own pending set, and, for a LANE group or a
source that only the lead raises, in an IRQ_RAISE record to the peers (R350). Sources of AGREED groups are raised by
members (R483). -/
def LaneSt.raise (l : LaneSt) (g s : Nat) : LaneSt :=
  if groupReserved g || (!groupLane g && !l.isMember) then l
  else
    let lanes := if groupLane g then 2 ^ l.id.num else l.members
    let l := l.pend g (2 ^ s) lanes false
    if groupLane g || sourceLead g s then l.send 0x16 (g + 2 ^ s * 2 ^ 5 + l.id.num * 2 ^ 13) [] else l

/-! ## Windings and legs -/

/-- Switch `i` of the lane: 2m is the high side of leg m, 2m + 1 its low side. -/
def LaneSt.sw (l : LaneSt) (i : Nat) : Switch := l.gate.sw.getD i .reset

def LaneSt.setSw (l : LaneSt) (i : Nat) (x : Switch) : LaneSt :=
  { l with gate := { l.gate with sw := l.gate.sw.setIfInBounds i x } }

/-- The other switch of the leg. -/
def otherSw (i : Nat) : Nat := if i % 2 = 0 then i + 1 else i - 1

/-- Live gate-sense level of a switch: 1 above GOFF. -/
def gsF (i : Nat) : Field := if i % 2 = 0 then GATE.STATUS.GS_H (i / 2) else GATE.STATUS.GS_L (i / 2)

/-- The latch that holds a switch off (R258). -/
def switchLatchF (i : Nat) : Field := if i % 2 = 0 then GATE.STATUS.H_LATCHED (i / 2) else GATE.STATUS.L_LATCHED (i / 2)

/-- Every gate of the lane is held off by its pull-down: without VGD (R266), and while a readmission proof runs (R386). -/
def LaneSt.pulledDown (l : LaneSt) : Bool := !l.on GATE.DIE_STATUS.VGD_OK || l.vote.readmit = .proof

/-- Switch `i` waits for its turn-on, or no longer. -/
def LaneSt.setWait (l : LaneSt) (i : Nat) (b : Bool) : LaneSt :=
  let rest := l.gate.waits.filter (fun j => j ≠ i)
  { l with gate := { l.gate with waits := if b then i :: rest else rest } }

/-- Switch `i` turned off, through its sink or its soft-off output; nothing delays it (R249), and after a soft turn-off the
sink is not used (R253). Its gate reads below GOFF from then on (log entry 56). -/
def LaneSt.swOff (l : LaneSt) (i : Nat) (soft : Bool) : LaneSt :=
  let x := l.sw i
  let out := if l.pulledDown then GateOut.pull else if soft ∨ x.out = .soft then .soft else .sink
  let l := l.setWait i false
  if x.out = .source then (l.wr (gsF i) 0).setSw i ⟨out, some l.run⟩ else l.setSw i { x with out := out }

/-- The gate of the other switch of the leg has read below GOFF for KERN (R249). -/
def LaneSt.kernPassed (l : LaneSt) (i : Nat) : Bool :=
  let o := otherSw i
  !l.on (gsF o) && (match (l.sw o).lowAt with
    | none => true
    | some t => decide (t + 5 * l.rd (GATE.TIMING.KERN (i / 2)) ≤ l.run))

/-- Switch `i` commanded on: it turns on once the other gate allows it (R249), and not at all while it is latched off or its
gate is held off. -/
def LaneSt.swOn (l : LaneSt) (i : Nat) : LaneSt :=
  let x := l.sw i
  if l.pulledDown ∨ l.on (switchLatchF i) ∨ x.out = .source then l.setWait i false
  else if l.kernPassed i then ((l.setWait i false).wr (gsF i) 1).setSw i { x with out := .source }
  else l.setWait i true

/-- The switches of leg `m` driven: the ones commanded off first. -/
def LaneSt.driveLeg (l : LaneSt) (m : Nat) (high low : Bool) : LaneSt :=
  let l := if high then l else l.swOff (2 * m) false
  let l := if low then l else l.swOff (2 * m + 1) false
  let l := if high then l.swOn (2 * m) else l
  if low then l.swOn (2 * m + 1) else l

/-- Leg `m` put in a GATE.STATUS.STATE: 0 OFF, 1 SWITCHING, 2 LOW_ON, 3 HIGH_ON, 5 LATCHED_OFF. A leg that switches follows
its duty from its next edge on. -/
def LaneSt.setLeg (l : LaneSt) (m st : Nat) : LaneSt :=
  let l := l.wr (GATE.STATUS.STATE m) st
  if st = 1 then l else l.driveLeg m (st = 3) (st = 2)

/-- The three legs of channel `n` put in a GATE.STATUS.STATE. -/
def LaneSt.setBridge (l : LaneSt) (n st : Nat) : LaneSt :=
  ((l.setLeg (3 * n) st).setLeg (3 * n + 1) st).setLeg (3 * n + 2) st

/-- Every gate of the lane falls to its pull-down. -/
def LaneSt.gatesDown (l : LaneSt) : LaneSt :=
  (List.range 52).foldl (fun l i =>
    let l := l.swOff i false
    l.setSw i { l.sw i with out := .pull }) l

/-- Set WSTATE of channel `n`; a change raises source 7 of the channel's group (R348). -/
def LaneSt.setWstate (l : LaneSt) (n w : Nat) : LaneSt :=
  if l.rd (COMM.STATUS.WSTATE n) = w then l else (l.wr (COMM.STATUS.WSTATE n) w).raise (6 + n) 7

/-- Change the bridge state of channel `n`. -/
def LaneSt.setGateCh (l : LaneSt) (n : Nat) (f : GateCh → GateCh) : LaneSt :=
  { l with gate := { l.gate with ch := l.gate.ch.setIfInBounds n (f (l.gate.ch.getD n .reset)) } }

/-- The bridge state of channel `n`. -/
def LaneSt.gateCh (l : LaneSt) (n : Nat) : GateCh := l.gate.ch.getD n .reset

/-- A forced state of a bridge takes back what was due at the next carrier valley (R259). -/
def LaneSt.dropDue (l : LaneSt) (n : Nat) : LaneSt :=
  l.setGateCh n (fun g => { g with resume := false, park := false, parked := false, ov3 := false })

/-- Every switch of the bridge of channel `n` off. -/
def LaneSt.windingOff (l : LaneSt) (n : Nat) : LaneSt := ((l.dropDue n).setBridge n 0).setWstate n 0

/-- Whether the legs of channel `n` are MOTOR legs. -/
def LaneSt.isMotor (l : LaneSt) (n : Nat) : Bool := l.rd (GATE.LEG_CTRL.USE (3 * n)) = 1

/-- The short side that the switch events of bridge `n` have latched: BRIDGE_n.SIDE, or the side that waits for the gates of
the other side (R255). -/
def LaneSt.bridgeSide (l : LaneSt) (n : Nat) : Nat :=
  if l.rd (GATE.BRIDGE.SIDE n) = 0 then (l.gateCh n).naming else l.rd (GATE.BRIDGE.SIDE n)

/-- The side of an active short of channel `n`: the latched one if set, ASC_DEF otherwise; 1 LOW, 2 HIGH, 3 none safe
(R257). -/
def LaneSt.shortSide (l : LaneSt) (n : Nat) : Nat :=
  if l.bridgeSide n = 0 then 1 + l.rd (GATE.BRIDGE.ASC_DEF n) else l.bridgeSide n

/-- A bootstrap of bridge `n` has read below UV: no high-side short holds (R257). -/
def LaneSt.bootLow (l : LaneSt) (n : Nat) : Bool := (List.range 3).any (fun k => l.on (GATE.STATUS.BS_UV (3 * n + k)))

/-- The active short of channel `n` on a side. In HOLD, with the dies in standby, only a latched one is held, any other waits
for RUN (R442); with no safe side, or on a high side whose bootstrap is low, every switch is
off. WSTATE shows the short as ordered; each switch of it turns on under R249 (log entry 56). -/
def LaneSt.shortOn (l : LaneSt) (n side : Nat) : LaneSt :=
  if l.inHold ∧ l.bridgeSide n = 0 then (l.windingOff n).setGateCh n (fun g => { g with parked := true })
  else if side = 1 then ((l.dropDue n).setBridge n 2).setWstate n 2
  else if side = 2 ∧ !l.bootLow n then ((l.dropDue n).setBridge n 3).setWstate n 3
  else l.windingOff n

/-- The active short of channel `n` under R257. -/
def LaneSt.activeShort (l : LaneSt) (n : Nat) : LaneSt := l.shortOn n (l.shortSide n)

/-- The force-safe line of a gate-driver die is asserted, or its edge link is down: the die holds its legs in their
force-safe state (R243). -/
def LaneSt.dieHeld (l : LaneSt) (die : Nat) : Bool := bit (l.rd GATE.DIE_STATUS.FORCE) die || !bit (l.rd GATE.DIE_STATUS.LINK) die

/-- An active short of bridge `n` that no channel safe state and no PWM edge undoes: a latched side, the force-safe state,
OV4 or OV3 (R259). -/
def LaneSt.shortHeld (l : LaneSt) (n : Nat) : Bool :=
  l.bridgeSide n != 0 || l.dieHeld (n / 4) || bit (l.rd GATE.DIE_STATUS.OV4) (n / 4) || l.on GATE.OV_STATUS.OV3_ACTIVE

/-- The safe state of the winding of channel `n`: COMM.CTRL.SAFE, a short that is held staying (R256, R257, R259). -/
def LaneSt.windingSafe (l : LaneSt) (n : Nat) : LaneSt :=
  if !l.isMotor n then l
  else if l.rd (COMM.CTRL.SAFE n) = 1 ∧ !l.shortHeld n then l.windingOff n
  else l.activeShort n

/-- Every winding of the lane in its channel's safe state. -/
def LaneSt.allSafe (l : LaneSt) : LaneSt := (List.range 8).foldl LaneSt.windingSafe l

/-- AUX legs off: they switch only while the lane is MEMBER (R248); a leg latched off stays so (R258). -/
def LaneSt.auxOff (l : LaneSt) : LaneSt :=
  (List.range 24).foldl (fun l m =>
    if l.rd (GATE.LEG_CTRL.USE m) = 2 ∧ l.rd (GATE.STATUS.STATE m) ≠ 5 then l.setLeg m 0 else l) l

/-- The force-safe state of every leg of a gate-driver die, by the die's own copy of the settings (R243): MOTOR
bridges in their active short, AUX and CHOPPER legs off. -/
def LaneSt.dieSafe (l : LaneSt) (die : Nat) : LaneSt :=
  let l := (List.range 4).foldl (fun l i =>
    let n := 4 * die + i
    if l.gate.dieUse.getD (3 * n) 0 = 1 then
      l.shortOn n (if l.bridgeSide n = 0 then 1 + (l.gateCh n).dieAsc else l.bridgeSide n)
    else l) l
  let l := (List.range 12).foldl (fun l i =>
    let m := 12 * die + i
    if l.gate.dieUse.getD m 0 = 2 ∧ l.rd (GATE.STATUS.STATE m) ≠ 5 then l.setLeg m 0 else l) l
  let m := 24 + die
  let l := if l.rd (GATE.STATUS.STATE m) ≠ 5 then l.setLeg m 0 else l
  l.wr GATE.OV_STATUS.CHP_ON (setBit (l.rd GATE.OV_STATUS.CHP_ON) die false)

/-- Change the safety input and output state of the lane that is no register. -/
def LaneSt.setSio (l : LaneSt) (f : SioSt → SioSt) : LaneSt := { l with sio := f l.sio }

/-- A change of the commanded state of output `k`: a test pulse on it ends, to be repeated (R339); its EDM level is
awaited where EDM is monitored (R340). -/
def LaneSt.soChange (l : LaneSt) (k : Nat) (on : Bool) : LaneSt :=
  let l := l.wr SIO.SO_STATUS.ON (setBit (l.rd SIO.SO_STATUS.ON) k on)
  let edm := l.on (SIO.SO_CFG.EDM_EN k)
  l.setSio (fun x => { x with
    shut := setBit x.shut k (!on && edm), conf := setBit x.conf k (!edm),
    retry := if x.test.any (fun t => t.1 = k) then setBit x.retry k true else x.retry,
    test := if x.test.any (fun t => t.1 = k) then none else x.test })

/-- Safety output `k` de-energized. -/
def LaneSt.soOff (l : LaneSt) (k : Nat) : LaneSt := if bit (l.rd SIO.SO_STATUS.ON) k then l.soChange k false else l

/-- Every safety output of the lane de-energized. -/
def LaneSt.outputsOff (l : LaneSt) : LaneSt := (List.range 8).foldl LaneSt.soOff l

/-! ## Leaving the membership -/

/-- The mode a count of members gives (R102). -/
def modeOf (members : Nat) : Nat :=
  if popCount 3 members = 3 then 0 else if popCount 3 members = 2 then 1 else 2

/-- Set the member mask, and the mode it gives unless the lanes are in SAFE (R102, R103). A first membership leaves
the mode of reset behind. -/
def LaneSt.setMembers (l : LaneSt) (m : Nat) : LaneSt :=
  let stay := l.mode = 3 ∧ l.members ≠ 0
  let l := l.wr VOTE.STATUS.MEMBERS m
  if stay then l else l.wr VOTE.STATUS.MODE (modeOf m)

/-- End every online proof of the lane with result ABORTED (R391). -/
def LaneSt.abortProofs (l : LaneSt) : LaneSt :=
  let l := (List.range 6).foldl (fun l c =>
    if (l.bist.active.getD c none).isSome then
      ((l.wr (BIST.CLS_STATUS.RESULT (c + 1)) 3).satInc 18 BIST.COUNTS.ABORTED).raise 14 0
    else l) l
  let l := (l.wr BIST.STATUS.ACTIVE 0).wr BIST.STATUS.SRAM_MIRROR 0
  { l with bist := { l.bist with active := Vector.replicate 6 none } }

/-- Note an exclusion of lane `k` with a cause in its lane block (R117). -/
def LaneSt.noteExclusion (l : LaneSt) (k : LaneId) (cause : Nat) : LaneSt :=
  l.setBlk k (fun b => { b with cause := cause, time := l.time.now, count := min 0xFFFF (b.count + 1) })

/-- The safe state of an excluded lane: windings, AUX legs, safety outputs, ALIVE; for a fatal fault the force-safe
lines put every leg of both dies in its force-safe state and the choppers off (R106, R243, R374). In SAFE the windings and
outputs stay as K5 sets them (R103), and only the force-safe lines of a fatal fault act on them. -/
def LaneSt.laneSafe (l : LaneSt) (fatal : Bool) : LaneSt :=
  let l := (if l.inSafe then l else l.allSafe.auxOff.outputsOff).wr FLT.STATUS.ALIVE_RUN 0
  if fatal then ((l.wr GATE.DIE_STATUS.FORCE 3).dieSafe 0).dieSafe 1 else l

/-- EXCL_CAUSE codes (R117). -/
def causeSelfFatal : Nat := 1
def causeSelfAttributed : Nat := 2
def causePeerAlive : Nat := 3
def causePeerDisagree : Nat := 4
def causePeerFolio : Nat := 5
def causePeerTime : Nat := 6
def causePairLink : Nat := 7
def causePeerVoter : Nat := 8
def causeSelfRequest : Nat := 9
def causeHostReset : Nat := 10
def causeReadmitFailed : Nat := 11

/-- Where readmission stands after an exclusion (R108). -/
def LaneSt.readmitStart (l : LaneSt) : Readmit := if l.on VOTE.READMIT.AUTO then .waitRejoin else .waitClear

/-- The lane leaves the membership with a cause (R102, R104, R113): from MEMBER it becomes EXCLUDED, or DEAD when its
readmissions are used up; from SHADOW it returns to EXCLUDED; a lane EXCLUDED or DEAD stays as it is, and so does every lane
in SAFE (R103). -/
def LaneSt.exclude (l : LaneSt) (cause : Nat) : LaneSt :=
  if l.self = selfExcluded ∨ l.self = selfDead ∨ l.inSafe then l
  else
    let shadow := decide (l.self = selfShadow)
    let dead := l.self = selfMember ∧ cause ≠ causeHostReset ∧
      (l.blkOf l.id).readmits = l.rd VOTE.READMIT.MAX
    let l := l.wr VOTE.STATUS.SELF (if dead then selfDead else selfExcluded)
    let l := (l.setMembers (setBit l.members l.id.num false)).wr VOTE.STATUS.CAUSE cause
    let l := (l.noteExclusion l.id cause).laneSafe (cause = causeSelfFatal)
    let l := l.abortProofs.wr HIF.STATUS.LEAD 0
    { l with vote := { l.vote with
        readmit := if dead then .none else if shadow then .proofWait else l.readmitStart, transferFails := 0, exclReq := 0, attrSelf := false } }

/-! ## Fault events -/

/-- The frisket field of an event: FRISKET_AUX for GATE switch events on AUX and CHOPPER legs, FRISKET_b_w otherwise
(R381, R382). -/
def LaneSt.friskF (l : LaneSt) (code source : Nat) : Field :=
  if 0x182 ≤ code ∧ code ≤ 0x186 ∧ l.rd (GATE.LEG_CTRL.USE (source / 2)) ≠ 1 then
    ⟨0x500C, 4 * (code - 0x180), 3⟩
  else ⟨0x5040 + 16 * (code / 32) + 4 * (code % 32 / 8), 4 * (code % 8), 3⟩

/-- The reaction to an event: its frisket field, its default where the field is fixed or holds a reserved value
(R370, R371). -/
def LaneSt.reaction (l : LaneSt) (code source : Nat) : Nat :=
  if faultDefault code = 4 then 4
  else
    let v := l.rd (l.friskF code source)
    if 4 < v then faultDefault code else v

/-- The channels that an event's source index maps to (R371), as a mask. -/
def LaneSt.faultChannels (l : LaneSt) (code source : Nat) : Nat :=
  let b := code / 32
  if b = 8 then if source < 8 then 2 ^ source else 0
  else if b = 9 then 2 ^ (source / 2 % 8)
  else if b = 10 then
    if code = 0x14A ∨ code = 0x14B then 0
    else maskOf 8 (fun n => l.rd (COMM.SRC.PORT_P n) = source || l.rd (COMM.SRC.PORT_S n) = source)
  else if b = 11 then
    if (code = 0x164 ∨ code = 0x165) ∧ source < 48 then 2 ^ (source % 24 / 3) else 0
  else if b = 12 then
    if 0x182 ≤ code ∧ code ≤ 0x186 ∨ code = 0x189 then if source / 2 < 24 then 2 ^ (source / 6) else 0
    else if code = 0x187 ∨ code = 0x188 then 2 ^ (source % 8) else 0
  else 0

/-- The 72-bit history entry of an event (R367). -/
def LaneSt.entry (l : LaneSt) (code source reaction : Nat) : Nat :=
  let ns := stampNs l.t32 l.ns
  (ns - ns % 10) + 2 ^ 32 * (stampS l.t32 l.ns % 2 ^ 16) + 2 ^ 48 * b2n l.t32 + 2 ^ 49 * faultClass code
    + 2 ^ 51 * reaction + 2 ^ 54 * code + 2 ^ 64 * (source % 2 ^ 8)

/-- Write an event into its block's history queue: slot k mod 8, its number k, TOTAL one up (R367). -/
def LaneSt.history (l : LaneSt) (code e : Nat) : LaneSt :=
  let b := code / 32
  let k := l.rd (FLT.TOTAL.COUNT b)
  let l := (l.wr (FLT.HIST_LO.ENTRY b (k % 8)) (e % 2 ^ 64)).wr (FLT.HIST_HI.SOURCE b (k % 8)) (e / 2 ^ 64)
  (l.wr (FLT.HIST_NUM.NUMBER b (k % 8)) k).inc (FLT.TOTAL.COUNT b)

/-- The tallies of the fault summaries (R379). -/
def LaneSt.tally (l : LaneSt) (code e : Nat) : LaneSt :=
  let c := faultClass code
  let b := code / 32
  { l with flt := { l.flt with
      corrected := if c = 1 then (l.flt.corrected + 1) % 2 ^ 32 else l.flt.corrected,
      contained := if c = 2 then (l.flt.contained + 1) % 2 ^ 32 else l.flt.contained,
      fatal := if c = 3 then (l.flt.fatal + 1) % 2 ^ 8 else l.flt.fatal,
      lastContained := if c = 2 then e else l.flt.lastContained,
      lastFatal := if c = 3 then e else l.flt.lastFatal,
      worst := l.flt.worst.setIfInBounds b (max c (l.flt.worst.getD b 0)) } }

/-- The first-error latch of a block in compatibility mode (R376). -/
def LaneSt.firstError (l : LaneSt) (code source e : Nat) : LaneSt :=
  let b := code / 32
  if !l.on FLT.CTRL.COMPAT then l
  else if l.on (FLT.FIRST.VALID b) then l.wr (FLT.FIRST.OVERFLOW b) 1
  else
    let l := (l.wr (FLT.FIRST.CODE b) code).wr (FLT.FIRST.CLASS b) (faultClass code)
    let l := (l.wr (FLT.FIRST.SOURCE b) source).wr (FLT.FIRST.VALID b) 1
    (l.wr (FLT.FIRST.T32 b) (e / 2 ^ 48 % 2)).wr (FLT.FIRST_NS.NS b) (e % 2 ^ 32)

/-- Whether the event raises its class source: a reaction other than NONE, and not a later corrected or contained
event behind a valid first-error latch (R349, R376). -/
def LaneSt.raisesSource (l : LaneSt) (code reaction : Nat) : Bool :=
  reaction != 0 && !(l.on FLT.CTRL.COMPAT && l.on (FLT.FIRST.VALID (code / 32)) && faultClass code != 3)

/-- A fault reaction on channel `n` takes over a shutdown that runs: it counts as started by the fault, and the pending
enables complete ABORTED with outcome CANCELLED_BY_FAULT (R32). -/
def LaneSt.faultTakes (l : LaneSt) (n : Nat) : LaneSt :=
  let c := l.comm.getD n .reset
  if l.rd (COMM.STATUS.STATE n) ≠ 4 then l
  else
    let l := c.enables.foldl (fun l d => l.complete d stAborted (outcomeDetail 5 (c.enables.length - 1)) 0) l
    { l with comm := l.comm.setIfInBounds n { c with byFault := true, enables := [], deferred := false } }

/-- CHANNEL_SAFE on a mask of channels: the windings safe at once; every member moves the channels to FAULTED at the
boundary that follows (R370, R372). -/
def LaneSt.channelSafe (l : LaneSt) (mask code source : Nat) : LaneSt :=
  let l := (List.range 8).foldl (fun l n => if bit mask n then l.windingSafe n else l) l
  let l := if l.isMember then (List.range 8).foldl (fun l n => if bit mask n then l.faultTakes n else l) l else l
  let l := l.satInc 17 FLT.COUNTS.REACT_SAFE
  let next := if l.isMember then l.flt.faultNext ||| mask else l.flt.faultNext
  { l with flt := { l.flt with
      reactSafe := (l.flt.reactSafe + 1) % 2 ^ 16, faultNext := next, faultAt := l.time.now,
      source := (Vector.ofFn fun n : Fin 8 => if bit mask n.val then some (code, source) else l.flt.source.get n) } }

/-- EXCL_REQ: the lane excludes itself, with cause PEER_TIME for TIME_DIFF (R370). -/
def LaneSt.exclReqReaction (l : LaneSt) (code : Nat) : LaneSt :=
  let l := l.satInc 17 FLT.COUNTS.REACT_EXCL
  let l := { l with flt := { l.flt with reactExcl := (l.flt.reactExcl + 1) % 2 ^ 16 } }
  l.exclude (if code = 0x066 then causePeerTime else causeSelfRequest)

/-- LANE_FATAL: FATAL latched with the first code, the lane excluded and forced safe, its records sent before, then
silent on Doxel (R374). -/
def LaneSt.laneFatal (l : LaneSt) (code source : Nat) : LaneSt :=
  let l := if l.on FLT.STATUS.FATAL then l
    else ((l.wr FLT.STATUS.FATAL 1).wr FLT.STATUS.FATAL_CODE code).wr FLT.STATUS.FATAL_SOURCE source
  let l := (l.exclude causeSelfFatal).laneSafe true
  { l with flt := { l.flt with transmits := false } }

/-- The class of regions whose source index an event carries: SRAM banks, converter cores, ports, switches (R381, R388). -/
def eventClass (code : Nat) : Option Nat :=
  if code = 0x022 ∨ code = 0x023 then some 2
  else if code = 0x166 then some 4
  else if 0x142 ≤ code ∧ code ≤ 0x149 then some 5
  else if (0x182 ≤ code ∧ code ≤ 0x186) ∨ code = 0x189 then some 6
  else none

/-- A fault event of a region under proof fails that proof (R391). -/
def LaneSt.spoilProof (l : LaneSt) (code source : Nat) : LaneSt :=
  match eventClass code with
  | none => l
  | some c =>
    if l.bist.active.getD (c - 1) none = some source
    then { l with bist := { l.bist with spoiled := l.bist.spoiled.setIfInBounds (c - 1) true } } else l

/-- An event of block code / 32 with its source index, as the detecting block acts on it: history entry, tallies,
first-error latch, interrupt sources (that of its class, and source 5 or 6 of a channel's group for FBK and switch events,
R348), FLT_EVENT record, reaction (R367 to R376). The frisket of VOTE events 0x043 to
0x046 sets only the interrupt (R381). -/
def LaneSt.fault (l : LaneSt) (code source : Nat) : LaneSt :=
  let l := l.spoilProof code source
  let r := l.reaction code source
  let e := l.entry code source r
  let src := l.raisesSource code r
  let l := ((l.history code e).tally code e).firstError code source e
  let l := if src then l.raise (16 + 3 * (faultClass code - 1) + code / 32 / 8) (code / 32 % 8) else l
  let chans := l.faultChannels code source
  let also (l : LaneSt) (s : Nat) : LaneSt :=
    (List.range 8).foldl (fun l n => if bit chans n then l.raise (6 + n) s else l) l
  let l := if code / 32 = 10 then also l 5 else if 0x182 ≤ code ∧ code ≤ 0x186 then also l 6 else l
  let l := if r = 0 then l
    else l.send 0x19 0 [e % 2 ^ 64, e / 2 ^ 64 + 2 ^ 32 * l.rd (FLT.TOTAL.COUNT (code / 32))]
  if 0x043 ≤ code ∧ code ≤ 0x046 then l
  else if r = 2 then l.channelSafe (l.faultChannels code source) code source
  else if r = 3 then l.exclReqReaction code
  else if r = 4 then l.laneFatal code source
  else l

/-- A spare is taken into use: SPARE_IN_USE with its region class, and source 1 of group 14 (R394). -/
def LaneSt.spareUsed (l : LaneSt) (cls : Nat) : LaneSt := (l.fault 0x243 cls).raise 14 1

/-- UNPROVED of a region class (R389, R394). -/
def LaneSt.setUnproved (l : LaneSt) (cls : Nat) (b : Bool) : LaneSt :=
  l.wr BIST.STATUS.UNPROVED (setBit (l.rd BIST.STATUS.UNPROVED) (cls - 1) b)

/-- Work of one period of a background activity done: with `total` of it the period is complete (R419, R430). -/
def LaneSt.bgWork (l : LaneSt) (a total : Nat) : LaneSt :=
  let w := l.mem.work.getD a 0 + 1
  let done : Bool := decide (total ≤ w)
  let l : LaneSt := { l with mem := { l.mem with
    work := l.mem.work.setIfInBounds a (if done then 0 else w), bgDone := if done then setBit l.mem.bgDone a true else l.mem.bgDone } }
  if !done then l
  else
    let l := (l.satInc 1 (MEM.BG.PERIODS a)).wr MEM.STATUS.LAG (setBit (l.rd MEM.STATUS.LAG) a false)
    l.wr MEM.STATUS.STARVED (setBit (l.rd MEM.STATUS.STARVED) a false)

end Sys2Proof.Machine
end

