-- ==== Sys2Proof/Machine/Operands.lean ====
section
/-!
DEFINITION. The operand forms of descriptors: their 64 bytes decoded into what they ask for (R47 to R49), and the form
checks in the order of R50: opcode, reserved bits, field ranges, SEQ.
-/

namespace Sys2Proof.Machine

open Sys2Proof

/-- OPCODE of a descriptor. -/
def descOpcode (b : List Byte) : Nat := leAt b 0 1
/-- TAG of a descriptor. -/
def descTag (b : List Byte) : Nat := leAt b 4 4
/-- SEQ of a descriptor. -/
def descSeq (b : List Byte) : Nat := leAt b 8 4
/-- SESSION of a descriptor. -/
def descSession (b : List Byte) : Nat := leAt b 12 4
/-- IRQ of a descriptor. -/
def descIrq (b : List Byte) : Bool := bit (leAt b 1 1) 0
/-- FENCE of a descriptor. -/
def descFence (b : List Byte) : Bool := bit (leAt b 1 1) 1

/-- Byte ranges of a payload with the bits of each byte that are in use: (first byte, last byte, mask) (R49). -/
def usedPayload : Nat → List (Nat × Nat × Nat)
  | 0x01 => [(16, 16, 0x07), (17, 17, 0xFF), (18, 18, 0x01), (24, 41, 0xFF)]
  | 0x02 => [(16, 16, 0x07), (17, 17, 0x1F), (18, 18, 0x01), (24, 53, 0xFF)]
  | 0x03 => [(16, 16, 0x07), (17, 17, 0xFF)]
  | 0x10 => [(16, 35, 0xFF)]
  | 0x11 => [(16, 25, 0xFF), (28, 35, 0xFF)]
  | 0x12 => [(16, 21, 0xFF)]
  | 0x20 => [(16, 16, 0x07), (17, 18, 0xFF), (20, 27, 0xFF)]
  | 0x21 => [(16, 16, 0x07), (17, 17, 0xFF), (18, 18, 0x07), (24, 31, 0xFF)]
  | 0x22 => [(16, 17, 0xFF), (18, 18, 0x07)]
  | 0x30 => [(16, 16, 0xFF), (17, 17, 0x01), (20, 39, 0xFF)]
  | 0x31 => [(16, 16, 0xFF), (17, 17, 0x01), (20, 39, 0xFF)]
  | 0x32 => [(16, 48, 0xFF), (56, 63, 0xFF)]
  | 0x33 => [(16, 16, 0x07), (24, 35, 0xFF)]
  | 0x40 => [(16, 17, 0xFF), (18, 18, 0x07)]
  | 0x41 => [(16, 16, 0x07), (17, 17, 0x01)]
  | _ => []

/-- The bits of byte `i` of a descriptor that are in use. -/
def usedMask (op i : Nat) : Nat :=
  if i = 1 then 0x03
  else if i = 2 ∨ i = 3 then 0
  else if i < 16 then 0xFF
  else ((usedPayload op).find? (fun r => r.1 ≤ i && i ≤ r.2.1)).elim 0 (·.2.2)

/-- The first byte with a non-zero reserved bit. -/
def firstReserved (b : List Byte) : Option Nat :=
  (List.range 64).find? (fun i => leAt b i 1 &&& (0xFF - usedMask (descOpcode b) i) != 0)

/-- The defined opcodes (R48). -/
def opcodes : List Nat :=
  [0x00, 0x01, 0x02, 0x03, 0x10, 0x11, 0x12, 0x20, 0x21, 0x22, 0x30, 0x31, 0x32, 0x33, 0x40, 0x41]

/-- Nanoseconds of a TIME80 field in range (R11). -/
def time80Ok (b : List Byte) (off : Nat) : Bool := leAt b (off + 6) 4 < 10 ^ 9

/-- A length from 8 to 4,096 and a multiple of 8 (R49). -/
def lengthOk (n : Nat) : Bool := 8 ≤ n && n ≤ 4096 && n % 8 = 0

/-- The field ranges of R49 by opcode: (in range, byte offset of the field). -/
def fieldChecks (b : List Byte) : List (Bool × Nat) :=
  let u := leAt b
  match descOpcode b with
  | 0x01 => [(u 17 1 ≤ 2, 17), (!bit (u 18 1) 0 || time80Ok b 32, 32)]
  | 0x02 => [(!bit (u 18 1) 0 || time80Ok b 44, 44)]
  | 0x03 => [(u 17 1 ≤ 2, 17)]
  | 0x10 => [(u 16 4 % 8 = 0 && u 16 4 + u 20 4 ≤ 65536, 16), (lengthOk (u 20 4), 20), (u 24 8 % 8 = 0, 24)]
  | 0x11 => [(time80Ok b 16, 16), (u 28 4 ≤ 65536, 28)]
  | 0x12 => [(u 16 4 < 0x100000 && u 16 4 % (if u 20 1 = 1 then 8 else 4) = 0, 16), (u 20 1 ≤ 1, 20), (u 21 1 ≤ 3, 21)]
  | 0x20 => [(u 17 1 ≤ 127, 17)]
  | 0x21 => [(u 17 1 ≤ 1, 17), (u 24 8 % 8 = 0, 24)]
  | 0x30 => [(u 16 1 ≤ 2, 16), (u 20 4 % 8 = 0, 20), (lengthOk (u 24 4), 24), (u 28 8 % 8 = 0, 28)]
  | 0x31 => [(u 16 1 ≤ 2, 16), (u 20 4 ≤ 4095, 20), (1 ≤ u 24 4 && u 24 4 ≤ 4096, 24), (u 28 8 % 8 = 0, 28)]
  | 0x32 => [(u 48 1 ≤ 2, 48), (u 56 8 % 8 = 0, 56)]
  | 0x33 => [(u 24 8 % 8 = 0, 24), (lengthOk (u 32 4), 32)]
  | 0x40 =>
    [(u 16 1 ≤ 2, 16),
     ((u 16 1 = 0 && u 17 1 ≤ 7) || (u 16 1 = 1 && (u 17 1 ≤ 15 || (0x80 ≤ u 17 1 && u 17 1 ≤ 0x87)))
        || (u 16 1 = 2 && u 17 1 ≤ 3), 17),
     (u 16 1 ≠ 2 || u 18 1 = 0, 18)]
  | _ => []

/-- The first field out of range. -/
def firstBad (l : List (Bool × Nat)) : Option Nat := (l.find? (fun x => !x.1)).map (·.2)

/-- The payload of a well-formed descriptor decoded (R49). -/
def decodeOp (b : List Byte) : DescOp :=
  let u := leAt b
  match descOpcode b with
  | 0x01 => .setpoint (u 16 1) (u 17 1) (bit (u 18 1) 0) (toSigned 64 (u 24 8)) (u 32 6) (u 38 4)
  | 0x02 => .limits (u 16 1) (u 17 1) (bit (u 18 1) 0) (u 24 4) (u 28 4) (u 32 4) (u 36 4) (u 40 4) (u 44 6) (u 50 4)
  | 0x03 => .channelMode (u 16 1) (u 17 1)
  | 0x10 => .configStage (u 16 4) (u 20 4) (u 24 8) (u 32 4)
  | 0x11 => .configCommit (u 16 6) (u 22 4) (u 28 4) (u 32 4)
  | 0x12 => .paramRead (u 16 4) (u 20 1) (u 21 1)
  | 0x20 => .autotune (u 16 1) (u 17 1) (u 18 1) (toSigned 32 (u 20 4)) (u 24 4)
  | 0x21 => .diag (u 16 1) (u 17 1) (u 18 1) (u 24 8)
  | 0x22 => .proofReq (u 16 1) (u 17 1) (u 18 1)
  | 0x30 => .fwStage (u 16 1) (bit (u 17 1) 0) (u 20 4) (u 24 4) (u 28 8) (u 36 4)
  | 0x31 => .logRead (u 16 1) (bit (u 17 1) 0) (u 20 4) (u 24 4) (u 28 8) (u 36 4)
  | 0x32 => .attest (sliceBytes b 16 32) (u 48 1) (u 56 8)
  | 0x33 => .fleetKey (u 16 1) (u 24 8) (u 32 4)
  | 0x40 => .safeReset (u 16 1) (u 17 1) (u 18 1)
  | 0x41 => .laneClear (u 16 1) (bit (u 17 1) 0)
  | _ => .nop

/-- The form checks of R50 step 2 in their order: what the descriptor asks for, or the reason code and argument of its
REJECTED completion (R54). -/
def parseDesc (seq : Nat) (b : List Byte) : DescOp ⊕ (Nat × Nat) :=
  if !(opcodes.contains (descOpcode b)) then .inr (0x01, 0)
  else match firstReserved b with
  | some i => .inr (0x03, i)
  | none =>
    match firstBad (fieldChecks b) with
    | some i => .inr (0x02, i)
    | none => if descSeq b ≠ seq then .inr (0x04, descSeq b % 2 ^ 16) else .inl (decodeOp b)

/-- The decided descriptor of a galley slot, with its verdict after the form checks. -/
def decided (sg seq : Nat) (b : List Byte) (agree : Nat) (single : Bool) : Decided :=
  { sg := sg, seq := seq, found := descSeq b, tag := descTag b, opcode := descOpcode b, irq := descIrq b, fence := descFence b,
    session := descSession b, agree := agree, single := single, instant := none,
    verdict := match parseDesc seq b with
      | .inl op => .execute op
      | .inr (code, arg) => .complete stRejected (reasonDetail code arg) }

end Sys2Proof.Machine
end

