-- ==== Sys2Proof/Machine/Irq.lean ====
section
/-!
DEFINITION. The interrupt controller: bank registers, delivery, mirrors in the other lanes, hand-over (chapter 14).
-/

namespace Sys2Proof.Machine

open Sys2Proof

/-! ## Delivery -/

/-- The stage bits of the banks: IN_SERVICE for ENTRY and SERVICE, LEADING (R365). -/
def LaneSt.setStage (l : LaneSt) (g : Nat) (st : IrqStage) : LaneSt :=
  let b := l.bank g
  let serving := st = .entry ∨ st = .paused ∨ st = .service ∨ st = .exiting
  let l := l.setGroup g (fun v => { v with stage := st })
  let l := l.wr (IRQ.IN_SERVICE.GROUPS b) (setBit (l.rd (IRQ.IN_SERVICE.GROUPS b)) g serving)
  l.wr (IRQ.LEADING.GROUPS b) (setBit (l.rd (IRQ.LEADING.GROUPS b)) g (decide (st = .leading)))

/-- Whether group `g` is ready to be entered: IDLE with an unmasked pending source, deliveries enabled (R354). -/
def LaneSt.groupReady (l : LaneSt) (g : Nat) : Bool :=
  l.on IRQ.CTRL.EN && !groupReserved g && (l.group g).stage = .idle
    && (l.rd (irqCauseF (l.bank g) g) &&& (0xFF - l.rd (irqMaskF (l.bank g) g)) != 0)

/-- Whether a fast entry is pending or running. -/
def LaneSt.fastBusy (l : LaneSt) : Bool :=
  (List.range 32).any (fun g => l.bank g = 1 && (l.groupReady g || (l.group g).stage = .entry))

/-- EXIT ends: IN_SERVICE and SNAP cleared, leading starts, or the group is IDLE at once with LEADING = 0 (R354). -/
def LaneSt.irqLead (l : LaneSt) (g : Nat) : LaneSt :=
  let l := (l.wr (irqSnapF (l.bank g) g) 0).setGroup g (fun v => { v with leadAt := l.run })
  l.setStage g (if l.rd (IRQ.GCFG.LEADING g) = 0 then .idle else .leading)

/-- A delivery in SERVICE ends (R354, R357); a normal group waits for a fast entry that is pending or running
(R360). -/
def LaneSt.irqExit (l : LaneSt) (g : Nat) : LaneSt :=
  if l.bank g = 0 ∧ l.fastBusy then l.setStage g .exiting else l.irqLead g

/-- The exits that waited for the last fast entry. -/
def LaneSt.releaseExits (l : LaneSt) : LaneSt :=
  if l.fastBusy then l
  else (List.range 32).foldl (fun l g => if (l.group g).stage = .exiting then l.irqLead g else l) l

/-- The snapshot of a group: SNAP = CAUSE ∧ ¬MASK, those bits cleared in CAUSE, DSEQ up, IRQ_DELIVER sent (R354,
R356). -/
def LaneSt.snapshot (l : LaneSt) (g : Nat) : LaneSt :=
  let b := l.bank g
  let cause := l.rd (irqCauseF b g)
  let snap := cause &&& (0xFF - l.rd (irqMaskF b g))
  let l := (l.wr (irqSnapF b g) snap).wr (irqCauseF b g) (cause - snap)
  let l := (l.setStage g .entry).setGroup g (fun v => { v with
    issued := false, dseq := (v.dseq + 1) % 2 ^ 32, snapSoft := v.soft &&& snap != 0, soft := v.soft - (v.soft &&& snap),
    snapOrigin := (v.origin &&& maskOf 24 (fun i => bit snap (i / 3)), v.merged),
    origin := v.origin - (v.origin &&& maskOf 24 (fun i => bit snap (i / 3))), merged := 0,
    preempted := false, underMask := false, stamp := l.stamp64 })
  l.send 0x17 (g + 2 ^ 5 * snap) [(l.group g).dseq]

/-- The cause record of a group in bytes 0 to 27 and 28 to 31 (R356). -/
def LaneSt.causeRecord (l : LaneSt) (g : Nat) (redelivered : Bool) :
    List (Nat × Nat × Nat) × List (Nat × Nat × Nat) :=
  let v := l.group g
  let b := l.bank g
  ([(0, 4, v.dseq), (4, 1, g + 2 ^ 5 * b), (5, 1, l.rd (IRQ.GCFG.VEC g)), (6, 1, l.rd (irqSnapF b g)),
    (7, 1, l.rd (irqMaskF b g)), (8, 3, v.snapOrigin.1), (11, 1, l.id.num), (12, 2, v.snapOrigin.2),
    (16, 8, v.stamp)],
   [(0, 2, v.dseq % 2 ^ 16),
    (2, 1, b2n v.underMask + 2 * b2n v.preempted + 4 * b2n redelivered + 8 * b2n v.snapSoft)])

/-- The address of a group's cause record (R356). -/
def LaneSt.recordAt (l : LaneSt) (g : Nat) : Nat := l.addr (IRQ.CAUSE_BASE.off) (IRQ.CAUSE_BASE_HI.off) + 32 * g

/-- Second stage of an entry: the posted write of bytes 0 to 27, with the mask byte now in force (R355, R356). -/
def LaneSt.postHead (l : LaneSt) (g : Nat) : LaneSt :=
  (l.post (l.recordAt g) 28 (l.causeRecord g false).1).setGroup g (fun v => { v with issued := true })

/-- The final unit's writes, counted: bytes 28 to 31 with FLAGS as they now stand, then the message (R355, R359). -/
def LaneSt.postFinal (l : LaneSt) (g : Nat) (redelivered : Bool) : LaneSt :=
  let b := l.bank g
  let l := ((l.post (l.recordAt g + 28) 4 (l.causeRecord g redelivered).2).msix (l.rd (IRQ.GCFG.VEC g))).inc (IRQ.DELIVERIES.COUNT b)
  if (l.group g).underMask then l.satInc 14 (IRQ.EVENTS.UNDER_MASK b) else l

/-- Group `g` is the one of its class delivered last (R360). -/
def LaneSt.noteLast (l : LaneSt) (g : Nat) : LaneSt :=
  { l with irq := { l.irq with
      lastNormal := if l.bank g = 0 then g else l.irq.lastNormal, lastFast := if l.bank g = 1 then g else l.irq.lastFast } }

/-- The final unit of a group in ENTRY: record and message issued, the group in SERVICE (R354, R355). -/
def LaneSt.finalUnit (l : LaneSt) (g : Nat) : LaneSt :=
  let b := l.bank g
  let l := (l.postFinal g false).setStage g .service
  let l := l.noteLast g
  if b = 1 then l.releaseExits else l

/-- The next group of a class in round robin order, after the one delivered last (R360). -/
def LaneSt.nextGroup (l : LaneSt) (b : Nat) : Option Nat :=
  let last := if b = 1 then l.irq.lastFast else l.irq.lastNormal
  ((List.range 32).map (fun i => (last + 1 + i) % 32)).find? (fun g => l.bank g = b && l.groupReady g)

/-- A group of class `b` in ENTRY. -/
def LaneSt.inEntry (l : LaneSt) (b : Nat) : Option Nat :=
  (List.range 32).find? (fun g => l.bank g = b && (l.group g).stage = .entry)

/-- An entry in flight goes on: bytes 0 to 27 if they are not issued yet, then the final unit; `split` issues one of the
two only (R355). -/
def LaneSt.entryStep (l : LaneSt) (g : Nat) (split : Bool) : LaneSt :=
  if (l.group g).issued then l.finalUnit g
  else if split then l.postHead g
  else (l.postHead g).finalUnit g

/-- An entry starts with its snapshot; with `split` it stays in flight (R354, R355). -/
def LaneSt.entryStart (l : LaneSt) (g : Nat) (split : Bool) : LaneSt :=
  if split then l.snapshot g else (l.snapshot g).entryStep g false

/-- IRQ_ENTRY: the lead's delivery engine takes its next step (R354, R355, R360). A fast entry comes first, and pauses
a normal one in flight, whose record then shows PREEMPTED. With `split` it takes one stage only: snapshot, bytes 0 to 27,
final unit. -/
def LaneSt.irqEntry (l : LaneSt) (split : Bool) : LaneSt :=
  if !l.isLead then l
  else match l.inEntry 1 with
  | some g => l.entryStep g split
  | none =>
    match l.nextGroup 1 with
    | some g =>
      let l := match l.inEntry 0 with
        | some n => (l.setGroup n (fun v => { v with preempted := true })).satInc 14 (IRQ.EVENTS.PREEMPTED 0)
        | none => l
      l.entryStart g split
    | none =>
      match l.inEntry 0 with
      | some g => l.entryStep g split
      | none =>
        match l.nextGroup 0 with
        | some g => l.entryStart g split
        | none => l

def execIrqEntry (l : LaneId) (split : Bool) (s : State) : Host.Outcome State Fault Refusal :=
  onLane l (fun x => x.irqEntry split) s

/-- LEADING µs have passed since the exit of a group (R354). -/
def LaneSt.leadingOver (l : LaneSt) (g : Nat) : Bool :=
  decide ((l.group g).leadAt + 1000 * l.rd (IRQ.GCFG.LEADING g) ≤ l.run)

/-- IRQ_LEADING_END: the hold-off of a group elapses (R354). -/
def execIrqLeadingEnd (l : LaneId) (group : Fin 32) (s : State) : Host.Outcome State Fault Refusal :=
  onLane l (fun x => if (x.group group.val).stage = .leading ∧ x.leadingOver group.val = true then x.setStage group.val .idle else x) s

/-- MSIX_RELEASE: a message held for a vector whose messages are allowed is sent and its pending bit cleared (R358). -/
def LaneSt.msixRelease (l : LaneSt) (vec : Nat) : LaneSt :=
  if bit l.hif.msixPending vec && bit l.hif.msixAllowed vec then
    ({ l with hif := { l.hif with msixPending := setBit l.hif.msixPending vec false } } : LaneSt).msix vec
  else l

def execMsixRelease (l : LaneId) (vec : Fin 64) (s : State) : Host.Outcome State Fault Refusal :=
  onLane l (fun x => x.msixRelease vec.val) s

/-! ## Bank writes -/

/-- The groups of word `k` of a bank that belong to its class and are not reserved, as a mask of whole bytes. -/
def LaneSt.bankBytes (l : LaneSt) (b k : Nat) : Nat :=
  ((List.range 4).map (fun j =>
    if l.bank (4 * k + j) = b && !groupReserved (4 * k + j) then 0xFF * 2 ^ (8 * j) else 0)).sum

/-- Byte `j` of a word. -/
def byteOf (w j : Nat) : Nat := w / 2 ^ (8 * j) % 2 ^ 8

/-- MASK_k written (R363); a mask that covers a source in SNAP of a group in ENTRY marks its delivery (R359). -/
def LaneSt.maskApply (l : LaneSt) (b k v : Nat) : LaneSt :=
  (List.range 4).foldl (fun l j =>
    let g := 4 * k + j
    if l.bank g ≠ b ∨ groupReserved g then l
    else
      let l := l.wr (irqMaskF b g) (byteOf v j)
      if (l.group g).stage = .entry ∧ byteOf v j &&& l.rd (irqSnapF b g) ≠ 0
      then l.setGroup g (fun x => { x with underMask := true }) else l) l

/-- CAUSE_k written: 1 sets, 0 clears; a bit that changes from 0 to 1 counts as set by software (R363, R365). -/
def LaneSt.causeApply (l : LaneSt) (b k v : Nat) : LaneSt :=
  (List.range 4).foldl (fun l j =>
    let g := 4 * k + j
    if l.bank g ≠ b ∨ groupReserved g then l
    else
      let old := l.rd (irqCauseF b g)
      let new := byteOf v j
      (l.wr (irqCauseF b g) new).setGroup g (fun x => { x with soft := (x.soft &&& new) ||| (new - (new &&& old)) })) l

/-- RAISED_k written: 1 clears (R363). -/
def LaneSt.raisedApply (l : LaneSt) (b k v : Nat) : LaneSt :=
  (List.range 4).foldl (fun l j =>
    let g := 4 * k + j
    if l.bank g ≠ b ∨ groupReserved g then l
    else
      let old := l.rd (irqRaisedF b g)
      l.wr (irqRaisedF b g) (old - (old &&& byteOf v j))) l

/-- SWSET_k written: each source written 1 is raised as from software (R364). -/
def LaneSt.swsetApply (l : LaneSt) (b k v : Nat) : LaneSt :=
  (List.range 4).foldl (fun l j =>
    let g := 4 * k + j
    if l.bank g ≠ b ∨ groupReserved g ∨ byteOf v j = 0 then l
    else l.pend g (byteOf v j) (if groupLane g then 2 ^ l.id.num else l.members) true) l

/-- ACK written: bit g ends the delivery in SERVICE of group g (R357). -/
def LaneSt.ackApply (l : LaneSt) (b v : Nat) : LaneSt :=
  (List.range 32).foldl (fun l g =>
    if bit v g ∧ l.bank g = b ∧ (l.group g).stage = .service then l.irqExit g else l) l

/-- A runtime write of one bank word. -/
def LaneSt.bankWord (l : LaneSt) (b off v : Nat) : LaneSt :=
  if 0x20 ≤ off ∧ off < 0x40 then l.maskApply b ((off - 0x20) / 4) v
  else if 0x40 ≤ off ∧ off < 0x60 then l.causeApply b ((off - 0x40) / 4) v
  else if 0x60 ≤ off ∧ off < 0x80 then l.raisedApply b ((off - 0x60) / 4) v
  else if 0xA0 ≤ off ∧ off < 0xC0 then l.swsetApply b ((off - 0xA0) / 4) v
  else if off = 0xC0 then l.ackApply b v
  else l

/-- A runtime write of one bank word as every lane applies it; one that ends the last fast entry lets the waiting exits go
on (R360). -/
def LaneSt.bankApply (l : LaneSt) (b off v : Nat) : LaneSt := (l.bankWord b off v).releaseExits

/-- Writing 1 to STATUS.WRITE_REFUSED clears it in the lane written (R353). -/
def LaneSt.refusedClear (l : LaneSt) (b : Nat) (v : Word) : LaneSt :=
  if bit v.toNat 1 then l.wr (IRQ.STATUS.WRITE_REFUSED b) 0 else l

/-- A host write to a runtime register of bank `b` at bank offset `off` (R353): accepted in the lead, which applies it
and sends it to its peers; in another lane discarded, with STATUS.WRITE_REFUSED set. Writes to read-only and reserved
offsets are discarded. -/
def LaneSt.bankWrite (l : LaneSt) (b off : Nat) (v : Word) : LaneSt :=
  if off = 0 then l.refusedClear b v
  else if !((0x20 ≤ off && off < 0x80) || (0xA0 ≤ off && off ≤ 0xC0)) then l
  else if !l.isLead then l.wr (IRQ.STATUS.WRITE_REFUSED b) 1
  else (l.bankApply b off v.toNat).send 0x18 0 [off + 2 ^ 11 * b + 2 ^ 32 * v.toNat]

def execIrqMaskWrite (l : LaneId) (fast : Bool) (k : Fin 8) (value : Word) (s : State) :
    Host.Outcome State Fault Refusal := onBar l (fun x => x.bankWrite (b2n fast) (0x20 + 4 * k.val) value) s

def execIrqCauseWrite (l : LaneId) (fast : Bool) (k : Fin 8) (value : Word) (s : State) :
    Host.Outcome State Fault Refusal := onBar l (fun x => x.bankWrite (b2n fast) (0x40 + 4 * k.val) value) s

def execIrqRaisedClear (l : LaneId) (fast : Bool) (k : Fin 8) (value : Word) (s : State) :
    Host.Outcome State Fault Refusal := onBar l (fun x => x.bankWrite (b2n fast) (0x60 + 4 * k.val) value) s

def execIrqSwset (l : LaneId) (fast : Bool) (k : Fin 8) (value : Word) (s : State) :
    Host.Outcome State Fault Refusal := onBar l (fun x => x.bankWrite (b2n fast) (0xA0 + 4 * k.val) value) s

def execIrqAckWrite (l : LaneId) (fast : Bool) (value : Word) (s : State) : Host.Outcome State Fault Refusal :=
  onBar l (fun x => x.bankWrite (b2n fast) 0xC0 value) s

def execIrqWriteRefusedClear (l : LaneId) (fast : Bool) (value : Word) (s : State) :
    Host.Outcome State Fault Refusal := onBar l (fun x => x.refusedClear (b2n fast) value) s

/-! ## Mirrors -/

/-- IRQ_RAISE of a peer (R350). -/
def execIrqRaiseReceive (l : LaneId) (src : Arrival) (group : Fin 32) (sources : Byte) (raiser : LaneId) (s : State) :
    Host.Outcome State Fault Refusal :=
  onReceive l src (fun x =>
    x.pend group.val sources.toNat (if groupLane group.val then 2 ^ raiser.num else x.members) false) s

/-- IRQ_DELIVER of the lead: the mirror of an entry (R354, R362). -/
def LaneSt.mirrorEntry (l : LaneSt) (g snap dseq : Nat) : LaneSt :=
  let b := l.bank g
  let cause := l.rd (irqCauseF b g)
  let l := (l.wr (irqSnapF b g) snap).wr (irqCauseF b g) (cause - (cause &&& snap))
  let l := (l.setStage g .service).setGroup g (fun v => { v with
    issued := true, dseq := dseq, snapSoft := v.soft &&& snap != 0, soft := v.soft - (v.soft &&& snap),
    snapOrigin := (v.origin &&& maskOf 24 (fun i => bit snap (i / 3)), v.merged),
    origin := v.origin - (v.origin &&& maskOf 24 (fun i => bit snap (i / 3))), merged := 0,
    preempted := false, underMask := false, stamp := l.stamp64 })
  (l.noteLast g).releaseExits

def execIrqDeliverReceive (l : LaneId) (src : Arrival) (group : Fin 32) (snap : Byte) (dseq : Word) (s : State) :
    Host.Outcome State Fault Refusal :=
  onReceive l src (fun x => x.mirrorEntry group.val snap.toNat dseq.toNat) s

/-- IRQ_WRITE of the lead (R353). -/
def execIrqWriteReceive (l : LaneId) (src : Arrival) (fast : Bool) (off : Fin 2048) (value : Word) (s : State) :
    Host.Outcome State Fault Refusal :=
  onReceive l src (fun x => x.bankApply (b2n fast) off.val value.toNat) s

/-- A lane that is lead no more mirrors the entries it had in flight: its groups in ENTRY are in SERVICE (R354, R362). -/
def LaneSt.mirrorEntries (l : LaneSt) : LaneSt :=
  (List.range 32).foldl (fun l g => if (l.group g).stage = .entry then l.setStage g .service else l) l

/-- A new lead redelivers every group in ENTRY or SERVICE (R362). -/
def LaneSt.redeliver (l : LaneSt) : LaneSt :=
  (List.range 32).foldl (fun l g =>
    if (l.group g).stage = .entry ∨ (l.group g).stage = .service then
      let b := l.bank g
      let under := l.rd (irqMaskF b g) &&& l.rd (irqSnapF b g) != 0
      let l := l.setGroup g (fun v => { v with underMask := under, preempted := false })
      let l := ((l.postHead g).postFinal g true).satInc 14 (IRQ.EVENTS.REDELIVERED b)
      l.setStage g .service
    else l) l

end Sys2Proof.Machine
end

