-- ==== Sys2Proof/Machine/Xing.lean ====
section
/-!
DEFINITION. Island crossings: 72-bit words with check bits, crossing FIFOs of 8 words, the check of each word at the
receiving block, and the mailboxes of producers that do not wait (R16 to R20).
-/

namespace Sys2Proof.Machine

open Sys2Proof

/-! ## Words and their check (R16, R19) -/

/-- A word as its source sends it, with the bits that will be disturbed on the way. -/
def XWord.make (data : Dword) (flip : BitVec 72) : XWord := ⟨data, Config.checkBits data, flip⟩

/-- The payload words of `bs` as their source sends them: 8 bytes to a word, `flips` the disturbances of the first
words. -/
def xWords (bs : List Byte) (flips : List (BitVec 72)) : List XWord :=
  (List.range ((bs.length + 7) / 8)).map (fun i => XWord.make (BitVec.ofNat 64 (leAt bs (8 * i) 8)) (flips.getD i 0))

/-- How many bits of a word are disturbed. -/
def XWord.errors (w : XWord) : Nat := popCount 72 w.flip.toNat

/-- The receiving block `b` checks a word (R19): a single-bit error is corrected and reported as corrected fault
32 b; any other error discards the word and raises contained fault 32 b + 1. Which errors of more than one bit the check
bits find is not stated: the model finds them all (log entry 48). -/
def LaneSt.checkWord (l : LaneSt) (b : Nat) (w : XWord) : LaneSt × Option Dword :=
  if w.errors = 0 then (l, some w.data)
  else if w.errors = 1 then (l.fault (32 * b) 0, some w.data)
  else (l.fault (32 * b + 1) 0, none)

/-! ## Crossing FIFOs (R17) -/

/-- Change the crossings of a lane. -/
def LaneSt.setXing (l : LaneSt) (f : XingSt → XingSt) : LaneSt := { l with xing := f l.xing }

/-- A word enters the crossing FIFO into block `b`, or waits at its sender while the FIFO holds 8 words. -/
def LaneSt.crossPut (l : LaneSt) (b : Nat) (w : XWord) : LaneSt :=
  l.setXing (fun x =>
    if (x.fifo.getD b []).length < 8 then { x with fifo := x.fifo.setIfInBounds b (x.fifo.getD b [] ++ [w]) }
    else { x with waiting := x.waiting.setIfInBounds b (x.waiting.getD b [] ++ [w]) })

/-- The block takes the oldest word of its FIFO and checks it; the first waiting word takes the room. -/
def LaneSt.crossGet (l : LaneSt) (b : Nat) : LaneSt × Option Dword :=
  match l.xing.fifo.getD b [] with
  | [] => (l, none)
  | w :: rest =>
    let l := l.setXing (fun x => { x with
      fifo := x.fifo.setIfInBounds b (rest ++ (x.waiting.getD b []).take 1),
      waiting := x.waiting.setIfInBounds b ((x.waiting.getD b []).drop 1) })
    l.checkWord b w

/-- Words sent to block `b` and taken by it, in their order; a word that is discarded is none. -/
def LaneSt.cross (l : LaneSt) (b : Nat) (ws : List XWord) : LaneSt × List (Option Dword) :=
  let l := ws.foldl (fun l w => l.crossPut b w) l
  ws.foldl (fun (r : LaneSt × List (Option Dword)) _ => ((r.1.crossGet b).1, r.2 ++ [(r.1.crossGet b).2])) (l, [])

/-- The bytes that words carry, none where one of them was discarded. -/
def xBytes : List (Option Dword) → Option (List Byte)
  | [] => some []
  | none :: _ => none
  | some w :: ws => (xBytes ws).map (fun bs => toLe 8 w.toNat ++ bs)

/-- Bytes cross to block `b`: as they arrive, none where a word of them was discarded. -/
def LaneSt.crossBytes (l : LaneSt) (b : Nat) (bs : List Byte) (flips : List (BitVec 72)) : LaneSt × Option (List Byte) :=
  let r := l.cross b (xWords bs flips)
  (r.1, (xBytes r.2).map (fun x => x.take bs.length))

/-! ## Mailboxes (R18) -/

/-- A new value in a mailbox: one that was not read is counted as overwritten; the counter runs on from 65,535 to 0
(log entry 48). -/
def Mailbox.put (m : Mailbox) : Mailbox := { unread := true, overwritten := if m.unread then (m.overwritten + 1) % 2 ^ 16 else m.overwritten }

/-- The consumer reads the mailbox. -/
def Mailbox.take (m : Mailbox) : Mailbox := { m with unread := false }

/-- A converter result is put into its mailbox. -/
def LaneSt.mailAin (l : LaneSt) (i : Nat) (f : Mailbox → Mailbox) : LaneSt :=
  l.setXing (fun x => { x with ain := x.ain.setIfInBounds i (f (x.ain.getD i .reset)) })

/-- A feedback port value is put into its mailbox. -/
def LaneSt.mailPort (l : LaneSt) (p : Nat) (f : Mailbox → Mailbox) : LaneSt :=
  l.setXing (fun x => { x with port := x.port.setIfInBounds p (f (x.port.getD p .reset)) })

/-- A safety input sample is put into its mailbox. -/
def LaneSt.mailSi (l : LaneSt) (i : Nat) (f : Mailbox → Mailbox) : LaneSt :=
  l.setXing (fun x => { x with si := x.si.setIfInBounds i (f (x.si.getD i .reset)) })

/-- The AON island holds every crossing FIFO and mailbox in reset: words in flight are discarded (R20). -/
def LaneSt.crossReset (l : LaneSt) : LaneSt := { l with xing := .reset }

end Sys2Proof.Machine
end

