-- ==== Sys2Proof/Machine/Hif.lean ====
section
/-!
DEFINITION. The host interface: BAR0 accesses, doorbells, descriptor reads and their agreement, credits, completions,
the host link (chapter 02; R76 to R82 of chapter 03).
-/

namespace Sys2Proof.Machine

open Sys2Proof

/-! ## BAR0 -/

/-- Whether the quoin is set. -/
def LaneSt.sealed (l : LaneSt) : Bool := l.on HIF.STATUS.SEALED

/-- The setup registers that HIF.CTRL.EN locks (R63): DB_BASE, FOLIO_BASE, FOLIO_CTRL and every SG and CG register. -/
def lockedByEn (off : Nat) : Bool :=
  (0x3010 ≤ off && off ≤ 0x3023) || (0x3100 ≤ off && off < 0x3300)

/-- A write to an RWS register outside the rows of their own: discarded with LOCKED_WRITE where HIF.CTRL.EN locks it
(R63), discarded after the quoin (R31), otherwise applied to its RWS bits; reserved and RO bits are discarded (R8). -/
def LaneSt.setupWrite (l : LaneSt) (off : Nat) (v : Word) : LaneSt :=
  match regRow off with
  | none => l
  | some r =>
    if l.on HIF.CTRL.EN && lockedByEn off then l.fault 0x003 0
    else if l.sealed then l
    else
      let m := BitVec.ofNat 32 r.rws
      l.setWord off ((l.word off &&& ~~~m) ||| (v &&& m))

/-- Setting HIF.CTRL.EN from 0 to 1 clears every galley counter to 0 and starts over the galleys (R62). -/
def LaneSt.clearGalleys (l : LaneSt) : LaneSt :=
  let l := (List.range 16).foldl (fun l n => (l.wr (HIF.SG_CONSUMED.COUNT n) 0).wr (HIF.CG_WRITTEN.COUNT n) 0) l
  { l with hif := { l.hif with
      sgTail := Vector.replicate 16 0, fetched := Vector.replicate 16 0, cgHead := Vector.replicate 16 0,
      cgReserved := Vector.replicate 16 0, openD := [], reads := [], copies := [], exec := [], staged := [],
      written := [], peerWritten := Vector.replicate 16 0 } }

/-- The smallest POLL value of the trained link (R44): periods 2.5, 1.5, 1.0 and 0.5 µs. -/
def minPoll : Nat → Nat
  | 0 => 4
  | 1 => 2
  | 2 => 1
  | _ => 0

/-- The poll period in force (R44). -/
def LaneSt.setPoll (l : LaneSt) : LaneSt :=
  let p := l.rd HIF.CTRL.POLL
  let m := minPoll l.hif.link
  (l.wr HIF.STATUS.POLL_EFF (max p m)).wrB HIF.STATUS.POLL_CLAMPED (decide (p < m))

/-- A write of HIF.CTRL (R62): a rising EN clears the galley counters. -/
def LaneSt.ctrlWrite (l : LaneSt) (v : Word) : LaneSt :=
  if l.sealed then l
  else
    let rising := !l.on HIF.CTRL.EN && bit v.toNat 0
    let l := (l.setupWrite 0x3000 v).setPoll
    if rising then l.clearGalleys else l

/-- The registers that are lane-specific and outside the setup hash and the image (R65, R382, R448). -/
def laneSpecific (off : Nat) : Bool := off = 0x5000

/-- Every BAR0 word that holds RWS bits and is not lane-specific, in ascending order (R65). -/
def setupOffsets : List Nat :=
  (List.range (0x31000 / 4)).filterMap (fun i =>
    match regRow (4 * i) with
    | some r => if r.rws = 0 ∨ laneSpecific (4 * i) then none else some (4 * i)
    | none => none)

/-- The setup hash of a lane: SHA-512 over every RWS register that is not lane-specific (R65). -/
def LaneSt.setupHash (l : LaneSt) : Nat :=
  (sha512 (setupOffsets.flatMap (fun off => toLe 4 (l.word off).toNat))).toNat

/-- HIF.STATUS.SETUP_DIFFERS from the hashes held (R65). -/
def LaneSt.judgeSetup (l : LaneSt) : LaneSt :=
  if !l.sealed then l
  else
    let h := l.setupHash
    l.wrB HIF.STATUS.SETUP_DIFFERS
      (l.memberPeers.any (fun p => match (l.peer p).setupHash with
        | some x => x != h
        | none => false))

/-- A 32-bit write to a BAR0 word other than the quoin and the MACsec keys: HIF.CTRL and the IRQ banks have their own
effects. -/
def LaneSt.registerWrite (l : LaneSt) (off : Nat) (v : Word) : LaneSt :=
  if off = 0x3000 then l.ctrlWrite v
  else if 0x4000 ≤ off ∧ off < 0x5000 ∧ off % 0x800 < 0x400 then l.bankWrite (off % 0x1000 / 0x800) (off % 0x800) v
  else l.setupWrite off v

/-- Completions of completion galley `g` that are staged and not yet written. -/
def LaneSt.stagedIn (l : LaneSt) (g : Nat) : Nat := (l.hif.staged.filter (fun c => c.cg = g)).length

/-- Seconds of lockout left, saturating (R413, R418). -/
def LaneSt.lockLeft (l : LaneSt) : Nat :=
  match l.sec.lockUntil with
  | none => 0
  | some t => min 0xFFFF ((t - l.ns + 999999999) / 10 ^ 9)

/-- What a read of a BAR0 word returns: CG_WRITTEN of a lane that is not lead counts what it has staged (R62), lane time and what is left of a lockout are read live (R293, R418), a fixed frisket field reads its fixed value
(R371), the banks' STATUS.LEAD follows the lead (R353), bank fields of the other class's and of reserved groups read 0 (R351), FIRST reads 0 outside the
compatibility mode (R376). -/
def LaneSt.regRead (l : LaneSt) (off : Nat) : Nat :=
  let w := (l.word off).toNat
  if 0x3340 ≤ off ∧ off < 0x3380 ∧ off % 4 = 0 then
    (if l.isLead then w else (w + l.stagedIn ((off - 0x3340) / 4)) % 2 ^ 32)
  else if off = 0x7004 then putField 16 16 w l.lockLeft
  else if off = 0x9028 then l.ns % 10 ^ 9
  else if off = 0x902C then l.ns / 10 ^ 9 % 2 ^ 32
  else if off = 0x9030 then l.ns / 10 ^ 9 / 2 ^ 32 % 2 ^ 16
  else if off = 0x9038 then l.ns % 2 ^ 32
  else if off = 0x903C then l.ns / 2 ^ 32 % 2 ^ 32
  else if 0x5040 ≤ off ∧ off < 0x51A0 then
    (List.range 8).foldl (fun w j =>
      if faultDefault (32 * ((off - 0x5040) / 16) + 8 * ((off - 0x5040) % 16 / 4) + j) = 4
      then putField (4 * j) 3 w 4 else w) w
  else if off = 0x4000 ∨ off = 0x4800 then w - w % 2 + b2n l.isLead
  else if 0x4020 ≤ off ∧ off < 0x48C0 ∧ 0x20 ≤ off % 0x800 ∧ off % 0x800 < 0xC0 then
    (List.range 4).foldl (fun w j =>
      let g := 4 * (off % 0x20 / 4) + j
      if groupReserved g || l.bank g != off % 0x1000 / 0x800 then putField (8 * j) 8 w 0 else w) w
  else if !l.on FLT.CTRL.COMPAT ∧ 0x51C0 ≤ off ∧ off < 0x5320 ∧ 8 ≤ off % 16 then 0
  else w

/-- The word of configuration space at an offset (R35): the header, and the capabilities at offsets of the model's choice
(log entry 47): power management 0x40, MSI-X 0x50, PCI Express 0x70, Advanced Error Reporting 0x100, Device Serial
Number 0x140. -/
def LaneSt.configRead (l : LaneSt) (off : Nat) : Nat :=
  let p := l.hif.pci
  if off = 0x00 then 0x7316 * 2 ^ 16 + 0xE316
  else if off = 0x04 then 0x10 * 2 ^ 16 + p.command
  else if off = 0x08 then 0x118000 * 2 ^ 8
  else if off = 0x10 then p.bar0 % 2 ^ 32 + 4
  else if off = 0x14 then p.bar0 / 2 ^ 32
  else if off = 0x18 then p.bar2 % 2 ^ 32 + 4
  else if off = 0x1C then p.bar2 / 2 ^ 32
  else if off = 0x2C then (0x0C58 * 4 + (l.id.num + 1)) * 2 ^ 16 + 0xE316
  else if off = 0x34 then 0x40
  else if off = 0x40 then 3 * 2 ^ 16 + 0x50 * 2 ^ 8 + 0x01
  else if off = 0x44 then (if p.d3 then 3 else 0)
  else if off = 0x50 then (63 + 2 ^ 14 * b2n p.msixCtl.2 + 2 ^ 15 * b2n p.msixCtl.1) * 2 ^ 16 + 0x70 * 2 ^ 8 + 0x11
  else if off = 0x54 then 0x0000 + 2
  else if off = 0x58 then 0x1000 + 2
  else if off = 0x70 then 2 * 2 ^ 16 + 0x10
  else if off = 0x74 then 1
  else if off = 0x78 then p.devCtl
  else if off = 0x7C then 4 + 2 * 2 ^ 4 + 2 * 2 ^ 10
  else if off = 0x94 then 3
  else if off = 0x98 then p.devCtl2
  else if off = 0x100 then 0x140 * 2 ^ 20 + 2 * 2 ^ 16 + 0x0001
  else if off = 0x118 then 0xA0
  else if off = 0x140 then 1 * 2 ^ 16 + 0x0003
  else if off = 0x144 then l.rd ID.SERIAL_LO.SERIAL
  else if off = 0x148 then l.rd ID.SERIAL_HI.SERIAL
  else 0

/-- The word of BAR2 at an offset (R35): the MSI-X table of 64 entries, and the pending-bit array at 0x1000. -/
def LaneSt.bar2Read (l : LaneSt) (off : Nat) : Nat :=
  let e := l.hif.msixTable.getD (off / 16) (0, 0, 0)
  if off < 0x400 then
    (match off % 16 / 4 with
    | 0 => e.1 % 2 ^ 32
    | 1 => e.1 / 2 ^ 32
    | 2 => e.2.1
    | _ => e.2.2)
  else if off = 0x1000 then l.hif.msixPending % 2 ^ 32
  else if off = 0x1004 then l.hif.msixPending / 2 ^ 32
  else 0

/-- The windows of a host access, by address: BAR0 from 0, BAR2 from 0x10_0000, configuration space from 0x20_0000 (log
entry 47); whether a 32-bit access there is one of R30. -/
def hostWindow (off : Nat) : Bool :=
  decide (off % 4 = 0) && (decide (off < 0x102000) || (decide (0x200000 ≤ off) && decide (off < 0x201000)))

/-- What a host read of an accepted address returns: the high word that the low-word read latched, once; else the live
word (R7). -/
def LaneSt.hostWord (l : LaneSt) (off : Nat) : Nat :=
  if 0x200000 ≤ off then l.configRead (off - 0x200000)
  else if 0x100000 ≤ off then l.bar2Read (off - 0x100000)
  else match l.hif.latched.find? (fun x => x.1 = off) with
  | some x => x.2
  | none => l.regRead off

/-- A read of the low word of a 64-bit register latches the high word, and for NOW also NOW_HI (R7, R293); any read
ends the latch of its own word. -/
def LaneSt.lowRead (l : LaneSt) (off : Nat) : LaneSt :=
  let keep := l.hif.latched.filter (fun x => x.1 ≠ off)
  if !isReg64 off then { l with hif := { l.hif with latched := keep } }
  else
    let keep := keep.filter (fun x => x.1 ≠ off + 4 && !(off = 0x9028 && x.1 = 0x9030))
    let new := (off + 4, l.regRead (off + 4)) :: (if off = 0x9028 then [(0x9030, l.regRead 0x9030)] else [])
    { l with hif := { l.hif with latched := new ++ keep } }

/-- A 32-bit host read (R7, R30): its answer, and its effect on the latched high words; any other request is answered
with Unsupported Request and recorded. -/
def LaneSt.hostRead (l : LaneSt) (off : Nat) : LaneSt :=
  if !hostWindow off then { l.fault 0x005 0 with hif := { (l.fault 0x005 0).hif with answer := none } }
  else
    let v := l.hostWord off
    let l := if off < 0x100000 then l.lowRead off else l
    { l with hif := { l.hif with answer := some v } }

def execReg64LowRead (l : LaneId) (off : Nat) (s : State) : Host.Outcome State Fault Refusal :=
  onBar l (fun x => x.hostRead off) s

/-- A request R30 does not accept is answered with Unsupported Request, writes nothing and records the HIF corrected
fault BAD_REQUEST. -/
def LaneSt.badRequest (l : LaneSt) : LaneSt :=
  let l := l.fault 0x005 0
  { l with hif := { l.hif with answer := none } }

def execBar0BadRequest (l : LaneId) (s : State) : Host.Outcome State Fault Refusal :=
  onBar l LaneSt.badRequest s

/-- Which vectors may send messages now (R358): MSI-X Enable set, Function Mask clear, the vector's mask bit clear. -/
def LaneSt.judgeMsix (l : LaneSt) : LaneSt :=
  { l with hif := { l.hif with
      msixAllowed := if !l.hif.pci.msixCtl.1 || l.hif.pci.msixCtl.2 then 0
        else maskOf 64 (fun v => !bit (l.hif.msixTable.getD v (0, 0, 0)).2.2 0) } }

/-- A write to a word of the MSI-X table; the pending-bit array is read-only (R35, R358). -/
def LaneSt.bar2Write (l : LaneSt) (off v : Nat) : LaneSt :=
  if 0x400 ≤ off then l
  else
    let e := l.hif.msixTable.getD (off / 16) (0, 0, 0)
    let e' := match off % 16 / 4 with
      | 0 => (e.1 / 2 ^ 32 * 2 ^ 32 + v / 4 * 4, e.2.1, e.2.2)
      | 1 => (e.1 % 2 ^ 32 + v * 2 ^ 32, e.2.1, e.2.2)
      | 2 => (e.1, v, e.2.2)
      | _ => (e.1, e.2.1, v % 2)
    ({ l with hif := { l.hif with msixTable := l.hif.msixTable.setIfInBounds (off / 16) e' } } : LaneSt).judgeMsix

/-- Change the configuration space of a lane. -/
def LaneSt.setPci (l : LaneSt) (f : PciSt → PciSt) : LaneSt := { l with hif := { l.hif with pci := f l.hif.pci } }

def execHifEnable (l : LaneId) (value : Word) (s : State) : Host.Outcome State Fault Refusal :=
  onBar l (fun x => x.ctrlWrite value) s

/-- A SETUP_HASH record of a peer (R65). -/
def execSetupHashReceive (l : LaneId) (src : Arrival) (hash : BitVec 512) (s : State) : Host.Outcome State Fault Refusal :=
  onReceive l src (fun x => (x.setPeer src.lane (fun v => { v with setupHash := some hash.toNat })).judgeSetup) s

/-! ## Credits and permission -/

/-- A decided descriptor may be consumed now: every earlier one of its galley is consumed (R34), its fence is clear and a
completion slot is free (R58, R59). -/
def LaneSt.mayConsume (l : LaneSt) (d : Decided) : Bool :=
  decide (l.rd (HIF.SG_CONSUMED.COUNT d.sg) = d.seq) && (!d.fence || l.fenceClear d.sg) && l.slotFree d.sg

/-- Take the first decided descriptor, first of its galley, that asks for an operation `p` accepts and that may be
consumed now. A lane that is no member writes no completion: it
executes what the members have executed, each at the instant at which it took effect in them (R109). -/
def takeFrom (l : LaneSt) (p : DescOp → Bool) : List Nat → List Decided → Option (Decided × DescOp × List Decided)
  | _, [] => none
  | seen, d :: ds =>
    match d.verdict with
    | .execute op =>
      if !seen.contains d.sg && p op && (if l.isMember then l.mayConsume d else d.instant.all (· ≤ l.ns))
      then some (d, op, ds)
      else (takeFrom l p (d.sg :: seen) ds).map (fun r => (r.1, r.2.1, d :: r.2.2))
    | .complete _ _ => (takeFrom l p (d.sg :: seen) ds).map (fun r => (r.1, r.2.1, d :: r.2.2))

/-- Take the first decided descriptor, first of its galley, whose decision is a completion and that may be consumed
now. -/
def takeDone (l : LaneSt) : List Nat → List Decided → Option (Decided × Nat × Nat × List Decided)
  | _, [] => none
  | seen, d :: ds =>
    match d.verdict with
    | .complete st det =>
      if !seen.contains d.sg && l.mayConsume d then some (d, st, det, ds)
      else (takeDone l (d.sg :: seen) ds).map (fun r => (r.1, r.2.1, r.2.2.1, d :: r.2.2.2))
    | .execute _ => (takeDone l (d.sg :: seen) ds).map (fun r => (r.1, r.2.1, r.2.2.1, d :: r.2.2.2))

/-- Consume and complete every decided descriptor that needs no execution and may be consumed now, as many as there
are (`fuel` bounds their number). -/
def LaneSt.drain (l : LaneSt) : Nat → LaneSt
  | 0 => l
  | fuel + 1 =>
    match takeDone l [] l.hif.exec with
    | none => l
    | some (d, st, det, rest) =>
      LaneSt.drain ((({ l with hif := { l.hif with exec := rest } } : LaneSt).consume d).complete d st det 0) fuel

/-- Settle the decided descriptors that only complete. -/
def LaneSt.settle (l : LaneSt) : LaneSt := l.drain l.hif.exec.length

/-- The opcodes that a lane in readmission follows (R109). -/
def DescOp.followed : DescOp → Bool
  | .setpoint _ _ _ _ _ _ => true
  | .limits _ _ _ _ _ _ _ _ _ _ => true
  | .channelMode _ _ => true
  | .safeReset _ _ _ => true
  | _ => false

/-- What the lane holds of descriptor `seq` of galley `sg` as bytes. -/
def LaneSt.descBytes (l : LaneSt) (d : Decided) : Option (List Byte) :=
  (l.hif.copies.find? (fun c => c.sg = d.sg && c.seq = d.seq)).bind (·.own)

/-- The instant at which a descriptor executed now takes effect (R109, R126): its replan instant for an untimed target or
limit, else now. -/
def LaneSt.effectNs (l : LaneSt) : DescOp → Nat
  | .setpoint _ _ timed _ _ _ => if timed then l.ns else l.replanNs
  | .limits _ _ timed _ _ _ _ _ _ _ => if timed then l.ns else l.replanNs
  | _ => l.ns

/-- The donor, the lowest-lettered MEMBER, sends a copy of what it executes, with the instant of its effect, to every lane
whose dynamic state it has captured (R109). -/
def LaneSt.shareDesc (l : LaneSt) (d : Decided) (op : DescOp) : LaneSt :=
  if !l.isMember || !op.followed || l.memberPeers.any (fun p => decide (p.num < l.id.num)) then l
  else match l.descBytes d with
  | none => l
  | some b => (l.peers.filter (fun p => (l.peer p).serving)).foldl (fun l p =>
      l.sendTo p 0x101 (d.sg + 2 ^ 16 * d.seq) ((List.range 8).map (fun i => leAt b (8 * i) 8) ++ [l.effectNs op])) l

/-- Execute the next decided descriptor whose operation `p` accepts: it is consumed, `f` gives its effect. Where none
is ready the command changes nothing. -/
def LaneSt.withDesc (l : LaneSt) (p : DescOp → Bool) (f : Decided → DescOp → LaneSt → LaneSt) : LaneSt :=
  match takeFrom l p [] l.hif.exec with
  | none => l
  | some (d, op, rest) =>
    let l : LaneSt := { l with hif := { l.hif with exec := rest } }
    let l := if d.single then { l with folio := { l.folio with single := (l.folio.single + 1) % 2 ^ 32 } } else l
    (f d op ((l.shareDesc d op).consume d)).settle

/-- Member lanes that are not sealed, as the lane knows them: itself by its quoin, a peer by its setup hash (R65). -/
def LaneSt.unsealedMembers (l : LaneSt) : Nat :=
  (if l.isMember && !l.sealed then 2 ^ l.id.num else 0)
    + (l.memberPeers.map (fun p => if (l.peer p).setupHash.isNone then 2 ^ p.num else 0)).sum

/-- Member lanes whose setup hash differs from the lead's (R54). -/
def LaneSt.differingMembers (l : LaneSt) : Nat :=
  let hashOf (k : LaneId) : Option Nat := if k = l.id then some l.setupHash else (l.peer k).setupHash
  let ref := hashOf (l.vote.lead.getD l.id)
  (LaneId.all.map (fun k => if bit l.members k.num && hashOf k != ref then 2 ^ k.num else 0)).sum

/-- Quoin and setup agreement of R50 step 3 for the motion opcodes and DIAG (R65): reason and argument when denied. -/
def LaneSt.permSetup (l : LaneSt) : Option (Nat × Nat) :=
  if l.unsealedMembers ≠ 0 then some (0x05, l.unsealedMembers)
  else if l.on HIF.STATUS.SETUP_DIFFERS then some (0x06, l.differingMembers)
  else none

/-- The operating mode check of R51: in SOLO and SAFE the motion opcodes are denied. -/
def LaneSt.permMode (l : LaneSt) : Option (Nat × Nat) := if 2 ≤ l.mode then some (0x08, l.mode) else none

/-- The time form check of R51. -/
def LaneSt.permTime (l : LaneSt) : Option (Nat × Nat) := if l.t32 then some (0x0A, 0) else none

/-- The first of several permission checks that fails. -/
def firstDenied (l : List (Option (Nat × Nat))) : Option (Nat × Nat) := (l.find? Option.isSome).getD none

/-- Run an effect when every permission check passes, else complete DENIED with the first failing one (R50). -/
def LaneSt.permitted (l : LaneSt) (d : Decided) (checks : List (Option (Nat × Nat))) (f : LaneSt → LaneSt) : LaneSt :=
  match firstDenied checks with
  | some (code, arg) => l.deny d code arg
  | none => f l

/-- The form check of a fixed operation. -/
def DescOp.isNop : DescOp → Bool
  | .nop => true
  | _ => false

/-- NOP completes OK at once (R48). -/
def execNop (l : LaneId) (s : State) : Host.Outcome State Fault Refusal :=
  onLane l (fun x => x.withDesc DescOp.isNop (fun d _ y => y.complete d stOk 0 0)) s

/-! ## Doorbells -/

/-- Unsigned 32-bit difference. -/
def diff32 (x y : Nat) : Nat := (x + 2 ^ 32 - y % 2 ^ 32) % 2 ^ 32

/-- A submission galley's entries. -/
def LaneSt.sgSize (l : LaneSt) (n : Nat) : Nat := 2 ^ (l.rd (HIF.SG_CTRL.SIZE n) + 4)
/-- A completion galley's entries. -/
def LaneSt.cgSize (l : LaneSt) (n : Nat) : Nat := 2 ^ (l.rd (HIF.CG_CTRL.SIZE n) + 4)

/-- Accept or refuse one SG_TAIL value (R45); an accepted advance ends a silent host (R46, R115). -/
def LaneSt.tailWord (l : LaneSt) (n t : Nat) : LaneSt :=
  if !l.on (HIF.SG_CTRL.EN n) then l
  else if l.hif.sgTail.getD n 0 = t then l
  else if diff32 t (l.rd (HIF.SG_CONSUMED.COUNT n)) ≤ l.sgSize n then
    let l := l.wr HIF.STATUS.HOST_SILENT 0
    { l with
      hif := { l.hif with sgTail := l.hif.sgTail.setIfInBounds n t },
      vote := { l.vote with causes := setBit l.vote.causes 5 false } }
  else (l.satInc 0 HIF.DB_ERRORS.TAIL_INVALID).fault 0x002 n

/-- Accept or refuse one CG_HEAD value (R45). -/
def LaneSt.headWord (l : LaneSt) (n h : Nat) : LaneSt :=
  if !l.on (HIF.CG_CTRL.EN n) then l
  else
    let prev := l.hif.cgHead.getD n 0
    if prev = h then l
    else if diff32 h prev ≤ diff32 (l.rd (HIF.CG_WRITTEN.COUNT n)) prev then
      { l with hif := { l.hif with
          cgHead := l.hif.cgHead.setIfInBounds n h,
          written := l.hif.written.filter (fun w => w.cg ≠ n || diff32 w.idx prev ≥ diff32 h prev) } }
    else (l.satInc 0 HIF.DB_ERRORS.HEAD_INVALID).fault 0x002 n

/-- The EOI word of group `g` (R357): the DSEQ of the delivery in SERVICE ends it. -/
def LaneSt.eoiWord (l : LaneSt) (g w : Nat) : LaneSt :=
  if (l.group g).stage = .service ∧ w = (l.group g).dseq % 2 ^ 16 then l.irqExit g else l

/-- One whole doorbell page (R43, R44). -/
def LaneSt.takePage (l : LaneSt) (page : List Byte) : LaneSt :=
  let l := (List.range 16).foldl (fun l n => (l.tailWord n (leAt page (16 * n) 4)).headWord n (leAt page (16 * n + 4) 4)) l
  let l := (List.range 32).foldl (fun l g => l.eoiWord g (leAt page (16 * (g / 2) + 8 + 4 * (g % 2)) 4)) l
  ({ l with hif := { l.hif with dmaFails := 0 } } : LaneSt).settle

/-! ## The host link -/

/-- The host link of the lane is lost (R39): the folio's DEGRADE shows it, reads in flight are gone, fetching
stops. -/
def LaneSt.linkLost (l : LaneSt) : LaneSt :=
  if !l.on HIF.STATUS.LINK_UP then l
  else
    let l := (l.wr HIF.STATUS.LINK_UP 0).setBlk l.id (fun b => { b with degrade := setBit b.degrade 2 true })
    let l : LaneSt := { l with hif := { l.hif with reads := [], dmaFails := 0 } }
    l.fault 0x007 0

/-- A DMA read has failed: two in a row lose the host link (R39). -/
def LaneSt.dmaFailed (l : LaneSt) : LaneSt :=
  let l : LaneSt := { l with hif := { l.hif with dmaFails := l.hif.dmaFails + 1 } }
  if 2 ≤ l.hif.dmaFails then l.linkLost else l

/-- One doorbell read ends: its page is taken, or it has failed. -/
def LaneSt.poll (l : LaneSt) : Option (List Byte) → LaneSt
  | some page => l.takePage page
  | none => l.dmaFailed

/-- DOORBELL_POLL: with HIF.CTRL.EN = 1 and the host link up (R39, R44), not in NAP_ENTRY (R444). -/
def execDoorbellPoll (l : LaneId) (page : Option (List Byte)) (s : State) : Host.Outcome State Fault Refusal :=
  onLane l (fun x => if x.on HIF.CTRL.EN && x.on HIF.STATUS.LINK_UP && x.rd PWR.STATUS.STATE != 3 then x.poll page else x) s

/-- A write to a word of configuration space (R35): Command, the BARs, the power state, MSI-X control, Device Control.
Clearing Bus Master Enable or entering D3hot loses the host link (R39). -/
def LaneSt.configWrite (l : LaneSt) (off v : Nat) : LaneSt :=
  if off = 0x04 then
    let l := l.setPci (fun p => { p with command := v % 2 ^ 16 &&& 0x0546 })
    if bit v 2 then l else l.linkLost
  else if off = 0x10 then l.setPci (fun p => { p with bar0 := p.bar0 / 2 ^ 32 * 2 ^ 32 + v % 2 ^ 32 / 2 ^ 20 * 2 ^ 20 })
  else if off = 0x14 then l.setPci (fun p => { p with bar0 := p.bar0 % 2 ^ 32 + v % 2 ^ 32 * 2 ^ 32 })
  else if off = 0x18 then l.setPci (fun p => { p with bar2 := p.bar2 / 2 ^ 32 * 2 ^ 32 + v % 2 ^ 32 / 2 ^ 13 * 2 ^ 13 })
  else if off = 0x1C then l.setPci (fun p => { p with bar2 := p.bar2 % 2 ^ 32 + v % 2 ^ 32 * 2 ^ 32 })
  else if off = 0x44 then
    (if v % 4 = 3 then (l.setPci (fun p => { p with d3 := true })).linkLost
     else if v % 4 = 0 then l.setPci (fun p => { p with d3 := false }) else l)
  else if off = 0x50 then (l.setPci (fun p => { p with msixCtl := (bit v 31, bit v 30) })).judgeMsix
  else if off = 0x78 then l.setPci (fun p => { p with devCtl := v % 2 ^ 16 &&& 0x70EF })
  else if off = 0x98 then l.setPci (fun p => { p with devCtl2 := v % 2 ^ 4 })
  else l

/-- A 32-bit host write to an address outside BAR0's registers, or one that R30 does not accept. -/
def LaneSt.otherWrite (l : LaneSt) (off v : Nat) : LaneSt :=
  if !hostWindow off then l.badRequest
  else if 0x200000 ≤ off then l.configWrite (off - 0x200000) v
  else if 0x100000 ≤ off then l.bar2Write (off - 0x100000) v
  else l

def execHostLinkLost (l : LaneId) (s : State) : Host.Outcome State Fault Refusal := onLane l LaneSt.linkLost s

/-- PERST_N_x, a hot reset or a link-down reset: the link is lost, the configuration space, the MSI-X table, its enables
and held messages are at their reset values, latched high words gone; setup registers, quoin and galley counters survive
(R38). -/
def LaneSt.hostIslandReset (l : LaneSt) : LaneSt :=
  let l := l.linkLost
  { l with hif := { l.hif with
      msixAllowed := 0, msixPending := 0, latched := [], pci := .reset, msixTable := Vector.replicate 64 (0, 0, 1) } }

def execPerstReset (l : LaneId) (s : State) : Host.Outcome State Fault Refusal := onLane l LaneSt.hostIslandReset s

/-- LINK_PROBE (R40): while the link is lost, Bus Master Enable is set and the function is in D0, a doorbell read that
completes restores it and serves as the first poll; a read that fails leaves it lost. The lane then waits for the lead's
galley counts. -/
def LaneSt.probe (l : LaneSt) (trained : Nat) (page : Option (List Byte)) : LaneSt :=
  if l.on HIF.STATUS.LINK_UP || !bit l.hif.pci.command 2 || l.hif.pci.d3 then l
  else match page with
  | none => l
  | some p =>
    let l := (l.wr HIF.STATUS.LINK_UP 1).setBlk l.id (fun b => { b with degrade := setBit b.degrade 2 false })
    let wait := match l.vote.lead with
      | none => false
      | some k => k ≠ l.id
    let l : LaneSt := { l with hif := { l.hif with
        link := trained, dmaFails := 0, awaitCounts := wait,
        fetched := Vector.ofFn (fun n : Fin 16 => l.rd (HIF.SG_CONSUMED.COUNT n.val)) } }
    let l := l.setPoll
    if l.on HIF.CTRL.EN then l.takePage p else l

def execLinkProbe (l : LaneId) (trained : Fin 4) (page : Option (List Byte)) (s : State) :
    Host.Outcome State Fault Refusal := onLane l (fun x => x.probe trained.val page) s

/-- The later of two free-running 32-bit counts. -/
def later32 (x y : Nat) : Nat := if diff32 x y < 2 ^ 31 then x else y

/-- GALLEY_COUNTS of the lead (R40, R57): word n holds SG_CONSUMED and CG_WRITTEN of galley n. The first after a
restored link gives the counts the lane fetches from, where they are ahead of its own; what they count as consumed is
not executed again. -/
def LaneSt.galleyCounts (l : LaneSt) (counts : List Dword) : LaneSt :=
  let c (n : Nat) : Nat := (counts.getD n 0).toNat % 2 ^ 32
  let w (n : Nat) : Nat := (counts.getD n 0).toNat / 2 ^ 32
  let l : LaneSt := { l with hif := { l.hif with peerWritten := Vector.ofFn (fun n : Fin 16 => w n.val) } }
  if !l.hif.awaitCounts then l
  else
    let l := (List.range 16).foldl (fun l n =>
      (l.wr (HIF.SG_CONSUMED.COUNT n) (later32 (c n) (l.rd (HIF.SG_CONSUMED.COUNT n)))).wr (HIF.CG_WRITTEN.COUNT n)
        (later32 (w n) (l.rd (HIF.CG_WRITTEN.COUNT n)))) l
    { l with hif := { l.hif with
        awaitCounts := false,
        exec := l.hif.exec.filter (fun d => decide (diff32 d.seq (l.rd (HIF.SG_CONSUMED.COUNT d.sg)) < 2 ^ 31)),
        fetched := Vector.ofFn (fun n : Fin 16 => l.rd (HIF.SG_CONSUMED.COUNT n.val)) } }

def execGalleyCountsReceive (l : LaneId) (src : Arrival) (counts : List Dword) (s : State) :
    Host.Outcome State Fault Refusal :=
  onReceive l src (fun x => if x.vote.lead ≠ some src.lane then x else x.galleyCounts counts) s

/-- HOST_TIMEOUT (R46): HOST_SILENT set and the K6 stop with cause HOST_SILENT requested for the next boundary. -/
def LaneSt.hostSilent (l : LaneSt) : LaneSt :=
  if l.on HIF.STATUS.HOST_SILENT then l
  else
    let l := (l.wr HIF.STATUS.HOST_SILENT 1).raise 2 6
    { l with vote := { l.vote with
        causes := setBit l.vote.causes 5 true, stopReq := if l.vote.stopReq = 0 then 5 else l.vote.stopReq } }

def execHostTimeout (l : LaneId) (s : State) : Host.Outcome State Fault Refusal := onLane l LaneSt.hostSilent s

/-! ## Fetching -/

/-- How many descriptors of galley `n` may be fetched now: submitted and not yet read, a completion slot to reserve
for each beyond those already on their way, no waiting fence (R58, R59). -/
def LaneSt.fetchable (l : LaneSt) (n : Nat) : Nat :=
  if !(l.on HIF.CTRL.EN && l.on HIF.STATUS.LINK_UP && l.on (HIF.SG_CTRL.EN n)) || l.hif.awaitCounts || l.rd PWR.STATUS.STATE = 3
      || 32 ≤ l.hif.reads.length || l.hif.exec.any (fun d => d.sg = n && d.fence && !l.fenceClear n) then 0
  else
    let consumed := l.rd (HIF.SG_CONSUMED.COUNT n)
    let ahead := diff32 (l.hif.fetched.getD n 0) consumed
    let open' := diff32 (l.hif.sgTail.getD n 0) consumed
    let cg := l.rd (HIF.SG_CTRL.CG n)
    let used := diff32 (l.hif.cgReserved.getD cg 0) (l.hif.cgHead.getD cg 0) + ahead
    min (open' - ahead) (l.cgSize cg - used)

/-- The galley the weighted round robin serves next and what it may still fetch in its round (R59): the present one
while it has weight left and work, else the next in ascending order. -/
def LaneSt.nextGalley (l : LaneSt) : Option (Nat × Nat) :=
  if 0 < l.hif.rr.2 ∧ 0 < l.fetchable l.hif.rr.1 then some l.hif.rr
  else ((List.range 16).map (fun i => (l.hif.rr.1 + 1 + i) % 16)).findSome? (fun n =>
    if 0 < l.fetchable n ∧ 0 < l.rd (HIF.SG_CTRL.WEIGHT n) then some (n, l.rd (HIF.SG_CTRL.WEIGHT n)) else none)

/-- DESC_FETCH: one read of at most 8 contiguous descriptors (R59). -/
def LaneSt.fetch (l : LaneSt) : LaneSt :=
  match l.nextGalley with
  | none => l
  | some (n, left) =>
    let at' := l.hif.fetched.getD n 0
    let k := min (min 8 left) (min (l.fetchable n) (l.sgSize n - at' % l.sgSize n))
    { l with hif := { l.hif with
        reads := l.hif.reads ++ [(n, at', k)],
        fetched := l.hif.fetched.setIfInBounds n ((at' + k) % 2 ^ 32),
        rr := (n, left - k) } }

def execDescFetch (l : LaneId) (s : State) : Host.Outcome State Fault Refusal := onLane l LaneSt.fetch s

/-! ## Agreement on a fetched descriptor (R77 to R82) -/

/-- No copy held of a descriptor. -/
def Copies.empty (sg seq : Nat) : Copies :=
  { sg := sg, seq := seq, own := none, fps := Vector.replicate 3 none, failed := 0, agreed := none, wantCopy := none, sentTo := 0,
    wantMismatch := false, full := Vector.replicate 3 none }

/-- What the lane holds of descriptor `seq` of galley `sg`. -/
def LaneSt.copiesOf (l : LaneSt) (sg seq : Nat) : Copies :=
  (l.hif.copies.find? (fun c => c.sg = sg && c.seq = seq)).getD (.empty sg seq)

/-- Replace what the lane holds of a descriptor, in place or at the end. -/
def LaneSt.putCopies (l : LaneSt) (c : Copies) : LaneSt :=
  { l with hif := { l.hif with
      copies := if l.hif.copies.any (fun x => x.sg = c.sg && x.seq = c.seq)
        then l.hif.copies.map (fun x => if x.sg = c.sg && x.seq = c.seq then c else x)
        else l.hif.copies ++ [c] } }

/-- Lanes with a copy, as a mask. -/
def Copies.have (c : Copies) : Nat := (LaneId.all.map (fun k => if (c.fps.get k.fin).isSome then 2 ^ k.num else 0)).sum

/-- The lowest-lettered lane with a copy. -/
def Copies.lowest (c : Copies) : Option LaneId := LaneId.all.find? (fun k => (c.fps.get k.fin).isSome)

/-- Lanes whose fingerprint equals that of the lowest-lettered copy, as a mask. -/
def Copies.agreeing (c : Copies) : Nat :=
  match c.lowest with
  | none => 0
  | some k => (LaneId.all.map (fun j => if c.fps.get j.fin = c.fps.get k.fin then 2 ^ j.num else 0)).sum

/-- Whether two fingerprints differ. -/
def Copies.differ (c : Copies) : Bool := c.agreeing != c.have

/-- The lanes still waited for: members other than this lane whose host link is up and whose fingerprint has not
arrived (R78). A fetch-failed message is no fingerprint: the lane that sent it stays waited for until SINGLE_WAIT has run
out (DEDUCED, log entry 49). -/
def LaneSt.waited (l : LaneSt) (c : Copies) : Bool :=
  l.memberPeers.any (fun p =>
    (c.fps.get p.fin).isNone &&
      (match (l.peer p).last with
        | some f => f.hostUp
        | none => false))

/-- One more ODD_FETCH of lane `k` (R75, R81, R82). -/
def LaneSt.oddFetch (l : LaneSt) (k : LaneId) : LaneSt :=
  { l with folio := { l.folio with
      oddFetch := l.folio.oddFetch.set k.fin (min 0xFFFF (l.folio.oddFetch.get k.fin + 1)) } }

/-- The 64 bytes of a descriptor as eight payload words. -/
def descWords (b : List Byte) : List Nat := (List.range 8).map (fun i => leAt b (8 * i) 8)

/-- DETAIL of a MISMATCH completion (R82). -/
def Copies.mismatchDetail (c : Copies) : Nat :=
  let low := (c.lowest.bind (fun k => c.full.get k.fin)).getD []
  let others := LaneId.all.filterMap (fun k => c.full.get k.fin)
  let off := ((List.range 64).find? (fun i => others.any (fun o => o.getD i 0 ≠ low.getD i 0))).getD 0
  let fp := (c.lowest.bind (fun k => c.fps.get k.fin)).getD 0
  c.have + 2 ^ 3 * c.agreeing + 2 ^ 8 * off + 2 ^ 16 * (fp % 2 ^ 16)

/-- The lane whose copy alone differs from the other two, in TRIPLE (R82). -/
def LaneSt.oddLane (l : LaneSt) (c : Copies) : Option LaneId :=
  if l.mode ≠ 0 ∨ c.have ≠ 7 then none
  else LaneId.all.find? (fun k => decide (c.fps.get k.fin ≠ c.fps.get k.peer0.fin ∧
    c.fps.get k.peer0.fin = c.fps.get k.peer1.fin))

/-- Put a decided descriptor in the order of execution and settle what only completes. -/
def LaneSt.pushDecided (l : LaneSt) (d : Decided) : LaneSt :=
  ({ l with hif := { l.hif with exec := l.hif.exec ++ [d] } } : LaneSt).settle

/-- A MISMATCH is complete once the full copies of every lane that fetched one are held (R82). -/
def LaneSt.finishMismatch (l : LaneSt) (c : Copies) : LaneSt :=
  if c.wantMismatch ∧ LaneId.all.all (fun k => (c.fps.get k.fin).isNone || (c.full.get k.fin).isSome) then
    let low := (c.lowest.bind (fun k => c.full.get k.fin)).getD []
    let l := l.putCopies { c with wantMismatch := false, agreed := c.lowest.bind (fun k => c.fps.get k.fin) }
    let l := (l.oddLane c).elim l l.oddFetch
    let l := { l with folio := { l.folio with mismatch := (l.folio.mismatch + 1) % 2 ^ 32 } }
    l.pushDecided { decided c.sg c.seq low c.agreeing false with verdict := .complete stMismatch c.mismatchDetail }
  else l

/-- The descriptor as decided: AGREE and SINGLE, and the denial LANE_ABSENT with the lanes without a copy (R78). -/
def decidedAs (sg seq : Nat) (b : List Byte) (w : Nat × Bool × Bool) : Decided :=
  let d := decided sg seq b w.1 w.2.1
  if w.2.2 then { d with verdict := .complete stDenied (reasonDetail 0x0C (7 - w.1)) } else d

/-- Decide on the agreed content: with the own copy at once; without one after the copy has come from the
lowest-lettered lane that holds it, which sends it to every member without one (R79, R80). `deny`: the denial of R78. -/
def LaneSt.decideExecute (l : LaneSt) (c : Copies) (single deny : Bool) : LaneSt :=
  let agreed := c.lowest.bind (fun k => c.fps.get k.fin)
  let w := (c.have, single, deny)
  match c.own with
  | none => l.putCopies { c with agreed := agreed, wantCopy := some w }
  | some b =>
    let to' : List LaneId :=
      if c.lowest = some l.id then l.memberPeers.filter (fun p => (c.fps.get p.fin).isNone) else []
    let l := l.putCopies { c with agreed := agreed, sentTo := (to'.map (fun p => 2 ^ p.num)).sum }
    let l := to'.foldl (fun l p => l.sendTo p 0x101 (c.sg + 2 ^ 16 * c.seq) (descWords b)) l
    l.pushDecided (decidedAs c.sg c.seq b w)

/-- The own copy joins the exchange of a MISMATCH (R82). -/
def LaneSt.sendFull (l : LaneSt) (c : Copies) : LaneSt :=
  c.own.elim l (fun b => l.send 0x105 (c.sg + 2 ^ 16 * c.seq) (descWords b))

/-- Decide on a descriptor by the table of R78, where its copies allow a decision; `expired` when SINGLE_WAIT has
run out. -/
def LaneSt.decideOn (l : LaneSt) (c : Copies) (expired : Bool) : LaneSt :=
  if c.agreed.isSome ∨ c.wantMismatch ∨ c.have = 0 then l
  else if c.differ then
    let c' := match c.own with
      | some b => { c with wantMismatch := true, full := c.full.set l.id.fin (some b) }
      | none => { c with wantMismatch := true }
    ((l.putCopies c').sendFull c').finishMismatch c'
  else if l.waited c ∧ !expired ∧ l.mode ≠ 2 then l.putCopies c
  else if 2 ≤ popCount 3 c.have then l.decideExecute c false false
  else if l.mode = 2 then l.decideExecute c false false
  else if expired ∧ l.waited c ∧ !l.on HIF.AGREE_CTRL.SINGLE_EN then l.decideExecute c false true
  else l.decideExecute c true false

/-- The fingerprint of a descriptor copy: galley number as one byte, then its 64 bytes (R77). -/
def descFp (sg : Nat) (b : List Byte) : Nat := fingerprint (BitVec.ofNat 8 sg :: b)

/-- The own read of a descriptor has failed, or one of its words was discarded: fetch-failed to the peers (R77). -/
def LaneSt.copyFailed (l : LaneSt) (sg seq : Nat) : LaneSt :=
  let c := l.copiesOf sg seq
  let l := l.send 0x01 (sg + 2 ^ 4 + 2 ^ 16 * seq) [0]
  let c := { c with failed := setBit c.failed l.id.num true }
  if c.agreed.isSome then l.putCopies c else (l.putCopies c).decideOn c false

/-- The own copy of a descriptor has come (R77). After the decision it is only compared (R81); a lane that still waits
for the 64 bytes takes them from a copy that agrees (log entry 49). While the full copies of a MISMATCH are exchanged it
joins them (R82). -/
def LaneSt.copyFetched (l : LaneSt) (sg seq : Nat) (b : List Byte) : LaneSt :=
  let c := l.copiesOf sg seq
  let fp := descFp sg b
  let l := l.send 0x01 (sg + 2 ^ 16 * seq) [fp]
  let c' := { c with fps := c.fps.set l.id.fin (some fp) }
  if c.agreed.isSome then
    if c.agreed = some fp then
      match c.wantCopy with
      | none => l.putCopies c'
      | some w => (l.putCopies { c' with own := some b, wantCopy := none }).pushDecided (decidedAs sg seq b w)
    else ((l.putCopies c').oddFetch l.id).fault 0x006 sg
  else if c.wantMismatch then
    let c'' := { c' with own := some b, full := c.full.set l.id.fin (some b) }
    ((l.putCopies c'').sendFull c'').finishMismatch c''
  else
    let c'' := { c' with own := some b }
    (l.putCopies c'').decideOn c'' false

/-- One descriptor of a read that completed: its 64 bytes cross into the CORE island (R19). -/
def LaneSt.fetchOne (l : LaneSt) (sg seq : Nat) (bs : List Byte) (flips : List (BitVec 72)) : LaneSt :=
  let r := l.crossBytes 0 bs flips
  match r.2 with
  | some b => r.1.copyFetched sg seq b
  | none => r.1.copyFailed sg seq

/-- DESC_FETCH_COMPLETE: the oldest outstanding read ends with the bytes of its descriptors, or fails (R77). Two reads
that fail in a row lose the host link (R39). -/
def LaneSt.fetchDone (l : LaneSt) (bytes : Option (List Byte)) (flips : List (BitVec 72)) : LaneSt :=
  match l.hif.reads with
  | [] => l
  | (sg, first, k) :: rest =>
    let l : LaneSt := { l with hif := { l.hif with reads := rest } }
    match bytes with
    | none => ((List.range k).foldl (fun l i => l.copyFailed sg ((first + i) % 2 ^ 32)) l).dmaFailed
    | some bs =>
      let l : LaneSt := { l with hif := { l.hif with dmaFails := 0 } }
      (List.range k).foldl (fun l i =>
        l.fetchOne sg ((first + i) % 2 ^ 32) (sliceBytes bs (64 * i) 64) (flips.drop (8 * i))) l

def execDescFetchComplete (l : LaneId) (read : Transfer) (s : State) : Host.Outcome State Fault Refusal :=
  onLane l (fun x => x.fetchDone read.bytes read.flips) s

/-- DESC_FP_RECEIVE: a peer's fingerprint, or its fetch-failed message, joins the copies held (R77, R78). -/
def LaneSt.fpReceive (l : LaneSt) (p : LaneId) (sg seq : Nat) (fp : Option Nat) : LaneSt :=
  let c := l.copiesOf sg seq
  match fp with
  | none =>
    let c := { c with failed := setBit c.failed p.num true }
    (l.putCopies c).decideOn c false
  | some f =>
    let c' := { c with fps := c.fps.set p.fin (some f) }
    if c.agreed.isSome then
      let l := l.putCopies c'
      if c.agreed = some f then l else l.oddFetch p
    else if c.wantMismatch then (l.putCopies c').finishMismatch c'
    else (l.putCopies c').decideOn c' false

def execDescFpReceive (l : LaneId) (src : Arrival) (sg : Fin 16) (seq : Word) (fp : Option Dword) (s : State) :
    Host.Outcome State Fault Refusal :=
  onReceive l src (fun x => x.fpReceive src.lane sg.val seq.toNat (fp.map (·.toNat))) s

/-- SINGLE_WAIT_EXPIRED: the descriptor is decided on the copies held (R78). -/
def execSingleWaitExpired (l : LaneId) (sg : Fin 16) (seq : Word) (s : State) : Host.Outcome State Fault Refusal :=
  onLane l (fun x => x.decideOn (x.copiesOf sg.val seq.toNat) true) s

/-- BULK_MISMATCH_COPY: a full copy of a peer (R82). -/
def execBulkMismatchCopy (l : LaneId) (src : Arrival) (sg : Fin 16) (seq : Word) (bytes : List Byte) (s : State) :
    Host.Outcome State Fault Refusal :=
  onReceive l src (fun x =>
    let c := x.copiesOf sg.val seq.toNat
    let c' := { c with full := c.full.set src.lane.fin (some bytes) }
    (x.putCopies c').finishMismatch c') s

/-! ## Completions -/

/-- The 32 bytes of a completion, its first 28 and its last 4 (R52, R56). -/
def completionFields (c : Completion) (stamp phase : Nat) : List (Nat × Nat × Nat) × List (Nat × Nat × Nat) :=
  ([(0, 4, c.tag), (4, 4, c.seq), (8, 8, c.result), (16, 8, stamp), (24, 4, c.detail)],
   [(0, 4, c.opcode + 2 ^ 8 * c.status + 2 ^ 16 * c.sg + 2 ^ 20 * c.agree + 2 ^ 23 * b2n c.single + 2 ^ 31 * phase)])

/-- PHASE: 1 on the first pass through the galley, then alternating (R52). -/
def phaseOf (idx size : Nat) : Nat := (idx / size + 1) % 2

/-- Post one completion as the two writes of R56. -/
def LaneSt.postCompletion (l : LaneSt) (w : Written) : LaneSt :=
  let size := l.cgSize w.cg
  let a := l.addr (HIF.CG_BASE.off w.cg) (HIF.CG_BASE_HI.off w.cg) + 32 * (w.idx % size)
  let f := completionFields w.c w.stamp (phaseOf w.idx size)
  (l.post a 28 f.1).post (a + 28) 4 f.2

/-- The stamp of a completion: the voting boundary at which the result was agreed, in the lead's time (R52). -/
def LaneSt.boundaryStamp (l : LaneSt) : Nat :=
  stampNs l.t32 l.boundaryNs + 2 ^ 32 * (stampS l.t32 l.boundaryNs % 2 ^ 16) + 2 ^ 63 * b2n l.t32

/-- A member notes that a completion has been written: it leaves the staged ones and stays with its stamp until the
host has consumed it (R57). -/
def LaneSt.noteWritten (l : LaneSt) (w : Written) : LaneSt :=
  let l := l.inc (HIF.CG_WRITTEN.COUNT w.cg)
  { l with hif := { l.hif with
      staged := l.hif.staged.eraseP (fun c => c.sg = w.c.sg && c.seq = w.c.seq),
      written := l.hif.written ++ [w] } }

/-- Whether every member lane has staged the completion of a descriptor. -/
def State.stagedByAll (s : State) (members : Nat) (c : Completion) : Bool :=
  LaneId.all.all (fun k => !bit members k.num ||
    (s.lane k).hif.staged.any (fun x => x.sg = c.sg && x.seq = c.seq))

/-- At the voting boundary of the lead, or of the lowest-lettered member without one, every completion that all members
have staged takes the boundary as its STAMP, the same in every member (R52, R56, R57). -/
def State.stampResults (s : State) (k : LaneId) : State :=
  let l := s.lane k
  let first := (LaneId.all.find? (fun j => bit l.members j.num)).getD k
  if !l.isMember ∨ l.vote.lead.getD first ≠ k then s
  else
    let done (c : Completion) : Bool := c.stamp.isNone && s.stagedByAll l.members c
    let stamp (c : Completion) : Completion := if done c then { c with stamp := some l.boundaryStamp } else c
    LaneId.all.foldl (fun r j =>
      if bit l.members j.num then
        r.setLane j { r.lane j with hif := { (r.lane j).hif with staged := (r.lane j).hif.staged.map stamp } }
      else r) s

/-- COMPLETION_WRITE: the lead, its host link up, writes the oldest completion that is staged in all members, and then
raises its interrupt if IRQ was set (R56, R60). -/
def completionWrite (k : LaneId) (s : State) : State :=
  let l := s.lane k
  if !(l.isLead && l.on HIF.STATUS.LINK_UP) then s
  else match l.hif.staged.find? (s.stagedByAll l.members) with
  | none => s
  | some c =>
    let w : Written := { cg := c.cg, idx := l.rd (HIF.CG_WRITTEN.COUNT c.cg), stamp := c.stamp.getD l.boundaryStamp, c := c }
    let s := LaneId.all.foldl (fun s j =>
      if j ≠ k ∧ bit l.members j.num then s.setLane j (((s.lane j).noteWritten w).settle) else s) s
    let l := (l.noteWritten w).postCompletion w
    let l := if c.irq then l.raise (c.cg / 8) (c.cg % 8) else l
    s.setLane k l.settle

def execCompletionWrite (l : LaneId) (s : State) : Host.Outcome State Fault Refusal := .next (completionWrite l s)

/-- A new lead writes again every completion from the larger of the last reported written count and the present
CG_HEAD, in index order (R57). -/
def LaneSt.rewriteCompletions (l : LaneSt) : LaneSt :=
  l.hif.written.foldl (fun l w =>
    let h := l.hif.cgHead.getD w.cg 0
    if diff32 (later32 (l.hif.peerWritten.getD w.cg 0) h) h ≤ diff32 w.idx h then l.postCompletion w else l) l

/-! ## PARAM_READ -/

/-- A read of FIRST in compatibility mode latches FIRST_NS and clears VALID and OVERFLOW (R376). -/
def LaneSt.firstRead (l : LaneSt) (b : Nat) : LaneSt :=
  if !l.on FLT.CTRL.COMPAT then l
  else
    let ns := l.rd (FLT.FIRST_NS.NS b)
    let l := (l.wr (FLT.FIRST.VALID b) 0).wr (FLT.FIRST.OVERFLOW b) 0
    { l with flt := { l.flt with firstNs := (b, ns) :: l.flt.firstNs.filter (fun x => x.1 ≠ b) } }

/-- PARAM_READ: the register value of the named lane, or of the lead, zero-extended (R52); a lane that is not MEMBER
is absent. The lane that is read gives up its first-error latch (R376). -/
def paramRead (k : LaneId) (s : State) : State :=
  s.setLane k ((s.lane k).withDesc
    (fun op => match op with
      | .paramRead _ _ _ => true
      | _ => false)
    (fun d op l => match op with
      | .paramRead off width lane =>
        let t := if lane = 3 then l.vote.lead.getD l.id else LaneId.ofNum lane
        if !bit l.members t.num then l.deny d 0x0C (2 ^ t.num)
        else
          let x := s.lane t
          let v := x.regRead off + (if width = 1 then 2 ^ 32 * x.regRead (off + 4) else 0)
          let l := l.complete d stOk 0 v
          if t = l.id ∧ 0x51C0 ≤ off ∧ off < 0x5320 ∧ off % 16 = 8 then l.firstRead ((off - 0x51C0) / 16) else l
      | _ => l))

def execParamRead (l : LaneId) (s : State) : Host.Outcome State Fault Refusal := .next (paramRead l s)

end Sys2Proof.Machine
end

