-- ==== Sys2Proof/Machine/Gate.lean ====
section
/-!
DEFINITION. Gate drive and PWM: carrier valleys, switch events and the short side, force-safe, overvoltage and choppers,
the comparator self-test and the test-current scan (chapter 10).
-/

namespace Sys2Proof.Machine

open Sys2Proof

/-! ## Channels and their own state -/

/-- Change the state of channel `n` that is no register. -/
def LaneSt.setComm (l : LaneSt) (n : Nat) (f : CommCh → CommCh) : LaneSt :=
  { l with comm := l.comm.setIfInBounds n (f (l.comm.getD n .reset)) }

/-- The state of channel `n` that is no register. -/
def LaneSt.ch (l : LaneSt) (n : Nat) : CommCh := l.comm.getD n .reset

/-- STATE of channel `n` (R193). -/
def LaneSt.chState (l : LaneSt) (n : Nat) : Nat := l.rd (COMM.STATUS.STATE n)

/-- Set a bit of the lane's DEGRADE mask (R117): 0 NET_RED, 1 NET_BLUE, 2 HOST, 3 POS, 4 SOUT, 5 CHOP, 6 LINK_SPARE. -/
def LaneSt.setDegrade (l : LaneSt) (i : Nat) (b : Bool) : LaneSt :=
  l.setBlk l.id (fun k => { k with degrade := setBit k.degrade i b })

/-- The integrators of the d and q current-loop slots of channel `n` at 0 (R190, R264). -/
def LaneSt.zeroDq (l : LaneSt) (n : Nat) : LaneSt :=
  (List.range 128).foldl (fun l m =>
    let dest := l.rd (LOOP.ROUTE.DEST m)
    if (dest = 2 ∨ dest = 3) ∧ l.rd (LOOP.ROUTE.INDEX m) = n then l.wr (LOOP.INTEG.VALUE m) 0 else l) l

/-- The gates of channel `n` enabled: the bridge drives its winding. -/
def LaneSt.enableGates (l : LaneSt) (n : Nat) : LaneSt := (((l.dropDue n).setBridge n 1).zeroDq n).setWstate n 1

/-! ## Carrier valleys (R244 to R248, R260) -/

/-- Carrier period in units of 312.5 ps. -/
def LaneSt.carrierUnits (l : LaneSt) (c : Nat) : Nat := l.rd (GATE.CAR_PERIOD.PERIOD c) * 16

/-- The newest entry written at least 100 ns before now, and the entries that are later (R246). -/
def loadShadow {α : Type} (now : Nat) : List (Nat × α) → Option α → Option α × List (Nat × α)
  | [], acc => (acc, [])
  | (t, v) :: xs, acc => if t + 100 ≤ now then loadShadow now xs (some v) else (acc, (t, v) :: xs)

/-- Load the shadow duties of channel `n`; the ones they replace still set the second half of a CENTRE pulse (R246). -/
def LaneSt.loadDuty (l : LaneSt) (n : Nat) : LaneSt :=
  let r := loadShadow l.run (l.gateCh n).shadow none
  l.setGateCh n (fun g => { g with duty := r.1.getD g.duty, dutyPrev := g.duty, shadow := r.2 })

/-- Load the shadow duty of AUX leg `m`. -/
def LaneSt.loadAux (l : LaneSt) (m : Nat) : LaneSt :=
  let r := loadShadow l.run (l.gate.auxShadow.getD m []) none
  { l with gate := { l.gate with
      aux := l.gate.aux.setIfInBounds m (r.1.getD (l.gate.aux.getD m 0)),
      auxPrev := l.gate.auxPrev.setIfInBounds m (l.gate.aux.getD m 0),
      auxShadow := l.gate.auxShadow.setIfInBounds m r.2 } }

/-- The on-time of phase `k` in the duties of a bridge. -/
def phaseOf3 (d : Nat × Nat × Nat) (k : Nat) : Nat := if k = 0 then d.1 else if k = 1 then d.2.1 else d.2.2

/-- On-time of leg `m` in the period that starts. -/
def LaneSt.onTime (l : LaneSt) (m : Nat) : Nat :=
  if l.rd (GATE.LEG_CTRL.USE m) = 2 then l.gate.aux.getD m 0 else phaseOf3 (l.gateCh (m / 3)).duty (m % 3)

/-- On-time of leg `m` in the period before. -/
def LaneSt.onBefore (l : LaneSt) (m : Nat) : Nat :=
  if l.rd (GATE.LEG_CTRL.USE m) = 2 then l.gate.auxPrev.getD m 0 else phaseOf3 (l.gateCh (m / 3)).dutyPrev (m % 3)

/-- The carrier of a leg (R248). -/
def LaneSt.legCarrier (l : LaneSt) (m : Nat) : Nat :=
  if l.rd (GATE.LEG_CTRL.USE m) = 2 then l.rd (GATE.LEG_CTRL.CARRIER m) else l.rd (COMM.CTRL.CARRIER (m / 3))

/-- Lane time since the last valley of carrier `c`, in units of 312.5 ps (R244). -/
def LaneSt.carrierPos (l : LaneSt) (c : Nat) : Nat :=
  (((l.time.now * 16 / (5 * 2 ^ 32) : Nat) : Int) - (l.rd (GATE.CAR_PHASE.PHASE c) * 16 : Nat)) % (l.carrierUnits c : Int) |>.toNat

/-- Whether the high side of leg `m` is commanded on now; its low side is at all other times (R245). CENTRE: within half the
on-time of a valley, before it by the duty of the period that ends there and after it by the same duty, which is by then the
one before (R246). EDGE: from the valley for the on-time. -/
def LaneSt.highNow (l : LaneSt) (m : Nat) : Bool :=
  let c := l.legCarrier m
  let t := l.carrierUnits c
  let p := l.carrierPos c
  if l.rd (GATE.CAR_CTRL.ALIGN c) = 1 then decide (p < l.onTime m)
  else if 2 * p < t then decide (2 * p < l.onBefore m)
  else decide (2 * (t - p) ≤ l.onTime m)

/-- A leg that switches driven as its duty and lane time command; in its refresh period the low side for REFRESH, then the
high side (R245, R260). -/
def LaneSt.pwmEdge (l : LaneSt) (m : Nat) : LaneSt :=
  let st := l.rd (GATE.STATUS.STATE m)
  if st ≠ 1 ∧ st ≠ 4 then l
  else
    let high : Bool := if st = 1 then l.highNow m else match l.gate.hiSince.getD m none with
      | none => true
      | some t => decide (t + 10 * l.rd (GATE.BOOT.REFRESH m) ≤ l.run)
    l.driveLeg m high (!high)

/-- The named side of bridge `n` turns on once every gate of the other side has read below GOFF for KERN; only then do
WSTATE and BRIDGE_n.SIDE show the short (R255). -/
def LaneSt.shortStep (l : LaneSt) (n : Nat) : LaneSt :=
  let side := (l.gateCh n).naming
  if side = 0 then l
  else
    let low := b2n (side = 1)
    if (List.range 3).all (fun k => l.kernPassed (6 * n + 2 * k + low)) then
      let l := (l.wr (GATE.BRIDGE.SIDE n) side).setGateCh n (fun g => { g with naming := 0 })
      (l.setBridge n (1 + side)).setWstate n (1 + side)
    else l

/-- What time does to the switches: shorts that are ordered come first, then the edges of the legs that switch, then the
switches that wait (R249, R255, R259). -/
def LaneSt.gateClock (l : LaneSt) : LaneSt :=
  let l := (List.range 8).foldl LaneSt.shortStep l
  let l := (List.range 26).foldl LaneSt.pwmEdge l
  l.gate.waits.foldl LaneSt.swOn l

/-- An on-time bounded to the duty range (R247), in units of 312.5 ps of a period. -/
def boundDuty (period tmin : Nat) (full : Bool) (x : Int) : Nat :=
  let o := max 0 (min (period : Int) x)
  let o := o.toNat
  if full ∧ 2 * o < tmin then 0
  else if full ∧ 2 * (period - o) < tmin then period
  else max tmin (min (period - tmin) o)

/-- A duty of leg `m` as an on-time, bounded by its MIN_PULSE and its carrier's FULL (R247): `num` / `den` of the period. -/
def LaneSt.dutyOf (l : LaneSt) (m : Nat) (num : Int) (den : Nat) : Nat :=
  let c := l.legCarrier m
  let p := l.carrierUnits c
  boundDuty p (l.rd (GATE.TIMING.MIN_PULSE m) * 16) (l.on (GATE.CAR_CTRL.FULL c)) (qdiv (p * num) den)

/-- Note since when the high side of leg `m` is on without its low side. -/
def LaneSt.setHi (l : LaneSt) (m : Nat) (t : Option Nat) : LaneSt :=
  { l with gate := { l.gate with hiSince := l.gate.hiSince.setIfInBounds m t } }

/-- Bootstrap refresh of a leg that switches: a high side on for longer than HOLD gets its low-side refresh in the
period that starts (R260). -/
def LaneSt.refresh (l : LaneSt) (m period : Nat) : LaneSt :=
  let st := l.rd (GATE.STATUS.STATE m)
  if st ≠ 1 ∧ st ≠ 4 then l.setHi m none
  else
    let l := l.wr (GATE.STATUS.STATE m) 1
    if l.onTime m < period then l.setHi m none
    else match l.gate.hiSince.getD m none with
    | none => l.setHi m (some l.run)
    | some t =>
      if l.rd (GATE.BOOT.HOLD m) * 10000 < l.run - t then
        (((l.wr (GATE.STATUS.STATE m) 4).satInc 12 (GATE.COUNTS.REFRESHES m))).setHi m (some l.run)
      else l

/-- The alignment of a carrier to lane time (R244): the error shown, the next period's change, ALIGNED. -/
def LaneSt.align (l : LaneSt) (c : Nat) (err : Int) : LaneSt :=
  let slew : Int := l.rd (GATE.CAR_CTRL.SLEW c)
  let was := l.on (GATE.CAR_STATUS.ALIGNED c)
  let l := (l.inc (GATE.CAR_COUNT.PERIODS c)).wrSat (GATE.CAR_STATUS.ALIGN_ERR c) err
  let l : LaneSt := { l with gate := { l.gate with
    adj := l.gate.adj.setIfInBounds c (max (-slew) (min slew (qdiv (-err * 16) 5))) } }
  if err.natAbs ≤ 1000 then l.wr (GATE.CAR_STATUS.ALIGNED c) 1
  else
    let l := l.wr (GATE.CAR_STATUS.ALIGNED c) 0
    if was then l.fault 0x190 c else l

/-- What channel `n` does at a valley of its carrier: it parks its winding (R196), or its gates are enabled (R194, R190,
R264); its duties load. -/
def LaneSt.valleyChannel (l : LaneSt) (n : Nat) : LaneSt :=
  let g := l.gateCh n
  let l :=
    if g.park then (l.windingSafe n).setComm n (fun c => { c with rested := true })
    else if g.resume && l.isMember && l.isMotor n && !l.shortHeld n then
      let l := if l.rd (COMM.STATUS.WSTATE n) = 4 then l.satInc 8 (COMM.COUNTS.REACQ_OK n) else l
      l.enableGates n
    else l
  l.loadDuty n

/-- CARRIER_VALLEY of a running carrier, with the alignment error measured there in ns. -/
def LaneSt.valley (l : LaneSt) (c : Nat) (err : Int) : LaneSt :=
  if !l.on (GATE.CAR_CTRL.EN c) then l
  else
    let l := l.align c err
    let l := (List.range 8).foldl (fun l n => if l.rd (COMM.CTRL.CARRIER n) = c then l.valleyChannel n else l) l
    let aux (l : LaneSt) (m : Nat) : Bool := l.rd (GATE.LEG_CTRL.USE m) = 2 && l.rd (GATE.LEG_CTRL.CARRIER m) = c
    let l := (List.range 24).foldl (fun l m => if aux l m then l.loadAux m else l) l
    (List.range 24).foldl (fun l m =>
      if aux l m || (l.rd (GATE.LEG_CTRL.USE m) = 1 && l.rd (COMM.CTRL.CARRIER (m / 3)) = c)
      then l.refresh m (l.carrierUnits c) else l) l

def execCarrierValley (l : LaneId) (c : Fin 8) (alignErr : Int) (s : State) : Host.Outcome State Fault Refusal :=
  onLane l (fun x => x.valley c.val alignErr) s

/-! ## Choppers and overvoltage (R261 to R266) -/

/-- The VDC of the lane: the value of AIN48, signed Q16.16 V (R228). -/
def LaneSt.vdc (l : LaneSt) : Int := l.rdI (ADC.RESULT.VALUE 48)

/-- Compare VDC with a level in 0.1 V. -/
def LaneSt.vdcAt (l : LaneSt) (tenths : Nat) : Bool := decide ((tenths : Int) * 65536 ≤ 10 * l.vdc)

/-- Chopper leg `k` is enabled, and no shutdown of it runs (R32). -/
def LaneSt.chpEnabled (l : LaneSt) (k : Nat) : Bool :=
  !(if k = 0 then l.gate.chpStop.1 else l.gate.chpStop.2) && l.on (if k = 0 then GATE.CHP_CTRL.EN0 else GATE.CHP_CTRL.EN1) && l.rd (GATE.LEG_CTRL.USE (24 + k)) = 3

/-- Chopper leg `k` is latched faulty or latched off, or its low side is. -/
def LaneSt.chpFaulty (l : LaneSt) (k : Nat) : Bool :=
  bit (l.rd GATE.OV_STATUS.CHP_FAULT) k || l.rd (GATE.STATUS.STATE (24 + k)) = 5 || l.on (GATE.STATUS.L_LATCHED (24 + k))

/-- The lane's chopper is unusable: every enabled leg is faulty, and one is enabled (R262). -/
def LaneSt.chopLost (l : LaneSt) : Bool :=
  (l.chpEnabled 0 || l.chpEnabled 1) && (List.range 2).all (fun k => !l.chpEnabled k || l.chpFaulty k)

/-- f of R263 in Q1.15, from OV1 while the chopper is unusable. -/
def LaneSt.regenF (l : LaneSt) : Nat :=
  let ovS := l.rd (if l.on GATE.OV_STATUS.FROM_OV1 then GATE.OV_A.OV1 else GATE.OV_A.OV2)
  let ov3 := l.rd GATE.OV_B.OV3
  if 10 * l.vdc ≤ (ovS : Int) * 65536 then 0x8000
  else if l.vdcAt ov3 then 0
  else (qdiv (((ov3 : Int) * 65536 - 10 * l.vdc) * 32768) ((ov3 - ovS) * 65536)).toNat

/-- The chopper's usability shown: FROM_OV1, f, DEGRADE CHOP (R262, R263). -/
def LaneSt.judgeChop (l : LaneSt) : LaneSt :=
  let l := l.wrB GATE.OV_STATUS.FROM_OV1 l.chopLost
  (l.wr GATE.OV_STATUS.F l.regenF).setDegrade 5 l.chopLost

/-- Switch chopper leg `k`: its low side on or off, and the start of the interval. -/
def LaneSt.setChp (l : LaneSt) (k : Nat) (b : Bool) : LaneSt :=
  let l := l.setLeg (24 + k) (if b then 2 else 0)
  let l := l.wr GATE.OV_STATUS.CHP_ON (setBit (l.rd GATE.OV_STATUS.CHP_ON) k b)
  { l with gate := { l.gate with
      chpSince := if k = 0 then (l.run, l.gate.chpSince.2) else (l.gate.chpSince.1, l.run),
      chpChecked := if k = 0 then (false, l.gate.chpChecked.2) else (l.gate.chpChecked.1, false) } }

/-- A chopper fault latches the leg off (R258, R262). -/
def LaneSt.chpLatch (l : LaneSt) (k : Nat) : LaneSt :=
  let l := (l.setChp k false).wr GATE.OV_STATUS.CHP_FAULT (setBit (l.rd GATE.OV_STATUS.CHP_FAULT) k true)
  ((l.setLeg (24 + k) 5).satInc 12 GATE.GATE_COUNTS.CHOP).judgeChop

/-- Time since the last change of chopper leg `k`. -/
def LaneSt.chpFor (l : LaneSt) (k : Nat) : Nat := l.run - (if k = 0 then l.gate.chpSince.1 else l.gate.chpSince.2)

/-- An enabled chopper turns on at OV1 and off at OV1 − HYST, each interval lasting at least MINT (R261). The leg a
tripped OV4 comparator turned on stays on (R265); a die in its force-safe state, and gates held off, keep it off (R243,
R386). -/
def LaneSt.chopper (l : LaneSt) (k : Nat) : LaneSt :=
  if !l.chpEnabled k || l.chpFaulty k || l.on FLT.STATUS.FATAL || bit (l.rd GATE.DIE_STATUS.OV4) k || l.dieHeld k
      || l.pulledDown || l.inHold then l
  else
    let isOn := bit (l.rd GATE.OV_STATUS.CHP_ON) k
    let free : Bool := decide (l.rd GATE.CHP_CTRL.MINT * 1000 ≤ l.chpFor k)
    let ov1 := l.rd GATE.OV_A.OV1
    if !isOn && free && l.vdcAt ov1 then l.setChp k true
    else if isOn && free && 10 * l.vdc ≤ ((ov1 : Int) - l.rd GATE.OV_CTRL.HYST) * 65536 then l.setChp k false
    else l

/-- The overvoltage zone of VDC (R273). -/
def LaneSt.zone (l : LaneSt) : Nat :=
  if l.vdcAt (l.rd GATE.OV_B.OV3) then 3 else if l.vdcAt (l.rd GATE.OV_A.OV2) then 2
  else if l.vdcAt (l.rd GATE.OV_A.OV1) then 1 else 0

/-- OV3: every MOTOR bridge of the lane in its active short (R264). -/
def LaneSt.ov3 (l : LaneSt) : LaneSt :=
  let l := l.wr GATE.OV_STATUS.OV3_ACTIVE 1
  let l := (List.range 8).foldl (fun l n =>
    if !l.isMotor n then l
    else
      let was := l.rd (COMM.STATUS.WSTATE n) = 1 || (l.gateCh n).resume
      (l.activeShort n).setGateCh n (fun g => { g with ov3 := was })) l
  (l.satInc 12 GATE.GATE_COUNTS.OV3).fault 0x18C 0

/-- What a new value of AIN48 sets off: zone, choppers, f, OV3. With every leg OFF the OV registers are ignored
(R266). -/
def LaneSt.vdcNew (l : LaneSt) : LaneSt :=
  if (List.range 26).all (fun m => l.rd (GATE.LEG_CTRL.USE m) = 0) then l
  else
    let z := l.zone
    let l := if l.rd GATE.OV_STATUS.ZONE = z then l else (l.wr GATE.OV_STATUS.ZONE z).raise 14 3
    let l := ((l.chopper 0).chopper 1).judgeChop
    if z = 3 && !l.on GATE.OV_STATUS.OV3_ACTIVE && l.vote.readmit != .proof then l.ov3 else l

/-- A chopper current result held at `hold`, ns of running time: the first one at least 5 µs after turn-on must reach OPEN_PCT
percent of VDC / R (R262). -/
def LaneSt.chpCurrent (l : LaneSt) (k hold : Nat) : LaneSt :=
  let since := if k = 0 then l.gate.chpSince.1 else l.gate.chpSince.2
  let done := if k = 0 then l.gate.chpChecked.1 else l.gate.chpChecked.2
  if !bit (l.rd GATE.OV_STATUS.CHP_ON) k || done || hold < since + 5000 then l
  else
    let l : LaneSt := { l with gate := { l.gate with
      chpChecked := if k = 0 then (true, l.gate.chpChecked.2) else (l.gate.chpChecked.1, true) } }
    let r : Int := l.rd (if k = 0 then GATE.CHP_RES.R0 else GATE.CHP_RES.R1)
    if l.rdI (ADC.RESULT.VALUE (50 + k)) * r < (l.rd GATE.CHP_CTRL.OPEN_PCT : Int) * l.vdc
    then (l.chpLatch k).fault 0x18A k else l

/-- CHOP_SHORTED: current above OFF_I for 10 µs while commanded off (R262). -/
def LaneSt.chopShorted (l : LaneSt) (k : Nat) : LaneSt :=
  if l.rd (GATE.LEG_CTRL.USE (24 + k)) ≠ 3 ∨ bit (l.rd GATE.OV_STATUS.CHP_ON) k ∨ bit (l.rd GATE.OV_STATUS.CHP_FAULT) k
  then l else (l.chpLatch k).fault 0x18B k

def execChopShorted (l : LaneId) (leg : Fin 2) (s : State) : Host.Outcome State Fault Refusal :=
  onLane l (fun x => x.chopShorted leg.val) s

/-- OV3_RELEASE: VDC has stayed below OV2 for REL × 100 µs; the bridges switch again from the next valley (R264). A bridge
that was not driving when OV3 struck stays in its short (DESIGN CHOICE, log entry 52). -/
def LaneSt.ov3Release (l : LaneSt) : LaneSt :=
  if !l.on GATE.OV_STATUS.OV3_ACTIVE ∨ l.vdcAt (l.rd GATE.OV_A.OV2) then l
  else
    let l := l.wr GATE.OV_STATUS.OV3_ACTIVE 0
    (List.range 8).foldl (fun l n =>
      if (l.gateCh n).ov3 then l.setGateCh n (fun g => { g with ov3 := false, resume := true }) else l) l

def execOv3Release (l : LaneId) (s : State) : Host.Outcome State Fault Refusal := onLane l LaneSt.ov3Release s

/-- OV4_TRIP of a die: its MOTOR bridges in their active short, its usable chopper on unless the die is held in its
force-safe state, latched (R265). While a proof holds the gates off, and in HOLD with the comparators off, the function is absent (R386, R442; DEDUCED, log
entry 57). -/
def LaneSt.ov4Trip (l : LaneSt) (die : Nat) : LaneSt :=
  if bit (l.rd GATE.DIE_STATUS.OV4) die ∨ l.vote.readmit = .proof ∨ l.inHold then l
  else
    let l := (List.range 4).foldl (fun l i => if l.isMotor (4 * die + i) then l.activeShort (4 * die + i) else l) l
    let l := if l.chpEnabled die && !l.chpFaulty die && !l.dieHeld die then l.setChp die true else l
    let l := l.wr GATE.DIE_STATUS.OV4 (setBit (l.rd GATE.DIE_STATUS.OV4) die true)
    ((l.wr GATE.OV_STATUS.OV4_LATCHED 1).satInc 12 GATE.GATE_COUNTS.OV4).fault 0x18D die

def execOv4Trip (l : LaneId) (die : Fin 2) (s : State) : Host.Outcome State Fault Refusal :=
  onLane l (fun x => x.ov4Trip die.val) s

/-- VGD_LOSS: a lane fatal loss of supply; without VGD every gate is held off (R266, R106). -/
def LaneSt.vgdLoss (l : LaneSt) : LaneSt :=
  if !l.on GATE.DIE_STATUS.VGD_OK then l
  else
    let l := (l.wr GATE.DIE_STATUS.VGD_OK 0).fault 0x18E 0
    ((List.range 8).foldl (fun l n => if l.isMotor n then l.windingOff n else l) l).gatesDown

def execVgdLoss (l : LaneId) (s : State) : Host.Outcome State Fault Refusal := onLane l LaneSt.vgdLoss s

/-! ## Force-safe (R243) -/

/-- FORCE_SAFE: the die's force-safe line is asserted. -/
def LaneSt.forceSafe (l : LaneSt) (die : Nat) : LaneSt :=
  (l.wr GATE.DIE_STATUS.FORCE (setBit (l.rd GATE.DIE_STATUS.FORCE) die true)).dieSafe die

def execForceSafe (l : LaneId) (die : Fin 2) (s : State) : Host.Outcome State Fault Refusal :=
  onLane l (fun x => x.forceSafe die.val) s

/-- EDGE_LINK: the die's edge link fails its check for 200 ns. -/
def LaneSt.edgeLink (l : LaneSt) (die : Nat) : LaneSt :=
  ((l.wr GATE.DIE_STATUS.LINK (setBit (l.rd GATE.DIE_STATUS.LINK) die false)).dieSafe die).fault 0x18F die

def execEdgeLink (l : LaneId) (die : Fin 2) (s : State) : Host.Outcome State Fault Refusal :=
  onLane l (fun x => x.edgeLink die.val) s

/-! ## Switch events (R250 to R258) -/

/-- Step 1 of R255: at once every switch of the other side off through its soft-off output; the named side follows as soon
as R249 lets it. -/
def LaneSt.takeShort (l : LaneSt) (n side : Nat) : LaneSt :=
  let l := (l.dropDue n).setGateCh n (fun g => { g with naming := side })
  ((List.range 3).foldl (fun l k =>
    (l.wr (GATE.STATUS.STATE (3 * n + k)) (1 + side)).swOff (6 * n + 2 * k + b2n (side = 2)) true) l).shortStep n

/-- A switch event of a MOTOR leg that names a short side (1 LOW, 2 HIGH): the first one puts the bridge in that short;
one that names the other side turns every switch off, which is fatal; one that names the same side changes nothing
(R255). The result tells whether BRIDGE_NO_SIDE follows. -/
def LaneSt.nameSide (l : LaneSt) (leg side : Nat) : LaneSt × Bool :=
  let n := leg / 3
  let now := l.bridgeSide n
  let l := l.wr (GATE.STATUS.SIDE leg) (l.rd (GATE.STATUS.SIDE leg) ||| side)
  if now = side ∨ now = 3 then (l, false)
  else
    let ev := l.rd (GATE.BRIDGE.EVENTS n) + 1
    let l := l.satInc 12 (GATE.BRIDGE.EVENTS n)
    let l := if 3 ≤ ev then l.wr (GATE.BRIDGE.SHORT_LOCK n) 1 else l
    if now = 0 then (l.takeShort n side, false)
    else
      let l := (l.wr (GATE.BRIDGE.SIDE n) 3).setGateCh n (fun g => { g with naming := 0 })
      ((l.windingOff n).satInc 12 GATE.GATE_COUNTS.NO_SIDE, true)

/-- A switch event of an AUX or CHOPPER leg latches the affected switch off; a second event latches the whole leg
(R258). -/
def LaneSt.latchSwitch (l : LaneSt) (leg : Nat) (low : Bool) : LaneSt :=
  if l.on (GATE.STATUS.H_LATCHED leg) || l.on (GATE.STATUS.L_LATCHED leg) then
    ((l.wr (GATE.STATUS.H_LATCHED leg) 1).wr (GATE.STATUS.L_LATCHED leg) 1).setLeg leg 5
  else (l.swOff (2 * leg + b2n low) false).wr (switchLatchF (2 * leg + b2n low)) 1

/-- The low side of a chopper leg that is latched off no longer chops: the leg is off (R258, R261). -/
def LaneSt.chpIdle (l : LaneSt) (leg : Nat) : LaneSt :=
  if 24 ≤ leg ∧ l.on (GATE.STATUS.L_LATCHED leg) ∧ l.rd (GATE.STATUS.STATE leg) ≠ 5 then (l.setChp (leg - 24) false).judgeChop else l

/-- A switch event with its code, switch, named side and whether it is a chopper fault of R262. A DESAT or COARSE trip turns
the switch off through its soft-off output first (R253). -/
def LaneSt.switchEvent (l : LaneSt) (code leg : Nat) (low : Bool) (side : Nat) (chop : Bool) : LaneSt :=
  let use := l.rd (GATE.LEG_CTRL.USE leg)
  let src := 2 * leg + b2n low
  let l := if use ≠ 0 ∧ (code = 0x182 ∨ code = 0x183) then l.swOff src true else l
  if use = 0 then l
  else if use = 1 then
    let r := l.nameSide leg side
    let l := r.1.fault code src
    if r.2 then l.fault 0x188 (leg / 3) else l
  else
    let l := (l.latchSwitch leg low).chpIdle leg
    let l := if use = 3 ∧ chop ∧ 24 ≤ leg ∧ !bit (l.rd GATE.OV_STATUS.CHP_FAULT) (leg - 24) then l.chpLatch (leg - 24) else l
    l.fault code src

/-- The comparators of a switch work: in HOLD only those of the shorting side of a latched active short (R442). -/
def LaneSt.armed (l : LaneSt) (leg : Nat) (low : Bool) : Bool :=
  !l.inHold || (decide (leg < 24) && l.bridgeSide (leg / 3) = (if low then 1 else 2))

/-- DESAT_TRIP: on the high side it names LOW, on the low side HIGH (R251, R254). -/
def LaneSt.desat (l : LaneSt) (leg : Nat) (low : Bool) : LaneSt :=
  if !l.armed leg low then l else
  let l := if l.rd (GATE.LEG_CTRL.USE leg) = 0 then l
    else (l.wr (if low then GATE.STATUS.DESAT_L leg else GATE.STATUS.DESAT_H leg) 1).satInc 12 (GATE.COUNTS.TRIPS leg)
  l.switchEvent 0x182 leg low (if low then 2 else 1) true

def execDesatTrip (l : LaneId) (leg : Fin 26) (low : Bool) (s : State) : Host.Outcome State Fault Refusal :=
  onLane l (fun x => x.desat leg.val low) s

/-- COARSE_TRIP, with COARSE_EN = 1; the side as for a desaturation trip (R252, R254). -/
def LaneSt.coarse (l : LaneSt) (leg : Nat) (low : Bool) : LaneSt :=
  if l.rd (GATE.LEG_CTRL.USE leg) = 0 ∨ !l.on (GATE.DESAT.COARSE_EN leg) ∨ !l.armed leg low then l
  else
    let l := (l.wr (if low then GATE.STATUS.COARSE_L leg else GATE.STATUS.COARSE_H leg) 1).satInc 12 (GATE.COUNTS.TRIPS leg)
    l.switchEvent 0x183 leg low (if low then 2 else 1) true

def execCoarseTrip (l : LaneId) (leg : Fin 26) (low : Bool) (s : State) : Host.Outcome State Fault Refusal :=
  onLane l (fun x => x.coarse leg.val low) s

/-- INTERLOCK_STUCK of the switch whose gate stays on: it belongs in the short, and the switch that waits for it stays off
(R250, R254). Its gate reads above GOFF until its latch is cleared or it turns on and off again (log entry 56). -/
def LaneSt.interlockStuck (l : LaneSt) (leg : Nat) (low : Bool) : LaneSt :=
  if !l.armed leg low then l else
  let l := if l.rd (GATE.LEG_CTRL.USE leg) = 0 then l
    else (l.wr (if low then GATE.STATUS.ILK_L leg else GATE.STATUS.ILK_H leg) 1).satInc 12 (GATE.COUNTS.ILK leg)
  if l.rd (GATE.LEG_CTRL.USE leg) = 0 then l
  else (l.switchEvent 0x184 leg low (if low then 1 else 2) false).wr (gsF (2 * leg + b2n low)) 1

def execInterlockStuck (l : LaneId) (leg : Fin 26) (low : Bool) (s : State) : Host.Outcome State Fault Refusal :=
  onLane l (fun x => x.interlockStuck leg.val low) s

/-- GATE_STUCK_OFF of a switch that cannot be turned on (R250, R254). -/
def LaneSt.gateStuckOff (l : LaneSt) (leg : Nat) (low : Bool) : LaneSt :=
  if !l.armed leg low then l else
  let l := if l.rd (GATE.LEG_CTRL.USE leg) = 0 then l
    else (l.wr (if low then GATE.STATUS.OFF_L leg else GATE.STATUS.OFF_H leg) 1).satInc 12 (GATE.COUNTS.ILK leg)
  l.switchEvent 0x185 leg low (if low then 2 else 1) true

def execGateStuckOff (l : LaneId) (leg : Fin 26) (low : Bool) (s : State) : Host.Outcome State Fault Refusal :=
  onLane l (fun x => x.gateStuckOff leg.val low) s

/-- BS_UV: a high side whose bootstrap reads below UV is turned off; on a MOTOR leg it names LOW (R260). A bridge that
holds or takes ASC_HIGH turns every switch off, ASC_HIGH_LOST, and takes no high-side short while the bootstrap is low
(R257). -/
def LaneSt.bsUv (l : LaneSt) (leg : Nat) : LaneSt :=
  if l.rd (GATE.LEG_CTRL.USE leg) = 0 ∨ !l.armed leg false then l
  else
    let l := (l.wr (GATE.STATUS.BS_UV leg) 1).swOff (2 * leg) false
    let n := leg / 3
    if l.rd (GATE.LEG_CTRL.USE leg) = 1 ∧ (l.rd (COMM.STATUS.WSTATE n) = 3 ∨ (l.gateCh n).naming = 2) then
      (l.windingOff n).fault 0x187 n
    else l.switchEvent 0x186 leg false 1 false

def execBsUv (l : LaneId) (leg : Fin 26) (s : State) : Host.Outcome State Fault Refusal :=
  onLane l (fun x => x.bsUv leg.val) s

/-! ## Comparator self-test (R267) -/

/-- Setting of a comparator in mV: 0 desaturation, 1 gate-sense, 2 bootstrap. -/
def LaneSt.cmpSetting (l : LaneSt) (leg cmp : Nat) : Nat :=
  if cmp = 0 then l.rd (GATE.DESAT.TH leg) * 10
  else if cmp = 1 then l.rd (GATE.GSENSE.GOFF leg) * 250
  else l.rd (GATE.BOOT.UV leg) * 250

/-- Tolerance of a comparator in mV. -/
def cmpTol (cmp : Nat) : Nat := if cmp = 0 then 30 else 250

/-- Put the sweep of a comparator at a step; none ends it. -/
def LaneSt.setSweep (l : LaneSt) (i : Nat) (st : Option Nat) : LaneSt :=
  let rest := l.gate.sweep.filter (fun x => x.1 ≠ i)
  { l with gate := { l.gate with sweep := match st with
    | none => rest
    | some k => (i, k) :: rest } }

/-- The step of a sweep. -/
def LaneSt.sweepStep (l : LaneSt) (i : Nat) : Nat := ((l.gate.sweep.find? (fun x => x.1 = i)).map (·.2)).getD 0

/-- Change the DIAG self-test of channel `n`. -/
def LaneSt.setTest (l : LaneSt) (n : Nat) (f : CompTest → CompTest) : LaneSt :=
  l.setGateCh n (fun g => { g with test := g.test.map f })

/-- A comparator has been judged: its trip point (mV, none when it did not trip), passed or failed. -/
def LaneSt.cmpResult (l : LaneSt) (leg : Nat) (low : Bool) (cmp : Nat) (trip : Option Int) (pass : Bool) : LaneSt :=
  let n := leg / 3
  let s := 2 * (leg % 3) + b2n low
  let i := if cmp = 2 then 4 else 2 * cmp + b2n low
  let f := if cmp = 2 then GATE.ST_BOOT.H leg
    else if cmp = 0 then (if low then GATE.ST_DESAT.L leg else GATE.ST_DESAT.H leg)
    else (if low then GATE.ST_GSENSE.L leg else GATE.ST_GSENSE.H leg)
  let l := trip.elim l (fun t => l.wrI f t)
  let l := l.wr (GATE.ST_BOOT.PASS leg) (setBit (l.rd (GATE.ST_BOOT.PASS leg)) i pass)
  let l := l.wr (GATE.ST_BOOT.TESTED leg) (setBit (l.rd (GATE.ST_BOOT.TESTED leg)) i true)
  let l := l.setTest n (fun t => { t with
    tested := setBit t.tested (3 * s + cmp) true, failed := setBit t.failed (3 * s + cmp) (!pass) })
  if pass then l else l.fault 0x189 (2 * leg + b2n low)

/-- The legs of STEER bridges. -/
def LaneSt.steerLegs (l : LaneSt) : List Nat :=
  (List.range 24).filter (fun m => l.rd (GATE.LEG_CTRL.USE m) = 1 && l.rd (COMM.CTRL.CLASS (m / 3)) = 0)

/-- The comparators that COMP_TEST tests in one period: three of the high and two of the low switch of each leg (R419). -/
def LaneSt.compTotal (l : LaneSt) : Nat := max 1 (5 * l.steerLegs.length)

/-- A window of the self-test of a switch: its gate is off and the opposite switch has completed its turn-on (R267). -/
def LaneSt.testWindow (l : LaneSt) (leg : Nat) (low : Bool) : Bool :=
  !l.on (gsF (2 * leg + b2n low)) && l.on (gsF (otherSw (2 * leg + b2n low)))

/-- One DAC step of a comparator: step k of 8 forces it to 90 % plus k/7 of 20 % of its setting. An aborted step is
repeated in the next window, and one outside a window tests nothing; the comparator passes when it trips within its
tolerance. Each step, aborted or not, counts as one window used in the record (DESIGN CHOICE, log entry 52). -/
def LaneSt.selftestStep (l : LaneSt) (leg : Nat) (low : Bool) (cmp : Nat) (aborted tripped : Bool) : LaneSt :=
  let n := leg / 3
  let bg := l.on GATE.ST_CTRL.BG_EN && l.rd (COMM.CTRL.CLASS n) = 0
  if 24 ≤ leg ∨ l.rd (GATE.LEG_CTRL.USE leg) ≠ 1 ∨ (low ∧ cmp = 2) ∨ (!bg ∧ (l.gateCh n).test.isNone) ∨
      (aborted = false ∧ l.testWindow leg low = false) then l
  else
    let i := 6 * leg + 3 * b2n low + cmp
    let l := l.setTest n (fun t => { t with
      windows := (t.windows + 1) % 2 ^ 16, aborted := (t.aborted + b2n aborted) % 2 ^ 16 })
    if aborted then l
    else
      let k := l.sweepStep i
      let v := l.cmpSetting leg cmp
      if tripped then
        let off := (v : Int) * (20 * (k : Int) - 70)
        ((l.setSweep i none).cmpResult leg low cmp (some (qdiv ((v : Int) * (630 + 20 * (k : Int))) 700))
          (decide (off.natAbs ≤ cmpTol cmp * 700))).bgWork 4 l.compTotal
      else if k = 7 then ((l.setSweep i none).cmpResult leg low cmp none false).bgWork 4 l.compTotal
      else l.setSweep i (some (k + 1))

/-! ## Test-current scan (R268) -/

/-- VDC below VDC_MIN (R266, R268). -/
def LaneSt.vdcLow (l : LaneSt) : Bool := !l.vdcAt (l.rd GATE.OV_CTRL.VDC_MIN)

/-- Start a scan on channel `n`: every switch off, WSTATE SCAN; with VDC below VDC_MIN no step runs. -/
def LaneSt.scanStart (l : LaneSt) (n : Nat) (startup : Bool) : LaneSt :=
  let l := l.windingOff n
  if l.vdcLow then l.setGateCh n (fun g => { g with scan := some ⟨11, startup, [], 2 ^ 10⟩ })
  else (l.setGateCh n (fun g => { g with scan := some ⟨1, startup, [], 0⟩ })).setWstate n 6

/-- A voltage as the record shows it, in 10 mV units. -/
def tenMv (v : Int) : Int := qdiv (100 * v) 65536

/-- One step of a scan, with the phase voltages as Q16.16 V: its finding and its entry in the record (R268, R270). -/
def ScanSt.next (sc : ScanSt) (u v w : Int) : ScanSt :=
  let k := sc.step
  let ph := if k % 3 = 2 then u else if k % 3 = 0 then v else w
  let pair := if k = 8 then u - v else if k = 9 then v - w else w - u
  let hit : Bool :=
    if k = 1 then decide (65536 < (u - v).natAbs ∨ 65536 < (v - w).natAbs ∨ 65536 < (w - u).natAbs)
    else if k ≤ 4 then decide (2 * ph < 65536)
    else if k ≤ 7 then decide (5 * 65536 < 2 * ph)
    else decide (65536 < pair.natAbs)
  let b := if k = 1 then 9 else k - 2
  let entry := if k = 1 then [tenMv u, tenMv v, tenMv w] else if k ≤ 7 then [tenMv ph] else [tenMv pair]
  { sc with step := k + 1, volts := sc.volts ++ entry, findings := if hit then setBit sc.findings b true else sc.findings }

/-- The result of input `i` crosses from the ADC island to GATE in the PWM island, with `flip` disturbed; what the scan reads
where the word is discarded no rule states: a free value (log entry 48). -/
def LaneSt.scanVolt (l : LaneSt) (i : Nat) (flip : BitVec 72) : Int × LaneSt :=
  let x := l.cross 12 [XWord.make (BitVec.ofNat 64 (l.rd (ADC.RESULT.VALUE i))) flip]
  if x.2.all (·.isSome) then (l.rdI (ADC.RESULT.VALUE i), x.1)
  else
    let f := x.1.fresh
    (toSigned 32 f.1, f.2)

/-- SCAN_STEP on channel `n` while a scan has steps left, on the converted phase voltages, whose words cross with `u`, `v`,
`w` disturbed; after the last one every switch stays off. -/
def LaneSt.scanStep (l : LaneSt) (n : Nat) (u v w : BitVec 72) : LaneSt :=
  match (l.gateCh n).scan with
  | none => l
  | some sc =>
    if sc.step = 0 ∨ 10 < sc.step then l
    else
      let x := l.scanVolt (24 + 3 * n) u
      let y := x.2.scanVolt (25 + 3 * n) v
      let z := y.2.scanVolt (26 + 3 * n) w
      let l := z.2.setGateCh n (fun g => { g with scan := some (sc.next x.1 y.1 z.1) })
      if sc.step = 10 then l.setWstate n 0 else l

/-! ## DIAG (R192, R269, R270) -/

/-- A lane has finished its part of a DIAG. -/
def LaneSt.diagDone (l : LaneSt) (n test : Nat) : Bool :=
  if test = 0 then match (l.gateCh n).test with
    | none => true
    | some t => t.expired || popCount 18 t.tested = 15
  else match (l.gateCh n).scan with
    | none => true
    | some sc => 10 < sc.step

/-- DETAIL and RESULT of a DIAG from the lanes that ran it. -/
def State.diagResult (s : State) (n test lanes : Nat) : Nat × Nat :=
  let ks := LaneId.all.filter (fun k => bit lanes k.num)
  if test = 0 then
    let t (k : LaneId) : CompTest := ((s.lane k).gateCh n).test.getD ⟨0, 0, 0, 0, false⟩
    let tested := (ks.map (fun k => popCount 18 (t k).tested)).sum
    let failed := (ks.map (fun k => popCount 18 (t k).failed)).sum
    (tested + 2 ^ 8 * (15 * ks.length - tested) + 2 ^ 16 * failed, (ks.map (fun k => (t k).failed * 2 ^ (18 * k.num))).sum)
  else
    let f (k : LaneId) : Nat := ((((s.lane k).gateCh n).scan).map (·.findings)).getD 0
    (lanes + 8 * (ks.map (fun k => if f k = 0 then 0 else 2 ^ k.num)).sum, (ks.map (fun k => f k * 2 ^ (16 * k.num))).sum)

/-- The entry of one switch in a self-test block (R270). -/
def LaneSt.cmpEntry (l : LaneSt) (n s : Nat) (t : CompTest) : List (Nat × Nat × Nat) :=
  let leg := 3 * n + s / 2
  let low := s % 2 = 1
  [(8 * s, 2, l.rd (if low then GATE.ST_DESAT.L leg else GATE.ST_DESAT.H leg)),
   (8 * s + 2, 2, l.rd (if low then GATE.ST_GSENSE.L leg else GATE.ST_GSENSE.H leg)),
   (8 * s + 4, 2, if low then 0 else l.rd (GATE.ST_BOOT.H leg)),
   (8 * s + 6, 1, (t.tested - (t.tested &&& t.failed)) / 2 ^ (3 * s) % 8 + 8 * (t.tested / 2 ^ (3 * s) % 8))]

/-- The block of one lane in a DIAG record, offsets from the block start. -/
def LaneSt.diagBlock (l : LaneSt) (n test : Nat) : List (Nat × Nat × Nat) :=
  if test = 0 then
    let t := (l.gateCh n).test.getD ⟨0, 0, 0, 0, false⟩
    (List.range 6).flatMap (fun s => l.cmpEntry n s t) ++ [(48, 2, t.windows), (50, 2, t.aborted)]
  else
    let sc := ((l.gateCh n).scan).getD ⟨11, false, [], 0⟩
    (sc.volts.zipIdx.map (fun v => (2 * v.2, 2, ofSigned 16 v.1))) ++ [(24, 2, sc.findings)]

/-- The DIAG record and its length. -/
def State.diagRecord (s : State) (n test lanes tag : Nat) : Nat × List (Nat × Nat × Nat) :=
  let size := if test = 0 then 64 else 32
  let ks := LaneId.all.filter (fun k => bit lanes k.num)
  (16 + size * ks.length,
   [(0, 1, test), (1, 1, n), (2, 1, lanes), (4, 4, tag)]
     ++ ks.zipIdx.flatMap (fun k => ((s.lane k.1).diagBlock n test).map (fun f => (16 + size * k.2 + f.1, f.2))))

/-- Complete the DIAG of channel `n` in every member once every member has executed it and every named lane that is still a member has finished; the
lead writes the record when DST is not 0 (R269, R270). -/
def State.diagSettle (s : State) (n : Nat) : State :=
  LaneId.all.foldl (fun s' k =>
    match ((s.lane k).ch n).diag with
    | none => s'
    | some g =>
      if LaneId.all.all (fun j => !bit (s.lane k).members j.num ||
          (((s.lane j).ch n).diag.any (fun h => h.d.sg = g.d.sg && h.d.seq = g.d.seq)
            && (!bit g.lanes j.num || (s.lane j).diagDone n g.test))) then
        let r := s.diagResult n g.test g.lanes
        let x := s'.lane k
        let rec' := s.diagRecord n g.test g.lanes g.d.tag
        let x := if x.isLead ∧ g.dst ≠ 0 then x.post g.dst rec'.1 rec'.2 else x
        let x := x.complete g.d stOk r.1 r.2
        let x := x.setComm n (fun c => { c with diag := none })
        s'.setLane k (x.setGateCh n (fun q => { q with test := none, scan := q.scan.filter (·.startup) }))
      else s') s

/-- Which reason denies a DIAG on channel `ch`, by the table of R269. -/
def LaneSt.diagDenied (l : LaneSt) (ch test lanes : Nat) : Option (Nat × Nat) :=
  let absent := lanes - (lanes &&& l.members)
  let st := l.chState ch
  if absent ≠ 0 then some (0x0C, absent)
  else if l.rd (COMM.CTRL.CLASS ch) ≠ test ∨ (test = 1 ∧ st ≠ 0) ∨ (test = 0 ∧ st = 5) then some (0x09, 0)
  else match (l.ch ch).diag, (l.gateCh ch).scan with
    | some g, _ => some (0x55, g.test)
    | none, some sc => if sc.startup then some (0x55, 0xFF) else none
    | none, none => if st = 1 ∧ (l.ch ch).step = 3 then some (0x55, 0xFF) else none

/-- A DIAG descriptor in one lane (R269): the named lanes start the test. -/
def LaneSt.diag (l : LaneSt) (d : Decided) (ch test lanes dst : Nat) : LaneSt :=
  l.permitted d [l.permSetup, l.diagDenied ch test lanes] (fun l =>
    let l := l.setComm ch (fun c => { c with diag := some ⟨d, test, lanes, dst⟩ })
    if !bit lanes l.id.num then l
    else if test = 0 then l.setGateCh ch (fun g => { g with test := some ⟨0, 0, 0, 0, false⟩ })
    else l.scanStart ch false)

/-- A DIAG with a given TEST. -/
def DescOp.isDiag (t : Nat) : DescOp → Bool
  | .diag _ test _ _ => test = t
  | _ => false

/-- The channel a descriptor names. -/
def DescOp.chan : DescOp → Nat
  | .diag ch _ _ _ => ch
  | _ => 0

/-- Execute the next DIAG of a lane and settle the channel's. -/
def diagExec (k : LaneId) (t : Nat) (s : State) : State :=
  let s := s.setLane k ((s.lane k).withDesc (DescOp.isDiag t) (fun d op l => match op with
    | .diag ch test lanes dst => l.diag d ch test lanes dst
    | _ => l))
  (List.range 8).foldl State.diagSettle s

def execDiagComparatorSelftest (l : LaneId) (s : State) : Host.Outcome State Fault Refusal := .next (diagExec l 0 s)

def execDiagTestCurrentScan (l : LaneId) (s : State) : Host.Outcome State Fault Refusal := .next (diagExec l 1 s)

/-- DIAG_SELFTEST_TIMEOUT: a self-test not finished within 1 s ends with the untested comparators counted (R269). -/
def diagTimeout (k : LaneId) (ch : Nat) (s : State) : State :=
  (s.setLane k ((s.lane k).setTest ch (fun t => { t with expired := true }))).diagSettle ch

def execDiagSelftestTimeout (l : LaneId) (ch : Fin 8) (s : State) : Host.Outcome State Fault Refusal :=
  .next (diagTimeout l ch.val s)

def execComparatorSelftestStep (l : LaneId) (leg : Fin 26) (low : Bool) (cmp : Fin 3) (aborted tripped : Bool)
    (s : State) : Host.Outcome State Fault Refusal :=
  .next ((s.setLane l ((s.lane l).selftestStep leg.val low cmp.val aborted tripped)).diagSettle (leg.val / 3))

end Sys2Proof.Machine
end

