-- ==== Sys2Proof/Machine/Adc.lean ====
section
/-!
DEFINITION. Analog acquisition: holds, conversions with correction and scaling, their consumers, calibration, and the
substitution of cores (chapter 09).
-/

namespace Sys2Proof.Machine

open Sys2Proof

/-- Home core of an input (R228). -/
def homeCore (ain : Nat) : Nat := ain % 24

/-- The other core of a pair. -/
def pairCore (c : Nat) : Nat := if c % 2 = 0 then c + 1 else c - 1

/-- The core that converts an input: its home core, or the neighbour while the home core's inputs are moved (R239). -/
def LaneSt.coreOf (l : LaneSt) (ain : Nat) : Nat :=
  if bit (l.rd ADC.STATUS.SUBST) (homeCore ain) then pairCore (homeCore ain) else homeCore ain

/-- Both cores of the pair are retired: its inputs have no converter (R239). -/
def LaneSt.pairLost (l : LaneSt) (c : Nat) : Bool :=
  bit (l.rd ADC.RETIRED.CORES) c && bit (l.rd ADC.RETIRED.CORES) (pairCore c)

/-- The inputs of sequence `s`, ascending (R229). -/
def LaneSt.seqInputs (l : LaneSt) (s : Nat) : List Nat :=
  (List.range 72).filter (fun i =>
    bit (l.rd (if i < 24 then ADC.SQ_MASK_I.MASK s else if i < 48 then ADC.SQ_MASK_V.MASK s else ADC.SQ_MASK_X.MASK s)) (i % 24))

/-- The held values of core `c`. -/
def LaneSt.heldBy (l : LaneSt) (c : Nat) : List Held := l.adc.held.getD c []

/-- Replace the held values of core `c`. -/
def LaneSt.setHeld (l : LaneSt) (c : Nat) (f : List Held → List Held) : LaneSt :=
  { l with adc := { l.adc with held := l.adc.held.setIfInBounds c (f (l.heldBy c)) } }

/-- Some core of the sequence has too few free track-and-hold stages for its inputs (R232). -/
def LaneSt.tooFew (l : LaneSt) (ins : List Nat) : Bool :=
  ins.any (fun i =>
    let c := l.coreOf i
    decide (4 < (l.heldBy c).length + (ins.filter (fun j => l.coreOf j = c)).length))

/-- Order of two held values on a core: by class, the trigger of the sequence; by sequence number; by input (R231). -/
def LaneSt.heldBefore (l : LaneSt) (x y : Held) : Bool :=
  let key (h : Held) : Nat := (l.rd (ADC.SQ_CTRL.TRIG h.sq) * 16 + h.sq) * 128 + h.ain
  decide (key x ≤ key y)

/-- A held value joins those that wait, in the order of R231. -/
def LaneSt.putWaiting (l : LaneSt) (h : Held) : List Held → List Held
  | [] => [h]
  | x :: xs => if l.heldBefore x h then x :: l.putWaiting h xs else h :: x :: xs

/-- The values of one hold join a core: the conversion in progress goes on, the others are put in order. -/
def LaneSt.putHolds (l : LaneSt) (hs : List Held) : List Held → List Held
  | [] => hs.foldl (fun q h => l.putWaiting h q) []
  | x :: xs => x :: hs.foldl (fun q h => l.putWaiting h q) xs

/-- Lane time in ns of the tick event or carrier event that a trigger of sequence `s` now belongs to: the sampling edge 700 ns
ahead less TT_OFFSET, or now less OFFSET × 5 ns. -/
def LaneSt.seqEvent (l : LaneSt) (s : Nat) : Nat :=
  if l.rd (ADC.SQ_CTRL.TRIG s) = 1 then l.ns + 700 - 5 * l.rd (LOOP.TT_OFFSET.EDGES (l.rd (ADC.SQ_CTRL.TT s)))
  else ((l.ns : Int) - 5 * toSigned 16 (l.rd (ADC.SQ_OFFSET.OFFSET s))).toNat

/-- The tick period of a timetable in ns. -/
def LaneSt.tickPeriod (l : LaneSt) (t : Nat) : Nat :=
  if l.rd (LOOP.TT_CTRL.SRC t) = 2 then l.rd (LOOP.TT_PERIOD.US t) * 1000
  else l.rd (GATE.CAR_PERIOD.PERIOD (l.rd (LOOP.TT_CTRL.CARRIER t))) * 5

/-- Whether sequence `s` is to be triggered now (R229): in its ticks or carrier periods; at a multiple of PERIOD, within the
present NET clock of 8 ns; with every core free. -/
def LaneSt.seqDue (l : LaneSt) (s : Nat) : Bool :=
  let trig := l.rd (ADC.SQ_CTRL.TRIG s)
  let p := if trig = 1 then l.tickPeriod (l.rd (ADC.SQ_CTRL.TT s)) else 5 * l.rd (GATE.CAR_PERIOD.PERIOD (l.rd (ADC.SQ_CTRL.CARRIER s)))
  if trig = 1 ∨ trig = 2 then l.seqEvent s / p % 2 ^ l.rd (ADC.SQ_CTRL.DIVLOG s) = l.rd (ADC.SQ_CTRL.PHASE s)
  else if trig = 3 then l.ns % (100 * l.rd (ADC.SQ_PERIOD.PERIOD s)) < 8
  else trig = 4 && (l.seqInputs s).all (fun i => (l.heldBy (l.coreOf i)).isEmpty)

/-- The inputs `ins` of sequence `s` are held by one strobe. -/
def LaneSt.strobe (l : LaneSt) (s : Nat) (ins : List Nat) : LaneSt :=
  (List.range 24).foldl (fun l c =>
    l.setHeld c (l.putHolds ((ins.filter (fun i => l.coreOf i = c)).map (fun i => ⟨i, s, l.ns, none⟩)))) l

/-- SEQUENCE_HOLD: the trigger of sequence `s` strobes the holds of all its inputs, or the whole hold is skipped
(R229, R232); in HOLD the classes 1 and 2 are suspended (R442). -/
def LaneSt.seqHold (l : LaneSt) (s : Nat) : LaneSt :=
  let trig := l.rd (ADC.SQ_CTRL.TRIG s)
  if !l.on ADC.CTRL.EN ∨ !l.seqDue s ∨ (l.inHold ∧ (trig = 1 ∨ trig = 2)) then l
  else
    let ins := (l.seqInputs s).filter (fun i => !l.pairLost (homeCore i))
    if l.tooFew ins then
      if trig = 1 then (l.satInc 11 ADC.COUNTS.LATE).fault 0x163 s
      else (l.satInc 11 (ADC.SQ_COUNTS.SKIPPED s)).fault 0x162 s
    else
      (l.strobe s ins).inc (ADC.SQ_COUNTS.RUNS s)

def execSequenceHold (l : LaneId) (sq : Fin 16) (s : State) : Host.Outcome State Fault Refusal :=
  onLane l (fun x => x.seqHold sq.val) s

/-- Step 1 of R234: the core correction. -/
def LaneSt.corrected (l : LaneSt) (c raw : Nat) : Nat :=
  (max 0 (min 65535 (((raw : Int) - l.rdI (ADC.CORE_CORR.OCOR c)) * l.rd (ADC.CORE_CORR.GCOR c) / 2 ^ 15))).toNat

/-- The zero, in sixteenths of an LSB, and the scale that an input has now. -/
def LaneSt.scaling (l : LaneSt) (i : Nat) : Int × Int :=
  ((l.rd (ADC.IN_ZERO.CODE i) : Int) * 16 + l.rdI (ADC.ZERO_CAL.VALUE i), l.rdI (ADC.IN_SCALE.VALUE i))

/-- Steps 2 and 3 of R234: the zero and the scaling, Q16.16; ZERO_CAL / 16 is taken exactly (log entry 10). A hold
taken before an epoch converts with the old settings (R233). -/
def LaneSt.scaled (l : LaneSt) (h : Held) (code : Nat) : Int :=
  let x := h.old.getD (l.scaling h.ain)
  satSigned 32 (((code : Int) * 16 - x.1) * x.2 / 2 ^ 12)

/-- The VDC cross-check of AIN48 and AIN49 of one hold (R236). -/
def LaneSt.vdcCross (l : LaneSt) : LaneSt :=
  if !l.on ADC.CTRL.VDC_DUAL ∨ l.rd (ADC.STAMP.NS 48) ≠ l.rd (ADC.STAMP.NS 49) then l
  else
    let d := (l.vdc - l.rdI (ADC.RESULT.VALUE 49)).natAbs
    let bad : Bool := decide (l.rd ADC.CTRL.VDC_TOL * l.vdc.natAbs < 100 * d)
    let n := if bad then l.adc.vdcBad + 1 else 0
    let l : LaneSt := { l with adc := { l.adc with vdcBad := min 3 n } }
    if n = 3 then l.fault 0x168 48 else l

/-- What a result held at `hold`, ns of running time, sets off in its consumers (R235, R236). -/
def LaneSt.consumers (l : LaneSt) (i hold : Nat) : LaneSt :=
  if i = 48 then l.vdcNew.vdcCross
  else if i = 49 then l.vdcCross
  else if i = 50 ∨ i = 51 then l.chpCurrent (i - 50) hold
  else l

/-- Move the inputs of core `c` to its neighbour, or back: guests join in the neighbour's order (R239). -/
def LaneSt.moveInputs (l : LaneSt) (c : Nat) (away : Bool) : LaneSt :=
  let l := l.wr ADC.STATUS.SUBST (setBit (l.rd ADC.STATUS.SUBST) c away)
  (l.wrB (ADC.CORE_STATUS.SUBST c) away).wrB (ADC.CORE_STATUS.GUEST (pairCore c)) away

/-- The inputs of a core whose proof begins move away once it has no conversion queued, and back once its neighbour has none
(R239). -/
def LaneSt.judgeMoves (l : LaneSt) : LaneSt :=
  let l := match l.adc.proof with
    | none => l
    | some c => if bit (l.rd ADC.STATUS.SUBST) c ∨ !(l.heldBy c).isEmpty then l else l.moveInputs c true
  match l.adc.back with
  | none => l
  | some c =>
    if !(l.heldBy (pairCore c)).isEmpty then l
    else { l.moveInputs c false with adc := { l.adc with back := none } }

/-- A correction that waits takes effect on core `c` when no value of the hold `h` just converted is left (R237). -/
def LaneSt.takeCorr (l : LaneSt) (c : Nat) (h : Option Held) : LaneSt :=
  match l.adc.newCorr.getD c none with
  | none => l
  | some x =>
    if (l.heldBy c).head?.any (fun y => h.all (fun h => y.sq = h.sq && y.ns = h.ns)) then l
    else
      let l : LaneSt := { l with adc := { l.adc with newCorr := l.adc.newCorr.setIfInBounds c none } }
      (l.wrI (ADC.CORE_CORR.OCOR c) x.1).wr (ADC.CORE_CORR.GCOR c) x.2

/-- A converted value is delivered: RESULT, RAW, STAMP, the LOOP mailbox, the consumers (R234, R235). -/
def LaneSt.deliver (l : LaneSt) (h : Held) (c code : Nat) (clip : Bool) : LaneSt :=
  let i := h.ain
  let l := (l.wrI (ADC.RESULT.VALUE i) (l.scaled h code)).wr (ADC.RAW.CODE i) code
  let l := ((l.wrB (ADC.RAW.CLIP i) clip).wr (ADC.RAW.CORE i) c).wrB (ADC.RAW.T32 i) l.t32
  ((l.wr (ADC.STAMP.NS i) (stampNs l.t32 h.ns)).mailAin i Mailbox.put).consumers i (l.run - (l.ns - h.ns))

/-- CONVERSION_COMPLETE of the value that the core of the input converts, with its raw code: it is corrected, scaled and
delivered as a word that crosses to LOOP with `flip` disturbed; a discarded word leaves the value before it (R19, R231,
R234, R235). -/
def LaneSt.convert (l : LaneSt) (i raw : Nat) (flip : BitVec 72) : LaneSt :=
  let c := l.coreOf i
  match l.heldBy c with
  | [] => l
  | h :: rest =>
    if h.ain ≠ i then l
    else
      let code := l.corrected c raw
      let clip : Bool := raw = 0 ∨ raw = 65535
      let l := l.setHeld c (fun _ => rest)
      let x := l.cross 7 [XWord.make (BitVec.ofNat 64 (ofSigned 32 (l.scaled h code))) flip]
      let l := if x.2.all (·.isSome) then x.1.deliver h c code clip else x.1
      let l := if clip then l.fault 0x164 i else l
      (l.takeCorr c (some h)).judgeMoves

def execConversionComplete (l : LaneId) (ain : Fin 72) (result : Converted) (s : State) :
    Host.Outcome State Fault Refusal := onLane l (fun x => x.convert ain.val result.code.toNat result.flip) s

/-! ## Calibration (R237, R238) -/

/-- A core is retired: its inputs stay on the neighbour, which is no longer proved online; with both retired the pair
is lost (R239). -/
def LaneSt.retireCore (l : LaneSt) (c : Nat) : LaneSt :=
  let p := pairCore c
  let l := (l.moveInputs c true).setHeld c (fun _ => [])
  let l := l.wr ADC.RETIRED.CORES (setBit (l.rd ADC.RETIRED.CORES) c true)
  let l := (l.wr (ADC.CORE_STATUS.STATE c) 2).wr (ADC.CORE_STATUS.UNPROVED p) 1
  let l := l.fault 0x166 c
  if bit (l.rd ADC.RETIRED.CORES) p then l.fault 0x167 (min c p) else l.spareUsed 4

/-- The correction with which references of 0.25 V and 2.25 V that read `lo` and `hi` read their nominal codes: OCOR and GCOR
(R237; a volt is 65,536 / 2.5 codes, DEDUCED, log entry 55). A reading that gives none is out of range. -/
def refCorrection (lo hi : Nat) : Int × Nat :=
  (qdiv (9 * lo - hi) 8, if hi ≤ lo then 0 else (qdiv (32768 * 524288 : Nat) (10 * (hi - lo))).toNat)

/-- ADC_CALIBRATION, a part of background activity 3 (R419): a core forms its correction from its references; one outside
±256 LSB or the gain range retires the core; it takes effect between two holds (R237). -/
def LaneSt.calibrate (l : LaneSt) (c lo hi : Nat) : LaneSt :=
  if !l.on ADC.CTRL.EN ∨ !l.on ADC.CTRL.CAL_EN ∨ bit (l.rd ADC.RETIRED.CORES) c then l
  else
  let l := l.bgWork 3 (24 - popCount 24 (l.rd ADC.RETIRED.CORES))
  let x := refCorrection lo hi
  if 256 < x.1.natAbs ∨ x.2 < 0x7D71 ∨ 0x828F < x.2 then l.retireCore c
  else
    let l : LaneSt := { l with adc := { l.adc with newCorr := l.adc.newCorr.setIfInBounds c (some x) } }
    if (l.heldBy c).isEmpty then l.takeCorr c none else l

def execAdcCalibration (l : LaneId) (core : Fin 24) (low high : BitVec 16) (s : State) :
    Host.Outcome State Fault Refusal :=
  onLane l (fun x => x.calibrate core.val low.toNat high.toNat) s

/-- The start-up proof sets the first correction of every core (R237): a free value within the range of R237, since the
readings are the core's (log entry 55). -/
def LaneSt.firstCorrection (l : LaneSt) : LaneSt :=
  (List.range 24).foldl (fun l c =>
    let x := l.fresh
    let y := x.2.fresh
    (y.2.wrI (ADC.CORE_CORR.OCOR c) ((x.1 % 513 : Nat) - 256 : Int)).wr (ADC.CORE_CORR.GCOR c)
      (0x7D71 + y.1 % (0x828F - 0x7D71 + 1))) l

/-- Every TIMETABLE result of timetable `t` that has not come by the sampling edge is late (R232). -/
def LaneSt.lateResults (l : LaneSt) (t : Nat) : LaneSt :=
  (List.range 16).foldl (fun l s =>
    if l.rd (ADC.SQ_CTRL.TRIG s) = 1 ∧ l.rd (ADC.SQ_CTRL.TT s) = t ∧ l.adc.held.toList.any (fun hs => hs.any (fun h => h.sq = s))
    then (l.satInc 11 ADC.COUNTS.LATE).fault 0x163 s else l) l

end Sys2Proof.Machine
end

