-- ==== Sys2Proof/Machine/Session.lean ====
section
/-!
DEFINITION. Password sessions, lockout and the change log (R410 to R415), and the permission step that needs a session
(R50, R412).
-/

namespace Sys2Proof.Machine

open Sys2Proof

/-! ## The change log (R414, R415) -/

/-- The bytes of a 512-bit digest, first byte first. -/
def digestBytes (d : Nat) : List Byte := toBe 64 d

/-- A time in the layout of AT (R49): seconds in 6 bytes, nanoseconds in 4. -/
def stampBytes (t32 : Bool) (ns : Nat) : List Byte := toLe 6 (stampS t32 ns) ++ toLe 4 (stampNs t32 ns)

/-- Bytes 0 to 63 of a change-log entry of a lane. -/
def LogEntry.head (e : LogEntry) (lane : Nat) : List Byte :=
  toLe 4 e.number ++ toLe 1 e.kind ++ toLe 1 lane ++ toLe 2 0 ++ stampBytes e.t32 e.ns
    ++ toLe 1 (b2n e.t32 + 2 * b2n e.recovered) ++ toLe 1 0 ++ toLe 4 e.arg ++ toLe 4 e.tag ++ toLe 4 0
    ++ toLe 8 e.oldFp ++ toLe 8 e.newFp ++ toLe 16 0

/-- The 128 bytes of a change-log entry. -/
def LogEntry.bytes (e : LogEntry) (lane : Nat) : List Byte := e.head lane ++ digestBytes e.chain

/-- Sixteen words of a 64-byte value into registers `f 0` to `f 15`. -/
def LaneSt.wr512 (l : LaneSt) (f : Nat → Field) (bs : List Byte) : LaneSt :=
  (List.range 16).foldl (fun l i => l.wr (f i) (leAt bs (4 * i) 4)) l

/-- CHAIN of the newest entry: that of the log head, which a full release leaves in place. -/
def LaneSt.logHead (l : LaneSt) : List Byte := (List.range 16).flatMap (fun i => toLe 4 (l.rd (CFG.LOG_HEAD.BYTES i)))

/-- The number of held entries shown, and FULL from 4,032 on (R415). -/
def LaneSt.showLog (l : LaneSt) : LaneSt :=
  (l.wr CFG.LOG_STATUS.HELD l.sec.log.length).wrB CFG.LOG_STATUS.FULL (decide (4032 ≤ l.sec.log.length))

/-- Append a change-log entry; one that finds no free place raises LOG_CHAIN and counts as saturated. -/
def LaneSt.appendLog (l : LaneSt) (kind arg tag oldFp newFp : Nat) (recovered : Bool) : LaneSt :=
  if 4096 ≤ l.sec.log.length then (l.inc (FLT.SATURATED.COUNT 20)).fault 0x284 0
  else
    let e : LogEntry := { number := l.rd CFG.LOG_NUMBER.NUMBER, kind := kind, ns := l.ns, t32 := l.t32,
                          recovered := recovered, arg := arg, tag := tag, oldFp := oldFp, newFp := newFp, chain := 0 }
    let c := (sha512 (l.logHead ++ e.head l.id.num)).toNat
    let l : LaneSt := { l with sec := { l.sec with log := l.sec.log ++ [{ e with chain := c }] } }
    ((l.inc CFG.LOG_NUMBER.NUMBER).wr512 CFG.LOG_HEAD.BYTES (digestBytes c)).showLog

/-! ## Sessions (R410 to R413) -/

/-- The challenge in force, 16 bytes. -/
def LaneSt.challenge (l : LaneSt) : List Byte := (List.range 4).flatMap (fun i => toLe 4 (l.rd (SEC.CHALLENGE.BYTES i)))

/-- The session code of the challenge in force (R411). -/
def LaneSt.sessionCode (l : LaneSt) : Nat :=
  leAt (digestBytes (sha512 (digestBytes l.sec.pwHash ++ l.challenge ++ toLe 3 (l.rd ID.NODE.NODE))).toNat) 0 4

/-- One draw of a challenge: two free values (log entry 7). -/
def LaneSt.drawOnce (l : LaneSt) : LaneSt :=
  let a := l.fresh
  let b := a.2.fresh
  let v := a.1 % 2 ^ 64 + 2 ^ 64 * (b.1 % 2 ^ 64)
  (List.range 4).foldl (fun l i => l.wr (SEC.CHALLENGE.BYTES i) (v / 2 ^ (32 * i))) b.2

/-- A challenge whose code is 0 is drawn again, as often as it takes; the model draws four times at most (log
entry 11). -/
def LaneSt.drawChallenge (l : LaneSt) : LaneSt :=
  (List.range 3).foldl (fun l _ => if l.sessionCode = 0 then l.drawOnce else l) l.drawOnce

/-- The session state sent to the peers (R411, R412). The spec gives the record and not its layout: words 0 and 1 the
challenge, word 2 the handle, SESSION, LOCKED and n, word 3 the end of the lockout in ns (log entry 11). -/
def LaneSt.sendSession (l : LaneSt) : LaneSt :=
  let c := leBytes l.challenge
  l.send 0x1B 0 [c % 2 ^ 64, c / 2 ^ 64,
    l.sec.session.getD 0 + 2 ^ 32 * b2n l.sec.session.isSome + 2 ^ 33 * b2n l.sec.lockUntil.isSome
      + 2 ^ 34 * l.rd SEC.STATUS.FAILS, l.sec.lockUntil.getD 0]

/-- The session and lockout bits of SEC.STATUS. -/
def LaneSt.showSession (l : LaneSt) : LaneSt :=
  ((l.wrB SEC.STATUS.SESSION l.sec.session.isSome).wrB SEC.STATUS.LOCKED l.sec.lockUntil.isSome).wr
    SEC.STATUS.LOCK_LEFT l.lockLeft

/-- The lockout for n wrong attempts, in seconds (R413). -/
def backOff (n : Nat) : Nat := if n < 5 then 0 else min 4096 (2 ^ (n - 5))

/-- The lead's own lockout for its count of wrong attempts runs from now. -/
def LaneSt.startLockout (l : LaneSt) : LaneSt :=
  let b := backOff (l.rd SEC.STATUS.FAILS)
  if b = 0 then l else ({ l with sec := { l.sec with lockUntil := some (l.ns + b * 10 ^ 9) } } : LaneSt).showSession

/-- A wrong attempt in the lead: counted, a new challenge, the lockout from the fifth on, its log entry (R411, R413). -/
def LaneSt.wrongAttempt (l : LaneSt) (tag : Nat) : LaneSt :=
  let n := min 31 (l.rd SEC.STATUS.FAILS + 1)
  let l := ((l.wr SEC.STATUS.FAILS n).satInc 19 SEC.COUNTS.WRONG).drawChallenge.startLockout
  let l := if n = 5 then l.appendLog 0x09 5 tag 0 0 false else l
  (l.sendSession).fault 0x262 0

/-- A session opens with the code as handle (R412). -/
def LaneSt.openSession (l : LaneSt) (h : Nat) : LaneSt :=
  let l : LaneSt := { l with sec := { l.sec with session := some h } }
  (((l.wr SEC.STATUS.FAILS 0).satInc 19 SEC.COUNTS.SESSIONS).showSession).sendSession

/-- The table of R412 in one lane, without what it changes: passes, opens a session, is locked out with the seconds
left, or is a wrong attempt. -/
inductive SessionResult where
  | pass
  | opens
  | locked (left : Nat)
  | wrong
  deriving DecidableEq, Repr

/-- The row of the table of R412 that applies to a SESSION field. -/
def LaneSt.sessionRow (l : LaneSt) (h : Nat) : SessionResult :=
  if l.sec.session = some h then .pass
  else match l.sec.lockUntil with
  | some _ => .locked l.lockLeft
  | none => if l.sec.session.isNone ∧ h = l.sessionCode then .opens else .wrong

/-- An attempt passes: no wrong attempt is counted any longer; the peers learn of it (R413). -/
def LaneSt.resetFails (l : LaneSt) : LaneSt :=
  if l.rd SEC.STATUS.FAILS = 0 then l else (l.wr SEC.STATUS.FAILS 0).sendSession

/-- The session step of the lead. -/
def LaneSt.sessionLead (l : LaneSt) (d : Decided) : LaneSt × Option (Nat × Nat) :=
  match l.sessionRow d.session with
  | .pass => (({ l with sec := { l.sec with idleFrom := l.ns } } : LaneSt).resetFails, none)
  | .opens => (({ l with sec := { l.sec with idleFrom := l.ns } } : LaneSt).openSession d.session, none)
  | .locked left => (l, some (0x4C, left))
  | .wrong => (l.wrongAttempt d.tag, some (0x07, 0))

/-- What the lead has decided on a descriptor, if it has executed it: none, or its denial for want of a session. -/
def State.leadSession (s : State) (k : LaneId) (d : Decided) : Option (Option (Nat × Nat)) :=
  match (s.lane k).vote.lead with
  | none => none
  | some j =>
    if j = k then none
    else ((s.lane j).hif.staged.find? (fun c => c.sg = d.sg && c.seq = d.found)).map (fun c =>
      if c.status = stDenied ∧ (c.detail / 2 ^ 8 % 2 ^ 8 = 0x07 ∨ c.detail / 2 ^ 8 % 2 ^ 8 = 0x4C)
      then some (c.detail / 2 ^ 8 % 2 ^ 8, c.detail / 2 ^ 16) else none)

/-- The session step of a member: the lead decides it; a member whose own result differs raises ENGINE_CHECK, and keeps the
idle timer of a session that passes. Before
the lead has executed the descriptor the member goes by its own check, and counts nothing (log entry 11). -/
def LaneSt.sessionMember (l : LaneSt) (lead : Option (Option (Nat × Nat))) (d : Decided) :
    LaneSt × Option (Nat × Nat) :=
  let own : Option (Nat × Nat) := match l.sessionRow d.session with
    | .pass => none
    | .opens => none
    | .locked left => some (0x4C, left)
    | .wrong => some (0x07, 0)
  match lead with
  | none => (l, own)
  | some r =>
    let l : LaneSt := if r.isNone then { l with sec := { l.sec with idleFrom := l.ns } } else l
    (if r.isSome = own.isSome then l else l.fault 0x264 0, r)

/-- Run an effect when the permission checks before the session, the session check and those after it all pass, else
complete DENIED with the first that fails (R50). -/
def LaneSt.permittedSession (l : LaneSt) (lead : Option (Option (Nat × Nat))) (d : Decided)
    (before after : List (Option (Nat × Nat))) (f : LaneSt → LaneSt) : LaneSt :=
  match firstDenied before with
  | some (code, arg) => l.deny d code arg
  | none =>
    let r := if l.isLead then l.sessionLead d else l.sessionMember lead d
    match r.2 with
    | some (code, arg) => r.1.deny d code arg
    | none => r.1.permitted d after f

/-- The open session closes, in the lead, with a new challenge. -/
def LaneSt.closeSession (l : LaneSt) : LaneSt :=
  let l : LaneSt := { l with sec := { l.sec with session := none } }
  (l.drawChallenge.showSession).sendSession

/-- SESSION_TIMEOUT: SESS_TMO has passed without a passing descriptor (R412). -/
def execSessionTimeout (l : LaneId) (s : State) : Host.Outcome State Fault Refusal :=
  onLane l (fun x => if x.isLead ∧ x.sec.session.isSome ∧ x.sec.idleFrom + x.rd SEC.CTRL.SESS_TMO * 10 ^ 9 ≤ x.ns
    then x.closeSession else x) s

/-- SEC_SYNC of the lead: challenge, session, lockout and n taken over; a session new to the lane starts its idle time; the
log gains LOCKOUT at n = 5 (R411 to R413). -/
def LaneSt.secSync (l : LaneSt) (w : List Dword) : LaneSt :=
  let g (i : Nat) : Nat := (w.getD i 0).toNat
  let c := g 0 + 2 ^ 64 * g 1
  let n := g 2 / 2 ^ 34 % 2 ^ 5
  let was := l.rd SEC.STATUS.FAILS
  let l := (List.range 4).foldl (fun l i => l.wr (SEC.CHALLENGE.BYTES i) (c / 2 ^ (32 * i))) l
  let open_ : Option Nat := if bit (g 2) 32 then some (g 2 % 2 ^ 32) else none
  let l : LaneSt := { l with sec := { l.sec with
      session := open_, idleFrom := if l.sec.session = open_ then l.sec.idleFrom else l.ns,
      lockUntil := if bit (g 2) 33 then some (g 3) else none } }
  let l := (l.wr SEC.STATUS.FAILS n).showSession
  if n = 5 ∧ was < 5 then l.appendLog 0x09 5 0 0 0 false else l

def execSecSyncReceive (l : LaneId) (src : Arrival) (words : List Dword) (s : State) : Host.Outcome State Fault Refusal :=
  onReceive l src (fun x => if x.vote.lead ≠ some src.lane then x else x.secSync words) s

/-- LOCKOUT_END: the back-off has run out; the next attempt is examined. -/
def execLockoutEnd (l : LaneId) (s : State) : Host.Outcome State Fault Refusal :=
  onLane l (fun x => if x.sec.lockUntil.any (fun t => decide (x.ns < t)) then x else ({ x with sec := { x.sec with lockUntil := none } } : LaneSt).showSession) s

end Sys2Proof.Machine
end

