-- ==== Sys2Proof/Machine/Fbk.lean ====
section
/-!
DEFINITION. Feedback ports: the position count and its ledger, quadrature, Hall, SSI and SENT decoding, velocity, index,
reference and probe latches, pass-through outputs, port states (chapter 08).
-/

namespace Sys2Proof.Machine

open Sys2Proof

/-- The FBK sample of the present instant: one every 10 ns of running time (R202). -/
def LaneSt.sample (l : LaneSt) : Nat := l.run / 10

/-- The state of a port that is no register. -/
def LaneSt.port (l : LaneSt) (p : Nat) : FbkPort := l.fbk.port.getD p .reset

/-- Change the state of a port that is no register. -/
def LaneSt.setPort (l : LaneSt) (p : Nat) (f : FbkPort → FbkPort) : LaneSt :=
  { l with fbk := { l.fbk with port := l.fbk.port.setIfInBounds p (f (l.port p)) } }

/-- Counts per revolution of a port; 0 stands for 2^32 (R226). -/
def LaneSt.cprOf (l : LaneSt) (p : Nat) : Nat := if l.rd (FBK.CPR.COUNT p) = 0 then 2 ^ 32 else l.rd (FBK.CPR.COUNT p)

/-- `n` reduced modulo `m` into [−⌊m/2⌋, ⌈m/2⌉). -/
def signedMod (n : Int) (m : Nat) : Int :=
  let r := n % (m : Int)
  if r < ((m : Int) + 1) / 2 then r else r - m

/-- Port states of R220. -/
def portOff : Nat := 0
def portAcquire : Nat := 1
def portTrack : Nat := 2
def portUncertain : Nat := 3
def portBypassed : Nat := 4

/-- A port counts in ACQUIRE, TRACK and UNCERTAIN (R221). -/
def LaneSt.portCounts (l : LaneSt) (p : Nat) : Bool := 1 ≤ l.rd (FBK.STATUS.STATE p) && l.rd (FBK.STATUS.STATE p) ≤ 3

/-- ABS_KNOWN is 1 only in TRACK with STALE = 0 (R220). -/
def LaneSt.judgeAbs (l : LaneSt) (p : Nat) : LaneSt :=
  l.wrB (FBK.STATUS.ABS_KNOWN p) (decide (l.rd (FBK.STATUS.STATE p) = portTrack) && !l.on (FBK.STATUS.STALE p))

/-- The angle state of channel `n`. -/
def LaneSt.ang (l : LaneSt) (n : Nat) : AngSt := l.loop.ang.getD n .reset

/-- Change the angle state of channel `n`. -/
def LaneSt.setAng (l : LaneSt) (n : Nat) (f : AngSt → AngSt) : LaneSt :=
  { l with loop := { l.loop with ang := l.loop.ang.setIfInBounds n (f (l.ang n)) } }

/-- A port stops being a valid source: as a source of a channel it stays lost until the channel next passes through STARTING
(R184). -/
def LaneSt.sourceBad (l : LaneSt) (p : Nat) : LaneSt :=
  (List.range 8).foldl (fun l n =>
    let b := (l.ang n).bad
    l.setAng n (fun a => { a with bad := (b.1 || l.rd (COMM.SRC.PORT_P n) = p, b.2 || l.rd (COMM.SRC.PORT_S n) = p) })) l

/-- POS = POS_RAW + OFFSET, put into the mailbox of the port (R206, R18); a bypassed port keeps it frozen (R220). -/
def LaneSt.setPos (l : LaneSt) (p : Nat) : LaneSt :=
  if l.rd (FBK.STATUS.STATE p) = portBypassed then l
  else (l.wrI (FBK.POS.VALUE p) (l.rdI (FBK.POS_RAW.VALUE p) + l.rdI (FBK.OFFSET.VALUE p))).mailPort p Mailbox.put

/-- OFFSET changes (R207). -/
def LaneSt.setOffset (l : LaneSt) (p : Nat) (v : Int) : LaneSt :=
  ((l.setPort p (fun q => { q with offAt := some (l.sample, l.rdI (FBK.OFFSET.VALUE p)) })).wrI (FBK.OFFSET.VALUE p) v).setPos p

/-- The POS that a latch takes: in the sample of a change of OFFSET the position before it (R223). -/
def LaneSt.latchPos (l : LaneSt) (p : Nat) : Int :=
  match (l.port p).offAt with
  | none => l.rdI (FBK.POS.VALUE p)
  | some (t, o) => if t = l.sample then l.rdI (FBK.POS_RAW.VALUE p) + o else l.rdI (FBK.POS.VALUE p)

/-- RAW_ANGLE (R207). -/
def LaneSt.rawAngle (l : LaneSt) (p : Nat) : Nat :=
  if l.rd (FBK.CTRL.MODE p) = 1 then
    (((l.rd (FBK.ANGLE_CNT.VALUE p) : Int) - l.rd (FBK.INDEX_REF.VALUE p)) % (l.cprOf p : Int)).toNat
  else l.rd (FBK.ANGLE_CNT.VALUE p)

/-! ## Velocity (R219) -/

/-- FB_VEL: between the oldest and the newest change within VEL.WIN, or between the last two when only one lies within;
0 when no change has come for VEL.TMO. With fewer than two changes stamped since the ledger started the rule gives no
value and the model takes 0; with none within the window it keeps the last two (DESIGN CHOICE, log entry 52). -/
def LaneSt.fbVel (l : LaneSt) (p : Nat) : Int :=
  let now := l.sample
  match (l.port p).changes with
  | (t0, x0) :: (t1, x1) :: rest =>
    if l.rd (FBK.VEL.TMO p) * 100 ≤ now - t0 then 0
    else
      let win := ((t1, x1) :: rest).filter (fun c => now - c.1 ≤ l.rd (FBK.VEL.WIN p) * 100)
      let o := win.getLast?.getD (t1, x1)
      if t0 = o.1 then l.rdI (FBK.VELOCITY.VALUE p) else satSigned 32 (qdiv ((x0 - o.2) * 10 ^ 8) (t0 - o.1))
  | _ => 0

/-- Update the velocity register; a bypassed port keeps it frozen (R220). -/
def LaneSt.setVel (l : LaneSt) (p : Nat) : LaneSt :=
  if l.rd (FBK.STATUS.STATE p) = portBypassed then l else l.wrI (FBK.VELOCITY.VALUE p) (l.fbVel p)

/-- Stamp a change of the count with the present sample; changes older than the window are dropped but for the last
two. -/
def LaneSt.stampChange (l : LaneSt) (p : Nat) : LaneSt :=
  let now := l.sample
  let l := l.setPort p (fun q =>
    let old := q.changes
    { q with changes := (now, l.rdI (FBK.POS_RAW.VALUE p)) :: old.take 1
        ++ (old.drop 1).filter (fun c => now - c.1 ≤ l.rd (FBK.VEL.WIN p) * 100) })
  l.setVel p

/-! ## Pass-through outputs (R224) -/

/-- E_target of PT output `k`. -/
def LaneSt.ptTarget (l : LaneSt) (k : Nat) : Int :=
  l.rdI (FBK.POS_RAW.VALUE (l.rd (FBK.PT_CTRL.SRC k))) / (l.rd (FBK.PT_EMU.DIV k) : Int)

/-- Show the backlog of an emulating output: above 64 it overruns, at 32,767 it stops with its backlog kept. -/
def LaneSt.ptJudge (l : LaneSt) (k : Nat) : LaneSt :=
  if l.rd (FBK.PT_CTRL.MODE k) ≠ 2 then l
  else
    let owed := max (-32767) (min 32767 (l.ptTarget k - l.fbk.pt.getD k 0))
    let above : Bool := decide (64 < owed.natAbs)
    let was := l.on (FBK.PT_STATUS.OVERRUN k)
    let stop : Bool := decide (owed.natAbs = 32767)
    let stopped := l.on (FBK.PT_STATUS.STOPPED k)
    let l := (l.wrI (FBK.PT_STATUS.BACKLOG k) owed).wrB (FBK.PT_STATUS.OVERRUN k) above
    let l := if above && !was then l.fault 0x14A k else l
    if stop && !stopped then (l.wr (FBK.PT_STATUS.STOPPED k) 1).fault 0x14B k else l

/-- Judge every output whose source is port `p`. -/
def LaneSt.ptFollow (l : LaneSt) (p : Nat) : LaneSt :=
  (List.range 4).foldl (fun l k => if l.rd (FBK.PT_CTRL.SRC k) = p then l.ptJudge k else l) l

/-- Levels of PTk's lines: A in bit 0, B in bit 1, Z in bit 2; a held output keeps its levels. Which levels of A and B stand
for E mod 4 = 0 the spec does not say: the model takes both low, and every line low with MODE OFF (DESIGN CHOICE, log entry
52). -/
def LaneSt.ptPins (l : LaneSt) (k : Nat) : Nat :=
  let src := l.rd (FBK.PT_CTRL.SRC k)
  let e := l.fbk.pt.getD k 0
  if l.on (FBK.PT_STATUS.HELD k) then l.fbk.ptHeld.getD k 0
  else if l.rd (FBK.PT_CTRL.MODE k) = 1 then l.rd (FBK.STATUS.LINES src)
  else if l.rd (FBK.PT_CTRL.MODE k) = 2 then
    let q := (e % 4).toNat
    b2n (q = 1 || q = 2) + 2 * b2n (q = 2 || q = 3)
      + 4 * b2n (l.on (FBK.PT_CTRL.Z_EN k) && decide (e % ((l.cprOf src / l.rd (FBK.PT_EMU.DIV k) : Nat) : Int) = 0))
  else 0

/-- Every output of a source that is bypassed holds its levels. -/
def LaneSt.ptHold (l : LaneSt) (p : Nat) : LaneSt :=
  (List.range 4).foldl (fun l k =>
    if l.rd (FBK.PT_CTRL.SRC k) ≠ p ∨ l.rd (FBK.PT_CTRL.MODE k) = 0 ∨ l.on (FBK.PT_STATUS.HELD k) then l
    else ({ l with fbk := { l.fbk with ptHeld := l.fbk.ptHeld.setIfInBounds k (l.ptPins k) } } : LaneSt).wr
      (FBK.PT_STATUS.HELD k) 1) l

/-- Every output of a source that returns to ACQUIRE: E is E_target without a transition, nothing is held. -/
def LaneSt.ptRestart (l : LaneSt) (p : Nat) : LaneSt :=
  (List.range 4).foldl (fun l k =>
    if l.rd (FBK.PT_CTRL.SRC k) ≠ p then l
    else
      (({ l with fbk := { l.fbk with
          pt := l.fbk.pt.setIfInBounds k (if l.rd (FBK.PT_CTRL.MODE k) = 2 then l.ptTarget k else l.fbk.pt.getD k 0) } } :
        LaneSt).wr (FBK.PT_STATUS.HELD k) 0).ptJudge k) l

/-- PT_TRANSITION_EMIT: one owed transition toward E_target, unless the output is stopped or held or the last one was less
than MINGAP × 10 ns ago. -/
def LaneSt.ptEmit (l : LaneSt) (k : Nat) : LaneSt :=
  let e := l.fbk.pt.getD k 0
  let t := l.ptTarget k
  let soon : Bool := (l.fbk.ptAt.getD k none).any (fun x => decide (l.sample < x + l.rd (FBK.PT_EMU.MINGAP k)))
  if l.rd (FBK.PT_CTRL.MODE k) ≠ 2 ∨ l.on (FBK.PT_STATUS.STOPPED k) ∨ l.on (FBK.PT_STATUS.HELD k) ∨ e = t ∨ soon then l
  else
    ({ l with fbk := { l.fbk with
        pt := l.fbk.pt.setIfInBounds k (if e < t then e + 1 else e - 1),
        ptAt := l.fbk.ptAt.setIfInBounds k (some l.sample) } } : LaneSt).ptJudge k

def execPtTransitionEmit (l : LaneId) (pt : Fin 4) (s : State) : Host.Outcome State Fault Refusal :=
  onLane l (fun x => x.ptEmit pt.val) s

/-! ## Counts, ledger, states -/

/-- Put a port in a state; in ACQUIRE its pass-through outputs start again (R224). -/
def LaneSt.setPortState (l : LaneSt) (p st : Nat) : LaneSt :=
  let l := (l.wr (FBK.STATUS.STATE p) st).judgeAbs p
  let l := if st = portAcquire then l.ptRestart p else l
  if st = portUncertain ∨ st = portBypassed then l.sourceBad p else l

/-- The index edge of the present sample, if one came ahead of a step decoded in it, latches the count after the step
(R223). -/
def LaneSt.indexAgain (l : LaneSt) (p : Nat) : LaneSt :=
  match (l.port p).idxAt with
  | none => l
  | some (t, kind) =>
    if t ≠ l.sample then l
    else
      let l := l.wrI (FBK.IDX_LATCH.VALUE p) (l.latchPos p)
      if kind = 0 then l.wr (FBK.INDEX_REF.VALUE p) (l.rd (FBK.ANGLE_CNT.VALUE p)) else l

/-- Apply `d` counts: POS_RAW, ANGLE_CNT with its wrap, POS, stamp, velocity, pass-through (R206, R223). -/
def LaneSt.applyCounts (l : LaneSt) (p : Nat) (d : Int) : LaneSt :=
  let l := l.wrI (FBK.POS_RAW.VALUE p) (l.rdI (FBK.POS_RAW.VALUE p) + d)
  let l := l.wr (FBK.ANGLE_CNT.VALUE p) (((l.rd (FBK.ANGLE_CNT.VALUE p) : Int) + d) % (l.cprOf p : Int)).toNat
  (((l.setPos p).indexAgain p).stampChange p).ptFollow p

/-- A decoded change: the ledger's NET_DECODED follows (R208). A frame that changes nothing is stamped and is no step. -/
def LaneSt.decodedStep (l : LaneSt) (p : Nat) (d : Int) : LaneSt :=
  let l := l.wrI (FBK.NET_DECODED.VALUE p) (l.rdI (FBK.NET_DECODED.VALUE p) + d)
  let l := if d = 0 then l
    else (l.wrB (FBK.STATUS.DIR p) (decide (d < 0))).setPort p (fun q => { q with last := some l.sample })
  l.applyCounts p d

/-- Samples since the last valid transition, none when there was none since the ledger started (R211). -/
def LaneSt.gap (l : LaneSt) (p : Nat) : Option Nat := (l.port p).last.map (fun t => l.sample - t)

/-- Write the double-step log of a port, entry 0 newest: kind 0 INFERRED_POS, 1 INFERRED_NEG, 2 LOST, 3 JUMP (R211,
R226). With no valid transition since the ledger started there is no gap: the model writes the largest, 8,191 (DESIGN
CHOICE, log entry 52). -/
def LaneSt.dblLog (l : LaneSt) (p kind : Nat) : LaneSt :=
  let l := [2, 1, 0].foldl (fun l i =>
    (((((l.wr (FBK.DBL_LOG.TIME p (i + 1)) (l.rd (FBK.DBL_LOG.TIME p i))).wr (FBK.DBL_LOG.T32 p (i + 1))
      (l.rd (FBK.DBL_LOG.T32 p i))).wr (FBK.DBL_LOG.KIND p (i + 1)) (l.rd (FBK.DBL_LOG.KIND p i))).wr
      (FBK.DBL_LOG.GAP p (i + 1)) (l.rd (FBK.DBL_LOG.GAP p i))).wr (FBK.DBL_LOG.ANGLE p (i + 1))
      (l.rd (FBK.DBL_LOG.ANGLE p i)))) l
  let l := ((l.wr (FBK.DBL_LOG.TIME p 0) (stampNs l.t32 l.ns)).wrB (FBK.DBL_LOG.T32 p 0) l.t32).wr (FBK.DBL_LOG.KIND p 0) kind
  (l.wr (FBK.DBL_LOG.GAP p 0) (min 8191 ((l.gap p).getD 8191))).wr (FBK.DBL_LOG.ANGLE p 0) (l.rd (FBK.ANGLE_CNT.VALUE p))

/-- A LOST event: no count, LOST_EVENTS, STATUS.LOST, UNCERTAIN, and its corrected fault (R211, R220). With a passing index
check in the same sample the port stays in TRACK (R223). -/
def LaneSt.loseStep (l : LaneSt) (p : Nat) : LaneSt :=
  let l := (l.dblLog p 2).inc (FBK.LOST_EVENTS.EVENTS p)
  (if (l.port p).idxAt = some (l.sample, 1) ∧ l.rd (FBK.STATUS.STATE p) = portTrack then l.sourceBad p
    else (l.wr (FBK.STATUS.LOST p) 1).setPortState p portUncertain).fault 0x143 p

/-- Two counts inferred in the direction of the last valid transition (R211). -/
def LaneSt.inferSteps (l : LaneSt) (p : Nat) : LaneSt :=
  let neg := l.on (FBK.STATUS.DIR p)
  let d : Int := if neg then -2 else 2
  let l := (l.dblLog p (b2n neg)).wr (FBK.INFERRED.STEPS p) (l.rd (FBK.INFERRED.STEPS p) + 2)
  let l := l.wrI (FBK.INFERRED_NET.VALUE p) (l.rdI (FBK.INFERRED_NET.VALUE p) + d)
  (l.applyCounts p d).fault 0x142 p

/-- The gap rule of R211. -/
def LaneSt.gapRule (l : LaneSt) (p : Nat) : LaneSt :=
  match l.gap p with
  | some g => if g ≤ l.rd (FBK.CTRL.DBL_WINDOW p) then l.inferSteps p else l.loseStep p
  | none => l.loseStep p

/-- The ledger of a port starts: POS_BASE is POS_RAW (R208). -/
def LaneSt.ledgerStart (l : LaneSt) (p : Nat) : LaneSt :=
  let l := l.wrI (FBK.POS_BASE.VALUE p) (l.rdI (FBK.POS_RAW.VALUE p))
  let l := (l.wr (FBK.NET_DECODED.VALUE p) 0).wr (FBK.INFERRED_NET.VALUE p) 0
  l.setPort p (fun q => { q with last := none, changes := [], sector := none, seeded := false, ssiAt := none, idxAt := none, cal := none, slow := [] })

/-- The port enters ACQUIRE as from OFF; a commit keeps OFFSET (R220). -/
def LaneSt.portStart (l : LaneSt) (p : Nat) (keepOffset : Bool) : LaneSt :=
  if l.rd (FBK.CTRL.MODE p) = 0 then l.setPortState p portOff
  else
    let l := (l.wr (FBK.ANGLE_CNT.VALUE p) 0).wr (FBK.POS_RAW.VALUE p) 0
    let l := if keepOffset then l else l.wr (FBK.OFFSET.VALUE p) 0
    let l := ((l.setPos p).wr (FBK.INDEX_REF.VALUE p) 0).wr (FBK.STATUS.IDX_SEEN p) 0
    let l := ((l.wr (FBK.STATUS.LOST p) 0).wr (FBK.STATUS.STALE p) 0).wr (FBK.VELOCITY.VALUE p) 0
    (l.ledgerStart p).setPortState p portAcquire

/-- Bypass of a port: FB_POS and FB_VEL frozen, its pass-through outputs held (R220, R224). -/
def LaneSt.bypass (l : LaneSt) (p : Nat) : LaneSt :=
  if !l.portCounts p then l else (l.ptHold p).setPortState p portBypassed

/-- PORT_BYPASS_END: back to ACQUIRE with POS_RAW kept, the index cleared and a new ledger; emulating outputs follow
without emitting (R220, R224). A port whose own proof failed stays bypassed (R390). -/
def LaneSt.bypassEnd (l : LaneSt) (p : Nat) : LaneSt :=
  if l.rd (FBK.STATUS.STATE p) ≠ portBypassed ∨ l.bist.out.contains (5, p) then l
  else
    let l := ((l.wr (FBK.INDEX_REF.VALUE p) 0).wr (FBK.STATUS.IDX_SEEN p) 0).ledgerStart p
    (l.setPortState p portAcquire).setPos p

def execPortBypassEnd (l : LaneId) (port : Fin 24) (s : State) : Host.Outcome State Fault Refusal :=
  onLane l (fun x => x.bypassEnd port.val) s

/-! ## Lines and their filter (R202, R204) -/

/-- A line's raw level and how long it has been held, after it has shown level `b` for `held` more samples. -/
def holdLevel (x : Bool × Nat) (b : Bool) (held : Nat) : Bool × Nat := (b, min 16 (if x.1 = b then x.2 + held else held))

/-- The filtered level of a line: it takes a raw level that has been held for `n` consecutive samples (R204). -/
def filterLevel (n : Nat) (x : Bool × Nat) (level : Bool) : Bool := if n ≤ x.2 then x.1 else level

/-- Filtered level of line `i`. -/
def LaneSt.level (l : LaneSt) (p i : Nat) : Bool := bit (l.rd (FBK.STATUS.LINES p)) i

/-- Line `i` of a port shows raw level `b` for `held` samples: STATUS.LINES follows through the filter of FILT + 1 samples.
A command comes at the FBK sample in which the new raw level first appears; the delay of synchronizer and filter is left
out (log entry 54). -/
def LaneSt.line (l : LaneSt) (p i : Nat) (b : Bool) (held : Nat) : LaneSt :=
  let x := holdLevel ((l.port p).raw.getD i (false, 0)) b held
  let l := l.setPort p (fun q => { q with raw := q.raw.setIfInBounds i x })
  l.wr (FBK.STATUS.LINES p)
    (setBit (l.rd (FBK.STATUS.LINES p)) i (filterLevel (l.rd (FBK.CTRL.FILT p) + 1) x (l.level p i)))

/-- The second decoder of a port compares: a difference bypasses the port (R209). -/
def LaneSt.judgeDecoders (l : LaneSt) (p : Nat) (mismatch : Bool) : LaneSt :=
  if mismatch && l.portCounts p then (l.bypass p).fault 0x149 p else l

/-! ## Quadrature (R209 to R213) -/

/-- The filtered levels of A and B after they were `a0`, `b0`: a change of one adds a count, of both is a double step (R210,
R211). -/
def LaneSt.quadStep (l : LaneSt) (p : Nat) (a0 b0 : Bool) : LaneSt :=
  let a := l.level p 0
  let b := l.level p 1
  if (a = a0 ∧ b = b0) ∨ !l.portCounts p then l
  else if a ≠ a0 ∧ b ≠ b0 then (l.satInc 10 (FBK.COUNTS.DOUBLES p)).gapRule p
  else
    let up := if a ≠ a0 then a0 = b0 else a0 ≠ b0
    l.decodedStep p (if up ≠ (l.on (FBK.CTRL.DIR p) = true) then 1 else -1)

/-- Raw levels of A and B held for `held` samples. -/
def LaneSt.quadLines (l : LaneSt) (p : Nat) (a b : Bool) (held : Nat) (mismatch : Bool) : LaneSt :=
  if l.rd (FBK.CTRL.MODE p) ≠ 1 then l
  else (((l.line p 0 a held).line p 1 b held).quadStep p (l.level p 0) (l.level p 1)).judgeDecoders p mismatch

/-- QUAD_TRANSITION to raw levels a, b of which at most one is new. `mismatch` says that the second decoder's POS_RAW then
differs (R209, R210). -/
def LaneSt.quad (l : LaneSt) (p : Nat) (a b : Bool) (held : Nat) (mismatch : Bool) : LaneSt :=
  if a ≠ l.level p 0 ∧ b ≠ l.level p 1 then l else l.quadLines p a b held mismatch

def execQuadTransition (l : LaneId) (port : Fin 24) (a b : Bool) (seen : LineSample) (s : State) :
    Host.Outcome State Fault Refusal := onLane l (fun x => x.quad port.val a b seen.held seen.mismatch) s

/-- DOUBLE_STEP: the raw levels of both A and B are new in one sample (R211). -/
def LaneSt.double (l : LaneSt) (p : Nat) (held : Nat) (mismatch : Bool) : LaneSt :=
  l.quadLines p (!l.level p 0) (!l.level p 1) held mismatch

def execDoubleStep (l : LaneId) (port : Fin 24) (held : Nat) (mismatch : Bool) (s : State) :
    Host.Outcome State Fault Refusal := onLane l (fun x => x.double port.val held mismatch) s

/-- Channels in an index search on this port end it (R195). -/
def LaneSt.searchEnds (l : LaneSt) (p : Nat) : LaneSt :=
  (List.range 8).foldl (fun l n =>
    if (l.ang n).acq = 2 ∧ l.rd (COMM.SRC.PORT_P n) = p then l.setAng n (fun a => { a with acq := 3 }) else l) l

/-- A latch edge is put into the mailbox of every generator that names its source: 0 to 7 a probe, 8 the index of the
reference port (R135, R222). -/
def LaneSt.handEdge (l : LaneSt) (src : Nat) (p : Nat) (rising : Bool) : LaneSt :=
  { l with prof := Vector.ofFn (fun g : Fin 16 =>
      let x := l.prof.get g
      let e := l.rd (PROF.SW_CTRL.LATCH_EDGE g.val)
      let mine : Bool := l.rd (PROF.SW_CTRL.LATCH_SRC g.val) = src && (src != 8 || l.rd (COMM.SRC.PORT_P (g.val / 2)) = p)
        && (e = 2 || (e = 0 && rising) || (e = 1 && !rising))
      if mine then { x with edge := some (l.run, rising) } else x) }

/-- A rising edge of the filtered Z (R213). -/
def LaneSt.indexEdge (l : LaneSt) (p : Nat) : LaneSt :=
  let l := (l.handEdge 8 p true).wrI (FBK.IDX_LATCH.VALUE p) (l.latchPos p)
  let note (k : Nat) (l : LaneSt) : LaneSt := l.setPort p (fun q => { q with idxAt := some (l.sample, k) })
  let cnt := l.rd (FBK.ANGLE_CNT.VALUE p)
  if !l.on (FBK.STATUS.IDX_SEEN p) then
    let l := note 0 ((l.wr (FBK.INDEX_REF.VALUE p) cnt).wr (FBK.STATUS.IDX_SEEN p) 1)
    if l.rd (FBK.STATUS.STATE p) = portAcquire then (l.setPortState p portTrack).searchEnds p else l
  else
    let err := signedMod ((cnt : Int) - l.rd (FBK.INDEX_REF.VALUE p)) (l.cprOf p)
    if err.natAbs ≤ l.rd (FBK.IDX.TOL p) then
      let l := note 1 l
      if l.rd (FBK.STATUS.STATE p) = portUncertain then (l.wr (FBK.STATUS.LOST p) 0).setPortState p portTrack else l
    else ((note 2 l).setPortState p portUncertain).fault 0x145 p

/-- INDEX_PULSE: raw level `z` of Z for `held` samples; a rising edge of its filtered level acts. -/
def LaneSt.index (l : LaneSt) (p : Nat) (z : Bool) (held : Nat) : LaneSt :=
  if l.rd (FBK.CTRL.MODE p) ≠ 1 ∨ !l.on (FBK.CTRL.IDX_EN p) then l
  else
    let was := l.level p 2
    let l := l.line p 2 z held
    if was || !l.level p 2 || !l.portCounts p then l else l.indexEdge p

def execIndexPulse (l : LaneId) (edge : ZEdge) (s : State) : Host.Outcome State Fault Refusal :=
  onLane l (fun x => x.index edge.port.val edge.z edge.held) s

/-! ## Hall (R214) -/

/-- Sector of a Hall state; 0 and 7 are invalid. -/
def hallSector : Nat → Option Nat
  | 1 => some 0
  | 3 => some 1
  | 2 => some 2
  | 6 => some 3
  | 4 => some 4
  | 5 => some 5
  | _ => none

/-- The count, the in-revolution count and the ledger's base take a first value (R208). -/
def LaneSt.seed (l : LaneSt) (p v : Nat) : LaneSt :=
  let l := ((l.wr (FBK.POS_RAW.VALUE p) v).wr (FBK.ANGLE_CNT.VALUE p) v).wr (FBK.POS_BASE.VALUE p) v
  let l := (l.setPos p).setPort p (fun q => { q with seeded := true })
  let l := if l.rd (FBK.STATUS.STATE p) = portAcquire then l.setPortState p portTrack else l
  (l.stampChange p).ptFollow p

/-- A new filtered Hall state `h`. -/
def LaneSt.hallStep (l : LaneSt) (p h : Nat) : LaneSt :=
  match hallSector h with
  | none => (l.satInc 10 (FBK.COUNTS.ERRORS p)).fault 0x146 p
  | some c =>
    match (l.port p).sector with
    | none => (l.setPort p (fun q => { q with sector := some c })).seed p c
    | some c0 =>
      let s := signedMod ((c : Int) - c0) 6
      let l := l.setPort p (fun q => { q with sector := some c })
      if s = 0 then l
      else if s = 1 ∨ s = -1 then l.decodedStep p s
      else if s = -3 then l.loseStep p
      else if (decide (s < 0)) = l.on (FBK.STATUS.DIR p) then l.gapRule p
      else l.loseStep p

/-- HALL_STATE: raw levels of U, V, W for `held` samples; a new filtered state, or the first since the ledger started, is
decoded. -/
def LaneSt.hall (l : LaneSt) (p h held : Nat) (mismatch : Bool) : LaneSt :=
  if l.rd (FBK.CTRL.MODE p) ≠ 2 then l
  else
    let was := l.rd (FBK.STATUS.LINES p)
    let l := (List.range 3).foldl (fun l i => l.line p i (bit h i) held) l
    let now := l.rd (FBK.STATUS.LINES p)
    if !l.portCounts p ∨ (was = now ∧ (l.port p).sector.isSome) then l
    else (l.hallStep p now).judgeDecoders p mismatch

def execHallState (l : LaneId) (port : Fin 24) (seen : HallSample) (s : State) : Host.Outcome State Fault Refusal :=
  onLane l (fun x => x.hall port.val seen.lines.toNat seen.held seen.mismatch) s

/-! ## SSI and SENT (R215 to R218) -/

/-- A discarded frame (R215, R216). -/
def LaneSt.frameError (l : LaneSt) (p : Nat) : LaneSt := (l.satInc 10 (FBK.COUNTS.ERRORS p)).fault 0x147 p

/-- A valid frame value (R217): the first one seeds the ledger; a later one is applied as decoded steps, a step beyond
MAX_STEP raising JUMP. -/
def LaneSt.frameValue (l : LaneSt) (p v : Nat) : LaneSt :=
  let l := (l.wr (FBK.STATUS.STALE p) 0).judgeAbs p
  if !(l.port p).seeded then (l.setPort p (fun q => { q with last := some l.sample })).seed p v
  else
    let d := signedMod ((v : Int) - l.rd (FBK.ANGLE_CNT.VALUE p)) (l.cprOf p)
    let jump : Bool := decide (l.rd (FBK.MAX_STEP.COUNT p) < d.natAbs)
    let l := if jump then l.dblLog p 3 else l
    let l := (l.decodedStep p d).wr (FBK.ANGLE_CNT.VALUE p) v
    if jump then ((l.inc (FBK.LOST_EVENTS.EVENTS p)).setPortState p portUncertain).fault 0x144 p else l

/-- SSI_TRIGGER: a frame starts, unless the last one ended less than MONO µs ago or one is being read (R215). -/
def LaneSt.ssiTrigger (l : LaneSt) (p : Nat) : LaneSt :=
  let soon : Bool := (l.port p).ssiEnd.any (fun t => decide (l.sample < t + l.rd (FBK.SSI_TRIG.MONO p) * 100))
  if l.rd (FBK.CTRL.MODE p) ≠ 3 ∨ !l.portCounts p ∨ soon ∨ (l.port p).ssiAt.isSome then l
  else l.setPort p (fun q => { q with ssiAt := some l.sample })

/-- Half a period of the SSI clock in samples. -/
def LaneSt.ssiHalf (l : LaneSt) (p : Nat) : Nat := l.rd (FBK.SSI_CTRL.DIV p) + 1

/-- Level of the output line CK: low when SSI is not selected, high when idle; in a frame LEN + 1 periods, each with its
falling edge first (R202, R215). -/
def LaneSt.ckLine (l : LaneSt) (p : Nat) : Bool :=
  if l.rd (FBK.CTRL.MODE p) ≠ 3 then false
  else match (l.port p).ssiAt with
  | none => true
  | some t =>
    let h := l.ssiHalf p
    let k := l.sample - t
    decide (2 * h * (l.rd (FBK.SSI_CTRL.LEN p) + 1) ≤ k) || decide (h ≤ k % (2 * h))

def execSsiTrigger (l : LaneId) (port : Fin 24) (s : State) : Host.Outcome State Fault Refusal :=
  onLane l (fun x => x.ssiTrigger port.val) s

/-- The number a list of bits spells, most significant first. -/
def bitsMsb (bs : List Bool) : Nat := bs.foldl (fun n b => 2 * n + b2n b) 0

/-- Binary from Gray code of `w` bits. -/
def fromGray (w g : Nat) : Nat :=
  (List.range w).foldl (fun acc i => acc ^^^ (g >>> i)) 0 % 2 ^ w

/-- The filtered level of a line at a sample: the last level held for `n` samples or more that began by then. `runs` holds
raw levels and how many samples each is held. -/
def levelAt (n : Nat) : List (Bool × Nat) → Bool → Nat → Bool
  | [], level, _ => level
  | (b, held) :: rest, level, k =>
    let level := if n ≤ held then b else level
    if k < held then level else levelAt n rest level (k - held)

/-- What an SSI frame samples from its data line: the level at its start, the LEN bits DELAY samples after the rising edge
that presents each, and the level after the last bit (R215). -/
def LaneSt.ssiBits (l : LaneSt) (p : Nat) (runs : List (Bool × Nat)) : List Bool :=
  let at' := levelAt (l.rd (FBK.CTRL.FILT p) + 1) runs (l.level p 0)
  let h := l.ssiHalf p
  at' 0 :: (List.range (l.rd (FBK.SSI_CTRL.LEN p) + 1)).map (fun i => at' (2 * h * i + h + l.rd (FBK.SSI_CTRL.DELAY p)))

/-- The position of an SSI frame, none when it is discarded. `bits` holds the level at the frame start, the LEN data
bits in the order they arrive, and the level after the last bit. -/
def LaneSt.ssiPosition (l : LaneSt) (p : Nat) (bits : List Bool) : Option Nat :=
  let len := l.rd (FBK.SSI_CTRL.LEN p)
  let data := (bits.drop 1).take len
  let w := bitsMsb data
  let ones := data.countP (fun b => b)
  let par := l.rd (FBK.SSI_CTRL.PAR p)
  let field := w / 2 ^ l.rd (FBK.SSI_FIELD.POS_LSB p) % 2 ^ l.rd (FBK.SSI_FIELD.POS_WIDTH p)
  let v := if l.on (FBK.SSI_CTRL.GRAY p) then fromGray (l.rd (FBK.SSI_FIELD.POS_WIDTH p)) field else field
  if bits.getD 0 false = false ∨ bits.getD (len + 1) true = true
    ∨ (par = 1 ∧ ones % 2 = 1) ∨ (par = 2 ∧ ones % 2 = 0)
    ∨ (l.on (FBK.SSI_CTRL.ERR_EN p) ∧ bit w (l.rd (FBK.SSI_FIELD.ERR_BIT p))) ∨ l.cprOf p ≤ v then none
  else some v

/-- SSI_FRAME_END: the raw levels of the data line from the trigger on (R215, R217). -/
def LaneSt.ssiFrame (l : LaneSt) (p : Nat) (runs : List (Bool × Nat)) (mismatch : Bool) : LaneSt :=
  if l.rd (FBK.CTRL.MODE p) ≠ 3 ∨ !l.portCounts p ∨ (l.port p).ssiAt.isNone then l
  else
    let bits := l.ssiBits p runs
    let l := l.setPort p (fun q => { q with ssiAt := none, ssiEnd := some l.sample })
    let l := runs.foldl (fun l r => l.line p 0 r.1 r.2) l
    match l.ssiPosition p bits with
    | none => l.frameError p
    | some v => (l.frameValue p v).judgeDecoders p mismatch

def execSsiFrameEnd (l : LaneId) (port : Fin 24) (seen : SsiSample) (s : State) : Host.Outcome State Fault Refusal :=
  onLane l (fun x => x.ssiFrame port.val seen.runs seen.mismatch) s

/-! ### SENT (R216; the forms of SAE J2716, log entry 54) -/

/-- One step of the 4-bit checksum of SAE J2716 without its data: the polynomial x^4 + x^3 + x^2 + 1. -/
def sentTable (c : Nat) : Nat := [0, 13, 7, 10, 14, 3, 9, 4, 1, 12, 6, 11, 15, 2, 8, 5].getD c 0

/-- The 4-bit checksum of nibbles: seed 5; the recommended form appends a nibble of zeros, the legacy form does not. -/
def sentCrc (legacy : Bool) (ns : List Nat) : Nat :=
  let c := ns.foldl (fun c n => sentTable c ^^^ n) 5
  if legacy then c else sentTable c

/-- The 6-bit checksum of an enhanced slow message over bits, most significant first: x^6 + x^4 + x^3 + 1, seed 010101, six
zeros appended. -/
def sentCrc6 (bits : List Bool) : Nat :=
  (bits ++ List.replicate 6 false).foldl (fun c b =>
    let c := 2 * c + b2n b
    if 64 ≤ c then (c ^^^ 0x59) % 64 else c) 0x15

/-- The slow-channel message that ends with the newest of the consecutive status nibbles, newest first: identifier, data and
whether its format is the enhanced one; none where its pattern or its checksum does not hold. -/
def slowMessage (form : Nat) (legacy : Bool) (newest : List Nat) : Option (Nat × Nat × Bool) :=
  if form = 1 then
    let f := (newest.take 16).reverse
    let d := bitsMsb (f.map (fun n => bit n 2))
    if f.length = 16 ∧ f.map (fun n => bit n 3) = true :: List.replicate 15 false
        ∧ sentCrc legacy [d / 2 ^ 12, d / 2 ^ 8 % 16, d / 16 % 16] = d % 16
    then some (d / 2 ^ 12, d / 16 % 256, false) else none
  else if form = 2 then
    let f := (newest.take 18).reverse
    let b2 (i : Nat) : Bool := bit (f.getD (i - 1) 0) 2
    let b3 (i : Nat) : Bool := bit (f.getD (i - 1) 0) 3
    let upto (g : Nat → Bool) (a n : Nat) : Nat := bitsMsb ((List.range n).map (fun i => g (a + i)))
    let start := (List.range 6).all (fun i => b3 (i + 1)) && !b3 7 && !b3 13 && !b3 18
    let crc := sentCrc6 ((List.range 12).flatMap (fun i => [b2 (7 + i), b3 (7 + i)]))
    if f.length = 18 ∧ start = true ∧ crc = upto b2 1 6 then
      some (if b3 8 then (upto b3 9 4, upto b3 14 4 * 2 ^ 12 + upto b2 7 12, true)
        else (upto b3 9 4 * 16 + upto b3 14 4, upto b2 7 12, true))
    else none
  else none

/-- The status and communication, data and CRC nibbles of a SENT frame from the lengths of its pulses in samples, none where
a check of R216 fails. Ticks are counted to the nearest (DEDUCED, log entry 54). -/
def LaneSt.sentNibbles (l : LaneSt) (p : Nat) (pulses : List Nat) : Option (List Nat) :=
  let tick := l.rd (FBK.SENT_CTRL.TICK p) * 10
  let n := l.rd (FBK.SENT_CTRL.NIBS p)
  let cal := pulses.getD 0 0
  let ns := ((pulses.drop 1).take (n + 2)).map (fun w => (2 * 56 * w + cal) / (2 * cal))
  let vals := ns.map (· - 12)
  if pulses.length ≠ n + 3 + l.rd (FBK.SENT_CTRL.PAUSE p) ∨ cal < 42 * tick ∨ 70 * tick < cal
    ∨ (l.port p).cal.any (fun c => decide (c < 64 * ((cal : Int) - c).natAbs))
    ∨ ns.any (fun t => decide (t < 12 ∨ 27 < t))
    ∨ sentCrc (l.on (FBK.SENT_CTRL.CRC_LEGACY p)) ((vals.drop 1).take n) ≠ vals.getD (n + 1) 0 then none
  else some vals

/-- The status nibble of a good frame: a slow-channel message that ends with it is stored. -/
def LaneSt.sentSlow (l : LaneSt) (p nib : Nat) : LaneSt :=
  let l := l.setPort p (fun q => { q with slow := (nib :: q.slow).take 18 })
  match slowMessage (l.rd (FBK.SENT_CTRL.SLOW p)) (l.on (FBK.SENT_CTRL.CRC_LEGACY p)) (l.port p).slow with
  | none => l
  | some (id, data, enh) =>
    let l := ((l.wr (FBK.SENT_SLOW.ID p) id).wr (FBK.SENT_SLOW.DATA p) data).wrB (FBK.SENT_SLOW.ENHANCED p) enh
    (l.inc (FBK.SENT_SLOW.COUNT p)).wr (FBK.STATUS.SLOW_VALID p) 1

/-- SENT_FRAME: the lengths of its pulses between falling edges in samples, and the level of the line now (R216). -/
def LaneSt.sentFrame (l : LaneSt) (p : Nat) (pulses : List Nat) (level mismatch : Bool) : LaneSt :=
  if l.rd (FBK.CTRL.MODE p) ≠ 4 ∨ !l.portCounts p then l
  else
    let v := l.sentNibbles p pulses
    let l := (l.line p 0 level (l.rd (FBK.CTRL.FILT p) + 1)).setPort p (fun q => { q with
      cal := pulses.head?, slow := if v.isNone then [] else q.slow })
    match v with
    | none => l.frameError p
    | some ns =>
      let l := l.sentSlow p (ns.getD 0 0)
      (l.frameValue p (((ns.drop 1).take (l.rd (FBK.SENT_CTRL.POS_NIBS p))).foldl (fun n b => 16 * n + b) 0)).judgeDecoders p
        mismatch

def execSentFrame (l : LaneId) (port : Fin 24) (pulses : List Nat) (level mismatch : Bool) (s : State) :
    Host.Outcome State Fault Refusal := onLane l (fun x => x.sentFrame port.val pulses level mismatch) s

/-- FEEDBACK_STALE (R218). -/
def LaneSt.stale (l : LaneSt) (p : Nat) : LaneSt :=
  let m := l.rd (FBK.CTRL.MODE p)
  if (m ≠ 3 ∧ m ≠ 4) ∨ !l.portCounts p ∨ l.on (FBK.STATUS.STALE p) then l
  else (((l.wr (FBK.STATUS.STALE p) 1).judgeAbs p).sourceBad p).fault 0x148 p

def execFeedbackStale (l : LaneId) (port : Fin 24) (s : State) : Host.Outcome State Fault Refusal :=
  onLane l (fun x => x.stale port.val) s

/-- A change of the count was stamped within the last VEL.TMO µs. -/
def LaneSt.velMoves (l : LaneSt) (p : Nat) : Bool :=
  (l.port p).changes.head?.any (fun c => decide (l.sample - c.1 < l.rd (FBK.VEL.TMO p) * 100))

/-- VELOCITY_TIMEOUT: no change for VEL.TMO µs (R219). -/
def LaneSt.velTimeout (l : LaneSt) (p : Nat) : LaneSt :=
  if l.rd (FBK.STATUS.STATE p) = portBypassed ∨ l.velMoves p then l else l.wr (FBK.VELOCITY.VALUE p) 0

def execVelocityTimeout (l : LaneId) (port : Fin 24) (s : State) : Host.Outcome State Fault Refusal :=
  onLane l (fun x => x.velTimeout port.val) s

/-! ## Probes (R222) -/

/-- An edge of the filtered level of input PRBk: its own latch, the reference latch of every port that names it, and the
generators that take it. -/
def LaneSt.probeLatch (l : LaneSt) (k : Nat) (rising : Bool) : LaneSt :=
  let p := l.rd (FBK.PRB_CTRL.PORT k)
  let e := l.rd (FBK.PRB_CTRL.EDGE k)
  let l := if 24 ≤ p ∨ (e = 0 ∧ !rising) ∨ (e = 1 ∧ rising) ∨ e = 3 then l
    else
      let l := (l.wrI (FBK.PRB_POS.VALUE k) (l.latchPos p)).inc (FBK.PRB_COUNT.EDGES k)
      ((l.wr (FBK.PRB_STAMP.NS k) (stampNs l.t32 l.ns)).wr (FBK.PRB_STAMP.S k) (stampS l.t32 l.ns)).wrB (FBK.PRB_STAMP.T32 k) l.t32
  ((List.range 24).foldl (fun l q =>
    if l.rd (FBK.CTRL.REF_SRC q) = k ∧ l.on (FBK.CTRL.REF_EDGE q) = !rising
    then l.wrI (FBK.REF_LATCH.VALUE q) (l.latchPos q) else l) l).handEdge k 0 rising

/-- PROBE_EDGE: raw level `rising` of input PRBk for `held` samples, through the filter of PFILT + 1 samples. The command
comes at the sample in which the level first appears, whose position it latches. -/
def LaneSt.probeEdge (l : LaneSt) (k : Nat) (rising : Bool) (held : Nat) : LaneSt :=
  let x := holdLevel (l.fbk.prb.getD k (false, 0)) rising held
  let was := l.fbk.prbLevel.getD k false
  let now := filterLevel (l.rd (FBK.PRB_CTRL.PFILT k) + 1) x was
  let l : LaneSt := { l with fbk := { l.fbk with
    prb := l.fbk.prb.setIfInBounds k x, prbLevel := l.fbk.prbLevel.setIfInBounds k now } }
  if was = now then l else l.probeLatch k rising

def execProbeEdge (l : LaneId) (probe : Fin 8) (edge : RawLevel) (s : State) : Host.Outcome State Fault Refusal :=
  onLane l (fun x => x.probeEdge probe.val edge.level edge.held) s

end Sys2Proof.Machine
end

