-- ==== Sys2Proof/Machine/Plan.lean ====
section
/-!
DEFINITION. The planner: jerk-limited plans from a full state (p, v, a) to a target, as segments of constant jerk
(R124 to R129, R484). Positions, velocities, accelerations and jerks are Q32.32 numbers; times are units of 2^-32 ns.
Where a formula divides or takes a root and the spec gives no rounding, the neighbour is a free choice (log entry 7).
-/

namespace Sys2Proof.Machine

open Sys2Proof

/-- Units of time in a second. -/
def planSecond : Nat := 10 ^ 9 * 2 ^ 32

/-- The whole square root of a number, by its bits. -/
def isqrt (n : Nat) : Nat :=
  (List.range (n.log2 / 2 + 1)).foldr (fun b r => if (r + 2 ^ b) * (r + 2 ^ b) ≤ n then r + 2 ^ b else r) 0

/-- A square root: exact where it is whole, else one of its two neighbours. -/
def root (n : Int) : Int :=
  let m := n.toNat
  let r := isqrt m
  if r * r = m ∨ !Config.sqrtUp m then r else r + 1

/-- The arctangent of a ratio `b / a`, at most 1, in units of 2^-96: three halvings of the angle, then its series. -/
def arctan96 (b a : Nat) : Nat :=
  let one := 2 ^ 96
  let half (t : Nat) : Nat := t * one / (one + isqrt (one * one + t * t))
  let t := half (half (half (b * one / a)))
  let x2 := t * t / one
  let x := (List.range 16).foldl (fun acc i =>
    let k := 15 - i
    one / (2 * k + 1) - acc * x2 / one) 0
  8 * (t * x / one)

/-- The angle of a vector in words of 2^32 per turn, rounded down: the multiples of an eighth of a turn exactly. -/
def atan2Floor (y x : Int) : Nat :=
  let a := x.natAbs
  let b := y.natAbs
  let pi50 := 314159265358979323846264338327950288419716939937510
  let part (b a : Nat) : Nat := if b = 0 then 0 else if b = a then 2 ^ 77
    else arctan96 b a * 2 ^ 80 * 10 ^ 50 / (2 * pi50 * 2 ^ 96)
  let q := if b ≤ a then part b a else 2 ^ 78 - part a b
  let q := if x < 0 then 2 ^ 79 - q else q
  let q := if y < 0 then 2 ^ 80 - q else q
  q / 2 ^ 48 % 2 ^ 32

/-- The angle of a vector (R175): exact where it is a word, else one of its two neighbours (log entry 7). -/
def atan2 (y x : Int) : Nat :=
  if y = 0 ∧ x = 0 then (Config.atan2 0 0).toNat
  else
    let r := atan2Floor y x
    if y = 0 ∨ x = 0 ∨ y.natAbs = x.natAbs ∨ (Config.atan2 y x).toNat % 2 = 0 then r else (r + 1) % 2 ^ 32

/-- A sign as a factor. -/
def sgn (x : Int) : Int := if x < 0 then -1 else if x = 0 then 0 else 1

/-- Position, velocity and acceleration. -/
structure Pva where
  p : Int
  v : Int
  a : Int
  deriving DecidableEq, Repr

/-- The state after a time `d` at jerk `j`: the cubic of R124. -/
def Pva.after (s : Pva) (j : Int) (d : Nat) : Pva :=
  let u := planSecond
  { p := s.p + qdiv (6 * s.v * d * u ^ 2 + 3 * s.a * d ^ 2 * u + j * d ^ 3) (6 * u ^ 3),
    v := s.v + qdiv (2 * s.a * d * u + j * d ^ 2) (2 * u ^ 2),
    a := s.a + qdiv (j * d) u }

/-- The time in which a rate `r` changes a quantity by `x`. -/
def rateTime (x r : Int) : Nat := (qdiv (x * planSecond) r.toNat).toNat

/-- The phases (jerk, time) that bring (v0, a0) to (v1, 0) soonest under acceleration `A` and jerk `J` (R484). -/
def velPhases (v0 a0 v1 A J : Int) : List (Int × Nat) :=
  let s : Int := if v0 + qdiv (a0 * a0.natAbs) (2 * J).toNat ≤ v1 then 1 else -1
  let a := s * a0
  let dv := s * (v1 - v0)
  let peak := root (J * dv + qdiv (a * a) 2)
  if peak ≤ A then [(s * J, rateTime (peak - a) J), (-s * J, rateTime peak J)]
  else
    [(s * J, rateTime (A - a) J), (0, rateTime (dv - qdiv (2 * A * A - a * a) (2 * J).toNat) A), (-s * J, rateTime A J)]

/-- The state at the end of several phases. -/
def runPhases (s : Pva) (ps : List (Int × Nat)) : Pva := ps.foldl (fun s x => s.after x.1 x.2) s

/-- The largest number in [lo, hi] that `ok` accepts, for an `ok` that holds up to some number: by halving. -/
def bisect (ok : Int → Bool) : Nat → Int → Int → Int
  | 0, lo, _ => lo
  | k + 1, lo, hi =>
    if hi ≤ lo then lo
    else
      let m := lo + (hi - lo + 1) / 2
      if ok m then bisect ok k m hi else bisect ok k lo (m - 1)

/-- A plan that is being built: its segments, newest first, and the state and time it has reached. -/
structure Bld where
  segs : List Seg
  t : Nat
  s : Pva
  rev : Bool
  deriving DecidableEq, Repr

/-- Start a plan from a state at a time. -/
def Bld.start (t : Nat) (s : Pva) : Bld := { segs := [], t := t, s := s, rev := false }

/-- Add one phase; one of no length adds nothing. -/
def Bld.push (b : Bld) (x : Int × Nat) : Bld :=
  if x.2 = 0 then b
  else { segs := ⟨b.t, x.1, b.s.p, b.s.v, b.s.a, b.rev⟩ :: b.segs, t := b.t + x.2, s := b.s.after x.1 x.2, rev := false }

/-- Add several phases. -/
def Bld.pushAll (b : Bld) (xs : List (Int × Nat)) : Bld := xs.foldl Bld.push b

/-- The velocity and acceleration known to be reached. -/
def Bld.reach (b : Bld) (v a : Int) : Bld := { b with s := { b.s with v := v, a := a } }

/-- A point at which the planned velocity passes through 0 into the opposite direction (R181). -/
def Bld.reverse (b : Bld) : Bld := { b with rev := true }

/-- The finished plan, ending at position `p` with velocity `v`. -/
def Bld.finish (b : Bld) (p v : Int) : List Seg := (⟨b.t, 0, p, v, 0, b.rev⟩ :: b.segs).reverse

/-- To (v, 0) under `A` and `J`. -/
def Bld.toVel (b : Bld) (v A J : Int) : Bld := (b.pushAll (velPhases b.s.v b.s.a v A J)).reach v 0

/-- The direction of motion: that of v, or of a while v is 0 (R127). -/
def Pva.dir (s : Pva) : Int := if s.v = 0 then sgn s.a else sgn s.v

/-- Whether the deceleration is stronger than a stop needs (R484: a0 < −a_p). -/
def Pva.excess (s : Pva) (J : Int) : Bool :=
  decide (sgn s.v * s.a < 0) && decide (2 * J * s.v.natAbs < s.a * s.a)

/-- In that case jerk +J until the velocity is 0, which is a reversal. -/
def Bld.throughZero (b : Bld) (J : Int) : Bld :=
  let d := sgn b.s.v
  let x := root (b.s.a * b.s.a - 2 * J * b.s.v.natAbs)
  ((b.push (d * J, rateTime (-(d * b.s.a) - x) J)).reach 0 (-d * x)).reverse

/-- Where the state comes to rest under the stop of R484: p_stop. -/
def Pva.stopAt (s : Pva) (A J : Int) : Int := (runPhases s (velPhases s.v s.a 0 A J)).p

/-- The stop (R484), to rest with zero acceleration. -/
def Bld.stop (b : Bld) (A J : Int) : Bld :=
  let b := if b.s.excess J then b.throughZero J else b
  b.toVel 0 A J

/-- DIRECT (R127): accelerate, cruise, decelerate to rest at `pt`; the soonest under V, A and J. -/
def Bld.direct (b : Bld) (pt V A J : Int) : Bld :=
  let s : Int := if b.s.p ≤ pt then 1 else -1
  let dist := s * (pt - b.s.p)
  let f : Pva := ⟨0, s * b.s.v, s * b.s.a⟩
  let need (vp : Int) : Int :=
    let e := runPhases f (velPhases f.v f.a vp A J)
    (⟨e.p, vp, 0⟩ : Pva).stopAt A J
  let flat := max 0 (f.v + qdiv (f.a * f.a.natAbs) (2 * J).toNat)
  if f.a < 0 ∧ dist < need flat then
    let back (a1 : Int) : Int := (f.after J (rateTime (a1 - f.a) J)).stopAt A J
    let a1 := bisect (fun x => back x ≤ dist) 80 f.a 0
    (b.push (s * J, rateTime (a1 - f.a) J)).stop A J
  else
    let vp := if need V ≤ dist then V else bisect (fun x => need x ≤ dist) 80 flat V
    let b := b.toVel (s * vp) A J
    let b := if 0 < vp then b.push (0, rateTime (dist - need vp) vp) else b
    b.toVel 0 A J

/-- The first shape of R127 that applies: 0 DIRECT, 1 STOP_REVERSE, 2 OVERSHOOT, with the plan to `pt`. -/
def Bld.shape (b : Bld) (pt V A J : Int) : Nat × Bld :=
  let d := b.s.dir
  if d * (pt - b.s.p) < 0 then (1, (b.stop A J).reverse.direct pt V A J)
  else if d ≠ 0 ∧ (pt = b.s.p ∨ 0 < d * (b.s.stopAt A J - pt)) then (2, (b.stop A J).reverse.direct pt V A J)
  else (0, b.direct pt V A J)

/-- The plan to a position, from the state reached (R127, R484). -/
def Bld.toPos (b : Bld) (pt V A J : Int) : Nat × Bld :=
  if b.s.excess J then (b.throughZero J).shape pt V A J else b.shape pt V A J

/-- The plan to a speed (R128); a change of direction comes to rest first (R127). -/
def Bld.toSpeed (b : Bld) (vt A J : Int) : Bld :=
  let b := if b.s.excess J then b.throughZero J else b
  if b.s.dir * vt < 0 then (b.toVel 0 A J).reverse.toVel vt A J else b.toVel vt A J

/-- Whether a state lies above limits. -/
def Pva.above (s : Pva) (V A : Int) : Bool := decide (V < s.v.natAbs) || decide (A < s.a.natAbs)

/-- R129: |a| within A at J, then |v| within V at A. -/
def Bld.reduce (b : Bld) (V A J : Int) : Bld :=
  let b := if A < b.s.a.natAbs
    then (b.push (-(sgn b.s.a) * J, rateTime (b.s.a.natAbs - A) J)).reach
      (b.s.after (-(sgn b.s.a) * J) (rateTime (b.s.a.natAbs - A) J)).v (sgn b.s.a * A) else b
  if V < b.s.v.natAbs then b.toVel (sgn b.s.v * V) A J else b

/-- The state a plan gives at a time (R124); before its start, and with no plan, the state given. -/
def planAt (segs : List Seg) (t : Nat) (s : Pva) : Pva :=
  match (segs.filter (fun g => g.t ≤ t)).getLast? with
  | none => s
  | some g => (⟨g.p, g.v, g.a⟩ : Pva).after g.j (t - g.t)

/-- The end of a plan. -/
def planEnd (segs : List Seg) : Option Seg := segs.getLast?

end Sys2Proof.Machine
end

