-- ==== Sys2Proof/Machine/Prof.lean ====
section
/-!
DEFINITION. Motion profile generators: set-points, limits, replans, plan steps, switch inputs, homing, step output
(chapter 05; R178 to R182 of chapter 07).
-/

namespace Sys2Proof.Machine

open Sys2Proof

/-! ## Generators and units (R120 to R123) -/

/-- The state of generator `g` that is no register. -/
def LaneSt.pg (l : LaneSt) (g : Nat) : PgSt := l.prof.getD g .reset

/-- Change the state of generator `g` that is no register. -/
def LaneSt.setPg (l : LaneSt) (g : Nat) (f : PgSt → PgSt) : LaneSt :=
  { l with prof := l.prof.setIfInBounds g (f (l.pg g)) }

/-- Role of a generator: 0 OFF, 1 MOTION, 2 FORCE. -/
def LaneSt.role (l : LaneSt) (g : Nat) : Nat := l.rd (PROF.CTRL.ROLE g)

/-- STATE of a generator (R140). -/
def pgOff : Nat := 0
def pgIdle : Nat := 1
def pgMoving : Nat := 2
def pgStopping : Nat := 3
def pgHoming : Nat := 4
def pgHeld : Nat := 5

/-- A whole number as Q32.32. -/
def q32 (x : Int) : Int := x * 2 ^ 32

/-- Counts per turn of a modulo generator; 0 stands for 2^32 (R140). -/
def LaneSt.modulo (l : LaneSt) (g : Nat) : Nat := if l.rd (PROF.MODULO.COUNT g) = 0 then 2 ^ 32 else l.rd (PROF.MODULO.COUNT g)

/-- Whether the accumulator wraps modulo PROF.MODULO (R125); ignored for FORCE (R140). -/
def LaneSt.isModulo (l : LaneSt) (g : Nat) : Bool := l.on (PROF.CTRL.WRAP g) && l.role g = 1

/-- A position as the accumulator shows it: its integer part wraps modulo 2^32 or modulo PROF.MODULO (R125). -/
def LaneSt.wrapPos (l : LaneSt) (g : Nat) (x : Int) : Int :=
  if l.isModulo g then x % q32 (l.modulo g) else toSigned 64 (ofSigned 64 x)

/-- VMAX, AMAX and JMAX in force as Q32.32, or with the stop limits (R122, R129). -/
def LaneSt.pgLimits (l : LaneSt) (g : Nat) (stop : Bool) : Int × Int × Int :=
  (q32 (l.rd (PROF.VMAX_NOW.VALUE g)),
   q32 (16 * l.rd (if stop then PROF.STOP_A.VALUE g else PROF.AMAX_NOW.VALUE g)),
   q32 (4096 * l.rd (if stop then PROF.STOP_J.VALUE g else PROF.JMAX_NOW.VALUE g)))

/-- The state the plan gives at a time in units of 2^-32 ns; a plan held under R181 is at rest. -/
def LaneSt.pgAt (l : LaneSt) (g t : Nat) : Pva :=
  let s := l.pg g
  match s.hold with
  | some h => if h ≤ t then ⟨(planAt s.plan h ⟨s.acc, 0, 0⟩).p, 0, 0⟩ else planAt s.plan t ⟨s.acc, 0, 0⟩
  | none => planAt s.plan t ⟨s.acc, 0, 0⟩

/-- The set-point SP_POS at the present lane time: the accumulator with INC added at every PWM clock since the plan
step (R123), as it wraps. -/
def LaneSt.spPos (l : LaneSt) (g : Nat) : Int :=
  let s := l.pg g
  l.wrapPos g (s.acc + s.inc * ((l.ns - s.stepAt) / 5 : Nat))

/-- The plan step at or before now, in ns. -/
def LaneSt.stepNs (l : LaneSt) : Nat := l.ns / 1000 * 1000

/-- Lane time in ns as units of 2^-32 ns. -/
def nsUnits (t : Nat) : Nat := t * 2 ^ 32

/-! ## Speed (R178, R179, R181) -/

/-- SPEED of channel `n` in counts per second of the primary port, from its active angle source (R179). With no source
the value is open (log entry 7). -/
def LaneSt.chSpeed (l : LaneSt) (n : Nat) : Int :=
  let src := l.rd (COMM.STATUS.ANGLE_SRC n)
  if src = 1 then l.rdI (FBK.VELOCITY.VALUE (l.rd (COMM.SRC.PORT_P n)))
  else if src = 2 then qdiv (l.rdI (FBK.VELOCITY.VALUE (l.rd (COMM.SRC.PORT_S n))) * l.rd (COMM.RATIO_S.VALUE n)) 65536
  else if src = 3 then l.rdI (COMM.OBS_SPEED.VALUE n)
  else toSigned 32 l.fresh.1

/-- The speed limit in force: the smaller of SPEED_LIMIT and, while K1 applies, DEG_SPEED percent of RATED (R178). With
none set it is the ceiling. -/
def LaneSt.speedLimitNow (l : LaneSt) (n : Nat) : Nat :=
  let top := l.rd (PROF.VMAX_CFG.VALUE (2 * n))
  let x := if (l.ch n).speedLimit = 0 then top else (l.ch n).speedLimit
  if (l.ch n).k1 then min x (qdiv (l.rd (COMM.RATED.VALUE n) * l.rd VOTE.STOP.DEG_SPEED : Nat) 100).toNat else x

/-- Measured |SPEED| is at or below the reversal threshold (R181). -/
def LaneSt.slowEnough (l : LaneSt) (n : Nat) : Bool :=
  decide (100 * (l.chSpeed n).natAbs ≤ l.rd (COMM.THRESH.REV_PCT n) * l.rd (COMM.RATED.VALUE n))

/-! ## Putting a plan in force -/

/-- What SETPOINT reports of a plan (R132). -/
structure PlanInfo where
  shape : Nat
  clamped : Bool
  reduce : Bool
  ns : Nat
  deriving DecidableEq, Repr

/-- DETAIL of an OK SETPOINT (R132). -/
def PlanInfo.detail (i : PlanInfo) : Nat := i.shape + 4 * b2n i.clamped + 8 * b2n i.reduce

/-- The held reversal of a generator is gone (R182). -/
def LaneSt.dropHold (l : LaneSt) (g : Nat) : LaneSt :=
  let l := l.setPg g (fun s => { s with hold := none })
  if g % 2 = 0 then
    let n := g / 2
    if l.on (COMM.STATUS.REVERSAL_PENDING n) then (l.wr (COMM.STATUS.REVERSAL_PENDING n) 0).raise (6 + n) 1 else l
  else l

/-- What stays of the plan in force until a new one starts at `t` (R126): the segments from the present one on; a held plan
stays at rest. -/
def LaneSt.planUntil (l : LaneSt) (g t : Nat) : List Seg :=
  let s := l.pg g
  match s.hold with
  | some h => [⟨h, 0, (l.pgAt g h).p, 0, 0, false⟩]
  | none =>
    let past := s.plan.filter (fun x => decide (x.t ≤ l.time.now))
    (past.drop (past.length - 1) ++ s.plan.filter (fun x => decide (l.time.now < x.t))).filter (fun x => decide (x.t < t))

/-- Show PLAN_END in the lane's present time form (R140). -/
def LaneSt.showPlanEnd (l : LaneSt) (g : Nat) : LaneSt :=
  match planEnd (l.pg g).plan with
  | none => l
  | some e => l.wr (PROF.PLAN_END.TIME g) (stampNs l.t32 (e.t / 2 ^ 32) + 2 ^ 32 * (stampS l.t32 (e.t / 2 ^ 32) % 2 ^ 32))

/-- Put a plan in force from its start on: TARGET, SHAPE, PLAN_END, REPLANS (R126, R140). Until then the generator stays on
the plan before. -/
def LaneSt.setPlan (l : LaneSt) (g : Nat) (segs : List Seg) (shape : Nat) (target : Int) (stop : Bool) : LaneSt :=
  let before := l.planUntil g ((segs.head?).elim 0 (·.t))
  let l := (l.dropHold g).setPg g (fun s => { s with plan := before ++ segs, stop := stop, travelStop := none })
  let l := (l.wrI (PROF.TARGET.VALUE g) target).wr (PROF.STATUS.SHAPE g) shape
  (l.showPlanEnd g).satInc 9 (PROF.COUNTS.REPLANS g)

/-- The unwrapped position a POSITION or FORCE target names, from a state (R125). -/
def LaneSt.unwrapTarget (l : LaneSt) (g : Nat) (s : Pva) (x : Int) : Int :=
  if !l.isModulo g then x + (s.p - l.wrapPos g s.p)
  else
    let m := q32 (l.modulo g)
    let lim := l.pgLimits g false
    let stop := s.stopAt lim.2.1 lim.2.2
    let d := l.rd (PROF.CTRL.WRAP_DIR g)
    if d = 1 then
      let r := if 0 < s.dir then max s.p stop else s.p
      r + (x - r) % m
    else if d = 2 then
      let r := if s.dir < 0 then min s.p stop else s.p
      r - (r - x) % m
    else
      let r := (x - s.p) % m
      if 2 * r ≤ m then s.p + r else s.p + r - m

/-- Nanoseconds between two times in units of 2^-32 ns, to the nearest (R132, as its worked example gives it). -/
def nsBetween (a b : Nat) : Nat := (divRound ((b : Int) - a) (2 ^ 32)).toNat

/-- The last number from `lo` to `lo + n` that a test accepts. -/
def lastOk (ok : Nat → Bool) (lo : Nat) : Nat → Option Nat
  | 0 => if ok lo then some lo else none
  | n + 1 => if ok (lo + n + 1) then some (lo + n + 1) else lastOk ok lo n

/-- The latest plan step, in µs, from which the stop ends at or before a travel limit on side `d`, between two plan
steps in which the plan moves to that side; none when the plan does not cross the limit by then. With no such step left the
stop starts at the first (R125). -/
def LaneSt.travelStep (l : LaneSt) (g : Nat) (segs : List Seg) (d limit : Int) (lo hi : Nat) : Option Nat :=
  let lim := l.pgLimits g true
  let at_ (k : Nat) : Pva := planAt segs (k * planMicro) ⟨limit, 0, 0⟩
  let short (k : Nat) : Bool := decide (d * (at_ k).p ≤ d * limit)
  if short hi then none
  else
    let last := (bisect (fun k => short k.toNat) 64 lo hi).toNat
    some ((lastOk (fun k => short k && decide (d * (at_ k).stopAt lim.2.1 lim.2.2 ≤ d * limit)) lo (last - lo)).getD lo)

/-- The plan step, in ns, at which a SPEED plan that would cross a travel limit replans to its stop (R125): first the
limit in the direction of motion at the start, then that of the speed target. -/
def LaneSt.travelStopAt (l : LaneSt) (g t : Nat) (segs : List Seg) (vt : Int) : Option Nat :=
  if !l.on (PROF.CTRL.TRAVEL_EN g) ∨ l.isModulo g then none
  else
    let s := l.pgAt g (nsUnits t)
    let off := s.p - l.wrapPos g s.p
    let limit (d : Int) : Int :=
      off + q32 (if d < 0 then l.rdI (PROF.TRAVEL_MIN.VALUE g) else l.rdI (PROF.TRAVEL_MAX.VALUE g))
    let e := (planEnd segs).getD ⟨nsUnits t, 0, s.p, vt, 0, false⟩
    let lo := t / 1000
    let turn := ((segs.find? (·.rev)).elim e.t (·.t)) / planMicro
    let far := e.t / planMicro + 2 +
      (if vt = 0 then 0 else (qdiv ((sgn vt * (limit (sgn vt) - e.p)) * 10 ^ 6) vt.natAbs).toNat)
    match (if s.dir * vt < 0 then l.travelStep g segs s.dir (limit s.dir) lo turn else none) with
    | some k => some (k * 1000)
    | none =>
      if vt = 0 then none
      else (l.travelStep g segs (sgn vt) (limit (sgn vt)) (if s.dir * vt < 0 then turn else lo) far).map (· * 1000)

/-- Replan generator `g` at lane time `t` (ns) to a target of a KIND, 0 POSITION, 1 SPEED, 2 FORCE (R126 to R129); with
the stop limits for a stop to a force, and reducing under them for K1 (R116). -/
def LaneSt.replan (l : LaneSt) (g t kind : Nat) (x : Int) (stop redStop : Bool) : LaneSt × PlanInfo :=
  let s := l.pgAt g (nsUnits t)
  let lim := l.pgLimits g stop
  let red := l.pgLimits g (stop || redStop)
  let b := (Bld.start (nsUnits t) s).reduce red.1 red.2.1 red.2.2
  let above := s.above red.1 red.2.1
  if kind = 1 then
    let vt := max (-lim.1) (min lim.1 x)
    let b := b.toSpeed vt lim.2.1 lim.2.2
    let segs := b.finish b.s.p vt
    let l' := (l.setPlan g segs 3 vt stop).setPg g (fun q => { q with travelStop := l.travelStopAt g t segs vt })
    (l', ⟨3, decide (vt ≠ x), above, nsBetween (nsUnits t) b.t⟩)
  else
    let pt := l.unwrapTarget g s x
    let r := b.toPos pt lim.1 lim.2.1 lim.2.2
    (l.setPlan g (r.2.finish pt 0) r.1 (l.wrapPos g pt) stop, ⟨r.1, false, above, nsBetween (nsUnits t) r.2.t⟩)

/-- Replan to rest under the stop limits at lane time `t` (R129); TARGET holds the rest position. -/
def LaneSt.replanRest (l : LaneSt) (g t : Nat) : LaneSt :=
  let lim := l.pgLimits g true
  let b := ((Bld.start (nsUnits t) (l.pgAt g (nsUnits t))).reduce lim.1 lim.2.1 lim.2.2).stop lim.2.1 lim.2.2
  (l.setPlan g (b.finish b.s.p 0) 0 (l.wrapPos g b.s.p) true).setPg g (fun s => { s with ask := none })

/-- Stop generator `g`: MOTION to rest, FORCE to a force, under the stop limits (R114, R134, R180). -/
def LaneSt.stopGen (l : LaneSt) (g t : Nat) (force : Int) : LaneSt :=
  let l := if l.role g = 1 then l.replanRest g t
    else if l.role g = 2 then ((l.replan g t 2 force true false).1).setPg g (fun s => { s with ask := none })
    else l
  if l.role g = 0 then l
  else (l.setPg g (fun s => { s with home := .none, reqs := [] })).wr (PROF.STATUS.STATE g) pgStopping

/-- Discard the queue of a generator; each entry counts (R130). -/
def LaneSt.discardQueue (l : LaneSt) (g : Nat) : LaneSt :=
  let k := (l.pg g).queue.length
  let l := (List.range k).foldl (fun l _ => l.satInc 9 (PROF.COUNTS.DISCARDED g)) l
  (l.setPg g (fun s => { s with queue := [], reqs := [] })).wr (PROF.STATUS.QUEUE g) 0

/-- A generator stands still with its plan ended and no change waiting. -/
def LaneSt.genRests (l : LaneSt) (g : Nat) : Bool :=
  l.role g = 0 ||
    (let s := l.pg g
     let e := (planEnd s.plan).getD ⟨0, 0, s.acc, 0, 0, false⟩
     s.hold.isNone && s.queue.isEmpty && s.reqs.isEmpty && decide (nsUnits l.ns ≥ e.t) && decide (e.v = 0))

/-- Owed steps from a movement of the set-point: STEP_BACKLOG, STEP_OVERRUN, the stop at 32,767. The direction line changes
where the backlog passes through 0 (R139). -/
def LaneSt.oweSteps (l : LaneSt) (g : Nat) : LaneSt :=
  let s := l.pg g
  let q := s.acc / q32 (l.rd (PROF.STEP_DIV.DIV g))
  let d := q - s.stepQ
  let l := l.setPg g (fun s => { s with stepQ := q })
  if !l.on (PROF.STEP_CTRL.EN g) ∨ l.role g ≠ 1 ∨ d = 0 then l
  else
    let b := l.rdI (PROF.STEP_BACKLOG.STEPS g) + d
    let was := l.on (PROF.STATUS.STEP_OVERRUN g)
    let turns : Bool := b != 0 && decide (b < 0) != s.dirNeg
    let l := if turns then l.setPg g (fun s => { s with dirNeg := decide (b < 0), dirAt := some l.run }) else l
    let l := (l.wrSat (PROF.STEP_BACKLOG.STEPS g) b).wrB (PROF.STATUS.STEP_OVERRUN g) (decide (64 < b.natAbs))
    let l := if 64 < b.natAbs ∧ !was then l.fault 0x124 g else l
    if 32767 ≤ b.natAbs ∧ !s.stepStop then (l.setPg g (fun s => { s with stepStop := true })).fault 0x125 g else l

/-- Set a generator at rest at a position, the limits in force at their ceilings (R122, R134). The positions latched by limit
edges stay, and steps are owed for the change of the set-point (R136, R139). -/
def LaneSt.initGen (l : LaneSt) (g : Nat) (x : Int) : LaneSt :=
  if l.role g = 0 then l
  else
    let old := (l.pg g).acc
    let off := (x - l.wrapPos g x) - (old - l.wrapPos g old)
    let l := (l.dropHold g).setPg g (fun s => { PgSt.reset with
      acc := x, stepAt := l.ns, vmax := l.rd (PROF.VMAX_CFG.VALUE g), lim := (s.lim.1 + off, s.lim.2 + off),
      stepQ := s.stepQ, stepStop := s.stepStop, dirNeg := s.dirNeg, pulseAt := s.pulseAt, dirAt := s.dirAt })
    let l := l.oweSteps g
    let l := ((l.wrI (PROF.POS.VALUE g) (l.wrapPos g x)).wr (PROF.VEL.VALUE g) 0).wr (PROF.ACC.VALUE g) 0
    let l := ((l.wrI (PROF.TARGET.VALUE g) (l.wrapPos g x)).wr (PROF.STATUS.SHAPE g) 0).wr (PROF.STATUS.LIMIT_REDUCE g) 0
    let l := (l.wr (PROF.STATUS.STATE g) pgIdle).wr (PROF.STATUS.QUEUE g) 0
    let l := l.wr (PROF.VMAX_NOW.VALUE g) (l.rd (PROF.VMAX_CFG.VALUE g))
    (l.wr (PROF.AMAX_NOW.VALUE g) (l.rd (PROF.AMAX_CFG.VALUE g))).wr (PROF.JMAX_NOW.VALUE g) (l.rd (PROF.JMAX_CFG.VALUE g))

/-! ## Taking effect (R126, R130, R131) -/

/-- A target that R136 or R137 turns away: reason and argument. -/
def LaneSt.targetBlocked (l : LaneSt) (g t kind : Nat) (x : Int) : Option (Nat × Nat) :=
  let pt := if kind = 1 then 0 else l.unwrapTarget g (l.pgAt g (nsUnits t)) x
  let s := l.pg g
  if s.home ≠ .none then some (0x65, 0)
  else if kind = 0 ∧ l.rd (PROF.STATUS.HOME_ERR g) ≠ 0 then some (0x65, 1)
  else if l.on (PROF.STATUS.LIMP_HIT g) ∧ ((kind = 1 ∧ 0 < x) ∨ (kind = 0 ∧ s.lim.1 < pt)) then some (0x64, 0)
  else if l.on (PROF.STATUS.LIMN_HIT g) ∧ ((kind = 1 ∧ x < 0) ∨ (kind = 0 ∧ pt < s.lim.2)) then some (0x64, 1)
  else none

/-- Whether a generator still runs toward its target, so that new limits replan it. -/
def LaneSt.genMoves (l : LaneSt) (g : Nat) : Bool := l.rd (PROF.STATUS.STATE g) = pgMoving && (l.pg g).ask.isSome

/-- VMAX in force: that of LIMITS, lowered by the speed limit in force; SPEED_LIM_NOW and SPEED_LIMITED (R178). -/
def LaneSt.showLimits (l : LaneSt) (n : Nat) : LaneSt :=
  let lim := l.speedLimitNow n
  let l := (l.wr (COMM.SPEED_LIM_NOW.VALUE n) lim).wrB (COMM.STATUS.SPEED_LIMITED n)
    (decide (lim < l.rd (PROF.VMAX_CFG.VALUE (2 * n))))
  l.wr (PROF.VMAX_NOW.VALUE (2 * n)) (min (l.pg (2 * n)).vmax lim)

/-- Replan a moving generator to the target it has, under changed limits; one that homes, to the speed of its present
movement (R129). -/
def LaneSt.replanSame (l : LaneSt) (g t : Nat) (redStop : Bool) : LaneSt :=
  let s := l.pg g
  if l.rd (PROF.STATUS.STATE g) = pgHoming ∧ (s.home = .search ∨ s.home = .toIndex) then
    ((l.replan g t 1 ((planEnd s.plan).elim 0 (·.v)) false redStop).1).setPg g (fun s => { s with travelStop := none })
  else match s.ask with
  | some (k, x) => if l.genMoves g then (l.replan g t k x false redStop).1 else l
  | none => l

/-- A change takes effect at lane time `t`, in ns. -/
def LaneSt.applyAct (l : LaneSt) (g t : Nat) (act : ProfAct) : LaneSt × PlanInfo :=
  match act with
  | .target tag kind x =>
    let r := l.replan g t kind x false false
    let l := (r.1.setPg g (fun s => { s with ask := some (kind, x) })).wr (PROF.STATUS.STATE g) pgMoving
    ({ l with folio := { l.folio with lastTag := l.folio.lastTag.setIfInBounds (g / 2) tag } }, r.2)
  | .limits mask vmax amax jmax tmax speed =>
    let n := g / 2
    let l := if bit mask 0 then l.setPg g (fun s => { s with vmax := vmax }) else l
    let l := if bit mask 1 then l.wr (PROF.AMAX_NOW.VALUE g) amax else l
    let l := if bit mask 2 then l.wr (PROF.JMAX_NOW.VALUE g) jmax else l
    let l := if bit mask 3 then l.wr (COMM.TMAX_NOW.VALUE n) tmax else l
    let l := if bit mask 4 then l.setComm n (fun c => { c with speedLimit := speed }) else l
    let l := l.showLimits n
    let lim := l.pgLimits g false
    let above := (l.pgAt g (nsUnits t)).above lim.1 lim.2.1
    (l.replanSame g t false, ⟨0, false, above, 0⟩)

/-- A change takes effect unless R136 or R137 has come to turn its target away since it was accepted. -/
def LaneSt.applyDue (l : LaneSt) (g t : Nat) (act : ProfAct) : LaneSt :=
  match act with
  | .target _ kind x => if (l.targetBlocked g t kind x).isSome then l else (l.applyAct g t act).1
  | .limits _ _ _ _ _ _ => (l.applyAct g t act).1

/-- Whether a change is a LIMITS. -/
def ProfAct.isLimits : ProfAct → Bool
  | .limits _ _ _ _ _ _ => true
  | .target _ _ _ => false

/-- A change that waits: its lane time in ns, whether it was TIMED, and what it changes. -/
structure Due where
  t : Nat
  timed : Bool
  act : ProfAct
  deriving DecidableEq, Repr

/-- The order of R131 of changes that reach a generator: by their plan step; at one step LIMITS before SETPOINT; of one
opcode the timed before the untimed. -/
def Due.before (x y : Due) : Bool :=
  decide (x.t < y.t) || (x.t = y.t &&
    ((x.act.isLimits && !y.act.isLimits) || (x.act.isLimits == y.act.isLimits && x.timed && !y.timed)))

/-- The first of waiting changes in that order; of equals the one that stands first. -/
def firstDue (xs : List Due) : Option Due :=
  xs.foldl (fun r x => match r with
    | none => some x
    | some y => if x.before y then some x else some y) none

/-- The changes in a list applied in order. -/
def LaneSt.applyAll (l : LaneSt) (g : Nat) : Nat → List Due → LaneSt
  | 0, _ => l
  | k + 1, xs =>
    match firstDue xs with
    | none => l
    | some x => LaneSt.applyAll (l.applyDue g x.t x.act) g k (xs.erase x)

/-- A timed entry waits for a pending commit whose EPOCH is not after it: the configuration takes effect first (R87). -/
def LaneSt.waitsEpoch (l : LaneSt) (t : Nat) : Bool :=
  l.commit.any (fun c => c.oldFp.isNone && c.reason.isNone && decide (c.epoch ≤ nsUnits t))

/-- The changes of a generator that are due at `t`: its queue and its untimed changes. -/
def LaneSt.dueList (l : LaneSt) (g t : Nat) : List Due :=
  (((l.pg g).queue.filter (fun x => decide (x.1 ≤ t) && !l.waitsEpoch x.1)).map (fun x => ⟨x.1, true, x.2⟩)) ++
  (((l.pg g).reqs.filter (fun x => decide (x.1 ≤ t))).map (fun x => ⟨x.1, false, x.2⟩))

/-- Every change that is due takes effect, each from the state the one before left (R126, R130, R131). -/
def LaneSt.changesDue (l : LaneSt) (g : Nat) : LaneSt :=
  let due := l.dueList g l.ns
  let l := l.setPg g (fun s => { s with
    queue := s.queue.filter (fun x => !(decide (x.1 ≤ l.ns) && !l.waitsEpoch x.1)), reqs := s.reqs.filter (fun x => l.ns < x.1) })
  (l.wr (PROF.STATUS.QUEUE g) (l.pg g).queue.length).applyAll g due.length due

/-- REPLAN: a replan instant has come. -/
def execReplan (l : LaneId) (g : Fin 16) (s : State) : Host.Outcome State Fault Refusal :=
  onLane l (fun x => x.changesDue g.val) s

/-- TIMED_ENTRY_APPLY: the AT of a queued entry has come. -/
def execTimedEntryApply (l : LaneId) (g : Fin 16) (s : State) : Host.Outcome State Fault Refusal :=
  onLane l (fun x => x.changesDue g.val) s

/-! ## SETPOINT and LIMITS -/

/-- The channel-state check of SETPOINT and LIMITS (R115, R193, R335, R481). -/
def LaneSt.motionDenied (l : LaneSt) (n : Nat) (setpoint : Bool) : Option (Nat × Nat) :=
  let c := l.ch n
  if c.latch ≠ 0 then some (0x70, c.latch)
  else if c.sfStop ≠ 0 ∧ l.on (COMM.STATUS.STOPPING n) then
    some (0x56, ((List.range 16).find? (fun f => bit c.sfStop f)).getD 0)
  else if l.chState n = 2 ∨ (l.chState n = 3 ∧ !setpoint) then none
  else some (0x09, 0)

/-- Insert an accepted TIMED entry in order of AT; one of the same AT and opcode is replaced (R130). The length after
it and whether it replaced; none when the queue is full. -/
def LaneSt.enqueue (l : LaneSt) (g t : Nat) (act : ProfAct) : Option (LaneSt × Nat × Bool) :=
  let q := (l.pg g).queue
  let same (x : Nat × ProfAct) : Bool := decide (x.1 = t) && x.2.isLimits == act.isLimits
  if q.any same then
    some ((l.setPg g (fun s => { s with queue := q.map (fun x => if same x then (t, act) else x) })).satInc 9
      (PROF.COUNTS.DISCARDED g), q.length, true)
  else if 8 ≤ q.length then none
  else
    let q' := q.takeWhile (fun x => x.1 ≤ t) ++ [(t, act)] ++ q.dropWhile (fun x => x.1 ≤ t)
    some ((l.setPg g (fun s => { s with queue := q' })).wr (PROF.STATUS.QUEUE g) q'.length, q'.length, false)

/-- Accept a change: queued until its AT and completed DEFERRED, or, untimed, at t_r and completed OK with what the
plan computed in advance gives (R126, R130, R132). -/
def LaneSt.acceptAct (l : LaneSt) (d : Decided) (g : Nat) (timed : Bool) (at' : Nat) (act : ProfAct) : LaneSt :=
  let tr := l.replanNs
  if timed ∧ tr ≤ at' then
    match l.enqueue g ((at' + 999) / 1000 * 1000) act with
    | none => l.deny d 0x63 8
    | some (l, k, repl) => l.complete d stDeferred (k + 16 * b2n repl) 0
  else
    let due := (l.dueList g tr).filter (fun x => !(⟨tr, false, act⟩ : Due).before x)
    let r := (l.applyAll g due.length due).applyAct g tr act
    let l := l.setPg g (fun s => { s with reqs := s.reqs ++ [(tr, act)] })
    if act.isLimits then l.complete d stOk (b2n r.2.reduce) 0 else l.complete d stOk r.2.detail r.2.ns

/-- SETPOINT turned away for its target (R125): reason and argument of a REJECTED completion. -/
def LaneSt.targetRejected (l : LaneSt) (g kind : Nat) (x : Int) : Option (Nat × Nat) :=
  if kind ≠ 0 ∨ l.role g ≠ 1 then none
  else if l.isModulo g then
    if 0 ≤ x ∧ x ≤ q32 ((l.modulo g : Int) - 1) then none else some (0x02, 24)
  else if l.on (PROF.CTRL.TRAVEL_EN g) ∧
      (x < q32 (l.rdI (PROF.TRAVEL_MIN.VALUE g)) ∨ q32 (l.rdI (PROF.TRAVEL_MAX.VALUE g)) < x) then some (0x60, 0)
  else none

/-- KIND_NOT_ALLOWED (R120, R132). -/
def LaneSt.kindDenied (l : LaneSt) (g kind : Nat) : Option (Nat × Nat) :=
  let ok : Bool :=
    if kind = 2 then l.role g = 2
    else l.role g = 1 && l.on (if kind = 0 then PROF.CTRL.POS_OK g else PROF.CTRL.SPEED_OK g)
  if ok then none else some (0x62, kind)

/-- SETPOINT (R121, R126, R132). -/
def LaneSt.setpoint (l : LaneSt) (d : Decided) (n kind : Nat) (timed : Bool) (x : Int) (sec ns : Nat) : LaneSt :=
  let g := if kind = 2 then 2 * n + 1 else 2 * n
  match l.targetRejected g kind x with
  | some (code, arg) => l.complete d stRejected (reasonDetail code arg) 0
  | none =>
    l.permitted d [l.permSetup, l.permMode, l.motionDenied n true, if timed then l.permTime else none,
        l.kindDenied g kind, l.targetBlocked g l.replanNs kind x]
      (fun l => l.acceptAct d g timed (time80 sec ns) (.target d.tag kind x))

/-- The first field of a LIMITS out of its range, by its bit in MASK (R122, R178). -/
def LaneSt.limitBad (l : LaneSt) (n mask vmax amax jmax tmax speed : Nat) : Option Nat :=
  let g := 2 * n
  let bad (i x top : Nat) : Bool := bit mask i && (x = 0 || decide (top < x))
  if bad 0 vmax (l.rd (PROF.VMAX_CFG.VALUE g)) then some 0
  else if bad 1 amax (l.rd (PROF.AMAX_CFG.VALUE g)) then some 1
  else if bad 2 jmax (l.rd (PROF.JMAX_CFG.VALUE g)) then some 2
  else if bad 3 tmax (l.rd (COMM.TORQUE_MAX.VALUE n)) then some 3
  else if bad 4 speed (l.rd (PROF.VMAX_CFG.VALUE g)) then some 4
  else none

/-- LIMITS (R122, R178, R481). -/
def LaneSt.limits (l : LaneSt) (d : Decided) (n mask : Nat) (timed : Bool) (vmax amax jmax tmax speed sec ns : Nat) :
    LaneSt :=
  match l.limitBad n mask vmax amax jmax tmax speed with
  | some i => l.complete d stRejected (reasonDetail 0x61 i) 0
  | none =>
    l.permitted d [l.permSetup, l.permMode, l.motionDenied n false, if timed then l.permTime else none]
      (fun l => l.acceptAct d (2 * n) timed (time80 sec ns) (.limits mask vmax amax jmax tmax speed))

/-- A SETPOINT descriptor. -/
def DescOp.isSetpoint : DescOp → Bool
  | .setpoint _ _ _ _ _ _ => true
  | _ => false

/-- A LIMITS descriptor. -/
def DescOp.isLimits : DescOp → Bool
  | .limits _ _ _ _ _ _ _ _ _ _ => true
  | _ => false

def execSetpoint (l : LaneId) (s : State) : Host.Outcome State Fault Refusal :=
  onLane l (fun x => x.withDesc DescOp.isSetpoint (fun d op y => match op with
    | .setpoint ch kind timed target sec ns => y.setpoint d ch kind timed target sec ns
    | _ => y)) s

def execLimits (l : LaneId) (s : State) : Host.Outcome State Fault Refusal :=
  onLane l (fun x => x.withDesc DescOp.isLimits (fun d op y => match op with
    | .limits ch mask timed vmax amax jmax tmax speed sec ns => y.limits d ch mask timed vmax amax jmax tmax speed sec ns
    | _ => y)) s

/-! ## Reversals (R181, R182) -/

/-- At a reversal point of the plan that has come, the plan is held at rest when the measured speed is above the
threshold, and goes on otherwise. -/
def LaneSt.reversalCheck (l : LaneSt) (g t : Nat) : LaneSt :=
  let s := l.pg g
  match s.plan.find? (fun x => x.rev && decide (x.t ≤ t)) with
  | none => l
  | some x =>
    let l := l.setPg g (fun q => { q with plan := q.plan.map (fun y => if y.t = x.t then { y with rev := false } else y) })
    if s.hold.isSome ∨ l.role g ≠ 1 ∨ l.slowEnough (g / 2) then l
    else
      ((l.setPg g (fun q => { q with hold := some x.t })).wr (COMM.STATUS.REVERSAL_PENDING (g / 2)) 1).raise (6 + g / 2) 1

/-- A held plan is released: what is left of it shifts by the length of the hold (R181), its end and the step of a stop
before a travel limit with it. -/
def LaneSt.releaseHold (l : LaneSt) (n : Nat) : LaneSt :=
  match (l.pg (2 * n)).hold with
  | none => l
  | some h =>
    if !l.slowEnough n then l
    else
      let shift := l.time.now - h
      let l := (l.dropHold (2 * n)).setPg (2 * n) (fun s => { s with
        plan := s.plan.map (fun x => if h ≤ x.t then { x with t := x.t + shift } else x) })
      let s := l.pg (2 * n)
      let l := if s.travelStop.isNone then l
        else l.setPg (2 * n) (fun q => { q with
          travelStop := l.travelStopAt (2 * n) l.stepNs s.plan ((planEnd s.plan).elim 0 (·.v)) })
      (l.showPlanEnd (2 * n)).satInc 8 (COMM.COUNTS2.REVERSALS n)

/-! ## Homing (R137) -/

/-- Add an offset to the accumulator and the plan. -/
def LaneSt.shiftGen (l : LaneSt) (g : Nat) (off : Int) : LaneSt :=
  let l := l.setPg g (fun s => { s with
    acc := s.acc + off, plan := s.plan.map (fun x => { x with p := x.p + off }),
    lim := (s.lim.1 + off, s.lim.2 + off) })
  let l := l.oweSteps g
  let l := l.wrI (PROF.POS.VALUE g) (l.wrapPos g (l.pg g).acc)
  l.wrI (PROF.TARGET.VALUE g) (l.wrapPos g (l.rdI (PROF.TARGET.VALUE g) + off))

/-- The latched point becomes HOME_POS: the same whole number of counts is added to the accumulator and to the
reference port's position offset; HOMED is set. -/
def LaneSt.homeFinish (l : LaneSt) (g : Nat) : LaneSt :=
  let off := qdiv (q32 (l.rdI (PROF.HOME_POS.VALUE g)) - l.wrapPos g (l.pg g).homeRef) (2 ^ 32)
  let p := l.rd (COMM.SRC.PORT_P (g / 2))
  let l := l.shiftGen g (q32 off)
  let l := if p < 24 then l.setOffset p (l.rdI (FBK.OFFSET.VALUE p) + off) else l
  (((l.wr (PROF.STATUS.HOMED g) 1).wr (PROF.STATUS.HOME_ERR g) 0).raise (6 + g / 2) 4).setPg g (fun s => { s with home := .done })

/-- Direction of the homing search: REF_NEG and INDEX_NEG search in the negative direction. -/
def LaneSt.homeDir (l : LaneSt) (g : Nat) : Int := if l.rd (PROF.HOME_CTRL.MODE g) % 2 = 0 then -1 else 1

/-- Run at a homing speed, Q32.32, from plan step `t`. -/
def LaneSt.homeRun (l : LaneSt) (g t : Nat) (v : Int) (st : HomeStage) : LaneSt :=
  let p := (l.pgAt g (nsUnits t)).p
  (((l.replan g t 1 v false false).1).setPg g (fun s => { s with
    home := st, homeFrom := p, travelStop := none, ask := none })).wr (PROF.STATUS.STATE g) pgHoming

/-- Homing starts when the channel's start-up completes, with HOMED = 0 or at every enable (R137). -/
def LaneSt.homeStart (l : LaneSt) (g : Nat) : LaneSt :=
  if l.role g ≠ 1 ∨ l.rd (PROF.HOME_CTRL.MODE g) = 0 ∨
      (l.on (PROF.STATUS.HOMED g) ∧ !l.on (PROF.HOME_CTRL.EVERY_ENABLE g)) then l
  else (l.wr (PROF.STATUS.HOME_ERR g) 0).homeRun g l.stepNs (l.homeDir g * q32 (l.rd (PROF.HOME_V.VALUE g))) .search

/-- Stop during homing, the state staying HOMING. -/
def LaneSt.homeStop (l : LaneSt) (g : Nat) (st : HomeStage) : LaneSt :=
  (l.replanRest g l.stepNs).setPg g (fun s => { s with home := st })

/-- Homing fails with a cause: 1 NO_EDGE, 2 LIMIT, 3 NO_INDEX. -/
def LaneSt.homeFail (l : LaneSt) (g cause : Nat) : LaneSt :=
  if (l.pg g).home = .none ∨ (l.pg g).home = .done then l
  else
    let l := ((l.replanRest g l.stepNs).setPg g (fun s => { s with home := .none })).wr (PROF.STATUS.STATE g) pgStopping
    ((l.wr (PROF.STATUS.HOME_ERR g) cause).raise (6 + g / 2) 4).fault 0x123 g

/-- HOMING_REF_EDGE: the reference edge latches; the generator stops. -/
def LaneSt.homeRefEdge (l : LaneSt) (g : Nat) : LaneSt :=
  if (l.pg g).home ≠ .search then l
  else
    let p := l.spPos g
    (l.setPg g (fun s => { s with homeRef := p })).homeStop g
      (if 3 ≤ l.rd (PROF.HOME_CTRL.MODE g) then .indexStop else .refStop)

def execHomingRefEdge (l : LaneId) (g : Fin 16) (s : State) : Host.Outcome State Fault Refusal :=
  onLane l (fun x => x.homeRefEdge g.val) s

/-- HOMING_INDEX: the index pulse latches, becomes HOME_POS, and the generator comes to rest. -/
def LaneSt.homeIndex (l : LaneSt) (g : Nat) : LaneSt :=
  if (l.pg g).home ≠ .toIndex then l
  else
    let p := l.spPos g
    ((l.setPg g (fun s => { s with homeRef := p })).homeFinish g).homeStop g .done

def execHomingIndex (l : LaneId) (g : Fin 16) (s : State) : Host.Outcome State Fault Refusal :=
  onLane l (fun x => x.homeIndex g.val) s

/-- HOMING_NO_EDGE: HOME_TRAVEL counts travelled without the edge. -/
def execHomingNoEdge (l : LaneId) (g : Fin 16) (s : State) : Host.Outcome State Fault Refusal :=
  onLane l (fun x => if (x.pg g.val).home = .search then x.homeFail g.val 1 else x) s

/-- HOMING_NO_INDEX: no index within one MODULO after the reference edge. -/
def execHomingNoIndex (l : LaneId) (g : Fin 16) (s : State) : Host.Outcome State Fault Refusal :=
  onLane l (fun x =>
    if (x.pg g.val).home = .toIndex ∨ (x.pg g.val).home = .indexStop then x.homeFail g.val 3 else x) s

/-- What homing does when its present movement has come to rest. -/
def LaneSt.homeRest (l : LaneSt) (g t : Nat) : LaneSt :=
  match (l.pg g).home with
  | .refStop => ((l.homeFinish g).setPg g (fun s => { s with home := .none })).wr (PROF.STATUS.STATE g) pgIdle
  | .indexStop => l.homeRun g t (l.homeDir g * qdiv (q32 (l.rd (PROF.HOME_V.VALUE g))) 8) .toIndex
  | .done => (l.setPg g (fun s => { s with home := .none })).wr (PROF.STATUS.STATE g) pgIdle
  | _ => l

/-! ## Plan steps (R123) and the step output (R139) -/

/-- A step can go out now: HIGH + LOW after the last one, and SETUP after the direction line has changed. -/
def LaneSt.stepReady (l : LaneSt) (g : Nat) : Bool :=
  let s := l.pg g
  s.pulseAt.all (fun t => decide (t + 5 * (l.rd (PROF.STEP_CTRL.HIGH g) + l.rd (PROF.STEP_CTRL.LOW g)) ≤ l.run)) &&
  s.dirAt.all (fun t => decide (t + 5 * l.rd (PROF.STEP_CTRL.SETUP g) ≤ l.run))

/-- STEP_PULSE_EMIT: one owed step on the step line, unless the output has stopped or it is too soon. -/
def LaneSt.stepPulse (l : LaneSt) (g : Nat) : LaneSt :=
  let b := l.rdI (PROF.STEP_BACKLOG.STEPS g)
  if !l.on (PROF.STEP_CTRL.EN g) ∨ l.role g ≠ 1 ∨ (l.pg g).stepStop ∨ b = 0 ∨ !l.stepReady g then l
  else
    let b' := b - sgn b
    ((l.wrI (PROF.STEP_BACKLOG.STEPS g) b').wrB (PROF.STATUS.STEP_OVERRUN g) (decide (64 < b'.natAbs))).setPg g
      (fun s => { s with pulseAt := some l.run })

/-- The step line of a generator is high: HIGH × 5 ns from the pulse's start. -/
def LaneSt.stepLine (l : LaneSt) (g : Nat) : Bool :=
  (l.pg g).pulseAt.any (fun t => decide (l.run < t + 5 * l.rd (PROF.STEP_CTRL.HIGH g)))

/-- The direction line of a generator: high for positive with DIR_POL 0. -/
def LaneSt.dirLine (l : LaneSt) (g : Nat) : Bool := (l.pg g).dirNeg == l.on (PROF.STEP_CTRL.DIR_POL g)

/-- The generator that drives a step and direction pair on PTk: PT0 and PT1 with PAIR 0, PT2 and PT3 with PAIR 1. -/
def LaneSt.stepGen (l : LaneSt) (k : Nat) : Option Nat :=
  (List.range 16).find? (fun g => l.on (PROF.STEP_CTRL.EN g) && l.role g = 1 && l.rd (PROF.STEP_CTRL.PAIR g) = k / 2)

/-- Levels of PTk's lines, A in bit 0, B in bit 1, Z in bit 2: step or direction on line A of an output that a generator
uses, the pass-through's otherwise (R139, R224). That the pair's pin is line A is the model's choice (log entry 37). -/
def LaneSt.ptLines (l : LaneSt) (k : Nat) : Nat :=
  match l.stepGen k with
  | some g => b2n (if k % 2 = 0 then l.stepLine g else l.dirLine g)
  | none => l.ptPins k

def execStepPulseEmit (l : LaneId) (g : Fin 16) (s : State) : Host.Outcome State Fault Refusal :=
  onLane l (fun x => x.stepPulse g.val) s

/-- The accumulator, VEL, ACC and INC at plan step `t`: the plan's state there, and the increment that reaches the next
step in 200 PWM clocks; LIMIT_REDUCE while the state lies above the limits (R123, R129). -/
def LaneSt.loadStep (l : LaneSt) (g t : Nat) : LaneSt :=
  let x := l.pgAt g (nsUnits t)
  let y := l.pgAt g (nsUnits t + planMicro)
  let lim := l.pgLimits g (l.pg g).stop
  let l := l.setPg g (fun s => { s with acc := x.p, inc := divRound (y.p - x.p) 200, stepAt := t })
  let l := ((l.wrI (PROF.POS.VALUE g) (l.wrapPos g x.p)).wrI (PROF.VEL.VALUE g) x.v).wrI (PROF.ACC.VALUE g) x.a
  (l.wrB (PROF.STATUS.LIMIT_REDUCE g) (x.above lim.1 lim.2.1)).oweSteps g

/-- A generator whose plan has ended at rest is IDLE; homing goes on. -/
def LaneSt.planDone (l : LaneSt) (g t : Nat) : LaneSt :=
  let s := l.pg g
  let e := (planEnd s.plan).getD ⟨0, 0, s.acc, 0, 0, false⟩
  if s.hold.isSome ∨ nsUnits t < e.t ∨ e.v ≠ 0 then l
  else if s.home ≠ .none then l.homeRest g t
  else if l.rd (PROF.STATUS.STATE g) = pgMoving ∨ l.rd (PROF.STATUS.STATE g) = pgStopping
    then l.wr (PROF.STATUS.STATE g) pgIdle else l

/-- PLAN_STEP of generator `g` at the plan step at or before now (R123, R125, R181). -/
def LaneSt.planStep (l : LaneSt) (g : Nat) : LaneSt :=
  if l.role g = 0 ∨ l.rd (PROF.STATUS.STATE g) = pgOff then l
  else
    let t := l.stepNs
    let l := l.reversalCheck g (nsUnits t)
    let l := match (l.pg g).travelStop with
      | some k => if k ≤ t ∧ (l.pg g).hold.isNone then (l.replanRest g k).wr (PROF.STATUS.STATE g) pgStopping else l
      | none => l
    (l.loadStep g t).planDone g t

def execPlanStep (l : LaneId) (g : Fin 16) (s : State) : Host.Outcome State Fault Refusal :=
  onLane l (fun x => x.planStep g.val) s

/-! ## Latch and limit inputs (R135, R136) -/

/-- PROF_LATCH_EDGE: the edge on the latch source arrives through its mailbox with the stamp of its FBK sample: the
accumulator is captured, less INC times the PWM clocks since that sample; LATCH_COUNT goes up. An edge that no command of
its source has put there is stamped at its arrival. -/
def LaneSt.latchEdge (l : LaneSt) (g : Nat) (rising : Bool) : LaneSt :=
  let e := l.rd (PROF.SW_CTRL.LATCH_EDGE g)
  if 8 < l.rd (PROF.SW_CTRL.LATCH_SRC g) ∨ l.role g ≠ 1 ∨ (e = 0 ∧ !rising) ∨ (e = 1 ∧ rising) ∨ e = 3 then l
  else
    let s := l.pg g
    let clocks : Nat := match s.edge with
      | some (t, r) => if r = rising then (l.run - t) / 5 else 0
      | none => 0
    let x := l.wrapPos g (s.acc + s.inc * ((l.ns - s.stepAt) / 5 : Nat) - s.inc * clocks)
    (((l.setPg g (fun s => { s with edge := none })).wrI (PROF.LATCH.VALUE g) x).inc (PROF.STATUS.LATCH_COUNT g)).raise
      (6 + g / 2) 3

def execProfLatchEdge (l : LaneId) (g : Fin 16) (rising : Bool) (s : State) : Host.Outcome State Fault Refusal :=
  onLane l (fun x => x.latchEdge g.val rising) s

/-- A running AUTOTUNE of channel `n` aborts in this lane with a reason (R165); the first reason stays. -/
def LaneSt.tuneAbort (l : LaneSt) (n code arg : Nat) : LaneSt :=
  { l with loop := { l.loop with
      tune := l.loop.tune.setIfInBounds n ((l.loop.tune.getD n none).map (fun t =>
        { t with aborted := if t.aborted.isSome then t.aborted else some (code, arg) })) } }

/-- LIMIT_SWITCH_EDGE: the position is latched, the generator stops and is HELD; a homing search toward the switch
fails; a tune of the channel aborts. -/
def LaneSt.limitEdge (l : LaneSt) (g : Nat) (pos : Bool) : LaneSt :=
  let f := if pos then PROF.STATUS.LIMP_HIT g else PROF.STATUS.LIMN_HIT g
  if l.role g ≠ 1 ∨ 8 ≤ l.rd (if pos then PROF.SW_CTRL.LIMP_SRC g else PROF.SW_CTRL.LIMN_SRC g) then l
  else
    let s := l.pg g
    let here := s.acc + s.inc * ((l.ns - s.stepAt) / 5 : Nat)
    let l := (l.wr f 1).setPg g (fun s => { s with lim := if pos then (here, s.lim.2) else (s.lim.1, here) })
    let homing := s.home ≠ .none ∧ s.home ≠ .done ∧ (l.homeDir g = if pos then 1 else -1)
    let l := if homing then l.homeFail g 2 else l
    let l := (l.replanRest g l.stepNs).setPg g (fun q => { q with home := if homing then .none else q.home })
    let l := ((l.wr (PROF.STATUS.STATE g) pgHeld).raise (6 + g / 2) 4).tuneAbort (g / 2) 0x77 4
    l.fault 0x122 g

def execLimitSwitchEdge (l : LaneId) (g : Fin 16) (positive : Bool) (s : State) : Host.Outcome State Fault Refusal :=
  onLane l (fun x => x.limitEdge g.val positive) s

/-- LIMIT_SWITCH_RELEASE: the flag clears; with neither limit active a HELD generator leaves HELD. -/
def LaneSt.limitRelease (l : LaneSt) (g : Nat) (pos : Bool) : LaneSt :=
  let l := l.wr (if pos then PROF.STATUS.LIMP_HIT g else PROF.STATUS.LIMN_HIT g) 0
  if l.rd (PROF.STATUS.STATE g) = pgHeld ∧ !l.on (PROF.STATUS.LIMP_HIT g) ∧ !l.on (PROF.STATUS.LIMN_HIT g)
  then l.wr (PROF.STATUS.STATE g) pgStopping else l

def execLimitSwitchRelease (l : LaneId) (g : Fin 16) (positive : Bool) (s : State) :
    Host.Outcome State Fault Refusal := onLane l (fun x => x.limitRelease g.val positive) s

end Sys2Proof.Machine
end

