-- ==== Sys2Proof/Machine/CommEval.lean ====
section
/-!
DEFINITION. What commutation does at one current-loop evaluation: angle sources and their arbitration, the observer,
current references, the Park transform, the voltage vector and the duties (R171 to R191).
-/

namespace Sys2Proof.Machine

open Sys2Proof

/-! ## Shares and torque limits (R105, R112, R177) -/

/-- Table share of lane `k` in percent for a membership (R105). A SHADOW lane is in no membership and has no entry: the model
takes 0, so its IQ_REF is 0 (R171; DESIGN CHOICE, log entry 52). -/
def LaneSt.tableShare (l : LaneSt) (n members : Nat) (k : LaneId) : Nat :=
  if !bit members k.num then 0
  else if members = 7 then
    l.rd (match k with
      | .A => VOTE.SHARE3.A n
      | .B => VOTE.SHARE3.B n
      | .C => VOTE.SHARE3.C n)
  else if members = 3 then (if k = .A then l.rd (VOTE.SHARE2.A_AB n) else 100 - l.rd (VOTE.SHARE2.A_AB n))
  else if members = 5 then (if k = .A then l.rd (VOTE.SHARE2.A_AC n) else 100 - l.rd (VOTE.SHARE2.A_AC n))
  else if members = 6 then (if k = .B then l.rd (VOTE.SHARE2.B_BC n) else 100 - l.rd (VOTE.SHARE2.B_BC n))
  else 100

/-- Length of the share ramp in ns. -/
def LaneSt.rampNs (l : LaneSt) : Nat := max 1 (l.rd VOTE.TIMING.RAMP * 10 ^ 6)

/-- How much of its ramp lane `k` has behind it at the present boundary, in ns. -/
def LaneSt.rampPart (l : LaneSt) (k : LaneId) : Nat :=
  match (l.blkOf k).rampFrom with
  | none => l.rampNs
  | some t => min l.rampNs (l.boundaryNs - t)

/-- Share in force of lane `k` in percent, as numerator and denominator: a ramping lane holds its ramped table share, the
others the remainder in proportion to theirs (R112). -/
def LaneSt.shareOf (l : LaneSt) (n : Nat) (k : LaneId) : Nat × Nat :=
  let m := l.vote.shareMembers
  let t (j : LaneId) : Nat := l.tableShare n m j
  let ramping := LaneId.all.filter (fun j => bit m j.num && (l.blkOf j).rampFrom.isSome)
  let r := (ramping.map (fun j => t j * l.rampPart j)).sum
  let tr := (ramping.map t).sum
  if (l.blkOf k).rampFrom.isSome then (t k * l.rampPart k, l.rampNs)
  else (t k * (100 * l.rampNs - r), l.rampNs * (100 - tr))

/-- TORQUE_CAP: I_MAX / KT_INV (R177). -/
def LaneSt.torqueCap (l : LaneSt) (n : Nat) : Nat :=
  (qdiv (l.rd (COMM.I_MAX.VALUE n) * 65536) (l.rd (COMM.KT_INV.VALUE n))).toNat

/-- TORQUE_LIMIT: the smallest of the members' capability, TMAX in force and, in TUNE, TUNE_TORQUE (R177). -/
def LaneSt.torqueLimit (l : LaneSt) (n : Nat) : Nat :=
  let x := min (l.torqueCap n * popCount 3 l.members) (l.rd (COMM.TMAX_NOW.VALUE n))
  if l.chState n = 3 then min x (l.rd (COMM.TUNE_TORQUE.VALUE n)) else x

/-- Show TORQUE_CAP and TORQUE_LIMIT. -/
def LaneSt.showTorque (l : LaneSt) (n : Nat) : LaneSt :=
  (l.wr (COMM.TORQUE_CAP.VALUE n) (l.torqueCap n)).wr (COMM.TORQUE_LIMIT.VALUE n) (min (2 ^ 32 - 1) (l.torqueLimit n))

/-! ## Slots, signals -/

/-- The slot that routes to a destination (R153). -/
def LaneSt.slotTo (l : LaneSt) (dest index : Nat) : Option Nat :=
  (List.range 128).find? (fun m => l.on (LOOP.ENTRY.EN m) && l.rd (LOOP.ROUTE.DEST m) = dest && l.rd (LOOP.ROUTE.INDEX m) = index)

/-- The sample period of slot `n` in ns (R147). -/
def LaneSt.samplePeriod (l : LaneSt) (n : Nat) : Nat := 2 ^ l.rd (LOOP.ENTRY.DIVLOG n) * l.tickPeriod (l.rd (LOOP.ENTRY.TT n))

/-- The state of a timetable. -/
def LaneSt.tt (l : LaneSt) (t : Nat) : TickSt := l.loop.tick.getD t .reset

/-- A value in the snapshot of a timetable's tick, by its selector (R146). -/
def LaneSt.sampled (l : LaneSt) (t sel : Nat) : Int := (((l.tt t).samples.find? (fun x => x.1 = sel)).map (·.2)).getD 0

/-- Keys of the snapshot that no selector names: the electrical position of a port (R183). -/
def keyAngle (p : Nat) : Nat := 0x10000 + p

/-- FB_POS of a port (R206), spliced while the port is the primary of a channel that runs on its secondary (R187). -/
def LaneSt.fbPosSignal (l : LaneSt) (p : Nat) : Int :=
  match (List.range 8).find? (fun n => l.on (COMM.STATUS.SPLICED n) && l.rd (COMM.SRC.PORT_P n) = p) with
  | none => toSigned 32 (l.rd (FBK.POS.VALUE p))
  | some n =>
    let s := l.rd (COMM.SRC.PORT_S n)
    toSigned 32 (ofSigned 32 (qdiv (toSigned 32 (l.rd (FBK.POS.VALUE s)) * l.rd (COMM.RATIO_S.VALUE n) + (l.ang n).splice) 65536))

/-- FB_VEL of a port, spliced likewise (R187). -/
def LaneSt.fbVelSignal (l : LaneSt) (p : Nat) : Int :=
  match (List.range 8).find? (fun n => l.on (COMM.STATUS.SPLICED n) && l.rd (COMM.SRC.PORT_P n) = p) with
  | none => l.rdI (FBK.VELOCITY.VALUE p)
  | some n => satSigned 32 (qdiv (l.rdI (FBK.VELOCITY.VALUE (l.rd (COMM.SRC.PORT_S n))) * l.rd (COMM.RATIO_S.VALUE n)) 65536)

/-- The present value of a source selector other than a constant or a slot's output (R151). -/
def LaneSt.signal (l : LaneSt) (sel : Nat) : Int :=
  let i := sel % 256
  let n := i / 8 % 8
  match sel / 256 with
  | 3 => l.spPos i
  | 4 => satSigned 32 (qdiv (l.rdI (PROF.VEL.VALUE i)) (2 ^ 32))
  | 5 => satSigned 32 (qdiv (l.rdI (PROF.ACC.VALUE i)) (16 * 2 ^ 32))
  | 6 => l.fbPosSignal i
  | 7 => l.fbVelSignal i
  | 8 =>
    match i % 8 with
    | 0 => (l.ang n).meas.1
    | 1 => (l.ang n).meas.2
    | 2 => l.rdI (COMM.ID_REF.VALUE n)
    | 3 => l.rdI (COMM.IQ_REF.VALUE n)
    | 4 => l.chSpeed n
    | 5 => l.vote.ref.getD n 0
    | 6 => satSigned 32 (l.rd (COMM.TORQUE_LIMIT.VALUE n))
    | _ => l.vdc
  | 9 => l.rdI (ADC.RESULT.VALUE i)
  | _ => 0

/-! ## Driven bridges (R193) -/

/-- The bridges of channel `n` are driven: RUN, TUNE, STOPPING; STARTING from the angle acquisition or the start-up
boundary on; STOP_LATCHED after a category-2 stop. A lane in SHADOW computes likewise and drives nothing (R160). -/
def LaneSt.driven (l : LaneSt) (n : Nat) : Bool :=
  let st := if l.isMember || l.self = selfShadow then l.chState n else 0
  st = 2 || st = 3 || st = 4 || (st = 1 && (7 ≤ (l.ch n).step || (l.ang n).acq ≠ 0)) || (st = 6 && (l.ch n).latchCat = 2)

/-- Only the angle acquisition drives the bridges of channel `n` (R195). -/
def LaneSt.acquiring (l : LaneSt) (n : Nat) : Bool := l.chState n = 1 && (l.ch n).step < 7 && (l.ang n).acq ≠ 0

/-! ## Sine table (R176) -/

/-- A table value at an angle, interpolated: `f` reads word i; the result is 256 times the value. -/
def interp (f : Nat → Int) (phi : Nat) : Int :=
  let i := phi / 2 ^ 20 % 4096
  let x : Int := (phi / 2 ^ 12 % 256 : Nat)
  f i * 256 + (f ((i + 1) % 4096) - f i) * x

/-- S(φ), 256 times. -/
def LaneSt.sinAt (l : LaneSt) (phi : Nat) : Int := interp (fun i => toSigned 18 (l.word (0x1A000 + 4 * i)).toNat) phi

/-- H(φ), 256 times. -/
def LaneSt.h3At (l : LaneSt) (phi : Nat) : Int :=
  interp (fun i => toSigned 14 ((l.word (0x1A000 + 4 * i)).toNat / 2 ^ 18)) phi

/-- An electrical turn and its quarter and third. -/
def turn : Nat := 2 ^ 32
def quarter : Nat := 2 ^ 30
def third : Nat := (qdiv (2 ^ 32) 3).toNat

/-- The angles of phases U, V and W: φ, φ − 120°, φ + 120°. -/
def phases (phi : Nat) : Nat × Nat × Nat := (phi % turn, (phi + turn - third) % turn, (phi + third) % turn)

/-! ## Angle sources (R183, R184, R187) -/

/-- Counts per revolution of channel `n`; 0 stands for 2^32. -/
def LaneSt.cprCh (l : LaneSt) (n : Nat) : Nat := if l.rd (COMM.CPR.COUNT n) = 0 then 2 ^ 32 else l.rd (COMM.CPR.COUNT n)

/-- The electrical angle of the primary port at the sampling edge (R183). -/
def LaneSt.angleP (l : LaneSt) (n t : Nat) : Nat :=
  let x := (l.sampled t (keyAngle (l.rd (COMM.SRC.PORT_P n))) - l.rd (COMM.ZERO_P.COUNT n)) % (l.cprCh n : Int)
  (qdiv (x * l.rd (COMM.CTRL.POLES n) * turn) (l.cprCh n)).toNat % turn

/-- The electrical angle of the secondary port at the sampling edge (R183). -/
def LaneSt.angleS (l : LaneSt) (n t : Nat) : Nat :=
  let x := ((l.sampled t (keyAngle (l.rd (COMM.SRC.PORT_S n))) - l.rd (COMM.ZERO_S.COUNT n)) * l.rd (COMM.RATIO_S.VALUE n))
    % ((l.cprCh n * 65536 : Nat) : Int)
  (qdiv (x * l.rd (COMM.CTRL.POLES n) * turn) (l.cprCh n * 65536)).toNat % turn

/-- Two angles agree within ANG_TOL (R186). -/
def LaneSt.agree (l : LaneSt) (n a b : Nat) : Bool :=
  decide ((signedMod ((a : Int) - b) turn).natAbs * 360 ≤ l.rd (COMM.SRC.ANG_TOL n) * turn)

/-- A port source is valid (R184). -/
def LaneSt.portValid (l : LaneSt) (n : Nat) (sec : Bool) : Bool :=
  let p := l.rd (if sec then COMM.SRC.PORT_S n else COMM.SRC.PORT_P n)
  decide (p < 24) && l.portCounts p && l.on (FBK.STATUS.ABS_KNOWN p) && !(if sec then (l.ang n).bad.2 else (l.ang n).bad.1)

/-- The status field of a port source. -/
def srcField (n : Nat) (sec : Bool) : Field := if sec then COMM.SRC_STATUS.SECONDARY n else COMM.SRC_STATUS.PRIMARY n

/-- DEGRADE POS: a port source of some channel is lost (R188). -/
def LaneSt.judgePos (l : LaneSt) : LaneSt :=
  l.setDegrade 3 ((List.range 8).any (fun n => l.rd (srcField n false) = 2 || l.rd (srcField n true) = 2))

/-- A port source is lost: POS_LOST (R186, R188). -/
def LaneSt.losePort (l : LaneSt) (n : Nat) (sec : Bool) : LaneSt :=
  (((l.wr (srcField n sec) 2).satInc 8 (COMM.COUNTS.POS_LOSSES n)).judgePos).fault 0x102 n

/-- The status of a port source from its port: NONE, VALID, LOST once it has been valid and is so no more or its port has
reported a loss, NOT_READY before (R184). -/
def LaneSt.refreshSrc (l : LaneSt) (n : Nat) (sec : Bool) : LaneSt :=
  let f := srcField n sec
  let p := l.rd (if sec then COMM.SRC.PORT_S n else COMM.SRC.PORT_P n)
  let bad := if sec then (l.ang n).bad.2 else (l.ang n).bad.1
  if 24 ≤ p then l.wr f 3
  else if l.rd f = 2 then l
  else if l.portValid n sec then l.wr f 0
  else if l.rd f = 0 ∨ bad then l.losePort n sec
  else l.wr f 1

/-- The sources of channel `n` as its start-up begins: ports not judged lost, no splice (R184, R187). -/
def LaneSt.sourcesStart (l : LaneSt) (n : Nat) : LaneSt :=
  let l := l.setAng n (fun a => { a with
    bad := (false, false), dis := 0, obsDis := 0, splice := 0, acq := 0, forced := 0, obsPrev := none })
  let l := ((l.wr (srcField n false) 1).wr (srcField n true) 1).wr (COMM.STATUS.SPLICED n) 0
  ((l.refreshSrc n false).refreshSrc n true).judgePos

/-- The secondary is spliced into the signals of the lost primary, without a step (R187). -/
def LaneSt.splice (l : LaneSt) (n : Nat) : LaneSt :=
  if l.on (COMM.STATUS.SPLICED n) ∨ l.rd (srcField n false) ≠ 2 then l
  else
    let pos (p : Nat) : Int := toSigned 32 (l.rd (FBK.POS.VALUE p))
    let x := pos (l.rd (COMM.SRC.PORT_P n)) * 65536 - pos (l.rd (COMM.SRC.PORT_S n)) * l.rd (COMM.RATIO_S.VALUE n)
    (l.setAng n (fun a => { a with splice := x })).wr (COMM.STATUS.SPLICED n) 1

/-- A port fault: the port has counted a discarded frame, an invalid state or a double step (R186). -/
def LaneSt.portFault (l : LaneSt) (n : Nat) (sec : Bool) : Bool :=
  let p := l.rd (if sec then COMM.SRC.PORT_S n else COMM.SRC.PORT_P n)
  l.rd (FBK.COUNTS.ERRORS p) ≠ 0 || l.rd (FBK.COUNTS.DOUBLES p) ≠ 0 || l.on (FBK.STATUS.LOST p)

/-! ## The observer (R185, R189, R191) -/

/-- π in units of 10^-18. -/
def pi18 : Nat := 3141592653589793238

/-- A voltage KE × |ω| against a voltage `v` in Q16.16: whether 100·KE·|ω| ≥ pct·v for a speed in counts per second. -/
def LaneSt.emfAt (l : LaneSt) (n : Nat) (speed v : Int) (pct : Nat) : Bool :=
  decide ((pct : Int) * v * (l.cprCh n * 10 ^ 18 : Nat) ≤ 100 * (l.rd (COMM.KE.VALUE n) * speed.natAbs * 2 * pi18 : Nat))

/-- A zero-current window of current input `i` lasts long enough to measure in (R238): its leg's high side on for ZC_SETTLE
× 10 ns + 250 ns, or the winding off below crossover. -/
def LaneSt.zeroWindow (l : LaneSt) (i : Nat) : Bool :=
  let n := i / 3
  let need := 10 * l.rd (ADC.IN_CFG.ZC_SETTLE i) + 250
  if l.rd (ADC.IN_CFG.ZC i) = 1 then
    l.rd (COMM.STATUS.WSTATE n) = 3 || (l.rd (GATE.STATUS.STATE i) = 1 && decide (16 * need ≤ 5 * l.onTime i))
  else
    (l.rd (COMM.STATUS.WSTATE n) = 0 || l.chState n = 0) && !l.emfAt n (l.chSpeed n) l.vdc (l.rd (COMM.THRESH.XO_PCT n))

/-- ZERO_CAL_MEASURE: the measured zero `z`, in LSB from IN_ZERO, of a current input in a zero-current window moves
ZERO_CAL by a sixteenth of the difference, clamped at ZLIM; it yields to every hold on its core (R238). -/
def LaneSt.zeroMeasure (l : LaneSt) (i : Nat) (z : Int) : LaneSt :=
  if 24 ≤ i ∨ !l.on ADC.CTRL.EN ∨ !l.on ADC.CTRL.CAL_EN ∨ l.rd (ADC.IN_CFG.ZC i) = 0 ∨ !l.zeroWindow i
    ∨ !(l.heldBy (l.coreOf i)).isEmpty then l
  else
    let old := l.rdI (ADC.ZERO_CAL.VALUE i)
    let v := old + qdiv (z * 16 - old) 16
    let lim : Int := l.rd (ADC.IN_CFG.ZLIM i) * 256
    if v.natAbs ≤ lim.natAbs then l.wrI (ADC.ZERO_CAL.VALUE i) v
    else (l.wrI (ADC.ZERO_CAL.VALUE i) (max (-lim) (min lim v))).fault 0x165 i

def execZeroCalMeasure (l : LaneId) (ain : Fin 72) (z : Int) (s : State) : Host.Outcome State Fault Refusal :=
  onLane l (fun x => x.zeroMeasure ain.val z) s

/-- The observer's lock is gone; OBS_LOST flagged where it must be. -/
def LaneSt.unlock (l : LaneSt) (n : Nat) : LaneSt :=
  ((l.wr (COMM.STATUS.OBS_LOCKED n) 0).wr (COMM.SRC_STATUS.OBSERVER n) 1).setAng n (fun a => { a with obsTurn := 0, obsErr := 0 })

/-- √3 in units of 10^-18. -/
def sqrt3 : Int := 1732050807568877293

/-- The back-EMF of the three phases at the sampling edge (R185): the phase voltage less RS times the current and less LS
times its rate of change since the observer's last step; with all gates off, the terminal voltages (R190). -/
def LaneSt.backEmf (l : LaneSt) (n t : Nat) (k : Nat) : Int :=
  let v := l.sampled t (0x918 + 3 * n + k)
  let i := l.sampled t (0x900 + 3 * n + k)
  let prev := match (l.ang n).obsPrev with
    | none => i
    | some p => if k = 0 then p.1 else if k = 1 then p.2.1 else p.2.2
  if l.rd (COMM.STATUS.WSTATE n) = 4 then v
  else v - qdiv (l.rd (COMM.RS.VALUE n) * i) (10 ^ 6)
    - qdiv (l.rd (COMM.LS.VALUE n) * (i - prev)) (((l.slotTo 2 n).map l.samplePeriod).getD 1)

/-- The back-EMF as a vector: three times its in-phase component, √3 times its quadrature component. -/
def LaneSt.emfVector (l : LaneSt) (n t : Nat) : Int × Int :=
  let e := l.backEmf n t
  (2 * e 0 - e 1 - e 2, e 1 - e 2)

/-- Electrical angle a back-EMF vector shows: it leads the rotor by a quarter turn in the positive direction and lags by
one in the negative (DEDUCED, log entry 53). -/
def emfAngle (v : Int × Int) (speed : Int) : Nat :=
  (atan2 (sqrt3 * v.2) (10 ^ 18 * v.1) + (if speed < 0 then quarter else 3 * quarter)) % turn

/-- One observer step (R185). The back-EMF comes from the sampled phase voltages and currents; the arithmetic of the
phase-locked loop is open (Config.pll, log entries 7 and 53). The result tells whether it lost its lock in this step. -/
def LaneSt.observe (l : LaneSt) (n t : Nat) : LaneSt × Bool :=
  if !l.on (COMM.CTRL.OBS_EN n) then ((l.wr (COMM.STATUS.OBS_LOCKED n) 0).wr (COMM.SRC_STATUS.OBSERVER n) 3, false)
  else
    let v := l.emfVector n t
    let bemf := root (qdiv (v.1 * v.1 + 3 * v.2 * v.2) 3)
    let emf := emfAngle v (l.rdI (COMM.OBS_SPEED.VALUE n))
    let x := Config.pll (l.rd (COMM.OBS.BW n)) (((l.slotTo 2 n).map l.samplePeriod).getD 1) (l.rd (COMM.OBS_ANGLE.VALUE n))
      (l.rdI (COMM.OBS_SPEED.VALUE n)) emf
    let angle := x.1.toNat
    let speed := x.2.toInt
    let err := (signedMod ((emf : Int) - angle) turn).natAbs
    let moved := (signedMod ((angle : Int) - l.rd (COMM.OBS_ANGLE.VALUE n)) turn).natAbs
    let i (k : Nat) : Int := l.sampled t (0x900 + 3 * n + k)
    let l := (l.wr (COMM.OBS_ANGLE.VALUE n) angle).wrI (COMM.OBS_SPEED.VALUE n) speed
    let inTol : Bool := decide (err * 360 ≤ l.rd (COMM.OBS.LOCK_TOL n) * turn)
    let minSpeed := l.rd (COMM.THRESH.OBS_MIN_PCT n) * l.rd (COMM.RATED.VALUE n)
    let fast : Bool := decide (minSpeed ≤ 100 * speed.natAbs)
    let was := l.on (COMM.STATUS.OBS_LOCKED n)
    let l := l.setAng n (fun a => { a with
      bemf := bemf, obsErr := if inTol then 0 else min 15 (a.obsErr + 1),
      obsTurn := if inTol && fast then a.obsTurn + moved else 0, obsPrev := some (i 0, i 1, i 2) })
    let low : Bool := decide (2 * bemf.natAbs * l.cprCh n * 10 ^ 18 < l.rd (COMM.KE.VALUE n) * speed.natAbs * 2 * pi18)
    let lost : Bool := was && (decide (l.rd (COMM.OBS.LOSS_N n) ≤ (l.ang n).obsErr) || decide (200 * speed.natAbs < minSpeed) || low)
    if lost then (l.unlock n, true)
    else if !was ∧ turn ≤ (l.ang n).obsTurn then
      ((((l.wr (COMM.STATUS.OBS_LOCKED n) 1).wr (COMM.STATUS.OBS_LOST n) 0).wr (COMM.SRC_STATUS.OBSERVER n) 0).setAng n
        (fun a => { a with lockSpeed := speed }), false)
    else if was then (l.setAng n (fun a => { a with lockSpeed := speed }), false)
    else (l.wr (COMM.SRC_STATUS.OBSERVER n) (if fast then 1 else 2), false)

/-- An observer out of use: flagged OBS_LOST until it locks again, with its event (R186, R189). -/
def LaneSt.obsLost (l : LaneSt) (n code : Nat) : LaneSt :=
  (((l.unlock n).wr (COMM.STATUS.OBS_LOST n) 1).satInc 8 (COMM.COUNTS.OBS_LOSSES n)).fault code n

/-- The decision of R189 when the observer loses lock as the active source and no port is valid: at or above crossover
the active short, below it all gates off and re-acquisition. -/
def LaneSt.obsDecision (l : LaneSt) (n : Nat) : LaneSt :=
  let driving : Bool := l.rd (COMM.STATUS.WSTATE n) = 1
  if l.emfAt n (l.ang n).lockSpeed l.vdc (l.rd (COMM.THRESH.XO_PCT n)) then
    (if driving then l.activeShort n else l).obsLost n 0x105
  else
    (if driving then (l.windingOff n).setWstate n 4 else l).obsLost n 0x104

/-- Re-acquisition at an evaluation: lock resumes the winding at the next valley; a speed that rises to crossover
shorts it (R190). -/
def LaneSt.reacquire (l : LaneSt) (n : Nat) : LaneSt :=
  if l.rd (COMM.STATUS.WSTATE n) ≠ 4 then l
  else if l.on (COMM.STATUS.OBS_LOCKED n) then l.setGateCh n (fun g => { g with resume := true })
  else if l.emfAt n (l.rdI (COMM.OBS_SPEED.VALUE n)) l.vdc (l.rd (COMM.THRESH.XO_PCT n)) then
    (l.activeShort n).obsLost n 0x105
  else l

/-- The induced-voltage constant check at an evaluation (R191): sums over an electrical turn, the estimate at its end. -/
def LaneSt.keCheck (l : LaneSt) (n moved : Nat) : LaneSt :=
  if !l.on (COMM.CTRL.KE_CHK_EN n) ∨ !l.on (COMM.STATUS.OBS_LOCKED n) ∨
      100 * (l.chSpeed n).natAbs < l.rd (COMM.THRESH.KE_MIN_PCT n) * l.rd (COMM.RATED.VALUE n) then
    l.setAng n (fun a => { a with ke := (0, 0, 0, 0) })
  else
    let k := (l.ang n).ke
    let e := k.1 + (l.ang n).bemf.natAbs
    let w := k.2.1 + (l.chSpeed n).natAbs
    let t := k.2.2.2 + moved
    if t < turn then l.setAng n (fun a => { a with ke := (e, w, k.2.2.1 + 1, t) })
    else
      let est := qdiv (e * (l.cprCh n * 10 ^ 18 : Nat)) (w.natAbs * 2 * pi18)
      let ke : Int := l.rd (COMM.KE.VALUE n)
      let out : Bool := decide (ke * l.rd (COMM.KE_CHK.BAND n) < 100 * ((est - ke).natAbs : Int))
      let bad := if out then min 15 ((l.ang n).keBad + 1) else 0
      let was := (l.ang n).keBad
      let l := (l.setAng n (fun a => { a with ke := (0, 0, 0, t - turn), keBad := bad })).wr (COMM.KE_EST.VALUE n) est.toNat
      if !out then (if l.on (COMM.STATUS.KE_ABNORMAL n) then (l.wr (COMM.STATUS.KE_ABNORMAL n) 0).raise (6 + n) 2 else l)
      else if was < l.rd (COMM.KE_CHK.COUNT n) ∧ l.rd (COMM.KE_CHK.COUNT n) ≤ bad then
        (((l.wr (COMM.STATUS.KE_ABNORMAL n) 1).raise (6 + n) 2).satInc 8 (COMM.COUNTS2.KE_EVENTS n)).fault 0x108 n
      else l

/-! ## Arbitration (R186, R188, R197) -/

/-- A controlled stop is requested for the next boundary, its cause present (R114). -/
def LaneSt.requestStop (l : LaneSt) (cause : Nat) : LaneSt :=
  { l with vote := { l.vote with
      causes := setBit l.vote.causes cause true, stopReq := if l.vote.stopReq = 0 then cause else l.vote.stopReq } }

/-- Both ports valid and in disagreement for LOSS_N evaluations: the source that stays. A port with a fault is lost; with both
lost, the observer if it is locked. An observer that agrees with both ports has no row in the table of R186: it settles
nothing, as one that agrees with neither (DESIGN CHOICE, log entry 52). -/
def LaneSt.settleDispute (l : LaneSt) (n a b : Nat) (first : Bool) : LaneSt × Nat :=
  let o := l.rd (COMM.OBS_ANGLE.VALUE n)
  let locked := l.on (COMM.STATUS.OBS_LOCKED n)
  let pa := locked && l.agree n a o
  let sa := locked && l.agree n b o
  if pa && !sa then (l.losePort n true, 1)
  else if sa && !pa then (l.losePort n false, 2)
  else if l.portFault n false && l.portFault n true then ((l.losePort n false).losePort n true, if locked then 3 else 0)
  else if l.portFault n false then (l.losePort n false, 2)
  else if l.portFault n true then (l.losePort n true, 1)
  else (if first then l.fault 0x103 n else l, 1)

/-- The active source from the table of R186: 0 NONE, 1 PRIMARY, 2 SECONDARY, 3 OBSERVER. -/
def LaneSt.chooseSource (l : LaneSt) (n t : Nat) : LaneSt × Nat :=
  let p : Bool := l.rd (srcField n false) = 0
  let s : Bool := l.rd (srcField n true) = 0
  let a := l.angleP n t
  let b := l.angleS n t
  let o := l.rd (COMM.OBS_ANGLE.VALUE n)
  let lossN := l.rd (COMM.OBS.LOSS_N n)
  if p && s && !l.agree n a b then
    let d := min 16 ((l.ang n).dis + 1)
    let l := l.setAng n (fun x => { x with dis := d })
    if d < lossN then (l, 1) else l.settleDispute n a b (decide (d = lossN))
  else
    let l := l.setAng n (fun x => { x with dis := 0 })
    if p then
      let judge : Bool := (s || l.rd (srcField n true) = 3) && l.on (COMM.STATUS.OBS_LOCKED n) && !l.agree n a o
      let d := if judge then (l.ang n).obsDis + 1 else 0
      let l := l.setAng n (fun x => { x with obsDis := d })
      (if judge && decide (lossN ≤ d) then (l.obsLost n 0x104).setAng n (fun x => { x with obsDis := 0 }) else l, 1)
    else if s then (l, 2)
    else if l.on (COMM.STATUS.OBS_LOCKED n) then (l, 3)
    else (l, 0)

/-- Arbitration at an evaluation: ports refreshed first, then the table, then what the change of source sets off. A port
lost in the evaluation in which the observer loses its lock is lost first, and the table of R189 applies (R197). -/
def LaneSt.arbitrate (l : LaneSt) (n t : Nat) (obsLost : Bool) : LaneSt :=
  let was := l.rd (COMM.STATUS.ANGLE_SRC n)
  let r := ((l.refreshSrc n false).refreshSrc n true).chooseSource n t
  let l := r.1.wr (COMM.STATUS.ANGLE_SRC n) r.2
  let l := if was = r.2 then l else l.raise (6 + n) 0
  let l := if r.2 = 2 then l.splice n else l
  let l := if (was = 1 ∨ was = 2) ∧ (r.2 = 0 ∨ r.2 = 3) then l.requestStop 6 else l
  if obsLost ∧ (was = 3 ∨ ((was = 1 ∨ was = 2) ∧ r.2 = 0)) then (if r.2 = 0 then l.obsDecision n else l.obsLost n 0x104)
  else if r.2 = 0 ∧ (was = 1 ∨ was = 2 ∨ was = 3) then
    (if l.rd (COMM.STATUS.WSTATE n) = 1 then l.windingSafe n else l).fault 0x107 n
  else l.reacquire n

/-! ## References and measurement (R171 to R173, R195, R263) -/

/-- Clamp to ± a bound. -/
def clampAbs (x b : Int) : Int := max (-b) (min b x)

/-- Current references of an evaluation: ID_REF, IQ_REF and whether the current limit holds (R171, R172, R263). In the
angle acquisition they are I_PCT percent of I_MAX and 0 (R195). -/
def LaneSt.currentRefs (l : LaneSt) (n : Nat) : Int × Int × Bool :=
  let imax : Int := l.rd (COMM.I_MAX.VALUE n)
  if l.acquiring n then (qdiv (imax * l.rd (COMM.ALIGN.I_PCT n)) 100, 0, false)
  else
    let s := l.shareOf n l.id
    let iq := clampAbs (qdiv (l.vote.ref.getD n 0 * s.1 * l.rd (COMM.KT_INV.VALUE n)) (s.2 * 100 * 65536)) imax
    let iq := if sgn iq * l.chSpeed n < 0 then clampAbs iq (qdiv (imax * l.regenF) 0x8000) else iq
    let id := l.rdI (COMM.ID_CMD.VALUE n) + l.rdI (COMM.ID_FW.VALUE n)
    if imax * imax < id * id + iq * iq then (id, sgn iq * root (max 0 (imax * imax - id * id)), true) else (id, iq, false)

/-- The Park transform of the phase currents of the snapshot with the electrical angle (R173). -/
def LaneSt.park (l : LaneSt) (n t theta : Nat) : Int × Int :=
  let i (k : Nat) : Int := l.sampled t (0x900 + 3 * n + k)
  let c := phases (theta + quarter)
  let s := phases theta
  let d := i 0 * l.sinAt c.1 + i 1 * l.sinAt c.2.1 + i 2 * l.sinAt c.2.2
  let q := i 0 * l.sinAt s.1 + i 1 * l.sinAt s.2.1 + i 2 * l.sinAt s.2.2
  (satSigned 32 (qdiv (2 * d) (3 * 131072 * 256)), satSigned 32 (qdiv (-2 * q) (3 * 131072 * 256)))

/-- The electrical angle of an evaluation: forced in the acquisition, the active source's otherwise (R183, R195). -/
def LaneSt.thetaNow (l : LaneSt) (n t : Nat) : Nat :=
  let a := l.ang n
  if l.acquiring n ∧ a.acq ≠ 3 then a.forced % turn
  else if l.acquiring n then l.angleP n t
  else if l.rd (COMM.STATUS.ANGLE_SRC n) = 1 then l.angleP n t
  else if l.rd (COMM.STATUS.ANGLE_SRC n) = 2 then l.angleS n t
  else if l.rd (COMM.STATUS.ANGLE_SRC n) = 3 then l.rd (COMM.OBS_ANGLE.VALUE n)
  else a.theta

/-- The forced angle of an index search advances at ALIGN.SPEED electrical turns per second (R195). -/
def LaneSt.forceAngle (l : LaneSt) (n : Nat) : LaneSt :=
  let a := l.ang n
  if a.acq ≠ 2 ∨ !l.on (FBK.CTRL.IDX_EN (l.rd (COMM.SRC.PORT_P n))) then l
  else
    let d := (qdiv (l.rd (COMM.ALIGN.SPEED n) * turn * (l.run - a.at_) : Nat) (10 ^ 9)).toNat
    l.setAng n (fun x => { x with forced := x.forced + d })

/-- PHASE_SUM: the three phase currents sum to more than ISUM_TOL (R173). -/
def LaneSt.phaseSum (l : LaneSt) (n t : Nat) : LaneSt :=
  let i (k : Nat) : Int := l.sampled t (0x900 + 3 * n + k)
  if l.rd (COMM.AUX.ISUM_TOL n) * 65536 < 10 * (i 0 + i 1 + i 2).natAbs then l.fault 0x10B n else l

/-- The current-loop evaluation of channel `n` in a tick of timetable `t`, before its d and q slots (R171 to R173,
R186): observer, arbitration, angle, measurement, references. -/
def LaneSt.commEval (l : LaneSt) (n t : Nat) : LaneSt :=
  let o := (l.phaseSum n t).observe n t
  let l := if o.1.acquiring n then o.1.forceAngle n else o.1.arbitrate n t o.2
  let theta := l.thetaNow n t
  let moved := (signedMod ((theta : Int) - (l.ang n).theta) turn).natAbs
  let m := l.park n t theta
  let l := l.setAng n (fun a => { a with theta := theta, meas := m, at_ := l.run, tick := (l.tt t).count })
  let l := (l.showTorque n).keCheck n moved
  let r := l.currentRefs n
  ((l.wrSat (COMM.ID_REF.VALUE n) r.1).wrSat (COMM.IQ_REF.VALUE n) r.2.1).wrB (COMM.STATUS.CUR_LIMITED n) r.2.2

/-! ## The voltage vector and the duties (R174 to R176, R247) -/

/-- The vector limited to V_LIM: VD kept up to ±V_LIM, VQ reduced; whether it was clamped (R174). -/
def limitVector (vd vq vlim : Int) : Int × Int × Bool :=
  if vlim * vlim < vd * vd + vq * vq then
    let d := clampAbs vd vlim
    (d, sgn vq * root (vlim * vlim - d * d), true)
  else (vd, vq, false)

/-- The high-side on-time of a leg from a phase voltage (R175): period × (1/2 + v / VDC), bounded. -/
def LaneSt.legOn (l : LaneSt) (leg : Nat) (v vdc : Int) : Nat := l.dutyOf leg (vdc + 2 * v) (2 * vdc.toNat)

/-- Field weakening after a vector (R174). -/
def LaneSt.fieldWeaken (l : LaneSt) (n : Nat) (mag vlim : Int) (clamped : Bool) : LaneSt :=
  let x := l.rdI (COMM.ID_FW.VALUE n)
  let step : Int := l.rd (COMM.FW.STEP n) * 4096
  let top : Int := l.rd (COMM.FW.ID_MAX n) * 4096
  let y := if !l.on (COMM.CTRL.FW_EN n) then 0
    else if clamped then max (-top) (x - step)
    else if 100 * mag < l.rd (COMM.FW.START n) * vlim then min 0 (x + step)
    else x
  (l.wrI (COMM.ID_FW.VALUE n) y).wrB (COMM.STATUS.FW_ACTIVE n) (decide (y ≠ 0))

/-- The vector of an evaluation becomes three duties in the shadow registers (R174, R175, R246). -/
def LaneSt.formDuties (l : LaneSt) (n t : Nat) (vd vq : Int) : LaneSt :=
  let vdc := l.sampled t 0x930
  let vlim := qdiv (l.rd (COMM.VLIM.MOD n) * vdc) 65536
  let v := limitVector vd vq vlim
  let mag := root (v.1 * v.1 + v.2.1 * v.2.1)
  let l := (l.wrB (COMM.STATUS.VOLT_LIMITED n) v.2.2).fieldWeaken n mag vlim v.2.2
  let l := l.setAng n (fun a => { a with volts := (v.1, v.2.1) })
  let adv := qdiv (l.chSpeed n * (l.rd (COMM.CTRL.POLES n) * turn * l.rd (COMM.VLIM.ADV n) : Nat)) (l.cprCh n * 10 ^ 8)
  let th := (((l.ang n).theta : Int) + adv + atan2 v.2.1 v.1) % (turn : Int)
  let ph := phases (th.toNat + quarter)
  let h3 : Int := if l.on (COMM.CTRL.H3_EN n) then 1 else 0
  let vk (phi : Nat) : Int := qdiv (mag * (l.sinAt phi + 4 * h3 * l.h3At phi)) (131072 * 256)
  let on := (l.legOn (3 * n) (vk ph.1) vdc, l.legOn (3 * n + 1) (vk ph.2.1) vdc, l.legOn (3 * n + 2) (vk ph.2.2) vdc)
  l.setGateCh n (fun g => { g with shadow := g.shadow ++ [(l.run, on)] })

end Sys2Proof.Machine
end

