-- ==== Sys2Proof/Machine/Loop.lean ====
section
/-!
DEFINITION. The control engine: timetable ticks, slot evaluation, pipelines, slot states and the relay auto-tune
(chapter 06); the loss of the observer in time (R190).
-/

namespace Sys2Proof.Machine

open Sys2Proof

/-! ## Slots and their states (R159) -/

/-- The state of slot `n` that is no register. -/
def LaneSt.slot (l : LaneSt) (n : Nat) : SlotSt := l.loop.slot.getD n .reset

/-- Change the state of slot `n` that is no register. -/
def LaneSt.setSlot (l : LaneSt) (n : Nat) (f : SlotSt → SlotSt) : LaneSt :=
  { l with loop := { l.loop with slot := l.loop.slot.setIfInBounds n (f (l.slot n)) } }

/-- The running tune of channel `c`. -/
def LaneSt.tune (l : LaneSt) (c : Nat) : Option TuneSt := l.loop.tune.getD c none

/-- Replace the running tune of channel `c`. -/
def LaneSt.setTune (l : LaneSt) (c : Nat) (t : Option TuneSt) : LaneSt :=
  { l with loop := { l.loop with tune := l.loop.tune.setIfInBounds c t } }

/-- Whether slot `n` is a d or q current loop. -/
def LaneSt.isDq (l : LaneSt) (n : Nat) : Bool := l.rd (LOOP.ROUTE.DEST n) = 2 || l.rd (LOOP.ROUTE.DEST n) = 3

/-- The condition for slot `n` to run (R159). -/
def LaneSt.slotRuns (l : LaneSt) (n : Nat) : Bool :=
  let c := l.rd (LOOP.CTRL.CH n)
  l.on (LOOP.ENTRY.EN n) &&
    (if c = 0xF then l.rd PWR.STATUS.STATE = 1
     else decide (c < 8) && l.driven c && (!l.acquiring c || l.isDq n))

/-- A slot leaves RUN, TUNE or HELD for IDLE: output 0; I, D and SAT cleared. -/
def LaneSt.slotIdle (l : LaneSt) (n : Nat) : LaneSt :=
  let l := (((l.wr (LOOP.STATUS.STATE n) 0).wr (LOOP.OUT.VALUE n) 0).wr (LOOP.INTEG.VALUE n) 0).wr (LOOP.DSTATE.VALUE n) 0
  let l := (l.wr (LOOP.STATUS.SAT_HI n) 0).wr (LOOP.STATUS.SAT_LO n) 0
  if l.rd (LOOP.ROUTE.DEST n) = 1 then
    { l with vote := { l.vote with torque := l.vote.torque.setIfInBounds (l.rd (LOOP.ROUTE.INDEX n)) 0 } }
  else l

/-- Bring the state of slot `n` in line with its condition to run. -/
def LaneSt.judgeSlot (l : LaneSt) (n : Nat) : LaneSt :=
  let st := l.rd (LOOP.STATUS.STATE n)
  if st = 0 ∧ l.slotRuns n then
    let l := ((l.wr (LOOP.STATUS.STATE n) 1).wr (LOOP.INTEG.VALUE n) 0).wr (LOOP.DSTATE.VALUE n) 0
    l.setSlot n (fun s => { s with first := true, bump := none })
  else if st ≠ 0 ∧ !l.slotRuns n then
    let l := if 2 ≤ st ∧ l.rd (LOOP.CTRL.CH n) < 8 then l.tuneAbort (l.rd (LOOP.CTRL.CH n)) 0x77 0 else l
    l.slotIdle n
  else l

/-- AUX legs switch while the lane is MEMBER, the slot routed to them is in RUN and their die is not held in its force-safe
state (R243, R248); a leg latched off stays so. -/
def LaneSt.judgeAux (l : LaneSt) : LaneSt :=
  (List.range 24).foldl (fun l m =>
    if l.rd (GATE.LEG_CTRL.USE m) ≠ 2 ∨ l.rd (GATE.STATUS.STATE m) = 5 then l
    else
      let run : Bool := match l.slotTo 4 m with
        | none => false
        | some n => l.rd (LOOP.STATUS.STATE n) = 1
      if run && l.isMember && !l.dieHeld (m / 12) then (if l.rd (GATE.STATUS.STATE m) = 0 then l.setLeg m 1 else l)
      else l.setLeg m 0) l

/-- Every slot and AUX leg brought in line with the state of channels, lane and membership. -/
def LaneSt.judgeSlots (l : LaneSt) : LaneSt := ((List.range 128).foldl LaneSt.judgeSlot l).judgeAux

/-! ## Ticks (R145, R146) -/

/-- The tick index k: the tick instant in lane time divided by the tick period, rounded down (R146, R244). -/
def LaneSt.tickIndex (l : LaneSt) (t : Nat) : Nat :=
  let at' := l.ns - l.rd (LOOP.TT_OFFSET.EDGES t) * 5
  let p := l.tickPeriod t
  if p = 0 then 0 else at' / p

/-- The selectors of slot `n`: set-point, measurement, feed-forward, limit. -/
def LaneSt.selectors (l : LaneSt) (n : Nat) : List Nat :=
  [l.rd (LOOP.SRC.SP_SEL n), l.rd (LOOP.SRC.PV_SEL n), l.rd (LOOP.AUX.FF_SEL n), l.rd (LOOP.AUX.LIM_SEL n)]

/-- What a tick of timetable `t` samples: every signal that one of its slots selects, and for a channel whose current
loops run on it the phase currents and voltages, VDC and the positions of its ports. -/
def LaneSt.tickSamples (l : LaneSt) (t : Nat) : List (Nat × Int) :=
  let mine := (List.range 128).filter (fun n => l.on (LOOP.ENTRY.EN n) && l.rd (LOOP.ENTRY.TT n) = t)
  let sels := (mine.flatMap l.selectors).filter (fun x => 3 ≤ x / 256 && x / 256 ≤ 9)
  let chans := ((mine.filter l.isDq).map (fun n => l.rd (LOOP.ROUTE.INDEX n))).eraseDups
  let more := chans.flatMap (fun c =>
    0x930 :: (List.range 3).flatMap (fun k => [0x900 + 3 * c + k, 0x918 + 3 * c + k]))
  let angles := (chans.flatMap (fun c => [l.rd (COMM.SRC.PORT_P c), l.rd (COMM.SRC.PORT_S c)])).filter (· < 24)
  ((sels ++ more).eraseDups.map (fun x => (x, l.signal x)))
    ++ angles.eraseDups.map (fun p => (keyAngle p, (l.rawAngle p : Int)))

/-! ## A tick in progress at an epoch (R150) -/

/-- Offsets of the RWS registers of the engine (R169, R170). -/
def engineSetup (off : Nat) : Bool :=
  (0x10000 ≤ off && off < 0x18000 && off % 0x100 < 0x38) || (0x18000 ≤ off && off < 0x18040) || (0x18100 ≤ off && off < 0x18300)

/-- The engine words from before an epoch and those after it change places. -/
def LaneSt.swapSetup (l : LaneSt) : LaneSt :=
  let words := l.loop.before.filter (fun x => engineSetup x.1)
  let now := words.map (fun x => (x.1, l.word x.1))
  let l := words.foldl (fun l x => l.setWord x.1 x.2) l
  { l with loop := { l.loop with before := now } }

/-- The integrator of slot `n` carried over from the lane `old` before an epoch (R150). -/
def LaneSt.carryInteg (l old : LaneSt) (n : Nat) : LaneSt :=
  let same (off : Nat) : Bool := l.word off = old.word off
  let a := old.rd (LOOP.CTRL.SHIFT n)
  let b := l.rd (LOOP.CTRL.SHIFT n)
  if !(same (LOOP.SRC.off n) && same (LOOP.AUX.off n) && same (LOOP.ROUTE.off n)
      && l.rd (LOOP.CTRL.CH n) = old.rd (LOOP.CTRL.CH n)) then l.wr (LOOP.INTEG.VALUE n) 0
  else if a = b then l
  else l.wrI (LOOP.INTEG.VALUE n)
    (satSigned 64 (if a < b then l.rdI (LOOP.INTEG.VALUE n) * 2 ^ (b - a) else l.rdI (LOOP.INTEG.VALUE n) / 2 ^ (a - b)))

/-- Slot `n` has no issue with the old values left: its integrator is carried over. -/
def LaneSt.carryKept (l : LaneSt) (n : Nat) : LaneSt :=
  if n ∈ l.loop.kept then
    let l := l.carryInteg l.swapSetup n
    { l with loop := { l.loop with kept := l.loop.kept.filter (· != n) } }
  else l

/-- The tick of timetable `t` that was in progress at an epoch is over. -/
def LaneSt.endOldTick (l : LaneSt) (t : Nat) : LaneSt :=
  if !(l.tt t).old then l
  else
    let o := l.swapSetup
    let l := (l.loop.kept.filter (fun n => o.rd (LOOP.ENTRY.TT n) = t)).foldl LaneSt.carryKept l
    let l : LaneSt := { l with loop := { l.loop with tick := l.loop.tick.setIfInBounds t { l.tt t with old := false } } }
    if (List.range 4).any (fun t => (l.tt t).old) then l
    else { l with loop := { l.loop with before := [], kept := [] } }

/-- A tick of timetable `t` reads the mailboxes it samples (R18). -/
def LaneSt.readMail (l : LaneSt) (t : Nat) : LaneSt :=
  (l.tickSamples t).foldl (fun l x =>
    if x.1 / 256 = 9 then l.mailAin (x.1 % 256) Mailbox.take
    else if x.1 / 256 = 6 ∨ x.1 / 256 = 7 then l.mailPort (x.1 % 256) Mailbox.take
    else if 0x10000 ≤ x.1 then l.mailPort (x.1 - 0x10000) Mailbox.take else l) l

/-- TIMETABLE_TICK at the sampling edge of timetable `t`; in HOLD the LOOP island has no clock (R442). -/
def LaneSt.tickTT (l : LaneSt) (t : Nat) : LaneSt :=
  if l.rd (LOOP.TT_CTRL.SRC t) = 0 ∨ l.rd (LOOP.TT_CTRL.SRC t) = 3 ∨ l.inHold then l
  else
    let l := (List.range 8).foldl LaneSt.showTorque ((l.endOldTick t).lateResults t)
    let x : TickSt := { count := (l.tt t).count + 1, k := l.tickIndex t, samples := l.tickSamples t, old := false }
    { (l.readMail t) with loop := { l.loop with tick := l.loop.tick.setIfInBounds t x } }

def execTimetableTick (l : LaneId) (t : Fin 4) (s : State) : Host.Outcome State Fault Refusal :=
  onLane l (fun x => x.tickTT t.val) s

/-! ## Sources and error (R148, R151, R152) -/

/-- The output of slot `i` as slot `n` reads it when issued on timetable `t`: this tick's result if the producer was
issued at least 2 steps earlier, else its latest earlier one; of itself, its latest (R148). -/
def LaneSt.slotOut (l : LaneSt) (n t i : Nat) : Int :=
  let s := l.slot i
  let fresh : Bool := l.rd (LOOP.ENTRY.TT i) = t && s.tick = (l.tt t).count
  if i = n then l.rdI (LOOP.OUT.VALUE n)
  else if fresh && decide (l.rd (LOOP.ENTRY.STEP n) < l.rd (LOOP.ENTRY.STEP i) + 2) then s.outPrev
  else l.rdI (LOOP.OUT.VALUE i)

/-- The value of a source selector of slot `n` in a tick of timetable `t`. The references and measurements of the slot's
own current-loop evaluation are those commutation forms at it (R171 to R173). -/
def LaneSt.source (l : LaneSt) (n t sel : Nat) : Int :=
  let g := sel / 256
  if g = 0 then 0
  else if g = 1 then l.rdI (LOOP.CONST.VALUE n)
  else if g = 2 then l.slotOut n t (sel % 256)
  else if g = 8 ∧ sel % 8 < 4 ∧ l.isDq n then l.signal sel
  else l.sampled t sel

/-- A signed 32-bit saturation, a 64-bit one, and the difference modulo 2^32. -/
def sat32 (x : Int) : Int := satSigned 32 x
def sat64 (x : Int) : Int := satSigned 64 x
def wrap32 (x : Int) : Int := toSigned 32 (ofSigned 32 x)

/-- Whether slot `n` uses the position form (R152). -/
def LaneSt.posForm (l : LaneSt) (n : Nat) : Bool := l.rd (LOOP.SRC.SP_SEL n) / 256 = 3

/-- PV as Q32.32 in the position form: a port's counts, or a generator's position. -/
def LaneSt.pvQ (l : LaneSt) (n : Nat) (pv : Int) : Int :=
  if l.rd (LOOP.SRC.PV_SEL n) / 256 = 3 then pv else pv * 2 ^ 32

/-- The error word of slot `n` (R152). -/
def LaneSt.slotError (l : LaneSt) (n : Nat) (sp pv : Int) : Int :=
  if !l.posForm n then sat32 (sp - pv)
  else
    let g := l.rd (LOOP.SRC.SP_SEL n) % 256
    let d := sp - l.pvQ n pv
    let d := if l.isModulo g then
        let m := l.modulo g
        let r := d % q32 m
        if (m + 1) / 2 ≤ (r / 2 ^ 32).toNat then r - q32 m else r
      else toSigned 64 (ofSigned 64 d)
    sat32 (d / 2 ^ (32 - l.rd (LOOP.CTRL.ERR_FRAC n)))

/-- PV in the format of the error word. -/
def LaneSt.pvScaled (l : LaneSt) (n : Nat) (pv : Int) : Int :=
  if l.posForm n then l.pvQ n pv / 2 ^ (32 - l.rd (LOOP.CTRL.ERR_FRAC n)) else pv

/-- The output limits in force (R156). -/
def LaneSt.slotLimits (l : LaneSt) (n t : Nat) : Int × Int :=
  let lo := l.rdI (LOOP.OUT_MIN.VALUE n)
  let hi := l.rdI (LOOP.OUT_MAX.VALUE n)
  let sel := l.rd (LOOP.AUX.LIM_SEL n)
  if sel = 0 then (lo, hi)
  else
    let b : Int := (l.source n t sel).natAbs
    (max lo (-b), min hi b)

/-! ## Routes (R153) -/

/-- A new output of slot `n` reaches its route. -/
def LaneSt.route (l : LaneSt) (n : Nat) (out : Int) : LaneSt :=
  let i := l.rd (LOOP.ROUTE.INDEX n)
  match l.rd (LOOP.ROUTE.DEST n) with
  | 1 => { l with vote := { l.vote with torque := l.vote.torque.setIfInBounds i out } }
  | 4 =>
    let on := l.dutyOf i out 65536
    { l with gate := { l.gate with auxShadow := l.gate.auxShadow.setIfInBounds i (l.gate.auxShadow.getD i [] ++ [(l.run, on)]) } }
  | _ => l

/-- Write the output of slot `n`, its saturation and what counts it. -/
def LaneSt.putOut (l : LaneSt) (n : Nat) (u lo hi : Int) : LaneSt :=
  let out := if hi < u then hi else if u < lo then lo else u
  let l := l.setSlot n (fun s => { s with outPrev := l.rdI (LOOP.OUT.VALUE n) })
  let l := (l.wrB (LOOP.STATUS.SAT_HI n) (decide (hi < u))).wrB (LOOP.STATUS.SAT_LO n) (decide (u < lo ∧ ¬ hi < u))
  let l := if hi < u ∨ u < lo then l.satInc 7 (LOOP.COUNTS.SAT_EVALS n) else l
  (l.wrI (LOOP.OUT.VALUE n) out).route n out

/-- The slot's output was clamped at its latest evaluation. -/
def LaneSt.saturated (l : LaneSt) (n : Nat) : Bool := l.on (LOOP.STATUS.SAT_HI n) || l.on (LOOP.STATUS.SAT_LO n)

/-! ## The control law (R154 to R157, R166) -/

/-- The derivative state after an evaluation. -/
def LaneSt.newD (l : LaneSt) (n : Nat) (dx : Int) : Int :=
  let al : Int := l.rd (LOOP.DFILT.ALPHA n)
  sat64 (sat64 (al * l.rdI (LOOP.DSTATE.VALUE n)) + sat64 ((65536 - al) * l.rdI (LOOP.KD.VALUE n) * dx)) / 2 ^ 16

/-- One evaluation of slot `n` in RUN. -/
def LaneSt.lawEval (l : LaneSt) (n t : Nat) : LaneSt :=
  let pv := l.source n t (l.rd (LOOP.SRC.PV_SEL n))
  let e := l.slotError n (l.source n t (l.rd (LOOP.SRC.SP_SEL n))) pv
  let x := if l.on (LOOP.CTRL.DMODE n) then wrap32 (-(l.pvScaled n pv)) else e
  let dx := if (l.slot n).first then 0 else wrap32 (x - (l.slot n).xPrev)
  let d := l.newD n dx
  let sh := l.rd (LOOP.CTRL.SHIFT n)
  let p := l.rdI (LOOP.KP.VALUE n) * e
  let ff := sat64 (l.rdI (LOOP.KFF.VALUE n) * l.source n t (l.rd (LOOP.AUX.FF_SEL n)))
  let i := match (l.slot n).bump with
    | some u0 => sat64 (u0 * 2 ^ sh - p - d - ff)
    | none => l.rdI (LOOP.INTEG.VALUE n)
  let raw := sat64 (sat64 (sat64 (p + i) + d) + ff)
  let u := sat32 (sat64 (raw + (if sh = 0 then 0 else 2 ^ (sh - 1))) / 2 ^ sh)
  let lim := l.slotLimits n t
  let l := (l.setSlot n (fun s => { s with xPrev := x, first := false, bump := none })).wrI (LOOP.DSTATE.VALUE n) d
  let l := (l.wrI (LOOP.ERR.VALUE n) e).putOut n u lim.1 lim.2
  let chain := l.on (LOOP.CTRL.SAT_CHAIN_EN n) && l.saturated (l.rd (LOOP.CTRL.CHAIN_SLOT n))
  let volt : Bool := l.rd (LOOP.ROUTE.DEST n) = 3 && l.on (COMM.STATUS.VOLT_LIMITED (l.rd (LOOP.ROUTE.INDEX n)))
  let l := l.wrB (LOOP.STATUS.CHAIN_FROZEN n) (chain && !l.saturated n)
  l.wrI (LOOP.INTEG.VALUE n)
    (if l.saturated n || chain || volt then i else sat64 (i + l.rdI (LOOP.KI.VALUE n) * e))

/-! ## The relay (R162 to R165) -/

/-- The channel position as the lane measures it on the channel's reference port. -/
def LaneSt.chPos (l : LaneSt) (c : Nat) : Int := l.fbPosSignal (l.rd (COMM.SRC.PORT_P c))

/-- Bring the progress of a tune into the slot's TUNE registers. -/
def LaneSt.showTune (l : LaneSt) (t : TuneSt) : LaneSt :=
  let n := t.slot
  ((l.wr (LOOP.TUNE_STATUS.TSTATE n) (if t.start.isNone then 1 else 2)).wr (LOOP.TUNE_STATUS.CYCLES n)
    (min 255 t.done.length)).wr (LOOP.TUNE_STATUS.STABLE n) t.stable

/-- A cycle of `k` evaluations and a swing has run: is it stable against the one before? -/
def stableAgainst (prev : Option (Nat × Int)) (k : Nat) (a : Int) : Bool :=
  match prev with
  | none => false
  | some (k', a') => decide (16 * ((k : Int) - k').natAbs ≤ k') && decide (16 * (a - a').natAbs ≤ a'.natAbs)

/-- One relay evaluation of a tune, from the measurement in error format and the error: the tune after it. -/
def TuneSt.next (t : TuneSt) (y e : Int) : TuneSt :=
  let high := if t.eps < e then true else if e < -t.eps then false else t.high
  let t' : TuneSt := { t with high := high, since := t.since.map (· + 1), pv := (min t.pv.1 y, max t.pv.2 y) }
  if !(high && !t.high) then t'
  else
    match t'.since with
    | none => { t' with since := some 0, pv := (y, y) }
    | some k =>
      let a := t'.pv.2 - t'.pv.1
      let st := if stableAgainst t.done.head? k a then t.stable + 1 else 0
      let t' := { t' with since := some 0, pv := (y, y), done := (k, a) :: t.done, stable := min 4 st }
      let t' := if t'.complete then t' else { t' with complete := decide (4 ≤ st) }
      if t'.aborted.isSome then t'
      else if k < 8 then { t' with aborted := some (0x76, k) }
      else if 64 ≤ t'.done.length ∧ !t'.complete then { t' with aborted := some (0x75, t'.done.length) }
      else t'

/-- Numerators and denominators of Kp / Ku, Ti / Tu (none for no integral) and Td / Tu (R164). -/
def gainRule : Nat → (Nat × Nat) × Option (Nat × Nat) × (Nat × Nat)
  | 0 => ((6, 10), some (1, 2), (1, 8))
  | 1 => ((45, 100), some (10, 12), (0, 1))
  | 2 => ((1, 2), none, (0, 1))
  | 3 => ((33, 100), some (1, 2), (1, 3))
  | 4 => ((2, 10), some (1, 2), (1, 3))
  | 5 => ((10, 32), some (22, 10), (0, 1))
  | _ => ((10, 22), some (22, 10), (10, 63))

/-- A rounded quotient of tune results; of one by 0 (a swing of nothing) the spec states nothing (log entry 7). -/
def tuneQuotient (n : Int) (d : Nat) : Int := if d = 0 then ((Config.openQuotient n 0).toNat : Int) else divRound n d

/-- The results of a completed measurement in the TUNE registers (R163, R164): the last four cycles' periods `p` and
swings `a` summed. TUNE_TU holds the low 32 bits of a Tu beyond them, which the spec does not say (DESIGN CHOICE, log entry
52). -/
def LaneSt.tuneResults (l : LaneSt) (t : TuneSt) : LaneSt :=
  let n := t.slot
  let four := t.done.take 4
  let p := (four.map (·.1)).sum
  let a := (four.map (·.2)).sum
  let d := t.amp.natAbs
  let r := gainRule t.rule
  let sh := 2 ^ l.rd (LOOP.CTRL.SHIFT n)
  let top : Nat := 32 * d * r.1.1 * sh * 10 ^ 18
  let bot : Nat := pi18 * a.toNat * r.1.2
  let kp : Int := tuneQuotient top bot
  let ki : Int := match r.2.1 with
    | none => 0
    | some g => tuneQuotient (top * 4 * g.2 : Nat) (bot * g.1 * p)
  let kd : Int := tuneQuotient (top * p * r.2.2.1 : Nat) (bot * 4 * r.2.2.2)
  let clip : Bool := decide ((2:Int) ^ 31 ≤ kp ∨ (2:Int) ^ 31 ≤ ki ∨ (2:Int) ^ 31 ≤ kd)
  let l := (l.wr (LOOP.TUNE_TU.NS n) (divRound (p * l.samplePeriod n : Nat) 4).toNat).wr (LOOP.TUNE_A.VALUE n) (qdiv a 8).toNat
  let l := l.wr (LOOP.TUNE_KU.VALUE n) (min (2 ^ 32 - 1) (tuneQuotient (32 * d * 65536 * 10 ^ 18 : Nat) (pi18 * a.toNat)).toNat)
  let l := ((l.wrSat (LOOP.TUNE_KP.VALUE n) kp).wrSat (LOOP.TUNE_KI.VALUE n) ki).wrSat (LOOP.TUNE_KD.VALUE n) kd
  (l.wrB (LOOP.TUNE_STATUS.EPS_LARGE n) (decide (a < 32 * t.eps))).wrB (LOOP.TUNE_STATUS.GAIN_CLIPPED n) clip

/-- One evaluation of slot `n` in TUNE. -/
def LaneSt.relayEval (l : LaneSt) (n t : Nat) (u : TuneSt) : LaneSt :=
  let c := l.rd (LOOP.CTRL.CH n)
  let pv := l.source n t (l.rd (LOOP.SRC.PV_SEL n))
  let y := l.pvScaled n pv
  let pos := l.chPos c
  let v := match u.start with
    | none => { u with start := some (l.source n t (l.rd (LOOP.SRC.SP_SEL n)), pos), high := decide (0 < u.amp),
                       since := if 0 < u.amp then some 0 else none, pv := (y, y) }
    | some x => u.next y (l.slotError n x.1 pv)
  let x := v.start.getD (0, 0)
  let out := if v.high then v.u0 + v.amp else v.u0 - v.amp.natAbs
  let lim := l.slotLimits n t
  let ran := v.done.length
  let stop : Option (Nat × Nat) :=
    if l.rd (LOOP.TUNE_TRAVEL.COUNTS n) < (wrap32 (pos - x.2)).natAbs then some (0x73, ran)
    else if out < lim.1 ∨ lim.2 < out then some (0x74, ran) else none
  let v := { v with aborted := if v.aborted.isSome then v.aborted else stop }
  let l := (l.setTune c (some v)).showTune v
  let l := if v.complete ∧ !u.complete then l.tuneResults v else l
  (l.wrI (LOOP.ERR.VALUE n) (l.slotError n x.1 pv)).putOut n out lim.1 lim.2

/-! ## Pipelines (R142 to R144) -/

/-- The physical pipeline of logical pipeline `i`. -/
def logicalF (i : Nat) : Field := ⟨0x18040, 3 * i, 3⟩

/-- A physical pipeline is retired: the spare takes its place, or, with none left, the lane is fatal (R144, R394). -/
def LaneSt.retirePipe (l : LaneSt) (p : Nat) : LaneSt :=
  let l := l.wr LOOP.PIPE_STATUS.RETIRED (setBit (l.rd LOOP.PIPE_STATUS.RETIRED) p true)
  let sp := l.rd LOOP.PIPE_STATUS.SPARE
  let l := l.setUnproved 1 true
  if sp = p then (l.wr LOOP.PIPE_STATUS.SPARE 7).fault 0x0E3 p
  else match (List.range 4).find? (fun i => l.rd (logicalF i) = p) with
  | none => l
  | some i =>
    if sp = 7 then l.fault 0x0E4 p
    else (((l.wr (logicalF i) sp).wr LOOP.PIPE_STATUS.SPARE 7).fault 0x0E3 p).spareUsed 1

/-- PIPE_ROTATION: the spare takes over the next pipeline in the order P0 to P4, skipping itself and retired ones; no
rotation without a spare (R142, R144). -/
def LaneSt.rotatePipe (l : LaneSt) : LaneSt :=
  let sp := l.rd LOOP.PIPE_STATUS.SPARE
  if 5 ≤ sp ∨ l.inHold then l
  else
    let order := ((List.range 4).map (fun i => (sp + 1 + i) % 5)).filter (fun p => !bit (l.rd LOOP.PIPE_STATUS.RETIRED) p)
    match order.findSome? (fun p => ((List.range 4).find? (fun i => l.rd (logicalF i) = p)).map (fun i => (p, i))) with
    | none => l
    | some (p, i) => ((l.wr (logicalF i) sp).wr LOOP.PIPE_STATUS.SPARE p).satInc 7 LOOP.ENG_COUNTS.ROTATIONS

def execPipeRotation (l : LaneId) (s : State) : Host.Outcome State Fault Refusal := onLane l LaneSt.rotatePipe s

/-- A residue check of slot `n` failed: the evaluation is discarded; two failures of one physical pipeline within 1 s
retire it (R143, R144). -/
def LaneSt.residueFail (l : LaneSt) (n : Nat) : LaneSt :=
  let p := l.rd (logicalF (l.rd (LOOP.ENTRY.PIPE n)))
  let old := l.loop.residue.getD p none
  let again : Bool := match old with
    | none => false
    | some t => decide (l.run < t + 10 ^ 9)
  let l := ((l.wr (LOOP.STATUS.RESIDUE_ERR n) 1).satInc 7 (LOOP.COUNTS.DISCARDED n)).satInc 7 LOOP.ENG_COUNTS.RESIDUE
  let l := l.setSlot n (fun s => { s with outPrev := l.rdI (LOOP.OUT.VALUE n) })
  let l : LaneSt := { l with loop := { l.loop with residue := l.loop.residue.setIfInBounds p (some l.run) } }
  let l := l.fault 0x0E2 n
  if again then l.retirePipe p else l

/-! ## SLOT_ISSUE -/

/-- Slot `n` is due in the present tick of its timetable and has not been issued in it (R147). -/
def LaneSt.slotDue (l : LaneSt) (n : Nat) : Bool :=
  let t := l.tt (l.rd (LOOP.ENTRY.TT n))
  l.on (LOOP.ENTRY.EN n) && t.count != 0 && (l.slot n).tick != t.count
    && t.k % 2 ^ l.rd (LOOP.ENTRY.DIVLOG n) = l.rd (LOOP.ENTRY.PHASE n)

/-- After the last d and q slot of channel `c` in this tick, the vector becomes duties (R174, R175). -/
def LaneSt.afterDq (l : LaneSt) (c t : Nat) : LaneSt :=
  let out (dest : Nat) : Int := match l.slotTo dest c with
    | none => 0
    | some m => l.rdI (LOOP.OUT.VALUE m)
  let waits (dest : Nat) : Bool := match l.slotTo dest c with
    | none => false
    | some m => l.slotDue m && (l.rd (LOOP.STATUS.STATE m) = 1 || l.rd (LOOP.STATUS.STATE m) = 2)
  if waits 2 || waits 3 then l else l.formDuties c t (out 2) (out 3)

/-- Slot `n` is evaluated with the values in force, its residue checks passing or failing. -/
def LaneSt.issueNow (l : LaneSt) (n : Nat) (bad : Bool) : LaneSt :=
  let t := l.rd (LOOP.ENTRY.TT n)
  let st := l.rd (LOOP.STATUS.STATE n)
  if !l.slotDue n ∨ (st ≠ 1 ∧ st ≠ 2) then l
  else
    let c := l.rd (LOOP.ROUTE.INDEX n)
    let l := if l.isDq n ∧ (l.ang c).tick ≠ (l.tt t).count then l.commEval c t else l
    let l := l.setSlot n (fun s => { s with tick := (l.tt t).count })
    let l := if bad then l.residueFail n
      else
        let l := l.wr (LOOP.STATUS.RESIDUE_ERR n) 0
        match (if st = 2 then l.tune (l.rd (LOOP.CTRL.CH n)) else none) with
        | some u => l.relayEval n t u
        | none => l.lawEval n t
    if l.isDq n then l.afterDq c t else l

/-- SLOT_ISSUE of slot `n`: in a tick that was in progress at an epoch with the values before it, its integrator carried
over after it; no slot joins such a tick (R150). In HOLD the LOOP island has no clock (R442). -/
def LaneSt.issue (l : LaneSt) (n : Nat) (bad : Bool) : LaneSt :=
  let o := l.swapSetup
  if l.inHold then l
  else if (l.tt (o.rd (LOOP.ENTRY.TT n))).old then ((o.issueNow n bad).swapSetup).carryKept n
  else if (l.tt (l.rd (LOOP.ENTRY.TT n))).old then l
  else l.issueNow n bad

/-- The ticks in progress at an epoch, and the slots they have still to issue: `old` is the lane before it. The integrators
of all other slots are carried over at once (R150). -/
def LaneSt.carryTicks (l old : LaneSt) : LaneSt :=
  let due := (List.range 128).filter (fun n =>
    old.slotDue n && (old.rd (LOOP.STATUS.STATE n) = 1 || old.rd (LOOP.STATUS.STATE n) = 2))
  let l := ((List.range 128).filter (fun n => !due.contains n)).foldl (fun l n => l.carryInteg old n) l
  let words := (l.regs ++ old.regs).map (·.1)
  let changed := (words.filter (fun off => engineSetup off && l.word off != old.word off)).eraseDups
  { l with loop := { l.loop with
      before := if due.isEmpty then [] else changed.map (fun off => (off, old.word off)), kept := due,
      tick := Vector.ofFn (fun t : Fin 4 => { l.loop.tick.get t with
        old := due.any (fun n => old.rd (LOOP.ENTRY.TT n) = t.val) }) } }

def execSlotIssue (l : LaneId) (n : Fin 128) (residueFails : Bool) (s : State) : Host.Outcome State Fault Refusal :=
  onLane l (fun x => x.issue n.val residueFails) s

/-! ## AUTOTUNE (R161, R166) -/

/-- Fraction of the output of slot `n` (R153). -/
def LaneSt.outFrac (l : LaneSt) (n : Nat) : Nat := if l.rd (LOOP.ROUTE.DEST n) = 0 then l.rd (LOOP.CTRL.OFRAC n) else 16

/-- Fraction of a selector's signal as slot `n` reads it (R151). -/
def LaneSt.selFrac (l : LaneSt) (n sel : Nat) : Nat :=
  match sel / 256 with
  | 1 => l.rd (LOOP.CTRL.OFRAC n)
  | 2 => l.outFrac (sel % 256)
  | 3 => 32
  | 8 => if sel % 8 = 4 then 0 else 16
  | 9 => 16
  | _ => 0

/-- Fraction of the error word of slot `n`, that of SP and PV, of which NONE has any (R151, R152). -/
def LaneSt.errFrac (l : LaneSt) (n : Nat) : Nat :=
  if l.posForm n then l.rd (LOOP.CTRL.ERR_FRAC n)
  else l.selFrac n (if l.rd (LOOP.SRC.SP_SEL n) = 0 then l.rd (LOOP.SRC.PV_SEL n) else l.rd (LOOP.SRC.SP_SEL n))

/-- A Q16.16 number as a word with `frac` fraction bits. -/
def rescale (x : Int) (frac : Nat) : Int := qdiv (x * 2 ^ frac) (2 ^ 16)

/-- Slots that read the output of slot `n` directly or through other slots, and `n`, as a mask. -/
def LaneSt.readers (l : LaneSt) (n : Nat) : Nat :=
  Nat.repeat (fun m => maskOf 128 (fun i => bit m i || (l.selectors i).any (fun x => x / 256 = 2 && bit m (x % 256)))) 127 (2 ^ n)

/-- The rows of the acceptance table of AUTOTUNE that reject: the offset of the bad field. -/
def LaneSt.tuneBad (l : LaneSt) (ch slot rule : Nat) (d : Int) (eps : Nat) : Option Nat :=
  if l.rd (LOOP.CTRL.CH slot) ≠ ch then some 17
  else if 6 < rule then some 18
  else if d = 0 then some 20
  else if eps = 0 then some 24
  else none

/-- The rows of the acceptance table that deny: reason and argument. -/
def LaneSt.tuneDenied (l : LaneSt) (ch slot : Nat) (amp : Int) : Option (Nat × Nat) :=
  let u0 := l.rdI (LOOP.OUT.VALUE slot)
  let lim := l.slotLimits slot (l.rd (LOOP.ENTRY.TT slot))
  if l.chState ch ≠ 3 then some (0x09, 0)
  else if !l.on (LOOP.ENTRY.EN slot) then some (0x78, slot)
  else match l.tune ch with
  | some t => some (0x71, t.slot)
  | none =>
    if l.rd (LOOP.TUNE_TRAVEL.COUNTS slot) = 0 ∨ lim.2 < u0 + amp.natAbs then some (0x72, 0)
    else if u0 - amp.natAbs < lim.1 then some (0x72, 1)
    else none

/-- An AUTOTUNE accepted: the slot in TUNE, the channel's slots that do not read its output HELD. -/
def LaneSt.tuneStart (l : LaneSt) (d : Decided) (ch slot rule : Nat) (amp eps : Int) : LaneSt :=
  let rs := l.readers slot
  let t : TuneSt := { d := d, slot := slot, rule := rule, amp := amp, eps := eps, u0 := l.rdI (LOOP.OUT.VALUE slot),
                      start := none, high := false, since := none, pv := (0, 0), done := [], stable := 0,
                      complete := false, aborted := none }
  let l := (List.range 128).foldl (fun l m =>
    if l.rd (LOOP.CTRL.CH m) ≠ ch ∨ l.rd (LOOP.STATUS.STATE m) ≠ 1 then l
    else if m = slot then l.wr (LOOP.STATUS.STATE m) 2
    else if bit rs m then l else l.wr (LOOP.STATUS.STATE m) 3) l
  let l := ((l.setTune ch (some t)).showTune t).wr (LOOP.TUNE_STATUS.RULE slot) rule
  ((l.wr (LOOP.TUNE_STATUS.EPS_LARGE slot) 0).wr (LOOP.TUNE_STATUS.GAIN_CLIPPED slot) 0).wr (LOOP.TUNE_STATUS.REASON slot) 0

/-- AUTOTUNE in one lane (R161). -/
def LaneSt.autotune (l : LaneSt) (lead : Option (Option (Nat × Nat))) (d : Decided) (ch slot rule : Nat) (x : Int)
    (eps : Nat) : LaneSt :=
  l.permittedSession lead d [l.permSetup] [l.permMode] (fun l =>
    match l.tuneBad ch slot rule x eps with
    | some off => l.complete d stRejected (reasonDetail 0x02 off) 0
    | none =>
      let amp := rescale x (l.outFrac slot)
      match l.tuneDenied ch slot amp with
      | some (code, arg) => l.deny d code arg
      | none => l.tuneStart d ch slot rule amp (rescale eps (l.errFrac slot)))

/-- An AUTOTUNE descriptor. -/
def DescOp.isAutotune : DescOp → Bool
  | .autotune _ _ _ _ _ => true
  | _ => false

def execAutotune (l : LaneId) (s : State) : Host.Outcome State Fault Refusal :=
  onLane l (fun x => x.withDesc DescOp.isAutotune (fun d op y => match op with
    | .autotune ch slot rule amp eps => y.autotune (s.leadSession l d) d ch slot rule amp eps
    | _ => y)) s

/-- A lane's part of the end of a tune of channel `c`: its slot returns to RUN bumplessly, HELD slots resume, the
AUTOTUNE completes (R166, R168). -/
def LaneSt.tuneFinish (l : LaneSt) (c : Nat) (status detail result : Nat) (reason : Option Nat) : LaneSt :=
  match l.tune c with
  | none => l
  | some t =>
    let l := (List.range 128).foldl (fun l m =>
      if l.rd (LOOP.CTRL.CH m) ≠ c then l
      else if l.rd (LOOP.STATUS.STATE m) = 2 then
        (l.wr (LOOP.STATUS.STATE m) 1).setSlot m (fun s => { s with bump := some t.u0, first := true })
      else if l.rd (LOOP.STATUS.STATE m) = 3 then (l.wr (LOOP.STATUS.STATE m) 1).setSlot m (fun s => { s with first := true })
      else l) l
    let l := l.wr (LOOP.TUNE_STATUS.TSTATE t.slot) (if reason.isSome then 4 else 3)
    let l := reason.elim l (fun r => l.wr (LOOP.TUNE_STATUS.REASON t.slot) r)
    (l.setTune c none).complete t.d status detail result

/-- How the tune of channel `c` ends, at the first voting boundary after the lead has completed its measurement or a
member has aborted: completion status, DETAIL, RESULT and reason; none while it goes on (R166, R168). -/
def State.tuneEnds (s : State) (k : LaneId) (c : Nat) : Option (Nat × Nat × Nat × Option Nat) :=
  let ms := LaneId.all.filter (fun j => bit (s.lane k).members j.num)
  match ms.findSome? (fun j => ((s.lane j).tune c).bind (·.aborted)) with
  | some (code, arg) => some (stAborted, reasonDetail code arg, 0, some code)
  | none =>
    match (s.lane k).vote.lead with
    | none => none
    | some j =>
      let l := s.lane j
      match l.tune c with
      | none => none
      | some t =>
        if !t.complete then none
        else
          let n := t.slot
          some (stOk, min 255 t.done.length + 2 ^ 8 * t.rule + 2 ^ 12 * l.rd (LOOP.TUNE_STATUS.EPS_LARGE n)
              + 2 ^ 13 * l.rd (LOOP.TUNE_STATUS.GAIN_CLIPPED n),
            l.rd (LOOP.TUNE_TU.NS n) + 2 ^ 32 * l.rd (LOOP.TUNE_KU.VALUE n), none)

/-- The tune of channel `c` ends in every lane that runs it, where it is due to end. -/
def State.endTune (s : State) (k : LaneId) (c : Nat) : State :=
  match s.tuneEnds k c with
  | none => s
  | some (st, det, res, r) => LaneId.all.foldl (fun s j => s.setLane j ((s.lane j).tuneFinish c st det res r)) s

def execTuneEnd (l : LaneId) (n : Fin 128) (s : State) : Host.Outcome State Fault Refusal :=
  .next (match (s.lane l).tune ((s.lane l).rd (LOOP.CTRL.CH n.val)) with
    | none => s
    | some t => if t.slot = n.val then s.endTune l ((s.lane l).rd (LOOP.CTRL.CH n.val)) else s)

/-- TUNE_TIMEOUT: TUNE_TMO has elapsed (R165). -/
def execTuneTimeout (l : LaneId) (n : Fin 128) (s : State) : Host.Outcome State Fault Refusal :=
  onLane l (fun x =>
    let c := x.rd (LOOP.CTRL.CH n.val)
    match x.tune c with
    | none => x
    | some t => if t.slot = n.val then x.tuneAbort c 0x75 t.done.length else x) s

/-! ## Re-acquisition out of time (R190) -/

/-- OBS_REACQ_TIMEOUT: no lock within OBS.REACQ; the winding stays off. -/
def LaneSt.reacqTimeout (l : LaneSt) (n : Nat) : LaneSt :=
  if l.rd (COMM.STATUS.WSTATE n) ≠ 4 ∨ (l.gateCh n).resume then l
  else ((l.windingOff n).satInc 8 (COMM.COUNTS2.REACQ_FAIL n)).fault 0x106 n

def execObsReacqTimeout (l : LaneId) (ch : Fin 8) (s : State) : Host.Outcome State Fault Refusal :=
  onLane l (fun x => x.reacqTimeout ch.val) s

end Sys2Proof.Machine
end

