-- ==== Sys2Proof/Machine/Outputs.lean ====
section
/-!
DEFINITION. Safety outputs as their roles command them (R336, R339, R340).
-/

namespace Sys2Proof.Machine

open Sys2Proof

/-- Whether function `f` lets its FUNCTION outputs be energized: in PERMIT, or in the controlled stop of a category-1
demand, which de-energizes them at its end (R334, R336). -/
def LaneSt.functionOn (l : LaneSt) (f : Nat) : Bool :=
  l.rd (SIO.SF_STATUS.STATE f) = 3
    || (l.on (SIO.SF_STATUS.STOPPING f) && l.rd (SIO.SF_STATUS.STATE f) = 1 && l.rd (SIO.SF_CTRL.STOP_CAT f) = 1)

/-- A channel that releases the park brake (R336). -/
def LaneSt.releasesBrake (l : LaneSt) (n : Nat) : Bool :=
  let st := l.rd (COMM.STATUS.STATE n)
  st = 2 || st = 3 || st = 4 || (st = 6 && (l.comm.getD n .reset).latchCat = 2)

/-- Whether output `k` is to be energized in this lane (R336). -/
def LaneSt.soWanted (l : LaneSt) (k : Nat) : Bool :=
  let t := l.rd (SIO.SO_CFG.TARGET k)
  let pw := l.rd PWR.STATUS.STATE
  l.on SIO.CTRL.EN && bit (l.rd (SIO.SO_CFG.LANES k)) l.id.num && !bit (l.rd SIO.SO_STATUS.FAULT) k
    && !l.inSafe && !l.on FLT.STATUS.FATAL && (pw = 1 || pw = 2)
    && (match l.rd (SIO.SO_CFG.ROLE k) with
      | 1 => l.isMember && l.functionOn (t % 16)
      | 2 => l.isMember || l.self = selfShadow
      | 3 => l.isMember || l.self = selfShadow
      | 4 => l.isMember && (List.range 8).any (fun n => bit t n && l.releasesBrake n)
      | _ => false)

/-- Bring output `k` to its commanded state: off at once, on only after its shutdown is confirmed (R340). -/
def LaneSt.judgeOutput (l : LaneSt) (k : Nat) : LaneSt :=
  let isOn := bit (l.rd SIO.SO_STATUS.ON) k
  if l.soWanted k then (if isOn || bit l.sio.shut k then l else (l.soChange k true).inc (SIO.SO_OPS.COUNT k))
  else l.soOff k

/-- Bring every output to its commanded state. -/
def LaneSt.judgeOutputs (l : LaneSt) : LaneSt := (List.range 8).foldl LaneSt.judgeOutput l

/-- The lane's phase-isolation outputs of channel `n` are energized and confirmed; a channel that none names waits for
nothing (R194). -/
def LaneSt.phaseIsoReady (l : LaneSt) (n : Nat) : Bool :=
  (List.range 8).all (fun k =>
    l.rd (SIO.SO_CFG.ROLE k) ≠ 2 || !bit (l.rd (SIO.SO_CFG.LANES k)) l.id.num || !bit (l.rd (SIO.SO_CFG.TARGET k)) n
      || (bit (l.rd SIO.SO_STATUS.ON) k && bit l.sio.conf k))

end Sys2Proof.Machine
end

