-- ==== Sys2Proof/Machine/Chan.lean ====
section
/-!
DEFINITION. The channel state machine: start-up, shutdown, controlled stops, faults and their resets (R32 to R34, R114,
R115, R178, R181, R182, R192 to R196).
-/

namespace Sys2Proof.Machine

open Sys2Proof

/-! ## State changes -/

/-- Channel states (R193). -/
def chDisabled : Nat := 0
def chStarting : Nat := 1
def chRun : Nat := 2
def chTune : Nat := 3
def chStopping : Nat := 4
def chFaulted : Nat := 5
def chLatched : Nat := 6

/-- Put channel `n` in a state: source n of group 15 where it changes, slots and outputs follow (R159, R336, R348). -/
def LaneSt.setCh (l : LaneSt) (n st : Nat) : LaneSt :=
  if l.chState n = st then l else (((l.wr (COMM.STATUS.STATE n) st).raise 15 n).judgeSlots).judgeOutputs

/-- The members of a lane's view. -/
def State.membersOf (s : State) (k : LaneId) : List LaneId := LaneId.all.filter (fun j => bit (s.lane k).members j.num)

/-- Every enable of the merge completes with the count of the merge (R33). -/
def LaneSt.endEnables (l : LaneSt) (n status outcome : Nat) : LaneSt :=
  let c := l.ch n
  (c.enables.foldl (fun l d => l.complete d status (outcomeDetail outcome (c.enables.length - 1)) 0) l).setComm n
    (fun c => { c with enables := [], deferred := false })

/-- The disable that started the shutdown completes OK, STOPPED, every later one OK, NO_CHANGE (R32). -/
def LaneSt.endDisables (l : LaneSt) (n : Nat) : LaneSt :=
  let c := l.ch n
  let l := c.disable.elim l (fun d => l.okOutcome d 1 0)
  (c.disables.foldl (fun l d => l.okOutcome d 0 0) l).setComm n
    (fun c => { c with disable := none, disables := [], byFault := false })

/-- Nothing of a start-up or a shutdown is left running in this lane. -/
def LaneSt.clearRun (l : LaneSt) (n : Nat) : LaneSt :=
  let l := l.setComm n (fun c => { c with step := 0, fromHold := false, rested := false })
  let l := l.setAng n (fun a => { a with acq := 0, forced := 0 })
  l.setGateCh n (fun g => { g with resume := false, park := false, scan := g.scan.filter (fun x => !x.startup) })

/-- Both generators of channel `n` lose their queues. -/
def LaneSt.discardBoth (l : LaneSt) (n : Nat) : LaneSt := (l.discardQueue (2 * n)).discardQueue (2 * n + 1)

/-- Torque command and reference of channel `n` at 0 (R196). -/
def LaneSt.zeroTorque (l : LaneSt) (n : Nat) : LaneSt :=
  { l with vote := { l.vote with
      torque := l.vote.torque.setIfInBounds n 0, voted := l.vote.voted.setIfInBounds n 0,
      ref := l.vote.ref.setIfInBounds n 0 } }

/-- The channel no longer stops for a safety function or a controlled stop. -/
def LaneSt.clearStop (l : LaneSt) (n : Nat) : LaneSt :=
  (l.wr (COMM.STATUS.STOPPING n) 0).setComm n (fun c => { c with sfStop := 0 })

/-- The state of a winding in SAFE (R192): active short for a steering channel, all gates off for a brake; a short
that is held stays (R256, R259). -/
def LaneSt.windingK5 (l : LaneSt) (n : Nat) : LaneSt :=
  if !l.isMotor n then l
  else if l.rd (COMM.CTRL.CLASS n) = 1 ∧ !l.shortHeld n then l.windingOff n
  else l.activeShort n

/-- A lane stops driving channel `n` in a given winding state: generators stopped, requests ended as by a fault
reaction (R32), the channel in its new state. -/
def LaneSt.cut (l : LaneSt) (n dest : Nat) (k5 : Bool) : LaneSt :=
  let l := if l.chState n = chTune then l.tuneAbort n 0x77 (if dest = chFaulted then 1 else 2) else l
  let l := (if k5 then l.windingK5 n else l.windingSafe n).clearRun n
  let l := ((l.endEnables n stAborted 5).endDisables n).discardBoth n
  let l := ((l.stopGen (2 * n) l.stepNs 0).stopGen (2 * n + 1) l.stepNs 0)
  ((l.zeroTorque n).clearStop n).setCh n dest

/-! ## FAULTED (R193, R370) -/

/-- Channel `n` passes to FAULTED: at the boundary that follows a fault reaction, or on entry to SAFE (`k5`). -/
def LaneSt.toFaulted (l : LaneSt) (n : Nat) (k5 : Bool) : LaneSt :=
  if l.chState n = chFaulted then (if k5 then l.windingK5 n else l) else l.cut n chFaulted k5

/-- A fault reaction of a member is due to move channel `n` to FAULTED: it comes before any descriptor and any completion of
a start-up or shutdown (R34). -/
def State.faultDue (s : State) (k : LaneId) (n : Nat) : Bool := (s.membersOf k).any (fun j => bit (s.lane j).flt.faultNext n)

/-- The argument of FAULT_LATCHED (R199): START_ERR of the lowest-lettered member whose start-up failed, else 0xFF. -/
def State.faultArg (s : State) (k : LaneId) (n : Nat) : Nat :=
  let failed (j : LaneId) : Bool := ((s.lane j).flt.source.getD n none).any (fun x => x.1 = 0x10C)
  match (s.membersOf k).find? failed with
  | some j => (s.lane j).rd (COMM.START_ERR.CODE n)
  | none => 0xFF

/-! ## Start-up (R194, R195) -/

/-- A member's start-up fails: START_ERR, START_FAILED with its reaction. Below channel safe state the channel still
passes to FAULTED (R193). -/
def LaneSt.startFail (l : LaneSt) (n code : Nat) : LaneSt :=
  let l := (l.wr (COMM.START_ERR.CODE n) code).clearRun n
  let weak := l.reaction 0x10C n ≤ 1
  let l := if weak then l.channelSafe (2 ^ n) 0x10C n else l
  l.fault 0x10C n

/-- VDC within the start-up range (R266). -/
def LaneSt.vdcBad (l : LaneSt) : Bool := l.vdcLow || l.vdcAt (l.rd GATE.OV_A.OV1)

/-- A d or q slot exists on a timetable of the channel's carrier. -/
def LaneSt.loopSlotOk (l : LaneSt) (n dest : Nat) : Bool :=
  match l.slotTo dest n with
  | none => false
  | some m =>
    let t := l.rd (LOOP.ENTRY.TT m)
    l.rd (LOOP.TT_CTRL.SRC t) = 1 && l.rd (LOOP.TT_CTRL.CARRIER t) = l.rd (COMM.CTRL.CARRIER n)

/-- The start-up check with a START_ERR code from 1 to 7 fails now. -/
def LaneSt.checkFails (l : LaneSt) (n : Nat) : Nat → Bool
  | 1 => l.rd (COMM.RATED.VALUE n) = 0
  | 2 => if l.rd (COMM.CTRL.CLASS n) = 0 then l.role (2 * n) ≠ 1 else l.role (2 * n + 1) ≠ 2
  | 3 => !(l.loopSlotOk n 2 && l.loopSlotOk n 3)
  | 4 => !l.portValid n false && !l.portValid n true && !l.on (COMM.ALIGN.EN n)
  | 5 => l.vdcBad
  | 6 => !l.on GATE.DIE_STATUS.VGD_OK
  | 7 => !l.phaseIsoReady n
  | _ => false

/-- Put this lane's start-up at a step. -/
def LaneSt.setStep (l : LaneSt) (n k : Nat) : LaneSt := l.setComm n (fun c => { c with step := k })

/-- Step 4: the bootstrap charge. A bridge whose short is held keeps it. -/
def LaneSt.chargeStart (l : LaneSt) (n : Nat) : LaneSt :=
  let l := l.setStep n 4
  if !l.isMotor n ∨ l.shortHeld n then l else (l.setBridge n 2).setWstate n 5

/-- A start-up scan has run all its steps (R268). -/
def LaneSt.scanJudge (l : LaneSt) (n : Nat) : LaneSt :=
  match (l.gateCh n).scan with
  | none => l
  | some sc =>
    if !sc.startup ∨ sc.step ≤ 10 then l
    else
      let l := l.setGateCh n (fun g => { g with scan := none })
      if sc.findings ≠ 0 then l.startFail n 8 else l.chargeStart n

/-- Step 3: the scan of a brake channel. -/
def LaneSt.scanPhase (l : LaneSt) (n : Nat) : LaneSt :=
  if l.rd (COMM.CTRL.CLASS n) = 1 then ((l.setStep n 3).scanStart n true).scanJudge n else l.chargeStart n

/-- Steps 1 and 2: checks, then the wait for the contactor (R194). -/
def LaneSt.startChecks (l : LaneSt) (n : Nat) : LaneSt :=
  let l := ((l.setStep n 1).wr (COMM.START_ERR.CODE n) 0).sourcesStart n
  match [1, 2, 3, 4, 5, 6].find? (l.checkFails n) with
  | some code => l.startFail n code
  | none => if l.phaseIsoReady n then l.scanPhase n else l.setStep n 2

/-- A channel goes to STARTING; in HOLD the lane moves to RUN first (R442). -/
def LaneSt.startBegin (l : LaneSt) (n : Nat) : LaneSt :=
  let l : LaneSt := { l with flt := { l.flt with source := l.flt.source.setIfInBounds n none } }
  let l := (l.clearRun n).setCh n chStarting
  if l.rd PWR.STATUS.STATE = 2 then l.setComm n (fun c => { c with fromHold := true }) else l.startChecks n

/-- STARTUP_CONTACTOR_READY in step 2. -/
def LaneSt.contactorReady (l : LaneSt) (n : Nat) : LaneSt :=
  if l.chState n = chStarting ∧ (l.ch n).step = 2 ∧ l.phaseIsoReady n then l.scanPhase n else l

def execStartupContactorReady (l : LaneId) (ch : Fin 8) (s : State) : Host.Outcome State Fault Refusal :=
  onLane l (fun x => x.contactorReady ch.val) s

/-- SCAN_STEP: 250 µs of a scan; the last step ends the scan phase of a start-up or the DIAG. -/
def scanStepExec (k : LaneId) (n : Nat) (u v w : BitVec 72) (s : State) : State :=
  (s.setLane k (((s.lane k).scanStep n u v w).scanJudge n)).diagSettle n

def execScanStep (l : LaneId) (ch : Fin 8) (u v w : BitVec 72) (s : State) : Host.Outcome State Fault Refusal :=
  .next (scanStepExec l ch.val u v w s)

/-- BOOTSTRAP_CHARGE_DONE: step 4 ends; the acquisition follows where no port source is valid and ALIGN.EN = 1. -/
def LaneSt.chargeDone (l : LaneSt) (n : Nat) : LaneSt :=
  if l.chState n ≠ chStarting ∨ (l.ch n).step ≠ 4 then l
  else
    let l := if l.rd (COMM.STATUS.WSTATE n) = 5 then l.windingOff n else l
    let known : Bool := l.portValid n false || l.portValid n true
    l.setStep n (if !known && l.on (COMM.ALIGN.EN n) then 5 else 6)

def execBootstrapChargeDone (l : LaneId) (ch : Fin 8) (s : State) : Host.Outcome State Fault Refusal :=
  onLane l (fun x => x.chargeDone ch.val) s

/-- Every member has come this far in the start-up of channel `n`, or has completed it. -/
def State.allAt (s : State) (k : LaneId) (n : Nat) (p : CommCh → AngSt → Bool) : Bool :=
  (s.membersOf k).all (fun j =>
    let l := s.lane j
    l.chState n = chRun || l.chState n = chTune || (l.chState n = chStarting && p (l.ch n) (l.ang n)))

/-- ANGLE_ACQUISITION_START: the gates are due at the next valley, the d and q slots run on the forced angle. -/
def LaneSt.acquire (l : LaneSt) (n : Nat) : LaneSt :=
  let l := (l.setAng n (fun a => { a with acq := 2, forced := 0, at_ := l.run })).setGateCh n (fun g => { g with resume := true })
  l.judgeSlots

def execAngleAcquisitionStart (l : LaneId) (ch : Fin 8) (s : State) : Host.Outcome State Fault Refusal :=
  .next (
    let x := s.lane l
    if x.isMember ∧ x.chState ch.val = chStarting ∧ (x.ch ch.val).step = 5 ∧ (x.ang ch.val).acq = 0
        ∧ s.allAt l ch.val (fun c _ => 5 ≤ c.step)
    then s.setLane l (x.acquire ch.val) else s)

/-- ALIGN_HOLD_EXPIRED: ALIGN.T × 10 ms have passed. An alignment ends, its port in TRACK with RAW_ANGLE equal to ZERO_P;
an index search, or a port that is no longer in ACQUIRE, fails. -/
def LaneSt.alignEnd (l : LaneSt) (n : Nat) : LaneSt :=
  let p := l.rd (COMM.SRC.PORT_P n)
  if l.chState n ≠ chStarting ∨ (l.ang n).acq ≠ 2 then l
  else if l.on (FBK.CTRL.IDX_EN p) ∨ l.rd (FBK.STATUS.STATE p) ≠ portAcquire then (l.windingSafe n).startFail n 0xA
  else
    let ref := ((l.rd (FBK.ANGLE_CNT.VALUE p) : Int) - l.rd (COMM.ZERO_P.COUNT n)) % (l.cprCh n : Int)
    let l := ((l.wrI (FBK.INDEX_REF.VALUE p) ref).wr (FBK.STATUS.IDX_SEEN p) 1).setPort p (fun x => { x with seeded := true })
    (l.setPortState p portTrack).setAng n (fun a => { a with acq := 3 })

def execAlignHoldExpired (l : LaneId) (ch : Fin 8) (s : State) : Host.Outcome State Fault Refusal :=
  onLane l (fun x => x.alignEnd ch.val) s

/-- ALIGN_SEARCH_EXHAUSTED: θf has turned through POLES electrical turns without an index. -/
def LaneSt.searchFails (l : LaneSt) (n : Nat) : LaneSt :=
  if l.chState n ≠ chStarting ∨ (l.ang n).acq ≠ 2 ∨ !l.on (FBK.CTRL.IDX_EN (l.rd (COMM.SRC.PORT_P n))) then l
  else (l.windingSafe n).startFail n 0xA

def execAlignSearchExhausted (l : LaneId) (ch : Fin 8) (s : State) : Host.Outcome State Fault Refusal :=
  onLane l (fun x => x.searchFails ch.val) s

def execAcquisitionEnd (l : LaneId) (ch : Fin 8) (s : State) : Host.Outcome State Fault Refusal :=
  .next (
    let x := s.lane l
    if x.isMember ∧ x.chState ch.val = chStarting ∧ (x.ch ch.val).step = 5 ∧ (x.ang ch.val).acq = 3
        ∧ s.allAt l ch.val (fun c a => 6 ≤ c.step || a.acq = 3)
    then s.setLane l (x.setStep ch.val 6) else s)

/-- The channel's voted position (R74, R134), signed Q32.32: the rule of R70 on the members' FB_POS signals. Which value
of each member is voted is the model's choice, the spec names none: the count of the channel's primary position port (log
entry 21). The mean of two counts keeps its half. -/
def State.votedPos (s : State) (k : LaneId) (n : Nat) : Int :=
  votedValue ((s.membersOf k).map (fun j => (s.lane j).fbPosSignal ((s.lane j).rd (COMM.SRC.PORT_P n)) * 2 ^ 32))

/-- Step 6 in this lane: generators set, limits at their ceilings (R122, R134), slots run, gates due at the next
valley. -/
def LaneSt.startBoundary (l : LaneSt) (n : Nat) (pos : Int) : LaneSt :=
  let l := (l.setStep n 7).setAng n (fun a => { a with acq := 0 })
  let init (l : LaneSt) (g : Nat) : LaneSt := l.initGen g (if l.role g = 1 then pos else 0)
  let l := init (init l (2 * n)) (2 * n + 1)
  let l := (l.wr (COMM.TMAX_NOW.VALUE n) (l.rd (COMM.TORQUE_MAX.VALUE n))).setComm n (fun c => { c with speedLimit := 0 })
  ((l.showLimits n).setGateCh n (fun g => { g with resume := true })).judgeSlots

def execChannelStartupBoundary (l : LaneId) (ch : Fin 8) (s : State) : Host.Outcome State Fault Refusal :=
  .next (
    let x := s.lane l
    if x.isMember ∧ x.chState ch.val = chStarting ∧ (x.ch ch.val).step = 6 ∧ !s.faultDue l ch.val
        ∧ s.allAt l ch.val (fun c _ => 6 ≤ c.step)
    then s.setLane l (x.startBoundary ch.val (s.votedPos l ch.val)) else s)

/-- One more start-up of channel `n` in the telemetry counts (R426). -/
def LaneSt.countStart (l : LaneSt) (n : Nat) : LaneSt :=
  { l with mem := { l.mem with tel := { l.mem.tel with
      ch := l.mem.tel.ch.setIfInBounds n { l.mem.tel.ch.getD n .reset with starts := (l.mem.tel.ch.getD n .reset).starts + 1 } } } }

/-- The channel enters RUN or TUNE, its enables complete, homing starts (R32, R137, R194). -/
def LaneSt.startComplete (l : LaneSt) (n : Nat) : LaneSt :=
  let l := l.countStart n
  let c := l.ch n
  let l := l.endEnables n stOk (if c.deferred then 3 else 2)
  ((l.setStep n 0).setCh n (if c.wantTune then chTune else chRun)).homeStart (2 * n)

def execChannelStartupComplete (l : LaneId) (ch : Fin 8) (s : State) : Host.Outcome State Fault Refusal :=
  .next (
    let x := s.lane l
    if x.isMember ∧ x.chState ch.val = chStarting ∧ (x.ch ch.val).step = 7 ∧ !s.faultDue l ch.val
        ∧ s.allAt l ch.val (fun c _ => 7 ≤ c.step)
    then s.setLane l (x.startComplete ch.val) else s)

/-- START_TIMEOUT: START_ERR names the step that was running. -/
def LaneSt.startTimeout (l : LaneSt) (n : Nat) : LaneSt :=
  let k := (l.ch n).step
  if l.chState n ≠ chStarting ∨ (k = 0 ∧ !(l.ch n).fromHold) then l
  else (l.windingSafe n).startFail n (if k = 2 then 7 else if k = 5 then 0xA else 9)

def execStartTimeout (l : LaneId) (ch : Fin 8) (s : State) : Host.Outcome State Fault Refusal :=
  onLane l (fun x => x.startTimeout ch.val) s

/-! ## Shutdown (R196) -/

/-- A shutdown starts: both generators to rest or zero force under the stop limits, queues discarded (R134). -/
def LaneSt.shutdownStart (l : LaneSt) (n : Nat) : LaneSt :=
  let l := if l.chState n = chTune then l.tuneAbort n 0x77 0 else l
  let l := (l.clearRun n).discardBoth n
  let l := (l.stopGen (2 * n) l.replanNs 0).stopGen (2 * n + 1) l.replanNs 0
  (l.dropHold (2 * n)).setCh n chStopping

/-- The winding of this lane has taken its safe state, or the lane does not drive it. -/
def LaneSt.hasRested (l : LaneSt) (n : Nat) : Bool := (l.ch n).rested || !l.isMember || !l.isMotor n

/-- The shutdown is complete: DISABLED, the disables complete, a pending enable is applied (R32). -/
def LaneSt.shutdownEnd (l : LaneSt) (n : Nat) : LaneSt :=
  let l := ((((l.clearRun n).zeroTorque n).clearStop n).endDisables n).setCh n chDisabled
  if (l.ch n).enables.isEmpty then l else (l.setComm n (fun c => { c with deferred := true })).startBegin n

/-- CHANNEL_SHUTDOWN_COMPLETE: with both generators at rest the winding is due for its safe state at the next valley;
once every member's has taken it, the shutdown is complete. -/
def shutdownComplete (k : LaneId) (n : Nat) (s : State) : State :=
  let x := s.lane k
  if x.chState n ≠ chStopping ∨ s.faultDue k n ∨ !(x.genRests (2 * n) && x.genRests (2 * n + 1)) then s
  else if !x.hasRested n then s.setLane k (x.setGateCh n (fun g => { g with park := true }))
  else if (s.membersOf k).all (fun j => (s.lane j).chState n ≠ chStopping || (s.lane j).hasRested n)
    then s.setLane k (x.shutdownEnd n) else s

def execChannelShutdownComplete (l : LaneId) (ch : Fin 8) (s : State) : Host.Outcome State Fault Refusal :=
  .next (shutdownComplete l ch.val s)

/-- SHUTDOWN_OVERRUN: TMO.DIS has elapsed; the safe state is forced (R32, R193). -/
def LaneSt.shutdownOverrun (l : LaneSt) (n : Nat) : LaneSt :=
  if l.chState n ≠ chStopping then l else (l.cut n chDisabled false).fault 0x10D n

def execShutdownOverrun (l : LaneId) (ch : Fin 8) (s : State) : Host.Outcome State Fault Refusal :=
  onLane l (fun x => x.shutdownOverrun ch.val) s

/-! ## CHANNEL_MODE -/

/-- The channel-state checks of an enable (R115, R193, R335); `due`: a fault reaction comes first (R34). -/
def LaneSt.enableDenied (l : LaneSt) (n arg : Nat) (due : Bool) : Option (Nat × Nat) :=
  if l.chState n = chFaulted ∨ due then some (0x79, arg)
  else if (l.ch n).latch ≠ 0 then some (0x70, (l.ch n).latch)
  else ((List.range 16).find? (fun f =>
    let st := l.rd (SIO.SF_STATUS.STATE f)
    bit (l.rd (SIO.SF_CTRL.STOP_MAP f)) n && st ≠ 0 && st ≠ 3)).map (fun f => (0x56, f))

/-- CHANNEL_MODE with REQUEST ENABLE or TUNE in one lane; `arg` is the argument of FAULT_LATCHED. -/
def LaneSt.enable (l : LaneSt) (d : Decided) (n : Nat) (tune : Bool) (arg : Nat) (due : Bool) : LaneSt :=
  l.permitted d [l.permSetup, l.permMode, l.enableDenied n arg due] (fun l =>
    let st := l.chState n
    let join (l : LaneSt) : LaneSt := l.setComm n (fun c => { c with enables := c.enables ++ [d], wantTune := tune })
    if st = chDisabled then (join l).startBegin n
    else if st = chStarting then join l
    else if st = chStopping then
      if (l.ch n).byFault then l.complete d stAborted (outcomeDetail 5 0) 0 else join l
    else if st = chTune ∧ !tune then ((l.tuneAbort n 0x77 0).setCh n chRun).okOutcome d 0 0
    else if st = chRun ∧ tune then (l.setCh n chTune).okOutcome d 0 0
    else l.okOutcome d 0 0)

/-- CHANNEL_MODE with REQUEST DISABLE in one lane; `due`: a fault reaction comes first, and the disable finds the channel
stopped by it (R34). -/
def LaneSt.disable (l : LaneSt) (d : Decided) (n : Nat) (due : Bool) : LaneSt :=
  l.permitted d [l.permSetup] (fun l =>
    let st := l.chState n
    let own (l : LaneSt) : LaneSt := l.setComm n (fun c => { c with disable := some d })
    if due ∧ st ≠ chStopping then l.okOutcome d 0 0
    else if st = chStarting then (own (l.endEnables n stAborted 4)).shutdownStart n
    else if st = chRun ∨ st = chTune then (own l).shutdownStart n
    else if st = chLatched then
      if (l.ch n).latchCat = 2 then (own l).shutdownStart n else (l.setCh n chDisabled).okOutcome d 1 0
    else if st = chStopping then
      (l.endEnables n stAborted 4).setComm n (fun c => { c with disables := c.disables ++ [d] })
    else l.okOutcome d 0 0)

/-- A CHANNEL_MODE descriptor with a given REQUEST: 0 DISABLE, 1 ENABLE, 2 TUNE. -/
def DescOp.isMode (r : Nat) : DescOp → Bool
  | .channelMode _ request => request = r
  | _ => false

/-- Execute the next CHANNEL_MODE of a lane with a given REQUEST. -/
def modeExec (k : LaneId) (r : Nat) (s : State) : State :=
  s.setLane k ((s.lane k).withDesc (DescOp.isMode r) (fun d op l => match op with
    | .channelMode n _ => if r = 0 then l.disable d n (s.faultDue k n) else l.enable d n (r = 2) (s.faultArg k n) (s.faultDue k n)
    | _ => l))

def execChannelModeEnable (l : LaneId) (s : State) : Host.Outcome State Fault Refusal := .next (modeExec l 1 s)

def execChannelModeTune (l : LaneId) (s : State) : Host.Outcome State Fault Refusal := .next (modeExec l 2 s)

def execChannelModeDisable (l : LaneId) (s : State) : Host.Outcome State Fault Refusal := .next (modeExec l 0 s)

/-! ## Controlled stops of one channel (R114, R193) -/

/-- Causes that latch a channel after the stop (R115): NETWORKS, HOST_SILENT, POSITION, MASTER_STOP, FLEET_STOP. -/
def latches (cause : Nat) : Bool := cause = 4 || cause = 5 || cause = 6 || cause = 8 || cause = 9

/-- Channel `n` enters a controlled stop: a MOTION generator whose plan does not end at rest, or that is held in a
reversal, replans to standstill; FORCE ramps to STOP_FORCE; K4 and safety stops discard the queues. -/
def LaneSt.stopGens (l : LaneSt) (n cause : Nat) : LaneSt :=
  let l := if cause = 1 ∨ cause = 7 then l.discardBoth n else l
  let one (l : LaneSt) (g : Nat) : LaneSt :=
    let ends : Bool := ((planEnd (l.pg g).plan).elim 0 (·.v)) = 0
    if l.role g = 2 then l.stopGen g l.replanNs (l.rdI (COMM.STOP_FORCE.VALUE n) * 2 ^ 16)
    else if l.role g = 1 ∧ (!ends ∨ (l.pg g).hold.isSome) then l.stopGen g l.replanNs 0
    else l
  one (one l (2 * n)) (2 * n + 1)

/-- Entry of channel `n` into a controlled stop with a cause and a category. A stop that runs goes on, with the queues
discarded where the new cause discards them (R114); one of lower category takes its place (R313). -/
def LaneSt.stopEntry (l : LaneSt) (n cause cat : Nat) : LaneSt :=
  let st := l.chState n
  let mark (l : LaneSt) (cat : Nat) : LaneSt :=
    if latches cause then l.setComm n (fun c => { c with latch := if c.latch = 0 then cause else c.latch, latchCat := cat }) else l
  let runs : Option Nat := if !l.on (COMM.STATUS.STOPPING n) then none
    else if (l.ch n).latch ≠ 0 then some (l.ch n).latchCat
    else if l.on VOTE.STATUS.STOPPING ∧ (l.ch n).sfStop = 0 then some l.vote.stopCat else none
  if st = chStarting then (mark l 1).cut n (if latches cause then chLatched else chDisabled) false
  else if (st = chRun ∨ st = chTune) ∧ cat = 0 then
    (mark l 1).cut n (if latches cause then chLatched else chDisabled) true
  else if st = chRun ∨ st = chTune then
    if l.on (COMM.STATUS.STOPPING n) ∧ (latches cause → (l.ch n).latch ≠ 0) then
      let l := if cause = 1 ∨ cause = 7 then l.discardBoth n else l
      l.setComm n (fun c => { c with latchCat := min c.latchCat cat })
    else
      let l := if st = chTune then l.tuneAbort n 0x77 2 else l
      ((mark l (min cat (runs.getD cat))).wr (COMM.STATUS.STOPPING n) 1).stopGens n cause
  else l

/-- A channel in a controlled stop is at rest at the end of its plan. -/
def LaneSt.stopRests (l : LaneSt) (n : Nat) : Bool :=
  !l.on (COMM.STATUS.STOPPING n) || (l.genRests (2 * n) && l.genRests (2 * n + 1))

/-- The controlled stop of channel `n` ends: after a K6 stop STOP_LATCHED, holding position with power in category 2;
otherwise DISABLED in its safe state. -/
def LaneSt.stopEnd (l : LaneSt) (n : Nat) : LaneSt :=
  let st := l.chState n
  if !l.on (COMM.STATUS.STOPPING n) ∨ (st ≠ chRun ∧ st ≠ chTune) then l.wr (COMM.STATUS.STOPPING n) 0
  else
    let c := l.ch n
    if c.latch ≠ 0 ∧ c.latchCat = 2 ∧ c.sfStop = 0 then (l.clearStop n).setCh n chLatched
    else l.cut n (if c.latch ≠ 0 ∧ c.sfStop = 0 then chLatched else chDisabled) false

/-! ## SAFE_RESET with SCOPE CHANNEL (R115, R193, R220, R256) -/

/-- The cause of the channel's stop latch has cleared (R115). -/
def LaneSt.latchCleared (l : LaneSt) (n : Nat) : Bool :=
  let c := (l.ch n).latch
  if c = 6 then l.chState n = chDisabled else !bit l.vote.causes c

/-- The condition that raised an event still holds, where the lane can read it now (R481). -/
def LaneSt.eventHolds (l : LaneSt) (n code src : Nat) : Bool :=
  if code = 0x107 then
    let known (p : Nat) : Bool := decide (p < 24) && l.on (FBK.STATUS.ABS_KNOWN p)
    !(known (l.rd (COMM.SRC.PORT_P n)) || known (l.rd (COMM.SRC.PORT_S n)) || l.on (COMM.STATUS.OBS_LOCKED n))
  else if code = 0x108 then l.on (COMM.STATUS.KE_ABNORMAL n)
  else if code = 0x109 then l.on (COMM.STATUS.REVERSAL_PENDING n)
  else if code = 0x10A then decide (9 * l.speedLimitNow n < 8 * (l.chSpeed n).natAbs)
  else if code = 0x10B then
    let i (k : Nat) : Int := l.rdI (ADC.RESULT.VALUE (3 * n + k))
    decide (l.rd (COMM.AUX.ISUM_TOL n) * 65536 < 10 * (i 0 + i 1 + i 2).natAbs)
  else if code = 0x122 then l.on (PROF.STATUS.LIMP_HIT src) || l.on (PROF.STATUS.LIMN_HIT src)
  else if code = 0x124 ∨ code = 0x125 then l.on (PROF.STATUS.STEP_OVERRUN src)
  else if code / 32 = 10 ∧ src < 24 then l.on (FBK.STATUS.STALE src) || l.rd (FBK.STATUS.STATE src) = portBypassed
  else false

/-- The source of a FAULTED channel's fault is present in this lane (R481). -/
def LaneSt.sourcePresent (l : LaneSt) (n : Nat) : Bool :=
  l.on (GATE.BRIDGE.SHORT_LOCK n) || l.on GATE.OV_STATUS.OV4_LATCHED ||
    (match l.flt.source.getD n none with
      | none => false
      | some (code, src) =>
        if code = 0x10C then
          let e := l.rd (COMM.START_ERR.CODE n)
          e ≤ 7 && l.checkFails n e
        else l.eventHolds n code src)

/-- The channel is FAULTED by entry to SAFE, which only the restart of every lane ends (R102, R481). -/
def State.faultedBySafe (s : State) (k : LaneId) : Bool := (s.lane k).inSafe

/-- The argument of a FAULT_LATCHED denial of SAFE_RESET: 0xFF for a bridge with SHORT_LOCK (R256). -/
def State.resetArg (s : State) (k : LaneId) (n : Nat) : Nat :=
  if (s.membersOf k).any (fun j => (s.lane j).on (GATE.BRIDGE.SHORT_LOCK n)) then 0xFF else s.faultArg k n

/-- A QUAD port has met its condition for TRACK. -/
def LaneSt.trackMet (l : LaneSt) (p : Nat) : Bool :=
  if l.rd (FBK.CTRL.MODE p) = 1 ∧ l.on (FBK.CTRL.IDX_EN p) then l.on (FBK.STATUS.IDX_SEEN p) else (l.port p).seeded

/-- SAFE_RESET clears an UNCERTAIN port of a channel that is DISABLED or FAULTED (R220). -/
def LaneSt.clearPorts (l : LaneSt) (n : Nat) : LaneSt :=
  [l.rd (COMM.SRC.PORT_P n), l.rd (COMM.SRC.PORT_S n)].foldl (fun l p =>
    if 24 ≤ p ∨ l.rd (FBK.STATUS.STATE p) ≠ portUncertain then l
    else (l.wr (FBK.STATUS.LOST p) 0).setPortState p (if l.trackMet p then portTrack else portAcquire)) l

/-- The bridge's short-side latch cleared, its switches off (R256): the events of its legs are forgotten, and the gate of a
switch that stuck reads as it is driven. -/
def LaneSt.clearBridge (l : LaneSt) (n : Nat) : LaneSt :=
  let flags := [GATE.STATUS.SIDE, GATE.STATUS.DESAT_H, GATE.STATUS.DESAT_L, GATE.STATUS.COARSE_H, GATE.STATUS.COARSE_L,
    GATE.STATUS.ILK_H, GATE.STATUS.ILK_L, GATE.STATUS.OFF_H, GATE.STATUS.OFF_L, GATE.STATUS.BS_UV]
  let l := (List.range 3).foldl (fun l i => flags.foldl (fun l f => l.wr (f (3 * n + i)) 0) l) l
  let l := (l.wr (GATE.BRIDGE.SIDE n) 0).setGateCh n (fun g => { g with naming := 0 })
  let l := if l.isMotor n then l.windingOff n else l
  if l.isMotor n then (List.range 6).foldl (fun l i => l.wr (gsF (6 * n + i)) 0) l else l

/-- SAFE_RESET of a channel in one lane. -/
def State.channelReset (s : State) (k : LaneId) (n : Nat) (d : Decided) (l : LaneSt) : LaneSt :=
  let st := l.chState n
  let clear (l : LaneSt) : LaneSt := l.setComm n (fun c => { c with latch := 0, latchCat := 1 })
  if st = chFaulted then
    if s.faultedBySafe k ∨ (s.membersOf k).any (fun j => (s.lane j).sourcePresent n)
    then l.deny d 0x79 (s.resetArg k n)
    else
      let l := (((l.clearBridge n).clearPorts n).setCh n chDisabled)
      ({ l with flt := { l.flt with source := l.flt.source.setIfInBounds n none } } : LaneSt).complete d stOk 0 0
  else if (l.ch n).latch ≠ 0 ∧ !l.latchCleared n then l.deny d 0x70 (l.ch n).latch
  else if st = chLatched then
    let run := (l.ch n).latchCat = 2
    ((clear l).setCh n (if run then chRun else chDisabled)).complete d stOk 0 0
  else
    let l := if (l.ch n).latch ≠ 0 then clear l else l
    let l := if st = chDisabled then l.clearPorts n else l
    l.complete d stOk 0 0

/-- A SAFE_RESET descriptor with a given SCOPE. -/
def DescOp.isReset (scope : Nat) : DescOp → Bool
  | .safeReset sc _ _ => sc = scope
  | _ => false

def execSafeResetChannel (l : LaneId) (s : State) : Host.Outcome State Fault Refusal :=
  onLane l (fun x => x.withDesc (DescOp.isReset 0) (fun d op y => match op with
    | .safeReset _ n _ => s.channelReset l n d y
    | _ => y)) s

/-! ## Speed and reversal -/

/-- REVERSAL_RELEASE: at a voting boundary with the measured speed at or below the threshold (R181). -/
def execReversalRelease (l : LaneId) (ch : Fin 8) (s : State) : Host.Outcome State Fault Refusal :=
  onLane l (fun x => x.releaseHold ch.val) s

/-- REVERSAL_STALL: the hold lasts longer than TMO.REV, and continues (R182). -/
def LaneSt.reversalStall (l : LaneSt) (n : Nat) : LaneSt :=
  match (l.pg (2 * n)).hold with
  | some t => if l.time.now ≤ t + 10 ^ 7 * l.rd (COMM.TMO.REV n) * 2 ^ 32 then l else l.fault 0x109 n
  | none => l

def execReversalStall (l : LaneId) (ch : Fin 8) (s : State) : Host.Outcome State Fault Refusal :=
  onLane l (fun x => x.reversalStall ch.val) s

/-- OVERSPEED: the measured speed has been above 1.125 times the limit for 10 ms (R178). -/
def LaneSt.overspeed (l : LaneSt) (n : Nat) : LaneSt :=
  if 9 * l.speedLimitNow n < 8 * (l.chSpeed n).natAbs then l.fault 0x10A n else l

def execOverspeed (l : LaneId) (ch : Fin 8) (s : State) : Host.Outcome State Fault Refusal :=
  onLane l (fun x => x.overspeed ch.val) s

end Sys2Proof.Machine
end

