-- ==== Sys2Proof/Machine/Sio.lean ====
section
/-!
DEFINITION. Machine safety inputs and outputs: inputs and test pulses, the exchange between lanes, safety functions and
their stops, output tests and EDM (chapter 13).
-/

namespace Sys2Proof.Machine

open Sys2Proof

/-! ## Inputs of a function (R329) -/

/-- STATE of a safety function (R347). -/
def sfOff : Nat := 0
def sfDemand : Nat := 1
def sfReady : Nat := 2
def sfPermit : Nat := 3
def sfFault : Nat := 4

/-- STATE of function `f`. -/
def LaneSt.sf (l : LaneSt) (f : Nat) : Nat := l.rd (SIO.SF_STATUS.STATE f)

/-- TYPE of function `f`: 0 OFF, 1 ESTOP, 2 GUARD, 3 TWO_HAND, 4 OSSD. -/
def LaneSt.sfType (l : LaneSt) (f : Nat) : Nat := l.rd (SIO.SF_CTRL.TYPE f)

/-- The inputs that the TYPE of function `f` uses, as a mask of IN0 to IN3. -/
def LaneSt.sfUsed (l : LaneSt) (f : Nat) : Nat :=
  match l.sfType f with
  | 1 => 3
  | 2 => if l.on (SIO.SF_CTRL.LOCK f) then 15 else 3
  | 3 => 15
  | 4 => 3
  | _ => 0

/-- INm of function `f`: lane number (3 unused) and SI number. -/
def LaneSt.sfIn (l : LaneSt) (f m : Nat) : Nat × Nat :=
  let w := l.rd ⟨0x28104 + 32 * f, 8 * m, 8⟩
  (w % 4, w / 4 % 32)

/-- The latest SAFETY_XCHG record of lane number `k`. -/
def LaneSt.xchg (l : LaneSt) (k : Nat) : Nat × Nat := (l.sio.recs.getD k none).getD (0, 0)

/-- The evaluated level of an input of a lane, as this lane knows it. -/
def LaneSt.siLevel (l : LaneSt) (x : Nat × Nat) : Bool :=
  if x.1 = l.id.num then bit (l.rd SIO.SI_LEVEL.LEVEL) x.2 else bit (l.xchg x.1).1 x.2

/-- An input of a lane is active. -/
def LaneSt.siActive (l : LaneSt) (x : Nat × Nat) : Bool := l.siLevel x != l.on (SIO.SI_CFG.INV x.2)

/-- An input of a lane is latched faulty. -/
def LaneSt.siLatched (l : LaneSt) (x : Nat × Nat) : Bool :=
  if x.1 = l.id.num then bit (l.rd SIO.SI_FAULT.FAULT) x.2 else bit (l.sio.peerFault.getD x.1 0) x.2

/-- An input of a lane is lost with its lane (R328). -/
def LaneSt.siLost (l : LaneSt) (x : Nat × Nat) : Bool := x.1 ≠ l.id.num && l.sio.lost.getD x.1 true

/-- A used input m of function `f` passes a test. -/
def LaneSt.sfMask (l : LaneSt) (f : Nat) (p : Nat × Nat → Bool) : Nat :=
  maskOf 4 (fun m => bit (l.sfUsed f) m && p (l.sfIn f m))

/-- Active, latched and faulty inputs of function `f`. -/
def LaneSt.sfActive (l : LaneSt) (f : Nat) : Nat := l.sfMask f l.siActive
def LaneSt.sfLatched (l : LaneSt) (f : Nat) : Nat := l.sfMask f l.siLatched
def LaneSt.sfFaulty (l : LaneSt) (f : Nat) : Nat := l.sfMask f (fun x => l.siLatched x || l.siLost x)

/-- The inputs of function `f` that are not released for READY. -/
def LaneSt.sfUnreleased (l : LaneSt) (f : Nat) : Nat :=
  if l.sfType f = 3 then l.sfActive f else l.sfUsed f - l.sfActive f

/-- The inputs of function `f` in demand: not faulty and not active; a TWO_HAND demands only in PERMIT. -/
def LaneSt.sfDemands (l : LaneSt) (f : Nat) : Nat :=
  if l.sfType f = 3 ∧ l.sf f ≠ sfPermit then 0
  else l.sfMask f (fun x => !l.siLatched x && !l.siLost x && !l.siActive x)

/-- Both channels of a pair are faulty (R331). -/
def bothFaulty (m : Nat) : Bool := (bit m 0 && bit m 1) || (bit m 2 && bit m 3)

/-- The FUNCTION outputs of function `f`. -/
def LaneSt.sfOutputs (l : LaneSt) (f : Nat) : List Nat :=
  (List.range 8).filter (fun k => l.rd (SIO.SO_CFG.ROLE k) = 1 && l.rd (SIO.SO_CFG.TARGET k) % 16 = f)

/-- A FUNCTION output of `f` is latched faulty in some lane that has it (R332). -/
def LaneSt.sfOutFault (l : LaneSt) (f : Nat) : Bool :=
  (l.sfOutputs f).any (fun k => LaneId.all.any (fun j => bit (l.rd (SIO.SO_CFG.LANES k)) j.num &&
    bit (if j = l.id then l.rd SIO.SO_STATUS.FAULT else l.sio.peerOut.getD j.num 0) k))

/-! ## The SAFETY_XCHG record (R327) -/

/-- The inputs of function `f` do not allow PERMIT, as this lane evaluates them. -/
def LaneSt.sfBlocks (l : LaneSt) (f : Nat) : Bool :=
  if l.sfType f = 3 then !((l.sf f = sfReady || l.sf f = sfPermit) && l.sfActive f = 15) else l.sfUnreleased f != 0

/-- The content of this lane's record. -/
def LaneSt.xchgNow (l : LaneSt) : Nat × Nat :=
  (l.rd SIO.SI_LEVEL.LEVEL + 2 ^ 20 * l.rd SIO.SI_FAULT.FAULT + 2 ^ 40 * l.rd SIO.TP_STATUS.FAULT
      + 2 ^ 44 * l.rd SIO.SO_STATUS.ON + 2 ^ 52 * l.rd SIO.SO_STATUS.EDM,
   maskOf 16 (fun f => l.sfType f != 0 && l.sfBlocks f) + 2 ^ 16 * maskOf 16 (fun f => l.sf f = sfFault)
      + 2 ^ 32 * l.rd SIO.SO_STATUS.FAULT + 2 ^ 40 * l.rd SIO.SO_STATUS.EDM_FAULT + 2 ^ 48 * l.sio.resets)

/-- Send the record to both peers. -/
def LaneSt.xchgSend (l : LaneSt) : LaneSt :=
  let w := l.xchgNow
  let q := if w = l.sio.sent then l.sio.seq else (l.sio.seq + 1) % 256
  (l.setSio (fun x => { x with sent := w, seq := q })).send 0x10 q [w.1, w.2]

/-- Send the record where its content has changed. -/
def LaneSt.xchgChanged (l : LaneSt) : LaneSt := if l.on SIO.CTRL.EN ∧ l.xchgNow ≠ l.sio.sent then l.xchgSend else l

/-! ## Function states (R331) -/

/-- SF_SUMMARY shows the states. -/
def LaneSt.sfSummary (l : LaneSt) : LaneSt :=
  (l.wr SIO.SF_SUMMARY.PERMIT (maskOf 16 (fun f => l.sf f = sfPermit))).wr SIO.SF_SUMMARY.FAULT
    (maskOf 16 (fun f => l.sf f = sfFault))

/-- Put function `f` in a state (source 0 of group 4). -/
def LaneSt.setSf (l : LaneSt) (f st : Nat) : LaneSt :=
  if l.sf f = st then l else (((l.wr (SIO.SF_STATUS.STATE f) st).raise 4 0).sfSummary).judgeOutputs

/-- Show a cause and its input. -/
def LaneSt.sfCause (l : LaneSt) (f cause m : Nat) : LaneSt :=
  (l.wr (SIO.SF_STATUS.CAUSE f) cause).wr (SIO.SF_STATUS.CAUSE_IN f) m

/-- The waiting SAFE_RESETs of function `f` are denied. -/
def LaneSt.denyGrant (l : LaneSt) (f code arg : Nat) : LaneSt :=
  ((l.sio.grant.getD f []).foldl (fun l d => l.deny d code arg) l).setSio
    (fun x => { x with grant := x.grant.setIfInBounds f [] })

/-- The cause of input m of function `f` being faulty. A peer's record names no cause: TP_FAULT when it reports the
source faulty, DISCREPANCY when the pair differs, else CROSS_SHORT (log entry 13). -/
def LaneSt.faultCause (l : LaneSt) (f m : Nat) : Nat :=
  let x := l.sfIn f m
  if !l.siLatched x then 8
  else if x.1 = l.id.num then l.sio.siCause.getD x.2 5
  else
    let tp := l.rd (SIO.SI_CFG.TP x.2)
    if tp ≠ 0 ∧ bit ((l.xchg x.1).1 / 2 ^ 40 % 16) (tp - 1) then 7
    else if bit (l.sfActive f) m ≠ bit (l.sfActive f) (m ^^^ 1) then 6
    else 5

/-- The lowest bit of a mask of inputs, 0xF where none is set. -/
def lowIn (m : Nat) : Nat := ((List.range 4).find? (bit m)).getD 15

/-- The stop of function `f` ends in this lane: its outputs and its channels (R334). -/
def LaneSt.sfStopEnd (l : LaneSt) (f : Nat) : LaneSt :=
  let l := l.wr (SIO.SF_STATUS.STOPPING f) 0
  let l := (List.range 8).foldl (fun l n =>
    if bit (l.ch n).sfStop f then l.stopEnd n else l) l
  (l.judgeOutputs).raise 2 4

/-- The stop of function `f` begins (R334): category 0 cuts its channels at once; category 1 runs the controlled
stop. STOP_CAUSE becomes SAFETY_FUNCTION, but not under a stop of the machine that runs, nor in SAFE (DESIGN CHOICE, log
entry 13). -/
def LaneSt.sfStop (l : LaneSt) (f : Nat) : LaneSt :=
  let map := l.rd (SIO.SF_CTRL.STOP_MAP f)
  let cat1 := l.rd (SIO.SF_CTRL.STOP_CAT f) = 1
  let l := (List.range 8).foldl (fun l n =>
    let st := l.chState n
    if !bit map n then l
    else if cat1 ∧ (st = chRun ∨ st = chTune) then
      (l.stopEntry n 7 1).setComm n (fun c => { c with sfStop := setBit c.sfStop f true })
    else if st = chStarting ∨ st = chRun ∨ st = chTune ∨ (st = chStopping ∧ !cat1) ∨ (st = chLatched ∧ (l.ch n).latchCat = 2)
      then l.cut n chDisabled (!cat1)
    else if !cat1 then l.windingK5 n else l) l
  let runs := (List.range 8).any (fun n => bit (l.ch n).sfStop f)
  let l := if runs then ((l.wr (SIO.SF_STATUS.STOPPING f) 1).judgeOutputs).raise 2 4 else l
  if map = 0 ∨ l.on VOTE.STATUS.STOPPING ∨ l.inSafe then l else { l with vote := { l.vote with stopCause := 7 } }

/-- Function `f` demands, from READY or PERMIT. -/
def LaneSt.sfToDemand (l : LaneSt) (f cause m : Nat) : LaneSt :=
  let was := l.sf f
  let l := (l.sfCause f cause m).denyGrant f 0x58 (l.sfUnreleased f)
  let l := l.setSf f sfDemand
  if was ≠ sfPermit then l
  else
    let l := (l.wr (SIO.SF_STAMP.NS f) (stampNs l.t32 l.ns)).wr (SIO.SF_STAMP.S f) (stampS l.t32 l.ns)
    let l := (l.wrB (SIO.SF_STAMP.T32 f) l.t32).satInc 13 (SIO.SF_COUNTS.DEMANDS f)
    (((l.sfStop f).judgeOutputs).raise 4 1).fault 0x1A8 f

/-- Function `f` passes to FAULT (K7): its outputs open at once in either category. -/
def LaneSt.sfToFault (l : LaneSt) (f m : Nat) : LaneSt :=
  let l := (l.sfCause f (l.faultCause f m) m).denyGrant f 0x57 (l.sfFaulty f)
  let l := (((l.setSf f sfFault).satInc 13 (SIO.SF_COUNTS.FAULTS f)).sfStop f).judgeOutputs
  (l.raise 4 2).fault 0x1A7 f

/-- The cause of a demand on input m. -/
def LaneSt.demandCause (l : LaneSt) (f m : Nat) : Nat :=
  if l.sfType f = 3 then 3 else if l.sfType f = 2 ∧ 2 ≤ m then 2 else 1

/-- Evaluate function `f` (R329 to R332). -/
def LaneSt.evalSf (l : LaneSt) (f : Nat) : LaneSt :=
  if l.sf f = sfOff then l
  else
    let bad := l.sfFaulty f
    let old := l.rd (SIO.SF_STATUS.CH_FAULT f)
    let new := bad - (bad &&& old)
    let l := if new ≠ 0 ∧ l.sf f ≠ sfFault then l.sfCause f (l.faultCause f (lowIn new)) (lowIn new) else l
    let out := l.sfOutFault f
    let l := if out ∧ !l.on (SIO.SF_STATUS.OUT_FAULT f) then (l.wr (SIO.SF_STATUS.OUT_FAULT f) 1).sfCause f 9 15 else l
    let l := l.wr (SIO.SF_STATUS.CH_FAULT f) bad
    let l := if l.sfLatched f ≠ 0 ∨ out then l.wr (SIO.SF_STATUS.RESTART_REFUSED f) 1 else l
    if l.sf f = sfFault then l
    else if bothFaulty bad then l.sfToFault f (lowIn bad)
    else
      let dem := l.sfDemands f
      if (l.sf f = sfReady ∨ l.sf f = sfPermit) ∧ dem ≠ 0 then l.sfToDemand f (l.demandCause f (lowIn dem)) (lowIn dem)
      else if l.sf f = sfDemand ∧ l.sfUnreleased f = 0 ∧ bad = 0 ∧ !l.on (SIO.SF_STATUS.RESTART_REFUSED f)
          ∧ !l.on (SIO.SF_STATUS.OUT_FAULT f)
        then l.setSf f sfReady
      else l

/-- Evaluate every function, and send the record where it has changed. -/
def LaneSt.evalSafety (l : LaneSt) : LaneSt := ((List.range 16).foldl LaneSt.evalSf l).xchgChanged

/-! ## Inputs and test pulses (R323 to R326) -/

/-- An input of this lane is latched faulty with a cause: 5 CROSS_SHORT, 6 DISCREPANCY, 7 TP_FAULT. -/
def LaneSt.siFail (l : LaneSt) (i cause : Nat) : LaneSt :=
  if bit (l.rd SIO.SI_FAULT.FAULT) i then l
  else
    (l.wr SIO.SI_FAULT.FAULT (setBit (l.rd SIO.SI_FAULT.FAULT) i true)).setSio
      (fun x => { x with siCause := x.siCause.setIfInBounds i cause })

/-- CROSS_SHORT of an input. -/
def LaneSt.crossShort (l : LaneSt) (i : Nat) : LaneSt := ((l.siFail i 5).raise 4 5).fault 0x1A2 i

/-- Input i is fed by source t of this lane. -/
def LaneSt.fedBy (l : LaneSt) (i t : Nat) : Bool := l.rd (SIO.SI_CFG.TP i) = t + 1

/-- The evaluated level of input i takes its filtered level. -/
def LaneSt.siTake (l : LaneSt) (i : Nat) : LaneSt :=
  l.wr SIO.SI_LEVEL.LEVEL (setBit (l.rd SIO.SI_LEVEL.LEVEL) i (bit l.sio.filt i))

/-- The inputs are sampled: not while a full proof has the FBK island, nor after a fatal fault (R323; log entry 57). -/
def LaneSt.sampling (l : LaneSt) : Bool :=
  l.on SIO.CTRL.EN && !l.on FLT.STATUS.FATAL && !l.on BIST.STATUS.FULL_RUNNING

/-- Test-pulse source t supplies its contacts: enabled, and not in the first half of its window (R324). -/
def LaneSt.tpOn (l : LaneSt) (t : Nat) : Bool :=
  l.on SIO.CTRL.EN && bit (l.rd SIO.TP_CFG.EN) t && !(decide (l.sio.win = some (l.id, t)) && !l.sio.winHalf)

/-- SI_LEVEL_CHANGE: the raw level of an input has held a new value for `held` samples of 10 ns. The filtered level takes it
once it has lasted FILT, and for an OSSD input a low also OSSD_FILT (R323, R326). The stamp is that of the first sample at the
new level. In its own source's window the evaluated level stays and the sample waits in its mailbox (R18, R325). -/
def LaneSt.siChange (l : LaneSt) (i : Nat) (level : Bool) (held : Nat) : LaneSt :=
  let need := 1000 * (l.rd (SIO.SI_CFG.FILT i) + (if level then 0 else l.rd (SIO.SI_CFG.OSSD_FILT i)))
  if !l.sampling ∨ bit l.sio.filt i = level ∨ held < need then l
  else
    let t := l.ns - l.ns % 10 - held * 10
    let l := ((l.wr (SIO.SI_STAMP.NS i) (stampNs l.t32 t)).wr (SIO.SI_STAMP.S i) (stampS l.t32 t)).wrB (SIO.SI_STAMP.T32 i) l.t32
    let mine : Bool := match l.sio.win with
      | some (k, t) => k = l.id && l.fedBy i t
      | none => false
    let tested : Bool := l.sio.win.isSome && !mine && l.rd (SIO.SI_CFG.TP i) != 0
    let l := (l.mailSi i Mailbox.put).setSio (fun x => { x with
      filt := setBit x.filt i level, fell := if tested && !level then setBit x.fell i true else x.fell })
    if mine then l else ((l.mailSi i Mailbox.take).siTake i).evalSafety

def execSiLevelChange (l : LaneId) (i : Fin 20) (change : RawLevel) (s : State) : Host.Outcome State Fault Refusal :=
  onLane l (fun x => x.siChange i.val change.level change.held) s

/-- Lane time since the start of the present period of source t of this lane, in ns: its window is the first WIDTH of it.
None before its first window (R324). -/
def LaneSt.tpPlace (l : LaneSt) (t : Nat) : Option Nat :=
  let period := 10 ^ 6 * l.rd SIO.TP_CFG.PERIOD
  let start := (4 * l.id.num + t) * period / 12
  if l.ns < start then none else some ((l.ns - start) % period)

/-- WIDTH in ns. -/
def LaneSt.tpWidth (l : LaneSt) : Nat := 10000 * l.rd SIO.TP_CFG.WIDTH

/-- The window of source t is in its first half, the source off; in its second half, the source on (R324). -/
def LaneSt.tpFirst (l : LaneSt) (t : Nat) : Bool := (l.tpPlace t).any (fun x => decide (2 * x < l.tpWidth))
def LaneSt.tpSecond (l : LaneSt) (t : Nat) : Bool :=
  (l.tpPlace t).any (fun x => decide (l.tpWidth ≤ 2 * x) && decide (x < l.tpWidth))

/-- TP_WINDOW_START: a window of source t of a lane begins; every lane knows it from lane time (R324, R325). -/
def tpStart (k : LaneId) (t : Nat) (s : State) : State :=
  let x := s.lane k
  if !x.on SIO.CTRL.EN ∨ !bit (x.rd SIO.TP_CFG.EN) t ∨ !x.tpFirst t then s
  else
    let s := s.setLane k (x.wr SIO.TP_STATUS.ACTIVE (setBit (x.rd SIO.TP_STATUS.ACTIVE) t true))
    LaneId.all.foldl (fun s j => s.setLane j ((s.lane j).setSio (fun y => { y with win := some (k, t), winHalf := false, fell := 0 }))) s

def execTpWindowStart (l : LaneId) (t : Fin 4) (s : State) : Host.Outcome State Fault Refusal := .next (tpStart l t.val s)

/-- TP_WINDOW_MIDPOINT: an input of the source whose filtered level is high is shorted, and the source is on again (R324,
R325). -/
def LaneSt.tpMid (l : LaneSt) (t : Nat) : LaneSt :=
  if l.sio.win ≠ some (l.id, t) ∨ !l.tpSecond t then l
  else
    let l := l.setSio (fun x => { x with winHalf := true })
    ((List.range 20).foldl (fun l i => if l.fedBy i t && bit l.sio.filt i then l.crossShort i else l) l).evalSafety

def execTpWindowMidpoint (l : LaneId) (t : Fin 4) (s : State) : Host.Outcome State Fault Refusal :=
  onLane l (fun x => x.tpMid t.val) s

/-- The window of source t of lane k ends, in this lane: its own inputs are evaluated as usual again; a tested input of
another source that fell and is high again is shorted to that source's line. -/
def LaneSt.tpEnd (l : LaneSt) (k : LaneId) (t : Nat) : LaneSt :=
  if l.sio.win ≠ some (k, t) then l
  else
    let l := if k = l.id then l.wr SIO.TP_STATUS.ACTIVE (setBit (l.rd SIO.TP_STATUS.ACTIVE) t false) else l
    let fell := l.sio.fell
    let l := l.setSio (fun x => { x with win := none, winHalf := false, fell := 0 })
    ((List.range 20).foldl (fun l i =>
      if k = l.id ∧ l.fedBy i t then l.siTake i
      else if bit fell i && bit l.sio.filt i then l.crossShort i else l) l).evalSafety

def execTpWindowEnd (l : LaneId) (t : Fin 4) (s : State) : Host.Outcome State Fault Refusal :=
  .next (if (s.lane l).tpFirst t.val ∨ (s.lane l).tpSecond t.val then s
    else LaneId.all.foldl (fun s j => s.setLane j ((s.lane j).tpEnd l t.val)) s)

/-- TP_FAULT: the readback of a source disagrees with its command for 20 µs, outside the first half of its window. -/
def LaneSt.tpFault (l : LaneSt) (t : Nat) : LaneSt :=
  if !l.tpOn t ∨ bit (l.rd SIO.TP_STATUS.FAULT) t then l
  else
    let l := l.wr SIO.TP_STATUS.FAULT (setBit (l.rd SIO.TP_STATUS.FAULT) t true)
    let l := (List.range 20).foldl (fun l i => if l.fedBy i t then l.siFail i 7 else l) l
    ((l.raise 4 6).fault 0x1A4 t).evalSafety

def execTpFault (l : LaneId) (t : Fin 4) (s : State) : Host.Outcome State Fault Refusal := onLane l (fun x => x.tpFault t.val) s

/-! ## Exchange (R327, R328, R333) -/

/-- SAFETY_XCHG_RECEIVE: levels and demand from every record; fault bits only from one sent after the sender's own
execution of the last reset. -/
def LaneSt.xchgReceive (l : LaneSt) (p : LaneId) (w : List Dword) : LaneSt :=
  let a := (w.getD 0 0).toNat
  let b := (w.getD 1 0).toNat
  let fresh := b / 2 ^ 48 % 256 = l.sio.resets
  let k := p.num
  (l.setSio (fun x => { x with
    recs := x.recs.setIfInBounds k (some (a, b)), lost := x.lost.setIfInBounds k false,
    peerFault := if fresh then x.peerFault.setIfInBounds k (x.peerFault.getD k 0 ||| (a / 2 ^ 20 % 2 ^ 20)) else x.peerFault,
    peerOut := if fresh then x.peerOut.setIfInBounds k (x.peerOut.getD k 0 ||| (b / 2 ^ 32 % 256)) else x.peerOut })).evalSafety

def execSafetyXchgReceive (l : LaneId) (src : Arrival) (words : List Dword) (s : State) : Host.Outcome State Fault Refusal :=
  onReceive l src (fun x => x.xchgReceive src.lane words) s

/-- SAFETY_INPUTS_LOST: no record from a peer for 2 × T_v, or its ALIVE has stopped. -/
def LaneSt.inputsLost (l : LaneSt) (p : LaneId) : LaneSt :=
  (l.setSio (fun x => { x with lost := x.lost.setIfInBounds p.num true })).evalSafety

def execSafetyInputsLost (l peer : LaneId) (s : State) : Host.Outcome State Fault Refusal :=
  onLane l (fun x => if peer = l then x else x.inputsLost peer) s

/-! ## Discrepancy and two hands (R330) -/

/-- DISCREPANCY of a pair of function `f`: the command comes in the lane that owns the channel which has not followed.
Which of the two that is the lane tells by the stamps it holds; the channel of this lane is taken (log entry 13). -/
def LaneSt.discrepancy (l : LaneSt) (f pair : Nat) : LaneSt :=
  let act := l.sfActive f
  let used := l.sfUsed f
  if l.sf f = sfOff ∨ !bit used (2 * pair) ∨ bit act (2 * pair) = bit act (2 * pair + 1) then l
  else
    match [2 * pair, 2 * pair + 1].find? (fun m => (l.sfIn f m).1 = l.id.num) with
    | none => l
    | some m =>
      let i := (l.sfIn f m).2
      if bit (l.rd SIO.SI_FAULT.FAULT) i then l
      else (((l.siFail i 6).raise 4 5).fault 0x1A3 i).evalSafety

def execDiscrepancy (l : LaneId) (f : Fin 16) (pair : Fin 2) (s : State) : Host.Outcome State Fault Refusal :=
  onLane l (fun x => x.discrepancy f.val pair.val) s

/-- SYNC_EXCEEDED: one hand has been active for SYNC and the other is not. -/
def LaneSt.syncExceeded (l : LaneSt) (f : Nat) : LaneSt :=
  let a := l.sfActive f
  let hand (m : Nat) : Bool := bit a m && bit a (m + 1)
  if l.sfType f ≠ 3 ∨ l.sf f ≠ sfReady ∨ hand 0 = hand 2 then l
  else ((l.sfToDemand f 4 (if hand 0 then 2 else 0)).fault 0x1A9 f).xchgChanged

def execSyncExceeded (l : LaneId) (f : Fin 16) (s : State) : Host.Outcome State Fault Refusal :=
  onLane l (fun x => x.syncExceeded f.val) s

/-! ## Permits (R331) -/

/-- Every member reports function `f` out of demand. -/
def LaneSt.sfAgreed (l : LaneSt) (f : Nat) : Bool :=
  !l.sfBlocks f && l.memberPeers.all (fun p => (l.sio.recs.getD p.num none).isSome && !bit (l.xchg p.num).2 f)

/-- What grants the permit of a READY function: AUTO restart, a waiting SAFE_RESET, both hands. -/
def LaneSt.sfAsked (l : LaneSt) (f : Nat) : Bool :=
  if l.sfType f = 3 then l.sfActive f = 15
  else if l.sfType f ≠ 1 ∧ l.rd (SIO.SF_CTRL.RESTART f) = 1 then true
  else !(l.sio.grant.getD f []).isEmpty

/-- SF_PERMIT_GRANT at a voting boundary. -/
def LaneSt.permit (l : LaneSt) (f : Nat) : LaneSt :=
  if !l.isMember ∨ l.sf f ≠ sfReady ∨ l.on (SIO.SF_STATUS.RESTART_REFUSED f) ∨ !l.sfAgreed f ∨ !l.sfAsked f then l
  else
    let l := l.setSf f sfPermit
    let l := (l.sio.grant.getD f []).foldl (fun l d => l.complete d stOk 0 0) l
    (l.setSio (fun x => { x with grant := x.grant.setIfInBounds f [] })).xchgChanged

def execSfPermitGrant (l : LaneId) (f : Fin 16) (s : State) : Host.Outcome State Fault Refusal :=
  onLane l (fun x => x.permit f.val) s

/-! ## Outputs (R338 to R341) -/

/-- The EDM level expected of output k in its commanded state (EDM_POL 0: high while open). -/
def LaneSt.edmExpected (l : LaneSt) (k : Nat) : Bool :=
  bit (l.rd SIO.SO_STATUS.ON) k == (l.rd (SIO.SO_CFG.EDM_POL k) = 1)

/-- Output k is latched faulty with an event: off, DEGRADE SOUT for FUNCTION and PARK_BRAKE, exclusion request for
PHASE_ISO and DCLINK (R341). -/
def LaneSt.soLatch (l : LaneSt) (k code : Nat) : LaneSt :=
  let l := (l.soOff k).wr SIO.SO_STATUS.FAULT (setBit (l.rd SIO.SO_STATUS.FAULT) k true)
  let role := l.rd (SIO.SO_CFG.ROLE k)
  let l := if role = 1 ∨ role = 4 then l.setDegrade 4 true else l
  let l := (l.raise 4 3).fault code k
  let l := if role = 2 ∨ role = 3 then l.exclude causeSelfRequest else l
  l.evalSafety

/-- EDM_CONFIRM: EDM has reached the level expected of the commanded state; a shutdown ends, and an output asked to
energize meanwhile does so (R340). -/
def LaneSt.edmConfirm (l : LaneSt) (k : Nat) : LaneSt :=
  let l := l.wr SIO.SO_STATUS.EDM (setBit (l.rd SIO.SO_STATUS.EDM) k (l.edmExpected k))
  ((l.setSio (fun x => { x with conf := setBit x.conf k true, shut := setBit x.shut k false })).judgeOutput k).xchgChanged

def execEdmConfirm (l : LaneId) (k : Fin 8) (s : State) : Host.Outcome State Fault Refusal :=
  onLane l (fun x => if x.on SIO.CTRL.EN then x.edmConfirm k.val else x) s

/-- EDM_FAULT: EDM is not in the expected state within EDM_TIME; the output's shutdown, if one ran, ends as overrun. -/
def LaneSt.edmFault (l : LaneSt) (k : Nat) : LaneSt :=
  if !l.on SIO.CTRL.EN ∨ l.rd (SIO.SO_CFG.ROLE k) = 0 ∨ !l.on (SIO.SO_CFG.EDM_EN k) then l
  else
    let l := l.wr SIO.SO_STATUS.EDM (setBit (l.rd SIO.SO_STATUS.EDM) k (!l.edmExpected k))
    let l := (l.wr SIO.SO_STATUS.EDM_FAULT (setBit (l.rd SIO.SO_STATUS.EDM_FAULT) k true)).raise 4 4
    let l := l.setSio (fun x => { x with conf := setBit x.conf k false, shut := setBit x.shut k false })
    l.soLatch k 0x1A6

def execEdmFault (l : LaneId) (k : Fin 8) (s : State) : Host.Outcome State Fault Refusal := onLane l (fun x => x.edmFault k.val) s

/-- A test of output k may run: enabled for its commanded state, no other test of the lane running (R338). -/
def LaneSt.soTestable (l : LaneSt) (k : Nat) : Bool :=
  l.on SIO.CTRL.EN && l.on SIO.CTRL.SO_TEST_EN && l.rd (SIO.SO_CFG.ROLE k) != 0
    && bit (l.rd (SIO.SO_CFG.LANES k)) l.id.num && !bit (l.rd SIO.SO_STATUS.FAULT) k && l.sio.test.isNone
    && l.on (if bit (l.rd SIO.SO_STATUS.ON) k then SIO.SO_CFG.DARK_EN k else SIO.SO_CFG.LIGHT_EN k)

/-- SO_TEST_START of output k. -/
def LaneSt.soTest (l : LaneSt) (k : Nat) : LaneSt :=
  if !l.soTestable k then l else l.setSio (fun x => { x with test := some (k, bit (l.rd SIO.SO_STATUS.ON) k), retry := setBit x.retry k false })

def execSoTestStart (l : LaneId) (k : Fin 8) (s : State) : Host.Outcome State Fault Refusal := onLane l (fun x => x.soTest k.val) s

/-- SO_TEST_RETRY: 10 ms after a test that was ended by a change of the output. -/
def execSoTestRetry (l : LaneId) (k : Fin 8) (s : State) : Host.Outcome State Fault Refusal :=
  onLane l (fun x => if bit x.sio.retry k.val then x.soTest k.val else x) s

/-- SO_TEST_END: the readback passes, and the other switch is next; or SO_TEST_FAIL. -/
def LaneSt.soTestEnd (l : LaneSt) (k : Nat) (ok : Bool) : LaneSt :=
  match l.sio.test with
  | none => l
  | some (j, dark) =>
    if j ≠ k then l
    else
      let l := l.setSio (fun x => { x with test := none, testSw := if dark then setBit x.testSw k (!bit x.testSw k) else x.testSw })
      if ok then l else l.soLatch k 0x1A5

def execSoTestEnd (l : LaneId) (k : Fin 8) (readbackOk : Bool) (s : State) : Host.Outcome State Fault Refusal :=
  onLane l (fun x => x.soTestEnd k.val readbackOk) s

/-- SO_OVERLOAD: an output in current limit for 2 ms is latched off as SO_TEST_FAIL (R471). -/
def execSoOverload (l : LaneId) (k : Fin 8) (s : State) : Host.Outcome State Fault Refusal :=
  onLane l (fun x => if bit (x.rd SIO.SO_STATUS.ON) k.val then x.soLatch k.val 0x1A5 else x) s

/-! ## SAFE_RESET with SCOPE SAFETY_FUNCTION (R333) -/

/-- The cause of a latched fault of input i of this lane, as input m of function `f`, is present: a discrepancy while
the pair differs. -/
def LaneSt.siCauseHolds (l : LaneSt) (f m i : Nat) : Bool :=
  l.sio.siCause.getD i 0 = 6 && bit (l.sfActive f) m != bit (l.sfActive f) (m ^^^ 1)

/-- The cause of a latched fault of output k of this lane is present: EDM away from the open state. -/
def LaneSt.soCauseHolds (l : LaneSt) (k : Nat) : Bool :=
  bit (l.rd SIO.SO_STATUS.EDM_FAULT) k && bit (l.rd SIO.SO_STATUS.EDM) k != l.edmExpected k

/-- The causes of the faults of function `f` that are present in one lane: inputs of that lane, and bit 4 for an
output. -/
def LaneSt.sfCauses (l : LaneSt) (f : Nat) : Nat :=
  maskOf 4 (fun m => bit (l.sfUsed f) m && (l.sfIn f m).1 = l.id.num && bit (l.rd SIO.SI_FAULT.FAULT) (l.sfIn f m).2
      && l.siCauseHolds f m (l.sfIn f m).2)
    + (if (l.sfOutputs f).any (fun k => bit (l.rd SIO.SO_STATUS.FAULT) k && l.soCauseHolds k) then 16 else 0)

/-- The causes present over all members, and in FAULT the inputs lost with their lane. -/
def State.sfPresent (s : State) (k : LaneId) (f : Nat) : Nat :=
  let lost := if (s.lane k).sf f = sfFault then (s.lane k).sfMask f (fun x => (s.lane k).siLost x) else 0
  (s.membersOf k).foldl (fun m j => m ||| (s.lane j).sfCauses f) lost

/-- Clear an output's latched fault. -/
def LaneSt.soClear (l : LaneSt) (k : Nat) : LaneSt :=
  let l := l.wr SIO.SO_STATUS.FAULT (setBit (l.rd SIO.SO_STATUS.FAULT) k false)
  let l := l.wr SIO.SO_STATUS.EDM_FAULT (setBit (l.rd SIO.SO_STATUS.EDM_FAULT) k false)
  let role (j : Nat) : Bool := l.rd (SIO.SO_CFG.ROLE j) = 1 || l.rd (SIO.SO_CFG.ROLE j) = 4
  l.setDegrade 4 ((List.range 8).any (fun j => bit (l.rd SIO.SO_STATUS.FAULT) j && role j))

/-- This lane clears its own latches of function `f` whose causes are gone, and the faults it holds of its peers. -/
def LaneSt.sfClear (l : LaneSt) (f : Nat) : LaneSt :=
  let ins := (List.range 4).filter (fun m => bit (l.sfUsed f) m)
  let l := ins.foldl (fun l m =>
    let x := l.sfIn f m
    if x.1 ≠ l.id.num then l.setSio (fun y => { y with
        peerFault := y.peerFault.setIfInBounds x.1 (setBit (y.peerFault.getD x.1 0) x.2 false) })
    else if l.siCauseHolds f m x.2 then l
    else
      let tp := l.rd (SIO.SI_CFG.TP x.2)
      let l := l.wr SIO.SI_FAULT.FAULT (setBit (l.rd SIO.SI_FAULT.FAULT) x.2 false)
      if tp = 0 then l else l.wr SIO.TP_STATUS.FAULT (setBit (l.rd SIO.TP_STATUS.FAULT) (tp - 1) false)) l
  (l.sfOutputs f).foldl (fun l k =>
    let l := l.setSio (fun y => { y with peerOut := y.peerOut.map (fun m => setBit m k false) })
    if l.soCauseHolds k then l else l.soClear k) l

/-- SAFE_RESET of function `f` in one lane. -/
def State.functionReset (s : State) (k : LaneId) (f : Nat) (d : Decided) (l : LaneSt) : LaneSt :=
  let l := l.setSio (fun x => { x with resets := (x.resets + 1) % 256 })
  let st := l.sf f
  if st = sfPermit ∨ st = sfOff ∨ (st = sfReady ∧ l.sfType f = 3) then (l.okOutcome d 0 0).xchgSend
  else if st = sfReady then
    (l.setSio (fun x => { x with grant := x.grant.setIfInBounds f (x.grant.getD f [] ++ [d]) })).xchgSend
  else
    let had := st = sfFault ∨ l.on (SIO.SF_STATUS.RESTART_REFUSED f)
    let left := s.sfPresent k f
    let l := if left = 0 ∧ had then
        let l := ((l.sfClear f).wr (SIO.SF_STATUS.RESTART_REFUSED f) 0).wr (SIO.SF_STATUS.OUT_FAULT f) 0
        if st = sfFault then l.setSf f sfDemand else l
      else if had then l.sfClear f else l
    let open' := l.sfUnreleased f
    let l := (l.evalSf f).judgeOutputs
    let l := if left ≠ 0 then l.deny d 0x57 left
      else if !had ∧ open' ≠ 0 then l.deny d 0x58 open'
      else l.complete d stOk 0 0
    l.xchgSend

/-- SAFE_RESET of output k, in the lanes it names. -/
def State.outputReset (s : State) (j : LaneId) (k lanes : Nat) (d : Decided) (l : LaneSt) : LaneSt :=
  let holds := maskOf 3 (fun i => bit lanes i && bit (s.lane j).members i &&
    bit ((s.lane (LaneId.ofNum i)).rd SIO.SO_STATUS.FAULT) k && (s.lane (LaneId.ofNum i)).soCauseHolds k)
  let l := l.setSio (fun x => { x with resets := (x.resets + 1) % 256 })
  let l := if bit lanes l.id.num && !l.soCauseHolds k then (l.soClear k).judgeOutput k else l
  let l := if holds ≠ 0 then l.deny d 0x59 holds else l.complete d stOk 0 0
  l.xchgSend

/-- SAFE_RESET with SCOPE SAFETY_FUNCTION in one lane. -/
def State.safetyReset (s : State) (k : LaneId) (index lanes : Nat) (d : Decided) (l : LaneSt) : LaneSt :=
  if index < 16 then
    if lanes ≠ 0 then l.complete d stRejected (reasonDetail 0x02 18) 0 else s.functionReset k index d l
  else if l.rd (SIO.SO_CFG.ROLE (index - 0x80)) = 1 then l.complete d stRejected (reasonDetail 0x02 17) 0
  else s.outputReset k (index - 0x80) lanes d l

def execSafeResetSafetyFunction (l : LaneId) (s : State) : Host.Outcome State Fault Refusal :=
  onLane l (fun x => x.withDesc (DescOp.isReset 1) (fun d op y => match op with
    | .safeReset _ index lanes => s.safetyReset l index lanes d y
    | _ => y)) s

end Sys2Proof.Machine
end

