-- ==== Sys2Proof/Machine/Vote.lean ====
section
/-!
DEFINITION. Doxel frames, the vote, exclusion, attribution, controlled stops of the machine and SAFE (R91 to R107, R111
to R117, R479, R480).
-/

namespace Sys2Proof.Machine

open Sys2Proof

/-! ## The lane's view of its peers -/

/-- Membership of lane `k` in this lane's view, encoded as SELF. -/
def LaneSt.membOf (l : LaneSt) (k : LaneId) : Nat := if k = l.id then l.self else (l.peer k).memb

/-- The lanes this lane holds to be MEMBER, exclusions decided since the last boundary included. -/
def LaneSt.memberView (l : LaneSt) : List LaneId := LaneId.all.filter (fun k => l.membOf k = selfMember)

/-- The same as a lane mask. -/
def LaneSt.viewMask (l : LaneSt) : Nat := (l.memberView.map (fun k => 2 ^ k.num)).sum

/-- VOTE.LINKS fields of a peer: link state and ALIVE toggling. -/
def LaneSt.linkF (l : LaneSt) (p : LaneId) : Field := if p = l.id.peer0 then VOTE.LINKS.P0_STATE else VOTE.LINKS.P1_STATE
def LaneSt.aliveF (l : LaneSt) (p : LaneId) : Field := if p = l.id.peer0 then VOTE.LINKS.P0_ALIVE else VOTE.LINKS.P1_ALIVE

/-- The count of disagreeing votes of a peer. -/
def LaneSt.disagreeF (l : LaneSt) (p : LaneId) : Field := if p = l.id.peer0 then VOTE.DISAGREE.P0 else VOTE.DISAGREE.P1

/-- Show the state of the links to a peer, and DEGRADE LINK_SPARE while a spare is in use (R94, R95, R117). -/
def LaneSt.showLink (l : LaneSt) (p : LaneId) : LaneSt :=
  let f := (l.peer p).failed
  let l := l.wr (l.linkF p) (if f.1 && f.2 then 2 else if f.1 then 1 else 0)
  let l := l.setDegrade 6 (l.rd VOTE.LINKS.P0_STATE = 1 || l.rd VOTE.LINKS.P1_STATE = 1)
  l.setBlk l.id (fun b => { b with links := l.rd VOTE.LINKS.P0_STATE + 4 * l.rd VOTE.LINKS.P1_STATE })

/-- Whether the voting boundaries of the lane run: its pads are released, it is not stopped by a fatal fault's silence
and no full proof has the lane. -/
def LaneSt.voting (l : LaneSt) : Bool :=
  let st := l.rd PWR.STATUS.STATE
  1 ≤ st && st ≤ 3 && !l.on BIST.STATUS.FULL_RUNNING

/-! ## The reference hold (R106) -/

/-- Begin or end the hold of the torque references; HOLD_MAX keeps the longest. -/
def LaneSt.holdRef (l : LaneSt) (b : Bool) : LaneSt :=
  if l.on VOTE.STATUS.REF_HELD = b then l
  else if b then
    let l := (l.wr VOTE.STATUS.REF_HELD 1).raise 2 5
    { l with vote := { l.vote with holdFrom := some l.runUnits } }
  else
    let t := (l.runUnits - l.vote.holdFrom.getD l.runUnits) / 2 ^ 32
    let l := (l.wr VOTE.STATUS.REF_HELD 0).wr VOTE.HOLD_MAX.NS (max (l.rd VOTE.HOLD_MAX.NS) (min (2 ^ 32 - 1) t))
    { l with vote := { l.vote with holdFrom := none } }

/-! ## Exclusion of a peer (R102, R104, R113) -/

/-- This lane's view of a peer changes on its exclusion with a cause. A member whose readmissions are used up becomes
DEAD. In SAFE every lane stays as it is (R103). -/
def LaneSt.excludePeer (l : LaneSt) (p : LaneId) (cause : Nat) : LaneSt :=
  let m := (l.peer p).memb
  if (m ≠ selfMember ∧ m ≠ selfShadow) ∨ l.inSafe then l
  else
    let dead := m = selfMember ∧ cause ≠ causeHostReset ∧ (l.blkOf p).readmits = l.rd VOTE.READMIT.MAX
    let l := (l.noteExclusion p cause).setPeer p (fun v => { v with
      memb := if dead then selfDead else selfExcluded, dis := 0,
      outAt := if m = selfMember then some l.time.now else v.outAt })
    let l : LaneSt := { l with vote := { l.vote with
      exclReq := setBit l.vote.exclReq p.num false,
      gapFrom := if m = selfMember ∧ l.isMember then some (l.vote.gapFrom.getD l.runUnits) else l.vote.gapFrom } }
    l.setBlk p (fun b => { b with shadowVotes := 0 })

/-- The cause of a peer's exclusion as this lane can tell it: what it requested itself, a lost Doxel pair, or the ALIVE
that stopped. -/
def LaneSt.peerCause (l : LaneSt) (p : LaneId) : Nat :=
  if bit l.vote.exclReq p.num then l.vote.reqCause.get p.fin
  else if bit (l.vote.linkLoss.1 ||| l.vote.linkLoss.2) p.num ∨ l.rd (l.linkF p) = 2 then causePairLink
  else causePeerAlive

/-- Request the exclusion of a peer for a cause (EXCL_REQ, R104). -/
def LaneSt.requestExclusion (l : LaneSt) (p : LaneId) (cause : Nat) : LaneSt :=
  if bit l.vote.exclReq p.num ∨ (l.peer p).memb ≠ selfMember then l
  else { l with vote := { l.vote with
      exclReq := setBit l.vote.exclReq p.num true, reqCause := l.vote.reqCause.set p.fin cause } }

/-- PEER_ALIVE_STOP: every member holds its references, and the peer is excluded at once (R104, R378); its safety inputs
are lost (R328). -/
def LaneSt.aliveStop (l : LaneSt) (p : LaneId) : LaneSt :=
  if p = l.id then l
  else
    let l := l.wr (l.aliveF p) 0
    let l := if l.isMember ∧ (l.peer p).memb = selfMember ∧ !l.inSafe then l.holdRef true else l
    (l.excludePeer p (l.peerCause p)).inputsLost p

def execPeerAliveStop (l : LaneId) (peer : LaneId) (s : State) : Host.Outcome State Fault Refusal :=
  onLane l (fun x => x.aliveStop peer) s

/-! ## SAFE (R102, R103, K5 of R116) -/

/-- The lane enters SAFE with a stop cause: steering channels in active short, brakes with all gates off, every safety
output open, every channel FAULTED. -/
def LaneSt.enterSafe (l : LaneSt) (cause : Nat) : LaneSt :=
  if l.inSafe then l
  else
    let l := ((l.wr VOTE.STATUS.MODE 3).wr VOTE.STATUS.ATTRIBUTING 0).wr VOTE.STATUS.STOPPING 0
    let l : LaneSt := { l with vote := { l.vote with
      stopCause := cause, stopReq := 0, attrTriple := false, noMajWait := false } }
    let l := ((List.range 8).foldl (fun l n => l.toFaulted n true) l).outputsOff
    let l := (List.range 16).foldl (fun l f => if l.sf f = 0 then l else l.sfCause f 0x0A 0xF) l
    (l.raise 2 1).raise 2 4

/-! ## Attribution (R100, R107) -/

/-- Attribution begins; references are held while it runs. -/
def LaneSt.attribute (l : LaneSt) (triple : Bool) : LaneSt :=
  if l.on VOTE.STATUS.ATTRIBUTING ∨ l.inSafe then l
  else
    let l := ((l.wr VOTE.STATUS.ATTRIBUTING 1).satInc 2 VOTE.NOMAJ.ATTRIB).holdRef true
    { l with vote := { l.vote with attrTriple := triple, peerAttr := 0 } }

/-- Age in ns of a history entry, where it was stamped in the lane's present time form (R367). -/
def LaneSt.entryAge (l : LaneSt) (e : Nat) : Option Nat :=
  let t32 : Bool := bit e 48
  let u := if t32 then 2 ^ 32 else 10 ^ 9
  if t32 ≠ l.t32 then none else some ((l.ns + 2 ^ 16 * u - (getField 32 16 e * u + e % 2 ^ 32)) % (2 ^ 16 * u))

/-- A contained or fatal event of the last second stands in the lane's own histories. Those of VOTE report the very
disagreements that are judged, and of other lanes, and do not count (log entry 51). -/
def LaneSt.ownHistory (l : LaneSt) : Bool :=
  (List.range 24).any (fun b => b ≠ 2 && (List.range 8).any (fun j =>
    let e := l.rd (FLT.HIST_LO.ENTRY b j)
    decide (j < l.rd (FLT.TOTAL.COUNT b)) && decide (2 ≤ getField 49 2 e) && (l.entryAge e).any (fun a => decide (a ≤ 10 ^ 9))))

/-- A proof of the lane's own has failed: a class's last one, or the full proof (log entry 51). -/
def LaneSt.ownProofs (l : LaneSt) : Bool :=
  (List.range 7).any (fun c => l.rd (BIST.CLS_STATUS.RESULT (c + 1)) = 1) || (l.blkOf l.id).proof = 1

/-- The observer of a driven channel disagrees with the angle of the port in use. -/
def LaneSt.observerOff (l : LaneSt) (n : Nat) : Bool :=
  let src := l.rd (COMM.STATUS.ANGLE_SRC n)
  l.driven n && l.on (COMM.STATUS.OBS_LOCKED n) && (src = 1 || src = 2) && !l.agree n (l.ang n).theta (l.rd (COMM.OBS_ANGLE.VALUE n))

/-- The own position of a driven channel lies off the voted one by more than ANG_TOL, as an electrical angle. -/
def State.positionOff (s : State) (k : LaneId) (n : Nat) : Bool :=
  let l := s.lane k
  let d := (l.fbPosSignal (l.rd (COMM.SRC.PORT_P n)) * 2 ^ 32 - s.votedPos k n).natAbs
  l.driven n && decide (l.rd (COMM.SRC.ANG_TOL n) * l.cprCh n * 2 ^ 32 < 360 * l.rd (COMM.CTRL.POLES n) * d)

/-- The phase currents of a driven channel's winding do not sum to 0 within ISUM_TOL. -/
def LaneSt.currentsOff (l : LaneSt) (n : Nat) : Bool :=
  let i (k : Nat) : Int := l.rdI (ADC.RESULT.VALUE (3 * n + k))
  l.driven n && decide (l.rd (COMM.AUX.ISUM_TOL n) * 65536 < 10 * (i 0 + i 1 + i 2).natAbs)

/-- The DC-link voltage lies off that of every other member by more than VDC_TOL percent. -/
def State.linkOff (s : State) (k : LaneId) : Bool :=
  let l := s.lane k
  let ps := l.memberPeers
  !ps.isEmpty && ps.all (fun p => decide (l.rd ADC.CTRL.VDC_TOL * (s.lane p).vdc.natAbs < 100 * (l.vdc - (s.lane p).vdc).natAbs))

/-- The checks of attribution that find a fault of the lane's own (R107), as a mask: own histories, proof results, observer
against encoder, encoder against the voted position, phase currents, DC link. Tolerances where R107 names none, and the
mask, are the model's (log entry 51). -/
def State.ownChecks (s : State) (k : LaneId) : Nat :=
  let l := s.lane k
  b2n l.ownHistory + 2 * b2n l.ownProofs + 4 * b2n ((List.range 8).any l.observerOff)
    + 8 * b2n ((List.range 8).any (s.positionOff k)) + 16 * b2n ((List.range 8).any l.currentsOff) + 32 * b2n (s.linkOff k)

/-- ATTRIBUTION_END: `checks` are the lane's own checks that found a fault of its own; the ATTRIB record carries them. -/
def LaneSt.attributionEnd (l : LaneSt) (checks : Nat) : LaneSt :=
  if !l.on VOTE.STATUS.ATTRIBUTING then l
  else
    let triple := l.vote.attrTriple
    let l : LaneSt := { l.wr VOTE.STATUS.ATTRIBUTING 0 with vote := { l.vote with
      attrTriple := false, selfDis := 0, noMaj := 0 } }
    let l := l.peers.foldl (fun l p => l.setPeer p (fun v => { v with dis := 0 })) l
    if checks ≠ 0 then
      let l := l.send 0x07 0 [1 + 2 ^ 8 * checks]
      if !triple && l.vote.peerAttr != 0 then l.enterSafe 2
      else
        let l := l.exclude causeSelfAttributed
        { l with vote := { l.vote with attrSelf := true } }
    else if triple then { l with vote := { l.vote with noMajWait := true } }
    else if l.vote.peerAttr ≠ 0 then l
    else l.enterSafe 2

/-- ATTRIBUTION_END. `found` is what the lane's sensors show at that moment beyond what the model's state holds of them; it
stands as one more check (log entry 51). -/
def execAttributionEnd (l : LaneId) (found : Bool) (s : State) : Host.Outcome State Fault Refusal :=
  onLane l (fun x => x.attributionEnd (s.ownChecks l + 64 * b2n found)) s

/-- ATTRIB of a member that attributed the disagreement to itself. -/
def execAttribReceive (l : LaneId) (src : Arrival) (s : State) : Host.Outcome State Fault Refusal :=
  onReceive l src (fun x =>
    ({ x with vote := { x.vote with peerAttr := setBit x.vote.peerAttr src.lane.num true } } : LaneSt).excludePeer src.lane
      causeSelfAttributed) s

/-! ## Cycle frames (R91, R94, R97) -/

/-- The sender computes a torque command of channel `n` (TVALID, R91). -/
def LaneSt.torqueValid (l : LaneSt) (n : Nat) : Bool :=
  if l.on (COMM.CTRL.FORCE_DIRECT n) then l.driven n && !l.acquiring n
  else match l.slotTo 1 n with
    | none => false
    | some m => 1 ≤ l.rd (LOOP.STATUS.STATE m) && l.rd (LOOP.STATUS.STATE m) ≤ 3

/-- The torque command of a channel with FORCE_DIRECT = 1: the force set-point, within the torque limit. -/
def LaneSt.forceDirect (l : LaneSt) : LaneSt :=
  (List.range 8).foldl (fun l n =>
    if l.on (COMM.CTRL.FORCE_DIRECT n) then
      { l with vote := { l.vote with
          torque := l.vote.torque.setIfInBounds n (clampAbs (toSigned 32 (ofSigned 64 (l.pg (2 * n + 1)).acc / 2 ^ 16)) (l.torqueLimit n)) } }
    else l) l

/-- Index of the cycle that starts at the present boundary, low 32 bits. -/
def LaneSt.cycleIndex (l : LaneSt) : Nat := if l.tVote = 0 then 0 else l.ns / l.tVote % 2 ^ 32

/-- The lane's cycle frame to a peer, without an injected torque. -/
def LaneSt.cycleFrame (l : LaneSt) (p : LaneId) : CycleFrame :=
  { spare := false, proof := false, self := l.self, members := l.members, exclReq := l.vote.exclReq, mode := l.mode,
    cycle := l.cycleIndex, t32 := l.t32, time := (stampNs l.t32 l.ns, stampS l.t32 l.ns), hostUp := l.on HIF.STATUS.LINK_UP,
    attrSelf := l.vote.attrSelf, refHeld := l.on VOTE.STATUS.REF_HELD, netUp := (l.blkOf l.id).netUp,
    degrade := (l.blkOf l.id).degrade, torque := l.vote.torque, tvalid := maskOf 8 l.torqueValid, proofCh := 0,
    ramp := (l.blkOf l.id).ramp, ack := (l.peer p).rxNum }

/-- Words W0 to W7 of a cycle frame of lane `sender` (R91). -/
def frameBody (sender : LaneId) (f : CycleFrame) : List Nat :=
  let torque (n : Nat) : Nat := ofSigned 32 (f.torque.getD n 0)
  [0x5C + 2 ^ 8 * sender.num + 2 ^ 10 * b2n f.spare + 2 ^ 11 * b2n f.proof + 2 ^ 12 * f.self + 2 ^ 16 * f.members
      + 2 ^ 19 * f.exclReq + 2 ^ 22 * f.mode + 2 ^ 32 * f.cycle,
   f.time.1 + 2 ^ 32 * (f.time.2 % 2 ^ 32),
   (if f.t32 then 0 else f.time.2 / 2 ^ 32 % 2 ^ 16) + 2 ^ 16 * b2n f.t32 + 2 ^ 17 * b2n f.hostUp + 2 ^ 18 * b2n f.attrSelf
      + 2 ^ 19 * b2n f.refHeld + 2 ^ 20 * f.netUp + 2 ^ 32 * f.degrade,
   torque 0 + 2 ^ 32 * torque 1, torque 2 + 2 ^ 32 * torque 3, torque 4 + 2 ^ 32 * torque 5, torque 6 + 2 ^ 32 * torque 7,
   f.tvalid + 2 ^ 8 * f.proofCh + 2 ^ 16 * f.ramp + 2 ^ 32 * f.ack]

/-- The number of records in a list of words, each a header word with its payload count and that many words more (R93). -/
def countRecords : Nat → List Nat → Nat
  | 0, _ => 0
  | _, [] => 0
  | k + 1, w :: ws => 1 + countRecords k (ws.drop (getField 8 8 w))

/-- The END check of a cycle frame with the records appended to it (R91): CRC-32C and record count; the bits above are
reserved. -/
def endChecks (sender : LaneId) (f : CycleFrame) (extra : List Dword) (endWord : Dword) : Bool :=
  let ws := extra.map (·.toNat)
  endWord.toNat % 2 ^ 40 = endWordOf (frameBody sender f ++ ws) (countRecords ws.length ws)

/-- The words of the cycle frame that goes out to peer `p` on a link, with the records appended to it (R91, R93). -/
def LaneSt.cycleWords (l : LaneSt) (p : LaneId) (f : CycleFrame) (spare : Bool) : List Nat :=
  let recs := l.vote.tx.filter (fun x => x.dest = p && x.num.isNone)
  let body := frameBody l.id { f with spare := spare } ++ recs.flatMap (fun x => x.recordHeader :: x.words)
  body ++ [endWordOf body recs.length]

/-- A proof frame to peer slot `k` is due at this boundary: the first at or after each multiple of 100 ms, for slot 1
with an offset of 50 ms (R101). -/
def LaneSt.proofDue (l : LaneSt) (k : Nat) : Bool :=
  decide ((l.boundaryNs + (if k = 0 then 0 else 50000000)) % 100000000 < l.tVote)

/-- No condition forbids a proof frame: no reference held in any lane, no commit pending, not SOLO, not SAFE. -/
def LaneSt.proofAllowed (l : LaneSt) : Bool :=
  l.on VOTE.CTRL.PROOF_EN && l.isMember && decide (l.mode < 2) && !l.on VOTE.STATUS.REF_HELD && l.commit.isNone
    && l.memberPeers.all (fun p => !((l.peer p).last.map (·.refHeld)).getD false)

/-- The next channel of the rotation to a peer, of those with a torque command. -/
def LaneSt.proofChannel (l : LaneSt) (p : LaneId) (valid : Nat) : Option Nat :=
  ((List.range 8).map (fun i => ((l.peer p).proofCh + 1 + i) % 8)).find? (bit valid)

/-- The frame to a peer, and the lane with what it notes of a proof frame: the torque of one channel offset by
4 × ABS. -/
def LaneSt.frameTo (l : LaneSt) (p : LaneId) : CycleFrame × LaneSt :=
  let f := l.cycleFrame p
  if !(l.proofDue (l.id.slotOf p) && l.proofAllowed && (l.peer p).memb = selfMember) then (f, l)
  else match l.proofChannel p f.tvalid with
  | none => (f, l)
  | some n =>
    ({ f with proof := true, proofCh := n,
              torque := f.torque.setIfInBounds n (f.torque.getD n 0 + 4 * 256 * l.rd (VOTE.TOL.ABS n)) },
     l.setPeer p (fun v => { v with proofCh := n, proofSent := some n }))

/-- The cycle frames of a boundary are sent to both peers on both links. -/
def LaneSt.sendFrames (l : LaneSt) : LaneSt :=
  let a := l.frameTo l.id.peer0
  let b := a.2.frameTo l.id.peer1
  { b.2 with vote := { b.2.vote with sent := some (a.1, b.1) } }

/-- The lane's own frame of the present cycle, without an injected torque. -/
def LaneSt.ownFrame (l : LaneSt) : Option CycleFrame := l.vote.sent.map (fun x => if x.1.proof then x.2 else x.1)

/-- What a good frame tells of its sender's lane block: DEGRADE, NET_UP, ramp. -/
def LaneSt.noteBlock (l : LaneSt) (p : LaneId) (f : CycleFrame) : LaneSt :=
  l.setBlk p (fun b => { b with degrade := f.degrade, netUp := f.netUp, ramp := f.ramp,
                                proof := if f.self = selfExcluded then b.proof else if f.self = selfDead then 1 else 0 })

/-- The membership a sender reports. Of members a member judges by its votes, and an admission at its own boundary; a
lane that is no member takes what members report. A transition to DEAD out of EXCLUDED or SHADOW takes cause
READMIT_FAILED (R480). A peer that forms again has been reset: it is not sealed (R65), and the frame numbers of the pair
start again (log entry 51). In SAFE every lane stays as it is (R103). -/
def LaneSt.noteSelf (l : LaneSt) (p : LaneId) (f : CycleFrame) : LaneSt :=
  let m := (l.peer p).memb
  if l.inSafe ∨ (l.isMember ∧ (m = selfMember ∨ f.self = selfMember)) then l
  else
    let l := if f.self = selfDead ∧ (m = selfExcluded ∨ m = selfShadow) then l.setBlk p (fun b => { b with cause := causeReadmitFailed })
      else l
    let l := if f.self = selfShadow ∧ m ≠ selfShadow then l.setBlk p (fun b => { b with shadowVotes := 0 }) else l
    let again : Bool := decide (f.self = selfForming ∧ m ≠ selfForming)
    let l := if again then l.setBlk p (fun b => { b with late := true }) else l
    let l : LaneSt := if again then { l with vote := { l.vote with tx := l.vote.tx.filter (fun x => x.dest ≠ p) } } else l
    l.setPeer p (fun v => if again then
        { v with memb := f.self, setupHash := none, txNum := 0, rxNum := 0, rxAhead := [] }
      else { v with memb := f.self })

/-- A link, by its number, of a pair of truth values. -/
def linkSet (g : Bool × Bool) (spare : Bool) : Bool × Bool := if spare then (g.1, true) else (true, g.2)

/-- Take a frame of the present cycle, or of the next one. The primary link's is preferred; frames of a failed link are
not used. -/
def takeFrame (old : Option CycleFrame) (f : CycleFrame) : Option CycleFrame :=
  match old with
  | none => some f
  | some o => if f.spare then some o else some { f with spare := false }

/-- CYCLE_FRAME_RECEIVE of a frame that passes its END check. -/
def LaneSt.frameReceive (l : LaneSt) (p : LaneId) (f : CycleFrame) : LaneSt :=
  let v := l.peer p
  if (if f.spare then v.failed.2 else v.failed.1) then l
  else
    let l := (((l.acked p f.ack).noteBlock p f).noteSelf p f).setPeer p (fun v => { v with fresh := true, last := some f })
    let now := l.cycleIndex
    if f.cycle = now ∧ !l.vote.done then
      l.setPeer p (fun v => { v with frame := takeFrame v.frame f, got := linkSet v.got f.spare })
    else if f.cycle = (now + 1) % 2 ^ 32 then
      l.setPeer p (fun v => { v with next := (takeFrame v.next.1 f, linkSet v.next.2 f.spare) })
    else l

/-- A FORMING lane steps to the time of the lowest-lettered FORMING lane whose proof has passed (R280). -/
def State.formStep (s : State) (k p : LaneId) (f : CycleFrame) : State :=
  let l := s.lane k
  let lower : Bool := decide (p.num < k.num) && LaneId.all.all (fun j => decide (p.num ≤ j.num) || (l.peer j).memb ≠ selfForming || j = k || !(l.peer j).fresh)
  if l.self = selfForming ∧ f.self = selfForming ∧ lower then
    s.setLane k (l.setTime (s.lane p).time.now)
  else s

/-- CYCLE_FRAME_RECEIVE (R94, R97): a frame that fails its END check is discarded as a whole. -/
def cycleFrameReceive (k p : LaneId) (good : Bool) (f : CycleFrame) (s : State) : State :=
  if p = k ∨ !good ∨ !(s.lane k).voting then s
  else
    let s := s.formStep k p f
    s.setLane k ((s.lane k).frameReceive p f)

/-- CYCLE_FRAME_RECEIVE. The records appended to the frame are received by commands of their own, without a frame number
(log entry 51). -/
def execCycleFrameReceive (l sender : LaneId) (frame : CycleFrame) (tail : FrameTail) (s : State) :
    Host.Outcome State Fault Refusal :=
  .next (cycleFrameReceive l sender (endChecks sender frame tail.extra tail.endWord) frame s)

/-- FRAME_RETRANSMIT: the oldest frame on the primary link that has not been acknowledged goes out again on the spare
(R93). -/
def LaneSt.retransmit (l : LaneSt) : LaneSt :=
  match l.vote.tx.findIdx? (fun x => x.num.isSome && !x.spare && !(l.peer x.dest).failed.2) with
  | none => l
  | some i => { l with vote := { l.vote with tx := l.vote.tx.modify i (fun x => { x with spare := true }) } }

def execFrameRetransmit (l : LaneId) (s : State) : Host.Outcome State Fault Refusal := onLane l LaneSt.retransmit s

/-! ## Links (R94, R95) -/

/-- A link to a peer fails: traffic moves to the spare, FAILOVERS up, LINK_FAILOVER; the spare link taken into
use is reported (R394). -/
def LaneSt.failLink (l : LaneSt) (p : LaneId) (spare : Bool) : LaneSt :=
  let l := l.setPeer p (fun v => { v with failed := linkSet v.failed spare })
  let l : LaneSt := { l with vote := { l.vote with
    tx := l.vote.tx.map (fun x => if x.dest = p ∧ !spare then { x with spare := true } else x) } }
  let l := ((l.satInc 2 VOTE.LINKS.FAILOVERS).showLink p).fault 0x042 p.num
  if !spare ∧ !(l.peer p).failed.2 then l.spareUsed 7 else l

/-- The links of a pair are lost: the higher-lettered lane excludes itself, and so does a lane that has lost both peers;
in DUPLEX the other member goes on alone. -/
def LaneSt.doxelLost (l : LaneSt) (p : LaneId) : LaneSt :=
  let l := l.fault 0x043 p.num
  let both := l.rd VOTE.LINKS.P0_STATE = 2 ∧ l.rd VOTE.LINKS.P1_STATE = 2
  if !l.isMember ∨ (l.peer p).memb ≠ selfMember ∨ l.inSafe then l
  else if both ∧ l.memberView.length = 3 ∨ p.num < l.id.num then l.exclude causePairLink
  else if l.memberView.length = 2 then l.excludePeer p causePairLink
  else l

/-- Judge the links to a peer at a vote: a frame missing at two consecutive boundaries fails its link, missing on both
the pair. Only a peer whose ALIVE toggles is judged. -/
def LaneSt.judgeLinks (l : LaneSt) (p : LaneId) : LaneSt :=
  if !l.on (l.aliveF p) then l
  else
    let v := l.peer p
    let m : Nat × Nat :=
      (if v.got.1 then 0 else min 2 (v.miss.1 + 1), if v.got.2 then 0 else min 2 (v.miss.2 + 1))
    let l := l.setPeer p (fun v => { v with miss := m })
    let l := if !v.got.1 ∧ !v.got.2 then l.send 0x06 p.num [] else l
    let l := if m.1 = 2 ∧ !v.failed.1 then l.failLink p false else l
    let l := if m.2 = 2 ∧ !v.failed.2 then l.failLink p true else l
    if m.1 = 2 ∧ m.2 = 2 ∧ !(v.failed.1 && v.failed.2) then l.doxelLost p else l

/-- LINK_LOSS of a peer: the pair it names. A lane named itself at two consecutive boundaries by a peer has lost the pair
with it (R95). -/
def LaneSt.lossReceive (l : LaneSt) (p lost : LaneId) : LaneSt :=
  let l : LaneSt := { l with vote := { l.vote with
    linkLoss := (setBit (setBit l.vote.linkLoss.1 lost.num true) p.num true, l.vote.linkLoss.2) } }
  let l := if l.isMember then l.holdRef true else l
  if lost = l.id ∧ bit l.vote.linkLoss.2 l.id.num ∧ bit l.vote.linkLoss.2 p.num ∧ l.rd (l.linkF p) ≠ 2 then
    ((l.setPeer p (fun v => { v with failed := (true, true) })).showLink p).doxelLost p
  else l

def execLinkLossReceive (l : LaneId) (src : Arrival) (lost : LaneId) (s : State) : Host.Outcome State Fault Refusal :=
  onReceive l src (fun x => x.lossReceive src.lane lost) s

/-- A link whose loopback passed in a full proof of either lane is taken back at the next boundary (R94). -/
def LaneSt.takeBackLinks (l : LaneSt) (p : LaneId) : LaneSt :=
  let v := l.peer p
  if !v.takeBack.1 ∧ !v.takeBack.2 then l
  else
    (l.setPeer p (fun v => { v with
      failed := (v.failed.1 && !v.takeBack.1, v.failed.2 && !v.takeBack.2), takeBack := (false, false),
      miss := (if v.takeBack.1 then 0 else v.miss.1, if v.takeBack.2 then 0 else v.miss.2) })).showLink p

/-! ## The vote (R98 to R101, R479) -/

/-- Two torque commands of channel `n` agree (R98); while a slot that routes to the channel's torque is in TUNE, within
2 × |d| more (R167). -/
def LaneSt.torqueAgree (l : LaneSt) (n : Nat) (a b : Int) : Bool :=
  let extra : Nat := match l.tune n with
    | some t => if l.rd (LOOP.ROUTE.DEST t.slot) = 1 then 2 * t.amp.natAbs else 0
    | none => 0
  decide (1024 * (a - b).natAbs ≤ 1024 * (256 * l.rd (VOTE.TOL.ABS n) + extra) + l.rd (VOTE.TOL.REL n) * max a.natAbs b.natAbs)

/-- What a vote gives one channel: its voted value, the lanes marked disagreeing, whether it is without majority, and
whether it is a channel in use that is left without a voted value. -/
structure ChVote where
  value : Option Int
  marked : Nat
  noMaj : Bool
  idle : Bool
  deriving DecidableEq, Repr

/-- The table of R98 on the values of the member frames present. -/
def voteValues (agree : Int → Int → Bool) : List (LaneId × Int) → ChVote
  | [x] => ⟨some x.2, 0, false, false⟩
  | [x, y] =>
    if agree x.2 y.2 then ⟨some (qdiv (x.2 + y.2) 2), 0, false, false⟩
    else ⟨none, 2 ^ x.1.num + 2 ^ y.1.num, false, false⟩
  | [x, y, z] =>
    let xy := agree x.2 y.2
    let xz := agree x.2 z.2
    let yz := agree y.2 z.2
    if !xy && !xz && !yz then ⟨none, 0, true, false⟩
    else
      ⟨some (median3 x.2 y.2 z.2),
       (if !xy && !xz then 2 ^ x.1.num else 0) + (if !xy && !yz then 2 ^ y.1.num else 0)
         + (if !xz && !yz then 2 ^ z.1.num else 0), false, false⟩
  | _ => ⟨none, 0, false, false⟩

/-- The member frames present in this lane, by lane. -/
def LaneSt.memberFrames (l : LaneSt) : List (LaneId × CycleFrame) :=
  l.memberView.filterMap (fun k => (if k = l.id then l.ownFrame else (l.peer k).frame).map (fun f => (k, f)))

/-- The vote of channel `n` on the member frames: an injected value takes no part (R101). A channel that no frame marks
in TVALID has the voted command 0; one that only some mark has no voted value (R479). -/
def LaneSt.voteChannel (l : LaneSt) (fs : List (LaneId × CycleFrame)) (n : Nat) : ChVote :=
  if fs.all (fun x => !bit x.2.tvalid n) then ⟨some 0, 0, false, true⟩
  else if !fs.all (fun x => bit x.2.tvalid n) then ⟨none, 0, false, false⟩
  else voteValues (l.torqueAgree n)
    ((fs.filter (fun x => !(x.2.proof && x.2.proofCh = n))).map (fun x => (x.1, x.2.torque.getD n 0)))

/-- The injected value of a proof frame is classified as disagreeing: it agrees with no other member's. -/
def LaneSt.classify (l : LaneSt) (fs : List (LaneId × CycleFrame)) (x : LaneId × CycleFrame) : Bool :=
  let n := x.2.proofCh
  fs.all (fun y => y.1 = x.1 || !l.torqueAgree n (y.2.torque.getD n 0) (x.2.torque.getD n 0))

/-- The receiver of proof frames reports its classification (R101). -/
def LaneSt.reportProofs (l : LaneSt) (fs : List (LaneId × CycleFrame)) : LaneSt :=
  fs.foldl (fun l x =>
    if x.1 ≠ l.id ∧ x.2.proof then l.sendTo x.1 0x08 (x.1.num + 4 * b2n (l.classify fs x)) [] else l) l

/-- PROOF_RESULT: a peer that reports the injected value as agreeing has a faulty voter (R101). -/
def LaneSt.proofResult (l : LaneSt) (p injector : LaneId) (disagreeing : Bool) : LaneSt :=
  if injector ≠ l.id ∨ (l.peer p).proofSent.isNone then l
  else
    let l := l.setPeer p (fun v => { v with proofSent := none })
    if disagreeing then l else (l.requestExclusion p causePeerVoter).fault 0x046 p.num

def execProofResultReceive (l : LaneId) (src : Arrival) (injector : LaneId) (disagreeing : Bool) (s : State) :
    Host.Outcome State Fault Refusal := onReceive l src (fun x => x.proofResult src.lane injector disagreeing) s

/-- The count of consecutive disagreeing votes of lane `k`. -/
def LaneSt.disCount (l : LaneSt) (k : LaneId) : Nat := if k = l.id then l.vote.selfDis else (l.peer k).dis

/-- One vote counted for lane `k`: an agreeing one resets its count; the one that reaches DIS_LIMIT establishes the
disagreement (R99). -/
def LaneSt.countVote (l : LaneSt) (k : LaneId) (dis : Bool) : LaneSt :=
  let c := if dis then l.disCount k + 1 else 0
  let l : LaneSt := if k = l.id then { l with vote := { l.vote with selfDis := c } } else l.setPeer k (fun v => { v with dis := c })
  if !dis then l
  else
    let l := l.setBlk k (fun b => { b with disagree := (b.disagree + 1) % 2 ^ 32 })
    let l := if k = l.id then l else l.satInc 2 (l.disagreeF k)
    if c = l.rd VOTE.CTRL.DIS_LIMIT then l.fault 0x044 (if k = l.id then 3 else k.num) else l

/-- A SHADOW lane's vote: it agrees when every channel with a voted value agrees with it (R111). -/
def LaneSt.shadowVote (l : LaneSt) (vs : List (Nat × ChVote)) (k : LaneId) (f : Option CycleFrame) : LaneSt :=
  match f with
  | none => l
  | some f =>
    let ok := vs.all (fun x => x.2.idle || (match x.2.value with
      | none => true
      | some v => l.torqueAgree x.1 (f.torque.getD x.1 0) v))
    l.setBlk k (fun b => { b with shadowVotes := if ok then (b.shadowVotes + 1) % 2 ^ 32 else 0 })

/-- Votes without majority, counted; DIS_LIMIT of them in a row start attribution (R100). -/
def LaneSt.countNoMaj (l : LaneSt) (b : Bool) : LaneSt :=
  if !b then { l with vote := { l.vote with noMaj := 0 } }
  else
    let c := l.vote.noMaj + 1
    let l := l.satInc 2 VOTE.NOMAJ.VOTES
    let l : LaneSt := { l with vote := { l.vote with noMaj := c, noMajTotal := (l.vote.noMajTotal + 1) % 2 ^ 32 } }
    if c = l.rd VOTE.CTRL.DIS_LIMIT then (l.fault 0x045 3).attribute true else l

/-- What an established disagreement leads to: in TRIPLE the outlier excludes itself and its peers request it; in DUPLEX
attribution (R99, R107). -/
def LaneSt.judgeEstablished (l : LaneSt) : LaneSt :=
  let est := l.memberView.filter (fun k => decide (l.rd VOTE.CTRL.DIS_LIMIT ≤ l.disCount k))
  if est.isEmpty ∨ !l.isMember ∨ l.inSafe then l
  else if l.memberView.length = 2 then l.attribute false
  else if est.contains l.id then l.exclude causePeerDisagree
  else est.foldl (fun l p => l.requestExclusion p causePeerDisagree) l

/-- The cause for which both peers request this lane's exclusion, as this lane can tell it. -/
def LaneSt.requestedCause (l : LaneSt) : Nat :=
  if l.time.differs then causePeerTime else if 2 ≤ l.folio.bad then causePeerFolio else causePeerDisagree

/-- Exclusion requests: in TRIPLE they take effect when both other members make them, in DUPLEX they lead to attribution
(R104). -/
def LaneSt.judgeRequests (l : LaneSt) : LaneSt :=
  let req (p k : LaneId) : Bool := ((l.peer p).frame.map (fun f => bit f.exclReq k.num)).getD false
  if !l.isMember ∨ l.inSafe then l
  else if l.memberView.length = 3 then
    if req l.id.peer0 l.id && req l.id.peer1 l.id then l.exclude l.requestedCause
    else
      let out (p q : LaneId) (l : LaneSt) : LaneSt :=
        if bit l.vote.exclReq p.num && req q p then (l.holdRef true).excludePeer p (l.vote.reqCause.get p.fin) else l
      out l.id.peer1 l.id.peer0 (out l.id.peer0 l.id.peer1 l)
  else if l.memberView.length = 2 ∧ (l.vote.exclReq ≠ 0 ∨ l.memberView.any (fun p => p ≠ l.id && req p l.id)) then
    ({ l with vote := { l.vote with exclReq := 0 } } : LaneSt).attribute false
  else l

/-- The voted commands of a vote. -/
def LaneSt.setVoted (l : LaneSt) (vs : List (Nat × ChVote)) : LaneSt :=
  { l with vote := { l.vote with
      voted := vs.foldl (fun v x => x.2.value.elim v (fun t => v.setIfInBounds x.1 t)) l.vote.voted } }

/-- Peers that report in their frames that they are members no longer. -/
def LaneSt.noteLeavers (l : LaneSt) : LaneSt :=
  l.peers.foldl (fun l p =>
    match (l.peer p).frame with
    | none => l
    | some f => if (l.peer p).memb = selfMember ∧ f.self ≠ selfMember then l.excludePeer p (l.peerCause p) else l) l

/-- VOTE_COMPUTE: the vote of the present cycle, once, in a lane that has taken its boundary. -/
def LaneSt.voteCompute (l : LaneSt) : LaneSt :=
  if l.vote.done ∨ !l.voting then l
  else
    let l : LaneSt := { l with vote := { l.vote with done := true } }
    let l := (if l.time.stepped then l else l.peers.foldl LaneSt.judgeLinks l).noteLeavers
    if !l.isMember ∧ l.self ≠ selfShadow then l
    else
      let fs := l.memberFrames
      let missing : Bool := decide (fs.length < l.memberView.length)
      let vs := (List.range 8).map (fun n => (n, l.voteChannel fs n))
      let marked := vs.foldl (fun m x => m ||| x.2.marked) 0
      let gap := vs.any (fun x => x.2.value.isNone)
      let noMaj := vs.any (fun x => x.2.noMaj)
      let l := (l.setVoted vs).reportProofs fs
      let l := if l.self = selfShadow then l.shadowVote vs l.id l.ownFrame else l
      let l := l.peers.foldl (fun l p => if (l.peer p).memb = selfShadow then l.shadowVote vs p (l.peer p).frame else l) l
      if l.time.stepped then l
      else
        let l := fs.foldl (fun l x => l.countVote x.1 (bit marked x.1.num)) l
        let l := if l.isMember then (l.countNoMaj noMaj).judgeEstablished.judgeRequests else l
        if !l.isMember then (if l.self = selfShadow ∧ !(missing || gap || marked != 0) then { l with vote := { l.vote with ref := l.vote.voted } } else l)
        else
          let bad := missing || gap || marked != 0
          let l := if l.vote.noMajWait then
              (if bad then l.enterSafe 3 else { l with vote := { l.vote with noMajWait := false } })
            else l
          if bad ∨ l.on VOTE.STATUS.ATTRIBUTING ∨ l.memberView.length < popCount 3 l.members then l.holdRef true
          else { l.holdRef false with vote := { l.vote with ref := l.vote.voted, holdFrom := none } }

def execVoteCompute (l : LaneId) (s : State) : Host.Outcome State Fault Refusal := onLane l LaneSt.voteCompute s

/-! ## Controlled stops of the machine (R114 to R116) -/

/-- The category of a stop by its cause (K4, K6). -/
def LaneSt.stopCategory (l : LaneSt) (cause : Nat) : Nat :=
  if cause = 4 then 1 + l.rd VOTE.STOP.NET_CAT else if cause = 5 then 1 + l.rd VOTE.STOP.HOST_CAT else 1

/-- Every channel enters a controlled stop with a cause and category; a stop of a lower category takes the place of one
that runs. -/
def LaneSt.stopAll (l : LaneSt) (cause cat : Nat) : LaneSt :=
  let running := l.on VOTE.STATUS.STOPPING
  let l := (List.range 8).foldl (fun l n => l.stopEntry n cause cat) l
  let l := if running ∧ l.vote.stopCat ≤ cat then l
    else ({ l with vote := { l.vote with stopCause := cause, stopCat := cat } } : LaneSt).raise 2 4
  if cat = 0 then (l.wr VOTE.STATUS.STOPPING 0).judgeOutputs else l.wr VOTE.STATUS.STOPPING 1

/-- The controlled stop of the machine ends in its category. -/
def LaneSt.stopDone (l : LaneSt) : LaneSt :=
  if !l.on VOTE.STATUS.STOPPING then l
  else
    let own (l : LaneSt) (n : Nat) : Bool := (l.ch n).sfStop = 0
    let l := (List.range 8).foldl (fun l n => if own l n then l.stopEnd n else l) l
    (((l.wr VOTE.STATUS.STOPPING 0).judgeOutputs)).raise 2 4

/-- Every channel of the mask that is in a controlled stop rests. -/
def LaneSt.allRest (l : LaneSt) (mask : Nat) : Bool := (List.range 8).all (fun n => !bit mask n || l.stopRests n)

/-- CONTROLLED_STOP_END: every stop of this lane whose channels have all come to rest ends, those of safety functions
and that of the machine. -/
def LaneSt.stopsEnd (l : LaneSt) (force : Bool) : LaneSt :=
  let l := (List.range 16).foldl (fun l f =>
    if l.on (SIO.SF_STATUS.STOPPING f) ∧ (force ∨ l.allRest (l.rd (SIO.SF_CTRL.STOP_MAP f))) then l.sfStopEnd f else l) l
  if force ∨ l.allRest 0xFF then l.stopDone else l

def execControlledStopEnd (l : LaneId) (s : State) : Host.Outcome State Fault Refusal := onLane l (fun x => x.stopsEnd false) s

/-- STOP_TMAX_EXPIRED: VOTE.STOP.TMAX ends the stop where its channels are. -/
def execStopTmaxExpired (l : LaneId) (s : State) : Host.Outcome State Fault Refusal := onLane l (fun x => x.stopsEnd true) s

/-- Channels of which this lane has lost a position source. -/
def LaneSt.lostSources (l : LaneSt) : Nat :=
  maskOf 8 (fun n => l.rd (COMM.SRC_STATUS.PRIMARY n) = 2 || l.rd (COMM.SRC_STATUS.SECONDARY n) = 2)

/-- K1 applies: with a lane lost and a position source lost in any member, or sources of two channels in whichever members
(R116). The model joins the members' own losses where a member would learn of a peer's from its records (log entry 51). -/
def State.k1Due (s : State) (k : LaneId) : Bool :=
  let lost := (s.membersOf k).foldl (fun m j => m ||| (s.lane j).lostSources) 0
  (lost != 0 && decide (popCount 3 (s.lane k).members < 3)) || decide (2 ≤ popCount 8 lost)

/-- Put the K1 speed limit in force on every channel, or lift it; a moving generator reaches it under the stop limits. -/
def LaneSt.judgeK1 (l : LaneSt) (due : Bool) : LaneSt :=
  (List.range 8).foldl (fun l n =>
    if (l.ch n).k1 = due then l
    else ((l.setComm n (fun c => { c with k1 := !c.k1 })).showLimits n).replanSame (2 * n) l.replanNs true) l

end Sys2Proof.Machine
end

