-- ==== Sys2Proof/Machine/Time.lean ====
section
/-!
DEFINITION. The time base: the lane time counter, sources, servo and steps, the grandmaster, the lane time comparison
and the compare units (R274 to R290, R482).
-/

namespace Sys2Proof.Machine

open Sys2Proof

/-! ## The counter (R274, R275) -/

/-- One NET clock of a lane: the counter advances by 8 ns × (1 + RATE), RATE in units of 0.001 ppm; the velocities follow as
their windows move on (R219), and the switches their edges (R245, R249). -/
def LaneSt.netClock (l : LaneSt) : LaneSt :=
  if !l.time.running then l
  else
    let l : LaneSt := { l with time := { l.time with
      now := (l.time.now + 8 * 2 ^ 32 + qdiv (8 * 2 ^ 32 * l.rdI TIME.RATE.VALUE) (10 ^ 9)).toNat } }
    ((List.range 24).foldl (fun l p => if l.rd (FBK.STATUS.STATE p) = 0 then l else l.setVel p) l).gateClock

def execTimeCounter (l : LaneId) (s : State) : Host.Outcome State Fault Refusal := onLane l (fun x => x.fault 0x067 0) s

/-! ## Sources (R277) -/

/-- STATUS.SOURCE encodings. -/
def srcFree : Nat := 0
def srcGmRed : Nat := 1
def srcGmBlue : Nat := 2
def srcPeer : Nat := 3
def srcHoldover : Nat := 4
def srcOwn : Nat := 5

/-- A source of which LOCKED is 1 (R286). -/
def lockedSource (s : Nat) : Bool := s = srcGmRed || s = srcGmBlue || s = srcOwn

/-- The source the lane follows. -/
def LaneSt.timeSource (l : LaneSt) : Nat := l.rd TIME.STATUS.SOURCE

/-- The lane follows a source: SOURCE and the FORM it gives, with the interrupts of their changes; PLAN_END is in the lane's
present form (R140). -/
def LaneSt.setSource (l : LaneSt) (src : Nat) : LaneSt :=
  let form := b2n (src ≠ srcFree)
  let l := if l.timeSource = src then l else (l.wr TIME.STATUS.SOURCE src).raise 3 5
  if l.rd TIME.STATUS.FORM = form then l
  else (List.range 16).foldl LaneSt.showPlanEnd ((l.wr TIME.STATUS.FORM form).raise 3 4)

/-- T32, SOURCE, STEP_READY and LOCKED of a peer's last record. -/
def LaneSt.timeRec (l : LaneSt) (p : LaneId) : Bool × Nat × Bool × Bool := if p = l.id.peer0 then l.time.rec0 else l.time.rec1

/-- The peer's offset at its last record, in ns. -/
def LaneSt.timeOff (l : LaneSt) (p : LaneId) : Option Int := if p = l.id.peer0 then l.time.off0 else l.time.off1

/-- Another member reports LOCKED. -/
def LaneSt.otherLocked (l : LaneSt) : Bool := l.memberPeers.any (fun p => (l.timeRec p).2.2.2)

/-- The median of the times of one to three lanes: of two, the middle between them. -/
def medianTime : List Int → Int
  | [x] => x
  | [x, y] => qdiv (x + y) 2
  | [x, y, z] => median3 x y z
  | _ => 0

/-- Offset of the members' median from this lane's time. -/
def LaneSt.memberMedian (l : LaneSt) : Int :=
  medianTime ((if l.isMember then [0] else []) ++ l.memberPeers.filterMap l.timeOff)

/-- Offset of the target the lane steers to, none for OWN; an EXCLUDED lane steers to the members' median whatever its source
(R277, R280). -/
def LaneSt.targetOffset (l : LaneSt) : Option Int :=
  let src := l.timeSource
  if l.self = selfExcluded then some l.memberMedian
  else if src = srcOwn then none
  else if src = srcGmRed ∨ src = srcGmBlue ∨ l.on TIME.STATUS.ACQUIRING then some l.time.gmOffset
  else if src = srcPeer then
    some (medianTime ((l.memberPeers.filter (fun p => (l.timeRec p).2.2.2)).filterMap l.timeOff))
  else some l.memberMedian

/-! ## Servo and steps (R278, R279) -/

/-- A step is permitted as far as this lane can tell: every channel DISABLED or FAULTED, every AUX leg off, no commit
pending, no TIMED entry queued. -/
def LaneSt.stepPermitted (l : LaneSt) : Bool :=
  (List.range 8).all (fun n => l.chState n = 0 || l.chState n = 5)
    && (List.range 24).all (fun m => l.rd (GATE.LEG_CTRL.USE m) ≠ 2 || l.rd (GATE.STATUS.STATE m) = 0 || l.rd (GATE.STATUS.STATE m) = 5)
    && l.commit.isNone && (List.range 16).all (fun g => (l.pg g).queue.isEmpty)

/-- The servo: RATE within SLEW_PPM of RATE_locked and within 200 ppm, toward the target. How fast it slews within that
bound is a free value (log entry 7). -/
def LaneSt.servo (l : LaneSt) (t : Int) : LaneSt :=
  let x := l.fresh
  let bound := 1000 * l.rd TIME.SERVO.SLEW_PPM
  let d : Int := (x.1 % (bound + 1) : Nat)
  let rate := l.time.lockedRate + (if 0 < t then d else if t < 0 then -d else 0)
  x.2.wrI TIME.RATE.VALUE (max (-200000) (min 200000 rate))

/-- A lane locked to its grandmaster tracks its frequency: RATE and RATE_locked are what the servo finds, within
200 ppm (log entry 7). -/
def LaneSt.trackRate (l : LaneSt) : LaneSt :=
  let x := l.fresh
  let rate : Int := (x.1 % 400001 : Nat) - 200000
  let l : LaneSt := x.2.wrI TIME.RATE.VALUE rate
  { l with time := { l.time with lockedRate := rate } }

/-- Whether a step is due, and what the lane does then: ready to step, or the step deferred and the lane slewing until
it is within 1 µs of the target it is locked to. -/
def LaneSt.judgeStep (l : LaneSt) (t : Int) : LaneSt :=
  let due : Bool := decide (1000 * l.rd TIME.SERVO.STEP_TH < t.natAbs) && l.isMember
  if due && !l.stepPermitted then
    let l : LaneSt := { l with time := { l.time with stepReady := false } }
    if l.on TIME.STATUS.STEP_PENDING then l else (l.wr TIME.STATUS.STEP_PENDING 1).fault 0x064 0
  else
    let l := if t.natAbs ≤ 1000 ∧ !l.on TIME.STATUS.ACQUIRING then l.wr TIME.STATUS.STEP_PENDING 0 else l
    { l with time := { l.time with stepReady := due } }

/-- The lane steers to its target. -/
def LaneSt.steer (l : LaneSt) : LaneSt :=
  match l.targetOffset with
  | none => l
  | some t => (l.servo t).judgeStep t

/-- The counter is set to its target: a step by an offset in ns. What is left of a lockout and of the session's idle time
stays as it was (R412, R413). -/
def LaneSt.stepBy (l : LaneSt) (t : Int) : LaneSt :=
  let l := l.setTime (l.time.now + t * 2 ^ 32).toNat
  { l with
    sec := { l.sec with lockUntil := l.sec.lockUntil.map (fun u => (u + t).toNat), idleFrom := (l.sec.idleFrom + t).toNat }
    time := { l.time with
      gmOffset := l.time.gmOffset - t,
      off0 := l.time.off0.map (· - t), off1 := l.time.off1.map (· - t), stepReady := false, stepAgreed := false } }

/-- TIME_STEP: an agreed step takes place at the first boundary at least 1 ms after the comparison that agreed it, each
member by its own measured offset; gate control lists wait for their next cycle start (R298).
COUNTS.STEPS counts these steps alone, not those of formation and readmission: the table of R293 does not say (DESIGN
CHOICE, log entry 52). -/
def LaneSt.timeStep (l : LaneSt) : LaneSt :=
  match l.targetOffset with
  | none => l
  | some t =>
    if !l.time.stepAgreed ∨ !l.isMember ∨ l.boundaryNs < l.time.agreedAt + 10 ^ 6 then l
    else if !l.stepPermitted then { l with time := { l.time with stepAgreed := false } }
    else
      let l := ((l.stepBy t).wr TIME.STATUS.STEP_PENDING 0).satInc 3 TIME.COUNTS.STEPS
      let l := l.wrSat TIME.OFFSET_GM.NS l.time.gmOffset
      { l with time := { l.time with stepped := true },
               net := { l.net with gate := l.net.gate.map (fun g => (64, g.2)) } }

def execTimeStep (l : LaneId) (s : State) : Host.Outcome State Fault Refusal := onLane l LaneSt.timeStep s

/-! ## Grandmaster (R277, R282, R285) -/

/-- The identity heard on a network. -/
def LaneSt.gmHeard (l : LaneSt) (blue : Bool) : Option Nat := if blue then l.time.gmIds.2 else l.time.gmIds.1

/-- Rank of the best master heard on a network, smaller is better. -/
def LaneSt.gmRank (l : LaneSt) (blue : Bool) : Option Nat := if blue then l.time.best.2 else l.time.best.1

/-- The network whose grandmaster the lane follows or acquires: it stays with the one it follows, else NET_PREF where
both offer one. -/
def LaneSt.gmNetwork (l : LaneSt) : Option Bool :=
  let stay : Bool := l.timeSource = srcGmRed || l.timeSource = srcGmBlue || l.on TIME.STATUS.GM_SUSPECT
  if stay then some l.time.gmBlue
  else match l.time.gmIds.1, l.time.gmIds.2 with
    | none, none => none
    | some _, none => some false
    | none, some _ => some true
    | some _, some _ => some (l.on TIME.CTRL.NET_PREF)

/-- GM_DIFFERS, ACQUIRING and GM_ID as the grandmasters heard give them. -/
def LaneSt.showGm (l : LaneSt) : LaneSt :=
  let ids := l.time.gmIds
  let l := l.wrB TIME.STATUS.GM_DIFFERS (ids.1.isSome && ids.2.isSome && ids.1 != ids.2)
  let acq : Bool := (l.timeSource = srcFree || l.timeSource = srcHoldover) && l.gmNetwork.isSome && !l.on TIME.STATUS.GM_SUSPECT
  let l := if acq && !l.on TIME.STATUS.ACQUIRING then { l with time := { l.time with lockRun := 0 } } else l
  let l := l.wrB TIME.STATUS.ACQUIRING acq
  let l : LaneSt := match l.gmNetwork with
    | none => l
    | some b => { l with time := { l.time with gmBlue := b } }
  l.wr TIME.GM_ID.ID (match l.gmNetwork with
    | none => 0
    | some b => (l.gmHeard b).getD 0)

/-- The lane offers itself as grandmaster. -/
def LaneSt.gmOffers (l : LaneSt) : Bool :=
  l.on TIME.CTRL.PTP_EN && l.on TIME.CTRL.GM_EN && decide (l.rd TIME.CTRL.GM_LANE = l.id.num)

/-- The lane's own rank: priority1, clockClass, accuracy and variance unknown, priority2. -/
def LaneSt.ownRank (l : LaneSt) : Nat :=
  l.rd TIME.GM_CFG.PRIO1 * 2 ^ 40 + l.rd TIME.GM_CFG.CLASS * 2 ^ 32 + 0xFE * 2 ^ 24 + 0xFFFF * 2 ^ 8 + l.rd TIME.GM_CFG.PRIO2

/-- The algorithm elects the lane: it offers itself and is better than the best master heard on each network. Between
equal ranks the clock identities decide, and the spec gives this lane none: a free value (log entry 7). -/
def LaneSt.elected (l : LaneSt) : Bool :=
  let beats (r : Option Nat) : Bool := match r with
    | none => true
    | some r => decide (l.ownRank < r) || (decide (l.ownRank = r) && l.fresh.1 % 2 = 1)
  l.gmOffers && beats l.time.best.1 && beats l.time.best.2

/-- The outcome of the election: the lane's source becomes OWN, or it leaves OWN as a lane leaves a lost grandmaster. -/
def LaneSt.judgeElection (l : LaneSt) : LaneSt :=
  if l.elected then (l.setSource srcOwn).showGm
  else if l.timeSource = srcOwn then (l.setSource (if l.otherLocked then srcPeer else srcHoldover)).showGm
  else l.showGm

/-- ANNOUNCE_RECEIVE: the message is taken into the best master choice of its network. -/
def LaneSt.announce (l : LaneSt) (blue : Bool) (rank gm : Nat) : LaneSt :=
  if !l.on TIME.CTRL.PTP_EN ∨ !l.time.running then l
  else
    let better : Bool := match l.gmRank blue, l.gmHeard blue with
      | some r, some g => decide (g = gm) || decide (rank < r) || (decide (rank = r) && decide (gm < g))
      | _, _ => true
    let l : LaneSt := if !better then l
      else if blue then { l with time := { l.time with best := (l.time.best.1, some rank), gmIds := (l.time.gmIds.1, some gm) } }
      else { l with time := { l.time with best := (some rank, l.time.best.2), gmIds := (some gm, l.time.gmIds.2) } }
    l.judgeElection

def execAnnounceReceive (l : LaneId) (blue : Bool) (rank : Nat) (gmId : Dword) (s : State) : Host.Outcome State Fault Refusal :=
  onLane l (fun x => x.announce blue rank gmId.toNat) s

/-- PTP_SYNC_RECEIVE: a Sync of the grandmaster gives the measured offset in ns; LOCK_N in a row within 1 µs lock the
lane. The measured link delay of the network is a free value (log entry 7). -/
def LaneSt.syncReceive (l : LaneSt) (blue : Bool) (offset : Int) : LaneSt :=
  if !l.on TIME.CTRL.PTP_EN ∨ !l.time.running ∨ l.timeSource = srcOwn ∨ (l.gmHeard blue).isNone ∨ l.gmNetwork ≠ some blue then l
  else
    let x := l.fresh
    let l := x.2.wr (if blue then TIME.PATH_DELAY.BLUE else TIME.PATH_DELAY.RED) (x.1 % 2 ^ 16)
    let l : LaneSt := { l with time := { l.time with gmOffset := offset, gmBlue := blue } }
    let l := (l.wrSat TIME.OFFSET_GM.NS offset).showGm
    if l.on TIME.STATUS.GM_SUSPECT then l
    else if l.timeSource = srcGmRed ∨ l.timeSource = srcGmBlue then
      if l.self = selfExcluded then l else l.trackRate.judgeStep offset
    else
      let run := if offset.natAbs ≤ 1000 then l.time.lockRun + 1 else 0
      let l : LaneSt := { l with time := { l.time with lockRun := run } }
      if l.rd TIME.SERVO.LOCK_N ≤ run then
        let l := (l.wr TIME.STATUS.ACQUIRING 0).wr TIME.STATUS.STEP_PENDING 0
        let l : LaneSt := { l with time := { l.time with
          lockRun := 0, stepReady := false, holdStart := none, lockedRate := l.rdI TIME.RATE.VALUE } }
        (((l.wr TIME.STATUS.HOLD_LEFT 0).setSource (if blue then srcGmBlue else srcGmRed))).showGm
      else l.steer

def execPtpSyncReceive (l : LaneId) (blue : Bool) (offset : Int) (s : State) : Host.Outcome State Fault Refusal :=
  onLane l (fun x => x.syncReceive blue offset) s

/-- The grandmaster of a network is heard no longer. -/
def LaneSt.forgetGm (l : LaneSt) (blue : Bool) : LaneSt :=
  if blue then { l with time := { l.time with best := (l.time.best.1, none), gmIds := (l.time.gmIds.1, none) } }
  else { l with time := { l.time with best := (none, l.time.best.2), gmIds := (none, l.time.gmIds.2) } }

/-- GM_LOST: three sync intervals without Sync, or the Announce timeout, on the network followed or acquired. -/
def LaneSt.gmLost (l : LaneSt) : LaneSt :=
  match l.gmNetwork with
  | none => l
  | some b =>
    let l := l.forgetGm b
    if l.timeSource = srcGmRed ∨ l.timeSource = srcGmBlue then
      ((((l.setSource (if l.otherLocked then srcPeer else srcHoldover)).satInc 3 TIME.COUNTS.GM_LOSSES).fault 0x062 0)).judgeElection
    else l.judgeElection

def execGmLost (l : LaneId) (s : State) : Host.Outcome State Fault Refusal := onLane l LaneSt.gmLost s

/-! ## The lane time comparison (R286, R287, R482) -/

/-- Largest difference between the members' times, in ns. -/
def timeSpread (offs : List Int) : Nat := (offs.foldl max 0 - offs.foldl min 0).toNat

/-- The lock state of the members at a comparison: the start of holdover, and the source of a lane that follows a peer
or could (R277, R285, R482). -/
def LaneSt.judgeLock (l : LaneSt) : LaneSt :=
  let own : Bool := l.memberPeers.any (fun p => (l.timeRec p).2.1 = srcOwn)
  let l := if l.timeSource = srcPeer ∧ !l.otherLocked then l.setSource srcHoldover
    else if (l.timeSource = srcFree ∨ l.timeSource = srcHoldover) ∧ own then l.setSource srcPeer
    else l
  let l := l.showGm
  let locked : Bool := lockedSource l.timeSource || l.otherLocked
  let l : LaneSt := { l with time := { l.time with
    holdStart := if locked then none else some (l.time.holdStart.getD (l.boundaryNs * 2 ^ 32)) } }
  let left : Int := match l.time.holdStart with
    | none => 0
    | some t => (t / 2 ^ 32 + l.rd TIME.HOLD.HOLDOVER * 10 ^ 9 : Nat) - (l.ns : Int)
  l.wr TIME.STATUS.HOLD_LEFT (if l.timeSource = srcHoldover ∧ 0 < left then min 0xFFFF (qdiv left (10 ^ 9)).toNat else 0)

/-- GM_SUSPECT: set when a locked lane's time departs from the two other members' at two comparisons, cleared by 1,000
in a row within CMP_TOL. -/
def LaneSt.judgeSuspect (l : LaneSt) (offs : List Int) : LaneSt :=
  let tol := l.rd TIME.HOLD.CMP_TOL
  if l.on TIME.STATUS.GM_SUSPECT then
    let heard : Bool := l.time.suspectFrom = srcOwn || (l.gmHeard l.time.gmBlue).isSome
    let gm : Int := if l.time.suspectFrom = srcOwn then 0 else l.time.gmOffset
    let good := if heard ∧ (gm - l.memberMedian).natAbs ≤ tol then l.time.cmpGood + 1 else 0
    let l : LaneSt := { l with time := { l.time with cmpGood := good } }
    if good < 1000 then l
    else ((({ l with time := { l.time with cmpGood := 0 } } : LaneSt).wr TIME.STATUS.GM_SUSPECT 0).setSource l.time.suspectFrom).showGm
  else
    let bad : Bool := lockedSource l.timeSource && (match offs with
      | [x, y] => decide (tol < x.natAbs) && decide (tol < y.natAbs) && decide ((x - y).natAbs ≤ tol)
      | _ => false)
    let n := if bad then l.time.cmpBad + 1 else 0
    let l : LaneSt := { l with time := { l.time with cmpBad := n } }
    if n < 2 then l
    else
      let l : LaneSt := { l with time := { l.time with cmpBad := 0, cmpGood := 0, suspectFrom := l.timeSource } }
      (((l.wr TIME.STATUS.GM_SUSPECT 1).setSource srcPeer).satInc 3 TIME.COUNTS.SUSPECT).fault 0x063 0

/-- TIME_DIFF: a member whose time differs from both others' by more than 1 µs while those agree within it; in DUPLEX
attribution. A comparison of different forms is not used. -/
def LaneSt.judgeDiff (l : LaneSt) : LaneSt :=
  let same : Bool := l.memberPeers.all (fun p => (l.timeRec p).1 = l.t32)
  let l : LaneSt := { l with time := { l.time with differs := false } }
  let o (p : LaneId) : Int := (l.timeOff p).getD 0
  if !same then l
  else match l.memberPeers with
    | [p] => if 1000 < (o p).natAbs then l.attribute false else l
    | [p, q] =>
      let own : Bool := decide (1000 < (o p).natAbs) && decide (1000 < (o q).natAbs) && decide ((o p - o q).natAbs ≤ 1000)
      let out (p q : LaneId) (l : LaneSt) : LaneSt :=
        if 1000 < (o p).natAbs ∧ 1000 < (o p - o q).natAbs ∧ (o q).natAbs ≤ 1000 then l.requestExclusion p causePeerTime else l
      if own then
        ((({ l with time := { l.time with differs := true } } : LaneSt).satInc 3 TIME.COUNTS.TIME_DIFF).fault 0x066 0)
      else out q p (out p q l)
    | _ => l

/-- One comparison: offsets in the lane blocks, the largest difference, the agreement on a step, then what R287 and R482
judge. -/
def LaneSt.compareTimes (l : LaneSt) : LaneSt :=
  let offs := l.memberPeers.filterMap l.timeOff
  let med := l.memberMedian
  let l := LaneId.all.foldl (fun l k => l.setBlk k (fun b => { b with
    timeOffset := (if k = l.id then 0 else (l.timeOff k).getD (b.timeOffset + med)) - med })) l
  let l : LaneSt := { l with time := { l.time with
    arrived := (false, false), spread := timeSpread offs,
    agreedAt := if l.time.stepAgreed then l.time.agreedAt else l.boundaryNs,
    stepAgreed := l.time.stepReady && l.isMember && l.memberPeers.all (fun p => (l.timeRec p).2.2.1) } }
  let l := if l.isMember then (l.judgeSuspect offs).judgeLock.judgeDiff else l
  if (l.timeSource = srcGmRed ∨ l.timeSource = srcGmBlue) ∧ l.self ≠ selfExcluded then l else l.steer

/-- TIME_COMPARISON: a member sends its TIME_CMP record to each peer; a lane with no other member compares with itself
alone. -/
def LaneSt.timeComparison (l : LaneSt) : LaneSt :=
  if !l.isMember ∨ !l.time.running then l
  else
    let hdr := b2n l.t32 + 2 * l.timeSource + 16 * b2n l.time.stepReady + 32 * b2n (lockedSource l.timeSource)
    let l := l.send 0x11 hdr [stampNs l.t32 l.ns + 2 ^ 32 * (stampS l.t32 l.ns % 2 ^ 32)]
    if l.memberPeers.isEmpty then l.compareTimes else l

def execTimeComparison (l : LaneId) (s : State) : Host.Outcome State Fault Refusal := onLane l LaneSt.timeComparison s

/-- The peer's offset: its time plus the link delay minus the arrival, modulo 2^32 s, as the nearest signed number; in
T32 form the counts wrap at 2^64 ns. -/
def LaneSt.peerOffset (l : LaneSt) (p : LaneId) (t32 : Bool) (ns sec : Nat) : Int :=
  let d := if p = l.id.peer0 then l.time.delay.1 else l.time.delay.2
  let m : Nat := if t32 then 2 ^ 64 else 2 ^ 32 * 10 ^ 9
  let t : Nat := (if t32 then sec * 2 ^ 32 + ns else sec * 10 ^ 9 + ns) + d
  let x : Nat := (t % m + (m - l.ns % m)) % m
  if 2 * x < m then (x : Int) else (x : Int) - m

/-- TIME_CMP_RECEIVE: the peer's offset; once the records of every other member have come, the comparison. -/
def LaneSt.timeCmp (l : LaneSt) (p : LaneId) (t32 : Bool) (src : Nat) (ready locked : Bool) (ns sec : Nat) : LaneSt :=
  let o := l.peerOffset p t32 ns sec
  let l : LaneSt := if p = l.id.peer0 then
      { l with time := { l.time with off0 := some o, rec0 := (t32, src, ready, locked), arrived := (true, l.time.arrived.2) } }
    else
      { l with time := { l.time with off1 := some o, rec1 := (t32, src, ready, locked), arrived := (l.time.arrived.1, true) } }
  let l := l.wrSat (if p = l.id.peer0 then TIME.PEER_OFF.P0 else TIME.PEER_OFF.P1) o
  if l.memberPeers.all (fun q => if q = l.id.peer0 then l.time.arrived.1 else l.time.arrived.2) then l.compareTimes else l

def execTimeCmpReceive (l : LaneId) (src : Arrival) (t32 : Bool) (source : BitVec 3) (stepReady locked : Bool) (ns sec : Word)
    (s : State) : Host.Outcome State Fault Refusal :=
  onReceive l src (fun x => x.timeCmp src.lane t32 source.toNat stepReady locked ns.toNat sec.toNat) s

/-- The present boundary lies at or after the start of holdover plus HOLD.HOLDOVER (R482). -/
def LaneSt.holdoverOver (l : LaneSt) : Bool :=
  l.time.holdStart.any (fun t => decide (t + l.rd TIME.HOLD.HOLDOVER * 10 ^ 9 * 2 ^ 32 ≤ l.boundaryNs * 2 ^ 32))

/-- HOLDOVER_EXPIRED: at the boundary after HOLD.HOLDOVER every member changes to FREE and T32 form. -/
def LaneSt.holdoverExpired (l : LaneSt) : LaneSt :=
  if l.timeSource ≠ srcHoldover ∨ !l.holdoverOver then l
  else (((l.setSource srcFree).wr TIME.STATUS.HOLD_LEFT 0).fault 0x065 0).showGm

def execHoldoverExpired (l : LaneId) (s : State) : Host.Outcome State Fault Refusal := onLane l LaneSt.holdoverExpired s

/-! ## Compare units (R290) -/

/-- How many instants of a compare unit lane time has reached. -/
def LaneSt.compareIndex (l : LaneSt) (c : Nat) : Nat :=
  (l.ns / 1000 + l.rd (TIME.CMP_PERIOD.PERIOD c) - l.rd (TIME.CMP_CTRL.PHASE c)) / l.rd (TIME.CMP_PERIOD.PERIOD c)

/-- COMPARE_UNIT: at each of its instants an enabled unit raises its source, unless it is silent in T32 form. -/
def LaneSt.compareUnit (l : LaneSt) (c : Fin 4) : LaneSt :=
  if !l.on (TIME.CMP_CTRL.EN c) ∨ l.compareIndex c = l.time.cmpAt.get c then l
  else
    let l : LaneSt := { l with time := { l.time with cmpAt := l.time.cmpAt.set c (l.compareIndex c) } }
    if l.on (TIME.CMP_CTRL.TIME80_ONLY c) && l.t32 then l else l.raise 3 c.val

def execCompareUnit (l : LaneId) (c : Fin 4) (s : State) : Host.Outcome State Fault Refusal :=
  onLane l (fun x => x.compareUnit c) s

end Sys2Proof.Machine
end

