-- ==== Sys2Proof/Machine/Bridge.lean ====
section
/-!
DEFINITION. The Ethernet ports and the Red and Blue bridges: learning, forwarding, the transparent clock, MACsec, gate
control lists, and the PTP messages the lane sends itself (R283, R285, R294 to R299).
-/

namespace Sys2Proof.Machine

open Sys2Proof

/-! ## Ports (R294, R296, R297) -/

/-- Register fields of port `p` (0 RED0, 1 RED1, 2 BLU0, 3 BLU1). -/
def portEnF (p : Nat) : Field := if p % 2 = 0 then NET.PORT_CTRL.EN0 (p / 2) else NET.PORT_CTRL.EN1 (p / 2)
def portLinkF (p : Nat) : Field := if p % 2 = 0 then NET.PORT_STATUS.LINK0 (p / 2) else NET.PORT_STATUS.LINK1 (p / 2)
def portRateF (p : Nat) : Field := if p % 2 = 0 then NET.PORT_STATUS.RATE0 (p / 2) else NET.PORT_STATUS.RATE1 (p / 2)
def portSpeedF (p : Nat) : Field := if p % 2 = 0 then NET.PORT_CTRL.SPEED0 (p / 2) else NET.PORT_CTRL.SPEED1 (p / 2)
def portMacsecF (p : Nat) : Field := if p % 2 = 0 then NET.PORT_CTRL.MACSEC0 (p / 2) else NET.PORT_CTRL.MACSEC1 (p / 2)
def portQbvF (p : Nat) : Field := if p % 2 = 0 then NET.PORT_CTRL.QBV0 (p / 2) else NET.PORT_CTRL.QBV1 (p / 2)

/-- The block number of a network in fault codes and saturating counts: 4 NET Red, 5 NET Blue. -/
def netBlock (p : Nat) : Nat := 4 + p / 2

/-- Fault code of a network's event from its Red and its Blue code. -/
def netCode (p red blue : Nat) : Nat := if p / 2 = 0 then red else blue

/-- Change the network state of the lane that is no register. -/
def LaneSt.setNet (l : LaneSt) (f : NetSt → NetSt) : LaneSt := { l with net := f l.net }

/-- The shutdown of a port runs. -/
def LaneSt.portStopping (l : LaneSt) (p : Nat) : Bool := bit (l.rd (NET.PORT_STATUS.STOPPING (p / 2))) (p % 2)

/-- The port is enabled and not shutting down: it receives frames. A port whose enable a shutdown overrun has cancelled stays
disabled until the next commit (R32). -/
def LaneSt.portActive (l : LaneSt) (p : Nat) : Bool := l.on (portEnF p) && !l.portStopping p && !bit l.net.cancelled p

/-- A frame directed to the port can be sent now: it is active with its link up. -/
def LaneSt.portUp (l : LaneSt) (p : Nat) : Bool := l.portActive p && l.on (portLinkF p)

/-- The bridges forward: the lane is in RUN, HOLD or NAP_ENTRY, no full proof has its NET island, and no fatal fault of
that island is latched (R296). -/
def LaneSt.bridgeRuns (l : LaneSt) : Bool :=
  let st := l.rd PWR.STATUS.STATE
  let b := l.rd FLT.STATUS.FATAL_CODE / 32
  1 ≤ st && st ≤ 3 && !l.on BIST.STATUS.FULL_RUNNING && !(l.on FLT.STATUS.FATAL && 3 ≤ b && b ≤ 6)

/-- NET_UP of the lane block: bit p, the link of port p. -/
def LaneSt.showNetUp (l : LaneSt) : LaneSt :=
  l.setBlk l.id (fun b => { b with netUp := maskOf 4 (fun p => l.on (portLinkF p)) })

/-- The link of a port is down. -/
def LaneSt.linkDown (l : LaneSt) (p : Nat) : LaneSt := ((l.wr (portLinkF p) 0).wr (portRateF p) 0).showNetUp

/-- PORT_LINK_DOWN: the link of an active port changes. It comes up at the forced speed, or at one negotiated with the
PHY (a free value, log entry 7). -/
def LaneSt.linkChange (l : LaneSt) (p : Nat) : LaneSt :=
  if l.on (portLinkF p) then
    let active := l.portActive p
    let l := l.linkDown p
    if active then l.fault (netCode p 0x082 0x0A2) (p % 2) else l
  else if !l.portActive p ∨ !l.bridgeRuns then l
  else
    let x := l.fresh
    let l := if l.rd (portSpeedF p) = 0 then x.2.wr (portRateF p) (1 + x.1 % 3) else l.wr (portRateF p) (l.rd (portSpeedF p))
    (l.wr (portLinkF p) 1).showNetUp

def execPortLinkDown (l : LaneId) (port : Fin 4) (s : State) : Host.Outcome State Fault Refusal :=
  onLane l (fun x => x.linkChange port) s

/-- PORT_DRAIN_TIMEOUT: 1 ms after a disable the frames still queued are discarded and the PHY is taken down. -/
def LaneSt.drainPort (l : LaneSt) (p : Nat) : LaneSt :=
  if !l.portStopping p then l
  else (l.setNet (fun n => { n with waiting := n.waiting.filter (fun e => e.port ≠ p) })).linkDown p

def execPortDrainTimeout (l : LaneId) (port : Fin 4) (s : State) : Host.Outcome State Fault Refusal :=
  onLane l (fun x => x.drainPort port) s

/-! ## Egress (R298, R299) -/

/-- PTP frames are exempt from MACsec. -/
def Egress.ptp (e : Egress) : Bool :=
  match e.what with
  | .forward f _ => f.kind = 2
  | .yuwil _ => false
  | _ => true

/-- The gate of a queue of a port is open. -/
def LaneSt.gateOpen (l : LaneSt) (p q : Nat) : Bool := !l.on (portQbvF p) || bit (l.net.gate.getD p (0, 255)).2 q

/-- The next transmit packet number of a port. -/
def LaneSt.txPn (l : LaneSt) (p : Nat) : Nat := (l.net.pn.getD p (1, 0)).1

/-- The transmit packet number is exhausted: every queued frame but PTP is dropped and counted. -/
def LaneSt.exhaust (l : LaneSt) (p : Nat) : LaneSt :=
  let lost := l.net.waiting.filter (fun e => e.port = p && !e.ptp)
  let l := lost.foldl (fun l _ => l.satInc (netBlock p) (NET.PORT_CNT0.DROPPED (p / 2) (p % 2))) l
  let l := l.setNet (fun n => { n with waiting := n.waiting.filter (fun e => e.port ≠ p || e.ptp) })
  l.fault (netCode p 0x08F 0x0A5) (2 + p % 2)

/-- A frame leaves a port. A protected one takes a packet number; at the last one the port stops sending them. -/
def LaneSt.transmit (l : LaneSt) (e : Egress) : LaneSt :=
  let p := e.port
  if !l.on (portMacsecF p) ∨ e.ptp then l.setNet (fun n => { n with sent := n.sent ++ [e] })
  else if 0xFFFFFFFF ≤ l.txPn p then l.satInc (netBlock p) (NET.PORT_CNT0.DROPPED (p / 2) (p % 2))
  else
    let pn := l.txPn p + 1
    let l := l.setNet (fun n => { n with
      sent := n.sent ++ [e], pn := n.pn.setIfInBounds p (pn, (n.pn.getD p (1, 0)).2) })
    if pn = 0xFFFFFF00 then l.fault (netCode p 0x08F 0x0A5) (p % 2)
    else if pn = 0xFFFFFFFF then l.exhaust p
    else l

/-- A frame enters an egress queue; it leaves at once when nothing waits before it and its gate is open. -/
def LaneSt.egress (l : LaneSt) (e : Egress) : LaneSt :=
  if !l.portUp e.port then l
  else if l.gateOpen e.port e.queue && l.net.waiting.all (fun w => w.port ≠ e.port || w.queue ≠ e.queue) then l.transmit e
  else l.setNet (fun n => { n with waiting := n.waiting ++ [e] })

/-- Lane time within the cycle of a port's gate control list, in ns; none before QBV_BASE. -/
def LaneSt.qbvPlace (l : LaneSt) (p : Nat) : Option Nat :=
  let base := l.rd (NET.QBV_BASE_S.S (p / 2) (p % 2)) * 10 ^ 9 + l.rd (NET.QBV_BASE_NS.NS (p / 2) (p % 2))
  if l.ns < base then none else some ((l.ns - base) % (10 * l.rd (NET.QBV_CYCLE.CYCLE (p / 2) (p % 2))))

/-- The entry of a list of times in force at a place of the cycle; the last one keeps to the cycle's end. -/
def gclIndex : List Nat → Nat → Nat
  | d :: e :: rest, t => if t < d then 0 else 1 + gclIndex (e :: rest) (t - d)
  | _, _ => 0

/-- The entry of a port's gate control list in force at a place of the cycle. -/
def LaneSt.qbvIndex (l : LaneSt) (p t : Nat) : Nat :=
  gclIndex ((List.range (l.rd (NET.QBV_LEN.ENTRIES (p / 2) (p % 2)))).map
    (fun i => 10 * l.rd (NET.GCL.TIME (p / 2) (p % 2) i))) t

/-- Entry i of a port's gate control list sets its gates; open queues send what waits, the highest first. -/
def LaneSt.setGates (l : LaneSt) (p i : Nat) : LaneSt :=
  let g := l.rd (NET.GCL.GATES (p / 2) (p % 2) i)
  let l := l.setNet (fun v => { v with gate := v.gate.setIfInBounds p (i, g) })
  [7, 6, 5, 4, 3, 2, 1, 0].foldl (fun l q =>
    if !bit g q then l
    else
      let out := l.net.waiting.filter (fun e => e.port = p && e.queue = q)
      let l := l.setNet (fun v => { v with waiting := v.waiting.filter (fun e => !(e.port = p && e.queue = q)) })
      out.foldl LaneSt.transmit l) l

/-- QBV_GATE_ENTRY: the entry that lane time calls for comes into force. After a time step the gates stand until entry 0 is
due (DESIGN CHOICE, log entry 52). -/
def LaneSt.gateEntry (l : LaneSt) (p : Nat) : LaneSt :=
  if !l.on (portQbvF p) then l
  else match l.qbvPlace p with
    | none => l
    | some t =>
      if (l.net.gate.getD p (0, 255)).1 = 64 ∧ l.qbvIndex p t ≠ 0 then l else l.setGates p (l.qbvIndex p t)

def execQbvGateEntry (l : LaneId) (port : Fin 4) (s : State) : Host.Outcome State Fault Refusal :=
  onLane l (fun x => x.gateEntry port) s

/-! ## Ingress (R295, R299) -/

/-- The node number of the device. -/
def LaneSt.node (l : LaneSt) : Nat := l.rd ID.NODE.NODE

/-- The address of a bridge's internal port. -/
def LaneSt.internalMac (l : LaneSt) (i : Nat) : Nat := l.rd (NET.MAC_HI.ADDR i) * 2 ^ 32 + l.rd (NET.MAC_LO.ADDR i)

/-- The Yuwil group address of a node (R300). -/
def groupMac (node : Nat) : Nat := 0x035957000000 + node

/-- A group address: the first bit of the address on the wire is set. -/
def isGroupMac (a : Nat) : Bool := bit a 40

/-- MACsec at ingress: whether the frame is taken, and the lane with the check counted. -/
def LaneSt.verify (l : LaneSt) (p : Nat) (f : EthFrame) : Bool × LaneSt :=
  if !l.on (portMacsecF p) ∨ f.kind = 2 then (true, l)
  else match f.macsec with
  | none => (!l.on (NET.MS_CTRL.STRICT (p / 2) (p % 2)), l)
  | some (ok, pn) =>
    let last := (l.net.pn.getD p (1, 0)).2
    if ok && decide (last < pn) && decide (pn ≤ 0xFFFFFFFF) then
      (true, l.setNet (fun n => { n with pn := n.pn.setIfInBounds p ((n.pn.getD p (1, 0)).1, pn) }))
    else
      (false, (l.satInc (netBlock p) (NET.PORT_CNT1.MACSEC_FAIL (p / 2) (p % 2))).fault (netCode p 0x084 0x0A4) (p % 2))

/-- Learn the source of a frame: an address already known is refreshed; a full table learns nothing. -/
def LaneSt.learn (l : LaneSt) (p : Nat) (src : BitVec 48) : LaneSt :=
  let t := l.net.table.getD (p / 2) []
  if !l.on (NET.BRIDGE.LEARN (p / 2)) ∨ isGroupMac src.toNat then l
  else
    let rest := t.filter (fun x => x.1 ≠ src)
    if 256 ≤ rest.length then l
    else l.setNet (fun n => { n with table := n.table.setIfInBounds (p / 2) (rest ++ [(src, p, l.run)]) })

/-- The port a frame is forwarded to, if any: the other port of the bridge, unless its destination was learned on the
ingress port or is the internal port. -/
def LaneSt.forwardTo (l : LaneSt) (p : Nat) (dst : BitVec 48) : Option Nat :=
  let q := p / 2 * 2 + (1 - p % 2)
  if dst.toNat = l.internalMac (p / 2) then none
  else match (l.net.table.getD (p / 2) []).find? (fun x => x.1 = dst) with
    | some x => if x.2.1 = p then none else some q
    | none => some q

/-- What the transparent clock adds to the correctionField of an event message: residence, the PHY latencies of both
ports, and in P2P mode the link delay of the network (R283). -/
def LaneSt.correction (l : LaneSt) (p q residence : Nat) : Nat :=
  residence + l.rd (TIME.LAT.INGRESS p) + l.rd (TIME.LAT.EGRESS q)
    + (if l.on TIME.CTRL.DELAY_MECH then l.rd (if p / 2 = 0 then TIME.PATH_DELAY.RED else TIME.PATH_DELAY.BLUE) else 0)

/-- Forward a frame to a port; an event message is corrected while CTRL.TC_EN = 1. -/
def LaneSt.forward (l : LaneSt) (p q : Nat) (f : EthFrame) : LaneSt :=
  match f.ptpEvent with
  | some r =>
    if !l.on TIME.CTRL.TC_EN then l.egress ⟨q, f.pcp, .forward f 0⟩
    else
      let cnt := if p / 2 = 0 then TIME.TC_COUNTS.RED else TIME.TC_COUNTS.BLUE
      let mx := if p / 2 = 0 then TIME.TC_MAXRES.RED else TIME.TC_MAXRES.BLUE
      let l := (l.inc cnt).wr mx (min 0xFFFF (max (l.rd mx) r))
      l.egress ⟨q, f.pcp, .forward f (l.correction p q r)⟩
  | none => l.egress ⟨q, f.pcp, .forward f 0⟩

/-- Whether a frame is copied to the internal port. -/
def LaneSt.toInternal (l : LaneSt) (p : Nat) (f : EthFrame) : Bool :=
  f.kind = 2 || f.dst.toNat = groupMac l.node || f.dst.toNat = l.internalMac (p / 2)

/-- ETH_FRAME_RECEIVE. What Yuwil and PTP make of a frame at the internal port are commands of their own. -/
def LaneSt.ethReceive (l : LaneSt) (p : Nat) (f : EthFrame) : LaneSt :=
  if !l.bridgeRuns ∨ !l.portActive p ∨ f.length < 64 then l
  else if !f.fcsOk then l.satInc (netBlock p) (NET.PORT_CNT0.FCS_ERR (p / 2) (p % 2))
  else if 1522 < f.length then l.satInc (netBlock p) (NET.PORT_CNT0.DROPPED (p / 2) (p % 2))
  else
    let x := l.verify p f
    if !x.1 then x.2
    else
      let l := x.2.learn p f.src
      let l := if l.toInternal p f && f.kind = 0 then l.satInc (netBlock p) (NET.PORT_CNT1.INT_DROP (p / 2) (p % 2)) else l
      match l.forwardTo p f.dst with
      | none => l
      | some q => l.forward p q f

def execEthFrameReceive (l : LaneId) (port : Fin 4) (frame : EthFrame) (s : State) : Host.Outcome State Fault Refusal :=
  onLane l (fun x => x.ethReceive port frame) s

/-- BRIDGE_AGE_OUT: a learned address that no frame has refreshed for BRIDGE.AGE is removed. -/
def execBridgeAgeOut (l : LaneId) (blue : Bool) (mac : BitVec 48) (s : State) : Host.Outcome State Fault Refusal :=
  onLane l (fun x => x.setNet (fun n => { n with
    table := n.table.setIfInBounds (b2n blue) ((n.table.getD (b2n blue) []).filter (fun e =>
      e.1 ≠ mac || decide (x.run < e.2.2 + x.rd (NET.BRIDGE.AGE (b2n blue)) * 10 ^ 9))) })) s

/-! ## PTP messages of the lane (R283, R285) -/

/-- A frame of the internal port goes to both external ports of its bridge. -/
def LaneSt.sendBoth (l : LaneSt) (i q : Nat) (what : NetOut) : LaneSt :=
  (l.egress ⟨2 * i, q, what⟩).egress ⟨2 * i + 1, q, what⟩

/-- PDELAY_REQ: in P2P mode the lane answers on each external port itself. -/
def execPdelayReq (l : LaneId) (port : Fin 4) (seq : BitVec 16) (residence : Nat) (s : State) :
    Host.Outcome State Fault Refusal :=
  onLane l (fun x =>
    if x.bridgeRuns ∧ x.portActive port ∧ x.on TIME.CTRL.DELAY_MECH then
      x.egress ⟨port, 7, .pdelayResp seq.toNat residence⟩
    else x) s

/-- GRANDMASTER_SYNC: a lane that the algorithm elects takes source OWN and sends Sync and Announce on both networks. -/
def LaneSt.grandmaster (l : LaneSt) : LaneSt :=
  if !l.bridgeRuns then l
  else
    let l := l.judgeElection
    if l.timeSource ≠ srcOwn then l
    else
      let ann : NetOut := .announce (l.rd TIME.GM_CFG.PRIO1) (l.rd TIME.GM_CFG.CLASS) (l.rd TIME.GM_CFG.PRIO2)
      [0, 1].foldl (fun l i => (l.sendBoth i 7 (.sync l.ns)).sendBoth i 7 ann) l

def execGrandmasterSync (l : LaneId) (s : State) : Host.Outcome State Fault Refusal := onLane l LaneSt.grandmaster s

end Sys2Proof.Machine
end

