-- ==== Sys2Proof/Machine/Yuwil.lean ====
section
/-!
DEFINITION. Yuwil: frames, pairing and its ledger, answers, sessions, the common command, network loss, and the fleet
stop (R300 to R313, R321).
-/

namespace Sys2Proof.Machine

open Sys2Proof

/-! ## Frames (R300, R301) -/

/-- Type of a frame. -/
def ywType (b : List Byte) : Nat := beAt b 0 1 % 16
/-- Fields of a frame. -/
def ywSrc (b : List Byte) : Nat := beAt b 2 3
def ywDst (b : List Byte) : Nat := beAt b 5 3
def ywSession (b : List Byte) : Nat := beAt b 8 4
def ywSeq (b : List Byte) : Nat := beAt b 12 4
def ywLen (b : List Byte) : Nat := beAt b 16 2

/-- The payload length that a type has. -/
def ywTypeLen : Nat → Option Nat
  | 1 => some 16
  | 2 => some 48
  | 3 => some 112
  | 4 => some 148
  | 5 => some 0
  | 6 => some 112
  | _ => none

/-- Reserved bits of the payload of a POLL, and reserved bits and values of a FLEET record, are good (R301, R311). -/
def ywPayloadOk (b : List Byte) : Bool :=
  if ywType b = 1 then decide (beAt b 20 4 < 4) && decide (beAt b 32 4 = 0)
  else if ywType b = 6 then
    decide (beAt b 20 1 = 1) && decide (beAt b 21 1 ≤ 2) && decide (beAt b 22 1 ≤ 2) && decide (beAt b 23 1 = 0)
      && decide (beAt b 64 4 = 0)
      && (if beAt b 22 1 = 0 then decide (beAt b 52 3 < 2 ^ 18) && decide (beAt b 55 3 < 2 ^ 18) && decide (beAt b 58 2 = 0)
          else if beAt b 22 1 = 2 then decide (beAt b 56 4 = 0) else true)
  else true

/-- A frame has a known version and type, the LEN of its type, its length, and zero reserved bits (R301). -/
def ywFormOk (b : List Byte) : Bool :=
  decide (beAt b 0 1 / 16 = 1)
    && (match ywTypeLen (ywType b) with
        | none => false
        | some n => decide (ywLen b = n) && decide (28 + n ≤ b.length))
    && decide (beAt b 1 1 ≤ (if ywType b = 2 then 1 else 0)) && decide (ywSrc b < 2 ^ 18) && decide (ywDst b < 2 ^ 18)
    && decide (beAt b 18 2 = 0) && ywPayloadOk b
    && (if ywType b = 3 ∨ ywType b = 4 then decide (ywSeq b = 0) && decide (beAt b (20 + ywLen b) 8 = 0) else true)

/-- The frame without its MAC. -/
def ywBody (b : List Byte) : List Byte := b.take (20 + ywLen b)

/-- The MAC of a frame verifies under a key (R301, R302). -/
def ywMacOk (key b : List Byte) : Bool := decide ((cmac key (ywBody b)).toNat = beAt b (20 + ywLen b) 8)

/-- A frame of this node: header, payload, and the MAC that a key gives it, or 0. -/
def ywBuild (type flags src dst sid seq : Nat) (payload : List Byte) (key : Option (List Byte)) : List Byte :=
  let body := toBe 1 (0x10 + type) ++ toBe 1 flags ++ toBe 3 src ++ toBe 3 dst ++ toBe 4 sid ++ toBe 4 seq
    ++ toBe 2 payload.length ++ toBe 2 0 ++ payload
  body ++ (match key with
    | none => toBe 8 0
    | some k => toBe 8 (cmac k body).toNat)

/-- A Yuwil frame as it leaves the internal port of network `i` for a node: group address, own address, the tag when TAG = 1,
ETYPE (R300). -/
def LaneSt.ywFrame (l : LaneSt) (i dst : Nat) (yw : List Byte) : List Byte :=
  toBe 6 (groupMac dst) ++ toBe 6 (l.internalMac i)
    ++ (if l.on NET.YW_VLAN.TAG then toBe 2 0x8100 ++ toBe 2 (l.rd NET.YW_VLAN.VID + 2 ^ 13 * l.rd NET.YW_VLAN.PCP) else [])
    ++ toBe 2 (l.rd NET.YW_CTRL.ETYPE) ++ yw

/-! ## Sessions -/

/-- Session `s` of the lane. -/
def LaneSt.yw (l : LaneSt) (s : Nat) : YwSess := l.net.sess.getD s .reset

/-- Change session `s`. -/
def LaneSt.setYw (l : LaneSt) (s : Nat) (f : YwSess → YwSess) : LaneSt :=
  l.setNet (fun n => { n with sess := n.sess.setIfInBounds s (f (n.sess.getD s .reset)) })

/-- The partner node of a session. -/
def LaneSt.ywPartner (l : LaneSt) (s : Nat) : Nat := if s = 0 then l.rd NET.YW_MASTER.NODE else l.rd NET.YW_GW.NODE

/-- The session of a sender's node: 0 the master, 1 the gateway when it is enabled. -/
def LaneSt.ywSessionOf (l : LaneSt) (src : Nat) : Option Nat :=
  if src = l.rd NET.YW_MASTER.NODE then some 0
  else if l.on NET.YW_GW.EN ∧ src = l.rd NET.YW_GW.NODE then some 1
  else none

/-- The session keys of the lane accept a frame of session `s`: it is UP under the frame's identifier, and the MAC
verifies under K_MN (R302, R307). -/
def LaneSt.ywVerify (l : LaneSt) (s : Nat) (b : List Byte) : Bool :=
  match (l.yw s).keys with
  | none => false
  | some k => decide (l.rd (NET.SESS_STATUS.STATE s) = 2) && decide (ywSession b = l.rd (NET.SESS_ID.VALUE s)) && ywMacOk k.1 b

/-- STATE of a session; a change raises source 4 of group 5 (R348). -/
def LaneSt.ywState (l : LaneSt) (s st : Nat) : LaneSt :=
  if l.rd (NET.SESS_STATUS.STATE s) = st then l else (l.wr (NET.SESS_STATUS.STATE s) st).raise 5 4

/-- The lane holds no session any more: sessions close at the decision for NAP (R444). -/
def LaneSt.ywClose (l : LaneSt) (s : Nat) : LaneSt := (l.ywState s 0).setYw s (fun _ => .reset)

/-- A frame that fails a check is counted in AUTH_FAIL (R301, R305). -/
def LaneSt.authFail (l : LaneSt) (s : Nat) : LaneSt := (l.inc (NET.AUTH_FAIL.COUNT s)).fault 0x088 s

/-! ## The ledger (R305, R306) -/

/-- The sequence number just decided ages the session: AGING from 0xFFFF_FF00 on, EXHAUSTED after 0xFFFF_FFFF (R307). -/
def LaneSt.ywAge (l : LaneSt) (s seq : Nat) : LaneSt :=
  let l := if 0xFFFFFF00 ≤ seq ∧ !l.on (NET.SESS_STATUS.AGING s) then (l.wr (NET.SESS_STATUS.AGING s) 1).fault 0x08C s else l
  if seq = 0xFFFFFFFF then l.ywState s 3 else l

/-- A SEQ above the highest decided one decides every SEQ in between without a copy as missing; SEQ_HI becomes it. -/
def LaneSt.ywRaiseHi (l : LaneSt) (s seq : Nat) : LaneSt :=
  let y := l.yw s
  if seq < y.due then l
  else
    let held := (y.copies.filter (fun c => decide (y.due ≤ c.seq) && decide (c.seq < seq))).length
    let m := seq - y.due - held
    let l := (l.wr (NET.MISSING.COUNT s) (l.rd (NET.MISSING.COUNT s) + m)).wr (NET.DECIDED.COUNT s) (l.rd (NET.DECIDED.COUNT s) + m)
    let l := if m = 0 then l else l.fault 0x086 s
    (l.wr (NET.SEQ_HI.VALUE s) seq).setYw s (fun y => { y with due := seq + 1 })

/-- A SEQ is decided and counted once, in `count`. -/
def LaneSt.ywDecide (l : LaneSt) (s seq : Nat) (count : Field) : LaneSt :=
  let l := (l.inc count).inc (NET.DECIDED.COUNT s)
  let l := l.setYw s (fun y => { y with copies := y.copies.filter (fun c => c.seq ≠ seq), had := seq :: y.had })
  (l.ywRaiseHi s seq).ywAge s seq

/-! ## Accepted data (R308, R309, R312) -/

/-- A time in the lane's time form as one word (R286, R308). -/
def LaneSt.timeWord (l : LaneSt) (ns : Nat) : Nat := stampNs l.t32 ns + 2 ^ 32 * (stampS l.t32 ns % 2 ^ 32)

/-- A word of R308 as ns of lane time. -/
def LaneSt.wordTime (l : LaneSt) (w : Nat) : Nat :=
  if l.t32 then w % 2 ^ 64 else w / 2 ^ 32 % 2 ^ 32 * 10 ^ 9 + w % 2 ^ 32

/-- Hold the accepted POLL of the highest SEQ (R308). The command is the master's, of session 0. -/
def LaneSt.holdPoll (l : LaneSt) (s seq cmd td : Nat) : LaneSt :=
  if s ≠ 0 ∨ l.net.poll.any (fun p => seq ≤ p.1) then l
  else l.setNet (fun n => { n with poll := some (seq, cmd, td) })

/-- The lane accepts a POLL: it holds it and sends YW_RX. -/
def LaneSt.acceptPoll (l : LaneSt) (s : Nat) (c : YwCopy) (single : Bool) : LaneSt :=
  let cmd := beAt c.bytes 20 4
  (l.holdPoll s c.seq cmd l.ns).send 0x13 (s + 2 * b2n single) [c.seq + 2 ^ 32 * cmd, l.timeWord l.ns]

/-- The stop causes of the networks that are present: cause 4 while both are lost. -/
def LaneSt.setCause (l : LaneSt) (cause : Nat) (b : Bool) : LaneSt :=
  { l with vote := { l.vote with causes := setBit l.vote.causes cause b } }

/-- A network has an accepted copy again: its LOST and DEGRADE bits clear (R309). -/
def LaneSt.netRegained (l : LaneSt) (i : Nat) : LaneSt :=
  if !l.on (NET.PORT_STATUS.LOST i) then l
  else (((l.wr (NET.PORT_STATUS.LOST i) 0).setDegrade i false).setCause 4 false).raise 5 (2 + i)

/-- A copy is accepted on a network: noted in the lane; the network is lost for no member any longer (R309). -/
def State.netAccepted (s : State) (k : LaneId) (blue : Bool) : State :=
  let l := s.lane k
  let s := s.setLane k (l.setNet (fun n => { n with
    accepted := if blue then (n.accepted.1, some l.ns) else (some l.ns, n.accepted.2) }))
  if !l.isMember then s
  else LaneId.all.foldl (fun s j => s.setLane j ((s.lane j).netRegained (b2n blue))) s

/-! ## The fleet stop (R311 to R313) -/

/-- The target of a record matches this machine. -/
def LaneSt.fleetTarget (l : LaneSt) (r : List Byte) : Bool :=
  let kind := beAt r 2 1
  if kind = 0 then decide (beAt r 32 3 ≤ l.node) && decide (l.node ≤ beAt r 35 3)
  else if kind = 1 then beAt r 32 8 &&& (l.rd NET.FLEET_GROUPS_LO.VALUE + 2 ^ 32 * l.rd NET.FLEET_GROUPS_HI.VALUE) != 0
  else kind = 2 && beAt r 32 4 = l.rd NET.FLEET_ZONE.VALUE

/-- The slot that holds an enrolled key. -/
def LaneSt.fleetSlot (l : LaneSt) (id : Nat) : Option Nat :=
  (List.range 8).find? (fun i => l.on (SEC.FK_FLAGS.VALID i) && l.rd (SEC.FK_ID.KEY_ID i) = id)

/-- The stored counter of a key slot. -/
def LaneSt.fleetCounter (l : LaneSt) (i : Nat) : Nat := l.rd (SEC.FK_CTR_LO.COUNTER i) + 2 ^ 32 * l.rd (SEC.FK_CTR_HI.COUNTER i)

/-- A TIME80 of a record in ns. -/
def fleetTime (r : List Byte) (off : Nat) : Nat := time80 (beAt r off 6) (beAt r (off + 6) 4)

/-- The checks of R312 after the target, in their order: the key slot, or the reason of the refusal. -/
def LaneSt.fleetCheck (l : LaneSt) (r : List Byte) : Nat ⊕ Nat :=
  match l.fleetSlot (beAt r 40 4) with
  | none => .inr 1
  | some i =>
    if !ed25519Verify (l.sec.fleetKeys.getD i []) (r.take 48) (sliceBytes r 48 64) then .inr 2
    else if l.t32 ∧ !l.on NET.FLEET_CTRL.ACCEPT_NOSYNC then .inr 4
    else if !l.t32 ∧ !(decide (fleetTime r 12 ≤ l.ns) && decide (l.ns ≤ fleetTime r 22)) then .inr 3
    else if beAt r 4 8 ≤ l.fleetCounter i then .inr 5
    else .inl i

/-- Every member checks a record; the same record that came by another way just before is not checked again. -/
def LaneSt.fleetRecord (l : LaneSt) (r : List Byte) : LaneSt :=
  let again : Bool := l.net.fleetSeen.any (fun x => x.1 = r && decide (l.run < x.2 + 100000 + 1000 * l.rd NET.YW_TMO.SKEW))
  if !l.isMember ∨ !l.on NET.FLEET_CTRL.EN ∨ again ∨ !l.fleetTarget r then l
  else
    let l := l.setNet (fun n => { n with fleetSeen := some (r, l.run) })
    match l.fleetCheck r with
    | .inr reason =>
      (((l.satInc 4 NET.FLEET_COUNTS.REFUSED).wr NET.FLEET_STATUS.REASON reason).fault 0x08D reason).raise 5 7
    | .inl i =>
      let cat := beAt r 1 1
      let ctr := beAt r 4 8
      let l := (l.wr (SEC.FK_CTR_LO.COUNTER i) (ctr % 2 ^ 32)).wr (SEC.FK_CTR_HI.COUNTER i) (ctr / 2 ^ 32)
      let l := (l.wr NET.FLEET_CTR.VALUE (ctr % 2 ^ 32)).satInc 4 NET.FLEET_COUNTS.ACCEPTED
      let l := (l.wr NET.FLEET_STATUS.CAT cat).wr NET.FLEET_STATUS.ACTIVE 1
      let until_ := max (fleetTime r 22) ((l.net.fleet.map (·.notAfter)).getD 0)
      let l := l.setNet (fun n => { n with fleet := some ⟨cat, until_, l.ns, false⟩ })
      (l.fault 0x08E cat).raise 5 6

/-- FLEET_COPY_RECEIVE. -/
def execFleetCopyReceive (l : LaneId) (src : Arrival) (record : List Byte) (s : State) : Host.Outcome State Fault Refusal :=
  onReceive l src (fun x => x.fleetRecord record) s

/-- The lane accepts a FLEET frame of session 1: it sends FLEET_COPY and checks the record itself. -/
def LaneSt.acceptFleet (l : LaneSt) (s : Nat) (c : YwCopy) : LaneSt :=
  let r := sliceBytes c.bytes 20 112
  if s ≠ 1 ∨ !l.on NET.FLEET_CTRL.EN then l
  else (l.send 0x15 0 ((List.range 14).map (fun i => leAt r (8 * i) 8))).fleetRecord r

/-- FLEET_STOP_APPLY: every member applies an accepted stop at its boundary; one that comes during another stop of the
same or a lower category has no further effect (R313). -/
def LaneSt.fleetApply (l : LaneSt) : LaneSt :=
  match l.net.fleet with
  | none => l
  | some f =>
    if f.applied ∨ !l.isMember ∨ l.boundaryNs < f.td + 100000 then l
    else
      let l := l.setNet (fun n => { n with fleet := some { f with applied := true } })
      if l.on VOTE.STATUS.STOPPING ∧ l.vote.stopCat ≤ f.cat then l
      else (l.setCause 9 true).stopAll 9 f.cat

def execFleetStopApply (l : LaneId) (s : State) : Host.Outcome State Fault Refusal := onLane l LaneSt.fleetApply s

/-- FLEET_STOP_EXPIRE: the cause of an applied stop clears when lane time has passed its NOT_AFTER. -/
def LaneSt.fleetExpire (l : LaneSt) : LaneSt :=
  match l.net.fleet with
  | none => l
  | some f =>
    if !f.applied ∨ l.ns ≤ f.notAfter then l
    else ((l.setNet (fun n => { n with fleet := none })).wr NET.FLEET_STATUS.ACTIVE 0).setCause 9 false

def execFleetStopExpire (l : LaneId) (s : State) : Host.Outcome State Fault Refusal := onLane l LaneSt.fleetExpire s

/-! ## Pairing (R305) -/

/-- An accepted copy acts by its type. -/
def LaneSt.ywAccept (l : LaneSt) (s : Nat) (c : YwCopy) (single : Bool) : LaneSt :=
  if ywType c.bytes = 1 then l.acceptPoll s c single
  else if ywType c.bytes = 6 then l.acceptFleet s c
  else l

/-- What the pairing makes of a verified copy: whether it goes on to an answer, and the networks on which a copy is
accepted by it. -/
structure YwPaired where
  lane : LaneSt
  live : Bool
  red : Bool
  blue : Bool

/-- Pair a verified copy. -/
def LaneSt.ywPair (l : LaneSt) (s : Nat) (c : YwCopy) : YwPaired :=
  match (l.yw s).copies.find? (fun x => x.seq = c.seq) with
  | some x =>
    if x.blue = c.blue then ⟨l.inc (NET.LATE_COPY.COUNT s), false, false, false⟩
    else if x.bytes = c.bytes then
      ⟨(l.ywDecide s c.seq (NET.PAIRED.COUNT s)).ywAccept s c false, true, true, true⟩
    else ⟨(l.ywDecide s c.seq (NET.DIFFER.COUNT s)).fault 0x087 s, true, false, false⟩
  | none =>
    if c.seq < (l.yw s).due then
      if (l.yw s).had.contains c.seq then ⟨l.inc (NET.LATE_COPY.COUNT s), false, false, false⟩
      else ⟨(l.inc (NET.REPLAY.COUNT s)).fault 0x089 s, false, false, false⟩
    else ⟨l.setYw s (fun y => { y with copies := y.copies ++ [c] }), true, false, false⟩

/-- The state after a copy that lane `k` has paired. -/
def State.ywPaired (st : State) (k : LaneId) (x : YwPaired) : State :=
  let st := st.setLane k x.lane
  let st := if x.red then st.netAccepted k false else st
  if x.blue then st.netAccepted k true else st

/-- SKEW has passed since a copy arrived. -/
def LaneSt.skewPassed (l : LaneSt) (c : YwCopy) : Bool := decide (c.at' + 1000 * l.rd NET.YW_TMO.SKEW ≤ l.run)

/-- YW_SKEW_EXPIRED: SKEW has passed since the oldest copy whose SEQ is not decided: accepted, SINGLE. -/
def State.skewExpired (st : State) (k : LaneId) (s : Nat) : State :=
  let l := st.lane k
  match (l.yw s).copies with
  | [] => st
  | c :: _ =>
    if !l.skewPassed c then st
    else
      let l := ((l.ywDecide s c.seq (NET.SINGLE.COUNT s)).fault 0x085 s).ywAccept s c true
      (st.setLane k l).netAccepted k c.blue

/-- Every SEQ whose SKEW has passed is decided before the next copy is paired. -/
def State.settleSkew (st : State) (k : LaneId) (s : Nat) : State :=
  ((st.lane k).yw s).copies.foldl (fun st _ => st.skewExpired k s) st

def execYwSkewExpired (l : LaneId) (s : Fin 2) (st : State) : Host.Outcome State Fault Refusal := .next (st.skewExpired l s)

/-! ## Ingress -/

/-- What a lane makes of a Yuwil frame before its type matters: the session, or the lane with the frame dropped. Foreign
nodes and the excess over MINGAP are dropped before any check and counted in FLOOD (R300, R310); a frame for another
node is not the T316's. -/
def LaneSt.ywIngress (l : LaneSt) (blue : Bool) (b : List Byte) : LaneSt ⊕ (Nat × LaneSt) :=
  if !l.on NET.YW_CTRL.EN ∨ !l.bridgeRuns ∨ ywDst b ≠ l.node then .inl l
  else match l.ywSessionOf (ywSrc b) with
  | none => .inl (l.inc (NET.FLOOD.COUNT 0))
  | some s =>
    let last := if blue then (l.yw s).last.2 else (l.yw s).last.1
    if last.any (fun t => decide (l.run < t + 1000 * l.rd NET.YW_LIMIT.MINGAP)) then .inl (l.inc (NET.FLOOD.COUNT s))
    else
      .inr (s, l.setYw s (fun y => { y with last := if blue then (y.last.1, some l.run) else (some l.run, y.last.2) }))

/-- A POLL or FLEET frame at the internal port. The speaker of its network owes an answer to a POLL copy that is
verified and not discarded (R304). -/
def State.ywReceive (st : State) (k : LaneId) (blue : Bool) (type : Nat) (b : List Byte) : State :=
  if ywFormOk b && ywType b != type && ywType b != 2 && ywType b != 4 then st
  else match (st.lane k).ywIngress blue b with
  | .inl l => st.setLane k l
  | .inr (s, l) =>
    if !ywFormOk b ∨ !l.ywVerify s b then st.setLane k (l.authFail s)
    else
      let st := (st.setLane k l).settleSkew k s
      let l := st.lane k
      let x := l.ywPair s ⟨ywSeq b, blue, ywBody b, l.run⟩
      let owe : Bool := x.live && type = 1 && l.on (NET.PORT_STATUS.SPEAKER (b2n blue))
      let tPoll := time80 (beAt b 24 4) (beAt b 28 4)
      let x := if !owe then x
        else { x with lane := x.lane.setYw s (fun y => { y with owed := y.owed ++ [⟨blue, ywSession b, ywSeq b, tPoll, l.run⟩] }) }
      st.ywPaired k x

/-- YW_POLL. -/
def execYwPoll (l : LaneId) (blue : Bool) (frame : List Byte) (s : State) : Host.Outcome State Fault Refusal :=
  .next (s.ywReceive l blue 1 frame)

/-- YW_FLEET_FRAME. -/
def execYwFleetFrame (l : LaneId) (blue : Bool) (frame : List Byte) (s : State) : Host.Outcome State Fault Refusal :=
  .next (s.ywReceive l blue 6 frame)

/-- YW_RX_RECEIVE: a POLL that a peer accepted. -/
def LaneSt.ywRx (l : LaneSt) (s : Nat) (w : List Dword) : LaneSt :=
  let w0 := (w.getD 0 0).toNat
  l.holdPoll s (w0 % 2 ^ 32) (w0 / 2 ^ 32) (l.wordTime (w.getD 1 0).toNat)

def execYwRxReceive (l : LaneId) (src : Arrival) (s : Fin 2) (_single : Bool) (words : List Dword) (st : State) :
    Host.Outcome State Fault Refusal := onReceive l src (fun x => x.ywRx s words) st

/-! ## Answers (R304) -/

/-- The payload an answer carries and whether it sets NOSYNC: the buffer of the latest boundary at or before
T_POLL − 10 µs, or the newest. -/
def LaneSt.answerBuffer (l : LaneSt) (tPoll : Nat) : Option (List Byte × Bool) :=
  match l.net.buffers with
  | [] => none
  | (t, b) :: _ =>
    if l.t32 ∨ t < tPoll then some (b, true)
    else match l.net.buffers.find? (fun x => decide (x.1 + 10000 ≤ tPoll)) with
      | some x => some (x.2, false)
      | none => some (b, true)

/-- YW_ANSWER_SEND: the oldest answer owed in a session leaves in queue 7 on the open ports of its network, ANS_DLY × 0.5 µs
after the poll, within 100 ns; what cannot start by 12 µs is dropped late. -/
def LaneSt.answerSend (l : LaneSt) (s : Nat) : LaneSt :=
  match (l.yw s).owed, (l.yw s).keys with
  | a :: rest, some k =>
    if l.run + 100 < a.at' + 500 * l.rd NET.YW_CTRL.ANS_DLY then l
    else
    let l := l.setYw s (fun y => { y with owed := rest })
    match l.answerBuffer a.tPoll with
    | none => l
    | some (payload, nosync) =>
      let i := b2n a.blue
      let ports := [2 * i, 2 * i + 1].filter (fun p => l.portUp p && l.gateOpen p 7)
      let mine := payload.take 1 ++ [BitVec.ofNat 8 (leAt payload 1 1 % 16 + 16 * l.id.num)] ++ payload.drop 2
      let frame := ywBuild 2 (b2n nosync) l.node (l.ywPartner s) a.sid a.seq mine (some k.2)
      if ports.isEmpty ∨ a.at' + 12000 < l.run then (l.inc (NET.ANS_LATE.COUNT s)).fault 0x08A s
      else ports.foldl (fun l p => l.transmit ⟨p, 7, .yuwil (l.ywFrame i (l.ywPartner s) frame)⟩) l
  | _, _ => l

def execYwAnswerSend (l : LaneId) (s : Fin 2) (st : State) : Host.Outcome State Fault Refusal :=
  onLane l (fun x => x.answerSend s) st

/-! ## Sessions (R307) -/

/-- K of a key exchange: K_MN and K_NM. -/
def ywKeysOf (shared : BitVec 256) (nonceM nonceT ids : List Byte) : List Byte × List Byte :=
  let k := toBe 64 (sha512 (toBe 32 shared.toNat ++ nonceM ++ nonceT ++ ids)).toNat
  (k.take 16, sliceBytes k 16 16)

/-- Keys of a new session are formed and wait for KEY_CONFIRM. -/
def LaneSt.ywKeying (l : LaneSt) (s sid : Nat) (k : List Byte × List Byte) : LaneSt :=
  let l := if l.rd (NET.SESS_STATUS.STATE s) = 2 then l else l.ywState s 1
  l.setYw s (fun y => { y with next := some (sid, k.1, k.2) })

/-- A KEY_INIT whose signature fails: KEY_FAIL; from five in a row on, KEY_INIT is ignored for 1 s, doubling to 64 s
(R310). -/
def LaneSt.keyFail (l : LaneSt) (s : Nat) : LaneSt :=
  let n := (l.yw s).keyFails + 1
  let l := (l.inc (NET.KEY_FAIL.COUNT s)).setYw s (fun y => { y with
    keyFails := n, keyUntil := if n < 5 then y.keyUntil else l.run + 10 ^ 9 * 2 ^ min 6 (n - 5) })
  l.fault 0x08B s

/-- The lead answers a good KEY_INIT: KEY_REPLY on both networks, YW_KEY to the peers. The nonce and the ephemeral key
are drawn (log entry 7). -/
def LaneSt.keyReply (l : LaneSt) (s : Nat) (b : List Byte) : LaneSt :=
  let l := l.setYw s (fun y => { y with keyFails := 0 })
  let e := l.fresh
  let n0 := e.2.fresh
  let n1 := n0.2.fresh
  let l := n1.2
  let nonce := toBe 8 n0.1 ++ toBe 8 n1.1
  let shared := sharedSecret e.1 (sliceBytes b 20 32)
  let k := ywKeysOf shared (sliceBytes b 52 16) nonce (sliceBytes b 2 10)
  let idKey := (List.range 8).flatMap (fun i => toLe 4 (l.rd (ID.PUBKEY.BYTES i)))
  let part := toBe 32 (ephemeral e.1).toNat ++ nonce ++ idKey ++ toBe 1 l.id.num ++ toBe 3 0
  let head := toBe 1 0x14 ++ toBe 1 0 ++ toBe 3 l.node ++ toBe 3 (ywSrc b) ++ toBe 4 (ywSession b) ++ toBe 4 0 ++ toBe 2 148 ++ toBe 2 0
  let sig := toBe 64 (identitySign l.id (head ++ part)).toNat
  let frame := ywBuild 4 0 l.node (ywSrc b) (ywSession b) 0 (part ++ sig) none
  let l := (l.sendBoth 0 7 (.yuwil (l.ywFrame 0 (ywSrc b) frame))).sendBoth 1 7 (.yuwil (l.ywFrame 1 (ywSrc b) frame))
  let l := l.ywKeying s (ywSession b) k
  l.send 0x14 s [ywSession b, leBytes (k.1.take 8), leBytes (k.1.drop 8), leBytes (k.2.take 8), leBytes (k.2.drop 8)]

/-- YW_KEY_INIT: examined by the lead, at most one per 100 ms. -/
def LaneSt.keyInit (l : LaneSt) (blue : Bool) (s : Nat) (b : List Byte) : LaneSt :=
  match l.ywIngress blue b with
  | .inl l => l
  | .inr (s', l) =>
    if s' ≠ s then l
    else if !ywFormOk b ∨ ywType b ≠ 3 then l.authFail s
    else if !l.isLead ∨ l.run < (l.yw s).keyUntil ∨ (l.yw s).keyLast.any (fun t => decide (l.run < t + 100000000)) then l
    else
      let l := l.setYw s (fun y => { y with keyLast := some l.run })
      let key := l.sec.ywKeys.getD s []
      if key.length = 32 ∧ ed25519Verify key (b.take 68) (sliceBytes b 68 64) then l.keyReply s b else l.keyFail s

def execYwKeyInit (l : LaneId) (blue : Bool) (s : Fin 2) (frame : List Byte) (st : State) :
    Host.Outcome State Fault Refusal := onLane l (fun x => x.keyInit blue s frame) st

/-- YW_KEY_RECEIVE: the session keys the lead formed. -/
def execYwKeyReceive (l : LaneId) (src : Arrival) (s : Fin 2) (sid : Word) (keys : List Dword) (st : State) :
    Host.Outcome State Fault Refusal :=
  let bytes := keys.flatMap (fun w => toLe 8 w.toNat)
  onReceive l src (fun x => x.ywKeying s sid.toNat (bytes.take 16, sliceBytes bytes 16 16)) st

/-- The lane switches to the session whose keys it holds, its ledger starting at a SEQ. -/
def LaneSt.ywSwitch (l : LaneSt) (s sid first : Nat) (k : List Byte × List Byte) : LaneSt :=
  let l := (((l.wr (NET.SESS_ID.VALUE s) sid).ywState s 2).wr (NET.SESS_STATUS.AGING s) 0).inc (NET.RESTARTS.COUNT s)
  let l := l.wr (NET.SEQ_HI.VALUE s) (first - 1)
  let l := if s = 0 then l.setNet (fun n => { n with poll := none }) else l
  l.setYw s (fun y => { y with
    keys := some k, next := none, first := first, due := first, copies := [], had := [], owed := [] })

/-- YW_KEY_CONFIRM: the first copy verified under the new K_MN switches the session; its SEQ is the first of the new
ledger, in which the copies are paired as others are. -/
def State.keyConfirm (st : State) (k : LaneId) (blue : Bool) (s : Nat) (b : List Byte) : State :=
  match (st.lane k).ywIngress blue b with
  | .inl l => st.setLane k l
  | .inr (s', l) =>
    if s' ≠ s then st.setLane k l
    else if !ywFormOk b ∨ ywType b ≠ 5 then st.setLane k (l.authFail s)
    else
      let st := (st.setLane k l).settleSkew k s
      let l := st.lane k
      let new : Option (Nat × List Byte × List Byte) :=
        (l.yw s).next.filter (fun n => n.1 = ywSession b && ywMacOk n.2.1 b)
      let l := match new with
        | some n => l.ywSwitch s n.1 (ywSeq b) n.2
        | none => l
      if !l.ywVerify s b then st.setLane k (l.authFail s)
      else st.ywPaired k (l.ywPair s ⟨ywSeq b, blue, ywBody b, l.run⟩)

def execYwKeyConfirm (l : LaneId) (blue : Bool) (s : Fin 2) (frame : List Byte) (st : State) :
    Host.Outcome State Fault Refusal := .next (st.keyConfirm l blue s frame)

/-- A lane that holds the keys of a session to which another member has switched switches by its next boundary. -/
def State.ywFollow (st : State) (k : LaneId) : State :=
  [0, 1].foldl (fun st s =>
    let l := st.lane k
    match (l.yw s).next with
    | none => st
    | some n =>
      match LaneId.all.find? (fun j => j ≠ k && (st.lane j).isMember && (st.lane j).rd (NET.SESS_STATUS.STATE s) = 2
          && (st.lane j).rd (NET.SESS_ID.VALUE s) = n.1) with
      | none => st
      | some j => st.setLane k (l.ywSwitch s n.1 ((st.lane j).yw s).first n.2)) st

/-! ## The common command and network loss (R308, R309) -/

/-- YW_COMMAND_APPLY: RUN_PERMIT of the newest accepted POLL, at the first boundary at or after t_d + 3 µs. -/
def LaneSt.commandApply (l : LaneSt) : LaneSt :=
  match l.net.poll with
  | none => l
  | some (_, cmd, td) =>
    if !l.isMember ∨ l.boundaryNs < td + 3000 then l
    else
      let permit := bit cmd 0
      let cat := 1 + b2n (bit cmd 1)
      let was := l.net.permit
      let l := l.setNet (fun n => { n with permit := permit })
      if permit then (if was then l else (l.setCause 8 false).raise 5 5)
      else
        let l := if was then (l.setCause 8 true).raise 5 5 else l
        if was ∨ (l.on VOTE.STATUS.STOPPING ∧ l.vote.stopCause = 8 ∧ cat < l.vote.stopCat) then l.stopAll 8 cat else l

def execYwCommandApply (l : LaneId) (s : State) : Host.Outcome State Fault Refusal := onLane l LaneSt.commandApply s

/-- Decision time of the last copy that any member accepted on a network. -/
def State.lastAccepted (s : State) (blue : Bool) : Option Nat :=
  (LaneId.all.filter (fun k => (s.lane k).isMember)).foldl (fun m k =>
    match m, (if blue then (s.lane k).net.accepted.2 else (s.lane k).net.accepted.1) with
    | some a, some b => some (max a b)
    | a, none => a
    | none, b => b) none

/-- NET_LOST: no member has accepted a copy on a network for SAFE_TMO; with both lost the K6 stop (R116) starts. -/
def State.netLost (s : State) (k : LaneId) (blue : Bool) : State :=
  let l := s.lane k
  let i := b2n blue
  let late : Bool := (s.lastAccepted blue).all (fun t => decide (t + 10 ^ 6 * l.rd NET.YW_TMO.SAFE_TMO ≤ l.boundaryNs))
  if !l.isMember ∨ !l.on NET.YW_CTRL.EN ∨ !late ∨ l.on (NET.PORT_STATUS.LOST i) then s
  else
    let l := (((l.wr (NET.PORT_STATUS.LOST i) 1).setDegrade i true).fault (if blue then 0x0A3 else 0x083) 0).raise 5 (2 + i)
    if l.on (NET.PORT_STATUS.LOST 0) && l.on (NET.PORT_STATUS.LOST 1) then
      s.setLane k ((l.setCause 4 true).stopAll 4 (l.stopCategory 4))
    else s.setLane k l

def execNetLost (l : LaneId) (blue : Bool) (s : State) : Host.Outcome State Fault Refusal := .next (s.netLost l blue)

end Sys2Proof.Machine
end

