-- ==== Sys2Proof/Machine/Can.lean ====
section
/-!
DEFINITION. The CAN controllers: the receive ring, transmit objects and bus-off (R314 to R317, R322).
-/

namespace Sys2Proof.Machine

open Sys2Proof

/-- A controller takes part in its bus: it runs and is not BUS_OFF. -/
def LaneSt.canRuns (l : LaneSt) (k : Nat) : Bool := l.on (CAN.CAN_CTRL.EN k) && l.bridgeRuns && l.rd (CAN.STATUS.BUS k) ≠ 2

/-- A frame passes an enabled filter (R317). -/
def LaneSt.canFilter (l : LaneSt) (k : Nat) (f : CanFrame) : Bool :=
  (List.range 32).any (fun i => l.on (CAN.FLT_ID.EN k i)
    && ((f.id.toNat ^^^ l.rd (CAN.FLT_ID.ID k i)) &&& l.rd (CAN.FLT_MASK.MASK k i)) = 0
    && l.on (CAN.FLT_ID.IDE k i) = f.ide)

/-- DATA of a receive ring entry (R317). -/
def canData (f : CanFrame) : List Byte :=
  if f.kind = 2 then toBe 4 f.af.toNat ++ [f.vcid] ++ toBe 3 0 ++ f.data else f.data

/-- CAN_FRAME_RECEIVE: a frame that passes a filter takes the next entry of the ring, which the lead writes; one that
cannot be written is counted. Every lane keeps the count, so that NUMBER goes on under a new lead (log entry 16). -/
def LaneSt.canReceive (l : LaneSt) (k : Nat) (f : CanFrame) : LaneSt :=
  if !l.canRuns k ∨ l.rd (CAN.CAN_CTRL.PROTO k) < f.kind.val ∨ !l.canFilter k f then l
  else if l.vote.lead.isNone ∨ !l.on (CAN.CAN_CTRL.RX_EN k) ∨ (f.kind = 2 ∧ 104 < f.data.length) then
    l.satInc 6 (CAN.COUNTS.DROPPED k)
  else
    let n := l.rd (CAN.RX_COUNT.ENTRIES k)
    let l := l.inc (CAN.RX_COUNT.ENTRIES k)
    if !l.isLead then l
    else
      let base := 2 ^ 7 * l.rd (CAN.RX_BASE.ADDR k) + 2 ^ 32 * l.rd (CAN.RX_BASE_HI.ADDR_HI k)
      let id := f.id.toNat + 2 ^ 29 * b2n f.ide + 2 ^ 30 * b2n (f.kind = 1) + 2 ^ 31 * b2n (f.kind = 2)
      let l := l.post (base + 128 * (n % 2 ^ (l.rd (CAN.RX_CTRL.SIZE k) + 4))) 128
        [(0, 4, (n + 1) % 2 ^ 32), (4, 4, id), (8, 2, f.data.length), (10, 1, f.ctrl.toNat),
         (11, 1, if f.kind = 2 then f.sdt.toNat else 0), (12, 4, stampNs l.t32 l.ns),
         (16, (canData f).length, leBytes (canData f))]
      l.raise 5 k

def execCanFrameReceive (l : LaneId) (can : Fin 2) (f : CanFrame) (s : State) : Host.Outcome State Fault Refusal :=
  onLane l (fun x => x.canReceive can f) s

/-- The frame of a transmit object, from the latest agreed folio page (R316). -/
def LaneSt.canFrame (l : LaneSt) (k j : Nat) : CanTx :=
  let off := l.rd (CAN.TXO_CFG.OFF k j)
  { can := k, id := (l.word (0xB100 + 2048 * k + 8 * j)).toNat % 2 ^ 31,
    data := (List.range (l.rd (CAN.TXO_CFG.LEN k j))).map (fun i => fieldByte l.folio.agreed (off + i)) }

/-- CAN_TX_OBJECT: at each period of an enabled object the speaker sends its frame. While its controller is off the bus
the frame waits; one still waiting at the next period is replaced and counted. -/
def LaneSt.canSend (l : LaneSt) (k j : Nat) : LaneSt :=
  if !l.on (CAN.CAN_CTRL.EN k) ∨ !l.bridgeRuns ∨ !l.on (CAN.TXO_ID.EN k j) ∨ !l.on (CAN.STATUS.SPEAKER k) ∨ l.folio.agreed.isEmpty then l
  else if l.rd (CAN.STATUS.BUS k) = 2 then
    if (l.net.canWait.getD k []).contains j then l.satInc 6 (CAN.COUNTS.TX_LATE k)
    else l.setNet (fun n => { n with canWait := n.canWait.setIfInBounds k (n.canWait.getD k [] ++ [j]) })
  else l.setNet (fun n => { n with canSent := n.canSent ++ [l.canFrame k j] })

def execCanTxObject (l : LaneId) (can : Fin 2) (obj : Fin 16) (s : State) : Host.Outcome State Fault Refusal :=
  onLane l (fun x => x.canSend can obj) s

/-- CAN_BUS_OFF: the error counters that brought the controller there are no event of the table: free values
(log entry 7). -/
def LaneSt.busOff (l : LaneSt) (k : Nat) : LaneSt :=
  if !l.canRuns k then l
  else
    let x := l.fresh
    let y := x.2.fresh
    let l := (y.2.wr (CAN.ERRCNT.TEC k) (x.1 % 256)).wr (CAN.ERRCNT.REC k) (y.1 % 256)
    ((l.wr (CAN.STATUS.BUS k) 2).satInc 6 (CAN.ERRCNT.BUS_OFFS k)).fault 0x0C2 k

def execCanBusOff (l : LaneId) (can : Fin 2) (s : State) : Host.Outcome State Fault Refusal :=
  onLane l (fun x => x.busOff can) s

/-- BUS_OFF_RECOVERY: the controller is error active again with its counters at 0, as the standard has it; what waits is
sent by a lane that is still speaker. -/
def LaneSt.busRecovery (l : LaneSt) (k : Nat) : LaneSt :=
  if l.rd (CAN.STATUS.BUS k) ≠ 2 then l
  else
    let l := ((l.wr (CAN.STATUS.BUS k) 0).wr (CAN.ERRCNT.TEC k) 0).wr (CAN.ERRCNT.REC k) 0
    let waits := l.net.canWait.getD k []
    let l := l.setNet (fun n => { n with canWait := n.canWait.setIfInBounds k [] })
    waits.foldl (fun l j => l.canSend k j) l

def execBusOffRecovery (l : LaneId) (can : Fin 2) (s : State) : Host.Outcome State Fault Refusal :=
  onLane l (fun x => x.busRecovery can) s

end Sys2Proof.Machine
end

