-- ==== Sys2Proof/Machine/Bist.lean ====
section
/-!
DEFINITION. Online proofs of regions, their rotations and outcomes, the SRAM spare, PROOF_REQ and the crystal
cross-check (R388 to R395).
-/

namespace Sys2Proof.Machine

open Sys2Proof

/-! ## Regions (R388, R389) -/

/-- Change the proof state of the lane that is no register. -/
def LaneSt.setBist (l : LaneSt) (f : BistSt → BistSt) : LaneSt := { l with bist := f l.bist }

/-- The number of regions of class 1 to 6. -/
def regionCount : Nat → Nat
  | 1 => 5
  | 2 => 9
  | 3 => 34
  | 4 => 24
  | 5 => 24
  | 6 => 52
  | _ => 0

/-- The channels whose bridges are driven and that name a feedback port as their primary or secondary source. -/
def LaneSt.portUsers (l : LaneSt) (p : Nat) : Nat :=
  maskOf 8 (fun n => l.driven n && (l.rd (COMM.SRC.PORT_P n) = p || l.rd (COMM.SRC.PORT_S n) = p))

/-- A GATE region is a switch of a STEER bridge. -/
def LaneSt.steerSwitch (l : LaneSt) (i : Nat) : Bool :=
  decide (i / 2 < 24) && l.isMotor (i / 6) && l.rd (COMM.CTRL.CLASS (i / 6)) = 0

/-- The region can be proved online. -/
def LaneSt.provable (l : LaneSt) (c r : Nat) : Bool :=
  decide (r < regionCount c) && !l.bist.out.contains (c, r) &&
  (match c with
   | 1 => l.rd LOOP.PIPE_STATUS.SPARE = r
   | 2 => l.rd BIST.STATUS.SRAM_SPARED = 0xF
   | 4 => !bit (l.rd ADC.RETIRED.CORES) r && !l.on (ADC.CORE_STATUS.UNPROVED r)
   | 5 => (l.rd (FBK.STATUS.STATE r) ≠ portBypassed || l.bist.active.getD 4 none = some r) && l.portUsers r = 0
   | 6 => l.steerSwitch r
   | _ => true)

/-- The provable regions of a class. -/
def LaneSt.regions (l : LaneSt) (c : Nat) : List Nat := (List.range (regionCount c)).filter (l.provable c)

/-- The rotation of a class is enabled: ONLINE_EN with CLASS_EN for classes 2 to 5, PROOF_EN for ADC, BG_EN for GATE. -/
def LaneSt.rotationOn (l : LaneSt) (c : Nat) : Bool :=
  l.on BIST.CTRL.ONLINE_EN &&
  (match c with
   | 1 => true
   | 4 => bit (l.rd BIST.CTRL.CLASS_EN) 3 && l.on ADC.CTRL.PROOF_EN
   | 6 => l.on GATE.ST_CTRL.BG_EN
   | _ => bit (l.rd BIST.CTRL.CLASS_EN) (c - 1))

/-- When a region last passed a proof, ns of the time the lane has run; 0 before its first. -/
def LaneSt.provedAt (l : LaneSt) (c r : Nat) : Nat :=
  ((l.bist.passedAt.find? (fun x => x.1 = c && x.2.1 = r)).map (·.2.2)).getD 0

/-- A region has gone without a passed proof for 1 s, or 500 ms for MAC (R389). -/
def LaneSt.unprovedLong (l : LaneSt) (c r : Nat) : Bool :=
  decide (l.provedAt c r + (if c = 1 then 5 * 10 ^ 8 else 10 ^ 9) ≤ l.run)

/-- CLS_AGE: µs since the oldest passed proof of a provable region. -/
def LaneSt.showAge (l : LaneSt) (c : Nat) : LaneSt :=
  let oldest := (l.regions c).foldl (fun m r => min m (l.provedAt c r)) l.run
  l.wr (BIST.CLS_AGE.US c) (min (2 ^ 32 - 1) ((l.run - oldest) / 1000))

/-- The region of a class that a waiting PROOF_REQ names in this lane. -/
def LaneSt.requested (l : LaneSt) (c : Nat) : Option Nat :=
  (l.bist.reqs.find? (fun q => q.region = c && bit q.waiting l.id.num)).map (·.index)

/-- The region proved next: one that is overdue, one a PROOF_REQ waits for, else the next in ascending order. -/
def LaneSt.nextRegion (l : LaneSt) (c : Nat) : Option Nat :=
  let rs := l.regions c
  let turn : Option Nat := if !l.rotationOn c then none
    else match (l.bist.overdue.getD (c - 1) none).filter (fun r => rs.contains r) with
      | some r => some r
      | none =>
        match l.bist.lastRegion.getD (c - 1) none with
        | none => rs.head?
        | some k => (rs.find? (fun r => decide (k < r))).or rs.head?
  match (l.requested c).filter (fun r => rs.contains r) with
  | some r => some r
  | none => turn

/-- A NET clock edge of the lane; the ages of the classes go on every µs (R396). -/
def LaneSt.clockEdge (l : LaneSt) : LaneSt :=
  let n := l.netClock
  if n.run / 1000 = l.run / 1000 then n else (List.range 6).foldl (fun l c => l.showAge (c + 1)) n

/-- Time that passes when no command waits: each lane's NET clock has an edge or has none, on its own, since no clock is
locked to another lane's (R15; log entry 9). -/
def State.tick (s : State) : State :=
  let edge (k : LaneId) (l : LaneSt) : LaneSt := if Config.netEdge k s.ticks then l.clockEdge else l
  { s with a := edge .A s.a, b := edge .B s.b, c := edge .C s.c, ticks := s.ticks + 1 }

/-! ## PROOF_REQ results (R395) -/

/-- Complete a PROOF_REQ whose named lanes have all ended. -/
def LaneSt.settleProof (l : LaneSt) (q : ProofReq) : LaneSt :=
  if q.abortedLanes ≠ 0 then l.abort q.d 0x7C q.abortedLanes
  else l.complete q.d stOk ((q.passed ||| q.failed) + 2 ^ 3 * q.passed + 2 ^ 6 * q.failed) (q.duration % 2 ^ 32 + 2 ^ 32 * (q.coverage % 2 ^ 10))

/-- Complete every PROOF_REQ for which nothing is awaited, keep the others. -/
def LaneSt.settleProofs (l : LaneSt) : LaneSt :=
  let done := l.bist.reqs.filter (fun q => q.waiting = 0)
  let l := l.setBist (fun b => { b with reqs := b.reqs.filter (fun q => q.waiting ≠ 0) })
  done.foldl LaneSt.settleProof l

/-- A lane's result of a region proof, 0 passed, 1 failed, 3 aborted, entered in the requests that wait for it. -/
def LaneSt.proofReport (l : LaneSt) (k : LaneId) (region index result duration coverage : Nat) : LaneSt :=
  let put (q : ProofReq) : ProofReq :=
    if q.region ≠ region ∨ q.index ≠ index ∨ !bit q.waiting k.num then q
    else { q with
      waiting := setBit q.waiting k.num false,
      passed := if result = 0 then setBit q.passed k.num true else q.passed,
      failed := if result = 1 then setBit q.failed k.num true else q.failed,
      abortedLanes := if result = 3 then setBit q.abortedLanes k.num true else q.abortedLanes,
      duration := max q.duration duration, coverage := min q.coverage coverage }
  (l.setBist (fun b => { b with reqs := b.reqs.map put })).settleProofs

/-- The lane reports its own result, to itself and in PROOF_XCHG records to its peers. The content of the record is the
model's (log entry 17): region, index, result and coverage in the low half, duration in ns in the high half. -/
def LaneSt.proofTell (l : LaneSt) (region index result duration coverage : Nat) : LaneSt :=
  if !l.bist.reqs.any (fun q => q.region = region && q.index = index && bit q.waiting l.id.num) then l
  else
    let w := region + 2 ^ 8 * index + 2 ^ 16 * result + 2 ^ 18 * coverage + 2 ^ 32 * (duration % 2 ^ 32)
    (l.send 0x12 0 [w]).proofReport l.id region index result duration coverage

/-- PROOF_XCHG_RECEIVE: a peer's result. -/
def LaneSt.proofXchg (l : LaneSt) (p : LaneId) (w : Nat) : LaneSt :=
  l.proofReport p (w % 2 ^ 8) (w / 2 ^ 8 % 2 ^ 8) (w / 2 ^ 16 % 4) (w / 2 ^ 32 % 2 ^ 32) (w / 2 ^ 18 % 2 ^ 10)

def execProofXchgReceive (l : LaneId) (src : Arrival) (words : List Dword) (s : State) : Host.Outcome State Fault Refusal :=
  onReceive l src (fun x => x.proofXchg src.lane (words.getD 0 0).toNat) s

/-- A requested region that has gone out of use while its request waited ends aborted (DESIGN CHOICE, log entry 57). -/
def LaneSt.dropRequest (l : LaneSt) (c : Nat) : LaneSt :=
  match l.requested c with
  | none => l
  | some r =>
    if l.provable c r ∨ (c = 1 ∧ !bit (l.rd LOOP.PIPE_STATUS.RETIRED) r) then l else l.proofTell c r 3 0 0

/-- ONLINE_PROOF_START: the next region of a class begins its proof; a class with no provable region is UNPROVED. -/
def LaneSt.proofStart (l : LaneSt) (c : Nat) : LaneSt :=
  if l.on BIST.STATUS.FULL_RUNNING ∨ (l.bist.active.getD (c - 1) none).isSome ∨ (c = 1 ∧ l.inHold) then l
  else
    let l := (l.setUnproved c (l.regions c).isEmpty).dropRequest c
    match l.nextRegion c with
    | none => l.showAge c
    | some r =>
      let l := l.setBist (fun b => { b with
        active := b.active.setIfInBounds (c - 1) (some r), spoiled := b.spoiled.setIfInBounds (c - 1) false,
        lastRegion := b.lastRegion.setIfInBounds (c - 1) (some r) })
      let l := l.wr BIST.STATUS.ACTIVE (setBit (l.rd BIST.STATUS.ACTIVE) (c - 1) true)
      let l := (l.wr (BIST.CLS_STATUS.INDEX c) r).wr (BIST.CLS_STATUS.RESULT c) 2
      let l : LaneSt := match c with
        | 2 =>
          let l := l.wr BIST.STATUS.SRAM_MIRROR 1
          { l with mem := { l.mem with scrubSkip := setBit l.mem.scrubSkip r true } }
        | 4 =>
          let l := ((l.wr ADC.STATUS.PROOF_BUSY 1).wr ADC.PROOF.CORE r).wr ADC.PROOF.RESULT 2
          ({ l.wr (ADC.CORE_STATUS.STATE r) 1 with adc := { l.adc with proof := some r } } : LaneSt).judgeMoves
        | 5 => l.bypass r
        | _ => l
      l.showAge c

def execOnlineProofStart (l : LaneId) (cls : Fin 6) (s : State) : Host.Outcome State Fault Refusal :=
  onLane l (fun x => x.proofStart (cls.val + 1)) s

/-! ## The SRAM spare (R391, R394) -/

/-- The online proofs of one period of PROOFS: one of each provable region of the rotations that run (R389, R419). -/
def LaneSt.proofTotal (l : LaneSt) : Nat :=
  max 1 (([2, 3, 4, 5].map (fun c => if l.rotationOn c then (l.regions c).length else 0)).sum)

/-- What every end of a region proof does: class registers and counts, the region given back. -/
def LaneSt.proofClose (l : LaneSt) (c r result duration coverage : Nat) : LaneSt :=
  let l := l.setBist (fun b => { b with active := b.active.setIfInBounds (c - 1) none })
  let l := l.wr BIST.STATUS.ACTIVE (setBit (l.rd BIST.STATUS.ACTIVE) (c - 1) false)
  let l := ((l.wr (BIST.CLS_STATUS.RESULT c) result).wr (BIST.CLS_STATUS.DURATION c) (min 0xFFFF duration)).wr (BIST.CLS_COV.COVERAGE c) coverage
  let l := l.satInc 18 (if result = 0 then BIST.COUNTS.PASSED else if result = 1 then BIST.COUNTS.FAILED else BIST.COUNTS.ABORTED)
  let l := if result = 0 then l else l.raise 14 0
  let l : LaneSt := match c with
    | 2 => l.wr BIST.STATUS.SRAM_MIRROR 0
    | 4 =>
      let l := ((l.wr ADC.STATUS.PROOF_BUSY 0).wr ADC.PROOF.RESULT (b2n (result != 0))).wr (ADC.CORE_STATUS.STATE r) 0
      ({ l with adc := { l.adc with
          proof := none, back := if result = 1 ∨ !bit (l.rd ADC.STATUS.SUBST) r then l.adc.back else some r } } : LaneSt).judgeMoves
    | 5 => if result = 1 then l else l.bypassEnd r
    | _ => l
  let l := if 2 ≤ c ∧ c ≤ 5 then l.bgWork 7 l.proofTotal else l
  l.proofTell c r result (1000 * duration) coverage

/-- A bank takes the spare permanently. A bank that finds the spare in use, or the failed spare itself, leaves no
spare. -/
def LaneSt.takeSpare (l : LaneSt) (bank : Nat) : LaneSt :=
  let l := l.setBist (fun b => { b with out := (2, bank) :: b.out })
  if l.rd BIST.STATUS.SRAM_SPARED ≠ 0xF ∨ bank = 8 ∨ l.bist.out.contains (2, 8) then (l.setUnproved 2 true).fault 0x242 2
  else
    let l := ((l.wr BIST.STATUS.SRAM_SPARED bank).setUnproved 2 true).fault 0x024 bank
    l.spareUsed 2

/-- A bank demands the spare: a proof that the spare serves is aborted first (R391). -/
def LaneSt.demandSpare (l : LaneSt) (bank : Nat) : LaneSt :=
  if l.bist.out.contains (2, bank) then l
  else
    let l := match l.bist.active.getD 1 none with
      | some r => l.proofClose 2 r 3 0 0
      | none => l
    l.takeSpare bank

/-! ## ONLINE_PROOF_END (R390) -/

/-- What a failed proof does to its region, by class. -/
def LaneSt.proofFailed (l : LaneSt) (c r : Nat) : LaneSt :=
  let l := l.satInc 18 (BIST.CLS_FAIL.COUNT c)
  let l := if l.rd (BIST.CLS_FAIL.FIRST c) = 0xFF then l.wr (BIST.CLS_FAIL.FIRST c) r else l
  let l := if c = 2 ∨ c = 6 then l else l.setBist (fun b => { b with out := (c, r) :: b.out })
  match c with
  | 1 => l.retirePipe r
  | 2 => l.takeSpare r
  | 3 => l.fault 0x242 3
  | 4 => l.retireCore r
  | 5 => l.fault 0x149 r
  | _ => l.fault 0x189 r

/-- ONLINE_PROOF_END with its outcome, coverage in 0.1 % and duration in µs; a fault event of the region during its proof has
failed it (R391). -/
def LaneSt.proofEnd (l : LaneSt) (c : Nat) (passed : Bool) (coverage duration : Nat) : LaneSt :=
  match l.bist.active.getD (c - 1) none with
  | none => l
  | some r =>
    let passed := passed && !l.bist.spoiled.getD (c - 1) false
    let l := l.proofClose c r (if passed then 0 else 1) duration coverage
    let l := if !passed then l.proofFailed c r
      else
        let l := l.setBist (fun b => { b with
          passedAt := (c, r, l.run) :: b.passedAt.filter (fun x => !(x.1 = c && x.2.1 = r)),
          overdue := if b.overdue.getD (c - 1) none = some r then b.overdue.setIfInBounds (c - 1) none else b.overdue })
        if (l.bist.overdue.getD (c - 1) none).isNone then l.wr (BIST.CLS_STATUS.OVERDUE c) 0 else l
    l.showAge c

def execOnlineProofEnd (l : LaneId) (cls : Fin 6) (passed : Bool) (coverage : BitVec 10) (duration : BitVec 16) (s : State) :
    Host.Outcome State Fault Refusal :=
  onLane l (fun x => x.proofEnd (cls.val + 1) passed coverage.toNat duration.toNat) s

/-- PROOF_OVERDUE: a provable region without a passed proof in its time. -/
def LaneSt.proofOverdue (l : LaneSt) (c r : Nat) : LaneSt :=
  if !l.provable c r ∨ !l.rotationOn c ∨ (c = 1 ∧ l.inHold) ∨ !l.unprovedLong c r then l
  else
    let l := l.setBist (fun b => { b with overdue := b.overdue.setIfInBounds (c - 1) (some r) })
    ((l.wr (BIST.CLS_STATUS.OVERDUE c) 1).fault 0x244 c).showAge c

def execProofOverdue (l : LaneId) (cls : Fin 6) (region : Byte) (s : State) : Host.Outcome State Fault Refusal :=
  onLane l (fun x => x.proofOverdue (cls.val + 1) region.toNat) s

/-! ## PROOF_REQ -/

/-- The operation is PROOF_REQ. -/
def DescOp.isProof : DescOp → Bool
  | .proofReq _ _ _ => true
  | _ => false

/-- The named lanes in which the region cannot be proved. -/
def State.unprovable (s : State) (region index lanes : Nat) : Nat :=
  maskOf 3 (fun k =>
    let l := s.lane (LaneId.ofNum k)
    bit lanes k &&
      (if region = 6 then !l.steerSwitch index
       else if region = 1 then bit (l.rd LOOP.PIPE_STATUS.RETIRED) index || bit (l.rd BIST.STATUS.UNPROVED) 0
       else !l.provable region index || bit (l.rd BIST.STATUS.UNPROVED) (region - 1)))

/-- PROOF_REQ in one lane, with the device it stands in (R395). -/
def LaneSt.proofReq (s : State) (l : LaneSt) (d : Decided) (region index lanes : Nat) : LaneSt :=
  let reject (arg : Nat) : LaneSt := l.complete d stRejected (reasonDetail 0x02 arg) 0
  if region = 0 ∨ 6 < region then reject 16
  else if regionCount region ≤ index then reject 17
  else if lanes = 0 then reject 18
  else
    let absent := lanes - (lanes &&& l.members)
    let users := if region = 5 then l.portUsers index else 0
    let un := s.unprovable region index lanes
    l.permitted d
      [if absent ≠ 0 then some (0x0C, absent) else none,
       if !l.on BIST.CTRL.ONLINE_EN then some (0x09, 0) else none,
       if users ≠ 0 then some (0x7A, users) else none,
       if un ≠ 0 then some (0x7B, un) else none]
      (fun l => l.setBist (fun b => { b with reqs := b.reqs ++ [⟨d, region, index, lanes, 0, 0, 0, 0, 1023⟩] }))

def execProofReq (l : LaneId) (s : State) : Host.Outcome State Fault Refusal :=
  onLane l (fun x => x.withDesc DescOp.isProof (fun d op y =>
    match op with
    | .proofReq region index lanes => y.proofReq s d region index lanes
    | _ => y)) s

/-- Named lanes that are members no longer have aborted their proofs (R391). -/
def LaneSt.proofLeavers (l : LaneSt) : LaneSt :=
  (l.setBist (fun b => { b with reqs := b.reqs.map (fun q =>
    let gone := q.waiting - (q.waiting &&& l.members)
    { q with waiting := q.waiting &&& l.members, abortedLanes := q.abortedLanes ||| gone }) })).settleProofs

/-! ## The crystal cross-check (R393) -/

/-- An OSC_XCHECK event, counted (R449). -/
def LaneSt.oscEvent (l : LaneSt) (p : LaneId) : LaneSt := (l.satInc 16 CLK.COUNTS.XCHECK).fault 0x202 p.num

/-- The comparison of the crystals: the rate of the lane's crystal against the peers in slots 0 and 1 and against its own 32.768 kHz crystal,
in 0.1 ppm, shown in XTAL_PPM and PEER_PPM (R393, R449). -/
def LaneSt.crystalCheck (l : LaneSt) (p0 p1 k32 : Int) : LaneSt :=
  let l := ((l.wrSat CLK.XTAL_PPM.PPM k32).wrSat CLK.PEER_PPM.P0 p0).wrSat CLK.PEER_PPM.P1 p1
  let l := l.bgWork 5 1
  let far (x : Int) : Bool := decide (5000 < x.natAbs)
  match l.memberPeers with
  | [p] =>
    let x := if p = l.id.peer0 then p0 else p1
    if l.isMember && far x && far k32 then l.oscEvent p else l
  | [p, q] => if l.isMember && far p0 && far p1 && !far (p0 - p1) then (l.oscEvent p).oscEvent q else l
  | _ => l

/-- OSC_XCHECK: one comparison for each second of lane time. -/
def LaneSt.oscXcheck (l : LaneSt) (p0 p1 k32 : Int) : LaneSt :=
  if l.ns / 10 ^ 9 = l.time.crystal then l
  else ({ l with time := { l.time with crystal := l.ns / 10 ^ 9 } } : LaneSt).crystalCheck p0 p1 k32

def execOscXcheck (l : LaneId) (ppm0 ppm1 ppmK32 : Int) (s : State) : Host.Outcome State Fault Refusal :=
  onLane l (fun x => x.oscXcheck ppm0 ppm1 ppmK32) s

end Sys2Proof.Machine
end

