-- ==== Sys2Proof/Machine/Mem.lean ====
section
/-!
DEFINITION. Background services and telemetry: SRAM scrubbing, NVM page reads, refresh and levelling, the progress of the
activities, histograms, saves and galley batches (R25, R419 to R430).
-/

namespace Sys2Proof.Machine

open Sys2Proof

/-- Change the background state of the lane that is no register. -/
def LaneSt.setMem (l : LaneSt) (f : MemSt → MemSt) : LaneSt := { l with mem := f l.mem }

/-- The background activities run: the lane's CORE island is powered and no full proof runs (R420). -/
def LaneSt.background (l : LaneSt) : Bool :=
  let st := l.rd PWR.STATUS.STATE
  1 ≤ st && st ≤ 3 && !l.on BIST.STATUS.FULL_RUNNING

/-! ## Progress (R25) -/

/-- The words of the nine physical banks. -/
def scrubTotal : Nat := 884736

/-- The work of one period of activity `a`, in the units in which its commands count it (R419; log entry 46). -/
def LaneSt.bgTotal (l : LaneSt) : Nat → Nat
  | 0 => scrubTotal
  | 3 => 24 - popCount 24 (l.rd ADC.RETIRED.CORES)
  | 4 => l.compTotal
  | 6 => 1000
  | 7 => l.proofTotal
  | _ => 1

/-- The present period of activity `a` is complete; in HOLD COMP_TEST finds no driven bridge (R420). -/
def LaneSt.bgComplete (l : LaneSt) (a : Nat) : Bool := bit l.mem.bgDone a || (a = 4 && l.rd PWR.STATUS.STATE = 2)

/-- The check at a quarter of the period of activity `a`: BACKGROUND_LAG where less than 20 % of its work is done (R25). -/
def LaneSt.bgLag (l : LaneSt) (a : Nat) : LaneSt :=
  if !l.background ∨ l.bgComplete a ∨ l.bgTotal a ≤ 5 * l.mem.work.getD a 0 then l
  else
    let l := l.wr MEM.STATUS.LAG (setBit (l.rd MEM.STATUS.LAG) a true)
    ((l.satInc 1 (MEM.BG.LAGS a)).fault 0x028 a).raise 14 2

def execBackgroundLag (l : LaneId) (a : Fin 8) (s : State) : Host.Outcome State Fault Refusal :=
  onLane l (fun x => x.bgLag a) s

/-- The end of a period of activity `a`: BACKGROUND_STARVED where its work is not complete; its next period goes on from
where it stopped (R25). -/
def LaneSt.bgStarved (l : LaneSt) (a : Nat) : LaneSt :=
  if !l.background then l
  else if l.bgComplete a then l.setMem (fun m => { m with bgDone := setBit m.bgDone a false })
  else
    let l := l.wr MEM.STATUS.STARVED (setBit (l.rd MEM.STATUS.STARVED) a true)
    let l := l.wr MEM.STATUS.LAG (setBit (l.rd MEM.STATUS.LAG) a false)
    ((l.satInc 1 (MEM.BG.STARVED a)).fault 0x029 a).raise 14 2

def execBackgroundStarved (l : LaneId) (a : Fin 8) (s : State) : Host.Outcome State Fault Refusal :=
  onLane l (fun x => x.bgStarved a) s

/-! ## Scrubbing (R421) -/

/-- One word scrubbed: a pass ends with the last one. -/
def LaneSt.scrubWord (l : LaneSt) : LaneSt :=
  let n := l.mem.scrubWords + 1
  let l := l.bgWork 0 scrubTotal
  if n < scrubTotal then l.setMem (fun m => { m with scrubWords := n })
  else
    let ms := (l.run - l.mem.scrubFrom) / 1000000
    let l := l.setMem (fun m => { m with scrubWords := 0, scrubSkip := 0, scrubFrom := l.run })
    (l.satInc 1 MEM.SCRUB.PASSES).wr MEM.SCRUB.LAST_MS (min 0xFFFF ms)

/-- A corrected word of a bank: SRAM_CORR, and the demand of the spare at SPARE_N of them within 1 s (R394). -/
def LaneSt.sramCorr (l : LaneSt) (bank : Nat) : LaneSt :=
  let l := (l.inc MEM.SRAM_CORR.COUNT).fault 0x022 bank
  let ts := l.run :: (l.bist.bankCorr.getD bank []).filter (fun t => decide (l.run < t + 10 ^ 9))
  let l := l.setBist (fun b => { b with bankCorr := b.bankCorr.setIfInBounds bank ts })
  if l.rd BIST.CTRL.SPARE_N ≤ ts.length then l.demandSpare bank else l

/-- The words of one bank. -/
def bankWords : Nat := 98304

/-- The word of a bank that is scrubbed next, by its number among the words of the nine banks. -/
def LaneSt.scrubKey (l : LaneSt) (bank : Nat) : Nat := bankWords * bank + l.mem.scrubAt.getD bank 0

/-- What a word of the SRAM holds. -/
def LaneSt.sramWord (l : LaneSt) (key : Nat) : Dword := Sparse.get (fun _ => 0) l.mem.sram key

/-- A requester writes a word: its value, and no error is left in it. -/
def LaneSt.sramPut (l : LaneSt) (key : Nat) (v : Dword) : LaneSt :=
  l.setMem (fun m => { m with sram := Sparse.set (fun _ => 0) m.sram key v, sramBad := m.sramBad.filter (· ≠ key) })

/-- A word is left as found, with an error that cannot be corrected. -/
def LaneSt.sramLeave (l : LaneSt) (key : Nat) : LaneSt :=
  l.setMem (fun m => { m with sramBad := key :: m.sramBad.filter (· ≠ key) })

/-- The scrubber goes on to the bank's next word. -/
def LaneSt.scrubNext (l : LaneSt) (bank : Nat) : LaneSt :=
  l.setMem (fun m => { m with scrubAt := m.scrubAt.setIfInBounds bank ((m.scrubAt.getD bank 0 + 1) % bankWords) })

/-- The scrub of a word that reads with no error, one bit to correct, or an error that cannot be corrected: a corrected
word is written back and holds what it held, an uncorrectable one is left as found (R421). -/
def LaneSt.scrubRead (l : LaneSt) (bank errs key : Nat) : LaneSt :=
  if errs = 0 then l else if errs = 1 then l.sramCorr bank else (l.sramLeave key).fault 0x023 bank

/-- SRAM_SCRUB of the next word of a bank. A requester write to the same word in the same cycle (`true`) is applied first,
and the scrub reads what it wrote; one that comes during the scrub's macro cycles waits for the write-back, then replaces it
(R422). A bank under proof is skipped for the rest of the pass (R421). -/
def LaneSt.scrub (l : LaneSt) (bank errs : Nat) (write : Option (Bool × Dword)) : LaneSt :=
  if !l.background ∨ !l.on MEM.CTRL.SCRUB_EN ∨ bit l.mem.scrubSkip bank then
    write.elim l (fun w => l.sramPut (l.scrubKey bank) w.2)
  else
    let key := l.scrubKey bank
    match write with
    | some (true, v) => (l.sramPut key v).scrubWord.scrubNext bank
    | some (false, v) => ((l.scrubWord.scrubRead bank errs key).sramPut key v).scrubNext bank
    | none => (l.scrubWord.scrubRead bank errs key).scrubNext bank

def execSramScrub (l : LaneId) (bank : Fin 9) (cycle : ScrubCycle) (s : State) : Host.Outcome State Fault Refusal :=
  onLane l (fun x => x.scrub bank cycle.errs cycle.write) s

/-! ## NVM (R423 to R425) -/

/-- One erase block. -/
def LaneSt.block (l : LaneSt) (b : Nat) : NvmBlock := l.mem.nvm.getD b ⟨2, 0, 0⟩

/-- Replace an erase block. -/
def LaneSt.setBlock (l : LaneSt) (b : Nat) (x : NvmBlock) : LaneSt :=
  l.setMem (fun m => { m with nvm := m.nvm.setIfInBounds b x })

/-- The block among those of a use that is best by a test on erase counts; the lowest-numbered of equals. -/
def LaneSt.pickBlock (l : LaneSt) (use : Nat) (better : Nat → Nat → Bool) : Option Nat :=
  (List.range 256).foldl (fun r b =>
    if (l.block b).use ≠ use then r
    else match r with
      | none => some b
      | some c => if better (l.block b).erases (l.block c).erases then some b else some c) none

/-- NVM_ERASE and NVM_STATUS.SPARES as the blocks stand. -/
def LaneSt.showNvm (l : LaneSt) : LaneSt :=
  let used := (List.range 256).filter (fun b => (l.block b).use = 0)
  let spares := ((List.range 256).filter (fun b => (l.block b).use = 1)).length
  let mx := used.foldl (fun m b => max m (l.block b).erases) 0
  let mn := used.foldl (fun m b => min m (l.block b).erases) mx
  let l := ((l.wr MEM.NVM_ERASE.MAX (min 0xFFFF mx)).wr MEM.NVM_ERASE.MIN (min 0xFFFF mn)).wr MEM.NVM_STATUS.SPARES spares
  (l.wrB MEM.STATUS.SPARES_LOW (decide (spares < 4))).wrB MEM.STATUS.NVM_EXHAUSTED (decide (spares = 0))

/-- The content of a block moves into a free block; the old one is erased and free. -/
def LaneSt.moveBlock (l : LaneSt) (b c : Nat) : LaneSt :=
  let l := l.setBlock c { l.block c with use := 0, reads := 0 }
  (l.setBlock b ⟨1, (l.block b).erases + 1, 0⟩).showNvm

/-- A block is rewritten into the free block with the lowest erase count. -/
def LaneSt.refreshBlock (l : LaneSt) (b : Nat) : LaneSt :=
  match l.pickBlock 1 (fun x y => decide (x < y)) with
  | none => l
  | some c => (l.moveBlock b c).satInc 1 MEM.NVM_COUNTS.REFRESHES

/-- A block leaves service, its content on a spare; with none left a worn block stays and a failed write fails for its
owner. -/
def LaneSt.retireBlock (l : LaneSt) (b : Nat) (writeFailed : Bool) : LaneSt :=
  match l.pickBlock 1 (fun x y => decide (x < y)) with
  | none => if writeFailed then l.showNvm.fault 0x027 (b % 256) else l.showNvm
  | some c =>
    let l := l.setBlock c { l.block c with use := 0, reads := 0 }
    let l := (l.setBlock b { l.block b with use := 2 }).showNvm
    (l.satInc 1 MEM.NVM_STATUS.RETIRED).fault 0x026 (b % 256)

/-- NVM_PAGE_READ of a page of a block, with the bits its code corrected; `ok` is false when an erase or program of the
block failed its verify. -/
def LaneSt.pageRead (l : LaneSt) (b corrected : Nat) (ok : Bool) : LaneSt :=
  let x := l.block b
  if x.use ≠ 0 then l
  else
    let l := l.setBlock b { x with reads := x.reads + 1 }
    if 8 < corrected then l.fault 0x027 (b % 256)
    else
      let l := if corrected = 0 then l else l.fault 0x025 (b % 256)
      if l.rd MEM.NVM_CTRL.CORR_TH ≤ corrected ∨ !ok ∨ 20000 ≤ x.erases then l.retireBlock b !ok
      else if l.rd MEM.NVM_CTRL.REFRESH_TH ≤ corrected then
        l.setMem (fun m => { m with nvmDue := m.nvmDue.filter (· ≠ b) ++ [b] })
      else l

def execNvmPageRead (l : LaneId) (block : Byte) (corrected : Nat) (ok : Bool) (s : State) :
    Host.Outcome State Fault Refusal := onLane l (fun x => x.pageRead block.toNat corrected ok) s

/-- NVM_REFRESH: every page of every block in service has been read in the period, and blocks read too often since their
last erase are refreshed. A block has 256 pages. -/
def LaneSt.nvmRefresh (l : LaneSt) : LaneSt :=
  if !l.background then l
  else
    (List.range 256).foldl (fun l b =>
      let x := l.block b
      if x.use ≠ 0 then l
      else
        let l := l.setBlock b { x with reads := x.reads + 256 }
        if 10000 * l.rd MEM.NVM_CTRL.RD_LIMIT ≤ x.reads + 256 then l.refreshBlock b else l) (l.bgWork 1 1)

def execNvmRefresh (l : LaneId) (s : State) : Host.Outcome State Fault Refusal := onLane l LaneSt.nvmRefresh s

/-- NVM_WEAR: blocks due are refreshed, then, when the spread of erase counts exceeds WEAR_SPREAD, the content of the
least-worn block in service moves into the most-worn free block. -/
def LaneSt.nvmWear (l : LaneSt) : LaneSt :=
  if !l.background then l
  else
    let due := l.mem.nvmDue
    let l := (l.bgWork 2 1).setMem (fun m => { m with nvmDue := [] })
    let l := due.foldl (fun l b => if (l.block b).use = 0 then l.refreshBlock b else l) l
    let hi := l.pickBlock 0 (fun x y => decide (y < x))
    let lo := l.pickBlock 0 (fun x y => decide (x < y))
    match hi, lo, l.pickBlock 1 (fun x y => decide (y < x)) with
    | some h, some b, some c =>
      if 10 * l.rd MEM.NVM_CTRL.WEAR_SPREAD < (l.block h).erases - (l.block b).erases then
        (l.moveBlock b c).satInc 1 MEM.NVM_COUNTS.MOVES
      else l
    | _, _, _ => l

def execNvmWear (l : LaneId) (s : State) : Host.Outcome State Fault Refusal := onLane l LaneSt.nvmWear s

/-! ## Telemetry counts (R426, R427) -/

/-- One more ms in the bin of a histogram. -/
def addBin (v : Vector Nat 16) (bin : Int) : Vector Nat 16 :=
  let i := (max 0 (min 15 bin)).toNat
  v.setIfInBounds i (v.getD i 0 + 1)

/-- Bridge temperature of a channel in 0.1 °C. -/
def LaneSt.bridgeTemp (l : LaneSt) (n : Nat) : Int := divRound (l.rdI (ADC.RESULT.VALUE (52 + n)) * 10) 65536

/-- The telemetry counts of a channel. -/
def LaneSt.telCh (l : LaneSt) (n : Nat) : TelCh := l.mem.tel.ch.getD n .reset

/-- The sample of one channel whose bridge is driven in this lane. With I_MAX or RATED 0 the bin of the quotient is a
free value (log entry 7). -/
def LaneSt.sampleCh (l : LaneSt) (n : Nat) : LaneSt :=
  let x := l.fresh
  let l := x.2
  let iq := (l.rdI (COMM.IQ_REF.VALUE n)).natAbs
  let imax := l.rd (COMM.I_MAX.VALUE n)
  let rated := l.rd (COMM.RATED.VALUE n)
  let free : Int := (x.1 % 16 : Nat)
  let tb : Int := if imax = 0 then free else (16 * iq / imax : Nat)
  let sb : Int := if rated = 0 then free else (8 * (l.chSpeed n).natAbs / rated : Nat)
  let hb : Int := (l.bridgeTemp n + 400) / 100
  let p := l.rd (COMM.SRC.PORT_P n)
  let pos := l.rdI (FBK.POS_RAW.VALUE p)
  let moved : Nat := match l.mem.lastPos.getD n none with
    | some q => if p < 24 then (pos - q).natAbs else 0
    | none => 0
  let t := l.telCh n
  l.setMem (fun m => { m with
    tel := { m.tel with ch := m.tel.ch.setIfInBounds n { t with
      torque := addBin t.torque tb, speed := addBin t.speed sb, temp := addBin t.temp hb, runMs := t.runMs + 1,
      travel := t.travel + moved } },
    rms := m.rms.setIfInBounds n ((iq :: m.rms.getD n []).take 10000),
    lastPos := m.lastPos.setIfInBounds n (some pos) })

/-- The highest bridge temperature of a channel since reset. -/
def LaneSt.noteTemp (l : LaneSt) (n : Nat) : LaneSt :=
  let t := l.bridgeTemp n
  l.setMem (fun m => { m with tempMax := m.tempMax.setIfInBounds n (some (max t ((m.tempMax.getD n none).getD t))) })

/-- One telemetry sample, with the die temperatures in 0.1 °C and the supplies in 10 mV as measured. -/
def LaneSt.telSampleNow (l : LaneSt) (logic gd0 gd1 : Int) (vin vgd vio : Nat) : LaneSt :=
  let l := ((l.wrSat MEM.TEMP0.T_LOGIC logic).wrSat MEM.TEMP0.T_GD0 gd0).wrSat MEM.TEMP1.T_GD1 gd1
  let hi := max logic (max gd0 gd1)
  let l := l.wrSat MEM.TEMP1.T_MAX (if l.mem.sampled then max hi (l.rdI MEM.TEMP1.T_MAX) else hi)
  let l := ((l.wr PWR.SUPPLY0.VIN (min 0xFFFF vin)).wr PWR.SUPPLY0.VGD (min 0xFFFF vgd)).wr PWR.SUPPLY1.VIO (min 0xFFFF vio)
  let l := l.setMem (fun m => { m with
    sampled := true, supplies := (vin, vgd, vio), tel := { m.tel with lifeMs := m.tel.lifeMs + 1 } })
  let l := (List.range 8).foldl LaneSt.noteTemp l
  ((List.range 8).foldl (fun l n => if l.isMember && l.driven n then l.sampleCh n else l) l).bgWork 6 1000

/-- TELEMETRY_SAMPLE: one sample for each ms of lane time (R426). -/
def LaneSt.telSample (l : LaneSt) (logic gd0 gd1 : Int) (vin vgd vio : Nat) : LaneSt :=
  if !l.background ∨ l.ns / 10 ^ 6 = l.mem.sampledAt then l
  else (l.setMem (fun m => { m with sampledAt := l.ns / 10 ^ 6 })).telSampleNow logic gd0 gd1 vin vgd vio

def execTelemetrySample (l : LaneId) (logic gd0 gd1 : Int) (vin vgd vio : Nat) (s : State) :
    Host.Outcome State Fault Refusal := onLane l (fun x => x.telSample logic gd0 gd1 vin vgd vio) s

/-- Lifetime energizations of a safety output. -/
def LaneSt.soLife (l : LaneSt) (k : Nat) : Nat := l.mem.tel.soLife.getD k 0 + l.rd (SIO.SO_OPS.COUNT k)

/-- The counts are saved to NVM. -/
def LaneSt.telSave (l : LaneSt) : LaneSt :=
  l.setMem (fun m => { m with
    telSaved := some { m.tel with soLife := Vector.ofFn (fun k : Fin 8 => l.soLife k.val) } })

/-- TELEMETRY_SAVE: every 600 s. -/
def LaneSt.telSaveDue (l : LaneSt) : LaneSt :=
  if l.run < l.mem.savedAt + 600 * 10 ^ 9 then l else (l.setMem (fun m => { m with savedAt := l.run })).telSave

def execTelemetrySave (l : LaneId) (s : State) : Host.Outcome State Fault Refusal := onLane l LaneSt.telSaveDue s

/-! ## Galley batches (R429) -/

/-- A lane's histograms as it sends them: RESTORED, then for each channel RUN_S and the three histograms in seconds. The
layout inside the bulk frames is the model's (log entry 17). -/
def LaneSt.telBytes (l : LaneSt) : List Byte :=
  toLe 8 (b2n l.mem.restored) ++ (List.range 8).flatMap (fun n =>
    let t := l.telCh n
    toLe 4 (t.runMs / 1000) ++ (t.torque.toList ++ t.speed.toList ++ t.temp.toList).flatMap (fun ms => toLe 4 (ms / 1000)))

/-- A list of bytes as payload words. -/
def wordsOf (bs : List Byte) : List Nat := (List.range ((bs.length + 7) / 8)).map (fun i => leAt bs (8 * i) 8)

/-- One entry of the telemetry galley: its number comes from the lead's own count. -/
def LaneSt.telEntry (l : LaneSt) (k : LaneId) (bs : List Byte) (stamp n : Nat) : LaneSt :=
  let i := l.rd MEM.TG_WRITTEN.COUNT
  let base := 2 ^ 12 * l.rd MEM.TG_BASE.ADDR + 2 ^ 32 * l.rd MEM.TG_BASE_HI.ADDR_HI
  let at_ := 8 + 196 * n
  let hist (j : Nat) : Nat := leAt bs (at_ + 4 + 64 * j) 64
  let l := l.post (base + 256 * (i % 2 ^ (l.rd MEM.TG_CTRL.SIZE + 4))) 256
    [(0, 4, (i + 1) % 2 ^ 32), (4, 1, 1), (5, 1, k.num), (6, 1, n),
     (7, 1, stamp / 2 ^ 63 % 2 + 2 * (leAt bs 0 1 % 2)), (8, 8, stamp), (16, 4, leAt bs at_ 4),
     (32, 64, hist 0), (96, 64, hist 1), (160, 64, hist 2)]
  l.inc MEM.TG_WRITTEN.COUNT

/-- The lead writes its batch once it holds the histograms of every member. -/
def LaneSt.telSettle (l : LaneSt) : LaneSt :=
  match l.mem.batch with
  | none => l
  | some b =>
    let ks := LaneId.all.filter (fun k => bit b.members k.num)
    if !ks.all (fun k => (l.mem.copies.get k.fin).isSome) then l
    else
      let l := ks.foldl (fun l k => (List.range 8).foldl (fun l n =>
        if l.chState n = 0 then l else l.telEntry k ((l.mem.copies.get k.fin).getD []) b.stamp n) l) l
      (l.setMem (fun m => { m with batch := none, copies := Vector.replicate 3 none })).raise 2 7

/-- The last whole multiple of PERIOD seconds of lane time. -/
def LaneSt.telMultiple (l : LaneSt) : Nat :=
  l.ns / (10 ^ 9 * l.rd MEM.TG_CTRL.PERIOD) * l.rd MEM.TG_CTRL.PERIOD

/-- One batch: every member sends its histograms to the lead. -/
def LaneSt.telBatchNow (l : LaneSt) : LaneSt :=
  match l.vote.lead with
  | none => l.inc MEM.TG_SKIPPED.COUNT
  | some k =>
    let bs := l.telBytes
    let l := l.setMem (fun m => { m with restored := false })
    if k ≠ l.id then l.sendTo k 0x107 0 (wordsOf bs)
    else
      (l.setMem (fun m => { m with
        batch := some ⟨l.stamp64, l.members⟩, copies := m.copies.set l.id.fin (some bs) })).telSettle

/-- TELEMETRY_BATCH: one batch for each whole multiple of PERIOD seconds of lane time (R429). -/
def LaneSt.telBatch (l : LaneSt) : LaneSt :=
  if !l.on MEM.CTRL.TG_EN ∨ !l.isMember ∨ l.telMultiple = l.mem.batchAt then l
  else (l.setMem (fun m => { m with batchAt := l.telMultiple })).telBatchNow

def execTelemetryBatch (l : LaneId) (s : State) : Host.Outcome State Fault Refusal := onLane l LaneSt.telBatch s

/-- BULK_TELEMETRY_COPY: the histograms of a member. -/
def execBulkTelemetryCopy (l : LaneId) (src : Arrival) (bytes : List Byte) (s : State) : Host.Outcome State Fault Refusal :=
  onReceiveN l src (frameCount bytes) (fun x =>
    (x.setMem (fun m => { m with copies := m.copies.set src.lane.fin (some bytes) })).telSettle) s

end Sys2Proof.Machine
end

