-- ==== Sys2Proof/Machine/SealRows.lean ====
section
/-!
DEFINITION. The permitted values of the fields of the setup registers, from the register tables of the chapters: a
value outside its row is a reserved encoding or out of range, which refuses the seal with RESERVED_VALUE (R62, R63).
Fields whose permitted values hang on other fields stand with the checks of their blocks.
-/

namespace Sys2Proof.Machine

/-- One row: the field of `width` bits at bit `lo` of the words `base + s1·i + s2·j` holds `min` to `max`, or `alt`. -/
structure RangeRow where
  base : Nat
  s1 : Nat
  n1 : Nat
  s2 : Nat
  n2 : Nat
  lo : Nat
  width : Nat
  min : Nat
  max : Nat
  alt : Nat
  deriving DecidableEq, Repr

/-- Rows 0. -/
def rangeRows0 : List RangeRow :=
  [⟨0x1000, 4, 1, 4, 1, 1, 10, 10, 1000, 10⟩,
   ⟨0x1000, 4, 1, 4, 1, 16, 12, 1, 3600, 1⟩,
   ⟨0x1008, 4, 1, 4, 1, 0, 8, 100, 145, 100⟩,
   ⟨0x2000, 4, 1, 4, 1, 0, 2, 0, 1, 0⟩,
   ⟨0x3020, 4, 1, 4, 1, 0, 10, 1, 1000, 1⟩,
   ⟨0x3024, 4, 1, 4, 1, 0, 10, 1, 1000, 1⟩,
   ⟨0x3028, 4, 1, 4, 1, 0, 10, 10, 1000, 10⟩,
   ⟨0x3108, 16, 16, 4, 1, 1, 4, 0, 8, 0⟩,
   ⟨0x3108, 16, 16, 4, 1, 8, 4, 1, 15, 1⟩,
   ⟨0x3208, 16, 16, 4, 1, 1, 4, 0, 8, 0⟩,
   ⟨0x6000, 4, 1, 4, 1, 8, 8, 4, 255, 4⟩,
   ⟨0x7000, 4, 1, 4, 1, 0, 12, 10, 3600, 10⟩,
   ⟨0x9000, 4, 1, 4, 1, 4, 8, 0, 127, 0⟩,
   ⟨0x9000, 4, 1, 4, 1, 13, 2, 0, 2, 0⟩,
   ⟨0x9004, 4, 1, 4, 1, 0, 8, 1, 255, 1⟩,
   ⟨0x9004, 4, 1, 4, 1, 8, 8, 1, 100, 1⟩,
   ⟨0x9004, 4, 1, 4, 1, 16, 4, 2, 15, 2⟩,
   ⟨0x9008, 4, 1, 4, 1, 0, 12, 1, 3600, 1⟩,
   ⟨0x9008, 4, 1, 4, 1, 12, 10, 50, 1000, 50⟩,
   ⟨0x9084, 8, 4, 4, 1, 0, 24, 10, 16777215, 10⟩,
   ⟨0xA008, 2048, 2, 4, 1, 0, 10, 10, 600, 10⟩,
   ⟨0xA020, 2048, 2, 16, 2, 0, 30, 0, 999999999, 0⟩,
   ⟨0xA028, 2048, 2, 16, 2, 0, 27, 100, 100000000, 100⟩,
   ⟨0xA02C, 2048, 2, 16, 2, 0, 7, 1, 64, 1⟩,
   ⟨0xA400, 4, 1, 4, 1, 1, 5, 8, 22, 8⟩,
   ⟨0xA410, 4, 1, 4, 1, 0, 9, 10, 500, 10⟩,
   ⟨0xA410, 4, 1, 4, 1, 16, 10, 10, 1000, 10⟩,
   ⟨0xA414, 4, 1, 4, 1, 0, 8, 5, 255, 5⟩,
   ⟨0xB000, 2048, 2, 4, 1, 1, 2, 0, 2, 0⟩,
   ⟨0xB004, 2048, 2, 4, 1, 8, 8, 1, 255, 1⟩,
   ⟨0xB020, 2048, 2, 4, 1, 0, 4, 0, 8, 0⟩,
   ⟨0xC000, 4, 1, 4, 1, 0, 7, 10, 100, 10⟩,
   ⟨0xC000, 4, 1, 4, 1, 8, 3, 2, 4, 2⟩,
   ⟨0xC000, 4, 1, 4, 1, 12, 4, 1, 8, 1⟩,
   ⟨0xC004, 4, 1, 4, 1, 16, 16, 1000, 65535, 1000⟩,
   ⟨0xC008, 4, 1, 4, 1, 0, 10, 5, 500, 5⟩,
   ⟨0xC008, 4, 1, 4, 1, 16, 10, 0, 1000, 0⟩,
   ⟨0xC00C, 4, 1, 4, 1, 0, 14, 100, 10000, 100⟩,
   ⟨0xC00C, 4, 1, 4, 1, 16, 10, 50, 1000, 50⟩,
   ⟨0xC010, 4, 1, 4, 1, 0, 13, 10, 6000, 10⟩]

/-- Rows 1. -/
def rangeRows1 : List RangeRow :=
  [⟨0xC010, 4, 1, 4, 1, 16, 7, 10, 100, 10⟩,
   ⟨0xC060, 8, 8, 4, 1, 0, 8, 1, 98, 1⟩,
   ⟨0xC060, 8, 8, 4, 1, 8, 8, 1, 98, 1⟩,
   ⟨0xC060, 8, 8, 4, 1, 16, 8, 1, 98, 1⟩,
   ⟨0xC064, 8, 8, 4, 1, 0, 8, 1, 99, 1⟩,
   ⟨0xC064, 8, 8, 4, 1, 8, 8, 1, 99, 1⟩,
   ⟨0xC064, 8, 8, 4, 1, 16, 8, 1, 99, 1⟩,
   ⟨0x10000, 256, 128, 4, 1, 0, 4, 0, 7, 15⟩,
   ⟨0x10000, 256, 128, 4, 1, 14, 6, 0, 47, 0⟩,
   ⟨0x10000, 256, 128, 4, 1, 20, 5, 0, 16, 0⟩,
   ⟨0x10000, 256, 128, 4, 1, 25, 5, 0, 16, 0⟩,
   ⟨0x10034, 256, 128, 4, 1, 0, 16, 100, 60000, 100⟩,
   ⟨0x18000, 16, 4, 4, 1, 0, 2, 0, 2, 0⟩,
   ⟨0x18008, 16, 4, 4, 1, 0, 12, 0, 2000, 0⟩,
   ⟨0x19000, 512, 8, 4, 1, 1, 2, 0, 1, 0⟩,
   ⟨0x19000, 512, 8, 4, 1, 12, 6, 1, 63, 1⟩,
   ⟨0x19004, 512, 8, 4, 1, 0, 5, 0, 23, 31⟩,
   ⟨0x19004, 512, 8, 4, 1, 5, 5, 0, 23, 31⟩,
   ⟨0x19004, 512, 8, 4, 1, 16, 8, 1, 90, 1⟩,
   ⟨0x19008, 512, 8, 4, 1, 0, 32, 2, 4294967295, 0⟩,
   ⟨0x19018, 512, 8, 4, 1, 0, 32, 0, 2147483647, 0⟩,
   ⟨0x19034, 512, 8, 4, 1, 0, 16, 1, 37837, 1⟩,
   ⟨0x19038, 512, 8, 4, 1, 16, 8, 50, 100, 50⟩,
   ⟨0x19038, 512, 8, 4, 1, 24, 8, 1, 255, 1⟩,
   ⟨0x1903C, 512, 8, 4, 1, 0, 8, 1, 50, 1⟩,
   ⟨0x1903C, 512, 8, 4, 1, 8, 8, 1, 50, 1⟩,
   ⟨0x1903C, 512, 8, 4, 1, 16, 8, 5, 100, 5⟩,
   ⟨0x1903C, 512, 8, 4, 1, 24, 8, 50, 100, 50⟩,
   ⟨0x19040, 512, 8, 4, 1, 0, 12, 50, 4000, 50⟩,
   ⟨0x19040, 512, 8, 4, 1, 12, 7, 5, 90, 5⟩,
   ⟨0x19040, 512, 8, 4, 1, 19, 4, 1, 15, 1⟩,
   ⟨0x19040, 512, 8, 4, 1, 23, 8, 10, 255, 10⟩,
   ⟨0x19044, 512, 8, 4, 1, 0, 8, 1, 50, 1⟩,
   ⟨0x19044, 512, 8, 4, 1, 8, 4, 1, 15, 1⟩,
   ⟨0x19054, 512, 8, 4, 1, 0, 10, 1, 1000, 1⟩,
   ⟨0x19054, 512, 8, 4, 1, 10, 10, 1, 1000, 1⟩,
   ⟨0x19054, 512, 8, 4, 1, 20, 10, 1, 1000, 1⟩,
   ⟨0x19058, 512, 8, 4, 1, 0, 10, 10, 1000, 10⟩,
   ⟨0x19058, 512, 8, 4, 1, 16, 10, 1, 1023, 1⟩,
   ⟨0x1905C, 512, 8, 4, 1, 1, 7, 5, 100, 5⟩]

/-- Rows 2. -/
def rangeRows2 : List RangeRow :=
  [⟨0x1905C, 512, 8, 4, 1, 8, 8, 5, 255, 5⟩,
   ⟨0x1905C, 512, 8, 4, 1, 16, 8, 1, 100, 1⟩,
   ⟨0x1E000, 256, 16, 4, 1, 0, 2, 0, 2, 0⟩,
   ⟨0x1E000, 256, 16, 4, 1, 3, 2, 0, 2, 0⟩,
   ⟨0x1E004, 256, 16, 4, 1, 0, 32, 2, 4294967295, 0⟩,
   ⟨0x1E008, 256, 16, 4, 1, 0, 32, 0, 2147483647, 0⟩,
   ⟨0x20000, 256, 24, 4, 1, 0, 3, 0, 4, 0⟩,
   ⟨0x20000, 256, 24, 4, 1, 11, 4, 0, 7, 15⟩,
   ⟨0x20004, 256, 24, 4, 1, 0, 32, 2, 4294967295, 0⟩,
   ⟨0x2000C, 256, 24, 4, 1, 0, 16, 10, 10000, 10⟩,
   ⟨0x2000C, 256, 24, 4, 1, 16, 16, 100, 65535, 100⟩,
   ⟨0x20010, 256, 24, 4, 1, 0, 6, 8, 48, 8⟩,
   ⟨0x20010, 256, 24, 4, 1, 7, 2, 0, 2, 0⟩,
   ⟨0x20010, 256, 24, 4, 1, 9, 9, 4, 499, 4⟩,
   ⟨0x20018, 256, 24, 4, 1, 0, 2, 0, 1, 0⟩,
   ⟨0x20018, 256, 24, 4, 1, 8, 16, 20, 65535, 20⟩,
   ⟨0x20018, 256, 24, 4, 1, 24, 8, 1, 255, 1⟩,
   ⟨0x2001C, 256, 24, 4, 1, 0, 10, 30, 900, 30⟩,
   ⟨0x2001C, 256, 24, 4, 1, 10, 3, 1, 6, 1⟩,
   ⟨0x2001C, 256, 24, 4, 1, 13, 3, 1, 6, 1⟩,
   ⟨0x2001C, 256, 24, 4, 1, 18, 2, 0, 2, 0⟩,
   ⟨0x200D0, 256, 8, 4, 1, 0, 5, 0, 23, 31⟩,
   ⟨0x200D0, 256, 8, 4, 1, 5, 2, 0, 2, 0⟩,
   ⟨0x200F0, 256, 4, 4, 1, 0, 2, 0, 2, 0⟩,
   ⟨0x200F0, 256, 4, 4, 1, 2, 5, 0, 23, 0⟩,
   ⟨0x200F4, 256, 4, 4, 1, 0, 16, 1, 65535, 1⟩,
   ⟨0x200F4, 256, 4, 4, 1, 16, 8, 4, 255, 4⟩,
   ⟨0x22000, 4, 1, 4, 1, 8, 8, 1, 50, 1⟩,
   ⟨0x22100, 32, 16, 4, 1, 0, 3, 0, 4, 0⟩,
   ⟨0x22400, 16, 72, 4, 1, 0, 2, 0, 2, 0⟩,
   ⟨0x24004, 128, 26, 4, 1, 0, 7, 4, 100, 4⟩,
   ⟨0x24004, 128, 26, 4, 1, 8, 8, 10, 255, 10⟩,
   ⟨0x24004, 128, 26, 4, 1, 16, 8, 1, 255, 1⟩,
   ⟨0x24008, 128, 26, 4, 1, 0, 8, 0, 252, 0⟩,
   ⟨0x24008, 128, 26, 4, 1, 8, 8, 10, 200, 10⟩,
   ⟨0x24008, 128, 26, 4, 1, 16, 4, 1, 15, 1⟩,
   ⟨0x2400C, 128, 26, 4, 1, 0, 5, 2, 16, 2⟩,
   ⟨0x2400C, 128, 26, 4, 1, 8, 6, 8, 56, 8⟩,
   ⟨0x24010, 128, 26, 4, 1, 0, 10, 10, 1000, 10⟩,
   ⟨0x24010, 128, 26, 4, 1, 10, 10, 20, 1000, 20⟩]

/-- Rows 3. -/
def rangeRows3 : List RangeRow :=
  [⟨0x24010, 128, 26, 4, 1, 20, 6, 24, 52, 24⟩,
   ⟨0x25000, 32, 8, 4, 1, 3, 4, 1, 15, 1⟩,
   ⟨0x25004, 32, 8, 4, 1, 0, 16, 2000, 50000, 2000⟩,
   ⟨0x25108, 4, 1, 4, 1, 0, 8, 1, 255, 1⟩,
   ⟨0x25108, 4, 1, 4, 1, 8, 8, 1, 255, 1⟩,
   ⟨0x2510C, 4, 1, 4, 1, 8, 8, 10, 90, 10⟩,
   ⟨0x2510C, 4, 1, 4, 1, 16, 8, 1, 255, 1⟩,
   ⟨0x2510C, 4, 1, 4, 1, 24, 8, 1, 255, 1⟩,
   ⟨0x28004, 4, 1, 4, 1, 8, 10, 5, 1000, 5⟩,
   ⟨0x28004, 4, 1, 4, 1, 18, 7, 10, 100, 10⟩,
   ⟨0x28008, 4, 1, 4, 1, 0, 8, 10, 100, 10⟩,
   ⟨0x28008, 4, 1, 4, 1, 8, 8, 1, 50, 1⟩,
   ⟨0x28008, 4, 1, 4, 1, 16, 8, 1, 255, 1⟩,
   ⟨0x28040, 4, 20, 4, 1, 0, 3, 0, 4, 0⟩,
   ⟨0x28040, 4, 20, 4, 1, 12, 7, 0, 100, 0⟩,
   ⟨0x280A0, 4, 8, 4, 1, 0, 3, 0, 4, 0⟩,
   ⟨0x280A0, 4, 8, 4, 1, 16, 8, 1, 255, 1⟩,
   ⟨0x28100, 32, 16, 4, 1, 0, 3, 0, 4, 0⟩,
   ⟨0x28100, 32, 16, 4, 1, 6, 2, 0, 2, 0⟩,
   ⟨0x28108, 32, 16, 4, 1, 0, 11, 10, 2000, 10⟩,
   ⟨0x28108, 32, 16, 4, 1, 16, 10, 50, 500, 50⟩,
   ⟨0x30010, 4, 1, 4, 1, 0, 8, 10, 255, 10⟩,
   ⟨0x30010, 4, 1, 4, 1, 8, 4, 2, 8, 2⟩,
   ⟨0x30010, 4, 1, 4, 1, 12, 4, 1, 7, 1⟩,
   ⟨0x30010, 4, 1, 4, 1, 16, 8, 1, 255, 1⟩,
   ⟨0x30028, 4, 1, 4, 1, 0, 4, 0, 8, 0⟩,
   ⟨0x30028, 4, 1, 4, 1, 16, 12, 1, 3600, 1⟩]

/-- All rows. -/
def rangeRows : List RangeRow := rangeRows0 ++ rangeRows1 ++ rangeRows2 ++ rangeRows3

end Sys2Proof.Machine
end

