-- ==== Sys2Proof/Machine/Seal.lean ====
section
/-!
DEFINITION. The seal checks of the blocks (chapter 02 R62 to R64 and the rules of the other chapters that refuse a seal
or make an image invalid). Each block's checks answer the BAR0 offsets of the words at fault.
-/

namespace Sys2Proof.Machine

open Sys2Proof

/-- The offset of a word when a check on it fails. -/
def failAt (off : Nat) (bad : Bool) : List Nat := if bad then [off] else []

/-- Whether a field value is one a row permits. -/
def RangeRow.admits (r : RangeRow) (v : Nat) : Bool := (r.min ≤ v && v ≤ r.max) || v = r.alt

/-- Words whose field lies outside a row. -/
def LaneSt.badRange (l : LaneSt) (r : RangeRow) : List Nat :=
  (List.range r.n1).flatMap (fun i => (List.range r.n2).flatMap (fun j =>
    let off := r.base + r.s1 * i + r.s2 * j
    failAt off (!r.admits (l.rd ⟨off, r.lo, r.width⟩))))

/-- Reserved encodings and out-of-range values of the register tables (R62, R63). -/
def LaneSt.badRanges (l : LaneSt) : List Nat := rangeRows.flatMap l.badRange

/-! ## Voting and generators -/

/-- The shares of a channel in TRIPLE sum to 100 (R119). -/
def LaneSt.badVote (l : LaneSt) : List Nat :=
  (List.range 8).flatMap (fun n =>
    failAt (VOTE.SHARE3.off n) (l.rd (VOTE.SHARE3.A n) + l.rd (VOTE.SHARE3.B n) + l.rd (VOTE.SHARE3.C n) != 100))

/-- Checks of one generator (R139, R140). For ROLE FORCE the travel, homing, switch and step registers are ignored. -/
def LaneSt.badGen (l : LaneSt) (g : Nat) : List Nat :=
  let role := l.rd (PROF.CTRL.ROLE g)
  let used := role != 0
  let none9 (v : Nat) (top : Nat) : Bool := decide (top < v ∧ v < 15)
  failAt (PROF.CTRL.off g) ((role = 1 && g % 2 = 1) || (role = 2 && g % 2 = 0))
  ++ failAt (PROF.VMAX_CFG.off g) (used && l.rd (PROF.VMAX_CFG.VALUE g) = 0)
  ++ failAt (PROF.AMAX_CFG.off g) (used && l.rd (PROF.AMAX_CFG.VALUE g) = 0)
  ++ failAt (PROF.JMAX_CFG.off g) (used && l.rd (PROF.JMAX_CFG.VALUE g) = 0)
  ++ failAt (PROF.STOP_A.off g) (used && l.rd (PROF.STOP_A.VALUE g) = 0)
  ++ failAt (PROF.STOP_J.off g) (used && l.rd (PROF.STOP_J.VALUE g) = 0)
  ++ if role = 2 then [] else
    failAt (PROF.TRAVEL_MIN.off g)
      (l.on (PROF.CTRL.TRAVEL_EN g) && decide (l.rdI (PROF.TRAVEL_MAX.VALUE g) < l.rdI (PROF.TRAVEL_MIN.VALUE g)))
    ++ failAt (PROF.HOME_CTRL.off g) (decide (4 < l.rd (PROF.HOME_CTRL.MODE g) ∨ 7 < l.rd (PROF.HOME_CTRL.SRC g)))
    ++ failAt (PROF.HOME_V.off g) (l.rd (PROF.HOME_CTRL.MODE g) != 0 &&
        decide (l.rd (PROF.HOME_V.VALUE g) = 0 ∨ l.rd (PROF.VMAX_CFG.VALUE g) < l.rd (PROF.HOME_V.VALUE g)))
    ++ failAt (PROF.HOME_TRAVEL.off g) (l.rd (PROF.HOME_CTRL.MODE g) != 0 && l.rd (PROF.HOME_TRAVEL.VALUE g) = 0)
    ++ failAt (PROF.SW_CTRL.off g)
        (none9 (l.rd (PROF.SW_CTRL.LATCH_SRC g)) 8 || none9 (l.rd (PROF.SW_CTRL.LIMP_SRC g)) 7
          || none9 (l.rd (PROF.SW_CTRL.LIMN_SRC g)) 7 || l.rd (PROF.SW_CTRL.LATCH_EDGE g) = 3)
    ++ failAt (PROF.STEP_CTRL.off g) (l.rd (PROF.STEP_CTRL.HIGH g) = 0 || l.rd (PROF.STEP_CTRL.LOW g) = 0
          || (l.on (PROF.STEP_CTRL.EN g) &&
              (let k := 2 * l.rd (PROF.STEP_CTRL.PAIR g)
               l.rd (FBK.PT_CTRL.MODE k) != 0 || l.rd (FBK.PT_CTRL.MODE (k + 1)) != 0)))
    ++ failAt (PROF.STEP_DIV.off g) (l.rd (PROF.STEP_DIV.DIV g) = 0)

/-! ## The schedule and the slots (R149) -/

/-- The enabled entries of the schedule, as slots. -/
def LaneSt.entries (l : LaneSt) : List Nat := (List.range 128).filter (fun n => l.on (LOOP.ENTRY.EN n))

/-- Pairs `(i, j)` of a list with `i` before `j`. -/
def pairs : List Nat → List (Nat × Nat)
  | [] => []
  | x :: xs => xs.map (fun y => (x, y)) ++ pairs xs

/-- DIV of an entry. -/
def LaneSt.entryDiv (l : LaneSt) (n : Nat) : Nat := 2 ^ l.rd (LOOP.ENTRY.DIVLOG n)

/-- Check 0x01 COLLISION of two entries. -/
def LaneSt.collide (l : LaneSt) (i j : Nat) : Bool :=
  let d := min (l.entryDiv i) (l.entryDiv j)
  l.rd (LOOP.ENTRY.TT i) = l.rd (LOOP.ENTRY.TT j) && l.rd (LOOP.ENTRY.PIPE i) = l.rd (LOOP.ENTRY.PIPE j)
    && l.rd (LOOP.ENTRY.STEP i) = l.rd (LOOP.ENTRY.STEP j)
    && l.rd (LOOP.ENTRY.PHASE i) % d = l.rd (LOOP.ENTRY.PHASE j) % d

/-- The shortest tick period of a timetable that the configuration allows, in 1/16 ns: a carrier shortens a period by
at most SLEW × 312.5 ps (R149, R244). -/
def LaneSt.shortestTick (l : LaneSt) (t : Nat) : Nat :=
  if l.rd (LOOP.TT_CTRL.SRC t) = 1 then
    let c := l.rd (LOOP.TT_CTRL.CARRIER t)
    80 * l.rd (GATE.CAR_PERIOD.PERIOD c) - 5 * l.rd (GATE.CAR_CTRL.SLEW c)
  else 16000 * l.rd (LOOP.TT_PERIOD.US t)

/-- Check 0x02 OVERRUN of an entry: its result, 150 ns after issue (R141), comes later than 1 µs before the next
tick. -/
def LaneSt.overruns (l : LaneSt) (n : Nat) : Bool :=
  let t := l.rd (LOOP.ENTRY.TT n)
  decide (l.shortestTick t < 16 * (5 * l.rd (LOOP.TT_OFFSET.EDGES t) + 100 * l.rd (LOOP.ENTRY.STEP n) + 150 + 1000))

/-- Whether a selector names a signal (R151). -/
def selectorOk (sel : Nat) : Bool :=
  let i := sel % 256
  match sel / 256 with
  | 0 => i = 0
  | 1 => i = 0
  | 2 => i < 128
  | 3 => i < 16
  | 4 => i < 16
  | 5 => i < 16
  | 6 => i < 24
  | 7 => i < 24
  | 8 => i < 64
  | 9 => i < 72
  | _ => false

/-- Check 0x08 FORMAT of a slot (R151 to R153). -/
def LaneSt.formatBad (l : LaneSt) (n : Nat) : Bool :=
  let sp := l.rd (LOOP.SRC.SP_SEL n)
  let pv := l.rd (LOOP.SRC.PV_SEL n)
  let d := l.rd (LOOP.ROUTE.DEST n)
  let i := l.rd (LOOP.ROUTE.INDEX n)
  !(selectorOk sp && selectorOk pv && selectorOk (l.rd (LOOP.AUX.FF_SEL n)) && selectorOk (l.rd (LOOP.AUX.LIM_SEL n)))
    || (sp / 256 = 3 && pv / 256 != 3 && pv / 256 != 6)
    || (pv / 256 = 3 && sp / 256 != 3)
    || (sp / 256 != 3 && sp != 0 && pv != 0 && l.selFrac n sp != l.selFrac n pv)
    || ((sp = 0 || pv = 0) && l.rd (LOOP.KP.VALUE n) != 0)
    || (match d with
        | 0 => i != 0
        | 4 => decide (24 ≤ i)
        | _ => decide (4 < d) || decide (8 ≤ i) || l.rd (LOOP.CTRL.CH n) != i)

/-- Check 0x0A LIMITS of a slot (R153). -/
def LaneSt.limitsBad (l : LaneSt) (n : Nat) : Bool :=
  let lo := l.rdI (LOOP.OUT_MIN.VALUE n)
  let hi := l.rdI (LOOP.OUT_MAX.VALUE n)
  decide (hi < lo) || (l.rd (LOOP.ROUTE.DEST n) = 4 && decide (lo < 0 ∨ 0x10000 < hi))

/-- Check 0x0B CHAIN of a slot. -/
def LaneSt.chainBad (l : LaneSt) (n : Nat) : Bool :=
  l.on (LOOP.CTRL.SAT_CHAIN_EN n) &&
    (l.rd (LOOP.CTRL.CHAIN_SLOT n) = n || !l.on (LOOP.ENTRY.EN (l.rd (LOOP.CTRL.CHAIN_SLOT n))))

/-- The checks of R149 in the order of their codes: code, slot concerned, timetable concerned, word at fault. -/
def LaneSt.schedBad (l : LaneSt) : List (Nat × Nat × Nat × Nat) :=
  let es := l.entries
  let tt (n : Nat) : Nat := l.rd (LOOP.ENTRY.TT n)
  let entry (code : Nat) (p : Nat → Bool) : List (Nat × Nat × Nat × Nat) :=
    (es.filter p).map (fun n => (code, n, tt n, LOOP.ENTRY.off n))
  let slots (code : Nat) (p : Nat → Bool) (off : Nat → Nat) : List (Nat × Nat × Nat × Nat) :=
    ((List.range 128).filter p).map (fun n => (code, n, if l.on (LOOP.ENTRY.EN n) then tt n else 0, off n))
  ((pairs es).filter (fun p => l.collide p.1 p.2)).map (fun p => (0x01, p.1, tt p.1, LOOP.ENTRY.off p.1))
  ++ entry 0x02 l.overruns
  ++ entry 0x03 (fun n => !bit (l.rd (LOOP.TT_CTRL.PIPES (tt n))) (l.rd (LOOP.ENTRY.PIPE n)))
  ++ ((pairs [0, 1, 2, 3]).filter (fun p =>
        (List.range 4).any (fun i => bit (l.rd (LOOP.TT_CTRL.PIPES p.1)) i && bit (l.rd (LOOP.TT_CTRL.PIPES p.2)) i))).map
      (fun p => (0x04, 0, p.1, LOOP.TT_CTRL.off p.1))
  ++ ((List.range 128).filter (fun n => decide (l.entryDiv n ≤ l.rd (LOOP.ENTRY.PHASE n)))).map
      (fun n => (0x05, n, tt n, LOOP.ENTRY.off n))
  ++ entry 0x06 (fun n => l.rd (LOOP.TT_CTRL.SRC (tt n)) = 0)
  ++ ((pairs ((List.range 128).filter (fun n => l.rd (LOOP.ROUTE.DEST n) != 0))).filter (fun p =>
        l.rd (LOOP.ROUTE.DEST p.1) = l.rd (LOOP.ROUTE.DEST p.2)
          && l.rd (LOOP.ROUTE.INDEX p.1) = l.rd (LOOP.ROUTE.INDEX p.2))).map
      (fun p => (0x07, p.1, if l.on (LOOP.ENTRY.EN p.1) then tt p.1 else 0, LOOP.ROUTE.off p.1))
  ++ slots 0x08 l.formatBad LOOP.SRC.off
  ++ slots 0x09 (fun n => l.rd (LOOP.KI.VALUE n) != 0 && l.rd (LOOP.KP.VALUE n) = 0) LOOP.KI.off
  ++ slots 0x0A l.limitsBad LOOP.OUT_MIN.off
  ++ slots 0x0B l.chainBad LOOP.CTRL.off

/-- SCHED_ERR records the first failed check of R149. That it returns to NONE at a later check that passes is the model's
choice (DESIGN CHOICE, log entry 52). -/
def LaneSt.noteSched (l : LaneSt) : LaneSt :=
  match l.schedBad with
  | [] => ((l.wr LOOP.SCHED_ERR.CODE 0).wr LOOP.SCHED_ERR.SLOT 0).wr LOOP.SCHED_ERR.TT 0
  | (code, n, t, _) :: _ => ((l.wr LOOP.SCHED_ERR.CODE code).wr LOOP.SCHED_ERR.SLOT n).wr LOOP.SCHED_ERR.TT t

/-- The words of R149 at fault, with the tick period of a timetable, which a carrier source ignores. -/
def LaneSt.badLoop (l : LaneSt) : List Nat :=
  (List.range 4).flatMap (fun t =>
    failAt (LOOP.TT_PERIOD.off t) (l.rd (LOOP.TT_CTRL.SRC t) != 1 && decide (l.rd (LOOP.TT_PERIOD.US t) < 10)))
  ++ l.schedBad.map (fun x => x.2.2.2)

/-! ## Channels, ports and acquisition -/

/-- The rules of one channel (R180, R183, R195, R200). -/
def LaneSt.badChannel (l : LaneSt) (n : Nat) : List Nat :=
  let p := l.rd (COMM.SRC.PORT_P n)
  failAt (COMM.CTRL.off n) (l.on (COMM.CTRL.FORCE_DIRECT n) && (List.range 128).any (fun k =>
      l.rd (LOOP.ROUTE.DEST k) = 1 && l.rd (LOOP.ROUTE.INDEX k) = n))
  ++ failAt (COMM.CPR.off n) (decide (p < 24) && l.rd (COMM.CPR.COUNT n) != l.rd (FBK.CPR.COUNT p))
  ++ failAt (COMM.ALIGN.off n) (l.on (COMM.ALIGN.EN n) && (decide (24 ≤ p) || l.rd (FBK.CTRL.MODE p) != 1))
  ++ failAt (COMM.RATIO_S.off n) (l.rd (COMM.SRC.PORT_S n) != 31 && l.rd (COMM.RATIO_S.VALUE n) = 0)
  ++ failAt (COMM.VLIM.off n) (!l.on (COMM.CTRL.H3_EN n) && decide (0x8000 < l.rd (COMM.VLIM.MOD n)))

/-- The trigger period of an SSI port, in ns. -/
def LaneSt.ssiPeriodNs (l : LaneSt) (p : Nat) : Nat :=
  if l.rd (FBK.SSI_TRIG.SRC p) = 1 then 5 * l.rd (GATE.CAR_PERIOD.PERIOD (l.rd (FBK.SSI_TRIG.CARRIER p)))
  else 100 * l.rd (FBK.SSI_TRIG.PERIOD p)

/-- The rules of one port (R226, R457). -/
def LaneSt.badPort (l : LaneSt) (p : Nat) : List Nat :=
  let m := l.rd (FBK.CTRL.MODE p)
  let lv := l.rd (FBK.CTRL.LEVEL p)
  let cpr := l.cprOf p
  let step := l.rd (FBK.MAX_STEP.COUNT p)
  failAt (FBK.CTRL.off p)
    ((m != 0 && (lv = 3 || (m = 4 && lv = 0)
        || (lv = 0 && (decide (12 ≤ p) || l.rd (FBK.CTRL.MODE (p + 12)) != 0))))
      || ((m = 1 || m = 2) && l.rd (FBK.CTRL.DBL_WINDOW p) = 0))
  ++ failAt (FBK.CPR.off p)
    ((m = 2 && cpr % 6 != 0) || (m = 3 && decide (2 ^ l.rd (FBK.SSI_FIELD.POS_WIDTH p) < cpr))
      || (m = 4 && decide (2 ^ (4 * l.rd (FBK.SENT_CTRL.POS_NIBS p)) < cpr)))
  ++ failAt (FBK.SSI_FIELD.off p)
    (m = 3 && (l.rd (FBK.SSI_FIELD.POS_WIDTH p) = 0 || decide (32 < l.rd (FBK.SSI_FIELD.POS_WIDTH p))
      || decide (l.rd (FBK.SSI_CTRL.LEN p) < l.rd (FBK.SSI_FIELD.POS_LSB p) + l.rd (FBK.SSI_FIELD.POS_WIDTH p))))
  ++ failAt (FBK.SENT_CTRL.off p) (m = 4 && decide (l.rd (FBK.SENT_CTRL.NIBS p) < l.rd (FBK.SENT_CTRL.POS_NIBS p)))
  ++ failAt (FBK.MAX_STEP.off p) ((m = 3 || m = 4) && (step = 0 || decide (cpr / 2 < step)))
  ++ failAt (FBK.SSI_TRIG.off p) (m = 3 && decide (l.ssiPeriodNs p <
      (l.rd (FBK.SSI_CTRL.LEN p) + 1) * (20 * (l.rd (FBK.SSI_CTRL.DIV p) + 1)) + 10 * l.rd (FBK.SSI_CTRL.DELAY p)
        + 1000 * l.rd (FBK.SSI_TRIG.MONO p)))

/-- The rules of one pass-through (R226, R457). -/
def LaneSt.badPass (l : LaneSt) (k : Nat) : List Nat :=
  let m := l.rd (FBK.PT_CTRL.MODE k)
  let lv := l.rd (FBK.PT_CTRL.LEVEL k)
  let src := l.rd (FBK.PT_CTRL.SRC k)
  let sm := l.rd (FBK.CTRL.MODE src)
  failAt (FBK.PT_CTRL.off k)
    ((m != 0 && (lv = 3 || (lv = 0 && (decide (2 ≤ k) || l.rd (FBK.PT_CTRL.MODE (k + 2)) != 0))))
      || (m = 1 && sm != 1 && sm != 2) || (m = 2 && sm != 3 && sm != 4)
      || (l.on (FBK.PT_CTRL.Z_EN k) && l.cprOf src % l.rd (FBK.PT_EMU.DIV k) != 0))

/-- Whether sequence `s` holds input `i`. -/
def LaneSt.seqHas (l : LaneSt) (s i : Nat) : Bool :=
  if i < 24 then bit (l.rd (ADC.SQ_MASK_I.MASK s)) i
  else if i < 48 then bit (l.rd (ADC.SQ_MASK_V.MASK s)) (i - 24)
  else bit (l.rd (ADC.SQ_MASK_X.MASK s)) (i - 48)

/-- How many inputs of core `c` a sequence holds. -/
def LaneSt.seqOn (l : LaneSt) (s c : Nat) : Nat :=
  b2n (l.seqHas s c) + b2n (l.seqHas s (24 + c)) + b2n (l.seqHas s (48 + c))

/-- Whether two sequences share a timetable or a carrier event. -/
def LaneSt.seqShare (l : LaneSt) (s t : Nat) : Bool :=
  let a := l.rd (ADC.SQ_CTRL.TRIG s)
  a = l.rd (ADC.SQ_CTRL.TRIG t) &&
    ((a = 1 && l.rd (ADC.SQ_CTRL.TT s) = l.rd (ADC.SQ_CTRL.TT t))
      || (a = 2 && l.rd (ADC.SQ_CTRL.CARRIER s) = l.rd (ADC.SQ_CTRL.CARRIER t)
            && l.rd (ADC.SQ_CTRL.EVENT s) = l.rd (ADC.SQ_CTRL.EVENT t)))

/-- The rules of acquisition (R233). -/
def LaneSt.badAdc (l : LaneSt) : List Nat :=
  let trig (s : Nat) : Nat := l.rd (ADC.SQ_CTRL.TRIG s)
  (List.range 16).flatMap (fun s =>
    failAt (ADC.SQ_MASK_I.off s) (trig s != 0 && (List.range 24).any (fun c => decide (2 < l.seqOn s c)))
    ++ failAt (ADC.SQ_MASK_I.off s) ((trig s = 1 || trig s = 2) && (List.range 12).any (fun m =>
        decide (4 < (((List.range 16).filter (l.seqShare s)).map (fun t =>
          l.seqOn t (2 * m) + l.seqOn t (2 * m + 1))).sum)))
    ++ failAt (ADC.SQ_CTRL.off s) ((trig s = 1 || trig s = 2) &&
        decide (2 ^ l.rd (ADC.SQ_CTRL.DIVLOG s) ≤ l.rd (ADC.SQ_CTRL.PHASE s)))
    ++ failAt (ADC.SQ_PERIOD.off s) (trig s = 3 && decide (l.rd (ADC.SQ_PERIOD.PERIOD s) < 10)))
  ++ (List.range 8).flatMap (fun n =>
    failAt (COMM.RATED.off n) (l.rd (COMM.RATED.VALUE n) != 0 && !(List.range 16).any (fun s =>
      trig s = 1 && l.rd (ADC.SQ_CTRL.DIVLOG s) = 0
        && (List.range 3).all (fun k => l.seqHas s (3 * n + k) && l.seqHas s (24 + 3 * n + k))
        && l.entries.all (fun k => !((l.rd (LOOP.ROUTE.DEST k) = 2 || l.rd (LOOP.ROUTE.DEST k) = 3)
            && l.rd (LOOP.ROUTE.INDEX k) = n) || l.rd (LOOP.ENTRY.TT k) = l.rd (ADC.SQ_CTRL.TT s)))))
  ++ (List.range 48).flatMap (fun i => failAt (ADC.IN_CFG.off (24 + i)) (l.rd (ADC.IN_CFG.ZC (24 + i)) != 0))
  ++ failAt ADC.CTRL.off (l.on ADC.CTRL.VDC_DUAL && !(List.range 16).any (fun s => l.seqHas s 48 && l.seqHas s 49))

/-! ## Legs, carriers and time -/

/-- The rules of one leg (R272). -/
def LaneSt.badLeg (l : LaneSt) (m : Nat) : List Nat :=
  let use := l.rd (GATE.LEG_CTRL.USE m)
  let rated := l.rd (COMM.RATED.VALUE (m / 3)) != 0
  failAt (GATE.LEG_CTRL.off m)
    (if m < 24 then
      use = 3 || (rated && use != 1) || (!rated && use = 1)
        || (use = 2 && !l.on (GATE.CAR_CTRL.EN (l.rd (GATE.LEG_CTRL.CARRIER m))))
        || (use != 2 && (List.range 128).any (fun k => l.rd (LOOP.ROUTE.DEST k) = 4 && l.rd (LOOP.ROUTE.INDEX k) = m))
     else use = 1 || use = 2)
  ++ failAt (GATE.TIMING.off m) (decide (l.rd (GATE.TIMING.MIN_PULSE m) < l.rd (GATE.TIMING.KERN m) + 20))

/-- The rules of the overvoltage thresholds and choppers (R272). -/
def LaneSt.badOv (l : LaneSt) : List Nat :=
  let a := l.rd GATE.OV_A.OV1
  let b := l.rd GATE.OV_A.OV2
  let c := l.rd GATE.OV_B.OV3
  let d := l.rd GATE.OV_B.OV4
  failAt GATE.OV_A.off ((List.range 26).any (fun m => l.rd (GATE.LEG_CTRL.USE m) != 0)
      && !decide (0 < a ∧ a < b ∧ b < c ∧ c < d ∧ d ≤ 1500))
  ++ failAt GATE.CHP_RES.off ((l.on GATE.CHP_CTRL.EN0 && l.rd GATE.CHP_RES.R0 = 0)
      || (l.on GATE.CHP_CTRL.EN1 && l.rd GATE.CHP_RES.R1 = 0))

/-- The rules of one carrier: an even period in CENTRE, the phase below the period, and for an enabled one the slew
that follows lane time (R281). -/
def LaneSt.badCarrier (l : LaneSt) (c : Nat) : List Nat :=
  let t := l.rd (GATE.CAR_PERIOD.PERIOD c)
  failAt (GATE.CAR_PERIOD.off c) (!l.on (GATE.CAR_CTRL.ALIGN c) && t % 2 = 1)
  ++ failAt (GATE.CAR_PHASE.off c) (decide (t ≤ l.rd (GATE.CAR_PHASE.PHASE c)))
  ++ failAt (GATE.CAR_CTRL.off c) (l.on (GATE.CAR_CTRL.EN c) &&
      decide (l.rd (GATE.CAR_CTRL.SLEW c) * 312500 < l.rd TIME.SERVO.SLEW_PPM * t * 5))

/-- The compare units: PHASE below PERIOD. -/
def LaneSt.badTime (l : LaneSt) : List Nat :=
  (List.range 4).flatMap (fun k =>
    failAt (TIME.CMP_CTRL.off k) (decide (l.rd (TIME.CMP_PERIOD.PERIOD k) ≤ l.rd (TIME.CMP_CTRL.PHASE k))))

/-! ## Networks and safety inputs and outputs -/

/-- The gate control list of one port while its Qbv is on (R298). -/
def LaneSt.badQbv (l : LaneSt) (b p : Nat) : List Nat :=
  if !l.on (if p = 0 then NET.PORT_CTRL.QBV0 b else NET.PORT_CTRL.QBV1 b) then []
  else
    let n := l.rd (NET.QBV_LEN.ENTRIES b p)
    (List.range n).flatMap (fun i => failAt (NET.GCL.off b p i) (l.rd (NET.GCL.TIME b p i) = 0))
    ++ failAt (NET.QBV_CYCLE.off b p) (decide (l.rd (NET.QBV_CYCLE.CYCLE b p)
        < ((List.range n).map (fun i => l.rd (NET.GCL.TIME b p i))).sum))

/-- The Yuwil rules (R321). -/
def LaneSt.badYuwil (l : LaneSt) : List Nat :=
  failAt NET.YW_MASTER.off (l.rd NET.YW_MASTER.NODE = l.rd ID.NODE.NODE)
  ++ failAt NET.YW_GW.off (l.on NET.YW_GW.EN && l.rd NET.YW_GW.NODE = l.rd ID.NODE.NODE)
  ++ failAt NET.YW_TMO.off (decide (1000 * l.rd NET.YW_TMO.SAFE_TMO ≤ l.rd NET.YW_TMO.SKEW))

/-- Whether a data length is one of the frame format (R314, R322). -/
def canLenOk (proto : Nat) (fd : Bool) (n : Nat) : Bool :=
  if proto = 2 then 1 ≤ n && n ≤ 64
  else if fd then n ≤ 8 || [12, 16, 20, 24, 32, 48, 64].contains n
  else n ≤ 8

/-- 80 MHz divided by the bit rate. -/
def bitClocks (brp t1 t2 : Nat) : Nat := (brp + 1) * (3 + t1 + t2)

/-- The rules of one CAN controller (R314, R322). -/
def LaneSt.badCan (l : LaneSt) (k : Nat) : List Nat :=
  let n := bitClocks (l.rd (CAN.NBT.BRP k)) (l.rd (CAN.NBT.TSEG1 k)) (l.rd (CAN.NBT.TSEG2 k))
  let d := bitClocks (l.rd (CAN.DBT.BRP k)) (l.rd (CAN.DBT.TSEG1 k)) (l.rd (CAN.DBT.TSEG2 k))
  let x := bitClocks (l.rd (CAN.XBT.BRP k)) (l.rd (CAN.XBT.TSEG1 k)) (l.rd (CAN.XBT.TSEG2 k))
  failAt (CAN.CAN_CTRL.off k) (k = 0 && l.rd (CAN.CAN_CTRL.PROTO k) = 2)
  ++ failAt (CAN.NBT.off k) (decide (n < 80 ∨ 640 < n ∨ l.rd (CAN.NBT.TSEG2 k) < l.rd (CAN.NBT.SJW k)))
  ++ failAt (CAN.DBT.off k) (decide (d < 10 ∨ l.rd (CAN.DBT.TSEG2 k) < l.rd (CAN.DBT.SJW k)))
  ++ failAt (CAN.XBT.off k) (k = 1 && decide (x < 8 ∨ l.rd (CAN.XBT.TSEG2 k) < l.rd (CAN.XBT.SJW k)))
  ++ (List.range 16).flatMap (fun j =>
    failAt (CAN.TXO_CFG.off k j) (l.on (CAN.TXO_ID.EN k j) &&
      (decide (4096 < l.rd (CAN.TXO_CFG.OFF k j) + l.rd (CAN.TXO_CFG.LEN k j)) || l.rd (CAN.TXO_CFG.OFF k j) % 4 != 0
        || l.rd (CAN.TXO_CFG.PERIOD k j) = 0
        || !canLenOk (l.rd (CAN.CAN_CTRL.PROTO k)) (l.on (CAN.TXO_ID.FD k j)) (l.rd (CAN.TXO_CFG.LEN k j)))))

/-- Input `i` of function `f`, as stored. -/
def LaneSt.sfInByte (l : LaneSt) (f i : Nat) : Nat := l.rd ⟨SIO.SF_IN.off f, 8 * i, 8⟩

/-- Whether an input of a function is unused. -/
def LaneSt.sfUnused (l : LaneSt) (f i : Nat) : Bool := l.sfInByte f i % 4 = 3

/-- Which inputs the TYPE of a function uses (R329). -/
def LaneSt.sfUses (l : LaneSt) (f i : Nat) : Bool :=
  match l.rd (SIO.SF_CTRL.TYPE f) with
  | 1 => i < 2
  | 2 => i < 2 || l.on (SIO.SF_CTRL.LOCK f)
  | 3 => true
  | 4 => i < 2
  | _ => false

/-- The lanes that the FUNCTION outputs of a function name. -/
def LaneSt.sfLanes (l : LaneSt) (f : Nat) : Nat :=
  maskOf 3 (fun k => (List.range 8).any (fun o =>
    l.rd (SIO.SO_CFG.ROLE o) = 1 && l.rd (SIO.SO_CFG.TARGET o) = f && bit (l.rd (SIO.SO_CFG.LANES o)) k))

/-- The rules of one safety function (R347). -/
def LaneSt.badSf (l : LaneSt) (f : Nat) : List Nat :=
  let ty := l.rd (SIO.SF_CTRL.TYPE f)
  let b (i : Nat) : Nat := l.sfInByte f i
  let same (i : Nat) : Bool := !l.sfUnused f i && !l.sfUnused f (i + 1) && b i % 4 = b (i + 1) % 4
  failAt (SIO.SF_IN.off f)
    ((List.range 4).any (fun i => decide (19 < b i / 4 % 32 ∧ b i % 4 ≠ 3) || (bit (b i) 7 && b i % 4 != 3)
        || l.sfUses f i = l.sfUnused f i)
      || same 0 || same 2
      || (List.range 4).any (fun i => !l.sfUnused f i && ((List.range 16).any (fun g => g != f &&
          (List.range 4).any (fun j => !l.sfUnused g j && b i = l.sfInByte g j)))))
  ++ failAt (SIO.SF_CTRL.off f)
    (((ty = 1 || ty = 3) && l.on (SIO.SF_CTRL.RESTART f)) || (ty != 2 && l.on (SIO.SF_CTRL.LOCK f))
      || (ty != 0 && l.sfLanes f != 0 && popCount 3 (l.sfLanes f) != l.rd (SIO.SF_CTRL.WIRING f) + 1))

/-- The rules of the safety block (R347). -/
def LaneSt.badSio (l : LaneSt) : List Nat :=
  failAt SIO.TP_CFG.off (decide (l.rd SIO.TP_CFG.PERIOD * 100 < 12 * l.rd SIO.TP_CFG.WIDTH))
  ++ (List.range 20).flatMap (fun i =>
    failAt (SIO.SI_CFG.off i) (l.rd (SIO.SI_CFG.TP i) != 0 &&
      (l.rd (SIO.SI_CFG.OSSD_FILT i) != 0 || decide (l.rd SIO.TP_CFG.WIDTH ≤ 2 * l.rd (SIO.SI_CFG.FILT i)))))
  ++ (List.range 8).flatMap (fun k =>
    let role := l.rd (SIO.SO_CFG.ROLE k)
    let t := l.rd (SIO.SO_CFG.TARGET k)
    failAt (SIO.SO_CFG.off k) ((role = 1 && decide (15 < t)) || ((role = 0 || role = 3) && t != 0)))
  ++ (List.range 16).flatMap l.badSf

/-! ## Interrupts, reactions, background, power -/

/-- The rules of the interrupt banks (R352, R365). -/
def LaneSt.badIrq (l : LaneSt) : List Nat :=
  let gs := (List.range 32).filter (fun g => !groupReserved g)
  failAt IRQ.CLASS.off ((List.range 32).any (fun g => groupReserved g && bit (l.rd IRQ.CLASS.FAST) g))
  ++ gs.flatMap (fun g => failAt (IRQ.GCFG.off g) (gs.any (fun h =>
      l.bank g != l.bank h && l.rd (IRQ.GCFG.VEC g) = l.rd (IRQ.GCFG.VEC h))))
  ++ failAt IRQ.CAUSE_BASE.off (l.on IRQ.CTRL.EN && l.addr IRQ.CAUSE_BASE.off IRQ.CAUSE_BASE_HI.off = 0)

/-- Events for which CHANNEL_SAFE is a reaction (R371). -/
def channelSafeOk (code : Nat) : Bool :=
  let b := code / 32
  b = 8 || b = 9 || (b = 10 && code != 0x14A && code != 0x14B) || code = 0x164 || code = 0x165
    || (0x182 ≤ code && code ≤ 0x189)

/-- The frisket (R370, R371): no reserved value, a fixed event at its fixed value, CHANNEL_SAFE only where it acts. -/
def LaneSt.badFrisk (l : LaneSt) : List Nat :=
  (List.range 24).flatMap (fun b => (List.range 4).flatMap (fun w =>
    failAt (FLT.FRISKET.off b w) ((List.range 8).any (fun j =>
      let code := 32 * b + 8 * w + j
      let v := l.rd ⟨FLT.FRISKET.off b w, 4 * j, 3⟩
      decide (4 < v) || (faultDefault code = 4 && v != 4) || (v = 2 && !channelSafeOk code)))))
  ++ failAt FLT.FRISKET_AUX.off ((List.range 5).any (fun j => decide (4 < l.rd ⟨FLT.FRISKET_AUX.off, 8 + 4 * j, 3⟩)))

/-- The NAP load of the configuration, in 10 µA units (R434). -/
def LaneSt.napBudget (l : LaneSt) : Nat :=
  let estop (i : Nat) : Bool := (List.range 16).any (fun f => l.rd (SIO.SF_CTRL.TYPE f) = 1 &&
    (List.range 2).any (fun j => l.sfInByte f j % 4 = l.id.num && l.sfInByte f j / 4 % 32 = i))
  let wakes := (List.range 20).filter (fun i => l.on (SIO.SI_CFG.WAKE i) || estop i)
  let tps := (List.range 4).filter (fun k => bit (l.rd SIO.TP_CFG.EN) k &&
    wakes.any (fun i => l.rd (SIO.SI_CFG.TP i) = k + 1))
  500 + 10 * (l.rd PWR.WAKE_EN.PIN + popCount 2 (l.rd PWR.WAKE_EN.CAN) + popCount 4 (l.rd PWR.WAKE_EN.PHY))
    + 30 * wakes.length + 200 * tps.length

/-- The rules of the background services and the NAP budget (R430, R434). -/
def LaneSt.badRest (l : LaneSt) : List Nat :=
  failAt MEM.NVM_CTRL.off (decide (l.rd MEM.NVM_CTRL.CORR_TH ≤ l.rd MEM.NVM_CTRL.REFRESH_TH))
  ++ failAt PWR.WAKE_EN.off (decide (1800 < l.napBudget))

/-- The words at fault in the checks of every block. -/
def LaneSt.badWords (l : LaneSt) : List Nat :=
  l.badRanges ++ l.badVote ++ (List.range 16).flatMap l.badGen ++ l.badLoop ++ (List.range 8).flatMap l.badChannel
    ++ (List.range 24).flatMap l.badPort ++ (List.range 4).flatMap l.badPass ++ l.badAdc
    ++ (List.range 26).flatMap l.badLeg ++ l.badOv ++ (List.range 8).flatMap l.badCarrier ++ l.badTime
    ++ (List.range 2).flatMap (fun b => l.badQbv b 0 ++ l.badQbv b 1) ++ l.badYuwil ++ l.badCan 0 ++ l.badCan 1
    ++ l.badSio ++ l.badIrq ++ l.badFrisk ++ l.badRest

/-! ## The objects of R41 -/

/-- One object in host memory: address, size, and the galley number shown when it overlaps another. -/
structure HostObj where
  addr : Nat
  size : Nat
  index : Nat
  deriving DecidableEq, Repr

/-- The objects in use: enabled galleys, the doorbell page, the folio, the cause records, the telemetry galley. -/
def LaneSt.hostObjects (l : LaneSt) : List HostObj :=
  ((List.range 16).filter (fun n => l.on (HIF.SG_CTRL.EN n))).map
      (fun n => ⟨l.addr (HIF.SG_BASE.off n) (HIF.SG_BASE_HI.off n), 64 * l.sgSize n, n⟩)
  ++ ((List.range 16).filter (fun n => l.on (HIF.CG_CTRL.EN n))).map
      (fun n => ⟨l.addr (HIF.CG_BASE.off n) (HIF.CG_BASE_HI.off n), 32 * l.cgSize n, n⟩)
  ++ [⟨l.addr HIF.DB_BASE.off HIF.DB_BASE_HI.off, 256, 0⟩, ⟨l.addr HIF.FOLIO_BASE.off HIF.FOLIO_BASE_HI.off, 4096, 0⟩]
  ++ (if l.on IRQ.CTRL.EN then [⟨l.addr IRQ.CAUSE_BASE.off IRQ.CAUSE_BASE_HI.off, 1024, 0⟩] else [])
  ++ (if l.on MEM.CTRL.TG_EN then
        [⟨l.addr MEM.TG_BASE.off MEM.TG_BASE_HI.off, 256 * 2 ^ (l.rd MEM.TG_CTRL.SIZE + 4), 0⟩] else [])

/-- Whether two objects overlap. -/
def HostObj.meets (x y : HostObj) : Bool := decide (x.addr < y.addr + y.size ∧ y.addr < x.addr + x.size)

/-- The first object that overlaps a later one. -/
def firstOverlap : List HostObj → Option HostObj
  | [] => none
  | x :: xs => if xs.any x.meets then some x else firstOverlap xs

/-! ## The quoin (R64) -/

/-- The galley number of a word of the galley registers, for the INDEX of RESERVED_VALUE. -/
def galleyOf (off : Nat) : Nat := if 0x3100 ≤ off ∧ off < 0x3300 then off % 0x100 / 16 else 0

/-- The first failing check of HIF.SEAL_ERR: code and index (R62). -/
def LaneSt.sealCheck (l : LaneSt) : Option (Nat × Nat) :=
  if !l.on HIF.CTRL.EN then some (1, 0)
  else if l.addr HIF.DB_BASE.off HIF.DB_BASE_HI.off = 0 then some (2, 0)
  else if l.addr HIF.FOLIO_BASE.off HIF.FOLIO_BASE_HI.off = 0 then some (3, 0)
  else match l.badWords with
  | off :: _ => some (4, galleyOf off)
  | [] =>
    if (List.range 16).all (fun n => !l.on (HIF.SG_CTRL.EN n)) then some (5, 0)
    else match (List.range 16).find? (fun n =>
        l.on (HIF.SG_CTRL.EN n) && !l.on (HIF.CG_CTRL.EN (l.rd (HIF.SG_CTRL.CG n)))) with
    | some n => some (6, n)
    | none =>
      match firstOverlap l.hostObjects with
      | some o => some (7, o.index)
      | none => if l.on HIF.STATUS.LINK_UP then none else some (8, 0)

end Sys2Proof.Machine
end

