-- ==== Sys2Proof/Machine/Cfg.lean ====
section
/-!
DEFINITION. The configuration image, the quoin and the epoch commit (R64, R83 to R88 of chapters 02 and 03; R406 to
R409 of chapter 17; R150, R220, R233, R297, R299, R331 at the epoch).
-/

namespace Sys2Proof.Machine

open Sys2Proof

/-! ## Images (R406) -/

/-- One item of an image: its offset in the image, KIND, BAR0 OFFSET and payload. -/
structure ImgItem where
  pos : Nat
  kind : Nat
  bar : Nat
  payload : List Byte
  deriving DecidableEq, Repr

/-- Read `n` items from the bytes at offset `pos`; the offset of the first that is not of the form of R406, or of bytes
left over. -/
def parseItems : Nat → Nat → List Byte → List ImgItem × Option Nat
  | 0, pos, rest => ([], if rest.isEmpty then none else some pos)
  | n + 1, pos, rest =>
    let w := leAt rest 0 8
    let size := w / 2 ^ 16 % 2 ^ 16
    if rest.length < 8 ∨ size < 8 ∨ size % 8 ≠ 0 ∨ rest.length < size ∨ w / 2 ^ 52 ≠ 0 then ([], some pos)
    else
      let r := parseItems n (pos + size) (rest.drop size)
      (⟨pos, w % 2 ^ 16, w / 2 ^ 32 % 2 ^ 20, (rest.take size).drop 8⟩ :: r.1, r.2)

/-- The items of an image. -/
def imageItems (img : List Byte) : List ImgItem := (parseItems (leAt img 6 2) 32 (img.drop 32)).1

/-- The 32-bit values of a payload. -/
def payloadWords (p : List Byte) : List Nat := (List.range (p.length / 4)).map (fun i => leAt p (4 * i) 4)

/-- The registers a REG item names, with their values. A last word of zero is padding: the item does not tell padding
from a value (log entry 18). -/
def ImgItem.words (it : ImgItem) : List (Nat × Nat) :=
  let ws := payloadWords it.payload
  let ws := if ws.getLast? = some 0 then ws.dropLast else ws
  (List.range ws.length).map (fun i => (it.bar + 4 * i, ws.getD i 0))

/-- The registers that an image names, with their values and the offset of their item. -/
def imageWords (items : List ImgItem) : List (Nat × Nat × Nat) :=
  (items.filter (fun it => it.kind = 1)).flatMap (fun it => it.words.map (fun w => (w.1, w.2, it.pos)))

/-- The bytes of one item. -/
def itemBytes (kind bar : Nat) (payload : List Byte) : List Byte :=
  toLe 8 (kind + 2 ^ 16 * (8 + payload.length) + 2 ^ 32 * bar) ++ payload

/-- The bytes of an image with the given BASE_FP and items. -/
def imageBytes (baseFp : Nat) (items : List ImgItem) : List Byte :=
  let body := items.flatMap (fun it => itemBytes it.kind it.bar it.payload)
  toLe 4 0x54313643 ++ toLe 2 1 ++ toLe 2 items.length ++ toLe 4 (32 + body.length) ++ toLe 4 0 ++ toLe 8 baseFp
    ++ toLe 8 0 ++ body

/-- The image that is stored: without its PASSWORD and MACSEC_SAK items (R408). -/
def storedImage (img : List Byte) : List Byte :=
  imageBytes (leAt img 16 8) ((imageItems img).filter (fun it => it.kind ≠ 4 && it.kind ≠ 5))

/-- RWS bits of a word. -/
def rwsMask (off : Nat) : Nat := ((regRow off).map (·.rws)).getD 0

/-- The RWS registers of the lane take the values given, each other its reset value; lane-specific ones stay (R407). -/
def LaneSt.loadWords (l : LaneSt) (vals : List (Nat × Nat)) : LaneSt :=
  setupOffsets.foldl (fun l off =>
    let m := BitVec.ofNat 32 (rwsMask off)
    let v := match vals.find? (fun x => x.1 = off) with
      | some x => BitVec.ofNat 32 x.2
      | none => regReset l.id off
    l.setWord off ((l.word off &&& ~~~m) ||| (v &&& m))) l

/-- Load the registers of an image. -/
def LaneSt.loadImage (l : LaneSt) (items : List ImgItem) : LaneSt :=
  l.loadWords ((imageWords items).map (fun w => (w.1, w.2.1)))

/-- CONFIG_FP (R408). -/
def LaneSt.configFp (l : LaneSt) : Nat := l.rd CFG.IMAGE_FP_LO.FP + 2 ^ 32 * l.rd CFG.IMAGE_FP_HI.FP

/-! ## Validation (R407) -/

/-- Words of HIF and of IRQ that an image cannot change. -/
def fixedByImage (off : Nat) : Bool :=
  (0x3000 ≤ off && off < 0x4000) || off = 0x4400 || off = 0x4408 || off = 0x440C

/-- Whether an item is of a kind and form of R406, and names only RWS words with no reserved or RO bit set. A password
outside R410 is not of its form. -/
def ImgItem.ok (it : ImgItem) : Bool :=
  match it.kind with
  | 1 => it.bar % 4 = 0 && it.words.all (fun w => w.2 &&& rwsMask w.1 = w.2 && rwsMask w.1 != 0 && !laneSpecific w.1)
  | 2 => it.payload.length = 32
  | 3 => it.payload.length = 32
  | 4 => it.payload.length = 88 && decide (1000 ≤ leAt it.payload 16 4 ∧ leAt it.payload 16 4 ≤ 1000000)
          && leAt it.payload 20 4 = 0
  | 5 => it.payload.length = 24 && decide (leAt it.payload 0 8 < 16)
  | _ => false

/-- The item offset of the first register that an earlier item, or the same one, names already. -/
def namedTwice : List Nat → List (Nat × Nat × Nat) → Option Nat
  | _, [] => none
  | seen, w :: ws => if seen.contains w.1 then some w.2.2 else namedTwice (w.1 :: seen) ws

/-- The lowest of several offsets. -/
def lowest : List Nat → Option Nat
  | [] => none
  | x :: xs => some (xs.foldl min x)

/-- The offset of the first failing field or item of an image (R407), none when it is valid. A register at fault that
no item names counts at offset 0 (log entry 18). -/
def LaneSt.imageFault (l : LaneSt) (img : List Byte) (length : Nat) : Option Nat :=
  if leAt img 0 4 ≠ 0x54313643 then some 0
  else if leAt img 4 2 ≠ 1 then some 4
  else if leAt img 8 4 ≠ length ∨ img.length ≠ length then some 8
  else if leAt img 16 8 ≠ 0 ∧ leAt img 16 8 ≠ l.configFp then some 16
  else
    let p := parseItems (leAt img 6 2) 32 (img.drop 32)
    let ws := imageWords p.1
    let at' (off : Nat) : Nat := ((ws.find? (fun w => w.1 = off)).map (fun w => w.2.2)).getD 0
    let formBad := ((p.1.filter (fun it => !it.ok)).map (·.pos)) ++ p.2.toList ++ (namedTwice [] ws).toList
    match lowest formBad with
    | some x => some x
    | none =>
      let n := l.loadImage p.1
      let fixed := (setupOffsets.filter (fun off => fixedByImage off && n.word off != l.word off)).map at'
      let blocks := n.badWords.map at' ++ (if (firstOverlap n.hostObjects).isSome then [at' MEM.TG_BASE.off] else [])
      lowest (fixed ++ blocks)

/-! ## The committed image and its copies (R408, R409) -/

/-- An image becomes the committed image: IMAGE_LEN, CONFIG_FP. -/
def LaneSt.setImage (l : LaneSt) (img : List Byte) : LaneSt :=
  let fp := fingerprint img
  let l := (l.wr CFG.IMAGE_FP_LO.FP fp).wr CFG.IMAGE_FP_HI.FP (fp / 2 ^ 32)
  let l := l.wr CFG.IMAGE_LEN.VALUE img.length
  { l with sec := { l.sec with image := img } }

/-- Both NVM copies take the committed image under the next store sequence. -/
def LaneSt.storeCopies (l : LaneSt) : LaneSt :=
  let q := (l.rd CFG.STORE_SEQ.VALUE + 1) % 2 ^ 32
  let l := l.wr CFG.STORE_SEQ.VALUE q
  { l with sec := { l.sec with copies := Vector.replicate 2 (some (q, l.sec.image)) } }

/-- Consecutive words gathered into runs. -/
def runs : List (Nat × Nat) → List (Nat × List Nat)
  | [] => []
  | (off, v) :: rest =>
    match runs rest with
    | [] => [(off, [v])]
    | (o, vs) :: more => if o = off + 4 then (off, v :: vs) :: more else (off, [v]) :: (o, vs) :: more

/-- The Yuwil keys held, as items. -/
def LaneSt.keyItems (l : LaneSt) : List ImgItem :=
  [0, 1].filterMap (fun i =>
    let k := l.sec.ywKeys.getD i []
    if k.isEmpty then none else some ⟨0, 2 + i, 0, k⟩)

/-- The canonical image of the registers (R408). -/
def LaneSt.canonical (l : LaneSt) : List Byte :=
  let ws := setupOffsets.filterMap (fun off =>
    let m := rwsMask off
    let v := (l.word off).toNat &&& m
    if v = (regReset l.id off).toNat &&& m then none else some (off, v))
  let regs := (runs ws).map (fun r =>
    let b := r.2.flatMap (toLe 4)
    (⟨0, 1, r.1, if r.2.length % 2 = 1 then b ++ toLe 4 0 else b⟩ : ImgItem))
  imageBytes 0 (regs ++ l.keyItems)

/-! ## What takes a setup into force -/

/-- The gate-driver dies take their own copy of the settings of the force-safe state (R243). -/
def LaneSt.dieLoad (l : LaneSt) : LaneSt :=
  let l : LaneSt := { l with gate := { l.gate with
      dieUse := Vector.ofFn (fun m : Fin 26 => l.rd (GATE.LEG_CTRL.USE m.val)) } }
  (List.range 8).foldl (fun l n => l.setGateCh n (fun c => { c with dieAsc := l.rd (GATE.BRIDGE.ASC_DEF n) })) l

/-- OFF to DEMAND with a TYPE other than OFF (R331); a function whose TYPE is OFF is OFF. -/
def LaneSt.startFunctions (l : LaneSt) : LaneSt :=
  ((List.range 16).foldl (fun l f =>
    let ty := l.rd (SIO.SF_CTRL.TYPE f)
    if ty ≠ 0 ∧ l.sf f = 0 then l.setSf f 1
    else if ty = 0 ∧ l.sf f ≠ 0 then l.setSf f 0
    else l) l).evalSafety

/-- What every block takes from a new setup at once: the dies, the NAP budget, the limits shown, the slots, the safety
functions. -/
def LaneSt.takeSetup (l : LaneSt) : LaneSt :=
  let l := l.dieLoad.wr PWR.BUDGET.NAP_BUDGET l.napBudget
  let l := (List.range 8).foldl (fun l n => (l.showTorque n).showLimits n) l
  (l.judgeSlots.judgePos).startFunctions

/-! ## The quoin (R64, R65) -/

/-- A lane seals: setup hash to the peers, canonical image, the setup in force. A port whose MODE was chosen after its
island was released starts now (log entry 19). -/
def LaneSt.sealNow (l : LaneSt) : LaneSt :=
  let l := ((l.wr HIF.STATUS.SEALED 1).wr HIF.SEAL_ERR.CODE 0).wr HIF.SEAL_ERR.INDEX 0
  let h := l.setupHash
  let l := (l.send 0x04 0 ((List.range 8).map (fun i => h / 2 ^ (64 * i) % 2 ^ 64))).judgeSetup
  let img := l.canonical
  let old := l.configFp
  let l := if fingerprint img = old then l
    else (l.setImage img).storeCopies.appendLog 0x01 0 0 old (fingerprint img) false
  let l := l.wr CFG.STATUS.DEFAULTED 0
  let l := (List.range 24).foldl (fun l p =>
    if l.rd (FBK.STATUS.STATE p) = 0 ∧ l.rd (FBK.CTRL.MODE p) ≠ 0 then l.portStart p false else l) l
  l.takeSetup

/-- QUOIN: a write of the seal key runs the checks; any other value is discarded and recorded (R62, R64); once the quoin
is set, the key changes nothing more (R31). -/
def LaneSt.quoinWrite (l : LaneSt) (key : Nat) : LaneSt :=
  if key ≠ 0x5EA10316 then l.fault 0x004 0
  else if l.sealed then l
  else
    let l := l.noteSched
    match l.sealCheck with
    | some (code, i) => (l.wr HIF.SEAL_ERR.CODE code).wr HIF.SEAL_ERR.INDEX i
    | none => l.sealNow

def execQuoin (l : LaneId) (key : Word) (s : State) : Host.Outcome State Fault Refusal :=
  onBar l (fun x => x.quoinWrite key.toNat) s

/-! ## MACsec keys (R299) -/

/-- Slot of a SAK in the key store. -/
def sakSlot (net port an : Nat) : Nat := 8 * net + 4 * port + an

/-- The packet numbers of a port restart with a new SAK. -/
def LaneSt.restartPn (l : LaneSt) (net port : Nat) : LaneSt :=
  l.setNet (fun n => { n with pn := n.pn.setIfInBounds (2 * net + port) (1, 0) })

/-- Install a SAK. -/
def LaneSt.installSak (l : LaneSt) (net port an : Nat) (k : List Byte) : LaneSt :=
  ({ l with sec := { l.sec with saks := l.sec.saks.setIfInBounds (sakSlot net port an) k } } : LaneSt).restartPn net port

/-- MACSEC_SAK_WRITE: bytes 4n to 4n + 3 of the SAK of the port's association number, byte 4n in [31:24], until the
quoin. -/
def LaneSt.sakWrite (l : LaneSt) (net port n v : Nat) : LaneSt :=
  if l.sealed then l
  else
    let an := l.rd (NET.MS_CTRL.AN net port)
    let old := l.sec.saks.getD (sakSlot net port an) []
    let k := if old.length = 16 then old else List.replicate 16 0
    l.installSak net port an (k.take (4 * n) ++ toBe 4 v ++ k.drop (4 * n + 4))

def execMacsecSakWrite (l : LaneId) (net port : Fin 2) (n : Fin 4) (value : Word) (s : State) :
    Host.Outcome State Fault Refusal := onBar l (fun x => x.sakWrite net.val port.val n.val value.toNat) s

/-- The network, port and word of a MACsec key register. -/
def sakWordAt (off : Nat) : Option (Nat × Nat × Nat) :=
  ([0, 1].flatMap (fun i => [0, 1].flatMap (fun j => [0, 1, 2, 3].map (fun k => (i, j, k))))).find? (fun x =>
    NET.MS_SAK.off x.1 x.2.1 x.2.2 = off)

/-- REGISTER_WRITE: a 32-bit write to a BAR0 word. HIF.CTRL, the quoin, the MACsec keys and the IRQ banks keep their own
effects when they are reached by offset. -/
def execRegisterWrite (l : LaneId) (off : Nat) (value : Word) (s : State) : Host.Outcome State Fault Refusal :=
  onBar l (fun x =>
    if !hostWindow off || 0x100000 ≤ off then x.otherWrite off value.toNat
    else if off = 0x300C then x.quoinWrite value.toNat
    else match sakWordAt off with
    | some (i, j, k) => x.sakWrite i j k value.toNat
    | none => x.registerWrite off value) s

/-! ## The staging area (R83) -/

/-- Bytes of the staging area. -/
def LaneSt.staged (l : LaneSt) (off n : Nat) : List Byte :=
  (List.range n).map (fun i => Sparse.get (fun _ => 0) l.staging (off + i))

/-- Copy bytes to an offset of the staging area. -/
def LaneSt.stage (l : LaneSt) : Nat → List Byte → LaneSt
  | _, [] => l
  | off, b :: bs => LaneSt.stage ({ l with staging := Sparse.set (fun _ => 0) l.staging off b } : LaneSt) (off + 1) bs

/-! ## CONFIG_COMMIT (R84, R85) -/

/-- L_min, in ns (R84). -/
def LaneSt.leadTime (l : LaneSt) : Nat := max 200000 (100000 + 6 * l.tVote)

/-- A commit is pending. -/
def LaneSt.committing (l : LaneSt) : Bool := l.commit.isSome

/-- Member lanes whose change log has no free entry for a commit (R415). -/
def State.logFull (s : State) (members : Nat) : Nat :=
  maskOf 3 (fun k => bit members k && decide (4032 ≤ (s.lane (LaneId.ofNum k)).sec.log.length))

/-- The checks of CONFIG_COMMIT after those of R50 (R84, R88, R415). -/
def LaneSt.commitChecks (l : LaneSt) (full epoch : Nat) : List (Option (Nat × Nat)) :=
  [l.permTime,
   if l.committing then some (0x41, 0) else none,
   if epoch < l.time.now + l.leadTime * 2 ^ 32 then some (0x42, l.leadTime / 1000) else none,
   if l.time.now + 10 ^ 10 * 2 ^ 32 < epoch then some (0x43, 0) else none,
   if full ≠ 0 then some (0x44, full) else none]

/-- The commit is accepted. -/
def LaneSt.commitStart (l : LaneSt) (d : Decided) (epoch length crc : Nat) : LaneSt :=
  { (l.wr CFG.STATUS.COMMIT_PENDING 1) with
    commit := some { d := d, epoch := epoch, length := length, crc := crc, members := l.members, changed := false, own := none, go := none,
                     reason := none, apply := false, oldFp := none } }

def DescOp.isCommit : DescOp → Bool
  | .configCommit _ _ _ _ => true
  | _ => false

/-- CONFIG_COMMIT. -/
def execConfigCommit (l : LaneId) (s : State) : Host.Outcome State Fault Refusal :=
  onLane l (fun x => x.withDesc DescOp.isCommit (fun d op y =>
    match op with
    | .configCommit sec ns length crc =>
      let epoch := time80 sec ns * 2 ^ 32
      y.permittedSession (s.leadSession l d) d [] (y.commitChecks (s.logFull y.members) epoch)
        (fun z => z.commitStart d epoch length crc)
    | _ => y)) s

/-- Change the pending commit. -/
def LaneSt.setCommit (l : LaneSt) (f : Commit → Commit) : LaneSt := { l with commit := l.commit.map f }

/-- COMMIT_READY_CHECK: IMAGE_CRC, then the image; READY with its fingerprint or FAIL with the reason and its argument
(R84). -/
def LaneSt.readyCheck (l : LaneSt) : LaneSt :=
  match l.commit with
  | none => l
  | some c =>
    if c.own.isSome then l
    else
      let img := l.staged 0 c.length
      if crc32c img ≠ c.crc then
        (l.setCommit (fun c => { c with own := some (false, 0x45) })).send 0x03 (1 + 2 ^ 8 * 0x45) [0]
      else
        let n := (l.loadImage (imageItems img)).noteSched
        let l := l.setWord LOOP.SCHED_ERR.off (n.word LOOP.SCHED_ERR.off)
        match l.imageFault img c.length with
        | some off =>
          (l.setCommit (fun c => { c with own := some (false, 0x46 + 2 ^ 8 * off) })).send 0x03 (1 + 2 ^ 8 * 0x46) [off]
        | none =>
          let fp := fingerprint img
          (l.setCommit (fun c => { c with own := some (true, fp) })).send 0x03 0 [fp]

def execCommitReadyCheck (l : LaneId) (s : State) : Host.Outcome State Fault Refusal := onLane l LaneSt.readyCheck s

/-- COMMIT_RECORD_RECEIVE: READY 0, FAIL 1, GO 2, NOGO 3. -/
def execCommitRecordReceive (l : LaneId) (src : Arrival) (kind : Fin 4) (reason : Byte) (payload : Dword) (s : State) :
    Host.Outcome State Fault Refusal :=
  onReceive l src (fun x => x.setPeer src.lane (fun v =>
    match kind.val with
    | 0 => { v with ready := some (true, payload.toNat) }
    | 1 => { v with ready := some (false, reason.toNat + 2 ^ 8 * payload.toNat) }
    | 2 => { v with go := some true }
    | _ => { v with go := some false, nogo := (reason.toNat, payload.toNat) })) s

/-- What the lane holds of the check of lane `k`: READY with its fingerprint, or FAIL. -/
def LaneSt.readyOf (l : LaneSt) (c : Commit) (k : LaneId) : Option (Bool × Nat) :=
  if k = l.id then c.own else (l.peer k).ready

/-- The members, as lanes. -/
def LaneSt.memberLanes (l : LaneSt) : List LaneId := LaneId.all.filter (fun k => bit l.members k.num)

/-- Members that meet a condition, as a mask. -/
def LaneSt.membersWith (l : LaneSt) (p : LaneId → Bool) : Nat := maskOf 3 (fun k => bit l.members k && p (LaneId.ofNum k))

/-- Whether a check failed with a reason. -/
def failedWith (r : Option (Bool × Nat)) (code : Nat) : Bool :=
  match r with
  | some (false, v) => v % 2 ^ 8 = code
  | _ => false

/-- The first reason at D_r that keeps the commit from GO, in the order of the table of R88, with its argument. -/
def LaneSt.commitReason (l : LaneSt) (c : Commit) : Option (Nat × Nat) :=
  let r := l.readyOf c
  let crc := l.membersWith (fun k => failedWith (r k) 0x45)
  let bad := l.memberLanes.findSome? (fun k => match r k with
    | some (false, v) => if v % 2 ^ 8 = 0x46 then some (v / 2 ^ 8) else none
    | _ => none)
  let absent := l.membersWith (fun k => match r k with
    | some (true, _) => false
    | _ => true)
  let ref := (r (l.vote.lead.getD l.id)).map (·.2)
  let differ := l.membersWith (fun k => (r k).map (·.2) != ref)
  if crc ≠ 0 then some (0x45, crc)
  else match bad with
  | some off => some (0x46, off)
  | none =>
    if absent ≠ 0 then some (0x47, absent)
    else if differ ≠ 0 then some (0x48, differ)
    else if l.members ≠ c.members ∨ c.changed then some (0x49, l.members)
    else if 150 < l.time.spread then some (0x4A, min 0xFFFF l.time.spread)
    else none

/-- COMMIT_READY_DEADLINE: GO or NOGO at the first voting boundary at or after D_r (R85); a lane that has left TIME80
sends NOGO (R288). A NOGO carries the reason of its lane and, in place of the fingerprint, its argument (log entry 50). -/
def LaneSt.readyDeadline (l : LaneSt) : LaneSt :=
  match l.commit with
  | none => l
  | some c =>
    if c.go.isSome ∨ !l.isMember ∨ l.time.now + 4 * l.tVote * 2 ^ 32 < c.epoch then l
    else
      let why := l.commitReason c
      let go := why.isNone && !l.t32
      (l.setCommit (fun c => { c with go := some go, reason := why })).send 0x03
        (if go then 2 else 3 + 2 ^ 8 * (why.getD (0, 0)).1)
        [(if go then (c.own.map (·.2)).getD 0 else (why.getD (0, 0)).2) % 2 ^ 64]

def execCommitReadyDeadline (l : LaneId) (s : State) : Host.Outcome State Fault Refusal := onLane l LaneSt.readyDeadline s

/-- The first reason of an abort in the order of the table of R88, among the own reason and those of the NOGOs received;
of two lanes with the same one, the lower letter's; NO_GO where none is held (R87). -/
def LaneSt.abortReason (l : LaneSt) (c : Commit) (missing : Nat) : Nat × Nat :=
  let of (k : LaneId) : Option (Nat × Nat) :=
    if !bit l.members k.num then none
    else if k = l.id then c.reason
    else if (l.peer k).go = some false ∧ (l.peer k).nogo.1 ≠ 0 then some (l.peer k).nogo else none
  let rs := LaneId.all.filterMap of
  (rs.find? (fun x => rs.all (fun y => decide (x.1 ≤ y.1)))).getD (0x4B, missing)

/-- COMMIT_DECISION_DEADLINE: with the own GO and one of every member the image is applied at EPOCH, else every member
aborts (R85). -/
def LaneSt.decisionDeadline (l : LaneSt) : LaneSt :=
  match l.commit with
  | none => l
  | some c =>
    if c.apply ∨ l.time.now + 2 * l.tVote * 2 ^ 32 < c.epoch then l
    else
      let missing := l.membersWith (fun k => (if k = l.id then c.go else (l.peer k).go) != some true)
      if missing = 0 then l.setCommit (fun c => { c with apply := true })
      else l.setCommit (fun c => { c with reason := some (l.abortReason c missing) })

def execCommitDecisionDeadline (l : LaneId) (s : State) : Host.Outcome State Fault Refusal :=
  onLane l LaneSt.decisionDeadline s

/-! ## The epoch (R86, R87) -/

/-- A port whose fields other than PRB and PT changed restarts (R220). -/
def LaneSt.carryPort (l old : LaneSt) (p : Nat) : LaneSt :=
  if (List.range 9).all (fun i => l.word (FBK.CTRL.off p + 4 * i) = old.word (FBK.CTRL.off p + 4 * i)) then l
  else (l.portStart p true).sourceBad p

/-- ZERO_CAL is cleared when ZC, ZERO or SCALE of its input changes; holds taken before keep the old settings (R233). -/
def LaneSt.carryInput (l old : LaneSt) (i : Nat) : LaneSt :=
  if l.rd (ADC.IN_CFG.ZC i) = old.rd (ADC.IN_CFG.ZC i) ∧ l.word (ADC.IN_ZERO.off i) = old.word (ADC.IN_ZERO.off i)
      ∧ l.word (ADC.IN_SCALE.off i) = old.word (ADC.IN_SCALE.off i) then l
  else l.wr (ADC.ZERO_CAL.VALUE i) 0

/-- The holds in flight keep the settings they were taken under. -/
def LaneSt.freezeHolds (l : LaneSt) : LaneSt :=
  { l with adc := { l.adc with held := l.adc.held.map (fun hs => hs.map (fun h =>
      { h with old := some (h.old.getD (l.scaling h.ain)) })) } }

/-- A network port that the epoch disables starts its shutdown (R297). -/
def LaneSt.carryNet (l old : LaneSt) (p : Nat) : LaneSt :=
  let l := l.setNet (fun n => { n with cancelled := setBit n.cancelled p false })
  let l := if old.on (portEnF p) ∧ !l.on (portEnF p) ∧ !l.portStopping p then
      l.wr (NET.PORT_STATUS.STOPPING (p / 2)) (setBit (l.rd (NET.PORT_STATUS.STOPPING (p / 2))) (p % 2) true)
    else l
  if l.on (portQbvF p) = old.on (portQbvF p) then l
  else l.setNet (fun n => { n with gate := n.gate.setIfInBounds p (0, 255) })

/-- A chopper leg that the epoch disables is turned off; its shutdown ends when its current has decayed (R31). -/
def LaneSt.carryChopper (l old : LaneSt) (k : Nat) : LaneSt :=
  if old.chpEnabled k ∧ !l.chpEnabled k then
    let l := if l.chpFaulty k then l else l.setChp k false
    { l with gate := { l.gate with
        chpStop := if k = 0 then (true, l.gate.chpStop.2) else (l.gate.chpStop.1, true) } }
  else l

/-- Fingerprint of the password store. -/
def LaneSt.passwordFp (l : LaneSt) : Nat :=
  fingerprint ((List.range 4).flatMap (fun i => toLe 4 (l.rd (SEC.SALT.BYTES i))) ++ toLe 4 (l.rd SEC.PW_ITER.ITER)
    ++ digestBytes l.sec.pwHash)

/-- The items of an image beside its registers take effect: keys, password, SAK (R406, R408). -/
def LaneSt.applyItem (tag : Nat) (l : LaneSt) (it : ImgItem) : LaneSt :=
  match it.kind with
  | 2 => { l with sec := { l.sec with ywKeys := l.sec.ywKeys.set 0 it.payload } }
  | 3 => { l with sec := { l.sec with ywKeys := l.sec.ywKeys.set 1 it.payload } }
  | 4 =>
    let old := l.passwordFp
    let l := (List.range 4).foldl (fun l i => l.wr (SEC.SALT.BYTES i) (leAt it.payload (4 * i) 4)) l
    let l := (l.wr SEC.PW_ITER.ITER (leAt it.payload 16 4)).wr SEC.STATUS.PW_SET 1
    let l : LaneSt := { l with sec := { l.sec with pwHash := beAt it.payload 24 64 } }
    l.appendLog 0x05 0 tag old l.passwordFp false
  | 5 =>
    let b := leAt it.payload 0 1
    l.installSak (b % 2) (b / 2 % 2) (b / 4 % 4) (it.payload.drop 8)
  | _ => l

/-- COMMIT_EPOCH: the configuration takes effect in every block (R86, R87, R150). The setup hashes that agreed with
the lane's own agree with its new one: every member applies the same image. -/
def LaneSt.epoch (l : LaneSt) : LaneSt :=
  match l.commit with
  | none => l
  | some c =>
    if !c.apply ∨ c.oldFp.isSome ∨ !l.isMember ∨ l.time.now < c.epoch then l
    else
      let img := l.staged 0 c.length
      let items := imageItems img
      let old := (List.range 4).foldl LaneSt.endOldTick l.freezeHolds
      let h := old.setupHash
      let oldFp := old.configFp
      let l : LaneSt := { old with sec := { old.sec with ywKeys := Vector.replicate 2 [] } }
      let l := items.foldl (LaneSt.applyItem c.d.tag) (l.loadImage items)
      let l := l.carryTicks old
      let l := (List.range 24).foldl (fun l p => l.carryPort old p) l
      let l := (List.range 72).foldl (fun l i => l.carryInput old i) l
      let l := (List.range 4).foldl (fun l p => l.carryNet old p) l
      let l := (List.range 2).foldl (fun l k => l.carryChopper old k) l
      let l := (l.setImage (storedImage img)).inc CFG.COMMIT_COUNT.VALUE
      let l := (l.wr CFG.STATUS.DEFAULTED 0).takeSetup
      let h' := l.setupHash
      let l := l.peers.foldl (fun l p => l.setPeer p (fun v =>
        { v with setupHash := if v.setupHash = some h then some h' else v.setupHash })) l
      l.setCommit (fun c => { c with oldFp := some oldFp })

def execCommitEpoch (l : LaneId) (s : State) : Host.Outcome State Fault Refusal := onLane l LaneSt.epoch s

/-- The commit is over: nothing pending, the records of the peers used up. -/
def LaneSt.commitClear (l : LaneSt) : LaneSt :=
  let l := l.peers.foldl (fun l p => l.setPeer p (fun v => { v with ready := none, go := none })) l
  { (l.wr CFG.STATUS.COMMIT_PENDING 0) with commit := none }

/-- The completion of a commit at the first voting boundary after EPOCH or after the decision to abort, the copies and
the log entry after it (R87, R409). A lane that is no longer MEMBER drops its commit. -/
def LaneSt.commitClose (l : LaneSt) : LaneSt :=
  match l.commit with
  | none => l
  | some c =>
    if !l.isMember then l.commitClear
    else match c.oldFp with
    | some old =>
      let n := l.rd CFG.COMMIT_COUNT.VALUE
      let l := (l.commitClear).complete c.d stOk n 0
      let l : LaneSt := { l with folio := { l.folio with applied := (l.folio.applied + 1) % 2 ^ 32 } }
      l.storeCopies.appendLog 0x02 n c.d.tag old l.configFp false
    | none =>
      match c.reason with
      | some (code, arg) =>
        if c.apply ∨ l.time.now + 2 * l.tVote * 2 ^ 32 < c.epoch then l
        else
          let l := l.commitClear.abort c.d code arg
          { l with folio := { l.folio with aborted := (l.folio.aborted + 1) % 2 ^ 32 } }
      | none => l

end Sys2Proof.Machine
end

