-- ==== Sys2Proof/Machine/Sec.lean ====
section
/-!
DEFINITION. Descriptors that read a host buffer or export one: CONFIG_STAGE (R83), FW_STAGE (R401 to R403), FLEET_KEY
(R404, R405), LOG_READ (R416), ATTEST (R400); copies of descriptors and buffers from a peer (R79).
-/

namespace Sys2Proof.Machine

open Sys2Proof

/-! ## Host buffers (R79, R83) -/

/-- The host buffer a descriptor names: address, length, byte offset of the address field. -/
def DescOp.buffer : DescOp → Option (Nat × Nat × Nat)
  | .configStage _ length src _ => some (src, length, 24)
  | .fwStage _ _ _ length src _ => some (src, length, 28)
  | .fleetKey _ src length => some (src, length, 24)
  | _ => none

/-- What a decided descriptor asks for. -/
def Decided.op (d : Decided) : DescOp :=
  match d.verdict with
  | .execute op => op
  | .complete _ _ => .nop

/-- The lane waits for the host buffer of a descriptor. -/
def LaneSt.awaitBuffer (l : LaneSt) (d : Decided) : LaneSt :=
  match d.op.buffer with
  | some (src, n, _) => { l with hif := { l.hif with bufWait := l.hif.bufWait ++ [(d, src, n)] } }
  | none => l

/-- The lane fetched the descriptor itself, and so reads its buffer itself. -/
def LaneSt.hasOwn (l : LaneSt) (d : Decided) : Bool := (l.copiesOf d.sg d.seq).own.isSome

/-- The lane is the lowest-lettered one that holds a copy of the descriptor: it sends the buffer to the members without
one (R79). -/
def LaneSt.serves (l : LaneSt) (d : Decided) : Bool := (l.copiesOf d.sg d.seq).lowest = some l.id

/-- Members that executed a descriptor without an own copy: they were sent the 64 bytes, or hold no copy yet. -/
def LaneSt.without (l : LaneSt) (d : Decided) : List LaneId :=
  let c := l.copiesOf d.sg d.seq
  l.memberPeers.filter (fun p => bit c.sentTo p.num || (c.fps.get p.fin).isNone)

/-- Bytes as 64-bit words of a bulk frame. -/
def bulkWords (bs : List Byte) : List Nat := (List.range ((bs.length + 7) / 8)).map (fun i => leAt bs (8 * i) 8)

/-- A buffer has come, or its read has failed. -/
def LaneSt.bufferDone (l : LaneSt) (d : Decided) (bytes : Option (List Byte)) : LaneSt :=
  { l with hif := { l.hif with
      bufWait := l.hif.bufWait.filter (fun w => !(w.1.sg = d.sg && w.1.seq = d.seq)),
      bufDone := l.hif.bufDone ++ [(d, bytes)] } }

/-- The own read of a buffer ends; two failed reads in a row lose the link (R39). Its bytes cross into the CORE island; a
word that is discarded there leaves the buffer unread, as a failed read does (R19; log entry 48). Bytes that are not of the
length asked for change nothing. -/
def LaneSt.bufferRead (l : LaneSt) (d : Decided) (n : Nat) (bytes : Option (List Byte)) (flips : List (BitVec 72)) :
    LaneSt :=
  match bytes with
  | some bs =>
    if bs.length ≠ n then l
    else
      let l : LaneSt := { l with hif := { l.hif with dmaFails := 0 } }
      let r := l.crossBytes 0 bs flips
      let l := r.1.bufferDone d r.2
      match r.2 with
      | none => l
      | some b => if l.serves d then (l.without d).foldl (fun l p => l.sendTo p 0x102 0 (bulkWords b)) l else l
  | none => (l.bufferDone d none).dmaFailed

/-- What lane `j` holds of the buffer of a descriptor. -/
def State.bufferOf (s : State) (d : Decided) (j : LaneId) : Option (Option (List Byte)) :=
  ((s.lane j).hif.bufDone.find? (fun w => w.1.sg = d.sg && w.1.seq = d.seq)).map (·.2)

/-- Lanes that meet a condition, as a mask. -/
def laneMask (p : LaneId → Bool) : Nat := maskOf 3 (fun k => p (LaneId.ofNum k))

/-! ## FW_STAGE (R401, R402) -/

/-- State and version of firmware slot `k`. -/
def fwStateF (k : Nat) : Field := if k = 0 then SEC.FW_STATUS.SLOT_A else SEC.FW_STATUS.SLOT_B
def fwVersionF (k : Nat) : Field := if k = 0 then SEC.FW_VER_A.VERSION else SEC.FW_VER_B.VERSION

/-- The slot that is not running. -/
def LaneSt.idleSlot (l : LaneSt) : Nat := 1 - l.rd SEC.FW_STATUS.RUNNING

/-- The bytes of the running slot. -/
def LaneSt.runningFw (l : LaneSt) : List Byte := l.sec.fw.getD (l.rd SEC.FW_STATUS.RUNNING) []

/-- Fingerprint of the header of a firmware image. -/
def fwHeaderFp (img : List Byte) : Nat := fingerprint (img.take 160)

/-- Bytes staged so far. -/
def LaneSt.fwStaged (l : LaneSt) : Nat := if l.on SEC.FW_STATUS.STAGING then l.rd SEC.FW_STAGED.BYTES else 0

/-- The lane has a slot staging or in TRIAL. -/
def LaneSt.fwBusy (l : LaneSt) : Bool :=
  l.on SEC.FW_STATUS.STAGING || l.rd SEC.FW_STATUS.SLOT_A = 2 || l.rd SEC.FW_STATUS.SLOT_B = 2

/-- A chunk is written into the idle slot; OFFSET 0 restarts the staging. -/
def LaneSt.fwWrite (l : LaneSt) (offset : Nat) (bs : List Byte) : LaneSt :=
  let k := l.idleSlot
  let old := if offset = 0 then [] else l.sec.fw.getD k []
  let l : LaneSt := { l with sec := { l.sec with fw := l.sec.fw.setIfInBounds k (old ++ bs) } }
  let l := if offset = 0 then (l.wr (fwStateF k) 0).wr (fwVersionF k) 0 else l
  (l.wr SEC.FW_STATUS.STAGING 1).wr SEC.FW_STAGED.BYTES (old.length + bs.length)

/-- HASH and SIGNATURE of a firmware image hold. -/
def fwHashOk (img : List Byte) : Bool :=
  (sha512 (sliceBytes img 160 (leAt img 8 4 - 160))).toNat = beAt img 16 64
def fwSigOk (img : List Byte) : Bool := ed25519Verify Config.firmwareKey (img.take 80) (sliceBytes img 80 64)

/-- The first failing step of the verification of a staged image, none when it passes (R402). -/
def State.fwFault (s : State) (t : LaneId) : Option Nat :=
  let x := s.lane t
  let img := x.sec.fw.getD x.idleSlot []
  if leAt img 8 4 ≠ img.length ∨ img.length < 160 then some 1
  else if !fwHashOk img then some 2
  else if !fwSigOk img then some 3
  else if leAt img 0 4 < x.rd SEC.FW_FLOOR.VERSION then some 4
  else if x.memberLanes.any (fun k => leAt (s.lane k).runningFw 12 1 != leAt img 12 1) then some 5
  else none

/-- The effect of one chunk in one lane, judged on the state before it (R402). -/
def LaneSt.fwChunk (l : LaneSt) (s : State) (d : Decided) (t : LaneId) (last : Bool) (offset : Nat) (bs : List Byte)
    (bad : Nat) : LaneSt :=
  let busy := laneMask (fun k => k != t && (s.lane k).fwBusy)
  if bad ≠ 0 then l.abort d 0x4F 0
  else if offset ≠ 0 ∧ offset ≠ (s.lane t).fwStaged then l.complete d stRejected (reasonDetail 0x02 20) 0
  else if l.members ≠ 7 then l.deny d 0x0C (7 - l.members)
  else if busy ≠ 0 then l.deny d 0x4E busy
  else
    let l := if l.id = t then l.fwWrite offset bs else l
    if last then { l with sec := { l.sec with fwVerify := l.sec.fwVerify ++ [d] } } else l.complete d stOk 0 0

/-- The verification ends in the named lane: TRIAL, or EMPTY. -/
def LaneSt.fwEnd (l : LaneSt) (fault : Option Nat) : LaneSt :=
  let k := l.idleSlot
  let l := l.wr SEC.FW_STATUS.STAGING 0
  match fault with
  | none => (l.wr (fwStateF k) 2).wr (fwVersionF k) (leAt (l.sec.fw.getD k []) 0 4)
  | some _ => ({ l with sec := { l.sec with fw := l.sec.fw.setIfInBounds k [] } } : LaneSt).wr (fwStateF k) 0

/-- FW_VERIFY_COMPLETE: the verification in lane `t` ends; every member completes the FW_STAGE. -/
def State.fwVerified (s : State) (t : LaneId) : State :=
  let names (d : Decided) : Bool := match d.op with
    | .fwStage n _ _ _ _ _ => LaneId.ofNum n = t
    | _ => false
  match (s.lane t).sec.fwVerify.find? names with
  | none => s
  | some d =>
    let fault := s.fwFault t
    let version := leAt ((s.lane t).sec.fw.getD (s.lane t).idleSlot []) 0 4
    LaneId.all.foldl (fun r j =>
      let l := r.lane j
      if !l.sec.fwVerify.contains d then r
      else
        let l : LaneSt := { l with sec := { l.sec with fwVerify := l.sec.fwVerify.erase d } }
        let l := if j = t then l.fwEnd fault else l
        r.setLane j (match fault with
          | none => l.complete d stOk 0 version
          | some step => l.abort d 0x4D step)) s

def execFwVerifyComplete (l : LaneId) (s : State) : Host.Outcome State Fault Refusal := .next (s.fwVerified l)

/-! ## FLEET_KEY (R404, R405) -/

/-- One entry of a fleet key record: KEY_ID, ACTION, KEY. -/
def fleetEntry (rec : List Byte) (e : Nat) : Nat × Nat × List Byte :=
  (leAt rec (8 + 40 * e) 4, leAt rec (12 + 40 * e) 1, sliceBytes rec (16 + 40 * e) 32)

/-- Whether a record holds reserved values: its version, its count, its reserved bytes, KEY_ID 0, an unknown ACTION, a
KEY with REVOKE. -/
def fleetForm (rec : List Byte) : Bool :=
  let n := leAt rec 1 1
  leAt rec 0 1 = 1 && 1 ≤ n && n ≤ 8 && leAt rec 2 6 = 0 &&
    (List.range n).all (fun e =>
      let x := fleetEntry rec e
      x.1 != 0 && (x.2.1 = 1 || (x.2.1 = 2 && leBytes x.2.2 = 0)) && leAt rec (13 + 40 * e) 3 = 0)

/-- Apply one entry to the table, or the reason of FLEET_KEY_REFUSED: 1 table full, 2 ADD not allowed, 3 REVOKE of a
key not held. -/
def LaneSt.fleetOne (l : LaneSt) (e : Nat × Nat × List Byte) : LaneSt ⊕ Nat :=
  match e.2.1, l.fleetSlot e.1 with
  | 1, some i => if l.sec.fleetKeys.getD i [] = e.2.2 then .inl l else .inr 2
  | 1, none =>
    if e.1 ≤ l.rd SEC.FK_MAX.KEY_ID then .inr 2
    else match (List.range 8).find? (fun i => !l.on (SEC.FK_FLAGS.VALID i)) with
    | none => .inr 1
    | some i =>
      let l := ((l.wr (SEC.FK_ID.KEY_ID i) e.1).wr (SEC.FK_FLAGS.VALID i) 1).wr SEC.FK_MAX.KEY_ID e.1
      let l := (l.wr (SEC.FK_CTR_LO.COUNTER i) 0).wr (SEC.FK_CTR_HI.COUNTER i) 0
      .inl { l with sec := { l.sec with fleetKeys := l.sec.fleetKeys.setIfInBounds i e.2.2 } }
  | _, some i =>
    let l := ((l.wr (SEC.FK_ID.KEY_ID i) 0).wr (SEC.FK_FLAGS.VALID i) 0).wr (SEC.FK_CTR_LO.COUNTER i) 0
    .inl { (l.wr (SEC.FK_CTR_HI.COUNTER i) 0) with sec := { l.sec with fleetKeys := l.sec.fleetKeys.setIfInBounds i [] } }
  | _, none => .inr 3

/-- Apply entries in order: the lane, or the number of the first refused entry and its reason. -/
def LaneSt.fleetAll : LaneSt → Nat → List (Nat × Nat × List Byte) → LaneSt ⊕ (Nat × Nat)
  | l, _, [] => .inl l
  | l, n, e :: es =>
    match l.fleetOne e with
    | .inl l => LaneSt.fleetAll l (n + 1) es
    | .inr r => .inr (n, r)

/-- Fingerprint of the fleet table: KEY_ID and KEY of every held slot. -/
def LaneSt.fleetFp (l : LaneSt) : Nat :=
  fingerprint ((List.range 8).flatMap (fun i =>
    if l.on (SEC.FK_FLAGS.VALID i) then toLe 4 (l.rd (SEC.FK_ID.KEY_ID i)) ++ l.sec.fleetKeys.getD i [] else []))

/-- The records accepted take effect at the first voting boundary after execution, with their log entries. -/
def LaneSt.fleetTake (l : LaneSt) : LaneSt :=
  let recs := l.sec.fleetNext
  let l : LaneSt := { l with sec := { l.sec with fleetNext := [] } }
  recs.foldl (fun l r =>
    match l.fleetAll 0 r.2 with
    | .inl n => n.appendLog 0x08 r.2.length r.1 l.fleetFp n.fleetFp false
    | .inr _ => l) l

/-- The table as it will stand once the records accepted have taken effect. -/
def LaneSt.fleetFuture (l : LaneSt) : LaneSt :=
  l.sec.fleetNext.foldl (fun l r => match l.fleetAll 0 r.2 with
    | .inl n => n
    | .inr _ => l) l

/-- The effect of a fleet key record in one lane, judged on the state before it: all the named lanes or none. A record
with reserved values completes REJECTED, BAD_FIELD, argument 24 (log entry 20). -/
def LaneSt.fleetKeys (l : LaneSt) (s : State) (d : Decided) (lanes length : Nat) (rec : List Byte) : LaneSt :=
  let n := leAt rec 1 1
  let es := (List.range n).map (fleetEntry rec)
  let refusal := LaneId.all.findSome? (fun k =>
    if !bit lanes k.num then none
    else match (s.lane k).fleetFuture.fleetAll 0 es with
    | .inl _ => none
    | .inr r => some r)
  if length ≠ 8 + 40 * n then l.complete d stRejected (reasonDetail 0x02 32) 0
  else if !fleetForm rec then l.complete d stRejected (reasonDetail 0x02 24) 0
  else match refusal with
  | some (e, why) => l.deny d 0x7D (e + 2 ^ 8 * why)
  | none =>
    let l := if bit lanes l.id.num then
        { l with sec := { l.sec with fleetNext := l.sec.fleetNext ++ [(d.tag, es)] } }
      else l
    l.complete d stOk 0 0

/-! ## The effect of a buffer -/

/-- The CRC-32C a descriptor carries for its buffer fails. -/
def DescOp.crcFails (op : DescOp) (bs : List Byte) : Bool :=
  match op with
  | .configStage _ _ _ crc => crc32c bs != crc
  | .fwStage _ _ _ _ _ crc => crc32c bs != crc
  | _ => false

/-- The effect of a descriptor in one lane once its buffer has come in every member, judged on the state before it:
a failed read anywhere is TIMEOUT, HOST_DMA in every member (log entry 20). -/
def LaneSt.bufferEffect (l : LaneSt) (s : State) (d : Decided) (bs : List Byte) (failed bad : Nat) : LaneSt :=
  let l : LaneSt := { l with hif := { l.hif with
      bufDone := l.hif.bufDone.filter (fun w => !(w.1.sg = d.sg && w.1.seq = d.seq)) } }
  if failed ≠ 0 then l.complete d stTimeout (reasonDetail 0x0B ((d.op.buffer.map (fun b => b.2.2)).getD 0)) 0
  else match d.op with
  | .configStage offset _ _ _ => if bad ≠ 0 then l.abort d 0x40 bad else (l.stage offset bs).complete d stOk 0 0
  | .fwStage t last offset _ _ _ => l.fwChunk s d (LaneId.ofNum t) last offset bs bad
  | .fleetKey lanes _ length => l.fleetKeys s d lanes length bs
  | _ => l

/-- Once every member of lane `k`'s view holds its buffer, each of them takes the effect. -/
def State.bufferSettle (s : State) (k : LaneId) (d : Decided) : State :=
  let members := (s.lane k).members
  let lanes := LaneId.all.filter (fun j => (s.bufferOf d j).isSome)
  if !LaneId.all.all (fun j => !bit members j.num || lanes.contains j) then s
  else
    let failed := laneMask (fun j => s.bufferOf d j = some none)
    let bad := laneMask (fun j => match s.bufferOf d j with
      | some (some b) => d.op.crcFails b
      | _ => false)
    lanes.foldl (fun r j => r.setLane j ((r.lane j).bufferEffect s d (((s.bufferOf d j).getD none).getD []) failed bad)) s

/-- HOST_BUFFER_READ: the oldest read of the lane ends. -/
def State.hostBufferRead (s : State) (k : LaneId) (bytes : Option (List Byte)) (flips : List (BitVec 72)) : State :=
  match (s.lane k).hif.bufWait.find? (fun w => (s.lane k).hasOwn w.1) with
  | none => s
  | some (d, _, n) => (s.setLane k ((s.lane k).bufferRead d n bytes flips)).bufferSettle k d

def execHostBufferRead (l : LaneId) (read : Transfer) (s : State) : Host.Outcome State Fault Refusal :=
  .next (s.hostBufferRead l read.bytes read.flips)

/-- BULK_HOST_BUFFER_COPY: the buffer of the oldest descriptor that the lane executes without an own copy (R79). -/
def State.hostBufferCopy (s : State) (k : LaneId) (bytes : List Byte) : State :=
  match (s.lane k).hif.bufWait.find? (fun w => !(s.lane k).hasOwn w.1) with
  | none => s
  | some (d, _, n) =>
    if bytes.length < n then s
    else (s.setLane k ((s.lane k).bufferDone d (some (bytes.take n)))).bufferSettle k d

def execBulkHostBufferCopy (l : LaneId) (src : Arrival) (bytes : List Byte) (s : State) : Host.Outcome State Fault Refusal :=
  let x := s.lane l
  .next (if x.accepts src then (s.setLane l (x.heard src (frameCount bytes))).hostBufferCopy l bytes else s)

/-! ## The commands that ask for a buffer -/

def DescOp.isStage : DescOp → Bool
  | .configStage _ _ _ _ => true
  | _ => false

def DescOp.isFwStage : DescOp → Bool
  | .fwStage _ _ _ _ _ _ => true
  | _ => false

def DescOp.isFleetKey : DescOp → Bool
  | .fleetKey _ _ _ => true
  | _ => false

/-- CONFIG_STAGE: denied while a commit is pending (R83). -/
def execConfigStage (l : LaneId) (s : State) : Host.Outcome State Fault Refusal :=
  onLane l (fun x => x.withDesc DescOp.isStage (fun d _ y =>
    y.permittedSession (s.leadSession l d) d [] [if y.committing then some (0x41, 0) else none]
      (fun z => z.awaitBuffer d))) s

/-- FW_STAGE: only in HOLD. -/
def execFwStage (l : LaneId) (s : State) : Host.Outcome State Fault Refusal :=
  onLane l (fun x => x.withDesc DescOp.isFwStage (fun d _ y =>
    y.permittedSession (s.leadSession l d) d [] [if y.inHold then none else some (0x09, 0)]
      (fun z => z.awaitBuffer d))) s

/-- Named lanes that are not MEMBER deny a descriptor (R54). -/
def LaneSt.permLanes (l : LaneSt) (lanes : Nat) : Option (Nat × Nat) :=
  let absent := maskOf 3 (fun k => bit lanes k && !bit l.members k)
  if absent ≠ 0 then some (0x0C, absent) else none

/-- FLEET_KEY. -/
def execFleetKey (l : LaneId) (s : State) : Host.Outcome State Fault Refusal :=
  onLane l (fun x => x.withDesc DescOp.isFleetKey (fun d op y =>
    match op with
    | .fleetKey lanes _ _ =>
      y.permittedSession (s.leadSession l d) d [] [y.permLanes lanes] (fun z => z.awaitBuffer d)
    | _ => y)) s

/-! ## Reports (R400, R416) -/

/-- The attestation report that lane `l` builds and signs. -/
def LaneSt.attestation (l : LaneSt) (nonce : List Byte) : List Byte :=
  let col := (List.range 264).map (Config.colophon l.id)
  let flags := b2n (l.on CFG.STATUS.DEFAULTED) + 2 * b2n l.t32 + 4 * b2n (l.on SEC.STATUS.PW_SET)
  let body := toLe 1 1 ++ toLe 1 l.id.num ++ toLe 1 (l.rd SEC.FW_STATUS.RUNNING) ++ toLe 1 flags
    ++ toLe 4 (leAt l.runningFw 0 4) ++ sliceBytes col 20 8 ++ stampBytes l.t32 l.ns ++ toLe 2 0 ++ toLe 4 0
    ++ toLe 4 (l.rd CFG.COMMIT_COUNT.VALUE) ++ nonce ++ digestBytes (sha512 (l.runningFw.drop 160)).toNat
    ++ digestBytes (sha512 l.sec.image).toNat ++ l.logHead
    ++ toLe 4 ((l.rd CFG.LOG_NUMBER.NUMBER + 2 ^ 32 - 1) % 2 ^ 32) ++ toLe 4 0 ++ toLe 8 (fingerprint col)
  body ++ digestBytes (identitySign l.id body).toNat

/-- CHAIN that precedes entry `first` of the log. -/
def LaneSt.chainBefore (l : LaneSt) (first : Nat) : List Byte :=
  if first = 0 then (List.range 16).flatMap (fun i => toLe 4 (l.rd (CFG.LOG_ANCHOR.BYTES i)))
  else digestBytes (((l.sec.log[first - 1]?).map (·.chain)).getD 0)

/-- The export of log entries, shortened at the newest. -/
def LaneSt.logExport (l : LaneSt) (sign : Bool) (first count : Nat) : List Byte :=
  let es := (l.sec.log.drop first).take count
  let body := toLe 1 1 ++ toLe 1 l.id.num ++ toLe 1 (b2n sign) ++ toLe 1 0 ++ toLe 4 first ++ toLe 4 es.length
    ++ toLe 4 l.sec.log.length ++ l.chainBefore first ++ es.flatMap (fun e => e.bytes l.id.num)
  if sign then body ++ digestBytes (identitySign l.id body).toNat else body

/-- A signed export from the oldest entry releases its entries: ANCHOR, and the RELEASE entry. -/
def LaneSt.logRelease (l : LaneSt) (n tag : Nat) : LaneSt :=
  if n = 0 then l
  else
    let l := l.wr512 CFG.LOG_ANCHOR.BYTES (l.chainBefore n)
    let l : LaneSt := { l with sec := { l.sec with log := l.sec.log.drop n } }
    l.showLog.appendLog 0x0A n tag 0 0 false

/-- The lane a report descriptor names. -/
def DescOp.reporter : DescOp → LaneId
  | .logRead t _ _ _ _ _ => LaneId.ofNum t
  | .attest _ t _ => LaneId.ofNum t
  | _ => .A

/-- Address of the report in host memory. -/
def DescOp.reportDst : DescOp → Nat
  | .logRead _ _ _ _ dst _ => dst
  | .attest _ _ dst => dst
  | _ => 0

/-- The report that the named lane builds. -/
def LaneSt.report (l : LaneSt) (op : DescOp) : List Byte :=
  match op with
  | .logRead _ sign first count _ _ => l.logExport sign first count
  | .attest nonce _ _ => l.attestation nonce
  | _ => []

/-- RESULT of a report: its length, or entries exported and bytes written. -/
def DescOp.reportResult (op : DescOp) (bs : List Byte) : Nat :=
  match op with
  | .logRead _ _ _ _ _ _ => leAt bs 8 4 + 2 ^ 32 * bs.length
  | _ => bs.length

/-- The named lane releases what a completed export covers. -/
def LaneSt.afterReport (l : LaneSt) (d : Decided) (bs : List Byte) : LaneSt :=
  match d.op with
  | .logRead t sign first _ _ _ => if sign ∧ first = 0 ∧ LaneId.ofNum t = l.id then l.logRelease (leAt bs 8 4) d.tag else l
  | _ => l

/-- The lead writes a report at DST, and every member that waits for it completes OK. -/
def State.reportWritten (s : State) (k : LaneId) (d : Decided) (bs : List Byte) : State :=
  let s := s.setLane k ((s.lane k).post d.op.reportDst bs.length (bs.mapIdx (fun i b => (i, 1, b.toNat))))
  LaneId.all.foldl (fun r j =>
    let l := r.lane j
    match l.sec.report.find? (fun e => e.sg = d.sg && e.seq = d.seq) with
    | none => r
    | some e =>
      let l : LaneSt := { l with sec := { l.sec with report := l.sec.report.erase e } }
      r.setLane j ((l.complete e stOk 0 (e.op.reportResult bs)).afterReport e bs)) s

/-- BULK_REPORT_COPY: the report of the named lane reaches the lead. -/
def State.reportCopy (s : State) (k sender : LaneId) (bs : List Byte) : State :=
  match (s.lane k).sec.report.find? (fun d => d.op.reporter = sender) with
  | none => s
  | some d => if (s.lane k).isLead then s.reportWritten k d bs else s

def execBulkReportCopy (l : LaneId) (src : Arrival) (bytes : List Byte) (s : State) : Host.Outcome State Fault Refusal :=
  let x := s.lane l
  .next (if x.accepts src then (s.setLane l (x.heard src (frameCount bytes))).reportCopy l src.lane bytes else s)

/-- What another member has staged for the same descriptor: all members complete it alike. -/
def State.stagedElsewhere (s : State) (k : LaneId) (d : Decided) : Option Completion :=
  LaneId.all.findSome? (fun j =>
    if j = k then none else (s.lane j).hif.staged.find? (fun c => c.sg = d.sg && c.seq = d.found))

/-- A report is asked for: the named lane builds it and sends it to the lead, which writes it; the others wait. A lane
that executes after the completion has been formed completes alike. -/
def State.askReport (s : State) (k : LaneId) (d : Decided) : State :=
  match s.stagedElsewhere k d with
  | some c => s.setLane k ((s.lane k).complete d c.status c.detail c.result)
  | none =>
    let l := s.lane k
    let l : LaneSt := { l with sec := { l.sec with report := l.sec.report ++ [d] } }
    if d.op.reporter ≠ k then s.setLane k l
    else
      let bs := l.report d.op
      match l.vote.lead with
      | none => s.setLane k l
      | some j => if j = k then (s.setLane k l).reportWritten k d bs else s.setLane k (l.sendTo j 0x106 0 (bulkWords bs))

/-- Take the next report descriptor of a kind, judge it, and ask for the report. -/
def State.reportDesc (s : State) (k : LaneId) (p : DescOp → Bool) (check : DescOp → Option (Nat × Nat)) : State :=
  match takeFrom (s.lane k) p [] (s.lane k).hif.exec with
  | none => s
  | some (d, op, rest) =>
    let l : LaneSt := { s.lane k with hif := { (s.lane k).hif with exec := rest } }
    let l : LaneSt := if d.single then { l with folio := { l.folio with single := (l.folio.single + 1) % 2 ^ 32 } } else l
    let l := l.consume d
    let r := s.setLane k l
    let r := match l.permLanes (2 ^ op.reporter.num) with
      | some (code, arg) => r.setLane k (l.deny d code arg)
      | none =>
        match check op, s.stagedElsewhere k d with
        | some (code, arg), none => r.setLane k (l.complete d stRejected (reasonDetail code arg) 0)
        | _, _ => r.askReport k d
    r.setLane k ((r.lane k).settle)

def DescOp.isLogRead : DescOp → Bool
  | .logRead _ _ _ _ _ _ => true
  | _ => false

def DescOp.isAttest : DescOp → Bool
  | .attest _ _ _ => true
  | _ => false

/-- The checks of LOG_READ on the log of the named lane (R416). -/
def State.logReadCheck (s : State) (op : DescOp) : Option (Nat × Nat) :=
  match op with
  | .logRead t sign first count _ len =>
    let x := s.lane (LaneId.ofNum t)
    if x.sec.log.length ≤ first then some (0x02, 20)
    else if len < (x.logExport sign first count).length then some (0x02, 36)
    else none
  | _ => none

def execLogRead (l : LaneId) (s : State) : Host.Outcome State Fault Refusal :=
  .next (s.reportDesc l DescOp.isLogRead s.logReadCheck)

def execAttest (l : LaneId) (s : State) : Host.Outcome State Fault Refusal :=
  .next (s.reportDesc l DescOp.isAttest (fun _ => none))

/-! ## What waits for a lane that has left -/

/-- At a change of membership, a report or a verification that waits for a lane no longer MEMBER completes DENIED,
LANE_ABSENT (log entry 20), and buffers that waited only for a lane that has left are used. -/
def State.waitRecheck (s : State) (k : LaneId) : State :=
  let l := s.lane k
  let gone (d : Decided) : Nat :=
    let t := match d.op with
      | .fwStage n _ _ _ _ _ => LaneId.ofNum n
      | op => op.reporter
    if bit l.members t.num then 0 else 2 ^ t.num
  let lost := (l.sec.report ++ l.sec.fwVerify).filter (fun d => gone d != 0)
  let l : LaneSt := { l with sec := { l.sec with
      report := l.sec.report.filter (fun d => gone d = 0), fwVerify := l.sec.fwVerify.filter (fun d => gone d = 0) } }
  let l := lost.foldl (fun l d => l.deny d 0x0C (gone d)) l
  (l.hif.bufDone.map (·.1)).foldl (fun r d => r.bufferSettle k d) (s.setLane k l)

end Sys2Proof.Machine
end

