-- ==== Sys2Proof/Machine/Folio.lean ====
section
/-!
DEFINITION. The folio: its page, the exchange of fingerprints, the write, the fault records on Doxel, the answer buffer
(R67 to R75, R104, R117, R303, R318, R344, R375, R379, R380, R428).
-/

namespace Sys2Proof.Machine

open Sys2Proof

/-- Fields of a region moved to an offset of the page. -/
def moved (base : Nat) (fs : List (Nat × Nat × Nat)) : List (Nat × Nat × Nat) := fs.map (fun f => (base + f.1, f.2.1, f.2.2))

/-- A mask from truth values, the first in bit 0. -/
def flagBits (bs : List Bool) : Nat := bs.foldr (fun b n => b2n b + 2 * n) 0

/-! ## Fault summaries (R375, R379) -/

/-- The lane's own section of the fault summaries. -/
def LaneSt.fltSection (l : LaneSt) : List (Nat × Nat × Nat) :=
  [(0x00, 9, l.flt.lastFatal), (0x10, 9, l.flt.lastContained)]
    ++ (List.range 24).map (fun b =>
      (0x20 + 4 * b, 4, l.rd (FLT.TOTAL.COUNT b) % 2 ^ 24 + 2 ^ 24 * l.flt.worst.getD b 0
        + 2 ^ 26 * l.rd (FLT.FIRST.VALID b) + 2 ^ 27 * l.rd (FLT.FIRST.OVERFLOW b)))
    ++ [(0x80, 4, l.flt.corrected), (0x84, 4, l.flt.contained), (0x88, 2, l.flt.reactSafe), (0x8A, 2, l.flt.reactExcl),
        (0x8C, 1, l.flt.fatal), (0x8D, 1, flagBits [true, l.on FLT.STATUS.FATAL, l.on FLT.CTRL.COMPAT])]

/-- FLT_SUM_RECEIVE: the section of the sender. -/
def execFltSumReceive (l : LaneId) (src : Arrival) (words : List Dword) (s : State) : Host.Outcome State Fault Refusal :=
  onReceive l src (fun x => { x with folio := { x.folio with
    sums := x.folio.sums.set src.lane.fin ((List.range 20).map (fun i => (8 * i, 8, (words.getD i 0).toNat))),
    sumValid := x.folio.sumValid.set src.lane.fin true } }) s

/-- The words of a section as FLT_SUM carries them. -/
def sectionWords (fs : List (Nat × Nat × Nat)) : List Nat := (List.range 20).map (fun i => leAt (fieldBytes 160 fs) (8 * i) 8)

/-- The section of lane `k` as this lane shows it: the one of this snapshot, its own as it was sent then, or the last one
that came, not VALID. -/
def LaneSt.sectionOf (l : LaneSt) (k : LaneId) : List (Nat × Nat × Nat) :=
  let fs := l.folio.sums.get k.fin
  if l.folio.sumValid.get k.fin then fs
  else (0x8D, 1, (fieldByte fs 0x8D).toNat / 2 * 2) :: fs

/-- FLT_EVENT_RECEIVE: the peer tells an event and its reaction. An EXCL_REQ or LANE_FATAL reaction tells that it leaves
the membership (R370, R374). -/
def LaneSt.fltEvent (l : LaneSt) (p : LaneId) (e : Nat) : LaneSt :=
  let r := e / 2 ^ 51 % 8
  let code := e / 2 ^ 54 % 2 ^ 10
  if r = 4 then l.excludePeer p causeSelfFatal
  else if r = 3 then l.excludePeer p (if code = 0x066 then causePeerTime else causeSelfRequest)
  else l

def execFltEventReceive (l : LaneId) (src : Arrival) (entry : BitVec 72) (_total : Word) (s : State) :
    Host.Outcome State Fault Refusal :=
  onReceive l src (fun x => x.fltEvent src.lane entry.toNat) s

/-- FIRST_READ. -/
def execFirstRead (l : LaneId) (b : Fin 24) (s : State) : Host.Outcome State Fault Refusal :=
  onBar l (fun x => x.firstRead b) s

/-! ## The page (R67 to R75) -/

/-- Membership of lane `k` as the folio shows it; a lane that forms late is EXCLUDED (log entry 21). -/
def LaneSt.membNibble (l : LaneSt) (k : LaneId) : Nat := if l.membOf k = selfForming then selfExcluded else l.membOf k

/-- The header at the snapshot, without AGREE [2:0], FOLIO_FP and what the lead of the exchange boundary decides: LEAD
and HANDOVER. UNCONFIRMED is set where one member alone stands for the page, in SOLO and by the member count in SAFE
(R71). -/
def LaneSt.folioHeader (l : LaneSt) (seq : Nat) : List (Nat × Nat × Nat) :=
  let t := l.boundaryNs
  [(0, 8, seq), (8, 6, stampS l.t32 t), (14, 4, stampNs l.t32 t), (18, 1, l.mode),
   (20, 1, 8 * l.members),
   (21, 1, flagBits [popCount 3 l.members = 1, l.t32, l.on CFG.STATUS.DEFAULTED, l.on HIF.STATUS.HOST_SILENT, false,
      l.on CFG.STATUS.COMMIT_PENDING]),
   (22, 2, l.rd HIF.FOLIO_CTRL.PERIOD), (24, 4, l.folio.skipped), (28, 4, l.rd CFG.COMMIT_COUNT.VALUE),
   (32, 8, l.configFp), (48, 4, (LaneId.all.map (fun k => 16 ^ k.num * l.membNibble k)).sum)]

/-- A port source of a channel in this lane: its port. -/
def LaneSt.sourcePorts (l : LaneSt) (n : Nat) : List Nat :=
  [l.rd (COMM.SRC.PORT_P n), l.rd (COMM.SRC.PORT_S n)].filter (· < 24)

/-- The winding sub-block of channel `n` in this lane. -/
def LaneSt.windingBlock (l : LaneSt) (n : Nat) : List (Nat × Nat × Nat) :=
  let a := l.ang n
  let count (f : Nat → Field) : Nat := ((l.sourcePorts n).map (fun p => l.rd (f p))).sum
  [(0x00, 4, ofSigned 32 a.meas.1), (0x04, 4, ofSigned 32 a.meas.2), (0x08, 4, ofSigned 32 a.volts.1),
   (0x0C, 4, ofSigned 32 a.volts.2), (0x10, 4, l.vdc.toNat), (0x14, 4, a.theta),
   (0x18, 1, l.rd (COMM.STATUS.ANGLE_SRC n)), (0x19, 1, l.rd (COMM.STATUS.WSTATE n)),
   (0x1A, 2, ofSigned 16 (l.bridgeTemp n)), (0x1C, 4, count FBK.INFERRED.STEPS), (0x20, 4, count FBK.LOST_EVENTS.EVENTS)]

/-- A lane's position is uncertain: a port source is lost and the active source is no port (R188). -/
def LaneSt.posUncertain (l : LaneSt) (n : Nat) : Bool :=
  (l.rd (COMM.SRC_STATUS.PRIMARY n) = 2 || l.rd (COMM.SRC_STATUS.SECONDARY n) = 2)
    && (l.rd (COMM.STATUS.ANGLE_SRC n) = 0 || l.rd (COMM.STATUS.ANGLE_SRC n) = 3)

/-- The FLAGS of channel `n`: set where a member reports them. -/
def State.chFlags (s : State) (k : LaneId) (n : Nat) : Nat :=
  let any (f : LaneSt → Bool) : Bool := (s.membersOf k).any (fun j => f (s.lane j))
  flagBits [any (·.posUncertain n), any (·.on (COMM.STATUS.SPEED_LIMITED n)), any (·.on (COMM.STATUS.REVERSAL_PENDING n)),
    any (·.on (COMM.STATUS.KE_ABNORMAL n)), (s.lane k).chState n = 3, any (·.on VOTE.STATUS.REF_HELD),
    any (·.on (COMM.STATUS.STOPPING n)), (((s.lane k).pg (2 * n)).ask.map (·.1)) = some 1]

/-- The voted velocity of channel `n`, signed Q32.32, from the members' FB_VEL signals of its primary port (log entry
21). -/
def State.votedVel (s : State) (k : LaneId) (n : Nat) : Int :=
  votedValue ((s.membersOf k).map (fun j => (s.lane j).fbVelSignal ((s.lane j).rd (COMM.SRC.PORT_P n)) * 2 ^ 32))

/-- A share in whole percent, the nearest. -/
def LaneSt.sharePercent (l : LaneSt) (n : Nat) (k : LaneId) : Nat :=
  let q := l.shareOf n k
  if q.2 = 0 then 0 else (2 * q.1 + q.2) / (2 * q.2)

/-- The block of channel `n`. -/
def State.channelBlock (s : State) (k : LaneId) (n : Nat) : List (Nat × Nat × Nat) :=
  let l := s.lane k
  [(0x00, 1, l.chState n), (0x01, 1, l.rd (COMM.CTRL.CLASS n)), (0x02, 2, s.chFlags k n),
   (0x08, 8, ofSigned 64 (s.votedPos k n)), (0x10, 8, ofSigned 64 (s.votedVel k n)),
   (0x18, 8, l.rd (PROF.TARGET.VALUE (2 * n))), (0x20, 4, ofSigned 32 (l.vote.voted.getD n 0)),
   (0x24, 4, l.rd (COMM.TORQUE_LIMIT.VALUE n)),
   (0x28, 4, (LaneId.all.map (fun j => 256 ^ j.num * l.sharePercent n j)).sum), (0x2C, 4, l.folio.lastTag.getD n 0)]
    ++ (s.membersOf k).flatMap (fun j => moved (0x40 + 64 * j.num) ((s.lane j).windingBlock n))

/-- The safety region (R344). -/
def LaneSt.safetyRegion (l : LaneSt) : List (Nat × Nat × Nat) :=
  (List.range 16).flatMap (fun f => moved (8 * f)
    [(0, 1, l.rd (SIO.SF_STATUS.STATE f)), (1, 1, l.rd (SIO.SF_CTRL.TYPE f)),
     (2, 1, l.rd (SIO.SF_STATUS.CH_FAULT f) + 16 * l.rd (SIO.SF_STATUS.OUT_FAULT f)
        + 32 * l.rd (SIO.SF_STATUS.RESTART_REFUSED f) + 64 * l.rd (SIO.SF_STATUS.STOPPING f)),
     (3, 1, l.rd (SIO.SF_STATUS.CAUSE f)), (4, 2, l.rd (SIO.SF_COUNTS.DEMANDS f)), (6, 2, l.rd (SIO.SF_COUNTS.FAULTS f))])
    ++ (LaneId.all.filter (fun k => k = l.id || !l.sio.lost.get k.fin)).flatMap (fun k =>
      let w := if k = l.id then l.sio.sent else l.xchg k.num
      moved (0x80 + 16 * k.num)
        [(0, 1, w.1 / 2 ^ 44), (1, 1, w.2 / 2 ^ 32), (2, 1, w.1 / 2 ^ 52), (3, 1, w.2 / 2 ^ 40),
         (4, 4, w.1 % 2 ^ 20 + 2 ^ 20 * (w.1 / 2 ^ 40 % 16)), (8, 4, w.1 / 2 ^ 20 % 2 ^ 20), (12, 1, 1)])
    ++ [(0xB0, 8, l.rd SIO.SF_SUMMARY.PERMIT + 2 ^ 16 * l.rd SIO.SF_SUMMARY.FAULT)]

/-- The block of lane `k` (R117), as the members hold it: `b` is the lowest-lettered member's block, its
LINKS those of lane `k` itself (log entry 21). -/
def LaneSt.laneBlock (l : LaneSt) (k : LaneId) (b : LaneBlk) (hostUp noMaj : Nat) : List (Nat × Nat × Nat) :=
  let t := b.time / 2 ^ 32
  [(0x00, 1, l.membNibble k), (0x01, 1, b.readmits), (0x02, 1, b.cause), (0x03, 1, l.vote.stopCause), (0x04, 4, b.degrade),
   (0x08, 6, stampS l.t32 t), (0x0E, 4, stampNs l.t32 t), (0x12, 2, b.count), (0x14, 4, b.disagree), (0x18, 4, noMaj),
   (0x1C, 4, b.shadowVotes), (0x20, 4, ofSigned 32 b.timeOffset), (0x24, 1, b.links),
   (0x25, 1, hostUp + 2 * b2n (l.vote.lead = some k)), (0x26, 1, b.netUp), (0x27, 1, b.proof), (0x28, 2, b.ramp)]

/-- HOST_UP of lane `k`, from its last frame. -/
def LaneSt.hostUpOf (l : LaneSt) (k : LaneId) : Bool :=
  if k = l.id then l.on HIF.STATUS.LINK_UP else ((l.peer k).last.map (·.hostUp)).getD false

/-- Counts of the lead: galleys, log head, Yuwil tallies, event overflow (R75, R318, R380). -/
def LaneSt.leadCounts (l : LaneSt) : List (Nat × Nat × Nat) :=
  (List.range 16).flatMap (fun n =>
    [(0xAC0 + 4 * n, 4, l.rd (HIF.SG_CONSUMED.COUNT n)), (0xB00 + 4 * n, 4, l.rd (HIF.CG_WRITTEN.COUNT n))])
    ++ [(0xB60, 8, fingerprint l.logHead), (0xB68, 4, l.rd (NET.PAIRED.COUNT 0)), (0xB6C, 4, l.rd (NET.SINGLE.COUNT 0)),
        (0xB70, 4, l.rd (NET.DIFFER.COUNT 0)), (0xB74, 4, l.rd (NET.MISSING.COUNT 0)), (0xB78, 4, l.rd (NET.REPLAY.COUNT 0)),
        (0xB7C, 4, l.rd (NET.AUTH_FAIL.COUNT 0)), (0xB80, 4, l.rd (NET.LATE_COPY.COUNT 0)),
        (0xB84, 4, l.rd (NET.ANS_LATE.COUNT 0)), (0xB88, 4, l.rd (NET.RESTARTS.COUNT 0)),
        (0xB8C, 4, l.rd NET.FLEET_COUNTS.ACCEPTED + 2 ^ 16 * l.rd NET.FLEET_COUNTS.REFUSED)]
    ++ (List.range 24).map (fun b => (0xB90 + 2 * b, 2, l.rd (FLT.SATURATED.COUNT b)))

/-- Agreement and conservation counts that every member holds (R75). -/
def LaneSt.agreeCounts (l : LaneSt) : List (Nat × Nat × Nat) :=
  [(0xB40, 4, l.folio.mismatch), (0xB44, 4, l.folio.single), (0xB50, 4, l.folio.applied), (0xB54, 4, l.folio.aborted)]
    ++ LaneId.all.map (fun k => (0xB48 + 2 * k.num, 2, l.folio.oddFetch.get k.fin))

/-- Telemetry of one lane (R428). -/
def LaneSt.telLane (l : LaneSt) : List (Nat × Nat × Nat) :=
  [(0x00, 2, l.rd MEM.TEMP0.T_LOGIC), (0x02, 2, l.rd MEM.TEMP0.T_GD0), (0x04, 2, l.rd MEM.TEMP1.T_GD1),
   (0x06, 2, l.rd MEM.TEMP1.T_MAX), (0x08, 2, l.mem.supplies.1), (0x0A, 2, l.mem.supplies.2.1), (0x0C, 2, l.mem.supplies.2.2),
   (0x0E, 2, l.rd MEM.NVM_STATUS.SPARES), (0x10, 4, l.rd MEM.NVM_ERASE.MAX + 2 ^ 16 * l.rd MEM.NVM_ERASE.MIN),
   (0x14, 4, l.rd MEM.SRAM_CORR.COUNT), (0x18, 4, l.rd MEM.SCRUB.PASSES),
   (0x1C, 4, maskOf 8 (fun i => l.rd (MEM.BG.LAGS i) != 0) + 2 ^ 8 * maskOf 8 (fun i => l.rd (MEM.BG.STARVED i) != 0))]
    ++ (List.range 8).map (fun k => (0x20 + 4 * k, 4, l.soLife k))

/-- RMS of |IQ_REF| over I_MAX in 0.1 %; with I_MAX 0, or beyond the field, the value is open (log entry 7). -/
def LaneSt.torqueRms (l : LaneSt) (n : Nat) : Nat :=
  let x := l.mem.rms.getD n []
  let sq : Nat := (x.map (fun a => a * a)).sum
  let q : Int := root (qdiv (1000000 * (sq : Int)) x.length)
  let i := l.rd (COMM.I_MAX.VALUE n)
  if i = 0 ∨ 65536 * (i : Int) ≤ q then (Config.openQuotient q i).toNat % 2 ^ 16 else (qdiv q i).toNat

/-- The lane whose own counts the page shows: the lead, without one the lowest-lettered member, so that every member
builds the same page (R70). -/
def State.pageLane (s : State) (k : LaneId) : LaneId := (s.lane k).vote.lead.getD ((s.membersOf k).headD k)

/-- Telemetry of the lead, and of every member lane. -/
def State.telRegion (s : State) (k : LaneId) : List (Nat × Nat × Nat) :=
  let ld := s.lane (s.pageLane k)
  [(0x000, 4, (ld.boundaryNs - ld.mem.formed) / 10 ^ 9), (0x004, 4, ld.mem.tel.lifeMs / 3600000),
   (0x008, 4, ld.rd MEM.TG_WRITTEN.COUNT)]
    ++ (s.membersOf k).flatMap (fun j => moved (0x010 + 96 * j.num) (s.lane j).telLane)
    ++ (List.range 8).flatMap (fun n =>
      let t := ld.telCh n
      let hot : List Int := (s.membersOf k).filterMap (fun j => (s.lane j).mem.tempMax.getD n none)
      moved (0x130 + 24 * n)
        [(0x00, 4, t.runMs / 1000), (0x04, 4, t.travel / ld.cprOf (ld.rd (COMM.SRC.PORT_P n))), (0x08, 4, t.starts),
         (0x0C, 2, ld.torqueRms n), (0x0E, 2, match hot with | [] => 0 | x :: xs => ofSigned 16 (xs.foldl max x))])

/-- The page of a snapshot, its fault summaries aside, with an even SEQ. -/
def State.folioPage (s : State) (k : LaneId) (seq : Nat) : List (Nat × Nat × Nat) :=
  let l := s.lane k
  let low := s.lane ((s.membersOf k).headD k)
  l.folioHeader seq ++ (List.range 8).flatMap (fun n => moved (0x40 + 256 * n) (s.channelBlock k n))
    ++ moved 0x840 l.safetyRegion
    ++ LaneId.all.flatMap (fun j => moved (0x940 + 128 * j.num)
      (l.laneBlock j { low.blkOf j with links := ((s.lane j).blkOf j).links } (b2n (l.hostUpOf j)) low.vote.noMajTotal))
    ++ (s.lane (s.pageLane k)).leadCounts ++ l.agreeCounts
    ++ LaneId.all.map (fun j => (0xB58 + 2 * j.num, 2, (s.lane j).sec.log.length))
    ++ moved 0xDC0 (s.telRegion k)

/-- FOLIO_SNAPSHOT: every lane sends its FLT_SUM; a member builds the page, with a SEQ 2 above the highest sent or
received (R73). A page of the snapshot before that has not been written is skipped. -/
def State.folioSnapshot (s : State) (k : LaneId) : State :=
  let l := s.lane k
  if !l.voting then s
  else
    let ws := sectionWords l.fltSection
    let l' := l.send 0x1A 0 ws
    let l' : LaneSt := { l' with folio := { l'.folio with
      sums := l'.folio.sums.set k.fin (ws.mapIdx (fun i w => (8 * i, 8, w))),
      sumValid := (Vector.replicate 3 false).set k.fin true,
      skipped := if l.folio.page.isSome then (l.folio.skipped + 1) % 2 ^ 32 else l.folio.skipped } }
    let s := s.setLane k l'
    if !l.isMember then s
    else s.setLane k { l' with folio := { l'.folio with page := some (s.folioPage k (l.vote.folioSeq + 2)), fp := (0, 0) } }

def execFolioSnapshot (l : LaneId) (s : State) : Host.Outcome State Fault Refusal := .next (s.folioSnapshot l)

/-! ## Exchange and write (R70 to R73, R104) -/

/-- LEAD and HANDOVER of the page, as the lane that leads at the exchange boundary will write it (R68, R73). -/
def LaneSt.leadFields (l : LaneSt) (p : List (Nat × Nat × Nat)) : List (Nat × Nat × Nat) :=
  [(19, 1, (l.vote.lead.getD ((LaneId.all.find? (fun k => bit l.members k.num)).getD l.id)).num),
   (21, 1, (fieldByte p 21).toNat + 16 * b2n l.folio.handover)]

/-- At the boundary after the snapshot the member closes its page and sends SEQ and FOLIO_FP. -/
def LaneSt.folioClose (l : LaneSt) : LaneSt :=
  match l.folio.page with
  | none => l
  | some p =>
    if l.folio.fp.1 ≠ 0 ∨ !l.isMember then l
    else
      let p := l.leadFields p ++ p ++ LaneId.all.flatMap (fun k => moved (0xBC0 + 160 * k.num) (l.sectionOf k))
      let bs := fieldBytes 4096 p
      let x := (leAt bs 0 8, fingerprint bs)
      let l : LaneSt := { l with folio := { l.folio with page := some p, fp := x },
                                 vote := { l.vote with folioSeq := max l.vote.folioSeq x.1 } }
      l.send 0x02 0 [x.1, x.2]

/-- FOLIO_FP_RECEIVE. -/
def execFolioFpReceive (l : LaneId) (src : Arrival) (seq fp : Dword) (s : State) : Host.Outcome State Fault Refusal :=
  onReceive l src (fun x =>
    let x : LaneSt := { x with vote := { x.vote with folioSeq := max x.vote.folioSeq seq.toNat } }
    x.setPeer src.lane (fun v => { v with folio := some (seq.toNat, fp.toNat) })) s

/-- The SEQ and fingerprint of a member's page, as this lane has them. -/
def LaneSt.fpOf (l : LaneSt) (k : LaneId) : Option (Nat × Nat) := if k = l.id then some l.folio.fp else (l.peer k).folio

/-- The members whose page is that of lane `k`, itself included. -/
def LaneSt.sameFp (l : LaneSt) (k : LaneId) : List LaneId :=
  LaneId.all.filter (fun j => bit l.members j.num && (j = k || ((l.fpOf k).isSome && l.fpOf j = l.fpOf k)))

/-- The page of the lead may be written (R71). -/
def LaneSt.folioAgrees (l : LaneSt) : Bool :=
  match l.vote.lead with
  | none => false
  | some k => bit l.members k.num && decide (min 2 (popCount 3 l.members) ≤ (l.sameFp k).length)

/-- Consecutive snapshots at which a page differs from those of two agreeing members, in DUPLEX from the other: the
second starts the exclusion, or attribution (R102). -/
def LaneSt.judgeFolio (l : LaneSt) : LaneSt :=
  let n := popCount 3 l.members
  let odd (k : LaneId) : Bool := decide (2 ≤ n) && bit l.members k.num && decide ((l.sameFp k).length = 1)
    && (decide (n = 2) || LaneId.all.any (fun j => decide (2 ≤ (l.sameFp j).length)))
  let own := if odd l.id then l.folio.bad + 1 else 0
  let l : LaneSt := { l with folio := { l.folio with bad := own } }
  let l := l.peers.foldl (fun l p => l.setPeer p (fun v => { v with folioBad := if odd p then v.folioBad + 1 else 0 })) l
  if n = 2 then (if own = 2 then l.attribute false else l)
  else if own = 2 then l.exclude causePeerFolio
  else l.peers.foldl (fun l p => if (l.peer p).folioBad = 2 then l.requestExclusion p causePeerFolio else l) l

/-- The page as it is written: with its fingerprint and the lanes that agree; the members in AGREE [5:3] stay those of
the snapshot. -/
def LaneSt.finalPage (l : LaneSt) (p : List (Nat × Nat × Nat)) : List (Nat × Nat × Nat) :=
  let same := (l.sameFp l.id).map (fun k => 2 ^ k.num)
  (20, 1, same.sum + (fieldByte p 20).toNat) :: (40, 8, l.folio.fp.2) :: p

/-- FOLIO_WRITE: where the agreement holds the lead writes the page, odd SEQ first, even SEQ last; else the snapshot is
skipped. -/
def LaneSt.folioWrite (l : LaneSt) : LaneSt :=
  match l.folio.page with
  | none => l
  | some p =>
    if l.folio.fp.1 = 0 ∨ !l.isMember then l
    else
      let ok := l.folioAgrees
      let fp := l.finalPage p
      let seq := l.folio.fp.1
      let base := 2 ^ 12 * l.rd HIF.FOLIO_BASE.ADDR + 2 ^ 32 * l.rd HIF.FOLIO_BASE_HI.ADDR_HI
      let l : LaneSt := { l with folio := { l.folio with
        page := none, agreed := if ok then fp else l.folio.agreed, handover := if ok then false else l.folio.handover,
        skipped := if ok then l.folio.skipped else (l.folio.skipped + 1) % 2 ^ 32 } }
      let l := if ok ∧ l.isLead then
          (((l.post base 8 [(0, 8, seq - 1)]).post (base + 8) 4088
            ((fp.filter (fun f => 8 ≤ f.1)).map (fun f => (f.1 - 8, f.2.1, f.2.2)))).post base 8 [(0, 8, seq)]).raise 2 0
        else l
      l.judgeFolio

def execFolioWrite (l : LaneId) (s : State) : Host.Outcome State Fault Refusal := onLane l LaneSt.folioWrite s

/-! ## Answer buffers (R301, R303) -/

/-- The voted speed of channel `n` in 0.01 % of RATED. -/
def State.speedPart (s : State) (k : LaneId) (n : Nat) : Nat :=
  let v := 10000 * s.votedVel k n
  let r := 2 ^ 32 * (s.lane k).rd (COMM.RATED.VALUE n)
  let q := qdiv v r
  if r = 0 ∨ q < -32768 ∨ 32767 < q then (Config.openQuotient v r).toNat % 2 ^ 16 else ofSigned 16 q

/-- Safety outputs that are on in every lane that has them (log entry 21). -/
def LaneSt.outputsOn (l : LaneSt) : Nat :=
  maskOf 8 (fun k => l.rd (SIO.SO_CFG.LANES k) != 0 && LaneId.all.all (fun j => !bit (l.rd (SIO.SO_CFG.LANES k)) j.num ||
    (if j = l.id then bit (l.rd SIO.SO_STATUS.ON) k else bit (l.xchg j.num).1 (44 + k))))

/-- Fields in network byte order, most significant byte first (R6, R301). -/
def netOrder (fs : List (Nat × Nat × Nat)) : List (Nat × Nat × Nat) :=
  fs.map (fun f => (f.1, f.2.1, leBytes (toBe f.2.1 f.2.2)))

/-- The payload of an answer, built at a voting boundary, its LANES [5:4] filled when it is sent. -/
def State.answerPayload (s : State) (k : LaneId) : List Byte :=
  let l := s.lane k
  let t := l.boundaryNs
  fieldBytes 48
    (netOrder ([(0, 1, l.mode), (1, 1, l.members + 8 * b2n (popCount 3 l.members = 1)), (2, 1, l.vote.stopCause), (3, 1, b2n l.net.permit),
      (4, 4, stampS l.t32 t), (8, 4, stampNs l.t32 t), (12, 4, l.outputsOn + 2 ^ 8 * l.rd SIO.SF_SUMMARY.PERMIT)]
      ++ (List.range 8).flatMap (fun n =>
        [(16 + 4 * n, 4, l.chState n + 2 ^ 8 * (s.chFlags k n % 256) + 2 ^ 16 * s.speedPart k n)])))

/-- A new answer buffer; the last 16 are kept. -/
def State.answerBuffer (s : State) (k : LaneId) : State :=
  let l := s.lane k
  if !l.isMember then s
  else s.setLane k (l.setNet (fun n => { n with buffers := ((l.boundaryNs, s.answerPayload k) :: n.buffers).take 16 }))

end Sys2Proof.Machine
end

