-- ==== Sys2Proof/Machine/Reset.lean ====
section
/-!
DEFINITION. What resets, NAP and a full proof leave of a lane, and the steps every bring-up shares: firmware, colophon,
committed image, change log, telemetry, release of the pads (R383 to R385, R398, R399, R403, R409, R415, R427, R437 to
R440, R444, R446).
-/

namespace Sys2Proof.Machine

open Sys2Proof

/-! ## What is kept -/

/-- Words from an offset up to another. -/
def wordsIn (lo hi : Nat) : List Nat := (List.range ((hi - lo) / 4)).map (fun i => lo + 4 * i)

/-- Registers whose values stand in NVM: password store, firmware slots, fleet keys, change log, wear (R410, R401, R405,
R414, R425). -/
def nvmWords : List Nat :=
  wordsIn 0x7020 0x7034 ++ wordsIn 0x7040 0x7050 ++ [0x7060] ++ wordsIn 0x7080 0x7100 ++ [0x8014, 0x8020, 0x8024]
    ++ wordsIn 0x8040 0x80C0 ++ [0x30014, 0x30018]

/-- A lane with some words of a register file. -/
def LaneSt.keepWords (n : LaneSt) (from_ : Nat → Word) (offs : List Nat) : LaneSt :=
  offs.foldl (fun n off => n.setWord off (from_ off)) n

/-- A lane with the RWS bits of a register file, its lane-specific register included. -/
def LaneSt.keepRws (n : LaneSt) (from_ : Nat → Word) : LaneSt :=
  (0x5000 :: setupOffsets).foldl (fun n off =>
    let m := BitVec.ofNat 32 (rwsMask off)
    n.setWord off ((n.word off &&& ~~~m) ||| (from_ off &&& m))) n

/-- Fields of another lane, or of the lane before, taken over. -/
def LaneSt.takeFields (l d : LaneSt) (fs : List Field) : LaneSt := fs.foldl (fun l f => l.wr f (d.rd f)) l

/-- The map of substituted cores after a reset that keeps the map of retired ones: a retired core's inputs stay on its
neighbour, a proof in progress is over (R239, R444). -/
def LaneSt.keepSubst (l : LaneSt) : LaneSt :=
  let out := l.rd ADC.RETIRED.CORES
  (List.range 24).foldl (fun l c =>
    let l := l.wr (ADC.CORE_STATUS.STATE c) (if bit out c then 2 else 0)
    (l.wrB (ADC.CORE_STATUS.SUBST c) (bit out c)).wrB (ADC.CORE_STATUS.GUEST c) (bit out (pairCore c))) (l.wr ADC.STATUS.SUBST out)

/-- Everything of a lane cleared but what stands in NVM. What the lane has sent to the host and on its networks stays
sent. -/
def LaneSt.cleared (l : LaneSt) : LaneSt :=
  let z := LaneSt.reset l.id
  let n : LaneSt := { z with
    sec := { z.sec with pwHash := l.sec.pwHash, fleetKeys := l.sec.fleetKeys, fw := l.sec.fw, saks := l.sec.saks,
                        copies := l.sec.copies, log := l.sec.log, ownRecord := l.sec.ownRecord,
                        colophonOk := l.sec.colophonOk },
    mem := { z.mem with nvm := l.mem.nvm, telSaved := l.mem.telSaved },
    net := { z.net with sent := l.net.sent, canSent := l.net.canSent }, posted := l.posted, free := l.free }
  let n := (n.keepWords l.word nvmWords).wr SEC.FW_STATUS.STAGING 0
  n.takeFields l [SEC.STATUS.PW_SET, SEC.STATUS.KEYS_OK, SEC.STATUS.FAILS, PWR.COUNTS.BROWNOUTS]

/-- A full proof is released. -/
def LaneSt.proofReleased (l : LaneSt) (readmission : Bool) : LaneSt :=
  let l := (l.wr BIST.STATUS.FULL_RUNNING 1).wr BIST.STATUS.FULL_WAIT 0
  let l := ((l.wr BIST.LAST_FULL.RESULT 2).wrB BIST.LAST_FULL.READMISSION readmission).wr BIST.LAST_FULL.FAIL_STEP 0
  l.setBlk l.id (fun b => { b with proof := 2 })

/-- A reset with a cold bring-up (R437 to R439). HOST and RETENTION leave the AON island, with the PWR block, as it is
(log entry 22). -/
def LaneSt.coldReset (l : LaneSt) (cause : Nat) : LaneSt :=
  let n := l.cleared
  let n := if cause = 3 ∨ cause = 4 then (n.keepWords l.word [0x1024, 0x1028, 0x102C]).wr PWR.BUDGET.LP_PEAK (l.rd PWR.BUDGET.LP_PEAK)
    else n
  ((n.wr PWR.RESET_CAUSE.CAUSE cause).wr PWR.STATUS.PADS_LATCHED 1).proofReleased false

/-! ## Steps of a bring-up -/

/-- A firmware slot passes HASH and SIGNATURE. The image of the factory, which no descriptor ever staged, is held as no
bytes; it passes (log entry 23). -/
def LaneSt.fwPasses (l : LaneSt) (k : Nat) : Bool :=
  let img := l.sec.fw.getD k []
  img.isEmpty || (fwHashOk img && fwSigOk img)

/-- The firmware is loaded: the TRIAL slot, else the slot that ran last; one that fails becomes FAILED and the other is
loaded when it is VALID. None: there is no loadable slot (R403). -/
def LaneSt.fwLoad (l : LaneSt) : LaneSt × Bool :=
  let run := l.rd SEC.FW_STATUS.RUNNING
  let k := if l.rd (fwStateF 0) = 2 then 0 else if l.rd (fwStateF 1) = 2 then 1 else run
  let l := if l.rd (fwStateF run) = 0 ∧ (l.sec.fw.getD run []).isEmpty then l.wr (fwStateF run) 1 else l
  let st := l.rd (fwStateF k)
  if (st = 1 ∨ st = 2) ∧ l.fwPasses k then (l.wr SEC.FW_STATUS.RUNNING k, true)
  else
    let l := (l.wr (fwStateF k) 3).fault 0x263 k
    let j := 1 - k
    if l.rd (fwStateF j) = 1 ∧ l.fwPasses j then (l.wr SEC.FW_STATUS.RUNNING j, true) else (l, false)

/-- The Yuwil keys of an image (R406). -/
def LaneSt.takeKeys (l : LaneSt) (items : List ImgItem) : LaneSt :=
  items.foldl (fun l it => match it.kind with
    | 2 => { l with sec := { l.sec with ywKeys := l.sec.ywKeys.set 0 it.payload } }
    | 3 => { l with sec := { l.sec with ywKeys := l.sec.ywKeys.set 1 it.payload } }
    | _ => l) ({ l with sec := { l.sec with ywKeys := Vector.replicate 2 [] } } : LaneSt)

/-- The log holds its entry for the image of a fingerprint: of the held entries that name an image, the last does. With
none held the head alone stands for it. -/
def LaneSt.logHas (l : LaneSt) (fp : Nat) : Bool :=
  match (l.sec.log.filter (fun e => e.kind = 1 || e.kind = 2 || e.kind = 4)).getLast? with
  | none => true
  | some e => e.newFp = fp

/-- The committed image is loaded at bring-up from the valid copy of the higher sequence, and a copy that is invalid or
older is rewritten (R409). With no valid copy the RWS registers stay at reset. -/
def LaneSt.loadCommitted (l : LaneSt) : LaneSt :=
  let best : Option (Nat × List Byte) := match l.sec.copies.get 0, l.sec.copies.get 1 with
    | some a, some b => if a.1 < b.1 then some b else some a
    | some a, none => some a
    | none, b => b
  match best with
  | none =>
    let l := ((l.wr CFG.STATUS.DEFAULTED 1).fault 0x282 0)
    l.appendLog 0x03 0 0 0 0 true
  | some (q, img) =>
    let items := imageItems img
    let l := ((l.loadImage items).takeKeys items).setImage img
    let l := l.wr CFG.STORE_SEQ.VALUE q
    let l := if l.sec.copies.toList.all (· = some (q, img)) then l
      else (({ l with sec := { l.sec with copies := Vector.replicate 2 (some (q, img)) } } : LaneSt).wr
        CFG.STATUS.COPY_REPAIRED 1).fault 0x283 0
    let fp := fingerprint img
    if l.logHas fp then l else l.appendLog 0x02 (l.rd CFG.COMMIT_COUNT.VALUE) 0 0 fp true

/-- The chain of the held entries from ANCHOR to the head (R415). -/
def LaneSt.chainHolds (l : LaneSt) : Bool :=
  let anchor := (List.range 16).flatMap (fun i => toLe 4 (l.rd (CFG.LOG_ANCHOR.BYTES i)))
  let r := l.sec.log.foldl (fun (p : List Byte × Bool) e =>
    (digestBytes e.chain, p.2 && (sha512 (p.1 ++ e.head l.id.num)).toNat = e.chain)) (anchor, true)
  r.2 && (l.sec.log.isEmpty || r.1 = l.logHead)

/-- The chain of the change log is checked. -/
def LaneSt.checkLog (l : LaneSt) : LaneSt :=
  if l.chainHolds then l.wr CFG.STATUS.LOG_BROKEN 0 else (l.wr CFG.STATUS.LOG_BROKEN 1).fault 0x284 0

/-- The telemetry counts resume from their last save (R427). -/
def LaneSt.restoreTelemetry (l : LaneSt) : LaneSt :=
  match l.mem.telSaved with
  | none => l
  | some t => l.setMem (fun m => { m with tel := t, restored := true })

/-- The clocks run (R435, R449). No command tells whether the host's reference clock runs; the PCIE PLL is taken as
locked (log entry 22). -/
def LaneSt.clocksRun (l : LaneSt) : LaneSt :=
  [CLK.STATUS.XTAL_OK, CLK.STATUS.SYS_LOCK, CLK.STATUS.NET_LOCK, CLK.STATUS.SER_LOCK, CLK.STATUS.PCIE_LOCK,
   CLK.STATUS.K32_OK].foldl (fun l f => l.wr f 1) l

/-- Lane time starts from 0 at the release of the NET island, `since` ns ago (R274). The link delays are those that the
loopback of the proof has measured (R286, R383): free values (log entry 7). -/
def LaneSt.startTime (l : LaneSt) (since : Nat) : LaneSt :=
  let a := l.fresh
  let b := a.2.fresh
  { b.2 with time := { TimeSt.reset with now := since * 2 ^ 32, running := true, delay := (a.1, b.1) } }

/-- The pads are released (R440): RUN, FORMING or DEAD, ALIVE of a lane that forms, the gate-driver dies out of standby with
their edge links up, a bridge with a latched short in it (R256), every block on its setup. -/
def LaneSt.releasePads (l : LaneSt) (since : Nat) (dead : Bool) : LaneSt :=
  let l := (l.startTime since).clocksRun
  let l := (l.wr PWR.STATUS.STATE 1).wr PWR.STATUS.PADS_LATCHED 0
  let l : LaneSt := { l with pwr := { PwrSt.reset with awakeFrom := l.run, parkFrom := l.run } }
  let l := (l.wr VOTE.STATUS.SELF (if dead then selfDead else selfForming)).wr FLT.STATUS.ALIVE_RUN (b2n !dead)
  let l := (l.setBlk l.id (fun b => { b with proof := 0 })).wr GATE.DIE_STATUS.VGD_OK 1
  let l := l.wr GATE.DIE_STATUS.LINK 3
  let l := (List.range 24).foldl (fun l p => l.portStart p false) l
  let l := l.takeSetup
  (List.range 8).foldl (fun l n => if l.bridgeSide n ≠ 0 ∧ l.isMotor n then l.activeShort n else l) l

/-! ## The start-up proof (R384) -/

/-- The registers of a full proof that has ended: 98.0 % and 90.0 % of the logic once its test is complete, 48.0 ms for a
complete one. How long a failed one ran no rule says (log entry 7). -/
def LaneSt.proofEnded (l : LaneSt) (failStep : Option (Fin 9)) : LaneSt :=
  let l := l.wr BIST.STATUS.FULL_RUNNING 0
  match failStep with
  | none =>
    let l := ((l.wr BIST.LAST_FULL.RESULT 0).wr BIST.LAST_FULL.FAIL_STEP 0).wr BIST.LAST_FULL.DURATION 4800
    ((l.wr BIST.COVERAGE.STUCK_AT 980).wr BIST.COVERAGE.TRANSITION 900).firstCorrection
  | some k =>
    let x := l.fresh
    let l := ((x.2.wr BIST.LAST_FULL.RESULT 1).wr BIST.LAST_FULL.FAIL_STEP (k.val + 1)).wr BIST.LAST_FULL.DURATION (x.1 % 4800)
    if k.val + 1 ≤ 2 then l else (l.wr BIST.COVERAGE.STUCK_AT 980).wr BIST.COVERAGE.TRANSITION 900

/-- The bring-up from a passed start-up proof to the release of the pads; a check that fails leaves the lane in reset.
BROWNOUT is recorded at the first release after it. -/
def LaneSt.bringUp (l : LaneSt) : LaneSt :=
  let f := l.fwLoad
  if !f.2 then f.1
  else
    let l := f.1.wrB SEC.STATUS.KEYS_OK f.1.sec.colophonOk
    if !l.sec.colophonOk then l.fault 0x2A2 0
    else
      let l := l.wr FLT.CTRL.COMPAT (l.sec.ownRecord % 2)
      let l := (l.loadCommitted.checkLog.restoreTelemetry).releasePads 13700000 (l.self = selfDead)
      if l.rd PWR.RESET_CAUSE.CAUSE = 1 then l.fault 0x1E6 0 else l

end Sys2Proof.Machine
end

