-- ==== Sys2Proof/Machine/Readmit.lean ====
section
/-!
DEFINITION. Readmission: the full proof of an EXCLUDED lane, time alignment, state transfer, SHADOW (R108 to R113, R383 to
R387); SAFE_RESET and LANE_CLEAR of lanes (R113); the end of a function's shutdown (R32).
-/

namespace Sys2Proof.Machine

open Sys2Proof

/-! ## Start of readmission (R108, R385, R386) -/

/-- The lane's own measurement of the speed of channel `n` from a valid port source (R179). -/
def LaneSt.portSpeed (l : LaneSt) (n : Nat) : Option Int :=
  if l.portValid n false then some (l.rdI (FBK.VELOCITY.VALUE (l.rd (COMM.SRC.PORT_P n))))
  else if l.portValid n true then
    some (qdiv (l.rdI (FBK.VELOCITY.VALUE (l.rd (COMM.SRC.PORT_S n))) * l.rd (COMM.RATIO_S.VALUE n)) 65536)
  else none

/-- Every bridge that holds an active short runs below its crossover, by the lane's own measurement (R386). -/
def LaneSt.shortSafe (l : LaneSt) : Bool :=
  (List.range 8).all (fun n =>
    let short : Bool := l.isMotor n && (l.rd (COMM.STATUS.WSTATE n) = 2 || l.rd (COMM.STATUS.WSTATE n) = 3 || l.bridgeSide n != 0)
    !short || (match l.portSpeed n with
      | none => false
      | some v => !l.emfAt n v l.vdc (l.rd (COMM.THRESH.XO_PCT n))))

/-- Set where the readmission stands. -/
def LaneSt.setReadmit (l : LaneSt) (r : Readmit) : LaneSt := { l with vote := { l.vote with readmit := r } }

/-- The side that bridge `n` is about to short is recorded without its short, where the gates go off before it (R256). -/
def LaneSt.latchSide (l : LaneSt) (n : Nat) : LaneSt :=
  (l.wr (GATE.BRIDGE.SIDE n) (l.bridgeSide n)).setGateCh n (fun g => { g with naming := 0 })

/-- The readmission proof is released: the retained state is saved, every port is bypassed, every gate of every leg is held
off; or the proof waits for its bridges (R385, R386). -/
def LaneSt.proofBegin (l : LaneSt) : LaneSt :=
  if !l.shortSafe then (l.setReadmit .proofWait).wr BIST.STATUS.FULL_WAIT 1
  else
    let l := (List.range 24).foldl LaneSt.bypass l
    let l := (l.setReadmit .proof).proofReleased true
    let l : LaneSt := { l with bist := { l.bist with save := some l.regs } }
    let l := (List.range 8).foldl (fun l n => if l.isMotor n then (l.latchSide n).windingOff n else l) l
    let l := (List.range 2).foldl (fun l k => if bit (l.rd GATE.OV_STATUS.CHP_ON) k then l.setChp k false else l) l
    l.auxOff.gatesDown

/-- READMISSION_START: REJOIN has elapsed. -/
def LaneSt.readmissionStart (l : LaneSt) : LaneSt :=
  if l.self = selfExcluded ∧ l.vote.readmit = .waitRejoin then l.proofBegin else l

def execReadmissionStart (l : LaneId) (s : State) : Host.Outcome State Fault Refusal := onLane l LaneSt.readmissionStart s

/-- PROOF_WAIT_RECHECK. -/
def LaneSt.proofRecheck (l : LaneSt) : LaneSt := if l.vote.readmit = .proofWait then l.proofBegin else l

def execProofWaitRecheck (l : LaneId) (s : State) : Host.Outcome State Fault Refusal := onLane l LaneSt.proofRecheck s

/-! ## DEAD out of a readmission (R102, R403, R480) -/

/-- A TRIAL firmware that has not brought its lane to MEMBER fails (R403). -/
def LaneSt.trialFailed (l : LaneSt) : LaneSt :=
  let k := l.rd SEC.FW_STATUS.RUNNING
  if l.rd (fwStateF k) ≠ 2 then l
  else (l.wr (fwStateF k) 3).appendLog 0x07 (leAt l.runningFw 0 4) 0 0 0 false

/-- The lane becomes DEAD, cause READMIT_FAILED, in its safe state; in SAFE it stays as it is (R103). -/
def LaneSt.readmitFailed (l : LaneSt) : LaneSt :=
  if l.inSafe then l else
  let l := (l.wr VOTE.STATUS.SELF selfDead).wr VOTE.STATUS.CAUSE causeReadmitFailed
  let l := ((l.noteExclusion l.id causeReadmitFailed).setReadmit .none).laneSafe false
  l.trialFailed

/-! ## The end of a full proof (R384, R385) -/

/-- The words that outlive a readmission proof beside the RWS registers, as the lane shows them at its end: supplies,
clocks and power, faults, firmware and configuration, the die's latches, what is out of use (R385, R387, R390; log entry
22). -/
def keptWords : List Nat :=
  wordsIn 0x1020 0x1040 ++ wordsIn 0x2004 0x2014 ++ wordsIn 0x5000 0x6000 ++ [0x6004, 0x6008, 0x600C]
    ++ wordsIn 0x7000 0x7104 ++ wordsIn 0x8000 0x80C4
    ++ [HIF.STATUS.SEALED.off, HIF.SEAL_ERR.CODE.off, VOTE.STATUS.off, VOTE.LINKS.off, LOOP.PIPE_STATUS.SPARE.off,
        ADC.RETIRED.CORES.off, GATE.OV_STATUS.CHP_ON.off, GATE.DIE_STATUS.VGD_OK.off]
    ++ (List.range 26).map (fun m => (GATE.STATUS.STATE m).off) ++ (List.range 8).map (fun n => (GATE.BRIDGE.SIDE n).off)
    ++ (List.range 24).map (fun c => (ADC.CORE_STATUS.UNPROVED c).off) ++ nvmWords

/-- POS_RAW and OFFSET of every port (R385). -/
def positionWords : List Nat :=
  (List.range 24).flatMap (fun p =>
    [(FBK.POS_RAW.VALUE p).off, (FBK.POS_RAW.VALUE p).off + 4, (FBK.OFFSET.VALUE p).off, (FBK.OFFSET.VALUE p).off + 4])

/-- A port restarts after the proof with POS_RAW and OFFSET kept (R220, R385). -/
def LaneSt.portAgain (l : LaneSt) (p : Nat) : LaneSt :=
  if l.rd (FBK.CTRL.MODE p) = 0 then l else ((l.ledgerStart p).setPortState p portAcquire).setPos p

/-- The OV4 latch clears when VDC is below OV2 (R265, R384). -/
def LaneSt.clearOv4 (l : LaneSt) : LaneSt :=
  if l.vdcAt (l.rd GATE.OV_A.OV2) then l else (l.wr GATE.OV_STATUS.OV4_LATCHED 0).wr GATE.DIE_STATUS.OV4 0

/-- What a peer's view keeps over the own readmission proof: its links, its membership, its setup, the numbering of the
frames. -/
def PeerView.kept (v : PeerView) : PeerView :=
  { PeerView.reset with
    memb := v.memb, failed := v.failed, takeBack := v.takeBack, setupHash := v.setupHash, txNum := v.txNum,
    rxNum := v.rxNum, rxAhead := v.rxAhead, last := v.last, outAt := v.outAt, serving := v.serving }

/-- The lane after a passed readmission proof: what is retained comes back, everything else starts from reset. Lane time
starts again 11.7 ms before (log entry 22). The force-safe lines and edge links have passed step 5 of the proof, and FATAL is
clear: the dies are no longer held (R374, R384; DEDUCED, log entry 56). -/
def LaneSt.rebuilt (l : LaneSt) : LaneSt :=
  let saved : Nat → Word := Sparse.get (regReset l.id) (l.bist.save.getD l.regs)
  let n := ((l.cleared.keepWords saved positionWords).keepRws saved).keepWords l.word keptWords
  let n : LaneSt := { n with
    flt := { l.flt with transmits := true, faultNext := 0 }, pwr := l.pwr,
    hif := { n.hif with
      link := l.hif.link, msixAllowed := l.hif.msixAllowed, msixPending := l.hif.msixPending, pci := l.hif.pci,
      msixTable := l.hif.msixTable },
    bist := { n.bist with out := l.bist.out.filter (fun x => x.1 ≠ 5) },
    gate := { n.gate with chpStop := l.gate.chpStop },
    sec := { l.sec with session := none, lockUntil := none, fwVerify := [], report := [] },
    vote := { n.vote with
      p0 := l.vote.p0.kept, p1 := l.vote.p1.kept, blk := l.vote.blk, readmit := l.vote.readmit, lead := l.vote.lead,
      transferFails := l.vote.transferFails, tx := l.vote.tx, stopCause := l.vote.stopCause, folioSeq := l.vote.folioSeq } }
  let n := ((n.wr VOTE.STATUS.REF_HELD 0).wr VOTE.STATUS.ATTRIBUTING 0).wr VOTE.STATUS.STOPPING 0
  let n := ((n.wr HIF.STATUS.LEAD 0).wr FLT.STATUS.FATAL 0).wr FLT.STATUS.ALIVE_RUN 0
  let n := ((n.wr SEC.STATUS.SESSION 0).wr SEC.STATUS.LOCKED 0).wr SEC.STATUS.LOCK_LEFT 0
  let n := (((n.keepSubst.startTime 11700000).clearOv4).wr GATE.DIE_STATUS.FORCE 0).wr GATE.DIE_STATUS.LINK 3
  let n := (List.range 24).foldl LaneSt.portAgain n
  (n.takeSetup).allSafe

/-- Links to the peers whose loopback passed are taken back at the next boundary, by either lane of the pair (R94). -/
def State.linksPassed (s : State) (k : LaneId) (links : Nat) : State :=
  let pair (i : Nat) : Bool × Bool := (bit links (2 * i), bit links (2 * i + 1))
  let either (a b : Bool × Bool) : Bool × Bool := (a.1 || b.1, a.2 || b.2)
  [(k.peer0, pair 0), (k.peer1, pair 1)].foldl (fun s x =>
    let s := s.setLane k ((s.lane k).setPeer x.1 (fun v => { v with takeBack := either v.takeBack x.2 }))
    s.setLane x.1 ((s.lane x.1).setPeer k (fun v => { v with takeBack := either v.takeBack x.2 }))) s

/-- A readmission proof has ended. Step 3 of a passed one reloads the firmware; with none loadable the lane stays in
reset, DEAD to its peers (R403). -/
def LaneSt.readmissionProof (l : LaneSt) (failStep : Option (Fin 9)) : LaneSt :=
  let l := l.proofEnded failStep
  match failStep with
  | some _ =>
    let l := l.setBlk l.id (fun b => { b with proof := 1 })
    let l : LaneSt := { l with bist := { l.bist with save := none } }
    ((List.range 24).foldl LaneSt.bypassEnd l).readmitFailed.fault 0x242 0
  | none =>
    let l := (l.setBlk l.id (fun b => { b with proof := 0 }))
    let f := l.rebuilt.fwLoad
    if f.2 then f.1.setReadmit .align
    else (f.1.readmitFailed.wr PWR.STATUS.STATE 0).wr PWR.STATUS.PADS_LATCHED 1

/-- A start-up proof has ended (R384). -/
def LaneSt.startupProof (l : LaneSt) (failStep : Option (Fin 9)) : LaneSt :=
  let l := (l.proofEnded failStep).setBlk l.id (fun b => { b with proof := if failStep.isNone then 0 else 1 })
  if failStep.isNone then l.bringUp else l

/-- FULL_PROOF_COMPLETE: `links` are the links whose loopback passed: primary and spare to slot 0, then to slot 1. -/
def State.fullProof (s : State) (k : LaneId) (failStep : Option (Fin 9)) (links : Nat) : State :=
  let l := s.lane k
  if l.pwr.off ∨ l.pwr.nap then s
  else if l.vote.readmit = .proof ∧ l.on BIST.STATUS.FULL_RUNNING then
    let s := s.setLane k (l.readmissionProof failStep)
    if failStep.isNone then s.linksPassed k links else s
  else if l.rd PWR.STATUS.STATE = 0 ∧ 2 ≤ l.rd BIST.LAST_FULL.RESULT then
    let s := s.setLane k (l.startupProof failStep)
    if failStep.isNone then s.linksPassed k links else s
  else s

def execFullProofComplete (l : LaneId) (failStep : Option (Fin 9)) (links : BitVec 4) (s : State) :
    Host.Outcome State Fault Refusal := .next (s.fullProof l failStep links.toNat)

/-! ## State transfer (R109, R110) -/

/-- The donor: the lowest-lettered MEMBER. In SAFE no lane changes its membership, and none is served (R103). -/
def State.donor (s : State) (k : LaneId) : Option LaneId :=
  LaneId.all.find? (fun j => j ≠ k && (s.lane j).isMember && !(s.lane j).inSafe)

/-- The snapshot captured for lane `k`. -/
def State.snapOf (s : State) (k : LaneId) : Option Snapshot := s.snaps.get k.fin

/-- The state with the snapshot for lane `k` replaced. -/
def State.setSnap (s : State) (k : LaneId) (x : Option Snapshot) : State := { s with snaps := s.snaps.set k.fin x }

/-- The members' median of lane time. -/
def State.memberTime (s : State) (k : LaneId) : Nat :=
  let ts := (LaneId.all.filter (fun j => j ≠ k && (s.lane j).isMember)).map (fun j => ((s.lane j).time.now : Int))
  match ts with
  | [x, y] => ((x + y) / 2).toNat
  | [x] => x.toNat
  | _ => (s.lane k).time.now

/-- READMIT_TIME_ALIGNED: the lane's time is the members' median (R108, R280). -/
def State.readmitAligned (s : State) (k : LaneId) : State :=
  let l := s.lane k
  if l.self ≠ selfExcluded ∨ l.vote.readmit ≠ .align ∨ (s.donor k).isNone then s
  else (s.setSnap k none).setLane k { l.setTime (s.memberTime k) with
    vote := { l.vote with readmit := .static, transfer := [], transferParts := 0 } }

def execReadmitTimeAligned (l : LaneId) (s : State) : Host.Outcome State Fault Refusal := .next (s.readmitAligned l)

/-- Bytes of the sine and harmonic tables (R109). -/
def tableBytes : Nat := 4 * 4096

/-- BULK_STATIC_STATE: the next bytes of the committed image and the tables. -/
def State.staticState (s : State) (k : LaneId) (src : Arrival) (data : List Byte) : State :=
  if !(s.lane k).accepts src then s
  else
    let l := (s.lane k).heard src (frameCount data)
    if l.vote.readmit = .static ∧ s.donor k = some src.lane then
      s.setLane k { l with vote := { l.vote with transfer := l.vote.transfer ++ data } }
    else s.setLane k l

def execBulkStaticState (l : LaneId) (src : Arrival) (data : List Byte) (s : State) : Host.Outcome State Fault Refusal :=
  .next (s.staticState l src data)

/-- At its voting boundary V_s the donor `j` captures the dynamic state for lane `k`, once the static state has arrived there;
from then on it sends the lane copies of what the members execute (R109). Which boundary is V_s the spec leaves to the donor;
the model takes the first one (log entry 24). -/
def State.capture (s : State) (j k : LaneId) : State :=
  let r := s.lane k
  let d := s.lane j
  if r.vote.readmit = .static ∧ s.donor k = some j ∧ (s.snapOf k).isNone
      ∧ r.vote.transfer.length = d.sec.image.length + tableBytes then
    let voted (p : Nat) : Int := votedValue ((LaneId.all.filter (fun j => (s.lane j).isMember)).map
      (fun j => (s.lane j).rdI (FBK.POS.VALUE p)))
    (s.setSnap k (some ⟨d, Vector.ofFn (fun p : Fin 24 => voted p.val)⟩)).setLane j
      (d.setPeer k (fun v => { v with serving := true }))
  else s

/-- The donor's captures at its boundary. -/
def State.captures (s : State) (j : LaneId) : State := (s.lane j).peers.foldl (fun s k => s.capture j k) s

/-- The registers of one generator from an offset up to another. -/
def LaneSt.takeGen (l d : LaneSt) (lo hi : Nat) : LaneSt :=
  (List.range 16).foldl (fun l g => l.keepWords d.word (wordsIn (0x1E000 + 256 * g + lo) (0x1E000 + 256 * g + hi))) l

/-- One part of the dynamic state, as the snapshot holds it. -/
def LaneSt.takePart (l : LaneSt) (x : Snapshot) (part : Nat) : LaneSt :=
  let d := x.donor
  match part with
  | 0 => l.takeGen d 0x80 0xB8 |> fun l => { l with prof := Vector.ofFn (fun g : Fin 16 =>
      let x := l.prof.get g
      { d.prof.get g with queue := x.queue, vmax := x.vmax, home := x.home, homeFrom := x.homeFrom, homeRef := x.homeRef,
                          hold := x.hold, lim := x.lim }) }
  | 1 => { l with prof := Vector.ofFn (fun g : Fin 16 => { l.prof.get g with queue := (d.prof.get g).queue }) }
  | 2 => l.takeGen d 0xB8 0xC4 |> fun l => { l with prof := Vector.ofFn (fun g : Fin 16 =>
      let y := d.prof.get g
      { l.prof.get g with vmax := y.vmax, home := y.home, homeFrom := y.homeFrom, homeRef := y.homeRef, hold := y.hold,
                          lim := y.lim }) }
  | 3 =>
    let l := (List.range 8).foldl (fun l n => l.takeFields d [COMM.STATUS.STATE n, COMM.STATUS.SPEED_LIMITED n,
      COMM.STATUS.REVERSAL_PENDING n, COMM.START_ERR.CODE n, COMM.TMAX_NOW.VALUE n, COMM.SPEED_LIM_NOW.VALUE n]) l
    { l with comm := d.comm.map (fun c => { c with diag := none }),
             flt := { l.flt with faultNext := l.flt.faultNext ||| d.flt.faultNext } }
  | 4 =>
    let l := (List.range 8).foldl (fun l n => l.takeFields d [COMM.STATUS.STOPPING n]) (l.takeFields d [VOTE.STATUS.STOPPING])
    { l with vote := { l.vote with
        stopCause := d.vote.stopCause, stopCat := d.vote.stopCat, stopReq := d.vote.stopReq, causes := d.vote.causes } }
  | 5 =>
    let l := (List.range 16).foldl (fun l f =>
      l.keepWords d.word [(SIO.SF_STATUS.STATE f).off, (SIO.SF_COUNTS.DEMANDS f).off]) l
    (l.keepWords d.word [SIO.SF_SUMMARY.PERMIT.off]).setSio (fun x => { x with resets := d.sio.resets })
  | 6 => (List.range 128).foldl (fun l n =>
      if l.isDq n then l else l.wr (LOOP.INTEG.VALUE n) (d.rd (LOOP.INTEG.VALUE n))) l
  | 7 => (List.range 24).foldl (fun l p =>
      if l.rd (FBK.CTRL.MODE p) = 0 then l
      else
        l.setOffset p (x.pos.getD p 0 - l.rdI (FBK.POS_RAW.VALUE p))) l
  | 8 => { l with vote := { l.vote with folioSeq := max l.vote.folioSeq d.vote.folioSeq } }
  | 9 =>
    let l := (List.range 16).foldl (fun l n => l.takeFields d [HIF.SG_CONSUMED.COUNT n, HIF.CG_WRITTEN.COUNT n]) l
    { l with hif := { l.hif with
        peerWritten := d.hif.peerWritten, cgReserved := d.hif.cgReserved,
        fetched := Vector.ofFn (fun n : Fin 16 => d.rd (HIF.SG_CONSUMED.COUNT n.val)) } }
  | _ =>
    let l : LaneSt := { l with vote := { l.vote with blk := d.vote.blk } }
    l.wr VOTE.STATUS.READMITS (d.blkOf l.id).readmits

/-- BULK_DYNAMIC_STATE: a part of the snapshot that the donor captured at V_s. -/
def State.dynamicState (s : State) (k : LaneId) (src : Arrival) (part : Nat) : State :=
  if !(s.lane k).accepts src then s
  else
    let l := (s.lane k).heard src 1
    match s.snapOf k with
    | none => s.setLane k l
    | some x =>
      if (l.vote.readmit = .static ∨ l.vote.readmit = .dynamic) ∧ s.donor k = some src.lane then
        let l := l.takePart x part
        s.setLane k { l with vote := { l.vote with
          readmit := .dynamic, transferParts := setBit l.vote.transferParts part true } }
      else s.setLane k l

def execBulkDynamicState (l : LaneId) (src : Arrival) (part : Fin 11) (s : State) : Host.Outcome State Fault Refusal :=
  .next (s.dynamicState l src part.val)

/-- BULK_DESCRIPTOR_COPY: a member without an own copy takes the bytes that have the agreed fingerprint, and executes
(R79); a lane that has begun to load the dynamic state executes what the members have, at the instant that came with it
(R109). -/
def LaneSt.descriptorCopy (l : LaneSt) (sg seq : Nat) (bytes : List Byte) (at_ : Option Nat) : LaneSt :=
  if l.isMember then
    let c := l.copiesOf sg seq
    match c.wantCopy with
    | none => l
    | some w =>
      if c.agreed ≠ some (descFp sg bytes) then l
      else (l.putCopies { c with wantCopy := none }).pushDecided (decidedAs sg seq bytes w)
  else if l.vote.readmit = .dynamic ∨ l.self = selfShadow then
    l.pushDecided { decided sg seq bytes 0 false with instant := at_ }
  else l

def execBulkDescriptorCopy (l : LaneId) (src : Arrival) (sg : Fin 16) (seq : Word) (copy : DescCopy) (s : State) :
    Host.Outcome State Fault Refusal := onReceive l src (fun x => x.descriptorCopy sg.val seq.toNat copy.bytes copy.at_) s

/-- The check of a finished transfer: the image of the donor's CONFIG_FP, the tables, every part of the dynamic state, and
a link to the donor. -/
def State.transferOk (s : State) (k : LaneId) (d : LaneSt) : Bool :=
  let l := s.lane k
  let len := d.sec.image.length
  let img := l.vote.transfer.take len
  decide (l.vote.transfer.length = len + tableBytes) && (img.isEmpty || decide (fingerprint img = d.configFp))
    && decide (l.vote.transferParts = 2 ^ 11 - 1) && decide (l.rd (l.linkF d.id) ≠ 2)

/-- The tables of a transfer. -/
def LaneSt.loadTables (l : LaneSt) (bs : List Byte) : LaneSt :=
  (List.range 4096).foldl (fun l i => l.setWord (COMM.SINE.off i) (BitVec.ofNat 32 (leAt bs (4 * i) 4))) l

/-- Every running slot starts from the state transfer: the integrators of the donor `d` outside the d/q current loops, those
at 0, every derivative state 0 with first = 1 (R159, R160). -/
def LaneSt.startSlots (l d : LaneSt) : LaneSt :=
  (List.range 128).foldl (fun l n =>
    if l.rd (LOOP.STATUS.STATE n) = 0 then l
    else
      let l := (l.wr (LOOP.INTEG.VALUE n) (if l.isDq n then 0 else d.rd (LOOP.INTEG.VALUE n))).wr (LOOP.DSTATE.VALUE n) 0
      l.setSlot n (fun s => { s with first := true, bump := none })) l

/-- A passed transfer is loaded and the lane starts SHADOW: it resumes ALIVE and computes every channel without driving
(R109, R111); `cap` is the donor at the snapshot. -/
def LaneSt.startShadow (l d cap : LaneSt) : LaneSt :=
  let len := d.sec.image.length
  let img := l.vote.transfer.take len
  let items := imageItems img
  let old := l.configFp
  let l := if img.isEmpty then l else ((l.loadImage items).takeKeys items).loadTables (l.vote.transfer.drop len)
  let l := if img.isEmpty ∨ fingerprint img = old then l
    else ((l.setImage img).storeCopies).appendLog 0x04 0 0 old (fingerprint img) false
  let l := l.peers.foldl (fun l p => l.setPeer p (fun v => { v with
    setupHash := if p = d.id then (if d.sealed then some d.setupHash else none) else (d.peer p).setupHash })) l
  let l : LaneSt := { l with vote := { l.vote with
    readmit := .none, transferFails := 0, transfer := [], transferParts := 0 } }
  let l := (l.wr VOTE.STATUS.SELF selfShadow).wr FLT.STATUS.ALIVE_RUN 1
  let l := l.setBlk l.id (fun b => { b with shadowVotes := 0 })
  let l := (List.range 8).foldl (fun l n =>
    (if l.isMotor n then (l.windingSafe n).setWstate n 7 else l).zeroDq n) l
  (((l.dieLoad.judgeSetup).judgeSlots).startSlots cap).judgeOutputs

/-- STATE_TRANSFER_COMPLETE: a transfer that fails its check is repeated once (R102, R110). -/
def State.transferEnd (s : State) (k : LaneId) : State :=
  let l := s.lane k
  if l.vote.readmit ≠ .dynamic ∧ l.vote.readmit ≠ .static then s
  else match s.donor k with
  | none => s
  | some j =>
    let cap := ((s.snapOf k).map (·.donor)).getD (s.lane j)
    let s := s.setSnap k none
    if s.transferOk k (s.lane j) then s.setLane k (l.startShadow (s.lane j) cap)
    else if 1 ≤ l.vote.transferFails then s.setLane k l.readmitFailed
    else s.setLane k { l with vote := { l.vote with
      readmit := .static, transferFails := 1, transfer := [], transferParts := 0 } }

def execStateTransferComplete (l : LaneId) (s : State) : Host.Outcome State Fault Refusal := .next (s.transferEnd l)

/-- SHADOW_TIMEOUT (R102). -/
def execShadowTimeout (l : LaneId) (s : State) : Host.Outcome State Fault Refusal :=
  onLane l (fun x => if x.self = selfShadow then x.readmitFailed else x) s

/-! ## SAFE_RESET with SCOPE LANE, LANE_CLEAR (R113) -/

/-- Channels that are not DISABLED. -/
def LaneSt.activeChannels (l : LaneSt) : Nat := maskOf 8 (fun n => l.chState n != 0)

/-- SAFE_RESET of lane `t` in one member. -/
def LaneSt.laneReset (l : LaneSt) (t : LaneId) (d : Decided) : LaneSt :=
  let m := l.membOf t
  if m = selfDead then l.deny d 0x52 (2 ^ t.num)
  else if l.members = 2 ^ t.num then l.deny d 0x50 (2 ^ t.num)
  else if m ≠ selfMember ∧ m ≠ selfShadow then l.okOutcome d 0 0
  else
    let l := l.okOutcome d 1 0
    if t = l.id then l.exclude causeHostReset else l.excludePeer t causeHostReset

/-- What another member has staged for the same descriptor decides for a member that executes after it. -/
def State.likeOthers (s : State) (k : LaneId) (d : Decided) (l : LaneSt) (f : LaneSt → LaneSt) : LaneSt :=
  match s.stagedElsewhere k d with
  | some c => l.complete d c.status c.detail c.result
  | none => f l

/-- SAFE_RESET with SCOPE LANE: one lane excluded, or the restart of every lane scheduled. -/
def State.safeResetLane (s : State) (k : LaneId) : State :=
  match takeFrom (s.lane k) (DescOp.isReset 2) [] (s.lane k).hif.exec with
  | none => s
  | some (_, .safeReset _ index lanes, _) =>
    let ok : Bool := decide (lanes = 0 ∧ index = 3) && ((s.lane k).inSafe || decide ((s.lane k).activeChannels = 0))
    let s' := s.setLane k ((s.lane k).withDesc (DescOp.isReset 2) (fun d _ l =>
      if lanes ≠ 0 then l.complete d stRejected (reasonDetail 0x02 18) 0
      else if l.inSafe ∧ index ≠ 3 then l.deny d 0x51 l.members
      else if index = 3 then
        if l.inSafe ∨ l.activeChannels = 0 then l.okOutcome d 1 0 else l.deny d 0x54 l.activeChannels
      else l.laneReset (LaneId.ofNum index) d))
    if ok then LaneId.all.foldl (fun s j => s.setLane j { s.lane j with
        vote := { (s.lane j).vote with restartAll := true } }) s'
    else if lanes = 0 ∧ !(s.lane k).inSafe ∧ index < 3 ∧ LaneId.ofNum index ≠ k ∧ (s'.lane (LaneId.ofNum index)).self = selfShadow then
      s'.setLane (LaneId.ofNum index) ((s'.lane (LaneId.ofNum index)).exclude causeHostReset)
    else s'
  | some _ => s

def execSafeResetLane (l : LaneId) (s : State) : Host.Outcome State Fault Refusal := .next (s.safeResetLane l)

def DescOp.isLaneClear : DescOp → Bool
  | .laneClear _ _ => true
  | _ => false

/-- A lane waits for LANE_CLEAR. -/
def LaneSt.waitsClear (l : LaneSt) : Bool := decide (l.self = selfExcluded ∧ l.vote.readmit = .waitClear)

/-- Named lanes that are neither DEAD nor waiting. -/
def State.notWaiting (s : State) (lanes : Nat) : Nat :=
  laneMask (fun k => bit lanes k.num && !((s.lane k).self = selfDead || (s.lane k).waitsClear))

/-- The latches of R258 cleared: the legs that are no MOTOR legs and have a switch latched off, and the choppers' faults. -/
def LaneSt.clearLatches (l : LaneSt) : LaneSt :=
  let l := (List.range 26).foldl (fun l m =>
    if l.rd (GATE.LEG_CTRL.USE m) = 1 ∨ (!l.on (GATE.STATUS.H_LATCHED m) ∧ !l.on (GATE.STATUS.L_LATCHED m)
        ∧ l.rd (GATE.STATUS.STATE m) ≠ 5) then l
    else
      ([GATE.STATUS.H_LATCHED m, GATE.STATUS.L_LATCHED m, gsF (2 * m), gsF (2 * m + 1)].foldl (fun l f => l.wr f 0) l).setLeg m 0) l
  ((l.wr GATE.OV_STATUS.CHP_FAULT 0).judgeChop).judgeAux

/-- What LANE_CLEAR does in lane `j`, on which the model lets it act directly (log entry 25): in every lane's blocks, the
latches of R258 of a named lane, and the readmission of a named lane that waits or was DEAD. -/
def LaneSt.laneCleared (l : LaneSt) (lanes : Nat) (clearCount : Bool) : LaneSt :=
  let l := if bit lanes l.id.num then l.clearLatches else l
  let l := if clearCount then
      let l := LaneId.all.foldl (fun l k =>
        if !bit lanes k.num then l
        else
          let l := l.setBlk k (fun b => { b with readmits := 0 })
          if k = l.id then l.wr VOTE.STATUS.READMITS 0
          else l.setPeer k (fun v => { v with memb := if v.memb = selfDead then selfExcluded else v.memb })) l
      if bit lanes l.id.num ∧ l.self = selfDead ∧ l.rd PWR.STATUS.STATE ≠ 0 then
        ({ l.wr VOTE.STATUS.SELF selfExcluded with vote := { l.vote with transferFails := 0 } } : LaneSt).setReadmit .waitClear
      else l
    else l
  if bit lanes l.id.num ∧ l.waitsClear then l.proofBegin else l

/-- LANE_CLEAR starts the readmission of a named lane: it is the start-up of that function (R31, R33). -/
def State.restarts (s : State) (lanes : Nat) (clearCount : Bool) : Bool :=
  LaneId.all.any (fun k => bit lanes k.num && ((s.lane k).waitsClear || (clearCount && decide ((s.lane k).self = selfDead))))

/-- LANE_CLEAR. -/
def State.laneClear (s : State) (k : LaneId) : State :=
  match takeFrom (s.lane k) DescOp.isLaneClear [] (s.lane k).hif.exec with
  | some (d, .laneClear lanes clearCount, _) =>
    let lead := s.leadSession k d
    let wait := if clearCount then 0 else s.notWaiting lanes
    let r := s.setLane k ((s.lane k).withDesc DescOp.isLaneClear (fun d _ l =>
      s.likeOthers k d l (fun l => l.permittedSession lead d []
        [if wait ≠ 0 then some (0x53, wait) else none]
        (fun l => l.okOutcome d (if s.restarts lanes clearCount then 2 else 0) 0))))
    let done := (r.lane k).hif.staged.any (fun c => c.sg = d.sg && c.seq = d.found && c.status = stOk)
    if (s.stagedElsewhere k d).isSome ∨ !done then r
    else LaneId.all.foldl (fun r j => r.setLane j ((r.lane j).laneCleared lanes clearCount)) r
  | _ => s

def execLaneClear (l : LaneId) (s : State) : Host.Outcome State Fault Refusal := .next (s.laneClear l)

/-- HOST_RESET: every lane restarts at the first voting boundary after the completion of the SAFE_RESET has been
written. -/
def State.hostReset (s : State) (k : LaneId) : State :=
  let waits : Bool := LaneId.all.any (fun j => (s.lane j).hif.staged.any (fun c => c.opcode = 0x40))
  if (s.lane k).vote.restartAll ∧ !waits then s.setLane k ((s.lane k).coldReset 3) else s

def execHostReset (l : LaneId) (s : State) : Host.Outcome State Fault Refusal := .next (s.hostReset l)

/-! ## Shutdowns of functions (R32) -/

/-- The chopper leg no longer stops. -/
def LaneSt.chopperRests (l : LaneSt) (k : Nat) : LaneSt :=
  { l with gate := { l.gate with
      chpStop := if k = 0 then (false, l.gate.chpStop.2) else (l.gate.chpStop.1, false) } }

/-- The shutdown of chopper leg `k` runs. -/
def LaneSt.chopperStops (l : LaneSt) (k : Nat) : Bool := if k = 0 then l.gate.chpStop.1 else l.gate.chpStop.2

/-- The shutdown of a port is over. -/
def LaneSt.portRests (l : LaneSt) (p : Nat) : LaneSt :=
  (l.drainPort p).wr (NET.PORT_STATUS.STOPPING (p / 2)) (setBit (l.rd (NET.PORT_STATUS.STOPPING (p / 2))) (p % 2) false)

/-- FUNCTION_SHUTDOWN_COMPLETE: a chopper leg that is off, its current below the threshold; a port whose queue is drained
and whose link is down; an output whose EDM confirms. A lane's own shutdown is complete when it is EXCLUDED or DEAD, which
needs no step of its own. -/
def LaneSt.shutdownDone (l : LaneSt) : FunctionId → LaneSt
  | .chopper k =>
    if l.chopperStops k.val ∧ !bit (l.rd GATE.OV_STATUS.CHP_ON) k.val
        ∧ 10 * l.rdI (ADC.RESULT.VALUE (50 + k.val)) < (l.rd GATE.CHP_CTRL.OFF_I : Int) * 65536
    then l.chopperRests k.val else l
  | .port p => if l.portStopping p.val then l.portRests p.val else l
  | .safetyOutput k => if bit l.sio.shut k.val ∧ l.on SIO.CTRL.EN then l.edmConfirm k.val else l
  | .lane => l

def execFunctionShutdownComplete (l : LaneId) (f : FunctionId) (s : State) : Host.Outcome State Fault Refusal :=
  onLane l (fun x => x.shutdownDone f) s

/-- FUNCTION_SHUTDOWN_OVERRUN: a chopper leg whose current does not end is latched off as shorted, an output takes
EDM_FAULT; a port is taken down, and an enable that was pending is cancelled (R32, log entry 26). -/
def LaneSt.functionOverrun (l : LaneSt) : FunctionId → LaneSt
  | .chopper k => if l.chopperStops k.val then ((l.chopperRests k.val).chpLatch k.val).fault 0x18B k.val else l
  | .port p =>
    if l.portStopping p.val then
      ((l.portRests p.val).setNet (fun n => { n with cancelled := setBit n.cancelled p.val true })).fault
        (netCode p.val 0x082 0x0A2) (p.val % 2)
    else l
  | .safetyOutput k => if bit l.sio.shut k.val then l.edmFault k.val else l
  | .lane => l

def execFunctionShutdownOverrun (l : LaneId) (f : FunctionId) (s : State) : Host.Outcome State Fault Refusal :=
  onLane l (fun x => x.functionOverrun f) s

end Sys2Proof.Machine
end

