-- ==== Sys2Proof/Machine/Pwr.lean ====
section
/-!
DEFINITION. Supplies, clocks, resets, power states and ALIVE (R377, R432, R433, R436 to R447).
-/

namespace Sys2Proof.Machine

open Sys2Proof

/-! ## ALIVE (R377, R378) -/

/-- The pads of the lane are released: neither OFF nor NAP, and past its bring-up. -/
def LaneSt.released (l : LaneSt) : Bool :=
  let st := l.rd PWR.STATUS.STATE
  !l.pwr.off && !l.pwr.nap && 1 ≤ st && st ≤ 3

/-- ALIVE_TOGGLE: the level changes, and every lane sees the transition through its coupler. -/
def State.aliveToggle (s : State) (k : LaneId) : State :=
  let l := s.lane k
  if !l.released ∨ !l.on FLT.STATUS.ALIVE_RUN then s
  else
    let s := s.setLane k (l.wrB FLT.STATUS.ALIVE_LEVEL (!l.on FLT.STATUS.ALIVE_LEVEL))
    l.peers.foldl (fun s p => s.setLane p ((s.lane p).wr ((s.lane p).aliveF k) 1)) s

def execAliveToggle (l : LaneId) (s : State) : Host.Outcome State Fault Refusal := .next (s.aliveToggle l)

/-- ALIVE_READBACK: the pin reads another level than the one driven for 100 ns. -/
def LaneSt.aliveReadback (l : LaneSt) (level : Bool) : LaneSt :=
  if l.released ∧ level ≠ l.on FLT.STATUS.ALIVE_LEVEL then l.fault 0x222 0 else l

def execAliveReadback (l : LaneId) (level : Bool) (s : State) : Host.Outcome State Fault Refusal :=
  onLane l (fun x => x.aliveReadback level) s

/-! ## Supplies and clocks (R432, R433, R436) -/

/-- An event of a supply or clock monitor; a lane in reset, OFF or in NAP records none. -/
def LaneSt.monitor (l : LaneSt) (code source : Nat) : LaneSt :=
  if l.pwr.off ∨ l.pwr.nap ∨ l.rd PWR.STATUS.STATE = 0 ∨ l.rd PWR.STATUS.STATE = 4 then l else l.fault code source

def execVinUv (l : LaneId) (s : State) : Host.Outcome State Fault Refusal := onLane l (fun x => x.monitor 0x1E4 0) s

def execVioUv (l : LaneId) (s : State) : Host.Outcome State Fault Refusal := onLane l (fun x => x.monitor 0x1E5 0) s

def execTempWarn (l : LaneId) (s : State) : Host.Outcome State Fault Refusal := onLane l (fun x => x.monitor 0x1E2 0) s

def execTempTrip (l : LaneId) (s : State) : Host.Outcome State Fault Refusal := onLane l (fun x => x.monitor 0x1E3 0) s

/-- REG_FAULT: a regulator, 0 REG_CORE, 1 REG_AUX, 2 REG_GD, outside its window. During a bring-up the lane stays in reset
(R439). REG_LP is no source: outside its window it browns the lane out (R433). -/
def LaneSt.regFault (l : LaneSt) (reg : Nat) : LaneSt :=
  if 3 ≤ reg ∨ l.pwr.off ∨ l.pwr.nap then l
  else if l.rd PWR.STATUS.STATE = 0 then
    ((l.fault 0x1E7 reg).wr BIST.STATUS.FULL_RUNNING 0).wr BIST.LAST_FULL.RESULT 1
  else l.fault 0x1E7 reg

def execRegFault (l : LaneId) (reg : Byte) (s : State) : Host.Outcome State Fault Refusal :=
  onLane l (fun x => x.regFault reg.toNat) s

/-- XTAL_FAIL: the crystal stops or departs. -/
def execXtalFail (l : LaneId) (s : State) : Host.Outcome State Fault Refusal :=
  onLane l (fun x => if x.pwr.off then x else (x.wr CLK.STATUS.XTAL_OK 0).monitor 0x204 0) s

/-- The PLL that feeds an island: its lock bit and the first island it feeds, in the order of the table of R15. -/
def pllOf (island : Nat) : Option (Field × Nat) :=
  if island ≤ 3 ∨ island = 6 then some (CLK.STATUS.SYS_LOCK, 0)
  else if island = 4 then some (CLK.STATUS.NET_LOCK, 4)
  else if island = 5 then some (CLK.STATUS.PCIE_LOCK, 5)
  else none

/-- PLL_UNLOCK, with the first island the PLL feeds as source index; the AON island runs on no PLL. -/
def LaneSt.pllUnlock (l : LaneSt) (island : Nat) : LaneSt :=
  match pllOf island with
  | none => l
  | some (f, src) => if l.pwr.off then l else (l.wr f 0).monitor 0x203 src

def execPllUnlock (l : LaneId) (island : Fin 8) (s : State) : Host.Outcome State Fault Refusal :=
  onLane l (fun x => x.pllUnlock island.val) s

/-- POWER_ON: VIN rises through 8.5 V after being below 7.0 V. -/
def execPowerOn (l : LaneId) (s : State) : Host.Outcome State Fault Refusal :=
  onLane l (fun x => if x.pwr.off then x.coldReset 0 else x) s

/-- POWER_OFF: VIN below 7.0 V. -/
def execPowerOff (l : LaneId) (s : State) : Host.Outcome State Fault Refusal :=
  onLane l (fun x => { x.cleared with pwr := { PwrSt.reset with off := true } }) s

/-- BROWNOUT, counted in NVM. -/
def execBrownout (l : LaneId) (s : State) : Host.Outcome State Fault Refusal :=
  onLane l (fun x => if x.pwr.off then x else (x.satInc 15 PWR.COUNTS.BROWNOUTS).coldReset 1) s

/-- PIN_RESET: RESET_N low for at least 1 µs. -/
def execPinReset (l : LaneId) (s : State) : Host.Outcome State Fault Refusal :=
  onLane l (fun x => if x.pwr.off then x else x.coldReset 2) s

/-- SUP_WDOG: the supervisor core restarts; nothing else is affected. -/
def execSupWdog (l : LaneId) (s : State) : Host.Outcome State Fault Refusal :=
  onLane l (fun x => if x.pwr.off ∨ x.pwr.nap then x else x.satInc 15 PWR.RESET_CAUSE.SUP_WDOG) s

/-! ## HOLD (R442) -/

/-- A channel does not keep the lane from HOLD. -/
def LaneSt.parked (l : LaneSt) (n : Nat) : Bool :=
  let st := l.chState n
  (st = chDisabled || st = chFaulted || (st = chLatched && (l.ch n).latchCat = 1)) && (l.ch n).diag.isNone
    && (l.gateCh n).scan.isNone && (l.tune n).isNone

/-- The park condition. -/
def LaneSt.parkCondition (l : LaneSt) : Bool :=
  (List.range 8).all l.parked && (List.range 24).all (fun m => l.rd (GATE.LEG_CTRL.USE m) != 2)
    && (List.range 16).all (fun g => l.rd (PROF.STATUS.STATE g) != 4)

/-- Both gate-driver dies in standby: every switch is held off but those of a latched active short; another short waits for
RUN, as one ordered in HOLD does (R442). -/
def LaneSt.standbyDies (l : LaneSt) : LaneSt :=
  let l := (List.range 2).foldl (fun l k => if bit (l.rd GATE.OV_STATUS.CHP_ON) k then l.setChp k false else l) l
  (List.range 8).foldl (fun l n =>
    if !l.isMotor n ∨ l.bridgeSide n ≠ 0 then l
    else
      let w := l.rd (COMM.STATUS.WSTATE n)
      (l.windingOff n).setGateCh n (fun g => { g with parked := decide (w = 2 ∨ w = 3) })) l

/-- The dies leave standby: the safe states that waited are taken. -/
def LaneSt.wakeDies (l : LaneSt) : LaneSt :=
  (List.range 8).foldl (fun l n => if (l.gateCh n).parked then l.windingSafe n else l) l

/-- The park condition has held at the boundaries of the last HOLD_DLY ms. -/
def LaneSt.parkedLong (l : LaneSt) : Bool :=
  l.parkCondition && decide (l.pwr.parkFrom + 10 ^ 6 * l.rd PWR.CTRL.HOLD_DLY ≤ l.run)

/-- HOLD_ENTRY: the park condition has held for HOLD_DLY (R441). -/
def LaneSt.holdEntry (l : LaneSt) : LaneSt :=
  if l.rd PWR.STATUS.STATE = 1 ∧ l.isMember ∧ l.on PWR.CTRL.HOLD_EN ∧ l.parkedLong
  then (l.wr PWR.STATUS.STATE 2).standbyDies.telSave else l

def execHoldEntry (l : LaneId) (s : State) : Host.Outcome State Fault Refusal := onLane l LaneSt.holdEntry s

/-- HOLD_TO_RUN: the lane reaches RUN after an enabling descriptor; the start-ups that waited for it begin. -/
def LaneSt.holdToRun (l : LaneSt) : LaneSt :=
  if l.rd PWR.STATUS.STATE ≠ 2 ∨ (List.range 8).all (fun n => !(l.ch n).fromHold && (l.ch n).diag.isNone) then l
  else
    (List.range 8).foldl (fun l n =>
      if (l.ch n).fromHold then (l.setComm n (fun c => { c with fromHold := false })).startChecks n else l)
      (l.wr PWR.STATUS.STATE 1).wakeDies

def execHoldToRun (l : LaneId) (s : State) : Host.Outcome State Fault Refusal := onLane l LaneSt.holdToRun s

/-! ## Sleep requests and NAP (R443, R444) -/

/-- Show whether a sleep request is present. -/
def LaneSt.showSleep (l : LaneSt) : LaneSt := l.wrB PWR.STATUS.SLEEP_REQ (l.pwr.pin || l.pwr.link)

/-- SLEEP_REQUEST: of the pin, or of TC10 sleep with the host link down. -/
def LaneSt.sleepRequest (l : LaneSt) (pin : Bool) : LaneSt :=
  if !l.released then l
  else if pin then
    if l.on PWR.CTRL.SLEEP_PIN then ({ l with pwr := { l.pwr with pin := true } } : LaneSt).showSleep else l
  else if l.on PWR.CTRL.SLEEP_LINK ∧ !l.on HIF.STATUS.LINK_UP then
    ({ l with pwr := { l.pwr with link := true } } : LaneSt).showSleep
  else l

def execSleepRequest (l : LaneId) (pin : Bool) (s : State) : Host.Outcome State Fault Refusal :=
  onLane l (fun x => x.sleepRequest pin) s

/-- SLEEP_REQUEST_WITHDRAWN. -/
def LaneSt.sleepWithdrawn (l : LaneSt) (pin : Bool) : LaneSt :=
  (if pin then ({ l with pwr := { l.pwr with pin := false } } : LaneSt)
   else ({ l with pwr := { l.pwr with link := false } } : LaneSt)).showSleep

def execSleepRequestWithdrawn (l : LaneId) (pin : Bool) (s : State) : Host.Outcome State Fault Refusal :=
  onLane l (fun x => if x.released then x.sleepWithdrawn pin else x) s

/-- The lane honours its sleep request now. MIN_AWAKE is measured by the time the lane has run (log entry 22). -/
def LaneSt.napReadyNow (l : LaneSt) : Bool :=
  l.inHold && l.on PWR.STATUS.SLEEP_REQ && l.pwr.wake == 0
    && decide (l.pwr.awakeFrom + l.rd PWR.CTRL.MIN_AWAKE * 10 ^ 9 ≤ l.run)
    && l.commit.isNone && !l.on SEC.FW_STATUS.STAGING && l.sec.fwVerify.isEmpty && l.hif.exec.isEmpty && l.hif.openD.isEmpty
    && l.hif.staged.isEmpty && l.shortSafe

/-- PWR_SYNC of a peer. -/
def execPwrSyncReceive (l : LaneId) (src : Arrival) (ready : Bool) (s : State) : Host.Outcome State Fault Refusal :=
  onReceive l src (fun x => x.setPeer src.lane (fun v => { v with napReady := ready })) s

/-- The words of the retention image beside the RWS registers: interrupt masks, galley counts, cause and counts of power,
faults, the record of the last full proof, what is out of use, bridge latches, the password back-off, configuration. -/
def napWords : List Nat :=
  wordsIn 0x1020 0x1040 ++ wordsIn 0x4020 0x4040 ++ wordsIn 0x4820 0x4840 ++ wordsIn 0x5000 0x6000
    ++ [0x6008, 0x600C, LOOP.PIPE_STATUS.SPARE.off, ADC.RETIRED.CORES.off, GATE.OV_STATUS.CHP_ON.off]
    ++ wordsIn 0x8000 0x80C4
    ++ (List.range 26).map (fun m => (GATE.STATUS.STATE m).off) ++ (List.range 8).map (fun n => (GATE.BRIDGE.SIDE n).off)
    ++ (List.range 24).map (fun c => (ADC.CORE_STATUS.UNPROVED c).off) ++ (List.range 8).map (fun n => (COMM.START_ERR.CODE n).off)
    ++ (List.range 16).flatMap (fun n => [(HIF.SG_CONSUMED.COUNT n).off, (HIF.CG_WRITTEN.COUNT n).off]) ++ nvmWords

/-- The gate-driver dies in standby: every switch off, its gate on its pull-down; the trip flags and latches stay (R256). -/
def LaneSt.standby (l : LaneSt) : LaneSt :=
  (List.range 26).foldl (fun l m =>
    let l := if l.rd (GATE.STATUS.STATE m) = 5 then l else l.wr (GATE.STATUS.STATE m) 0
    (l.wr (gsF (2 * m)) 0).wr (gsF (2 * m + 1)) 0) (l.wr GATE.OV_STATUS.CHP_ON 0)

/-- The lane in NAP: only the retention image is left (R444); every crossing FIFO and mailbox is held in reset (R20). -/
def LaneSt.napped (l : LaneSt) : LaneSt :=
  let l := (List.range 8).foldl LaneSt.latchSide l
  let n := ((l.cleared.keepRws l.word).keepWords l.word napWords).standby.keepSubst
  let n := (n.wr HIF.STATUS.SEALED (l.rd HIF.STATUS.SEALED)).wr BIST.STATUS.SRAM_SPARED (l.rd BIST.STATUS.SRAM_SPARED)
  let n := (List.range 8).foldl (fun n c => if l.chState c = chFaulted then n.wr (COMM.STATUS.STATE c) chFaulted else n) n
  let n := n.wr SEC.STATUS.FAILS (l.rd SEC.STATUS.FAILS)
  let n := ((n.wr FLT.STATUS.ALIVE_RUN 0).wr FLT.STATUS.ALIVE_LEVEL 0).wr PWR.STATUS.PADS_LATCHED 1
  let n := (n.wr VOTE.STATUS.READMITS (l.rd VOTE.STATUS.READMITS)).wr VOTE.STATUS.SELF (if l.self = selfDead then selfDead else selfForming)
  { n.crossReset with
    hif := { n.hif with
      sgTail := l.hif.sgTail, cgHead := l.hif.cgHead, cgReserved := l.hif.cgReserved, peerWritten := l.hif.peerWritten,
      written := l.hif.written, fetched := Vector.ofFn (fun g : Fin 16 => l.rd (HIF.SG_CONSUMED.COUNT g.val)) },
    vote := { n.vote with
      folioSeq := l.vote.folioSeq,
      blk := Vector.ofFn (fun i : Fin 3 =>
        { LaneBlk.reset with readmits := (l.vote.blk.get i).readmits, count := (l.vote.blk.get i).count,
                             cause := (l.vote.blk.get i).cause, proof := 0 }) },
    flt := { l.flt with faultNext := 0 },
    bist := { n.bist with out := l.bist.out },
    sec := { n.sec with image := l.sec.image, ywKeys := l.sec.ywKeys },
    pwr := { PwrSt.reset with nap := true } }

/-- The wake of a lane begins: its sources in WAKE_CAUSE (R446, R447), and the highest current of REG_LP in the NAP that ends,
a free value (R448; log entry 7). -/
def LaneSt.wakeStart (l : LaneSt) (mask : Nat) : LaneSt :=
  let x := l.fresh
  let l := x.2.wr PWR.BUDGET.LP_PEAK x.1
  let l := (l.wr PWR.STATUS.STATE 4).setWord PWR.WAKE_CAUSE.off (BitVec.ofNat 32 mask)
  { l with pwr := { l.pwr with nap := false, wake := 0 } }

/-- NAP_ENTRY_COMPLETE: a wake source that came during the entry acts at once. -/
def LaneSt.napEntered (l : LaneSt) : LaneSt :=
  if l.rd PWR.STATUS.STATE ≠ 3 then l
  else
    let wake := l.pwr.wake
    let l := ((l.telSave.satInc 15 PWR.COUNTS.NAPS).napped)
    if wake = 0 then l
    else (l.satInc 15 PWR.COUNTS.LATE_WAKES).wakeStart (setBit wake 9 true)

def execNapEntryComplete (l : LaneId) (s : State) : Host.Outcome State Fault Refusal := onLane l LaneSt.napEntered s

/-! ## Wake (R445 to R447) -/

/-- An ESTOP function names a safety input of the lane, or an input has its WAKE bit. -/
def LaneSt.anyWakeInput (l : LaneSt) : Bool :=
  (List.range 20).any (fun i => l.on (SIO.SI_CFG.WAKE i) ||
    (List.range 16).any (fun f => l.rd (SIO.SF_CTRL.TYPE f) = 1 &&
      (List.range 2).any (fun j => l.sfInByte f j % 4 = l.id.num && l.sfInByte f j / 4 % 32 = i)))

/-- Wake sources by their bit of WAKE_CAUSE: 0 pin, 1 and 2 CAN, 3 to 6 PHY, 7 peer, 8 safety input. -/
def LaneSt.wakeEnabled (l : LaneSt) (src : Nat) : Bool :=
  if src = 7 then true
  else if src = 8 then l.anyWakeInput
  else bit (l.word PWR.WAKE_EN.off).toNat src

/-- A wake source becomes active, a CAN transceiver's shown in CAN.STATUS.WAKE: in NAP the lane wakes, in WAKE it is merged, before that it stands against the decision
or is kept over the entry. Tells whether a wake has been accepted. -/
def LaneSt.wakeBy (l : LaneSt) (src : Nat) : LaneSt × Bool :=
  let l := if !l.pwr.off ∧ (src = 1 ∨ src = 2) then l.wr (CAN.STATUS.WAKE (src - 1)) 1 else l
  if l.pwr.off ∨ !l.wakeEnabled src then (l, false)
  else if l.pwr.nap then (l.wakeStart (2 ^ src), true)
  else
    let st := l.rd PWR.STATUS.STATE
    if st = 4 then
      (l.setWord PWR.WAKE_CAUSE.off (BitVec.ofNat 32 (setBit (l.word PWR.WAKE_CAUSE.off).toNat src true)), false)
    else if st = 0 then (l, false)
    else ({ l with pwr := { l.pwr with wake := setBit l.pwr.wake src true } }, false)

/-- WAKE_SOURCE. The signal to the peers arrives there as PEER_WAKE. -/
def execWakeSource (l : LaneId) (src : Fin 9) (s : State) : Host.Outcome State Fault Refusal :=
  onLane l (fun x => (x.wakeBy src.val).1) s

/-- PEER_WAKE: the wake signal of a peer that wakes. In NAP_ENTRY it is kept as any source. -/
def execPeerWake (l peer : LaneId) (s : State) : Host.Outcome State Fault Refusal :=
  onLane l (fun x => if peer = l then x else (x.wakeBy 7).1) s

/-- WAKE_COMPLETE: `ok` tells that the retention image and the proof steps of a wake have passed. A failed one, and a
retained FATAL, take the RETENTION reset; WAKE_PROOF takes the full proof of the cold bring-up. At the release of the
pads a bridge with a latched short takes it up again. -/
def LaneSt.wakeComplete (l : LaneSt) (ok : Bool) : LaneSt :=
  if l.rd PWR.STATUS.STATE ≠ 4 ∨ l.pwr.off then l
  else if !ok then (l.coldReset 4).wr PWR.STATUS.RETAIN_LOST 1
  else if l.on FLT.STATUS.FATAL then l.coldReset 4
  else if l.on PWR.CTRL.WAKE_PROOF then
    (({ l with pwr := PwrSt.reset } : LaneSt).wr PWR.STATUS.STATE 0).proofReleased false
  else
    let f := l.fwLoad
    if !f.2 ∨ !l.sec.colophonOk then (if f.2 then f.1.fault 0x2A2 0 else f.1).wr PWR.STATUS.STATE 0
    else
      let l := (f.1.wr SEC.STATUS.KEYS_OK 1).restoreTelemetry
      let l := (l.releasePads 5700000 (l.self = selfDead)).wr PWR.STATUS.WOKEN 1
      l.wr PWR.STATUS.RETAIN_LOST 0

def execWakeComplete (l : LaneId) (ok : Bool) (s : State) : Host.Outcome State Fault Refusal :=
  onLane l (fun x => x.wakeComplete ok) s

end Sys2Proof.Machine
end

