-- ==== Sys2Proof/Machine/Boundary.lean ====
section
/-!
DEFINITION. The voting boundary: formation, admission, membership and share ramps, lead and speakers, agreed state, NAP
decision, cycle frames (R76, R91, R97, R102, R104, R111, R112, R114, R443).
-/

namespace Sys2Proof.Machine

open Sys2Proof

/-- Change one lane of the state. -/
def State.at' (s : State) (k : LaneId) (f : LaneSt → LaneSt) : State := s.setLane k (f (s.lane k))

/-! ## Becoming MEMBER -/

/-- A TRIAL firmware becomes VALID when its lane reaches MEMBER on it; the floor of versions rises to its own (R403). -/
def LaneSt.trialPassed (l : LaneSt) : LaneSt :=
  let k := l.rd SEC.FW_STATUS.RUNNING
  if l.rd (fwStateF k) ≠ 2 then l
  else
    let l := (l.wr (fwStateF k) 1).wr SEC.FW_FLOOR.VERSION (max (l.rd SEC.FW_FLOOR.VERSION) (leAt l.runningFw 4 4))
    l.appendLog 0x06 (leAt l.runningFw 0 4) 0 0 0 false

/-- The lanes of a mask are MEMBER in the lane's view. -/
def LaneSt.seatMembers (l : LaneSt) (mask : Nat) : LaneSt :=
  l.peers.foldl (fun l p => if bit mask p.num then l.setPeer p (fun v => { v with memb := selfMember, dis := 0 }) else l) l

/-- The lane becomes MEMBER of the first membership; a lockout of before the reset runs again in full (R413). -/
def LaneSt.join (l : LaneSt) (mask : Nat) : LaneSt :=
  let l := ((l.wr VOTE.STATUS.SELF selfMember).seatMembers mask).setMembers mask
  let l : LaneSt := { l with vote := { l.vote with shareMembers := mask, formExpired := false } }
  let l := l.setMem (fun m => { m with formed := l.boundaryNs })
  let l := LaneId.all.foldl (fun l k => if bit mask k.num then l.setBlk k (fun b => { b with ramp := 1000, rampFrom := none, late := false }) else l) l
  let l := (((l.raise 2 2).raise 2 1).trialPassed).judgeSlots.judgeOutputs
  if maskOf 3 (fun i => bit mask i && decide (i < l.id.num)) = 0 then (l.drawChallenge.startLockout.showSession).sendSession else l

/-- A lane that forms late becomes EXCLUDED and waits for its state transfer (R102). -/
def LaneSt.lateForm (l : LaneSt) : LaneSt :=
  let l := ((l.wr VOTE.STATUS.SELF selfExcluded).wr VOTE.STATUS.CAUSE 0).setBlk l.id (fun b => { b with late := true })
  ((l.setReadmit .align).laneSafe false)

/-- Formation (R102): once it has reported FORMING, the lane joins where both peers form with their frames exchanged, where the formation window has run
out, or where a peer that has taken its boundary before counts it in. -/
def LaneSt.formation (l : LaneSt) : LaneSt :=
  if l.self ≠ selfForming ∨ l.vote.sent.isNone then l
  else
    let ready (p : LaneId) : Bool := decide ((l.peer p).memb = selfForming) && (l.peer p).fresh
    let seated : Option Nat := l.peers.findSome? (fun p =>
      if (l.peer p).memb = selfMember then (l.peer p).last.map (·.members) else none)
    match seated with
    | some mask => if bit mask l.id.num then l.join mask else l.lateForm
    | none =>
      let mask := 2 ^ l.id.num + ((l.peers.filter ready).map (fun p => 2 ^ p.num)).sum
      if mask = 7 ∨ l.vote.formExpired then l.join mask else l

/-- FORMATION_WINDOW_EXPIRED: VOTE.SHADOW_TMO.FORM has elapsed from the first lane's proof pass. -/
def execFormationWindowExpired (l : LaneId) (s : State) : Host.Outcome State Fault Refusal :=
  onLane l (fun x => if x.self = selfForming ∧ x.voting then { x with vote := { x.vote with formExpired := true } } else x) s

/-! ## Admission of a SHADOW lane (R111 to R113) -/

/-- The SHADOW lane `k` has its agreeing votes. -/
def LaneSt.earned (l : LaneSt) (k : LaneId) : Bool :=
  decide (l.membOf k = selfShadow) && decide (l.rd VOTE.READMIT.SHADOW_VOTES ≤ (l.blkOf k).shadowVotes)

/-- READMITS of a lane goes up, unless its exclusion was a HOST_RESET or it formed late; its ramp starts. -/
def LaneSt.readmitted (l : LaneSt) (k : LaneId) : LaneSt :=
  let l := l.setBlk k (fun b => { b with
    readmits := if b.cause = causeHostReset ∨ b.late then b.readmits else min 7 (b.readmits + 1), late := false, ramp := 0,
    rampFrom := some l.boundaryNs, shadowVotes := 0 })
  if k = l.id then l.wr VOTE.STATUS.READMITS (l.blkOf k).readmits else l

/-- The interrupt state of a donor, its leading timers in the time this lane has run. -/
def LaneSt.irqOf (l d : LaneSt) : IrqSt :=
  { d.irq with groups := d.irq.groups.map (fun v => { v with leadAt := v.leadAt + l.run - d.run }) }

/-- What a lane that becomes MEMBER takes over of the descriptors under way, the interrupts, the folio counts and the
password session (log entry 27). -/
def LaneSt.adopt (l d : LaneSt) : LaneSt :=
  let l := l.keepWords d.word (wordsIn 0x4020 0x40C0 ++ wordsIn 0x4820 0x48C0)
  let l := (List.range 16).foldl (fun l n => l.takeFields d [HIF.SG_CONSUMED.COUNT n, HIF.CG_WRITTEN.COUNT n]) l
  let l := (List.range 4).foldl (fun l i => l.takeFields d [SEC.CHALLENGE.BYTES i]) l
  let l := l.takeFields d [SEC.STATUS.SESSION, SEC.STATUS.LOCKED, SEC.STATUS.FAILS, SEC.STATUS.LOCK_LEFT, HIF.STATUS.HOST_SILENT,
    CFG.COMMIT_COUNT.VALUE, CFG.STATUS.COMMIT_PENDING, MEM.TG_WRITTEN.COUNT, VOTE.STATUS.STOPPING]
  let l : LaneSt := { l with
    hif := { l.hif with
      sgTail := d.hif.sgTail, cgHead := d.hif.cgHead, cgReserved := d.hif.cgReserved, openD := d.hif.openD,
      exec := d.hif.exec, staged := d.hif.staged, written := d.hif.written, peerWritten := d.hif.peerWritten, reads := [],
      bufWait := d.hif.bufWait, bufDone := d.hif.bufDone,
      copies := (d.hif.exec ++ d.hif.bufWait.map (·.1)).map (fun e =>
        { Copies.empty e.sg e.seq with agreed := (d.copiesOf e.sg e.seq).agreed }),
      fetched := Vector.ofFn (fun n : Fin 16 => d.rd (HIF.SG_CONSUMED.COUNT n.val)), awaitCounts := false }
    comm := d.comm
    loop := { l.loop with tune := d.loop.tune }
    sio := { l.sio with grant := d.sio.grant, resets := d.sio.resets }
    bist := { l.bist with reqs := d.bist.reqs }
    commit := d.commit.map (fun c => { c with own := none, go := none })
    sec := { l.sec with
      session := d.sec.session, lockUntil := d.sec.lockUntil, idleFrom := d.sec.idleFrom, report := d.sec.report,
      fwVerify := d.sec.fwVerify }
    irq := l.irqOf d
    folio := { d.folio with page := none, fp := (0, 0), bad := 0 } }
  { l with
    vote := { l.vote with
      voted := d.vote.voted, ref := d.vote.ref, stopCause := d.vote.stopCause, stopCat := d.vote.stopCat,
      stopReq := d.vote.stopReq, causes := d.vote.causes }
    mem := { l.mem with formed := d.mem.formed } }

/-- The SHADOW lane drives again: its channels in RUN at their next valley, every other winding in its safe state. -/
def LaneSt.driveAgain (l : LaneSt) : LaneSt :=
  let l := (List.range 8).foldl (fun l n =>
    if l.chState n = chRun ∨ l.chState n = chTune ∨ (l.chState n = chLatched ∧ (l.ch n).latchCat = 2) then
      l.setGateCh n (fun g => { g with resume := true })
    else l.windingSafe n) l
  (l.judgeSlots).judgeOutputs

/-- Admission at the boundary of lane `k`: of itself, or of a peer it holds to be SHADOW. -/
def State.admissions (s : State) (k : LaneId) : State :=
  let l := s.lane k
  if l.inSafe then s
  else if l.self = selfShadow ∧ l.earned k then
    match s.donor k with
    | none => s
    | some j =>
      let d := s.lane ((s.lane j).vote.lead.getD j)
      let l := l.adopt (if d.isMember then d else s.lane j)
      let l := ((l.wr VOTE.STATUS.SELF selfMember).readmitted k).trialPassed
      let l := { l with vote := { l.vote with exclReq := 0, peerAttr := 0, noMaj := 0, selfDis := 0 } }
      s.setLane k l.driveAgain
  else if l.isMember then
    s.setLane k (l.peers.foldl (fun l p =>
      if l.earned p then
        (l.readmitted p).setPeer p (fun v => { v with memb := selfMember, dis := 0, serving := false, folioBad := 0 })
      else l) l)
  else s

/-! ## Membership in force (R102, R104, R112, K4) -/

/-- The largest gap between a loss and the share table that follows it. -/
def LaneSt.closeGap (l : LaneSt) : LaneSt :=
  match l.vote.gapFrom with
  | none => l
  | some t =>
    let g := min (2 ^ 32 - 1) ((l.runUnits - t) / 2 ^ 32)
    { l.wr VOTE.GAP_MAX.NS (max (l.rd VOTE.GAP_MAX.NS) g) with vote := { l.vote with gapFrom := none } }

/-- The membership decided since the last boundary comes into force in a member; the lead sends the session state (R412). -/
def LaneSt.newMembers (l : LaneSt) (mask : Nat) : LaneSt :=
  let mode := l.mode
  let was := popCount 3 l.members
  let l := ((l.setMembers mask).closeGap.judgeSetup).setCommit (fun c => { c with changed := true })
  let l : LaneSt := { l with vote := { l.vote with shareMembers := mask } }
  let l := l.raise 2 2
  let l := if l.mode = mode then l else l.raise 2 1
  let l := (List.range 8).foldl (fun l n => (if (l.tune n).isSome then l.tuneAbort n 0x77 3 else l).showTorque n) l
  let l := if l.isLead then l.sendSession else l
  if 2 ≤ was ∧ popCount 3 mask = 1 ∧ !l.inSafe then l.stopAll 1 1 else l

/-- The members for the cycle that starts: a lane whose exclusion was decided less than 0.5 µs before this boundary is
still one of the share table in force (R104). -/
def LaneSt.maskInForce (l : LaneSt) : Nat :=
  l.viewMask ||| maskOf 3 (fun i => bit l.members i && l.peers.any (fun p => decide (p.num = i) &&
    (l.peer p).outAt.any (fun t => decide (l.boundaryNs * 2 ^ 32 < t + 500 * 2 ^ 32))))

/-- An exclusion that has come into force is no longer waited for. -/
def LaneSt.clearOut (l : LaneSt) : LaneSt :=
  l.peers.foldl (fun l p => if bit l.members p.num then l else l.setPeer p (fun v => { v with outAt := none })) l

/-- The membership of lane `k`: by its own votes where it is MEMBER, else as the members report it. A SHADOW lane without
any MEMBER becomes EXCLUDED and waits for a donor. -/
def State.applyMembership (s : State) (k : LaneId) : State :=
  let l := s.lane k
  if l.isMember then
    if l.maskInForce = l.members then s
    else
      let s := s.setLane k (l.newMembers l.maskInForce).clearOut
      ((List.range 8).foldl (fun s n => s.endTune k n) s).waitRecheck k
  else
    match l.peers.findSome? (fun p => if (l.peer p).memb = selfMember then (l.peer p).last else none) with
    | some f => s.setLane k ((l.wr VOTE.STATUS.MEMBERS f.members).wr VOTE.STATUS.MODE f.mode)
    | none =>
      if l.self = selfShadow ∧ !l.inSafe ∧ l.peers.all (fun p => (l.peer p).memb ≠ selfMember) then
        s.setLane k (((l.wr VOTE.STATUS.SELF selfExcluded).setReadmit .align).laneSafe false)
      else s

/-- The ramps at the boundary, in per mille of VOTE.TIMING.RAMP ms (R112). -/
def LaneSt.rampStep (l : LaneSt) : LaneSt :=
  LaneId.all.foldl (fun l k =>
    match (l.blkOf k).rampFrom with
    | none => l
    | some t =>
      let full := l.rd VOTE.TIMING.RAMP * 10 ^ 6
      let p := if full = 0 then 1000 else min 1000 ((l.boundaryNs - t) * 1000 / full)
      l.setBlk k (fun b => { b with ramp := p, rampFrom := if p = 1000 then none else some t })) l

/-! ## Agreed reactions -/

/-- A lane that computes the channels: MEMBER or SHADOW. -/
def LaneSt.computes (l : LaneSt) : Bool := l.isMember || decide (l.self = selfShadow)

/-- CHANNEL_SAFE reactions at least 0.5 µs before this boundary: every lane that computes the channels moves them to
FAULTED (R370). -/
def State.faultedChannels (s : State) (k : LaneId) : State :=
  let mask := (s.lane k).flt.faultNext
  if mask = 0 ∨ !(s.lane k).computes ∨ (s.lane k).boundaryNs * 2 ^ 32 < (s.lane k).flt.faultAt + 500 * 2 ^ 32 then s
  else
    let s := LaneId.all.foldl (fun s j =>
      if (s.lane j).computes then
        s.at' j (fun l => (List.range 8).foldl (fun l n => if bit mask n then l.toFaulted n false else l) l)
      else s) s
    s.at' k (fun l => { l with flt := { l.flt with faultNext := 0 } })

/-- A controlled stop whose cause has come since the last boundary begins; a SHADOW lane follows the members. -/
def State.stopEnters (s : State) (k : LaneId) : State :=
  let l := s.lane k
  if l.isMember then
    let c := l.vote.stopReq
    if c = 0 then s
    else
      let l : LaneSt := { l with vote := { l.vote with stopReq := 0 } }
      s.setLane k (if l.inSafe then l else l.stopAll c (l.stopCategory c))
  else if l.self = selfShadow ∧ !l.on VOTE.STATUS.STOPPING then
    match s.donor k with
    | none => s
    | some j =>
      let d := s.lane j
      if d.on VOTE.STATUS.STOPPING then s.setLane k (l.stopAll d.vote.stopCause d.vote.stopCat) else s
  else s

/-! ## Lead and speakers (R76, R296, R315) -/

/-- HOST_UP of lane `k` in the frames of the last boundary. -/
def LaneSt.leadUp (l : LaneSt) (k : LaneId) : Bool :=
  if k = l.id then (l.vote.sent.map (·.1.hostUp)).getD (l.on HIF.STATUS.LINK_UP)
  else ((l.peer k).last.map (·.hostUp)).getD false

/-- The choice of the lead: the lowest-lettered MEMBER with its host link up. -/
def LaneSt.chooseLead (l : LaneSt) : Option LaneId := LaneId.all.find? (fun k => bit l.members k.num && l.leadUp k)

/-- The lead is evaluated. A new one writes again the completions of R57 and the records of groups in service, and its
first page shows HANDOVER. -/
def LaneSt.evalLead (l : LaneSt) : LaneSt :=
  let n := l.chooseLead
  if n = l.vote.lead then l
  else
    let mine : Bool := n = some l.id && l.isMember
    let l : LaneSt := { l.wrB HIF.STATUS.LEAD mine with
      vote := { l.vote with lead := n }, folio := { l.folio with handover := true } }
    let l := if l.isMember then l.raise 2 3 else l
    let l : LaneSt := if mine then { l with hif := { l.hif with awaitCounts := false } } else l
    if mine then l.rewriteCompletions.redeliver else l.mirrorEntries

/-- The speaker of each network, the lowest-lettered MEMBER with a link up on it, and of each CAN bus, the lowest-lettered
MEMBER that is not bus-off. -/
def State.speakers (s : State) (k : LaneId) : State :=
  let ks := s.membersOf k
  let net (i : Nat) : Bool := (ks.find? (fun j => (((s.lane k).blkOf j).netUp / 4 ^ i) % 4 ≠ 0)) = some k
  let can (i : Nat) : Bool := (ks.find? (fun j => (s.lane j).rd (CAN.STATUS.BUS i) ≠ 2)) = some k
  s.at' k (fun l => [0, 1].foldl (fun l i =>
    (l.wrB (NET.PORT_STATUS.SPEAKER i) (l.isMember && net i)).wrB (CAN.STATUS.SPEAKER i) (l.isMember && can i)) l)

/-! ## NAP (R443, R447) -/

/-- The NAP decision: every member has sent READY at the last boundary and no wake source is active. Lanes that are no
members follow. Then READY is sent for the next boundary. -/
def State.napDecide (s : State) (k : LaneId) : State :=
  let l := s.lane k
  let agreed : Bool := l.isMember && l.pwr.ready && l.memberPeers.all (fun p => (l.peer p).napReady)
    && (s.membersOf k).all (fun j => (s.lane j).pwr.wake == 0)
  let follows : Bool := !l.isMember && LaneId.all.any (fun j => (s.lane j).isMember && (s.lane j).rd PWR.STATUS.STATE = 3)
  let l := l.peers.foldl (fun l p => l.setPeer p (fun v => { v with napReady := false })) l
  if (agreed ∨ follows) ∧ l.rd PWR.STATUS.STATE ≠ 3 then
    let l := l.wr PWR.STATUS.STATE 3
    let l : LaneSt := { l with pwr := { l.pwr with ready := false } }
    let l := (l.ywClose 0).ywClose 1
    s.setLane k (if l.isLead ∧ l.sec.session.isSome then l.closeSession
      else { l with sec := { l.sec with session := none } }.showSession)
  else if l.rd PWR.STATUS.STATE = 3 then s.setLane k l
  else
    let ready := l.isMember && l.napReadyNow
    let l := if ready then l.send 0x1C 1 [] else l
    s.setLane k { l with pwr := { l.pwr with ready := ready, wake := 0 } }

/-! ## Frames -/

/-- The cycle that starts takes the frames that came ahead of it. The records appended to the last cycle frame have gone
with it. -/
def LaneSt.rotateFrames (l : LaneSt) : LaneSt :=
  let now := l.cycleIndex
  let l := l.peers.foldl (fun l p => l.setPeer p (fun v =>
    let x := v.next.1.filter (fun f => f.cycle = now)
    { v with frame := x, got := if x.isSome then v.next.2 else (false, false), next := (none, (false, false)), fresh := false })) l
  { l with vote := { l.vote with done := false, tx := l.vote.tx.filter (·.num.isSome) } }

/-- GALLEY_COUNTS of the lead at each boundary (R57). -/
def LaneSt.sendCounts (l : LaneSt) : LaneSt :=
  if !l.isLead then l
  else l.send 0x05 0 ((List.range 16).map (fun n => l.rd (HIF.SG_CONSUMED.COUNT n) + 2 ^ 32 * l.rd (HIF.CG_WRITTEN.COUNT n)))

/-- A lane that is no member runs no diagnostic, scan or requested proof, and a TRIAL firmware that leaves its readmission
fails (R391, R403). -/
def LaneSt.outsider (l : LaneSt) : LaneSt :=
  if l.self ≠ selfExcluded ∧ l.self ≠ selfDead then l
  else
    let l := (List.range 8).foldl (fun l n =>
      (l.setComm n (fun c => { c with diag := none })).setGateCh n (fun g => { g with scan := none, test := none })) l
    let l : LaneSt := { l with bist := { l.bist with reqs := [] }, loop := { l.loop with tune := Vector.replicate 8 none } }
    if l.self = selfExcluded ∧ (l.vote.readmit = .waitRejoin ∨ l.vote.readmit = .waitClear ∨ l.vote.readmit = .proofWait) ∧ l.rd (fwStateF (l.rd SEC.FW_STATUS.RUNNING)) = 2
    then l.readmitFailed else l

/-- The start of a boundary in one lane: since when it is parked stands still while the park condition holds (R442). -/
def LaneSt.boundaryBegin (l : LaneSt) : LaneSt :=
  let l : LaneSt := { l with
    pwr := { l.pwr with parkFrom := if l.parkCondition then l.pwr.parkFrom else l.run },
    vote := { l.vote with linkLoss := (0, l.vote.linkLoss.1) }, time := { l.time with stepped := false } }
  l.peers.foldl LaneSt.takeBackLinks l

/-- The frames of the boundary go out; a lane that fails to send them takes the fatal fault FRAME_SEND (R96). -/
def LaneSt.boundaryFrames (l : LaneSt) (sends : Bool) : LaneSt :=
  let l := l.rotateFrames
  if !sends then ({ l with vote := { l.vote with sent := none } } : LaneSt).fault 0x047 0
  else
    let l := l.sendFrames.sendCounts
    if l.on SIO.CTRL.EN then l.xchgSend else l

/-- VOTING_BOUNDARY of lane `k`; `sends` tells whether its VOTE logic sends the cycle frames. -/
def State.votingBoundary (s : State) (k : LaneId) (sends : Bool) : State :=
  if !(s.lane k).voting then s
  else
    let s := (s.at' k LaneSt.boundaryBegin).ywFollow k
    let s := ((s.at' k LaneSt.formation).admissions k).applyMembership k
    let s := s.at' k (fun l => l.rampStep.outsider)
    let s := (s.faultedChannels k).stopEnters k
    let s := s.at' k (fun l => (if l.computes then l.judgeK1 (s.k1Due k) else l).evalLead)
    let s := s.at' k (fun l => l.commitClose.fleetTake.folioClose)
    let s := (s.stampResults k).speakers k
    let s := s.at' k (fun l => l.proofLeavers.telSettle)
    let s := ((s.napDecide k).at' k (fun l => l.forceDirect.judgeSlots)).answerBuffer k
    (s.at' k (fun l => l.boundaryFrames sends)).captures k

def execVotingBoundary (at_ : LaneBoundary) (s : State) : Host.Outcome State Fault Refusal :=
  .next (s.votingBoundary at_.lane at_.sends)

end Sys2Proof.Machine
end

