-- ==== Sys2Proof/Machine/Dispatch.lean ====
section
/-!
DEFINITION. One arm for each command, a direct call of its meaning (the host reads these arms).
-/

namespace Sys2Proof.Machine

open Sys2Proof

def exec (i : Instr) (s : State) : Host.Outcome State Fault Refusal :=
  match i with
  | .registerWrite l off value => Sys2Proof.Machine.execRegisterWrite l off value s
  | .reg64LowRead l off => Sys2Proof.Machine.execReg64LowRead l off s
  | .bar0BadRequest l => Sys2Proof.Machine.execBar0BadRequest l s
  | .quoin l key => Sys2Proof.Machine.execQuoin l key s
  | .hifEnable l value => Sys2Proof.Machine.execHifEnable l value s
  | .macsecSakWrite l net port n value => Sys2Proof.Machine.execMacsecSakWrite l net port n value s
  | .setupHashReceive l src hash => Sys2Proof.Machine.execSetupHashReceive l src hash s
  | .doorbellPoll l page => Sys2Proof.Machine.execDoorbellPoll l page s
  | .descFetch l => Sys2Proof.Machine.execDescFetch l s
  | .descFetchComplete l read => Sys2Proof.Machine.execDescFetchComplete l read s
  | .descFpReceive l src sg seq fp => Sys2Proof.Machine.execDescFpReceive l src sg seq fp s
  | .singleWaitExpired l sg seq => Sys2Proof.Machine.execSingleWaitExpired l sg seq s
  | .hostLinkLost l => Sys2Proof.Machine.execHostLinkLost l s
  | .perstReset l => Sys2Proof.Machine.execPerstReset l s
  | .linkProbe l trained page => Sys2Proof.Machine.execLinkProbe l trained page s
  | .galleyCountsReceive l src counts => Sys2Proof.Machine.execGalleyCountsReceive l src counts s
  | .hostTimeout l => Sys2Proof.Machine.execHostTimeout l s
  | .completionWrite l => Sys2Proof.Machine.execCompletionWrite l s
  | .nop l => Sys2Proof.Machine.execNop l s
  | .setpoint l => Sys2Proof.Machine.execSetpoint l s
  | .limits l => Sys2Proof.Machine.execLimits l s
  | .channelModeEnable l => Sys2Proof.Machine.execChannelModeEnable l s
  | .channelModeTune l => Sys2Proof.Machine.execChannelModeTune l s
  | .channelModeDisable l => Sys2Proof.Machine.execChannelModeDisable l s
  | .configStage l => Sys2Proof.Machine.execConfigStage l s
  | .configCommit l => Sys2Proof.Machine.execConfigCommit l s
  | .paramRead l => Sys2Proof.Machine.execParamRead l s
  | .autotune l => Sys2Proof.Machine.execAutotune l s
  | .diagComparatorSelftest l => Sys2Proof.Machine.execDiagComparatorSelftest l s
  | .diagTestCurrentScan l => Sys2Proof.Machine.execDiagTestCurrentScan l s
  | .diagSelftestTimeout l ch => Sys2Proof.Machine.execDiagSelftestTimeout l ch s
  | .proofReq l => Sys2Proof.Machine.execProofReq l s
  | .fwStage l => Sys2Proof.Machine.execFwStage l s
  | .logRead l => Sys2Proof.Machine.execLogRead l s
  | .attest l => Sys2Proof.Machine.execAttest l s
  | .fleetKey l => Sys2Proof.Machine.execFleetKey l s
  | .safeResetChannel l => Sys2Proof.Machine.execSafeResetChannel l s
  | .safeResetSafetyFunction l => Sys2Proof.Machine.execSafeResetSafetyFunction l s
  | .safeResetLane l => Sys2Proof.Machine.execSafeResetLane l s
  | .laneClear l => Sys2Proof.Machine.execLaneClear l s
  | .hostReset l => Sys2Proof.Machine.execHostReset l s
  | .folioSnapshot l => Sys2Proof.Machine.execFolioSnapshot l s
  | .folioFpReceive l src seq fp => Sys2Proof.Machine.execFolioFpReceive l src seq fp s
  | .folioWrite l => Sys2Proof.Machine.execFolioWrite l s
  | .commitReadyCheck l => Sys2Proof.Machine.execCommitReadyCheck l s
  | .commitRecordReceive l src kind reason payload => Sys2Proof.Machine.execCommitRecordReceive l src kind reason payload s
  | .commitReadyDeadline l => Sys2Proof.Machine.execCommitReadyDeadline l s
  | .commitDecisionDeadline l => Sys2Proof.Machine.execCommitDecisionDeadline l s
  | .commitEpoch l => Sys2Proof.Machine.execCommitEpoch l s
  | .votingBoundary at_ => Sys2Proof.Machine.execVotingBoundary at_ s
  | .formationWindowExpired l => Sys2Proof.Machine.execFormationWindowExpired l s
  | .cycleFrameReceive l sender frame tail => Sys2Proof.Machine.execCycleFrameReceive l sender frame tail s
  | .frameRetransmit l => Sys2Proof.Machine.execFrameRetransmit l s
  | .voteCompute l => Sys2Proof.Machine.execVoteCompute l s
  | .proofResultReceive l src injector disagreeing => Sys2Proof.Machine.execProofResultReceive l src injector disagreeing s
  | .linkLossReceive l src lost => Sys2Proof.Machine.execLinkLossReceive l src lost s
  | .attribReceive l src => Sys2Proof.Machine.execAttribReceive l src s
  | .attributionEnd l found => Sys2Proof.Machine.execAttributionEnd l found s
  | .peerAliveStop l peer => Sys2Proof.Machine.execPeerAliveStop l peer s
  | .readmissionStart l => Sys2Proof.Machine.execReadmissionStart l s
  | .proofWaitRecheck l => Sys2Proof.Machine.execProofWaitRecheck l s
  | .readmitTimeAligned l => Sys2Proof.Machine.execReadmitTimeAligned l s
  | .bulkStaticState l src data => Sys2Proof.Machine.execBulkStaticState l src data s
  | .bulkDynamicState l src part => Sys2Proof.Machine.execBulkDynamicState l src part s
  | .bulkDescriptorCopy l src sg seq copy => Sys2Proof.Machine.execBulkDescriptorCopy l src sg seq copy s
  | .bulkHostBufferCopy l src bytes => Sys2Proof.Machine.execBulkHostBufferCopy l src bytes s
  | .bulkMismatchCopy l src sg seq bytes => Sys2Proof.Machine.execBulkMismatchCopy l src sg seq bytes s
  | .bulkReportCopy l src bytes => Sys2Proof.Machine.execBulkReportCopy l src bytes s
  | .bulkTelemetryCopy l src bytes => Sys2Proof.Machine.execBulkTelemetryCopy l src bytes s
  | .stateTransferComplete l => Sys2Proof.Machine.execStateTransferComplete l s
  | .shadowTimeout l => Sys2Proof.Machine.execShadowTimeout l s
  | .controlledStopEnd l => Sys2Proof.Machine.execControlledStopEnd l s
  | .stopTmaxExpired l => Sys2Proof.Machine.execStopTmaxExpired l s
  | .replan l g => Sys2Proof.Machine.execReplan l g s
  | .planStep l g => Sys2Proof.Machine.execPlanStep l g s
  | .timedEntryApply l g => Sys2Proof.Machine.execTimedEntryApply l g s
  | .profLatchEdge l g rising => Sys2Proof.Machine.execProfLatchEdge l g rising s
  | .limitSwitchEdge l g positive => Sys2Proof.Machine.execLimitSwitchEdge l g positive s
  | .limitSwitchRelease l g positive => Sys2Proof.Machine.execLimitSwitchRelease l g positive s
  | .homingRefEdge l g => Sys2Proof.Machine.execHomingRefEdge l g s
  | .homingIndex l g => Sys2Proof.Machine.execHomingIndex l g s
  | .homingNoEdge l g => Sys2Proof.Machine.execHomingNoEdge l g s
  | .homingNoIndex l g => Sys2Proof.Machine.execHomingNoIndex l g s
  | .timetableTick l t => Sys2Proof.Machine.execTimetableTick l t s
  | .slotIssue l n residueFails => Sys2Proof.Machine.execSlotIssue l n residueFails s
  | .pipeRotation l => Sys2Proof.Machine.execPipeRotation l s
  | .tuneEnd l n => Sys2Proof.Machine.execTuneEnd l n s
  | .tuneTimeout l n => Sys2Proof.Machine.execTuneTimeout l n s
  | .obsReacqTimeout l ch => Sys2Proof.Machine.execObsReacqTimeout l ch s
  | .reversalRelease l ch => Sys2Proof.Machine.execReversalRelease l ch s
  | .reversalStall l ch => Sys2Proof.Machine.execReversalStall l ch s
  | .overspeed l ch => Sys2Proof.Machine.execOverspeed l ch s
  | .startupContactorReady l ch => Sys2Proof.Machine.execStartupContactorReady l ch s
  | .bootstrapChargeDone l ch => Sys2Proof.Machine.execBootstrapChargeDone l ch s
  | .angleAcquisitionStart l ch => Sys2Proof.Machine.execAngleAcquisitionStart l ch s
  | .alignHoldExpired l ch => Sys2Proof.Machine.execAlignHoldExpired l ch s
  | .alignSearchExhausted l ch => Sys2Proof.Machine.execAlignSearchExhausted l ch s
  | .acquisitionEnd l ch => Sys2Proof.Machine.execAcquisitionEnd l ch s
  | .channelStartupBoundary l ch => Sys2Proof.Machine.execChannelStartupBoundary l ch s
  | .channelStartupComplete l ch => Sys2Proof.Machine.execChannelStartupComplete l ch s
  | .startTimeout l ch => Sys2Proof.Machine.execStartTimeout l ch s
  | .channelShutdownComplete l ch => Sys2Proof.Machine.execChannelShutdownComplete l ch s
  | .shutdownOverrun l ch => Sys2Proof.Machine.execShutdownOverrun l ch s
  | .functionShutdownComplete l f => Sys2Proof.Machine.execFunctionShutdownComplete l f s
  | .functionShutdownOverrun l f => Sys2Proof.Machine.execFunctionShutdownOverrun l f s
  | .quadTransition l port a b seen => Sys2Proof.Machine.execQuadTransition l port a b seen s
  | .doubleStep l port held mismatch => Sys2Proof.Machine.execDoubleStep l port held mismatch s
  | .indexPulse l edge => Sys2Proof.Machine.execIndexPulse l edge s
  | .hallState l port seen => Sys2Proof.Machine.execHallState l port seen s
  | .ssiTrigger l port => Sys2Proof.Machine.execSsiTrigger l port s
  | .ssiFrameEnd l port seen => Sys2Proof.Machine.execSsiFrameEnd l port seen s
  | .sentFrame l port pulses level mismatch => Sys2Proof.Machine.execSentFrame l port pulses level mismatch s
  | .ptTransitionEmit l pt => Sys2Proof.Machine.execPtTransitionEmit l pt s
  | .feedbackStale l port => Sys2Proof.Machine.execFeedbackStale l port s
  | .velocityTimeout l port => Sys2Proof.Machine.execVelocityTimeout l port s
  | .probeEdge l probe edge => Sys2Proof.Machine.execProbeEdge l probe edge s
  | .portBypassEnd l port => Sys2Proof.Machine.execPortBypassEnd l port s
  | .sequenceHold l sq => Sys2Proof.Machine.execSequenceHold l sq s
  | .conversionComplete l ain result => Sys2Proof.Machine.execConversionComplete l ain result s
  | .adcCalibration l core low high => Sys2Proof.Machine.execAdcCalibration l core low high s
  | .zeroCalMeasure l ain z => Sys2Proof.Machine.execZeroCalMeasure l ain z s
  | .carrierValley l c alignErr => Sys2Proof.Machine.execCarrierValley l c alignErr s
  | .desatTrip l leg low => Sys2Proof.Machine.execDesatTrip l leg low s
  | .coarseTrip l leg low => Sys2Proof.Machine.execCoarseTrip l leg low s
  | .interlockStuck l leg low => Sys2Proof.Machine.execInterlockStuck l leg low s
  | .gateStuckOff l leg low => Sys2Proof.Machine.execGateStuckOff l leg low s
  | .bsUv l leg => Sys2Proof.Machine.execBsUv l leg s
  | .forceSafe l die => Sys2Proof.Machine.execForceSafe l die s
  | .edgeLink l die => Sys2Proof.Machine.execEdgeLink l die s
  | .chopShorted l leg => Sys2Proof.Machine.execChopShorted l leg s
  | .ov3Release l => Sys2Proof.Machine.execOv3Release l s
  | .ov4Trip l die => Sys2Proof.Machine.execOv4Trip l die s
  | .vgdLoss l => Sys2Proof.Machine.execVgdLoss l s
  | .comparatorSelftestStep l leg low cmp aborted tripped => Sys2Proof.Machine.execComparatorSelftestStep l leg low cmp aborted tripped s
  | .scanStep l ch u v w => Sys2Proof.Machine.execScanStep l ch u v w s
  | .ptpSyncReceive l blue offset => Sys2Proof.Machine.execPtpSyncReceive l blue offset s
  | .gmLost l => Sys2Proof.Machine.execGmLost l s
  | .pdelayReq l port seq residence => Sys2Proof.Machine.execPdelayReq l port seq residence s
  | .timeComparison l => Sys2Proof.Machine.execTimeComparison l s
  | .timeCmpReceive l src t32 source stepReady locked ns sec => Sys2Proof.Machine.execTimeCmpReceive l src t32 source stepReady locked ns sec s
  | .holdoverExpired l => Sys2Proof.Machine.execHoldoverExpired l s
  | .timeStep l => Sys2Proof.Machine.execTimeStep l s
  | .compareUnit l c => Sys2Proof.Machine.execCompareUnit l c s
  | .timeCounter l => Sys2Proof.Machine.execTimeCounter l s
  | .ethFrameReceive l port frame => Sys2Proof.Machine.execEthFrameReceive l port frame s
  | .portLinkDown l port => Sys2Proof.Machine.execPortLinkDown l port s
  | .portDrainTimeout l port => Sys2Proof.Machine.execPortDrainTimeout l port s
  | .qbvGateEntry l port => Sys2Proof.Machine.execQbvGateEntry l port s
  | .bridgeAgeOut l blue mac => Sys2Proof.Machine.execBridgeAgeOut l blue mac s
  | .ywPoll l blue frame => Sys2Proof.Machine.execYwPoll l blue frame s
  | .ywAnswerSend l y => Sys2Proof.Machine.execYwAnswerSend l y s
  | .ywSkewExpired l y => Sys2Proof.Machine.execYwSkewExpired l y s
  | .ywRxReceive l src y single words => Sys2Proof.Machine.execYwRxReceive l src y single words s
  | .ywCommandApply l => Sys2Proof.Machine.execYwCommandApply l s
  | .netLost l blue => Sys2Proof.Machine.execNetLost l blue s
  | .ywKeyInit l blue y frame => Sys2Proof.Machine.execYwKeyInit l blue y frame s
  | .ywKeyReceive l src y sid keys => Sys2Proof.Machine.execYwKeyReceive l src y sid keys s
  | .ywKeyConfirm l blue y frame => Sys2Proof.Machine.execYwKeyConfirm l blue y frame s
  | .ywFleetFrame l blue frame => Sys2Proof.Machine.execYwFleetFrame l blue frame s
  | .fleetCopyReceive l src record => Sys2Proof.Machine.execFleetCopyReceive l src record s
  | .fleetStopApply l => Sys2Proof.Machine.execFleetStopApply l s
  | .fleetStopExpire l => Sys2Proof.Machine.execFleetStopExpire l s
  | .canFrameReceive l can f => Sys2Proof.Machine.execCanFrameReceive l can f s
  | .canTxObject l can obj => Sys2Proof.Machine.execCanTxObject l can obj s
  | .canBusOff l can => Sys2Proof.Machine.execCanBusOff l can s
  | .siLevelChange l si change => Sys2Proof.Machine.execSiLevelChange l si change s
  | .tpWindowStart l t => Sys2Proof.Machine.execTpWindowStart l t s
  | .tpWindowMidpoint l t => Sys2Proof.Machine.execTpWindowMidpoint l t s
  | .tpWindowEnd l t => Sys2Proof.Machine.execTpWindowEnd l t s
  | .tpFault l t => Sys2Proof.Machine.execTpFault l t s
  | .safetyXchgReceive l src words => Sys2Proof.Machine.execSafetyXchgReceive l src words s
  | .safetyInputsLost l peer => Sys2Proof.Machine.execSafetyInputsLost l peer s
  | .discrepancy l f pair => Sys2Proof.Machine.execDiscrepancy l f pair s
  | .syncExceeded l f => Sys2Proof.Machine.execSyncExceeded l f s
  | .sfPermitGrant l f => Sys2Proof.Machine.execSfPermitGrant l f s
  | .soTestStart l k => Sys2Proof.Machine.execSoTestStart l k s
  | .soTestEnd l k readbackOk => Sys2Proof.Machine.execSoTestEnd l k readbackOk s
  | .soTestRetry l k => Sys2Proof.Machine.execSoTestRetry l k s
  | .edmConfirm l k => Sys2Proof.Machine.execEdmConfirm l k s
  | .edmFault l k => Sys2Proof.Machine.execEdmFault l k s
  | .soOverload l k => Sys2Proof.Machine.execSoOverload l k s
  | .irqRaiseReceive l src group sources raiser => Sys2Proof.Machine.execIrqRaiseReceive l src group sources raiser s
  | .irqEntry l split => Sys2Proof.Machine.execIrqEntry l split s
  | .irqDeliverReceive l src group snap dseq => Sys2Proof.Machine.execIrqDeliverReceive l src group snap dseq s
  | .irqWriteReceive l src fast off value => Sys2Proof.Machine.execIrqWriteReceive l src fast off value s
  | .irqAckWrite l fast value => Sys2Proof.Machine.execIrqAckWrite l fast value s
  | .irqMaskWrite l fast k value => Sys2Proof.Machine.execIrqMaskWrite l fast k value s
  | .irqCauseWrite l fast k value => Sys2Proof.Machine.execIrqCauseWrite l fast k value s
  | .irqRaisedClear l fast k value => Sys2Proof.Machine.execIrqRaisedClear l fast k value s
  | .irqSwset l fast k value => Sys2Proof.Machine.execIrqSwset l fast k value s
  | .irqWriteRefusedClear l fast value => Sys2Proof.Machine.execIrqWriteRefusedClear l fast value s
  | .irqLeadingEnd l group => Sys2Proof.Machine.execIrqLeadingEnd l group s
  | .msixRelease l vec => Sys2Proof.Machine.execMsixRelease l vec s
  | .fltEventReceive l src entry total => Sys2Proof.Machine.execFltEventReceive l src entry total s
  | .fltSumReceive l src words => Sys2Proof.Machine.execFltSumReceive l src words s
  | .firstRead l b => Sys2Proof.Machine.execFirstRead l b s
  | .aliveToggle l => Sys2Proof.Machine.execAliveToggle l s
  | .aliveReadback l level => Sys2Proof.Machine.execAliveReadback l level s
  | .fullProofComplete l failStep links => Sys2Proof.Machine.execFullProofComplete l failStep links s
  | .onlineProofStart l cls => Sys2Proof.Machine.execOnlineProofStart l cls s
  | .onlineProofEnd l cls passed coverage duration => Sys2Proof.Machine.execOnlineProofEnd l cls passed coverage duration s
  | .proofOverdue l cls region => Sys2Proof.Machine.execProofOverdue l cls region s
  | .proofXchgReceive l src words => Sys2Proof.Machine.execProofXchgReceive l src words s
  | .oscXcheck l ppm0 ppm1 ppmK32 => Sys2Proof.Machine.execOscXcheck l ppm0 ppm1 ppmK32 s
  | .sessionTimeout l => Sys2Proof.Machine.execSessionTimeout l s
  | .secSyncReceive l src words => Sys2Proof.Machine.execSecSyncReceive l src words s
  | .lockoutEnd l => Sys2Proof.Machine.execLockoutEnd l s
  | .sramScrub l bank cycle => Sys2Proof.Machine.execSramScrub l bank cycle s
  | .nvmPageRead l block corrected ok => Sys2Proof.Machine.execNvmPageRead l block corrected ok s
  | .nvmRefresh l => Sys2Proof.Machine.execNvmRefresh l s
  | .nvmWear l => Sys2Proof.Machine.execNvmWear l s
  | .backgroundLag l a => Sys2Proof.Machine.execBackgroundLag l a s
  | .backgroundStarved l a => Sys2Proof.Machine.execBackgroundStarved l a s
  | .telemetrySample l logic gd0 gd1 vin vgd vio => Sys2Proof.Machine.execTelemetrySample l logic gd0 gd1 vin vgd vio s
  | .telemetrySave l => Sys2Proof.Machine.execTelemetrySave l s
  | .telemetryBatch l => Sys2Proof.Machine.execTelemetryBatch l s
  | .powerOn l => Sys2Proof.Machine.execPowerOn l s
  | .powerOff l => Sys2Proof.Machine.execPowerOff l s
  | .vinUv l => Sys2Proof.Machine.execVinUv l s
  | .vioUv l => Sys2Proof.Machine.execVioUv l s
  | .regFault l reg => Sys2Proof.Machine.execRegFault l reg s
  | .brownout l => Sys2Proof.Machine.execBrownout l s
  | .pinReset l => Sys2Proof.Machine.execPinReset l s
  | .supWdog l => Sys2Proof.Machine.execSupWdog l s
  | .tempWarn l => Sys2Proof.Machine.execTempWarn l s
  | .tempTrip l => Sys2Proof.Machine.execTempTrip l s
  | .xtalFail l => Sys2Proof.Machine.execXtalFail l s
  | .pllUnlock l island => Sys2Proof.Machine.execPllUnlock l island s
  | .holdEntry l => Sys2Proof.Machine.execHoldEntry l s
  | .sleepRequest l pin => Sys2Proof.Machine.execSleepRequest l pin s
  | .pwrSyncReceive l src ready => Sys2Proof.Machine.execPwrSyncReceive l src ready s
  | .napEntryComplete l => Sys2Proof.Machine.execNapEntryComplete l s
  | .wakeSource l src => Sys2Proof.Machine.execWakeSource l src s
  | .peerWake l peer => Sys2Proof.Machine.execPeerWake l peer s
  | .wakeComplete l ok => Sys2Proof.Machine.execWakeComplete l ok s
  | .hostBufferRead l read => Sys2Proof.Machine.execHostBufferRead l read s
  | .fwVerifyComplete l => Sys2Proof.Machine.execFwVerifyComplete l s
  | .holdToRun l => Sys2Proof.Machine.execHoldToRun l s
  | .sleepRequestWithdrawn l pin => Sys2Proof.Machine.execSleepRequestWithdrawn l pin s
  | .busOffRecovery l can => Sys2Proof.Machine.execBusOffRecovery l can s
  | .announceReceive l blue rank gmId => Sys2Proof.Machine.execAnnounceReceive l blue rank gmId s
  | .grandmasterSync l => Sys2Proof.Machine.execGrandmasterSync l s
  | .stepPulseEmit l g => Sys2Proof.Machine.execStepPulseEmit l g s

end Sys2Proof.Machine
end

