-- ==== Sys2Proof/Safety.lean ====
section
/-!
DEFINITION. What the statements call a sound state of the machine: the stores of every lane in their canonical form, and
the identity of every lane as manufactured; and the words the statements share.
-/

namespace Sys2Proof.Machine

open Sys2Proof

/-- The staging area is in canonical form: addresses rise strictly, no listed byte is the 0 an unlisted one reads as. -/
def stagingWf (m : List (Nat × Byte)) : Bool := Sparse.wf (fun _ => (0 : Byte)) m

/-- Lane `k` is sound: its register file and staging area are canonical, and its identity registers below 0x1000 read what
was written at manufacture (R398, R418). -/
structure LaneSt.Canon (k : LaneId) (l : LaneSt) : Prop where
  id : l.id = k
  regs : Sparse.wf (regReset k) l.regs = true
  staging : stagingWf l.staging = true
  ident : ∀ off, off < 0x1000 → l.word off = regReset k off

/-- Every lane of the state is sound. -/
def State.Canon (s : State) : Prop := ∀ k, LaneSt.Canon k (s.lane k)

/-! ## Words of the statements -/

/-- The lane answers BAR0 accesses: it is neither off nor in NAP (R441). -/
def LaneSt.answers (l : LaneSt) : Prop := l.pwr.off = false ∧ l.pwr.nap = false

/-- The descriptor `d`, which asks for `op`, stands first in the order of execution, `rest` behind it, and may be consumed
now (R34, R58, R59); in a lane that follows the members its instant has come (R109). -/
def LaneSt.firstReady (l : LaneSt) (d : Decided) (op : DescOp) (rest : List Decided) : Prop :=
  l.hif.exec = d :: rest ∧ d.verdict = .execute op ∧
    ((l.isMember = true ∧ l.mayConsume d = true) ∨ (l.isMember = false ∧ d.instant.all (· ≤ l.ns) = true))

/-- The lane after it has taken the descriptor `d` to execute it: counted consumed, its slot reserved, a copy sent to a lane
in readmission, a single copy counted (R58, R75, R109). -/
def LaneSt.takes (l : LaneSt) (d : Decided) (op : DescOp) (rest : List Decided) : LaneSt :=
  let l : LaneSt := { l with hif := { l.hif with exec := rest } }
  let l := if d.single then { l with folio := { l.folio with single := (l.folio.single + 1) % 2 ^ 32 } } else l
  (l.shareDesc d op).consume d

/-- The session step of a descriptor in this lane (R412): the lead decides it, a member follows the lead. -/
def LaneSt.sessionStep (l : LaneSt) (lead : Option (Option (Nat × Nat))) (d : Decided) : LaneSt × Option (Nat × Nat) :=
  if l.isLead then l.sessionLead d else l.sessionMember lead d

/-- The lane that a command is given to or happens in. -/
def laneOf : Instr → LaneId
  | .registerWrite l _ _ => l
  | .reg64LowRead l _ => l
  | .bar0BadRequest l => l
  | .quoin l _ => l
  | .hifEnable l _ => l
  | .macsecSakWrite l _ _ _ _ => l
  | .setupHashReceive l _ _ => l
  | .doorbellPoll l _ => l
  | .descFetch l => l
  | .descFetchComplete l _ => l
  | .descFpReceive l _ _ _ _ => l
  | .singleWaitExpired l _ _ => l
  | .hostLinkLost l => l
  | .perstReset l => l
  | .linkProbe l _ _ => l
  | .galleyCountsReceive l _ _ => l
  | .hostTimeout l => l
  | .completionWrite l => l
  | .nop l => l
  | .setpoint l => l
  | .limits l => l
  | .channelModeEnable l => l
  | .channelModeTune l => l
  | .channelModeDisable l => l
  | .configStage l => l
  | .configCommit l => l
  | .paramRead l => l
  | .autotune l => l
  | .diagComparatorSelftest l => l
  | .diagTestCurrentScan l => l
  | .diagSelftestTimeout l _ => l
  | .proofReq l => l
  | .fwStage l => l
  | .logRead l => l
  | .attest l => l
  | .fleetKey l => l
  | .safeResetChannel l => l
  | .safeResetSafetyFunction l => l
  | .safeResetLane l => l
  | .laneClear l => l
  | .hostReset l => l
  | .folioSnapshot l => l
  | .folioFpReceive l _ _ _ => l
  | .folioWrite l => l
  | .commitReadyCheck l => l
  | .commitRecordReceive l _ _ _ _ => l
  | .commitReadyDeadline l => l
  | .commitDecisionDeadline l => l
  | .commitEpoch l => l
  | .votingBoundary b => b.lane
  | .formationWindowExpired l => l
  | .cycleFrameReceive l _ _ _ => l
  | .frameRetransmit l => l
  | .voteCompute l => l
  | .proofResultReceive l _ _ _ => l
  | .linkLossReceive l _ _ => l
  | .attribReceive l _ => l
  | .attributionEnd l _ => l
  | .peerAliveStop l _ => l
  | .readmissionStart l => l
  | .proofWaitRecheck l => l
  | .readmitTimeAligned l => l
  | .bulkStaticState l _ _ => l
  | .bulkDynamicState l _ _ => l
  | .bulkDescriptorCopy l _ _ _ _ => l
  | .bulkHostBufferCopy l _ _ => l
  | .bulkMismatchCopy l _ _ _ _ => l
  | .bulkReportCopy l _ _ => l
  | .bulkTelemetryCopy l _ _ => l
  | .stateTransferComplete l => l
  | .shadowTimeout l => l
  | .controlledStopEnd l => l
  | .stopTmaxExpired l => l
  | .replan l _ => l
  | .planStep l _ => l
  | .timedEntryApply l _ => l
  | .profLatchEdge l _ _ => l
  | .limitSwitchEdge l _ _ => l
  | .limitSwitchRelease l _ _ => l
  | .homingRefEdge l _ => l
  | .homingIndex l _ => l
  | .homingNoEdge l _ => l
  | .homingNoIndex l _ => l
  | .timetableTick l _ => l
  | .slotIssue l _ _ => l
  | .pipeRotation l => l
  | .tuneEnd l _ => l
  | .tuneTimeout l _ => l
  | .obsReacqTimeout l _ => l
  | .reversalRelease l _ => l
  | .reversalStall l _ => l
  | .overspeed l _ => l
  | .startupContactorReady l _ => l
  | .bootstrapChargeDone l _ => l
  | .angleAcquisitionStart l _ => l
  | .alignHoldExpired l _ => l
  | .alignSearchExhausted l _ => l
  | .acquisitionEnd l _ => l
  | .channelStartupBoundary l _ => l
  | .channelStartupComplete l _ => l
  | .startTimeout l _ => l
  | .channelShutdownComplete l _ => l
  | .shutdownOverrun l _ => l
  | .functionShutdownComplete l _ => l
  | .functionShutdownOverrun l _ => l
  | .quadTransition l _ _ _ _ => l
  | .doubleStep l _ _ _ => l
  | .indexPulse l _ => l
  | .hallState l _ _ => l
  | .ssiTrigger l _ => l
  | .ssiFrameEnd l _ _ => l
  | .sentFrame l _ _ _ _ => l
  | .ptTransitionEmit l _ => l
  | .feedbackStale l _ => l
  | .velocityTimeout l _ => l
  | .probeEdge l _ _ => l
  | .portBypassEnd l _ => l
  | .sequenceHold l _ => l
  | .conversionComplete l _ _ => l
  | .adcCalibration l _ _ _ => l
  | .zeroCalMeasure l _ _ => l
  | .carrierValley l _ _ => l
  | .desatTrip l _ _ => l
  | .coarseTrip l _ _ => l
  | .interlockStuck l _ _ => l
  | .gateStuckOff l _ _ => l
  | .bsUv l _ => l
  | .forceSafe l _ => l
  | .edgeLink l _ => l
  | .chopShorted l _ => l
  | .ov3Release l => l
  | .ov4Trip l _ => l
  | .vgdLoss l => l
  | .comparatorSelftestStep l _ _ _ _ _ => l
  | .scanStep l _ _ _ _ => l
  | .ptpSyncReceive l _ _ => l
  | .gmLost l => l
  | .pdelayReq l _ _ _ => l
  | .timeComparison l => l
  | .timeCmpReceive l _ _ _ _ _ _ _ => l
  | .holdoverExpired l => l
  | .timeStep l => l
  | .compareUnit l _ => l
  | .timeCounter l => l
  | .ethFrameReceive l _ _ => l
  | .portLinkDown l _ => l
  | .portDrainTimeout l _ => l
  | .qbvGateEntry l _ => l
  | .bridgeAgeOut l _ _ => l
  | .ywPoll l _ _ => l
  | .ywAnswerSend l _ => l
  | .ywSkewExpired l _ => l
  | .ywRxReceive l _ _ _ _ => l
  | .ywCommandApply l => l
  | .netLost l _ => l
  | .ywKeyInit l _ _ _ => l
  | .ywKeyReceive l _ _ _ _ => l
  | .ywKeyConfirm l _ _ _ => l
  | .ywFleetFrame l _ _ => l
  | .fleetCopyReceive l _ _ => l
  | .fleetStopApply l => l
  | .fleetStopExpire l => l
  | .canFrameReceive l _ _ => l
  | .canTxObject l _ _ => l
  | .canBusOff l _ => l
  | .siLevelChange l _ _ => l
  | .tpWindowStart l _ => l
  | .tpWindowMidpoint l _ => l
  | .tpWindowEnd l _ => l
  | .tpFault l _ => l
  | .safetyXchgReceive l _ _ => l
  | .safetyInputsLost l _ => l
  | .discrepancy l _ _ => l
  | .syncExceeded l _ => l
  | .sfPermitGrant l _ => l
  | .soTestStart l _ => l
  | .soTestEnd l _ _ => l
  | .soTestRetry l _ => l
  | .edmConfirm l _ => l
  | .edmFault l _ => l
  | .soOverload l _ => l
  | .irqRaiseReceive l _ _ _ _ => l
  | .irqEntry l _ => l
  | .irqDeliverReceive l _ _ _ _ => l
  | .irqWriteReceive l _ _ _ _ => l
  | .irqAckWrite l _ _ => l
  | .irqMaskWrite l _ _ _ => l
  | .irqCauseWrite l _ _ _ => l
  | .irqRaisedClear l _ _ _ => l
  | .irqSwset l _ _ _ => l
  | .irqWriteRefusedClear l _ _ => l
  | .irqLeadingEnd l _ => l
  | .msixRelease l _ => l
  | .fltEventReceive l _ _ _ => l
  | .fltSumReceive l _ _ => l
  | .firstRead l _ => l
  | .aliveToggle l => l
  | .aliveReadback l _ => l
  | .fullProofComplete l _ _ => l
  | .onlineProofStart l _ => l
  | .onlineProofEnd l _ _ _ _ => l
  | .proofOverdue l _ _ => l
  | .proofXchgReceive l _ _ => l
  | .oscXcheck l _ _ _ => l
  | .sessionTimeout l => l
  | .secSyncReceive l _ _ => l
  | .lockoutEnd l => l
  | .sramScrub l _ _ => l
  | .nvmPageRead l _ _ _ => l
  | .nvmRefresh l => l
  | .nvmWear l => l
  | .backgroundLag l _ => l
  | .backgroundStarved l _ => l
  | .telemetrySample l _ _ _ _ _ _ => l
  | .telemetrySave l => l
  | .telemetryBatch l => l
  | .powerOn l => l
  | .powerOff l => l
  | .vinUv l => l
  | .vioUv l => l
  | .regFault l _ => l
  | .brownout l => l
  | .pinReset l => l
  | .supWdog l => l
  | .tempWarn l => l
  | .tempTrip l => l
  | .xtalFail l => l
  | .pllUnlock l _ => l
  | .holdEntry l => l
  | .sleepRequest l _ => l
  | .pwrSyncReceive l _ _ => l
  | .napEntryComplete l => l
  | .wakeSource l _ => l
  | .peerWake l _ => l
  | .wakeComplete l _ => l
  | .hostBufferRead l _ => l
  | .fwVerifyComplete l => l
  | .holdToRun l => l
  | .sleepRequestWithdrawn l _ => l
  | .busOffRecovery l _ => l
  | .announceReceive l _ _ _ => l
  | .grandmasterSync l => l
  | .stepPulseEmit l _ => l

/-- The commands that are no matter of one lane: test windows, ALIVE and wire events that every lane sees, bring-ups and
resets that lanes wait for together, reports and buffers that lanes settle together. -/
def deviceLevel : Instr → Bool
  | .scanStep _ _ _ _ _ => true
  | .completionWrite _ => true
  | .tuneEnd _ _ => true
  | .diagSelftestTimeout _ _ => true
  | .comparatorSelftestStep _ _ _ _ _ _ => true
  | .diagComparatorSelftest _ => true
  | .diagTestCurrentScan _ => true
  | .aliveToggle _ => true
  | .fullProofComplete _ _ _ => true
  | .bulkDynamicState _ _ _ => true
  | .safeResetLane _ => true
  | .laneClear _ => true
  | .fwVerifyComplete _ => true
  | .hostBufferRead _ _ => true
  | .bulkHostBufferCopy _ _ _ => true
  | .bulkReportCopy _ _ _ => true
  | .logRead _ => true
  | .attest _ => true
  | .tpWindowStart _ _ => true
  | .tpWindowEnd _ _ => true
  | .votingBoundary _ => true
  | .ywSkewExpired _ _ => true
  | .ywPoll _ _ _ => true
  | .ywFleetFrame _ _ _ => true
  | .ywKeyConfirm _ _ _ _ => true
  | _ => false

end Sys2Proof.Machine
end

