-- ==== Sys2Proof/WellFormed.lean ====
section
/-!
DEFINITION. Which commands are well formed: a BAR0 word lies in the window, a record or page has the length its layout
gives it, a sender is a peer, a frame's fields fit their width. A command that is not well formed is still total in the
machine; this says which ones the spec's hardware can bring.
-/

namespace Sys2Proof

/-- A word the host can address: of BAR0, of BAR2 from 0x10_0000 or of configuration space from 0x20_0000 (R7, R30, R35;
log entry 47). -/
def wellWord (off : Nat) : Bool := off % 4 == 0 && decide (off < 0x201000)

/-- A message record's payload: at most the 30 words that a message frame leaves beside its header and END (R92). -/
def wellRecord (words : List Dword) : Bool := decide (words.length ≤ 30)

/-- A bulk frame's payload: at most 29 words (R92). A host buffer, a report and the histograms come as the whole object
that several frames carry. -/
def wellBulk (bytes : List Byte) : Bool := decide (bytes.length ≤ 232)

/-- A doorbell page, when one was read: 256 bytes (R44). -/
def wellPage (page : List Byte) : Bool := page.length == 256

/-- The fields of a cycle frame fit their widths and name no reserved value (R91). -/
def CycleFrame.wellFormed (f : CycleFrame) : Bool :=
  decide (f.self ≤ 4) && decide (f.members < 8) && decide (f.exclReq < 8) && decide (f.mode < 4) &&
    decide (f.cycle < 2 ^ 32) && decide (f.time.1 < 2 ^ 32) && decide (f.time.2 < 2 ^ 48) &&
    decide (f.netUp < 16) && decide (f.degrade < 2 ^ 32) && decide (f.tvalid < 256) && decide (f.proofCh < 8) &&
    decide (f.ramp ≤ 1000) && decide (f.ack < 2 ^ 16)

/-- An Ethernet frame's residence time is a 32-bit count of ns; its packet number has 64 bits (R283, R299). -/
def EthFrame.wellFormed (f : EthFrame) : Bool :=
  decide (f.ptpEvent.getD 0 < 2 ^ 32) && (match f.macsec with | none => true | some (_, pn) => decide (pn < 2 ^ 64))

/-- A CAN frame carries at most 8 bytes as a classical, 64 as an FD and 2048 as an XL frame, and an 11-bit identifier
unless extended (R314). -/
def CanFrame.wellFormed (f : CanFrame) : Bool :=
  decide (f.data.length ≤ (match f.kind.val with | 0 => 8 | 1 => 64 | _ => 2048)) &&
    (f.ide || decide (f.id.toNat < 2 ^ 11))

/-- The commands that the hardware can be given. -/
def Instr.wellFormed : Instr → Bool
  | .registerWrite _ off _ => wellWord off
  | .reg64LowRead _ off => wellWord off
  | .setupHashReceive l src _ => src.lane != l
  | .doorbellPoll _ page => (match page with | none => true | some p => wellPage p)
  | .descFetchComplete _ read => (match read.bytes with | none => true | some b => b.length % 64 == 0 && decide (b.length ≤ 512))
  | .descFpReceive l src _ _ _ => src.lane != l
  | .linkProbe _ _ page => (match page with | none => true | some p => wellPage p)
  | .galleyCountsReceive l src counts => src.lane != l && counts.length == 16
  | .folioFpReceive l src _ _ => src.lane != l
  | .commitRecordReceive l src _ _ _ => src.lane != l
  | .cycleFrameReceive l sender frame tail => sender != l && frame.wellFormed && wellRecord tail.extra
  | .proofResultReceive l src _ _ => src.lane != l
  | .linkLossReceive l src lost => src.lane != l && lost != src.lane
  | .attribReceive l src => src.lane != l
  | .peerAliveStop l peer => peer != l
  | .bulkStaticState l src data => src.lane != l && wellBulk data
  | .bulkDynamicState l src _ => src.lane != l
  | .bulkDescriptorCopy l src _ _ copy => src.lane != l && copy.bytes.length == 64
  | .bulkHostBufferCopy l src bytes => src.lane != l && decide (bytes.length ≤ 4096)
  | .bulkMismatchCopy l src _ _ bytes => src.lane != l && bytes.length == 64
  | .bulkReportCopy l src _ => src.lane != l
  | .bulkTelemetryCopy l src _ => src.lane != l
  | .sentFrame _ _ pulses _ _ => decide (pulses.length ≤ 10)
  | .pdelayReq _ _ _ residence => decide (residence < 2 ^ 32)
  | .timeCmpReceive l src _ _ _ _ _ _ => src.lane != l
  | .ethFrameReceive _ _ frame => frame.wellFormed
  | .ywRxReceive l src _ _ words => src.lane != l && wellRecord words
  | .ywKeyReceive l src _ _ keys => src.lane != l && keys.length == 4
  | .fleetCopyReceive l src record => src.lane != l && record.length == 112
  | .canFrameReceive _ _ f => f.wellFormed
  | .safetyXchgReceive l src words => src.lane != l && wellRecord words
  | .safetyInputsLost l peer => peer != l
  | .irqRaiseReceive l src _ _ _ => src.lane != l
  | .irqDeliverReceive l src _ _ _ => src.lane != l
  | .irqWriteReceive l src _ off _ => src.lane != l && off.val % 4 == 0
  | .fltEventReceive l src _ _ => src.lane != l
  | .fltSumReceive l src words => src.lane != l && wellRecord words
  | .proofXchgReceive l src words => src.lane != l && wellRecord words
  | .secSyncReceive l src words => src.lane != l && wellRecord words
  | .pwrSyncReceive l src _ => src.lane != l
  | .peerWake l peer => peer != l
  | .announceReceive _ _ rank _ => decide (rank < 2 ^ 48)
  | .bar0BadRequest _ => true
  | .quoin _ _ => true
  | .hifEnable _ _ => true
  | .macsecSakWrite _ _ _ _ _ => true
  | .descFetch _ => true
  | .singleWaitExpired _ _ _ => true
  | .hostLinkLost _ => true
  | .perstReset _ => true
  | .hostTimeout _ => true
  | .completionWrite _ => true
  | .nop _ => true
  | .setpoint _ => true
  | .limits _ => true
  | .channelModeEnable _ => true
  | .channelModeTune _ => true
  | .channelModeDisable _ => true
  | .configStage _ => true
  | .configCommit _ => true
  | .paramRead _ => true
  | .autotune _ => true
  | .diagComparatorSelftest _ => true
  | .diagTestCurrentScan _ => true
  | .diagSelftestTimeout _ _ => true
  | .proofReq _ => true
  | .fwStage _ => true
  | .logRead _ => true
  | .attest _ => true
  | .fleetKey _ => true
  | .safeResetChannel _ => true
  | .safeResetSafetyFunction _ => true
  | .safeResetLane _ => true
  | .laneClear _ => true
  | .hostReset _ => true
  | .folioSnapshot _ => true
  | .folioWrite _ => true
  | .commitReadyCheck _ => true
  | .commitReadyDeadline _ => true
  | .commitDecisionDeadline _ => true
  | .commitEpoch _ => true
  | .votingBoundary _ => true
  | .formationWindowExpired _ => true
  | .frameRetransmit _ => true
  | .voteCompute _ => true
  | .attributionEnd _ _ => true
  | .readmissionStart _ => true
  | .proofWaitRecheck _ => true
  | .readmitTimeAligned _ => true
  | .stateTransferComplete _ => true
  | .shadowTimeout _ => true
  | .controlledStopEnd _ => true
  | .stopTmaxExpired _ => true
  | .replan _ _ => true
  | .planStep _ _ => true
  | .timedEntryApply _ _ => true
  | .profLatchEdge _ _ _ => true
  | .limitSwitchEdge _ _ _ => true
  | .limitSwitchRelease _ _ _ => true
  | .homingRefEdge _ _ => true
  | .homingIndex _ _ => true
  | .homingNoEdge _ _ => true
  | .homingNoIndex _ _ => true
  | .timetableTick _ _ => true
  | .slotIssue _ _ _ => true
  | .pipeRotation _ => true
  | .tuneEnd _ _ => true
  | .tuneTimeout _ _ => true
  | .obsReacqTimeout _ _ => true
  | .reversalRelease _ _ => true
  | .reversalStall _ _ => true
  | .overspeed _ _ => true
  | .startupContactorReady _ _ => true
  | .bootstrapChargeDone _ _ => true
  | .angleAcquisitionStart _ _ => true
  | .alignHoldExpired _ _ => true
  | .alignSearchExhausted _ _ => true
  | .acquisitionEnd _ _ => true
  | .channelStartupBoundary _ _ => true
  | .channelStartupComplete _ _ => true
  | .startTimeout _ _ => true
  | .channelShutdownComplete _ _ => true
  | .shutdownOverrun _ _ => true
  | .functionShutdownComplete _ _ => true
  | .functionShutdownOverrun _ _ => true
  | .quadTransition _ _ _ _ _ => true
  | .doubleStep _ _ _ _ => true
  | .indexPulse _ _ => true
  | .hallState _ _ _ => true
  | .ssiTrigger _ _ => true
  | .ssiFrameEnd _ _ _ => true
  | .ptTransitionEmit _ _ => true
  | .feedbackStale _ _ => true
  | .velocityTimeout _ _ => true
  | .probeEdge _ _ _ => true
  | .portBypassEnd _ _ => true
  | .sequenceHold _ _ => true
  | .conversionComplete _ _ _ => true
  | .adcCalibration _ _ _ _ => true
  | .zeroCalMeasure _ _ _ => true
  | .carrierValley _ _ _ => true
  | .desatTrip _ _ _ => true
  | .coarseTrip _ _ _ => true
  | .interlockStuck _ _ _ => true
  | .gateStuckOff _ _ _ => true
  | .bsUv _ _ => true
  | .forceSafe _ _ => true
  | .edgeLink _ _ => true
  | .chopShorted _ _ => true
  | .ov3Release _ => true
  | .ov4Trip _ _ => true
  | .vgdLoss _ => true
  | .comparatorSelftestStep _ _ _ _ _ _ => true
  | .scanStep _ _ _ _ _ => true
  | .ptpSyncReceive _ _ _ => true
  | .gmLost _ => true
  | .timeComparison _ => true
  | .holdoverExpired _ => true
  | .timeStep _ => true
  | .compareUnit _ _ => true
  | .timeCounter _ => true
  | .portLinkDown _ _ => true
  | .portDrainTimeout _ _ => true
  | .qbvGateEntry _ _ => true
  | .bridgeAgeOut _ _ _ => true
  | .ywPoll _ _ _ => true
  | .ywAnswerSend _ _ => true
  | .ywSkewExpired _ _ => true
  | .ywCommandApply _ => true
  | .netLost _ _ => true
  | .ywKeyInit _ _ _ _ => true
  | .ywKeyConfirm _ _ _ _ => true
  | .ywFleetFrame _ _ _ => true
  | .fleetStopApply _ => true
  | .fleetStopExpire _ => true
  | .canTxObject _ _ _ => true
  | .canBusOff _ _ => true
  | .siLevelChange _ _ _ => true
  | .tpWindowStart _ _ => true
  | .tpWindowMidpoint _ _ => true
  | .tpWindowEnd _ _ => true
  | .tpFault _ _ => true
  | .discrepancy _ _ _ => true
  | .syncExceeded _ _ => true
  | .sfPermitGrant _ _ => true
  | .soTestStart _ _ => true
  | .soTestEnd _ _ _ => true
  | .soTestRetry _ _ => true
  | .edmConfirm _ _ => true
  | .edmFault _ _ => true
  | .soOverload _ _ => true
  | .irqEntry _ _ => true
  | .irqAckWrite _ _ _ => true
  | .irqMaskWrite _ _ _ _ => true
  | .irqCauseWrite _ _ _ _ => true
  | .irqRaisedClear _ _ _ _ => true
  | .irqSwset _ _ _ _ => true
  | .irqWriteRefusedClear _ _ _ => true
  | .irqLeadingEnd _ _ => true
  | .msixRelease _ _ => true
  | .firstRead _ _ => true
  | .aliveToggle _ => true
  | .aliveReadback _ _ => true
  | .fullProofComplete _ _ _ => true
  | .onlineProofStart _ _ => true
  | .onlineProofEnd _ _ _ _ _ => true
  | .proofOverdue _ _ _ => true
  | .oscXcheck _ _ _ _ => true
  | .sessionTimeout _ => true
  | .lockoutEnd _ => true
  | .sramScrub _ _ _ => true
  | .nvmPageRead _ _ _ _ => true
  | .nvmRefresh _ => true
  | .nvmWear _ => true
  | .backgroundLag _ _ => true
  | .backgroundStarved _ _ => true
  | .telemetrySample _ _ _ _ _ _ _ => true
  | .telemetrySave _ => true
  | .telemetryBatch _ => true
  | .powerOn _ => true
  | .powerOff _ => true
  | .vinUv _ => true
  | .vioUv _ => true
  | .regFault _ _ => true
  | .brownout _ => true
  | .pinReset _ => true
  | .supWdog _ => true
  | .tempWarn _ => true
  | .tempTrip _ => true
  | .xtalFail _ => true
  | .pllUnlock _ _ => true
  | .holdEntry _ => true
  | .sleepRequest _ _ => true
  | .napEntryComplete _ => true
  | .wakeSource _ _ => true
  | .wakeComplete _ _ => true
  | .hostBufferRead _ _ => true
  | .fwVerifyComplete _ => true
  | .holdToRun _ => true
  | .sleepRequestWithdrawn _ _ => true
  | .busOffRecovery _ _ => true
  | .grandmasterSync _ => true
  | .stepPulseEmit _ _ => true

end Sys2Proof
end

