-- ==== Sys2Proof/Certificates/Slice0/Obligations.lean ====
section
/-!
DEFINITION. The statements for the provers. A statement that a command completes gives the whole next state: the lane it
changes and to what, everything else of the machine being as before.
-/

open Sys2Proof Sys2Proof.Machine

/-! ## The machine as a whole -/

/-- Every step keeps every lane sound. If every lane is sound (its register file and its staging area are in canonical
form, it knows its own letter, and its identity registers below 0x1000 read as written at manufacture) and a step
answers a next state, then every lane of that state is sound, whatever the command and its operands. The canonical
form is the model's own (log entry 2). (R7, R8, R398, R418, 01 Register access, 98 Glossary) -/
def Obligations.EveryStepKeepsLanesSound : Prop :=
  ∀ s t : State, State.Canon s → step s = .next t → State.Canon t

/-- The machine after reset is sound and at the values the manual gives. The state after reset has no waiting command,
and every lane is sound (the invariant that every step keeps), in BOOT after a POWER_ON reset, FORMING, a member of
nothing, not sealed, with host queues off, every channel DISABLED, every bridge off, every safety output off, no
latched word, nothing counted in any fault history, and its letter in ID.PART.LANE. The values the manual leaves open
are the model's (log entry 2) and are not stated. (R398, R418, R367, R438, R441, 98 Glossary) -/
def Obligations.ResetLanesAreSound : Prop :=
  State.Canon State.reset ∧ State.reset.pending = [] ∧
  ∀ l : LaneId, let x := State.reset.lane l
    x.rd PWR.STATUS.STATE = 0 ∧ x.rd PWR.RESET_CAUSE.CAUSE = 0 ∧ x.self = selfForming ∧ x.members = 0 ∧
    x.rd HIF.STATUS.SEALED = 0 ∧ x.rd HIF.CTRL.EN = 0 ∧ x.rd SIO.SO_STATUS.ON = 0 ∧ x.hif.latched = [] ∧
    (∀ n, n < 8 → x.chState n = chDisabled ∧ x.rd (COMM.STATUS.WSTATE n) = 0) ∧
    (∀ b, b < 24 → x.rd (FLT.TOTAL.COUNT b) = 0) ∧ x.rd ID.PART.LANE = l.num

/-- A step runs the command at the front of the queue. For every command c, every rest of the queue and every state
whose queue is c followed by that rest, step answers what exec of c answers on the state whose queue is the rest. With
an empty queue step answers the state one clock of lane time later (the model's choice, log entry 9). (95 Table of
operations and events) -/
def Obligations.StepRunsTheFrontCommand : Prop :=
  (∀ (s : State) (c : Instr) (cs : List Instr), s.pending = c :: cs → step s = exec c { s with pending := cs }) ∧
  (∀ s : State, s.pending = [] → step s = .next s.tick)

/-- No command stops the machine or touches the queue. Every command, on every state and with every operand, answers a
next state (never a fault or a refusal), and that state's queue of waiting commands is the one before. (95 Table of
operations and events) -/
def Obligations.EveryCommandRunsAndKeepsTheQueue : Prop :=
  ∀ (c : Instr) (s : State), ∃ t, exec c s = .next t ∧ t.pending = s.pending

/-! ## Host link, galleys and descriptors (chapter 02) -/

/-- After the quoin only the two interrupt banks accept writes. In a sealed lane a 32-bit host write to any BAR0 word
outside the runtime words of the two IRQ banks (0x4000 to 0x43FF and 0x4800 to 0x4BFF), a write of HIF.CTRL, a second
write of the seal key and a write of a MACsec key word write nothing. The next state is the state before, but for the
corrected HIF fault that two writes still raise: 0x003 for a register that HIF.CTRL.EN = 1 locks, 0x004 for a value at
the quoin that is not the key. (R31) -/
def Obligations.SealedLaneDiscardsWrites : Prop :=
  ∀ (s : State) (l : LaneId) (v : Word), (s.lane l).answers → (s.lane l).sealed = true →
    (∀ off, off % 4 = 0 → off < 0x100000 → off ≠ 0x300C → off < 0x4000 ∨ 0x5000 ≤ off ∨ 0x400 ≤ off % 0x800 →
      ((s.lane l).on HIF.CTRL.EN = false ∨ lockedByEn off = false ∨ regRow off = none →
        exec (.registerWrite l off v) s = .next s) ∧
      ((s.lane l).on HIF.CTRL.EN = true → lockedByEn off = true → regRow off ≠ none →
        exec (.registerWrite l off v) s = .next (s.setLane l ((s.lane l).fault 0x003 0)))) ∧
    exec (.hifEnable l v) s = .next s ∧
    (v = 0x5EA10316 → exec (.quoin l v) s = .next s ∧ exec (.registerWrite l 0x300C v) s = .next s) ∧
    (v ≠ 0x5EA10316 → exec (.quoin l v) s = .next (s.setLane l ((s.lane l).fault 0x004 0)) ∧
      exec (.registerWrite l 0x300C v) s = .next (s.setLane l ((s.lane l).fault 0x004 0))) ∧
    (∀ net port n, exec (.macsecSakWrite l net port n v) s = .next s)

/-- A register write sets the writable bits of its word and nothing else. Before the quoin, with the lane answering, a
32-bit host write to a BAR0 word that has a row in the register map, is none of HIF.CTRL, the quoin and the MACsec key
words (which have commands of their own), is no runtime word of an IRQ bank and is not locked by HIF.CTRL.EN, takes
the written value in the word's RWS bits and keeps every other bit (reserved bits and read-only bits among them);
every other word of the lane reads as before and nothing but the register file changes, in this lane or another. A
write to a word locked by EN changes no word by itself: its whole effect is the corrected HIF fault 0x003. A write to
a word without a row changes nothing. (R8, R31, R63, 01 Register access) -/
def Obligations.RegisterWriteSetsWritableBits : Prop :=
  ∀ (s : State) (l : LaneId) (off : Nat) (v : Word), State.Canon s → (s.lane l).answers → (s.lane l).sealed = false →
    off % 4 = 0 → off < 0x100000 → off ≠ 0x3000 → off ≠ 0x300C → sakWordAt off = none → (off < 0x4000 ∨ 0x5000 ≤ off ∨ 0x400 ≤ off % 0x800) →
    (∀ r, regRow off = some r → ((s.lane l).on HIF.CTRL.EN = false ∨ lockedByEn off = false) →
      ∃ t, exec (.registerWrite l off v) s = .next t ∧
        (t.lane l).word off = ((s.lane l).word off &&& ~~~(BitVec.ofNat 32 r.rws)) ||| (v &&& BitVec.ofNat 32 r.rws) ∧
        (∀ o, o ≠ off → (t.lane l).word o = (s.lane l).word o) ∧
        t = s.setLane l { s.lane l with regs := (t.lane l).regs }) ∧
    (∀ r, regRow off = some r → (s.lane l).on HIF.CTRL.EN = true → lockedByEn off = true →
      exec (.registerWrite l off v) s = .next (s.setLane l ((s.lane l).fault 0x003 0))) ∧
    (regRow off = none → exec (.registerWrite l off v) s = .next s)

/-- Setting HIF.CTRL.EN clears every galley counter. In an unsealed, answering lane with HIF.CTRL.EN = 0, a write of
HIF.CTRL with bit 0 set leaves EN = 1 and POLL as written, every SG_CONSUMED and CG_WRITTEN count 0, nothing fetched,
open, staged or waiting, and POLL_EFF and POLL_CLAMPED as R44 says; the fetch and reservation counts start at 0 too.
Registers outside HIF.CTRL, HIF.STATUS and the galley counters keep their words; other lanes are untouched. (R62, R44,
02 HIF.CTRL) -/
def Obligations.HifEnableClearsGalleyCounters : Prop :=
  ∀ (s : State) (l : LaneId) (v : Word), State.Canon s → (s.lane l).answers → (s.lane l).sealed = false →
    (s.lane l).on HIF.CTRL.EN = false → v.toNat % 2 = 1 →
    ∃ x, exec (.hifEnable l v) s = .next (s.setLane l x) ∧ x.rd HIF.CTRL.EN = 1 ∧
      x.rd HIF.CTRL.POLL = v.toNat / 2 % 2 ^ 7 ∧
      x.rd HIF.STATUS.POLL_EFF = max (v.toNat / 2 % 2 ^ 7) (minPoll (s.lane l).hif.link) ∧
      x.rd HIF.STATUS.POLL_CLAMPED = b2n (decide (v.toNat / 2 % 2 ^ 7 < minPoll (s.lane l).hif.link)) ∧
      (∀ n, n < 16 → x.rd (HIF.SG_CONSUMED.COUNT n) = 0 ∧ x.rd (HIF.CG_WRITTEN.COUNT n) = 0) ∧
      (∀ off, off ≠ 0x3000 → off ≠ 0x3004 → off < 0x3300 ∨ 0x3380 ≤ off → x.word off = (s.lane l).word off) ∧
      x.hif.fetched = Vector.replicate 16 0 ∧ x.hif.cgReserved = Vector.replicate 16 0 ∧
      x.hif.staged = [] ∧ x.hif.exec = [] ∧ x.hif.openD = [] ∧ x.hif.reads = []

/-- Reads, refused requests and losses of the host link complete. A 32-bit read of BAR0 answers the word that an
earlier low-word read latched, and the live word without one; it ends the latch of its own word. Where the word is the
low word of a 64-bit register, the read latches the live high word in place of an older latch of it, and of NOW both
higher words. A read or another request that R30 does not accept is answered with Unsupported Request (no value),
writes nothing and records the HIF fault 0x005. With the host link up, its loss clears LINK_UP, shows HOST in DEGRADE,
drops the reads in flight and records fault 0x007; a reset of the HOST island does the same and puts configuration
space, MSI-X table, MSI-X enables and held messages and the latched words to their reset values (those of
configuration space are the model's, log entry 6). An expired host timeout, not yet shown, sets HOST_SILENT, raises
the interrupt source 6 of group 2 and asks for the stop with cause HOST_SILENT (5) unless one is asked for. A read of
a first-error latch in an answering lane with COMPAT = 1 clears VALID and OVERFLOW and holds FIRST_NS for its read;
with COMPAT = 0 it has no effect. Nothing else of the machine changes. (R7, R30, R39, R46, R38) -/
def Obligations.HostLinkEventsComplete : Prop :=
  (∀ (s : State) (l : LaneId) (off : Nat), (s.lane l).answers → off % 4 = 0 → off < 0x100000 →
    let x := s.lane l
    let a := some ((x.hif.latched.find? (fun y => y.1 = off)).elim (x.regRead off) (·.2))
    let keep := x.hif.latched.filter (fun y => y.1 ≠ off)
    let now := [(0x902C, x.regRead 0x902C), (0x9030, x.regRead 0x9030)]
    exec (.reg64LowRead l off) s = .next (s.setLane l { x with hif := { x.hif with
      answer := a
      latched :=
        if isReg64 off = false then keep
        else if off = 0x9028 then now ++ keep.filter (fun y => y.1 ≠ 0x902C ∧ y.1 ≠ 0x9030)
        else (off + 4, x.regRead (off + 4)) :: keep.filter (fun y => y.1 ≠ off + 4) } })) ∧
  (∀ (s : State) (l : LaneId), (s.lane l).answers →
    let x := (s.lane l).fault 0x005 0
    let y : LaneSt := { x with hif := { x.hif with answer := none } }
    exec (.bar0BadRequest l) s = .next (s.setLane l y) ∧
    (∀ off, off % 4 ≠ 0 → exec (.reg64LowRead l off) s = .next (s.setLane l y)) ∧
    (∀ off v, off % 4 ≠ 0 → exec (.registerWrite l off v) s = .next (s.setLane l y))) ∧
  (∀ (s : State) (l : LaneId), (s.lane l).on HIF.STATUS.LINK_UP = true →
    let x := ((s.lane l).wr HIF.STATUS.LINK_UP 0).setBlk (s.lane l).id (fun b => { b with degrade := setBit b.degrade 2 true })
    let y := ({ x with hif := { x.hif with reads := [], dmaFails := 0 } } : LaneSt).fault 0x007 0
    exec (.hostLinkLost l) s = .next (s.setLane l y) ∧
    exec (.perstReset l) s = .next (s.setLane l { y with hif := { y.hif with
      msixAllowed := 0, msixPending := 0, latched := [], pci := .reset, msixTable := Vector.replicate 64 (0, 0, 1) } })) ∧
  (∀ (s : State) (l : LaneId), (s.lane l).on HIF.STATUS.HOST_SILENT = false →
    let x := ((s.lane l).wr HIF.STATUS.HOST_SILENT 1).raise 2 6
    exec (.hostTimeout l) s = .next (s.setLane l
      { x with vote := { x.vote with causes := setBit x.vote.causes 5 true,
                                     stopReq := if x.vote.stopReq = 0 then 5 else x.vote.stopReq } })) ∧
  (∀ (s : State) (l : LaneId) (b : Fin 24), (s.lane l).answers →
    let x := s.lane l
    let y := (x.wr (FLT.FIRST.VALID b) 0).wr (FLT.FIRST.OVERFLOW b) 0
    (x.on FLT.CTRL.COMPAT = true → exec (.firstRead l b) s = .next (s.setLane l { y with flt := { y.flt with
      firstNs := (b.val, x.rd (FLT.FIRST_NS.NS b)) :: y.flt.firstNs.filter (fun q => q.1 ≠ b.val) } })) ∧
    (x.on FLT.CTRL.COMPAT = false → exec (.firstRead l b) s = .next (s.setLane l x)))

/-- Doorbell polls, probes, fetches and the lead's counts complete. With EN = 1, the link up and the lane not in
NAP_ENTRY, a poll takes the whole page, and a poll whose read fails counts towards the loss of the link at the second
failure in a row. While the link is lost, Bus Master Enable set and the function in D0, a probe that completes sets
LINK_UP, clears HOST in DEGRADE, takes the trained link, waits for the lead's counts unless this lane leads or none
does, and with EN = 1 takes the page as its first poll; a probe that fails changes nothing. A fetch is one read of at
most 8 contiguous descriptors of the galley the round robin serves, at most what may still be fetched in its round and
up to the galley's end. GALLEY_COUNTS of the lead are kept; a lane that waits for them takes those that are ahead of
its own, drops what they count as consumed and fetches from there. A peer's SETUP_HASH is kept and, once sealed,
SETUP_DIFFERS shows whether a member's known hash differs from this lane's. All of it as the lane accepts the arrival.
(R40, R44, R57, R59, R65) -/
def Obligations.DoorbellsAndFetchesComplete : Prop :=
  (∀ (s : State) (l : LaneId), (s.lane l).on HIF.CTRL.EN = true → (s.lane l).on HIF.STATUS.LINK_UP = true →
    (s.lane l).rd PWR.STATUS.STATE ≠ 3 →
    let x : LaneSt := { s.lane l with hif := { (s.lane l).hif with dmaFails := (s.lane l).hif.dmaFails + 1 } }
    (∀ page, exec (.doorbellPoll l (some page)) s = .next (s.setLane l ((s.lane l).takePage page))) ∧
    exec (.doorbellPoll l none) s = .next (s.setLane l (if 2 ≤ x.hif.dmaFails then x.linkLost else x))) ∧
  (∀ (s : State) (l : LaneId) (trained : Fin 4), exec (.linkProbe l trained none) s = .next s) ∧
  (∀ (s : State) (l : LaneId) (trained : Fin 4) (page : List Byte), (s.lane l).on HIF.STATUS.LINK_UP = false →
    bit (s.lane l).hif.pci.command 2 = true → (s.lane l).hif.pci.d3 = false →
    let x := ((s.lane l).wr HIF.STATUS.LINK_UP 1).setBlk (s.lane l).id (fun b => { b with degrade := setBit b.degrade 2 false })
    let y : LaneSt := { x with hif := { x.hif with
      link := trained.val, dmaFails := 0,
      awaitCounts := decide (x.vote.lead ≠ none ∧ x.vote.lead ≠ some x.id),
      fetched := Vector.ofFn (fun n : Fin 16 => x.rd (HIF.SG_CONSUMED.COUNT n.val)) } }
    exec (.linkProbe l trained (some page)) s = .next (s.setLane l
      (if y.setPoll.on HIF.CTRL.EN then y.setPoll.takePage page else y.setPoll))) ∧
  (∀ (s : State) (l : LaneId) (n left : Nat), (s.lane l).nextGalley = some (n, left) →
    let x := s.lane l
    let start := x.hif.fetched.getD n 0
    let k := min (min 8 left) (min (x.fetchable n) (x.sgSize n - start % x.sgSize n))
    exec (.descFetch l) s = .next (s.setLane l { x with hif := { x.hif with
      reads := x.hif.reads ++ [(n, start, k)],
      fetched := x.hif.fetched.setIfInBounds n ((start + k) % 2 ^ 32), rr := (n, left - k) } })) ∧
  (∀ (s : State) (l : LaneId) (src : Arrival) (counts : List Dword), (s.lane l).accepts src = true →
    (s.lane l).vote.lead = some src.lane →
    let x := (s.lane l).heard src 1
    let y : LaneSt := { x with hif := { x.hif with
      peerWritten := Vector.ofFn (fun n : Fin 16 => (counts.getD n.val 0).toNat / 2 ^ 32) } }
    let z := (List.range 16).foldl (fun z n =>
      (z.wr (HIF.SG_CONSUMED.COUNT n) (later32 ((counts.getD n 0).toNat % 2 ^ 32) (z.rd (HIF.SG_CONSUMED.COUNT n)))).wr
        (HIF.CG_WRITTEN.COUNT n) (later32 ((counts.getD n 0).toNat / 2 ^ 32) (z.rd (HIF.CG_WRITTEN.COUNT n)))) y
    ((s.lane l).hif.awaitCounts = false → exec (.galleyCountsReceive l src counts) s = .next (s.setLane l y)) ∧
    ((s.lane l).hif.awaitCounts = true → exec (.galleyCountsReceive l src counts) s = .next (s.setLane l
      { z with hif := { z.hif with
        awaitCounts := false
        exec := z.hif.exec.filter (fun d => decide (diff32 d.seq (z.rd (HIF.SG_CONSUMED.COUNT d.sg)) < 2 ^ 31))
        fetched := Vector.ofFn (fun n : Fin 16 => z.rd (HIF.SG_CONSUMED.COUNT n.val)) } }))) ∧
  (∀ (s : State) (l : LaneId) (src : Arrival) (hash : BitVec 512), (s.lane l).accepts src = true →
    let x := ((s.lane l).heard src 1).setPeer src.lane (fun v => { v with setupHash := some hash.toNat })
    (x.sealed = false → exec (.setupHashReceive l src hash) s = .next (s.setLane l x)) ∧
    (x.sealed = true → exec (.setupHashReceive l src hash) s = .next (s.setLane l (x.wrB HIF.STATUS.SETUP_DIFFERS
      (x.memberPeers.any (fun p => match (x.peer p).setupHash with
        | some h => h != x.setupHash
        | none => false))))))

/-- Descriptor reads and their agreement complete. The end of the oldest read carries each of its descriptors over the
island crossing in order, 64 bytes each, and joins each copy that arrives whole to the copies held; a read that fails
counts every one of its descriptors as not fetched, tells the peers so and counts towards the loss of the link. A copy
that has come sends its fingerprint to the peers; one of a descriptor not yet decided joins the copies held and the
table of R78 is applied; while full copies are exchanged it joins the exchange; after the decision it is compared with
the agreed fingerprint, and one that differs counts in ODD_FETCH and records fault 0x006 (a lane still without the
agreed bytes takes them from an equal copy: the model's reading, log entry 49). A peer's fingerprint or failure joins
the copies the same way. When SINGLE_WAIT has expired the decision is made on the copies held. A full copy of a peer
completes a MISMATCH once all copies are there. (R77, R78, R79, R80, R81, R82) -/
def Obligations.DescriptorAgreementCompletes : Prop :=
  (∀ (s : State) (l : LaneId) (flips : List (BitVec 72)) (sg first k : Nat) (rest : List (Nat × Nat × Nat)),
    (s.lane l).hif.reads = (sg, first, k) :: rest →
    let x : LaneSt := { s.lane l with hif := { (s.lane l).hif with reads := rest } }
    let f := (List.range k).foldl (fun l i => l.copyFailed sg ((first + i) % 2 ^ 32)) x
    let y : LaneSt := { f with hif := { f.hif with dmaFails := f.hif.dmaFails + 1 } }
    exec (.descFetchComplete l ⟨none, flips⟩) s = .next (s.setLane l (if 2 ≤ y.hif.dmaFails then y.linkLost else y)) ∧
    ∀ bytes, exec (.descFetchComplete l ⟨some bytes, flips⟩) s = .next (s.setLane l
      ((List.range k).foldl (fun l i =>
        let r := l.crossBytes 0 (sliceBytes bytes (64 * i) 64) (flips.drop (8 * i))
        match r.2 with
        | some b => r.1.copyFetched sg ((first + i) % 2 ^ 32) b
        | none => r.1.copyFailed sg ((first + i) % 2 ^ 32)) { x with hif := { x.hif with dmaFails := 0 } }))) ∧
  (∀ (x : LaneSt) (b : List Byte) (sg seq : Nat),
    let y := x.send 0x01 (sg + 2 ^ 16 * seq) [descFp sg b]
    let h := x.copiesOf sg seq
    let c := { h with fps := h.fps.set x.id.fin (some (descFp sg b)) }
    let full := { c with own := some b, full := c.full.set x.id.fin (some b) }
    (h.agreed = none → h.wantMismatch = false → x.copyFetched sg seq b =
      (y.putCopies { c with own := some b }).decideOn { c with own := some b } false) ∧
    (h.agreed = none → h.wantMismatch = true → x.copyFetched sg seq b =
      ((y.putCopies full).send 0x105 (sg + 2 ^ 16 * seq) (descWords b)).finishMismatch full) ∧
    (h.agreed = some (descFp sg b) → h.wantCopy = none → x.copyFetched sg seq b = y.putCopies c) ∧
    (∀ w, h.agreed = some (descFp sg b) → h.wantCopy = some w → x.copyFetched sg seq b =
      (y.putCopies { c with own := some b, wantCopy := none }).pushDecided (decidedAs sg seq b w)) ∧
    (∀ f, h.agreed = some f → f ≠ descFp sg b → x.copyFetched sg seq b =
      ((y.putCopies c).oddFetch x.id).fault 0x006 sg)) ∧
  (∀ (x : LaneSt) (sg seq : Nat),
    let c := { x.copiesOf sg seq with failed := setBit (x.copiesOf sg seq).failed x.id.num true }
    let y := (x.send 0x01 (sg + 2 ^ 4 + 2 ^ 16 * seq) [0]).putCopies c
    x.copyFailed sg seq = if c.agreed.isSome then y else y.decideOn c false) ∧
  (∀ (s : State) (l : LaneId) (src : Arrival) (sg : Fin 16) (seq : Word) (fp : Dword), (s.lane l).accepts src = true →
    let x := (s.lane l).heard src 1
    let h := x.copiesOf sg.val seq.toNat
    let c := { h with fps := h.fps.set src.lane.fin (some fp.toNat) }
    (h.agreed = none → h.wantMismatch = false → exec (.descFpReceive l src sg seq (some fp)) s =
      .next (s.setLane l ((x.putCopies c).decideOn c false))) ∧
    (h.agreed = none → h.wantMismatch = true → exec (.descFpReceive l src sg seq (some fp)) s =
      .next (s.setLane l ((x.putCopies c).finishMismatch c))) ∧
    (h.agreed = some fp.toNat → exec (.descFpReceive l src sg seq (some fp)) s = .next (s.setLane l (x.putCopies c))) ∧
    (∀ f, h.agreed = some f → f ≠ fp.toNat →
      exec (.descFpReceive l src sg seq (some fp)) s = .next (s.setLane l ((x.putCopies c).oddFetch src.lane)))) ∧
  (∀ (s : State) (l : LaneId) (src : Arrival) (sg : Fin 16) (seq : Word), (s.lane l).accepts src = true →
    let x := (s.lane l).heard src 1
    let c := { x.copiesOf sg.val seq.toNat with failed := setBit (x.copiesOf sg.val seq.toNat).failed src.lane.num true }
    exec (.descFpReceive l src sg seq none) s = .next (s.setLane l ((x.putCopies c).decideOn c false))) ∧
  (∀ (s : State) (l : LaneId) (sg : Fin 16) (seq : Word), exec (.singleWaitExpired l sg seq) s =
    .next (s.setLane l ((s.lane l).decideOn ((s.lane l).copiesOf sg.val seq.toNat) true))) ∧
  (∀ (s : State) (l : LaneId) (src : Arrival) (sg : Fin 16) (seq : Word) (bytes : List Byte), (s.lane l).accepts src = true →
    let x := (s.lane l).heard src 1
    let c := { x.copiesOf sg.val seq.toNat with full := (x.copiesOf sg.val seq.toNat).full.set src.lane.fin (some bytes) }
    exec (.bulkMismatchCopy l src sg seq bytes) s = .next (s.setLane l ((x.putCopies c).finishMismatch c)))

/-- The decision on a fetched descriptor follows its table. For a descriptor not yet decided of which at least one
copy is held: copies that differ are never executed (the lane notes the mismatch and sends its full copy, if it has
one); while a lane is waited for, the wait has not expired and the mode is not SOLO, nothing is decided; two or more
equal copies with no lane waited for or the wait expired are executed with SINGLE = 0; one copy in SOLO is executed
with SINGLE = 0; one copy with no waited lane in TRIPLE or DUPLEX is executed with SINGLE = 1; with the wait expired,
one copy is executed with SINGLE = 1 where SINGLE_EN = 1 and completed DENIED with reason LANE_ABSENT (0x0C) and the
lanes without a copy where SINGLE_EN = 0. A lane that decides with its own copy puts the descriptor in the order of
execution at once and, holding the lowest-lettered copy, sends the 64 bytes to every member without a fingerprint; a
lane without its own copy waits for those bytes. (R78, R80, R82) -/
def Obligations.DescriptorDecisionFollowsItsTable : Prop :=
  (∀ (l : LaneSt) (c : Copies) (expired : Bool), c.agreed = none → c.wantMismatch = false → c.have ≠ 0 →
    (∀ b, c.agreeing ≠ c.have → c.own = some b →
      let c' := { c with wantMismatch := true, full := c.full.set l.id.fin (some b) }
      l.decideOn c expired = ((l.putCopies c').send 0x105 (c.sg + 2 ^ 16 * c.seq) (descWords b)).finishMismatch c') ∧
    (c.agreeing ≠ c.have → c.own = none →
      l.decideOn c expired = (l.putCopies { c with wantMismatch := true }).finishMismatch { c with wantMismatch := true }) ∧
    (c.agreeing = c.have → l.waited c = true → expired = false → l.mode ≠ 2 → l.decideOn c expired = l.putCopies c) ∧
    (c.agreeing = c.have → (l.waited c = false ∨ expired = true ∨ l.mode = 2) → 2 ≤ popCount 3 c.have →
      l.decideOn c expired = l.decideExecute c false false) ∧
    (c.agreeing = c.have → popCount 3 c.have = 1 → l.mode = 2 → l.decideOn c expired = l.decideExecute c false false) ∧
    (c.agreeing = c.have → popCount 3 c.have = 1 → l.mode ≠ 2 → l.waited c = false →
      l.decideOn c expired = l.decideExecute c true false) ∧
    (c.agreeing = c.have → popCount 3 c.have = 1 → l.mode ≠ 2 → l.waited c = true → expired = true →
      l.decideOn c expired = if l.on HIF.AGREE_CTRL.SINGLE_EN then l.decideExecute c true false
        else l.decideExecute c false true)) ∧
  (∀ (l : LaneSt) (c : Copies) (single deny : Bool),
    let agreed := c.lowest.bind (fun k => c.fps.get k.fin)
    (c.own = none → l.decideExecute c single deny =
      l.putCopies { c with agreed := agreed, wantCopy := some (c.have, single, deny) }) ∧
    (∀ b, c.own = some b →
      let to' := if c.lowest = some l.id then l.memberPeers.filter (fun p => (c.fps.get p.fin).isNone) else []
      let d := decided c.sg c.seq b c.have single
      l.decideExecute c single deny = (to'.foldl (fun x p => x.sendTo p 0x101 (c.sg + 2 ^ 16 * c.seq) (descWords b))
        (l.putCopies { c with agreed := agreed, sentTo := (to'.map (fun p => 2 ^ p.num)).sum })).pushDecided
          (if deny then { d with verdict := .complete 5 (reasonDetail 0x0C (7 - c.have)) } else d)))

/-! ## Descriptors (chapters 02, 03, 05, 07, 18, 19) -/

/-- NOP, PARAM_READ, SETPOINT and LIMITS complete. With the descriptor first in the order of execution and allowed to
be consumed: NOP completes OK. PARAM_READ of a member (or of the lead, LANE 3) completes OK with the register's value,
64 bits for WIDTH 1; only a FIRST register of the own lane is changed by the read. SETPOINT, with its target in range
and every permission check passed, completes OK with DETAIL and RESULT of the plan computed in advance and waits for
its replan instant; with TIMED and an AT not before that instant it is queued and completes DEFERRED with the queue
length. LIMITS likewise. What other descriptors only complete is settled after each. (R48, R52, R58, R121, R122, R126,
R130, R132) -/
def Obligations.MotionDescriptorsComplete : Prop :=
  (∀ (s : State) (l : LaneId) (d : Decided) (rest : List Decided), (s.lane l).firstReady d .nop rest →
    exec (.nop l) s = .next (s.setLane l ((((s.lane l).takes d .nop rest).complete d 0 0 0).settle))) ∧
  (∀ (s : State) (l : LaneId) (d : Decided) (rest : List Decided) (off width lane : Nat),
    (s.lane l).firstReady d (.paramRead off width lane) rest →
    let y := (s.lane l).takes d (.paramRead off width lane) rest
    let t := if lane = 3 then y.vote.lead.getD y.id else LaneId.ofNum lane
    let v := (s.lane t).regRead off + (if width = 1 then 2 ^ 32 * (s.lane t).regRead (off + 4) else 0)
    let z := y.complete d 0 0 v
    bit y.members t.num = true →
    exec (.paramRead l) s = .next (s.setLane l
      (if t = z.id ∧ 0x51C0 ≤ off ∧ off < 0x5320 ∧ off % 16 = 8 then (z.firstRead ((off - 0x51C0) / 16)).settle else z.settle))) ∧
  (∀ (s : State) (l : LaneId) (d : Decided) (rest : List Decided) (n kind : Nat) (x : Int) (sec ns : Nat),
    (s.lane l).firstReady d (.setpoint n kind false x sec ns) rest →
    let y := (s.lane l).takes d (.setpoint n kind false x sec ns) rest
    let g := if kind = 2 then 2 * n + 1 else 2 * n
    let act : ProfAct := .target d.tag kind x
    let due := (y.dueList g y.replanNs).filter (fun q => !(⟨y.replanNs, false, act⟩ : Due).before q)
    let r := (y.applyAll g due.length due).applyAct g y.replanNs act
    y.targetRejected g kind x = none → y.permSetup = none → y.permMode = none → y.motionDenied n true = none →
    y.kindDenied g kind = none → y.targetBlocked g y.replanNs kind x = none →
    exec (.setpoint l) s = .next (s.setLane l
      (((y.setPg g (fun q => { q with reqs := q.reqs ++ [(y.replanNs, act)] })).complete d 0 r.2.detail r.2.ns).settle))) ∧
  (∀ (s : State) (l : LaneId) (d : Decided) (rest : List Decided) (n kind : Nat) (x : Int) (sec ns : Nat)
    (z : LaneSt) (k : Nat) (repl : Bool),
    (s.lane l).firstReady d (.setpoint n kind true x sec ns) rest →
    let y := (s.lane l).takes d (.setpoint n kind true x sec ns) rest
    let g := if kind = 2 then 2 * n + 1 else 2 * n
    y.targetRejected g kind x = none → y.permSetup = none → y.permMode = none → y.motionDenied n true = none →
    y.permTime = none → y.kindDenied g kind = none → y.targetBlocked g y.replanNs kind x = none →
    y.replanNs ≤ time80 sec ns →
    y.enqueue g ((time80 sec ns + 999) / 1000 * 1000) (.target d.tag kind x) = some (z, k, repl) →
    exec (.setpoint l) s = .next (s.setLane l ((z.complete d 6 (k + 16 * b2n repl) 0).settle))) ∧
  (∀ (s : State) (l : LaneId) (d : Decided) (rest : List Decided) (n mask vmax amax jmax tmax speed sec ns : Nat),
    (s.lane l).firstReady d (.limits n mask false vmax amax jmax tmax speed sec ns) rest →
    let y := (s.lane l).takes d (.limits n mask false vmax amax jmax tmax speed sec ns) rest
    let act : ProfAct := .limits mask vmax amax jmax tmax speed
    let due := (y.dueList (2 * n) y.replanNs).filter (fun q => !(⟨y.replanNs, false, act⟩ : Due).before q)
    let r := (y.applyAll (2 * n) due.length due).applyAct (2 * n) y.replanNs act
    y.limitBad n mask vmax amax jmax tmax speed = none → y.permSetup = none → y.permMode = none →
    y.motionDenied n false = none →
    exec (.limits l) s = .next (s.setLane l
      (((y.setPg (2 * n) (fun q => { q with reqs := q.reqs ++ [(y.replanNs, act)] })).complete d 0 (b2n r.2.reduce) 0).settle))) ∧
  (∀ (s : State) (l : LaneId) (d : Decided) (rest : List Decided) (n mask vmax amax jmax tmax speed sec ns : Nat)
    (z : LaneSt) (k : Nat) (repl : Bool),
    (s.lane l).firstReady d (.limits n mask true vmax amax jmax tmax speed sec ns) rest →
    let y := (s.lane l).takes d (.limits n mask true vmax amax jmax tmax speed sec ns) rest
    y.limitBad n mask vmax amax jmax tmax speed = none → y.permSetup = none → y.permMode = none →
    y.motionDenied n false = none → y.permTime = none → y.replanNs ≤ time80 sec ns →
    y.enqueue (2 * n) ((time80 sec ns + 999) / 1000 * 1000) (.limits mask vmax amax jmax tmax speed) = some (z, k, repl) →
    exec (.limits l) s = .next (s.setLane l ((z.complete d 6 (k + 16 * b2n repl) 0).settle)))

/-- A motion descriptor is denied by the first check that fails. A SETPOINT whose target is in range, first in the
order of execution, completes DENIED with NOT_SEALED (0x05) and the unsealed members while a member is not sealed;
else with SETUP_DIFFERS (0x06) and the differing members while the setups differ; else with the mode (0x08) in SOLO
and SAFE; else with the reason of the channel's state. No generator, queue or register other than what consuming and
completing a descriptor changes is touched. (R50, R51, R54, R65, R115) -/
def Obligations.MotionDescriptorDeniedByFirstCheck : Prop :=
  ∀ (s : State) (l : LaneId) (d : Decided) (rest : List Decided) (n kind : Nat) (timed : Bool) (x : Int) (sec ns : Nat),
    (s.lane l).firstReady d (.setpoint n kind timed x sec ns) rest →
    let y := (s.lane l).takes d (.setpoint n kind timed x sec ns) rest
    let g := if kind = 2 then 2 * n + 1 else 2 * n
    y.targetRejected g kind x = none →
    (y.unsealedMembers ≠ 0 → exec (.setpoint l) s = .next (s.setLane l ((y.deny d 0x05 y.unsealedMembers).settle))) ∧
    (y.unsealedMembers = 0 → y.on HIF.STATUS.SETUP_DIFFERS = true →
      exec (.setpoint l) s = .next (s.setLane l ((y.deny d 0x06 y.differingMembers).settle))) ∧
    (y.unsealedMembers = 0 → y.on HIF.STATUS.SETUP_DIFFERS = false → 2 ≤ y.mode →
      exec (.setpoint l) s = .next (s.setLane l ((y.deny d 0x08 y.mode).settle))) ∧
    (∀ code arg, y.unsealedMembers = 0 → y.on HIF.STATUS.SETUP_DIFFERS = false → y.mode < 2 →
      y.motionDenied n true = some (code, arg) →
      exec (.setpoint l) s = .next (s.setLane l ((y.deny d code arg).settle)))

/-- CHANNEL_MODE and SAFE_RESET of channels and safety functions complete. With no fault reaction waiting for the
voting boundary: ENABLE and TUNE of a DISABLED channel, every check passed, begin its start-up with the descriptor
waiting; TUNE of a channel in RUN moves it to TUNE and completes OK, ENABLE of a channel in TUNE aborts a running
tune, moves it to RUN and completes OK. DISABLE of a channel in RUN or TUNE starts its shutdown with the descriptor
waiting; of a DISABLED or FAULTED one it completes OK with outcome NO_CHANGE. SAFE_RESET of a FAULTED channel outside
SAFE with its cause gone clears the bridge's latches and its uncertain ports, and the channel is DISABLED; of a
STOP_LATCHED channel with its cause cleared it gives RUN where it holds position (category 2), else DISABLED.
SAFE_RESET of a safety function in PERMIT or OFF completes NO_CHANGE; in READY under manual restart it waits for the
grant. (R32, R33, R115, R193, R220, R256, R333) -/
def Obligations.ChannelModeAndResetsComplete : Prop :=
  (∀ (s : State) (l : LaneId) (d : Decided) (rest : List Decided) (n r : Nat), r = 1 ∨ r = 2 →
    (s.lane l).firstReady d (.channelMode n r) rest →
    let y := (s.lane l).takes d (.channelMode n r) rest
    let c := if r = 1 then Instr.channelModeEnable l else Instr.channelModeTune l
    s.faultDue l n = false → y.permSetup = none → y.permMode = none → y.enableDenied n (s.faultArg l n) false = none →
    (y.chState n = 0 → exec c s = .next (s.setLane l
      (((y.setComm n (fun q => { q with enables := q.enables ++ [d], wantTune := decide (r = 2) })).startBegin n).settle))) ∧
    (y.chState n = 2 → r = 2 → exec c s = .next (s.setLane l ((((y.setCh n 3)).okOutcome d 0 0).settle))) ∧
    (y.chState n = 3 → r = 1 →
      exec c s = .next (s.setLane l (((((y.tuneAbort n 0x77 0).setCh n 2)).okOutcome d 0 0).settle)))) ∧
  (∀ (s : State) (l : LaneId) (d : Decided) (rest : List Decided) (n : Nat),
    (s.lane l).firstReady d (.channelMode n 0) rest →
    let y := (s.lane l).takes d (.channelMode n 0) rest
    y.permSetup = none → s.faultDue l n = false →
    ((y.chState n = 2 ∨ y.chState n = 3) → exec (.channelModeDisable l) s = .next (s.setLane l
      (((y.setComm n (fun q => { q with disable := some d })).shutdownStart n).settle))) ∧
    ((y.chState n = 0 ∨ y.chState n = 5) →
      exec (.channelModeDisable l) s = .next (s.setLane l ((y.okOutcome d 0 0).settle)))) ∧
  (∀ (s : State) (l : LaneId) (d : Decided) (rest : List Decided) (n lanes : Nat),
    (s.lane l).firstReady d (.safeReset 0 n lanes) rest →
    let y := (s.lane l).takes d (.safeReset 0 n lanes) rest
    (y.chState n = 5 → (s.lane l).inSafe = false → (s.membersOf l).any (fun j => (s.lane j).sourcePresent n) = false →
      let z := ((y.clearBridge n).clearPorts n).setCh n 0
      exec (.safeResetChannel l) s = .next (s.setLane l
        ((({ z with flt := { z.flt with source := z.flt.source.setIfInBounds n none } } : LaneSt).complete d 0 0 0).settle))) ∧
    (y.chState n = 6 → (y.ch n).latch ≠ 0 → y.latchCleared n = true →
      exec (.safeResetChannel l) s = .next (s.setLane l
        ((((y.setComm n (fun q => { q with latch := 0, latchCat := 1 })).setCh n
          (if (y.ch n).latchCat = 2 then 2 else 0)).complete d 0 0 0).settle)))) ∧
  (∀ (s : State) (l : LaneId) (d : Decided) (rest : List Decided) (f : Nat), f < 16 →
    (s.lane l).firstReady d (.safeReset 1 f 0) rest →
    let y := ((s.lane l).takes d (.safeReset 1 f 0) rest).setSio (fun x => { x with resets := (x.resets + 1) % 256 })
    ((y.sf f = 3 ∨ y.sf f = 0) →
      exec (.safeResetSafetyFunction l) s = .next (s.setLane l (((y.okOutcome d 0 0).xchgSend).settle))) ∧
    (y.sf f = 2 → y.sfType f ≠ 3 → exec (.safeResetSafetyFunction l) s = .next (s.setLane l
      (((y.setSio (fun x => { x with grant := x.grant.setIfInBounds f (x.grant.getD f [] ++ [d]) })).xchgSend).settle))))

/-- Descriptors with a host buffer and their reads complete. CONFIG_STAGE (no commit pending), FW_STAGE (in HOLD) and
FLEET_KEY (every named lane MEMBER), the session step passed, wait for their host buffer. The read of the oldest
waiting buffer of an own copy, of the length asked for, crosses into the CORE island and is kept, sent to members
without a copy where this lane serves them, and used once every member has its buffer; one with a word that the
crossing discards counts as a failed read. A buffer of a peer's copy is kept and used the same way. The verification
of a staged firmware ends in the named lane as TRIAL, or EMPTY when it fails, and every lane that waits completes OK
with the version, or ABORTED with FW_INVALID (0x4D) and the failing step. (R79, R83, R402, R404, R405, R412) -/
def Obligations.BufferDescriptorsComplete : Prop :=
  (∀ (s : State) (l : LaneId) (d : Decided) (rest : List Decided) (offset length src crc : Nat),
    (s.lane l).firstReady d (.configStage offset length src crc) rest →
    let y := (s.lane l).takes d (.configStage offset length src crc) rest
    (y.sessionStep (s.leadSession l d) d).2 = none → y.committing = false →
    exec (.configStage l) s = .next (s.setLane l
      (((y.sessionStep (s.leadSession l d) d).1.awaitBuffer d).settle))) ∧
  (∀ (s : State) (l : LaneId) (d : Decided) (rest : List Decided) (t offset length src crc : Nat) (last : Bool),
    (s.lane l).firstReady d (.fwStage t last offset length src crc) rest →
    let y := (s.lane l).takes d (.fwStage t last offset length src crc) rest
    (y.sessionStep (s.leadSession l d) d).2 = none → y.inHold = true →
    exec (.fwStage l) s = .next (s.setLane l (((y.sessionStep (s.leadSession l d) d).1.awaitBuffer d).settle))) ∧
  (∀ (s : State) (l : LaneId) (d : Decided) (rest : List Decided) (lanes src length : Nat),
    (s.lane l).firstReady d (.fleetKey lanes src length) rest →
    let y := (s.lane l).takes d (.fleetKey lanes src length) rest
    (y.sessionStep (s.leadSession l d) d).2 = none → y.permLanes lanes = none →
    exec (.fleetKey l) s = .next (s.setLane l (((y.sessionStep (s.leadSession l d) d).1.awaitBuffer d).settle))) ∧
  (∀ (s : State) (l : LaneId) (d : Decided) (a n : Nat) (b : List Byte) (flips : List (BitVec 72)),
    (s.lane l).hif.bufWait.find? (fun w => (s.lane l).hasOwn w.1) = some (d, a, n) → b.length = n →
    let x := ({ s.lane l with hif := { (s.lane l).hif with dmaFails := 0 } } : LaneSt).crossBytes 0 b flips
    let y := x.1.bufferDone d x.2
    (∀ c, x.2 = some c → exec (.hostBufferRead l ⟨some b, flips⟩) s = .next ((s.setLane l
      (if y.serves d then (y.without d).foldl (fun z p => z.sendTo p 0x102 0 (bulkWords c)) y else y)).bufferSettle l d)) ∧
    (x.2 = none → exec (.hostBufferRead l ⟨some b, flips⟩) s = .next ((s.setLane l y).bufferSettle l d))) ∧
  (∀ (s : State) (l : LaneId) (src : Arrival) (d : Decided) (a n : Nat) (b : List Byte), (s.lane l).accepts src = true →
    let x := (s.lane l).heard src (frameCount b)
    x.hif.bufWait.find? (fun w => !x.hasOwn w.1) = some (d, a, n) → n ≤ b.length →
    exec (.bulkHostBufferCopy l src b) s = .next ((s.setLane l (x.bufferDone d (some (b.take n)))).bufferSettle l d)) ∧
  (∀ (s : State) (t : LaneId) (d : Decided) (rest : List Decided) (n offset length src crc : Nat) (last : Bool),
    (s.lane t).sec.fwVerify = d :: rest → d.op = .fwStage n last offset length src crc → LaneId.ofNum n = t →
    exec (.fwVerifyComplete t) s = .next (LaneId.all.foldl (fun r j =>
      let x := r.lane j
      if x.sec.fwVerify.contains d then
        let x : LaneSt := { x with sec := { x.sec with fwVerify := x.sec.fwVerify.erase d } }
        let x := if j = t then x.fwEnd (s.fwFault t) else x
        r.setLane j (match s.fwFault t with
          | none => x.complete d 0 0 (leAt ((s.lane t).sec.fw.getD (s.lane t).idleSlot []) 0 4)
          | some step => x.abort d 0x4D step)
      else r) s))

/-- AUTOTUNE, DIAG, PROOF_REQ, LOG_READ and ATTEST complete. AUTOTUNE accepted by its table puts the slot in TUNE.
DIAG accepted by its table starts the self-test or the scan in a named lane and is noted in every lane; the channel's
DIAG is settled once all have ended, which a self-test out of time forces. PROOF_REQ accepted by its checks is noted
with all results outstanding. LOG_READ and ATTEST of a member, passing their checks and not completed elsewhere, wait
for the report; the named lane builds it, and the lead writes it. A report that reaches the lead is written at DST and
every waiting lane completes OK. (R161, R192, R268, R269, R395, R400, R416) -/
def Obligations.TestAndReportDescriptorsComplete : Prop :=
  (∀ (s : State) (l : LaneId) (d : Decided) (rest : List Decided) (ch slot rule eps : Nat) (x : Int),
    (s.lane l).firstReady d (.autotune ch slot rule x eps) rest →
    let y := (s.lane l).takes d (.autotune ch slot rule x eps) rest
    let z := (y.sessionStep (s.leadSession l d) d).1
    y.permSetup = none → (y.sessionStep (s.leadSession l d) d).2 = none → y.permMode = none →
    z.tuneBad ch slot rule x eps = none → z.tuneDenied ch slot (rescale x (z.outFrac slot)) = none →
    exec (.autotune l) s = .next (s.setLane l
      ((z.tuneStart d ch slot rule (rescale x (z.outFrac slot)) (rescale eps (z.errFrac slot))).settle))) ∧
  (∀ (s : State) (l : LaneId) (d : Decided) (rest : List Decided) (ch test lanes dst : Nat), test = 0 ∨ test = 1 →
    (s.lane l).firstReady d (.diag ch test lanes dst) rest →
    let y := (s.lane l).takes d (.diag ch test lanes dst) rest
    y.permSetup = none → y.diagDenied ch test lanes = none → bit lanes y.id.num = true →
    let z := y.setComm ch (fun c => { c with diag := some ⟨d, test, lanes, dst⟩ })
    let w := if test = 0 then z.setGateCh ch (fun g => { g with test := some ⟨0, 0, 0, 0, false⟩ }) else z.scanStart ch false
    exec (if test = 0 then .diagComparatorSelftest l else .diagTestCurrentScan l) s =
      .next ((List.range 8).foldl State.diagSettle (s.setLane l w.settle))) ∧
  (∀ (s : State) (l : LaneId) (ch : Fin 8), exec (.diagSelftestTimeout l ch) s =
    .next ((s.setLane l ((s.lane l).setTest ch.val (fun t => { t with expired := true }))).diagSettle ch.val)) ∧
  (∀ (s : State) (l : LaneId) (d : Decided) (rest : List Decided) (region index lanes : Nat),
    (s.lane l).firstReady d (.proofReq region index lanes) rest →
    let y := (s.lane l).takes d (.proofReq region index lanes) rest
    1 ≤ region → region ≤ 6 → index < regionCount region → lanes ≠ 0 → lanes - (lanes &&& y.members) = 0 →
    y.on BIST.CTRL.ONLINE_EN = true → (region = 5 → y.portUsers index = 0) → s.unprovable region index lanes = 0 →
    exec (.proofReq l) s = .next (s.setLane l
      ((y.setBist (fun b => { b with reqs := b.reqs ++ [⟨d, region, index, lanes, 0, 0, 0, 0, 1023⟩] })).settle))) ∧
  (∀ (s : State) (l : LaneId) (d : Decided) (op : DescOp) (rest : List Decided), (s.lane l).firstReady d op rest →
    let x : LaneSt := { s.lane l with hif := { (s.lane l).hif with exec := rest } }
    let x : LaneSt := if d.single then { x with folio := { x.folio with single := (x.folio.single + 1) % 2 ^ 32 } } else x
    let y := x.consume d
    let r := (s.setLane l y).askReport l d
    y.permLanes (2 ^ op.reporter.num) = none →
    ((∃ t sign first count dst len, op = .logRead t sign first count dst len) → s.logReadCheck op = none →
      exec (.logRead l) s = .next (r.setLane l ((r.lane l).settle))) ∧
    ((∃ nonce t dst, op = .attest nonce t dst) → exec (.attest l) s = .next (r.setLane l ((r.lane l).settle)))) ∧
  (∀ (s : State) (l : LaneId) (src : Arrival) (d : Decided) (bs : List Byte), (s.lane l).accepts src = true →
    let x := (s.lane l).heard src (frameCount bs)
    x.sec.report.find? (fun d => d.op.reporter = src.lane) = some d → x.isLead = true →
    exec (.bulkReportCopy l src bs) s = .next ((s.setLane l x).reportWritten l d bs))

/-- Completions are written, and lane resets and clears complete. The lead with its host link up writes the oldest
completion that every member has staged, in the two writes of R56 at the slot of its index with the stamp of the
boundary at which it was agreed, every member counts it written, and its interrupt is raised where IRQ was set.
SAFE_RESET of this lane as a MEMBER or SHADOW, not the last member, completes OK and excludes it with cause
HOST_RESET; INDEX 3 with every channel DISABLED or in SAFE completes OK and marks every lane for restart. LANE_CLEAR
with CLEAR_COUNT = 1 in the lead, its session step passed, completes OK (outcome STARTED where a readmission starts,
else NO_CHANGE) and clears the counts and restarts the named lanes. A lane marked for restart takes the HOST reset
once no completion of a SAFE_RESET is staged. (R56, R60, R113) -/
def Obligations.CompletionsAndLaneResetsComplete : Prop :=
  (∀ (s : State) (k : LaneId) (c : Completion), (s.lane k).isLead = true → (s.lane k).on HIF.STATUS.LINK_UP = true →
    (s.lane k).hif.staged.find? (s.stagedByAll (s.lane k).members) = some c →
    let x := s.lane k
    let w : Written := { cg := c.cg, idx := x.rd (HIF.CG_WRITTEN.COUNT c.cg), stamp := c.stamp.getD x.boundaryStamp, c := c }
    let s' := LaneId.all.foldl (fun r j =>
      if j ≠ k ∧ bit x.members j.num then r.setLane j (((r.lane j).noteWritten w).settle) else r) s
    let y := (x.noteWritten w).postCompletion w
    exec (.completionWrite k) s = .next (s'.setLane k (if c.irq then y.raise (c.cg / 8) (c.cg % 8) else y).settle)) ∧
  (∀ (s : State) (l : LaneId) (d : Decided) (rest : List Decided),
    (s.lane l).firstReady d (.safeReset 2 l.num 0) rest →
    let y := (s.lane l).takes d (.safeReset 2 l.num 0) rest
    (s.lane l).inSafe = false → y.inSafe = false → y.id = l → (y.self = 0 ∨ y.self = 2) → y.members ≠ 2 ^ l.num →
    exec (.safeResetLane l) s = .next (s.setLane l (((y.okOutcome d 1 0).exclude causeHostReset).settle))) ∧
  (∀ (s : State) (l : LaneId) (d : Decided) (rest : List Decided),
    (s.lane l).firstReady d (.safeReset 2 3 0) rest →
    let y := (s.lane l).takes d (.safeReset 2 3 0) rest
    (s.lane l).activeChannels = 0 → y.activeChannels = 0 →
    exec (.safeResetLane l) s = .next (LaneId.all.foldl (fun r j => r.setLane j
      { r.lane j with vote := { (r.lane j).vote with restartAll := true } }) (s.setLane l ((y.okOutcome d 1 0).settle)))) ∧
  (∀ (s : State) (l : LaneId) (d : Decided) (rest : List Decided) (lanes : Nat),
    (s.lane l).firstReady d (.laneClear lanes true) rest →
    let y := (s.lane l).takes d (.laneClear lanes true) rest
    let x := (((y.sessionStep (s.leadSession l d) d).1.okOutcome d (if s.restarts lanes true then 2 else 0) 0).settle)
    s.stagedElsewhere l d = none → (y.sessionStep (s.leadSession l d) d).2 = none →
    x.hif.staged.any (fun c => c.sg = d.sg && c.seq = d.found && c.status = 0) = true →
    exec (.laneClear l) s = .next (LaneId.all.foldl (fun r j => r.setLane j ((r.lane j).laneCleared lanes true)) (s.setLane l x))) ∧
  (∀ (s : State) (l : LaneId), (s.lane l).vote.restartAll = true →
    LaneId.all.any (fun j => (s.lane j).hif.staged.any (fun c => c.opcode = 0x40)) = false →
    exec (.hostReset l) s = .next (s.setLane l ((s.lane l).coldReset 3)))

/-! ## Folio and epoch commit (chapters 03, 17) -/

/-- Folio snapshots, exchanges and writes complete. The snapshot of a lane that votes sends its fault summary; a
member builds the page with a SEQ 2 above the highest sent or received, and counts a page of the snapshot before that
is still unwritten as skipped. A peer's fault summary becomes its section of the page. A peer's FOLIO_FP is kept and
raises the SEQ known. A write with the agreement of R71 held leaves the page as the agreed one, ends the hand-over
mark, and in the lead posts SEQ - 1, the rest of the page, then SEQ, in this order, and raises source 0 of group 2;
without the agreement the snapshot is counted skipped and nothing is posted. Pages that differ are then judged. (R70,
R71, R72, R73, R104, R375, 03 Folio) -/
def Obligations.FolioCommandsComplete : Prop :=
  (∀ (s : State) (l : LaneId), (s.lane l).voting = true →
    let ws := sectionWords (s.lane l).fltSection
    let x := (s.lane l).send 0x1A 0 ws
    let y : LaneSt := { x with folio := { x.folio with
      sums := x.folio.sums.set l.fin (ws.mapIdx (fun i w => (8 * i, 8, w)))
      sumValid := (Vector.replicate 3 false).set l.fin true
      skipped := if (s.lane l).folio.page.isSome then ((s.lane l).folio.skipped + 1) % 2 ^ 32 else (s.lane l).folio.skipped } }
    ((s.lane l).isMember = false → exec (.folioSnapshot l) s = .next (s.setLane l y)) ∧
    ((s.lane l).isMember = true → exec (.folioSnapshot l) s = .next (s.setLane l { y with folio := { y.folio with
      page := some ((s.setLane l y).folioPage l ((s.lane l).vote.folioSeq + 2)), fp := (0, 0) } }))) ∧
  (∀ (s : State) (l : LaneId) (src : Arrival) (seq fp : Dword), (s.lane l).accepts src = true →
    let x := (s.lane l).heard src 1
    exec (.folioFpReceive l src seq fp) s = .next (s.setLane l
      (({ x with vote := { x.vote with folioSeq := max x.vote.folioSeq seq.toNat } } : LaneSt).setPeer src.lane
        (fun v => { v with folio := some (seq.toNat, fp.toNat) })))) ∧
  (∀ (s : State) (l : LaneId) (src : Arrival) (w : List Dword), (s.lane l).accepts src = true →
    let x := (s.lane l).heard src 1
    exec (.fltSumReceive l src w) s = .next (s.setLane l { x with folio := { x.folio with
      sums := x.folio.sums.set src.lane.fin ((List.range 20).map (fun i => (8 * i, 8, (w.getD i 0).toNat)))
      sumValid := x.folio.sumValid.set src.lane.fin true } })) ∧
  (∀ (s : State) (l : LaneId) (p : List (Nat × Nat × Nat)), (s.lane l).folio.page = some p →
    (s.lane l).folio.fp.1 ≠ 0 → (s.lane l).isMember = true →
    let x := s.lane l
    let fp := x.finalPage p
    let base := 2 ^ 12 * x.rd HIF.FOLIO_BASE.ADDR + 2 ^ 32 * x.rd HIF.FOLIO_BASE_HI.ADDR_HI
    (x.folioAgrees = true → x.isLead = true →
      let y : LaneSt := { x with folio := { x.folio with page := none, agreed := fp, handover := false } }
      exec (.folioWrite l) s = .next (s.setLane l
        (((((y.post base 8 [(0, 8, x.folio.fp.1 - 1)]).post (base + 8) 4088
          ((fp.filter (fun f => 8 ≤ f.1)).map (fun f => (f.1 - 8, f.2.1, f.2.2)))).post base 8 [(0, 8, x.folio.fp.1)]).raise 2 0).judgeFolio))) ∧
    (x.folioAgrees = true → x.isLead = false →
      exec (.folioWrite l) s = .next (s.setLane l
        ({ x with folio := { x.folio with page := none, agreed := fp, handover := false } } : LaneSt).judgeFolio)) ∧
    (x.folioAgrees = false → exec (.folioWrite l) s = .next (s.setLane l
      ({ x with folio := { x.folio with page := none, skipped := (x.folio.skipped + 1) % 2 ^ 32 } } : LaneSt).judgeFolio)))

/-- The steps of an epoch commit complete. CONFIG_COMMIT, its session step and checks passed, becomes the pending
commit with COMMIT_PENDING set. The check of a lane without a result sends FAIL with IMAGE_CRC (0x45) where the CRC
fails, else FAIL with the first bad offset (0x46) or READY with the image's fingerprint, and keeps it. A peer's READY,
FAIL, GO or NOGO is kept. At or after D_r a member that has not decided sends GO when no reason stands against it and
time is in TIME80 form, else NOGO, with the first reason (that a NOGO carries it is the model's choice, log entry 50).
At or after D_d the image is to be applied when every member has said GO; else the reason kept for the abort is the
first, in the order of the table of R88, of those that a member stands by, and NO_GO (0x4B) with the missing members
where none is held. (R84, R85, R86, R87, R88, R288, R412) -/
def Obligations.CommitStepsComplete : Prop :=
  (∀ (s : State) (l : LaneId) (d : Decided) (rest : List Decided) (sec ns length crc : Nat),
    (s.lane l).firstReady d (.configCommit sec ns length crc) rest →
    let y := (s.lane l).takes d (.configCommit sec ns length crc) rest
    let epoch := time80 sec ns * 2 ^ 32
    (y.sessionStep (s.leadSession l d) d).2 = none → y.permTime = none → y.committing = false →
    y.time.now + y.leadTime * 2 ^ 32 ≤ epoch → epoch ≤ y.time.now + 10 ^ 10 * 2 ^ 32 → s.logFull y.members = 0 →
    exec (.configCommit l) s = .next (s.setLane l
      (((y.sessionStep (s.leadSession l d) d).1.commitStart d epoch length crc).settle))) ∧
  (∀ (s : State) (l : LaneId) (c : Commit), (s.lane l).commit = some c → c.own = none →
    let x := s.lane l
    let img := x.staged 0 c.length
    let n := (x.loadImage (imageItems img)).noteSched
    let y := x.setWord LOOP.SCHED_ERR.off (n.word LOOP.SCHED_ERR.off)
    (crc32c img ≠ c.crc → exec (.commitReadyCheck l) s = .next (s.setLane l
      ((x.setCommit (fun c => { c with own := some (false, 0x45) })).send 0x03 (1 + 2 ^ 8 * 0x45) [0]))) ∧
    (crc32c img = c.crc → exec (.commitReadyCheck l) s = .next (s.setLane l (match y.imageFault img c.length with
      | some off => (y.setCommit (fun c => { c with own := some (false, 0x46 + 2 ^ 8 * off) })).send 0x03 (1 + 2 ^ 8 * 0x46) [off]
      | none => (y.setCommit (fun c => { c with own := some (true, fingerprint img) })).send 0x03 0 [fingerprint img])))) ∧
  (∀ (s : State) (l : LaneId) (src : Arrival) (reason : Byte) (payload : Dword), (s.lane l).accepts src = true →
    let x := (s.lane l).heard src 1
    exec (.commitRecordReceive l src 0 reason payload) s =
      .next (s.setLane l (x.setPeer src.lane (fun v => { v with ready := some (true, payload.toNat) }))) ∧
    exec (.commitRecordReceive l src 1 reason payload) s = .next (s.setLane l
      (x.setPeer src.lane (fun v => { v with ready := some (false, reason.toNat + 2 ^ 8 * payload.toNat) }))) ∧
    exec (.commitRecordReceive l src 2 reason payload) s =
      .next (s.setLane l (x.setPeer src.lane (fun v => { v with go := some true }))) ∧
    exec (.commitRecordReceive l src 3 reason payload) s = .next (s.setLane l
      (x.setPeer src.lane (fun v => { v with go := some false, nogo := (reason.toNat, payload.toNat) })))) ∧
  (∀ (s : State) (l : LaneId) (c : Commit), (s.lane l).commit = some c → c.go = none → (s.lane l).isMember = true →
    c.epoch ≤ (s.lane l).time.now + 4 * (s.lane l).tVote * 2 ^ 32 →
    let why := (s.lane l).commitReason c
    let go := why.isNone && !(s.lane l).t32
    exec (.commitReadyDeadline l) s = .next (s.setLane l
      (((s.lane l).setCommit (fun c => { c with go := some go, reason := why })).send 0x03
        (if go then 2 else 3 + 2 ^ 8 * (why.getD (0, 0)).1)
        [(if go then (c.own.map (·.2)).getD 0 else (why.getD (0, 0)).2) % 2 ^ 64]))) ∧
  (∀ (s : State) (l : LaneId) (c : Commit), (s.lane l).commit = some c → c.apply = false →
    c.epoch ≤ (s.lane l).time.now + 2 * (s.lane l).tVote * 2 ^ 32 →
    let missing := (s.lane l).membersWith (fun k => (if k = (s.lane l).id then c.go else ((s.lane l).peer k).go) != some true)
    (missing = 0 → exec (.commitDecisionDeadline l) s =
      .next (s.setLane l ((s.lane l).setCommit (fun c => { c with apply := true })))) ∧
    (missing ≠ 0 → exec (.commitDecisionDeadline l) s =
      .next (s.setLane l ((s.lane l).setCommit (fun c' => { c' with reason := some ((s.lane l).abortReason c missing) }))))) ∧
  (∀ (x : LaneSt) (c : Commit) (missing : Nat),
    let held (k : LaneId) (r : Nat × Nat) : Prop := bit x.members k.num = true ∧
      ((k = x.id ∧ c.reason = some r) ∨
        (k ≠ x.id ∧ (x.peer k).go = some false ∧ (x.peer k).nogo.1 ≠ 0 ∧ (x.peer k).nogo = r))
    ((∀ k r, ¬ held k r) → x.abortReason c missing = (0x4B, missing)) ∧
    ((∃ k r, held k r) → (∃ k, held k (x.abortReason c missing)) ∧
      ∀ k r, held k r → (x.abortReason c missing).1 ≤ r.1))

/-- At the epoch the staged configuration takes effect. In a MEMBER whose pending commit is to be applied, not yet
applied, with its epoch come: the image of the staging area is loaded and its keys, password and SAKs installed;
integrators, ports, zero calibrations, network ports and chopper legs are carried across as their rules say, against
the settings before; the stored image and COMMIT_COUNT follow, the new setup is taken into force, setup hashes that
agreed with the old setup agree with the new one, and the commit remembers the old fingerprint for its completion.
Before the epoch the command changes nothing. (R86, R87, R150, R220, R233, R297) -/
def Obligations.EpochAppliesTheStagedImage : Prop :=
  (∀ (s : State) (l : LaneId) (c : Commit), (s.lane l).commit = some c → c.apply = true → c.oldFp = none →
    (s.lane l).isMember = true → c.epoch ≤ (s.lane l).time.now →
    let img := (s.lane l).staged 0 c.length
    let old := (List.range 4).foldl LaneSt.endOldTick (s.lane l).freezeHolds
    let a : LaneSt := { old with sec := { old.sec with ywKeys := Vector.replicate 2 [] } }
    let a := (imageItems img).foldl (LaneSt.applyItem c.d.tag) (a.loadImage (imageItems img))
    let a := a.carryTicks old
    let a := (List.range 24).foldl (fun a p => a.carryPort old p) a
    let a := (List.range 72).foldl (fun a i => a.carryInput old i) a
    let a := (List.range 4).foldl (fun a p => a.carryNet old p) a
    let a := (List.range 2).foldl (fun a k => a.carryChopper old k) a
    let a := ((a.setImage (storedImage img)).inc CFG.COMMIT_COUNT.VALUE)
    let a := (a.wr CFG.STATUS.DEFAULTED 0).takeSetup
    let b := a.peers.foldl (fun b p => b.setPeer p (fun v =>
      { v with setupHash := if v.setupHash = some old.setupHash then some a.setupHash else v.setupHash })) a
    exec (.commitEpoch l) s = .next (s.setLane l (b.setCommit (fun c => { c with oldFp := some old.configFp })))) ∧
  (∀ (s : State) (l : LaneId) (c : Commit), (s.lane l).commit = some c → (s.lane l).time.now < c.epoch →
    exec (.commitEpoch l) s = .next s)

/-! ## The vote, membership and readmission (chapter 04) -/

/-- A channel is voted by its tolerance and the table of voted values. Outside an autotune of the channel, two torque
commands agree exactly when their distance is at most ABS + REL × max / 1,024 (ABS in 256ths of the Q16.16 unit of the
frame, kept exact by multiplying with 1,024). A channel that some member frame does not mark in TVALID has no voted
value, and one that no frame marks has voted value 0 (R479). When all mark it and no frame injects into it: one frame
gives its own value; two that agree their mean (rounding left open where it is no integer), two that disagree none
with both marked; three of which no two agree none, without majority, nobody marked; every other three the median,
with the lane marked that agrees with neither other. VOTE_COMPUTE in a MEMBER lane whose boundaries run and that has
not voted this cycle takes every voted value as the voted command and keeps the last one elsewhere, unless the lane
enters SAFE at this vote. (R98) -/
def Obligations.VoteFollowsItsTable : Prop :=
  (∀ (x : LaneSt) (n : Nat) (a b : Int), x.tune n = none →
    (x.torqueAgree n a b = true ↔
      1024 * (a - b).natAbs ≤ 1024 * (256 * x.rd (VOTE.TOL.ABS n)) + x.rd (VOTE.TOL.REL n) * max a.natAbs b.natAbs)) ∧
  (∀ (x : LaneSt) (n : Nat) (fs : List (LaneId × CycleFrame)),
    ((∀ f ∈ fs, bit f.2.tvalid n = false) → (x.voteChannel fs n).value = some 0) ∧
    ((∃ f ∈ fs, bit f.2.tvalid n = true) → (∃ f ∈ fs, bit f.2.tvalid n = false) → (x.voteChannel fs n).value = none) ∧
    ((∀ f ∈ fs, bit f.2.tvalid n = true ∧ ¬ (f.2.proof = true ∧ f.2.proofCh = n)) →
      (∀ p f, fs = [(p, f)] → x.voteChannel fs n = ⟨some (f.torque.getD n 0), 0, false, false⟩) ∧
      (∀ p q f g, fs = [(p, f), (q, g)] → x.torqueAgree n (f.torque.getD n 0) (g.torque.getD n 0) = true →
        x.voteChannel fs n = ⟨some (qdiv (f.torque.getD n 0 + g.torque.getD n 0) 2), 0, false, false⟩) ∧
      (∀ p q f g, fs = [(p, f), (q, g)] → x.torqueAgree n (f.torque.getD n 0) (g.torque.getD n 0) = false →
        x.voteChannel fs n = ⟨none, 2 ^ p.num + 2 ^ q.num, false, false⟩) ∧
      (∀ p q r f g h, fs = [(p, f), (q, g), (r, h)] →
        let fg := x.torqueAgree n (f.torque.getD n 0) (g.torque.getD n 0)
        let fh := x.torqueAgree n (f.torque.getD n 0) (h.torque.getD n 0)
        let gh := x.torqueAgree n (g.torque.getD n 0) (h.torque.getD n 0)
        let m := some (median3 (f.torque.getD n 0) (g.torque.getD n 0) (h.torque.getD n 0))
        (fg = false ∧ fh = false ∧ gh = false → x.voteChannel fs n = ⟨none, 0, true, false⟩) ∧
        (fg = true ∧ fh = false ∧ gh = false → x.voteChannel fs n = ⟨m, 2 ^ r.num, false, false⟩) ∧
        (fg = false ∧ fh = true ∧ gh = false → x.voteChannel fs n = ⟨m, 2 ^ q.num, false, false⟩) ∧
        (fg = false ∧ fh = false ∧ gh = true → x.voteChannel fs n = ⟨m, 2 ^ p.num, false, false⟩) ∧
        ((fg = true ∧ fh = true) ∨ (fg = true ∧ gh = true) ∨ (fh = true ∧ gh = true) →
          x.voteChannel fs n = ⟨m, 0, false, false⟩)))) ∧
  (∀ (s : State) (l : LaneId), (s.lane l).voting = true → (s.lane l).vote.done = false →
    let x : LaneSt := { s.lane l with vote := { (s.lane l).vote with done := true } }
    let y := (if x.time.stepped then x else x.peers.foldl LaneSt.judgeLinks x).noteLeavers
    y.isMember = true →
    ∃ z, exec (.voteCompute l) s = .next (s.setLane l z) ∧ z.vote.done = true ∧
      (z.mode ≠ 3 → ∀ n, n < 8 →
        z.vote.voted.getD n 0 = (y.voteChannel y.memberFrames n).value.getD (y.vote.voted.getD n 0)))

/-- Boundaries, formation and frames complete. In a lane whose voting boundaries run, VOTING_BOUNDARY takes its parts
in the model's order: links taken back, formation, admission of SHADOW lanes, the membership in force, ramps, agreed
fault reactions and stops, K1 and lead, the end of commits and folio, stamps and speakers, NAP, the cycle frames to
both peers (one that the VOTE logic fails to send is the fatal fault 0x047), and the donor's capture. The formation
window's end is noted in a FORMING lane. A cycle frame whose END word holds the CRC-32C and record count of the words
before it, for the present or next cycle, over a link that has not failed, acknowledges, updates the lane block and
the membership view and is kept for its vote; one that fails the END check changes nothing. FRAME_RETRANSMIT sends the
oldest unacknowledged primary frame on the spare. LINK_LOSS, ATTRIB and PROOF_RESULT records that the lane accepts are
counted received and take effect. (R94, R95, R97, R102, R111, R114, R443, 04 Cycle frame) -/
def Obligations.BoundariesAndFramesComplete : Prop :=
  (∀ (s : State) (l : LaneId) (sends : Bool), (s.lane l).voting = true →
    let s1 := ((((s.at' l LaneSt.boundaryBegin).ywFollow l).at' l LaneSt.formation).admissions l).applyMembership l
    let s2 := ((s1.at' l (fun x => x.rampStep.outsider)).faultedChannels l).stopEnters l
    let s3 := s2.at' l (fun x => (if x.computes then x.judgeK1 (s2.k1Due l) else x).evalLead)
    let s4 := ((s3.at' l (fun x => x.commitClose.fleetTake.folioClose)).stampResults l).speakers l
    let s5 := (s4.at' l (fun x => x.proofLeavers.telSettle)).napDecide l
    let s6 := (s5.at' l (fun x => x.forceDirect.judgeSlots)).answerBuffer l
    exec (.votingBoundary ⟨l, sends⟩) s = .next ((s6.at' l (fun x =>
      let y := x.rotateFrames
      if sends then
        let z := y.sendFrames.sendCounts
        if z.on SIO.CTRL.EN then z.xchgSend else z
      else ({ y with vote := { y.vote with sent := none } } : LaneSt).fault 0x047 0)).captures l)) ∧
  (∀ (s : State) (l : LaneId), (s.lane l).self = 4 → (s.lane l).voting = true →
    exec (.formationWindowExpired l) s = .next (s.setLane l
      { s.lane l with vote := { (s.lane l).vote with formExpired := true } })) ∧
  (∀ (s : State) (l p : LaneId) (f : CycleFrame) (extra : List Dword) (endWord : Dword), p ≠ l → (s.lane l).voting = true →
    endChecks p f extra endWord = true →
    let r := s.formStep l p f
    let x := r.lane l
    (if f.spare then (x.peer p).failed.2 else (x.peer p).failed.1) = false →
    let y := (((x.acked p f.ack).noteBlock p f).noteSelf p f).setPeer p (fun v => { v with fresh := true, last := some f })
    (f.cycle = y.cycleIndex → y.vote.done = false →
      exec (.cycleFrameReceive l p f ⟨extra, endWord⟩) s = .next (r.setLane l
        (y.setPeer p (fun v => { v with frame := takeFrame v.frame f, got := linkSet v.got f.spare })))) ∧
    (f.cycle ≠ y.cycleIndex → f.cycle = (y.cycleIndex + 1) % 2 ^ 32 →
      exec (.cycleFrameReceive l p f ⟨extra, endWord⟩) s = .next (r.setLane l
        (y.setPeer p (fun v => { v with next := (takeFrame v.next.1 f, linkSet v.next.2 f.spare) }))))) ∧
  (∀ (s : State) (l p : LaneId) (f : CycleFrame) (extra : List Dword) (endWord : Dword),
    endChecks p f extra endWord = false → exec (.cycleFrameReceive l p f ⟨extra, endWord⟩) s = .next s) ∧
  (∀ (p : LaneId) (f : CycleFrame) (extra : List Dword) (endWord : Dword), endChecks p f extra endWord = true ↔
    let ws := frameBody p f ++ extra.map (·.toNat)
    endWord.toNat % 2 ^ 32 = crc32c (ws.flatMap wordBytes) ∧
      endWord.toNat / 2 ^ 32 % 2 ^ 8 = countRecords extra.length (extra.map (·.toNat))) ∧
  (∀ (s : State) (l : LaneId) (i : Nat),
    (s.lane l).vote.tx.findIdx? (fun x => x.num.isSome && !x.spare && !((s.lane l).peer x.dest).failed.2) = some i →
    exec (.frameRetransmit l) s = .next (s.setLane l
      { s.lane l with vote := { (s.lane l).vote with tx := (s.lane l).vote.tx.modify i (fun x => { x with spare := true }) } })) ∧
  (∀ (s : State) (l lost : LaneId) (src : Arrival), (s.lane l).accepts src = true →
    exec (.linkLossReceive l src lost) s = .next (s.setLane l (((s.lane l).heard src 1).lossReceive src.lane lost))) ∧
  (∀ (s : State) (l : LaneId) (src : Arrival), (s.lane l).accepts src = true →
    let x := (s.lane l).heard src 1
    exec (.attribReceive l src) s = .next (s.setLane l
      (({ x with vote := { x.vote with peerAttr := setBit x.vote.peerAttr src.lane.num true } } : LaneSt).excludePeer src.lane
        causeSelfAttributed))) ∧
  (∀ (s : State) (l : LaneId) (src : Arrival) (b : Bool), (s.lane l).accepts src = true →
    let x := (s.lane l).heard src 1
    x.id = l → (x.peer src.lane).proofSent.isSome = true →
    let y := x.setPeer src.lane (fun v => { v with proofSent := none })
    exec (.proofResultReceive l src l b) s = .next (s.setLane l
      (if b then y else (y.requestExclusion src.lane causePeerVoter).fault 0x046 src.lane.num)))

/-- A stopped ALIVE excludes the peer at once and holds the references. PEER_ALIVE_STOP of a peer that is MEMBER, in a
sound MEMBER lane outside SAFE, leaves the peer EXCLUDED in the lane's view, or DEAD when its readmissions are used up
(READMITS = READMIT.MAX) and the cause is not HOST_RESET; ALIVE of the peer shows stopped and REF_HELD is set. Other
lanes are untouched. (R102, R104, R106, R113, R378) -/
def Obligations.AliveStopExcludesThePeer : Prop :=
  ∀ (s : State) (l p : LaneId), State.Canon s → p ≠ l → (s.lane l).isMember = true → ((s.lane l).peer p).memb = 0 →
    (s.lane l).inSafe = false →
    ∃ x, exec (.peerAliveStop l p) s = .next (s.setLane l x) ∧
      (x.peer p).memb = (if ((s.lane l).wr ((s.lane l).aliveF p) 0).peerCause p ≠ causeHostReset ∧
        ((s.lane l).blkOf p).readmits = (s.lane l).rd VOTE.READMIT.MAX then 3 else 1) ∧
      x.on VOTE.STATUS.REF_HELD = true ∧ x.on (x.aliveF p) = false

/-- Attribution, fault events of peers and controlled stops complete. With attribution running: a lane one of whose
checks of R107 finds a fault of its own (the thresholds of the checks are the model's, log entry 51) sends ATTRIB with
the checks and excludes itself with SELF_ATTRIBUTED (or, in DUPLEX with the peer attributed too, enters SAFE); one
that finds none enters SAFE in DUPLEX unless its peer attributed the fault, and in TRIPLE waits for the next vote.
With a machine stop running and every channel at rest, CONTROLLED_STOP_END ends the stops whose channels rest and the
machine's; STOP_TMAX_EXPIRED ends every stop where its channels are. In both cases STOPPING is cleared at the end of
the machine's stop. An accepted FLT_EVENT with reaction LANE_FATAL or EXCL_REQ takes its sender out of the membership
with cause SELF_FATAL, PEER_TIME (for 0x066) or SELF_REQUEST. (R100, R103, R107, R114, R116, 04 Outcomes) -/
def Obligations.AttributionAndStopsComplete : Prop :=
  (∀ (s : State) (l : LaneId) (found : Bool), (s.lane l).on VOTE.STATUS.ATTRIBUTING = true →
    let checks := s.ownChecks l + 64 * b2n found
    let x : LaneSt := { (s.lane l).wr VOTE.STATUS.ATTRIBUTING 0 with vote := { ((s.lane l).wr VOTE.STATUS.ATTRIBUTING 0).vote with
      attrTriple := false, selfDis := 0, noMaj := 0 } }
    let y := x.peers.foldl (fun x p => x.setPeer p (fun v => { v with dis := 0 })) x
    let z := y.send 0x07 0 [1 + 2 ^ 8 * checks]
    (checks ≠ 0 → (s.lane l).vote.attrTriple = false → z.vote.peerAttr ≠ 0 →
      exec (.attributionEnd l found) s = .next (s.setLane l (z.enterSafe 2))) ∧
    (checks ≠ 0 → ((s.lane l).vote.attrTriple = true ∨ z.vote.peerAttr = 0) →
      exec (.attributionEnd l found) s = .next (s.setLane l
        { z.exclude causeSelfAttributed with vote := { (z.exclude causeSelfAttributed).vote with attrSelf := true } })) ∧
    (checks = 0 → (s.lane l).vote.attrTriple = true →
      exec (.attributionEnd l found) s = .next (s.setLane l { y with vote := { y.vote with noMajWait := true } })) ∧
    (checks = 0 → (s.lane l).vote.attrTriple = false → y.vote.peerAttr ≠ 0 →
      exec (.attributionEnd l found) s = .next (s.setLane l y)) ∧
    (checks = 0 → (s.lane l).vote.attrTriple = false → y.vote.peerAttr = 0 →
      exec (.attributionEnd l found) s = .next (s.setLane l (y.enterSafe 2)))) ∧
  (∀ (s : State) (l : LaneId),
    let stops (force : Bool) (x : LaneSt) : LaneSt := (List.range 16).foldl (fun x f =>
      if x.on (SIO.SF_STATUS.STOPPING f) ∧ (force ∨ x.allRest (x.rd (SIO.SF_CTRL.STOP_MAP f))) then x.sfStopEnd f else x) x
    ((stops false (s.lane l)).on VOTE.STATUS.STOPPING = true → (stops false (s.lane l)).allRest 0xFF = true →
      exec (.controlledStopEnd l) s = .next (s.setLane l (stops false (s.lane l)).stopDone)) ∧
    ((stops true (s.lane l)).on VOTE.STATUS.STOPPING = true →
      exec (.stopTmaxExpired l) s = .next (s.setLane l (stops true (s.lane l)).stopDone)) ∧
    (∀ x : LaneSt, x.on VOTE.STATUS.STOPPING = true → x.stopDone =
      (((((List.range 8).foldl (fun x n => if (x.ch n).sfStop = 0 then x.stopEnd n else x) x).wr VOTE.STATUS.STOPPING 0).judgeOutputs).raise 2 4))) ∧
  (∀ (s : State) (l : LaneId) (src : Arrival) (e : BitVec 72) (total : Word), (s.lane l).accepts src = true →
    let x := (s.lane l).heard src 1
    let code := e.toNat / 2 ^ 54 % 2 ^ 10
    let reaction := e.toNat / 2 ^ 51 % 8
    (reaction = 4 → exec (.fltEventReceive l src e total) s = .next (s.setLane l (x.excludePeer src.lane causeSelfFatal))) ∧
    (reaction = 3 → exec (.fltEventReceive l src e total) s = .next (s.setLane l
      (x.excludePeer src.lane (if code = 0x066 then causePeerTime else causeSelfRequest)))))

/-- Every step of a readmission completes. An EXCLUDED lane whose REJOIN has elapsed, or whose waiting proof is
checked again, releases its full proof (or waits while a shorted bridge runs above crossover). A readmission proof
that passes rebuilds the lane and waits for time alignment, one that fails makes it DEAD; a start-up proof that passes
brings the lane up. Aligned to the members' median, the lane takes the static bytes and, of what that MEMBER captured
at its boundary, the dynamic parts from the lowest-lettered MEMBER, and meanwhile a copy of each descriptor that the
members execute with the instant of its effect; a MEMBER that waits for the bytes of a descriptor takes a copy with
the agreed fingerprint; a transfer that passes its check starts SHADOW, one that fails is repeated once, then makes
the lane DEAD. A SHADOW that runs out of time is DEAD. (R102, R108, R109, R110, R111, R384, R385, R386) -/
def Obligations.ReadmissionStepsComplete : Prop :=
  (∀ (s : State) (l : LaneId), (s.lane l).self = 1 → (s.lane l).vote.readmit = .waitRejoin →
    exec (.readmissionStart l) s = .next (s.setLane l (s.lane l).proofBegin)) ∧
  (∀ (s : State) (l : LaneId), (s.lane l).vote.readmit = .proofWait →
    exec (.proofWaitRecheck l) s = .next (s.setLane l (s.lane l).proofBegin)) ∧
  (∀ (s : State) (l : LaneId) (fail : Option (Fin 9)) (links : BitVec 4), (s.lane l).answers →
    let readmission := (s.lane l).vote.readmit = .proof ∧ (s.lane l).on BIST.STATUS.FULL_RUNNING = true
    let startUp := ¬ readmission ∧ (s.lane l).rd PWR.STATUS.STATE = 0 ∧ 2 ≤ (s.lane l).rd BIST.LAST_FULL.RESULT
    (readmission → fail ≠ none →
      exec (.fullProofComplete l fail links) s = .next (s.setLane l ((s.lane l).readmissionProof fail))) ∧
    (readmission → fail = none →
      exec (.fullProofComplete l fail links) s = .next ((s.setLane l ((s.lane l).readmissionProof none)).linksPassed l links.toNat)) ∧
    (startUp → fail ≠ none →
      exec (.fullProofComplete l fail links) s = .next (s.setLane l ((s.lane l).startupProof fail))) ∧
    (startUp → fail = none →
      exec (.fullProofComplete l fail links) s = .next ((s.setLane l ((s.lane l).startupProof none)).linksPassed l links.toNat))) ∧
  (∀ (s : State) (l j : LaneId), (s.lane l).self = 1 → (s.lane l).vote.readmit = .align → s.donor l = some j →
    let x := (s.lane l).setTime (s.memberTime l)
    exec (.readmitTimeAligned l) s = .next ((s.setSnap l none).setLane l
      { x with vote := { x.vote with readmit := .static, transfer := [], transferParts := 0 } })) ∧
  (∀ (s : State) (l : LaneId) (src : Arrival) (bs : List Byte), (s.lane l).accepts src = true →
    let x := (s.lane l).heard src (frameCount bs)
    x.vote.readmit = .static → s.donor l = some src.lane →
    exec (.bulkStaticState l src bs) s = .next (s.setLane l { x with vote := { x.vote with transfer := x.vote.transfer ++ bs } })) ∧
  (∀ (s : State) (l : LaneId) (src : Arrival) (part : Fin 11) (snap : Snapshot), (s.lane l).accepts src = true →
    let x := (s.lane l).heard src 1
    (x.vote.readmit = .static ∨ x.vote.readmit = .dynamic) → s.donor l = some src.lane → s.snapOf l = some snap →
    let y := x.takePart snap part.val
    exec (.bulkDynamicState l src part) s = .next (s.setLane l { y with vote := { y.vote with
      readmit := .dynamic, transferParts := setBit y.vote.transferParts part.val true } })) ∧
  (∀ (s : State) (l : LaneId) (src : Arrival) (sg : Fin 16) (seq : Word) (bs : List Byte) (at_ : Option Nat),
    (s.lane l).accepts src = true →
    let x := (s.lane l).heard src 1
    let c := x.copiesOf sg.val seq.toNat
    (∀ w, x.isMember = true → c.wantCopy = some w → c.agreed = some (descFp sg.val bs) →
      exec (.bulkDescriptorCopy l src sg seq ⟨bs, at_⟩) s = .next (s.setLane l
        ((x.putCopies { c with wantCopy := none }).pushDecided (decidedAs sg.val seq.toNat bs w)))) ∧
    (x.isMember = false → (x.vote.readmit = .dynamic ∨ x.self = 2) →
      exec (.bulkDescriptorCopy l src sg seq ⟨bs, at_⟩) s = .next (s.setLane l
        (x.pushDecided { decided sg.val seq.toNat bs 0 false with instant := at_ })))) ∧
  (∀ (s : State) (l j : LaneId), ((s.lane l).vote.readmit = .dynamic ∨ (s.lane l).vote.readmit = .static) → s.donor l = some j →
    exec (.stateTransferComplete l) s = .next ((s.setSnap l none).setLane l
      (if s.transferOk l (s.lane j) = true then (s.lane l).startShadow (s.lane j) (((s.snapOf l).map (·.donor)).getD (s.lane j))
       else if 1 ≤ (s.lane l).vote.transferFails then (s.lane l).readmitFailed
       else { s.lane l with vote := { (s.lane l).vote with
         readmit := .static, transferFails := 1, transfer := [], transferParts := 0 } }))) ∧
  (∀ (s : State) (l : LaneId), (s.lane l).self = 2 → exec (.shadowTimeout l) s = .next (s.setLane l (s.lane l).readmitFailed))

/-- A failed readmission makes the lane DEAD with cause READMIT_FAILED. Outside SAFE, SHADOW_TIMEOUT of a SHADOW lane,
a second failed state transfer, and a failed readmission proof leave the lane DEAD with cause READMIT_FAILED (0x0B),
its ALIVE stopped and no readmission under way. (A fault that the failed proof records, R384, may not take it out of
DEAD.) (R102, R480, 04 Membership state machine of one lane) -/
def Obligations.FailedReadmissionIsDead : Prop :=
  ∀ (s : State) (l : LaneId), State.Canon s → (s.lane l).inSafe = false →
    let dead (x : LaneSt) : Prop := x.self = 3 ∧ x.rd VOTE.STATUS.CAUSE = 0x0B ∧ x.on FLT.STATUS.ALIVE_RUN = false ∧
      x.vote.readmit = .none
    ((s.lane l).self = 2 → ∃ x, exec (.shadowTimeout l) s = .next (s.setLane l x) ∧ dead x) ∧
    (∀ j, ((s.lane l).vote.readmit = .dynamic ∨ (s.lane l).vote.readmit = .static) → s.donor l = some j →
      s.transferOk l (s.lane j) = false → 1 ≤ (s.lane l).vote.transferFails →
      ∃ x, exec (.stateTransferComplete l) s = .next ((s.setSnap l none).setLane l x) ∧ dead x) ∧
    (∀ step links, (s.lane l).answers → (s.lane l).vote.readmit = .proof → (s.lane l).on BIST.STATUS.FULL_RUNNING = true →
      ∃ x, exec (.fullProofComplete l (some step) links) s = .next (s.setLane l x) ∧ dead x)

/-- Shutdowns of functions complete. A chopper leg whose shutdown runs, off and with its current below the threshold,
rests; a port whose shutdown runs is drained and no longer stopping; an output being shut with its dual-channel unit
enabled is confirmed. When they overrun, the leg is latched off as shorted with fault 0x18B, the port is taken down, a
pending enable cancelled, with the fault of its network (0x082 or 0x0A2) and the output takes its EDM fault (the
model's reading, log entry 26). A lane's own shutdown needs no step. (R32, R324, R265) -/
def Obligations.FunctionShutdownsComplete : Prop :=
  (∀ (s : State) (l : LaneId) (k : Fin 2), (s.lane l).chopperStops k.val = true → bit ((s.lane l).rd GATE.OV_STATUS.CHP_ON) k.val = false →
    10 * (s.lane l).rdI (ADC.RESULT.VALUE (50 + k.val)) < ((s.lane l).rd GATE.CHP_CTRL.OFF_I : Int) * 65536 →
    exec (.functionShutdownComplete l (.chopper k)) s = .next (s.setLane l ((s.lane l).chopperRests k.val))) ∧
  (∀ (s : State) (l : LaneId) (k : Fin 2), (s.lane l).chopperStops k.val = true →
    exec (.functionShutdownOverrun l (.chopper k)) s = .next (s.setLane l
      ((((s.lane l).chopperRests k.val).chpLatch k.val).fault 0x18B k.val))) ∧
  (∀ (s : State) (l : LaneId) (p : Fin 4), (s.lane l).portStopping p.val = true →
    exec (.functionShutdownComplete l (.port p)) s = .next (s.setLane l ((s.lane l).portRests p.val)) ∧
    exec (.functionShutdownOverrun l (.port p)) s = .next (s.setLane l
      ((((s.lane l).portRests p.val).setNet (fun n => { n with cancelled := setBit n.cancelled p.val true })).fault
        (if p.val < 2 then 0x082 else 0x0A2) (p.val % 2)))) ∧
  (∀ (s : State) (l : LaneId) k, bit (s.lane l).sio.shut k.val = true →
    ((s.lane l).on SIO.CTRL.EN = true →
      exec (.functionShutdownComplete l (.safetyOutput k)) s = .next (s.setLane l ((s.lane l).edmConfirm k.val))) ∧
    exec (.functionShutdownOverrun l (.safetyOutput k)) s = .next (s.setLane l ((s.lane l).edmFault k.val))) ∧
  (∀ (s : State) (l : LaneId), exec (.functionShutdownComplete l .lane) s = .next (s.setLane l (s.lane l)) ∧
    exec (.functionShutdownOverrun l .lane) s = .next (s.setLane l (s.lane l)))

/-! ## Profile generators and the loop engine (chapters 05, 06) -/

/-- Replans, timed entries, plan steps, latches and limit switches complete. At a replan instant or at the AT of a
queued entry every change of the generator that is due takes effect in order, each from the state the one before
leaves, and leaves its queue, whose length is shown: earlier instants first, at one instant LIMITS before SETPOINT and
of one opcode the timed before the untimed; a timed entry waits for a pending commit whose EPOCH is not after it.
PLAN_STEP of a configured generator checks for a reversal, turns into a stop where homing travel ends, loads the
plan's state at the step and settles an ended plan. A latch edge of a selected polarity captures the set-point, less
INC times the PWM clocks since the sample of the edge, counts and raises the channel's source 3. A limit edge of a
configured input latches, sets its HIT flag, fails a homing in its direction, replans to rest as HELD, aborts a tune
and records fault 0x122; the release clears the flag, and the generator leaves HELD when neither limit is active.
(R123, R125, R130, R131, R135, R136, R181) -/
def Obligations.ProfileEventsComplete : Prop :=
  (∀ (s : State) (l : LaneId) (g : Fin 16),
    let x := s.lane l
    let due := x.dueList g.val x.ns
    let y := x.setPg g.val (fun q => { q with
      queue := q.queue.filter (fun e => !(decide (e.1 ≤ x.ns) && !x.waitsEpoch e.1))
      reqs := q.reqs.filter (fun r => x.ns < r.1) })
    let z := (y.wr (PROF.STATUS.QUEUE g.val) (y.pg g.val).queue.length).applyAll g.val due.length due
    exec (.replan l g) s = .next (s.setLane l z) ∧ exec (.timedEntryApply l g) s = .next (s.setLane l z)) ∧
  (∀ (x : LaneSt) (g t : Nat) (e : Due), e ∈ x.dueList g t ↔
    e.t ≤ t ∧ ((e.timed = true ∧ (e.t, e.act) ∈ (x.pg g).queue ∧ x.waitsEpoch e.t = false) ∨
      (e.timed = false ∧ (e.t, e.act) ∈ (x.pg g).reqs))) ∧
  (∀ (x : LaneSt) (g k : Nat) (es : List Due), es ≠ [] →
    ∃ e ∈ es, (∀ f ∈ es, f.before e = false) ∧
      x.applyAll g (k + 1) es = (x.applyDue g e.t e.act).applyAll g k (es.erase e)) ∧
  (∀ a b : Due, a.before b = true ↔ a.t < b.t ∨ (a.t = b.t ∧
    ((a.act.isLimits = true ∧ b.act.isLimits = false) ∨
      (a.act.isLimits = b.act.isLimits ∧ a.timed = true ∧ b.timed = false)))) ∧
  (∀ (s : State) (l : LaneId) (g : Fin 16), (s.lane l).role g.val ≠ 0 → (s.lane l).rd (PROF.STATUS.STATE g.val) ≠ pgOff →
    let t := (s.lane l).stepNs
    let x := (s.lane l).reversalCheck g.val (nsUnits t)
    ((x.pg g.val).travelStop = none →
      exec (.planStep l g) s = .next (s.setLane l ((x.loadStep g.val t).planDone g.val t))) ∧
    (∀ k, (x.pg g.val).travelStop = some k → (t < k ∨ (x.pg g.val).hold ≠ none) →
      exec (.planStep l g) s = .next (s.setLane l ((x.loadStep g.val t).planDone g.val t))) ∧
    (∀ k, (x.pg g.val).travelStop = some k → k ≤ t → (x.pg g.val).hold = none →
      exec (.planStep l g) s = .next (s.setLane l
        ((((x.replanRest g.val k).wr (PROF.STATUS.STATE g.val) pgStopping).loadStep g.val t).planDone g.val t)))) ∧
  (∀ (s : State) (l : LaneId) (g : Fin 16) (rising : Bool), (s.lane l).role g.val = 1 →
    (s.lane l).rd (PROF.SW_CTRL.LATCH_SRC g.val) ≤ 8 →
    ((s.lane l).rd (PROF.SW_CTRL.LATCH_EDGE g.val) = 2 ∨ (s.lane l).rd (PROF.SW_CTRL.LATCH_EDGE g.val) = (if rising then 0 else 1)) →
    let x := s.lane l
    let q := x.pg g.val
    let clocks : Nat := match q.edge with
      | some (t, r) => if r = rising then (x.run - t) / 5 else 0
      | none => 0
    let at' := x.wrapPos g.val (q.acc + q.inc * ((x.ns - q.stepAt) / 5 : Nat) - q.inc * clocks)
    exec (.profLatchEdge l g rising) s = .next (s.setLane l
      ((((x.setPg g.val (fun q => { q with edge := none })).wrI (PROF.LATCH.VALUE g.val) at').inc
        (PROF.STATUS.LATCH_COUNT g.val)).raise (6 + g.val / 2) 3))) ∧
  (∀ (s : State) (l : LaneId) (g : Fin 16) (pos : Bool), (s.lane l).role g.val = 1 →
    (s.lane l).rd (if pos then PROF.SW_CTRL.LIMP_SRC g.val else PROF.SW_CTRL.LIMN_SRC g.val) < 8 →
    let x := s.lane l
    let q := x.pg g.val
    let here := q.acc + q.inc * ((x.ns - q.stepAt) / 5 : Nat)
    let y := (x.wr (if pos then PROF.STATUS.LIMP_HIT g.val else PROF.STATUS.LIMN_HIT g.val) 1).setPg g.val
      (fun q => { q with lim := if pos then (here, q.lim.2) else (q.lim.1, here) })
    let homing := q.home ≠ .none ∧ q.home ≠ .done ∧ (y.homeDir g.val = if pos then 1 else -1)
    let z := if homing then y.homeFail g.val 2 else y
    let w := (z.replanRest g.val z.stepNs).setPg g.val (fun q => { q with home := if homing then .none else q.home })
    exec (.limitSwitchEdge l g pos) s = .next (s.setLane l
      ((((w.wr (PROF.STATUS.STATE g.val) pgHeld).raise (6 + g.val / 2) 4).tuneAbort (g.val / 2) 0x77 4).fault 0x122 g.val))) ∧
  (∀ (s : State) (l : LaneId) (g : Fin 16) (pos : Bool),
    let x := (s.lane l).wr (if pos then PROF.STATUS.LIMP_HIT g.val else PROF.STATUS.LIMN_HIT g.val) 0
    exec (.limitSwitchRelease l g pos) s = .next (s.setLane l
      (if x.rd (PROF.STATUS.STATE g.val) = pgHeld ∧ x.on (PROF.STATUS.LIMP_HIT g.val) = false ∧
          x.on (PROF.STATUS.LIMN_HIT g.val) = false
       then x.wr (PROF.STATUS.STATE g.val) pgStopping else x)))

/-- Homing, timetables, slots, tunes and re-acquisitions complete. The reference edge of a searching generator latches
and stops it; the index of one that runs to it latches, becomes HOME_POS and stops it; a missing edge or index fails
the homing with cause 1 or 3. Outside HOLD a tick of a timetable that runs ends what an epoch left of the tick before,
samples its sources and reads their mailboxes. A slot is issued with the settings in force, in a tick that was in
progress at an epoch with those before it; a due slot in RUN or TUNE evaluates: its channel's angle first for a d/q
slot, then the law, the relay of a tune, or the discard of a failed residue check. A tune ends in every lane when the
lead has completed it or a member has aborted; TUNE_TIMEOUT aborts with TUNE_TIMEOUT (0x75). A winding whose
re-acquisition is out of time is switched off, counted, and reported as fault 0x106. (R137, R138, R140, R142, R143,
R148, R161, R165, R166, R190) -/
def Obligations.HomingAndLoopEventsComplete : Prop :=
  (∀ (s : State) (l : LaneId) (g : Fin 16),
    let x := s.lane l
    let y := x.setPg g.val (fun q => { q with homeRef := x.spPos g.val })
    ((x.pg g.val).home = .search → exec (.homingRefEdge l g) s = .next (s.setLane l (y.homeStop g.val
      (if 3 ≤ x.rd (PROF.HOME_CTRL.MODE g.val) then .indexStop else .refStop)))) ∧
    ((x.pg g.val).home = .toIndex →
      exec (.homingIndex l g) s = .next (s.setLane l ((y.homeFinish g.val).homeStop g.val .done))) ∧
    ((x.pg g.val).home = .search → exec (.homingNoEdge l g) s = .next (s.setLane l (x.homeFail g.val 1))) ∧
    ((x.pg g.val).home = .toIndex ∨ (x.pg g.val).home = .indexStop →
      exec (.homingNoIndex l g) s = .next (s.setLane l (x.homeFail g.val 3)))) ∧
  (∀ (s : State) (l : LaneId) (t : Fin 4), (s.lane l).rd (LOOP.TT_CTRL.SRC t.val) ≠ 0 → (s.lane l).rd (LOOP.TT_CTRL.SRC t.val) ≠ 3 →
    (s.lane l).inHold = false →
    let x := (List.range 8).foldl LaneSt.showTorque (((s.lane l).endOldTick t.val).lateResults t.val)
    let k : TickSt := { count := (x.tt t.val).count + 1, k := x.tickIndex t.val, samples := x.tickSamples t.val, old := false }
    exec (.timetableTick l t) s = .next (s.setLane l
      { x.readMail t.val with loop := { x.loop with tick := x.loop.tick.setIfInBounds t.val k } })) ∧
  (∀ (s : State) (l : LaneId) (n : Fin 128) (bad : Bool), (s.lane l).inHold = false →
    let x := s.lane l
    let o := x.swapSetup
    ((x.tt (o.rd (LOOP.ENTRY.TT n.val))).old = true → exec (.slotIssue l n bad) s = .next (s.setLane l
      (((o.issueNow n.val bad).swapSetup).carryKept n.val))) ∧
    ((x.tt (o.rd (LOOP.ENTRY.TT n.val))).old = false → (x.tt (x.rd (LOOP.ENTRY.TT n.val))).old = false →
      exec (.slotIssue l n bad) s = .next (s.setLane l (x.issueNow n.val bad)))) ∧
  (∀ (x : LaneSt) (n : Nat), x.slotDue n = true →
    let t := x.rd (LOOP.ENTRY.TT n)
    let c := x.rd (LOOP.ROUTE.INDEX n)
    let y := if x.isDq n = true ∧ (x.ang c).tick ≠ (x.tt t).count then x.commEval c t else x
    let z := y.setSlot n (fun q => { q with tick := (y.tt t).count })
    let done (w : LaneSt) := if w.isDq n then w.afterDq c t else w
    (x.rd (LOOP.STATUS.STATE n) = 1 ∨ x.rd (LOOP.STATUS.STATE n) = 2 →
      x.issueNow n true = done (z.residueFail n)) ∧
    (x.rd (LOOP.STATUS.STATE n) = 1 →
      x.issueNow n false = done ((z.wr (LOOP.STATUS.RESIDUE_ERR n) 0).lawEval n t)) ∧
    (∀ u, x.rd (LOOP.STATUS.STATE n) = 2 →
      (z.wr (LOOP.STATUS.RESIDUE_ERR n) 0).tune ((z.wr (LOOP.STATUS.RESIDUE_ERR n) 0).rd (LOOP.CTRL.CH n)) = some u →
      x.issueNow n false = done ((z.wr (LOOP.STATUS.RESIDUE_ERR n) 0).relayEval n t u))) ∧
  (∀ (s : State) (l : LaneId) (n : Fin 128) (t : TuneSt), (s.lane l).tune ((s.lane l).rd (LOOP.CTRL.CH n.val)) = some t → t.slot = n.val →
    let c := (s.lane l).rd (LOOP.CTRL.CH n.val)
    (∀ st det res r, s.tuneEnds l c = some (st, det, res, r) →
      exec (.tuneEnd l n) s = .next (LaneId.all.foldl (fun s j => s.setLane j ((s.lane j).tuneFinish c st det res r)) s)) ∧
    exec (.tuneTimeout l n) s = .next (s.setLane l ((s.lane l).tuneAbort c 0x75 t.done.length))) ∧
  (∀ (s : State) (l : LaneId) (n : Fin 8), (s.lane l).rd (COMM.STATUS.WSTATE n.val) = 4 → ((s.lane l).gateCh n.val).resume = false →
    exec (.obsReacqTimeout l n) s = .next (s.setLane l
      ((((s.lane l).windingOff n.val).satInc 8 (COMM.COUNTS2.REACQ_FAIL n.val)).fault 0x106 n.val)))

/-- A step pulse takes one step off the backlog. In a sound lane, with the step output of a MOTION generator enabled
and not stopped, STEP_BACKLOG not 0, HIGH + LOW elapsed since the last pulse and SETUP since the direction line
changed, STEP_PULSE_EMIT moves STEP_BACKLOG one step towards 0, starts a pulse on the step line and sets STEP_OVERRUN
to whether more than 64 steps are still owed. Every other generator's backlog, the plan and the set-point are as
before, and so is every other lane. Where one of these conditions fails nothing changes. (R139, 05 PROF step output)
-/
def Obligations.StepPulseTakesOneStep : Prop :=
  ∀ (s : State) (l : LaneId) (g : Fin 16), State.Canon s →
    let x := s.lane l
    let b := x.rdI (PROF.STEP_BACKLOG.STEPS g.val)
    let due := x.on (PROF.STEP_CTRL.EN g.val) = true ∧ x.role g.val = 1 ∧ (x.pg g.val).stepStop = false ∧ b ≠ 0 ∧
      (∀ t, (x.pg g.val).pulseAt = some t →
        t + 5 * (x.rd (PROF.STEP_CTRL.HIGH g.val) + x.rd (PROF.STEP_CTRL.LOW g.val)) ≤ x.run) ∧
      (∀ t, (x.pg g.val).dirAt = some t → t + 5 * x.rd (PROF.STEP_CTRL.SETUP g.val) ≤ x.run)
    (due → ∃ y, exec (.stepPulseEmit l g) s = .next (s.setLane l y) ∧
      y.rdI (PROF.STEP_BACKLOG.STEPS g.val) = (if 0 < b then b - 1 else b + 1) ∧
      y.on (PROF.STATUS.STEP_OVERRUN g.val) = decide (64 < (y.rdI (PROF.STEP_BACKLOG.STEPS g.val)).natAbs) ∧
      (y.pg g.val) = { x.pg g.val with pulseAt := some x.run } ∧
      (∀ o, o < 16 → o ≠ g.val → y.rdI (PROF.STEP_BACKLOG.STEPS o) = x.rdI (PROF.STEP_BACKLOG.STEPS o) ∧ y.pg o = x.pg o) ∧
      y.rdI (PROF.POS.VALUE g.val) = x.rdI (PROF.POS.VALUE g.val) ∧ y.rdI (PROF.VEL.VALUE g.val) = x.rdI (PROF.VEL.VALUE g.val)) ∧
    (¬ due → exec (.stepPulseEmit l g) s = .next s)

/-- A pipeline rotation keeps every logical pipeline on its own physical one. In a sound lane outside HOLD whose four
logical pipelines and the spare are five different physical pipelines, none retired, PIPE_ROTATION makes the physical
pipeline that follows the spare in the order P0 to P4 the new spare; the logical pipeline it served runs on the old
spare, and every other logical pipeline stays where it was. So the five are again all different. Other lanes are
untouched. (R142, R144) -/
def Obligations.PipeRotationKeepsThePipelinesApart : Prop :=
  ∀ (s : State) (l : LaneId), State.Canon s →
    let x := s.lane l
    let sp := x.rd LOOP.PIPE_STATUS.SPARE
    x.inHold = false → sp < 5 → x.rd LOOP.PIPE_STATUS.RETIRED = 0 →
    (∀ i, i < 4 → x.rd (logicalF i) < 5 ∧ x.rd (logicalF i) ≠ sp) →
    (∀ i j, i < 4 → j < 4 → x.rd (logicalF i) = x.rd (logicalF j) → i = j) →
    ∃ y, exec (.pipeRotation l) s = .next (s.setLane l y) ∧
      y.rd LOOP.PIPE_STATUS.SPARE = (sp + 1) % 5 ∧
      (∀ i, i < 4 → y.rd (logicalF i) = if x.rd (logicalF i) = (sp + 1) % 5 then sp else x.rd (logicalF i)) ∧
      (∀ i j, i < 4 → j < 4 → y.rd (logicalF i) = y.rd (logicalF j) → i = j) ∧
      (∀ i, i < 4 → y.rd (logicalF i) ≠ y.rd LOOP.PIPE_STATUS.SPARE)

/-! ## Channels and feedback (chapters 07, 08) -/

/-- Every step of a start-up and a shutdown of a channel completes. In STARTING, each event in its step: the contactor
ready in step 2 goes to the scan or the charge; the charge done in step 4 goes to the acquisition, when no port source
is valid and ALIGN.EN is 1, or to step 6; the acquisition starts, ends and the start-up boundary and its completion
come when every member has come that far; an alignment's hold ends with its port in TRACK, or fails with START_ERR
0x0A; an exhausted index search fails likewise; a time-out fails with the code of its step. A shutdown parks its
winding at the next valley, then ends once every member's winding has rested; overrun, the safe state is forced and
fault 0x10D recorded. A held reversal is released, and one held longer than TMO.REV recorded as fault 0x109; a speed
above 1.125 times the limit is fault 0x10A. (R181, R182, R178, R193, R194, R195, R196) -/
def Obligations.ChannelStepsComplete : Prop :=
  (∀ (s : State) (l : LaneId) (n : Fin 8), (s.lane l).chState n.val = 1 →
    let x := s.lane l
    (((x.ch n.val).step = 2 → x.phaseIsoReady n.val = true →
      exec (.startupContactorReady l n) s = .next (s.setLane l (x.scanPhase n.val)))) ∧
    ((x.ch n.val).step = 4 →
      let y := if x.rd (COMM.STATUS.WSTATE n.val) = 5 then x.windingOff n.val else x
      exec (.bootstrapChargeDone l n) s = .next (s.setLane l (y.setStep n.val
        (if !(y.portValid n.val false || y.portValid n.val true) && y.on (COMM.ALIGN.EN n.val) then 5 else 6)))) ∧
    (x.isMember = true → (x.ch n.val).step = 5 → (x.ang n.val).acq = 0 → s.allAt l n.val (fun c _ => 5 ≤ c.step) = true →
      exec (.angleAcquisitionStart l n) s = .next (s.setLane l (x.acquire n.val))) ∧
    ((x.ang n.val).acq = 2 →
      let p := x.rd (COMM.SRC.PORT_P n.val)
      (x.on (FBK.CTRL.IDX_EN p) = true ∨ x.rd (FBK.STATUS.STATE p) ≠ 1 →
        exec (.alignHoldExpired l n) s = .next (s.setLane l ((x.windingSafe n.val).startFail n.val 0x0A))) ∧
      (x.on (FBK.CTRL.IDX_EN p) = false → x.rd (FBK.STATUS.STATE p) = 1 →
        let y := ((x.wrI (FBK.INDEX_REF.VALUE p) (((x.rd (FBK.ANGLE_CNT.VALUE p) : Int) - x.rd (COMM.ZERO_P.COUNT n.val))
          % (x.cprCh n.val : Int))).wr (FBK.STATUS.IDX_SEEN p) 1).setPort p (fun q => { q with seeded := true })
        exec (.alignHoldExpired l n) s = .next (s.setLane l
          ((y.setPortState p 2).setAng n.val (fun a => { a with acq := 3 })))) ∧
      (x.on (FBK.CTRL.IDX_EN p) = true →
        exec (.alignSearchExhausted l n) s = .next (s.setLane l ((x.windingSafe n.val).startFail n.val 0x0A)))) ∧
    (x.isMember = true → (x.ch n.val).step = 5 → (x.ang n.val).acq = 3 →
      s.allAt l n.val (fun c a => 6 ≤ c.step || a.acq = 3) = true →
      exec (.acquisitionEnd l n) s = .next (s.setLane l (x.setStep n.val 6))) ∧
    (x.isMember = true → (x.ch n.val).step = 6 → s.faultDue l n.val = false → s.allAt l n.val (fun c _ => 6 ≤ c.step) = true →
      exec (.channelStartupBoundary l n) s = .next (s.setLane l (x.startBoundary n.val (s.votedPos l n.val)))) ∧
    (x.isMember = true → (x.ch n.val).step = 7 → s.faultDue l n.val = false → s.allAt l n.val (fun c _ => 7 ≤ c.step) = true →
      exec (.channelStartupComplete l n) s = .next (s.setLane l (x.startComplete n.val))) ∧
    ((x.ch n.val).step ≠ 0 ∨ (x.ch n.val).fromHold = true →
      exec (.startTimeout l n) s = .next (s.setLane l ((x.windingSafe n.val).startFail n.val
        (if (x.ch n.val).step = 2 then 7 else if (x.ch n.val).step = 5 then 0x0A else 9))))) ∧
  (∀ (s : State) (l : LaneId) (n : Fin 8), (s.lane l).chState n.val = 4 →
    let x := s.lane l
    (s.faultDue l n.val = false → (x.genRests (2 * n.val) && x.genRests (2 * n.val + 1)) = true →
      (x.hasRested n.val = false → exec (.channelShutdownComplete l n) s =
        .next (s.setLane l (x.setGateCh n.val (fun g => { g with park := true })))) ∧
      (x.hasRested n.val = true →
        (s.membersOf l).all (fun j => (s.lane j).chState n.val ≠ 4 || (s.lane j).hasRested n.val) = true →
        exec (.channelShutdownComplete l n) s = .next (s.setLane l (x.shutdownEnd n.val)))) ∧
    exec (.shutdownOverrun l n) s = .next (s.setLane l ((x.cut n.val 0 false).fault 0x10D n.val))) ∧
  (∀ (s : State) (l : LaneId) (n : Fin 8) (h : Nat), ((s.lane l).pg (2 * n.val)).hold = some h →
    let x := s.lane l
    (x.slowEnough n.val = true →
      let g := 2 * n.val
      let y := (x.dropHold g).setPg g (fun q => { q with
        plan := q.plan.map (fun z => if h ≤ z.t then { z with t := z.t + (x.time.now - h) } else z) })
      let z := if (y.pg g).travelStop.isNone then y else y.setPg g (fun q => { q with
        travelStop := y.travelStopAt g y.stepNs (y.pg g).plan ((planEnd (y.pg g).plan).elim 0 (·.v)) })
      exec (.reversalRelease l n) s = .next (s.setLane l ((z.showPlanEnd g).satInc 8 (COMM.COUNTS2.REVERSALS n.val)))) ∧
    (h + 10 ^ 7 * x.rd (COMM.TMO.REV n.val) * 2 ^ 32 < x.time.now →
      exec (.reversalStall l n) s = .next (s.setLane l (x.fault 0x109 n.val)))) ∧
  (∀ (s : State) (l : LaneId) (n : Fin 8), 9 * (s.lane l).speedLimitNow n.val < 8 * ((s.lane l).chSpeed n.val).natAbs →
    exec (.overspeed l n) s = .next (s.setLane l ((s.lane l).fault 0x10A n.val)))

/-- Transitions, double steps, indexes, Hall states and frames complete. Lines act through their filter of FILT + 1
samples. On a counting QUAD port: a change of exactly one filtered level adds one count in the ×4 sense inverted by
DIR; a change of both counts a double and follows the gap rule; a rising edge of an enabled filtered index goes to the
generators that take it, latches the position, is the reference the first time, and is checked against IDX.TOL
afterwards. On a counting HALL port a new invalid state counts an error (fault 0x146), the first valid sector seeds
the count, a sector one further is a decoded step, one two further in the direction of travel follows the gap rule,
another is lost. On SSI a trigger outside MONO with no frame running starts one; at its end the sampled bits are a
position or an error (fault 0x147). On SENT a frame whose pulses fail a check counts an error, a good one stores its
slow-channel message and is applied as its value. In every mode a mismatch of the second decoder then bypasses a
counting port with fault 0x149. (R209, R210, R211, R213, R214, R215, R216, R217) -/
def Obligations.FeedbackDecodingCompletes : Prop :=
  let judged (x : LaneSt) (p : Nat) (m : Bool) : LaneSt := if (m && x.portCounts p) = true then (x.bypass p).fault 0x149 p else x
  (∀ (s : State) (l : LaneId) (p : Fin 24) (a b : Bool) (held : Nat) (m : Bool), (s.lane l).rd (FBK.CTRL.MODE p.val) = 1 →
    let x := s.lane l
    let a0 := x.level p.val 0
    let b0 := x.level p.val 1
    let y := (x.line p.val 0 a held).line p.val 1 b held
    y.portCounts p.val = true →
    (a = a0 ∨ b = b0 →
      ((y.level p.val 0 ≠ a0 ∧ y.level p.val 1 = b0) ∨ (y.level p.val 0 = a0 ∧ y.level p.val 1 ≠ b0) →
        let up := if y.level p.val 0 ≠ a0 then a0 = b0 else a0 ≠ b0
        exec (.quadTransition l p a b ⟨held, m⟩) s = .next (s.setLane l
          (judged (y.decodedStep p.val (if up ≠ (y.on (FBK.CTRL.DIR p.val) = true) then 1 else -1)) p.val m))) ∧
      (y.level p.val 0 = a0 ∧ y.level p.val 1 = b0 →
        exec (.quadTransition l p a b ⟨held, m⟩) s = .next (s.setLane l (judged y p.val m)))) ∧
    (a ≠ a0 → b ≠ b0 → y.level p.val 0 ≠ a0 → y.level p.val 1 ≠ b0 →
      exec (.doubleStep l p held m) s =
        .next (s.setLane l (judged ((y.satInc 10 (FBK.COUNTS.DOUBLES p.val)).gapRule p.val) p.val m)))) ∧
  (∀ (s : State) (l : LaneId) (p : Fin 24) (held : Nat), (s.lane l).rd (FBK.CTRL.MODE p.val) = 1 →
    (s.lane l).on (FBK.CTRL.IDX_EN p.val) = true → (s.lane l).level p.val 2 = false →
    let w := (s.lane l).line p.val 2 true held
    w.level p.val 2 = true → w.portCounts p.val = true →
    let x := (w.handEdge 8 p.val true).wrI (FBK.IDX_LATCH.VALUE p.val) (w.latchPos p.val)
    let note (k : Nat) (z : LaneSt) : LaneSt := z.setPort p.val (fun q => { q with idxAt := some (z.sample, k) })
    let cnt := x.rd (FBK.ANGLE_CNT.VALUE p.val)
    (x.on (FBK.STATUS.IDX_SEEN p.val) = false →
      let y := note 0 ((x.wr (FBK.INDEX_REF.VALUE p.val) cnt).wr (FBK.STATUS.IDX_SEEN p.val) 1)
      exec (.indexPulse l ⟨p, true, held⟩) s = .next (s.setLane l
        (if y.rd (FBK.STATUS.STATE p.val) = 1 then (y.setPortState p.val 2).searchEnds p.val else y))) ∧
    (x.on (FBK.STATUS.IDX_SEEN p.val) = true →
      let err := signedMod ((cnt : Int) - x.rd (FBK.INDEX_REF.VALUE p.val)) (x.cprOf p.val)
      exec (.indexPulse l ⟨p, true, held⟩) s = .next (s.setLane l
        (if err.natAbs ≤ x.rd (FBK.IDX.TOL p.val) then
           (if (note 1 x).rd (FBK.STATUS.STATE p.val) = 3 then ((note 1 x).wr (FBK.STATUS.LOST p.val) 0).setPortState p.val 2
            else note 1 x)
         else ((note 2 x).setPortState p.val 3).fault 0x145 p.val)))) ∧
  (∀ (s : State) (l : LaneId) (p : Fin 24) (h : BitVec 3) (held : Nat) (m : Bool), (s.lane l).rd (FBK.CTRL.MODE p.val) = 2 →
    let x := (((s.lane l).line p.val 0 (bit h.toNat 0) held).line p.val 1 (bit h.toNat 1) held).line p.val 2 (bit h.toNat 2) held
    let now := x.rd (FBK.STATUS.LINES p.val)
    x.portCounts p.val = true → ((s.lane l).rd (FBK.STATUS.LINES p.val) ≠ now ∨ (x.port p.val).sector = none) →
    (hallSector now = none →
      exec (.hallState l p ⟨h, held, m⟩) s =
        .next (s.setLane l (judged ((x.satInc 10 (FBK.COUNTS.ERRORS p.val)).fault 0x146 p.val) p.val m))) ∧
    (∀ c, hallSector now = some c → (x.port p.val).sector = none →
      exec (.hallState l p ⟨h, held, m⟩) s = .next (s.setLane l
        (judged ((x.setPort p.val (fun q => { q with sector := some c })).seed p.val c) p.val m))) ∧
    (∀ c c0 d, hallSector now = some c → (x.port p.val).sector = some c0 → signedMod ((c : Int) - c0) 6 = d →
      let y := x.setPort p.val (fun q => { q with sector := some c })
      exec (.hallState l p ⟨h, held, m⟩) s = .next (s.setLane l (judged
        (if d = 0 then y else if d = 1 ∨ d = -1 then y.decodedStep p.val d
         else if (d = 2 ∨ d = -2) ∧ decide (d < 0) = y.on (FBK.STATUS.DIR p.val) then y.gapRule p.val
         else y.loseStep p.val) p.val m)))) ∧
  (∀ (s : State) (l : LaneId) (p : Fin 24), (s.lane l).rd (FBK.CTRL.MODE p.val) = 3 → (s.lane l).portCounts p.val = true →
    let x := s.lane l
    ((∀ t, (x.port p.val).ssiEnd = some t → t + x.rd (FBK.SSI_TRIG.MONO p.val) * 100 ≤ x.sample) → (x.port p.val).ssiAt = none →
      exec (.ssiTrigger l p) s = .next (s.setLane l (x.setPort p.val (fun q => { q with ssiAt := some x.sample })))) ∧
    (∀ (runs : List (Bool × Nat)) (m : Bool), (x.port p.val).ssiAt.isSome = true →
      let bits := x.ssiBits p.val runs
      let y := runs.foldl (fun z r => z.line p.val 0 r.1 r.2)
        (x.setPort p.val (fun q => { q with ssiAt := none, ssiEnd := some x.sample }))
      (y.ssiPosition p.val bits = none → exec (.ssiFrameEnd l p ⟨runs, m⟩) s = .next (s.setLane l (y.frameError p.val))) ∧
      (∀ v, y.ssiPosition p.val bits = some v →
        exec (.ssiFrameEnd l p ⟨runs, m⟩) s = .next (s.setLane l (judged (y.frameValue p.val v) p.val m))))) ∧
  (∀ (s : State) (l : LaneId) (p : Fin 24) (pulses : List Nat) (level m : Bool), (s.lane l).rd (FBK.CTRL.MODE p.val) = 4 →
    (s.lane l).portCounts p.val = true →
    let x := (s.lane l).line p.val 0 level ((s.lane l).rd (FBK.CTRL.FILT p.val) + 1)
    ((s.lane l).sentNibbles p.val pulses = none → exec (.sentFrame l p pulses level m) s = .next (s.setLane l
      ((x.setPort p.val (fun q => { q with cal := pulses.head?, slow := [] })).frameError p.val))) ∧
    (∀ ns, (s.lane l).sentNibbles p.val pulses = some ns →
      let y := (x.setPort p.val (fun q => { q with cal := pulses.head? })).sentSlow p.val (ns.getD 0 0)
      exec (.sentFrame l p pulses level m) s = .next (s.setLane l (judged
        (y.frameValue p.val (((ns.drop 1).take (y.rd (FBK.SENT_CTRL.POS_NIBS p.val))).foldl (fun n b => 16 * n + b) 0))
        p.val m))))

/-- Stale ports, probes and pass-through outputs complete. A counting SSI or SENT port not yet stale becomes STALE, is
lost as a source of its channels, with fault 0x148; a velocity time-out, no change stamped within TMO, clears the
velocity of a port that is not bypassed; the end of a bypass, with the port not out of use, returns it to ACQUIRE with
a new ledger, the pass-through outputs of that source at their target and held no longer, POS following POS_RAW again;
an emulating output emits one owed transition once MINGAP samples have passed since the last; an edge of a probe's
filtered level, of a selected polarity, latches position, count and stamp of its port, and the reference latches that
name it, and goes to the generators that take it. (R218, R219, R220, R222, R224) -/
def Obligations.FeedbackAndAcquisitionEventsComplete : Prop :=
  (∀ (s : State) (l : LaneId) (p : Fin 24),
    let x := s.lane l
    ((x.rd (FBK.CTRL.MODE p.val) = 3 ∨ x.rd (FBK.CTRL.MODE p.val) = 4) → x.portCounts p.val = true →
      x.on (FBK.STATUS.STALE p.val) = false →
      exec (.feedbackStale l p) s = .next (s.setLane l ((((x.wr (FBK.STATUS.STALE p.val) 1).judgeAbs p.val).sourceBad p.val).fault 0x148 p.val))) ∧
    (x.rd (FBK.STATUS.STATE p.val) ≠ 4 →
      (∀ c, (x.port p.val).changes.head? = some c → x.rd (FBK.VEL.TMO p.val) * 100 ≤ x.sample - c.1) →
      exec (.velocityTimeout l p) s = .next (s.setLane l (x.wr (FBK.VELOCITY.VALUE p.val) 0))) ∧
    (x.rd (FBK.STATUS.STATE p.val) = 4 → x.bist.out.contains (5, p.val) = false →
      let y := ((((x.wr (FBK.INDEX_REF.VALUE p.val) 0).wr (FBK.STATUS.IDX_SEEN p.val) 0).ledgerStart p.val).wr
        (FBK.STATUS.STATE p.val) 1).judgeAbs p.val
      exec (.portBypassEnd l p) s = .next (s.setLane l (((List.range 4).foldl (fun y k =>
        if y.rd (FBK.PT_CTRL.SRC k) = p.val then
          (({ y with fbk := { y.fbk with pt := y.fbk.pt.setIfInBounds k (
            if y.rd (FBK.PT_CTRL.MODE k) = 2 then y.ptTarget k else y.fbk.pt.getD k 0) } } :
              LaneSt).wr
            (FBK.PT_STATUS.HELD k) 0).ptJudge k
        else y) y).setPos p.val)))) ∧
  (∀ (s : State) (l : LaneId) (k : Fin 4), (s.lane l).rd (FBK.PT_CTRL.MODE k.val) = 2 →
    (s.lane l).on (FBK.PT_STATUS.STOPPED k.val) = false → (s.lane l).on (FBK.PT_STATUS.HELD k.val) = false →
    let x := s.lane l
    let e := x.fbk.pt.getD k.val 0
    e ≠ x.ptTarget k.val → (∀ t, x.fbk.ptAt.getD k.val none = some t → t + x.rd (FBK.PT_EMU.MINGAP k.val) ≤ x.sample) →
    exec (.ptTransitionEmit l k) s = .next (s.setLane l
      (({ x with fbk := { x.fbk with pt := x.fbk.pt.setIfInBounds k.val (if e < x.ptTarget k.val then e + 1 else e - 1),
                                     ptAt := x.fbk.ptAt.setIfInBounds k.val (some x.sample) } } : LaneSt).ptJudge k.val))) ∧
  (∀ (s : State) (l : LaneId) (k : Fin 8) (rising : Bool) (held : Nat),
    let w := s.lane l
    let v := holdLevel (w.fbk.prb.getD k.val (false, 0)) rising held
    let was := w.fbk.prbLevel.getD k.val false
    let now := filterLevel (w.rd (FBK.PRB_CTRL.PFILT k.val) + 1) v was
    let x : LaneSt := { w with fbk := { w.fbk with
                                  prb := w.fbk.prb.setIfInBounds k.val v,
                                  prbLevel := w.fbk.prbLevel.setIfInBounds k.val now } }
    (was = now → exec (.probeEdge l k ⟨rising, held⟩) s = .next (s.setLane l x)) ∧
    (was ≠ now → x.rd (FBK.PRB_CTRL.PORT k.val) < 24 →
      (x.rd (FBK.PRB_CTRL.EDGE k.val) = 2 ∨ x.rd (FBK.PRB_CTRL.EDGE k.val) = (if rising then 0 else 1)) →
      let y := (x.wrI (FBK.PRB_POS.VALUE k.val) (x.latchPos (x.rd (FBK.PRB_CTRL.PORT k.val)))).inc (FBK.PRB_COUNT.EDGES k.val)
      let z := ((y.wr (FBK.PRB_STAMP.NS k.val) (stampNs y.t32 y.ns)).wr (FBK.PRB_STAMP.S k.val) (stampS y.t32 y.ns)).wrB (FBK.PRB_STAMP.T32 k.val) y.t32
      exec (.probeEdge l k ⟨rising, held⟩) s = .next (s.setLane l (((List.range 24).foldl (fun z q =>
        if z.rd (FBK.CTRL.REF_SRC q) = k.val ∧ z.on (FBK.CTRL.REF_EDGE q) = !rising
        then z.wrI (FBK.REF_LATCH.VALUE q) (z.latchPos q) else z) z).handEdge k.val 0 rising))))

/-- Every feedback event keeps the position-count law of every port. In a sound lane where every port keeps POS_RAW −
POS_BASE = NET_DECODED + INFERRED_NET (the 64-bit registers compared modulo 2^64), and where a SSI or SENT port
without its first valid frame and a HALL port without its first valid sector has both sums at 0, every feedback event
(quadrature transition with or without mismatch, double step, index, Hall state, SSI trigger and frame, SENT frame,
stale, velocity time-out, probe edge, pass-through transition, end of a bypass) of any port keeps both for every port,
and touches no other lane. (R208, R210, R211, R214, R217, R220) -/
def Obligations.FeedbackKeepsThePositionCountLaw : Prop :=
  let law (x : LaneSt) : Prop := ∀ p, p < 24 →
    (x.rdI (FBK.POS_RAW.VALUE p) - x.rdI (FBK.POS_BASE.VALUE p) - x.rdI (FBK.NET_DECODED.VALUE p)
      - x.rdI (FBK.INFERRED_NET.VALUE p)) % 2 ^ 64 = 0 ∧
    ((3 ≤ x.rd (FBK.CTRL.MODE p) ∧ (x.port p).seeded = false) ∨ (x.rd (FBK.CTRL.MODE p) = 2 ∧ (x.port p).sector = none) →
      x.rdI (FBK.NET_DECODED.VALUE p) = 0 ∧ x.rdI (FBK.INFERRED_NET.VALUE p) = 0)
  ∀ (s : State) (l : LaneId) (p : Fin 24) (k : Fin 8) (pt : Fin 4) (a b m : Bool) (held : Nat) (h : BitVec 3)
    (runs : List (Bool × Nat)) (pulses : List Nat), State.Canon s → law (s.lane l) →
    ∀ c ∈ [Instr.quadTransition l p a b ⟨held, m⟩, .doubleStep l p held m, .indexPulse l ⟨p, a, held⟩, .hallState l p ⟨h, held, m⟩,
        .ssiTrigger l p, .ssiFrameEnd l p ⟨runs, m⟩, .sentFrame l p pulses a m, .feedbackStale l p, .velocityTimeout l p,
        .probeEdge l k ⟨a, held⟩, .ptTransitionEmit l pt, .portBypassEnd l p],
      ∃ x, exec c s = .next (s.setLane l x) ∧ law x

/-- A double step within the window infers two counts, a later one is lost. In a sound lane, a double step on a
counting QUAD port, held longer than its filter and with no emulating output following it: with the gap since the last
valid transition within DBL_WINDOW, POS_RAW moves by two in the direction of STATUS.DIR (modulo 2^64), INFERRED grows
by 2 (modulo 2^32) and INFERRED_NET moves by two with it, LOST_EVENTS stays; with a longer gap, or none, POS_RAW,
INFERRED and INFERRED_NET stay, LOST_EVENTS grows by one and, unless an index check passed in the same sample,
STATUS.LOST is set and the port is UNCERTAIN, or BYPASSED where the second decoder then differs. NET_DECODED and the
last valid transition stay in both cases; DBL_LOG entry 0 shows the kind. (R211, R212) -/
def Obligations.DoubleStepFollowsTheGap : Prop :=
  ∀ (s : State) (l : LaneId) (p : Fin 24) (m : Bool) (held : Nat), State.Canon s →
    let x := s.lane l
    x.rd (FBK.CTRL.MODE p.val) = 1 → x.portCounts p.val = true →
    x.rd (FBK.CTRL.FILT p.val) < held → (∀ k, k < 4 → x.rd (FBK.PT_CTRL.SRC k) ≠ p.val ∨ x.rd (FBK.PT_CTRL.MODE k) ≠ 2) →
    ∃ y, exec (.doubleStep l p held m) s = .next (s.setLane l y) ∧ (y.port p.val).last = (x.port p.val).last ∧
      y.rdI (FBK.NET_DECODED.VALUE p.val) = x.rdI (FBK.NET_DECODED.VALUE p.val) ∧
      let moved := (y.rdI (FBK.POS_RAW.VALUE p.val) - x.rdI (FBK.POS_RAW.VALUE p.val)) % 2 ^ 64
      let inferred := (y.rdI (FBK.INFERRED_NET.VALUE p.val) - x.rdI (FBK.INFERRED_NET.VALUE p.val)) % 2 ^ 64
      let d : Int := if x.on (FBK.STATUS.DIR p.val) then 2 ^ 64 - 2 else 2
      (∀ g, x.gap p.val = some g → g ≤ x.rd (FBK.CTRL.DBL_WINDOW p.val) →
        moved = d ∧ inferred = d ∧ y.rd (FBK.INFERRED.STEPS p.val) = (x.rd (FBK.INFERRED.STEPS p.val) + 2) % 2 ^ 32 ∧
        y.rd (FBK.LOST_EVENTS.EVENTS p.val) = x.rd (FBK.LOST_EVENTS.EVENTS p.val) ∧
        y.rd (FBK.DBL_LOG.KIND p.val 0) = b2n (x.on (FBK.STATUS.DIR p.val))) ∧
      ((∀ g, x.gap p.val = some g → x.rd (FBK.CTRL.DBL_WINDOW p.val) < g) →
        moved = 0 ∧ inferred = 0 ∧ y.rd (FBK.INFERRED.STEPS p.val) = x.rd (FBK.INFERRED.STEPS p.val) ∧
        y.rd (FBK.LOST_EVENTS.EVENTS p.val) = (x.rd (FBK.LOST_EVENTS.EVENTS p.val) + 1) % 2 ^ 32 ∧
        ((x.port p.val).idxAt ≠ some (x.sample, 1) →
          y.on (FBK.STATUS.LOST p.val) = true ∧ y.rd (FBK.STATUS.STATE p.val) = if m then 4 else 3) ∧ y.rd (FBK.DBL_LOG.KIND p.val 0) = 2)

/-! ## Acquisition and the power stage (chapters 09, 10) -/

/-- Holds, conversions and calibrations complete. A sequence that is due, with ADC.CTRL.EN, not suspended by HOLD and
with enough free track-and-hold stages, adds one held value per converted input to its core in the order of R231, and
counts the run; with too few stages the whole hold is skipped and reported (fault 0x163 for a TIMETABLE, 0x162 with
SKIPPED for another trigger). A conversion of the value at the head of its core takes it off; where its word to LOOP
arrives, result, raw code, clip, core, stamp and mailbox are delivered and its consumers act, where it is discarded
they stay; a clip is reported (fault 0x164); a new correction waits for the end of the hold. A calibration forms its
correction from the two references: inside ±256 LSB and the gain range it is taken at once on an idle core, between
two holds on a busy one; outside, the core is retired. A zero measurement in its window, on an idle core, moves
ZERO_CAL by a sixteenth of the difference, clamped at ZLIM with fault 0x165. (R229, R231, R232, R234, R235, R237,
R238, R239) -/
def Obligations.AcquisitionEventsComplete : Prop :=
  (∀ (s : State) (l : LaneId) (q : Fin 16), (s.lane l).on ADC.CTRL.EN = true → (s.lane l).seqDue q.val = true →
    let x := s.lane l
    let trig := x.rd (ADC.SQ_CTRL.TRIG q.val)
    (x.inHold = true → trig ≠ 1 ∧ trig ≠ 2) →
    let ins := (x.seqInputs q.val).filter (fun i => !x.pairLost (homeCore i))
    (x.tooFew ins = false →
      exec (.sequenceHold l q) s = .next (s.setLane l ((x.strobe q.val ins).inc (ADC.SQ_COUNTS.RUNS q.val)))) ∧
    (x.tooFew ins = true → exec (.sequenceHold l q) s = .next (s.setLane l
      (if trig = 1 then (x.satInc 11 ADC.COUNTS.LATE).fault 0x163 q.val
       else (x.satInc 11 (ADC.SQ_COUNTS.SKIPPED q.val)).fault 0x162 q.val)))) ∧
  (∀ (s : State) (l : LaneId) (i : Fin 72) (raw : BitVec 16) (flip : BitVec 72) (h : Held) (rest : List Held),
    let c := (s.lane l).coreOf i.val
    (s.lane l).heldBy c = h :: rest → h.ain = i.val →
    let code := (s.lane l).corrected c raw.toNat
    let clip := decide (raw.toNat = 0 ∨ raw.toNat = 65535)
    let x := (s.lane l).setHeld c (fun _ => rest)
    let word := x.cross 7 [XWord.make (BitVec.ofNat 64 (ofSigned 32 (x.scaled h code))) flip]
    let w := word.1
    let y := (w.wrI (ADC.RESULT.VALUE i.val) (w.scaled h code)).wr (ADC.RAW.CODE i.val) code
    let y := ((y.wrB (ADC.RAW.CLIP i.val) clip).wr (ADC.RAW.CORE i.val) c).wrB (ADC.RAW.T32 i.val) y.t32
    let y := ((y.wr (ADC.STAMP.NS i.val) (stampNs y.t32 h.ns)).mailAin i.val Mailbox.put).consumers i.val (y.run - (y.ns - h.ns))
    let z := if word.2.all (·.isSome) then y else w
    exec (.conversionComplete l i ⟨raw, flip⟩) s = .next (s.setLane l
      (((if clip then z.fault 0x164 i.val else z).takeCorr c (some h)).judgeMoves))) ∧
  (∀ (s : State) (l : LaneId) (c : Fin 24) (low high : BitVec 16), (s.lane l).on ADC.CTRL.EN = true →
    (s.lane l).on ADC.CTRL.CAL_EN = true → bit ((s.lane l).rd ADC.RETIRED.CORES) c.val = false →
    let x := (s.lane l).bgWork 3 (24 - popCount 24 ((s.lane l).rd ADC.RETIRED.CORES))
    let k := refCorrection low.toNat high.toNat
    let y : LaneSt := { x with adc := { x.adc with newCorr := x.adc.newCorr.setIfInBounds c.val (some k) } }
    exec (.adcCalibration l c low high) s = .next (s.setLane l
      (if 256 < k.1.natAbs ∨ k.2 < 0x7D71 ∨ 0x828F < k.2 then x.retireCore c.val
       else if (y.heldBy c.val).isEmpty then y.takeCorr c.val none else y))) ∧
  (∀ (s : State) (l : LaneId) (i : Fin 72) (z : Int), i.val < 24 → (s.lane l).on ADC.CTRL.EN = true →
    (s.lane l).on ADC.CTRL.CAL_EN = true → (s.lane l).rd (ADC.IN_CFG.ZC i.val) ≠ 0 → (s.lane l).zeroWindow i.val = true →
    (s.lane l).heldBy ((s.lane l).coreOf i.val) = [] →
    let x := s.lane l
    let old := x.rdI (ADC.ZERO_CAL.VALUE i.val)
    let v := old + qdiv (z * 16 - old) 16
    let lim : Int := x.rd (ADC.IN_CFG.ZLIM i.val) * 256
    exec (.zeroCalMeasure l i z) s = .next (s.setLane l
      (if v.natAbs ≤ lim.natAbs then x.wrI (ADC.ZERO_CAL.VALUE i.val) v
       else (x.wrI (ADC.ZERO_CAL.VALUE i.val) (max (-lim) (min lim v))).fault 0x165 i.val)))

/-- Valleys, switch events, force-safe, self-tests and scans complete. A valley of an enabled carrier aligns it, lets
its channels park, enable and load, loads AUX duties and refreshes bootstraps. DESAT, COARSE (with COARSE_EN),
INTERLOCK_STUCK and GATE_STUCK_OFF of a leg in use whose comparators work (in HOLD those of a latched short's side)
show their flag, count (trips or interlocks) and act as a switch event with the side of R254; the gate of a stuck
interlock reads on. BS_UV shows its flag and turns the high side off; where the bridge holds or takes ASC_HIGH every
switch is off with fault 0x187, else it is a switch event. FORCE_SAFE and EDGE_LINK put a die in its force-safe state.
A self-test step judged in a window (its gate off, the opposite one on) advances the sweep or gives the comparator's
result; an aborted one only counts. A step of a running scan records the converted phase voltages, each carried over
the crossing to GATE (a discarded word's value is free), and its finding; a start-up scan goes on after its last.
(R243, R244, R250, R251, R252, R255, R257, R258, R260, R267, R268) -/
def Obligations.PowerStageEventsComplete : Prop :=
  (∀ (s : State) (l : LaneId) (c : Fin 8) (err : Int), (s.lane l).on (GATE.CAR_CTRL.EN c.val) = true →
    let x := (s.lane l).align c.val err
    let y := (List.range 8).foldl (fun x n => if x.rd (COMM.CTRL.CARRIER n) = c.val then x.valleyChannel n else x) x
    let aux (y : LaneSt) (m : Nat) : Bool := y.rd (GATE.LEG_CTRL.USE m) = 2 && y.rd (GATE.LEG_CTRL.CARRIER m) = c.val
    let z := (List.range 24).foldl (fun y m => if aux y m then y.loadAux m else y) y
    exec (.carrierValley l c err) s = .next (s.setLane l ((List.range 24).foldl (fun z m =>
      if aux z m || (z.rd (GATE.LEG_CTRL.USE m) = 1 && z.rd (COMM.CTRL.CARRIER (m / 3)) = c.val)
      then z.refresh m (z.carrierUnits c.val) else z) z))) ∧
  (∀ (s : State) (l : LaneId) (m : Fin 26) (low : Bool), (s.lane l).rd (GATE.LEG_CTRL.USE m.val) ≠ 0 →
    let x := s.lane l
    (x.armed m.val low = true →
      exec (.desatTrip l m low) s = .next (s.setLane l
        ((((x.wr (if low then GATE.STATUS.DESAT_L m.val else GATE.STATUS.DESAT_H m.val) 1).satInc 12
          (GATE.COUNTS.TRIPS m.val))).switchEvent 0x182 m.val low (if low then 2 else 1) true)) ∧
      (x.on (GATE.DESAT.COARSE_EN m.val) = true → exec (.coarseTrip l m low) s = .next (s.setLane l
        ((((x.wr (if low then GATE.STATUS.COARSE_L m.val else GATE.STATUS.COARSE_H m.val) 1).satInc 12
          (GATE.COUNTS.TRIPS m.val))).switchEvent 0x183 m.val low (if low then 2 else 1) true))) ∧
      exec (.interlockStuck l m low) s = .next (s.setLane l
        (((((x.wr (if low then GATE.STATUS.ILK_L m.val else GATE.STATUS.ILK_H m.val) 1).satInc 12
          (GATE.COUNTS.ILK m.val))).switchEvent 0x184 m.val low (if low then 1 else 2) false).wr
            (gsF (2 * m.val + b2n low)) 1)) ∧
      exec (.gateStuckOff l m low) s = .next (s.setLane l
        ((((x.wr (if low then GATE.STATUS.OFF_L m.val else GATE.STATUS.OFF_H m.val) 1).satInc 12
          (GATE.COUNTS.ILK m.val))).switchEvent 0x185 m.val low (if low then 2 else 1) true))) ∧
    (x.armed m.val false = true →
      let y := (x.wr (GATE.STATUS.BS_UV m.val) 1).swOff (2 * m.val) false
      exec (.bsUv l m) s = .next (s.setLane l
        (if y.rd (GATE.LEG_CTRL.USE m.val) = 1 ∧
            (y.rd (COMM.STATUS.WSTATE (m.val / 3)) = 3 ∨ (y.gateCh (m.val / 3)).naming = 2)
         then (y.windingOff (m.val / 3)).fault 0x187 (m.val / 3)
         else y.switchEvent 0x186 m.val false 1 false)))) ∧
  (∀ (s : State) (l : LaneId) (die : Fin 2),
    let x := s.lane l
    exec (.forceSafe l die) s = .next (s.setLane l
      ((x.wr GATE.DIE_STATUS.FORCE (setBit (x.rd GATE.DIE_STATUS.FORCE) die.val true)).dieSafe die.val)) ∧
    exec (.edgeLink l die) s = .next (s.setLane l
      (((x.wr GATE.DIE_STATUS.LINK (setBit (x.rd GATE.DIE_STATUS.LINK) die.val false)).dieSafe die.val).fault 0x18F die.val))) ∧
  (∀ (s : State) (l : LaneId) (m : Fin 26) (low : Bool) (cmp : Fin 3) (aborted tripped : Bool), m.val < 24 →
    (s.lane l).rd (GATE.LEG_CTRL.USE m.val) = 1 → (low = true → cmp.val ≠ 2) →
    ((s.lane l).on GATE.ST_CTRL.BG_EN = true ∧ (s.lane l).rd (COMM.CTRL.CLASS (m.val / 3)) = 0 ∨
      ((s.lane l).gateCh (m.val / 3)).test ≠ none) →
    (aborted = false → (s.lane l).testWindow m.val low = true) →
    let i := 6 * m.val + 3 * b2n low + cmp.val
    let x := (s.lane l).setTest (m.val / 3) (fun t => { t with
      windows := (t.windows + 1) % 2 ^ 16, aborted := (t.aborted + b2n aborted) % 2 ^ 16 })
    let k := x.sweepStep i
    let v := x.cmpSetting m.val cmp.val
    exec (.comparatorSelftestStep l m low cmp aborted tripped) s = .next ((s.setLane l
      (if aborted then x
       else if tripped then ((x.setSweep i none).cmpResult m.val low cmp.val (some (qdiv ((v : Int) * (630 + 20 * (k : Int))) 700))
         (decide (((v : Int) * (20 * (k : Int) - 70)).natAbs ≤ cmpTol cmp.val * 700))).bgWork 4 x.compTotal
       else if k = 7 then ((x.setSweep i none).cmpResult m.val low cmp.val none false).bgWork 4 x.compTotal
       else x.setSweep i (some (k + 1)))).diagSettle (m.val / 3))) ∧
  (∀ (s : State) (l : LaneId) (n : Fin 8) (sc : ScanSt) (a b c : BitVec 72), ((s.lane l).gateCh n.val).scan = some sc →
    1 ≤ sc.step → sc.step ≤ 10 →
    let read (x : LaneSt) (k : Nat) (flip : BitVec 72) : Int × LaneSt :=
      let i := 24 + k + 3 * n.val
      let word := x.cross 12 [XWord.make (BitVec.ofNat 64 (x.rd (ADC.RESULT.VALUE i))) flip]
      if word.2.all (·.isSome) then (x.rdI (ADC.RESULT.VALUE i), word.1) else (toSigned 32 word.1.fresh.1, word.1.fresh.2)
    let u := read (s.lane l) 0 a
    let v := read u.2 1 b
    let w := read v.2 2 c
    let x := w.2.setGateCh n.val (fun g => { g with scan := some (sc.next u.1 v.1 w.1) })
    exec (.scanStep l n a b c) s = .next ((s.setLane l
      ((if sc.step = 10 then x.setWstate n.val 0 else x).scanJudge n.val)).diagSettle n.val))

/-- Overvoltage, chopper and supply events of the power stage complete. A chopper leg found shorted while off and not
yet faulty is latched off with fault 0x18B. OV3_RELEASE with VDC below OV2 ends OV3, and the bridges it shorted resume
at their next valley. OV4 of a die not yet tripped, outside HOLD and a readmission proof, shorts its motor bridges,
turns its usable chopper on unless the die is held in its force-safe state, latches OV4 and records fault 0x18D. A
loss of VGD shows it, records fault 0x18E, turns every motor bridge off and lets every gate fall to its pull-down.
(R262, R264, R265, R266) -/
def Obligations.OvervoltageEventsComplete : Prop :=
  (∀ (s : State) (l : LaneId) (k : Fin 2), (s.lane l).rd (GATE.LEG_CTRL.USE (24 + k.val)) = 3 →
    bit ((s.lane l).rd GATE.OV_STATUS.CHP_ON) k.val = false → bit ((s.lane l).rd GATE.OV_STATUS.CHP_FAULT) k.val = false →
    exec (.chopShorted l k) s = .next (s.setLane l (((s.lane l).chpLatch k.val).fault 0x18B k.val))) ∧
  (∀ (s : State) (l : LaneId), (s.lane l).on GATE.OV_STATUS.OV3_ACTIVE = true →
    (s.lane l).vdcAt ((s.lane l).rd GATE.OV_A.OV2) = false →
    exec (.ov3Release l) s = .next (s.setLane l ((List.range 8).foldl (fun x n =>
      if (x.gateCh n).ov3 then x.setGateCh n (fun g => { g with ov3 := false, resume := true }) else x)
      ((s.lane l).wr GATE.OV_STATUS.OV3_ACTIVE 0)))) ∧
  (∀ (s : State) (l : LaneId) (die : Fin 2), bit ((s.lane l).rd GATE.DIE_STATUS.OV4) die.val = false →
    (s.lane l).vote.readmit ≠ .proof → (s.lane l).inHold = false →
    let x := (List.range 4).foldl (fun x i => if x.isMotor (4 * die.val + i) then x.activeShort (4 * die.val + i) else x) (s.lane l)
    let y := if x.chpEnabled die.val && !x.chpFaulty die.val && !x.dieHeld die.val then x.setChp die.val true else x
    let z := y.wr GATE.DIE_STATUS.OV4 (setBit (y.rd GATE.DIE_STATUS.OV4) die.val true)
    exec (.ov4Trip l die) s = .next (s.setLane l
      (((z.wr GATE.OV_STATUS.OV4_LATCHED 1).satInc 12 GATE.GATE_COUNTS.OV4).fault 0x18D die.val))) ∧
  (∀ (s : State) (l : LaneId), (s.lane l).on GATE.DIE_STATUS.VGD_OK = true →
    exec (.vgdLoss l) s = .next (s.setLane l (((List.range 8).foldl (fun x n => if x.isMotor n then x.windingOff n else x)
      (((s.lane l).wr GATE.DIE_STATUS.VGD_OK 0).fault 0x18E 0)).gatesDown)))

/-- A switch event of a motor leg names the side of the bridge's short. In a sound lane, for legs 0 to 23 with USE =
MOTOR whose comparators work (in HOLD those of a latched short's side): the side of the bridge's short is BRIDGE.SIDE,
or the side already ordered that waits for the gates of the other side (R255). With no side yet, a DESAT or COARSE
trip (COARSE_EN = 1) on a high side makes it LOW (1) and on a low side HIGH (2); INTERLOCK_STUCK on a high side HIGH
and on a low side LOW; GATE_STUCK_OFF on a high side LOW and on a low side HIGH; BS_UV LOW (unless the bridge holds or
takes ASC_HIGH, R257). With the same side or NONE_SAFE (3) before, it stays as it is; with the other side, it becomes
NONE_SAFE. Whatever the frisket's reaction to the fault, no other bridge's side and no other lane changes. (R254) -/
def Obligations.SwitchEventNamesTheShortSide : Prop :=
  ∀ (s : State) (l : LaneId) (m : Fin 26) (low : Bool), State.Canon s → m.val < 24 →
    (s.lane l).rd (GATE.LEG_CTRL.USE m.val) = 1 →
    let n := m.val / 3
    let x := s.lane l
    let named (c : Instr) (side : Nat) : Prop := ∃ y, exec c s = .next (s.setLane l y) ∧
      y.bridgeSide n = (if x.bridgeSide n = 0 ∨ x.bridgeSide n = side then side else 3) ∧
      (∀ k, k < 8 → k ≠ n → y.bridgeSide k = x.bridgeSide k)
    (x.armed m.val low = true → named (.desatTrip l m low) (if low then 2 else 1) ∧
      (x.on (GATE.DESAT.COARSE_EN m.val) = true → named (.coarseTrip l m low) (if low then 2 else 1)) ∧
      named (.interlockStuck l m low) (if low then 1 else 2) ∧
      named (.gateStuckOff l m low) (if low then 2 else 1)) ∧
    (x.armed m.val false = true → ¬ (x.rd (COMM.STATUS.WSTATE n) = 3 ∨ (x.gateCh n).naming = 2) → named (.bsUv l m) 1)

/-! ## Time, networks and CAN (chapters 11, 12) -/

/-- Time events complete. With PTP enabled and the counter running, a Sync of the grandmaster followed notes its
offset (and a free path delay) and tracks it (an EXCLUDED lane steers to the members instead), or counts towards
LOCK_N, locks, or steers; an Announce is taken into the best master choice and the election. GM_LOST forgets the
grandmaster: a lane locked to it goes to PEER or HOLDOVER, counts the loss and reports fault 0x062. A member sends its
TIME_CMP record, and one accepted is noted and, once every member peer's has come, compared. HOLDOVER_EXPIRED makes a
lane in HOLDOVER FREE, with fault 0x065, at a boundary at or after the start of holdover plus HOLDOVER. A permitted
step of a member, agreed at least 1 ms before the boundary, takes place by its own offset. An enabled compare unit
raises its source, once for each of its instants, unless silent in T32 form; a difference of the counter's copies is
fault 0x067; a P2P request is answered; an elected lane sends Sync and Announce on both networks. (R275, R277, R278,
R279, R283, R285, R286, R287, R290, R482) -/
def Obligations.TimeEventsComplete : Prop :=
  (∀ (s : State) (l : LaneId) (blue : Bool) (offset : Int), (s.lane l).on TIME.CTRL.PTP_EN = true → (s.lane l).time.running = true →
    (s.lane l).timeSource ≠ 5 → ((s.lane l).gmHeard blue).isSome = true → (s.lane l).gmNetwork = some blue →
    let x := (s.lane l).fresh
    let y := x.2.wr (if blue then TIME.PATH_DELAY.BLUE else TIME.PATH_DELAY.RED) (x.1 % 2 ^ 16)
    let z : LaneSt := { y with time := { y.time with gmOffset := offset, gmBlue := blue } }
    let z := (z.wrSat TIME.OFFSET_GM.NS offset).showGm
    let run := if offset.natAbs ≤ 1000 then z.time.lockRun + 1 else 0
    let w : LaneSt := { z with time := { z.time with lockRun := run } }
    let u := (w.wr TIME.STATUS.ACQUIRING 0).wr TIME.STATUS.STEP_PENDING 0
    exec (.ptpSyncReceive l blue offset) s = .next (s.setLane l
      (if z.on TIME.STATUS.GM_SUSPECT then z
       else if z.timeSource = 1 ∨ z.timeSource = 2 then (if z.self = selfExcluded then z else z.trackRate.judgeStep offset)
       else if w.rd TIME.SERVO.LOCK_N ≤ run then
         ((({ u with time := { u.time with lockRun := 0, stepReady := false, holdStart := none, lockedRate := u.rdI TIME.RATE.VALUE } } :
           LaneSt).wr TIME.STATUS.HOLD_LEFT 0).setSource (if blue then 2 else 1)).showGm
       else w.steer))) ∧
  (∀ (s : State) (l : LaneId) (b : Bool), (s.lane l).gmNetwork = some b →
    let x := (s.lane l).forgetGm b
    exec (.gmLost l) s = .next (s.setLane l (if x.timeSource = 1 ∨ x.timeSource = 2 then
      ((((x.setSource (if x.otherLocked then 3 else 4)).satInc 3 TIME.COUNTS.GM_LOSSES).fault 0x062 0)).judgeElection
      else x.judgeElection))) ∧
  (∀ (s : State) (l : LaneId) (blue : Bool) (rank : Nat) (gm : Dword), (s.lane l).on TIME.CTRL.PTP_EN = true →
    (s.lane l).time.running = true → (s.lane l).gmHeard blue = none →
    let x := s.lane l
    let y : LaneSt := if blue then { x with time := { x.time with best := (x.time.best.1, some rank), gmIds := (x.time.gmIds.1, some gm.toNat) } }
      else { x with time := { x.time with best := (some rank, x.time.best.2), gmIds := (some gm.toNat, x.time.gmIds.2) } }
    exec (.announceReceive l blue rank gm) s = .next (s.setLane l y.judgeElection)) ∧
  (∀ (s : State) (l : LaneId), (s.lane l).isMember = true → (s.lane l).time.running = true →
    let x := s.lane l
    let hdr := b2n x.t32 + 2 * x.timeSource + 16 * b2n x.time.stepReady + 32 * b2n (lockedSource x.timeSource)
    let y := x.send 0x11 hdr [stampNs x.t32 x.ns + 2 ^ 32 * (stampS x.t32 x.ns % 2 ^ 32)]
    exec (.timeComparison l) s = .next (s.setLane l (if y.memberPeers.isEmpty then y.compareTimes else y))) ∧
  (∀ (s : State) (l : LaneId) (src : Arrival) (t32 : Bool) (source : BitVec 3) (ready locked : Bool) (ns sec : Word),
    (s.lane l).accepts src = true →
    exec (.timeCmpReceive l src t32 source ready locked ns sec) s = .next (s.setLane l
      (((s.lane l).heard src 1).timeCmp src.lane t32 source.toNat ready locked ns.toNat sec.toNat))) ∧
  (∀ (s : State) (l : LaneId), (s.lane l).timeSource = 4 → (s.lane l).holdoverOver = true →
    exec (.holdoverExpired l) s = .next (s.setLane l
    (((((s.lane l).setSource 0).wr TIME.STATUS.HOLD_LEFT 0).fault 0x065 0).showGm))) ∧
  (∀ (s : State) (l : LaneId) (t : Int), (s.lane l).targetOffset = some t → (s.lane l).time.stepAgreed = true →
    (s.lane l).isMember = true → (s.lane l).stepPermitted = true → (s.lane l).time.agreedAt + 10 ^ 6 ≤ (s.lane l).boundaryNs →
    let x := (((s.lane l).stepBy t).wr TIME.STATUS.STEP_PENDING 0).satInc 3 TIME.COUNTS.STEPS
    let y := x.wrSat TIME.OFFSET_GM.NS x.time.gmOffset
    exec (.timeStep l) s = .next (s.setLane l
      { y with time := { y.time with stepped := true }, net := { y.net with gate := y.net.gate.map (fun g => (64, g.2)) } })) ∧
  (∀ (s : State) (l : LaneId) (c : Fin 4), (s.lane l).on (TIME.CMP_CTRL.EN c) = true →
    (s.lane l).compareIndex c ≠ (s.lane l).time.cmpAt.get c →
    let x : LaneSt := { s.lane l with time := { (s.lane l).time with cmpAt := (s.lane l).time.cmpAt.set c ((s.lane l).compareIndex c) } }
    exec (.compareUnit l c) s = .next (s.setLane l
      (if x.on (TIME.CMP_CTRL.TIME80_ONLY c) = true ∧ x.t32 = true then x else x.raise 3 c.val))) ∧
  (∀ (s : State) (l : LaneId), exec (.timeCounter l) s = .next (s.setLane l ((s.lane l).fault 0x067 0))) ∧
  (∀ (s : State) (l : LaneId) (p : Fin 4) (seq : BitVec 16) (r : Nat), (s.lane l).bridgeRuns = true →
    (s.lane l).portActive p = true → (s.lane l).on TIME.CTRL.DELAY_MECH = true →
    exec (.pdelayReq l p seq r) s = .next (s.setLane l ((s.lane l).egress ⟨p, 7, .pdelayResp seq.toNat r⟩))) ∧
  (∀ (s : State) (l : LaneId), (s.lane l).bridgeRuns = true →
    let x := (s.lane l).judgeElection
    let ann : NetOut := .announce (x.rd TIME.GM_CFG.PRIO1) (x.rd TIME.GM_CFG.CLASS) (x.rd TIME.GM_CFG.PRIO2)
    exec (.grandmasterSync l) s = .next (s.setLane l (if x.timeSource = 5 then
      [0, 1].foldl (fun x i => (x.sendBoth i 7 (.sync x.ns)).sendBoth i 7 ann) x else x)))

/-- Bridge and CAN events complete. On an active port of running bridges a frame of 64 B or more with a bad FCS is
counted, a longer one than 1,522 B is dropped and counted, and another is verified, learned, counted where the
internal port drops it, and forwarded to the other port where it must go. A link change takes the link of a port down
with the fault of its network, or up at its speed; a drained port loses what it queued; the gate list entry that lane
time calls for sets the gates and sends what waits in open queues (before QBV_BASE, and after a time step until entry
0 is due, nothing changes); an address not refreshed for AGE is removed. On a running CAN bus a frame that passes a
filter is written to the ring by the lead, or counted as dropped; a due object is sent by the speaker, or waits while
the controller is off the bus; BUS_OFF shows, counts and reports it (fault 0x0C2); the recovery sends what waits.
(R294, R295, R296, R297, R298, R299, R314, R316, R317) -/
def Obligations.NetworkEventsComplete : Prop :=
  (∀ (s : State) (l : LaneId) (p : Fin 4) (f : EthFrame), (s.lane l).bridgeRuns = true → (s.lane l).portActive p = true →
    64 ≤ f.length →
    let x := s.lane l
    (f.fcsOk = false → exec (.ethFrameReceive l p f) s = .next (s.setLane l
      (x.satInc (netBlock p) (NET.PORT_CNT0.FCS_ERR (p / 2) (p % 2))))) ∧
    (f.fcsOk = true → 1522 < f.length → exec (.ethFrameReceive l p f) s = .next (s.setLane l
      (x.satInc (netBlock p) (NET.PORT_CNT0.DROPPED (p / 2) (p % 2))))) ∧
    (f.fcsOk = true → f.length ≤ 1522 →
      ((x.verify p f).1 = false → exec (.ethFrameReceive l p f) s = .next (s.setLane l (x.verify p f).2)) ∧
      ((x.verify p f).1 = true →
        let y := (x.verify p f).2.learn p f.src
        let z := if y.toInternal p f && f.kind = 0 then y.satInc (netBlock p) (NET.PORT_CNT1.INT_DROP (p / 2) (p % 2)) else y
        (z.forwardTo p f.dst = none → exec (.ethFrameReceive l p f) s = .next (s.setLane l z)) ∧
        (∀ q, z.forwardTo p f.dst = some q → exec (.ethFrameReceive l p f) s = .next (s.setLane l (z.forward p q f)))))) ∧
  (∀ (s : State) (l : LaneId) (p : Fin 4),
    let x := s.lane l
    (x.on (portLinkF p) = true → exec (.portLinkDown l p) s = .next (s.setLane l
      (if x.portActive p then (x.linkDown p).fault (netCode p 0x082 0x0A2) (p % 2) else x.linkDown p))) ∧
    (x.on (portLinkF p) = false → x.portActive p = true → x.bridgeRuns = true →
      let y := if x.rd (portSpeedF p) = 0 then x.fresh.2.wr (portRateF p) (1 + x.fresh.1 % 3) else x.wr (portRateF p) (x.rd (portSpeedF p))
      exec (.portLinkDown l p) s = .next (s.setLane l ((y.wr (portLinkF p) 1).showNetUp))) ∧
    (x.portStopping p = true → exec (.portDrainTimeout l p) s = .next (s.setLane l
      ((x.setNet (fun n => { n with waiting := n.waiting.filter (fun e => e.port ≠ p.val) })).linkDown p))) ∧
    (x.on (portQbvF p) = true → (x.qbvPlace p = none → exec (.qbvGateEntry l p) s = .next (s.setLane l x))) ∧
    (∀ t, x.on (portQbvF p) = true → x.qbvPlace p = some t → ¬ ((x.net.gate.getD p (0, 255)).1 = 64 ∧ x.qbvIndex p t ≠ 0) →
      let i := x.qbvIndex p t
      let g := x.rd (NET.GCL.GATES (p / 2) (p % 2) i)
      let y := x.setNet (fun v => { v with gate := v.gate.setIfInBounds p (i, g) })
      exec (.qbvGateEntry l p) s = .next (s.setLane l ([7, 6, 5, 4, 3, 2, 1, 0].foldl (fun y q =>
        if bit g q then (y.net.waiting.filter (fun e => e.port = p.val && e.queue = q)).foldl LaneSt.transmit
          (y.setNet (fun v => { v with waiting := v.waiting.filter (fun e => !(e.port = p.val && e.queue = q)) })) else y) y)))) ∧
  (∀ (s : State) (l : LaneId) (blue : Bool) (mac : BitVec 48), exec (.bridgeAgeOut l blue mac) s = .next (s.setLane l
    ((s.lane l).setNet (fun n => { n with
      table := n.table.setIfInBounds (b2n blue) ((n.table.getD (b2n blue) []).filter (fun e =>
        e.1 ≠ mac || decide ((s.lane l).run < e.2.2 + (s.lane l).rd (NET.BRIDGE.AGE (b2n blue)) * 10 ^ 9))) })))) ∧
  (∀ (s : State) (l : LaneId) (k : Fin 2) (f : CanFrame), (s.lane l).canRuns k = true → f.kind.val ≤ (s.lane l).rd (CAN.CAN_CTRL.PROTO k) →
    (s.lane l).canFilter k f = true →
    let x := s.lane l
    (x.vote.lead = none ∨ x.on (CAN.CAN_CTRL.RX_EN k) = false ∨ (f.kind = 2 ∧ 104 < f.data.length) →
      exec (.canFrameReceive l k f) s = .next (s.setLane l (x.satInc 6 (CAN.COUNTS.DROPPED k)))) ∧
    (x.vote.lead ≠ none → x.on (CAN.CAN_CTRL.RX_EN k) = true → ¬ (f.kind = 2 ∧ 104 < f.data.length) →
      let n := x.rd (CAN.RX_COUNT.ENTRIES k)
      let y := x.inc (CAN.RX_COUNT.ENTRIES k)
      let base := 2 ^ 7 * y.rd (CAN.RX_BASE.ADDR k) + 2 ^ 32 * y.rd (CAN.RX_BASE_HI.ADDR_HI k)
      let id := f.id.toNat + 2 ^ 29 * b2n f.ide + 2 ^ 30 * b2n (f.kind = 1) + 2 ^ 31 * b2n (f.kind = 2)
      exec (.canFrameReceive l k f) s = .next (s.setLane l (if y.isLead then
        (y.post (base + 128 * (n % 2 ^ (y.rd (CAN.RX_CTRL.SIZE k) + 4))) 128
          [(0, 4, (n + 1) % 2 ^ 32), (4, 4, id), (8, 2, f.data.length), (10, 1, f.ctrl.toNat),
           (11, 1, if f.kind = 2 then f.sdt.toNat else 0), (12, 4, stampNs y.t32 y.ns),
           (16, (canData f).length, leBytes (canData f))]).raise 5 k.val else y)))) ∧
  (∀ (s : State) (l : LaneId) (k : Fin 2) (j : Fin 16), (s.lane l).on (CAN.CAN_CTRL.EN k) = true → (s.lane l).bridgeRuns = true →
    (s.lane l).on (CAN.TXO_ID.EN k j) = true → (s.lane l).on (CAN.STATUS.SPEAKER k) = true → (s.lane l).folio.agreed ≠ [] →
    let x := s.lane l
    (x.rd (CAN.STATUS.BUS k) ≠ 2 → exec (.canTxObject l k j) s = .next (s.setLane l
      (x.setNet (fun n => { n with canSent := n.canSent ++ [x.canFrame k j] })))) ∧
    (x.rd (CAN.STATUS.BUS k) = 2 → exec (.canTxObject l k j) s = .next (s.setLane l
      (if (x.net.canWait.getD k []).contains j.val then x.satInc 6 (CAN.COUNTS.TX_LATE k)
       else x.setNet (fun n => { n with canWait := n.canWait.setIfInBounds k (n.canWait.getD k [] ++ [j.val]) }))))) ∧
  (∀ (s : State) (l : LaneId) (k : Fin 2), (s.lane l).canRuns k = true →
    let x := (s.lane l).fresh
    let y := x.2.fresh
    let z := (y.2.wr (CAN.ERRCNT.TEC k) (x.1 % 256)).wr (CAN.ERRCNT.REC k) (y.1 % 256)
    exec (.canBusOff l k) s = .next (s.setLane l (((z.wr (CAN.STATUS.BUS k) 2).satInc 6 (CAN.ERRCNT.BUS_OFFS k)).fault 0x0C2 k.val))) ∧
  (∀ (s : State) (l : LaneId) (k : Fin 2), (s.lane l).rd (CAN.STATUS.BUS k) = 2 →
    let x := (((s.lane l).wr (CAN.STATUS.BUS k) 0).wr (CAN.ERRCNT.TEC k) 0).wr (CAN.ERRCNT.REC k) 0
    let y := x.setNet (fun n => { n with canWait := n.canWait.setIfInBounds k [] })
    exec (.busOffRecovery l k) s = .next (s.setLane l ((x.net.canWait.getD k []).foldl (fun y j => y.canSend k j) y)))

/-- Time events keep RATE within 200 ppm, so lane time runs forward. In a sound lane with RATE (in units of 0.001 ppm)
and RATE_locked within ±200,000, every time event (Sync, Announce, a lost grandmaster, the comparison and its records,
holdover's end, an agreed step, a compare unit, an elected grandmaster's Sync) keeps both within ±200,000. With the
queue empty a step advances the time of every lane whose counter runs, whose RATE is so bounded and whose own clock
has an edge there (a free value, the lanes' clocks not being locked to each other) by more than 7.99 ns and less than
8.01 ns (the idle step is the model's choice, log entry 9), and changes no other lane. (R274, R278, 11 TIME.RATE) -/
def Obligations.RateStaysBoundedAndTimeRuns : Prop :=
  let bound (x : LaneSt) : Prop := -200000 ≤ x.rdI TIME.RATE.VALUE ∧ x.rdI TIME.RATE.VALUE ≤ 200000 ∧
    -200000 ≤ x.time.lockedRate ∧ x.time.lockedRate ≤ 200000
  (∀ (s : State) (l : LaneId) (from' : Arrival) (blue t32 ready locked : Bool) (offset : Int) (rank : Nat) (gm : Dword) (src : BitVec 3)
      (ns sec : Word) (c : Fin 4), State.Canon s → bound (s.lane l) →
    ∀ i ∈ [Instr.ptpSyncReceive l blue offset, .announceReceive l blue rank gm, .gmLost l, .timeComparison l,
        .timeCmpReceive l from' t32 src ready locked ns sec, .holdoverExpired l, .timeStep l, .compareUnit l c, .grandmasterSync l],
      ∃ x, exec i s = .next (s.setLane l x) ∧ bound x) ∧
  (∀ (s : State), s.pending = [] → ∃ t, step s = .next t ∧ t.ticks = s.ticks + 1 ∧ ∀ l,
    ((s.lane l).time.running = false ∨ Config.netEdge l s.ticks = false → t.lane l = s.lane l) ∧
    ((s.lane l).time.running = true → Config.netEdge l s.ticks = true → bound (s.lane l) →
      799 * 2 ^ 32 < 100 * ((t.lane l).time.now - (s.lane l).time.now : Int) ∧
      100 * ((t.lane l).time.now - (s.lane l).time.now : Int) < 801 * 2 ^ 32))

/-- A frame leaves only on the other port of the bridge it came in on. Whatever a received Ethernet frame is,
everything the lane sends or queues because of it is appended for the other external port of the same bridge: the Red
and Blue bridges exchange no frames, a frame never leaves on the port it came in on, and at most one frame is sent or
queued beyond those there before (a frame that exhausts its port's packet numbers may drop others). Gate states and
other lanes are untouched. (R295, R299) -/
def Obligations.BridgesStayApart : Prop :=
  ∀ (s : State) (l : LaneId) (p : Fin 4) (f : EthFrame), ∃ x, exec (.ethFrameReceive l p f) s = .next (s.setLane l x) ∧
    x.net.gate = (s.lane l).net.gate ∧
    (∃ new, x.net.sent = (s.lane l).net.sent ++ new ∧ new.length ≤ 1 ∧ ∀ e ∈ new, e.port = p.val / 2 * 2 + (1 - p.val % 2)) ∧
    (∀ e ∈ x.net.waiting, e ∈ (s.lane l).net.waiting ∨ e.port = p.val / 2 * 2 + (1 - p.val % 2)) ∧
    x.net.waiting.length ≤ (s.lane l).net.waiting.length + 1

/-! ## Yuwil and the safety inputs and outputs (chapters 12, 13) -/

/-- Yuwil and fleet events complete. A POLL or FLEET frame that passes the ingress limits is counted as failed when
its form or MAC does not hold, and is paired otherwise, a live POLL copy at the speaker owing an answer; a KEY_CONFIRM
may switch the session first and is paired likewise; a KEY_INIT is examined by the lead within its limits and
answered, or counted. Copies whose SKEW has passed are decided first. SKEW expiry takes the oldest undecided copy as
SINGLE. An owed answer leaves ANS_DLY after its poll on the open ports of its network, or is counted late from 12 µs
on. A peer's accepted POLL, session keys or FLEET record are taken over. A command that is due applies its RUN_PERMIT,
and a lower stop category tightens the stop that a withdrawn permit began; a network with no accepted copy for
SAFE_TMO is lost; a due fleet stop is applied, and expires past NOT_AFTER. The statements on frames cover both
outcomes of a MAC or signature check. (R300, R301, R304, R305, R307, R308, R309, R311, R312, R313, R321) -/
def Obligations.YuwilEventsComplete : Prop :=
  (∀ (st : State) (l : LaneId) (blue : Bool) (b : List Byte) (q : Nat) (x : LaneSt), (st.lane l).ywIngress blue b = .inr (q, x) →
    let r := (st.setLane l x).settleSkew l q
    let y := (r.lane l).ywPair q ⟨ywSeq b, blue, ywBody b, (r.lane l).run⟩
    let owe := y.live && (r.lane l).on (NET.PORT_STATUS.SPEAKER (b2n blue))
    let z : YwPaired := if owe then { y with lane := y.lane.setYw q (fun w => { w with
        owed := w.owed ++ [⟨blue, ywSession b, ywSeq b, time80 (beAt b 24 4) (beAt b 28 4), (r.lane l).run⟩] }) } else y
    let fails := ywFormOk b = false ∨ x.ywVerify q b = false
    (ywType b = 1 → exec (.ywPoll l blue b) st = .next (if fails then st.setLane l (x.authFail q) else r.ywPaired l z)) ∧
    (ywType b = 6 → exec (.ywFleetFrame l blue b) st = .next (if fails then st.setLane l (x.authFail q) else r.ywPaired l y))) ∧
  (∀ (st : State) (l : LaneId) (blue : Bool) (b : List Byte) (q : Fin 2) (x : LaneSt), (st.lane l).ywIngress blue b = .inr (q.val, x) →
    (ywFormOk b = true → ywType b = 5 →
      let r := (st.setLane l x).settleSkew l q
      let new := ((r.lane l).yw q).next.filter (fun n => n.1 = ywSession b && ywMacOk n.2.1 b)
      let y := new.elim (r.lane l) (fun n => (r.lane l).ywSwitch q n.1 (ywSeq b) n.2)
      exec (.ywKeyConfirm l blue q b) st = .next (if y.ywVerify q b = true
        then r.ywPaired l (y.ywPair q ⟨ywSeq b, blue, ywBody b, y.run⟩) else r.setLane l (y.authFail q))) ∧
    (ywFormOk b = true → ywType b = 3 → x.isLead = true → (x.yw q).keyUntil ≤ x.run →
      (∀ t, (x.yw q).keyLast = some t → t + 100000000 ≤ x.run) →
      let y := x.setYw q (fun w => { w with keyLast := some x.run })
      let key := y.sec.ywKeys.getD q []
      exec (.ywKeyInit l blue q b) st = .next (st.setLane l
        (if key.length = 32 ∧ ed25519Verify key (b.take 68) (sliceBytes b 68 64) = true then y.keyReply q b else y.keyFail q)))) ∧
  (∀ (st : State) (l : LaneId) (q : Fin 2) (c : YwCopy) (cs : List YwCopy), ((st.lane l).yw q).copies = c :: cs →
    c.at' + 1000 * (st.lane l).rd NET.YW_TMO.SKEW ≤ (st.lane l).run →
    exec (.ywSkewExpired l q) st = .next ((st.setLane l
      ((((st.lane l).ywDecide q c.seq (NET.SINGLE.COUNT q)).fault 0x085 q.val).ywAccept q c true)).netAccepted l c.blue)) ∧
  (∀ (st : State) (l : LaneId) (q : Fin 2) (a : YwAnswer) (rest : List YwAnswer) (k : List Byte × List Byte) (pay : List Byte) (nosync : Bool),
    ((st.lane l).yw q).owed = a :: rest → ((st.lane l).yw q).keys = some k →
    a.at' + 500 * (st.lane l).rd NET.YW_CTRL.ANS_DLY ≤ (st.lane l).run + 100 →
    let x := (st.lane l).setYw q (fun w => { w with owed := rest })
    x.answerBuffer a.tPoll = some (pay, nosync) →
    let ports := [2 * b2n a.blue, 2 * b2n a.blue + 1].filter (fun p => x.portUp p && x.gateOpen p 7)
    let mine := pay.take 1 ++ [BitVec.ofNat 8 (leAt pay 1 1 % 16 + 16 * x.id.num)] ++ pay.drop 2
    let frame := ywBuild 2 (b2n nosync) x.node (x.ywPartner q) a.sid a.seq mine (some k.2)
    exec (.ywAnswerSend l q) st = .next (st.setLane l
      (if ports.isEmpty ∨ a.at' + 12000 < x.run then (x.inc (NET.ANS_LATE.COUNT q)).fault 0x08A q.val
       else ports.foldl (fun x p => x.transmit ⟨p, 7, .yuwil (x.ywFrame (b2n a.blue) (x.ywPartner q) frame)⟩) x))) ∧
  (∀ (st : State) (l : LaneId) (src : Arrival) (q : Fin 2) (single : Bool) (w keys : List Dword) (sid : Word) (r : List Byte),
    (st.lane l).accepts src = true →
    let x := (st.lane l).heard src 1
    let bytes := keys.flatMap (fun w => toLe 8 w.toNat)
    exec (.ywRxReceive l src q single w) st = .next (st.setLane l (x.holdPoll q ((w.getD 0 0).toNat % 2 ^ 32)
      ((w.getD 0 0).toNat / 2 ^ 32) (x.wordTime (w.getD 1 0).toNat))) ∧
    exec (.ywKeyReceive l src q sid keys) st = .next (st.setLane l (x.ywKeying q sid.toNat (bytes.take 16, sliceBytes bytes 16 16))) ∧
    exec (.fleetCopyReceive l src r) st = .next (st.setLane l (x.fleetRecord r))) ∧
  (∀ (st : State) (l : LaneId) (seq cmd td : Nat), (st.lane l).net.poll = some (seq, cmd, td) → (st.lane l).isMember = true →
    td + 3000 ≤ (st.lane l).boundaryNs →
    let x := st.lane l
    let y := x.setNet (fun n => { n with permit := bit cmd 0 })
    let cat := 1 + b2n (bit cmd 1)
    (bit cmd 0 = true → exec (.ywCommandApply l) st = .next (st.setLane l
      (if x.net.permit then y else (y.setCause 8 false).raise 5 5))) ∧
    (bit cmd 0 = false → x.net.permit = true →
      exec (.ywCommandApply l) st = .next (st.setLane l (((y.setCause 8 true).raise 5 5).stopAll 8 cat))) ∧
    (bit cmd 0 = false → x.net.permit = false → exec (.ywCommandApply l) st = .next (st.setLane l
      (if x.on VOTE.STATUS.STOPPING = true ∧ x.vote.stopCause = 8 ∧ cat < x.vote.stopCat then y.stopAll 8 cat else y)))) ∧
  (∀ (st : State) (l : LaneId) (blue : Bool), (st.lane l).isMember = true → (st.lane l).on NET.YW_CTRL.EN = true →
    (∀ t, st.lastAccepted blue = some t → t + 10 ^ 6 * (st.lane l).rd NET.YW_TMO.SAFE_TMO ≤ (st.lane l).boundaryNs) →
    (st.lane l).on (NET.PORT_STATUS.LOST (b2n blue)) = false →
    let x := ((((st.lane l).wr (NET.PORT_STATUS.LOST (b2n blue)) 1).setDegrade (b2n blue) true).fault
      (if blue then 0x0A3 else 0x083) 0).raise 5 (2 + b2n blue)
    exec (.netLost l blue) st = .next (st.setLane l
      (if x.on (NET.PORT_STATUS.LOST 0) = true ∧ x.on (NET.PORT_STATUS.LOST 1) = true
       then (x.setCause 4 true).stopAll 4 (x.stopCategory 4) else x))) ∧
  (∀ (st : State) (l : LaneId) (f : FleetStop), (st.lane l).net.fleet = some f →
    (f.applied = false → (st.lane l).isMember = true → f.td + 100000 ≤ (st.lane l).boundaryNs →
      let x := (st.lane l).setNet (fun n => { n with fleet := some { f with applied := true } })
      exec (.fleetStopApply l) st = .next (st.setLane l
        (if x.on VOTE.STATUS.STOPPING = true ∧ x.vote.stopCat ≤ f.cat then x else (x.setCause 9 true).stopAll 9 f.cat))) ∧
    (f.applied = true → f.notAfter < (st.lane l).ns → exec (.fleetStopExpire l) st = .next (st.setLane l
      ((((st.lane l).setNet (fun n => { n with fleet := none })).wr NET.FLEET_STATUS.ACTIVE 0).setCause 9 false))))

/-- Safety input and output events complete. Of inputs that are sampled, a raw level held for FILT (a low of an OSSD
input also for OSSD_FILT) is stamped with its first sample and evaluated, but in its own source's test window it
waits, and in another's a tested input's fall is noted; a window of an enabled source begins, where lane time puts its
first half, in every lane, its midpoint shorts the fed inputs that read high and turns the source on, its end, past
WIDTH, evaluates what fell; a readback fault of a source that supplies latches it and its inputs. An accepted record
of a peer, a lost peer, a pair's discrepancy in an own channel not yet latched and an exceeded SYNC are evaluated. A
READY function that every member reports out of demand and that is asked for gets its permit. An output test starts
where allowed, again after 10 ms, and ends passed or failed; EDM confirms or faults; an overloaded output that is on
is latched off. (R323, R324, R325, R326, R327, R328, R330, R331, R338, R340, R341, R471) -/
def Obligations.SafetyEventsComplete : Prop :=
  (∀ (s : State) (l : LaneId) (i : Fin 20) (lvl : Bool) (held : Nat), (s.lane l).sampling = true →
    bit (s.lane l).sio.filt i.val = !lvl →
    let x := s.lane l
    1000 * (x.rd (SIO.SI_CFG.FILT i.val) + (if lvl then 0 else x.rd (SIO.SI_CFG.OSSD_FILT i.val))) ≤ held →
    let t := x.ns - x.ns % 10 - held * 10
    let y := ((x.wr (SIO.SI_STAMP.NS i.val) (stampNs x.t32 t)).wr (SIO.SI_STAMP.S i.val) (stampS x.t32 t)).wrB (SIO.SI_STAMP.T32 i.val) x.t32
    let z (fell : Bool) : LaneSt := (y.mailSi i.val Mailbox.put).setSio (fun q => { q with
      filt := setBit q.filt i.val lvl, fell := if fell then setBit q.fell i.val true else q.fell })
    let shown (w : LaneSt) : LaneSt := ((w.mailSi i.val Mailbox.take).siTake i.val).evalSafety
    (x.sio.win = none → exec (.siLevelChange l i ⟨lvl, held⟩) s = .next (s.setLane l (shown (z false)))) ∧
    (∀ k u, x.sio.win = some (k, u) → k = y.id → y.fedBy i.val u = true →
      exec (.siLevelChange l i ⟨lvl, held⟩) s = .next (s.setLane l (z false))) ∧
    (∀ k u, x.sio.win = some (k, u) → ¬ (k = y.id ∧ y.fedBy i.val u = true) →
      exec (.siLevelChange l i ⟨lvl, held⟩) s = .next (s.setLane l (shown (z (y.rd (SIO.SI_CFG.TP i.val) != 0 && !lvl)))))) ∧
  (∀ (s : State) (l : LaneId) (t : Fin 4), (s.lane l).on SIO.CTRL.EN = true → bit ((s.lane l).rd SIO.TP_CFG.EN) t.val = true →
    let x := s.lane l
    (x.tpFirst t.val = true → exec (.tpWindowStart l t) s = .next (LaneId.all.foldl (fun r j =>
      r.setLane j ((r.lane j).setSio (fun y => { y with win := some (l, t.val), winHalf := false, fell := 0 })))
      (s.setLane l (x.wr SIO.TP_STATUS.ACTIVE (setBit (x.rd SIO.TP_STATUS.ACTIVE) t.val true))))) ∧
    (x.tpOn t.val = true → bit (x.rd SIO.TP_STATUS.FAULT) t.val = false →
      let y := x.wr SIO.TP_STATUS.FAULT (setBit (x.rd SIO.TP_STATUS.FAULT) t.val true)
      let z := (List.range 20).foldl (fun z i => if z.fedBy i t.val then z.siFail i 7 else z) y
      exec (.tpFault l t) s = .next (s.setLane l (((z.raise 4 6).fault 0x1A4 t.val).evalSafety)))) ∧
  (∀ (s : State) (l : LaneId) (t : Fin 4), (s.lane l).sio.win = some ((s.lane l).id, t.val) → (s.lane l).tpSecond t.val = true →
    exec (.tpWindowMidpoint l t) s = .next (s.setLane l (((List.range 20).foldl (fun x i =>
      if x.fedBy i t.val && bit x.sio.filt i then x.crossShort i else x)
        ((s.lane l).setSio (fun q => { q with winHalf := true }))).evalSafety))) ∧
  (∀ (s : State) (l : LaneId) (t : Fin 4), (s.lane l).tpFirst t.val = false → (s.lane l).tpSecond t.val = false →
    exec (.tpWindowEnd l t) s = .next (LaneId.all.foldl (fun r j => r.setLane j ((r.lane j).tpEnd l t.val)) s)) ∧
  (∀ (s : State) (l : LaneId) (src : Arrival) (w : List Dword), (s.lane l).accepts src = true →
    exec (.safetyXchgReceive l src w) s = .next (s.setLane l (((s.lane l).heard src 1).xchgReceive src.lane w))) ∧
  (∀ (s : State) (l p : LaneId), p ≠ l →
    exec (.safetyInputsLost l p) s = .next (s.setLane l
      ((((s.lane l).setSio (fun x => { x with lost := x.lost.setIfInBounds p.num true })).evalSafety)))) ∧
  (∀ (s : State) (l : LaneId) (f : Fin 16) (pair : Fin 2) (m : Nat), (s.lane l).sf f.val ≠ 0 →
    bit ((s.lane l).sfUsed f.val) (2 * pair.val) = true →
    bit ((s.lane l).sfActive f.val) (2 * pair.val) ≠ bit ((s.lane l).sfActive f.val) (2 * pair.val + 1) →
    [2 * pair.val, 2 * pair.val + 1].find? (fun m => ((s.lane l).sfIn f.val m).1 = (s.lane l).id.num) = some m →
    let i := ((s.lane l).sfIn f.val m).2
    bit ((s.lane l).rd SIO.SI_FAULT.FAULT) i = false →
    exec (.discrepancy l f pair) s = .next (s.setLane l (((((s.lane l).siFail i 6).raise 4 5).fault 0x1A3 i).evalSafety))) ∧
  (∀ (s : State) (l : LaneId) (f : Fin 16), (s.lane l).sfType f.val = 3 → (s.lane l).sf f.val = 2 →
    let a := (s.lane l).sfActive f.val
    (bit a 0 && bit a 1) ≠ (bit a 2 && bit a 3) →
    exec (.syncExceeded l f) s = .next (s.setLane l
      ((((s.lane l).sfToDemand f.val 4 (if bit a 0 && bit a 1 then 2 else 0)).fault 0x1A9 f.val).xchgChanged))) ∧
  (∀ (s : State) (l : LaneId) (f : Fin 16), (s.lane l).isMember = true → (s.lane l).sf f.val = 2 →
    (s.lane l).on (SIO.SF_STATUS.RESTART_REFUSED f.val) = false → (s.lane l).sfAgreed f.val = true → (s.lane l).sfAsked f.val = true →
    let x := (s.lane l).setSf f.val 3
    let y := (x.sio.grant.getD f.val []).foldl (fun x d => x.complete d 0 0 0) x
    exec (.sfPermitGrant l f) s = .next (s.setLane l
      ((y.setSio (fun q => { q with grant := q.grant.setIfInBounds f.val [] })).xchgChanged))) ∧
  (∀ (s : State) (l : LaneId) (k : Fin 8) (ok : Bool),
    let x := s.lane l
    let test := x.setSio (fun q => { q with test := some (k.val, bit (x.rd SIO.SO_STATUS.ON) k.val), retry := setBit q.retry k.val false })
    (x.soTestable k.val = true → exec (.soTestStart l k) s = .next (s.setLane l test) ∧
      (bit x.sio.retry k.val = true → exec (.soTestRetry l k) s = .next (s.setLane l test))) ∧
    (∀ dark, x.sio.test = some (k.val, dark) →
      let y := x.setSio (fun q => { q with test := none, testSw := if dark then setBit q.testSw k.val (!bit q.testSw k.val) else q.testSw })
      exec (.soTestEnd l k ok) s = .next (s.setLane l (if ok then y else y.soLatch k.val 0x1A5))) ∧
    (x.on SIO.CTRL.EN = true → exec (.edmConfirm l k) s = .next (s.setLane l
      (let y := x.wr SIO.SO_STATUS.EDM (setBit (x.rd SIO.SO_STATUS.EDM) k.val (x.edmExpected k.val))
       ((y.setSio (fun q => { q with conf := setBit q.conf k.val true, shut := setBit q.shut k.val false })).judgeOutput k.val).xchgChanged))) ∧
    (x.on SIO.CTRL.EN = true → x.rd (SIO.SO_CFG.ROLE k.val) ≠ 0 → x.on (SIO.SO_CFG.EDM_EN k.val) = true →
      let y := x.wr SIO.SO_STATUS.EDM (setBit (x.rd SIO.SO_STATUS.EDM) k.val (!x.edmExpected k.val))
      let z := (y.wr SIO.SO_STATUS.EDM_FAULT (setBit (y.rd SIO.SO_STATUS.EDM_FAULT) k.val true)).raise 4 4
      exec (.edmFault l k) s = .next (s.setLane l
        ((z.setSio (fun q => { q with conf := setBit q.conf k.val false, shut := setBit q.shut k.val false })).soLatch k.val 0x1A6))) ∧
    (bit (x.rd SIO.SO_STATUS.ON) k.val = true → exec (.soOverload l k) s = .next (s.setLane l (x.soLatch k.val 0x1A5))))

/-- An output found faulty is off and latched. In a sound lane, a failed output test that runs, an EDM fault of a
configured output with EDM enabled and an overload of an output that is on leave that output off (SO_STATUS.ON) and
latched (SO_STATUS.FAULT), whatever its role, whatever the frisket's reaction and whatever the safety functions make
of it. Other lanes are untouched. (R336, R338, R340, R341, R471) -/
def Obligations.FaultyOutputIsOffAndLatched : Prop :=
  ∀ (s : State) (l : LaneId) (k : Fin 8), State.Canon s →
    let x := s.lane l
    let off (c : Instr) : Prop := ∃ y, exec c s = .next (s.setLane l y) ∧
      bit (y.rd SIO.SO_STATUS.ON) k.val = false ∧ bit (y.rd SIO.SO_STATUS.FAULT) k.val = true
    (∀ dark, x.sio.test = some (k.val, dark) → off (.soTestEnd l k false)) ∧
    (x.on SIO.CTRL.EN = true → x.rd (SIO.SO_CFG.ROLE k.val) ≠ 0 → x.on (SIO.SO_CFG.EDM_EN k.val) = true → off (.edmFault l k)) ∧
    (bit (x.rd SIO.SO_STATUS.ON) k.val = true → off (.soOverload l k))

/-! ## Setup, sessions and interrupts (chapters 14, 16, 17) -/

/-- The quoin, MACsec key words and session events complete. In an answering lane a quoin write with another key
records fault 0x004; with the key, in an unsealed lane the setup is checked, and either the first error is shown in
SEAL_ERR or the lane is sealed, and a sealed lane stays as it is. In an unsealed lane a MACsec key word takes its four
bytes of the key of the port's association number, whose packet numbers restart. An open session of the lead that has
been idle for SESS_TMO closes, with a new challenge; the end of a lockout that has run out lets the next attempt be
examined. A SEC_SYNC record of the lead is taken over by a lane it leads: the challenge words, the open session (whose
idle time starts where it is new) and lockout, the count of wrong attempts; a count that reaches 5 enters LOCKOUT in
the log. One of a lane that does not lead is only counted as a frame. (R31, R64, R299, R411, R412, R413, 16 SEC_SYNC)
-/
def Obligations.SetupAndSessionCommandsComplete : Prop :=
  (∀ (s : State) (l : LaneId) (key : Word), (s.lane l).answers →
    (key ≠ 0x5EA10316#32 → exec (.quoin l key) s = .next (s.setLane l ((s.lane l).fault 0x004 0))) ∧
    ((s.lane l).sealed = true → exec (.quoin l 0x5EA10316#32) s = .next (s.setLane l (s.lane l))) ∧
    ((s.lane l).sealed = false → exec (.quoin l 0x5EA10316#32) s = .next (s.setLane l (match (s.lane l).noteSched.sealCheck with
      | some (code, i) => ((s.lane l).noteSched.wr HIF.SEAL_ERR.CODE code).wr HIF.SEAL_ERR.INDEX i
      | none => (s.lane l).noteSched.sealNow)))) ∧
  (∀ (s : State) (l : LaneId) (net port : Fin 2) (n : Fin 4) (v : Word) (k : List Byte), (s.lane l).answers → (s.lane l).sealed = false →
    let an := (s.lane l).rd (NET.MS_CTRL.AN net.val port.val)
    (s.lane l).sec.saks.getD (sakSlot net.val port.val an) [] = k → k.length = 16 →
    exec (.macsecSakWrite l net port n v) s = .next (s.setLane l ((s.lane l).installSak net.val port.val an
      (k.take (4 * n.val) ++ toBe 4 v.toNat ++ k.drop (4 * n.val + 4))))) ∧
  (∀ (s : State) (l : LaneId), ((s.lane l).isLead = true → (s.lane l).sec.session.isSome = true →
      (s.lane l).sec.idleFrom + (s.lane l).rd SEC.CTRL.SESS_TMO * 10 ^ 9 ≤ (s.lane l).ns → exec (.sessionTimeout l) s = .next (s.setLane l (s.lane l).closeSession)) ∧
    ((∀ t, (s.lane l).sec.lockUntil = some t → t ≤ (s.lane l).ns) → exec (.lockoutEnd l) s = .next (s.setLane l
      ({ s.lane l with sec := { (s.lane l).sec with lockUntil := none } } : LaneSt).showSession))) ∧
  (∀ (s : State) (l : LaneId) (src : Arrival) (c0 c1 st until_ : Dword) (rest : List Dword), (s.lane l).accepts src = true →
    let x := (s.lane l).heard src 1
    let c := c0.toNat + 2 ^ 64 * c1.toNat
    let y := (List.range 4).foldl (fun x i => x.wr (SEC.CHALLENGE.BYTES i) (c / 2 ^ (32 * i))) x
    let open_ : Option Nat := if bit st.toNat 32 then some (st.toNat % 2 ^ 32) else none
    let z : LaneSt := { y with sec := { y.sec with
      session := open_, idleFrom := if y.sec.session = open_ then y.sec.idleFrom else y.ns,
      lockUntil := if bit st.toNat 33 then some until_.toNat else none } }
    let n := st.toNat / 2 ^ 34 % 2 ^ 5
    let w := (z.wr SEC.STATUS.FAILS n).showSession
    (x.vote.lead = some src.lane → exec (.secSyncReceive l src (c0 :: c1 :: st :: until_ :: rest)) s = .next (s.setLane l
      (if n = 5 ∧ x.rd SEC.STATUS.FAILS < 5 then w.appendLog 0x09 5 0 0 0 false else w))) ∧
    (x.vote.lead ≠ some src.lane → exec (.secSyncReceive l src (c0 :: c1 :: st :: until_ :: rest)) s = .next (s.setLane l x)))

/-- Interrupt events and bank writes complete. In the lead the delivery engine takes a fast group first, pausing a
normal entry in flight, then goes on with that entry, then takes the next normal group; an entry is a snapshot, the
posted write of bytes 0 to 27 and the final unit in one, or one of these stages at a time where it is split. A group
whose LEADING has elapsed is IDLE. A message held for a vector whose messages are allowed is sent and is no longer
pending. In an answering lane, a write of MASK, CAUSE, RAISED, SWSET or ACK is applied, lets exits that waited for the
last fast entry go on, and is sent to the peers by the lead, and sets WRITE_REFUSED alone elsewhere; writing 1 to
WRITE_REFUSED clears it. Accepted raises, deliveries and writes that peers report are mirrored. (R350, R353, R354,
R355, R357, R358, R360, R362, R364) -/
def Obligations.InterruptEventsComplete : Prop :=
  (∀ (s : State) (l : LaneId) (split : Bool), (s.lane l).isLead = true →
    let x := s.lane l
    let enter (y : LaneSt) (g : Nat) : LaneSt := if split then y.snapshot g else ((y.snapshot g).postHead g).finalUnit g
    let goOn (g : Nat) : LaneSt := if (x.group g).issued then x.finalUnit g else if split then x.postHead g
      else (x.postHead g).finalUnit g
    (∀ g, x.inEntry 1 = some g → exec (.irqEntry l split) s = .next (s.setLane l (goOn g))) ∧
    (∀ g, x.inEntry 1 = none → x.nextGroup 1 = some g →
      (x.inEntry 0 = none → exec (.irqEntry l split) s = .next (s.setLane l (enter x g))) ∧
      (∀ n, x.inEntry 0 = some n → exec (.irqEntry l split) s = .next (s.setLane l
        (enter ((x.setGroup n (fun v => { v with preempted := true })).satInc 14 (IRQ.EVENTS.PREEMPTED 0)) g)))) ∧
    (x.inEntry 1 = none → x.nextGroup 1 = none →
      (∀ g, x.inEntry 0 = some g → exec (.irqEntry l split) s = .next (s.setLane l (goOn g))) ∧
      (∀ g, x.inEntry 0 = none → x.nextGroup 0 = some g → exec (.irqEntry l split) s = .next (s.setLane l (enter x g))))) ∧
  (∀ (s : State) (l : LaneId) (g : Fin 32), ((s.lane l).group g.val).stage = .leading →
    ((s.lane l).group g.val).leadAt + 1000 * (s.lane l).rd (IRQ.GCFG.LEADING g.val) ≤ (s.lane l).run → exec (.irqLeadingEnd l g) s = .next (s.setLane l ((s.lane l).setStage g.val .idle))) ∧
  (∀ (s : State) (l : LaneId) (v : Fin 64),
    let x : LaneSt := { s.lane l with hif := { (s.lane l).hif with msixPending := setBit (s.lane l).hif.msixPending v.val false } }
    exec (.msixRelease l v) s = .next (s.setLane l
      (if bit (s.lane l).hif.msixPending v.val = true ∧ bit (s.lane l).hif.msixAllowed v.val = true then x.msix v.val else s.lane l))) ∧
  (∀ (s : State) (l : LaneId) (fast : Bool) (k : Fin 8) (v : Word), (s.lane l).answers →
    let x := s.lane l
    let b := b2n fast
    let told (y : LaneSt) (off : Nat) : LaneSt := y.send 0x18 0 [off + 2 ^ 11 * b + 2 ^ 32 * v.toNat]
    (x.isLead = true →
      exec (.irqMaskWrite l fast k v) s = .next (s.setLane l (told (x.maskApply b k.val v.toNat).releaseExits (0x20 + 4 * k.val))) ∧
      exec (.irqCauseWrite l fast k v) s = .next (s.setLane l (told (x.causeApply b k.val v.toNat).releaseExits (0x40 + 4 * k.val))) ∧
      exec (.irqRaisedClear l fast k v) s = .next (s.setLane l (told (x.raisedApply b k.val v.toNat).releaseExits (0x60 + 4 * k.val))) ∧
      exec (.irqSwset l fast k v) s = .next (s.setLane l (told (x.swsetApply b k.val v.toNat).releaseExits (0xA0 + 4 * k.val))) ∧
      exec (.irqAckWrite l fast v) s = .next (s.setLane l (told (x.ackApply b v.toNat).releaseExits 0xC0))) ∧
    (x.isLead = false →
      ∀ c ∈ [Instr.irqMaskWrite l fast k v, .irqCauseWrite l fast k v, .irqRaisedClear l fast k v, .irqSwset l fast k v, .irqAckWrite l fast v],
        exec c s = .next (s.setLane l (x.wr (IRQ.STATUS.WRITE_REFUSED b) 1))) ∧
    (bit v.toNat 1 = true → exec (.irqWriteRefusedClear l fast v) s = .next (s.setLane l (x.wr (IRQ.STATUS.WRITE_REFUSED b) 0)))) ∧
  (∀ (s : State) (l : LaneId) (src : Arrival) (g : Fin 32) (srcs snap : Byte) (k : LaneId) (dseq v : Word) (fast : Bool),
    (s.lane l).accepts src = true →
    let x := (s.lane l).heard src 1
    exec (.irqRaiseReceive l src g srcs k) s = .next (s.setLane l
      (x.pend g.val srcs.toNat (if groupLane g.val then 2 ^ k.num else x.members) false)) ∧
    exec (.irqDeliverReceive l src g snap dseq) s = .next (s.setLane l (x.mirrorEntry g.val snap.toNat dseq.toNat)) ∧
    (∀ j : Fin 8,
      exec (.irqWriteReceive l src fast ⟨0x20 + 4 * j.val, by omega⟩ v) s = .next (s.setLane l (x.maskApply (b2n fast) j.val v.toNat).releaseExits) ∧
      exec (.irqWriteReceive l src fast ⟨0x40 + 4 * j.val, by omega⟩ v) s = .next (s.setLane l (x.causeApply (b2n fast) j.val v.toNat).releaseExits) ∧
      exec (.irqWriteReceive l src fast ⟨0x60 + 4 * j.val, by omega⟩ v) s = .next (s.setLane l (x.raisedApply (b2n fast) j.val v.toNat).releaseExits) ∧
      exec (.irqWriteReceive l src fast ⟨0xA0 + 4 * j.val, by omega⟩ v) s = .next (s.setLane l (x.swsetApply (b2n fast) j.val v.toNat).releaseExits)) ∧
    exec (.irqWriteReceive l src fast 0xC0 v) s = .next (s.setLane l (x.ackApply (b2n fast) v.toNat).releaseExits))

/-- A bank write sets the bytes of its own class and no other pending state. In a sound lead that answers, a write of
MASK_k or CAUSE_k of a bank gives every group of word k that is of the bank's class and not reserved the byte written,
and a write of RAISED_k clears the bits written 1 in those groups' bytes; MASK, CAUSE and RAISED of every other group
in either bank, and the two other registers of those groups, read as before. Other lanes are untouched. (R353, R363,
R352) -/
def Obligations.BankWriteSetsItsOwnBytes : Prop :=
  ∀ (s : State) (l : LaneId) (fast : Bool) (k : Fin 8) (v : Word), State.Canon s → (s.lane l).answers → (s.lane l).isLead = true →
    let x := s.lane l
    let mine (b g : Nat) : Prop := b = b2n fast ∧ g / 4 = k.val ∧ x.bank g = b ∧ groupReserved g = false
    let byte (g : Nat) : Nat := v.toNat / 2 ^ (8 * (g % 4)) % 2 ^ 8
    (∃ y, exec (.irqMaskWrite l fast k v) s = .next (s.setLane l y) ∧ ∀ b g, b < 2 → g < 32 →
      (mine b g → y.rd (irqMaskF b g) = byte g) ∧ (¬mine b g → y.rd (irqMaskF b g) = x.rd (irqMaskF b g)) ∧
      y.rd (irqCauseF b g) = x.rd (irqCauseF b g) ∧ y.rd (irqRaisedF b g) = x.rd (irqRaisedF b g)) ∧
    (∃ y, exec (.irqCauseWrite l fast k v) s = .next (s.setLane l y) ∧ ∀ b g, b < 2 → g < 32 →
      (mine b g → y.rd (irqCauseF b g) = byte g) ∧ (¬mine b g → y.rd (irqCauseF b g) = x.rd (irqCauseF b g)) ∧
      y.rd (irqMaskF b g) = x.rd (irqMaskF b g) ∧ y.rd (irqRaisedF b g) = x.rd (irqRaisedF b g)) ∧
    (∃ y, exec (.irqRaisedClear l fast k v) s = .next (s.setLane l y) ∧ ∀ b g, b < 2 → g < 32 →
      (mine b g → ∀ i, i < 8 → bit (y.rd (irqRaisedF b g)) i = (bit (x.rd (irqRaisedF b g)) i && !bit (byte g) i)) ∧
      (¬mine b g → y.rd (irqRaisedF b g) = x.rd (irqRaisedF b g)) ∧
      y.rd (irqMaskF b g) = x.rd (irqMaskF b g) ∧ y.rd (irqCauseF b g) = x.rd (irqCauseF b g))

/-- A snapshot takes the unmasked pending sources and loses none. In a sound lead with no entry in flight and a next
group g of a class (fast first), an entry left after its snapshot puts exactly the pending unmasked sources of g into
SNAP and leaves exactly the pending masked ones in CAUSE: nothing is lost and nothing is taken twice. MASK and RAISED
of g are unchanged, its sequence number DSEQ is one up, it is in ENTRY and IN_SERVICE; CAUSE, MASK, RAISED and SNAP of
every other group, in either bank, read as before. Other lanes are untouched. (R354, R356, R360) -/
def Obligations.SnapshotLosesNoSource : Prop :=
  ∀ (s : State) (l : LaneId) (g b : Nat), State.Canon s → (s.lane l).isLead = true → b < 2 →
    (s.lane l).inEntry 1 = none → (s.lane l).inEntry 0 = none →
    (b = 0 → (s.lane l).nextGroup 1 = none) → (s.lane l).nextGroup b = some g →
    let x := s.lane l
    ∃ y, exec (.irqEntry l true) s = .next (s.setLane l y) ∧
      (∀ i, i < 8 →
        bit (y.rd (irqSnapF b g)) i = (bit (x.rd (irqCauseF b g)) i && !bit (x.rd (irqMaskF b g)) i) ∧
        bit (y.rd (irqCauseF b g)) i = (bit (x.rd (irqCauseF b g)) i && bit (x.rd (irqMaskF b g)) i)) ∧
      y.rd (irqMaskF b g) = x.rd (irqMaskF b g) ∧ y.rd (irqRaisedF b g) = x.rd (irqRaisedF b g) ∧
      (y.group g).stage = .entry ∧ (y.group g).dseq = ((x.group g).dseq + 1) % 2 ^ 32 ∧
      bit (y.rd (IRQ.IN_SERVICE.GROUPS b)) g = true ∧
      (∀ b' g', b' < 2 → g' < 32 → (b' ≠ b ∨ g' ≠ g) →
        y.rd (irqCauseF b' g') = x.rd (irqCauseF b' g') ∧ y.rd (irqMaskF b' g') = x.rd (irqMaskF b' g') ∧
        y.rd (irqRaisedF b' g') = x.rd (irqRaisedF b' g') ∧ y.rd (irqSnapF b' g') = x.rd (irqSnapF b' g'))

/-! ## Faults, self-test and background services (chapters 15, 16, 18) -/

/-- Fault records, first-error reads and ALIVE complete. An accepted FLT_EVENT with reaction LANE_FATAL or EXCL_REQ
takes its sender out of the membership with cause SELF_FATAL, PEER_TIME (event 0x066) or SELF_REQUEST; with any other
reaction it is noted as a frame (the move of a channel to FAULTED is made by every member at the boundary, from the
raising lane's own state: the model's choice, log entry 57). A peer's fault summary becomes its section, valid. In an
answering lane a read of a first-error latch with COMPAT = 1 clears VALID and OVERFLOW and holds FIRST_NS for its next
read; with COMPAT = 0 it has no effect. In a lane whose pads are released and whose ALIVE runs, a toggle changes its
level and every peer sees the transition; in another nothing moves. A readback of another level than the one driven is
fault 0x222, an agreeing one or one of held pads changes nothing. (R370, R374, R375, R376, R377, R378, R379) -/
def Obligations.FaultAndAliveEventsComplete : Prop :=
  (∀ (s : State) (l : LaneId) (src : Arrival) (e : BitVec 72) (total : Word) (w : List Dword), (s.lane l).accepts src = true →
    let x := (s.lane l).heard src 1
    let p := src.lane
    let code := e.toNat / 2 ^ 54 % 2 ^ 10
    let reaction := e.toNat / 2 ^ 51 % 8
    exec (.fltEventReceive l src e total) s = .next (s.setLane l
      (if reaction = 4 then x.excludePeer p causeSelfFatal
       else if reaction = 3 then x.excludePeer p (if code = 0x066 then causePeerTime else causeSelfRequest)
       else x)) ∧
    exec (.fltSumReceive l src w) s = .next (s.setLane l { x with folio := { x.folio with
      sums := x.folio.sums.set p.fin ((List.range 20).map (fun i => (8 * i, 8, (w.getD i 0).toNat))),
      sumValid := x.folio.sumValid.set p.fin true } })) ∧
  (∀ (s : State) (l : LaneId) (b : Fin 24), (s.lane l).answers →
    let x := s.lane l
    let y := (x.wr (FLT.FIRST.VALID b) 0).wr (FLT.FIRST.OVERFLOW b) 0
    (x.on FLT.CTRL.COMPAT = true → exec (.firstRead l b) s = .next (s.setLane l
      { y with flt := { y.flt with firstNs := (b.val, x.rd (FLT.FIRST_NS.NS b)) :: y.flt.firstNs.filter (fun q => q.1 ≠ b.val) } })) ∧
    (x.on FLT.CTRL.COMPAT = false → exec (.firstRead l b) s = .next (s.setLane l x))) ∧
  (∀ (s : State) (l : LaneId),
    ((s.lane l).released = true → (s.lane l).on FLT.STATUS.ALIVE_RUN = true →
      exec (.aliveToggle l) s = .next ((s.lane l).peers.foldl (fun t p => t.setLane p ((t.lane p).wr ((t.lane p).aliveF l) 1))
        (s.setLane l ((s.lane l).wrB FLT.STATUS.ALIVE_LEVEL (!(s.lane l).on FLT.STATUS.ALIVE_LEVEL))))) ∧
    ((s.lane l).released = false ∨ (s.lane l).on FLT.STATUS.ALIVE_RUN = false → exec (.aliveToggle l) s = .next s)) ∧
  (∀ (s : State) (l : LaneId) (level : Bool), exec (.aliveReadback l level) s = .next (s.setLane l
    (if (s.lane l).released = true ∧ level ≠ (s.lane l).on FLT.STATUS.ALIVE_LEVEL then (s.lane l).fault 0x222 0 else s.lane l)))

/-- A supply or temperature event is entered in the history of its block. In a sound lane that is past its bring-up
and neither off nor in NAP, VIN_UV (0x1E4), VIO_UV (0x1E5), TEMP_WARN (0x1E2) and TEMP_TRIP (0x1E3) are entered in
slot TOTAL mod 8 of the PWR queue with their number, code, class, reaction, source 0 and stamp (10 ns resolution), and
TOTAL of PWR counts one up. The seven other entries of that queue keep their content and number, and TOTAL of every
other block keeps its count, whatever the reaction is, the exclusion of the lane included. Other lanes are untouched.
(R367, R432, R433) -/
def Obligations.SupplyEventsAreRecorded : Prop :=
  ∀ (s : State) (l : LaneId), State.Canon s → (s.lane l).answers →
    1 ≤ (s.lane l).rd PWR.STATUS.STATE → (s.lane l).rd PWR.STATUS.STATE ≤ 3 →
    ∀ c code, (c, code) ∈ [(Instr.vinUv l, 0x1E4), (.vioUv l, 0x1E5), (.tempWarn l, 0x1E2), (.tempTrip l, 0x1E3)] →
    let x := s.lane l
    let k := x.rd (FLT.TOTAL.COUNT 15)
    ∃ y, exec c s = .next (s.setLane l y) ∧ y.rd (FLT.TOTAL.COUNT 15) = (k + 1) % 2 ^ 32 ∧
      (let e := y.rd (FLT.HIST_LO.ENTRY 15 (k % 8))
       e / 2 ^ 54 = code ∧ e / 2 ^ 51 % 8 = x.reaction code 0 ∧ e / 2 ^ 49 % 4 = faultClass code ∧ e / 2 ^ 48 % 2 = b2n x.t32 ∧
         e / 2 ^ 32 % 2 ^ 16 = stampS x.t32 x.ns % 2 ^ 16 ∧ e % 2 ^ 32 = stampNs x.t32 x.ns / 10 * 10) ∧
      y.rd (FLT.HIST_HI.SOURCE 15 (k % 8)) = 0 ∧ y.rd (FLT.HIST_NUM.NUMBER 15 (k % 8)) = k ∧
      (∀ j, j < 8 → j ≠ k % 8 → y.rd (FLT.HIST_LO.ENTRY 15 j) = x.rd (FLT.HIST_LO.ENTRY 15 j) ∧
        y.rd (FLT.HIST_HI.SOURCE 15 j) = x.rd (FLT.HIST_HI.SOURCE 15 j) ∧
        y.rd (FLT.HIST_NUM.NUMBER 15 j) = x.rd (FLT.HIST_NUM.NUMBER 15 j)) ∧
      (∀ b, b < 24 → b ≠ 15 → y.rd (FLT.TOTAL.COUNT b) = x.rd (FLT.TOTAL.COUNT b))

/-- Online proofs and the crystal cross-check complete. With no full proof running and no proof of the class active
(class 1 not in HOLD), a start notes whether the class has a provable region, ends a request whose region is gone, and
either takes the next region out of use (mirror, moved inputs, bypass), shows it running, or shows the class's age
alone. The end of an active proof closes it; one passed with no fault of its region meanwhile is recorded and ends its
being overdue, another has the consequence of its class. A provable region of a running rotation that has passed no
proof for its time (1 s, 500 ms for MAC) is noted as overdue with fault 0x244. A peer's accepted result is entered in
the requests that wait for it, and those for which nothing is awaited complete. Once in a second of lane time the
cross-check shows the measured rates (0.1 ppm), counts background work, and counts and reports a peer whose crystal is
far (500 ppm) from this lane's where the comparison attributes it. (R388, R389, R390, R391, R393, R394, R395) -/
def Obligations.ProofEventsComplete : Prop :=
  (∀ (s : State) (l : LaneId) (c : Fin 6), (s.lane l).on BIST.STATUS.FULL_RUNNING = false → (s.lane l).bist.active.getD c.val none = none →
    (c.val = 0 → (s.lane l).inHold = false) →
    let cls := c.val + 1
    let x := ((s.lane l).setUnproved cls ((s.lane l).regions cls).isEmpty).dropRequest cls
    (x.nextRegion cls = none → exec (.onlineProofStart l c) s = .next (s.setLane l (x.showAge cls))) ∧
    (∀ r, x.nextRegion cls = some r →
      let y := x.setBist (fun b => { b with
        active := b.active.setIfInBounds c.val (some r), spoiled := b.spoiled.setIfInBounds c.val false,
        lastRegion := b.lastRegion.setIfInBounds c.val (some r) })
      let z := ((y.wr BIST.STATUS.ACTIVE (setBit (y.rd BIST.STATUS.ACTIVE) c.val true)).wr (BIST.CLS_STATUS.INDEX cls) r).wr (BIST.CLS_STATUS.RESULT cls) 2
      exec (.onlineProofStart l c) s = .next (s.setLane l (LaneSt.showAge
        (if cls = 2 then (z.wr BIST.STATUS.SRAM_MIRROR 1).setMem (fun m => { m with scrubSkip := setBit m.scrubSkip r true })
         else if cls = 4 then
           let u := (((z.wr ADC.STATUS.PROOF_BUSY 1).wr ADC.PROOF.CORE r).wr ADC.PROOF.RESULT 2).wr (ADC.CORE_STATUS.STATE r) 1
           ({ u with adc := { u.adc with proof := some r } } : LaneSt).judgeMoves
         else if cls = 5 then z.bypass r else z) cls)))) ∧
  (∀ (s : State) (l : LaneId) (c : Fin 6) (cov : BitVec 10) (dur : BitVec 16) (r : Nat), (s.lane l).bist.active.getD c.val none = some r →
    let cls := c.val + 1
    let spoiled := (s.lane l).bist.spoiled.getD c.val false
    (∀ passed, (passed && !spoiled) = false → exec (.onlineProofEnd l c passed cov dur) s = .next (s.setLane l
      ((((s.lane l).proofClose cls r 1 dur.toNat cov.toNat).proofFailed cls r).showAge cls))) ∧
    (spoiled = false →
     let x := (s.lane l).proofClose cls r 0 dur.toNat cov.toNat
     let y := x.setBist (fun b => { b with
       passedAt := (cls, r, x.run) :: b.passedAt.filter (fun q => !(q.1 = cls && q.2.1 = r)),
       overdue := if b.overdue.getD c.val none = some r then b.overdue.setIfInBounds c.val none else b.overdue })
     exec (.onlineProofEnd l c true cov dur) s = .next (s.setLane l (LaneSt.showAge
       (if (y.bist.overdue.getD c.val none).isNone = true then y.wr (BIST.CLS_STATUS.OVERDUE cls) 0 else y) cls)))) ∧
  (∀ (s : State) (l : LaneId) (c : Fin 6) (r : Byte), (s.lane l).provable (c.val + 1) r.toNat = true →
    (s.lane l).rotationOn (c.val + 1) = true → (c.val = 0 → (s.lane l).inHold = false) →
    (s.lane l).unprovedLong (c.val + 1) r.toNat = true →
    let x := (s.lane l).setBist (fun b => { b with overdue := b.overdue.setIfInBounds c.val (some r.toNat) })
    exec (.proofOverdue l c r) s = .next (s.setLane l
      (((x.wr (BIST.CLS_STATUS.OVERDUE (c.val + 1)) 1).fault 0x244 (c.val + 1)).showAge (c.val + 1)))) ∧
  (∀ (s : State) (l : LaneId) (src : Arrival) (w : Dword) (rest : List Dword), (s.lane l).accepts src = true →
    let n := w.toNat
    exec (.proofXchgReceive l src (w :: rest)) s = .next (s.setLane l (((s.lane l).heard src 1).proofReport src.lane (n % 2 ^ 8)
      (n / 2 ^ 8 % 2 ^ 8) (n / 2 ^ 16 % 4) (n / 2 ^ 32 % 2 ^ 32) (n / 2 ^ 18 % 2 ^ 10)))) ∧
  (∀ (s : State) (l : LaneId) (a b k : Int), (s.lane l).ns / 10 ^ 9 ≠ (s.lane l).time.crystal →
    let z : LaneSt := { s.lane l with time := { (s.lane l).time with crystal := (s.lane l).ns / 10 ^ 9 } }
    let x := (((z.wrSat CLK.XTAL_PPM.PPM k).wrSat CLK.PEER_PPM.P0 a).wrSat CLK.PEER_PPM.P1 b).bgWork 5 1
    let far (i : Int) : Bool := decide (5000 < i.natAbs)
    let event (y : LaneSt) (p : LaneId) : LaneSt := (y.satInc 16 CLK.COUNTS.XCHECK).fault 0x202 p.num
    (∀ p q, x.memberPeers = [p, q] → exec (.oscXcheck l a b k) s = .next (s.setLane l
      (if x.isMember = true ∧ far a = true ∧ far b = true ∧ far (a - b) = false then event (event x p) q else x))) ∧
    (∀ p, x.memberPeers = [p] → exec (.oscXcheck l a b k) s = .next (s.setLane l
      (if x.isMember = true ∧ far (if p = x.id.peer0 then a else b) = true ∧ far k = true then event x p else x))) ∧
    (x.memberPeers = [] → exec (.oscXcheck l a b k) s = .next (s.setLane l x)))

/-- Background services and telemetry complete. While the lane's background runs: an activity whose period is not
complete and of whose work less than a fifth is done at the quarter is shown lagging, counted, recorded (0x028) and
raised; at the end of a period an activity that is not complete is starved likewise (0x029), a complete one starts
anew; with scrubbing enabled and the bank not skipped, the bank's next word is scrubbed and an error in it handled, a
requester's write in the same cycle coming first, one during the scrub replacing what it wrote back; the periods of
NVM refresh and wear do their work; a telemetry sample, one a ms of lane time, shows the temperatures and supplies,
counts the time and samples the driven channels of a member. A page read of a block in service is counted and handled
by its corrected bits. A save 600 s after the last keeps the counts. At a telemetry batch, one a multiple of PERIOD,
of a member with the galley enabled and a lead, the histograms go to the lead, which holds its own at once; without a
lead the batch counts as skipped. A member's accepted histograms are kept, and the batch that then lacks none is
written. (R25, R419, R420, R421, R423, R424, R425, R426, R427, R429) -/
def Obligations.BackgroundEventsComplete : Prop :=
  (∀ (s : State) (l : LaneId), (s.lane l).background = true →
    let x := s.lane l
    (∀ a : Fin 8, x.bgComplete a.val = false → 5 * x.mem.work.getD a.val 0 < x.bgTotal a.val →
      let y := x.wr MEM.STATUS.LAG (setBit (x.rd MEM.STATUS.LAG) a.val true)
      exec (.backgroundLag l a) s = .next (s.setLane l (((y.satInc 1 (MEM.BG.LAGS a.val)).fault 0x028 a.val).raise 14 2))) ∧
    (∀ a : Fin 8,
      let y := x.wr MEM.STATUS.STARVED (setBit (x.rd MEM.STATUS.STARVED) a.val true)
      let z := y.wr MEM.STATUS.LAG (setBit (y.rd MEM.STATUS.LAG) a.val false)
      exec (.backgroundStarved l a) s = .next (s.setLane l
        (if x.bgComplete a.val then x.setMem (fun m => { m with bgDone := setBit m.bgDone a.val false })
         else ((z.satInc 1 (MEM.BG.STARVED a.val)).fault 0x029 a.val).raise 14 2))) ∧
    (∀ bank : Fin 9, x.on MEM.CTRL.SCRUB_EN = true → bit x.mem.scrubSkip bank.val = false →
      let key := 98304 * bank.val + x.mem.scrubAt.getD bank.val 0
      let put (y : LaneSt) (v : Dword) : LaneSt := y.setMem (fun m => { m with
        sram := Sparse.set (fun _ => 0) m.sram key v, sramBad := m.sramBad.filter (· ≠ key) })
      let bad (y : LaneSt) : LaneSt := y.setMem (fun m => { m with sramBad := key :: m.sramBad.filter (· ≠ key) })
      let read (e : Nat) : LaneSt := if e = 0 then x.scrubWord else if e = 1 then x.scrubWord.sramCorr bank.val
        else (bad x.scrubWord).fault 0x023 bank.val
      let next (y : LaneSt) : LaneSt := y.setMem (fun m => { m with
        scrubAt := m.scrubAt.setIfInBounds bank.val ((m.scrubAt.getD bank.val 0 + 1) % 98304) })
      ∀ e : Fin 3, exec (.sramScrub l bank ⟨e, none⟩) s = .next (s.setLane l (next (read e.val))) ∧
        ∀ v, exec (.sramScrub l bank ⟨e, some (true, v)⟩) s = .next (s.setLane l (next ((put x v).scrubWord))) ∧
          exec (.sramScrub l bank ⟨e, some (false, v)⟩) s = .next (s.setLane l (next (put (read e.val) v)))) ∧
    exec (.nvmRefresh l) s = .next (s.setLane l ((List.range 256).foldl (fun l b =>
      if (l.block b).use ≠ 0 then l
      else
        let n := (l.block b).reads + 256
        let l := l.setBlock b { l.block b with reads := n }
        if 10000 * l.rd MEM.NVM_CTRL.RD_LIMIT ≤ n then l.refreshBlock b else l) (x.bgWork 1 1))) ∧
    (let y := (x.bgWork 2 1).setMem (fun m => { m with nvmDue := [] })
     let z := x.mem.nvmDue.foldl (fun l b => if (l.block b).use = 0 then l.refreshBlock b else l) y
     (∀ h b c, z.pickBlock 0 (fun i j => decide (j < i)) = some h → z.pickBlock 0 (fun i j => decide (i < j)) = some b →
        z.pickBlock 1 (fun i j => decide (j < i)) = some c → exec (.nvmWear l) s = .next (s.setLane l
          (if 10 * z.rd MEM.NVM_CTRL.WEAR_SPREAD < (z.block h).erases - (z.block b).erases
           then (z.moveBlock b c).satInc 1 MEM.NVM_COUNTS.MOVES else z))) ∧
     (z.pickBlock 1 (fun i j => decide (j < i)) = none → exec (.nvmWear l) s = .next (s.setLane l z))) ∧
    (∀ (t g0 g1 : Int) (vin vgd vio : Nat), x.ns / 10 ^ 6 ≠ x.mem.sampledAt →
      let x := x.setMem (fun m => { m with sampledAt := x.ns / 10 ^ 6 })
      let y := ((x.wrSat MEM.TEMP0.T_LOGIC t).wrSat MEM.TEMP0.T_GD0 g0).wrSat MEM.TEMP1.T_GD1 g1
      let hi := max t (max g0 g1)
      let w := y.wrSat MEM.TEMP1.T_MAX (if y.mem.sampled = true then max hi (y.rdI MEM.TEMP1.T_MAX) else hi)
      let z := (((w.wr PWR.SUPPLY0.VIN (min 0xFFFF vin)).wr PWR.SUPPLY0.VGD (min 0xFFFF vgd)).wr PWR.SUPPLY1.VIO (min 0xFFFF vio)).setMem (fun m =>
        { m with sampled := true, supplies := (vin, vgd, vio), tel := { m.tel with lifeMs := m.tel.lifeMs + 1 } })
      exec (.telemetrySample l t g0 g1 vin vgd vio) s = .next (s.setLane l
        (((List.range 8).foldl (fun l n => if l.isMember && l.driven n then l.sampleCh n else l)
          ((List.range 8).foldl LaneSt.noteTemp z)).bgWork 6 1000)))) ∧
  (∀ (s : State) (l : LaneId) (b : Byte) (n : Nat) (ok : Bool), ((s.lane l).block b.toNat).use = 0 →
    let x := (s.lane l).setBlock b.toNat { (s.lane l).block b.toNat with reads := ((s.lane l).block b.toNat).reads + 1 }
    let y := if n = 0 then x else x.fault 0x025 b.toNat
    let worn : Prop := y.rd MEM.NVM_CTRL.CORR_TH ≤ n ∨ ok = false ∨ 20000 ≤ ((s.lane l).block b.toNat).erases
    exec (.nvmPageRead l b n ok) s = .next (s.setLane l
      (if 8 < n then x.fault 0x027 b.toNat
       else if worn then y.retireBlock b.toNat (!ok)
       else if y.rd MEM.NVM_CTRL.REFRESH_TH ≤ n then y.setMem (fun m => { m with nvmDue := m.nvmDue.filter (· ≠ b.toNat) ++ [b.toNat] })
       else y))) ∧
  (∀ (s : State) (l : LaneId),
    ((s.lane l).mem.savedAt + 600 * 10 ^ 9 ≤ (s.lane l).run →
      exec (.telemetrySave l) s = .next (s.setLane l ((s.lane l).setMem (fun m =>
        { m with savedAt := (s.lane l).run, telSaved := some { m.tel with soLife := Vector.ofFn (fun k : Fin 8 => (s.lane l).soLife k.val) } })))) ∧
    ((s.lane l).on MEM.CTRL.TG_EN = true → (s.lane l).isMember = true → (s.lane l).telMultiple ≠ (s.lane l).mem.batchAt →
      let y := (s.lane l).setMem (fun m => { m with batchAt := (s.lane l).telMultiple })
      let x := y.setMem (fun m => { m with restored := false })
      let bs := (s.lane l).telBytes
      ((s.lane l).vote.lead = none → exec (.telemetryBatch l) s = .next (s.setLane l (y.inc MEM.TG_SKIPPED.COUNT))) ∧
      (∀ k, (s.lane l).vote.lead = some k → k ≠ (s.lane l).id →
        exec (.telemetryBatch l) s = .next (s.setLane l (x.sendTo k 0x107 0 (wordsOf bs)))) ∧
      ((s.lane l).vote.lead = some (s.lane l).id → exec (.telemetryBatch l) s = .next (s.setLane l
        ((x.setMem (fun m => { m with batch := some ⟨x.stamp64, x.members⟩,
                                      copies := m.copies.set x.id.fin (some bs) })).telSettle))))) ∧
  (∀ (s : State) (l : LaneId) (src : Arrival) (bs : List Byte), (s.lane l).accepts src = true →
    exec (.bulkTelemetryCopy l src bs) s = .next (s.setLane l
      ((((s.lane l).heard src (frameCount bs)).setMem (fun m => { m with copies := m.copies.set src.lane.fin (some bs) })).telSettle)))

/-- NVM management keeps the number of blocks in service. A page read, an NVM refresh period and an NVM wear period
leave as many of the 256 erase blocks in service as before: content moves from block to block and is never lost. A
retired block stays retired, and no block's erase count falls. Other lanes are untouched. (R423, R424, R425) -/
def Obligations.NvmKeepsItsBlocksInService : Prop :=
  ∀ (s : State) (l : LaneId) (b : Byte) (n : Nat) (ok : Bool), ∀ c ∈ [Instr.nvmPageRead l b n ok, .nvmRefresh l, .nvmWear l],
    let served (x : LaneSt) : Nat := ((List.range 256).filter (fun i => (x.block i).use = 0)).length
    ∃ y, exec c s = .next (s.setLane l y) ∧ served y = served (s.lane l) ∧
      ∀ i, i < 256 → (((s.lane l).block i).use = 2 → (y.block i).use = 2) ∧ ((s.lane l).block i).erases ≤ (y.block i).erases

/-! ## Power states and resets, and what a command cannot reach (chapters 01, 19) -/

/-- Supplies, resets, HOLD, sleep, NAP and wake complete. Power-on of a lane that is OFF, a brownout (counted) and a
pin reset of one that is not are cold resets; power-off clears the lane and leaves it OFF. A monitor event of a lane
past its bring-up is a fault event; a regulator out of its window in BOOT fails the start-up proof as well. A crystal
or PLL loss clears its status bit besides. A supervisor restart is counted. The park condition, held for HOLD_DLY,
puts a member in HOLD, the dies in standby, and an enabling descriptor's start-up takes it to RUN. A member's PWR_SYNC
is noted. ALIVE of released pads toggles, seen by the peers; its readback is checked. Sleep requests come and go as
enabled. NAP entry leaves the retention image alone; a wake source that came meanwhile wakes at once. A wake source (a
CAN transceiver's shows in CAN.STATUS) wakes a lane in NAP, merges in WAKE, is kept before. A wake that ends ill
resets; else it proves again, or loads the firmware and releases the pads. (R432, R433, R436, R437, R441, R442, R443,
R444, R445, R446, R447) -/
def Obligations.PowerEventsComplete : Prop :=
  (∀ (s : State) (l : LaneId),
    let x := s.lane l
    (x.pwr.off = true → exec (.powerOn l) s = .next (s.setLane l (x.coldReset 0))) ∧
    exec (.powerOff l) s = .next (s.setLane l { x.cleared with pwr := { PwrSt.reset with off := true } }) ∧
    (x.pwr.off = false →
      exec (.brownout l) s = .next (s.setLane l ((x.satInc 15 PWR.COUNTS.BROWNOUTS).coldReset 1)) ∧
      exec (.pinReset l) s = .next (s.setLane l (x.coldReset 2)) ∧
      exec (.xtalFail l) s = .next (s.setLane l ((x.wr CLK.STATUS.XTAL_OK 0).monitor 0x204 0)) ∧
      (∀ (i : Fin 8) (f : Field) (n : Nat), pllOf i.val = some (f, n) →
        exec (.pllUnlock l i) s = .next (s.setLane l ((x.wr f 0).monitor 0x203 n))) ∧
      (x.pwr.nap = false →
        exec (.supWdog l) s = .next (s.setLane l (x.satInc 15 PWR.RESET_CAUSE.SUP_WDOG)) ∧
        (∀ r : Byte, r.toNat < 3 →
          (x.rd PWR.STATUS.STATE = 0 → exec (.regFault l r) s = .next (s.setLane l
            (((x.fault 0x1E7 r.toNat).wr BIST.STATUS.FULL_RUNNING 0).wr BIST.LAST_FULL.RESULT 1))) ∧
          (x.rd PWR.STATUS.STATE ≠ 0 → exec (.regFault l r) s = .next (s.setLane l (x.fault 0x1E7 r.toNat)))) ∧
        (x.rd PWR.STATUS.STATE ≠ 0 → x.rd PWR.STATUS.STATE ≠ 4 →
          exec (.vinUv l) s = .next (s.setLane l (x.fault 0x1E4 0)) ∧
          exec (.vioUv l) s = .next (s.setLane l (x.fault 0x1E5 0)) ∧
          exec (.tempWarn l) s = .next (s.setLane l (x.fault 0x1E2 0)) ∧
          exec (.tempTrip l) s = .next (s.setLane l (x.fault 0x1E3 0)))))) ∧
  (∀ (s : State) (l : LaneId),
    let x := s.lane l
    (x.rd PWR.STATUS.STATE = 1 → x.isMember = true → x.on PWR.CTRL.HOLD_EN = true → x.parkCondition = true →
      x.pwr.parkFrom + 10 ^ 6 * x.rd PWR.CTRL.HOLD_DLY ≤ x.run →
      exec (.holdEntry l) s = .next (s.setLane l (x.wr PWR.STATUS.STATE 2).standbyDies.telSave)) ∧
    (∀ n, n < 8 → x.rd PWR.STATUS.STATE = 2 → (x.ch n).fromHold = true →
      exec (.holdToRun l) s = .next (s.setLane l ((List.range 8).foldl (fun l n =>
        if (l.ch n).fromHold = true then (l.setComm n (fun c => { c with fromHold := false })).startChecks n else l)
        (x.wr PWR.STATUS.STATE 1).wakeDies))) ∧
    (x.released = true →
      (x.on PWR.CTRL.SLEEP_PIN = true → exec (.sleepRequest l true) s = .next (s.setLane l
        ({ x with pwr := { x.pwr with pin := true } } : LaneSt).showSleep)) ∧
      (x.on PWR.CTRL.SLEEP_LINK = true → x.on HIF.STATUS.LINK_UP = false → exec (.sleepRequest l false) s = .next (s.setLane l
        ({ x with pwr := { x.pwr with link := true } } : LaneSt).showSleep)) ∧
      exec (.sleepRequestWithdrawn l true) s = .next (s.setLane l ({ x with pwr := { x.pwr with pin := false } } : LaneSt).showSleep) ∧
      exec (.sleepRequestWithdrawn l false) s = .next (s.setLane l ({ x with pwr := { x.pwr with link := false } } : LaneSt).showSleep))) ∧
  (∀ (s : State) (l : LaneId) (src : Arrival) (ready : Bool), (s.lane l).accepts src = true →
    exec (.pwrSyncReceive l src ready) s = .next (s.setLane l
      (((s.lane l).heard src 1).setPeer src.lane (fun v => { v with napReady := ready })))) ∧
  (∀ (s : State) (l : LaneId) (level : Bool),
    exec (.aliveReadback l level) s = .next (s.setLane l
      (if (s.lane l).released = true ∧ level ≠ (s.lane l).on FLT.STATUS.ALIVE_LEVEL then (s.lane l).fault 0x222 0 else s.lane l)) ∧
    ((s.lane l).released = true → (s.lane l).on FLT.STATUS.ALIVE_RUN = true →
      exec (.aliveToggle l) s = .next ((s.lane l).peers.foldl (fun t p => t.setLane p ((t.lane p).wr ((t.lane p).aliveF l) 1))
        (s.setLane l ((s.lane l).wrB FLT.STATUS.ALIVE_LEVEL (!(s.lane l).on FLT.STATUS.ALIVE_LEVEL)))))) ∧
  (∀ (s : State) (l : LaneId), (s.lane l).rd PWR.STATUS.STATE = 3 →
    let y := ((s.lane l).telSave.satInc 15 PWR.COUNTS.NAPS).napped
    exec (.napEntryComplete l) s = .next (s.setLane l (if (s.lane l).pwr.wake = 0 then y
      else (y.satInc 15 PWR.COUNTS.LATE_WAKES).wakeStart (setBit (s.lane l).pwr.wake 9 true)))) ∧
  (∀ (s : State) (l : LaneId) (src : Fin 9), (s.lane l).pwr.off = false → (s.lane l).wakeEnabled src.val = true →
    let x := if src.val = 1 ∨ src.val = 2 then (s.lane l).wr (CAN.STATUS.WAKE (src.val - 1)) 1 else s.lane l
    let does (y : LaneSt) : Prop := exec (.wakeSource l src) s = .next (s.setLane l y) ∧
      (src = 7 → ∀ p, p ≠ l → exec (.peerWake l p) s = .next (s.setLane l y))
    (x.pwr.nap = true → does (x.wakeStart (2 ^ src.val))) ∧
    (x.pwr.nap = false → x.rd PWR.STATUS.STATE = 4 →
      does (x.setWord PWR.WAKE_CAUSE.off (BitVec.ofNat 32 (setBit (x.word PWR.WAKE_CAUSE.off).toNat src.val true)))) ∧
    (x.pwr.nap = false → x.rd PWR.STATUS.STATE ≠ 4 → x.rd PWR.STATUS.STATE ≠ 0 →
      does { x with pwr := { x.pwr with wake := setBit x.pwr.wake src.val true } })) ∧
  (∀ (s : State) (l : LaneId), (s.lane l).rd PWR.STATUS.STATE = 4 → (s.lane l).pwr.off = false →
    let x := s.lane l
    exec (.wakeComplete l false) s = .next (s.setLane l ((x.coldReset 4).wr PWR.STATUS.RETAIN_LOST 1)) ∧
    (x.on FLT.STATUS.FATAL = true → exec (.wakeComplete l true) s = .next (s.setLane l (x.coldReset 4))) ∧
    (x.on FLT.STATUS.FATAL = false →
      (x.on PWR.CTRL.WAKE_PROOF = true → exec (.wakeComplete l true) s = .next (s.setLane l
        ((({ x with pwr := PwrSt.reset } : LaneSt).wr PWR.STATUS.STATE 0).proofReleased false))) ∧
      (x.on PWR.CTRL.WAKE_PROOF = false → x.fwLoad.2 = true → x.sec.colophonOk = true →
        let y := ((x.fwLoad.1.wr SEC.STATUS.KEYS_OK 1).restoreTelemetry.releasePads 5700000 (decide
          ((x.fwLoad.1.wr SEC.STATUS.KEYS_OK 1).restoreTelemetry.self = selfDead))).wr PWR.STATUS.WOKEN 1
        exec (.wakeComplete l true) s = .next (s.setLane l (y.wr PWR.STATUS.RETAIN_LOST 0)))))

/-- A cold reset clears the lane but for what stands in NVM. After a pin reset of a lane that is not OFF, or a
power-on of one that is, the lane is in BOOT with its full proof running, FORMING and a member of nothing, not sealed;
its fault counts and READMITS are 0, its galley counters 0, no descriptor, session or pending commit is left,
RESET_CAUSE names the source; and the password hash, the committed images, the change log, the fleet keys, the
firmware slots and the NVM blocks are as before. Other lanes are untouched. (R438, R367, R64, R410, R414) -/
def Obligations.ColdResetKeepsOnlyNvm : Prop :=
  ∀ (s : State) (l : LaneId), State.Canon s → ∀ c cause, (c, cause) ∈ [(Instr.powerOn l, 0), (.pinReset l, 2)] →
    (s.lane l).pwr.off = decide (cause = 0) →
    let x := s.lane l
    ∃ y, exec c s = .next (s.setLane l y) ∧ y.rd PWR.RESET_CAUSE.CAUSE = cause ∧ y.rd PWR.STATUS.STATE = 0 ∧
      y.rd BIST.STATUS.FULL_RUNNING = 1 ∧ y.self = selfForming ∧ y.members = 0 ∧ y.rd HIF.STATUS.SEALED = 0 ∧
      y.rd VOTE.STATUS.READMITS = 0 ∧ (∀ b, b < 24 → y.rd (FLT.TOTAL.COUNT b) = 0) ∧
      (∀ n, n < 16 → y.rd (HIF.SG_CONSUMED.COUNT n) = 0 ∧ y.rd (HIF.CG_WRITTEN.COUNT n) = 0) ∧
      y.hif = .reset ∧ y.commit = none ∧ y.sec.session = none ∧ y.staging = [] ∧ y.pwr = .reset ∧
      y.sec.pwHash = x.sec.pwHash ∧ y.sec.copies = x.sec.copies ∧ y.sec.log = x.sec.log ∧
      y.sec.fleetKeys = x.sec.fleetKeys ∧ y.sec.fw = x.sec.fw ∧ y.mem.nvm = x.mem.nvm ∧
      (∀ off ∈ nvmWords, off ≠ SEC.FW_STATUS.STAGING.off → y.word off = x.word off)

/-- NAP keeps the retention image and nothing of the sessions. When NAP entry of a sound lane completes with no wake
source waiting, the lane is in NAP, and of its registers every RWS bit of the setup, the fault histories, counts,
first-error latches and STATUS.FATAL, the record of the last full proof, the retired and spared units, the bridge
latches, the interrupt masks and the galley counters read as before, as do the highest folio SEQ, READMITS, the quoin,
the count of wrong passwords and DEAD. No descriptor, password or Yuwil session, safety function state, lane time or
port state of before is left. Other lanes are untouched. (R444, R447) -/
def Obligations.NapKeepsTheRetentionImage : Prop :=
  ∀ (s : State) (l : LaneId), State.Canon s → (s.lane l).rd PWR.STATUS.STATE = 3 → (s.lane l).pwr.wake = 0 →
    let x := s.lane l
    ∃ y, exec (.napEntryComplete l) s = .next (s.setLane l y) ∧ y.pwr.nap = true ∧
      (∀ off ∈ setupOffsets, y.word off &&& BitVec.ofNat 32 (rwsMask off) = x.word off &&& BitVec.ofNat 32 (rwsMask off)) ∧
      (∀ b k, b < 24 → b ≠ 15 → k < 8 → y.rd (FLT.HIST_LO.ENTRY b k) = x.rd (FLT.HIST_LO.ENTRY b k) ∧
        y.rd (FLT.HIST_HI.SOURCE b k) = x.rd (FLT.HIST_HI.SOURCE b k) ∧ y.rd (FLT.HIST_NUM.NUMBER b k) = x.rd (FLT.HIST_NUM.NUMBER b k) ∧
        y.rd (FLT.TOTAL.COUNT b) = x.rd (FLT.TOTAL.COUNT b) ∧ y.rd (FLT.FIRST.VALID b) = x.rd (FLT.FIRST.VALID b)) ∧
      y.rd FLT.STATUS.FATAL = x.rd FLT.STATUS.FATAL ∧ y.rd BIST.LAST_FULL.RESULT = x.rd BIST.LAST_FULL.RESULT ∧
      y.rd ADC.RETIRED.CORES = x.rd ADC.RETIRED.CORES ∧ y.rd BIST.STATUS.SRAM_SPARED = x.rd BIST.STATUS.SRAM_SPARED ∧
      (∀ n, n < 8 → y.rd (GATE.BRIDGE.SIDE n) = x.bridgeSide n ∧ (x.chState n = chFaulted → y.chState n = chFaulted)) ∧
      (∀ b g, b < 2 → g < 32 → y.rd (irqMaskF b g) = x.rd (irqMaskF b g)) ∧
      (∀ n, n < 16 → y.rd (HIF.SG_CONSUMED.COUNT n) = x.rd (HIF.SG_CONSUMED.COUNT n) ∧
        y.rd (HIF.CG_WRITTEN.COUNT n) = x.rd (HIF.CG_WRITTEN.COUNT n)) ∧
      y.vote.folioSeq = x.vote.folioSeq ∧ y.rd VOTE.STATUS.READMITS = x.rd VOTE.STATUS.READMITS ∧
      y.rd HIF.STATUS.SEALED = x.rd HIF.STATUS.SEALED ∧ y.rd SEC.STATUS.FAILS = x.rd SEC.STATUS.FAILS ∧
      y.self = (if x.self = selfDead then selfDead else selfForming) ∧
      y.hif.exec = [] ∧ y.hif.staged = [] ∧ y.sec.session = none ∧ y.net.sess = NetSt.reset.sess ∧
      y.sio = .reset ∧ y.time = .reset ∧ y.fbk = .reset

/-- A command of one lane leaves the other lanes alone. Every command but the 25 that no lane carries out alone (named
in deviceLevel: test-pulse windows, ALIVE, voting boundaries, Yuwil frames, diagnoses, tuning ends, full proofs, lane
resets, reports and host buffers, completions) changes nothing but the lane it is given to or happens in: for every
state and operands the next state is the state before with that one lane replaced, so that the other lanes and the
queue are what they were; only the two commands that begin and end a state transfer to the lane also give up what its
donor had captured for it. A lane learns of another only by the records it receives. (R4, 95 Table of operations and
events, 01 Lanes) -/
def Obligations.CommandsKeepToTheirLane : Prop :=
  ∀ (c : Instr) (s : State), deviceLevel c = false → ∃ t y, exec c s = .next (t.setLane (laneOf c) y) ∧
    (t = s ∨ ((c = .readmitTimeAligned (laneOf c) ∨ c = .stateTransferComplete (laneOf c)) ∧ t = s.setSnap (laneOf c) none))
end

