-- ==== Sys2Proof/Laws/Sparse.lean ====
section
/-!
SUPPORT. Laws of the sparse stores: read after write, and the canonical form.
-/

namespace Sys2Proof.Machine

variable {α : Type} [DecidableEq α] {d : Nat → α}

theorem Sparse.get_of_lt : ∀ {m : List (Nat × α)} {lo k : Nat}, Sparse.wfFrom d lo m = true → k < lo → Sparse.get d m k = d k
  | [], _, _, _, _ => rfl
  | (k', v) :: m, lo, k, h, hk => by
    simp only [Sparse.wfFrom, Bool.and_eq_true, decide_eq_true_eq] at h
    have : k ≠ k' := by omega
    simp only [Sparse.get, this, if_false]
    exact Sparse.get_of_lt h.2 (by omega)

/-- A write is read back at its key. -/
theorem Sparse.get_set_same : ∀ {m : List (Nat × α)} {lo : Nat} (_ : Sparse.wfFrom d lo m = true) (k : Nat) (v : α),
    Sparse.get d (Sparse.set d m k v) k = v
  | [], _, _, k, v => by
    unfold Sparse.set
    split <;> simp_all [Sparse.get]
  | (k', v') :: m, lo, h, k, v => by
    simp only [Sparse.wfFrom, Bool.and_eq_true, decide_eq_true_eq] at h
    unfold Sparse.set
    split
    · have : k ≠ k' := by omega
      split
      · rw [Sparse.get, if_neg this, Sparse.get_of_lt h.2 (by omega)]
        simp_all
      · simp [Sparse.get]
    · split
      · split
        · subst_vars
          rw [Sparse.get_of_lt h.2 (by omega)]
        · simp [Sparse.get]
      · rename_i h1 h2
        rw [Sparse.get, if_neg h2]
        exact Sparse.get_set_same h.2 k v

/-- A write leaves every other key as it is. -/
theorem Sparse.get_set_ne : ∀ (m : List (Nat × α)) {k j : Nat} (_ : j ≠ k) (v : α),
    Sparse.get d (Sparse.set d m k v) j = Sparse.get d m j
  | [], k, j, hj, v => by
    unfold Sparse.set
    split <;> simp [Sparse.get, hj]
  | (k', v') :: m, k, j, hj, v => by
    unfold Sparse.set
    split
    · split
      · rfl
      · rw [Sparse.get, if_neg hj]
    · split
      · rename_i h1 h2
        split
        · simp [Sparse.get, ← h2, hj]
        · simp [Sparse.get, ← h2, hj]
      · rw [Sparse.get, Sparse.get, Sparse.get_set_ne m hj v]

theorem Sparse.wfFrom_mono : ∀ {m : List (Nat × α)} {lo lo' : Nat}, lo' ≤ lo → Sparse.wfFrom d lo m = true → Sparse.wfFrom d lo' m = true
  | [], _, _, _, _ => rfl
  | (k, v) :: m, lo, lo', hl, h => by
    simp only [Sparse.wfFrom, Bool.and_eq_true, decide_eq_true_eq] at h ⊢
    exact ⟨⟨by omega, h.1.2⟩, h.2⟩

theorem Sparse.wfFrom_set : ∀ {m : List (Nat × α)} {lo : Nat} (_ : Sparse.wfFrom d lo m = true) {k : Nat} (_ : lo ≤ k) (v : α),
    Sparse.wfFrom d lo (Sparse.set d m k v) = true
  | [], lo, _, k, hk, v => by
    unfold Sparse.set
    split <;> simp_all [Sparse.wfFrom]
  | (k', v') :: m, lo, h, k, hk, v => by
    have h' := h
    simp only [Sparse.wfFrom, Bool.and_eq_true, decide_eq_true_eq] at h
    unfold Sparse.set
    split
    · split
      · exact h'
      · simp only [Sparse.wfFrom, Bool.and_eq_true, decide_eq_true_eq]
        exact ⟨⟨hk, by assumption⟩, ⟨by omega, h.1.2⟩, h.2⟩
    · split
      · rename_i h1 h2
        split
        · exact Sparse.wfFrom_mono (by omega) h.2
        · simp only [Sparse.wfFrom, Bool.and_eq_true, decide_eq_true_eq]
          exact ⟨⟨hk, by assumption⟩, h2 ▸ h.2⟩
      · simp only [Sparse.wfFrom, Bool.and_eq_true, decide_eq_true_eq]
        exact ⟨h.1, Sparse.wfFrom_set h.2 (by omega) v⟩

/-- A write keeps the canonical form. -/
theorem Sparse.wf_set {m : List (Nat × α)} (h : Sparse.wf d m = true) (k : Nat) (v : α) : Sparse.wf d (Sparse.set d m k v) = true :=
  Sparse.wfFrom_set h (Nat.zero_le k) v

/-- Equal contents in canonical form are equal lists. -/
theorem Sparse.ext : ∀ {m n : List (Nat × α)} {lo lo' : Nat}, Sparse.wfFrom d lo m = true → Sparse.wfFrom d lo' n = true →
    (∀ k, Sparse.get d m k = Sparse.get d n k) → m = n
  | [], [], _, _, _, _, _ => rfl
  | [], (k, v) :: n, _, _, _, hn, h => by
    simp only [Sparse.wfFrom, Bool.and_eq_true, decide_eq_true_eq] at hn
    have := h k
    simp [Sparse.get] at this
    exact absurd this.symm hn.1.2
  | (k, v) :: m, [], _, _, hm, _, h => by
    simp only [Sparse.wfFrom, Bool.and_eq_true, decide_eq_true_eq] at hm
    have := h k
    simp [Sparse.get] at this
    exact absurd this hm.1.2
  | (k, v) :: m, (j, w) :: n, _, _, hm, hn, h => by
    simp only [Sparse.wfFrom, Bool.and_eq_true, decide_eq_true_eq] at hm hn
    rcases Nat.lt_trichotomy k j with hlt | heq | hgt
    · have := h k
      rw [Sparse.get, if_pos rfl, Sparse.get, if_neg (by omega), Sparse.get_of_lt hn.2 (by omega)] at this
      exact absurd this hm.1.2
    · subst heq
      have hv := h k
      simp only [Sparse.get, if_true] at hv
      subst hv
      have : m = n := by
        refine Sparse.ext hm.2 hn.2 (fun i => ?_)
        by_cases hi : i = k
        · subst hi
          rw [Sparse.get_of_lt hm.2 (by omega), Sparse.get_of_lt hn.2 (by omega)]
        · have := h i
          simpa only [Sparse.get, hi, if_false] using this
      rw [this]
    · have := h j
      rw [Sparse.get, if_neg (by omega), Sparse.get, if_pos rfl, Sparse.get_of_lt hm.2 (by omega)] at this
      exact absurd this.symm hn.1.2

end Sys2Proof.Machine
end

