-- ==== Sys2Proof/Laws/Canon.lean ====
section
/-!
SUPPORT. The rules by which every operation of the machine keeps a lane sound: how a record update, a loop and a write of a
word do it.
-/

namespace Sys2Proof.Machine

open Sys2Proof LaneSt

theorem canon_mk {k : LaneId} {l : LaneSt} (h : Canon k l) {id regs time xing hif vote folio commit staging irq flt bist comm gate adc fbk
    loop prof sec sio net mem pwr posted free} (h1 : id = l.id) (h2 : regs = l.regs) (h3 : staging = l.staging) :
    Canon k (LaneSt.mk id regs time xing hif vote folio commit staging irq flt bist comm gate adc fbk loop prof sec sio net mem pwr
      posted free) := by
  subst h1 h2 h3
  exact ⟨h.id, h.regs, h.staging, h.ident⟩

theorem canon_foldl {k : LaneId} {α : Type} {f : LaneSt → α → LaneSt} {l : LaneSt} {xs : List α} (h : Canon k l)
    (hf : ∀ l x, Canon k l → Canon k (f l x)) : Canon k (xs.foldl f l) := by
  induction xs generalizing l with
  | nil => exact h
  | cons x xs ih => exact ih (hf l x h)

theorem canon_elim {k : LaneId} {α : Type} {f : α → LaneSt} {l : LaneSt} {x : Option α} (h : Canon k l)
    (hf : ∀ x, Canon k (f x)) : Canon k (x.elim l f) := by
  cases x with
  | none => exact h
  | some x => exact hf x

theorem canon_ite {k : LaneId} {c : Prop} [Decidable c] {x y : LaneSt} (hx : c → Canon k x) (hy : ¬c → Canon k y) :
    Canon k (if c then x else y) := by
  split
  · exact hx ‹_›
  · exact hy ‹_›

theorem off_add {a b : Nat} (h : 4096 ≤ a) : 4096 ≤ a + b := Nat.le_trans h (Nat.le_add_right a b)

theorem canon_setWord {k : LaneId} {l : LaneSt} (h : Canon k l) {off : Nat} (ho : 4096 ≤ off) (w : Word) :
    Canon k (l.setWord off w) := by
  obtain ⟨rfl, h2, h3, h4⟩ := h
  refine ⟨rfl, Sparse.wf_set h2 _ _, h3, fun j hj => ?_⟩
  rw [← h4 j hj]
  exact Sparse.get_set_ne _ (by omega) _

theorem canon_wr {k : LaneId} {l : LaneSt} (h : Canon k l) {f : Field} (ho : 4096 ≤ f.off) (n : Nat) : Canon k (l.wr f n) := by
  unfold LaneSt.wr
  split
  · exact canon_setWord (canon_setWord h ho _) (off_add ho) _
  · exact canon_setWord h ho _

end Sys2Proof.Machine
end

