-- ==== Sys2Proof/Laws/CanonOps.lean ====
section
/-!
SUPPORT. Every operation of Machine/Ops.lean keeps a lane sound.
-/

namespace Sys2Proof.Machine

open Sys2Proof LaneSt



theorem canon_wrI {κ : LaneId} {l : LaneSt} (h : Canon κ l) (f : Field) (hf : 4096 ≤ f.off) (i : Int) : Canon κ (LaneSt.wrI l f i) := by
  unfold LaneSt.wrI
  apply canon_wr
  assumption
  assumption

theorem canon_wrSat {κ : LaneId} {l : LaneSt} (h : Canon κ l) (f : Field) (hf : 4096 ≤ f.off) (i : Int) : Canon κ (LaneSt.wrSat l f i) := by
  unfold LaneSt.wrSat
  apply canon_wrI
  assumption
  assumption

theorem canon_wrB {κ : LaneId} {l : LaneSt} (h : Canon κ l) (f : Field) (hf : 4096 ≤ f.off) (b : Bool) : Canon κ (LaneSt.wrB l f b) := by
  unfold LaneSt.wrB
  apply canon_wr
  assumption
  assumption

theorem canon_inc {κ : LaneId} {l : LaneSt} (h : Canon κ l) (f : Field) (hf : 4096 ≤ f.off) : Canon κ (LaneSt.inc l f) := by
  unfold LaneSt.inc
  apply canon_wr
  assumption
  assumption

theorem canon_satInc {κ : LaneId} {l : LaneSt} (h : Canon κ l) (b : Nat) (f : Field) (hf : 4096 ≤ f.off) : Canon κ (LaneSt.satInc l b f) := by
  unfold LaneSt.satInc
  refine canon_ite (fun _ => ?_) (fun _ => ?_)
  apply canon_inc
  assumption
  exact off_add (by decide)
  apply canon_inc
  assumption
  assumption

theorem canon_satNote {κ : LaneId} {l : LaneSt} (h : Canon κ l) (b : Nat) (width : Nat) (n : Nat) : Canon κ (LaneSt.satNote l b width n) := by
  unfold LaneSt.satNote
  refine canon_ite (fun _ => ?_) (fun _ => ?_)
  apply canon_inc
  assumption
  exact off_add (by decide)
  assumption

theorem canon_setTime {κ : LaneId} {l : LaneSt} (h : Canon κ l) (t : Nat) : Canon κ (LaneSt.setTime l t) := by
  unfold LaneSt.setTime
  refine canon_mk ?_ rfl rfl rfl
  assumption

theorem canon_fresh {κ : LaneId} {l : LaneSt} (h : Canon κ l) : Canon κ (LaneSt.fresh l).2 := by
  unfold LaneSt.fresh
  dsimp only
  refine canon_mk ?_ rfl rfl rfl
  assumption

theorem canon_setPeer {κ : LaneId} {l : LaneSt} (h : Canon κ l) (p : LaneId) (f : PeerView → PeerView) : Canon κ (LaneSt.setPeer l p f) := by
  unfold LaneSt.setPeer
  refine canon_ite (fun _ => ?_) (fun _ => ?_)
  refine canon_mk ?_ rfl rfl rfl
  assumption
  refine canon_mk ?_ rfl rfl rfl
  assumption

theorem canon_setBlk {κ : LaneId} {l : LaneSt} (h : Canon κ l) (k : LaneId) (f : LaneBlk → LaneBlk) : Canon κ (LaneSt.setBlk l k f) := by
  unfold LaneSt.setBlk
  refine canon_mk ?_ rfl rfl rfl
  assumption

theorem canon_sendFrame {κ : LaneId} {l : LaneSt} (h : Canon κ l) (p : LaneId) (rtype : Nat) (hdr : Nat) (words : List Nat) : Canon κ (LaneSt.sendFrame l p rtype hdr words) := by
  unfold LaneSt.sendFrame
  lift_lets
  intro x1
  clear_value x1
  intro x2
  clear_value x2
  intro x3
  have h3 : Canon κ x3 := by
    unfold x3
    apply canon_setPeer
    assumption
  clear_value x3
  intro x4
  clear_value x4
  refine canon_mk ?_ rfl rfl rfl
  assumption

theorem canon_sendTo {κ : LaneId} {l : LaneSt} (h : Canon κ l) (p : LaneId) (rtype : Nat) (hdr : Nat) (words : List Nat) : Canon κ (LaneSt.sendTo l p rtype hdr words) := by
  unfold LaneSt.sendTo
  refine canon_ite (fun _ => ?_) (fun _ => ?_)
  assumption
  refine canon_ite (fun _ => ?_) (fun _ => ?_)
  refine canon_ite (fun _ => ?_) (fun _ => ?_)
  refine canon_mk ?_ rfl rfl rfl
  assumption
  apply canon_sendFrame
  assumption
  refine canon_foldl ?_ (fun _ _ _ => ?_)
  assumption
  apply canon_sendFrame
  assumption

theorem canon_send {κ : LaneId} {l : LaneSt} (h : Canon κ l) (rtype : Nat) (hdr : Nat) (words : List Nat) : Canon κ (LaneSt.send l rtype hdr words) := by
  unfold LaneSt.send
  refine canon_foldl ?_ (fun _ _ _ => ?_)
  assumption
  apply canon_sendTo
  assumption

theorem canon_acked {κ : LaneId} {l : LaneSt} (h : Canon κ l) (p : LaneId) (ack : Nat) : Canon κ (LaneSt.acked l p ack) := by
  unfold LaneSt.acked
  refine canon_mk ?_ rfl rfl rfl
  assumption

theorem canon_heard {κ : LaneId} {l : LaneSt} (h : Canon κ l) (src : Arrival) (k : Nat) : Canon κ (LaneSt.heard l src k) := by
  unfold LaneSt.heard
  split
  assumption
  apply canon_setPeer
  apply canon_acked
  assumption

theorem canon_post {κ : LaneId} {l : LaneSt} (h : Canon κ l) (addr : Nat) (len : Nat) (fields : List (Nat × Nat × Nat)) : Canon κ (LaneSt.post l addr len fields) := by
  unfold LaneSt.post
  refine canon_mk ?_ rfl rfl rfl
  assumption

theorem canon_msix {κ : LaneId} {l : LaneSt} (h : Canon κ l) (vec : Nat) : Canon κ (LaneSt.msix l vec) := by
  unfold LaneSt.msix
  lift_lets
  intro x1
  clear_value x1
  intro x2
  clear_value x2
  refine canon_ite (fun _ => ?_) (fun _ => ?_)
  refine canon_mk ?_ rfl rfl rfl
  assumption
  refine canon_mk ?_ rfl rfl rfl
  assumption

theorem canon_complete {κ : LaneId} {l : LaneSt} (h : Canon κ l) (d : Decided) (status : Nat) (detail : Nat) (result : Nat) : Canon κ (LaneSt.complete l d status detail result) := by
  unfold LaneSt.complete
  lift_lets
  intro x1
  clear_value x1
  intro x2
  clear_value x2
  refine canon_mk ?_ rfl rfl rfl
  assumption

theorem canon_deny {κ : LaneId} {l : LaneSt} (h : Canon κ l) (d : Decided) (code : Nat) (arg : Nat) : Canon κ (LaneSt.deny l d code arg) := by
  unfold LaneSt.deny
  apply canon_complete
  assumption

theorem canon_abort {κ : LaneId} {l : LaneSt} (h : Canon κ l) (d : Decided) (code : Nat) (arg : Nat) : Canon κ (LaneSt.abort l d code arg) := by
  unfold LaneSt.abort
  apply canon_complete
  assumption

theorem canon_okOutcome {κ : LaneId} {l : LaneSt} (h : Canon κ l) (d : Decided) (outcome : Nat) (merges : Nat) : Canon κ (LaneSt.okOutcome l d outcome merges) := by
  unfold LaneSt.okOutcome
  apply canon_complete
  assumption

theorem canon_consume {κ : LaneId} {l : LaneSt} (h : Canon κ l) (d : Decided) : Canon κ (LaneSt.consume l d) := by
  unfold LaneSt.consume
  lift_lets
  intro x1
  clear_value x1
  intro x2
  have h2 : Canon κ x2 := by
    unfold x2
    apply canon_inc
    assumption
    exact off_add (by decide)
  clear_value x2
  intro x3
  clear_value x3
  refine canon_mk ?_ rfl rfl rfl
  assumption

end Sys2Proof.Machine
end

