-- ==== Sys2Proof/Laws/CanonFlags.lean ====
section
/-!
SUPPORT. Every operation of Machine/Flags.lean keeps a lane sound.
-/

namespace Sys2Proof.Machine

open Sys2Proof LaneSt

theorem off_groupByte {base : Nat} (h : 4096 ≤ base) (bank g : Nat) : 4096 ≤ (groupByte base bank g).off :=
  off_add (off_add h)


theorem off_irqMaskF (bank : Nat) (g : Nat) : 4096 ≤ (irqMaskF bank g).off := by
  unfold irqMaskF
  exact off_add (off_add (by decide))

theorem off_irqCauseF (bank : Nat) (g : Nat) : 4096 ≤ (irqCauseF bank g).off := by
  unfold irqCauseF
  exact off_add (off_add (by decide))

theorem off_irqRaisedF (bank : Nat) (g : Nat) : 4096 ≤ (irqRaisedF bank g).off := by
  unfold irqRaisedF
  exact off_add (off_add (by decide))

theorem off_irqSnapF (bank : Nat) (g : Nat) : 4096 ≤ (irqSnapF bank g).off := by
  unfold irqSnapF
  exact off_add (off_add (by decide))

theorem canon_setGroup {κ : LaneId} {l : LaneSt} (h : Canon κ l) (g : Nat) (f : IrqGroup → IrqGroup) : Canon κ (LaneSt.setGroup l g f) := by
  unfold LaneSt.setGroup
  refine canon_mk ?_ rfl rfl rfl
  assumption

theorem canon_pend {κ : LaneId} {l : LaneSt} (h : Canon κ l) (g : Nat) (srcs : Nat) (lanes : Nat) (soft : Bool) : Canon κ (LaneSt.pend l g srcs lanes soft) := by
  unfold LaneSt.pend
  refine canon_ite (fun _ => ?_) (fun _ => ?_)
  assumption
  lift_lets
  intro x1
  clear_value x1
  intro x2
  clear_value x2
  intro x3
  have h3 : Canon κ x3 := by
    unfold x3
    apply canon_wr
    assumption
    exact off_add (off_add (by decide))
  clear_value x3
  intro x4
  have h4 : Canon κ x4 := by
    unfold x4
    apply canon_wr
    assumption
    exact off_add (off_add (by decide))
  clear_value x4
  apply canon_setGroup
  assumption

theorem canon_raise {κ : LaneId} {l : LaneSt} (h : Canon κ l) (g : Nat) (s : Nat) : Canon κ (LaneSt.raise l g s) := by
  unfold LaneSt.raise
  refine canon_ite (fun _ => ?_) (fun _ => ?_)
  assumption
  lift_lets
  intro x1
  clear_value x1
  intro x2
  have h2 : Canon κ x2 := by
    unfold x2
    apply canon_pend
    assumption
  clear_value x2
  refine canon_ite (fun _ => ?_) (fun _ => ?_)
  apply canon_send
  assumption
  assumption

theorem canon_setSw {κ : LaneId} {l : LaneSt} (h : Canon κ l) (i : Nat) (x : Switch) : Canon κ (LaneSt.setSw l i x) := by
  unfold LaneSt.setSw
  refine canon_mk ?_ rfl rfl rfl
  assumption

theorem off_gsF (i : Nat) : 4096 ≤ (gsF i).off := by
  unfold gsF
  split
  exact off_add (by decide)
  exact off_add (by decide)

theorem off_switchLatchF (i : Nat) : 4096 ≤ (switchLatchF i).off := by
  unfold switchLatchF
  split
  exact off_add (by decide)
  exact off_add (by decide)

theorem canon_setWait {κ : LaneId} {l : LaneSt} (h : Canon κ l) (i : Nat) (b : Bool) : Canon κ (LaneSt.setWait l i b) := by
  unfold LaneSt.setWait
  lift_lets
  intro x1
  clear_value x1
  intro x2
  clear_value x2
  refine canon_mk ?_ rfl rfl rfl
  assumption

theorem canon_swOff {κ : LaneId} {l : LaneSt} (h : Canon κ l) (i : Nat) (soft : Bool) : Canon κ (LaneSt.swOff l i soft) := by
  unfold LaneSt.swOff
  lift_lets
  intro x1
  clear_value x1
  intro x2
  clear_value x2
  intro x3
  have h3 : Canon κ x3 := by
    unfold x3
    apply canon_setWait
    assumption
  clear_value x3
  refine canon_ite (fun _ => ?_) (fun _ => ?_)
  apply canon_setSw
  apply canon_wr
  assumption
  apply off_gsF
  apply canon_setSw
  assumption

theorem canon_swOn {κ : LaneId} {l : LaneSt} (h : Canon κ l) (i : Nat) : Canon κ (LaneSt.swOn l i) := by
  unfold LaneSt.swOn
  lift_lets
  intro x1
  clear_value x1
  refine canon_ite (fun _ => ?_) (fun _ => ?_)
  apply canon_setWait
  assumption
  refine canon_ite (fun _ => ?_) (fun _ => ?_)
  apply canon_setSw
  apply canon_wr
  apply canon_setWait
  assumption
  apply off_gsF
  apply canon_setWait
  assumption

theorem canon_driveLeg {κ : LaneId} {l : LaneSt} (h : Canon κ l) (m : Nat) (high : Bool) (low : Bool) : Canon κ (LaneSt.driveLeg l m high low) := by
  unfold LaneSt.driveLeg
  lift_lets
  intro x1
  have h1 : Canon κ x1 := by
    unfold x1
    refine canon_ite (fun _ => ?_) (fun _ => ?_)
    assumption
    apply canon_swOff
    assumption
  clear_value x1
  intro x2
  have h2 : Canon κ x2 := by
    unfold x2
    refine canon_ite (fun _ => ?_) (fun _ => ?_)
    assumption
    apply canon_swOff
    assumption
  clear_value x2
  intro x3
  have h3 : Canon κ x3 := by
    unfold x3
    refine canon_ite (fun _ => ?_) (fun _ => ?_)
    apply canon_swOn
    assumption
    assumption
  clear_value x3
  refine canon_ite (fun _ => ?_) (fun _ => ?_)
  apply canon_swOn
  assumption
  assumption

theorem canon_setLeg {κ : LaneId} {l : LaneSt} (h : Canon κ l) (m : Nat) (st : Nat) : Canon κ (LaneSt.setLeg l m st) := by
  unfold LaneSt.setLeg
  lift_lets
  intro x1
  have h1 : Canon κ x1 := by
    unfold x1
    apply canon_wr
    assumption
    exact off_add (by decide)
  clear_value x1
  refine canon_ite (fun _ => ?_) (fun _ => ?_)
  assumption
  apply canon_driveLeg
  assumption

theorem canon_setBridge {κ : LaneId} {l : LaneSt} (h : Canon κ l) (n : Nat) (st : Nat) : Canon κ (LaneSt.setBridge l n st) := by
  unfold LaneSt.setBridge
  apply canon_setLeg
  apply canon_setLeg
  apply canon_setLeg
  assumption

theorem canon_gatesDown {κ : LaneId} {l : LaneSt} (h : Canon κ l) : Canon κ (LaneSt.gatesDown l) := by
  unfold LaneSt.gatesDown
  refine canon_foldl ?_ (fun _ _ _ => ?_)
  assumption
  lift_lets
  intro x1
  have h1 : Canon κ x1 := by
    unfold x1
    apply canon_swOff
    assumption
  clear_value x1
  intro x2
  clear_value x2
  apply canon_setSw
  assumption

theorem canon_setWstate {κ : LaneId} {l : LaneSt} (h : Canon κ l) (n : Nat) (w : Nat) : Canon κ (LaneSt.setWstate l n w) := by
  unfold LaneSt.setWstate
  refine canon_ite (fun _ => ?_) (fun _ => ?_)
  assumption
  apply canon_raise
  apply canon_wr
  assumption
  exact off_add (by decide)

theorem canon_setGateCh {κ : LaneId} {l : LaneSt} (h : Canon κ l) (n : Nat) (f : GateCh → GateCh) : Canon κ (LaneSt.setGateCh l n f) := by
  unfold LaneSt.setGateCh
  refine canon_mk ?_ rfl rfl rfl
  assumption

theorem canon_dropDue {κ : LaneId} {l : LaneSt} (h : Canon κ l) (n : Nat) : Canon κ (LaneSt.dropDue l n) := by
  unfold LaneSt.dropDue
  apply canon_setGateCh
  assumption

theorem canon_windingOff {κ : LaneId} {l : LaneSt} (h : Canon κ l) (n : Nat) : Canon κ (LaneSt.windingOff l n) := by
  unfold LaneSt.windingOff
  apply canon_setWstate
  apply canon_setBridge
  apply canon_dropDue
  assumption

theorem canon_shortOn {κ : LaneId} {l : LaneSt} (h : Canon κ l) (n : Nat) (side : Nat) : Canon κ (LaneSt.shortOn l n side) := by
  unfold LaneSt.shortOn
  refine canon_ite (fun _ => ?_) (fun _ => ?_)
  apply canon_setGateCh
  apply canon_windingOff
  assumption
  refine canon_ite (fun _ => ?_) (fun _ => ?_)
  apply canon_setWstate
  apply canon_setBridge
  apply canon_dropDue
  assumption
  refine canon_ite (fun _ => ?_) (fun _ => ?_)
  apply canon_setWstate
  apply canon_setBridge
  apply canon_dropDue
  assumption
  apply canon_windingOff
  assumption

theorem canon_activeShort {κ : LaneId} {l : LaneSt} (h : Canon κ l) (n : Nat) : Canon κ (LaneSt.activeShort l n) := by
  unfold LaneSt.activeShort
  apply canon_shortOn
  assumption

theorem canon_windingSafe {κ : LaneId} {l : LaneSt} (h : Canon κ l) (n : Nat) : Canon κ (LaneSt.windingSafe l n) := by
  unfold LaneSt.windingSafe
  refine canon_ite (fun _ => ?_) (fun _ => ?_)
  assumption
  refine canon_ite (fun _ => ?_) (fun _ => ?_)
  apply canon_windingOff
  assumption
  apply canon_activeShort
  assumption

theorem canon_allSafe {κ : LaneId} {l : LaneSt} (h : Canon κ l) : Canon κ (LaneSt.allSafe l) := by
  unfold LaneSt.allSafe
  refine canon_foldl ?_ (fun _ _ _ => ?_)
  assumption
  apply canon_windingSafe
  assumption

theorem canon_auxOff {κ : LaneId} {l : LaneSt} (h : Canon κ l) : Canon κ (LaneSt.auxOff l) := by
  unfold LaneSt.auxOff
  refine canon_foldl ?_ (fun _ _ _ => ?_)
  assumption
  refine canon_ite (fun _ => ?_) (fun _ => ?_)
  apply canon_setLeg
  assumption
  assumption

theorem canon_dieSafe {κ : LaneId} {l : LaneSt} (h : Canon κ l) (die : Nat) : Canon κ (LaneSt.dieSafe l die) := by
  unfold LaneSt.dieSafe
  lift_lets
  intro x1
  have h1 : Canon κ x1 := by
    unfold x1
    refine canon_foldl ?_ (fun _ _ _ => ?_)
    assumption
    lift_lets
    intro x2
    refine canon_ite (fun _ => ?_) (fun _ => ?_)
    apply canon_shortOn
    assumption
    assumption
  clear_value x1
  intro x3
  have h3 : Canon κ x3 := by
    unfold x3
    refine canon_foldl ?_ (fun _ _ _ => ?_)
    assumption
    lift_lets
    intro x4
    refine canon_ite (fun _ => ?_) (fun _ => ?_)
    apply canon_setLeg
    assumption
    assumption
  clear_value x3
  intro x5
  clear_value x5
  intro x6
  have h6 : Canon κ x6 := by
    unfold x6
    refine canon_ite (fun _ => ?_) (fun _ => ?_)
    apply canon_setLeg
    assumption
    assumption
  clear_value x6
  apply canon_wr
  assumption
  decide

theorem canon_setSio {κ : LaneId} {l : LaneSt} (h : Canon κ l) (f : SioSt → SioSt) : Canon κ (LaneSt.setSio l f) := by
  unfold LaneSt.setSio
  refine canon_mk ?_ rfl rfl rfl
  assumption

theorem canon_soChange {κ : LaneId} {l : LaneSt} (h : Canon κ l) (k : Nat) (on : Bool) : Canon κ (LaneSt.soChange l k on) := by
  unfold LaneSt.soChange
  lift_lets
  intro x1
  have h1 : Canon κ x1 := by
    unfold x1
    apply canon_wr
    assumption
    decide
  clear_value x1
  intro x2
  clear_value x2
  apply canon_setSio
  assumption

theorem canon_soOff {κ : LaneId} {l : LaneSt} (h : Canon κ l) (k : Nat) : Canon κ (LaneSt.soOff l k) := by
  unfold LaneSt.soOff
  refine canon_ite (fun _ => ?_) (fun _ => ?_)
  apply canon_soChange
  assumption
  assumption

theorem canon_outputsOff {κ : LaneId} {l : LaneSt} (h : Canon κ l) : Canon κ (LaneSt.outputsOff l) := by
  unfold LaneSt.outputsOff
  refine canon_foldl ?_ (fun _ _ _ => ?_)
  assumption
  apply canon_soOff
  assumption

theorem canon_setMembers {κ : LaneId} {l : LaneSt} (h : Canon κ l) (m : Nat) : Canon κ (LaneSt.setMembers l m) := by
  unfold LaneSt.setMembers
  lift_lets
  intro x1
  intro x2
  have h2 : Canon κ x2 := by
    unfold x2
    apply canon_wr
    assumption
    decide
  clear_value x2
  refine canon_ite (fun _ => ?_) (fun _ => ?_)
  assumption
  apply canon_wr
  assumption
  decide

theorem canon_abortProofs {κ : LaneId} {l : LaneSt} (h : Canon κ l) : Canon κ (LaneSt.abortProofs l) := by
  unfold LaneSt.abortProofs
  lift_lets
  intro x1
  have h1 : Canon κ x1 := by
    unfold x1
    refine canon_foldl ?_ (fun _ _ _ => ?_)
    assumption
    refine canon_ite (fun _ => ?_) (fun _ => ?_)
    apply canon_raise
    apply canon_satInc
    apply canon_wr
    assumption
    exact off_add (by decide)
    decide
    assumption
  clear_value x1
  intro x2
  have h2 : Canon κ x2 := by
    unfold x2
    apply canon_wr
    apply canon_wr
    assumption
    decide
    decide
  clear_value x2
  intro x3
  clear_value x3
  refine canon_mk ?_ rfl rfl rfl
  assumption

theorem canon_noteExclusion {κ : LaneId} {l : LaneSt} (h : Canon κ l) (k : LaneId) (cause : Nat) : Canon κ (LaneSt.noteExclusion l k cause) := by
  unfold LaneSt.noteExclusion
  apply canon_setBlk
  assumption

theorem canon_laneSafe {κ : LaneId} {l : LaneSt} (h : Canon κ l) (fatal : Bool) : Canon κ (LaneSt.laneSafe l fatal) := by
  unfold LaneSt.laneSafe
  lift_lets
  intro x1
  have h1 : Canon κ x1 := by
    unfold x1
    apply canon_wr
    refine canon_ite (fun _ => ?_) (fun _ => ?_)
    assumption
    apply canon_outputsOff
    apply canon_auxOff
    apply canon_allSafe
    assumption
    decide
  clear_value x1
  refine canon_ite (fun _ => ?_) (fun _ => ?_)
  apply canon_dieSafe
  apply canon_dieSafe
  apply canon_wr
  assumption
  decide
  assumption

theorem canon_exclude {κ : LaneId} {l : LaneSt} (h : Canon κ l) (cause : Nat) : Canon κ (LaneSt.exclude l cause) := by
  unfold LaneSt.exclude
  refine canon_ite (fun _ => ?_) (fun _ => ?_)
  assumption
  lift_lets
  intro x1
  clear_value x1
  intro x2
  intro x3
  have h3 : Canon κ x3 := by
    unfold x3
    apply canon_wr
    assumption
    decide
  clear_value x3
  intro x4
  have h4 : Canon κ x4 := by
    unfold x4
    apply canon_wr
    apply canon_setMembers
    assumption
    decide
  clear_value x4
  intro x5
  have h5 : Canon κ x5 := by
    unfold x5
    apply canon_laneSafe
    apply canon_noteExclusion
    assumption
  clear_value x5
  intro x6
  have h6 : Canon κ x6 := by
    unfold x6
    apply canon_wr
    apply canon_abortProofs
    assumption
    decide
  clear_value x6
  intro x7
  clear_value x7
  refine canon_mk ?_ rfl rfl rfl
  assumption

theorem off_friskF (l : LaneSt) (code : Nat) (source : Nat) : 4096 ≤ (LaneSt.friskF l code source).off := by
  unfold LaneSt.friskF
  split
  dsimp only
  decide
  dsimp only
  exact off_add (off_add (by decide))

theorem canon_history {κ : LaneId} {l : LaneSt} (h : Canon κ l) (code : Nat) (e : Nat) : Canon κ (LaneSt.history l code e) := by
  unfold LaneSt.history
  lift_lets
  intro x1
  clear_value x1
  intro x2
  clear_value x2
  intro x3
  have h3 : Canon κ x3 := by
    unfold x3
    apply canon_wr
    apply canon_wr
    assumption
    exact off_add (off_add (by decide))
    exact off_add (off_add (by decide))
  clear_value x3
  apply canon_inc
  apply canon_wr
  assumption
  exact off_add (off_add (by decide))
  exact off_add (by decide)

theorem canon_tally {κ : LaneId} {l : LaneSt} (h : Canon κ l) (code : Nat) (e : Nat) : Canon κ (LaneSt.tally l code e) := by
  unfold LaneSt.tally
  lift_lets
  intro x1
  clear_value x1
  intro x2
  clear_value x2
  intro x3
  clear_value x3
  refine canon_mk ?_ rfl rfl rfl
  assumption

theorem canon_firstError {κ : LaneId} {l : LaneSt} (h : Canon κ l) (code : Nat) (source : Nat) (e : Nat) : Canon κ (LaneSt.firstError l code source e) := by
  unfold LaneSt.firstError
  lift_lets
  intro x1
  clear_value x1
  intro x2
  have h2 : Canon κ x2 := by
    unfold x2
    apply canon_wr
    apply canon_wr
    assumption
    exact off_add (by decide)
    exact off_add (by decide)
  clear_value x2
  intro x3
  have h3 : Canon κ x3 := by
    unfold x3
    apply canon_wr
    apply canon_wr
    assumption
    exact off_add (by decide)
    exact off_add (by decide)
  clear_value x3
  refine canon_ite (fun _ => ?_) (fun _ => ?_)
  assumption
  refine canon_ite (fun _ => ?_) (fun _ => ?_)
  apply canon_wr
  assumption
  exact off_add (by decide)
  apply canon_wr
  apply canon_wr
  assumption
  exact off_add (by decide)
  exact off_add (by decide)

theorem canon_faultTakes {κ : LaneId} {l : LaneSt} (h : Canon κ l) (n : Nat) : Canon κ (LaneSt.faultTakes l n) := by
  unfold LaneSt.faultTakes
  lift_lets
  intro x1
  clear_value x1
  intro x2
  have h2 : Canon κ x2 := by
    unfold x2
    refine canon_foldl ?_ (fun _ _ _ => ?_)
    assumption
    apply canon_complete
    assumption
  clear_value x2
  refine canon_ite (fun _ => ?_) (fun _ => ?_)
  assumption
  refine canon_mk ?_ rfl rfl rfl
  assumption

theorem canon_channelSafe {κ : LaneId} {l : LaneSt} (h : Canon κ l) (mask : Nat) (code : Nat) (source : Nat) : Canon κ (LaneSt.channelSafe l mask code source) := by
  unfold LaneSt.channelSafe
  lift_lets
  intro x1
  have h1 : Canon κ x1 := by
    unfold x1
    refine canon_foldl ?_ (fun _ _ _ => ?_)
    assumption
    refine canon_ite (fun _ => ?_) (fun _ => ?_)
    apply canon_windingSafe
    assumption
    assumption
  clear_value x1
  intro x2
  have h2 : Canon κ x2 := by
    unfold x2
    refine canon_ite (fun _ => ?_) (fun _ => ?_)
    refine canon_foldl ?_ (fun _ _ _ => ?_)
    assumption
    refine canon_ite (fun _ => ?_) (fun _ => ?_)
    apply canon_faultTakes
    assumption
    assumption
    assumption
  clear_value x2
  intro x3
  have h3 : Canon κ x3 := by
    unfold x3
    apply canon_satInc
    assumption
    decide
  clear_value x3
  intro x4
  clear_value x4
  intro x5
  clear_value x5
  refine canon_mk ?_ rfl rfl rfl
  assumption

theorem canon_exclReqReaction {κ : LaneId} {l : LaneSt} (h : Canon κ l) (code : Nat) : Canon κ (LaneSt.exclReqReaction l code) := by
  unfold LaneSt.exclReqReaction
  lift_lets
  intro x1
  have h1 : Canon κ x1 := by
    unfold x1
    apply canon_satInc
    assumption
    decide
  clear_value x1
  intro x2
  clear_value x2
  intro x3
  have h3 : Canon κ x3 := by
    unfold x3
    refine canon_mk ?_ rfl rfl rfl
    assumption
  clear_value x3
  apply canon_exclude
  assumption

theorem canon_laneFatal {κ : LaneId} {l : LaneSt} (h : Canon κ l) (code : Nat) (source : Nat) : Canon κ (LaneSt.laneFatal l code source) := by
  unfold LaneSt.laneFatal
  lift_lets
  intro x1
  have h1 : Canon κ x1 := by
    unfold x1
    refine canon_ite (fun _ => ?_) (fun _ => ?_)
    assumption
    apply canon_wr
    apply canon_wr
    apply canon_wr
    assumption
    decide
    decide
    decide
  clear_value x1
  intro x2
  have h2 : Canon κ x2 := by
    unfold x2
    apply canon_laneSafe
    apply canon_exclude
    assumption
  clear_value x2
  intro x3
  clear_value x3
  refine canon_mk ?_ rfl rfl rfl
  assumption

theorem canon_spoilProof {κ : LaneId} {l : LaneSt} (h : Canon κ l) (code : Nat) (source : Nat) : Canon κ (LaneSt.spoilProof l code source) := by
  unfold LaneSt.spoilProof
  split
  assumption
  refine canon_ite (fun _ => ?_) (fun _ => ?_)
  refine canon_mk ?_ rfl rfl rfl
  assumption
  assumption

theorem canon_fault {κ : LaneId} {l : LaneSt} (h : Canon κ l) (code : Nat) (source : Nat) : Canon κ (LaneSt.fault l code source) := by
  unfold LaneSt.fault
  lift_lets
  intro x1
  have h1 : Canon κ x1 := by
    unfold x1
    apply canon_spoilProof
    assumption
  clear_value x1
  intro x2
  clear_value x2
  intro x3
  clear_value x3
  intro x4
  clear_value x4
  intro x5
  have h5 : Canon κ x5 := by
    unfold x5
    apply canon_firstError
    apply canon_tally
    apply canon_history
    assumption
  clear_value x5
  intro x6
  have h6 : Canon κ x6 := by
    unfold x6
    refine canon_ite (fun _ => ?_) (fun _ => ?_)
    apply canon_raise
    assumption
    assumption
  clear_value x6
  intro x7
  clear_value x7
  intro x8
  have h8 : ∀ (a0 : LaneSt) (a1 : _), Canon κ a0 → Canon κ (x8 a0 a1) := by
    unfold x8
    intro _
    intro _
    intro _
    refine canon_foldl ?_ (fun _ _ _ => ?_)
    assumption
    refine canon_ite (fun _ => ?_) (fun _ => ?_)
    apply canon_raise
    assumption
    assumption
  clear_value x8
  intro x9
  have h9 : Canon κ x9 := by
    unfold x9
    refine canon_ite (fun _ => ?_) (fun _ => ?_)
    apply_assumption
    assumption
    refine canon_ite (fun _ => ?_) (fun _ => ?_)
    apply_assumption
    assumption
    assumption
  clear_value x9
  intro x10
  have h10 : Canon κ x10 := by
    unfold x10
    refine canon_ite (fun _ => ?_) (fun _ => ?_)
    assumption
    apply canon_send
    assumption
  clear_value x10
  refine canon_ite (fun _ => ?_) (fun _ => ?_)
  assumption
  refine canon_ite (fun _ => ?_) (fun _ => ?_)
  apply canon_channelSafe
  assumption
  refine canon_ite (fun _ => ?_) (fun _ => ?_)
  apply canon_exclReqReaction
  assumption
  refine canon_ite (fun _ => ?_) (fun _ => ?_)
  apply canon_laneFatal
  assumption
  assumption

theorem canon_spareUsed {κ : LaneId} {l : LaneSt} (h : Canon κ l) (cls : Nat) : Canon κ (LaneSt.spareUsed l cls) := by
  unfold LaneSt.spareUsed
  apply canon_raise
  apply canon_fault
  assumption

theorem canon_setUnproved {κ : LaneId} {l : LaneSt} (h : Canon κ l) (cls : Nat) (b : Bool) : Canon κ (LaneSt.setUnproved l cls b) := by
  unfold LaneSt.setUnproved
  apply canon_wr
  assumption
  decide

theorem canon_bgWork {κ : LaneId} {l : LaneSt} (h : Canon κ l) (a : Nat) (total : Nat) : Canon κ (LaneSt.bgWork l a total) := by
  unfold LaneSt.bgWork
  lift_lets
  intro x1
  clear_value x1
  intro x2
  clear_value x2
  intro x3
  clear_value x3
  intro x4
  have h4 : Canon κ x4 := by
    unfold x4
    refine canon_mk ?_ rfl rfl rfl
    assumption
  clear_value x4
  intro x5
  have h5 : Canon κ x5 := by
    unfold x5
    apply canon_wr
    apply canon_satInc
    assumption
    exact off_add (by decide)
    decide
  clear_value x5
  refine canon_ite (fun _ => ?_) (fun _ => ?_)
  assumption
  apply canon_wr
  assumption
  decide

end Sys2Proof.Machine
end

