-- ==== Sys2Proof/Laws/CanonIrq.lean ====
section
/-!
SUPPORT. Every operation of Machine/Irq.lean keeps a lane sound.
-/

namespace Sys2Proof.Machine

open Sys2Proof LaneSt

theorem canon_setStage {κ : LaneId} {l : LaneSt} (h : Canon κ l) (g : Nat) (st : IrqStage) : Canon κ (LaneSt.setStage l g st) := by
  unfold LaneSt.setStage
  lift_lets
  intro x1
  clear_value x1
  intro x2
  intro x3
  have h3 : Canon κ x3 := by
    unfold x3
    apply canon_setGroup
    assumption
  clear_value x3
  intro x4
  have h4 : Canon κ x4 := by
    unfold x4
    apply canon_wr
    assumption
    exact off_add (by decide)
  clear_value x4
  apply canon_wr
  assumption
  exact off_add (by decide)

theorem canon_irqLead {κ : LaneId} {l : LaneSt} (h : Canon κ l) (g : Nat) : Canon κ (LaneSt.irqLead l g) := by
  unfold LaneSt.irqLead
  lift_lets
  intro x1
  have h1 : Canon κ x1 := by
    unfold x1
    apply canon_setGroup
    apply canon_wr
    assumption
    exact off_add (off_add (by decide))
  clear_value x1
  apply canon_setStage
  assumption

theorem canon_irqExit {κ : LaneId} {l : LaneSt} (h : Canon κ l) (g : Nat) : Canon κ (LaneSt.irqExit l g) := by
  unfold LaneSt.irqExit
  refine canon_ite (fun _ => ?_) (fun _ => ?_)
  apply canon_setStage
  assumption
  apply canon_irqLead
  assumption

theorem canon_releaseExits {κ : LaneId} {l : LaneSt} (h : Canon κ l) : Canon κ (LaneSt.releaseExits l) := by
  unfold LaneSt.releaseExits
  refine canon_ite (fun _ => ?_) (fun _ => ?_)
  assumption
  refine canon_foldl ?_ (fun _ _ _ => ?_)
  assumption
  refine canon_ite (fun _ => ?_) (fun _ => ?_)
  apply canon_irqLead
  assumption
  assumption

theorem canon_snapshot {κ : LaneId} {l : LaneSt} (h : Canon κ l) (g : Nat) : Canon κ (LaneSt.snapshot l g) := by
  unfold LaneSt.snapshot
  lift_lets
  intro x1
  clear_value x1
  intro x2
  clear_value x2
  intro x3
  clear_value x3
  intro x4
  have h4 : Canon κ x4 := by
    unfold x4
    apply canon_wr
    apply canon_wr
    assumption
    exact off_add (off_add (by decide))
    exact off_add (off_add (by decide))
  clear_value x4
  intro x5
  have h5 : Canon κ x5 := by
    unfold x5
    apply canon_setGroup
    apply canon_setStage
    assumption
  clear_value x5
  apply canon_send
  assumption

theorem canon_postHead {κ : LaneId} {l : LaneSt} (h : Canon κ l) (g : Nat) : Canon κ (LaneSt.postHead l g) := by
  unfold LaneSt.postHead
  apply canon_setGroup
  apply canon_post
  assumption

theorem canon_postFinal {κ : LaneId} {l : LaneSt} (h : Canon κ l) (g : Nat) (redelivered : Bool) : Canon κ (LaneSt.postFinal l g redelivered) := by
  unfold LaneSt.postFinal
  have h1 := canon_inc (canon_msix (canon_post h (l.recordAt g + 28) 4 (l.causeRecord g redelivered).2) (l.rd (IRQ.GCFG.VEC g)))
    (IRQ.DELIVERIES.COUNT (l.bank g)) (off_add (by decide))
  exact canon_ite (fun _ => canon_satInc h1 _ _ (off_add (by decide))) (fun _ => h1)

theorem canon_noteLast {κ : LaneId} {l : LaneSt} (h : Canon κ l) (g : Nat) : Canon κ (LaneSt.noteLast l g) :=
  canon_mk h rfl rfl rfl

theorem canon_finalUnit {κ : LaneId} {l : LaneSt} (h : Canon κ l) (g : Nat) : Canon κ (LaneSt.finalUnit l g) := by
  unfold LaneSt.finalUnit
  have h1 := canon_noteLast (canon_setStage (canon_postFinal h g false) g .service) g
  exact canon_ite (fun _ => canon_releaseExits h1) (fun _ => h1)

theorem canon_entryStep {κ : LaneId} {l : LaneSt} (h : Canon κ l) (g : Nat) (split : Bool) : Canon κ (LaneSt.entryStep l g split) := by
  unfold LaneSt.entryStep
  refine canon_ite (fun _ => ?_) (fun _ => ?_)
  apply canon_finalUnit
  assumption
  refine canon_ite (fun _ => ?_) (fun _ => ?_)
  apply canon_postHead
  assumption
  apply canon_finalUnit
  apply canon_postHead
  assumption

theorem canon_entryStart {κ : LaneId} {l : LaneSt} (h : Canon κ l) (g : Nat) (split : Bool) : Canon κ (LaneSt.entryStart l g split) := by
  unfold LaneSt.entryStart
  refine canon_ite (fun _ => ?_) (fun _ => ?_)
  apply canon_snapshot
  assumption
  apply canon_entryStep
  apply canon_snapshot
  assumption

theorem canon_irqEntry {κ : LaneId} {l : LaneSt} (h : Canon κ l) (split : Bool) : Canon κ (LaneSt.irqEntry l split) := by
  unfold LaneSt.irqEntry
  refine canon_ite (fun _ => ?_) (fun _ => ?_)
  assumption
  split
  apply canon_entryStep
  assumption
  split
  lift_lets
  intro x1
  have h1 : Canon κ x1 := by
    unfold x1
    split
    apply canon_satInc
    apply canon_setGroup
    assumption
    decide
    assumption
  clear_value x1
  apply canon_entryStart
  assumption
  split
  apply canon_entryStep
  assumption
  split
  apply canon_entryStart
  assumption
  assumption

theorem canon_msixRelease {κ : LaneId} {l : LaneSt} (h : Canon κ l) (vec : Nat) : Canon κ (LaneSt.msixRelease l vec) := by
  unfold LaneSt.msixRelease
  refine canon_ite (fun _ => ?_) (fun _ => ?_)
  apply canon_msix
  refine canon_mk ?_ rfl rfl rfl
  assumption
  assumption

theorem canon_maskApply {κ : LaneId} {l : LaneSt} (h : Canon κ l) (b : Nat) (k : Nat) (v : Nat) : Canon κ (LaneSt.maskApply l b k v) := by
  unfold LaneSt.maskApply
  refine canon_foldl ?_ (fun _ _ _ => ?_)
  assumption
  lift_lets
  intro x1
  clear_value x1
  intro x2
  have h2 : Canon κ x2 := by
    unfold x2
    apply canon_wr
    assumption
    exact off_add (off_add (by decide))
  clear_value x2
  refine canon_ite (fun _ => ?_) (fun _ => ?_)
  assumption
  refine canon_ite (fun _ => ?_) (fun _ => ?_)
  apply canon_setGroup
  assumption
  assumption

theorem canon_causeApply {κ : LaneId} {l : LaneSt} (h : Canon κ l) (b : Nat) (k : Nat) (v : Nat) : Canon κ (LaneSt.causeApply l b k v) := by
  unfold LaneSt.causeApply
  refine canon_foldl ?_ (fun _ _ _ => ?_)
  assumption
  lift_lets
  intro x1
  clear_value x1
  intro x2
  clear_value x2
  intro x3
  clear_value x3
  refine canon_ite (fun _ => ?_) (fun _ => ?_)
  assumption
  apply canon_setGroup
  apply canon_wr
  assumption
  exact off_add (off_add (by decide))

theorem canon_raisedApply {κ : LaneId} {l : LaneSt} (h : Canon κ l) (b : Nat) (k : Nat) (v : Nat) : Canon κ (LaneSt.raisedApply l b k v) := by
  unfold LaneSt.raisedApply
  refine canon_foldl ?_ (fun _ _ _ => ?_)
  assumption
  lift_lets
  intro x1
  clear_value x1
  intro x2
  clear_value x2
  refine canon_ite (fun _ => ?_) (fun _ => ?_)
  assumption
  apply canon_wr
  assumption
  exact off_add (off_add (by decide))

theorem canon_swsetApply {κ : LaneId} {l : LaneSt} (h : Canon κ l) (b : Nat) (k : Nat) (v : Nat) : Canon κ (LaneSt.swsetApply l b k v) := by
  unfold LaneSt.swsetApply
  refine canon_foldl ?_ (fun _ _ _ => ?_)
  assumption
  lift_lets
  intro x1
  clear_value x1
  refine canon_ite (fun _ => ?_) (fun _ => ?_)
  assumption
  apply canon_pend
  assumption

theorem canon_ackApply {κ : LaneId} {l : LaneSt} (h : Canon κ l) (b : Nat) (v : Nat) : Canon κ (LaneSt.ackApply l b v) := by
  unfold LaneSt.ackApply
  refine canon_foldl ?_ (fun _ _ _ => ?_)
  assumption
  refine canon_ite (fun _ => ?_) (fun _ => ?_)
  apply canon_irqExit
  assumption
  assumption

theorem canon_bankWord {κ : LaneId} {l : LaneSt} (h : Canon κ l) (b : Nat) (off : Nat) (v : Nat) : Canon κ (LaneSt.bankWord l b off v) := by
  unfold LaneSt.bankWord
  refine canon_ite (fun _ => ?_) (fun _ => ?_)
  apply canon_maskApply
  assumption
  refine canon_ite (fun _ => ?_) (fun _ => ?_)
  apply canon_causeApply
  assumption
  refine canon_ite (fun _ => ?_) (fun _ => ?_)
  apply canon_raisedApply
  assumption
  refine canon_ite (fun _ => ?_) (fun _ => ?_)
  apply canon_swsetApply
  assumption
  refine canon_ite (fun _ => ?_) (fun _ => ?_)
  apply canon_ackApply
  assumption
  assumption

theorem canon_bankApply {κ : LaneId} {l : LaneSt} (h : Canon κ l) (b : Nat) (off : Nat) (v : Nat) : Canon κ (LaneSt.bankApply l b off v) := by
  unfold LaneSt.bankApply
  apply canon_releaseExits
  apply canon_bankWord
  assumption

theorem canon_refusedClear {κ : LaneId} {l : LaneSt} (h : Canon κ l) (b : Nat) (v : Word) : Canon κ (LaneSt.refusedClear l b v) := by
  unfold LaneSt.refusedClear
  refine canon_ite (fun _ => ?_) (fun _ => ?_)
  apply canon_wr
  assumption
  exact off_add (by decide)
  assumption

theorem canon_bankWrite {κ : LaneId} {l : LaneSt} (h : Canon κ l) (b : Nat) (off : Nat) (v : Word) : Canon κ (LaneSt.bankWrite l b off v) := by
  unfold LaneSt.bankWrite
  refine canon_ite (fun _ => ?_) (fun _ => ?_)
  apply canon_refusedClear
  assumption
  refine canon_ite (fun _ => ?_) (fun _ => ?_)
  assumption
  refine canon_ite (fun _ => ?_) (fun _ => ?_)
  apply canon_wr
  assumption
  exact off_add (by decide)
  apply canon_send
  apply canon_bankApply
  assumption

theorem canon_mirrorEntry {κ : LaneId} {l : LaneSt} (h : Canon κ l) (g : Nat) (snap : Nat) (dseq : Nat) : Canon κ (LaneSt.mirrorEntry l g snap dseq) := by
  unfold LaneSt.mirrorEntry
  lift_lets
  intro x1
  clear_value x1
  intro x2
  clear_value x2
  intro x3
  have h3 : Canon κ x3 := by
    unfold x3
    apply canon_wr
    apply canon_wr
    assumption
    exact off_add (off_add (by decide))
    exact off_add (off_add (by decide))
  clear_value x3
  intro x4
  have h4 : Canon κ x4 := by
    unfold x4
    apply canon_setGroup
    apply canon_setStage
    assumption
  clear_value x4
  apply canon_releaseExits
  apply canon_noteLast
  assumption

theorem canon_mirrorEntries {κ : LaneId} {l : LaneSt} (h : Canon κ l) : Canon κ (LaneSt.mirrorEntries l) :=
  canon_foldl h (fun _ _ hl => canon_ite (fun _ => canon_setStage hl _ _) (fun _ => hl))

theorem canon_redeliver {κ : LaneId} {l : LaneSt} (h : Canon κ l) : Canon κ (LaneSt.redeliver l) := by
  unfold LaneSt.redeliver
  refine canon_foldl ?_ (fun _ _ _ => ?_)
  assumption
  refine canon_ite (fun _ => ?_) (fun _ => ?_)
  lift_lets
  intro x1
  clear_value x1
  intro x2
  clear_value x2
  intro x3
  have h3 : Canon κ x3 := by
    unfold x3
    apply canon_setGroup
    assumption
  clear_value x3
  intro x4
  have h4 : Canon κ x4 := by
    unfold x4
    apply canon_satInc
    apply canon_postFinal
    apply canon_postHead
    assumption
    exact off_add (by decide)
  clear_value x4
  apply canon_setStage
  assumption
  assumption

end Sys2Proof.Machine
end

