-- ==== Sys2Proof/Laws/CanonXing.lean ====
section
/-!
SUPPORT. Every operation of Machine/Xing.lean keeps a lane sound.
-/

namespace Sys2Proof.Machine

open Sys2Proof LaneSt

theorem canon_checkWord {κ : LaneId} {l : LaneSt} (h : Canon κ l) (b : Nat) (w : XWord) : Canon κ (LaneSt.checkWord l b w).1 := by
  unfold LaneSt.checkWord
  split
  dsimp only
  assumption
  split
  dsimp only
  apply canon_fault
  assumption
  dsimp only
  apply canon_fault
  assumption

theorem canon_setXing {κ : LaneId} {l : LaneSt} (h : Canon κ l) (f : XingSt → XingSt) : Canon κ (LaneSt.setXing l f) := by
  unfold LaneSt.setXing
  refine canon_mk ?_ rfl rfl rfl
  assumption

theorem canon_crossPut {κ : LaneId} {l : LaneSt} (h : Canon κ l) (b : Nat) (w : XWord) : Canon κ (LaneSt.crossPut l b w) := by
  unfold LaneSt.crossPut
  apply canon_setXing
  assumption

theorem canon_crossGet {κ : LaneId} {l : LaneSt} (h : Canon κ l) (b : Nat) : Canon κ (LaneSt.crossGet l b).1 := by
  unfold LaneSt.crossGet
  split
  dsimp only
  assumption
  lift_lets
  intro x1
  have h1 : Canon κ x1 := by
    unfold x1
    apply canon_setXing
    assumption
  clear_value x1
  apply canon_checkWord
  assumption

theorem canon_cross {κ : LaneId} {l : LaneSt} (h : Canon κ l) (b : Nat) (ws : List XWord) : Canon κ (LaneSt.cross l b ws).1 := by
  have gets : ∀ (xs : List XWord) (r : LaneSt × List (Option Dword)), Canon κ r.1 → Canon κ (xs.foldl (fun
      (r : LaneSt × List (Option Dword)) _ => ((r.1.crossGet b).1, r.2 ++ [(r.1.crossGet b).2])) r).1 := by
    intro xs
    induction xs with
    | nil => exact fun _ hr => hr
    | cons x xs ih => exact fun r hr => ih _ (canon_crossGet hr b)
  unfold LaneSt.cross
  exact gets ws _ (canon_foldl h (fun _ _ hl => canon_crossPut hl b _))


theorem canon_crossBytes {κ : LaneId} {l : LaneSt} (h : Canon κ l) (b : Nat) (bs : List Byte) (flips : List (BitVec 72)) : Canon κ (LaneSt.crossBytes l b bs flips).1 := by
  unfold LaneSt.crossBytes
  lift_lets
  intro x1
  have h1 : Canon κ x1.1 := by
    unfold x1
    apply canon_cross
    assumption
  clear_value x1
  dsimp only
  assumption

theorem canon_mailAin {κ : LaneId} {l : LaneSt} (h : Canon κ l) (i : Nat) (f : Mailbox → Mailbox) : Canon κ (LaneSt.mailAin l i f) := by
  unfold LaneSt.mailAin
  apply canon_setXing
  assumption

theorem canon_mailPort {κ : LaneId} {l : LaneSt} (h : Canon κ l) (p : Nat) (f : Mailbox → Mailbox) : Canon κ (LaneSt.mailPort l p f) := by
  unfold LaneSt.mailPort
  apply canon_setXing
  assumption

theorem canon_mailSi {κ : LaneId} {l : LaneSt} (h : Canon κ l) (i : Nat) (f : Mailbox → Mailbox) : Canon κ (LaneSt.mailSi l i f) := by
  unfold LaneSt.mailSi
  apply canon_setXing
  assumption

theorem canon_crossReset {κ : LaneId} {l : LaneSt} (h : Canon κ l) : Canon κ (LaneSt.crossReset l) := by
  unfold LaneSt.crossReset
  refine canon_mk ?_ rfl rfl rfl
  assumption

end Sys2Proof.Machine
end

