-- ==== Sys2Proof/Laws/CanonHif.lean ====
section
/-!
SUPPORT. Every operation of Machine/Hif.lean keeps a lane sound.
-/

namespace Sys2Proof.Machine

open Sys2Proof LaneSt

theorem rws_of_regRow {off : Nat} {r : RegRow} (h : regRow off = some r) (ho : off < 4096) : r.rws = 0 := by
  have h2 := List.mem_of_find?_eq_some h
  rw [show off / 4096 = 0 by omega] at h2
  have h3 : ∀ r ∈ regPage 0, r.rws = 0 := by decide
  exact h3 r h2

theorem canon_setWord_same {κ : LaneId} {l : LaneSt} (h : Canon κ l) {off : Nat} {w : Word} (hw : off < 4096 → w = l.word off) :
    Canon κ (l.setWord off w) := by
  by_cases ho : 4096 ≤ off
  · exact canon_setWord h ho w
  · obtain ⟨rfl, h2, h3, h4⟩ := h
    refine ⟨rfl, Sparse.wf_set h2 _ _, h3, fun j hj => ?_⟩
    by_cases hjo : j = off
    · subst hjo
      rw [← h4 j hj, ← hw hj]
      exact Sparse.get_set_same h2 _ _
    · rw [← h4 j hj]
      exact Sparse.get_set_ne _ hjo _

theorem canon_setupWrite {κ : LaneId} {l : LaneSt} (h : Canon κ l) (off : Nat) (v : Word) : Canon κ (LaneSt.setupWrite l off v) := by
  unfold LaneSt.setupWrite
  split
  · assumption
  · rename_i r hr
    refine canon_ite (fun _ => canon_fault h _ _) (fun _ => canon_ite (fun _ => h) (fun _ => canon_setWord_same h (fun ho => ?_)))
    rw [rws_of_regRow hr ho]
    simp only [BitVec.not_zero, BitVec.and_zero, BitVec.or_zero, BitVec.and_allOnes]


theorem canon_clearGalleys {κ : LaneId} {l : LaneSt} (h : Canon κ l) : Canon κ (LaneSt.clearGalleys l) := by
  unfold LaneSt.clearGalleys
  lift_lets
  intro x1
  have h1 : Canon κ x1 := by
    unfold x1
    refine canon_foldl ?_ (fun _ _ _ => ?_)
    assumption
    apply canon_wr
    apply canon_wr
    assumption
    exact off_add (by decide)
    exact off_add (by decide)
  clear_value x1
  intro x2
  clear_value x2
  refine canon_mk ?_ rfl rfl rfl
  assumption

theorem canon_setPoll {κ : LaneId} {l : LaneSt} (h : Canon κ l) : Canon κ (LaneSt.setPoll l) := by
  unfold LaneSt.setPoll
  lift_lets
  intro x1
  clear_value x1
  intro x2
  clear_value x2
  apply canon_wrB
  apply canon_wr
  assumption
  decide
  decide

theorem canon_ctrlWrite {κ : LaneId} {l : LaneSt} (h : Canon κ l) (v : Word) : Canon κ (LaneSt.ctrlWrite l v) := by
  unfold LaneSt.ctrlWrite
  refine canon_ite (fun _ => ?_) (fun _ => ?_)
  assumption
  lift_lets
  intro x1
  clear_value x1
  intro x2
  have h2 : Canon κ x2 := by
    unfold x2
    apply canon_setPoll
    apply canon_setupWrite
    assumption
  clear_value x2
  refine canon_ite (fun _ => ?_) (fun _ => ?_)
  apply canon_clearGalleys
  assumption
  assumption

theorem canon_judgeSetup {κ : LaneId} {l : LaneSt} (h : Canon κ l) : Canon κ (LaneSt.judgeSetup l) := by
  unfold LaneSt.judgeSetup
  refine canon_ite (fun _ => ?_) (fun _ => ?_)
  assumption
  lift_lets
  intro x1
  clear_value x1
  apply canon_wrB
  assumption
  decide

theorem canon_registerWrite {κ : LaneId} {l : LaneSt} (h : Canon κ l) (off : Nat) (v : Word) : Canon κ (LaneSt.registerWrite l off v) := by
  unfold LaneSt.registerWrite
  refine canon_ite (fun _ => ?_) (fun _ => ?_)
  apply canon_ctrlWrite
  assumption
  refine canon_ite (fun _ => ?_) (fun _ => ?_)
  apply canon_bankWrite
  assumption
  apply canon_setupWrite
  assumption

theorem canon_lowRead {κ : LaneId} {l : LaneSt} (h : Canon κ l) (off : Nat) : Canon κ (LaneSt.lowRead l off) := by
  unfold LaneSt.lowRead
  lift_lets
  intro x1
  clear_value x1
  intro x2
  clear_value x2
  intro x3
  clear_value x3
  intro x4
  clear_value x4
  refine canon_ite (fun _ => ?_) (fun _ => ?_)
  refine canon_mk ?_ rfl rfl rfl
  assumption
  refine canon_mk ?_ rfl rfl rfl
  assumption

theorem canon_hostRead {κ : LaneId} {l : LaneSt} (h : Canon κ l) (off : Nat) : Canon κ (LaneSt.hostRead l off) := by
  unfold LaneSt.hostRead
  refine canon_ite (fun _ => ?_) (fun _ => ?_)
  lift_lets
  intro x1
  have h1 : Canon κ x1 := by
    unfold x1
    apply canon_fault
    assumption
  clear_value x1
  intro x2
  clear_value x2
  refine canon_mk ?_ rfl rfl rfl
  assumption
  lift_lets
  intro x3
  clear_value x3
  intro x4
  have h4 : Canon κ x4 := by
    unfold x4
    refine canon_ite (fun _ => ?_) (fun _ => ?_)
    apply canon_lowRead
    assumption
    assumption
  clear_value x4
  intro x5
  clear_value x5
  refine canon_mk ?_ rfl rfl rfl
  assumption

theorem canon_badRequest {κ : LaneId} {l : LaneSt} (h : Canon κ l) : Canon κ (LaneSt.badRequest l) := by
  unfold LaneSt.badRequest
  lift_lets
  intro x1
  have h1 : Canon κ x1 := by
    unfold x1
    apply canon_fault
    assumption
  clear_value x1
  intro x2
  clear_value x2
  refine canon_mk ?_ rfl rfl rfl
  assumption

theorem canon_judgeMsix {κ : LaneId} {l : LaneSt} (h : Canon κ l) : Canon κ (LaneSt.judgeMsix l) := by
  unfold LaneSt.judgeMsix
  refine canon_mk ?_ rfl rfl rfl
  assumption

theorem canon_bar2Write {κ : LaneId} {l : LaneSt} (h : Canon κ l) (off : Nat) (v : Nat) : Canon κ (LaneSt.bar2Write l off v) := by
  unfold LaneSt.bar2Write
  refine canon_ite (fun _ => ?_) (fun _ => ?_)
  assumption
  lift_lets
  intro x1
  clear_value x1
  intro x2
  clear_value x2
  intro x3
  clear_value x3
  apply canon_judgeMsix
  refine canon_mk ?_ rfl rfl rfl
  assumption

theorem canon_setPci {κ : LaneId} {l : LaneSt} (h : Canon κ l) (f : PciSt → PciSt) : Canon κ (LaneSt.setPci l f) := by
  unfold LaneSt.setPci
  refine canon_mk ?_ rfl rfl rfl
  assumption

theorem canon_drain {κ : LaneId} {l : LaneSt} (h : Canon κ l) (n : Nat) : Canon κ (LaneSt.drain l n) := by
  induction n generalizing l with
  | zero => exact h
  | succ n ih =>
    unfold LaneSt.drain
    split
    · exact h
    · exact ih (canon_complete (canon_consume (canon_mk h rfl rfl rfl) _) _ _ _ _)


theorem canon_settle {κ : LaneId} {l : LaneSt} (h : Canon κ l) : Canon κ (LaneSt.settle l) := by
  unfold LaneSt.settle
  apply canon_drain
  assumption

theorem canon_shareDesc {κ : LaneId} {l : LaneSt} (h : Canon κ l) (d : Decided) (op : DescOp) : Canon κ (LaneSt.shareDesc l d op) := by
  unfold LaneSt.shareDesc
  refine canon_ite (fun _ => ?_) (fun _ => ?_)
  assumption
  split
  assumption
  refine canon_foldl ?_ (fun _ _ _ => ?_)
  assumption
  apply canon_sendTo
  assumption

theorem canon_withDesc {κ : LaneId} {l : LaneSt} (h : Canon κ l) (p : DescOp → Bool) (f : Decided → DescOp → LaneSt → LaneSt) (hf : ∀ (z0 : Decided) (z1 : DescOp) (z2 : LaneSt), Canon κ z2 → Canon κ (f z0 z1 z2)) : Canon κ (LaneSt.withDesc l p f) := by
  unfold LaneSt.withDesc
  split
  assumption
  lift_lets
  intro x1
  clear_value x1
  intro x2
  have h2 : Canon κ x2 := by
    unfold x2
    refine canon_mk ?_ rfl rfl rfl
    assumption
  clear_value x2
  intro x3
  clear_value x3
  intro x4
  have h4 : Canon κ x4 := by
    unfold x4
    refine canon_ite (fun _ => ?_) (fun _ => ?_)
    refine canon_mk ?_ rfl rfl rfl
    assumption
    assumption
  clear_value x4
  apply canon_settle
  apply_assumption
  apply canon_consume
  apply canon_shareDesc
  assumption

theorem canon_permitted {κ : LaneId} {l : LaneSt} (h : Canon κ l) (d : Decided) (checks : List (Option (Nat × Nat))) (f : LaneSt → LaneSt) (hf : ∀ (z0 : LaneSt), Canon κ z0 → Canon κ (f z0)) : Canon κ (LaneSt.permitted l d checks f) := by
  unfold LaneSt.permitted
  split
  apply canon_deny
  assumption
  apply_assumption
  assumption

theorem canon_tailWord {κ : LaneId} {l : LaneSt} (h : Canon κ l) (n : Nat) (t : Nat) : Canon κ (LaneSt.tailWord l n t) := by
  unfold LaneSt.tailWord
  refine canon_ite (fun _ => ?_) (fun _ => ?_)
  assumption
  refine canon_ite (fun _ => ?_) (fun _ => ?_)
  assumption
  refine canon_ite (fun _ => ?_) (fun _ => ?_)
  lift_lets
  intro x1
  have h1 : Canon κ x1 := by
    unfold x1
    apply canon_wr
    assumption
    decide
  clear_value x1
  intro x2
  clear_value x2
  intro x3
  clear_value x3
  refine canon_mk ?_ rfl rfl rfl
  assumption
  apply canon_fault
  apply canon_satInc
  assumption
  decide

theorem canon_headWord {κ : LaneId} {l : LaneSt} (h : Canon κ l) (n : Nat) (h : Nat) : Canon κ (LaneSt.headWord l n h) := by
  unfold LaneSt.headWord
  refine canon_ite (fun _ => ?_) (fun _ => ?_)
  assumption
  lift_lets
  intro x1
  clear_value x1
  intro x2
  clear_value x2
  refine canon_ite (fun _ => ?_) (fun _ => ?_)
  assumption
  refine canon_ite (fun _ => ?_) (fun _ => ?_)
  refine canon_mk ?_ rfl rfl rfl
  assumption
  apply canon_fault
  apply canon_satInc
  assumption
  decide

theorem canon_eoiWord {κ : LaneId} {l : LaneSt} (h : Canon κ l) (g : Nat) (w : Nat) : Canon κ (LaneSt.eoiWord l g w) := by
  unfold LaneSt.eoiWord
  refine canon_ite (fun _ => ?_) (fun _ => ?_)
  apply canon_irqExit
  assumption
  assumption

theorem canon_takePage {κ : LaneId} {l : LaneSt} (h : Canon κ l) (page : List Byte) : Canon κ (LaneSt.takePage l page) := by
  unfold LaneSt.takePage
  lift_lets
  intro x1
  have h1 : Canon κ x1 := by
    unfold x1
    refine canon_foldl ?_ (fun _ _ _ => ?_)
    assumption
    apply canon_headWord
    apply canon_tailWord
    assumption
  clear_value x1
  intro x2
  have h2 : Canon κ x2 := by
    unfold x2
    refine canon_foldl ?_ (fun _ _ _ => ?_)
    assumption
    apply canon_eoiWord
    assumption
  clear_value x2
  intro x3
  clear_value x3
  apply canon_settle
  refine canon_mk ?_ rfl rfl rfl
  assumption

theorem canon_linkLost {κ : LaneId} {l : LaneSt} (h : Canon κ l) : Canon κ (LaneSt.linkLost l) := by
  unfold LaneSt.linkLost
  refine canon_ite (fun _ => ?_) (fun _ => ?_)
  assumption
  lift_lets
  intro x1
  have h1 : Canon κ x1 := by
    unfold x1
    apply canon_setBlk
    apply canon_wr
    assumption
    decide
  clear_value x1
  intro x2
  clear_value x2
  intro x3
  have h3 : Canon κ x3 := by
    unfold x3
    refine canon_mk ?_ rfl rfl rfl
    assumption
  clear_value x3
  apply canon_fault
  assumption

theorem canon_dmaFailed {κ : LaneId} {l : LaneSt} (h : Canon κ l) : Canon κ (LaneSt.dmaFailed l) := by
  unfold LaneSt.dmaFailed
  lift_lets
  intro x1
  clear_value x1
  intro x2
  have h2 : Canon κ x2 := by
    unfold x2
    refine canon_mk ?_ rfl rfl rfl
    assumption
  clear_value x2
  refine canon_ite (fun _ => ?_) (fun _ => ?_)
  apply canon_linkLost
  assumption
  assumption

theorem canon_poll {κ : LaneId} {l : LaneSt} (h : Canon κ l) (y0 : Option (List Byte)) : Canon κ (LaneSt.poll l y0) := by
  unfold LaneSt.poll
  split
  apply canon_takePage
  assumption
  apply canon_dmaFailed
  assumption

theorem canon_configWrite {κ : LaneId} {l : LaneSt} (h : Canon κ l) (off : Nat) (v : Nat) : Canon κ (LaneSt.configWrite l off v) := by
  unfold LaneSt.configWrite
  refine canon_ite (fun _ => ?_) (fun _ => ?_)
  lift_lets
  intro x1
  have h1 : Canon κ x1 := by
    unfold x1
    apply canon_setPci
    assumption
  clear_value x1
  refine canon_ite (fun _ => ?_) (fun _ => ?_)
  assumption
  apply canon_linkLost
  assumption
  refine canon_ite (fun _ => ?_) (fun _ => ?_)
  apply canon_setPci
  assumption
  refine canon_ite (fun _ => ?_) (fun _ => ?_)
  apply canon_setPci
  assumption
  refine canon_ite (fun _ => ?_) (fun _ => ?_)
  apply canon_setPci
  assumption
  refine canon_ite (fun _ => ?_) (fun _ => ?_)
  apply canon_setPci
  assumption
  refine canon_ite (fun _ => ?_) (fun _ => ?_)
  refine canon_ite (fun _ => ?_) (fun _ => ?_)
  apply canon_linkLost
  apply canon_setPci
  assumption
  refine canon_ite (fun _ => ?_) (fun _ => ?_)
  apply canon_setPci
  assumption
  assumption
  refine canon_ite (fun _ => ?_) (fun _ => ?_)
  apply canon_judgeMsix
  apply canon_setPci
  assumption
  refine canon_ite (fun _ => ?_) (fun _ => ?_)
  apply canon_setPci
  assumption
  refine canon_ite (fun _ => ?_) (fun _ => ?_)
  apply canon_setPci
  assumption
  assumption

theorem canon_otherWrite {κ : LaneId} {l : LaneSt} (h : Canon κ l) (off : Nat) (v : Nat) : Canon κ (LaneSt.otherWrite l off v) := by
  unfold LaneSt.otherWrite
  refine canon_ite (fun _ => ?_) (fun _ => ?_)
  apply canon_badRequest
  assumption
  refine canon_ite (fun _ => ?_) (fun _ => ?_)
  apply canon_configWrite
  assumption
  refine canon_ite (fun _ => ?_) (fun _ => ?_)
  apply canon_bar2Write
  assumption
  assumption

theorem canon_hostIslandReset {κ : LaneId} {l : LaneSt} (h : Canon κ l) : Canon κ (LaneSt.hostIslandReset l) := by
  unfold LaneSt.hostIslandReset
  lift_lets
  intro x1
  have h1 : Canon κ x1 := by
    unfold x1
    apply canon_linkLost
    assumption
  clear_value x1
  intro x2
  clear_value x2
  refine canon_mk ?_ rfl rfl rfl
  assumption

theorem canon_probe {κ : LaneId} {l : LaneSt} (h : Canon κ l) (trained : Nat) (page : Option (List Byte)) : Canon κ (LaneSt.probe l trained page) := by
  unfold LaneSt.probe
  refine canon_ite (fun _ => ?_) (fun _ => ?_)
  assumption
  split
  assumption
  lift_lets
  intro x1
  have h1 : Canon κ x1 := by
    unfold x1
    apply canon_setBlk
    apply canon_wr
    assumption
    decide
  clear_value x1
  intro x2
  clear_value x2
  intro x3
  clear_value x3
  intro x4
  have h4 : Canon κ x4 := by
    unfold x4
    refine canon_mk ?_ rfl rfl rfl
    assumption
  clear_value x4
  intro x5
  have h5 : Canon κ x5 := by
    unfold x5
    apply canon_setPoll
    assumption
  clear_value x5
  refine canon_ite (fun _ => ?_) (fun _ => ?_)
  apply canon_takePage
  assumption
  assumption

theorem canon_galleyCounts {κ : LaneId} {l : LaneSt} (h : Canon κ l) (counts : List Dword) : Canon κ (LaneSt.galleyCounts l counts) := by
  unfold LaneSt.galleyCounts
  lift_lets
  intro x1
  clear_value x1
  intro x2
  clear_value x2
  intro x3
  clear_value x3
  intro x4
  have h4 : Canon κ x4 := by
    unfold x4
    refine canon_mk ?_ rfl rfl rfl
    assumption
  clear_value x4
  intro x5
  have h5 : Canon κ x5 := by
    unfold x5
    refine canon_foldl ?_ (fun _ _ _ => ?_)
    assumption
    apply canon_wr
    apply canon_wr
    assumption
    exact off_add (by decide)
    exact off_add (by decide)
  clear_value x5
  intro x6
  clear_value x6
  refine canon_ite (fun _ => ?_) (fun _ => ?_)
  assumption
  refine canon_mk ?_ rfl rfl rfl
  assumption

theorem canon_hostSilent {κ : LaneId} {l : LaneSt} (h : Canon κ l) : Canon κ (LaneSt.hostSilent l) := by
  unfold LaneSt.hostSilent
  refine canon_ite (fun _ => ?_) (fun _ => ?_)
  assumption
  lift_lets
  intro x1
  have h1 : Canon κ x1 := by
    unfold x1
    apply canon_raise
    apply canon_wr
    assumption
    decide
  clear_value x1
  intro x2
  clear_value x2
  refine canon_mk ?_ rfl rfl rfl
  assumption

theorem canon_fetch {κ : LaneId} {l : LaneSt} (h : Canon κ l) : Canon κ (LaneSt.fetch l) := by
  unfold LaneSt.fetch
  split
  assumption
  lift_lets
  intro x1
  clear_value x1
  intro x2
  clear_value x2
  intro x3
  clear_value x3
  refine canon_mk ?_ rfl rfl rfl
  assumption

theorem canon_putCopies {κ : LaneId} {l : LaneSt} (h : Canon κ l) (c : Copies) : Canon κ (LaneSt.putCopies l c) := by
  unfold LaneSt.putCopies
  refine canon_mk ?_ rfl rfl rfl
  assumption

theorem canon_oddFetch {κ : LaneId} {l : LaneSt} (h : Canon κ l) (k : LaneId) : Canon κ (LaneSt.oddFetch l k) := by
  unfold LaneSt.oddFetch
  refine canon_mk ?_ rfl rfl rfl
  assumption

theorem canon_pushDecided {κ : LaneId} {l : LaneSt} (h : Canon κ l) (d : Decided) : Canon κ (LaneSt.pushDecided l d) := by
  unfold LaneSt.pushDecided
  apply canon_settle
  refine canon_mk ?_ rfl rfl rfl
  assumption

theorem canon_finishMismatch {κ : LaneId} {l : LaneSt} (h : Canon κ l) (c : Copies) : Canon κ (LaneSt.finishMismatch l c) := by
  unfold LaneSt.finishMismatch
  refine canon_ite (fun _ => ?_) (fun _ => ?_)
  lift_lets
  intro x1
  clear_value x1
  intro x2
  have h2 : Canon κ x2 := by
    unfold x2
    apply canon_putCopies
    assumption
  clear_value x2
  intro x3
  have h3 : Canon κ x3 := by
    unfold x3
    refine canon_elim ?_ (fun _ => ?_)
    assumption
    apply canon_oddFetch
    assumption
  clear_value x3
  intro x4
  clear_value x4
  intro x5
  have h5 : Canon κ x5 := by
    unfold x5
    refine canon_mk ?_ rfl rfl rfl
    assumption
  clear_value x5
  intro x6
  clear_value x6
  apply canon_pushDecided
  assumption
  assumption

theorem canon_decideExecute {κ : LaneId} {l : LaneSt} (h : Canon κ l) (c : Copies) (single : Bool) (deny : Bool) : Canon κ (LaneSt.decideExecute l c single deny) := by
  unfold LaneSt.decideExecute
  lift_lets
  intro x1
  clear_value x1
  intro x2
  clear_value x2
  intro x3
  clear_value x3
  intro x4
  have h4 : Canon κ x4 := by
    unfold x4
    apply canon_putCopies
    assumption
  clear_value x4
  split
  apply canon_putCopies
  assumption
  lift_lets
  intro x5
  have h5 : Canon κ x5 := by
    unfold x5
    refine canon_foldl ?_ (fun _ _ _ => ?_)
    assumption
    apply canon_sendTo
    assumption
  clear_value x5
  apply canon_pushDecided
  assumption

theorem canon_sendFull {κ : LaneId} {l : LaneSt} (h : Canon κ l) (c : Copies) : Canon κ (LaneSt.sendFull l c) := by
  unfold LaneSt.sendFull
  refine canon_elim ?_ (fun _ => ?_)
  assumption
  apply canon_send
  assumption

theorem canon_decideOn {κ : LaneId} {l : LaneSt} (h : Canon κ l) (c : Copies) (expired : Bool) : Canon κ (LaneSt.decideOn l c expired) := by
  unfold LaneSt.decideOn
  refine canon_ite (fun _ => ?_) (fun _ => ?_)
  assumption
  refine canon_ite (fun _ => ?_) (fun _ => ?_)
  lift_lets
  intro x1
  clear_value x1
  apply canon_finishMismatch
  apply canon_sendFull
  apply canon_putCopies
  assumption
  refine canon_ite (fun _ => ?_) (fun _ => ?_)
  apply canon_putCopies
  assumption
  refine canon_ite (fun _ => ?_) (fun _ => ?_)
  apply canon_decideExecute
  assumption
  refine canon_ite (fun _ => ?_) (fun _ => ?_)
  apply canon_decideExecute
  assumption
  refine canon_ite (fun _ => ?_) (fun _ => ?_)
  apply canon_decideExecute
  assumption
  apply canon_decideExecute
  assumption

theorem canon_copyFailed {κ : LaneId} {l : LaneSt} (h : Canon κ l) (sg : Nat) (seq : Nat) : Canon κ (LaneSt.copyFailed l sg seq) := by
  unfold LaneSt.copyFailed
  lift_lets
  intro x1
  clear_value x1
  intro x2
  have h2 : Canon κ x2 := by
    unfold x2
    apply canon_send
    assumption
  clear_value x2
  intro x3
  clear_value x3
  refine canon_ite (fun _ => ?_) (fun _ => ?_)
  apply canon_putCopies
  assumption
  apply canon_decideOn
  apply canon_putCopies
  assumption

theorem canon_copyFetched {κ : LaneId} {l : LaneSt} (h : Canon κ l) (sg seq : Nat) (b : List Byte) :
    Canon κ (LaneSt.copyFetched l sg seq b) := by
  have hs : Canon κ (l.send 0x01 (sg + 2 ^ 16 * seq) [descFp sg b]) := canon_send h _ _ _
  unfold LaneSt.copyFetched
  dsimp only
  refine canon_ite (fun _ => canon_ite (fun _ => ?_) (fun _ => ?_)) (fun _ => canon_ite (fun _ => ?_) (fun _ => ?_))
  · split
    · exact canon_putCopies hs _
    · exact canon_pushDecided (canon_putCopies hs _) _
  · exact canon_fault (canon_oddFetch (canon_putCopies hs _) _) _ _
  · exact canon_finishMismatch (canon_sendFull (canon_putCopies hs _) _) _
  · exact canon_decideOn (canon_putCopies hs _) _ _


theorem canon_fetchOne {κ : LaneId} {l : LaneSt} (h : Canon κ l) (sg : Nat) (seq : Nat) (bs : List Byte) (flips : List (BitVec 72)) : Canon κ (LaneSt.fetchOne l sg seq bs flips) := by
  unfold LaneSt.fetchOne
  lift_lets
  intro x1
  have h1 : Canon κ x1.1 := by
    unfold x1
    apply canon_crossBytes
    assumption
  clear_value x1
  split
  apply canon_copyFetched
  assumption
  apply canon_copyFailed
  assumption

theorem canon_fetchDone {κ : LaneId} {l : LaneSt} (h : Canon κ l) (bytes : Option (List Byte)) (flips : List (BitVec 72)) : Canon κ (LaneSt.fetchDone l bytes flips) := by
  unfold LaneSt.fetchDone
  split
  assumption
  lift_lets
  intro x1
  clear_value x1
  intro x2
  have h2 : Canon κ x2 := by
    unfold x2
    refine canon_mk ?_ rfl rfl rfl
    assumption
  clear_value x2
  intro x3
  clear_value x3
  intro x4
  have h4 : Canon κ x4 := by
    unfold x4
    refine canon_mk ?_ rfl rfl rfl
    assumption
  clear_value x4
  split
  apply canon_dmaFailed
  refine canon_foldl ?_ (fun _ _ _ => ?_)
  assumption
  apply canon_copyFailed
  assumption
  refine canon_foldl ?_ (fun _ _ _ => ?_)
  assumption
  apply canon_fetchOne
  assumption

theorem canon_fpReceive {κ : LaneId} {l : LaneSt} (h : Canon κ l) (p : LaneId) (sg : Nat) (seq : Nat) (fp : Option Nat) : Canon κ (LaneSt.fpReceive l p sg seq fp) := by
  unfold LaneSt.fpReceive
  lift_lets
  intro x1
  clear_value x1
  intro x2
  clear_value x2
  split
  apply canon_decideOn
  apply canon_putCopies
  assumption
  lift_lets
  intro x3
  clear_value x3
  intro x4
  have h4 : Canon κ x4 := by
    unfold x4
    apply canon_putCopies
    assumption
  clear_value x4
  refine canon_ite (fun _ => ?_) (fun _ => ?_)
  refine canon_ite (fun _ => ?_) (fun _ => ?_)
  assumption
  apply canon_oddFetch
  assumption
  refine canon_ite (fun _ => ?_) (fun _ => ?_)
  apply canon_finishMismatch
  apply canon_putCopies
  assumption
  apply canon_decideOn
  apply canon_putCopies
  assumption

theorem canon_postCompletion {κ : LaneId} {l : LaneSt} (h : Canon κ l) (w : Written) : Canon κ (LaneSt.postCompletion l w) := by
  unfold LaneSt.postCompletion
  lift_lets
  intro x1
  clear_value x1
  intro x2
  clear_value x2
  intro x3
  clear_value x3
  apply canon_post
  apply canon_post
  assumption

theorem canon_noteWritten {κ : LaneId} {l : LaneSt} (h : Canon κ l) (w : Written) : Canon κ (LaneSt.noteWritten l w) := by
  unfold LaneSt.noteWritten
  lift_lets
  intro x1
  have h1 : Canon κ x1 := by
    unfold x1
    apply canon_inc
    assumption
    exact off_add (by decide)
  clear_value x1
  intro x2
  clear_value x2
  refine canon_mk ?_ rfl rfl rfl
  assumption

theorem canon_rewriteCompletions {κ : LaneId} {l : LaneSt} (h : Canon κ l) : Canon κ (LaneSt.rewriteCompletions l) := by
  unfold LaneSt.rewriteCompletions
  refine canon_foldl ?_ (fun _ _ _ => ?_)
  assumption
  lift_lets
  intro x1
  clear_value x1
  refine canon_ite (fun _ => ?_) (fun _ => ?_)
  apply canon_postCompletion
  assumption
  assumption

theorem canon_firstRead {κ : LaneId} {l : LaneSt} (h : Canon κ l) (b : Nat) : Canon κ (LaneSt.firstRead l b) := by
  unfold LaneSt.firstRead
  refine canon_ite (fun _ => ?_) (fun _ => ?_)
  assumption
  lift_lets
  intro x1
  clear_value x1
  intro x2
  have h2 : Canon κ x2 := by
    unfold x2
    apply canon_wr
    apply canon_wr
    assumption
    exact off_add (by decide)
    exact off_add (by decide)
  clear_value x2
  intro x3
  clear_value x3
  refine canon_mk ?_ rfl rfl rfl
  assumption

end Sys2Proof.Machine
end

