-- ==== Sys2Proof/Laws/CanonGate.lean ====
section
/-!
SUPPORT. Every operation of Machine/Gate.lean keeps a lane sound.
-/

namespace Sys2Proof.Machine

open Sys2Proof LaneSt

theorem canon_setComm {κ : LaneId} {l : LaneSt} (h : Canon κ l) (n : Nat) (f : CommCh → CommCh) : Canon κ (LaneSt.setComm l n f) := by
  unfold LaneSt.setComm
  refine canon_mk ?_ rfl rfl rfl
  assumption

theorem canon_setDegrade {κ : LaneId} {l : LaneSt} (h : Canon κ l) (i : Nat) (b : Bool) : Canon κ (LaneSt.setDegrade l i b) := by
  unfold LaneSt.setDegrade
  apply canon_setBlk
  assumption

theorem canon_zeroDq {κ : LaneId} {l : LaneSt} (h : Canon κ l) (n : Nat) : Canon κ (LaneSt.zeroDq l n) := by
  unfold LaneSt.zeroDq
  refine canon_foldl ?_ (fun _ _ _ => ?_)
  assumption
  lift_lets
  intro x1
  clear_value x1
  refine canon_ite (fun _ => ?_) (fun _ => ?_)
  apply canon_wr
  assumption
  exact off_add (by decide)
  assumption

theorem canon_enableGates {κ : LaneId} {l : LaneSt} (h : Canon κ l) (n : Nat) : Canon κ (LaneSt.enableGates l n) := by
  unfold LaneSt.enableGates
  apply canon_setWstate
  apply canon_zeroDq
  apply canon_setBridge
  apply canon_dropDue
  assumption

theorem canon_loadDuty {κ : LaneId} {l : LaneSt} (h : Canon κ l) (n : Nat) : Canon κ (LaneSt.loadDuty l n) := by
  unfold LaneSt.loadDuty
  lift_lets
  intro x1
  clear_value x1
  apply canon_setGateCh
  assumption

theorem canon_loadAux {κ : LaneId} {l : LaneSt} (h : Canon κ l) (m : Nat) : Canon κ (LaneSt.loadAux l m) := by
  unfold LaneSt.loadAux
  lift_lets
  intro x1
  clear_value x1
  intro x2
  clear_value x2
  refine canon_mk ?_ rfl rfl rfl
  assumption

theorem canon_pwmEdge {κ : LaneId} {l : LaneSt} (h : Canon κ l) (m : Nat) : Canon κ (LaneSt.pwmEdge l m) := by
  unfold LaneSt.pwmEdge
  lift_lets
  intro x1
  clear_value x1
  intro x2
  clear_value x2
  refine canon_ite (fun _ => ?_) (fun _ => ?_)
  assumption
  apply canon_driveLeg
  assumption

theorem canon_shortStep {κ : LaneId} {l : LaneSt} (h : Canon κ l) (n : Nat) : Canon κ (LaneSt.shortStep l n) := by
  unfold LaneSt.shortStep
  lift_lets
  intro x1
  clear_value x1
  intro x2
  clear_value x2
  intro x3
  have h3 : Canon κ x3 := by
    unfold x3
    apply canon_setGateCh
    apply canon_wr
    assumption
    exact off_add (by decide)
  clear_value x3
  refine canon_ite (fun _ => ?_) (fun _ => ?_)
  assumption
  refine canon_ite (fun _ => ?_) (fun _ => ?_)
  apply canon_setWstate
  apply canon_setBridge
  assumption
  assumption

theorem canon_gateClock {κ : LaneId} {l : LaneSt} (h : Canon κ l) : Canon κ (LaneSt.gateClock l) := by
  unfold LaneSt.gateClock
  lift_lets
  intro x1
  have h1 : Canon κ x1 := by
    unfold x1
    refine canon_foldl ?_ (fun _ _ _ => ?_)
    assumption
    apply canon_shortStep
    assumption
  clear_value x1
  intro x2
  have h2 : Canon κ x2 := by
    unfold x2
    refine canon_foldl ?_ (fun _ _ _ => ?_)
    assumption
    apply canon_pwmEdge
    assumption
  clear_value x2
  refine canon_foldl ?_ (fun _ _ _ => ?_)
  assumption
  apply canon_swOn
  assumption

theorem canon_setHi {κ : LaneId} {l : LaneSt} (h : Canon κ l) (m : Nat) (t : Option Nat) : Canon κ (LaneSt.setHi l m t) := by
  unfold LaneSt.setHi
  refine canon_mk ?_ rfl rfl rfl
  assumption

theorem canon_refresh {κ : LaneId} {l : LaneSt} (h : Canon κ l) (m : Nat) (period : Nat) : Canon κ (LaneSt.refresh l m period) := by
  unfold LaneSt.refresh
  lift_lets
  intro x1
  clear_value x1
  intro x2
  have h2 : Canon κ x2 := by
    unfold x2
    apply canon_wr
    assumption
    exact off_add (by decide)
  clear_value x2
  refine canon_ite (fun _ => ?_) (fun _ => ?_)
  apply canon_setHi
  assumption
  refine canon_ite (fun _ => ?_) (fun _ => ?_)
  apply canon_setHi
  assumption
  split
  apply canon_setHi
  assumption
  refine canon_ite (fun _ => ?_) (fun _ => ?_)
  apply canon_setHi
  apply canon_satInc
  apply canon_wr
  assumption
  exact off_add (by decide)
  exact off_add (by decide)
  assumption

theorem canon_align {κ : LaneId} {l : LaneSt} (h : Canon κ l) (c : Nat) (err : Int) : Canon κ (LaneSt.align l c err) := by
  unfold LaneSt.align
  lift_lets
  intro x1
  clear_value x1
  intro x2
  clear_value x2
  intro x3
  have h3 : Canon κ x3 := by
    unfold x3
    apply canon_wrSat
    apply canon_inc
    assumption
    exact off_add (by decide)
    exact off_add (by decide)
  clear_value x3
  intro x4
  clear_value x4
  intro x5
  have h5 : Canon κ x5 := by
    unfold x5
    refine canon_mk ?_ rfl rfl rfl
    assumption
  clear_value x5
  intro x6
  have h6 : Canon κ x6 := by
    unfold x6
    apply canon_wr
    assumption
    exact off_add (by decide)
  clear_value x6
  refine canon_ite (fun _ => ?_) (fun _ => ?_)
  apply canon_wr
  assumption
  exact off_add (by decide)
  refine canon_ite (fun _ => ?_) (fun _ => ?_)
  apply canon_fault
  assumption
  assumption

theorem canon_valleyChannel {κ : LaneId} {l : LaneSt} (h : Canon κ l) (n : Nat) : Canon κ (LaneSt.valleyChannel l n) := by
  unfold LaneSt.valleyChannel
  lift_lets
  intro x1
  clear_value x1
  intro x2
  have h2 : Canon κ x2 := by
    unfold x2
    refine canon_ite (fun _ => ?_) (fun _ => ?_)
    apply canon_satInc
    assumption
    exact off_add (by decide)
    assumption
  clear_value x2
  intro x3
  have h3 : Canon κ x3 := by
    unfold x3
    refine canon_ite (fun _ => ?_) (fun _ => ?_)
    apply canon_setComm
    apply canon_windingSafe
    assumption
    refine canon_ite (fun _ => ?_) (fun _ => ?_)
    apply canon_enableGates
    assumption
    assumption
  clear_value x3
  apply canon_loadDuty
  assumption

theorem canon_valley {κ : LaneId} {l : LaneSt} (h : Canon κ l) (c : Nat) (err : Int) : Canon κ (LaneSt.valley l c err) := by
  unfold LaneSt.valley
  refine canon_ite (fun _ => ?_) (fun _ => ?_)
  assumption
  lift_lets
  intro x1
  have h1 : Canon κ x1 := by
    unfold x1
    apply canon_align
    assumption
  clear_value x1
  intro x2
  have h2 : Canon κ x2 := by
    unfold x2
    refine canon_foldl ?_ (fun _ _ _ => ?_)
    assumption
    refine canon_ite (fun _ => ?_) (fun _ => ?_)
    apply canon_valleyChannel
    assumption
    assumption
  clear_value x2
  intro x3
  clear_value x3
  intro x4
  have h4 : Canon κ x4 := by
    unfold x4
    refine canon_foldl ?_ (fun _ _ _ => ?_)
    assumption
    refine canon_ite (fun _ => ?_) (fun _ => ?_)
    apply canon_loadAux
    assumption
    assumption
  clear_value x4
  refine canon_foldl ?_ (fun _ _ _ => ?_)
  assumption
  refine canon_ite (fun _ => ?_) (fun _ => ?_)
  apply canon_refresh
  assumption
  assumption

theorem canon_judgeChop {κ : LaneId} {l : LaneSt} (h : Canon κ l) : Canon κ (LaneSt.judgeChop l) := by
  unfold LaneSt.judgeChop
  lift_lets
  intro x1
  have h1 : Canon κ x1 := by
    unfold x1
    apply canon_wrB
    assumption
    decide
  clear_value x1
  apply canon_setDegrade
  apply canon_wr
  assumption
  decide

theorem canon_setChp {κ : LaneId} {l : LaneSt} (h : Canon κ l) (k : Nat) (b : Bool) : Canon κ (LaneSt.setChp l k b) := by
  unfold LaneSt.setChp
  lift_lets
  intro x1
  have h1 : Canon κ x1 := by
    unfold x1
    apply canon_setLeg
    assumption
  clear_value x1
  intro x2
  have h2 : Canon κ x2 := by
    unfold x2
    apply canon_wr
    assumption
    decide
  clear_value x2
  intro x3
  clear_value x3
  refine canon_mk ?_ rfl rfl rfl
  assumption

theorem canon_chpLatch {κ : LaneId} {l : LaneSt} (h : Canon κ l) (k : Nat) : Canon κ (LaneSt.chpLatch l k) := by
  unfold LaneSt.chpLatch
  lift_lets
  intro x1
  have h1 : Canon κ x1 := by
    unfold x1
    apply canon_wr
    apply canon_setChp
    assumption
    decide
  clear_value x1
  apply canon_judgeChop
  apply canon_satInc
  apply canon_setLeg
  assumption
  decide

theorem canon_chopper {κ : LaneId} {l : LaneSt} (h : Canon κ l) (k : Nat) : Canon κ (LaneSt.chopper l k) := by
  unfold LaneSt.chopper
  refine canon_ite (fun _ => ?_) (fun _ => ?_)
  assumption
  lift_lets
  intro x1
  clear_value x1
  intro x2
  clear_value x2
  intro x3
  clear_value x3
  refine canon_ite (fun _ => ?_) (fun _ => ?_)
  apply canon_setChp
  assumption
  refine canon_ite (fun _ => ?_) (fun _ => ?_)
  apply canon_setChp
  assumption
  assumption

theorem canon_ov3 {κ : LaneId} {l : LaneSt} (h : Canon κ l) : Canon κ (LaneSt.ov3 l) := by
  unfold LaneSt.ov3
  lift_lets
  intro x1
  have h1 : Canon κ x1 := by
    unfold x1
    apply canon_wr
    assumption
    decide
  clear_value x1
  intro x2
  have h2 : Canon κ x2 := by
    unfold x2
    refine canon_foldl ?_ (fun _ _ _ => ?_)
    assumption
    lift_lets
    intro x3
    clear_value x3
    refine canon_ite (fun _ => ?_) (fun _ => ?_)
    assumption
    apply canon_setGateCh
    apply canon_activeShort
    assumption
  clear_value x2
  apply canon_fault
  apply canon_satInc
  assumption
  decide

theorem canon_vdcNew {κ : LaneId} {l : LaneSt} (h : Canon κ l) : Canon κ (LaneSt.vdcNew l) := by
  unfold LaneSt.vdcNew
  refine canon_ite (fun _ => ?_) (fun _ => ?_)
  assumption
  lift_lets
  intro x1
  clear_value x1
  intro x2
  have h2 : Canon κ x2 := by
    unfold x2
    refine canon_ite (fun _ => ?_) (fun _ => ?_)
    assumption
    apply canon_raise
    apply canon_wr
    assumption
    decide
  clear_value x2
  intro x3
  have h3 : Canon κ x3 := by
    unfold x3
    apply canon_judgeChop
    apply canon_chopper
    apply canon_chopper
    assumption
  clear_value x3
  refine canon_ite (fun _ => ?_) (fun _ => ?_)
  apply canon_ov3
  assumption
  assumption

theorem canon_chpCurrent {κ : LaneId} {l : LaneSt} (h : Canon κ l) (k : Nat) (hold : Nat) : Canon κ (LaneSt.chpCurrent l k hold) := by
  unfold LaneSt.chpCurrent
  lift_lets
  intro x1
  clear_value x1
  intro x2
  clear_value x2
  intro x3
  clear_value x3
  intro x4
  have h4 : Canon κ x4 := by
    unfold x4
    refine canon_mk ?_ rfl rfl rfl
    assumption
  clear_value x4
  intro x5
  clear_value x5
  refine canon_ite (fun _ => ?_) (fun _ => ?_)
  assumption
  refine canon_ite (fun _ => ?_) (fun _ => ?_)
  apply canon_fault
  apply canon_chpLatch
  assumption
  assumption

theorem canon_chopShorted {κ : LaneId} {l : LaneSt} (h : Canon κ l) (k : Nat) : Canon κ (LaneSt.chopShorted l k) := by
  unfold LaneSt.chopShorted
  refine canon_ite (fun _ => ?_) (fun _ => ?_)
  assumption
  apply canon_fault
  apply canon_chpLatch
  assumption

theorem canon_ov3Release {κ : LaneId} {l : LaneSt} (h : Canon κ l) : Canon κ (LaneSt.ov3Release l) := by
  unfold LaneSt.ov3Release
  refine canon_ite (fun _ => ?_) (fun _ => ?_)
  assumption
  lift_lets
  intro x1
  have h1 : Canon κ x1 := by
    unfold x1
    apply canon_wr
    assumption
    decide
  clear_value x1
  refine canon_foldl ?_ (fun _ _ _ => ?_)
  assumption
  refine canon_ite (fun _ => ?_) (fun _ => ?_)
  apply canon_setGateCh
  assumption
  assumption

theorem canon_ov4Trip {κ : LaneId} {l : LaneSt} (h : Canon κ l) (die : Nat) : Canon κ (LaneSt.ov4Trip l die) := by
  unfold LaneSt.ov4Trip
  refine canon_ite (fun _ => ?_) (fun _ => ?_)
  assumption
  lift_lets
  intro x1
  have h1 : Canon κ x1 := by
    unfold x1
    refine canon_foldl ?_ (fun _ _ _ => ?_)
    assumption
    refine canon_ite (fun _ => ?_) (fun _ => ?_)
    apply canon_activeShort
    assumption
    assumption
  clear_value x1
  intro x2
  have h2 : Canon κ x2 := by
    unfold x2
    refine canon_ite (fun _ => ?_) (fun _ => ?_)
    apply canon_setChp
    assumption
    assumption
  clear_value x2
  intro x3
  have h3 : Canon κ x3 := by
    unfold x3
    apply canon_wr
    assumption
    decide
  clear_value x3
  apply canon_fault
  apply canon_satInc
  apply canon_wr
  assumption
  decide
  decide

theorem canon_vgdLoss {κ : LaneId} {l : LaneSt} (h : Canon κ l) : Canon κ (LaneSt.vgdLoss l) := by
  unfold LaneSt.vgdLoss
  refine canon_ite (fun _ => ?_) (fun _ => ?_)
  assumption
  lift_lets
  intro x1
  have h1 : Canon κ x1 := by
    unfold x1
    apply canon_fault
    apply canon_wr
    assumption
    decide
  clear_value x1
  apply canon_gatesDown
  refine canon_foldl ?_ (fun _ _ _ => ?_)
  assumption
  refine canon_ite (fun _ => ?_) (fun _ => ?_)
  apply canon_windingOff
  assumption
  assumption

theorem canon_forceSafe {κ : LaneId} {l : LaneSt} (h : Canon κ l) (die : Nat) : Canon κ (LaneSt.forceSafe l die) := by
  unfold LaneSt.forceSafe
  apply canon_dieSafe
  apply canon_wr
  assumption
  decide

theorem canon_edgeLink {κ : LaneId} {l : LaneSt} (h : Canon κ l) (die : Nat) : Canon κ (LaneSt.edgeLink l die) := by
  unfold LaneSt.edgeLink
  apply canon_fault
  apply canon_dieSafe
  apply canon_wr
  assumption
  decide

theorem canon_takeShort {κ : LaneId} {l : LaneSt} (h : Canon κ l) (n : Nat) (side : Nat) : Canon κ (LaneSt.takeShort l n side) := by
  unfold LaneSt.takeShort
  lift_lets
  intro x1
  have h1 : Canon κ x1 := by
    unfold x1
    apply canon_setGateCh
    apply canon_dropDue
    assumption
  clear_value x1
  apply canon_shortStep
  refine canon_foldl ?_ (fun _ _ _ => ?_)
  assumption
  apply canon_swOff
  apply canon_wr
  assumption
  exact off_add (by decide)

theorem canon_nameSide {κ : LaneId} {l : LaneSt} (h : Canon κ l) (leg : Nat) (side : Nat) : Canon κ (LaneSt.nameSide l leg side).1 := by
  unfold LaneSt.nameSide
  lift_lets
  intro x1
  clear_value x1
  intro x2
  clear_value x2
  intro x3
  have h3 : Canon κ x3 := by
    unfold x3
    apply canon_wr
    assumption
    exact off_add (by decide)
  clear_value x3
  intro x4
  clear_value x4
  intro x5
  have h5 : Canon κ x5 := by
    unfold x5
    apply canon_satInc
    assumption
    exact off_add (by decide)
  clear_value x5
  intro x6
  have h6 : Canon κ x6 := by
    unfold x6
    refine canon_ite (fun _ => ?_) (fun _ => ?_)
    apply canon_wr
    assumption
    exact off_add (by decide)
    assumption
  clear_value x6
  intro x7
  have h7 : Canon κ x7 := by
    unfold x7
    apply canon_setGateCh
    apply canon_wr
    assumption
    exact off_add (by decide)
  clear_value x7
  split
  dsimp only
  assumption
  split
  dsimp only
  apply canon_takeShort
  assumption
  dsimp only
  apply canon_satInc
  apply canon_windingOff
  assumption
  decide

theorem canon_latchSwitch {κ : LaneId} {l : LaneSt} (h : Canon κ l) (leg : Nat) (low : Bool) : Canon κ (LaneSt.latchSwitch l leg low) := by
  unfold LaneSt.latchSwitch
  refine canon_ite (fun _ => ?_) (fun _ => ?_)
  apply canon_setLeg
  apply canon_wr
  apply canon_wr
  assumption
  exact off_add (by decide)
  exact off_add (by decide)
  apply canon_wr
  apply canon_swOff
  assumption
  apply off_switchLatchF

theorem canon_chpIdle {κ : LaneId} {l : LaneSt} (h : Canon κ l) (leg : Nat) : Canon κ (LaneSt.chpIdle l leg) := by
  unfold LaneSt.chpIdle
  refine canon_ite (fun _ => ?_) (fun _ => ?_)
  apply canon_judgeChop
  apply canon_setChp
  assumption
  assumption

theorem canon_switchEvent {κ : LaneId} {l : LaneSt} (h : Canon κ l) (code : Nat) (leg : Nat) (low : Bool) (side : Nat) (chop : Bool) : Canon κ (LaneSt.switchEvent l code leg low side chop) := by
  unfold LaneSt.switchEvent
  lift_lets
  intro x1
  clear_value x1
  intro x2
  clear_value x2
  intro x3
  have h3 : Canon κ x3 := by
    unfold x3
    refine canon_ite (fun _ => ?_) (fun _ => ?_)
    apply canon_swOff
    assumption
    assumption
  clear_value x3
  intro x4
  have h4 : Canon κ x4.1 := by
    unfold x4
    apply canon_nameSide
    assumption
  clear_value x4
  intro x5
  have h5 : Canon κ x5 := by
    unfold x5
    apply canon_fault
    assumption
  clear_value x5
  intro x6
  have h6 : Canon κ x6 := by
    unfold x6
    apply canon_chpIdle
    apply canon_latchSwitch
    assumption
  clear_value x6
  intro x7
  have h7 : Canon κ x7 := by
    unfold x7
    refine canon_ite (fun _ => ?_) (fun _ => ?_)
    apply canon_chpLatch
    assumption
    assumption
  clear_value x7
  refine canon_ite (fun _ => ?_) (fun _ => ?_)
  assumption
  refine canon_ite (fun _ => ?_) (fun _ => ?_)
  refine canon_ite (fun _ => ?_) (fun _ => ?_)
  apply canon_fault
  assumption
  assumption
  apply canon_fault
  assumption

theorem canon_desat {κ : LaneId} {l : LaneSt} (h : Canon κ l) (leg : Nat) (low : Bool) : Canon κ (LaneSt.desat l leg low) := by
  unfold LaneSt.desat
  refine canon_ite (fun _ => ?_) (fun _ => ?_)
  assumption
  lift_lets
  intro x1
  have h1 : Canon κ x1 := by
    unfold x1
    refine canon_ite (fun _ => ?_) (fun _ => ?_)
    assumption
    apply canon_satInc
    apply canon_wr
    assumption
    split
    exact off_add (by decide)
    exact off_add (by decide)
    exact off_add (by decide)
  clear_value x1
  apply canon_switchEvent
  assumption

theorem canon_coarse {κ : LaneId} {l : LaneSt} (h : Canon κ l) (leg : Nat) (low : Bool) : Canon κ (LaneSt.coarse l leg low) := by
  unfold LaneSt.coarse
  refine canon_ite (fun _ => ?_) (fun _ => ?_)
  assumption
  lift_lets
  intro x1
  have h1 : Canon κ x1 := by
    unfold x1
    apply canon_satInc
    apply canon_wr
    assumption
    split
    exact off_add (by decide)
    exact off_add (by decide)
    exact off_add (by decide)
  clear_value x1
  apply canon_switchEvent
  assumption

theorem canon_interlockStuck {κ : LaneId} {l : LaneSt} (h : Canon κ l) (leg : Nat) (low : Bool) : Canon κ (LaneSt.interlockStuck l leg low) := by
  unfold LaneSt.interlockStuck
  refine canon_ite (fun _ => ?_) (fun _ => ?_)
  assumption
  lift_lets
  intro x1
  have h1 : Canon κ x1 := by
    unfold x1
    refine canon_ite (fun _ => ?_) (fun _ => ?_)
    assumption
    apply canon_satInc
    apply canon_wr
    assumption
    split
    exact off_add (by decide)
    exact off_add (by decide)
    exact off_add (by decide)
  clear_value x1
  refine canon_ite (fun _ => ?_) (fun _ => ?_)
  assumption
  apply canon_wr
  apply canon_switchEvent
  assumption
  apply off_gsF

theorem canon_gateStuckOff {κ : LaneId} {l : LaneSt} (h : Canon κ l) (leg : Nat) (low : Bool) : Canon κ (LaneSt.gateStuckOff l leg low) := by
  unfold LaneSt.gateStuckOff
  refine canon_ite (fun _ => ?_) (fun _ => ?_)
  assumption
  lift_lets
  intro x1
  have h1 : Canon κ x1 := by
    unfold x1
    refine canon_ite (fun _ => ?_) (fun _ => ?_)
    assumption
    apply canon_satInc
    apply canon_wr
    assumption
    split
    exact off_add (by decide)
    exact off_add (by decide)
    exact off_add (by decide)
  clear_value x1
  apply canon_switchEvent
  assumption

theorem canon_bsUv {κ : LaneId} {l : LaneSt} (h : Canon κ l) (leg : Nat) : Canon κ (LaneSt.bsUv l leg) := by
  unfold LaneSt.bsUv
  refine canon_ite (fun _ => ?_) (fun _ => ?_)
  assumption
  lift_lets
  intro x1
  have h1 : Canon κ x1 := by
    unfold x1
    apply canon_swOff
    apply canon_wr
    assumption
    exact off_add (by decide)
  clear_value x1
  intro x2
  clear_value x2
  refine canon_ite (fun _ => ?_) (fun _ => ?_)
  apply canon_fault
  apply canon_windingOff
  assumption
  apply canon_switchEvent
  assumption

theorem canon_setSweep {κ : LaneId} {l : LaneSt} (h : Canon κ l) (i : Nat) (st : Option Nat) : Canon κ (LaneSt.setSweep l i st) := by
  unfold LaneSt.setSweep
  lift_lets
  intro x1
  clear_value x1
  intro x2
  clear_value x2
  refine canon_mk ?_ rfl rfl rfl
  assumption

theorem canon_setTest {κ : LaneId} {l : LaneSt} (h : Canon κ l) (n : Nat) (f : CompTest → CompTest) : Canon κ (LaneSt.setTest l n f) := by
  unfold LaneSt.setTest
  apply canon_setGateCh
  assumption

theorem canon_cmpResult {κ : LaneId} {l : LaneSt} (h : Canon κ l) (leg : Nat) (low : Bool) (cmp : Nat) (trip : Option Int) (pass : Bool) : Canon κ (LaneSt.cmpResult l leg low cmp trip pass) := by
  unfold LaneSt.cmpResult
  lift_lets
  intro x1
  clear_value x1
  intro x2
  clear_value x2
  intro x3
  clear_value x3
  intro x4
  have h4 : 4096 ≤ x4.off := by
    unfold x4
    split
    exact off_add (by decide)
    split
    split
    exact off_add (by decide)
    exact off_add (by decide)
    split
    exact off_add (by decide)
    exact off_add (by decide)
  clear_value x4
  intro x5
  have h5 : Canon κ x5 := by
    unfold x5
    refine canon_elim ?_ (fun _ => ?_)
    assumption
    apply canon_wrI
    assumption
    assumption
  clear_value x5
  intro x6
  have h6 : Canon κ x6 := by
    unfold x6
    apply canon_wr
    assumption
    exact off_add (by decide)
  clear_value x6
  intro x7
  have h7 : Canon κ x7 := by
    unfold x7
    apply canon_wr
    assumption
    exact off_add (by decide)
  clear_value x7
  intro x8
  have h8 : Canon κ x8 := by
    unfold x8
    apply canon_setTest
    assumption
  clear_value x8
  refine canon_ite (fun _ => ?_) (fun _ => ?_)
  assumption
  apply canon_fault
  assumption

theorem canon_selftestStep {κ : LaneId} {l : LaneSt} (h : Canon κ l) (leg : Nat) (low : Bool) (cmp : Nat) (aborted : Bool) (tripped : Bool) : Canon κ (LaneSt.selftestStep l leg low cmp aborted tripped) := by
  unfold LaneSt.selftestStep
  lift_lets
  intro x1
  clear_value x1
  intro x2
  clear_value x2
  intro x3
  clear_value x3
  intro x4
  have h4 : Canon κ x4 := by
    unfold x4
    apply canon_setTest
    assumption
  clear_value x4
  intro x5
  clear_value x5
  intro x6
  clear_value x6
  intro x7
  clear_value x7
  refine canon_ite (fun _ => ?_) (fun _ => ?_)
  assumption
  refine canon_ite (fun _ => ?_) (fun _ => ?_)
  assumption
  refine canon_ite (fun _ => ?_) (fun _ => ?_)
  apply canon_bgWork
  apply canon_cmpResult
  apply canon_setSweep
  assumption
  refine canon_ite (fun _ => ?_) (fun _ => ?_)
  apply canon_bgWork
  apply canon_cmpResult
  apply canon_setSweep
  assumption
  apply canon_setSweep
  assumption

theorem canon_scanStart {κ : LaneId} {l : LaneSt} (h : Canon κ l) (n : Nat) (startup : Bool) : Canon κ (LaneSt.scanStart l n startup) := by
  unfold LaneSt.scanStart
  lift_lets
  intro x1
  have h1 : Canon κ x1 := by
    unfold x1
    apply canon_windingOff
    assumption
  clear_value x1
  refine canon_ite (fun _ => ?_) (fun _ => ?_)
  apply canon_setGateCh
  assumption
  apply canon_setWstate
  apply canon_setGateCh
  assumption

theorem canon_scanVolt {κ : LaneId} {l : LaneSt} (h : Canon κ l) (i : Nat) (flip : BitVec 72) : Canon κ (LaneSt.scanVolt l i flip).2 := by
  have hx := canon_cross h 12 [XWord.make (BitVec.ofNat 64 (l.rd (ADC.RESULT.VALUE i))) flip]
  simp only [LaneSt.scanVolt]
  split
  · exact hx
  · exact canon_fresh hx

theorem canon_scanStep {κ : LaneId} {l : LaneSt} (h : Canon κ l) (n : Nat) (u v w : BitVec 72) :
    Canon κ (LaneSt.scanStep l n u v w) := by
  unfold LaneSt.scanStep
  split
  · exact h
  · split
    · exact h
    · have hz := canon_setGateCh (canon_scanVolt (canon_scanVolt (canon_scanVolt h (24 + 3 * n) u) (25 + 3 * n) v) (26 + 3 * n) w) n
      dsimp only
      split
      · exact canon_setWstate (hz _) n 0
      · exact hz _

theorem canon_diag {κ : LaneId} {l : LaneSt} (h : Canon κ l) (d : Decided) (ch : Nat) (test : Nat) (lanes : Nat) (dst : Nat) : Canon κ (LaneSt.diag l d ch test lanes dst) := by
  unfold LaneSt.diag
  apply canon_permitted
  assumption
  intro _
  intro _
  lift_lets
  intro x1
  have h1 : Canon κ x1 := by
    unfold x1
    apply canon_setComm
    assumption
  clear_value x1
  refine canon_ite (fun _ => ?_) (fun _ => ?_)
  assumption
  refine canon_ite (fun _ => ?_) (fun _ => ?_)
  apply canon_setGateCh
  assumption
  apply canon_scanStart
  assumption

end Sys2Proof.Machine
end

