-- ==== Sys2Proof/Laws/CanonAdc.lean ====
section
/-!
SUPPORT. Every operation of Machine/Adc.lean keeps a lane sound.
-/

namespace Sys2Proof.Machine

open Sys2Proof LaneSt

theorem canon_setHeld {κ : LaneId} {l : LaneSt} (h : Canon κ l) (c : Nat) (f : List Held → List Held) : Canon κ (LaneSt.setHeld l c f) := by
  unfold LaneSt.setHeld
  refine canon_mk ?_ rfl rfl rfl
  assumption

theorem canon_strobe {κ : LaneId} {l : LaneSt} (h : Canon κ l) (s : Nat) (ins : List Nat) : Canon κ (LaneSt.strobe l s ins) := by
  unfold LaneSt.strobe
  refine canon_foldl ?_ (fun _ _ _ => ?_)
  assumption
  apply canon_setHeld
  assumption

theorem canon_seqHold {κ : LaneId} {l : LaneSt} (h : Canon κ l) (s : Nat) : Canon κ (LaneSt.seqHold l s) := by
  unfold LaneSt.seqHold
  lift_lets
  intro x1
  clear_value x1
  intro x2
  clear_value x2
  refine canon_ite (fun _ => ?_) (fun _ => ?_)
  assumption
  refine canon_ite (fun _ => ?_) (fun _ => ?_)
  refine canon_ite (fun _ => ?_) (fun _ => ?_)
  apply canon_fault
  apply canon_satInc
  assumption
  decide
  apply canon_fault
  apply canon_satInc
  assumption
  exact off_add (by decide)
  apply canon_inc
  apply canon_strobe
  assumption
  exact off_add (by decide)

theorem canon_vdcCross {κ : LaneId} {l : LaneSt} (h : Canon κ l) : Canon κ (LaneSt.vdcCross l) := by
  unfold LaneSt.vdcCross
  refine canon_ite (fun _ => ?_) (fun _ => ?_)
  assumption
  lift_lets
  intro x1
  clear_value x1
  intro x2
  clear_value x2
  intro x3
  clear_value x3
  intro x4
  clear_value x4
  intro x5
  have h5 : Canon κ x5 := by
    unfold x5
    refine canon_mk ?_ rfl rfl rfl
    assumption
  clear_value x5
  refine canon_ite (fun _ => ?_) (fun _ => ?_)
  apply canon_fault
  assumption
  assumption

theorem canon_consumers {κ : LaneId} {l : LaneSt} (h : Canon κ l) (i : Nat) (hold : Nat) : Canon κ (LaneSt.consumers l i hold) := by
  unfold LaneSt.consumers
  refine canon_ite (fun _ => ?_) (fun _ => ?_)
  apply canon_vdcCross
  apply canon_vdcNew
  assumption
  refine canon_ite (fun _ => ?_) (fun _ => ?_)
  apply canon_vdcCross
  assumption
  refine canon_ite (fun _ => ?_) (fun _ => ?_)
  apply canon_chpCurrent
  assumption
  assumption

theorem canon_moveInputs {κ : LaneId} {l : LaneSt} (h : Canon κ l) (c : Nat) (away : Bool) : Canon κ (LaneSt.moveInputs l c away) := by
  unfold LaneSt.moveInputs
  lift_lets
  intro x1
  have h1 : Canon κ x1 := by
    unfold x1
    apply canon_wr
    assumption
    decide
  clear_value x1
  apply canon_wrB
  apply canon_wrB
  assumption
  exact off_add (by decide)
  exact off_add (by decide)

theorem canon_judgeMoves {κ : LaneId} {l : LaneSt} (h : Canon κ l) : Canon κ (LaneSt.judgeMoves l) := by
  unfold LaneSt.judgeMoves
  lift_lets
  intro x1
  have h1 : Canon κ x1 := by
    unfold x1
    split
    assumption
    refine canon_ite (fun _ => ?_) (fun _ => ?_)
    assumption
    apply canon_moveInputs
    assumption
  clear_value x1
  intro x2
  clear_value x2
  split
  assumption
  lift_lets
  intro x3
  have h3 : Canon κ x3 := by
    unfold x3
    apply canon_moveInputs
    assumption
  clear_value x3
  refine canon_ite (fun _ => ?_) (fun _ => ?_)
  assumption
  refine canon_mk ?_ rfl rfl rfl
  assumption

theorem canon_takeCorr {κ : LaneId} {l : LaneSt} (h : Canon κ l) (c : Nat) (h : Option Held) : Canon κ (LaneSt.takeCorr l c h) := by
  unfold LaneSt.takeCorr
  split
  assumption
  refine canon_ite (fun _ => ?_) (fun _ => ?_)
  assumption
  lift_lets
  intro x1
  clear_value x1
  intro x2
  have h2 : Canon κ x2 := by
    unfold x2
    refine canon_mk ?_ rfl rfl rfl
    assumption
  clear_value x2
  apply canon_wr
  apply canon_wrI
  assumption
  exact off_add (by decide)
  exact off_add (by decide)

theorem canon_deliver {κ : LaneId} {l : LaneSt} (h : Canon κ l) (h : Held) (c : Nat) (code : Nat) (clip : Bool) : Canon κ (LaneSt.deliver l h c code clip) := by
  unfold LaneSt.deliver
  lift_lets
  intro x1
  clear_value x1
  intro x2
  have h2 : Canon κ x2 := by
    unfold x2
    apply canon_wr
    apply canon_wrI
    assumption
    exact off_add (by decide)
    exact off_add (by decide)
  clear_value x2
  intro x3
  have h3 : Canon κ x3 := by
    unfold x3
    apply canon_wrB
    apply canon_wr
    apply canon_wrB
    assumption
    exact off_add (by decide)
    exact off_add (by decide)
    exact off_add (by decide)
  clear_value x3
  apply canon_consumers
  apply canon_mailAin
  apply canon_wr
  assumption
  exact off_add (by decide)

theorem canon_convert {κ : LaneId} {l : LaneSt} (h : Canon κ l) (i : Nat) (raw : Nat) (flip : BitVec 72) : Canon κ (LaneSt.convert l i raw flip) := by
  unfold LaneSt.convert
  lift_lets
  intro x1
  clear_value x1
  intro x2
  clear_value x2
  intro x3
  clear_value x3
  split
  assumption
  lift_lets
  intro x4
  have h4 : Canon κ x4 := by
    unfold x4
    apply canon_setHeld
    assumption
  clear_value x4
  intro x5
  have h5 : Canon κ x5.1 := by
    unfold x5
    apply canon_cross
    assumption
  clear_value x5
  intro x6
  have h6 : Canon κ x6 := by
    unfold x6
    refine canon_ite (fun _ => ?_) (fun _ => ?_)
    apply canon_deliver
    assumption
    assumption
  clear_value x6
  intro x7
  have h7 : Canon κ x7 := by
    unfold x7
    refine canon_ite (fun _ => ?_) (fun _ => ?_)
    apply canon_fault
    assumption
    assumption
  clear_value x7
  refine canon_ite (fun _ => ?_) (fun _ => ?_)
  assumption
  apply canon_judgeMoves
  apply canon_takeCorr
  assumption

theorem canon_retireCore {κ : LaneId} {l : LaneSt} (h : Canon κ l) (c : Nat) : Canon κ (LaneSt.retireCore l c) := by
  unfold LaneSt.retireCore
  lift_lets
  intro x1
  clear_value x1
  intro x2
  have h2 : Canon κ x2 := by
    unfold x2
    apply canon_setHeld
    apply canon_moveInputs
    assumption
  clear_value x2
  intro x3
  have h3 : Canon κ x3 := by
    unfold x3
    apply canon_wr
    assumption
    decide
  clear_value x3
  intro x4
  have h4 : Canon κ x4 := by
    unfold x4
    apply canon_wr
    apply canon_wr
    assumption
    exact off_add (by decide)
    exact off_add (by decide)
  clear_value x4
  intro x5
  have h5 : Canon κ x5 := by
    unfold x5
    apply canon_fault
    assumption
  clear_value x5
  refine canon_ite (fun _ => ?_) (fun _ => ?_)
  apply canon_fault
  assumption
  apply canon_spareUsed
  assumption

theorem canon_calibrate {κ : LaneId} {l : LaneSt} (h : Canon κ l) (c : Nat) (lo : Nat) (hi : Nat) : Canon κ (LaneSt.calibrate l c lo hi) := by
  unfold LaneSt.calibrate
  refine canon_ite (fun _ => ?_) (fun _ => ?_)
  assumption
  lift_lets
  intro x1
  have h1 : Canon κ x1 := by
    unfold x1
    apply canon_bgWork
    assumption
  clear_value x1
  intro x2
  clear_value x2
  intro x3
  clear_value x3
  intro x4
  have h4 : Canon κ x4 := by
    unfold x4
    refine canon_mk ?_ rfl rfl rfl
    assumption
  clear_value x4
  refine canon_ite (fun _ => ?_) (fun _ => ?_)
  apply canon_retireCore
  assumption
  refine canon_ite (fun _ => ?_) (fun _ => ?_)
  apply canon_takeCorr
  assumption
  assumption

theorem canon_firstCorrection {κ : LaneId} {l : LaneSt} (h : Canon κ l) : Canon κ (LaneSt.firstCorrection l) := by
  unfold LaneSt.firstCorrection
  refine canon_foldl ?_ (fun _ _ _ => ?_)
  assumption
  lift_lets
  intro x1
  have h1 : Canon κ x1.2 := by
    unfold x1
    apply canon_fresh
    assumption
  clear_value x1
  intro x2
  have h2 : Canon κ x2.2 := by
    unfold x2
    apply canon_fresh
    assumption
  clear_value x2
  apply canon_wr
  apply canon_wrI
  assumption
  exact off_add (by decide)
  exact off_add (by decide)

theorem canon_lateResults {κ : LaneId} {l : LaneSt} (h : Canon κ l) (t : Nat) : Canon κ (LaneSt.lateResults l t) := by
  unfold LaneSt.lateResults
  refine canon_foldl ?_ (fun _ _ _ => ?_)
  assumption
  refine canon_ite (fun _ => ?_) (fun _ => ?_)
  apply canon_fault
  apply canon_satInc
  assumption
  decide
  assumption

end Sys2Proof.Machine
end

