-- ==== Sys2Proof/Laws/CanonSession.lean ====
section
/-!
SUPPORT. Every operation of Machine/Session.lean keeps a lane sound.
-/

namespace Sys2Proof.Machine

open Sys2Proof LaneSt

theorem canon_wr512 {κ : LaneId} {l : LaneSt} (h : Canon κ l) (f : Nat → Field) (hf : ∀ z, 4096 ≤ (f z).off) (bs : List Byte) : Canon κ (LaneSt.wr512 l f bs) := by
  unfold LaneSt.wr512
  refine canon_foldl ?_ (fun _ _ _ => ?_)
  assumption
  apply canon_wr
  assumption
  apply_assumption

theorem canon_showLog {κ : LaneId} {l : LaneSt} (h : Canon κ l) : Canon κ (LaneSt.showLog l) := by
  unfold LaneSt.showLog
  apply canon_wrB
  apply canon_wr
  assumption
  decide
  decide

theorem canon_appendLog {κ : LaneId} {l : LaneSt} (h : Canon κ l) (kind : Nat) (arg : Nat) (tag : Nat) (oldFp : Nat) (newFp : Nat) (recovered : Bool) : Canon κ (LaneSt.appendLog l kind arg tag oldFp newFp recovered) := by
  unfold LaneSt.appendLog
  refine canon_ite (fun _ => ?_) (fun _ => ?_)
  apply canon_fault
  apply canon_inc
  assumption
  decide
  lift_lets
  intro x1
  clear_value x1
  intro x2
  clear_value x2
  intro x3
  clear_value x3
  intro x4
  have h4 : Canon κ x4 := by
    unfold x4
    refine canon_mk ?_ rfl rfl rfl
    assumption
  clear_value x4
  apply canon_showLog
  apply canon_wr512
  apply canon_inc
  assumption
  decide
  intro _
  exact off_add (by decide)

theorem canon_drawOnce {κ : LaneId} {l : LaneSt} (h : Canon κ l) : Canon κ (LaneSt.drawOnce l) := by
  unfold LaneSt.drawOnce
  lift_lets
  intro x1
  have h1 : Canon κ x1.2 := by
    unfold x1
    apply canon_fresh
    assumption
  clear_value x1
  intro x2
  have h2 : Canon κ x2.2 := by
    unfold x2
    apply canon_fresh
    assumption
  clear_value x2
  intro x3
  clear_value x3
  refine canon_foldl ?_ (fun _ _ _ => ?_)
  assumption
  apply canon_wr
  assumption
  exact off_add (by decide)

theorem canon_drawChallenge {κ : LaneId} {l : LaneSt} (h : Canon κ l) : Canon κ (LaneSt.drawChallenge l) := by
  unfold LaneSt.drawChallenge
  refine canon_foldl ?_ (fun _ _ _ => ?_)
  apply canon_drawOnce
  assumption
  refine canon_ite (fun _ => ?_) (fun _ => ?_)
  apply canon_drawOnce
  assumption
  assumption

theorem canon_sendSession {κ : LaneId} {l : LaneSt} (h : Canon κ l) : Canon κ (LaneSt.sendSession l) := by
  unfold LaneSt.sendSession
  lift_lets
  intro x1
  clear_value x1
  apply canon_send
  assumption

theorem canon_showSession {κ : LaneId} {l : LaneSt} (h : Canon κ l) : Canon κ (LaneSt.showSession l) := by
  unfold LaneSt.showSession
  apply canon_wr
  apply canon_wrB
  apply canon_wrB
  assumption
  decide
  decide
  decide

theorem canon_startLockout {κ : LaneId} {l : LaneSt} (h : Canon κ l) : Canon κ (LaneSt.startLockout l) := by
  unfold LaneSt.startLockout
  lift_lets
  intro x1
  clear_value x1
  intro x2
  clear_value x2
  refine canon_ite (fun _ => ?_) (fun _ => ?_)
  assumption
  apply canon_showSession
  refine canon_mk ?_ rfl rfl rfl
  assumption

theorem canon_wrongAttempt {κ : LaneId} {l : LaneSt} (h : Canon κ l) (tag : Nat) : Canon κ (LaneSt.wrongAttempt l tag) := by
  unfold LaneSt.wrongAttempt
  lift_lets
  intro x1
  clear_value x1
  intro x2
  have h2 : Canon κ x2 := by
    unfold x2
    apply canon_startLockout
    apply canon_drawChallenge
    apply canon_satInc
    apply canon_wr
    assumption
    decide
    decide
  clear_value x2
  intro x3
  have h3 : Canon κ x3 := by
    unfold x3
    refine canon_ite (fun _ => ?_) (fun _ => ?_)
    apply canon_appendLog
    assumption
    assumption
  clear_value x3
  apply canon_fault
  apply canon_sendSession
  assumption

theorem canon_openSession {κ : LaneId} {l : LaneSt} (h : Canon κ l) (h : Nat) : Canon κ (LaneSt.openSession l h) := by
  unfold LaneSt.openSession
  lift_lets
  intro x1
  clear_value x1
  intro x2
  have h2 : Canon κ x2 := by
    unfold x2
    refine canon_mk ?_ rfl rfl rfl
    assumption
  clear_value x2
  apply canon_sendSession
  apply canon_showSession
  apply canon_satInc
  apply canon_wr
  assumption
  decide
  decide

theorem canon_resetFails {κ : LaneId} {l : LaneSt} (h : Canon κ l) : Canon κ (LaneSt.resetFails l) :=
  canon_ite (fun _ => h) (fun _ => canon_sendSession (by apply canon_wr h; decide))

theorem canon_sessionLead {κ : LaneId} {l : LaneSt} (h : Canon κ l) (d : Decided) : Canon κ (LaneSt.sessionLead l d).1 := by
  unfold LaneSt.sessionLead
  split
  dsimp only
  apply canon_resetFails
  refine canon_mk ?_ rfl rfl rfl
  assumption
  dsimp only
  apply canon_openSession
  refine canon_mk ?_ rfl rfl rfl
  assumption
  dsimp only
  assumption
  dsimp only
  apply canon_wrongAttempt
  assumption

theorem canon_sessionMember {κ : LaneId} {l : LaneSt} (h : Canon κ l) (lead : Option (Option (Nat × Nat))) (d : Decided) : Canon κ (LaneSt.sessionMember l lead d).1 := by
  unfold LaneSt.sessionMember
  lift_lets
  intro x1
  clear_value x1
  split
  dsimp only
  assumption
  dsimp only
  have h1 (r : Option (Nat × Nat)) : Canon κ (if r.isNone then { l with sec := { l.sec with idleFrom := l.ns } } else l) :=
    canon_ite (fun _ => canon_mk h rfl rfl rfl) (fun _ => h)
  exact canon_ite (fun _ => h1 _) (fun _ => canon_fault (h1 _) _ _)

theorem canon_permittedSession {κ : LaneId} {l : LaneSt} (h : Canon κ l) (lead : Option (Option (Nat × Nat))) (d : Decided) (before : List (Option (Nat × Nat))) (after : List (Option (Nat × Nat))) (f : LaneSt → LaneSt) (hf : ∀ (z0 : LaneSt), Canon κ z0 → Canon κ (f z0)) : Canon κ (LaneSt.permittedSession l lead d before after f) := by
  unfold LaneSt.permittedSession
  split
  apply canon_deny
  assumption
  lift_lets
  intro x1
  have h1 : Canon κ x1.1 := by
    unfold x1
    split
    apply canon_sessionLead
    assumption
    apply canon_sessionMember
    assumption
  clear_value x1
  split
  apply canon_deny
  assumption
  apply canon_permitted
  assumption
  intro _
  intro _
  apply_assumption
  assumption

theorem canon_closeSession {κ : LaneId} {l : LaneSt} (h : Canon κ l) : Canon κ (LaneSt.closeSession l) := by
  unfold LaneSt.closeSession
  lift_lets
  intro x1
  clear_value x1
  intro x2
  have h2 : Canon κ x2 := by
    unfold x2
    refine canon_mk ?_ rfl rfl rfl
    assumption
  clear_value x2
  apply canon_sendSession
  apply canon_showSession
  apply canon_drawChallenge
  assumption

theorem canon_secSync {κ : LaneId} {l : LaneSt} (h : Canon κ l) (w : List Dword) : Canon κ (LaneSt.secSync l w) := by
  unfold LaneSt.secSync
  lift_lets
  intro x1
  clear_value x1
  intro x2
  clear_value x2
  intro x3
  clear_value x3
  intro x4
  clear_value x4
  intro x5
  have h5 : Canon κ x5 := by
    unfold x5
    refine canon_foldl ?_ (fun _ _ _ => ?_)
    assumption
    apply canon_wr
    assumption
    exact off_add (by decide)
  clear_value x5
  intro x6
  clear_value x6
  intro x7
  clear_value x7
  intro x8
  have h8 : Canon κ x8 := by
    unfold x8
    refine canon_mk ?_ rfl rfl rfl
    assumption
  clear_value x8
  intro x9
  have h9 : Canon κ x9 := by
    unfold x9
    apply canon_showSession
    apply canon_wr
    assumption
    decide
  clear_value x9
  refine canon_ite (fun _ => ?_) (fun _ => ?_)
  apply canon_appendLog
  assumption
  assumption

end Sys2Proof.Machine
end

