-- ==== Sys2Proof/Laws/CanonFbk.lean ====
section
/-!
SUPPORT. Every operation of Machine/Fbk.lean keeps a lane sound.
-/

namespace Sys2Proof.Machine

open Sys2Proof LaneSt

theorem canon_setPort {κ : LaneId} {l : LaneSt} (h : Canon κ l) (p : Nat) (f : FbkPort → FbkPort) : Canon κ (LaneSt.setPort l p f) := by
  unfold LaneSt.setPort
  refine canon_mk ?_ rfl rfl rfl
  assumption

theorem canon_judgeAbs {κ : LaneId} {l : LaneSt} (h : Canon κ l) (p : Nat) : Canon κ (LaneSt.judgeAbs l p) := by
  unfold LaneSt.judgeAbs
  apply canon_wrB
  assumption
  exact off_add (by decide)

theorem canon_setAng {κ : LaneId} {l : LaneSt} (h : Canon κ l) (n : Nat) (f : AngSt → AngSt) : Canon κ (LaneSt.setAng l n f) := by
  unfold LaneSt.setAng
  refine canon_mk ?_ rfl rfl rfl
  assumption

theorem canon_sourceBad {κ : LaneId} {l : LaneSt} (h : Canon κ l) (p : Nat) : Canon κ (LaneSt.sourceBad l p) := by
  unfold LaneSt.sourceBad
  refine canon_foldl ?_ (fun _ _ _ => ?_)
  assumption
  lift_lets
  intro x1
  clear_value x1
  apply canon_setAng
  assumption

theorem canon_setPos {κ : LaneId} {l : LaneSt} (h : Canon κ l) (p : Nat) : Canon κ (LaneSt.setPos l p) := by
  unfold LaneSt.setPos
  refine canon_ite (fun _ => ?_) (fun _ => ?_)
  assumption
  apply canon_mailPort
  apply canon_wrI
  assumption
  exact off_add (by decide)

theorem canon_setOffset {κ : LaneId} {l : LaneSt} (h : Canon κ l) (p : Nat) (v : Int) : Canon κ (LaneSt.setOffset l p v) := by
  unfold LaneSt.setOffset
  apply canon_setPos
  apply canon_wrI
  apply canon_setPort
  assumption
  exact off_add (by decide)

theorem canon_setVel {κ : LaneId} {l : LaneSt} (h : Canon κ l) (p : Nat) : Canon κ (LaneSt.setVel l p) := by
  unfold LaneSt.setVel
  refine canon_ite (fun _ => ?_) (fun _ => ?_)
  assumption
  apply canon_wrI
  assumption
  exact off_add (by decide)

theorem canon_stampChange {κ : LaneId} {l : LaneSt} (h : Canon κ l) (p : Nat) : Canon κ (LaneSt.stampChange l p) := by
  unfold LaneSt.stampChange
  lift_lets
  intro x1
  clear_value x1
  intro x2
  have h2 : Canon κ x2 := by
    unfold x2
    apply canon_setPort
    assumption
  clear_value x2
  apply canon_setVel
  assumption

theorem canon_ptJudge {κ : LaneId} {l : LaneSt} (h : Canon κ l) (k : Nat) : Canon κ (LaneSt.ptJudge l k) := by
  unfold LaneSt.ptJudge
  refine canon_ite (fun _ => ?_) (fun _ => ?_)
  assumption
  lift_lets
  intro x1
  clear_value x1
  intro x2
  clear_value x2
  intro x3
  clear_value x3
  intro x4
  clear_value x4
  intro x5
  clear_value x5
  intro x6
  have h6 : Canon κ x6 := by
    unfold x6
    apply canon_wrB
    apply canon_wrI
    assumption
    exact off_add (by decide)
    exact off_add (by decide)
  clear_value x6
  intro x7
  have h7 : Canon κ x7 := by
    unfold x7
    refine canon_ite (fun _ => ?_) (fun _ => ?_)
    apply canon_fault
    assumption
    assumption
  clear_value x7
  refine canon_ite (fun _ => ?_) (fun _ => ?_)
  apply canon_fault
  apply canon_wr
  assumption
  exact off_add (by decide)
  assumption

theorem canon_ptFollow {κ : LaneId} {l : LaneSt} (h : Canon κ l) (p : Nat) : Canon κ (LaneSt.ptFollow l p) := by
  unfold LaneSt.ptFollow
  refine canon_foldl ?_ (fun _ _ _ => ?_)
  assumption
  refine canon_ite (fun _ => ?_) (fun _ => ?_)
  apply canon_ptJudge
  assumption
  assumption

theorem canon_ptHold {κ : LaneId} {l : LaneSt} (h : Canon κ l) (p : Nat) : Canon κ (LaneSt.ptHold l p) := by
  unfold LaneSt.ptHold
  refine canon_foldl ?_ (fun _ _ _ => ?_)
  assumption
  refine canon_ite (fun _ => ?_) (fun _ => ?_)
  assumption
  apply canon_wr
  refine canon_mk ?_ rfl rfl rfl
  assumption
  exact off_add (by decide)

theorem canon_ptRestart {κ : LaneId} {l : LaneSt} (h : Canon κ l) (p : Nat) : Canon κ (LaneSt.ptRestart l p) := by
  unfold LaneSt.ptRestart
  refine canon_foldl ?_ (fun _ _ _ => ?_)
  assumption
  refine canon_ite (fun _ => ?_) (fun _ => ?_)
  assumption
  apply canon_ptJudge
  apply canon_wr
  refine canon_mk ?_ rfl rfl rfl
  assumption
  exact off_add (by decide)

theorem canon_ptEmit {κ : LaneId} {l : LaneSt} (h : Canon κ l) (k : Nat) : Canon κ (LaneSt.ptEmit l k) := by
  unfold LaneSt.ptEmit
  lift_lets
  intro x1
  clear_value x1
  intro x2
  clear_value x2
  intro x3
  clear_value x3
  intro x4
  clear_value x4
  refine canon_ite (fun _ => ?_) (fun _ => ?_)
  assumption
  apply canon_ptJudge
  refine canon_mk ?_ rfl rfl rfl
  assumption

theorem canon_setPortState {κ : LaneId} {l : LaneSt} (h : Canon κ l) (p : Nat) (st : Nat) : Canon κ (LaneSt.setPortState l p st) := by
  unfold LaneSt.setPortState
  lift_lets
  intro x1
  have h1 : Canon κ x1 := by
    unfold x1
    apply canon_judgeAbs
    apply canon_wr
    assumption
    exact off_add (by decide)
  clear_value x1
  intro x2
  have h2 : Canon κ x2 := by
    unfold x2
    refine canon_ite (fun _ => ?_) (fun _ => ?_)
    apply canon_ptRestart
    assumption
    assumption
  clear_value x2
  refine canon_ite (fun _ => ?_) (fun _ => ?_)
  apply canon_sourceBad
  assumption
  assumption

theorem canon_indexAgain {κ : LaneId} {l : LaneSt} (h : Canon κ l) (p : Nat) : Canon κ (LaneSt.indexAgain l p) := by
  unfold LaneSt.indexAgain
  split
  assumption
  refine canon_ite (fun _ => ?_) (fun _ => ?_)
  assumption
  lift_lets
  intro x1
  have h1 : Canon κ x1 := by
    unfold x1
    apply canon_wrI
    assumption
    exact off_add (by decide)
  clear_value x1
  refine canon_ite (fun _ => ?_) (fun _ => ?_)
  apply canon_wr
  assumption
  exact off_add (by decide)
  assumption

theorem canon_applyCounts {κ : LaneId} {l : LaneSt} (h : Canon κ l) (p : Nat) (d : Int) : Canon κ (LaneSt.applyCounts l p d) := by
  unfold LaneSt.applyCounts
  lift_lets
  intro x1
  have h1 : Canon κ x1 := by
    unfold x1
    apply canon_wrI
    assumption
    exact off_add (by decide)
  clear_value x1
  intro x2
  have h2 : Canon κ x2 := by
    unfold x2
    apply canon_wr
    assumption
    exact off_add (by decide)
  clear_value x2
  apply canon_ptFollow
  apply canon_stampChange
  apply canon_indexAgain
  apply canon_setPos
  assumption

theorem canon_decodedStep {κ : LaneId} {l : LaneSt} (h : Canon κ l) (p : Nat) (d : Int) : Canon κ (LaneSt.decodedStep l p d) := by
  unfold LaneSt.decodedStep
  lift_lets
  intro x1
  have h1 : Canon κ x1 := by
    unfold x1
    apply canon_wrI
    assumption
    exact off_add (by decide)
  clear_value x1
  intro x2
  have h2 : Canon κ x2 := by
    unfold x2
    refine canon_ite (fun _ => ?_) (fun _ => ?_)
    assumption
    apply canon_setPort
    apply canon_wrB
    assumption
    exact off_add (by decide)
  clear_value x2
  apply canon_applyCounts
  assumption

theorem canon_dblLog {κ : LaneId} {l : LaneSt} (h : Canon κ l) (p : Nat) (kind : Nat) : Canon κ (LaneSt.dblLog l p kind) := by
  unfold LaneSt.dblLog
  lift_lets
  intro x1
  have h1 : Canon κ x1 := by
    unfold x1
    refine canon_foldl ?_ (fun _ _ _ => ?_)
    assumption
    apply canon_wr
    apply canon_wr
    apply canon_wr
    apply canon_wr
    apply canon_wr
    assumption
    exact off_add (off_add (by decide))
    exact off_add (off_add (by decide))
    exact off_add (off_add (by decide))
    exact off_add (off_add (by decide))
    exact off_add (off_add (by decide))
  clear_value x1
  intro x2
  have h2 : Canon κ x2 := by
    unfold x2
    apply canon_wr
    apply canon_wrB
    apply canon_wr
    assumption
    exact off_add (off_add (by decide))
    exact off_add (off_add (by decide))
    exact off_add (off_add (by decide))
  clear_value x2
  apply canon_wr
  apply canon_wr
  assumption
  exact off_add (off_add (by decide))
  exact off_add (off_add (by decide))

theorem canon_loseStep {κ : LaneId} {l : LaneSt} (h : Canon κ l) (p : Nat) : Canon κ (LaneSt.loseStep l p) := by
  unfold LaneSt.loseStep
  lift_lets
  intro x1
  have h1 : Canon κ x1 := by
    unfold x1
    apply canon_inc
    apply canon_dblLog
    assumption
    exact off_add (by decide)
  clear_value x1
  apply canon_fault
  refine canon_ite (fun _ => ?_) (fun _ => ?_)
  apply canon_sourceBad
  assumption
  apply canon_setPortState
  apply canon_wr
  assumption
  exact off_add (by decide)

theorem canon_inferSteps {κ : LaneId} {l : LaneSt} (h : Canon κ l) (p : Nat) : Canon κ (LaneSt.inferSteps l p) := by
  unfold LaneSt.inferSteps
  lift_lets
  intro x1
  clear_value x1
  intro x2
  clear_value x2
  intro x3
  have h3 : Canon κ x3 := by
    unfold x3
    apply canon_wr
    apply canon_dblLog
    assumption
    exact off_add (by decide)
  clear_value x3
  intro x4
  have h4 : Canon κ x4 := by
    unfold x4
    apply canon_wrI
    assumption
    exact off_add (by decide)
  clear_value x4
  apply canon_fault
  apply canon_applyCounts
  assumption

theorem canon_gapRule {κ : LaneId} {l : LaneSt} (h : Canon κ l) (p : Nat) : Canon κ (LaneSt.gapRule l p) := by
  unfold LaneSt.gapRule
  split
  refine canon_ite (fun _ => ?_) (fun _ => ?_)
  apply canon_inferSteps
  assumption
  apply canon_loseStep
  assumption
  apply canon_loseStep
  assumption

theorem canon_ledgerStart {κ : LaneId} {l : LaneSt} (h : Canon κ l) (p : Nat) : Canon κ (LaneSt.ledgerStart l p) := by
  unfold LaneSt.ledgerStart
  lift_lets
  intro x1
  have h1 : Canon κ x1 := by
    unfold x1
    apply canon_wrI
    assumption
    exact off_add (by decide)
  clear_value x1
  intro x2
  have h2 : Canon κ x2 := by
    unfold x2
    apply canon_wr
    apply canon_wr
    assumption
    exact off_add (by decide)
    exact off_add (by decide)
  clear_value x2
  apply canon_setPort
  assumption

theorem canon_portStart {κ : LaneId} {l : LaneSt} (h : Canon κ l) (p : Nat) (keepOffset : Bool) : Canon κ (LaneSt.portStart l p keepOffset) := by
  unfold LaneSt.portStart
  refine canon_ite (fun _ => ?_) (fun _ => ?_)
  apply canon_setPortState
  assumption
  lift_lets
  intro x1
  have h1 : Canon κ x1 := by
    unfold x1
    apply canon_wr
    apply canon_wr
    assumption
    exact off_add (by decide)
    exact off_add (by decide)
  clear_value x1
  intro x2
  have h2 : Canon κ x2 := by
    unfold x2
    refine canon_ite (fun _ => ?_) (fun _ => ?_)
    assumption
    apply canon_wr
    assumption
    exact off_add (by decide)
  clear_value x2
  intro x3
  have h3 : Canon κ x3 := by
    unfold x3
    apply canon_wr
    apply canon_wr
    apply canon_setPos
    assumption
    exact off_add (by decide)
    exact off_add (by decide)
  clear_value x3
  intro x4
  have h4 : Canon κ x4 := by
    unfold x4
    apply canon_wr
    apply canon_wr
    apply canon_wr
    assumption
    exact off_add (by decide)
    exact off_add (by decide)
    exact off_add (by decide)
  clear_value x4
  apply canon_setPortState
  apply canon_ledgerStart
  assumption

theorem canon_bypass {κ : LaneId} {l : LaneSt} (h : Canon κ l) (p : Nat) : Canon κ (LaneSt.bypass l p) := by
  unfold LaneSt.bypass
  refine canon_ite (fun _ => ?_) (fun _ => ?_)
  assumption
  apply canon_setPortState
  apply canon_ptHold
  assumption

theorem canon_bypassEnd {κ : LaneId} {l : LaneSt} (h : Canon κ l) (p : Nat) : Canon κ (LaneSt.bypassEnd l p) := by
  unfold LaneSt.bypassEnd
  refine canon_ite (fun _ => ?_) (fun _ => ?_)
  assumption
  lift_lets
  intro x1
  have h1 : Canon κ x1 := by
    unfold x1
    apply canon_ledgerStart
    apply canon_wr
    apply canon_wr
    assumption
    exact off_add (by decide)
    exact off_add (by decide)
  clear_value x1
  apply canon_setPos
  apply canon_setPortState
  assumption

theorem canon_line {κ : LaneId} {l : LaneSt} (h : Canon κ l) (p : Nat) (i : Nat) (b : Bool) (held : Nat) : Canon κ (LaneSt.line l p i b held) := by
  unfold LaneSt.line
  lift_lets
  intro x1
  clear_value x1
  intro x2
  have h2 : Canon κ x2 := by
    unfold x2
    apply canon_setPort
    assumption
  clear_value x2
  apply canon_wr
  assumption
  exact off_add (by decide)

theorem canon_judgeDecoders {κ : LaneId} {l : LaneSt} (h : Canon κ l) (p : Nat) (mismatch : Bool) : Canon κ (LaneSt.judgeDecoders l p mismatch) := by
  unfold LaneSt.judgeDecoders
  refine canon_ite (fun _ => ?_) (fun _ => ?_)
  apply canon_fault
  apply canon_bypass
  assumption
  assumption

theorem canon_quadStep {κ : LaneId} {l : LaneSt} (h : Canon κ l) (p : Nat) (a0 : Bool) (b0 : Bool) : Canon κ (LaneSt.quadStep l p a0 b0) := by
  unfold LaneSt.quadStep
  lift_lets
  intro x1
  clear_value x1
  intro x2
  clear_value x2
  intro x3
  refine canon_ite (fun _ => ?_) (fun _ => ?_)
  assumption
  refine canon_ite (fun _ => ?_) (fun _ => ?_)
  apply canon_gapRule
  apply canon_satInc
  assumption
  exact off_add (by decide)
  apply canon_decodedStep
  assumption

theorem canon_quadLines {κ : LaneId} {l : LaneSt} (h : Canon κ l) (p : Nat) (a : Bool) (b : Bool) (held : Nat) (mismatch : Bool) : Canon κ (LaneSt.quadLines l p a b held mismatch) := by
  unfold LaneSt.quadLines
  refine canon_ite (fun _ => ?_) (fun _ => ?_)
  assumption
  apply canon_judgeDecoders
  apply canon_quadStep
  apply canon_line
  apply canon_line
  assumption

theorem canon_quad {κ : LaneId} {l : LaneSt} (h : Canon κ l) (p : Nat) (a : Bool) (b : Bool) (held : Nat) (mismatch : Bool) : Canon κ (LaneSt.quad l p a b held mismatch) := by
  unfold LaneSt.quad
  refine canon_ite (fun _ => ?_) (fun _ => ?_)
  assumption
  apply canon_quadLines
  assumption

theorem canon_double {κ : LaneId} {l : LaneSt} (h : Canon κ l) (p held : Nat) (mismatch : Bool) : Canon κ (LaneSt.double l p held mismatch) := by
  unfold LaneSt.double
  apply canon_quadLines
  assumption

theorem canon_searchEnds {κ : LaneId} {l : LaneSt} (h : Canon κ l) (p : Nat) : Canon κ (LaneSt.searchEnds l p) := by
  unfold LaneSt.searchEnds
  refine canon_foldl ?_ (fun _ _ _ => ?_)
  assumption
  refine canon_ite (fun _ => ?_) (fun _ => ?_)
  apply canon_setAng
  assumption
  assumption

theorem canon_handEdge {κ : LaneId} {l : LaneSt} (h : Canon κ l) (src : Nat) (p : Nat) (rising : Bool) : Canon κ (LaneSt.handEdge l src p rising) := by
  unfold LaneSt.handEdge
  refine canon_mk ?_ rfl rfl rfl
  assumption

theorem canon_indexEdge {κ : LaneId} {l : LaneSt} (h : Canon κ l) (p : Nat) : Canon κ (LaneSt.indexEdge l p) := by
  unfold LaneSt.indexEdge
  lift_lets
  intro x1
  have h1 : Canon κ x1 := by
    unfold x1
    apply canon_wrI
    apply canon_handEdge
    assumption
    exact off_add (by decide)
  clear_value x1
  intro x2
  have h2 : ∀ (a0 : _) (a1 : LaneSt), Canon κ a1 → Canon κ (x2 a0 a1) := by
    unfold x2
    intro _
    intro _
    intro _
    apply canon_setPort
    assumption
  clear_value x2
  intro x3
  clear_value x3
  intro x4
  have h4 : Canon κ x4 := by
    unfold x4
    apply_assumption
    apply canon_wr
    apply canon_wr
    assumption
    exact off_add (by decide)
    exact off_add (by decide)
  clear_value x4
  intro x5
  clear_value x5
  intro x6
  have h6 : Canon κ x6 := by
    unfold x6
    apply_assumption
    assumption
  clear_value x6
  refine canon_ite (fun _ => ?_) (fun _ => ?_)
  refine canon_ite (fun _ => ?_) (fun _ => ?_)
  apply canon_searchEnds
  apply canon_setPortState
  assumption
  assumption
  refine canon_ite (fun _ => ?_) (fun _ => ?_)
  refine canon_ite (fun _ => ?_) (fun _ => ?_)
  apply canon_setPortState
  apply canon_wr
  assumption
  exact off_add (by decide)
  assumption
  apply canon_fault
  apply canon_setPortState
  apply_assumption
  assumption

theorem canon_index {κ : LaneId} {l : LaneSt} (h : Canon κ l) (p : Nat) (z : Bool) (held : Nat) : Canon κ (LaneSt.index l p z held) := by
  unfold LaneSt.index
  refine canon_ite (fun _ => ?_) (fun _ => ?_)
  assumption
  lift_lets
  intro x1
  clear_value x1
  intro x2
  have h2 : Canon κ x2 := by
    unfold x2
    apply canon_line
    assumption
  clear_value x2
  refine canon_ite (fun _ => ?_) (fun _ => ?_)
  assumption
  apply canon_indexEdge
  assumption

theorem canon_seed {κ : LaneId} {l : LaneSt} (h : Canon κ l) (p : Nat) (v : Nat) : Canon κ (LaneSt.seed l p v) := by
  unfold LaneSt.seed
  lift_lets
  intro x1
  have h1 : Canon κ x1 := by
    unfold x1
    apply canon_wr
    apply canon_wr
    apply canon_wr
    assumption
    exact off_add (by decide)
    exact off_add (by decide)
    exact off_add (by decide)
  clear_value x1
  intro x2
  have h2 : Canon κ x2 := by
    unfold x2
    apply canon_setPort
    apply canon_setPos
    assumption
  clear_value x2
  intro x3
  have h3 : Canon κ x3 := by
    unfold x3
    refine canon_ite (fun _ => ?_) (fun _ => ?_)
    apply canon_setPortState
    assumption
    assumption
  clear_value x3
  apply canon_ptFollow
  apply canon_stampChange
  assumption

theorem canon_hallStep {κ : LaneId} {l : LaneSt} (h : Canon κ l) (p : Nat) (h : Nat) : Canon κ (LaneSt.hallStep l p h) := by
  unfold LaneSt.hallStep
  split
  apply canon_fault
  apply canon_satInc
  assumption
  exact off_add (by decide)
  split
  apply canon_seed
  apply canon_setPort
  assumption
  lift_lets
  intro x1
  clear_value x1
  intro x2
  have h2 : Canon κ x2 := by
    unfold x2
    apply canon_setPort
    assumption
  clear_value x2
  refine canon_ite (fun _ => ?_) (fun _ => ?_)
  assumption
  refine canon_ite (fun _ => ?_) (fun _ => ?_)
  apply canon_decodedStep
  assumption
  refine canon_ite (fun _ => ?_) (fun _ => ?_)
  apply canon_loseStep
  assumption
  refine canon_ite (fun _ => ?_) (fun _ => ?_)
  apply canon_gapRule
  assumption
  apply canon_loseStep
  assumption

theorem canon_hall {κ : LaneId} {l : LaneSt} (h : Canon κ l) (p : Nat) (h : Nat) (held : Nat) (mismatch : Bool) : Canon κ (LaneSt.hall l p h held mismatch) := by
  unfold LaneSt.hall
  refine canon_ite (fun _ => ?_) (fun _ => ?_)
  assumption
  lift_lets
  intro x1
  clear_value x1
  intro x2
  have h2 : Canon κ x2 := by
    unfold x2
    refine canon_foldl ?_ (fun _ _ _ => ?_)
    assumption
    apply canon_line
    assumption
  clear_value x2
  intro x3
  clear_value x3
  refine canon_ite (fun _ => ?_) (fun _ => ?_)
  assumption
  apply canon_judgeDecoders
  apply canon_hallStep
  assumption

theorem canon_frameError {κ : LaneId} {l : LaneSt} (h : Canon κ l) (p : Nat) : Canon κ (LaneSt.frameError l p) := by
  unfold LaneSt.frameError
  apply canon_fault
  apply canon_satInc
  assumption
  exact off_add (by decide)

theorem canon_frameValue {κ : LaneId} {l : LaneSt} (h : Canon κ l) (p : Nat) (v : Nat) : Canon κ (LaneSt.frameValue l p v) := by
  unfold LaneSt.frameValue
  lift_lets
  intro x1
  have h1 : Canon κ x1 := by
    unfold x1
    apply canon_judgeAbs
    apply canon_wr
    assumption
    exact off_add (by decide)
  clear_value x1
  intro x2
  clear_value x2
  intro x3
  clear_value x3
  intro x4
  have h4 : Canon κ x4 := by
    unfold x4
    refine canon_ite (fun _ => ?_) (fun _ => ?_)
    apply canon_dblLog
    assumption
    assumption
  clear_value x4
  intro x5
  have h5 : Canon κ x5 := by
    unfold x5
    apply canon_wr
    apply canon_decodedStep
    assumption
    exact off_add (by decide)
  clear_value x5
  refine canon_ite (fun _ => ?_) (fun _ => ?_)
  apply canon_seed
  apply canon_setPort
  assumption
  refine canon_ite (fun _ => ?_) (fun _ => ?_)
  apply canon_fault
  apply canon_setPortState
  apply canon_inc
  assumption
  exact off_add (by decide)
  assumption

theorem canon_ssiTrigger {κ : LaneId} {l : LaneSt} (h : Canon κ l) (p : Nat) : Canon κ (LaneSt.ssiTrigger l p) := by
  unfold LaneSt.ssiTrigger
  lift_lets
  intro x1
  clear_value x1
  refine canon_ite (fun _ => ?_) (fun _ => ?_)
  assumption
  apply canon_setPort
  assumption

theorem canon_ssiFrame {κ : LaneId} {l : LaneSt} (h : Canon κ l) (p : Nat) (runs : List (Bool × Nat)) (mismatch : Bool) : Canon κ (LaneSt.ssiFrame l p runs mismatch) := by
  unfold LaneSt.ssiFrame
  refine canon_ite (fun _ => ?_) (fun _ => ?_)
  assumption
  lift_lets
  intro x1
  clear_value x1
  intro x2
  have h2 : Canon κ x2 := by
    unfold x2
    apply canon_setPort
    assumption
  clear_value x2
  intro x3
  have h3 : Canon κ x3 := by
    unfold x3
    refine canon_foldl ?_ (fun _ _ _ => ?_)
    assumption
    apply canon_line
    assumption
  clear_value x3
  split
  apply canon_frameError
  assumption
  apply canon_judgeDecoders
  apply canon_frameValue
  assumption

theorem canon_sentSlow {κ : LaneId} {l : LaneSt} (h : Canon κ l) (p : Nat) (nib : Nat) : Canon κ (LaneSt.sentSlow l p nib) := by
  unfold LaneSt.sentSlow
  lift_lets
  intro x1
  have h1 : Canon κ x1 := by
    unfold x1
    apply canon_setPort
    assumption
  clear_value x1
  split
  assumption
  lift_lets
  intro x2
  have h2 : Canon κ x2 := by
    unfold x2
    apply canon_wrB
    apply canon_wr
    apply canon_wr
    assumption
    exact off_add (by decide)
    exact off_add (by decide)
    exact off_add (by decide)
  clear_value x2
  apply canon_wr
  apply canon_inc
  assumption
  exact off_add (by decide)
  exact off_add (by decide)

theorem canon_sentFrame {κ : LaneId} {l : LaneSt} (h : Canon κ l) (p : Nat) (pulses : List Nat) (level : Bool) (mismatch : Bool) : Canon κ (LaneSt.sentFrame l p pulses level mismatch) := by
  unfold LaneSt.sentFrame
  refine canon_ite (fun _ => ?_) (fun _ => ?_)
  assumption
  lift_lets
  intro x1
  clear_value x1
  intro x2
  have h2 : Canon κ x2 := by
    unfold x2
    apply canon_setPort
    apply canon_line
    assumption
  clear_value x2
  split
  apply canon_frameError
  assumption
  lift_lets
  intro x3
  have h3 : Canon κ x3 := by
    unfold x3
    apply canon_sentSlow
    assumption
  clear_value x3
  apply canon_judgeDecoders
  apply canon_frameValue
  assumption

theorem canon_stale {κ : LaneId} {l : LaneSt} (h : Canon κ l) (p : Nat) : Canon κ (LaneSt.stale l p) := by
  unfold LaneSt.stale
  lift_lets
  intro x1
  clear_value x1
  refine canon_ite (fun _ => ?_) (fun _ => ?_)
  assumption
  apply canon_fault
  apply canon_sourceBad
  apply canon_judgeAbs
  apply canon_wr
  assumption
  exact off_add (by decide)

theorem canon_velTimeout {κ : LaneId} {l : LaneSt} (h : Canon κ l) (p : Nat) : Canon κ (LaneSt.velTimeout l p) := by
  unfold LaneSt.velTimeout
  refine canon_ite (fun _ => ?_) (fun _ => ?_)
  assumption
  apply canon_wr
  assumption
  exact off_add (by decide)

theorem canon_probeLatch {κ : LaneId} {l : LaneSt} (h : Canon κ l) (k : Nat) (rising : Bool) : Canon κ (LaneSt.probeLatch l k rising) := by
  unfold LaneSt.probeLatch
  lift_lets
  intro x1
  clear_value x1
  intro x2
  clear_value x2
  intro x3
  have h3 : Canon κ x3 := by
    unfold x3
    apply canon_inc
    apply canon_wrI
    assumption
    exact off_add (by decide)
    exact off_add (by decide)
  clear_value x3
  intro x4
  have h4 : Canon κ x4 := by
    unfold x4
    refine canon_ite (fun _ => ?_) (fun _ => ?_)
    assumption
    apply canon_wrB
    apply canon_wr
    apply canon_wr
    assumption
    exact off_add (by decide)
    exact off_add (by decide)
    exact off_add (by decide)
  clear_value x4
  apply canon_handEdge
  refine canon_foldl ?_ (fun _ _ _ => ?_)
  assumption
  refine canon_ite (fun _ => ?_) (fun _ => ?_)
  apply canon_wrI
  assumption
  exact off_add (by decide)
  assumption

theorem canon_probeEdge {κ : LaneId} {l : LaneSt} (h : Canon κ l) (k : Nat) (rising : Bool) (held : Nat) : Canon κ (LaneSt.probeEdge l k rising held) := by
  unfold LaneSt.probeEdge
  lift_lets
  intro x1
  clear_value x1
  intro x2
  clear_value x2
  intro x3
  clear_value x3
  intro x4
  clear_value x4
  intro x5
  have h5 : Canon κ x5 := by
    unfold x5
    refine canon_mk ?_ rfl rfl rfl
    assumption
  clear_value x5
  refine canon_ite (fun _ => ?_) (fun _ => ?_)
  assumption
  apply canon_probeLatch
  assumption

end Sys2Proof.Machine
end

