-- ==== Sys2Proof/Laws/CanonProf.lean ====
section
/-!
SUPPORT. Every operation of Machine/Prof.lean keeps a lane sound.
-/

namespace Sys2Proof.Machine

open Sys2Proof LaneSt

theorem canon_setPg {κ : LaneId} {l : LaneSt} (h : Canon κ l) (g : Nat) (f : PgSt → PgSt) : Canon κ (LaneSt.setPg l g f) := by
  unfold LaneSt.setPg
  refine canon_mk ?_ rfl rfl rfl
  assumption

theorem canon_dropHold {κ : LaneId} {l : LaneSt} (h : Canon κ l) (g : Nat) : Canon κ (LaneSt.dropHold l g) := by
  unfold LaneSt.dropHold
  lift_lets
  intro x1
  have h1 : Canon κ x1 := by
    unfold x1
    apply canon_setPg
    assumption
  clear_value x1
  intro x2
  clear_value x2
  refine canon_ite (fun _ => ?_) (fun _ => ?_)
  refine canon_ite (fun _ => ?_) (fun _ => ?_)
  apply canon_raise
  apply canon_wr
  assumption
  exact off_add (by decide)
  assumption
  assumption

theorem canon_showPlanEnd {κ : LaneId} {l : LaneSt} (h : Canon κ l) (g : Nat) : Canon κ (LaneSt.showPlanEnd l g) := by
  unfold LaneSt.showPlanEnd
  split
  assumption
  apply canon_wr
  assumption
  exact off_add (by decide)

theorem canon_setPlan {κ : LaneId} {l : LaneSt} (h : Canon κ l) (g : Nat) (segs : List Seg) (shape : Nat) (target : Int) (stop : Bool) : Canon κ (LaneSt.setPlan l g segs shape target stop) := by
  unfold LaneSt.setPlan
  lift_lets
  intro x1
  clear_value x1
  intro x2
  have h2 : Canon κ x2 := by
    unfold x2
    apply canon_setPg
    apply canon_dropHold
    assumption
  clear_value x2
  intro x3
  have h3 : Canon κ x3 := by
    unfold x3
    apply canon_wr
    apply canon_wrI
    assumption
    exact off_add (by decide)
    exact off_add (by decide)
  clear_value x3
  apply canon_satInc
  apply canon_showPlanEnd
  assumption
  exact off_add (by decide)

theorem canon_replan {κ : LaneId} {l : LaneSt} (h : Canon κ l) (g : Nat) (t : Nat) (kind : Nat) (x : Int) (stop : Bool) (redStop : Bool) : Canon κ (LaneSt.replan l g t kind x stop redStop).1 := by
  unfold LaneSt.replan
  lift_lets
  intro x1
  clear_value x1
  intro x2
  clear_value x2
  intro x3
  clear_value x3
  intro x4
  clear_value x4
  intro x5
  clear_value x5
  intro x6
  clear_value x6
  intro x7
  clear_value x7
  intro x8
  clear_value x8
  intro x9
  have h9 : Canon κ x9 := by
    unfold x9
    apply canon_setPg
    apply canon_setPlan
    assumption
  clear_value x9
  intro x10
  clear_value x10
  intro x11
  clear_value x11
  split
  dsimp only
  assumption
  dsimp only
  apply canon_setPlan
  assumption

theorem canon_replanRest {κ : LaneId} {l : LaneSt} (h : Canon κ l) (g : Nat) (t : Nat) : Canon κ (LaneSt.replanRest l g t) := by
  unfold LaneSt.replanRest
  lift_lets
  intro x1
  clear_value x1
  intro x2
  clear_value x2
  apply canon_setPg
  apply canon_setPlan
  assumption

theorem canon_stopGen {κ : LaneId} {l : LaneSt} (h : Canon κ l) (g : Nat) (t : Nat) (force : Int) : Canon κ (LaneSt.stopGen l g t force) := by
  unfold LaneSt.stopGen
  lift_lets
  intro x1
  have h1 : Canon κ x1 := by
    unfold x1
    refine canon_ite (fun _ => ?_) (fun _ => ?_)
    apply canon_replanRest
    assumption
    refine canon_ite (fun _ => ?_) (fun _ => ?_)
    apply canon_setPg
    apply canon_replan
    assumption
    assumption
  clear_value x1
  refine canon_ite (fun _ => ?_) (fun _ => ?_)
  assumption
  apply canon_wr
  apply canon_setPg
  assumption
  exact off_add (by decide)

theorem canon_discardQueue {κ : LaneId} {l : LaneSt} (h : Canon κ l) (g : Nat) : Canon κ (LaneSt.discardQueue l g) := by
  unfold LaneSt.discardQueue
  lift_lets
  intro x1
  clear_value x1
  intro x2
  have h2 : Canon κ x2 := by
    unfold x2
    refine canon_foldl ?_ (fun _ _ _ => ?_)
    assumption
    apply canon_satInc
    assumption
    exact off_add (by decide)
  clear_value x2
  apply canon_wr
  apply canon_setPg
  assumption
  exact off_add (by decide)

theorem canon_oweSteps {κ : LaneId} {l : LaneSt} (h : Canon κ l) (g : Nat) : Canon κ (LaneSt.oweSteps l g) := by
  unfold LaneSt.oweSteps
  lift_lets
  intro x1
  clear_value x1
  intro x2
  clear_value x2
  intro x3
  clear_value x3
  intro x4
  have h4 : Canon κ x4 := by
    unfold x4
    apply canon_setPg
    assumption
  clear_value x4
  intro x5
  clear_value x5
  intro x6
  clear_value x6
  intro x7
  clear_value x7
  intro x8
  have h8 : Canon κ x8 := by
    unfold x8
    refine canon_ite (fun _ => ?_) (fun _ => ?_)
    apply canon_setPg
    assumption
    assumption
  clear_value x8
  intro x9
  have h9 : Canon κ x9 := by
    unfold x9
    apply canon_wrB
    apply canon_wrSat
    assumption
    exact off_add (by decide)
    exact off_add (by decide)
  clear_value x9
  intro x10
  have h10 : Canon κ x10 := by
    unfold x10
    refine canon_ite (fun _ => ?_) (fun _ => ?_)
    apply canon_fault
    assumption
    assumption
  clear_value x10
  refine canon_ite (fun _ => ?_) (fun _ => ?_)
  assumption
  refine canon_ite (fun _ => ?_) (fun _ => ?_)
  apply canon_fault
  apply canon_setPg
  assumption
  assumption

theorem canon_initGen {κ : LaneId} {l : LaneSt} (h : Canon κ l) (g : Nat) (x : Int) : Canon κ (LaneSt.initGen l g x) := by
  unfold LaneSt.initGen
  refine canon_ite (fun _ => ?_) (fun _ => ?_)
  assumption
  lift_lets
  intro x1
  clear_value x1
  intro x2
  clear_value x2
  intro x3
  clear_value x3
  intro x4
  have h4 : Canon κ x4 := by
    unfold x4
    apply canon_setPg
    apply canon_dropHold
    assumption
  clear_value x4
  intro x5
  have h5 : Canon κ x5 := by
    unfold x5
    apply canon_oweSteps
    assumption
  clear_value x5
  intro x6
  have h6 : Canon κ x6 := by
    unfold x6
    apply canon_wr
    apply canon_wr
    apply canon_wrI
    assumption
    exact off_add (by decide)
    exact off_add (by decide)
    exact off_add (by decide)
  clear_value x6
  intro x7
  have h7 : Canon κ x7 := by
    unfold x7
    apply canon_wr
    apply canon_wr
    apply canon_wrI
    assumption
    exact off_add (by decide)
    exact off_add (by decide)
    exact off_add (by decide)
  clear_value x7
  intro x8
  have h8 : Canon κ x8 := by
    unfold x8
    apply canon_wr
    apply canon_wr
    assumption
    exact off_add (by decide)
    exact off_add (by decide)
  clear_value x8
  intro x9
  have h9 : Canon κ x9 := by
    unfold x9
    apply canon_wr
    assumption
    exact off_add (by decide)
  clear_value x9
  apply canon_wr
  apply canon_wr
  assumption
  exact off_add (by decide)
  exact off_add (by decide)

theorem canon_showLimits {κ : LaneId} {l : LaneSt} (h : Canon κ l) (n : Nat) : Canon κ (LaneSt.showLimits l n) := by
  unfold LaneSt.showLimits
  lift_lets
  intro x1
  clear_value x1
  intro x2
  have h2 : Canon κ x2 := by
    unfold x2
    apply canon_wrB
    apply canon_wr
    assumption
    exact off_add (by decide)
    exact off_add (by decide)
  clear_value x2
  apply canon_wr
  assumption
  exact off_add (by decide)

theorem canon_replanSame {κ : LaneId} {l : LaneSt} (h : Canon κ l) (g : Nat) (t : Nat) (redStop : Bool) : Canon κ (LaneSt.replanSame l g t redStop) := by
  unfold LaneSt.replanSame
  lift_lets
  intro x1
  clear_value x1
  refine canon_ite (fun _ => ?_) (fun _ => ?_)
  apply canon_setPg
  apply canon_replan
  assumption
  split
  refine canon_ite (fun _ => ?_) (fun _ => ?_)
  apply canon_replan
  assumption
  assumption
  assumption

theorem canon_applyAct {κ : LaneId} {l : LaneSt} (h : Canon κ l) (g : Nat) (t : Nat) (act : ProfAct) : Canon κ (LaneSt.applyAct l g t act).1 := by
  unfold LaneSt.applyAct
  split
  lift_lets
  intro x1
  have h1 : Canon κ x1.1 := by
    unfold x1
    apply canon_replan
    assumption
  clear_value x1
  intro x2
  have h2 : Canon κ x2 := by
    unfold x2
    apply canon_wr
    apply canon_setPg
    assumption
    exact off_add (by decide)
  clear_value x2
  intro x3
  clear_value x3
  dsimp only
  refine canon_mk ?_ rfl rfl rfl
  assumption
  lift_lets
  intro x4
  clear_value x4
  intro x5
  have h5 : Canon κ x5 := by
    unfold x5
    refine canon_ite (fun _ => ?_) (fun _ => ?_)
    apply canon_setPg
    assumption
    assumption
  clear_value x5
  intro x6
  have h6 : Canon κ x6 := by
    unfold x6
    refine canon_ite (fun _ => ?_) (fun _ => ?_)
    apply canon_wr
    assumption
    exact off_add (by decide)
    assumption
  clear_value x6
  intro x7
  have h7 : Canon κ x7 := by
    unfold x7
    refine canon_ite (fun _ => ?_) (fun _ => ?_)
    apply canon_wr
    assumption
    exact off_add (by decide)
    assumption
  clear_value x7
  intro x8
  have h8 : Canon κ x8 := by
    unfold x8
    refine canon_ite (fun _ => ?_) (fun _ => ?_)
    apply canon_wr
    assumption
    exact off_add (by decide)
    assumption
  clear_value x8
  intro x9
  have h9 : Canon κ x9 := by
    unfold x9
    refine canon_ite (fun _ => ?_) (fun _ => ?_)
    apply canon_setComm
    assumption
    assumption
  clear_value x9
  intro x10
  have h10 : Canon κ x10 := by
    unfold x10
    apply canon_showLimits
    assumption
  clear_value x10
  intro x11
  clear_value x11
  intro x12
  clear_value x12
  dsimp only
  apply canon_replanSame
  assumption

theorem canon_applyDue {κ : LaneId} {l : LaneSt} (h : Canon κ l) (g : Nat) (t : Nat) (act : ProfAct) : Canon κ (LaneSt.applyDue l g t act) := by
  unfold LaneSt.applyDue
  split
  refine canon_ite (fun _ => ?_) (fun _ => ?_)
  assumption
  apply canon_applyAct
  assumption
  apply canon_applyAct
  assumption

theorem canon_applyAll {κ : LaneId} {l : LaneSt} (h : Canon κ l) (g k : Nat) (xs : List Due) :
    Canon κ (LaneSt.applyAll l g k xs) := by
  induction k generalizing l xs with
  | zero => exact h
  | succ k ih =>
    unfold LaneSt.applyAll
    split
    · exact h
    · exact ih (canon_applyDue h _ _ _) _


theorem canon_changesDue {κ : LaneId} {l : LaneSt} (h : Canon κ l) (g : Nat) : Canon κ (LaneSt.changesDue l g) := by
  unfold LaneSt.changesDue
  lift_lets
  intro x1
  clear_value x1
  intro x2
  have h2 : Canon κ x2 := by
    unfold x2
    apply canon_setPg
    assumption
  clear_value x2
  apply canon_applyAll
  apply canon_wr
  assumption
  exact off_add (by decide)

theorem canon_enqueue {κ : LaneId} {l l' : LaneSt} (h : Canon κ l) {g t : Nat} {act : ProfAct} {n : Nat} {b : Bool}
    (he : l.enqueue g t act = some (l', n, b)) : Canon κ l' := by
  unfold LaneSt.enqueue at he
  dsimp only at he
  split at he
  · cases he
    exact canon_satInc (canon_setPg h _ _) _ _ (off_add (by decide))
  · split at he
    · cases he
    · cases he
      exact canon_wr (canon_setPg h _ _) (off_add (by decide)) _

theorem canon_acceptAct {κ : LaneId} {l : LaneSt} (h : Canon κ l) (d : Decided) (g : Nat) (timed : Bool) (at' : Nat)
    (act : ProfAct) : Canon κ (LaneSt.acceptAct l d g timed at' act) := by
  unfold LaneSt.acceptAct
  dsimp only
  split
  · split
    · exact canon_deny h _ _ _
    · rename_i he
      exact canon_complete (canon_enqueue h he) _ _ _ _
  · split <;> exact canon_complete (canon_setPg h _ _) _ _ _ _


theorem canon_setpoint {κ : LaneId} {l : LaneSt} (h : Canon κ l) (d : Decided) (n : Nat) (kind : Nat) (timed : Bool) (x : Int) (sec : Nat) (ns : Nat) : Canon κ (LaneSt.setpoint l d n kind timed x sec ns) := by
  unfold LaneSt.setpoint
  lift_lets
  intro x1
  clear_value x1
  split
  apply canon_complete
  assumption
  apply canon_permitted
  assumption
  intro _
  intro _
  apply canon_acceptAct
  assumption

theorem canon_limits {κ : LaneId} {l : LaneSt} (h : Canon κ l) (d : Decided) (n : Nat) (mask : Nat) (timed : Bool) (vmax : Nat) (amax : Nat) (jmax : Nat) (tmax : Nat) (speed : Nat) (sec : Nat) (ns : Nat) : Canon κ (LaneSt.limits l d n mask timed vmax amax jmax tmax speed sec ns) := by
  unfold LaneSt.limits
  split
  apply canon_complete
  assumption
  apply canon_permitted
  assumption
  intro _
  intro _
  apply canon_acceptAct
  assumption

theorem canon_reversalCheck {κ : LaneId} {l : LaneSt} (h : Canon κ l) (g : Nat) (t : Nat) : Canon κ (LaneSt.reversalCheck l g t) := by
  unfold LaneSt.reversalCheck
  lift_lets
  intro x1
  clear_value x1
  split
  assumption
  lift_lets
  intro x2
  have h2 : Canon κ x2 := by
    unfold x2
    apply canon_setPg
    assumption
  clear_value x2
  refine canon_ite (fun _ => ?_) (fun _ => ?_)
  assumption
  apply canon_raise
  apply canon_wr
  apply canon_setPg
  assumption
  exact off_add (by decide)

theorem canon_releaseHold {κ : LaneId} {l : LaneSt} (h : Canon κ l) (n : Nat) : Canon κ (LaneSt.releaseHold l n) := by
  unfold LaneSt.releaseHold
  split
  assumption
  refine canon_ite (fun _ => ?_) (fun _ => ?_)
  assumption
  lift_lets
  intro x1
  clear_value x1
  intro x2
  have h2 : Canon κ x2 := by
    unfold x2
    apply canon_setPg
    apply canon_dropHold
    assumption
  clear_value x2
  intro x3
  clear_value x3
  intro x4
  have h4 : Canon κ x4 := by
    unfold x4
    refine canon_ite (fun _ => ?_) (fun _ => ?_)
    assumption
    apply canon_setPg
    assumption
  clear_value x4
  apply canon_satInc
  apply canon_showPlanEnd
  assumption
  exact off_add (by decide)

theorem canon_shiftGen {κ : LaneId} {l : LaneSt} (h : Canon κ l) (g : Nat) (off : Int) : Canon κ (LaneSt.shiftGen l g off) := by
  unfold LaneSt.shiftGen
  lift_lets
  intro x1
  have h1 : Canon κ x1 := by
    unfold x1
    apply canon_setPg
    assumption
  clear_value x1
  intro x2
  have h2 : Canon κ x2 := by
    unfold x2
    apply canon_oweSteps
    assumption
  clear_value x2
  intro x3
  have h3 : Canon κ x3 := by
    unfold x3
    apply canon_wrI
    assumption
    exact off_add (by decide)
  clear_value x3
  apply canon_wrI
  assumption
  exact off_add (by decide)

theorem canon_homeFinish {κ : LaneId} {l : LaneSt} (h : Canon κ l) (g : Nat) : Canon κ (LaneSt.homeFinish l g) := by
  unfold LaneSt.homeFinish
  lift_lets
  intro x1
  clear_value x1
  intro x2
  clear_value x2
  intro x3
  have h3 : Canon κ x3 := by
    unfold x3
    apply canon_shiftGen
    assumption
  clear_value x3
  intro x4
  have h4 : Canon κ x4 := by
    unfold x4
    refine canon_ite (fun _ => ?_) (fun _ => ?_)
    apply canon_setOffset
    assumption
    assumption
  clear_value x4
  apply canon_setPg
  apply canon_raise
  apply canon_wr
  apply canon_wr
  assumption
  exact off_add (by decide)
  exact off_add (by decide)

theorem canon_homeRun {κ : LaneId} {l : LaneSt} (h : Canon κ l) (g : Nat) (t : Nat) (v : Int) (st : HomeStage) : Canon κ (LaneSt.homeRun l g t v st) := by
  unfold LaneSt.homeRun
  lift_lets
  intro x1
  clear_value x1
  apply canon_wr
  apply canon_setPg
  apply canon_replan
  assumption
  exact off_add (by decide)

theorem canon_homeStart {κ : LaneId} {l : LaneSt} (h : Canon κ l) (g : Nat) : Canon κ (LaneSt.homeStart l g) := by
  unfold LaneSt.homeStart
  refine canon_ite (fun _ => ?_) (fun _ => ?_)
  assumption
  apply canon_homeRun
  apply canon_wr
  assumption
  exact off_add (by decide)

theorem canon_homeStop {κ : LaneId} {l : LaneSt} (h : Canon κ l) (g : Nat) (st : HomeStage) : Canon κ (LaneSt.homeStop l g st) := by
  unfold LaneSt.homeStop
  apply canon_setPg
  apply canon_replanRest
  assumption

theorem canon_homeFail {κ : LaneId} {l : LaneSt} (h : Canon κ l) (g : Nat) (cause : Nat) : Canon κ (LaneSt.homeFail l g cause) := by
  unfold LaneSt.homeFail
  refine canon_ite (fun _ => ?_) (fun _ => ?_)
  assumption
  lift_lets
  intro x1
  have h1 : Canon κ x1 := by
    unfold x1
    apply canon_wr
    apply canon_setPg
    apply canon_replanRest
    assumption
    exact off_add (by decide)
  clear_value x1
  apply canon_fault
  apply canon_raise
  apply canon_wr
  assumption
  exact off_add (by decide)

theorem canon_homeRefEdge {κ : LaneId} {l : LaneSt} (h : Canon κ l) (g : Nat) : Canon κ (LaneSt.homeRefEdge l g) := by
  unfold LaneSt.homeRefEdge
  refine canon_ite (fun _ => ?_) (fun _ => ?_)
  assumption
  lift_lets
  intro x1
  clear_value x1
  apply canon_homeStop
  apply canon_setPg
  assumption

theorem canon_homeIndex {κ : LaneId} {l : LaneSt} (h : Canon κ l) (g : Nat) : Canon κ (LaneSt.homeIndex l g) := by
  unfold LaneSt.homeIndex
  refine canon_ite (fun _ => ?_) (fun _ => ?_)
  assumption
  lift_lets
  intro x1
  clear_value x1
  apply canon_homeStop
  apply canon_homeFinish
  apply canon_setPg
  assumption

theorem canon_homeRest {κ : LaneId} {l : LaneSt} (h : Canon κ l) (g : Nat) (t : Nat) : Canon κ (LaneSt.homeRest l g t) := by
  unfold LaneSt.homeRest
  split
  apply canon_wr
  apply canon_setPg
  apply canon_homeFinish
  assumption
  exact off_add (by decide)
  apply canon_homeRun
  assumption
  apply canon_wr
  apply canon_setPg
  assumption
  exact off_add (by decide)
  assumption

theorem canon_stepPulse {κ : LaneId} {l : LaneSt} (h : Canon κ l) (g : Nat) : Canon κ (LaneSt.stepPulse l g) := by
  unfold LaneSt.stepPulse
  lift_lets
  intro x1
  clear_value x1
  intro x2
  clear_value x2
  refine canon_ite (fun _ => ?_) (fun _ => ?_)
  assumption
  apply canon_setPg
  apply canon_wrB
  apply canon_wrI
  assumption
  exact off_add (by decide)
  exact off_add (by decide)

theorem canon_loadStep {κ : LaneId} {l : LaneSt} (h : Canon κ l) (g : Nat) (t : Nat) : Canon κ (LaneSt.loadStep l g t) := by
  unfold LaneSt.loadStep
  lift_lets
  intro x1
  clear_value x1
  intro x2
  clear_value x2
  intro x3
  clear_value x3
  intro x4
  have h4 : Canon κ x4 := by
    unfold x4
    apply canon_setPg
    assumption
  clear_value x4
  intro x5
  have h5 : Canon κ x5 := by
    unfold x5
    apply canon_wrI
    apply canon_wrI
    apply canon_wrI
    assumption
    exact off_add (by decide)
    exact off_add (by decide)
    exact off_add (by decide)
  clear_value x5
  apply canon_oweSteps
  apply canon_wrB
  assumption
  exact off_add (by decide)

theorem canon_planDone {κ : LaneId} {l : LaneSt} (h : Canon κ l) (g : Nat) (t : Nat) : Canon κ (LaneSt.planDone l g t) := by
  unfold LaneSt.planDone
  lift_lets
  intro x1
  clear_value x1
  intro x2
  clear_value x2
  refine canon_ite (fun _ => ?_) (fun _ => ?_)
  assumption
  refine canon_ite (fun _ => ?_) (fun _ => ?_)
  apply canon_homeRest
  assumption
  refine canon_ite (fun _ => ?_) (fun _ => ?_)
  apply canon_wr
  assumption
  exact off_add (by decide)
  assumption

theorem canon_planStep {κ : LaneId} {l : LaneSt} (h : Canon κ l) (g : Nat) : Canon κ (LaneSt.planStep l g) := by
  unfold LaneSt.planStep
  refine canon_ite (fun _ => ?_) (fun _ => ?_)
  assumption
  lift_lets
  intro x1
  clear_value x1
  intro x2
  have h2 : Canon κ x2 := by
    unfold x2
    apply canon_reversalCheck
    assumption
  clear_value x2
  intro x3
  have h3 : Canon κ x3 := by
    unfold x3
    split
    refine canon_ite (fun _ => ?_) (fun _ => ?_)
    apply canon_wr
    apply canon_replanRest
    assumption
    exact off_add (by decide)
    assumption
    assumption
  clear_value x3
  apply canon_planDone
  apply canon_loadStep
  assumption

theorem canon_latchEdge {κ : LaneId} {l : LaneSt} (h : Canon κ l) (g : Nat) (rising : Bool) : Canon κ (LaneSt.latchEdge l g rising) := by
  unfold LaneSt.latchEdge
  lift_lets
  intro x1
  clear_value x1
  intro x2
  clear_value x2
  intro x3
  clear_value x3
  intro x4
  clear_value x4
  refine canon_ite (fun _ => ?_) (fun _ => ?_)
  assumption
  apply canon_raise
  apply canon_inc
  apply canon_wrI
  apply canon_setPg
  assumption
  exact off_add (by decide)
  exact off_add (by decide)

theorem canon_tuneAbort {κ : LaneId} {l : LaneSt} (h : Canon κ l) (n : Nat) (code : Nat) (arg : Nat) : Canon κ (LaneSt.tuneAbort l n code arg) := by
  unfold LaneSt.tuneAbort
  refine canon_mk ?_ rfl rfl rfl
  assumption

theorem canon_limitEdge {κ : LaneId} {l : LaneSt} (h : Canon κ l) (g : Nat) (pos : Bool) : Canon κ (LaneSt.limitEdge l g pos) := by
  unfold LaneSt.limitEdge
  lift_lets
  intro x1
  have h1 : 4096 ≤ x1.off := by
    unfold x1
    split
    exact off_add (by decide)
    exact off_add (by decide)
  clear_value x1
  intro x2
  clear_value x2
  intro x3
  clear_value x3
  intro x4
  have h4 : Canon κ x4 := by
    unfold x4
    apply canon_setPg
    apply canon_wr
    assumption
    assumption
  clear_value x4
  intro x5
  intro x6
  have h6 : Canon κ x6 := by
    unfold x6
    refine canon_ite (fun _ => ?_) (fun _ => ?_)
    apply canon_homeFail
    assumption
    assumption
  clear_value x6
  intro x7
  have h7 : Canon κ x7 := by
    unfold x7
    apply canon_setPg
    apply canon_replanRest
    assumption
  clear_value x7
  intro x8
  have h8 : Canon κ x8 := by
    unfold x8
    apply canon_tuneAbort
    apply canon_raise
    apply canon_wr
    assumption
    exact off_add (by decide)
  clear_value x8
  refine canon_ite (fun _ => ?_) (fun _ => ?_)
  assumption
  apply canon_fault
  assumption

theorem canon_limitRelease {κ : LaneId} {l : LaneSt} (h : Canon κ l) (g : Nat) (pos : Bool) : Canon κ (LaneSt.limitRelease l g pos) := by
  unfold LaneSt.limitRelease
  lift_lets
  intro x1
  have h1 : Canon κ x1 := by
    unfold x1
    apply canon_wr
    assumption
    split
    exact off_add (by decide)
    exact off_add (by decide)
  clear_value x1
  refine canon_ite (fun _ => ?_) (fun _ => ?_)
  apply canon_wr
  assumption
  exact off_add (by decide)
  assumption

end Sys2Proof.Machine
end

