-- ==== Sys2Proof/Laws/CanonCommEval.lean ====
section
/-!
SUPPORT. Every operation of Machine/CommEval.lean keeps a lane sound.
-/

namespace Sys2Proof.Machine

open Sys2Proof LaneSt

theorem canon_showTorque {κ : LaneId} {l : LaneSt} (h : Canon κ l) (n : Nat) : Canon κ (LaneSt.showTorque l n) := by
  unfold LaneSt.showTorque
  apply canon_wr
  apply canon_wr
  assumption
  exact off_add (by decide)
  exact off_add (by decide)

theorem off_srcField (n : Nat) (sec : Bool) : 4096 ≤ (srcField n sec).off := by
  unfold srcField
  split
  exact off_add (by decide)
  exact off_add (by decide)

theorem canon_judgePos {κ : LaneId} {l : LaneSt} (h : Canon κ l) : Canon κ (LaneSt.judgePos l) := by
  unfold LaneSt.judgePos
  apply canon_setDegrade
  assumption

theorem canon_losePort {κ : LaneId} {l : LaneSt} (h : Canon κ l) (n : Nat) (sec : Bool) : Canon κ (LaneSt.losePort l n sec) := by
  unfold LaneSt.losePort
  apply canon_fault
  apply canon_judgePos
  apply canon_satInc
  apply canon_wr
  assumption
  apply off_srcField
  exact off_add (by decide)

theorem canon_refreshSrc {κ : LaneId} {l : LaneSt} (h : Canon κ l) (n : Nat) (sec : Bool) : Canon κ (LaneSt.refreshSrc l n sec) := by
  unfold LaneSt.refreshSrc
  lift_lets
  intro x1
  have h1 : 4096 ≤ x1.off := by
    unfold x1
    apply off_srcField
  clear_value x1
  intro x2
  clear_value x2
  intro x3
  clear_value x3
  refine canon_ite (fun _ => ?_) (fun _ => ?_)
  apply canon_wr
  assumption
  assumption
  refine canon_ite (fun _ => ?_) (fun _ => ?_)
  assumption
  refine canon_ite (fun _ => ?_) (fun _ => ?_)
  apply canon_wr
  assumption
  assumption
  refine canon_ite (fun _ => ?_) (fun _ => ?_)
  apply canon_losePort
  assumption
  apply canon_wr
  assumption
  assumption

theorem canon_sourcesStart {κ : LaneId} {l : LaneSt} (h : Canon κ l) (n : Nat) : Canon κ (LaneSt.sourcesStart l n) := by
  unfold LaneSt.sourcesStart
  lift_lets
  intro x1
  have h1 : Canon κ x1 := by
    unfold x1
    apply canon_setAng
    assumption
  clear_value x1
  intro x2
  have h2 : Canon κ x2 := by
    unfold x2
    apply canon_wr
    apply canon_wr
    apply canon_wr
    assumption
    exact off_add (by decide)
    exact off_add (by decide)
    exact off_add (by decide)
  clear_value x2
  apply canon_judgePos
  apply canon_refreshSrc
  apply canon_refreshSrc
  assumption

theorem canon_splice {κ : LaneId} {l : LaneSt} (h : Canon κ l) (n : Nat) : Canon κ (LaneSt.splice l n) := by
  unfold LaneSt.splice
  refine canon_ite (fun _ => ?_) (fun _ => ?_)
  assumption
  lift_lets
  intro x1
  clear_value x1
  intro x2
  clear_value x2
  apply canon_wr
  apply canon_setAng
  assumption
  exact off_add (by decide)

theorem canon_zeroMeasure {κ : LaneId} {l : LaneSt} (h : Canon κ l) (i : Nat) (z : Int) : Canon κ (LaneSt.zeroMeasure l i z) := by
  unfold LaneSt.zeroMeasure
  refine canon_ite (fun _ => ?_) (fun _ => ?_)
  assumption
  lift_lets
  intro x1
  clear_value x1
  intro x2
  clear_value x2
  intro x3
  clear_value x3
  refine canon_ite (fun _ => ?_) (fun _ => ?_)
  apply canon_wrI
  assumption
  exact off_add (by decide)
  apply canon_fault
  apply canon_wrI
  assumption
  exact off_add (by decide)

theorem canon_unlock {κ : LaneId} {l : LaneSt} (h : Canon κ l) (n : Nat) : Canon κ (LaneSt.unlock l n) := by
  unfold LaneSt.unlock
  apply canon_setAng
  apply canon_wr
  apply canon_wr
  assumption
  exact off_add (by decide)
  exact off_add (by decide)

theorem canon_observe {κ : LaneId} {l : LaneSt} (h : Canon κ l) (n : Nat) (t : Nat) : Canon κ (LaneSt.observe l n t).1 := by
  unfold LaneSt.observe
  split
  dsimp only
  apply canon_wr
  apply canon_wr
  assumption
  exact off_add (by decide)
  exact off_add (by decide)
  lift_lets
  intro x1
  clear_value x1
  intro x2
  clear_value x2
  intro x3
  clear_value x3
  intro x4
  clear_value x4
  intro x5
  clear_value x5
  intro x6
  clear_value x6
  intro x7
  clear_value x7
  intro x8
  clear_value x8
  intro x9
  clear_value x9
  intro x10
  have h10 : Canon κ x10 := by
    unfold x10
    apply canon_wrI
    apply canon_wr
    assumption
    exact off_add (by decide)
    exact off_add (by decide)
  clear_value x10
  intro x11
  clear_value x11
  intro x12
  clear_value x12
  intro x13
  clear_value x13
  intro x14
  clear_value x14
  intro x15
  have h15 : Canon κ x15 := by
    unfold x15
    apply canon_setAng
    assumption
  clear_value x15
  intro x16
  clear_value x16
  intro x17
  clear_value x17
  split
  dsimp only
  apply canon_unlock
  assumption
  split
  dsimp only
  apply canon_setAng
  apply canon_wr
  apply canon_wr
  apply canon_wr
  assumption
  exact off_add (by decide)
  exact off_add (by decide)
  exact off_add (by decide)
  split
  dsimp only
  apply canon_setAng
  assumption
  dsimp only
  apply canon_wr
  assumption
  exact off_add (by decide)

theorem canon_obsLost {κ : LaneId} {l : LaneSt} (h : Canon κ l) (n : Nat) (code : Nat) : Canon κ (LaneSt.obsLost l n code) := by
  unfold LaneSt.obsLost
  apply canon_fault
  apply canon_satInc
  apply canon_wr
  apply canon_unlock
  assumption
  exact off_add (by decide)
  exact off_add (by decide)

theorem canon_obsDecision {κ : LaneId} {l : LaneSt} (h : Canon κ l) (n : Nat) : Canon κ (LaneSt.obsDecision l n) := by
  unfold LaneSt.obsDecision
  lift_lets
  intro x1
  clear_value x1
  refine canon_ite (fun _ => ?_) (fun _ => ?_)
  apply canon_obsLost
  refine canon_ite (fun _ => ?_) (fun _ => ?_)
  apply canon_activeShort
  assumption
  assumption
  apply canon_obsLost
  refine canon_ite (fun _ => ?_) (fun _ => ?_)
  apply canon_setWstate
  apply canon_windingOff
  assumption
  assumption

theorem canon_reacquire {κ : LaneId} {l : LaneSt} (h : Canon κ l) (n : Nat) : Canon κ (LaneSt.reacquire l n) := by
  unfold LaneSt.reacquire
  refine canon_ite (fun _ => ?_) (fun _ => ?_)
  assumption
  refine canon_ite (fun _ => ?_) (fun _ => ?_)
  apply canon_setGateCh
  assumption
  refine canon_ite (fun _ => ?_) (fun _ => ?_)
  apply canon_obsLost
  apply canon_activeShort
  assumption
  assumption

theorem canon_keCheck {κ : LaneId} {l : LaneSt} (h : Canon κ l) (n : Nat) (moved : Nat) : Canon κ (LaneSt.keCheck l n moved) := by
  unfold LaneSt.keCheck
  refine canon_ite (fun _ => ?_) (fun _ => ?_)
  apply canon_setAng
  assumption
  lift_lets
  intro x1
  clear_value x1
  intro x2
  clear_value x2
  intro x3
  clear_value x3
  intro x4
  clear_value x4
  intro x5
  clear_value x5
  intro x6
  clear_value x6
  intro x7
  clear_value x7
  intro x8
  clear_value x8
  intro x9
  clear_value x9
  intro x10
  have h10 : Canon κ x10 := by
    unfold x10
    apply canon_wr
    apply canon_setAng
    assumption
    exact off_add (by decide)
  clear_value x10
  refine canon_ite (fun _ => ?_) (fun _ => ?_)
  apply canon_setAng
  assumption
  refine canon_ite (fun _ => ?_) (fun _ => ?_)
  refine canon_ite (fun _ => ?_) (fun _ => ?_)
  apply canon_raise
  apply canon_wr
  assumption
  exact off_add (by decide)
  assumption
  refine canon_ite (fun _ => ?_) (fun _ => ?_)
  apply canon_fault
  apply canon_satInc
  apply canon_raise
  apply canon_wr
  assumption
  exact off_add (by decide)
  exact off_add (by decide)
  assumption

theorem canon_requestStop {κ : LaneId} {l : LaneSt} (h : Canon κ l) (cause : Nat) : Canon κ (LaneSt.requestStop l cause) := by
  unfold LaneSt.requestStop
  refine canon_mk ?_ rfl rfl rfl
  assumption

theorem canon_settleDispute {κ : LaneId} {l : LaneSt} (h : Canon κ l) (n : Nat) (a : Nat) (b : Nat) (first : Bool) : Canon κ (LaneSt.settleDispute l n a b first).1 := by
  unfold LaneSt.settleDispute
  lift_lets
  intro x1
  clear_value x1
  intro x2
  clear_value x2
  intro x3
  clear_value x3
  intro x4
  clear_value x4
  split
  dsimp only
  apply canon_losePort
  assumption
  split
  dsimp only
  apply canon_losePort
  assumption
  split
  dsimp only
  apply canon_losePort
  apply canon_losePort
  assumption
  split
  dsimp only
  apply canon_losePort
  assumption
  split
  dsimp only
  apply canon_losePort
  assumption
  dsimp only
  refine canon_ite (fun _ => ?_) (fun _ => ?_)
  apply canon_fault
  assumption
  assumption

theorem canon_chooseSource {κ : LaneId} {l : LaneSt} (h : Canon κ l) (n : Nat) (t : Nat) : Canon κ (LaneSt.chooseSource l n t).1 := by
  unfold LaneSt.chooseSource
  lift_lets
  intro x1
  clear_value x1
  intro x2
  clear_value x2
  intro x3
  clear_value x3
  intro x4
  clear_value x4
  intro x5
  clear_value x5
  intro x6
  clear_value x6
  intro x7
  clear_value x7
  intro x8
  have h8 : Canon κ x8 := by
    unfold x8
    apply canon_setAng
    assumption
  clear_value x8
  intro x9
  have h9 : Canon κ x9 := by
    unfold x9
    apply canon_setAng
    assumption
  clear_value x9
  intro x10
  clear_value x10
  intro x11
  clear_value x11
  intro x12
  have h12 : Canon κ x12 := by
    unfold x12
    apply canon_setAng
    assumption
  clear_value x12
  split
  split
  dsimp only
  assumption
  apply canon_settleDispute
  assumption
  split
  dsimp only
  refine canon_ite (fun _ => ?_) (fun _ => ?_)
  apply canon_setAng
  apply canon_obsLost
  assumption
  assumption
  split
  dsimp only
  assumption
  split
  dsimp only
  assumption
  dsimp only
  assumption

theorem canon_arbitrate {κ : LaneId} {l : LaneSt} (h : Canon κ l) (n : Nat) (t : Nat) (obsLost : Bool) : Canon κ (LaneSt.arbitrate l n t obsLost) := by
  unfold LaneSt.arbitrate
  lift_lets
  intro x1
  clear_value x1
  intro x2
  have h2 : Canon κ x2.1 := by
    unfold x2
    apply canon_chooseSource
    apply canon_refreshSrc
    apply canon_refreshSrc
    assumption
  clear_value x2
  intro x3
  have h3 : Canon κ x3 := by
    unfold x3
    apply canon_wr
    assumption
    exact off_add (by decide)
  clear_value x3
  intro x4
  have h4 : Canon κ x4 := by
    unfold x4
    refine canon_ite (fun _ => ?_) (fun _ => ?_)
    assumption
    apply canon_raise
    assumption
  clear_value x4
  intro x5
  have h5 : Canon κ x5 := by
    unfold x5
    refine canon_ite (fun _ => ?_) (fun _ => ?_)
    apply canon_splice
    assumption
    assumption
  clear_value x5
  intro x6
  have h6 : Canon κ x6 := by
    unfold x6
    refine canon_ite (fun _ => ?_) (fun _ => ?_)
    apply canon_requestStop
    assumption
    assumption
  clear_value x6
  refine canon_ite (fun _ => ?_) (fun _ => ?_)
  refine canon_ite (fun _ => ?_) (fun _ => ?_)
  apply canon_obsDecision
  assumption
  apply canon_obsLost
  assumption
  refine canon_ite (fun _ => ?_) (fun _ => ?_)
  apply canon_fault
  refine canon_ite (fun _ => ?_) (fun _ => ?_)
  apply canon_windingSafe
  assumption
  assumption
  apply canon_reacquire
  assumption

theorem canon_forceAngle {κ : LaneId} {l : LaneSt} (h : Canon κ l) (n : Nat) : Canon κ (LaneSt.forceAngle l n) := by
  unfold LaneSt.forceAngle
  lift_lets
  intro x1
  clear_value x1
  intro x2
  clear_value x2
  refine canon_ite (fun _ => ?_) (fun _ => ?_)
  assumption
  apply canon_setAng
  assumption

theorem canon_phaseSum {κ : LaneId} {l : LaneSt} (h : Canon κ l) (n : Nat) (t : Nat) : Canon κ (LaneSt.phaseSum l n t) := by
  unfold LaneSt.phaseSum
  lift_lets
  intro x1
  clear_value x1
  refine canon_ite (fun _ => ?_) (fun _ => ?_)
  apply canon_fault
  assumption
  assumption

theorem canon_commEval {κ : LaneId} {l : LaneSt} (h : Canon κ l) (n : Nat) (t : Nat) : Canon κ (LaneSt.commEval l n t) := by
  unfold LaneSt.commEval
  lift_lets
  intro x1
  have h1 : Canon κ x1.1 := by
    unfold x1
    apply canon_observe
    apply canon_phaseSum
    assumption
  clear_value x1
  intro x2
  have h2 : Canon κ x2 := by
    unfold x2
    refine canon_ite (fun _ => ?_) (fun _ => ?_)
    apply canon_forceAngle
    assumption
    apply canon_arbitrate
    assumption
  clear_value x2
  intro x3
  clear_value x3
  intro x4
  clear_value x4
  intro x5
  clear_value x5
  intro x6
  have h6 : Canon κ x6 := by
    unfold x6
    apply canon_setAng
    assumption
  clear_value x6
  intro x7
  have h7 : Canon κ x7 := by
    unfold x7
    apply canon_keCheck
    apply canon_showTorque
    assumption
  clear_value x7
  intro x8
  clear_value x8
  apply canon_wrB
  apply canon_wrSat
  apply canon_wrSat
  assumption
  exact off_add (by decide)
  exact off_add (by decide)
  exact off_add (by decide)

theorem canon_fieldWeaken {κ : LaneId} {l : LaneSt} (h : Canon κ l) (n : Nat) (mag : Int) (vlim : Int) (clamped : Bool) : Canon κ (LaneSt.fieldWeaken l n mag vlim clamped) := by
  unfold LaneSt.fieldWeaken
  lift_lets
  intro x1
  clear_value x1
  intro x2
  clear_value x2
  intro x3
  clear_value x3
  intro x4
  clear_value x4
  apply canon_wrB
  apply canon_wrI
  assumption
  exact off_add (by decide)
  exact off_add (by decide)

theorem canon_formDuties {κ : LaneId} {l : LaneSt} (h : Canon κ l) (n : Nat) (t : Nat) (vd : Int) (vq : Int) : Canon κ (LaneSt.formDuties l n t vd vq) := by
  unfold LaneSt.formDuties
  lift_lets
  intro x1
  clear_value x1
  intro x2
  clear_value x2
  intro x3
  clear_value x3
  intro x4
  clear_value x4
  intro x5
  have h5 : Canon κ x5 := by
    unfold x5
    apply canon_fieldWeaken
    apply canon_wrB
    assumption
    exact off_add (by decide)
  clear_value x5
  intro x6
  have h6 : Canon κ x6 := by
    unfold x6
    apply canon_setAng
    assumption
  clear_value x6
  intro x7
  clear_value x7
  intro x8
  clear_value x8
  intro x9
  clear_value x9
  intro x10
  clear_value x10
  intro x11
  clear_value x11
  intro x12
  clear_value x12
  apply canon_setGateCh
  assumption

end Sys2Proof.Machine
end

