-- ==== Sys2Proof/Laws/CanonLoop.lean ====
section
/-!
SUPPORT. Every operation of Machine/Loop.lean keeps a lane sound.
-/

namespace Sys2Proof.Machine

open Sys2Proof LaneSt

theorem canon_setSlot {κ : LaneId} {l : LaneSt} (h : Canon κ l) (n : Nat) (f : SlotSt → SlotSt) : Canon κ (LaneSt.setSlot l n f) := by
  unfold LaneSt.setSlot
  refine canon_mk ?_ rfl rfl rfl
  assumption

theorem canon_setTune {κ : LaneId} {l : LaneSt} (h : Canon κ l) (c : Nat) (t : Option TuneSt) : Canon κ (LaneSt.setTune l c t) := by
  unfold LaneSt.setTune
  refine canon_mk ?_ rfl rfl rfl
  assumption

theorem canon_slotIdle {κ : LaneId} {l : LaneSt} (h : Canon κ l) (n : Nat) : Canon κ (LaneSt.slotIdle l n) := by
  unfold LaneSt.slotIdle
  lift_lets
  intro x1
  have h1 : Canon κ x1 := by
    unfold x1
    apply canon_wr
    apply canon_wr
    apply canon_wr
    apply canon_wr
    assumption
    exact off_add (by decide)
    exact off_add (by decide)
    exact off_add (by decide)
    exact off_add (by decide)
  clear_value x1
  intro x2
  have h2 : Canon κ x2 := by
    unfold x2
    apply canon_wr
    apply canon_wr
    assumption
    exact off_add (by decide)
    exact off_add (by decide)
  clear_value x2
  intro x3
  clear_value x3
  refine canon_ite (fun _ => ?_) (fun _ => ?_)
  refine canon_mk ?_ rfl rfl rfl
  assumption
  assumption

theorem canon_judgeSlot {κ : LaneId} {l : LaneSt} (h : Canon κ l) (n : Nat) : Canon κ (LaneSt.judgeSlot l n) := by
  unfold LaneSt.judgeSlot
  lift_lets
  intro x1
  clear_value x1
  intro x2
  have h2 : Canon κ x2 := by
    unfold x2
    apply canon_wr
    apply canon_wr
    apply canon_wr
    assumption
    exact off_add (by decide)
    exact off_add (by decide)
    exact off_add (by decide)
  clear_value x2
  intro x3
  have h3 : Canon κ x3 := by
    unfold x3
    refine canon_ite (fun _ => ?_) (fun _ => ?_)
    apply canon_tuneAbort
    assumption
    assumption
  clear_value x3
  refine canon_ite (fun _ => ?_) (fun _ => ?_)
  apply canon_setSlot
  assumption
  refine canon_ite (fun _ => ?_) (fun _ => ?_)
  apply canon_slotIdle
  assumption
  assumption

theorem canon_judgeAux {κ : LaneId} {l : LaneSt} (h : Canon κ l) : Canon κ (LaneSt.judgeAux l) := by
  unfold LaneSt.judgeAux
  refine canon_foldl ?_ (fun _ _ _ => ?_)
  assumption
  refine canon_ite (fun _ => ?_) (fun _ => ?_)
  assumption
  lift_lets
  intro x1
  clear_value x1
  refine canon_ite (fun _ => ?_) (fun _ => ?_)
  refine canon_ite (fun _ => ?_) (fun _ => ?_)
  apply canon_setLeg
  assumption
  assumption
  apply canon_setLeg
  assumption

theorem canon_judgeSlots {κ : LaneId} {l : LaneSt} (h : Canon κ l) : Canon κ (LaneSt.judgeSlots l) := by
  unfold LaneSt.judgeSlots
  apply canon_judgeAux
  refine canon_foldl ?_ (fun _ _ _ => ?_)
  assumption
  apply canon_judgeSlot
  assumption

theorem canon_swapSetup {κ : LaneId} {l : LaneSt} (h : Canon κ l) : Canon κ (LaneSt.swapSetup l) := by
  have sets : ∀ (ws : List (Nat × Word)) (x : LaneSt), Canon κ x → (∀ w ∈ ws, engineSetup w.1 = true) →
      Canon κ (ws.foldl (fun l w => l.setWord w.1 w.2) x) := by
    intro ws
    induction ws with
    | nil => exact fun _ hx _ => hx
    | cons w ws ih =>
      intro x hx hw
      have ho : 4096 ≤ w.1 := by
        have := hw w (List.mem_cons_self ..)
        simp [engineSetup] at this
        omega
      exact ih _ (canon_setWord hx ho _) (fun v hv => hw v (List.mem_cons_of_mem _ hv))
  unfold LaneSt.swapSetup
  dsimp only
  exact canon_mk (sets _ _ h (fun w hw => (List.mem_filter.mp hw).2)) rfl rfl rfl


theorem canon_carryInteg {κ : LaneId} {l : LaneSt} (h : Canon κ l) (old : LaneSt) (n : Nat) : Canon κ (LaneSt.carryInteg l old n) := by
  unfold LaneSt.carryInteg
  lift_lets
  intro x1
  clear_value x1
  intro x2
  clear_value x2
  intro x3
  clear_value x3
  refine canon_ite (fun _ => ?_) (fun _ => ?_)
  apply canon_wr
  assumption
  exact off_add (by decide)
  refine canon_ite (fun _ => ?_) (fun _ => ?_)
  assumption
  apply canon_wrI
  assumption
  exact off_add (by decide)

theorem canon_carryKept {κ : LaneId} {l : LaneSt} (h : Canon κ l) (n : Nat) : Canon κ (LaneSt.carryKept l n) := by
  unfold LaneSt.carryKept
  refine canon_ite (fun _ => ?_) (fun _ => ?_)
  lift_lets
  intro x1
  have h1 : Canon κ x1 := by
    unfold x1
    apply canon_carryInteg
    assumption
  clear_value x1
  intro x2
  clear_value x2
  refine canon_mk ?_ rfl rfl rfl
  assumption
  assumption

theorem canon_endOldTick {κ : LaneId} {l : LaneSt} (h : Canon κ l) (t : Nat) : Canon κ (LaneSt.endOldTick l t) := by
  unfold LaneSt.endOldTick
  refine canon_ite (fun _ => ?_) (fun _ => ?_)
  assumption
  lift_lets
  intro x1
  have h1 : Canon κ x1 := by
    unfold x1
    apply canon_swapSetup
    assumption
  clear_value x1
  intro x2
  have h2 : Canon κ x2 := by
    unfold x2
    refine canon_foldl ?_ (fun _ _ _ => ?_)
    assumption
    apply canon_carryKept
    assumption
  clear_value x2
  intro x3
  clear_value x3
  intro x4
  clear_value x4
  intro x5
  have h5 : Canon κ x5 := by
    unfold x5
    refine canon_mk ?_ rfl rfl rfl
    assumption
  clear_value x5
  intro x6
  clear_value x6
  refine canon_ite (fun _ => ?_) (fun _ => ?_)
  assumption
  refine canon_mk ?_ rfl rfl rfl
  assumption

theorem canon_readMail {κ : LaneId} {l : LaneSt} (h : Canon κ l) (t : Nat) : Canon κ (LaneSt.readMail l t) := by
  unfold LaneSt.readMail
  refine canon_foldl ?_ (fun _ _ _ => ?_)
  assumption
  refine canon_ite (fun _ => ?_) (fun _ => ?_)
  apply canon_mailAin
  assumption
  refine canon_ite (fun _ => ?_) (fun _ => ?_)
  apply canon_mailPort
  assumption
  refine canon_ite (fun _ => ?_) (fun _ => ?_)
  apply canon_mailPort
  assumption
  assumption

theorem canon_tickTT {κ : LaneId} {l : LaneSt} (h : Canon κ l) (t : Nat) : Canon κ (LaneSt.tickTT l t) := by
  unfold LaneSt.tickTT
  refine canon_ite (fun _ => ?_) (fun _ => ?_)
  assumption
  lift_lets
  intro x1
  have h1 : Canon κ x1 := by
    unfold x1
    refine canon_foldl ?_ (fun _ _ _ => ?_)
    apply canon_lateResults
    apply canon_endOldTick
    assumption
    apply canon_showTorque
    assumption
  clear_value x1
  intro x2
  clear_value x2
  intro x3
  have h3 : Canon κ x3 := by
    unfold x3
    apply canon_readMail
    assumption
  clear_value x3
  intro x4
  clear_value x4
  refine canon_mk ?_ rfl rfl rfl
  assumption

theorem canon_route {κ : LaneId} {l : LaneSt} (h : Canon κ l) (n : Nat) (out : Int) : Canon κ (LaneSt.route l n out) := by
  unfold LaneSt.route
  lift_lets
  intro x1
  clear_value x1
  intro x2
  clear_value x2
  intro x3
  clear_value x3
  intro x4
  clear_value x4
  split
  refine canon_mk ?_ rfl rfl rfl
  assumption
  refine canon_mk ?_ rfl rfl rfl
  assumption
  assumption

theorem canon_putOut {κ : LaneId} {l : LaneSt} (h : Canon κ l) (n : Nat) (u : Int) (lo : Int) (hi : Int) : Canon κ (LaneSt.putOut l n u lo hi) := by
  unfold LaneSt.putOut
  lift_lets
  intro x1
  clear_value x1
  intro x2
  have h2 : Canon κ x2 := by
    unfold x2
    apply canon_setSlot
    assumption
  clear_value x2
  intro x3
  have h3 : Canon κ x3 := by
    unfold x3
    apply canon_wrB
    apply canon_wrB
    assumption
    exact off_add (by decide)
    exact off_add (by decide)
  clear_value x3
  intro x4
  have h4 : Canon κ x4 := by
    unfold x4
    refine canon_ite (fun _ => ?_) (fun _ => ?_)
    apply canon_satInc
    assumption
    exact off_add (by decide)
    assumption
  clear_value x4
  apply canon_route
  apply canon_wrI
  assumption
  exact off_add (by decide)

theorem canon_lawEval {κ : LaneId} {l : LaneSt} (h : Canon κ l) (n : Nat) (t : Nat) : Canon κ (LaneSt.lawEval l n t) := by
  unfold LaneSt.lawEval
  lift_lets
  intro x1
  clear_value x1
  intro x2
  clear_value x2
  intro x3
  clear_value x3
  intro x4
  clear_value x4
  intro x5
  clear_value x5
  intro x6
  clear_value x6
  intro x7
  clear_value x7
  intro x8
  clear_value x8
  intro x9
  clear_value x9
  intro x10
  clear_value x10
  intro x11
  clear_value x11
  intro x12
  clear_value x12
  intro x13
  have h13 : Canon κ x13 := by
    unfold x13
    apply canon_wrI
    apply canon_setSlot
    assumption
    exact off_add (by decide)
  clear_value x13
  intro x14
  have h14 : Canon κ x14 := by
    unfold x14
    apply canon_putOut
    apply canon_wrI
    assumption
    exact off_add (by decide)
  clear_value x14
  intro x15
  clear_value x15
  intro x16
  clear_value x16
  intro x17
  have h17 : Canon κ x17 := by
    unfold x17
    apply canon_wrB
    assumption
    exact off_add (by decide)
  clear_value x17
  apply canon_wrI
  assumption
  exact off_add (by decide)

theorem canon_showTune {κ : LaneId} {l : LaneSt} (h : Canon κ l) (t : TuneSt) : Canon κ (LaneSt.showTune l t) := by
  unfold LaneSt.showTune
  lift_lets
  intro x1
  clear_value x1
  apply canon_wr
  apply canon_wr
  apply canon_wr
  assumption
  exact off_add (by decide)
  exact off_add (by decide)
  exact off_add (by decide)

theorem canon_tuneResults {κ : LaneId} {l : LaneSt} (h : Canon κ l) (t : TuneSt) : Canon κ (LaneSt.tuneResults l t) := by
  unfold LaneSt.tuneResults
  lift_lets
  intro x1
  clear_value x1
  intro x2
  clear_value x2
  intro x3
  clear_value x3
  intro x4
  clear_value x4
  intro x5
  clear_value x5
  intro x6
  clear_value x6
  intro x7
  clear_value x7
  intro x8
  clear_value x8
  intro x9
  clear_value x9
  intro x10
  clear_value x10
  intro x11
  clear_value x11
  intro x12
  clear_value x12
  intro x13
  clear_value x13
  intro x14
  have h14 : Canon κ x14 := by
    unfold x14
    apply canon_wr
    apply canon_wr
    assumption
    exact off_add (by decide)
    exact off_add (by decide)
  clear_value x14
  intro x15
  have h15 : Canon κ x15 := by
    unfold x15
    apply canon_wr
    assumption
    exact off_add (by decide)
  clear_value x15
  intro x16
  have h16 : Canon κ x16 := by
    unfold x16
    apply canon_wrSat
    apply canon_wrSat
    apply canon_wrSat
    assumption
    exact off_add (by decide)
    exact off_add (by decide)
    exact off_add (by decide)
  clear_value x16
  apply canon_wrB
  apply canon_wrB
  assumption
  exact off_add (by decide)
  exact off_add (by decide)

theorem canon_relayEval {κ : LaneId} {l : LaneSt} (h : Canon κ l) (n : Nat) (t : Nat) (u : TuneSt) : Canon κ (LaneSt.relayEval l n t u) := by
  unfold LaneSt.relayEval
  lift_lets
  intro x1
  clear_value x1
  intro x2
  clear_value x2
  intro x3
  clear_value x3
  intro x4
  clear_value x4
  intro x5
  clear_value x5
  intro x6
  clear_value x6
  intro x7
  clear_value x7
  intro x8
  clear_value x8
  intro x9
  clear_value x9
  intro x10
  clear_value x10
  intro x11
  clear_value x11
  intro x12
  have h12 : Canon κ x12 := by
    unfold x12
    apply canon_showTune
    apply canon_setTune
    assumption
  clear_value x12
  intro x13
  have h13 : Canon κ x13 := by
    unfold x13
    refine canon_ite (fun _ => ?_) (fun _ => ?_)
    apply canon_tuneResults
    assumption
    assumption
  clear_value x13
  apply canon_putOut
  apply canon_wrI
  assumption
  exact off_add (by decide)

theorem off_logicalF (i : Nat) : 4096 ≤ (logicalF i).off := by
  unfold logicalF
  dsimp only
  decide

theorem canon_retirePipe {κ : LaneId} {l : LaneSt} (h : Canon κ l) (p : Nat) : Canon κ (LaneSt.retirePipe l p) := by
  unfold LaneSt.retirePipe
  lift_lets
  intro x1
  have h1 : Canon κ x1 := by
    unfold x1
    apply canon_wr
    assumption
    decide
  clear_value x1
  intro x2
  clear_value x2
  intro x3
  have h3 : Canon κ x3 := by
    unfold x3
    apply canon_setUnproved
    assumption
  clear_value x3
  refine canon_ite (fun _ => ?_) (fun _ => ?_)
  apply canon_fault
  apply canon_wr
  assumption
  decide
  split
  assumption
  refine canon_ite (fun _ => ?_) (fun _ => ?_)
  apply canon_fault
  assumption
  apply canon_spareUsed
  apply canon_fault
  apply canon_wr
  apply canon_wr
  assumption
  apply off_logicalF
  decide

theorem canon_rotatePipe {κ : LaneId} {l : LaneSt} (h : Canon κ l) : Canon κ (LaneSt.rotatePipe l) := by
  unfold LaneSt.rotatePipe
  lift_lets
  intro x1
  clear_value x1
  intro x2
  clear_value x2
  refine canon_ite (fun _ => ?_) (fun _ => ?_)
  assumption
  split
  assumption
  apply canon_satInc
  apply canon_wr
  apply canon_wr
  assumption
  apply off_logicalF
  decide
  decide

theorem canon_residueFail {κ : LaneId} {l : LaneSt} (h : Canon κ l) (n : Nat) : Canon κ (LaneSt.residueFail l n) := by
  unfold LaneSt.residueFail
  lift_lets
  intro x1
  clear_value x1
  intro x2
  clear_value x2
  intro x3
  clear_value x3
  intro x4
  have h4 : Canon κ x4 := by
    unfold x4
    apply canon_satInc
    apply canon_satInc
    apply canon_wr
    assumption
    exact off_add (by decide)
    exact off_add (by decide)
    decide
  clear_value x4
  intro x5
  have h5 : Canon κ x5 := by
    unfold x5
    apply canon_setSlot
    assumption
  clear_value x5
  intro x6
  clear_value x6
  intro x7
  have h7 : Canon κ x7 := by
    unfold x7
    refine canon_mk ?_ rfl rfl rfl
    assumption
  clear_value x7
  intro x8
  have h8 : Canon κ x8 := by
    unfold x8
    apply canon_fault
    assumption
  clear_value x8
  refine canon_ite (fun _ => ?_) (fun _ => ?_)
  apply canon_retirePipe
  assumption
  assumption

theorem canon_afterDq {κ : LaneId} {l : LaneSt} (h : Canon κ l) (c : Nat) (t : Nat) : Canon κ (LaneSt.afterDq l c t) := by
  unfold LaneSt.afterDq
  lift_lets
  intro x1
  clear_value x1
  intro x2
  clear_value x2
  refine canon_ite (fun _ => ?_) (fun _ => ?_)
  assumption
  apply canon_formDuties
  assumption

theorem canon_issueNow {κ : LaneId} {l : LaneSt} (h : Canon κ l) (n : Nat) (bad : Bool) : Canon κ (LaneSt.issueNow l n bad) := by
  unfold LaneSt.issueNow
  lift_lets
  intro x1
  clear_value x1
  intro x2
  clear_value x2
  intro x3
  clear_value x3
  intro x4
  have h4 : Canon κ x4 := by
    unfold x4
    refine canon_ite (fun _ => ?_) (fun _ => ?_)
    apply canon_commEval
    assumption
    assumption
  clear_value x4
  intro x5
  have h5 : Canon κ x5 := by
    unfold x5
    apply canon_setSlot
    assumption
  clear_value x5
  intro x6
  have h6 : Canon κ x6 := by
    unfold x6
    apply canon_wr
    assumption
    exact off_add (by decide)
  clear_value x6
  intro x7
  have h7 : Canon κ x7 := by
    unfold x7
    refine canon_ite (fun _ => ?_) (fun _ => ?_)
    apply canon_residueFail
    assumption
    split
    apply canon_relayEval
    assumption
    apply canon_lawEval
    assumption
  clear_value x7
  refine canon_ite (fun _ => ?_) (fun _ => ?_)
  assumption
  refine canon_ite (fun _ => ?_) (fun _ => ?_)
  apply canon_afterDq
  assumption
  assumption

theorem canon_issue {κ : LaneId} {l : LaneSt} (h : Canon κ l) (n : Nat) (bad : Bool) : Canon κ (LaneSt.issue l n bad) := by
  unfold LaneSt.issue
  lift_lets
  intro x1
  have h1 : Canon κ x1 := by
    unfold x1
    apply canon_swapSetup
    assumption
  clear_value x1
  refine canon_ite (fun _ => ?_) (fun _ => ?_)
  assumption
  refine canon_ite (fun _ => ?_) (fun _ => ?_)
  apply canon_carryKept
  apply canon_swapSetup
  apply canon_issueNow
  assumption
  refine canon_ite (fun _ => ?_) (fun _ => ?_)
  assumption
  apply canon_issueNow
  assumption

theorem canon_carryTicks {κ : LaneId} {l : LaneSt} (h : Canon κ l) (old : LaneSt) : Canon κ (LaneSt.carryTicks l old) := by
  unfold LaneSt.carryTicks
  lift_lets
  intro x1
  clear_value x1
  intro x2
  have h2 : Canon κ x2 := by
    unfold x2
    refine canon_foldl ?_ (fun _ _ _ => ?_)
    assumption
    apply canon_carryInteg
    assumption
  clear_value x2
  intro x3
  clear_value x3
  intro x4
  clear_value x4
  intro x5
  clear_value x5
  refine canon_mk ?_ rfl rfl rfl
  assumption

theorem canon_tuneStart {κ : LaneId} {l : LaneSt} (h : Canon κ l) (d : Decided) (ch : Nat) (slot : Nat) (rule : Nat) (amp : Int) (eps : Int) : Canon κ (LaneSt.tuneStart l d ch slot rule amp eps) := by
  unfold LaneSt.tuneStart
  lift_lets
  intro x1
  clear_value x1
  intro x2
  clear_value x2
  intro x3
  have h3 : Canon κ x3 := by
    unfold x3
    refine canon_foldl ?_ (fun _ _ _ => ?_)
    assumption
    refine canon_ite (fun _ => ?_) (fun _ => ?_)
    assumption
    refine canon_ite (fun _ => ?_) (fun _ => ?_)
    apply canon_wr
    assumption
    exact off_add (by decide)
    refine canon_ite (fun _ => ?_) (fun _ => ?_)
    assumption
    apply canon_wr
    assumption
    exact off_add (by decide)
  clear_value x3
  intro x4
  have h4 : Canon κ x4 := by
    unfold x4
    apply canon_wr
    apply canon_showTune
    apply canon_setTune
    assumption
    exact off_add (by decide)
  clear_value x4
  apply canon_wr
  apply canon_wr
  apply canon_wr
  assumption
  exact off_add (by decide)
  exact off_add (by decide)
  exact off_add (by decide)

theorem canon_autotune {κ : LaneId} {l : LaneSt} (h : Canon κ l) (lead : Option (Option (Nat × Nat))) (d : Decided) (ch : Nat) (slot : Nat) (rule : Nat) (x : Int) (eps : Nat) : Canon κ (LaneSt.autotune l lead d ch slot rule x eps) := by
  unfold LaneSt.autotune
  apply canon_permittedSession
  assumption
  intro _
  intro _
  split
  apply canon_complete
  assumption
  lift_lets
  intro x1
  clear_value x1
  split
  apply canon_deny
  assumption
  apply canon_tuneStart
  assumption

theorem canon_tuneFinish {κ : LaneId} {l : LaneSt} (h : Canon κ l) (c : Nat) (status : Nat) (detail : Nat) (result : Nat) (reason : Option Nat) : Canon κ (LaneSt.tuneFinish l c status detail result reason) := by
  unfold LaneSt.tuneFinish
  split
  assumption
  lift_lets
  intro x1
  have h1 : Canon κ x1 := by
    unfold x1
    refine canon_foldl ?_ (fun _ _ _ => ?_)
    assumption
    refine canon_ite (fun _ => ?_) (fun _ => ?_)
    assumption
    refine canon_ite (fun _ => ?_) (fun _ => ?_)
    apply canon_setSlot
    apply canon_wr
    assumption
    exact off_add (by decide)
    refine canon_ite (fun _ => ?_) (fun _ => ?_)
    apply canon_setSlot
    apply canon_wr
    assumption
    exact off_add (by decide)
    assumption
  clear_value x1
  intro x2
  have h2 : Canon κ x2 := by
    unfold x2
    apply canon_wr
    assumption
    exact off_add (by decide)
  clear_value x2
  intro x3
  have h3 : Canon κ x3 := by
    unfold x3
    refine canon_elim ?_ (fun _ => ?_)
    assumption
    apply canon_wr
    assumption
    exact off_add (by decide)
  clear_value x3
  apply canon_complete
  apply canon_setTune
  assumption

theorem canon_reacqTimeout {κ : LaneId} {l : LaneSt} (h : Canon κ l) (n : Nat) : Canon κ (LaneSt.reacqTimeout l n) := by
  unfold LaneSt.reacqTimeout
  refine canon_ite (fun _ => ?_) (fun _ => ?_)
  assumption
  apply canon_fault
  apply canon_satInc
  apply canon_windingOff
  assumption
  exact off_add (by decide)

end Sys2Proof.Machine
end

