-- ==== Sys2Proof/Laws/CanonOutputs.lean ====
section
/-!
SUPPORT. Every operation of Machine/Outputs.lean keeps a lane sound.
-/

namespace Sys2Proof.Machine

open Sys2Proof LaneSt

theorem canon_judgeOutput {κ : LaneId} {l : LaneSt} (h : Canon κ l) (k : Nat) : Canon κ (LaneSt.judgeOutput l k) := by
  unfold LaneSt.judgeOutput
  lift_lets
  intro x1
  clear_value x1
  refine canon_ite (fun _ => ?_) (fun _ => ?_)
  refine canon_ite (fun _ => ?_) (fun _ => ?_)
  assumption
  apply canon_inc
  apply canon_soChange
  assumption
  exact off_add (by decide)
  apply canon_soOff
  assumption

theorem canon_judgeOutputs {κ : LaneId} {l : LaneSt} (h : Canon κ l) : Canon κ (LaneSt.judgeOutputs l) := by
  unfold LaneSt.judgeOutputs
  refine canon_foldl ?_ (fun _ _ _ => ?_)
  assumption
  apply canon_judgeOutput
  assumption

end Sys2Proof.Machine
end

