-- ==== Sys2Proof/Laws/CanonChan.lean ====
section
/-!
SUPPORT. Every operation of Machine/Chan.lean keeps a lane sound.
-/

namespace Sys2Proof.Machine

open Sys2Proof LaneSt

theorem canon_setCh {κ : LaneId} {l : LaneSt} (h : Canon κ l) (n : Nat) (st : Nat) : Canon κ (LaneSt.setCh l n st) := by
  unfold LaneSt.setCh
  refine canon_ite (fun _ => ?_) (fun _ => ?_)
  assumption
  apply canon_judgeOutputs
  apply canon_judgeSlots
  apply canon_raise
  apply canon_wr
  assumption
  exact off_add (by decide)

theorem canon_endEnables {κ : LaneId} {l : LaneSt} (h : Canon κ l) (n : Nat) (status : Nat) (outcome : Nat) : Canon κ (LaneSt.endEnables l n status outcome) := by
  unfold LaneSt.endEnables
  lift_lets
  intro x1
  clear_value x1
  apply canon_setComm
  refine canon_foldl ?_ (fun _ _ _ => ?_)
  assumption
  apply canon_complete
  assumption

theorem canon_endDisables {κ : LaneId} {l : LaneSt} (h : Canon κ l) (n : Nat) : Canon κ (LaneSt.endDisables l n) := by
  unfold LaneSt.endDisables
  lift_lets
  intro x1
  clear_value x1
  intro x2
  have h2 : Canon κ x2 := by
    unfold x2
    refine canon_elim ?_ (fun _ => ?_)
    assumption
    apply canon_okOutcome
    assumption
  clear_value x2
  apply canon_setComm
  refine canon_foldl ?_ (fun _ _ _ => ?_)
  assumption
  apply canon_okOutcome
  assumption

theorem canon_clearRun {κ : LaneId} {l : LaneSt} (h : Canon κ l) (n : Nat) : Canon κ (LaneSt.clearRun l n) := by
  unfold LaneSt.clearRun
  lift_lets
  intro x1
  have h1 : Canon κ x1 := by
    unfold x1
    apply canon_setComm
    assumption
  clear_value x1
  intro x2
  have h2 : Canon κ x2 := by
    unfold x2
    apply canon_setAng
    assumption
  clear_value x2
  apply canon_setGateCh
  assumption

theorem canon_discardBoth {κ : LaneId} {l : LaneSt} (h : Canon κ l) (n : Nat) : Canon κ (LaneSt.discardBoth l n) := by
  unfold LaneSt.discardBoth
  apply canon_discardQueue
  apply canon_discardQueue
  assumption

theorem canon_zeroTorque {κ : LaneId} {l : LaneSt} (h : Canon κ l) (n : Nat) : Canon κ (LaneSt.zeroTorque l n) := by
  unfold LaneSt.zeroTorque
  refine canon_mk ?_ rfl rfl rfl
  assumption

theorem canon_clearStop {κ : LaneId} {l : LaneSt} (h : Canon κ l) (n : Nat) : Canon κ (LaneSt.clearStop l n) := by
  unfold LaneSt.clearStop
  apply canon_setComm
  apply canon_wr
  assumption
  exact off_add (by decide)

theorem canon_windingK5 {κ : LaneId} {l : LaneSt} (h : Canon κ l) (n : Nat) : Canon κ (LaneSt.windingK5 l n) := by
  unfold LaneSt.windingK5
  refine canon_ite (fun _ => ?_) (fun _ => ?_)
  assumption
  refine canon_ite (fun _ => ?_) (fun _ => ?_)
  apply canon_windingOff
  assumption
  apply canon_activeShort
  assumption

theorem canon_cut {κ : LaneId} {l : LaneSt} (h : Canon κ l) (n : Nat) (dest : Nat) (k5 : Bool) : Canon κ (LaneSt.cut l n dest k5) := by
  unfold LaneSt.cut
  lift_lets
  intro x1
  have h1 : Canon κ x1 := by
    unfold x1
    refine canon_ite (fun _ => ?_) (fun _ => ?_)
    apply canon_tuneAbort
    assumption
    assumption
  clear_value x1
  intro x2
  have h2 : Canon κ x2 := by
    unfold x2
    apply canon_clearRun
    refine canon_ite (fun _ => ?_) (fun _ => ?_)
    apply canon_windingK5
    assumption
    apply canon_windingSafe
    assumption
  clear_value x2
  intro x3
  have h3 : Canon κ x3 := by
    unfold x3
    apply canon_discardBoth
    apply canon_endDisables
    apply canon_endEnables
    assumption
  clear_value x3
  intro x4
  have h4 : Canon κ x4 := by
    unfold x4
    apply canon_stopGen
    apply canon_stopGen
    assumption
  clear_value x4
  apply canon_setCh
  apply canon_clearStop
  apply canon_zeroTorque
  assumption

theorem canon_toFaulted {κ : LaneId} {l : LaneSt} (h : Canon κ l) (n : Nat) (k5 : Bool) : Canon κ (LaneSt.toFaulted l n k5) := by
  unfold LaneSt.toFaulted
  refine canon_ite (fun _ => ?_) (fun _ => ?_)
  refine canon_ite (fun _ => ?_) (fun _ => ?_)
  apply canon_windingK5
  assumption
  assumption
  apply canon_cut
  assumption

theorem canon_startFail {κ : LaneId} {l : LaneSt} (h : Canon κ l) (n : Nat) (code : Nat) : Canon κ (LaneSt.startFail l n code) := by
  unfold LaneSt.startFail
  lift_lets
  intro x1
  have h1 : Canon κ x1 := by
    unfold x1
    apply canon_clearRun
    apply canon_wr
    assumption
    exact off_add (by decide)
  clear_value x1
  intro x2
  intro x3
  have h3 : Canon κ x3 := by
    unfold x3
    refine canon_ite (fun _ => ?_) (fun _ => ?_)
    apply canon_channelSafe
    assumption
    assumption
  clear_value x3
  apply canon_fault
  assumption

theorem canon_setStep {κ : LaneId} {l : LaneSt} (h : Canon κ l) (n : Nat) (k : Nat) : Canon κ (LaneSt.setStep l n k) := by
  unfold LaneSt.setStep
  apply canon_setComm
  assumption

theorem canon_chargeStart {κ : LaneId} {l : LaneSt} (h : Canon κ l) (n : Nat) : Canon κ (LaneSt.chargeStart l n) := by
  unfold LaneSt.chargeStart
  lift_lets
  intro x1
  have h1 : Canon κ x1 := by
    unfold x1
    apply canon_setStep
    assumption
  clear_value x1
  refine canon_ite (fun _ => ?_) (fun _ => ?_)
  assumption
  apply canon_setWstate
  apply canon_setBridge
  assumption

theorem canon_scanJudge {κ : LaneId} {l : LaneSt} (h : Canon κ l) (n : Nat) : Canon κ (LaneSt.scanJudge l n) := by
  unfold LaneSt.scanJudge
  split
  assumption
  refine canon_ite (fun _ => ?_) (fun _ => ?_)
  assumption
  lift_lets
  intro x1
  have h1 : Canon κ x1 := by
    unfold x1
    apply canon_setGateCh
    assumption
  clear_value x1
  refine canon_ite (fun _ => ?_) (fun _ => ?_)
  apply canon_startFail
  assumption
  apply canon_chargeStart
  assumption

theorem canon_scanPhase {κ : LaneId} {l : LaneSt} (h : Canon κ l) (n : Nat) : Canon κ (LaneSt.scanPhase l n) := by
  unfold LaneSt.scanPhase
  refine canon_ite (fun _ => ?_) (fun _ => ?_)
  apply canon_scanJudge
  apply canon_scanStart
  apply canon_setStep
  assumption
  apply canon_chargeStart
  assumption

theorem canon_startChecks {κ : LaneId} {l : LaneSt} (h : Canon κ l) (n : Nat) : Canon κ (LaneSt.startChecks l n) := by
  unfold LaneSt.startChecks
  lift_lets
  intro x1
  have h1 : Canon κ x1 := by
    unfold x1
    apply canon_sourcesStart
    apply canon_wr
    apply canon_setStep
    assumption
    exact off_add (by decide)
  clear_value x1
  split
  apply canon_startFail
  assumption
  refine canon_ite (fun _ => ?_) (fun _ => ?_)
  apply canon_scanPhase
  assumption
  apply canon_setStep
  assumption

theorem canon_startBegin {κ : LaneId} {l : LaneSt} (h : Canon κ l) (n : Nat) : Canon κ (LaneSt.startBegin l n) := by
  unfold LaneSt.startBegin
  lift_lets
  intro x1
  clear_value x1
  intro x2
  have h2 : Canon κ x2 := by
    unfold x2
    refine canon_mk ?_ rfl rfl rfl
    assumption
  clear_value x2
  intro x3
  have h3 : Canon κ x3 := by
    unfold x3
    apply canon_setCh
    apply canon_clearRun
    assumption
  clear_value x3
  refine canon_ite (fun _ => ?_) (fun _ => ?_)
  apply canon_setComm
  assumption
  apply canon_startChecks
  assumption

theorem canon_contactorReady {κ : LaneId} {l : LaneSt} (h : Canon κ l) (n : Nat) : Canon κ (LaneSt.contactorReady l n) := by
  unfold LaneSt.contactorReady
  refine canon_ite (fun _ => ?_) (fun _ => ?_)
  apply canon_scanPhase
  assumption
  assumption

theorem canon_chargeDone {κ : LaneId} {l : LaneSt} (h : Canon κ l) (n : Nat) : Canon κ (LaneSt.chargeDone l n) := by
  unfold LaneSt.chargeDone
  refine canon_ite (fun _ => ?_) (fun _ => ?_)
  assumption
  lift_lets
  intro x1
  have h1 : Canon κ x1 := by
    unfold x1
    refine canon_ite (fun _ => ?_) (fun _ => ?_)
    apply canon_windingOff
    assumption
    assumption
  clear_value x1
  intro x2
  clear_value x2
  apply canon_setStep
  assumption

theorem canon_acquire {κ : LaneId} {l : LaneSt} (h : Canon κ l) (n : Nat) : Canon κ (LaneSt.acquire l n) := by
  unfold LaneSt.acquire
  lift_lets
  intro x1
  have h1 : Canon κ x1 := by
    unfold x1
    apply canon_setGateCh
    apply canon_setAng
    assumption
  clear_value x1
  apply canon_judgeSlots
  assumption

theorem canon_alignEnd {κ : LaneId} {l : LaneSt} (h : Canon κ l) (n : Nat) : Canon κ (LaneSt.alignEnd l n) := by
  unfold LaneSt.alignEnd
  lift_lets
  intro x1
  clear_value x1
  intro x2
  clear_value x2
  intro x3
  have h3 : Canon κ x3 := by
    unfold x3
    apply canon_setPort
    apply canon_wr
    apply canon_wrI
    assumption
    exact off_add (by decide)
    exact off_add (by decide)
  clear_value x3
  refine canon_ite (fun _ => ?_) (fun _ => ?_)
  assumption
  refine canon_ite (fun _ => ?_) (fun _ => ?_)
  apply canon_startFail
  apply canon_windingSafe
  assumption
  apply canon_setAng
  apply canon_setPortState
  assumption

theorem canon_searchFails {κ : LaneId} {l : LaneSt} (h : Canon κ l) (n : Nat) : Canon κ (LaneSt.searchFails l n) := by
  unfold LaneSt.searchFails
  refine canon_ite (fun _ => ?_) (fun _ => ?_)
  assumption
  apply canon_startFail
  apply canon_windingSafe
  assumption

theorem canon_startBoundary {κ : LaneId} {l : LaneSt} (h : Canon κ l) (n : Nat) (pos : Int) : Canon κ (LaneSt.startBoundary l n pos) := by
  unfold LaneSt.startBoundary
  lift_lets
  intro x1
  have h1 : Canon κ x1 := by
    unfold x1
    apply canon_setAng
    apply canon_setStep
    assumption
  clear_value x1
  intro x2
  have h2 : ∀ (a0 : LaneSt) (a1 : _), Canon κ a0 → Canon κ (x2 a0 a1) := by
    unfold x2
    intro _
    intro _
    intro _
    apply canon_initGen
    assumption
  clear_value x2
  intro x3
  have h3 : Canon κ x3 := by
    unfold x3
    apply_assumption
    apply_assumption
    assumption
  clear_value x3
  intro x4
  have h4 : Canon κ x4 := by
    unfold x4
    apply canon_setComm
    apply canon_wr
    assumption
    exact off_add (by decide)
  clear_value x4
  apply canon_judgeSlots
  apply canon_setGateCh
  apply canon_showLimits
  assumption

theorem canon_countStart {κ : LaneId} {l : LaneSt} (h : Canon κ l) (n : Nat) : Canon κ (LaneSt.countStart l n) := by
  unfold LaneSt.countStart
  refine canon_mk ?_ rfl rfl rfl
  assumption

theorem canon_startComplete {κ : LaneId} {l : LaneSt} (h : Canon κ l) (n : Nat) : Canon κ (LaneSt.startComplete l n) := by
  unfold LaneSt.startComplete
  lift_lets
  intro x1
  have h1 : Canon κ x1 := by
    unfold x1
    apply canon_countStart
    assumption
  clear_value x1
  intro x2
  clear_value x2
  intro x3
  have h3 : Canon κ x3 := by
    unfold x3
    apply canon_endEnables
    assumption
  clear_value x3
  apply canon_homeStart
  apply canon_setCh
  apply canon_setStep
  assumption

theorem canon_startTimeout {κ : LaneId} {l : LaneSt} (h : Canon κ l) (n : Nat) : Canon κ (LaneSt.startTimeout l n) := by
  unfold LaneSt.startTimeout
  lift_lets
  intro x1
  clear_value x1
  refine canon_ite (fun _ => ?_) (fun _ => ?_)
  assumption
  apply canon_startFail
  apply canon_windingSafe
  assumption

theorem canon_shutdownStart {κ : LaneId} {l : LaneSt} (h : Canon κ l) (n : Nat) : Canon κ (LaneSt.shutdownStart l n) := by
  unfold LaneSt.shutdownStart
  lift_lets
  intro x1
  have h1 : Canon κ x1 := by
    unfold x1
    refine canon_ite (fun _ => ?_) (fun _ => ?_)
    apply canon_tuneAbort
    assumption
    assumption
  clear_value x1
  intro x2
  have h2 : Canon κ x2 := by
    unfold x2
    apply canon_discardBoth
    apply canon_clearRun
    assumption
  clear_value x2
  intro x3
  have h3 : Canon κ x3 := by
    unfold x3
    apply canon_stopGen
    apply canon_stopGen
    assumption
  clear_value x3
  apply canon_setCh
  apply canon_dropHold
  assumption

theorem canon_shutdownEnd {κ : LaneId} {l : LaneSt} (h : Canon κ l) (n : Nat) : Canon κ (LaneSt.shutdownEnd l n) := by
  unfold LaneSt.shutdownEnd
  lift_lets
  intro x1
  have h1 : Canon κ x1 := by
    unfold x1
    apply canon_setCh
    apply canon_endDisables
    apply canon_clearStop
    apply canon_zeroTorque
    apply canon_clearRun
    assumption
  clear_value x1
  refine canon_ite (fun _ => ?_) (fun _ => ?_)
  assumption
  apply canon_startBegin
  apply canon_setComm
  assumption

theorem canon_shutdownOverrun {κ : LaneId} {l : LaneSt} (h : Canon κ l) (n : Nat) : Canon κ (LaneSt.shutdownOverrun l n) := by
  unfold LaneSt.shutdownOverrun
  refine canon_ite (fun _ => ?_) (fun _ => ?_)
  assumption
  apply canon_fault
  apply canon_cut
  assumption

theorem canon_enable {κ : LaneId} {l : LaneSt} (h : Canon κ l) (d : Decided) (n : Nat) (tune : Bool) (arg : Nat) (due : Bool) : Canon κ (LaneSt.enable l d n tune arg due) := by
  unfold LaneSt.enable
  apply canon_permitted
  assumption
  intro _
  intro _
  lift_lets
  intro x1
  clear_value x1
  intro x2
  have h2 : ∀ (a0 : LaneSt), Canon κ a0 → Canon κ (x2 a0) := by
    unfold x2
    intro _
    intro _
    apply canon_setComm
    assumption
  clear_value x2
  refine canon_ite (fun _ => ?_) (fun _ => ?_)
  apply canon_startBegin
  apply_assumption
  assumption
  refine canon_ite (fun _ => ?_) (fun _ => ?_)
  apply_assumption
  assumption
  refine canon_ite (fun _ => ?_) (fun _ => ?_)
  refine canon_ite (fun _ => ?_) (fun _ => ?_)
  apply canon_complete
  assumption
  apply_assumption
  assumption
  refine canon_ite (fun _ => ?_) (fun _ => ?_)
  apply canon_okOutcome
  apply canon_setCh
  apply canon_tuneAbort
  assumption
  refine canon_ite (fun _ => ?_) (fun _ => ?_)
  apply canon_okOutcome
  apply canon_setCh
  assumption
  apply canon_okOutcome
  assumption

theorem canon_disable {κ : LaneId} {l : LaneSt} (h : Canon κ l) (d : Decided) (n : Nat) (due : Bool) : Canon κ (LaneSt.disable l d n due) := by
  unfold LaneSt.disable
  apply canon_permitted
  assumption
  intro _
  intro _
  lift_lets
  intro x1
  clear_value x1
  intro x2
  have h2 : ∀ (a0 : LaneSt), Canon κ a0 → Canon κ (x2 a0) := by
    unfold x2
    intro _
    intro _
    apply canon_setComm
    assumption
  clear_value x2
  refine canon_ite (fun _ => ?_) (fun _ => ?_)
  apply canon_okOutcome
  assumption
  refine canon_ite (fun _ => ?_) (fun _ => ?_)
  apply canon_shutdownStart
  apply_assumption
  apply canon_endEnables
  assumption
  refine canon_ite (fun _ => ?_) (fun _ => ?_)
  apply canon_shutdownStart
  apply_assumption
  assumption
  refine canon_ite (fun _ => ?_) (fun _ => ?_)
  refine canon_ite (fun _ => ?_) (fun _ => ?_)
  apply canon_shutdownStart
  apply_assumption
  assumption
  apply canon_okOutcome
  apply canon_setCh
  assumption
  refine canon_ite (fun _ => ?_) (fun _ => ?_)
  apply canon_setComm
  apply canon_endEnables
  assumption
  apply canon_okOutcome
  assumption

theorem canon_stopGens {κ : LaneId} {l : LaneSt} (h : Canon κ l) (n : Nat) (cause : Nat) : Canon κ (LaneSt.stopGens l n cause) := by
  unfold LaneSt.stopGens
  lift_lets
  intro x1
  have h1 : Canon κ x1 := by
    unfold x1
    refine canon_ite (fun _ => ?_) (fun _ => ?_)
    apply canon_discardBoth
    assumption
    assumption
  clear_value x1
  intro x2
  have h2 : ∀ (a0 : LaneSt) (a1 : _), Canon κ a0 → Canon κ (x2 a0 a1) := by
    unfold x2
    intro _
    intro _
    intro _
    lift_lets
    intro x3
    clear_value x3
    refine canon_ite (fun _ => ?_) (fun _ => ?_)
    apply canon_stopGen
    assumption
    refine canon_ite (fun _ => ?_) (fun _ => ?_)
    apply canon_stopGen
    assumption
    assumption
  clear_value x2
  apply_assumption
  apply_assumption
  assumption

theorem canon_stopEntry {κ : LaneId} {l : LaneSt} (h : Canon κ l) (n : Nat) (cause : Nat) (cat : Nat) : Canon κ (LaneSt.stopEntry l n cause cat) := by
  unfold LaneSt.stopEntry
  lift_lets
  intro x1
  clear_value x1
  intro x2
  have h2 : ∀ (a0 : LaneSt) (a1 : _), Canon κ a0 → Canon κ (x2 a0 a1) := by
    unfold x2
    intro _
    intro _
    intro _
    refine canon_ite (fun _ => ?_) (fun _ => ?_)
    apply canon_setComm
    assumption
    assumption
  clear_value x2
  intro x3
  clear_value x3
  intro x4
  have h4 : Canon κ x4 := by
    unfold x4
    refine canon_ite (fun _ => ?_) (fun _ => ?_)
    apply canon_discardBoth
    assumption
    assumption
  clear_value x4
  intro x5
  have h5 : Canon κ x5 := by
    unfold x5
    refine canon_ite (fun _ => ?_) (fun _ => ?_)
    apply canon_tuneAbort
    assumption
    assumption
  clear_value x5
  refine canon_ite (fun _ => ?_) (fun _ => ?_)
  apply canon_cut
  apply_assumption
  assumption
  refine canon_ite (fun _ => ?_) (fun _ => ?_)
  apply canon_cut
  apply_assumption
  assumption
  refine canon_ite (fun _ => ?_) (fun _ => ?_)
  refine canon_ite (fun _ => ?_) (fun _ => ?_)
  apply canon_setComm
  assumption
  apply canon_stopGens
  apply canon_wr
  apply_assumption
  assumption
  exact off_add (by decide)
  assumption

theorem canon_stopEnd {κ : LaneId} {l : LaneSt} (h : Canon κ l) (n : Nat) : Canon κ (LaneSt.stopEnd l n) := by
  unfold LaneSt.stopEnd
  lift_lets
  intro x1
  clear_value x1
  intro x2
  clear_value x2
  refine canon_ite (fun _ => ?_) (fun _ => ?_)
  apply canon_wr
  assumption
  exact off_add (by decide)
  refine canon_ite (fun _ => ?_) (fun _ => ?_)
  apply canon_setCh
  apply canon_clearStop
  assumption
  apply canon_cut
  assumption

theorem canon_clearPorts {κ : LaneId} {l : LaneSt} (h : Canon κ l) (n : Nat) : Canon κ (LaneSt.clearPorts l n) := by
  unfold LaneSt.clearPorts
  refine canon_foldl ?_ (fun _ _ _ => ?_)
  assumption
  refine canon_ite (fun _ => ?_) (fun _ => ?_)
  assumption
  apply canon_setPortState
  apply canon_wr
  assumption
  exact off_add (by decide)

theorem canon_clearBridge {κ : LaneId} {l : LaneSt} (h : Canon κ l) (n : Nat) : Canon κ (LaneSt.clearBridge l n) := by
  have h1 : Canon κ ((((List.range 3).foldl (fun l i => [GATE.STATUS.SIDE, GATE.STATUS.DESAT_H, GATE.STATUS.DESAT_L,
      GATE.STATUS.COARSE_H, GATE.STATUS.COARSE_L, GATE.STATUS.ILK_H, GATE.STATUS.ILK_L, GATE.STATUS.OFF_H, GATE.STATUS.OFF_L,
      GATE.STATUS.BS_UV].foldl (fun l f => l.wr (f (3 * n + i)) 0) l) l).wr (GATE.BRIDGE.SIDE n) 0).setGateCh n
      (fun g => { g with naming := 0 })) := by
    refine canon_setGateCh (canon_wr (canon_foldl h (fun _ _ hl => ?_)) (off_add (by decide)) _) _ _
    simp only [List.foldl_cons, List.foldl_nil]
    repeat' (first | exact hl | exact off_add (by decide) | apply canon_wr)
  unfold LaneSt.clearBridge
  dsimp only
  refine canon_ite (fun _ => canon_foldl ?_ (fun _ _ hl => canon_wr hl (off_gsF _) _)) (fun _ => ?_) <;>
    exact canon_ite (fun _ => canon_windingOff h1 _) (fun _ => h1)


theorem canon_state_channelReset {κ : LaneId} {l : LaneSt} (h : Canon κ l) (s : State) (k : LaneId) (n : Nat) (d : Decided) : Canon κ (State.channelReset s k n d l) := by
  unfold State.channelReset
  lift_lets
  intro x1
  clear_value x1
  intro x2
  have h2 : ∀ (a0 : LaneSt), Canon κ a0 → Canon κ (x2 a0) := by
    unfold x2
    intro _
    intro _
    apply canon_setComm
    assumption
  clear_value x2
  intro x3
  have h3 : Canon κ x3 := by
    unfold x3
    apply canon_setCh
    apply canon_clearPorts
    apply canon_clearBridge
    assumption
  clear_value x3
  intro x4
  clear_value x4
  intro x5
  intro x6
  have h6 : Canon κ x6 := by
    unfold x6
    refine canon_ite (fun _ => ?_) (fun _ => ?_)
    apply_assumption
    assumption
    assumption
  clear_value x6
  intro x7
  have h7 : Canon κ x7 := by
    unfold x7
    refine canon_ite (fun _ => ?_) (fun _ => ?_)
    apply canon_clearPorts
    assumption
    assumption
  clear_value x7
  refine canon_ite (fun _ => ?_) (fun _ => ?_)
  refine canon_ite (fun _ => ?_) (fun _ => ?_)
  apply canon_deny
  assumption
  apply canon_complete
  refine canon_mk ?_ rfl rfl rfl
  assumption
  refine canon_ite (fun _ => ?_) (fun _ => ?_)
  apply canon_deny
  assumption
  refine canon_ite (fun _ => ?_) (fun _ => ?_)
  apply canon_complete
  apply canon_setCh
  apply_assumption
  assumption
  apply canon_complete
  assumption

theorem canon_overspeed {κ : LaneId} {l : LaneSt} (h : Canon κ l) (n : Nat) : Canon κ (LaneSt.overspeed l n) := by
  unfold LaneSt.overspeed
  refine canon_ite (fun _ => ?_) (fun _ => ?_)
  apply canon_fault
  assumption
  assumption

theorem canon_reversalStall {κ : LaneId} {l : LaneSt} (h : Canon κ l) (n : Nat) : Canon κ (LaneSt.reversalStall l n) := by
  unfold LaneSt.reversalStall
  split
  · exact canon_ite (fun _ => h) (fun _ => canon_fault h _ _)
  · exact h

end Sys2Proof.Machine
end

