-- ==== Sys2Proof/Laws/CanonSio.lean ====
section
/-!
SUPPORT. Every operation of Machine/Sio.lean keeps a lane sound.
-/

namespace Sys2Proof.Machine

open Sys2Proof LaneSt

theorem canon_xchgSend {κ : LaneId} {l : LaneSt} (h : Canon κ l) : Canon κ (LaneSt.xchgSend l) := by
  unfold LaneSt.xchgSend
  lift_lets
  intro x1
  clear_value x1
  intro x2
  clear_value x2
  apply canon_send
  apply canon_setSio
  assumption

theorem canon_xchgChanged {κ : LaneId} {l : LaneSt} (h : Canon κ l) : Canon κ (LaneSt.xchgChanged l) := by
  unfold LaneSt.xchgChanged
  refine canon_ite (fun _ => ?_) (fun _ => ?_)
  apply canon_xchgSend
  assumption
  assumption

theorem canon_sfSummary {κ : LaneId} {l : LaneSt} (h : Canon κ l) : Canon κ (LaneSt.sfSummary l) := by
  unfold LaneSt.sfSummary
  apply canon_wr
  apply canon_wr
  assumption
  decide
  decide

theorem canon_setSf {κ : LaneId} {l : LaneSt} (h : Canon κ l) (f : Nat) (st : Nat) : Canon κ (LaneSt.setSf l f st) := by
  unfold LaneSt.setSf
  refine canon_ite (fun _ => ?_) (fun _ => ?_)
  assumption
  apply canon_judgeOutputs
  apply canon_sfSummary
  apply canon_raise
  apply canon_wr
  assumption
  exact off_add (by decide)

theorem canon_sfCause {κ : LaneId} {l : LaneSt} (h : Canon κ l) (f : Nat) (cause : Nat) (m : Nat) : Canon κ (LaneSt.sfCause l f cause m) := by
  unfold LaneSt.sfCause
  apply canon_wr
  apply canon_wr
  assumption
  exact off_add (by decide)
  exact off_add (by decide)

theorem canon_denyGrant {κ : LaneId} {l : LaneSt} (h : Canon κ l) (f : Nat) (code : Nat) (arg : Nat) : Canon κ (LaneSt.denyGrant l f code arg) := by
  unfold LaneSt.denyGrant
  apply canon_setSio
  refine canon_foldl ?_ (fun _ _ _ => ?_)
  assumption
  apply canon_deny
  assumption

theorem canon_sfStopEnd {κ : LaneId} {l : LaneSt} (h : Canon κ l) (f : Nat) : Canon κ (LaneSt.sfStopEnd l f) := by
  unfold LaneSt.sfStopEnd
  lift_lets
  intro x1
  have h1 : Canon κ x1 := by
    unfold x1
    apply canon_wr
    assumption
    exact off_add (by decide)
  clear_value x1
  intro x2
  have h2 : Canon κ x2 := by
    unfold x2
    refine canon_foldl ?_ (fun _ _ _ => ?_)
    assumption
    refine canon_ite (fun _ => ?_) (fun _ => ?_)
    apply canon_stopEnd
    assumption
    assumption
  clear_value x2
  apply canon_raise
  apply canon_judgeOutputs
  assumption

theorem canon_sfStop {κ : LaneId} {l : LaneSt} (h : Canon κ l) (f : Nat) : Canon κ (LaneSt.sfStop l f) := by
  unfold LaneSt.sfStop
  lift_lets
  intro x1
  clear_value x1
  intro x2
  intro x3
  have h3 : Canon κ x3 := by
    unfold x3
    refine canon_foldl ?_ (fun _ _ _ => ?_)
    assumption
    lift_lets
    intro x4
    refine canon_ite (fun _ => ?_) (fun _ => ?_)
    assumption
    refine canon_ite (fun _ => ?_) (fun _ => ?_)
    apply canon_setComm
    apply canon_stopEntry
    assumption
    refine canon_ite (fun _ => ?_) (fun _ => ?_)
    apply canon_cut
    assumption
    refine canon_ite (fun _ => ?_) (fun _ => ?_)
    apply canon_windingK5
    assumption
    assumption
  clear_value x3
  intro x5
  clear_value x5
  intro x6
  have h6 : Canon κ x6 := by
    unfold x6
    refine canon_ite (fun _ => ?_) (fun _ => ?_)
    apply canon_raise
    apply canon_judgeOutputs
    apply canon_wr
    assumption
    exact off_add (by decide)
    assumption
  clear_value x6
  refine canon_ite (fun _ => ?_) (fun _ => ?_)
  assumption
  refine canon_mk ?_ rfl rfl rfl
  assumption

theorem canon_sfToDemand {κ : LaneId} {l : LaneSt} (h : Canon κ l) (f : Nat) (cause : Nat) (m : Nat) : Canon κ (LaneSt.sfToDemand l f cause m) := by
  unfold LaneSt.sfToDemand
  lift_lets
  intro x1
  clear_value x1
  intro x2
  have h2 : Canon κ x2 := by
    unfold x2
    apply canon_denyGrant
    apply canon_sfCause
    assumption
  clear_value x2
  intro x3
  have h3 : Canon κ x3 := by
    unfold x3
    apply canon_setSf
    assumption
  clear_value x3
  intro x4
  have h4 : Canon κ x4 := by
    unfold x4
    apply canon_wr
    apply canon_wr
    assumption
    exact off_add (by decide)
    exact off_add (by decide)
  clear_value x4
  intro x5
  have h5 : Canon κ x5 := by
    unfold x5
    apply canon_satInc
    apply canon_wrB
    assumption
    exact off_add (by decide)
    exact off_add (by decide)
  clear_value x5
  refine canon_ite (fun _ => ?_) (fun _ => ?_)
  assumption
  apply canon_fault
  apply canon_raise
  apply canon_judgeOutputs
  apply canon_sfStop
  assumption

theorem canon_sfToFault {κ : LaneId} {l : LaneSt} (h : Canon κ l) (f : Nat) (m : Nat) : Canon κ (LaneSt.sfToFault l f m) := by
  unfold LaneSt.sfToFault
  lift_lets
  intro x1
  have h1 : Canon κ x1 := by
    unfold x1
    apply canon_denyGrant
    apply canon_sfCause
    assumption
  clear_value x1
  intro x2
  have h2 : Canon κ x2 := by
    unfold x2
    apply canon_judgeOutputs
    apply canon_sfStop
    apply canon_satInc
    apply canon_setSf
    assumption
    exact off_add (by decide)
  clear_value x2
  apply canon_fault
  apply canon_raise
  assumption

theorem canon_evalSf {κ : LaneId} {l : LaneSt} (h : Canon κ l) (f : Nat) : Canon κ (LaneSt.evalSf l f) := by
  unfold LaneSt.evalSf
  refine canon_ite (fun _ => ?_) (fun _ => ?_)
  assumption
  lift_lets
  intro x1
  clear_value x1
  intro x2
  clear_value x2
  intro x3
  clear_value x3
  intro x4
  have h4 : Canon κ x4 := by
    unfold x4
    refine canon_ite (fun _ => ?_) (fun _ => ?_)
    apply canon_sfCause
    assumption
    assumption
  clear_value x4
  intro x5
  clear_value x5
  intro x6
  have h6 : Canon κ x6 := by
    unfold x6
    refine canon_ite (fun _ => ?_) (fun _ => ?_)
    apply canon_sfCause
    apply canon_wr
    assumption
    exact off_add (by decide)
    assumption
  clear_value x6
  intro x7
  have h7 : Canon κ x7 := by
    unfold x7
    apply canon_wr
    assumption
    exact off_add (by decide)
  clear_value x7
  intro x8
  have h8 : Canon κ x8 := by
    unfold x8
    refine canon_ite (fun _ => ?_) (fun _ => ?_)
    apply canon_wr
    assumption
    exact off_add (by decide)
    assumption
  clear_value x8
  intro x9
  clear_value x9
  refine canon_ite (fun _ => ?_) (fun _ => ?_)
  assumption
  refine canon_ite (fun _ => ?_) (fun _ => ?_)
  apply canon_sfToFault
  assumption
  refine canon_ite (fun _ => ?_) (fun _ => ?_)
  apply canon_sfToDemand
  assumption
  refine canon_ite (fun _ => ?_) (fun _ => ?_)
  apply canon_setSf
  assumption
  assumption

theorem canon_evalSafety {κ : LaneId} {l : LaneSt} (h : Canon κ l) : Canon κ (LaneSt.evalSafety l) := by
  unfold LaneSt.evalSafety
  apply canon_xchgChanged
  refine canon_foldl ?_ (fun _ _ _ => ?_)
  assumption
  apply canon_evalSf
  assumption

theorem canon_siFail {κ : LaneId} {l : LaneSt} (h : Canon κ l) (i : Nat) (cause : Nat) : Canon κ (LaneSt.siFail l i cause) := by
  unfold LaneSt.siFail
  refine canon_ite (fun _ => ?_) (fun _ => ?_)
  assumption
  apply canon_setSio
  apply canon_wr
  assumption
  decide

theorem canon_crossShort {κ : LaneId} {l : LaneSt} (h : Canon κ l) (i : Nat) : Canon κ (LaneSt.crossShort l i) := by
  unfold LaneSt.crossShort
  apply canon_fault
  apply canon_raise
  apply canon_siFail
  assumption

theorem canon_siTake {κ : LaneId} {l : LaneSt} (h : Canon κ l) (i : Nat) : Canon κ (LaneSt.siTake l i) := by
  unfold LaneSt.siTake
  apply canon_wr
  assumption
  decide

theorem canon_siChange {κ : LaneId} {l : LaneSt} (h : Canon κ l) (i : Nat) (level : Bool) (held : Nat) : Canon κ (LaneSt.siChange l i level held) := by
  unfold LaneSt.siChange
  lift_lets
  intro x1
  clear_value x1
  intro x2
  clear_value x2
  intro x3
  have h3 : Canon κ x3 := by
    unfold x3
    apply canon_wrB
    apply canon_wr
    apply canon_wr
    assumption
    exact off_add (by decide)
    exact off_add (by decide)
    exact off_add (by decide)
  clear_value x3
  intro x4
  clear_value x4
  intro x5
  clear_value x5
  intro x6
  have h6 : Canon κ x6 := by
    unfold x6
    apply canon_setSio
    apply canon_mailSi
    assumption
  clear_value x6
  refine canon_ite (fun _ => ?_) (fun _ => ?_)
  assumption
  refine canon_ite (fun _ => ?_) (fun _ => ?_)
  assumption
  apply canon_evalSafety
  apply canon_siTake
  apply canon_mailSi
  assumption

theorem canon_tpMid {κ : LaneId} {l : LaneSt} (h : Canon κ l) (t : Nat) : Canon κ (LaneSt.tpMid l t) := by
  unfold LaneSt.tpMid
  refine canon_ite (fun _ => ?_) (fun _ => ?_)
  assumption
  lift_lets
  intro x1
  have h1 : Canon κ x1 := by
    unfold x1
    apply canon_setSio
    assumption
  clear_value x1
  apply canon_evalSafety
  refine canon_foldl ?_ (fun _ _ _ => ?_)
  assumption
  refine canon_ite (fun _ => ?_) (fun _ => ?_)
  apply canon_crossShort
  assumption
  assumption

theorem canon_tpEnd {κ : LaneId} {l : LaneSt} (h : Canon κ l) (k : LaneId) (t : Nat) : Canon κ (LaneSt.tpEnd l k t) := by
  unfold LaneSt.tpEnd
  refine canon_ite (fun _ => ?_) (fun _ => ?_)
  assumption
  lift_lets
  intro x1
  have h1 : Canon κ x1 := by
    unfold x1
    refine canon_ite (fun _ => ?_) (fun _ => ?_)
    apply canon_wr
    assumption
    decide
    assumption
  clear_value x1
  intro x2
  clear_value x2
  intro x3
  have h3 : Canon κ x3 := by
    unfold x3
    apply canon_setSio
    assumption
  clear_value x3
  apply canon_evalSafety
  refine canon_foldl ?_ (fun _ _ _ => ?_)
  assumption
  refine canon_ite (fun _ => ?_) (fun _ => ?_)
  apply canon_siTake
  assumption
  refine canon_ite (fun _ => ?_) (fun _ => ?_)
  apply canon_crossShort
  assumption
  assumption

theorem canon_tpFault {κ : LaneId} {l : LaneSt} (h : Canon κ l) (t : Nat) : Canon κ (LaneSt.tpFault l t) := by
  unfold LaneSt.tpFault
  refine canon_ite (fun _ => ?_) (fun _ => ?_)
  assumption
  lift_lets
  intro x1
  have h1 : Canon κ x1 := by
    unfold x1
    apply canon_wr
    assumption
    decide
  clear_value x1
  intro x2
  have h2 : Canon κ x2 := by
    unfold x2
    refine canon_foldl ?_ (fun _ _ _ => ?_)
    assumption
    refine canon_ite (fun _ => ?_) (fun _ => ?_)
    apply canon_siFail
    assumption
    assumption
  clear_value x2
  apply canon_evalSafety
  apply canon_fault
  apply canon_raise
  assumption

theorem canon_xchgReceive {κ : LaneId} {l : LaneSt} (h : Canon κ l) (p : LaneId) (w : List Dword) : Canon κ (LaneSt.xchgReceive l p w) := by
  unfold LaneSt.xchgReceive
  lift_lets
  intro x1
  clear_value x1
  intro x2
  clear_value x2
  intro x3
  intro x4
  clear_value x4
  apply canon_evalSafety
  apply canon_setSio
  assumption

theorem canon_inputsLost {κ : LaneId} {l : LaneSt} (h : Canon κ l) (p : LaneId) : Canon κ (LaneSt.inputsLost l p) := by
  unfold LaneSt.inputsLost
  apply canon_evalSafety
  apply canon_setSio
  assumption

theorem canon_discrepancy {κ : LaneId} {l : LaneSt} (h : Canon κ l) (f : Nat) (pair : Nat) : Canon κ (LaneSt.discrepancy l f pair) := by
  unfold LaneSt.discrepancy
  lift_lets
  intro x1
  clear_value x1
  intro x2
  clear_value x2
  refine canon_ite (fun _ => ?_) (fun _ => ?_)
  assumption
  split
  assumption
  lift_lets
  intro x3
  clear_value x3
  refine canon_ite (fun _ => ?_) (fun _ => ?_)
  assumption
  apply canon_evalSafety
  apply canon_fault
  apply canon_raise
  apply canon_siFail
  assumption

theorem canon_syncExceeded {κ : LaneId} {l : LaneSt} (h : Canon κ l) (f : Nat) : Canon κ (LaneSt.syncExceeded l f) := by
  unfold LaneSt.syncExceeded
  lift_lets
  intro x1
  clear_value x1
  intro x2
  clear_value x2
  refine canon_ite (fun _ => ?_) (fun _ => ?_)
  assumption
  apply canon_xchgChanged
  apply canon_fault
  apply canon_sfToDemand
  assumption

theorem canon_permit {κ : LaneId} {l : LaneSt} (h : Canon κ l) (f : Nat) : Canon κ (LaneSt.permit l f) := by
  unfold LaneSt.permit
  refine canon_ite (fun _ => ?_) (fun _ => ?_)
  assumption
  lift_lets
  intro x1
  have h1 : Canon κ x1 := by
    unfold x1
    apply canon_setSf
    assumption
  clear_value x1
  intro x2
  have h2 : Canon κ x2 := by
    unfold x2
    refine canon_foldl ?_ (fun _ _ _ => ?_)
    assumption
    apply canon_complete
    assumption
  clear_value x2
  apply canon_xchgChanged
  apply canon_setSio
  assumption

theorem canon_soLatch {κ : LaneId} {l : LaneSt} (h : Canon κ l) (k : Nat) (code : Nat) : Canon κ (LaneSt.soLatch l k code) := by
  unfold LaneSt.soLatch
  lift_lets
  intro x1
  have h1 : Canon κ x1 := by
    unfold x1
    apply canon_wr
    apply canon_soOff
    assumption
    decide
  clear_value x1
  intro x2
  clear_value x2
  intro x3
  have h3 : Canon κ x3 := by
    unfold x3
    refine canon_ite (fun _ => ?_) (fun _ => ?_)
    apply canon_setDegrade
    assumption
    assumption
  clear_value x3
  intro x4
  have h4 : Canon κ x4 := by
    unfold x4
    apply canon_fault
    apply canon_raise
    assumption
  clear_value x4
  intro x5
  have h5 : Canon κ x5 := by
    unfold x5
    refine canon_ite (fun _ => ?_) (fun _ => ?_)
    apply canon_exclude
    assumption
    assumption
  clear_value x5
  apply canon_evalSafety
  assumption

theorem canon_edmConfirm {κ : LaneId} {l : LaneSt} (h : Canon κ l) (k : Nat) : Canon κ (LaneSt.edmConfirm l k) := by
  unfold LaneSt.edmConfirm
  lift_lets
  intro x1
  have h1 : Canon κ x1 := by
    unfold x1
    apply canon_wr
    assumption
    decide
  clear_value x1
  apply canon_xchgChanged
  apply canon_judgeOutput
  apply canon_setSio
  assumption

theorem canon_edmFault {κ : LaneId} {l : LaneSt} (h : Canon κ l) (k : Nat) : Canon κ (LaneSt.edmFault l k) := by
  unfold LaneSt.edmFault
  refine canon_ite (fun _ => ?_) (fun _ => ?_)
  assumption
  lift_lets
  intro x1
  have h1 : Canon κ x1 := by
    unfold x1
    apply canon_wr
    assumption
    decide
  clear_value x1
  intro x2
  have h2 : Canon κ x2 := by
    unfold x2
    apply canon_raise
    apply canon_wr
    assumption
    decide
  clear_value x2
  intro x3
  have h3 : Canon κ x3 := by
    unfold x3
    apply canon_setSio
    assumption
  clear_value x3
  apply canon_soLatch
  assumption

theorem canon_soTest {κ : LaneId} {l : LaneSt} (h : Canon κ l) (k : Nat) : Canon κ (LaneSt.soTest l k) := by
  unfold LaneSt.soTest
  refine canon_ite (fun _ => ?_) (fun _ => ?_)
  assumption
  apply canon_setSio
  assumption

theorem canon_soTestEnd {κ : LaneId} {l : LaneSt} (h : Canon κ l) (k : Nat) (ok : Bool) : Canon κ (LaneSt.soTestEnd l k ok) := by
  unfold LaneSt.soTestEnd
  split
  assumption
  refine canon_ite (fun _ => ?_) (fun _ => ?_)
  assumption
  lift_lets
  intro x1
  have h1 : Canon κ x1 := by
    unfold x1
    apply canon_setSio
    assumption
  clear_value x1
  refine canon_ite (fun _ => ?_) (fun _ => ?_)
  assumption
  apply canon_soLatch
  assumption

theorem canon_soClear {κ : LaneId} {l : LaneSt} (h : Canon κ l) (k : Nat) : Canon κ (LaneSt.soClear l k) := by
  unfold LaneSt.soClear
  lift_lets
  intro x1
  have h1 : Canon κ x1 := by
    unfold x1
    apply canon_wr
    assumption
    decide
  clear_value x1
  intro x2
  have h2 : Canon κ x2 := by
    unfold x2
    apply canon_wr
    assumption
    decide
  clear_value x2
  intro x3
  clear_value x3
  apply canon_setDegrade
  assumption

theorem canon_sfClear {κ : LaneId} {l : LaneSt} (h : Canon κ l) (f : Nat) : Canon κ (LaneSt.sfClear l f) := by
  unfold LaneSt.sfClear
  lift_lets
  intro x1
  clear_value x1
  intro x2
  have h2 : Canon κ x2 := by
    unfold x2
    refine canon_foldl ?_ (fun _ _ _ => ?_)
    assumption
    lift_lets
    intro x3
    intro x4
    clear_value x4
    intro x5
    have h5 : Canon κ x5 := by
      unfold x5
      apply canon_wr
      assumption
      decide
    clear_value x5
    refine canon_ite (fun _ => ?_) (fun _ => ?_)
    apply canon_setSio
    assumption
    refine canon_ite (fun _ => ?_) (fun _ => ?_)
    assumption
    refine canon_ite (fun _ => ?_) (fun _ => ?_)
    assumption
    apply canon_wr
    assumption
    decide
  clear_value x2
  refine canon_foldl ?_ (fun _ _ _ => ?_)
  assumption
  lift_lets
  intro x6
  have h6 : Canon κ x6 := by
    unfold x6
    apply canon_setSio
    assumption
  clear_value x6
  refine canon_ite (fun _ => ?_) (fun _ => ?_)
  assumption
  apply canon_soClear
  assumption

theorem canon_state_functionReset {κ : LaneId} {l : LaneSt} (h : Canon κ l) (s : State) (k : LaneId) (f : Nat) (d : Decided) : Canon κ (State.functionReset s k f d l) := by
  unfold State.functionReset
  lift_lets
  intro x1
  have h1 : Canon κ x1 := by
    unfold x1
    apply canon_setSio
    assumption
  clear_value x1
  intro x2
  clear_value x2
  intro x3
  intro x4
  clear_value x4
  intro x5
  have h5 : Canon κ x5 := by
    unfold x5
    apply canon_wr
    apply canon_wr
    apply canon_sfClear
    assumption
    exact off_add (by decide)
    exact off_add (by decide)
  clear_value x5
  intro x6
  have h6 : Canon κ x6 := by
    unfold x6
    refine canon_ite (fun _ => ?_) (fun _ => ?_)
    refine canon_ite (fun _ => ?_) (fun _ => ?_)
    apply canon_setSf
    assumption
    assumption
    refine canon_ite (fun _ => ?_) (fun _ => ?_)
    apply canon_sfClear
    assumption
    assumption
  clear_value x6
  intro x7
  clear_value x7
  intro x8
  have h8 : Canon κ x8 := by
    unfold x8
    apply canon_judgeOutputs
    apply canon_evalSf
    assumption
  clear_value x8
  intro x9
  have h9 : Canon κ x9 := by
    unfold x9
    refine canon_ite (fun _ => ?_) (fun _ => ?_)
    apply canon_deny
    assumption
    refine canon_ite (fun _ => ?_) (fun _ => ?_)
    apply canon_deny
    assumption
    apply canon_complete
    assumption
  clear_value x9
  refine canon_ite (fun _ => ?_) (fun _ => ?_)
  apply canon_xchgSend
  apply canon_okOutcome
  assumption
  refine canon_ite (fun _ => ?_) (fun _ => ?_)
  apply canon_xchgSend
  apply canon_setSio
  assumption
  apply canon_xchgSend
  assumption

theorem canon_state_outputReset {κ : LaneId} {l : LaneSt} (h : Canon κ l) (s : State) (j : LaneId) (k : Nat) (lanes : Nat) (d : Decided) : Canon κ (State.outputReset s j k lanes d l) := by
  unfold State.outputReset
  lift_lets
  intro x1
  clear_value x1
  intro x2
  have h2 : Canon κ x2 := by
    unfold x2
    apply canon_setSio
    assumption
  clear_value x2
  intro x3
  have h3 : Canon κ x3 := by
    unfold x3
    refine canon_ite (fun _ => ?_) (fun _ => ?_)
    apply canon_judgeOutput
    apply canon_soClear
    assumption
    assumption
  clear_value x3
  intro x4
  have h4 : Canon κ x4 := by
    unfold x4
    refine canon_ite (fun _ => ?_) (fun _ => ?_)
    apply canon_deny
    assumption
    apply canon_complete
    assumption
  clear_value x4
  apply canon_xchgSend
  assumption

theorem canon_state_safetyReset {κ : LaneId} {l : LaneSt} (h : Canon κ l) (s : State) (k : LaneId) (index : Nat) (lanes : Nat) (d : Decided) : Canon κ (State.safetyReset s k index lanes d l) := by
  unfold State.safetyReset
  refine canon_ite (fun _ => ?_) (fun _ => ?_)
  refine canon_ite (fun _ => ?_) (fun _ => ?_)
  apply canon_complete
  assumption
  apply canon_state_functionReset
  assumption
  refine canon_ite (fun _ => ?_) (fun _ => ?_)
  apply canon_complete
  assumption
  apply canon_state_outputReset
  assumption

end Sys2Proof.Machine
end

