-- ==== Sys2Proof/Laws/CanonVote.lean ====
section
/-!
SUPPORT. Every operation of Machine/Vote.lean keeps a lane sound.
-/

namespace Sys2Proof.Machine

open Sys2Proof LaneSt

theorem off_linkF (l : LaneSt) (p : LaneId) : 4096 ≤ (LaneSt.linkF l p).off := by
  unfold LaneSt.linkF
  split
  decide
  decide

theorem off_aliveF (l : LaneSt) (p : LaneId) : 4096 ≤ (LaneSt.aliveF l p).off := by
  unfold LaneSt.aliveF
  split
  decide
  decide

theorem off_disagreeF (l : LaneSt) (p : LaneId) : 4096 ≤ (LaneSt.disagreeF l p).off := by
  unfold LaneSt.disagreeF
  split
  decide
  decide

theorem canon_showLink {κ : LaneId} {l : LaneSt} (h : Canon κ l) (p : LaneId) : Canon κ (LaneSt.showLink l p) := by
  unfold LaneSt.showLink
  lift_lets
  intro x1
  clear_value x1
  intro x2
  have h2 : Canon κ x2 := by
    unfold x2
    apply canon_wr
    assumption
    apply off_linkF
  clear_value x2
  intro x3
  have h3 : Canon κ x3 := by
    unfold x3
    apply canon_setDegrade
    assumption
  clear_value x3
  apply canon_setBlk
  assumption

theorem canon_holdRef {κ : LaneId} {l : LaneSt} (h : Canon κ l) (b : Bool) : Canon κ (LaneSt.holdRef l b) := by
  unfold LaneSt.holdRef
  refine canon_ite (fun _ => ?_) (fun _ => ?_)
  assumption
  refine canon_ite (fun _ => ?_) (fun _ => ?_)
  lift_lets
  intro x1
  have h1 : Canon κ x1 := by
    unfold x1
    apply canon_raise
    apply canon_wr
    assumption
    decide
  clear_value x1
  intro x2
  clear_value x2
  refine canon_mk ?_ rfl rfl rfl
  assumption
  lift_lets
  intro x3
  clear_value x3
  intro x4
  have h4 : Canon κ x4 := by
    unfold x4
    apply canon_wr
    apply canon_wr
    assumption
    decide
    decide
  clear_value x4
  intro x5
  clear_value x5
  refine canon_mk ?_ rfl rfl rfl
  assumption

theorem canon_excludePeer {κ : LaneId} {l : LaneSt} (h : Canon κ l) (p : LaneId) (cause : Nat) : Canon κ (LaneSt.excludePeer l p cause) := by
  unfold LaneSt.excludePeer
  lift_lets
  intro x1
  clear_value x1
  intro x2
  intro x3
  have h3 : Canon κ x3 := by
    unfold x3
    apply canon_setPeer
    apply canon_noteExclusion
    assumption
  clear_value x3
  intro x4
  clear_value x4
  intro x5
  have h5 : Canon κ x5 := by
    unfold x5
    refine canon_mk ?_ rfl rfl rfl
    assumption
  clear_value x5
  refine canon_ite (fun _ => ?_) (fun _ => ?_)
  assumption
  apply canon_setBlk
  assumption

theorem canon_requestExclusion {κ : LaneId} {l : LaneSt} (h : Canon κ l) (p : LaneId) (cause : Nat) : Canon κ (LaneSt.requestExclusion l p cause) := by
  unfold LaneSt.requestExclusion
  refine canon_ite (fun _ => ?_) (fun _ => ?_)
  assumption
  refine canon_mk ?_ rfl rfl rfl
  assumption

theorem canon_aliveStop {κ : LaneId} {l : LaneSt} (h : Canon κ l) (p : LaneId) : Canon κ (LaneSt.aliveStop l p) := by
  unfold LaneSt.aliveStop
  refine canon_ite (fun _ => ?_) (fun _ => ?_)
  assumption
  lift_lets
  intro x1
  have h1 : Canon κ x1 := by
    unfold x1
    apply canon_wr
    assumption
    apply off_aliveF
  clear_value x1
  intro x2
  have h2 : Canon κ x2 := by
    unfold x2
    refine canon_ite (fun _ => ?_) (fun _ => ?_)
    apply canon_holdRef
    assumption
    assumption
  clear_value x2
  apply canon_inputsLost
  apply canon_excludePeer
  assumption

theorem canon_enterSafe {κ : LaneId} {l : LaneSt} (h : Canon κ l) (cause : Nat) : Canon κ (LaneSt.enterSafe l cause) := by
  unfold LaneSt.enterSafe
  refine canon_ite (fun _ => ?_) (fun _ => ?_)
  assumption
  lift_lets
  intro x1
  have h1 : Canon κ x1 := by
    unfold x1
    apply canon_wr
    apply canon_wr
    apply canon_wr
    assumption
    decide
    decide
    decide
  clear_value x1
  intro x2
  clear_value x2
  intro x3
  have h3 : Canon κ x3 := by
    unfold x3
    refine canon_mk ?_ rfl rfl rfl
    assumption
  clear_value x3
  intro x4
  have h4 : Canon κ x4 := by
    unfold x4
    apply canon_outputsOff
    refine canon_foldl ?_ (fun _ _ _ => ?_)
    assumption
    apply canon_toFaulted
    assumption
  clear_value x4
  intro x5
  have h5 : Canon κ x5 := by
    unfold x5
    refine canon_foldl ?_ (fun _ _ _ => ?_)
    assumption
    refine canon_ite (fun _ => ?_) (fun _ => ?_)
    assumption
    apply canon_sfCause
    assumption
  clear_value x5
  apply canon_raise
  apply canon_raise
  assumption

theorem canon_attribute {κ : LaneId} {l : LaneSt} (h : Canon κ l) (triple : Bool) : Canon κ (LaneSt.attribute l triple) := by
  unfold LaneSt.attribute
  refine canon_ite (fun _ => ?_) (fun _ => ?_)
  assumption
  lift_lets
  intro x1
  have h1 : Canon κ x1 := by
    unfold x1
    apply canon_holdRef
    apply canon_satInc
    apply canon_wr
    assumption
    decide
    decide
  clear_value x1
  intro x2
  clear_value x2
  refine canon_mk ?_ rfl rfl rfl
  assumption

theorem canon_attributionEnd {κ : LaneId} {l : LaneSt} (h : Canon κ l) (checks : Nat) : Canon κ (LaneSt.attributionEnd l checks) := by
  unfold LaneSt.attributionEnd
  refine canon_ite (fun _ => ?_) (fun _ => ?_)
  assumption
  lift_lets
  intro x1
  clear_value x1
  intro x2
  have h2 : Canon κ x2 := by
    unfold x2
    apply canon_wr
    assumption
    decide
  clear_value x2
  intro x3
  clear_value x3
  intro x4
  have h4 : Canon κ x4 := by
    unfold x4
    refine canon_mk ?_ rfl rfl rfl
    assumption
  clear_value x4
  intro x5
  have h5 : Canon κ x5 := by
    unfold x5
    refine canon_foldl ?_ (fun _ _ _ => ?_)
    assumption
    apply canon_setPeer
    assumption
  clear_value x5
  intro x6
  have h6 : Canon κ x6 := by
    unfold x6
    apply canon_send
    assumption
  clear_value x6
  intro x7
  have h7 : Canon κ x7 := by
    unfold x7
    apply canon_exclude
    assumption
  clear_value x7
  intro x8
  clear_value x8
  intro x9
  clear_value x9
  refine canon_ite (fun _ => ?_) (fun _ => ?_)
  refine canon_ite (fun _ => ?_) (fun _ => ?_)
  apply canon_enterSafe
  assumption
  refine canon_mk ?_ rfl rfl rfl
  assumption
  refine canon_ite (fun _ => ?_) (fun _ => ?_)
  refine canon_mk ?_ rfl rfl rfl
  assumption
  refine canon_ite (fun _ => ?_) (fun _ => ?_)
  assumption
  apply canon_enterSafe
  assumption

theorem canon_forceDirect {κ : LaneId} {l : LaneSt} (h : Canon κ l) : Canon κ (LaneSt.forceDirect l) := by
  unfold LaneSt.forceDirect
  refine canon_foldl ?_ (fun _ _ _ => ?_)
  assumption
  refine canon_ite (fun _ => ?_) (fun _ => ?_)
  refine canon_mk ?_ rfl rfl rfl
  assumption
  assumption

theorem canon_frameTo {κ : LaneId} {l : LaneSt} (h : Canon κ l) (p : LaneId) : Canon κ (LaneSt.frameTo l p).2 := by
  unfold LaneSt.frameTo
  lift_lets
  intro x1
  clear_value x1
  split
  dsimp only
  assumption
  split
  dsimp only
  assumption
  dsimp only
  apply canon_setPeer
  assumption

theorem canon_sendFrames {κ : LaneId} {l : LaneSt} (h : Canon κ l) : Canon κ (LaneSt.sendFrames l) := by
  unfold LaneSt.sendFrames
  lift_lets
  intro x1
  have h1 : Canon κ x1.2 := by
    unfold x1
    apply canon_frameTo
    assumption
  clear_value x1
  intro x2
  have h2 : Canon κ x2.2 := by
    unfold x2
    apply canon_frameTo
    assumption
  clear_value x2
  intro x3
  have h3 : Canon κ x3 := by
    unfold x3
    assumption
  clear_value x3
  intro x4
  clear_value x4
  refine canon_mk ?_ rfl rfl rfl
  assumption

theorem canon_noteBlock {κ : LaneId} {l : LaneSt} (h : Canon κ l) (p : LaneId) (f : CycleFrame) : Canon κ (LaneSt.noteBlock l p f) := by
  unfold LaneSt.noteBlock
  apply canon_setBlk
  assumption

theorem canon_noteSelf {κ : LaneId} {l : LaneSt} (h : Canon κ l) (p : LaneId) (f : CycleFrame) : Canon κ (LaneSt.noteSelf l p f) := by
  unfold LaneSt.noteSelf
  lift_lets
  intro x1
  clear_value x1
  intro x2
  have h2 : Canon κ x2 := by
    unfold x2
    refine canon_ite (fun _ => ?_) (fun _ => ?_)
    apply canon_setBlk
    assumption
    assumption
  clear_value x2
  intro x3
  have h3 : Canon κ x3 := by
    unfold x3
    refine canon_ite (fun _ => ?_) (fun _ => ?_)
    apply canon_setBlk
    assumption
    assumption
  clear_value x3
  intro x4
  clear_value x4
  intro x5
  have h5 : Canon κ x5 := by
    unfold x5
    refine canon_ite (fun _ => ?_) (fun _ => ?_)
    apply canon_setBlk
    assumption
    assumption
  clear_value x5
  intro x6
  clear_value x6
  intro x7
  have h7 : Canon κ x7 := by
    unfold x7
    refine canon_ite (fun _ => ?_) (fun _ => ?_)
    refine canon_mk ?_ rfl rfl rfl
    assumption
    assumption
  clear_value x7
  refine canon_ite (fun _ => ?_) (fun _ => ?_)
  assumption
  apply canon_setPeer
  assumption

theorem canon_frameReceive {κ : LaneId} {l : LaneSt} (h : Canon κ l) (p : LaneId) (f : CycleFrame) : Canon κ (LaneSt.frameReceive l p f) := by
  unfold LaneSt.frameReceive
  lift_lets
  intro x1
  clear_value x1
  intro x2
  have h2 : Canon κ x2 := by
    unfold x2
    apply canon_setPeer
    apply canon_noteSelf
    apply canon_noteBlock
    apply canon_acked
    assumption
  clear_value x2
  intro x3
  clear_value x3
  refine canon_ite (fun _ => ?_) (fun _ => ?_)
  assumption
  refine canon_ite (fun _ => ?_) (fun _ => ?_)
  apply canon_setPeer
  assumption
  refine canon_ite (fun _ => ?_) (fun _ => ?_)
  apply canon_setPeer
  assumption
  assumption

theorem canon_retransmit {κ : LaneId} {l : LaneSt} (h : Canon κ l) : Canon κ (LaneSt.retransmit l) := by
  unfold LaneSt.retransmit
  split
  assumption
  refine canon_mk ?_ rfl rfl rfl
  assumption

theorem canon_failLink {κ : LaneId} {l : LaneSt} (h : Canon κ l) (p : LaneId) (spare : Bool) : Canon κ (LaneSt.failLink l p spare) := by
  unfold LaneSt.failLink
  lift_lets
  intro x1
  have h1 : Canon κ x1 := by
    unfold x1
    apply canon_setPeer
    assumption
  clear_value x1
  intro x2
  clear_value x2
  intro x3
  have h3 : Canon κ x3 := by
    unfold x3
    refine canon_mk ?_ rfl rfl rfl
    assumption
  clear_value x3
  intro x4
  have h4 : Canon κ x4 := by
    unfold x4
    apply canon_fault
    apply canon_showLink
    apply canon_satInc
    assumption
    decide
  clear_value x4
  refine canon_ite (fun _ => ?_) (fun _ => ?_)
  apply canon_spareUsed
  assumption
  assumption

theorem canon_doxelLost {κ : LaneId} {l : LaneSt} (h : Canon κ l) (p : LaneId) : Canon κ (LaneSt.doxelLost l p) := by
  unfold LaneSt.doxelLost
  lift_lets
  intro x1
  have h1 : Canon κ x1 := by
    unfold x1
    apply canon_fault
    assumption
  clear_value x1
  intro x2
  refine canon_ite (fun _ => ?_) (fun _ => ?_)
  assumption
  refine canon_ite (fun _ => ?_) (fun _ => ?_)
  apply canon_exclude
  assumption
  refine canon_ite (fun _ => ?_) (fun _ => ?_)
  apply canon_excludePeer
  assumption
  assumption

theorem canon_judgeLinks {κ : LaneId} {l : LaneSt} (h : Canon κ l) (p : LaneId) : Canon κ (LaneSt.judgeLinks l p) := by
  unfold LaneSt.judgeLinks
  refine canon_ite (fun _ => ?_) (fun _ => ?_)
  assumption
  lift_lets
  intro x1
  clear_value x1
  intro x2
  clear_value x2
  intro x3
  have h3 : Canon κ x3 := by
    unfold x3
    apply canon_setPeer
    assumption
  clear_value x3
  intro x4
  have h4 : Canon κ x4 := by
    unfold x4
    refine canon_ite (fun _ => ?_) (fun _ => ?_)
    apply canon_send
    assumption
    assumption
  clear_value x4
  intro x5
  have h5 : Canon κ x5 := by
    unfold x5
    refine canon_ite (fun _ => ?_) (fun _ => ?_)
    apply canon_failLink
    assumption
    assumption
  clear_value x5
  intro x6
  have h6 : Canon κ x6 := by
    unfold x6
    refine canon_ite (fun _ => ?_) (fun _ => ?_)
    apply canon_failLink
    assumption
    assumption
  clear_value x6
  refine canon_ite (fun _ => ?_) (fun _ => ?_)
  apply canon_doxelLost
  assumption
  assumption

theorem canon_lossReceive {κ : LaneId} {l : LaneSt} (h : Canon κ l) (p : LaneId) (lost : LaneId) : Canon κ (LaneSt.lossReceive l p lost) := by
  unfold LaneSt.lossReceive
  lift_lets
  intro x1
  clear_value x1
  intro x2
  have h2 : Canon κ x2 := by
    unfold x2
    refine canon_mk ?_ rfl rfl rfl
    assumption
  clear_value x2
  intro x3
  have h3 : Canon κ x3 := by
    unfold x3
    refine canon_ite (fun _ => ?_) (fun _ => ?_)
    apply canon_holdRef
    assumption
    assumption
  clear_value x3
  refine canon_ite (fun _ => ?_) (fun _ => ?_)
  apply canon_doxelLost
  apply canon_showLink
  apply canon_setPeer
  assumption
  assumption

theorem canon_takeBackLinks {κ : LaneId} {l : LaneSt} (h : Canon κ l) (p : LaneId) : Canon κ (LaneSt.takeBackLinks l p) := by
  unfold LaneSt.takeBackLinks
  lift_lets
  intro x1
  clear_value x1
  refine canon_ite (fun _ => ?_) (fun _ => ?_)
  assumption
  apply canon_showLink
  apply canon_setPeer
  assumption

theorem canon_reportProofs {κ : LaneId} {l : LaneSt} (h : Canon κ l) (fs : List (LaneId × CycleFrame)) : Canon κ (LaneSt.reportProofs l fs) := by
  unfold LaneSt.reportProofs
  refine canon_foldl ?_ (fun _ _ _ => ?_)
  assumption
  refine canon_ite (fun _ => ?_) (fun _ => ?_)
  apply canon_sendTo
  assumption
  assumption

theorem canon_proofResult {κ : LaneId} {l : LaneSt} (h : Canon κ l) (p : LaneId) (injector : LaneId) (disagreeing : Bool) : Canon κ (LaneSt.proofResult l p injector disagreeing) := by
  unfold LaneSt.proofResult
  refine canon_ite (fun _ => ?_) (fun _ => ?_)
  assumption
  lift_lets
  intro x1
  have h1 : Canon κ x1 := by
    unfold x1
    apply canon_setPeer
    assumption
  clear_value x1
  refine canon_ite (fun _ => ?_) (fun _ => ?_)
  assumption
  apply canon_fault
  apply canon_requestExclusion
  assumption

theorem canon_countVote {κ : LaneId} {l : LaneSt} (h : Canon κ l) (k : LaneId) (dis : Bool) : Canon κ (LaneSt.countVote l k dis) := by
  unfold LaneSt.countVote
  lift_lets
  intro x1
  clear_value x1
  intro x2
  clear_value x2
  intro x3
  have h3 : Canon κ x3 := by
    unfold x3
    refine canon_ite (fun _ => ?_) (fun _ => ?_)
    refine canon_mk ?_ rfl rfl rfl
    assumption
    apply canon_setPeer
    assumption
  clear_value x3
  intro x4
  have h4 : Canon κ x4 := by
    unfold x4
    apply canon_setBlk
    assumption
  clear_value x4
  intro x5
  have h5 : Canon κ x5 := by
    unfold x5
    refine canon_ite (fun _ => ?_) (fun _ => ?_)
    assumption
    apply canon_satInc
    assumption
    apply off_disagreeF
  clear_value x5
  refine canon_ite (fun _ => ?_) (fun _ => ?_)
  assumption
  refine canon_ite (fun _ => ?_) (fun _ => ?_)
  apply canon_fault
  assumption
  assumption

theorem canon_shadowVote {κ : LaneId} {l : LaneSt} (h : Canon κ l) (vs : List (Nat × ChVote)) (k : LaneId) (f : Option CycleFrame) : Canon κ (LaneSt.shadowVote l vs k f) := by
  unfold LaneSt.shadowVote
  split
  assumption
  lift_lets
  intro x1
  clear_value x1
  apply canon_setBlk
  assumption

theorem canon_countNoMaj {κ : LaneId} {l : LaneSt} (h : Canon κ l) (b : Bool) : Canon κ (LaneSt.countNoMaj l b) := by
  unfold LaneSt.countNoMaj
  refine canon_ite (fun _ => ?_) (fun _ => ?_)
  refine canon_mk ?_ rfl rfl rfl
  assumption
  lift_lets
  intro x1
  clear_value x1
  intro x2
  have h2 : Canon κ x2 := by
    unfold x2
    apply canon_satInc
    assumption
    decide
  clear_value x2
  intro x3
  clear_value x3
  intro x4
  have h4 : Canon κ x4 := by
    unfold x4
    refine canon_mk ?_ rfl rfl rfl
    assumption
  clear_value x4
  refine canon_ite (fun _ => ?_) (fun _ => ?_)
  apply canon_attribute
  apply canon_fault
  assumption
  assumption

theorem canon_judgeEstablished {κ : LaneId} {l : LaneSt} (h : Canon κ l) : Canon κ (LaneSt.judgeEstablished l) := by
  unfold LaneSt.judgeEstablished
  lift_lets
  intro x1
  clear_value x1
  refine canon_ite (fun _ => ?_) (fun _ => ?_)
  assumption
  refine canon_ite (fun _ => ?_) (fun _ => ?_)
  apply canon_attribute
  assumption
  refine canon_ite (fun _ => ?_) (fun _ => ?_)
  apply canon_exclude
  assumption
  refine canon_foldl ?_ (fun _ _ _ => ?_)
  assumption
  apply canon_requestExclusion
  assumption

theorem canon_judgeRequests {κ : LaneId} {l : LaneSt} (h : Canon κ l) : Canon κ (LaneSt.judgeRequests l) := by
  unfold LaneSt.judgeRequests
  lift_lets
  intro x1
  clear_value x1
  intro x2
  have h2 : ∀ (a0 : _) (a1 : _) (a2 : LaneSt), Canon κ a2 → Canon κ (x2 a0 a1 a2) := by
    unfold x2
    intro _
    intro _
    intro _
    intro _
    refine canon_ite (fun _ => ?_) (fun _ => ?_)
    apply canon_excludePeer
    apply canon_holdRef
    assumption
    assumption
  clear_value x2
  intro x3
  clear_value x3
  refine canon_ite (fun _ => ?_) (fun _ => ?_)
  assumption
  refine canon_ite (fun _ => ?_) (fun _ => ?_)
  refine canon_ite (fun _ => ?_) (fun _ => ?_)
  apply canon_exclude
  assumption
  apply_assumption
  apply_assumption
  assumption
  refine canon_ite (fun _ => ?_) (fun _ => ?_)
  apply canon_attribute
  refine canon_mk ?_ rfl rfl rfl
  assumption
  assumption

theorem canon_setVoted {κ : LaneId} {l : LaneSt} (h : Canon κ l) (vs : List (Nat × ChVote)) : Canon κ (LaneSt.setVoted l vs) := by
  unfold LaneSt.setVoted
  refine canon_mk ?_ rfl rfl rfl
  assumption

theorem canon_noteLeavers {κ : LaneId} {l : LaneSt} (h : Canon κ l) : Canon κ (LaneSt.noteLeavers l) := by
  unfold LaneSt.noteLeavers
  refine canon_foldl ?_ (fun _ _ _ => ?_)
  assumption
  split
  assumption
  refine canon_ite (fun _ => ?_) (fun _ => ?_)
  apply canon_excludePeer
  assumption
  assumption

theorem canon_voteCompute {κ : LaneId} {l : LaneSt} (h : Canon κ l) : Canon κ (LaneSt.voteCompute l) := by
  unfold LaneSt.voteCompute
  refine canon_ite (fun _ => ?_) (fun _ => ?_)
  assumption
  lift_lets
  intro x1
  clear_value x1
  intro x2
  have h2 : Canon κ x2 := by
    unfold x2
    refine canon_mk ?_ rfl rfl rfl
    assumption
  clear_value x2
  intro x3
  have h3 : Canon κ x3 := by
    unfold x3
    apply canon_noteLeavers
    refine canon_ite (fun _ => ?_) (fun _ => ?_)
    assumption
    refine canon_foldl ?_ (fun _ _ _ => ?_)
    assumption
    apply canon_judgeLinks
    assumption
  clear_value x3
  intro x4
  clear_value x4
  intro x5
  clear_value x5
  intro x6
  clear_value x6
  intro x7
  clear_value x7
  intro x8
  clear_value x8
  intro x9
  clear_value x9
  intro x10
  have h10 : Canon κ x10 := by
    unfold x10
    apply canon_reportProofs
    apply canon_setVoted
    assumption
  clear_value x10
  intro x11
  have h11 : Canon κ x11 := by
    unfold x11
    refine canon_ite (fun _ => ?_) (fun _ => ?_)
    apply canon_shadowVote
    assumption
    assumption
  clear_value x11
  intro x12
  have h12 : Canon κ x12 := by
    unfold x12
    refine canon_foldl ?_ (fun _ _ _ => ?_)
    assumption
    refine canon_ite (fun _ => ?_) (fun _ => ?_)
    apply canon_shadowVote
    assumption
    assumption
  clear_value x12
  intro x13
  have h13 : Canon κ x13 := by
    unfold x13
    refine canon_foldl ?_ (fun _ _ _ => ?_)
    assumption
    apply canon_countVote
    assumption
  clear_value x13
  intro x14
  have h14 : Canon κ x14 := by
    unfold x14
    refine canon_ite (fun _ => ?_) (fun _ => ?_)
    apply canon_judgeRequests
    apply canon_judgeEstablished
    apply canon_countNoMaj
    assumption
    assumption
  clear_value x14
  intro x15
  clear_value x15
  intro x16
  clear_value x16
  intro x17
  have h17 : Canon κ x17 := by
    unfold x17
    refine canon_ite (fun _ => ?_) (fun _ => ?_)
    refine canon_ite (fun _ => ?_) (fun _ => ?_)
    apply canon_enterSafe
    assumption
    refine canon_mk ?_ rfl rfl rfl
    assumption
    assumption
  clear_value x17
  intro x18
  have h18 : Canon κ x18 := by
    unfold x18
    apply canon_holdRef
    assumption
  clear_value x18
  intro x19
  clear_value x19
  refine canon_ite (fun _ => ?_) (fun _ => ?_)
  assumption
  refine canon_ite (fun _ => ?_) (fun _ => ?_)
  assumption
  refine canon_ite (fun _ => ?_) (fun _ => ?_)
  refine canon_ite (fun _ => ?_) (fun _ => ?_)
  refine canon_mk ?_ rfl rfl rfl
  assumption
  assumption
  refine canon_ite (fun _ => ?_) (fun _ => ?_)
  apply canon_holdRef
  assumption
  refine canon_mk ?_ rfl rfl rfl
  assumption

theorem canon_stopAll {κ : LaneId} {l : LaneSt} (h : Canon κ l) (cause : Nat) (cat : Nat) : Canon κ (LaneSt.stopAll l cause cat) := by
  unfold LaneSt.stopAll
  lift_lets
  intro x1
  clear_value x1
  intro x2
  have h2 : Canon κ x2 := by
    unfold x2
    refine canon_foldl ?_ (fun _ _ _ => ?_)
    assumption
    apply canon_stopEntry
    assumption
  clear_value x2
  intro x3
  clear_value x3
  intro x4
  have h4 : Canon κ x4 := by
    unfold x4
    refine canon_ite (fun _ => ?_) (fun _ => ?_)
    assumption
    apply canon_raise
    refine canon_mk ?_ rfl rfl rfl
    assumption
  clear_value x4
  refine canon_ite (fun _ => ?_) (fun _ => ?_)
  apply canon_judgeOutputs
  apply canon_wr
  assumption
  decide
  apply canon_wr
  assumption
  decide

theorem canon_stopDone {κ : LaneId} {l : LaneSt} (h : Canon κ l) : Canon κ (LaneSt.stopDone l) := by
  unfold LaneSt.stopDone
  refine canon_ite (fun _ => ?_) (fun _ => ?_)
  assumption
  lift_lets
  intro x1
  clear_value x1
  intro x2
  have h2 : Canon κ x2 := by
    unfold x2
    refine canon_foldl ?_ (fun _ _ _ => ?_)
    assumption
    refine canon_ite (fun _ => ?_) (fun _ => ?_)
    apply canon_stopEnd
    assumption
    assumption
  clear_value x2
  apply canon_raise
  apply canon_judgeOutputs
  apply canon_wr
  assumption
  decide

theorem canon_stopsEnd {κ : LaneId} {l : LaneSt} (h : Canon κ l) (force : Bool) : Canon κ (LaneSt.stopsEnd l force) := by
  unfold LaneSt.stopsEnd
  lift_lets
  intro x1
  have h1 : Canon κ x1 := by
    unfold x1
    refine canon_foldl ?_ (fun _ _ _ => ?_)
    assumption
    refine canon_ite (fun _ => ?_) (fun _ => ?_)
    apply canon_sfStopEnd
    assumption
    assumption
  clear_value x1
  refine canon_ite (fun _ => ?_) (fun _ => ?_)
  apply canon_stopDone
  assumption
  assumption

theorem canon_judgeK1 {κ : LaneId} {l : LaneSt} (h : Canon κ l) (due : Bool) : Canon κ (LaneSt.judgeK1 l due) := by
  unfold LaneSt.judgeK1
  refine canon_foldl ?_ (fun _ _ _ => ?_)
  assumption
  refine canon_ite (fun _ => ?_) (fun _ => ?_)
  assumption
  apply canon_replanSame
  apply canon_showLimits
  apply canon_setComm
  assumption

end Sys2Proof.Machine
end

