-- ==== Sys2Proof/Laws/CanonTime.lean ====
section
/-!
SUPPORT. Every operation of Machine/Time.lean keeps a lane sound.
-/

namespace Sys2Proof.Machine

open Sys2Proof LaneSt

theorem canon_netClock {κ : LaneId} {l : LaneSt} (h : Canon κ l) : Canon κ (LaneSt.netClock l) := by
  unfold LaneSt.netClock
  refine canon_ite (fun _ => ?_) (fun _ => ?_)
  assumption
  lift_lets
  intro x1
  clear_value x1
  intro x2
  have h2 : Canon κ x2 := by
    unfold x2
    refine canon_mk ?_ rfl rfl rfl
    assumption
  clear_value x2
  apply canon_gateClock
  refine canon_foldl ?_ (fun _ _ _ => ?_)
  assumption
  refine canon_ite (fun _ => ?_) (fun _ => ?_)
  assumption
  apply canon_setVel
  assumption

theorem canon_setSource {κ : LaneId} {l : LaneSt} (h : Canon κ l) (src : Nat) : Canon κ (LaneSt.setSource l src) := by
  unfold LaneSt.setSource
  lift_lets
  intro x1
  clear_value x1
  intro x2
  have h2 : Canon κ x2 := by
    unfold x2
    refine canon_ite (fun _ => ?_) (fun _ => ?_)
    assumption
    apply canon_raise
    apply canon_wr
    assumption
    decide
  clear_value x2
  refine canon_ite (fun _ => ?_) (fun _ => ?_)
  assumption
  refine canon_foldl ?_ (fun _ _ _ => ?_)
  apply canon_raise
  apply canon_wr
  assumption
  decide
  apply canon_showPlanEnd
  assumption

theorem canon_servo {κ : LaneId} {l : LaneSt} (h : Canon κ l) (t : Int) : Canon κ (LaneSt.servo l t) := by
  unfold LaneSt.servo
  lift_lets
  intro x1
  have h1 : Canon κ x1.2 := by
    unfold x1
    apply canon_fresh
    assumption
  clear_value x1
  intro x2
  clear_value x2
  intro x3
  clear_value x3
  intro x4
  clear_value x4
  apply canon_wrI
  assumption
  decide

theorem canon_trackRate {κ : LaneId} {l : LaneSt} (h : Canon κ l) : Canon κ (LaneSt.trackRate l) := by
  unfold LaneSt.trackRate
  lift_lets
  intro x1
  have h1 : Canon κ x1.2 := by
    unfold x1
    apply canon_fresh
    assumption
  clear_value x1
  intro x2
  clear_value x2
  intro x3
  have h3 : Canon κ x3 := by
    unfold x3
    apply canon_wrI
    assumption
    decide
  clear_value x3
  intro x4
  clear_value x4
  refine canon_mk ?_ rfl rfl rfl
  assumption

theorem canon_judgeStep {κ : LaneId} {l : LaneSt} (h : Canon κ l) (t : Int) : Canon κ (LaneSt.judgeStep l t) := by
  unfold LaneSt.judgeStep
  lift_lets
  intro x1
  clear_value x1
  intro x2
  clear_value x2
  intro x3
  have h3 : Canon κ x3 := by
    unfold x3
    refine canon_mk ?_ rfl rfl rfl
    assumption
  clear_value x3
  intro x4
  have h4 : Canon κ x4 := by
    unfold x4
    refine canon_ite (fun _ => ?_) (fun _ => ?_)
    apply canon_wr
    assumption
    decide
    assumption
  clear_value x4
  intro x5
  clear_value x5
  refine canon_ite (fun _ => ?_) (fun _ => ?_)
  refine canon_ite (fun _ => ?_) (fun _ => ?_)
  assumption
  apply canon_fault
  apply canon_wr
  assumption
  decide
  refine canon_mk ?_ rfl rfl rfl
  assumption

theorem canon_steer {κ : LaneId} {l : LaneSt} (h : Canon κ l) : Canon κ (LaneSt.steer l) := by
  unfold LaneSt.steer
  split
  assumption
  apply canon_judgeStep
  apply canon_servo
  assumption

theorem canon_stepBy {κ : LaneId} {l : LaneSt} (h : Canon κ l) (t : Int) : Canon κ (LaneSt.stepBy l t) := by
  unfold LaneSt.stepBy
  lift_lets
  intro x1
  have h1 : Canon κ x1 := by
    unfold x1
    apply canon_setTime
    assumption
  clear_value x1
  intro x2
  clear_value x2
  refine canon_mk ?_ rfl rfl rfl
  assumption

theorem canon_timeStep {κ : LaneId} {l : LaneSt} (h : Canon κ l) : Canon κ (LaneSt.timeStep l) := by
  unfold LaneSt.timeStep
  split
  assumption
  refine canon_ite (fun _ => ?_) (fun _ => ?_)
  assumption
  refine canon_ite (fun _ => ?_) (fun _ => ?_)
  refine canon_mk ?_ rfl rfl rfl
  assumption
  lift_lets
  intro x1
  have h1 : Canon κ x1 := by
    unfold x1
    apply canon_satInc
    apply canon_wr
    apply canon_stepBy
    assumption
    decide
    decide
  clear_value x1
  intro x2
  have h2 : Canon κ x2 := by
    unfold x2
    apply canon_wrSat
    assumption
    decide
  clear_value x2
  intro x3
  clear_value x3
  intro x4
  clear_value x4
  refine canon_mk ?_ rfl rfl rfl
  assumption

theorem canon_showGm {κ : LaneId} {l : LaneSt} (h : Canon κ l) : Canon κ (LaneSt.showGm l) := by
  unfold LaneSt.showGm
  lift_lets
  intro x1
  clear_value x1
  intro x2
  have h2 : Canon κ x2 := by
    unfold x2
    apply canon_wrB
    assumption
    decide
  clear_value x2
  intro x3
  clear_value x3
  intro x4
  clear_value x4
  intro x5
  have h5 : Canon κ x5 := by
    unfold x5
    refine canon_ite (fun _ => ?_) (fun _ => ?_)
    refine canon_mk ?_ rfl rfl rfl
    assumption
    assumption
  clear_value x5
  intro x6
  have h6 : Canon κ x6 := by
    unfold x6
    apply canon_wrB
    assumption
    decide
  clear_value x6
  intro x7
  clear_value x7
  intro x8
  have h8 : Canon κ x8 := by
    unfold x8
    split
    assumption
    refine canon_mk ?_ rfl rfl rfl
    assumption
  clear_value x8
  apply canon_wr
  assumption
  decide

theorem canon_judgeElection {κ : LaneId} {l : LaneSt} (h : Canon κ l) : Canon κ (LaneSt.judgeElection l) := by
  unfold LaneSt.judgeElection
  refine canon_ite (fun _ => ?_) (fun _ => ?_)
  apply canon_showGm
  apply canon_setSource
  assumption
  refine canon_ite (fun _ => ?_) (fun _ => ?_)
  apply canon_showGm
  apply canon_setSource
  assumption
  apply canon_showGm
  assumption

theorem canon_announce {κ : LaneId} {l : LaneSt} (h : Canon κ l) (blue : Bool) (rank : Nat) (gm : Nat) : Canon κ (LaneSt.announce l blue rank gm) := by
  unfold LaneSt.announce
  refine canon_ite (fun _ => ?_) (fun _ => ?_)
  assumption
  lift_lets
  intro x1
  clear_value x1
  intro x2
  clear_value x2
  intro x3
  have h3 : Canon κ x3 := by
    unfold x3
    refine canon_ite (fun _ => ?_) (fun _ => ?_)
    assumption
    refine canon_ite (fun _ => ?_) (fun _ => ?_)
    refine canon_mk ?_ rfl rfl rfl
    assumption
    refine canon_mk ?_ rfl rfl rfl
    assumption
  clear_value x3
  apply canon_judgeElection
  assumption

theorem canon_syncReceive {κ : LaneId} {l : LaneSt} (h : Canon κ l) (blue : Bool) (offset : Int) : Canon κ (LaneSt.syncReceive l blue offset) := by
  unfold LaneSt.syncReceive
  refine canon_ite (fun _ => ?_) (fun _ => ?_)
  assumption
  lift_lets
  intro x1
  have h1 : Canon κ x1.2 := by
    unfold x1
    apply canon_fresh
    assumption
  clear_value x1
  intro x2
  have h2 : Canon κ x2 := by
    unfold x2
    apply canon_wr
    assumption
    split
    decide
    decide
  clear_value x2
  intro x3
  clear_value x3
  intro x4
  have h4 : Canon κ x4 := by
    unfold x4
    refine canon_mk ?_ rfl rfl rfl
    assumption
  clear_value x4
  intro x5
  have h5 : Canon κ x5 := by
    unfold x5
    apply canon_showGm
    apply canon_wrSat
    assumption
    decide
  clear_value x5
  intro x6
  clear_value x6
  intro x7
  clear_value x7
  intro x8
  have h8 : Canon κ x8 := by
    unfold x8
    refine canon_mk ?_ rfl rfl rfl
    assumption
  clear_value x8
  intro x9
  have h9 : Canon κ x9 := by
    unfold x9
    apply canon_wr
    apply canon_wr
    assumption
    decide
    decide
  clear_value x9
  intro x10
  clear_value x10
  intro x11
  have h11 : Canon κ x11 := by
    unfold x11
    refine canon_mk ?_ rfl rfl rfl
    assumption
  clear_value x11
  refine canon_ite (fun _ => ?_) (fun _ => ?_)
  assumption
  refine canon_ite (fun _ => ?_) (fun _ => ?_)
  refine canon_ite (fun _ => ?_) (fun _ => ?_)
  assumption
  apply canon_judgeStep
  apply canon_trackRate
  assumption
  refine canon_ite (fun _ => ?_) (fun _ => ?_)
  apply canon_showGm
  apply canon_setSource
  apply canon_wr
  assumption
  decide
  apply canon_steer
  assumption

theorem canon_forgetGm {κ : LaneId} {l : LaneSt} (h : Canon κ l) (blue : Bool) : Canon κ (LaneSt.forgetGm l blue) := by
  unfold LaneSt.forgetGm
  refine canon_ite (fun _ => ?_) (fun _ => ?_)
  refine canon_mk ?_ rfl rfl rfl
  assumption
  refine canon_mk ?_ rfl rfl rfl
  assumption

theorem canon_gmLost {κ : LaneId} {l : LaneSt} (h : Canon κ l) : Canon κ (LaneSt.gmLost l) := by
  unfold LaneSt.gmLost
  split
  assumption
  lift_lets
  intro x1
  have h1 : Canon κ x1 := by
    unfold x1
    apply canon_forgetGm
    assumption
  clear_value x1
  refine canon_ite (fun _ => ?_) (fun _ => ?_)
  apply canon_judgeElection
  apply canon_fault
  apply canon_satInc
  apply canon_setSource
  assumption
  decide
  apply canon_judgeElection
  assumption

theorem canon_judgeLock {κ : LaneId} {l : LaneSt} (h : Canon κ l) : Canon κ (LaneSt.judgeLock l) := by
  unfold LaneSt.judgeLock
  lift_lets
  intro x1
  clear_value x1
  intro x2
  have h2 : Canon κ x2 := by
    unfold x2
    refine canon_ite (fun _ => ?_) (fun _ => ?_)
    apply canon_setSource
    assumption
    refine canon_ite (fun _ => ?_) (fun _ => ?_)
    apply canon_setSource
    assumption
    assumption
  clear_value x2
  intro x3
  have h3 : Canon κ x3 := by
    unfold x3
    apply canon_showGm
    assumption
  clear_value x3
  intro x4
  clear_value x4
  intro x5
  clear_value x5
  intro x6
  have h6 : Canon κ x6 := by
    unfold x6
    refine canon_mk ?_ rfl rfl rfl
    assumption
  clear_value x6
  intro x7
  clear_value x7
  apply canon_wr
  assumption
  decide

theorem canon_judgeSuspect {κ : LaneId} {l : LaneSt} (h : Canon κ l) (offs : List Int) : Canon κ (LaneSt.judgeSuspect l offs) := by
  unfold LaneSt.judgeSuspect
  lift_lets
  intro x1
  clear_value x1
  intro x2
  clear_value x2
  intro x3
  clear_value x3
  intro x4
  clear_value x4
  intro x5
  clear_value x5
  intro x6
  have h6 : Canon κ x6 := by
    unfold x6
    refine canon_mk ?_ rfl rfl rfl
    assumption
  clear_value x6
  intro x7
  clear_value x7
  intro x8
  clear_value x8
  intro x9
  clear_value x9
  intro x10
  have h10 : Canon κ x10 := by
    unfold x10
    refine canon_mk ?_ rfl rfl rfl
    assumption
  clear_value x10
  intro x11
  clear_value x11
  intro x12
  have h12 : Canon κ x12 := by
    unfold x12
    refine canon_mk ?_ rfl rfl rfl
    assumption
  clear_value x12
  refine canon_ite (fun _ => ?_) (fun _ => ?_)
  refine canon_ite (fun _ => ?_) (fun _ => ?_)
  assumption
  apply canon_showGm
  apply canon_setSource
  apply canon_wr
  refine canon_mk ?_ rfl rfl rfl
  assumption
  decide
  refine canon_ite (fun _ => ?_) (fun _ => ?_)
  assumption
  apply canon_fault
  apply canon_satInc
  apply canon_setSource
  apply canon_wr
  assumption
  decide
  decide

theorem canon_judgeDiff {κ : LaneId} {l : LaneSt} (h : Canon κ l) : Canon κ (LaneSt.judgeDiff l) := by
  unfold LaneSt.judgeDiff
  lift_lets
  intro x1
  clear_value x1
  intro x2
  clear_value x2
  intro x3
  have h3 : Canon κ x3 := by
    unfold x3
    refine canon_mk ?_ rfl rfl rfl
    assumption
  clear_value x3
  intro x4
  clear_value x4
  intro x5
  have h5 : ∀ (a0 : _) (a1 : _) (a2 : LaneSt), Canon κ a2 → Canon κ (x5 a0 a1 a2) := by
    unfold x5
    intro _
    intro _
    intro _
    intro _
    refine canon_ite (fun _ => ?_) (fun _ => ?_)
    apply canon_requestExclusion
    assumption
    assumption
  clear_value x5
  intro x6
  clear_value x6
  refine canon_ite (fun _ => ?_) (fun _ => ?_)
  assumption
  split
  refine canon_ite (fun _ => ?_) (fun _ => ?_)
  apply canon_attribute
  assumption
  assumption
  lift_lets
  intro x7
  clear_value x7
  refine canon_ite (fun _ => ?_) (fun _ => ?_)
  apply canon_fault
  apply canon_satInc
  refine canon_mk ?_ rfl rfl rfl
  assumption
  decide
  apply_assumption
  apply_assumption
  assumption
  assumption

theorem canon_compareTimes {κ : LaneId} {l : LaneSt} (h : Canon κ l) : Canon κ (LaneSt.compareTimes l) := by
  unfold LaneSt.compareTimes
  lift_lets
  intro x1
  clear_value x1
  intro x2
  clear_value x2
  intro x3
  have h3 : Canon κ x3 := by
    unfold x3
    refine canon_foldl ?_ (fun _ _ _ => ?_)
    assumption
    apply canon_setBlk
    assumption
  clear_value x3
  intro x4
  clear_value x4
  intro x5
  have h5 : Canon κ x5 := by
    unfold x5
    refine canon_mk ?_ rfl rfl rfl
    assumption
  clear_value x5
  intro x6
  have h6 : Canon κ x6 := by
    unfold x6
    refine canon_ite (fun _ => ?_) (fun _ => ?_)
    apply canon_judgeDiff
    apply canon_judgeLock
    apply canon_judgeSuspect
    assumption
    assumption
  clear_value x6
  refine canon_ite (fun _ => ?_) (fun _ => ?_)
  assumption
  apply canon_steer
  assumption

theorem canon_timeComparison {κ : LaneId} {l : LaneSt} (h : Canon κ l) : Canon κ (LaneSt.timeComparison l) := by
  unfold LaneSt.timeComparison
  refine canon_ite (fun _ => ?_) (fun _ => ?_)
  assumption
  lift_lets
  intro x1
  clear_value x1
  intro x2
  have h2 : Canon κ x2 := by
    unfold x2
    apply canon_send
    assumption
  clear_value x2
  refine canon_ite (fun _ => ?_) (fun _ => ?_)
  apply canon_compareTimes
  assumption
  assumption

theorem canon_timeCmp {κ : LaneId} {l : LaneSt} (h : Canon κ l) (p : LaneId) (t32 : Bool) (src : Nat) (ready : Bool) (locked : Bool) (ns : Nat) (sec : Nat) : Canon κ (LaneSt.timeCmp l p t32 src ready locked ns sec) := by
  unfold LaneSt.timeCmp
  lift_lets
  intro x1
  clear_value x1
  intro x2
  clear_value x2
  intro x3
  have h3 : Canon κ x3 := by
    unfold x3
    refine canon_ite (fun _ => ?_) (fun _ => ?_)
    refine canon_mk ?_ rfl rfl rfl
    assumption
    refine canon_mk ?_ rfl rfl rfl
    assumption
  clear_value x3
  intro x4
  have h4 : Canon κ x4 := by
    unfold x4
    apply canon_wrSat
    assumption
    split
    decide
    decide
  clear_value x4
  refine canon_ite (fun _ => ?_) (fun _ => ?_)
  apply canon_compareTimes
  assumption
  assumption

theorem canon_holdoverExpired {κ : LaneId} {l : LaneSt} (h : Canon κ l) : Canon κ (LaneSt.holdoverExpired l) := by
  unfold LaneSt.holdoverExpired
  refine canon_ite (fun _ => ?_) (fun _ => ?_)
  assumption
  apply canon_showGm
  apply canon_fault
  apply canon_wr
  apply canon_setSource
  assumption
  decide

theorem canon_compareUnit {κ : LaneId} {l : LaneSt} (h : Canon κ l) (c : Fin 4) : Canon κ (LaneSt.compareUnit l c) := by
  unfold LaneSt.compareUnit
  exact canon_ite (fun _ => h)
    (fun _ => canon_ite (fun _ => canon_mk h rfl rfl rfl) (fun _ => canon_raise (canon_mk h rfl rfl rfl) _ _))

end Sys2Proof.Machine
end

