-- ==== Sys2Proof/Laws/CanonBridge.lean ====
section
/-!
SUPPORT. Every operation of Machine/Bridge.lean keeps a lane sound.
-/

namespace Sys2Proof.Machine

open Sys2Proof LaneSt

theorem off_portEnF (p : Nat) : 4096 ≤ (portEnF p).off := by
  unfold portEnF
  split
  exact off_add (by decide)
  exact off_add (by decide)

theorem off_portLinkF (p : Nat) : 4096 ≤ (portLinkF p).off := by
  unfold portLinkF
  split
  exact off_add (by decide)
  exact off_add (by decide)

theorem off_portRateF (p : Nat) : 4096 ≤ (portRateF p).off := by
  unfold portRateF
  split
  exact off_add (by decide)
  exact off_add (by decide)

theorem off_portSpeedF (p : Nat) : 4096 ≤ (portSpeedF p).off := by
  unfold portSpeedF
  split
  exact off_add (by decide)
  exact off_add (by decide)

theorem off_portMacsecF (p : Nat) : 4096 ≤ (portMacsecF p).off := by
  unfold portMacsecF
  split
  exact off_add (by decide)
  exact off_add (by decide)

theorem off_portQbvF (p : Nat) : 4096 ≤ (portQbvF p).off := by
  unfold portQbvF
  split
  exact off_add (by decide)
  exact off_add (by decide)

theorem canon_setNet {κ : LaneId} {l : LaneSt} (h : Canon κ l) (f : NetSt → NetSt) : Canon κ (LaneSt.setNet l f) := by
  unfold LaneSt.setNet
  refine canon_mk ?_ rfl rfl rfl
  assumption

theorem canon_showNetUp {κ : LaneId} {l : LaneSt} (h : Canon κ l) : Canon κ (LaneSt.showNetUp l) := by
  unfold LaneSt.showNetUp
  apply canon_setBlk
  assumption

theorem canon_linkDown {κ : LaneId} {l : LaneSt} (h : Canon κ l) (p : Nat) : Canon κ (LaneSt.linkDown l p) := by
  unfold LaneSt.linkDown
  apply canon_showNetUp
  apply canon_wr
  apply canon_wr
  assumption
  apply off_portLinkF
  apply off_portRateF

theorem canon_linkChange {κ : LaneId} {l : LaneSt} (h : Canon κ l) (p : Nat) : Canon κ (LaneSt.linkChange l p) := by
  unfold LaneSt.linkChange
  refine canon_ite (fun _ => ?_) (fun _ => ?_)
  lift_lets
  intro x1
  clear_value x1
  intro x2
  have h2 : Canon κ x2 := by
    unfold x2
    apply canon_linkDown
    assumption
  clear_value x2
  refine canon_ite (fun _ => ?_) (fun _ => ?_)
  apply canon_fault
  assumption
  assumption
  refine canon_ite (fun _ => ?_) (fun _ => ?_)
  assumption
  lift_lets
  intro x3
  have h3 : Canon κ x3.2 := by
    unfold x3
    apply canon_fresh
    assumption
  clear_value x3
  intro x4
  have h4 : Canon κ x4 := by
    unfold x4
    refine canon_ite (fun _ => ?_) (fun _ => ?_)
    apply canon_wr
    assumption
    apply off_portRateF
    apply canon_wr
    assumption
    apply off_portRateF
  clear_value x4
  apply canon_showNetUp
  apply canon_wr
  assumption
  apply off_portLinkF

theorem canon_drainPort {κ : LaneId} {l : LaneSt} (h : Canon κ l) (p : Nat) : Canon κ (LaneSt.drainPort l p) := by
  unfold LaneSt.drainPort
  refine canon_ite (fun _ => ?_) (fun _ => ?_)
  assumption
  apply canon_linkDown
  apply canon_setNet
  assumption

theorem canon_exhaust {κ : LaneId} {l : LaneSt} (h : Canon κ l) (p : Nat) : Canon κ (LaneSt.exhaust l p) := by
  unfold LaneSt.exhaust
  lift_lets
  intro x1
  clear_value x1
  intro x2
  have h2 : Canon κ x2 := by
    unfold x2
    refine canon_foldl ?_ (fun _ _ _ => ?_)
    assumption
    apply canon_satInc
    assumption
    exact off_add (off_add (by decide))
  clear_value x2
  intro x3
  have h3 : Canon κ x3 := by
    unfold x3
    apply canon_setNet
    assumption
  clear_value x3
  apply canon_fault
  assumption

theorem canon_transmit {κ : LaneId} {l : LaneSt} (h : Canon κ l) (e : Egress) : Canon κ (LaneSt.transmit l e) := by
  unfold LaneSt.transmit
  lift_lets
  intro x1
  clear_value x1
  intro x2
  clear_value x2
  intro x3
  have h3 : Canon κ x3 := by
    unfold x3
    apply canon_setNet
    assumption
  clear_value x3
  refine canon_ite (fun _ => ?_) (fun _ => ?_)
  apply canon_setNet
  assumption
  refine canon_ite (fun _ => ?_) (fun _ => ?_)
  apply canon_satInc
  assumption
  exact off_add (off_add (by decide))
  refine canon_ite (fun _ => ?_) (fun _ => ?_)
  apply canon_fault
  assumption
  refine canon_ite (fun _ => ?_) (fun _ => ?_)
  apply canon_exhaust
  assumption
  assumption

theorem canon_egress {κ : LaneId} {l : LaneSt} (h : Canon κ l) (e : Egress) : Canon κ (LaneSt.egress l e) := by
  unfold LaneSt.egress
  refine canon_ite (fun _ => ?_) (fun _ => ?_)
  assumption
  refine canon_ite (fun _ => ?_) (fun _ => ?_)
  apply canon_transmit
  assumption
  apply canon_setNet
  assumption

theorem canon_setGates {κ : LaneId} {l : LaneSt} (h : Canon κ l) (p i : Nat) : Canon κ (LaneSt.setGates l p i) := by
  unfold LaneSt.setGates
  refine canon_foldl (canon_setNet h _) (fun _ _ hl => ?_)
  exact canon_ite (fun _ => hl) (fun _ => canon_foldl (canon_setNet hl _) (fun _ _ hm => canon_transmit hm _))

theorem canon_gateEntry {κ : LaneId} {l : LaneSt} (h : Canon κ l) (p : Nat) : Canon κ (LaneSt.gateEntry l p) := by
  unfold LaneSt.gateEntry
  refine canon_ite (fun _ => h) (fun _ => ?_)
  split
  · exact h
  · exact canon_ite (fun _ => h) (fun _ => canon_setGates h _ _)

theorem canon_verify {κ : LaneId} {l : LaneSt} (h : Canon κ l) (p : Nat) (f : EthFrame) : Canon κ (LaneSt.verify l p f).2 := by
  unfold LaneSt.verify
  split
  dsimp only
  assumption
  split
  dsimp only
  assumption
  lift_lets
  intro x1
  clear_value x1
  split
  dsimp only
  apply canon_setNet
  assumption
  dsimp only
  apply canon_fault
  apply canon_satInc
  assumption
  exact off_add (off_add (by decide))

theorem canon_learn {κ : LaneId} {l : LaneSt} (h : Canon κ l) (p : Nat) (src : BitVec 48) : Canon κ (LaneSt.learn l p src) := by
  unfold LaneSt.learn
  lift_lets
  intro x1
  clear_value x1
  intro x2
  clear_value x2
  refine canon_ite (fun _ => ?_) (fun _ => ?_)
  assumption
  refine canon_ite (fun _ => ?_) (fun _ => ?_)
  assumption
  apply canon_setNet
  assumption

theorem canon_forward {κ : LaneId} {l : LaneSt} (h : Canon κ l) (p : Nat) (q : Nat) (f : EthFrame) : Canon κ (LaneSt.forward l p q f) := by
  unfold LaneSt.forward
  split
  refine canon_ite (fun _ => ?_) (fun _ => ?_)
  apply canon_egress
  assumption
  lift_lets
  intro x1
  have h1 : 4096 ≤ x1.off := by
    unfold x1
    split
    decide
    decide
  clear_value x1
  intro x2
  have h2 : 4096 ≤ x2.off := by
    unfold x2
    split
    decide
    decide
  clear_value x2
  intro x3
  have h3 : Canon κ x3 := by
    unfold x3
    apply canon_wr
    apply canon_inc
    assumption
    assumption
    assumption
  clear_value x3
  apply canon_egress
  assumption
  apply canon_egress
  assumption

theorem canon_ethReceive {κ : LaneId} {l : LaneSt} (h : Canon κ l) (p : Nat) (f : EthFrame) : Canon κ (LaneSt.ethReceive l p f) := by
  unfold LaneSt.ethReceive
  refine canon_ite (fun _ => ?_) (fun _ => ?_)
  assumption
  refine canon_ite (fun _ => ?_) (fun _ => ?_)
  apply canon_satInc
  assumption
  exact off_add (off_add (by decide))
  refine canon_ite (fun _ => ?_) (fun _ => ?_)
  apply canon_satInc
  assumption
  exact off_add (off_add (by decide))
  lift_lets
  intro x1
  have h1 : Canon κ x1.2 := by
    unfold x1
    apply canon_verify
    assumption
  clear_value x1
  intro x2
  have h2 : Canon κ x2 := by
    unfold x2
    apply canon_learn
    assumption
  clear_value x2
  intro x3
  have h3 : Canon κ x3 := by
    unfold x3
    refine canon_ite (fun _ => ?_) (fun _ => ?_)
    apply canon_satInc
    assumption
    exact off_add (off_add (by decide))
    assumption
  clear_value x3
  refine canon_ite (fun _ => ?_) (fun _ => ?_)
  assumption
  split
  assumption
  apply canon_forward
  assumption

theorem canon_sendBoth {κ : LaneId} {l : LaneSt} (h : Canon κ l) (i : Nat) (q : Nat) (what : NetOut) : Canon κ (LaneSt.sendBoth l i q what) := by
  unfold LaneSt.sendBoth
  apply canon_egress
  apply canon_egress
  assumption

theorem canon_grandmaster {κ : LaneId} {l : LaneSt} (h : Canon κ l) : Canon κ (LaneSt.grandmaster l) := by
  unfold LaneSt.grandmaster
  refine canon_ite (fun _ => ?_) (fun _ => ?_)
  assumption
  lift_lets
  intro x1
  have h1 : Canon κ x1 := by
    unfold x1
    apply canon_judgeElection
    assumption
  clear_value x1
  intro x2
  clear_value x2
  refine canon_ite (fun _ => ?_) (fun _ => ?_)
  assumption
  refine canon_foldl ?_ (fun _ _ _ => ?_)
  assumption
  apply canon_sendBoth
  apply canon_sendBoth
  assumption

end Sys2Proof.Machine
end

