-- ==== Sys2Proof/Laws/CanonYuwil.lean ====
section
/-!
SUPPORT. Every operation of Machine/Yuwil.lean keeps a lane sound.
-/

namespace Sys2Proof.Machine

open Sys2Proof LaneSt

theorem canon_setYw {κ : LaneId} {l : LaneSt} (h : Canon κ l) (s : Nat) (f : YwSess → YwSess) : Canon κ (LaneSt.setYw l s f) := by
  unfold LaneSt.setYw
  apply canon_setNet
  assumption

theorem canon_ywState {κ : LaneId} {l : LaneSt} (h : Canon κ l) (s : Nat) (st : Nat) : Canon κ (LaneSt.ywState l s st) := by
  unfold LaneSt.ywState
  refine canon_ite (fun _ => ?_) (fun _ => ?_)
  assumption
  apply canon_raise
  apply canon_wr
  assumption
  exact off_add (by decide)

theorem canon_ywClose {κ : LaneId} {l : LaneSt} (h : Canon κ l) (s : Nat) : Canon κ (LaneSt.ywClose l s) := by
  unfold LaneSt.ywClose
  apply canon_setYw
  apply canon_ywState
  assumption

theorem canon_authFail {κ : LaneId} {l : LaneSt} (h : Canon κ l) (s : Nat) : Canon κ (LaneSt.authFail l s) := by
  unfold LaneSt.authFail
  apply canon_fault
  apply canon_inc
  assumption
  exact off_add (by decide)

theorem canon_ywAge {κ : LaneId} {l : LaneSt} (h : Canon κ l) (s : Nat) (seq : Nat) : Canon κ (LaneSt.ywAge l s seq) := by
  unfold LaneSt.ywAge
  lift_lets
  intro x1
  have h1 : Canon κ x1 := by
    unfold x1
    refine canon_ite (fun _ => ?_) (fun _ => ?_)
    apply canon_fault
    apply canon_wr
    assumption
    exact off_add (by decide)
    assumption
  clear_value x1
  refine canon_ite (fun _ => ?_) (fun _ => ?_)
  apply canon_ywState
  assumption
  assumption

theorem canon_ywRaiseHi {κ : LaneId} {l : LaneSt} (h : Canon κ l) (s : Nat) (seq : Nat) : Canon κ (LaneSt.ywRaiseHi l s seq) := by
  unfold LaneSt.ywRaiseHi
  lift_lets
  intro x1
  clear_value x1
  intro x2
  clear_value x2
  intro x3
  clear_value x3
  intro x4
  have h4 : Canon κ x4 := by
    unfold x4
    apply canon_wr
    apply canon_wr
    assumption
    exact off_add (by decide)
    exact off_add (by decide)
  clear_value x4
  intro x5
  have h5 : Canon κ x5 := by
    unfold x5
    refine canon_ite (fun _ => ?_) (fun _ => ?_)
    assumption
    apply canon_fault
    assumption
  clear_value x5
  refine canon_ite (fun _ => ?_) (fun _ => ?_)
  assumption
  apply canon_setYw
  apply canon_wr
  assumption
  exact off_add (by decide)

theorem canon_ywDecide {κ : LaneId} {l : LaneSt} (h : Canon κ l) (s : Nat) (seq : Nat) (count : Field) (hcount : 4096 ≤ count.off) : Canon κ (LaneSt.ywDecide l s seq count) := by
  unfold LaneSt.ywDecide
  lift_lets
  intro x1
  have h1 : Canon κ x1 := by
    unfold x1
    apply canon_inc
    apply canon_inc
    assumption
    assumption
    exact off_add (by decide)
  clear_value x1
  intro x2
  have h2 : Canon κ x2 := by
    unfold x2
    apply canon_setYw
    assumption
  clear_value x2
  apply canon_ywAge
  apply canon_ywRaiseHi
  assumption

theorem canon_holdPoll {κ : LaneId} {l : LaneSt} (h : Canon κ l) (s : Nat) (seq : Nat) (cmd : Nat) (td : Nat) : Canon κ (LaneSt.holdPoll l s seq cmd td) := by
  unfold LaneSt.holdPoll
  refine canon_ite (fun _ => ?_) (fun _ => ?_)
  assumption
  apply canon_setNet
  assumption

theorem canon_acceptPoll {κ : LaneId} {l : LaneSt} (h : Canon κ l) (s : Nat) (c : YwCopy) (single : Bool) : Canon κ (LaneSt.acceptPoll l s c single) := by
  unfold LaneSt.acceptPoll
  lift_lets
  intro x1
  clear_value x1
  apply canon_send
  apply canon_holdPoll
  assumption

theorem canon_setCause {κ : LaneId} {l : LaneSt} (h : Canon κ l) (cause : Nat) (b : Bool) : Canon κ (LaneSt.setCause l cause b) := by
  unfold LaneSt.setCause
  refine canon_mk ?_ rfl rfl rfl
  assumption

theorem canon_netRegained {κ : LaneId} {l : LaneSt} (h : Canon κ l) (i : Nat) : Canon κ (LaneSt.netRegained l i) := by
  unfold LaneSt.netRegained
  refine canon_ite (fun _ => ?_) (fun _ => ?_)
  assumption
  apply canon_raise
  apply canon_setCause
  apply canon_setDegrade
  apply canon_wr
  assumption
  exact off_add (by decide)

theorem canon_fleetRecord {κ : LaneId} {l : LaneSt} (h : Canon κ l) (r : List Byte) : Canon κ (LaneSt.fleetRecord l r) := by
  unfold LaneSt.fleetRecord
  lift_lets
  intro x1
  clear_value x1
  intro x2
  have h2 : Canon κ x2 := by
    unfold x2
    apply canon_setNet
    assumption
  clear_value x2
  intro x3
  clear_value x3
  intro x4
  clear_value x4
  refine canon_ite (fun _ => ?_) (fun _ => ?_)
  assumption
  split
  apply canon_raise
  apply canon_fault
  apply canon_wr
  apply canon_satInc
  assumption
  decide
  decide
  lift_lets
  intro x5
  have h5 : Canon κ x5 := by
    unfold x5
    apply canon_wr
    apply canon_wr
    assumption
    exact off_add (by decide)
    exact off_add (by decide)
  clear_value x5
  intro x6
  have h6 : Canon κ x6 := by
    unfold x6
    apply canon_satInc
    apply canon_wr
    assumption
    decide
    decide
  clear_value x6
  intro x7
  have h7 : Canon κ x7 := by
    unfold x7
    apply canon_wr
    apply canon_wr
    assumption
    decide
    decide
  clear_value x7
  intro x8
  clear_value x8
  intro x9
  have h9 : Canon κ x9 := by
    unfold x9
    apply canon_setNet
    assumption
  clear_value x9
  apply canon_raise
  apply canon_fault
  assumption

theorem canon_acceptFleet {κ : LaneId} {l : LaneSt} (h : Canon κ l) (s : Nat) (c : YwCopy) : Canon κ (LaneSt.acceptFleet l s c) := by
  unfold LaneSt.acceptFleet
  lift_lets
  intro x1
  clear_value x1
  refine canon_ite (fun _ => ?_) (fun _ => ?_)
  assumption
  apply canon_fleetRecord
  apply canon_send
  assumption

theorem canon_fleetApply {κ : LaneId} {l : LaneSt} (h : Canon κ l) : Canon κ (LaneSt.fleetApply l) := by
  unfold LaneSt.fleetApply
  split
  assumption
  refine canon_ite (fun _ => ?_) (fun _ => ?_)
  assumption
  lift_lets
  intro x1
  have h1 : Canon κ x1 := by
    unfold x1
    apply canon_setNet
    assumption
  clear_value x1
  refine canon_ite (fun _ => ?_) (fun _ => ?_)
  assumption
  apply canon_stopAll
  apply canon_setCause
  assumption

theorem canon_fleetExpire {κ : LaneId} {l : LaneSt} (h : Canon κ l) : Canon κ (LaneSt.fleetExpire l) := by
  unfold LaneSt.fleetExpire
  split
  assumption
  refine canon_ite (fun _ => ?_) (fun _ => ?_)
  assumption
  apply canon_setCause
  apply canon_wr
  apply canon_setNet
  assumption
  decide

theorem canon_ywAccept {κ : LaneId} {l : LaneSt} (h : Canon κ l) (s : Nat) (c : YwCopy) (single : Bool) : Canon κ (LaneSt.ywAccept l s c single) := by
  unfold LaneSt.ywAccept
  refine canon_ite (fun _ => ?_) (fun _ => ?_)
  apply canon_acceptPoll
  assumption
  refine canon_ite (fun _ => ?_) (fun _ => ?_)
  apply canon_acceptFleet
  assumption
  assumption

theorem canon_ywRx {κ : LaneId} {l : LaneSt} (h : Canon κ l) (s : Nat) (w : List Dword) : Canon κ (LaneSt.ywRx l s w) := by
  unfold LaneSt.ywRx
  lift_lets
  intro x1
  clear_value x1
  apply canon_holdPoll
  assumption

theorem canon_answerSend {κ : LaneId} {l : LaneSt} (h : Canon κ l) (s : Nat) : Canon κ (LaneSt.answerSend l s) := by
  unfold LaneSt.answerSend
  split
  · refine canon_ite (fun _ => h) (fun _ => ?_)
    dsimp only
    split
    · exact canon_setYw h _ _
    · refine canon_ite (fun _ => canon_fault (canon_inc (canon_setYw h _ _) _ (off_add (by decide))) _ _) (fun _ => ?_)
      exact canon_foldl (canon_setYw h _ _) (fun _ _ hl => canon_transmit hl _)
  · exact h


theorem canon_ywKeying {κ : LaneId} {l : LaneSt} (h : Canon κ l) (s : Nat) (sid : Nat) (k : List Byte × List Byte) : Canon κ (LaneSt.ywKeying l s sid k) := by
  unfold LaneSt.ywKeying
  lift_lets
  intro x1
  have h1 : Canon κ x1 := by
    unfold x1
    refine canon_ite (fun _ => ?_) (fun _ => ?_)
    assumption
    apply canon_ywState
    assumption
  clear_value x1
  apply canon_setYw
  assumption

theorem canon_keyFail {κ : LaneId} {l : LaneSt} (h : Canon κ l) (s : Nat) : Canon κ (LaneSt.keyFail l s) := by
  unfold LaneSt.keyFail
  lift_lets
  intro x1
  clear_value x1
  intro x2
  have h2 : Canon κ x2 := by
    unfold x2
    apply canon_setYw
    apply canon_inc
    assumption
    exact off_add (by decide)
  clear_value x2
  apply canon_fault
  assumption

theorem canon_keyReply {κ : LaneId} {l : LaneSt} (h : Canon κ l) (s : Nat) (b : List Byte) : Canon κ (LaneSt.keyReply l s b) := by
  unfold LaneSt.keyReply
  lift_lets
  intro x1
  have h1 : Canon κ x1 := by
    unfold x1
    apply canon_setYw
    assumption
  clear_value x1
  intro x2
  have h2 : Canon κ x2.2 := by
    unfold x2
    apply canon_fresh
    assumption
  clear_value x2
  intro x3
  have h3 : Canon κ x3.2 := by
    unfold x3
    apply canon_fresh
    assumption
  clear_value x3
  intro x4
  have h4 : Canon κ x4.2 := by
    unfold x4
    apply canon_fresh
    assumption
  clear_value x4
  intro x5
  have h5 : Canon κ x5 := by
    unfold x5
    assumption
  clear_value x5
  intro x6
  clear_value x6
  intro x7
  clear_value x7
  intro x8
  clear_value x8
  intro x9
  clear_value x9
  intro x10
  clear_value x10
  intro x11
  clear_value x11
  intro x12
  clear_value x12
  intro x13
  clear_value x13
  intro x14
  have h14 : Canon κ x14 := by
    unfold x14
    apply canon_sendBoth
    apply canon_sendBoth
    assumption
  clear_value x14
  intro x15
  have h15 : Canon κ x15 := by
    unfold x15
    apply canon_ywKeying
    assumption
  clear_value x15
  apply canon_send
  assumption

theorem canon_ywIngress {κ : LaneId} {l : LaneSt} (h : Canon κ l) (blue : Bool) (b : List Byte) :
    (∀ n, l.ywIngress blue b = .inl n → Canon κ n) ∧ (∀ s n, l.ywIngress blue b = .inr (s, n) → Canon κ n) := by
  unfold LaneSt.ywIngress
  split
  · exact ⟨fun n hn => by cases hn; exact h, fun _ _ hn => by cases hn⟩
  · split
    · exact ⟨fun n hn => by cases hn; exact canon_inc h _ (off_add (by decide)), fun _ _ hn => by cases hn⟩
    · cases blue <;> simp only [Bool.false_eq_true, if_false, if_true] <;> split <;>
        first
        | exact ⟨fun n hn => by cases hn; exact canon_inc h _ (off_add (by decide)), fun _ _ hn => by cases hn⟩
        | exact ⟨fun n hn => (by cases hn), fun _ _ hn => by cases hn; exact canon_setYw h _ _⟩

theorem canon_keyInit {κ : LaneId} {l : LaneSt} (h : Canon κ l) (blue : Bool) (s : Nat) (b : List Byte) :
    Canon κ (LaneSt.keyInit l blue s b) := by
  unfold LaneSt.keyInit
  split
  · exact (canon_ywIngress h blue b).1 _ ‹_›
  · have hn := (canon_ywIngress h blue b).2 _ _ ‹_›
    refine canon_ite (fun _ => hn) (fun _ => canon_ite (fun _ => canon_authFail hn _) (fun _ => canon_ite (fun _ => hn) (fun _ => ?_)))
    exact canon_ite (fun _ => canon_keyReply (canon_setYw hn _ _) _ _) (fun _ => canon_keyFail (canon_setYw hn _ _) _)


theorem canon_ywSwitch {κ : LaneId} {l : LaneSt} (h : Canon κ l) (s : Nat) (sid : Nat) (first : Nat) (k : List Byte × List Byte) : Canon κ (LaneSt.ywSwitch l s sid first k) := by
  unfold LaneSt.ywSwitch
  lift_lets
  intro x1
  have h1 : Canon κ x1 := by
    unfold x1
    apply canon_inc
    apply canon_wr
    apply canon_ywState
    apply canon_wr
    assumption
    exact off_add (by decide)
    exact off_add (by decide)
    exact off_add (by decide)
  clear_value x1
  intro x2
  have h2 : Canon κ x2 := by
    unfold x2
    apply canon_wr
    assumption
    exact off_add (by decide)
  clear_value x2
  intro x3
  have h3 : Canon κ x3 := by
    unfold x3
    refine canon_ite (fun _ => ?_) (fun _ => ?_)
    apply canon_setNet
    assumption
    assumption
  clear_value x3
  apply canon_setYw
  assumption

theorem canon_commandApply {κ : LaneId} {l : LaneSt} (h : Canon κ l) : Canon κ (LaneSt.commandApply l) := by
  unfold LaneSt.commandApply
  split
  assumption
  refine canon_ite (fun _ => ?_) (fun _ => ?_)
  assumption
  lift_lets
  intro x1
  clear_value x1
  intro x2
  clear_value x2
  intro x3
  clear_value x3
  intro x4
  have h4 : Canon κ x4 := by
    unfold x4
    apply canon_setNet
    assumption
  clear_value x4
  intro x5
  have h5 : Canon κ x5 := by
    unfold x5
    refine canon_ite (fun _ => ?_) (fun _ => ?_)
    apply canon_raise
    apply canon_setCause
    assumption
    assumption
  clear_value x5
  refine canon_ite (fun _ => ?_) (fun _ => ?_)
  refine canon_ite (fun _ => ?_) (fun _ => ?_)
  assumption
  apply canon_raise
  apply canon_setCause
  assumption
  refine canon_ite (fun _ => ?_) (fun _ => ?_)
  apply canon_stopAll
  assumption
  assumption

end Sys2Proof.Machine
end

