-- ==== Sys2Proof/Laws/CanonCan.lean ====
section
/-!
SUPPORT. Every operation of Machine/Can.lean keeps a lane sound.
-/

namespace Sys2Proof.Machine

open Sys2Proof LaneSt

theorem canon_canReceive {κ : LaneId} {l : LaneSt} (h : Canon κ l) (k : Nat) (f : CanFrame) : Canon κ (LaneSt.canReceive l k f) := by
  unfold LaneSt.canReceive
  refine canon_ite (fun _ => ?_) (fun _ => ?_)
  assumption
  refine canon_ite (fun _ => ?_) (fun _ => ?_)
  apply canon_satInc
  assumption
  exact off_add (by decide)
  lift_lets
  intro x1
  clear_value x1
  intro x2
  have h2 : Canon κ x2 := by
    unfold x2
    apply canon_inc
    assumption
    exact off_add (by decide)
  clear_value x2
  intro x3
  clear_value x3
  intro x4
  clear_value x4
  intro x5
  have h5 : Canon κ x5 := by
    unfold x5
    apply canon_post
    assumption
  clear_value x5
  refine canon_ite (fun _ => ?_) (fun _ => ?_)
  assumption
  apply canon_raise
  assumption

theorem canon_canSend {κ : LaneId} {l : LaneSt} (h : Canon κ l) (k : Nat) (j : Nat) : Canon κ (LaneSt.canSend l k j) := by
  unfold LaneSt.canSend
  refine canon_ite (fun _ => ?_) (fun _ => ?_)
  assumption
  refine canon_ite (fun _ => ?_) (fun _ => ?_)
  refine canon_ite (fun _ => ?_) (fun _ => ?_)
  apply canon_satInc
  assumption
  exact off_add (by decide)
  apply canon_setNet
  assumption
  apply canon_setNet
  assumption

theorem canon_busOff {κ : LaneId} {l : LaneSt} (h : Canon κ l) (k : Nat) : Canon κ (LaneSt.busOff l k) := by
  unfold LaneSt.busOff
  refine canon_ite (fun _ => ?_) (fun _ => ?_)
  assumption
  lift_lets
  intro x1
  have h1 : Canon κ x1.2 := by
    unfold x1
    apply canon_fresh
    assumption
  clear_value x1
  intro x2
  have h2 : Canon κ x2.2 := by
    unfold x2
    apply canon_fresh
    assumption
  clear_value x2
  intro x3
  have h3 : Canon κ x3 := by
    unfold x3
    apply canon_wr
    apply canon_wr
    assumption
    exact off_add (by decide)
    exact off_add (by decide)
  clear_value x3
  apply canon_fault
  apply canon_satInc
  apply canon_wr
  assumption
  exact off_add (by decide)
  exact off_add (by decide)

theorem canon_busRecovery {κ : LaneId} {l : LaneSt} (h : Canon κ l) (k : Nat) : Canon κ (LaneSt.busRecovery l k) := by
  unfold LaneSt.busRecovery
  refine canon_ite (fun _ => ?_) (fun _ => ?_)
  assumption
  lift_lets
  intro x1
  have h1 : Canon κ x1 := by
    unfold x1
    apply canon_wr
    apply canon_wr
    apply canon_wr
    assumption
    exact off_add (by decide)
    exact off_add (by decide)
    exact off_add (by decide)
  clear_value x1
  intro x2
  clear_value x2
  intro x3
  have h3 : Canon κ x3 := by
    unfold x3
    apply canon_setNet
    assumption
  clear_value x3
  refine canon_foldl ?_ (fun _ _ _ => ?_)
  assumption
  apply canon_canSend
  assumption

end Sys2Proof.Machine
end

