-- ==== Sys2Proof/Laws/CanonBist.lean ====
section
/-!
SUPPORT. Every operation of Machine/Bist.lean keeps a lane sound.
-/

namespace Sys2Proof.Machine

open Sys2Proof LaneSt

theorem canon_setBist {κ : LaneId} {l : LaneSt} (h : Canon κ l) (f : BistSt → BistSt) : Canon κ (LaneSt.setBist l f) := by
  unfold LaneSt.setBist
  refine canon_mk ?_ rfl rfl rfl
  assumption

theorem canon_showAge {κ : LaneId} {l : LaneSt} (h : Canon κ l) (c : Nat) : Canon κ (LaneSt.showAge l c) := by
  unfold LaneSt.showAge
  lift_lets
  intro x1
  clear_value x1
  apply canon_wr
  assumption
  exact off_add (by decide)

theorem canon_clockEdge {κ : LaneId} {l : LaneSt} (h : Canon κ l) : Canon κ (LaneSt.clockEdge l) := by
  unfold LaneSt.clockEdge
  lift_lets
  intro x1
  have h1 : Canon κ x1 := by
    unfold x1
    apply canon_netClock
    assumption
  clear_value x1
  refine canon_ite (fun _ => ?_) (fun _ => ?_)
  assumption
  refine canon_foldl ?_ (fun _ _ _ => ?_)
  assumption
  apply canon_showAge
  assumption

theorem canon_settleProof {κ : LaneId} {l : LaneSt} (h : Canon κ l) (q : ProofReq) : Canon κ (LaneSt.settleProof l q) := by
  unfold LaneSt.settleProof
  refine canon_ite (fun _ => ?_) (fun _ => ?_)
  apply canon_abort
  assumption
  apply canon_complete
  assumption

theorem canon_settleProofs {κ : LaneId} {l : LaneSt} (h : Canon κ l) : Canon κ (LaneSt.settleProofs l) := by
  unfold LaneSt.settleProofs
  lift_lets
  intro x1
  clear_value x1
  intro x2
  have h2 : Canon κ x2 := by
    unfold x2
    apply canon_setBist
    assumption
  clear_value x2
  refine canon_foldl ?_ (fun _ _ _ => ?_)
  assumption
  apply canon_settleProof
  assumption

theorem canon_proofReport {κ : LaneId} {l : LaneSt} (h : Canon κ l) (k : LaneId) (region : Nat) (index : Nat) (result : Nat) (duration : Nat) (coverage : Nat) : Canon κ (LaneSt.proofReport l k region index result duration coverage) := by
  unfold LaneSt.proofReport
  lift_lets
  intro x1
  clear_value x1
  apply canon_settleProofs
  apply canon_setBist
  assumption

theorem canon_proofTell {κ : LaneId} {l : LaneSt} (h : Canon κ l) (region : Nat) (index : Nat) (result : Nat) (duration : Nat) (coverage : Nat) : Canon κ (LaneSt.proofTell l region index result duration coverage) := by
  unfold LaneSt.proofTell
  refine canon_ite (fun _ => ?_) (fun _ => ?_)
  assumption
  lift_lets
  intro x1
  clear_value x1
  apply canon_proofReport
  apply canon_send
  assumption

theorem canon_proofXchg {κ : LaneId} {l : LaneSt} (h : Canon κ l) (p : LaneId) (w : Nat) : Canon κ (LaneSt.proofXchg l p w) := by
  unfold LaneSt.proofXchg
  apply canon_proofReport
  assumption

theorem canon_dropRequest {κ : LaneId} {l : LaneSt} (h : Canon κ l) (c : Nat) : Canon κ (LaneSt.dropRequest l c) := by
  unfold LaneSt.dropRequest
  split
  assumption
  refine canon_ite (fun _ => ?_) (fun _ => ?_)
  assumption
  apply canon_proofTell
  assumption

theorem canon_proofStart {κ : LaneId} {l : LaneSt} (h : Canon κ l) (c : Nat) : Canon κ (LaneSt.proofStart l c) := by
  unfold LaneSt.proofStart
  refine canon_ite (fun _ => ?_) (fun _ => ?_)
  assumption
  lift_lets
  intro x1
  have h1 : Canon κ x1 := by
    unfold x1
    apply canon_dropRequest
    apply canon_setUnproved
    assumption
  clear_value x1
  split
  apply canon_showAge
  assumption
  lift_lets
  intro x2
  have h2 : Canon κ x2 := by
    unfold x2
    apply canon_setBist
    assumption
  clear_value x2
  intro x3
  have h3 : Canon κ x3 := by
    unfold x3
    apply canon_wr
    assumption
    decide
  clear_value x3
  intro x4
  have h4 : Canon κ x4 := by
    unfold x4
    apply canon_wr
    apply canon_wr
    assumption
    exact off_add (by decide)
    exact off_add (by decide)
  clear_value x4
  intro x5
  have h5 : Canon κ x5 := by
    unfold x5
    apply canon_wr
    assumption
    decide
  clear_value x5
  intro x6
  clear_value x6
  intro x7
  have h7 : Canon κ x7 := by
    unfold x7
    apply canon_wr
    apply canon_wr
    apply canon_wr
    assumption
    decide
    decide
    decide
  clear_value x7
  intro x8
  have h8 : Canon κ x8 := by
    unfold x8
    apply canon_wr
    assumption
    exact off_add (by decide)
  clear_value x8
  intro x9
  clear_value x9
  intro x10
  have h10 : Canon κ x10 := by
    unfold x10
    split
    refine canon_mk ?_ rfl rfl rfl
    assumption
    apply canon_judgeMoves
    refine canon_mk ?_ rfl rfl rfl
    assumption
    apply canon_bypass
    assumption
    assumption
  clear_value x10
  apply canon_showAge
  assumption

theorem canon_proofClose {κ : LaneId} {l : LaneSt} (h : Canon κ l) (c : Nat) (r : Nat) (result : Nat) (duration : Nat) (coverage : Nat) : Canon κ (LaneSt.proofClose l c r result duration coverage) := by
  unfold LaneSt.proofClose
  lift_lets
  intro x1
  have h1 : Canon κ x1 := by
    unfold x1
    apply canon_setBist
    assumption
  clear_value x1
  intro x2
  have h2 : Canon κ x2 := by
    unfold x2
    apply canon_wr
    assumption
    decide
  clear_value x2
  intro x3
  have h3 : Canon κ x3 := by
    unfold x3
    apply canon_wr
    apply canon_wr
    apply canon_wr
    assumption
    exact off_add (by decide)
    exact off_add (by decide)
    exact off_add (by decide)
  clear_value x3
  intro x4
  have h4 : Canon κ x4 := by
    unfold x4
    apply canon_satInc
    assumption
    split
    decide
    split
    decide
    decide
  clear_value x4
  intro x5
  have h5 : Canon κ x5 := by
    unfold x5
    refine canon_ite (fun _ => ?_) (fun _ => ?_)
    assumption
    apply canon_raise
    assumption
  clear_value x5
  intro x6
  have h6 : Canon κ x6 := by
    unfold x6
    apply canon_wr
    apply canon_wr
    apply canon_wr
    assumption
    decide
    decide
    exact off_add (by decide)
  clear_value x6
  intro x7
  clear_value x7
  intro x8
  have h8 : Canon κ x8 := by
    unfold x8
    split
    apply canon_wr
    assumption
    decide
    apply canon_judgeMoves
    refine canon_mk ?_ rfl rfl rfl
    assumption
    refine canon_ite (fun _ => ?_) (fun _ => ?_)
    assumption
    apply canon_bypassEnd
    assumption
    assumption
  clear_value x8
  intro x9
  have h9 : Canon κ x9 := by
    unfold x9
    refine canon_ite (fun _ => ?_) (fun _ => ?_)
    apply canon_bgWork
    assumption
    assumption
  clear_value x9
  apply canon_proofTell
  assumption

theorem canon_takeSpare {κ : LaneId} {l : LaneSt} (h : Canon κ l) (bank : Nat) : Canon κ (LaneSt.takeSpare l bank) := by
  unfold LaneSt.takeSpare
  lift_lets
  intro x1
  have h1 : Canon κ x1 := by
    unfold x1
    apply canon_setBist
    assumption
  clear_value x1
  intro x2
  have h2 : Canon κ x2 := by
    unfold x2
    apply canon_fault
    apply canon_setUnproved
    apply canon_wr
    assumption
    decide
  clear_value x2
  refine canon_ite (fun _ => ?_) (fun _ => ?_)
  apply canon_fault
  apply canon_setUnproved
  assumption
  apply canon_spareUsed
  assumption

theorem canon_demandSpare {κ : LaneId} {l : LaneSt} (h : Canon κ l) (bank : Nat) : Canon κ (LaneSt.demandSpare l bank) := by
  unfold LaneSt.demandSpare
  refine canon_ite (fun _ => ?_) (fun _ => ?_)
  assumption
  lift_lets
  intro x1
  have h1 : Canon κ x1 := by
    unfold x1
    split
    apply canon_proofClose
    assumption
    assumption
  clear_value x1
  apply canon_takeSpare
  assumption

theorem canon_proofFailed {κ : LaneId} {l : LaneSt} (h : Canon κ l) (c : Nat) (r : Nat) : Canon κ (LaneSt.proofFailed l c r) := by
  unfold LaneSt.proofFailed
  lift_lets
  intro x1
  have h1 : Canon κ x1 := by
    unfold x1
    apply canon_satInc
    assumption
    exact off_add (by decide)
  clear_value x1
  intro x2
  have h2 : Canon κ x2 := by
    unfold x2
    refine canon_ite (fun _ => ?_) (fun _ => ?_)
    apply canon_wr
    assumption
    exact off_add (by decide)
    assumption
  clear_value x2
  intro x3
  have h3 : Canon κ x3 := by
    unfold x3
    refine canon_ite (fun _ => ?_) (fun _ => ?_)
    assumption
    apply canon_setBist
    assumption
  clear_value x3
  split
  apply canon_retirePipe
  assumption
  apply canon_takeSpare
  assumption
  apply canon_fault
  assumption
  apply canon_retireCore
  assumption
  apply canon_fault
  assumption
  apply canon_fault
  assumption

theorem canon_proofEnd {κ : LaneId} {l : LaneSt} (h : Canon κ l) (c : Nat) (passed : Bool) (coverage : Nat) (duration : Nat) : Canon κ (LaneSt.proofEnd l c passed coverage duration) := by
  unfold LaneSt.proofEnd
  split
  assumption
  lift_lets
  intro x1
  clear_value x1
  intro x2
  have h2 : Canon κ x2 := by
    unfold x2
    apply canon_proofClose
    assumption
  clear_value x2
  intro x3
  have h3 : Canon κ x3 := by
    unfold x3
    apply canon_setBist
    assumption
  clear_value x3
  intro x4
  have h4 : Canon κ x4 := by
    unfold x4
    refine canon_ite (fun _ => ?_) (fun _ => ?_)
    apply canon_proofFailed
    assumption
    refine canon_ite (fun _ => ?_) (fun _ => ?_)
    apply canon_wr
    assumption
    exact off_add (by decide)
    assumption
  clear_value x4
  apply canon_showAge
  assumption

theorem canon_proofOverdue {κ : LaneId} {l : LaneSt} (h : Canon κ l) (c : Nat) (r : Nat) : Canon κ (LaneSt.proofOverdue l c r) := by
  unfold LaneSt.proofOverdue
  refine canon_ite (fun _ => ?_) (fun _ => ?_)
  assumption
  lift_lets
  intro x1
  have h1 : Canon κ x1 := by
    unfold x1
    apply canon_setBist
    assumption
  clear_value x1
  apply canon_showAge
  apply canon_fault
  apply canon_wr
  assumption
  exact off_add (by decide)

theorem canon_proofReq {κ : LaneId} {l : LaneSt} (h : Canon κ l) (s : State) (d : Decided) (region : Nat) (index : Nat) (lanes : Nat) : Canon κ (LaneSt.proofReq s l d region index lanes) := by
  unfold LaneSt.proofReq
  lift_lets
  intro x1
  have h1 : ∀ (a0 : _), Canon κ (x1 a0) := by
    unfold x1
    intro _
    apply canon_complete
    assumption
  clear_value x1
  intro x2
  clear_value x2
  intro x3
  clear_value x3
  intro x4
  clear_value x4
  refine canon_ite (fun _ => ?_) (fun _ => ?_)
  apply_assumption
  refine canon_ite (fun _ => ?_) (fun _ => ?_)
  apply_assumption
  refine canon_ite (fun _ => ?_) (fun _ => ?_)
  apply_assumption
  apply canon_permitted
  assumption
  intro _
  intro _
  apply canon_setBist
  assumption

theorem canon_proofLeavers {κ : LaneId} {l : LaneSt} (h : Canon κ l) : Canon κ (LaneSt.proofLeavers l) := by
  unfold LaneSt.proofLeavers
  apply canon_settleProofs
  apply canon_setBist
  assumption

theorem canon_oscEvent {κ : LaneId} {l : LaneSt} (h : Canon κ l) (p : LaneId) : Canon κ (LaneSt.oscEvent l p) := by
  unfold LaneSt.oscEvent
  apply canon_fault
  apply canon_satInc
  assumption
  decide

theorem canon_crystalCheck {κ : LaneId} {l : LaneSt} (h : Canon κ l) (p0 : Int) (p1 : Int) (k32 : Int) : Canon κ (LaneSt.crystalCheck l p0 p1 k32) := by
  unfold LaneSt.crystalCheck
  lift_lets
  intro x1
  have h1 : Canon κ x1 := by
    unfold x1
    apply canon_wrSat
    apply canon_wrSat
    apply canon_wrSat
    assumption
    decide
    decide
    decide
  clear_value x1
  intro x2
  have h2 : Canon κ x2 := by
    unfold x2
    apply canon_bgWork
    assumption
  clear_value x2
  intro x3
  clear_value x3
  split
  lift_lets
  intro x4
  clear_value x4
  refine canon_ite (fun _ => ?_) (fun _ => ?_)
  apply canon_oscEvent
  assumption
  assumption
  refine canon_ite (fun _ => ?_) (fun _ => ?_)
  apply canon_oscEvent
  apply canon_oscEvent
  assumption
  assumption
  assumption

theorem canon_oscXcheck {κ : LaneId} {l : LaneSt} (h : Canon κ l) (p0 p1 k32 : Int) : Canon κ (LaneSt.oscXcheck l p0 p1 k32) := by
  unfold LaneSt.oscXcheck
  exact canon_ite (fun _ => h) (fun _ => canon_crystalCheck (canon_mk h rfl rfl rfl) _ _ _)

end Sys2Proof.Machine
end

