-- ==== Sys2Proof/Laws/CanonMem.lean ====
section
/-!
SUPPORT. Every operation of Machine/Mem.lean keeps a lane sound.
-/

namespace Sys2Proof.Machine

open Sys2Proof LaneSt

theorem canon_setMem {κ : LaneId} {l : LaneSt} (h : Canon κ l) (f : MemSt → MemSt) : Canon κ (LaneSt.setMem l f) := by
  unfold LaneSt.setMem
  refine canon_mk ?_ rfl rfl rfl
  assumption

theorem canon_bgLag {κ : LaneId} {l : LaneSt} (h : Canon κ l) (a : Nat) : Canon κ (LaneSt.bgLag l a) := by
  unfold LaneSt.bgLag
  refine canon_ite (fun _ => ?_) (fun _ => ?_)
  assumption
  lift_lets
  intro x1
  have h1 : Canon κ x1 := by
    unfold x1
    apply canon_wr
    assumption
    decide
  clear_value x1
  apply canon_raise
  apply canon_fault
  apply canon_satInc
  assumption
  exact off_add (by decide)

theorem canon_bgStarved {κ : LaneId} {l : LaneSt} (h : Canon κ l) (a : Nat) : Canon κ (LaneSt.bgStarved l a) := by
  unfold LaneSt.bgStarved
  refine canon_ite (fun _ => ?_) (fun _ => ?_)
  assumption
  refine canon_ite (fun _ => ?_) (fun _ => ?_)
  apply canon_setMem
  assumption
  lift_lets
  intro x1
  have h1 : Canon κ x1 := by
    unfold x1
    apply canon_wr
    assumption
    decide
  clear_value x1
  intro x2
  have h2 : Canon κ x2 := by
    unfold x2
    apply canon_wr
    assumption
    decide
  clear_value x2
  apply canon_raise
  apply canon_fault
  apply canon_satInc
  assumption
  exact off_add (by decide)

theorem canon_scrubWord {κ : LaneId} {l : LaneSt} (h : Canon κ l) : Canon κ (LaneSt.scrubWord l) := by
  unfold LaneSt.scrubWord
  lift_lets
  intro x1
  clear_value x1
  intro x2
  have h2 : Canon κ x2 := by
    unfold x2
    apply canon_bgWork
    assumption
  clear_value x2
  intro x3
  clear_value x3
  intro x4
  have h4 : Canon κ x4 := by
    unfold x4
    apply canon_setMem
    assumption
  clear_value x4
  refine canon_ite (fun _ => ?_) (fun _ => ?_)
  apply canon_setMem
  assumption
  apply canon_wr
  apply canon_satInc
  assumption
  decide
  decide

theorem canon_sramCorr {κ : LaneId} {l : LaneSt} (h : Canon κ l) (bank : Nat) : Canon κ (LaneSt.sramCorr l bank) := by
  unfold LaneSt.sramCorr
  lift_lets
  intro x1
  have h1 : Canon κ x1 := by
    unfold x1
    apply canon_fault
    apply canon_inc
    assumption
    decide
  clear_value x1
  intro x2
  clear_value x2
  intro x3
  have h3 : Canon κ x3 := by
    unfold x3
    apply canon_setBist
    assumption
  clear_value x3
  refine canon_ite (fun _ => ?_) (fun _ => ?_)
  apply canon_demandSpare
  assumption
  assumption

theorem canon_sramPut {κ : LaneId} {l : LaneSt} (h : Canon κ l) (key : Nat) (v : Dword) : Canon κ (LaneSt.sramPut l key v) := by
  unfold LaneSt.sramPut
  apply canon_setMem
  assumption

theorem canon_sramLeave {κ : LaneId} {l : LaneSt} (h : Canon κ l) (key : Nat) : Canon κ (LaneSt.sramLeave l key) := by
  unfold LaneSt.sramLeave
  apply canon_setMem
  assumption

theorem canon_scrubNext {κ : LaneId} {l : LaneSt} (h : Canon κ l) (bank : Nat) : Canon κ (LaneSt.scrubNext l bank) := by
  unfold LaneSt.scrubNext
  apply canon_setMem
  assumption

theorem canon_scrubRead {κ : LaneId} {l : LaneSt} (h : Canon κ l) (bank : Nat) (errs : Nat) (key : Nat) : Canon κ (LaneSt.scrubRead l bank errs key) := by
  unfold LaneSt.scrubRead
  refine canon_ite (fun _ => ?_) (fun _ => ?_)
  assumption
  refine canon_ite (fun _ => ?_) (fun _ => ?_)
  apply canon_sramCorr
  assumption
  apply canon_fault
  apply canon_sramLeave
  assumption

theorem canon_scrub {κ : LaneId} {l : LaneSt} (h : Canon κ l) (bank : Nat) (errs : Nat) (write : Option (Bool × Dword)) : Canon κ (LaneSt.scrub l bank errs write) := by
  unfold LaneSt.scrub
  refine canon_ite (fun _ => ?_) (fun _ => ?_)
  refine canon_elim ?_ (fun _ => ?_)
  assumption
  apply canon_sramPut
  assumption
  lift_lets
  intro x1
  clear_value x1
  split
  apply canon_scrubNext
  apply canon_scrubWord
  apply canon_sramPut
  assumption
  apply canon_scrubNext
  apply canon_sramPut
  apply canon_scrubRead
  apply canon_scrubWord
  assumption
  apply canon_scrubNext
  apply canon_scrubRead
  apply canon_scrubWord
  assumption

theorem canon_setBlock {κ : LaneId} {l : LaneSt} (h : Canon κ l) (b : Nat) (x : NvmBlock) : Canon κ (LaneSt.setBlock l b x) := by
  unfold LaneSt.setBlock
  apply canon_setMem
  assumption

theorem canon_showNvm {κ : LaneId} {l : LaneSt} (h : Canon κ l) : Canon κ (LaneSt.showNvm l) := by
  unfold LaneSt.showNvm
  lift_lets
  intro x1
  clear_value x1
  intro x2
  clear_value x2
  intro x3
  clear_value x3
  intro x4
  clear_value x4
  intro x5
  have h5 : Canon κ x5 := by
    unfold x5
    apply canon_wr
    apply canon_wr
    apply canon_wr
    assumption
    decide
    decide
    decide
  clear_value x5
  apply canon_wrB
  apply canon_wrB
  assumption
  decide
  decide

theorem canon_moveBlock {κ : LaneId} {l : LaneSt} (h : Canon κ l) (b : Nat) (c : Nat) : Canon κ (LaneSt.moveBlock l b c) := by
  unfold LaneSt.moveBlock
  lift_lets
  intro x1
  clear_value x1
  intro x2
  have h2 : Canon κ x2 := by
    unfold x2
    apply canon_setBlock
    assumption
  clear_value x2
  apply canon_showNvm
  apply canon_setBlock
  assumption

theorem canon_refreshBlock {κ : LaneId} {l : LaneSt} (h : Canon κ l) (b : Nat) : Canon κ (LaneSt.refreshBlock l b) := by
  unfold LaneSt.refreshBlock
  split
  assumption
  apply canon_satInc
  apply canon_moveBlock
  assumption
  decide

theorem canon_retireBlock {κ : LaneId} {l : LaneSt} (h : Canon κ l) (b : Nat) (writeFailed : Bool) : Canon κ (LaneSt.retireBlock l b writeFailed) := by
  unfold LaneSt.retireBlock
  split
  refine canon_ite (fun _ => ?_) (fun _ => ?_)
  apply canon_fault
  apply canon_showNvm
  assumption
  apply canon_showNvm
  assumption
  lift_lets
  intro x1
  clear_value x1
  intro x2
  have h2 : Canon κ x2 := by
    unfold x2
    apply canon_setBlock
    assumption
  clear_value x2
  intro x3
  clear_value x3
  intro x4
  have h4 : Canon κ x4 := by
    unfold x4
    apply canon_showNvm
    apply canon_setBlock
    assumption
  clear_value x4
  apply canon_fault
  apply canon_satInc
  assumption
  decide

theorem canon_pageRead {κ : LaneId} {l : LaneSt} (h : Canon κ l) (b : Nat) (corrected : Nat) (ok : Bool) : Canon κ (LaneSt.pageRead l b corrected ok) := by
  unfold LaneSt.pageRead
  lift_lets
  intro x1
  clear_value x1
  intro x2
  have h2 : Canon κ x2 := by
    unfold x2
    apply canon_setBlock
    assumption
  clear_value x2
  intro x3
  have h3 : Canon κ x3 := by
    unfold x3
    refine canon_ite (fun _ => ?_) (fun _ => ?_)
    assumption
    apply canon_fault
    assumption
  clear_value x3
  refine canon_ite (fun _ => ?_) (fun _ => ?_)
  assumption
  refine canon_ite (fun _ => ?_) (fun _ => ?_)
  apply canon_fault
  assumption
  refine canon_ite (fun _ => ?_) (fun _ => ?_)
  apply canon_retireBlock
  assumption
  refine canon_ite (fun _ => ?_) (fun _ => ?_)
  apply canon_setMem
  assumption
  assumption

theorem canon_nvmRefresh {κ : LaneId} {l : LaneSt} (h : Canon κ l) : Canon κ (LaneSt.nvmRefresh l) := by
  unfold LaneSt.nvmRefresh
  refine canon_ite (fun _ => ?_) (fun _ => ?_)
  assumption
  refine canon_foldl ?_ (fun _ _ _ => ?_)
  apply canon_bgWork
  assumption
  lift_lets
  intro x1
  clear_value x1
  intro x2
  have h2 : Canon κ x2 := by
    unfold x2
    apply canon_setBlock
    assumption
  clear_value x2
  refine canon_ite (fun _ => ?_) (fun _ => ?_)
  assumption
  refine canon_ite (fun _ => ?_) (fun _ => ?_)
  apply canon_refreshBlock
  assumption
  assumption

theorem canon_nvmWear {κ : LaneId} {l : LaneSt} (h : Canon κ l) : Canon κ (LaneSt.nvmWear l) := by
  unfold LaneSt.nvmWear
  refine canon_ite (fun _ => ?_) (fun _ => ?_)
  assumption
  lift_lets
  intro x1
  clear_value x1
  intro x2
  have h2 : Canon κ x2 := by
    unfold x2
    apply canon_setMem
    apply canon_bgWork
    assumption
  clear_value x2
  intro x3
  have h3 : Canon κ x3 := by
    unfold x3
    refine canon_foldl ?_ (fun _ _ _ => ?_)
    assumption
    refine canon_ite (fun _ => ?_) (fun _ => ?_)
    apply canon_refreshBlock
    assumption
    assumption
  clear_value x3
  intro x4
  clear_value x4
  intro x5
  clear_value x5
  split
  refine canon_ite (fun _ => ?_) (fun _ => ?_)
  apply canon_satInc
  apply canon_moveBlock
  assumption
  decide
  assumption
  assumption

theorem canon_sampleCh {κ : LaneId} {l : LaneSt} (h : Canon κ l) (n : Nat) : Canon κ (LaneSt.sampleCh l n) := by
  unfold LaneSt.sampleCh
  lift_lets
  intro x1
  have h1 : Canon κ x1.2 := by
    unfold x1
    apply canon_fresh
    assumption
  clear_value x1
  intro x2
  have h2 : Canon κ x2 := by
    unfold x2
    assumption
  clear_value x2
  intro x3
  clear_value x3
  intro x4
  clear_value x4
  intro x5
  clear_value x5
  intro x6
  clear_value x6
  intro x7
  clear_value x7
  intro x8
  clear_value x8
  intro x9
  clear_value x9
  intro x10
  clear_value x10
  intro x11
  clear_value x11
  intro x12
  clear_value x12
  intro x13
  clear_value x13
  apply canon_setMem
  assumption

theorem canon_noteTemp {κ : LaneId} {l : LaneSt} (h : Canon κ l) (n : Nat) : Canon κ (LaneSt.noteTemp l n) := by
  unfold LaneSt.noteTemp
  lift_lets
  intro x1
  clear_value x1
  apply canon_setMem
  assumption

theorem canon_telSampleNow {κ : LaneId} {l : LaneSt} (h : Canon κ l) (logic : Int) (gd0 : Int) (gd1 : Int) (vin : Nat) (vgd : Nat) (vio : Nat) : Canon κ (LaneSt.telSampleNow l logic gd0 gd1 vin vgd vio) := by
  unfold LaneSt.telSampleNow
  lift_lets
  intro x1
  have h1 : Canon κ x1 := by
    unfold x1
    apply canon_wrSat
    apply canon_wrSat
    apply canon_wrSat
    assumption
    decide
    decide
    decide
  clear_value x1
  intro x2
  clear_value x2
  intro x3
  have h3 : Canon κ x3 := by
    unfold x3
    apply canon_wrSat
    assumption
    decide
  clear_value x3
  intro x4
  have h4 : Canon κ x4 := by
    unfold x4
    apply canon_wr
    apply canon_wr
    apply canon_wr
    assumption
    decide
    decide
    decide
  clear_value x4
  intro x5
  have h5 : Canon κ x5 := by
    unfold x5
    apply canon_setMem
    assumption
  clear_value x5
  intro x6
  have h6 : Canon κ x6 := by
    unfold x6
    refine canon_foldl ?_ (fun _ _ _ => ?_)
    assumption
    apply canon_noteTemp
    assumption
  clear_value x6
  apply canon_bgWork
  refine canon_foldl ?_ (fun _ _ _ => ?_)
  assumption
  refine canon_ite (fun _ => ?_) (fun _ => ?_)
  apply canon_sampleCh
  assumption
  assumption

theorem canon_telSample {κ : LaneId} {l : LaneSt} (h : Canon κ l) (logic gd0 gd1 : Int) (vin vgd vio : Nat) :
    Canon κ (LaneSt.telSample l logic gd0 gd1 vin vgd vio) := by
  unfold LaneSt.telSample
  exact canon_ite (fun _ => h) (fun _ => canon_telSampleNow (canon_setMem h _) _ _ _ _ _ _)

theorem canon_telSave {κ : LaneId} {l : LaneSt} (h : Canon κ l) : Canon κ (LaneSt.telSave l) := by
  unfold LaneSt.telSave
  apply canon_setMem
  assumption

theorem canon_telSaveDue {κ : LaneId} {l : LaneSt} (h : Canon κ l) : Canon κ (LaneSt.telSaveDue l) := by
  unfold LaneSt.telSaveDue
  exact canon_ite (fun _ => h) (fun _ => canon_telSave (canon_setMem h _))

theorem canon_telEntry {κ : LaneId} {l : LaneSt} (h : Canon κ l) (k : LaneId) (bs : List Byte) (stamp : Nat) (n : Nat) : Canon κ (LaneSt.telEntry l k bs stamp n) := by
  unfold LaneSt.telEntry
  lift_lets
  intro x1
  clear_value x1
  intro x2
  clear_value x2
  intro x3
  clear_value x3
  intro x4
  clear_value x4
  intro x5
  have h5 : Canon κ x5 := by
    unfold x5
    apply canon_post
    assumption
  clear_value x5
  apply canon_inc
  assumption
  decide

theorem canon_telSettle {κ : LaneId} {l : LaneSt} (h : Canon κ l) : Canon κ (LaneSt.telSettle l) := by
  unfold LaneSt.telSettle
  split
  assumption
  lift_lets
  intro x1
  clear_value x1
  intro x2
  have h2 : Canon κ x2 := by
    unfold x2
    refine canon_foldl ?_ (fun _ _ _ => ?_)
    assumption
    refine canon_foldl ?_ (fun _ _ _ => ?_)
    assumption
    refine canon_ite (fun _ => ?_) (fun _ => ?_)
    assumption
    apply canon_telEntry
    assumption
  clear_value x2
  refine canon_ite (fun _ => ?_) (fun _ => ?_)
  assumption
  apply canon_raise
  apply canon_setMem
  assumption

theorem canon_telBatchNow {κ : LaneId} {l : LaneSt} (h : Canon κ l) : Canon κ (LaneSt.telBatchNow l) := by
  unfold LaneSt.telBatchNow
  split
  apply canon_inc
  assumption
  decide
  lift_lets
  intro x1
  clear_value x1
  intro x2
  have h2 : Canon κ x2 := by
    unfold x2
    apply canon_setMem
    assumption
  refine canon_ite (fun _ => ?_) (fun _ => ?_)
  apply canon_sendTo
  assumption
  apply canon_telSettle
  apply canon_setMem
  assumption

theorem canon_telBatch {κ : LaneId} {l : LaneSt} (h : Canon κ l) : Canon κ (LaneSt.telBatch l) := by
  unfold LaneSt.telBatch
  exact canon_ite (fun _ => h) (fun _ => canon_telBatchNow (canon_setMem h _))

end Sys2Proof.Machine
end

