-- ==== Sys2Proof/Laws/CanonSeal.lean ====
section
/-!
SUPPORT. Every operation of Machine/Seal.lean keeps a lane sound.
-/

namespace Sys2Proof.Machine

open Sys2Proof LaneSt

theorem canon_noteSched {κ : LaneId} {l : LaneSt} (h : Canon κ l) : Canon κ (LaneSt.noteSched l) := by
  unfold LaneSt.noteSched
  split
  apply canon_wr
  apply canon_wr
  apply canon_wr
  assumption
  decide
  decide
  decide
  apply canon_wr
  apply canon_wr
  apply canon_wr
  assumption
  decide
  decide
  decide

end Sys2Proof.Machine
end

