-- ==== Sys2Proof/Laws/CanonCfg.lean ====
section
/-!
SUPPORT. Every operation of Machine/Cfg.lean keeps a lane sound.
-/

namespace Sys2Proof.Machine

open Sys2Proof LaneSt

theorem rwsMask_low {off : Nat} (ho : off < 4096) : rwsMask off = 0 := by
  unfold rwsMask
  cases h : regRow off with
  | none => rfl
  | some r => exact rws_of_regRow h ho

/-- A write of the RWS bits of a word keeps the identity registers, which have none. -/
theorem canon_setRws {κ : LaneId} {l : LaneSt} (h : Canon κ l) (off : Nat) (v : Word) :
    Canon κ (l.setWord off ((l.word off &&& ~~~(BitVec.ofNat 32 (rwsMask off))) ||| (v &&& BitVec.ofNat 32 (rwsMask off)))) := by
  refine canon_setWord_same h (fun ho => ?_)
  rw [rwsMask_low ho]
  simp only [BitVec.not_zero, BitVec.and_zero, BitVec.or_zero, BitVec.and_allOnes]

theorem canon_loadWords {κ : LaneId} {l : LaneSt} (h : Canon κ l) (vals : List (Nat × Nat)) : Canon κ (LaneSt.loadWords l vals) :=
  canon_foldl h (fun _ _ hl => canon_setRws hl _ _)


theorem canon_loadImage {κ : LaneId} {l : LaneSt} (h : Canon κ l) (items : List ImgItem) : Canon κ (LaneSt.loadImage l items) := by
  unfold LaneSt.loadImage
  apply canon_loadWords
  assumption

theorem canon_setImage {κ : LaneId} {l : LaneSt} (h : Canon κ l) (img : List Byte) : Canon κ (LaneSt.setImage l img) := by
  unfold LaneSt.setImage
  lift_lets
  intro x1
  clear_value x1
  intro x2
  have h2 : Canon κ x2 := by
    unfold x2
    apply canon_wr
    apply canon_wr
    assumption
    decide
    decide
  clear_value x2
  intro x3
  have h3 : Canon κ x3 := by
    unfold x3
    apply canon_wr
    assumption
    decide
  clear_value x3
  intro x4
  clear_value x4
  refine canon_mk ?_ rfl rfl rfl
  assumption

theorem canon_storeCopies {κ : LaneId} {l : LaneSt} (h : Canon κ l) : Canon κ (LaneSt.storeCopies l) := by
  unfold LaneSt.storeCopies
  lift_lets
  intro x1
  clear_value x1
  intro x2
  have h2 : Canon κ x2 := by
    unfold x2
    apply canon_wr
    assumption
    decide
  clear_value x2
  intro x3
  clear_value x3
  refine canon_mk ?_ rfl rfl rfl
  assumption

theorem canon_dieLoad {κ : LaneId} {l : LaneSt} (h : Canon κ l) : Canon κ (LaneSt.dieLoad l) := by
  unfold LaneSt.dieLoad
  lift_lets
  intro x1
  clear_value x1
  intro x2
  have h2 : Canon κ x2 := by
    unfold x2
    refine canon_mk ?_ rfl rfl rfl
    assumption
  clear_value x2
  refine canon_foldl ?_ (fun _ _ _ => ?_)
  assumption
  apply canon_setGateCh
  assumption

theorem canon_startFunctions {κ : LaneId} {l : LaneSt} (h : Canon κ l) : Canon κ (LaneSt.startFunctions l) := by
  unfold LaneSt.startFunctions
  apply canon_evalSafety
  refine canon_foldl ?_ (fun _ _ _ => ?_)
  assumption
  lift_lets
  intro x1
  refine canon_ite (fun _ => ?_) (fun _ => ?_)
  apply canon_setSf
  assumption
  refine canon_ite (fun _ => ?_) (fun _ => ?_)
  apply canon_setSf
  assumption
  assumption

theorem canon_takeSetup {κ : LaneId} {l : LaneSt} (h : Canon κ l) : Canon κ (LaneSt.takeSetup l) := by
  unfold LaneSt.takeSetup
  lift_lets
  intro x1
  have h1 : Canon κ x1 := by
    unfold x1
    apply canon_wr
    apply canon_dieLoad
    assumption
    decide
  clear_value x1
  intro x2
  have h2 : Canon κ x2 := by
    unfold x2
    refine canon_foldl ?_ (fun _ _ _ => ?_)
    assumption
    apply canon_showLimits
    apply canon_showTorque
    assumption
  clear_value x2
  apply canon_startFunctions
  apply canon_judgePos
  apply canon_judgeSlots
  assumption

theorem canon_sealNow {κ : LaneId} {l : LaneSt} (h : Canon κ l) : Canon κ (LaneSt.sealNow l) := by
  unfold LaneSt.sealNow
  lift_lets
  intro x1
  have h1 : Canon κ x1 := by
    unfold x1
    apply canon_wr
    apply canon_wr
    apply canon_wr
    assumption
    decide
    decide
    decide
  clear_value x1
  intro x2
  clear_value x2
  intro x3
  have h3 : Canon κ x3 := by
    unfold x3
    apply canon_judgeSetup
    apply canon_send
    assumption
  clear_value x3
  intro x4
  clear_value x4
  intro x5
  clear_value x5
  intro x6
  have h6 : Canon κ x6 := by
    unfold x6
    refine canon_ite (fun _ => ?_) (fun _ => ?_)
    assumption
    apply canon_appendLog
    apply canon_storeCopies
    apply canon_setImage
    assumption
  clear_value x6
  intro x7
  have h7 : Canon κ x7 := by
    unfold x7
    apply canon_wr
    assumption
    decide
  clear_value x7
  intro x8
  have h8 : Canon κ x8 := by
    unfold x8
    refine canon_foldl ?_ (fun _ _ _ => ?_)
    assumption
    refine canon_ite (fun _ => ?_) (fun _ => ?_)
    apply canon_portStart
    assumption
    assumption
  clear_value x8
  apply canon_takeSetup
  assumption

theorem canon_quoinWrite {κ : LaneId} {l : LaneSt} (h : Canon κ l) (key : Nat) : Canon κ (LaneSt.quoinWrite l key) := by
  unfold LaneSt.quoinWrite
  refine canon_ite (fun _ => ?_) (fun _ => ?_)
  apply canon_fault
  assumption
  refine canon_ite (fun _ => ?_) (fun _ => ?_)
  assumption
  lift_lets
  intro x1
  have h1 : Canon κ x1 := by
    unfold x1
    apply canon_noteSched
    assumption
  clear_value x1
  split
  apply canon_wr
  apply canon_wr
  assumption
  decide
  decide
  apply canon_sealNow
  assumption

theorem canon_restartPn {κ : LaneId} {l : LaneSt} (h : Canon κ l) (net : Nat) (port : Nat) : Canon κ (LaneSt.restartPn l net port) := by
  unfold LaneSt.restartPn
  apply canon_setNet
  assumption

theorem canon_installSak {κ : LaneId} {l : LaneSt} (h : Canon κ l) (net : Nat) (port : Nat) (an : Nat) (k : List Byte) : Canon κ (LaneSt.installSak l net port an k) := by
  unfold LaneSt.installSak
  apply canon_restartPn
  refine canon_mk ?_ rfl rfl rfl
  assumption

theorem canon_sakWrite {κ : LaneId} {l : LaneSt} (h : Canon κ l) (net : Nat) (port : Nat) (n : Nat) (v : Nat) : Canon κ (LaneSt.sakWrite l net port n v) := by
  unfold LaneSt.sakWrite
  refine canon_ite (fun _ => ?_) (fun _ => ?_)
  assumption
  lift_lets
  intro x1
  clear_value x1
  intro x2
  clear_value x2
  intro x3
  clear_value x3
  apply canon_installSak
  assumption

theorem canon_stage {κ : LaneId} {l : LaneSt} (h : Canon κ l) (off : Nat) (bs : List Byte) : Canon κ (LaneSt.stage l off bs) := by
  induction bs generalizing l off with
  | nil => exact h
  | cons b bs ih =>
    have hn : Canon κ { l with staging := Sparse.set (fun _ => 0) l.staging off b } :=
      ⟨h.id, h.regs, Sparse.wf_set (d := fun _ => (0 : Byte)) h.staging _ _, h.ident⟩
    exact ih hn _


theorem canon_commitStart {κ : LaneId} {l : LaneSt} (h : Canon κ l) (d : Decided) (epoch : Nat) (length : Nat) (crc : Nat) : Canon κ (LaneSt.commitStart l d epoch length crc) := by
  unfold LaneSt.commitStart
  lift_lets
  intro x1
  have h1 : Canon κ x1 := by
    unfold x1
    apply canon_wr
    assumption
    decide
  clear_value x1
  refine canon_mk ?_ rfl rfl rfl
  assumption

theorem canon_setCommit {κ : LaneId} {l : LaneSt} (h : Canon κ l) (f : Commit → Commit) : Canon κ (LaneSt.setCommit l f) := by
  unfold LaneSt.setCommit
  refine canon_mk ?_ rfl rfl rfl
  assumption

theorem canon_readyCheck {κ : LaneId} {l : LaneSt} (h : Canon κ l) : Canon κ (LaneSt.readyCheck l) := by
  unfold LaneSt.readyCheck
  split
  assumption
  refine canon_ite (fun _ => ?_) (fun _ => ?_)
  assumption
  lift_lets
  intro x1
  clear_value x1
  intro x2
  have h2 : Canon κ x2 := by
    unfold x2
    apply canon_noteSched
    apply canon_loadImage
    assumption
  clear_value x2
  intro x3
  have h3 : Canon κ x3 := by
    unfold x3
    apply canon_setWord
    assumption
    decide
  clear_value x3
  intro x4
  clear_value x4
  refine canon_ite (fun _ => ?_) (fun _ => ?_)
  apply canon_send
  apply canon_setCommit
  assumption
  split
  apply canon_send
  apply canon_setCommit
  assumption
  apply canon_send
  apply canon_setCommit
  assumption

theorem canon_readyDeadline {κ : LaneId} {l : LaneSt} (h : Canon κ l) : Canon κ (LaneSt.readyDeadline l) := by
  unfold LaneSt.readyDeadline
  split
  assumption
  refine canon_ite (fun _ => ?_) (fun _ => ?_)
  assumption
  lift_lets
  intro x1
  clear_value x1
  intro x2
  clear_value x2
  apply canon_send
  apply canon_setCommit
  assumption

theorem canon_decisionDeadline {κ : LaneId} {l : LaneSt} (h : Canon κ l) : Canon κ (LaneSt.decisionDeadline l) := by
  unfold LaneSt.decisionDeadline
  split
  assumption
  refine canon_ite (fun _ => ?_) (fun _ => ?_)
  assumption
  lift_lets
  intro x1
  clear_value x1
  refine canon_ite (fun _ => ?_) (fun _ => ?_)
  apply canon_setCommit
  assumption
  apply canon_setCommit
  assumption

theorem canon_carryPort {κ : LaneId} {l : LaneSt} (h : Canon κ l) (old : LaneSt) (p : Nat) : Canon κ (LaneSt.carryPort l old p) := by
  unfold LaneSt.carryPort
  refine canon_ite (fun _ => ?_) (fun _ => ?_)
  assumption
  apply canon_sourceBad
  apply canon_portStart
  assumption

theorem canon_carryInput {κ : LaneId} {l : LaneSt} (h : Canon κ l) (old : LaneSt) (i : Nat) : Canon κ (LaneSt.carryInput l old i) := by
  unfold LaneSt.carryInput
  refine canon_ite (fun _ => ?_) (fun _ => ?_)
  assumption
  apply canon_wr
  assumption
  exact off_add (by decide)

theorem canon_freezeHolds {κ : LaneId} {l : LaneSt} (h : Canon κ l) : Canon κ (LaneSt.freezeHolds l) := by
  unfold LaneSt.freezeHolds
  refine canon_mk ?_ rfl rfl rfl
  assumption

theorem canon_carryNet {κ : LaneId} {l : LaneSt} (h : Canon κ l) (old : LaneSt) (p : Nat) : Canon κ (LaneSt.carryNet l old p) := by
  unfold LaneSt.carryNet
  lift_lets
  intro x1
  have h1 : Canon κ x1 := by
    unfold x1
    apply canon_setNet
    assumption
  clear_value x1
  intro x2
  have h2 : Canon κ x2 := by
    unfold x2
    refine canon_ite (fun _ => ?_) (fun _ => ?_)
    apply canon_wr
    assumption
    exact off_add (by decide)
    assumption
  clear_value x2
  refine canon_ite (fun _ => ?_) (fun _ => ?_)
  assumption
  apply canon_setNet
  assumption

theorem canon_carryChopper {κ : LaneId} {l : LaneSt} (h : Canon κ l) (old : LaneSt) (k : Nat) : Canon κ (LaneSt.carryChopper l old k) := by
  unfold LaneSt.carryChopper
  refine canon_ite (fun _ => ?_) (fun _ => ?_)
  lift_lets
  intro x1
  have h1 : Canon κ x1 := by
    unfold x1
    refine canon_ite (fun _ => ?_) (fun _ => ?_)
    assumption
    apply canon_setChp
    assumption
  clear_value x1
  intro x2
  clear_value x2
  refine canon_mk ?_ rfl rfl rfl
  assumption
  assumption

theorem canon_applyItem {κ : LaneId} {l : LaneSt} (h : Canon κ l) (tag : Nat) (it : ImgItem) : Canon κ (LaneSt.applyItem tag l it) := by
  unfold LaneSt.applyItem
  split
  refine canon_mk ?_ rfl rfl rfl
  assumption
  refine canon_mk ?_ rfl rfl rfl
  assumption
  lift_lets
  intro x1
  clear_value x1
  intro x2
  have h2 : Canon κ x2 := by
    unfold x2
    refine canon_foldl ?_ (fun _ _ _ => ?_)
    assumption
    apply canon_wr
    assumption
    exact off_add (by decide)
  clear_value x2
  intro x3
  have h3 : Canon κ x3 := by
    unfold x3
    apply canon_wr
    apply canon_wr
    assumption
    decide
    decide
  clear_value x3
  intro x4
  clear_value x4
  intro x5
  have h5 : Canon κ x5 := by
    unfold x5
    refine canon_mk ?_ rfl rfl rfl
    assumption
  clear_value x5
  apply canon_appendLog
  assumption
  lift_lets
  intro x6
  clear_value x6
  apply canon_installSak
  assumption
  assumption

theorem canon_epoch {κ : LaneId} {l : LaneSt} (h : Canon κ l) : Canon κ (LaneSt.epoch l) := by
  unfold LaneSt.epoch
  split
  assumption
  refine canon_ite (fun _ => ?_) (fun _ => ?_)
  assumption
  lift_lets
  intro x1
  clear_value x1
  intro x2
  clear_value x2
  intro x3
  have h3 : Canon κ x3 := by
    unfold x3
    refine canon_foldl ?_ (fun _ _ _ => ?_)
    apply canon_freezeHolds
    assumption
    apply canon_endOldTick
    assumption
  clear_value x3
  intro x4
  clear_value x4
  intro x5
  clear_value x5
  intro x6
  clear_value x6
  intro x7
  have h7 : Canon κ x7 := by
    unfold x7
    refine canon_mk ?_ rfl rfl rfl
    assumption
  clear_value x7
  intro x8
  have h8 : Canon κ x8 := by
    unfold x8
    refine canon_foldl ?_ (fun _ _ _ => ?_)
    apply canon_loadImage
    assumption
    apply canon_applyItem
    assumption
  clear_value x8
  intro x9
  have h9 : Canon κ x9 := by
    unfold x9
    apply canon_carryTicks
    assumption
  clear_value x9
  intro x10
  have h10 : Canon κ x10 := by
    unfold x10
    refine canon_foldl ?_ (fun _ _ _ => ?_)
    assumption
    apply canon_carryPort
    assumption
  clear_value x10
  intro x11
  have h11 : Canon κ x11 := by
    unfold x11
    refine canon_foldl ?_ (fun _ _ _ => ?_)
    assumption
    apply canon_carryInput
    assumption
  clear_value x11
  intro x12
  have h12 : Canon κ x12 := by
    unfold x12
    refine canon_foldl ?_ (fun _ _ _ => ?_)
    assumption
    apply canon_carryNet
    assumption
  clear_value x12
  intro x13
  have h13 : Canon κ x13 := by
    unfold x13
    refine canon_foldl ?_ (fun _ _ _ => ?_)
    assumption
    apply canon_carryChopper
    assumption
  clear_value x13
  intro x14
  have h14 : Canon κ x14 := by
    unfold x14
    apply canon_inc
    apply canon_setImage
    assumption
    decide
  clear_value x14
  intro x15
  have h15 : Canon κ x15 := by
    unfold x15
    apply canon_takeSetup
    apply canon_wr
    assumption
    decide
  clear_value x15
  intro x16
  clear_value x16
  intro x17
  have h17 : Canon κ x17 := by
    unfold x17
    refine canon_foldl ?_ (fun _ _ _ => ?_)
    assumption
    apply canon_setPeer
    assumption
  clear_value x17
  apply canon_setCommit
  assumption

theorem canon_commitClear {κ : LaneId} {l : LaneSt} (h : Canon κ l) : Canon κ (LaneSt.commitClear l) := by
  unfold LaneSt.commitClear
  lift_lets
  intro x1
  have h1 : Canon κ x1 := by
    unfold x1
    refine canon_foldl ?_ (fun _ _ _ => ?_)
    assumption
    apply canon_setPeer
    assumption
  clear_value x1
  intro x2
  have h2 : Canon κ x2 := by
    unfold x2
    apply canon_wr
    assumption
    decide
  clear_value x2
  refine canon_mk ?_ rfl rfl rfl
  assumption

theorem canon_commitClose {κ : LaneId} {l : LaneSt} (h : Canon κ l) : Canon κ (LaneSt.commitClose l) := by
  unfold LaneSt.commitClose
  split
  assumption
  refine canon_ite (fun _ => ?_) (fun _ => ?_)
  apply canon_commitClear
  assumption
  split
  lift_lets
  intro x1
  clear_value x1
  intro x2
  have h2 : Canon κ x2 := by
    unfold x2
    apply canon_complete
    apply canon_commitClear
    assumption
  clear_value x2
  intro x3
  clear_value x3
  intro x4
  have h4 : Canon κ x4 := by
    unfold x4
    refine canon_mk ?_ rfl rfl rfl
    assumption
  clear_value x4
  apply canon_appendLog
  apply canon_storeCopies
  assumption
  split
  refine canon_ite (fun _ => ?_) (fun _ => ?_)
  assumption
  lift_lets
  intro x5
  have h5 : Canon κ x5 := by
    unfold x5
    apply canon_abort
    apply canon_commitClear
    assumption
  clear_value x5
  intro x6
  clear_value x6
  refine canon_mk ?_ rfl rfl rfl
  assumption
  assumption

end Sys2Proof.Machine
end

