-- ==== Sys2Proof/Laws/CanonSec.lean ====
section
/-!
SUPPORT. Every operation of Machine/Sec.lean keeps a lane sound.
-/

namespace Sys2Proof.Machine

open Sys2Proof LaneSt

theorem canon_awaitBuffer {κ : LaneId} {l : LaneSt} (h : Canon κ l) (d : Decided) : Canon κ (LaneSt.awaitBuffer l d) := by
  unfold LaneSt.awaitBuffer
  split
  refine canon_mk ?_ rfl rfl rfl
  assumption
  assumption

theorem canon_bufferDone {κ : LaneId} {l : LaneSt} (h : Canon κ l) (d : Decided) (bytes : Option (List Byte)) : Canon κ (LaneSt.bufferDone l d bytes) := by
  unfold LaneSt.bufferDone
  refine canon_mk ?_ rfl rfl rfl
  assumption

theorem canon_bufferRead {κ : LaneId} {l : LaneSt} (h : Canon κ l) (d : Decided) (n : Nat) (bytes : Option (List Byte)) (flips : List (BitVec 72)) : Canon κ (LaneSt.bufferRead l d n bytes flips) := by
  unfold LaneSt.bufferRead
  split
  refine canon_ite (fun _ => ?_) (fun _ => ?_)
  assumption
  lift_lets
  intro x1
  clear_value x1
  intro x2
  have h2 : Canon κ x2 := by
    unfold x2
    refine canon_mk ?_ rfl rfl rfl
    assumption
  clear_value x2
  intro x3
  have h3 : Canon κ x3.1 := by
    unfold x3
    apply canon_crossBytes
    assumption
  clear_value x3
  intro x4
  have h4 : Canon κ x4 := by
    unfold x4
    apply canon_bufferDone
    assumption
  clear_value x4
  split
  assumption
  refine canon_ite (fun _ => ?_) (fun _ => ?_)
  refine canon_foldl ?_ (fun _ _ _ => ?_)
  assumption
  apply canon_sendTo
  assumption
  assumption
  apply canon_dmaFailed
  apply canon_bufferDone
  assumption

theorem off_fwStateF (k : Nat) : 4096 ≤ (fwStateF k).off := by
  unfold fwStateF
  split
  decide
  decide

theorem off_fwVersionF (k : Nat) : 4096 ≤ (fwVersionF k).off := by
  unfold fwVersionF
  split
  decide
  decide

theorem canon_fwWrite {κ : LaneId} {l : LaneSt} (h : Canon κ l) (offset : Nat) (bs : List Byte) : Canon κ (LaneSt.fwWrite l offset bs) := by
  unfold LaneSt.fwWrite
  lift_lets
  intro x1
  clear_value x1
  intro x2
  clear_value x2
  intro x3
  clear_value x3
  intro x4
  have h4 : Canon κ x4 := by
    unfold x4
    refine canon_mk ?_ rfl rfl rfl
    assumption
  clear_value x4
  intro x5
  have h5 : Canon κ x5 := by
    unfold x5
    refine canon_ite (fun _ => ?_) (fun _ => ?_)
    apply canon_wr
    apply canon_wr
    assumption
    apply off_fwStateF
    apply off_fwVersionF
    assumption
  clear_value x5
  apply canon_wr
  apply canon_wr
  assumption
  decide
  decide

theorem canon_fwChunk {κ : LaneId} {l : LaneSt} (h : Canon κ l) (s : State) (d : Decided) (t : LaneId) (last : Bool) (offset : Nat) (bs : List Byte) (bad : Nat) : Canon κ (LaneSt.fwChunk l s d t last offset bs bad) := by
  unfold LaneSt.fwChunk
  lift_lets
  intro x1
  clear_value x1
  intro x2
  have h2 : Canon κ x2 := by
    unfold x2
    refine canon_ite (fun _ => ?_) (fun _ => ?_)
    apply canon_fwWrite
    assumption
    assumption
  clear_value x2
  intro x3
  clear_value x3
  refine canon_ite (fun _ => ?_) (fun _ => ?_)
  apply canon_abort
  assumption
  refine canon_ite (fun _ => ?_) (fun _ => ?_)
  apply canon_complete
  assumption
  refine canon_ite (fun _ => ?_) (fun _ => ?_)
  apply canon_deny
  assumption
  refine canon_ite (fun _ => ?_) (fun _ => ?_)
  apply canon_deny
  assumption
  refine canon_ite (fun _ => ?_) (fun _ => ?_)
  refine canon_mk ?_ rfl rfl rfl
  assumption
  apply canon_complete
  assumption

theorem canon_fwEnd {κ : LaneId} {l : LaneSt} (h : Canon κ l) (fault : Option Nat) : Canon κ (LaneSt.fwEnd l fault) := by
  unfold LaneSt.fwEnd
  lift_lets
  intro x1
  clear_value x1
  intro x2
  have h2 : Canon κ x2 := by
    unfold x2
    apply canon_wr
    assumption
    decide
  clear_value x2
  intro x3
  clear_value x3
  split
  apply canon_wr
  apply canon_wr
  assumption
  apply off_fwStateF
  apply off_fwVersionF
  apply canon_wr
  refine canon_mk ?_ rfl rfl rfl
  assumption
  apply off_fwStateF

theorem canon_fleetOne {κ : LaneId} {l n : LaneSt} (h : Canon κ l) {e : Nat × Nat × List Byte} (he : l.fleetOne e = .inl n) :
    Canon κ n := by
  unfold LaneSt.fleetOne at he
  split at he
  · split at he <;> cases he
    exact h
  · split at he
    · cases he
    · split at he
      · cases he
      · cases he
        refine canon_mk ?_ rfl rfl rfl
        repeat' (first | exact h | exact off_add (by decide) | decide | apply canon_wr)
  · cases he
    refine canon_mk ?_ rfl rfl rfl
    repeat' (first | exact h | exact off_add (by decide) | apply canon_wr)
  · cases he

theorem canon_fleetAll {κ : LaneId} {l n : LaneSt} (h : Canon κ l) {i : Nat} {es : List (Nat × Nat × List Byte)}
    (he : l.fleetAll i es = .inl n) : Canon κ n := by
  induction es generalizing l i with
  | nil => cases he; exact h
  | cons e es ih =>
    unfold LaneSt.fleetAll at he
    split at he
    · exact ih (canon_fleetOne h ‹_›) he
    · cases he

theorem canon_fleetTake {κ : LaneId} {l : LaneSt} (h : Canon κ l) : Canon κ (LaneSt.fleetTake l) := by
  unfold LaneSt.fleetTake
  refine canon_foldl (canon_mk h rfl rfl rfl) (fun _ _ hl => ?_)
  split
  · exact canon_appendLog (canon_fleetAll hl ‹_›) _ _ _ _ _ _
  · exact hl


theorem canon_fleetFuture {κ : LaneId} {l : LaneSt} (h : Canon κ l) : Canon κ (LaneSt.fleetFuture l) := by
  unfold LaneSt.fleetFuture
  refine canon_foldl h (fun _ _ hl => ?_)
  split
  · exact canon_fleetAll hl ‹_›
  · exact hl


theorem canon_fleetKeys {κ : LaneId} {l : LaneSt} (h : Canon κ l) (s : State) (d : Decided) (lanes : Nat) (length : Nat) (rec : List Byte) : Canon κ (LaneSt.fleetKeys l s d lanes length rec) := by
  unfold LaneSt.fleetKeys
  lift_lets
  intro x1
  clear_value x1
  intro x2
  clear_value x2
  intro x3
  clear_value x3
  intro x4
  clear_value x4
  intro x5
  have h5 : Canon κ x5 := by
    unfold x5
    refine canon_ite (fun _ => ?_) (fun _ => ?_)
    refine canon_mk ?_ rfl rfl rfl
    assumption
    assumption
  clear_value x5
  refine canon_ite (fun _ => ?_) (fun _ => ?_)
  apply canon_complete
  assumption
  refine canon_ite (fun _ => ?_) (fun _ => ?_)
  apply canon_complete
  assumption
  split
  apply canon_deny
  assumption
  apply canon_complete
  assumption

theorem canon_bufferEffect {κ : LaneId} {l : LaneSt} (h : Canon κ l) (s : State) (d : Decided) (bs : List Byte) (failed : Nat) (bad : Nat) : Canon κ (LaneSt.bufferEffect l s d bs failed bad) := by
  unfold LaneSt.bufferEffect
  lift_lets
  intro x1
  clear_value x1
  intro x2
  have h2 : Canon κ x2 := by
    unfold x2
    refine canon_mk ?_ rfl rfl rfl
    assumption
  clear_value x2
  refine canon_ite (fun _ => ?_) (fun _ => ?_)
  apply canon_complete
  assumption
  split
  refine canon_ite (fun _ => ?_) (fun _ => ?_)
  apply canon_abort
  assumption
  apply canon_complete
  apply canon_stage
  assumption
  apply canon_fwChunk
  assumption
  apply canon_fleetKeys
  assumption
  assumption

theorem canon_logRelease {κ : LaneId} {l : LaneSt} (h : Canon κ l) (n : Nat) (tag : Nat) : Canon κ (LaneSt.logRelease l n tag) := by
  unfold LaneSt.logRelease
  refine canon_ite (fun _ => ?_) (fun _ => ?_)
  assumption
  lift_lets
  intro x1
  have h1 : Canon κ x1 := by
    unfold x1
    apply canon_wr512
    assumption
    intro _
    exact off_add (by decide)
  clear_value x1
  intro x2
  clear_value x2
  intro x3
  have h3 : Canon κ x3 := by
    unfold x3
    refine canon_mk ?_ rfl rfl rfl
    assumption
  clear_value x3
  apply canon_appendLog
  apply canon_showLog
  assumption

theorem canon_afterReport {κ : LaneId} {l : LaneSt} (h : Canon κ l) (d : Decided) (bs : List Byte) : Canon κ (LaneSt.afterReport l d bs) := by
  unfold LaneSt.afterReport
  split
  refine canon_ite (fun _ => ?_) (fun _ => ?_)
  apply canon_logRelease
  assumption
  assumption
  assumption

end Sys2Proof.Machine
end

