-- ==== Sys2Proof/Laws/CanonFolio.lean ====
section
/-!
SUPPORT. Every operation of Machine/Folio.lean keeps a lane sound.
-/

namespace Sys2Proof.Machine

open Sys2Proof LaneSt

theorem canon_fltEvent {κ : LaneId} {l : LaneSt} (h : Canon κ l) (p : LaneId) (e : Nat) : Canon κ (LaneSt.fltEvent l p e) := by
  unfold LaneSt.fltEvent
  lift_lets
  intro x1
  intro x2
  refine canon_ite (fun _ => ?_) (fun _ => ?_)
  apply canon_excludePeer
  assumption
  refine canon_ite (fun _ => ?_) (fun _ => ?_)
  apply canon_excludePeer
  assumption
  assumption

theorem canon_folioClose {κ : LaneId} {l : LaneSt} (h : Canon κ l) : Canon κ (LaneSt.folioClose l) := by
  unfold LaneSt.folioClose
  split
  assumption
  refine canon_ite (fun _ => ?_) (fun _ => ?_)
  assumption
  lift_lets
  intro x1
  clear_value x1
  intro x2
  clear_value x2
  intro x3
  clear_value x3
  intro x4
  clear_value x4
  intro x5
  clear_value x5
  intro x6
  have h6 : Canon κ x6 := by
    unfold x6
    refine canon_mk ?_ rfl rfl rfl
    assumption
  clear_value x6
  apply canon_send
  assumption

theorem canon_judgeFolio {κ : LaneId} {l : LaneSt} (h : Canon κ l) : Canon κ (LaneSt.judgeFolio l) := by
  unfold LaneSt.judgeFolio
  lift_lets
  intro x1
  clear_value x1
  intro x2
  clear_value x2
  intro x3
  clear_value x3
  intro x4
  clear_value x4
  intro x5
  have h5 : Canon κ x5 := by
    unfold x5
    refine canon_mk ?_ rfl rfl rfl
    assumption
  clear_value x5
  intro x6
  have h6 : Canon κ x6 := by
    unfold x6
    refine canon_foldl ?_ (fun _ _ _ => ?_)
    assumption
    apply canon_setPeer
    assumption
  clear_value x6
  refine canon_ite (fun _ => ?_) (fun _ => ?_)
  refine canon_ite (fun _ => ?_) (fun _ => ?_)
  apply canon_attribute
  assumption
  assumption
  refine canon_ite (fun _ => ?_) (fun _ => ?_)
  apply canon_exclude
  assumption
  refine canon_foldl ?_ (fun _ _ _ => ?_)
  assumption
  refine canon_ite (fun _ => ?_) (fun _ => ?_)
  apply canon_requestExclusion
  assumption
  assumption

theorem canon_folioWrite {κ : LaneId} {l : LaneSt} (h : Canon κ l) : Canon κ (LaneSt.folioWrite l) := by
  unfold LaneSt.folioWrite
  split
  assumption
  refine canon_ite (fun _ => ?_) (fun _ => ?_)
  assumption
  lift_lets
  intro x1
  clear_value x1
  intro x2
  clear_value x2
  intro x3
  clear_value x3
  intro x4
  clear_value x4
  intro x5
  clear_value x5
  intro x6
  have h6 : Canon κ x6 := by
    unfold x6
    refine canon_mk ?_ rfl rfl rfl
    assumption
  clear_value x6
  intro x7
  have h7 : Canon κ x7 := by
    unfold x7
    refine canon_ite (fun _ => ?_) (fun _ => ?_)
    apply canon_raise
    apply canon_post
    apply canon_post
    apply canon_post
    assumption
    assumption
  clear_value x7
  apply canon_judgeFolio
  assumption

end Sys2Proof.Machine
end

