-- ==== Sys2Proof/Laws/CanonReset.lean ====
section
/-!
SUPPORT. Every operation of Machine/Reset.lean keeps a lane sound.
-/

namespace Sys2Proof.Machine

open Sys2Proof LaneSt

theorem wordsIn_ge {lo hi : Nat} (h : 4096 ≤ lo) : ∀ x ∈ wordsIn lo hi, 4096 ≤ x := by
  intro x hx
  obtain ⟨i, _, rfl⟩ := List.mem_map.1 hx
  exact off_add h

theorem nvmWords_ge : ∀ x ∈ nvmWords, 4096 ≤ x := by
  simp only [nvmWords, List.forall_mem_append]
  refine ⟨⟨⟨⟨⟨⟨?_, ?_⟩, ?_⟩, ?_⟩, ?_⟩, ?_⟩, ?_⟩ <;> first | exact wordsIn_ge (by decide) | decide

theorem canon_reset {κ : LaneId} {l : LaneSt} (h : Canon κ l) : Canon κ (LaneSt.reset l.id) := by
  obtain ⟨rfl, _, _, _⟩ := h
  exact ⟨rfl, rfl, rfl, fun _ _ => rfl⟩

theorem canon_keepWords {κ : LaneId} {n : LaneSt} (h : Canon κ n) (f : Nat → Word) (offs : List Nat) (ho : ∀ x ∈ offs, 4096 ≤ x) :
    Canon κ (LaneSt.keepWords n f offs) := by
  unfold LaneSt.keepWords
  induction offs generalizing n with
  | nil => exact h
  | cons o offs ih =>
    exact ih (canon_setWord h (ho o (List.mem_cons_self ..)) _) (fun x hx => ho x (List.mem_cons_of_mem _ hx))

theorem canon_keepRws {κ : LaneId} {n : LaneSt} (h : Canon κ n) (f : Nat → Word) : Canon κ (LaneSt.keepRws n f) :=
  canon_foldl h (fun _ _ hl => canon_setRws hl _ _)



theorem canon_takeFields {κ : LaneId} {l : LaneSt} (h : Canon κ l) (d : LaneSt) (fs : List Field) (hf : ∀ y ∈ fs, 4096 ≤ y.off) :
    Canon κ (LaneSt.takeFields l d fs) := by
  unfold LaneSt.takeFields
  induction fs generalizing l with
  | nil => exact h
  | cons f fs ih =>
    exact ih (canon_wr h (hf f (List.mem_cons_self ..)) _) (fun x hx => hf x (List.mem_cons_of_mem _ hx))


theorem canon_keepSubst {κ : LaneId} {l : LaneSt} (h : Canon κ l) : Canon κ (LaneSt.keepSubst l) := by
  unfold LaneSt.keepSubst
  lift_lets
  intro x1
  clear_value x1
  refine canon_foldl ?_ (fun _ _ _ => ?_)
  apply canon_wr
  assumption
  decide
  lift_lets
  intro x2
  have h2 : Canon κ x2 := by
    unfold x2
    apply canon_wr
    assumption
    exact off_add (by decide)
  clear_value x2
  apply canon_wrB
  apply canon_wrB
  assumption
  exact off_add (by decide)
  exact off_add (by decide)

theorem canon_cleared {κ : LaneId} {l : LaneSt} (h : Canon κ l) : Canon κ (LaneSt.cleared l) := by
  unfold LaneSt.cleared
  lift_lets
  intro x1
  have h1 : Canon κ x1 := by
    unfold x1
    apply canon_reset
    assumption
  clear_value x1
  intro x2
  clear_value x2
  intro x3
  clear_value x3
  intro x4
  clear_value x4
  intro x5
  have h5 : Canon κ x5 := by
    unfold x5
    refine canon_mk ?_ rfl rfl rfl
    assumption
  clear_value x5
  intro x6
  have h6 : Canon κ x6 := by
    unfold x6
    apply canon_wr
    apply canon_keepWords
    assumption
    exact nvmWords_ge
    decide
  clear_value x6
  apply canon_takeFields
  assumption
  refine List.forall_mem_cons.2 ⟨?_, ?_⟩
  decide
  refine List.forall_mem_cons.2 ⟨?_, ?_⟩
  decide
  refine List.forall_mem_cons.2 ⟨?_, ?_⟩
  decide
  refine List.forall_mem_cons.2 ⟨?_, ?_⟩
  decide
  exact List.forall_mem_nil _

theorem canon_proofReleased {κ : LaneId} {l : LaneSt} (h : Canon κ l) (readmission : Bool) : Canon κ (LaneSt.proofReleased l readmission) := by
  unfold LaneSt.proofReleased
  lift_lets
  intro x1
  have h1 : Canon κ x1 := by
    unfold x1
    apply canon_wr
    apply canon_wr
    assumption
    decide
    decide
  clear_value x1
  intro x2
  have h2 : Canon κ x2 := by
    unfold x2
    apply canon_wr
    apply canon_wrB
    apply canon_wr
    assumption
    decide
    decide
    decide
  clear_value x2
  apply canon_setBlk
  assumption

theorem canon_coldReset {κ : LaneId} {l : LaneSt} (h : Canon κ l) (cause : Nat) : Canon κ (LaneSt.coldReset l cause) := by
  unfold LaneSt.coldReset
  lift_lets
  intro x1
  have h1 : Canon κ x1 := by
    unfold x1
    apply canon_cleared
    assumption
  clear_value x1
  intro x2
  have h2 : Canon κ x2 := by
    unfold x2
    refine canon_ite (fun _ => ?_) (fun _ => ?_)
    apply canon_wr
    apply canon_keepWords
    assumption
    refine List.forall_mem_cons.2 ⟨?_, ?_⟩
    decide
    refine List.forall_mem_cons.2 ⟨?_, ?_⟩
    decide
    refine List.forall_mem_cons.2 ⟨?_, ?_⟩
    decide
    exact List.forall_mem_nil _
    decide
    assumption
  clear_value x2
  apply canon_proofReleased
  apply canon_wr
  apply canon_wr
  assumption
  decide
  decide

theorem canon_fwLoad {κ : LaneId} {l : LaneSt} (h : Canon κ l) : Canon κ (LaneSt.fwLoad l).1 := by
  unfold LaneSt.fwLoad
  lift_lets
  intro x1
  clear_value x1
  intro x2
  clear_value x2
  intro x3
  have h3 : Canon κ x3 := by
    unfold x3
    refine canon_ite (fun _ => ?_) (fun _ => ?_)
    apply canon_wr
    assumption
    apply off_fwStateF
    assumption
  clear_value x3
  intro x4
  clear_value x4
  intro x5
  have h5 : Canon κ x5 := by
    unfold x5
    apply canon_fault
    apply canon_wr
    assumption
    apply off_fwStateF
  clear_value x5
  intro x6
  clear_value x6
  split
  dsimp only
  apply canon_wr
  assumption
  decide
  split
  dsimp only
  apply canon_wr
  assumption
  decide
  dsimp only
  assumption

theorem canon_takeKeys {κ : LaneId} {l : LaneSt} (h : Canon κ l) (items : List ImgItem) : Canon κ (LaneSt.takeKeys l items) := by
  unfold LaneSt.takeKeys
  refine canon_foldl ?_ (fun _ _ _ => ?_)
  refine canon_mk ?_ rfl rfl rfl
  assumption
  split
  refine canon_mk ?_ rfl rfl rfl
  assumption
  refine canon_mk ?_ rfl rfl rfl
  assumption
  assumption

theorem canon_loadCommitted {κ : LaneId} {l : LaneSt} (h : Canon κ l) : Canon κ (LaneSt.loadCommitted l) := by
  unfold LaneSt.loadCommitted
  lift_lets
  intro x1
  clear_value x1
  intro x2
  have h2 : Canon κ x2 := by
    unfold x2
    apply canon_fault
    apply canon_wr
    assumption
    decide
  clear_value x2
  split
  apply canon_appendLog
  assumption
  lift_lets
  intro x3
  clear_value x3
  intro x4
  have h4 : Canon κ x4 := by
    unfold x4
    apply canon_setImage
    apply canon_takeKeys
    apply canon_loadImage
    assumption
  clear_value x4
  intro x5
  have h5 : Canon κ x5 := by
    unfold x5
    apply canon_wr
    assumption
    decide
  clear_value x5
  intro x6
  clear_value x6
  intro x7
  have h7 : Canon κ x7 := by
    unfold x7
    refine canon_ite (fun _ => ?_) (fun _ => ?_)
    assumption
    apply canon_fault
    apply canon_wr
    refine canon_mk ?_ rfl rfl rfl
    assumption
    decide
  clear_value x7
  intro x8
  clear_value x8
  refine canon_ite (fun _ => ?_) (fun _ => ?_)
  assumption
  apply canon_appendLog
  assumption

theorem canon_checkLog {κ : LaneId} {l : LaneSt} (h : Canon κ l) : Canon κ (LaneSt.checkLog l) := by
  unfold LaneSt.checkLog
  refine canon_ite (fun _ => ?_) (fun _ => ?_)
  apply canon_wr
  assumption
  decide
  apply canon_fault
  apply canon_wr
  assumption
  decide

theorem canon_restoreTelemetry {κ : LaneId} {l : LaneSt} (h : Canon κ l) : Canon κ (LaneSt.restoreTelemetry l) := by
  unfold LaneSt.restoreTelemetry
  split
  assumption
  apply canon_setMem
  assumption

theorem canon_clocksRun {κ : LaneId} {l : LaneSt} (h : Canon κ l) : Canon κ (LaneSt.clocksRun l) := by
  unfold LaneSt.clocksRun
  simp only [List.foldl_cons, List.foldl_nil]
  repeat' (first | exact h | decide | apply canon_wr)


theorem canon_startTime {κ : LaneId} {l : LaneSt} (h : Canon κ l) (since : Nat) : Canon κ (LaneSt.startTime l since) :=
  canon_mk (canon_fresh (canon_fresh h)) rfl rfl rfl

theorem canon_releasePads {κ : LaneId} {l : LaneSt} (h : Canon κ l) (since : Nat) (dead : Bool) : Canon κ (LaneSt.releasePads l since dead) := by
  unfold LaneSt.releasePads
  lift_lets
  intro x1
  have h1 : Canon κ x1 := by
    unfold x1
    apply canon_clocksRun
    apply canon_startTime
    assumption
  clear_value x1
  intro x2
  have h2 : Canon κ x2 := by
    unfold x2
    apply canon_wr
    apply canon_wr
    assumption
    decide
    decide
  clear_value x2
  intro x3
  clear_value x3
  intro x4
  have h4 : Canon κ x4 := by
    unfold x4
    refine canon_mk ?_ rfl rfl rfl
    assumption
  clear_value x4
  intro x5
  have h5 : Canon κ x5 := by
    unfold x5
    apply canon_wr
    apply canon_wr
    assumption
    decide
    decide
  clear_value x5
  intro x6
  have h6 : Canon κ x6 := by
    unfold x6
    apply canon_wr
    apply canon_setBlk
    assumption
    decide
  clear_value x6
  intro x7
  have h7 : Canon κ x7 := by
    unfold x7
    apply canon_wr
    assumption
    decide
  clear_value x7
  intro x8
  have h8 : Canon κ x8 := by
    unfold x8
    refine canon_foldl ?_ (fun _ _ _ => ?_)
    assumption
    apply canon_portStart
    assumption
  clear_value x8
  intro x9
  have h9 : Canon κ x9 := by
    unfold x9
    apply canon_takeSetup
    assumption
  clear_value x9
  refine canon_foldl ?_ (fun _ _ _ => ?_)
  assumption
  refine canon_ite (fun _ => ?_) (fun _ => ?_)
  apply canon_activeShort
  assumption
  assumption

theorem canon_proofEnded {κ : LaneId} {l : LaneSt} (h : Canon κ l) (failStep : Option (Fin 9)) : Canon κ (LaneSt.proofEnded l failStep) := by
  unfold LaneSt.proofEnded
  lift_lets
  intro x1
  have h1 : Canon κ x1 := by
    unfold x1
    apply canon_wr
    assumption
    decide
  clear_value x1
  intro x2
  have h2 : Canon κ x2 := by
    unfold x2
    apply canon_wr
    apply canon_wr
    apply canon_wr
    assumption
    decide
    decide
    decide
  clear_value x2
  intro x3
  have h3 : Canon κ x3.2 := by
    unfold x3
    apply canon_fresh
    assumption
  clear_value x3
  split
  apply canon_firstCorrection
  apply canon_wr
  apply canon_wr
  assumption
  decide
  decide
  lift_lets
  intro x4
  have h4 : Canon κ x4 := by
    unfold x4
    apply canon_wr
    apply canon_wr
    apply canon_wr
    assumption
    decide
    decide
    decide
  clear_value x4
  refine canon_ite (fun _ => ?_) (fun _ => ?_)
  assumption
  apply canon_wr
  apply canon_wr
  assumption
  decide
  decide

theorem canon_bringUp {κ : LaneId} {l : LaneSt} (h : Canon κ l) : Canon κ (LaneSt.bringUp l) := by
  unfold LaneSt.bringUp
  lift_lets
  intro x1
  have h1 : Canon κ x1.1 := by
    unfold x1
    apply canon_fwLoad
    assumption
  clear_value x1
  intro x2
  have h2 : Canon κ x2 := by
    unfold x2
    apply canon_wrB
    assumption
    decide
  clear_value x2
  intro x3
  have h3 : Canon κ x3 := by
    unfold x3
    apply canon_wr
    assumption
    decide
  clear_value x3
  intro x4
  have h4 : Canon κ x4 := by
    unfold x4
    apply canon_releasePads
    apply canon_restoreTelemetry
    apply canon_checkLog
    apply canon_loadCommitted
    assumption
  clear_value x4
  refine canon_ite (fun _ => ?_) (fun _ => ?_)
  assumption
  refine canon_ite (fun _ => ?_) (fun _ => ?_)
  apply canon_fault
  assumption
  refine canon_ite (fun _ => ?_) (fun _ => ?_)
  apply canon_fault
  assumption
  assumption

end Sys2Proof.Machine
end

