-- ==== Sys2Proof/Laws/CanonReadmit.lean ====
section
/-!
SUPPORT. Every operation of Machine/Readmit.lean keeps a lane sound.
-/

namespace Sys2Proof.Machine

open Sys2Proof LaneSt

theorem keptWords_ge : ∀ x ∈ keptWords, 4096 ≤ x := by
  simp only [keptWords, List.forall_mem_append]
  repeat' (first | exact wordsIn_ge (by decide) | exact nvmWords_ge | apply And.intro | decide)

theorem positionWords_ge : ∀ x ∈ positionWords, 4096 ≤ x := by decide

theorem canon_setReadmit {κ : LaneId} {l : LaneSt} (h : Canon κ l) (r : Readmit) : Canon κ (LaneSt.setReadmit l r) := by
  unfold LaneSt.setReadmit
  refine canon_mk ?_ rfl rfl rfl
  assumption

theorem canon_latchSide {κ : LaneId} {l : LaneSt} (h : Canon κ l) (n : Nat) : Canon κ (LaneSt.latchSide l n) := by
  unfold LaneSt.latchSide
  apply canon_setGateCh
  apply canon_wr
  assumption
  exact off_add (by decide)

theorem canon_proofBegin {κ : LaneId} {l : LaneSt} (h : Canon κ l) : Canon κ (LaneSt.proofBegin l) := by
  unfold LaneSt.proofBegin
  refine canon_ite (fun _ => ?_) (fun _ => ?_)
  apply canon_wr
  apply canon_setReadmit
  assumption
  decide
  lift_lets
  intro x1
  have h1 : Canon κ x1 := by
    unfold x1
    refine canon_foldl ?_ (fun _ _ _ => ?_)
    assumption
    apply canon_bypass
    assumption
  clear_value x1
  intro x2
  have h2 : Canon κ x2 := by
    unfold x2
    apply canon_proofReleased
    apply canon_setReadmit
    assumption
  clear_value x2
  intro x3
  clear_value x3
  intro x4
  have h4 : Canon κ x4 := by
    unfold x4
    refine canon_mk ?_ rfl rfl rfl
    assumption
  clear_value x4
  intro x5
  have h5 : Canon κ x5 := by
    unfold x5
    refine canon_foldl ?_ (fun _ _ _ => ?_)
    assumption
    refine canon_ite (fun _ => ?_) (fun _ => ?_)
    apply canon_windingOff
    apply canon_latchSide
    assumption
    assumption
  clear_value x5
  intro x6
  have h6 : Canon κ x6 := by
    unfold x6
    refine canon_foldl ?_ (fun _ _ _ => ?_)
    assumption
    refine canon_ite (fun _ => ?_) (fun _ => ?_)
    apply canon_setChp
    assumption
    assumption
  clear_value x6
  apply canon_gatesDown
  apply canon_auxOff
  assumption

theorem canon_readmissionStart {κ : LaneId} {l : LaneSt} (h : Canon κ l) : Canon κ (LaneSt.readmissionStart l) := by
  unfold LaneSt.readmissionStart
  refine canon_ite (fun _ => ?_) (fun _ => ?_)
  apply canon_proofBegin
  assumption
  assumption

theorem canon_proofRecheck {κ : LaneId} {l : LaneSt} (h : Canon κ l) : Canon κ (LaneSt.proofRecheck l) := by
  unfold LaneSt.proofRecheck
  refine canon_ite (fun _ => ?_) (fun _ => ?_)
  apply canon_proofBegin
  assumption
  assumption

theorem canon_trialFailed {κ : LaneId} {l : LaneSt} (h : Canon κ l) : Canon κ (LaneSt.trialFailed l) := by
  unfold LaneSt.trialFailed
  lift_lets
  intro x1
  clear_value x1
  refine canon_ite (fun _ => ?_) (fun _ => ?_)
  assumption
  apply canon_appendLog
  apply canon_wr
  assumption
  apply off_fwStateF

theorem canon_readmitFailed {κ : LaneId} {l : LaneSt} (h : Canon κ l) : Canon κ (LaneSt.readmitFailed l) := by
  unfold LaneSt.readmitFailed
  refine canon_ite (fun _ => ?_) (fun _ => ?_)
  assumption
  lift_lets
  intro x1
  have h1 : Canon κ x1 := by
    unfold x1
    apply canon_wr
    apply canon_wr
    assumption
    decide
    decide
  clear_value x1
  intro x2
  have h2 : Canon κ x2 := by
    unfold x2
    apply canon_laneSafe
    apply canon_setReadmit
    apply canon_noteExclusion
    assumption
  clear_value x2
  apply canon_trialFailed
  assumption

theorem canon_portAgain {κ : LaneId} {l : LaneSt} (h : Canon κ l) (p : Nat) : Canon κ (LaneSt.portAgain l p) := by
  unfold LaneSt.portAgain
  refine canon_ite (fun _ => ?_) (fun _ => ?_)
  assumption
  apply canon_setPos
  apply canon_setPortState
  apply canon_ledgerStart
  assumption

theorem canon_clearOv4 {κ : LaneId} {l : LaneSt} (h : Canon κ l) : Canon κ (LaneSt.clearOv4 l) := by
  unfold LaneSt.clearOv4
  refine canon_ite (fun _ => ?_) (fun _ => ?_)
  assumption
  apply canon_wr
  apply canon_wr
  assumption
  decide
  decide

theorem canon_rebuilt {κ : LaneId} {l : LaneSt} (h : Canon κ l) : Canon κ (LaneSt.rebuilt l) := by
  unfold LaneSt.rebuilt
  lift_lets
  intro x1
  clear_value x1
  intro x2
  have h2 : Canon κ x2 := by
    unfold x2
    apply canon_keepWords
    apply canon_keepRws
    apply canon_keepWords
    apply canon_cleared
    assumption
    exact positionWords_ge
    exact keptWords_ge
  clear_value x2
  intro x3
  clear_value x3
  intro x4
  clear_value x4
  intro x5
  clear_value x5
  intro x6
  clear_value x6
  intro x7
  clear_value x7
  intro x8
  clear_value x8
  intro x9
  have h9 : Canon κ x9 := by
    unfold x9
    refine canon_mk ?_ rfl rfl rfl
    assumption
  clear_value x9
  intro x10
  have h10 : Canon κ x10 := by
    unfold x10
    apply canon_wr
    apply canon_wr
    apply canon_wr
    assumption
    decide
    decide
    decide
  clear_value x10
  intro x11
  have h11 : Canon κ x11 := by
    unfold x11
    apply canon_wr
    apply canon_wr
    apply canon_wr
    assumption
    decide
    decide
    decide
  clear_value x11
  intro x12
  have h12 : Canon κ x12 := by
    unfold x12
    apply canon_wr
    apply canon_wr
    apply canon_wr
    assumption
    decide
    decide
    decide
  clear_value x12
  intro x13
  have h13 : Canon κ x13 := by
    unfold x13
    apply canon_wr
    apply canon_wr
    apply canon_clearOv4
    apply canon_startTime
    apply canon_keepSubst
    assumption
    decide
    decide
  clear_value x13
  intro x14
  have h14 : Canon κ x14 := by
    unfold x14
    refine canon_foldl ?_ (fun _ _ _ => ?_)
    assumption
    apply canon_portAgain
    assumption
  clear_value x14
  apply canon_allSafe
  apply canon_takeSetup
  assumption

theorem canon_readmissionProof {κ : LaneId} {l : LaneSt} (h : Canon κ l) (failStep : Option (Fin 9)) :
    Canon κ (LaneSt.readmissionProof l failStep) := by
  have h1 := canon_proofEnded h failStep
  cases failStep with
  | some _ =>
    unfold LaneSt.readmissionProof
    exact canon_fault (canon_readmitFailed (canon_foldl (canon_mk (canon_setBlk h1 _ _) rfl rfl rfl)
      (fun _ _ hl => canon_bypassEnd hl _))) _ _
  | none =>
    have h6 := canon_fwLoad (canon_rebuilt (canon_setBlk h1 ((l.proofEnded none).id) (fun b => { b with proof := 0 })))
    unfold LaneSt.readmissionProof
    dsimp only
    split
    · exact canon_setReadmit h6 _
    · apply canon_wr
      · apply canon_wr (canon_readmitFailed h6)
        decide
      · decide


theorem canon_startupProof {κ : LaneId} {l : LaneSt} (h : Canon κ l) (failStep : Option (Fin 9)) : Canon κ (LaneSt.startupProof l failStep) := by
  unfold LaneSt.startupProof
  lift_lets
  intro x1
  have h1 : Canon κ x1 := by
    unfold x1
    apply canon_setBlk
    apply canon_proofEnded
    assumption
  clear_value x1
  refine canon_ite (fun _ => ?_) (fun _ => ?_)
  apply canon_bringUp
  assumption
  assumption

theorem canon_takeGen {κ : LaneId} {l : LaneSt} (h : Canon κ l) (d : LaneSt) (lo : Nat) (hi : Nat) : Canon κ (LaneSt.takeGen l d lo hi) := by
  unfold LaneSt.takeGen
  refine canon_foldl ?_ (fun _ _ _ => ?_)
  assumption
  apply canon_keepWords
  assumption
  exact wordsIn_ge (off_add (off_add (by decide)))

theorem canon_takePart {κ : LaneId} {l : LaneSt} (h : Canon κ l) (x : Snapshot) (part : Nat) : Canon κ (LaneSt.takePart l x part) := by
  unfold LaneSt.takePart
  generalize x.donor = d
  lift_lets
  intro x1
  clear_value x1
  intro x1
  have h1 : Canon κ x1 := by
    unfold x1
    refine canon_foldl ?_ (fun _ _ _ => ?_)
    assumption
    apply canon_takeFields
    assumption
    refine List.forall_mem_cons.2 ⟨?_, ?_⟩
    exact off_add (by decide)
    refine List.forall_mem_cons.2 ⟨?_, ?_⟩
    exact off_add (by decide)
    refine List.forall_mem_cons.2 ⟨?_, ?_⟩
    exact off_add (by decide)
    refine List.forall_mem_cons.2 ⟨?_, ?_⟩
    exact off_add (by decide)
    refine List.forall_mem_cons.2 ⟨?_, ?_⟩
    exact off_add (by decide)
    refine List.forall_mem_cons.2 ⟨?_, ?_⟩
    exact off_add (by decide)
    exact List.forall_mem_nil _
  clear_value x1
  intro x2
  clear_value x2
  intro x3
  have h3 : Canon κ x3 := by
    unfold x3
    refine canon_foldl ?_ (fun _ _ _ => ?_)
    apply canon_takeFields
    assumption
    refine List.forall_mem_cons.2 ⟨?_, ?_⟩
    decide
    exact List.forall_mem_nil _
    apply canon_takeFields
    assumption
    refine List.forall_mem_cons.2 ⟨?_, ?_⟩
    exact off_add (by decide)
    exact List.forall_mem_nil _
  clear_value x3
  intro x4
  clear_value x4
  intro x5
  have h5 : Canon κ x5 := by
    unfold x5
    refine canon_foldl ?_ (fun _ _ _ => ?_)
    assumption
    apply canon_keepWords
    assumption
    refine List.forall_mem_cons.2 ⟨?_, ?_⟩
    exact off_add (by decide)
    refine List.forall_mem_cons.2 ⟨?_, ?_⟩
    exact off_add (by decide)
    exact List.forall_mem_nil _
  clear_value x5
  intro x6
  clear_value x6
  intro x7
  have h7 : Canon κ x7 := by
    unfold x7
    refine canon_foldl ?_ (fun _ _ _ => ?_)
    assumption
    apply canon_takeFields
    assumption
    refine List.forall_mem_cons.2 ⟨?_, ?_⟩
    exact off_add (by decide)
    refine List.forall_mem_cons.2 ⟨?_, ?_⟩
    exact off_add (by decide)
    exact List.forall_mem_nil _
  clear_value x7
  intro x8
  clear_value x8
  intro x9
  have h9 : Canon κ x9 := by
    unfold x9
    refine canon_mk ?_ rfl rfl rfl
    assumption
  clear_value x9
  split
  beta_reduce
  refine canon_mk ?_ rfl rfl rfl
  apply canon_takeGen
  assumption
  refine canon_mk ?_ rfl rfl rfl
  assumption
  beta_reduce
  refine canon_mk ?_ rfl rfl rfl
  apply canon_takeGen
  assumption
  refine canon_mk ?_ rfl rfl rfl
  assumption
  refine canon_mk ?_ rfl rfl rfl
  assumption
  apply canon_setSio
  apply canon_keepWords
  assumption
  refine List.forall_mem_cons.2 ⟨?_, ?_⟩
  decide
  exact List.forall_mem_nil _
  refine canon_foldl ?_ (fun _ _ _ => ?_)
  assumption
  refine canon_ite (fun _ => ?_) (fun _ => ?_)
  assumption
  apply canon_wr
  assumption
  exact off_add (by decide)
  refine canon_foldl ?_ (fun _ _ _ => ?_)
  assumption
  refine canon_ite (fun _ => ?_) (fun _ => ?_)
  assumption
  apply canon_setOffset
  assumption
  refine canon_mk ?_ rfl rfl rfl
  assumption
  refine canon_mk ?_ rfl rfl rfl
  assumption
  apply canon_wr
  assumption
  decide

theorem canon_descriptorCopy {κ : LaneId} {l : LaneSt} (h : Canon κ l) (sg : Nat) (seq : Nat) (bytes : List Byte) (at_ : Option Nat) : Canon κ (LaneSt.descriptorCopy l sg seq bytes at_) := by
  unfold LaneSt.descriptorCopy
  refine canon_ite (fun _ => ?_) (fun _ => ?_)
  lift_lets
  intro x1
  clear_value x1
  split
  assumption
  refine canon_ite (fun _ => ?_) (fun _ => ?_)
  assumption
  apply canon_pushDecided
  apply canon_putCopies
  assumption
  refine canon_ite (fun _ => ?_) (fun _ => ?_)
  apply canon_pushDecided
  assumption
  assumption

theorem canon_loadTables {κ : LaneId} {l : LaneSt} (h : Canon κ l) (bs : List Byte) : Canon κ (LaneSt.loadTables l bs) := by
  unfold LaneSt.loadTables
  refine canon_foldl ?_ (fun _ _ _ => ?_)
  assumption
  apply canon_setWord
  assumption
  exact off_add (by decide)

theorem canon_startSlots {κ : LaneId} {l : LaneSt} (h : Canon κ l) (d : LaneSt) : Canon κ (LaneSt.startSlots l d) := by
  unfold LaneSt.startSlots
  refine canon_foldl ?_ (fun _ _ _ => ?_)
  assumption
  refine canon_ite (fun _ => ?_) (fun _ => ?_)
  assumption
  lift_lets
  intro x1
  have h1 : Canon κ x1 := by
    unfold x1
    apply canon_wr
    apply canon_wr
    assumption
    exact off_add (by decide)
    exact off_add (by decide)
  clear_value x1
  apply canon_setSlot
  assumption

theorem canon_startShadow {κ : LaneId} {l : LaneSt} (h : Canon κ l) (d : LaneSt) (cap : LaneSt) : Canon κ (LaneSt.startShadow l d cap) := by
  unfold LaneSt.startShadow
  lift_lets
  intro x1
  clear_value x1
  intro x2
  clear_value x2
  intro x3
  clear_value x3
  intro x4
  clear_value x4
  intro x5
  have h5 : Canon κ x5 := by
    unfold x5
    refine canon_ite (fun _ => ?_) (fun _ => ?_)
    assumption
    apply canon_loadTables
    apply canon_takeKeys
    apply canon_loadImage
    assumption
  clear_value x5
  intro x6
  have h6 : Canon κ x6 := by
    unfold x6
    refine canon_ite (fun _ => ?_) (fun _ => ?_)
    assumption
    apply canon_appendLog
    apply canon_storeCopies
    apply canon_setImage
    assumption
  clear_value x6
  intro x7
  have h7 : Canon κ x7 := by
    unfold x7
    refine canon_foldl ?_ (fun _ _ _ => ?_)
    assumption
    apply canon_setPeer
    assumption
  clear_value x7
  intro x8
  clear_value x8
  intro x9
  have h9 : Canon κ x9 := by
    unfold x9
    refine canon_mk ?_ rfl rfl rfl
    assumption
  clear_value x9
  intro x10
  have h10 : Canon κ x10 := by
    unfold x10
    apply canon_wr
    apply canon_wr
    assumption
    decide
    decide
  clear_value x10
  intro x11
  have h11 : Canon κ x11 := by
    unfold x11
    apply canon_setBlk
    assumption
  clear_value x11
  intro x12
  have h12 : Canon κ x12 := by
    unfold x12
    refine canon_foldl ?_ (fun _ _ _ => ?_)
    assumption
    apply canon_zeroDq
    refine canon_ite (fun _ => ?_) (fun _ => ?_)
    apply canon_setWstate
    apply canon_windingSafe
    assumption
    assumption
  clear_value x12
  apply canon_judgeOutputs
  apply canon_startSlots
  apply canon_judgeSlots
  apply canon_judgeSetup
  apply canon_dieLoad
  assumption

theorem canon_laneReset {κ : LaneId} {l : LaneSt} (h : Canon κ l) (t : LaneId) (d : Decided) : Canon κ (LaneSt.laneReset l t d) := by
  unfold LaneSt.laneReset
  lift_lets
  intro x1
  clear_value x1
  intro x2
  have h2 : Canon κ x2 := by
    unfold x2
    apply canon_okOutcome
    assumption
  clear_value x2
  refine canon_ite (fun _ => ?_) (fun _ => ?_)
  apply canon_deny
  assumption
  refine canon_ite (fun _ => ?_) (fun _ => ?_)
  apply canon_deny
  assumption
  refine canon_ite (fun _ => ?_) (fun _ => ?_)
  apply canon_okOutcome
  assumption
  refine canon_ite (fun _ => ?_) (fun _ => ?_)
  apply canon_exclude
  assumption
  apply canon_excludePeer
  assumption

theorem canon_state_likeOthers {κ : LaneId} {l : LaneSt} (h : Canon κ l) (s : State) (k : LaneId) (d : Decided) (f : LaneSt → LaneSt) (hf : ∀ (z0 : LaneSt), Canon κ z0 → Canon κ (f z0)) : Canon κ (State.likeOthers s k d l f) := by
  unfold State.likeOthers
  split
  apply canon_complete
  assumption
  apply_assumption
  assumption

theorem canon_clearLatches {κ : LaneId} {l : LaneSt} (h : Canon κ l) : Canon κ (LaneSt.clearLatches l) := by
  unfold LaneSt.clearLatches
  refine canon_judgeAux (canon_judgeChop (canon_wr (canon_foldl h (fun _ _ hl => canon_ite (fun _ => hl) (fun _ =>
    canon_setLeg ?_ _ _))) (by decide) _))
  simp only [List.foldl_cons, List.foldl_nil]
  repeat' (first | exact hl | exact off_gsF _ | exact off_add (by decide) | apply canon_wr)


theorem canon_laneCleared {κ : LaneId} {l : LaneSt} (h : Canon κ l) (lanes : Nat) (clearCount : Bool) : Canon κ (LaneSt.laneCleared l lanes clearCount) := by
  unfold LaneSt.laneCleared
  lift_lets
  intro x1
  have h1 : Canon κ x1 := by
    unfold x1
    refine canon_ite (fun _ => ?_) (fun _ => ?_)
    apply canon_clearLatches
    assumption
    assumption
  clear_value x1
  intro x2
  have h2 : Canon κ x2 := by
    unfold x2
    refine canon_foldl ?_ (fun _ _ _ => ?_)
    assumption
    lift_lets
    intro x3
    have h3 : Canon κ x3 := by
      unfold x3
      apply canon_setBlk
      assumption
    refine canon_ite (fun _ => ?_) (fun _ => ?_)
    assumption
    refine canon_ite (fun _ => ?_) (fun _ => ?_)
    apply canon_wr
    assumption
    decide
    apply canon_setPeer
    assumption
  clear_value x2
  intro x4
  have h4 : Canon κ x4 := by
    unfold x4
    apply canon_wr
    assumption
    decide
  clear_value x4
  intro x5
  clear_value x5
  intro x6
  have h6 : Canon κ x6 := by
    unfold x6
    refine canon_ite (fun _ => ?_) (fun _ => ?_)
    refine canon_ite (fun _ => ?_) (fun _ => ?_)
    apply canon_setReadmit
    refine canon_mk ?_ rfl rfl rfl
    assumption
    assumption
    assumption
  clear_value x6
  refine canon_ite (fun _ => ?_) (fun _ => ?_)
  apply canon_proofBegin
  assumption
  assumption

theorem canon_chopperRests {κ : LaneId} {l : LaneSt} (h : Canon κ l) (k : Nat) : Canon κ (LaneSt.chopperRests l k) := by
  unfold LaneSt.chopperRests
  refine canon_mk ?_ rfl rfl rfl
  assumption

theorem canon_portRests {κ : LaneId} {l : LaneSt} (h : Canon κ l) (p : Nat) : Canon κ (LaneSt.portRests l p) := by
  unfold LaneSt.portRests
  apply canon_wr
  apply canon_drainPort
  assumption
  exact off_add (by decide)

theorem canon_shutdownDone {κ : LaneId} {l : LaneSt} (h : Canon κ l) (y0 : FunctionId) : Canon κ (LaneSt.shutdownDone l y0) := by
  unfold LaneSt.shutdownDone
  split
  refine canon_ite (fun _ => ?_) (fun _ => ?_)
  apply canon_chopperRests
  assumption
  assumption
  refine canon_ite (fun _ => ?_) (fun _ => ?_)
  apply canon_portRests
  assumption
  assumption
  refine canon_ite (fun _ => ?_) (fun _ => ?_)
  apply canon_edmConfirm
  assumption
  assumption
  assumption

theorem canon_functionOverrun {κ : LaneId} {l : LaneSt} (h : Canon κ l) (y0 : FunctionId) : Canon κ (LaneSt.functionOverrun l y0) := by
  unfold LaneSt.functionOverrun
  split
  refine canon_ite (fun _ => ?_) (fun _ => ?_)
  apply canon_fault
  apply canon_chpLatch
  apply canon_chopperRests
  assumption
  assumption
  refine canon_ite (fun _ => ?_) (fun _ => ?_)
  apply canon_fault
  apply canon_setNet
  apply canon_portRests
  assumption
  assumption
  refine canon_ite (fun _ => ?_) (fun _ => ?_)
  apply canon_edmFault
  assumption
  assumption
  assumption

end Sys2Proof.Machine
end

