-- ==== Sys2Proof/Laws/CanonPwr.lean ====
section
/-!
SUPPORT. Every operation of Machine/Pwr.lean keeps a lane sound.
-/

namespace Sys2Proof.Machine

open Sys2Proof LaneSt

theorem napWords_ge : ∀ x ∈ napWords, 4096 ≤ x := by
  simp only [napWords, List.forall_mem_append]
  repeat' (first | exact wordsIn_ge (by decide) | exact nvmWords_ge | apply And.intro | decide)

theorem canon_aliveReadback {κ : LaneId} {l : LaneSt} (h : Canon κ l) (level : Bool) : Canon κ (LaneSt.aliveReadback l level) := by
  unfold LaneSt.aliveReadback
  refine canon_ite (fun _ => ?_) (fun _ => ?_)
  apply canon_fault
  assumption
  assumption

theorem canon_monitor {κ : LaneId} {l : LaneSt} (h : Canon κ l) (code : Nat) (source : Nat) : Canon κ (LaneSt.monitor l code source) := by
  unfold LaneSt.monitor
  refine canon_ite (fun _ => ?_) (fun _ => ?_)
  assumption
  apply canon_fault
  assumption

theorem canon_regFault {κ : LaneId} {l : LaneSt} (h : Canon κ l) (reg : Nat) : Canon κ (LaneSt.regFault l reg) := by
  unfold LaneSt.regFault
  refine canon_ite (fun _ => ?_) (fun _ => ?_)
  assumption
  refine canon_ite (fun _ => ?_) (fun _ => ?_)
  apply canon_wr
  apply canon_wr
  apply canon_fault
  assumption
  decide
  decide
  apply canon_fault
  assumption

theorem canon_pllUnlock {κ : LaneId} {l : LaneSt} (h : Canon κ l) (island : Nat) : Canon κ (LaneSt.pllUnlock l island) := by
  unfold LaneSt.pllUnlock
  split
  · exact h
  · rename_i f src hf
    have ho : 4096 ≤ f.off := by
      unfold pllOf at hf
      split at hf
      · cases hf; decide
      · split at hf
        · cases hf; decide
        · split at hf
          · cases hf; decide
          · cases hf
    exact canon_ite (fun _ => h) (fun _ => canon_monitor (canon_wr h ho _) _ _)


theorem canon_standbyDies {κ : LaneId} {l : LaneSt} (h : Canon κ l) : Canon κ (LaneSt.standbyDies l) := by
  unfold LaneSt.standbyDies
  lift_lets
  intro x1
  have h1 : Canon κ x1 := by
    unfold x1
    refine canon_foldl ?_ (fun _ _ _ => ?_)
    assumption
    refine canon_ite (fun _ => ?_) (fun _ => ?_)
    apply canon_setChp
    assumption
    assumption
  clear_value x1
  refine canon_foldl ?_ (fun _ _ _ => ?_)
  assumption
  lift_lets
  intro x2
  clear_value x2
  refine canon_ite (fun _ => ?_) (fun _ => ?_)
  assumption
  apply canon_setGateCh
  apply canon_windingOff
  assumption

theorem canon_wakeDies {κ : LaneId} {l : LaneSt} (h : Canon κ l) : Canon κ (LaneSt.wakeDies l) := by
  unfold LaneSt.wakeDies
  refine canon_foldl ?_ (fun _ _ _ => ?_)
  assumption
  refine canon_ite (fun _ => ?_) (fun _ => ?_)
  apply canon_windingSafe
  assumption
  assumption

theorem canon_holdEntry {κ : LaneId} {l : LaneSt} (h : Canon κ l) : Canon κ (LaneSt.holdEntry l) := by
  unfold LaneSt.holdEntry
  refine canon_ite (fun _ => ?_) (fun _ => ?_)
  apply canon_telSave
  apply canon_standbyDies
  apply canon_wr
  assumption
  decide
  assumption

theorem canon_holdToRun {κ : LaneId} {l : LaneSt} (h : Canon κ l) : Canon κ (LaneSt.holdToRun l) := by
  unfold LaneSt.holdToRun
  refine canon_ite (fun _ => ?_) (fun _ => ?_)
  assumption
  refine canon_foldl ?_ (fun _ _ _ => ?_)
  apply canon_wakeDies
  apply canon_wr
  assumption
  decide
  refine canon_ite (fun _ => ?_) (fun _ => ?_)
  apply canon_startChecks
  apply canon_setComm
  assumption
  assumption

theorem canon_showSleep {κ : LaneId} {l : LaneSt} (h : Canon κ l) : Canon κ (LaneSt.showSleep l) := by
  unfold LaneSt.showSleep
  apply canon_wrB
  assumption
  decide

theorem canon_sleepRequest {κ : LaneId} {l : LaneSt} (h : Canon κ l) (pin : Bool) : Canon κ (LaneSt.sleepRequest l pin) := by
  unfold LaneSt.sleepRequest
  refine canon_ite (fun _ => ?_) (fun _ => ?_)
  assumption
  refine canon_ite (fun _ => ?_) (fun _ => ?_)
  refine canon_ite (fun _ => ?_) (fun _ => ?_)
  apply canon_showSleep
  refine canon_mk ?_ rfl rfl rfl
  assumption
  assumption
  refine canon_ite (fun _ => ?_) (fun _ => ?_)
  apply canon_showSleep
  refine canon_mk ?_ rfl rfl rfl
  assumption
  assumption

theorem canon_sleepWithdrawn {κ : LaneId} {l : LaneSt} (h : Canon κ l) (pin : Bool) : Canon κ (LaneSt.sleepWithdrawn l pin) := by
  unfold LaneSt.sleepWithdrawn
  apply canon_showSleep
  refine canon_ite (fun _ => ?_) (fun _ => ?_)
  refine canon_mk ?_ rfl rfl rfl
  assumption
  refine canon_mk ?_ rfl rfl rfl
  assumption

theorem canon_standby {κ : LaneId} {l : LaneSt} (h : Canon κ l) : Canon κ (LaneSt.standby l) := by
  unfold LaneSt.standby
  refine canon_foldl ?_ (fun _ _ _ => ?_)
  apply canon_wr
  assumption
  decide
  lift_lets
  intro x1
  have h1 : Canon κ x1 := by
    unfold x1
    refine canon_ite (fun _ => ?_) (fun _ => ?_)
    assumption
    apply canon_wr
    assumption
    exact off_add (by decide)
  clear_value x1
  apply canon_wr
  apply canon_wr
  assumption
  apply off_gsF
  apply off_gsF

theorem canon_napped {κ : LaneId} {l : LaneSt} (h : Canon κ l) : Canon κ (LaneSt.napped l) := by
  unfold LaneSt.napped
  lift_lets
  intro x1
  have h1 : Canon κ x1 := by
    unfold x1
    refine canon_foldl ?_ (fun _ _ _ => ?_)
    assumption
    apply canon_latchSide
    assumption
  clear_value x1
  intro x2
  have h2 : Canon κ x2 := by
    unfold x2
    apply canon_keepSubst
    apply canon_standby
    apply canon_keepWords
    apply canon_keepRws
    apply canon_cleared
    assumption
    exact napWords_ge
  clear_value x2
  intro x3
  have h3 : Canon κ x3 := by
    unfold x3
    apply canon_wr
    apply canon_wr
    assumption
    decide
    decide
  clear_value x3
  intro x4
  have h4 : Canon κ x4 := by
    unfold x4
    refine canon_foldl ?_ (fun _ _ _ => ?_)
    assumption
    refine canon_ite (fun _ => ?_) (fun _ => ?_)
    apply canon_wr
    assumption
    exact off_add (by decide)
    assumption
  clear_value x4
  intro x5
  have h5 : Canon κ x5 := by
    unfold x5
    apply canon_wr
    assumption
    decide
  clear_value x5
  intro x6
  have h6 : Canon κ x6 := by
    unfold x6
    apply canon_wr
    apply canon_wr
    apply canon_wr
    assumption
    decide
    decide
    decide
  clear_value x6
  intro x7
  have h7 : Canon κ x7 := by
    unfold x7
    apply canon_wr
    apply canon_wr
    assumption
    decide
    decide
  clear_value x7
  intro x8
  have h8 : Canon κ x8 := by
    unfold x8
    apply canon_crossReset
    assumption
  clear_value x8
  intro x9
  clear_value x9
  intro x10
  clear_value x10
  intro x11
  clear_value x11
  intro x12
  clear_value x12
  intro x13
  clear_value x13
  intro x14
  clear_value x14
  intro x15
  clear_value x15
  refine canon_mk ?_ rfl rfl rfl
  assumption

theorem canon_wakeStart {κ : LaneId} {l : LaneSt} (h : Canon κ l) (mask : Nat) : Canon κ (LaneSt.wakeStart l mask) := by
  unfold LaneSt.wakeStart
  lift_lets
  intro x1
  have h1 : Canon κ x1.2 := by
    unfold x1
    apply canon_fresh
    assumption
  clear_value x1
  intro x2
  have h2 : Canon κ x2 := by
    unfold x2
    apply canon_wr
    assumption
    decide
  clear_value x2
  intro x3
  have h3 : Canon κ x3 := by
    unfold x3
    apply canon_setWord
    apply canon_wr
    assumption
    decide
    decide
  clear_value x3
  intro x4
  clear_value x4
  refine canon_mk ?_ rfl rfl rfl
  assumption

theorem canon_napEntered {κ : LaneId} {l : LaneSt} (h : Canon κ l) : Canon κ (LaneSt.napEntered l) := by
  unfold LaneSt.napEntered
  refine canon_ite (fun _ => ?_) (fun _ => ?_)
  assumption
  lift_lets
  intro x1
  clear_value x1
  intro x2
  have h2 : Canon κ x2 := by
    unfold x2
    apply canon_napped
    apply canon_satInc
    apply canon_telSave
    assumption
    decide
  clear_value x2
  refine canon_ite (fun _ => ?_) (fun _ => ?_)
  assumption
  apply canon_wakeStart
  apply canon_satInc
  assumption
  decide

theorem canon_wakeBy {κ : LaneId} {l : LaneSt} (h : Canon κ l) (src : Nat) : Canon κ (LaneSt.wakeBy l src).1 := by
  unfold LaneSt.wakeBy
  lift_lets
  intro x1
  have h1 : Canon κ x1 := by
    unfold x1
    refine canon_ite (fun _ => ?_) (fun _ => ?_)
    apply canon_wr
    assumption
    exact off_add (by decide)
    assumption
  clear_value x1
  intro x2
  clear_value x2
  intro x3
  clear_value x3
  split
  dsimp only
  assumption
  split
  dsimp only
  apply canon_wakeStart
  assumption
  split
  dsimp only
  apply canon_setWord
  assumption
  decide
  split
  dsimp only
  assumption
  dsimp only
  refine canon_mk ?_ rfl rfl rfl
  assumption

theorem canon_wakeComplete {κ : LaneId} {l : LaneSt} (h : Canon κ l) (ok : Bool) : Canon κ (LaneSt.wakeComplete l ok) := by
  unfold LaneSt.wakeComplete
  refine canon_ite (fun _ => ?_) (fun _ => ?_)
  assumption
  refine canon_ite (fun _ => ?_) (fun _ => ?_)
  apply canon_wr
  apply canon_coldReset
  assumption
  decide
  refine canon_ite (fun _ => ?_) (fun _ => ?_)
  apply canon_coldReset
  assumption
  refine canon_ite (fun _ => ?_) (fun _ => ?_)
  apply canon_proofReleased
  apply canon_wr
  refine canon_mk ?_ rfl rfl rfl
  assumption
  decide
  lift_lets
  intro x1
  have h1 : Canon κ x1.1 := by
    unfold x1
    apply canon_fwLoad
    assumption
  clear_value x1
  intro x2
  have h2 : Canon κ x2 := by
    unfold x2
    apply canon_restoreTelemetry
    apply canon_wr
    assumption
    decide
  clear_value x2
  intro x3
  have h3 : Canon κ x3 := by
    unfold x3
    apply canon_wr
    apply canon_releasePads
    assumption
    decide
  clear_value x3
  refine canon_ite (fun _ => ?_) (fun _ => ?_)
  apply canon_wr
  refine canon_ite (fun _ => ?_) (fun _ => ?_)
  apply canon_fault
  assumption
  assumption
  decide
  apply canon_wr
  assumption
  decide

end Sys2Proof.Machine
end

