-- ==== Sys2Proof/Laws/CanonBoundary.lean ====
section
/-!
SUPPORT. Every operation of Machine/Boundary.lean keeps a lane sound.
-/

namespace Sys2Proof.Machine

open Sys2Proof LaneSt

theorem canon_trialPassed {κ : LaneId} {l : LaneSt} (h : Canon κ l) : Canon κ (LaneSt.trialPassed l) := by
  unfold LaneSt.trialPassed
  lift_lets
  intro x1
  clear_value x1
  intro x2
  have h2 : Canon κ x2 := by
    unfold x2
    apply canon_wr
    apply canon_wr
    assumption
    apply off_fwStateF
    decide
  clear_value x2
  refine canon_ite (fun _ => ?_) (fun _ => ?_)
  assumption
  apply canon_appendLog
  assumption

theorem canon_seatMembers {κ : LaneId} {l : LaneSt} (h : Canon κ l) (mask : Nat) : Canon κ (LaneSt.seatMembers l mask) := by
  unfold LaneSt.seatMembers
  refine canon_foldl ?_ (fun _ _ _ => ?_)
  assumption
  refine canon_ite (fun _ => ?_) (fun _ => ?_)
  apply canon_setPeer
  assumption
  assumption

theorem canon_join {κ : LaneId} {l : LaneSt} (h : Canon κ l) (mask : Nat) : Canon κ (LaneSt.join l mask) := by
  unfold LaneSt.join
  lift_lets
  intro x1
  have h1 : Canon κ x1 := by
    unfold x1
    apply canon_setMembers
    apply canon_seatMembers
    apply canon_wr
    assumption
    decide
  clear_value x1
  intro x2
  clear_value x2
  intro x3
  have h3 : Canon κ x3 := by
    unfold x3
    refine canon_mk ?_ rfl rfl rfl
    assumption
  clear_value x3
  intro x4
  have h4 : Canon κ x4 := by
    unfold x4
    apply canon_setMem
    assumption
  clear_value x4
  intro x5
  have h5 : Canon κ x5 := by
    unfold x5
    refine canon_foldl ?_ (fun _ _ _ => ?_)
    assumption
    refine canon_ite (fun _ => ?_) (fun _ => ?_)
    apply canon_setBlk
    assumption
    assumption
  clear_value x5
  intro x6
  have h6 : Canon κ x6 := by
    unfold x6
    apply canon_judgeOutputs
    apply canon_judgeSlots
    apply canon_trialPassed
    apply canon_raise
    apply canon_raise
    assumption
  clear_value x6
  refine canon_ite (fun _ => ?_) (fun _ => ?_)
  apply canon_sendSession
  apply canon_showSession
  apply canon_startLockout
  apply canon_drawChallenge
  assumption
  assumption

theorem canon_lateForm {κ : LaneId} {l : LaneSt} (h : Canon κ l) : Canon κ (LaneSt.lateForm l) := by
  unfold LaneSt.lateForm
  lift_lets
  intro x1
  have h1 : Canon κ x1 := by
    unfold x1
    apply canon_setBlk
    apply canon_wr
    apply canon_wr
    assumption
    decide
    decide
  clear_value x1
  apply canon_laneSafe
  apply canon_setReadmit
  assumption

theorem canon_formation {κ : LaneId} {l : LaneSt} (h : Canon κ l) : Canon κ (LaneSt.formation l) := by
  unfold LaneSt.formation
  refine canon_ite (fun _ => ?_) (fun _ => ?_)
  assumption
  lift_lets
  intro x1
  clear_value x1
  intro x2
  clear_value x2
  intro x3
  clear_value x3
  split
  refine canon_ite (fun _ => ?_) (fun _ => ?_)
  apply canon_join
  assumption
  apply canon_lateForm
  assumption
  refine canon_ite (fun _ => ?_) (fun _ => ?_)
  apply canon_join
  assumption
  assumption

theorem canon_readmitted {κ : LaneId} {l : LaneSt} (h : Canon κ l) (k : LaneId) : Canon κ (LaneSt.readmitted l k) := by
  unfold LaneSt.readmitted
  lift_lets
  intro x1
  have h1 : Canon κ x1 := by
    unfold x1
    apply canon_setBlk
    assumption
  clear_value x1
  refine canon_ite (fun _ => ?_) (fun _ => ?_)
  apply canon_wr
  assumption
  decide
  assumption

theorem canon_adopt {κ : LaneId} {l : LaneSt} (h : Canon κ l) (d : LaneSt) : Canon κ (LaneSt.adopt l d) := by
  unfold LaneSt.adopt
  lift_lets
  intro x1
  have h1 : Canon κ x1 := by
    unfold x1
    apply canon_keepWords
    assumption
    refine List.forall_mem_append.2 ⟨?_, ?_⟩
    exact wordsIn_ge (by decide)
    exact wordsIn_ge (by decide)
  clear_value x1
  intro x2
  have h2 : Canon κ x2 := by
    unfold x2
    refine canon_foldl ?_ (fun _ _ _ => ?_)
    assumption
    apply canon_takeFields
    assumption
    refine List.forall_mem_cons.2 ⟨?_, ?_⟩
    exact off_add (by decide)
    refine List.forall_mem_cons.2 ⟨?_, ?_⟩
    exact off_add (by decide)
    exact List.forall_mem_nil _
  clear_value x2
  intro x3
  have h3 : Canon κ x3 := by
    unfold x3
    refine canon_foldl ?_ (fun _ _ _ => ?_)
    assumption
    apply canon_takeFields
    assumption
    refine List.forall_mem_cons.2 ⟨?_, ?_⟩
    exact off_add (by decide)
    exact List.forall_mem_nil _
  clear_value x3
  intro x4
  have h4 : Canon κ x4 := by
    unfold x4
    apply canon_takeFields
    assumption
    refine List.forall_mem_cons.2 ⟨?_, ?_⟩
    decide
    refine List.forall_mem_cons.2 ⟨?_, ?_⟩
    decide
    refine List.forall_mem_cons.2 ⟨?_, ?_⟩
    decide
    refine List.forall_mem_cons.2 ⟨?_, ?_⟩
    decide
    refine List.forall_mem_cons.2 ⟨?_, ?_⟩
    decide
    refine List.forall_mem_cons.2 ⟨?_, ?_⟩
    decide
    refine List.forall_mem_cons.2 ⟨?_, ?_⟩
    decide
    refine List.forall_mem_cons.2 ⟨?_, ?_⟩
    decide
    refine List.forall_mem_cons.2 ⟨?_, ?_⟩
    decide
    exact List.forall_mem_nil _
  clear_value x4
  intro x5
  clear_value x5
  intro x6
  clear_value x6
  intro x7
  clear_value x7
  intro x8
  clear_value x8
  intro x9
  clear_value x9
  intro x10
  clear_value x10
  intro x11
  have h11 : Canon κ x11 := by
    unfold x11
    refine canon_mk ?_ rfl rfl rfl
    assumption
  clear_value x11
  intro x12
  clear_value x12
  intro x13
  clear_value x13
  refine canon_mk ?_ rfl rfl rfl
  assumption

theorem canon_driveAgain {κ : LaneId} {l : LaneSt} (h : Canon κ l) : Canon κ (LaneSt.driveAgain l) := by
  unfold LaneSt.driveAgain
  lift_lets
  intro x1
  have h1 : Canon κ x1 := by
    unfold x1
    refine canon_foldl ?_ (fun _ _ _ => ?_)
    assumption
    refine canon_ite (fun _ => ?_) (fun _ => ?_)
    apply canon_setGateCh
    assumption
    apply canon_windingSafe
    assumption
  clear_value x1
  apply canon_judgeOutputs
  apply canon_judgeSlots
  assumption

theorem canon_closeGap {κ : LaneId} {l : LaneSt} (h : Canon κ l) : Canon κ (LaneSt.closeGap l) := by
  unfold LaneSt.closeGap
  split
  assumption
  lift_lets
  intro x1
  clear_value x1
  intro x2
  have h2 : Canon κ x2 := by
    unfold x2
    apply canon_wr
    assumption
    decide
  clear_value x2
  intro x3
  clear_value x3
  refine canon_mk ?_ rfl rfl rfl
  assumption

theorem canon_newMembers {κ : LaneId} {l : LaneSt} (h : Canon κ l) (mask : Nat) : Canon κ (LaneSt.newMembers l mask) := by
  unfold LaneSt.newMembers
  lift_lets
  intro x1
  clear_value x1
  intro x2
  clear_value x2
  intro x3
  have h3 : Canon κ x3 := by
    unfold x3
    apply canon_setCommit
    apply canon_judgeSetup
    apply canon_closeGap
    apply canon_setMembers
    assumption
  clear_value x3
  intro x4
  clear_value x4
  intro x5
  have h5 : Canon κ x5 := by
    unfold x5
    refine canon_mk ?_ rfl rfl rfl
    assumption
  clear_value x5
  intro x6
  have h6 : Canon κ x6 := by
    unfold x6
    apply canon_raise
    assumption
  clear_value x6
  intro x7
  have h7 : Canon κ x7 := by
    unfold x7
    refine canon_ite (fun _ => ?_) (fun _ => ?_)
    assumption
    apply canon_raise
    assumption
  clear_value x7
  intro x8
  have h8 : Canon κ x8 := by
    unfold x8
    refine canon_foldl ?_ (fun _ _ _ => ?_)
    assumption
    apply canon_showTorque
    refine canon_ite (fun _ => ?_) (fun _ => ?_)
    apply canon_tuneAbort
    assumption
    assumption
  clear_value x8
  intro x9
  have h9 : Canon κ x9 := by
    unfold x9
    refine canon_ite (fun _ => ?_) (fun _ => ?_)
    apply canon_sendSession
    assumption
    assumption
  clear_value x9
  refine canon_ite (fun _ => ?_) (fun _ => ?_)
  apply canon_stopAll
  assumption
  assumption

theorem canon_clearOut {κ : LaneId} {l : LaneSt} (h : Canon κ l) : Canon κ (LaneSt.clearOut l) := by
  unfold LaneSt.clearOut
  refine canon_foldl ?_ (fun _ _ _ => ?_)
  assumption
  refine canon_ite (fun _ => ?_) (fun _ => ?_)
  assumption
  apply canon_setPeer
  assumption

theorem canon_rampStep {κ : LaneId} {l : LaneSt} (h : Canon κ l) : Canon κ (LaneSt.rampStep l) := by
  unfold LaneSt.rampStep
  refine canon_foldl ?_ (fun _ _ _ => ?_)
  assumption
  split
  assumption
  lift_lets
  intro x1
  clear_value x1
  intro x2
  clear_value x2
  apply canon_setBlk
  assumption

theorem canon_evalLead {κ : LaneId} {l : LaneSt} (h : Canon κ l) : Canon κ (LaneSt.evalLead l) := by
  unfold LaneSt.evalLead
  lift_lets
  intro x1
  clear_value x1
  intro x2
  clear_value x2
  intro x3
  have h3 : Canon κ x3 := by
    unfold x3
    apply canon_wrB
    assumption
    decide
  clear_value x3
  intro x4
  clear_value x4
  intro x5
  clear_value x5
  intro x6
  have h6 : Canon κ x6 := by
    unfold x6
    refine canon_mk ?_ rfl rfl rfl
    assumption
  clear_value x6
  intro x7
  have h7 : Canon κ x7 := by
    unfold x7
    refine canon_ite (fun _ => ?_) (fun _ => ?_)
    apply canon_raise
    assumption
    assumption
  clear_value x7
  intro x8
  clear_value x8
  intro x9
  have h9 : Canon κ x9 := by
    unfold x9
    refine canon_ite (fun _ => ?_) (fun _ => ?_)
    refine canon_mk ?_ rfl rfl rfl
    assumption
    assumption
  clear_value x9
  refine canon_ite (fun _ => ?_) (fun _ => ?_)
  assumption
  refine canon_ite (fun _ => ?_) (fun _ => ?_)
  apply canon_redeliver
  apply canon_rewriteCompletions
  assumption
  apply canon_mirrorEntries
  assumption

theorem canon_rotateFrames {κ : LaneId} {l : LaneSt} (h : Canon κ l) : Canon κ (LaneSt.rotateFrames l) := by
  unfold LaneSt.rotateFrames
  lift_lets
  intro x1
  clear_value x1
  intro x2
  have h2 : Canon κ x2 := by
    unfold x2
    refine canon_foldl ?_ (fun _ _ _ => ?_)
    assumption
    apply canon_setPeer
    assumption
  clear_value x2
  intro x3
  clear_value x3
  refine canon_mk ?_ rfl rfl rfl
  assumption

theorem canon_sendCounts {κ : LaneId} {l : LaneSt} (h : Canon κ l) : Canon κ (LaneSt.sendCounts l) := by
  unfold LaneSt.sendCounts
  refine canon_ite (fun _ => ?_) (fun _ => ?_)
  assumption
  apply canon_send
  assumption

theorem canon_outsider {κ : LaneId} {l : LaneSt} (h : Canon κ l) : Canon κ (LaneSt.outsider l) := by
  unfold LaneSt.outsider
  refine canon_ite (fun _ => ?_) (fun _ => ?_)
  assumption
  lift_lets
  intro x1
  have h1 : Canon κ x1 := by
    unfold x1
    refine canon_foldl ?_ (fun _ _ _ => ?_)
    assumption
    apply canon_setGateCh
    apply canon_setComm
    assumption
  clear_value x1
  intro x2
  clear_value x2
  intro x3
  clear_value x3
  intro x4
  have h4 : Canon κ x4 := by
    unfold x4
    refine canon_mk ?_ rfl rfl rfl
    assumption
  clear_value x4
  refine canon_ite (fun _ => ?_) (fun _ => ?_)
  apply canon_readmitFailed
  assumption
  assumption

theorem canon_boundaryBegin {κ : LaneId} {l : LaneSt} (h : Canon κ l) : Canon κ (LaneSt.boundaryBegin l) := by
  unfold LaneSt.boundaryBegin
  lift_lets
  intro x1
  clear_value x1
  intro x2
  clear_value x2
  intro x3
  clear_value x3
  intro x4
  have h4 : Canon κ x4 := by
    unfold x4
    refine canon_mk ?_ rfl rfl rfl
    assumption
  clear_value x4
  refine canon_foldl ?_ (fun _ _ _ => ?_)
  assumption
  apply canon_takeBackLinks
  assumption

theorem canon_boundaryFrames {κ : LaneId} {l : LaneSt} (h : Canon κ l) (sends : Bool) : Canon κ (LaneSt.boundaryFrames l sends) := by
  unfold LaneSt.boundaryFrames
  lift_lets
  intro x1
  have h1 : Canon κ x1 := by
    unfold x1
    apply canon_rotateFrames
    assumption
  clear_value x1
  intro x2
  clear_value x2
  intro x3
  have h3 : Canon κ x3 := by
    unfold x3
    apply canon_sendCounts
    apply canon_sendFrames
    assumption
  clear_value x3
  refine canon_ite (fun _ => ?_) (fun _ => ?_)
  apply canon_fault
  refine canon_mk ?_ rfl rfl rfl
  assumption
  refine canon_ite (fun _ => ?_) (fun _ => ?_)
  apply canon_xchgSend
  assumption
  assumption

end Sys2Proof.Machine
end

