-- ==== Sys2Proof/Laws/CanonState.lean ====
section
/-!
SUPPORT. How a command keeps the whole state sound: the lanes it replaces, its loops, and the three forms of a command.
-/

namespace Sys2Proof.Machine

open Sys2Proof LaneSt

/-- Whatever next state an outcome holds is sound. -/
def Sound (o : Host.Outcome State Fault Refusal) : Prop := ∀ t, o = .next t → State.Canon t

theorem canon_state_lane {s : State} (h : State.Canon s) (k : LaneId) : Canon k (s.lane k) := h k

theorem canonS_setLane {s : State} (h : State.Canon s) {k : LaneId} {x : LaneSt} (hx : Canon k x) : State.Canon (s.setLane k x) := by
  intro j
  cases k <;> cases j <;> first | exact hx | exact h _

theorem canonS_mk {s : State} (h : State.Canon s) {a b c : LaneSt} {sn : Vector (Option Snapshot) 3} {n : Nat}
    {p : List Instr} (ha : a = s.a) (hb : b = s.b) (hc : c = s.c) :
    State.Canon ⟨a, b, c, sn, n, p⟩ := by
  subst ha hb hc
  intro j
  cases j
  · exact h .A
  · exact h .B
  · exact h .C

theorem canonS_foldl {α : Type} {f : State → α → State} {s : State} {xs : List α} (h : State.Canon s)
    (hf : ∀ s x, State.Canon s → State.Canon (f s x)) : State.Canon (xs.foldl f s) := by
  induction xs generalizing s with
  | nil => exact h
  | cons x xs ih => exact ih (hf s x h)

theorem canonS_ite {c : Prop} [Decidable c] {x y : State} (hx : c → State.Canon x) (hy : ¬c → State.Canon y) :
    State.Canon (if c then x else y) := by
  split
  · exact hx ‹_›
  · exact hy ‹_›

theorem sound_next {s : State} (h : State.Canon s) : Sound (.next s) := by
  intro t ht
  cases ht
  exact h

theorem sound_onLane {s : State} (h : State.Canon s) {k : LaneId} {f : LaneSt → LaneSt} (hf : ∀ x, Canon k x → Canon k (f x)) :
    Sound (onLane k f s) :=
  sound_next (canonS_setLane h (hf _ (h k)))

theorem sound_onBar {s : State} (h : State.Canon s) {k : LaneId} {f : LaneSt → LaneSt} (hf : ∀ x, Canon k x → Canon k (f x)) :
    Sound (onBar k f s) :=
  sound_onLane h (fun _ hx => canon_ite (fun _ => hx) (fun _ => hf _ hx))

theorem sound_onReceiveN {s : State} (h : State.Canon s) {k : LaneId} {src : Arrival} {n : Nat} {f : LaneSt → LaneSt}
    (hf : ∀ x, Canon k x → Canon k (f x)) : Sound (onReceiveN k src n f s) :=
  sound_onLane h (fun _ hx => canon_ite (fun _ => hf _ (canon_heard hx _ _)) (fun _ => hx))

theorem sound_onReceive {s : State} (h : State.Canon s) {k : LaneId} {src : Arrival} {f : LaneSt → LaneSt}
    (hf : ∀ x, Canon k x → Canon k (f x)) : Sound (onReceive k src f s) :=
  sound_onReceiveN h hf

end Sys2Proof.Machine
end

