-- ==== Sys2Proof/Laws/CanonDevice.lean ====
section
/-!
SUPPORT. Every operation on the device as a whole keeps it sound.
-/

namespace Sys2Proof.Machine

open Sys2Proof LaneSt

theorem canonS_stampResults {s : State} (h : State.Canon s) (k : LaneId) : State.Canon (State.stampResults s k) := by
  unfold State.stampResults
  lift_lets
  intro x1
  have h1 : Canon k x1 := by
    unfold x1
    apply canon_state_lane
    assumption
  clear_value x1
  intro x2
  clear_value x2
  intro x3
  clear_value x3
  intro x4
  clear_value x4
  refine canonS_ite (fun _ => ?_) (fun _ => ?_)
  assumption
  refine canonS_foldl ?_ (fun s5 j5 hs5 => ?_)
  assumption
  lift_lets
  intro x6
  have h6 : Canon j5 x6 := by
    unfold x6
    apply canon_state_lane
    assumption
  clear_value x6
  intro x7
  clear_value x7
  refine canonS_ite (fun _ => ?_) (fun _ => ?_)
  apply canonS_setLane
  assumption
  refine canon_mk ?_ rfl rfl rfl
  assumption
  assumption

theorem canonS_completionWrite {s : State} (h : State.Canon s) (k : LaneId) : State.Canon (completionWrite k s) := by
  unfold completionWrite
  lift_lets
  intro x1
  have h1 : Canon k x1 := by
    unfold x1
    apply canon_state_lane
    assumption
  clear_value x1
  refine canonS_ite (fun _ => ?_) (fun _ => ?_)
  assumption
  split
  assumption
  lift_lets
  intro x2
  clear_value x2
  intro x3
  have h3 : State.Canon x3 := by
    unfold x3
    refine canonS_foldl ?_ (fun s4 j4 hs4 => ?_)
    assumption
    refine canonS_ite (fun _ => ?_) (fun _ => ?_)
    apply canonS_setLane
    assumption
    apply canon_settle
    apply canon_noteWritten
    apply canon_state_lane
    assumption
    assumption
  clear_value x3
  intro x5
  have h5 : Canon k x5 := by
    unfold x5
    apply canon_postCompletion
    apply canon_noteWritten
    assumption
  clear_value x5
  intro x6
  have h6 : Canon k x6 := by
    unfold x6
    refine canon_ite (fun _ => ?_) (fun _ => ?_)
    apply canon_raise
    assumption
    assumption
  clear_value x6
  apply canonS_setLane
  assumption
  apply canon_settle
  assumption

theorem canonS_paramRead {s : State} (h : State.Canon s) (k : LaneId) : State.Canon (paramRead k s) := by
  unfold paramRead
  apply canonS_setLane
  assumption
  apply canon_withDesc
  apply canon_state_lane
  assumption
  intro _
  intro _
  intro _
  intro _
  split
  lift_lets
  intro x1
  clear_value x1
  intro x2
  have h2 : Canon x1 x2 := by
    unfold x2
    apply canon_state_lane
    assumption
  clear_value x2
  intro x3
  clear_value x3
  intro x4
  have h4 : Canon k x4 := by
    unfold x4
    apply canon_complete
    assumption
  clear_value x4
  refine canon_ite (fun _ => ?_) (fun _ => ?_)
  apply canon_deny
  assumption
  refine canon_ite (fun _ => ?_) (fun _ => ?_)
  apply canon_firstRead
  assumption
  assumption
  assumption

theorem canonS_diagSettle {s : State} (h : State.Canon s) (n : Nat) : State.Canon (State.diagSettle s n) := by
  unfold State.diagSettle
  refine canonS_foldl ?_ (fun s1 j1 hs1 => ?_)
  assumption
  split
  assumption
  refine canonS_ite (fun _ => ?_) (fun _ => ?_)
  lift_lets
  intro x2
  clear_value x2
  intro x3
  have h3 : Canon j1 x3 := by
    unfold x3
    apply canon_state_lane
    assumption
  clear_value x3
  intro x4
  clear_value x4
  intro x5
  have h5 : Canon j1 x5 := by
    unfold x5
    refine canon_ite (fun _ => ?_) (fun _ => ?_)
    apply canon_post
    assumption
    assumption
  clear_value x5
  intro x6
  have h6 : Canon j1 x6 := by
    unfold x6
    apply canon_complete
    assumption
  clear_value x6
  intro x7
  have h7 : Canon j1 x7 := by
    unfold x7
    apply canon_setComm
    assumption
  clear_value x7
  apply canonS_setLane
  assumption
  apply canon_setGateCh
  assumption
  assumption

theorem canonS_diagExec {s : State} (h : State.Canon s) (k : LaneId) (t : Nat) : State.Canon (diagExec k t s) := by
  unfold diagExec
  lift_lets
  intro x1
  have h1 : State.Canon x1 := by
    unfold x1
    apply canonS_setLane
    assumption
    apply canon_withDesc
    apply canon_state_lane
    assumption
    intro _
    intro _
    intro _
    intro _
    split
    apply canon_diag
    assumption
    assumption
  clear_value x1
  refine canonS_foldl ?_ (fun s2 j2 hs2 => ?_)
  assumption
  apply canonS_diagSettle
  assumption

theorem canonS_diagTimeout {s : State} (h : State.Canon s) (k : LaneId) (ch : Nat) : State.Canon (diagTimeout k ch s) := by
  unfold diagTimeout
  apply canonS_diagSettle
  apply canonS_setLane
  assumption
  apply canon_setTest
  apply canon_state_lane
  assumption

theorem canonS_endTune {s : State} (h : State.Canon s) (k : LaneId) (c : Nat) : State.Canon (State.endTune s k c) := by
  unfold State.endTune
  split
  assumption
  refine canonS_foldl ?_ (fun s1 j1 hs1 => ?_)
  assumption
  apply canonS_setLane
  assumption
  apply canon_tuneFinish
  apply canon_state_lane
  assumption

theorem canonS_scanStepExec {s : State} (h : State.Canon s) (k : LaneId) (n : Nat) (u v w : BitVec 72) : State.Canon (scanStepExec k n u v w s) := by
  unfold scanStepExec
  apply canonS_diagSettle
  apply canonS_setLane
  assumption
  apply canon_scanJudge
  apply canon_scanStep
  apply canon_state_lane
  assumption

theorem canonS_shutdownComplete {s : State} (h : State.Canon s) (k : LaneId) (n : Nat) : State.Canon (shutdownComplete k n s) := by
  unfold shutdownComplete
  lift_lets
  intro x1
  have h1 : Canon k x1 := by
    unfold x1
    apply canon_state_lane
    assumption
  clear_value x1
  refine canonS_ite (fun _ => ?_) (fun _ => ?_)
  assumption
  refine canonS_ite (fun _ => ?_) (fun _ => ?_)
  apply canonS_setLane
  assumption
  apply canon_setGateCh
  assumption
  refine canonS_ite (fun _ => ?_) (fun _ => ?_)
  apply canonS_setLane
  assumption
  apply canon_shutdownEnd
  assumption
  assumption

theorem canonS_modeExec {s : State} (h : State.Canon s) (k : LaneId) (r : Nat) : State.Canon (modeExec k r s) := by
  unfold modeExec
  apply canonS_setLane
  assumption
  apply canon_withDesc
  apply canon_state_lane
  assumption
  intro _
  intro _
  intro _
  intro _
  split
  refine canon_ite (fun _ => ?_) (fun _ => ?_)
  apply canon_disable
  assumption
  apply canon_enable
  assumption
  assumption

theorem canonS_tpStart {s : State} (h : State.Canon s) (k : LaneId) (t : Nat) : State.Canon (tpStart k t s) := by
  unfold tpStart
  lift_lets
  intro x1
  have h1 : Canon k x1 := by
    unfold x1
    apply canon_state_lane
    assumption
  clear_value x1
  intro x2
  have h2 : State.Canon x2 := by
    unfold x2
    apply canonS_setLane
    assumption
    apply canon_wr
    assumption
    decide
  clear_value x2
  refine canonS_ite (fun _ => ?_) (fun _ => ?_)
  assumption
  refine canonS_foldl ?_ (fun s3 j3 hs3 => ?_)
  assumption
  apply canonS_setLane
  assumption
  apply canon_setSio
  apply canon_state_lane
  assumption

theorem canonS_formStep {s : State} (h : State.Canon s) (k : LaneId) (p : LaneId) (f : CycleFrame) : State.Canon (State.formStep s k p f) := by
  unfold State.formStep
  lift_lets
  intro x1
  have h1 : Canon k x1 := by
    unfold x1
    apply canon_state_lane
    assumption
  clear_value x1
  intro x2
  clear_value x2
  refine canonS_ite (fun _ => ?_) (fun _ => ?_)
  apply canonS_setLane
  assumption
  apply canon_setTime
  assumption
  assumption

theorem canonS_cycleFrameReceive {s : State} (h : State.Canon s) (k : LaneId) (p : LaneId) (good : Bool) (f : CycleFrame) : State.Canon (cycleFrameReceive k p good f s) := by
  unfold cycleFrameReceive
  refine canonS_ite (fun _ => ?_) (fun _ => ?_)
  assumption
  lift_lets
  intro x1
  have h1 : State.Canon x1 := by
    unfold x1
    apply canonS_formStep
    assumption
  clear_value x1
  apply canonS_setLane
  assumption
  apply canon_frameReceive
  apply canon_state_lane
  assumption

theorem canonS_netAccepted {s : State} (h : State.Canon s) (k : LaneId) (blue : Bool) : State.Canon (State.netAccepted s k blue) := by
  unfold State.netAccepted
  lift_lets
  intro x1
  have h1 : Canon k x1 := by
    unfold x1
    apply canon_state_lane
    assumption
  clear_value x1
  intro x2
  have h2 : State.Canon x2 := by
    unfold x2
    apply canonS_setLane
    assumption
    apply canon_setNet
    assumption
  clear_value x2
  refine canonS_ite (fun _ => ?_) (fun _ => ?_)
  assumption
  refine canonS_foldl ?_ (fun s3 j3 hs3 => ?_)
  assumption
  apply canonS_setLane
  assumption
  apply canon_netRegained
  apply canon_state_lane
  assumption

theorem canon_ywPair {κ : LaneId} {l : LaneSt} (h : Canon κ l) (s : Nat) (c : YwCopy) : Canon κ (l.ywPair s c).lane := by
  unfold LaneSt.ywPair
  split
  · split
    · dsimp only
      exact canon_inc h _ (off_add (by decide))
    · split
      · dsimp only
        exact canon_ywAccept (canon_ywDecide h _ _ _ (off_add (by decide))) _ _ _
      · dsimp only
        exact canon_fault (canon_ywDecide h _ _ _ (off_add (by decide))) _ _
  · split
    · split
      · dsimp only
        exact canon_inc h _ (off_add (by decide))
      · dsimp only
        exact canon_fault (canon_inc h _ (off_add (by decide))) _ _
    · dsimp only
      exact canon_setYw h _ _

theorem canonS_ywPaired {st : State} (h : State.Canon st) {k : LaneId} {x : YwPaired} (hx : Canon k x.lane) :
    State.Canon (State.ywPaired st k x) := by
  unfold State.ywPaired
  dsimp only
  split
  · split
    · exact canonS_netAccepted (canonS_netAccepted (canonS_setLane h hx) _ _) _ _
    · exact canonS_netAccepted (canonS_setLane h hx) _ _
  · split
    · exact canonS_netAccepted (canonS_setLane h hx) _ _
    · exact canonS_setLane h hx

theorem canonS_skewExpired {st : State} (h : State.Canon st) (k : LaneId) (s : Nat) : State.Canon (State.skewExpired st k s) := by
  unfold State.skewExpired
  dsimp only
  split
  · exact h
  · split
    · exact h
    exact canonS_netAccepted (canonS_setLane h (canon_ywAccept (canon_fault (canon_ywDecide (h k) _ _ _ (off_add (by decide))) _ _) _ _ _)) _ _

theorem canonS_settleSkew {st : State} (h : State.Canon st) (k : LaneId) (s : Nat) : State.Canon (State.settleSkew st k s) :=
  canonS_foldl h (fun _ _ hs => canonS_skewExpired hs k s)

theorem canonS_ywReceive {st : State} (h : State.Canon st) (k : LaneId) (blue : Bool) (type : Nat) (b : List Byte) :
    State.Canon (State.ywReceive st k blue type b) := by
  unfold State.ywReceive
  split
  · exact h
  · split
    · exact canonS_setLane h ((canon_ywIngress (h k) blue b).1 _ ‹_›)
    · have hn := (canon_ywIngress (h k) blue b).2 _ _ ‹_›
      split
      · exact canonS_setLane h (canon_authFail hn _)
      · rename_i s' l _ _
        have hs := canonS_settleSkew (canonS_setLane h hn) k s'
        have hp := canon_ywPair (hs k) s' ⟨ywSeq b, blue, ywBody b, (((st.setLane k l).settleSkew k s').lane k).run⟩
        refine canonS_ywPaired hs ?_
        split
        · exact hp
        · dsimp only
          exact canon_setYw hp _ _

theorem canonS_keyConfirm {st : State} (h : State.Canon st) (k : LaneId) (blue : Bool) (s : Nat) (b : List Byte) :
    State.Canon (State.keyConfirm st k blue s b) := by
  unfold State.keyConfirm
  split
  · exact canonS_setLane h ((canon_ywIngress (h k) blue b).1 _ ‹_›)
  · rename_i s' l hl
    have hn := (canon_ywIngress (h k) blue b).2 _ _ hl
    split
    · exact canonS_setLane h hn
    · split
      · exact canonS_setLane h (canon_authFail hn _)
      · have hs := canonS_settleSkew (canonS_setLane h hn) k s
        have hk := hs k
        dsimp only
        split
        · split
          · exact canonS_setLane hs (canon_authFail (canon_ywSwitch hk _ _ _ _) _)
          · exact canonS_ywPaired hs (canon_ywPair (canon_ywSwitch hk _ _ _ _) _ _)
        · split
          · exact canonS_setLane hs (canon_authFail hk _)
          · exact canonS_ywPaired hs (canon_ywPair hk _ _)

theorem canonS_ywFollow {st : State} (h : State.Canon st) (k : LaneId) : State.Canon (State.ywFollow st k) := by
  unfold State.ywFollow
  refine canonS_foldl ?_ (fun s1 j1 hs1 => ?_)
  assumption
  lift_lets
  intro x2
  have h2 : Canon k x2 := by
    unfold x2
    apply canon_state_lane
    assumption
  clear_value x2
  split
  assumption
  split
  assumption
  apply canonS_setLane
  assumption
  apply canon_ywSwitch
  assumption

theorem canonS_netLost {s : State} (h : State.Canon s) (k : LaneId) (blue : Bool) : State.Canon (State.netLost s k blue) := by
  unfold State.netLost
  lift_lets
  intro x1
  have h1 : Canon k x1 := by
    unfold x1
    apply canon_state_lane
    assumption
  clear_value x1
  intro x2
  clear_value x2
  intro x3
  clear_value x3
  intro x4
  have h4 : Canon k x4 := by
    unfold x4
    apply canon_raise
    apply canon_fault
    apply canon_setDegrade
    apply canon_wr
    assumption
    exact off_add (by decide)
  clear_value x4
  refine canonS_ite (fun _ => ?_) (fun _ => ?_)
  assumption
  refine canonS_ite (fun _ => ?_) (fun _ => ?_)
  apply canonS_setLane
  assumption
  apply canon_stopAll
  apply canon_setCause
  assumption
  apply canonS_setLane
  assumption
  assumption

theorem canonS_tick {s : State} (h : State.Canon s) : State.Canon (State.tick s) := by
  intro j
  cases j <;> exact canon_ite (fun _ => canon_clockEdge (h _)) (fun _ => h _)

theorem canonS_fwVerified {s : State} (h : State.Canon s) (t : LaneId) : State.Canon (State.fwVerified s t) := by
  unfold State.fwVerified
  lift_lets
  intro x1
  clear_value x1
  intro x2
  clear_value x2
  intro x3
  clear_value x3
  split
  assumption
  refine canonS_foldl ?_ (fun s4 j4 hs4 => ?_)
  assumption
  lift_lets
  intro x5
  have h5 : Canon j4 x5 := by
    unfold x5
    apply canon_state_lane
    assumption
  clear_value x5
  intro x6
  clear_value x6
  intro x7
  have h7 : Canon j4 x7 := by
    unfold x7
    refine canon_mk ?_ rfl rfl rfl
    assumption
  clear_value x7
  intro x8
  have h8 : Canon j4 x8 := by
    unfold x8
    refine canon_ite (fun _ => ?_) (fun _ => ?_)
    apply canon_fwEnd
    assumption
    assumption
  clear_value x8
  refine canonS_ite (fun _ => ?_) (fun _ => ?_)
  assumption
  apply canonS_setLane
  assumption
  split
  apply canon_complete
  assumption
  apply canon_abort
  assumption

theorem canonS_bufferSettle {s : State} (h : State.Canon s) (k : LaneId) (d : Decided) : State.Canon (State.bufferSettle s k d) := by
  unfold State.bufferSettle
  lift_lets
  intro x1
  clear_value x1
  intro x2
  clear_value x2
  intro x3
  clear_value x3
  intro x4
  clear_value x4
  refine canonS_ite (fun _ => ?_) (fun _ => ?_)
  assumption
  refine canonS_foldl ?_ (fun s5 j5 hs5 => ?_)
  assumption
  apply canonS_setLane
  assumption
  apply canon_bufferEffect
  apply canon_state_lane
  assumption

theorem canonS_hostBufferRead {s : State} (h : State.Canon s) (k : LaneId) (bytes : Option (List Byte)) (flips : List (BitVec 72)) : State.Canon (State.hostBufferRead s k bytes flips) := by
  unfold State.hostBufferRead
  split
  assumption
  apply canonS_bufferSettle
  apply canonS_setLane
  assumption
  apply canon_bufferRead
  apply canon_state_lane
  assumption

theorem canonS_hostBufferCopy {s : State} (h : State.Canon s) (k : LaneId) (bytes : List Byte) : State.Canon (State.hostBufferCopy s k bytes) := by
  unfold State.hostBufferCopy
  split
  assumption
  refine canonS_ite (fun _ => ?_) (fun _ => ?_)
  assumption
  apply canonS_bufferSettle
  apply canonS_setLane
  assumption
  apply canon_bufferDone
  apply canon_state_lane
  assumption

theorem canonS_reportWritten {s : State} (h : State.Canon s) (k : LaneId) (d : Decided) (bs : List Byte) : State.Canon (State.reportWritten s k d bs) := by
  unfold State.reportWritten
  lift_lets
  intro x1
  have h1 : State.Canon x1 := by
    unfold x1
    apply canonS_setLane
    assumption
    apply canon_post
    apply canon_state_lane
    assumption
  clear_value x1
  refine canonS_foldl ?_ (fun s2 j2 hs2 => ?_)
  assumption
  lift_lets
  intro x3
  have h3 : Canon j2 x3 := by
    unfold x3
    apply canon_state_lane
    assumption
  clear_value x3
  intro x4
  clear_value x4
  split
  assumption
  lift_lets
  intro x5
  have h5 : Canon j2 x5 := by
    unfold x5
    refine canon_mk ?_ rfl rfl rfl
    assumption
  clear_value x5
  apply canonS_setLane
  assumption
  apply canon_afterReport
  apply canon_complete
  assumption

theorem canonS_reportCopy {s : State} (h : State.Canon s) (k : LaneId) (sender : LaneId) (bs : List Byte) : State.Canon (State.reportCopy s k sender bs) := by
  unfold State.reportCopy
  split
  assumption
  refine canonS_ite (fun _ => ?_) (fun _ => ?_)
  apply canonS_reportWritten
  assumption
  assumption

theorem canonS_askReport {s : State} (h : State.Canon s) (k : LaneId) (d : Decided) : State.Canon (State.askReport s k d) := by
  unfold State.askReport
  split
  apply canonS_setLane
  assumption
  apply canon_complete
  apply canon_state_lane
  assumption
  lift_lets
  intro x1
  have h1 : Canon k x1 := by
    unfold x1
    apply canon_state_lane
    assumption
  clear_value x1
  intro x2
  clear_value x2
  intro x3
  have h3 : Canon k x3 := by
    unfold x3
    refine canon_mk ?_ rfl rfl rfl
    assumption
  clear_value x3
  intro x4
  clear_value x4
  refine canonS_ite (fun _ => ?_) (fun _ => ?_)
  apply canonS_setLane
  assumption
  assumption
  split
  apply canonS_setLane
  assumption
  assumption
  refine canonS_ite (fun _ => ?_) (fun _ => ?_)
  apply canonS_reportWritten
  apply canonS_setLane
  assumption
  assumption
  apply canonS_setLane
  assumption
  apply canon_sendTo
  assumption

theorem canonS_reportDesc {s : State} (h : State.Canon s) (k : LaneId) (p : DescOp → Bool) (check : DescOp → Option (Nat × Nat)) : State.Canon (State.reportDesc s k p check) := by
  unfold State.reportDesc
  split
  assumption
  lift_lets
  intro x1
  have h1 : Canon k x1 := by
    unfold x1
    apply canon_state_lane
    assumption
  clear_value x1
  intro x2
  clear_value x2
  intro x3
  have h3 : Canon k x3 := by
    unfold x3
    refine canon_mk ?_ rfl rfl rfl
    assumption
  clear_value x3
  intro x4
  clear_value x4
  intro x5
  have h5 : Canon k x5 := by
    unfold x5
    refine canon_ite (fun _ => ?_) (fun _ => ?_)
    refine canon_mk ?_ rfl rfl rfl
    assumption
    assumption
  clear_value x5
  intro x6
  have h6 : Canon k x6 := by
    unfold x6
    apply canon_consume
    assumption
  clear_value x6
  intro x7
  have h7 : State.Canon x7 := by
    unfold x7
    apply canonS_setLane
    assumption
    assumption
  clear_value x7
  intro x8
  have h8 : State.Canon x8 := by
    unfold x8
    split
    apply canonS_setLane
    assumption
    apply canon_deny
    assumption
    split
    apply canonS_setLane
    assumption
    apply canon_complete
    assumption
    apply canonS_askReport
    assumption
  clear_value x8
  apply canonS_setLane
  assumption
  apply canon_settle
  apply canon_state_lane
  assumption

theorem canonS_waitRecheck {s : State} (h : State.Canon s) (k : LaneId) : State.Canon (State.waitRecheck s k) := by
  unfold State.waitRecheck
  lift_lets
  intro x1
  have h1 : Canon k x1 := by
    unfold x1
    apply canon_state_lane
    assumption
  clear_value x1
  intro x2
  clear_value x2
  intro x3
  clear_value x3
  intro x4
  clear_value x4
  intro x5
  have h5 : Canon k x5 := by
    unfold x5
    refine canon_mk ?_ rfl rfl rfl
    assumption
  clear_value x5
  intro x6
  have h6 : Canon k x6 := by
    unfold x6
    refine canon_foldl ?_ (fun _ _ _ => ?_)
    assumption
    apply canon_deny
    assumption
  clear_value x6
  refine canonS_foldl ?_ (fun s7 j7 hs7 => ?_)
  apply canonS_setLane
  assumption
  assumption
  apply canonS_bufferSettle
  assumption

theorem canonS_folioSnapshot {s : State} (h : State.Canon s) (k : LaneId) : State.Canon (State.folioSnapshot s k) := by
  unfold State.folioSnapshot
  lift_lets
  intro x1
  have h1 : Canon k x1 := by
    unfold x1
    apply canon_state_lane
    assumption
  clear_value x1
  intro x2
  clear_value x2
  intro x3
  have h3 : Canon k x3 := by
    unfold x3
    apply canon_send
    assumption
  clear_value x3
  intro x4
  clear_value x4
  intro x5
  have h5 : Canon k x5 := by
    unfold x5
    refine canon_mk ?_ rfl rfl rfl
    assumption
  clear_value x5
  intro x6
  have h6 : State.Canon x6 := by
    unfold x6
    apply canonS_setLane
    assumption
    assumption
  clear_value x6
  intro x7
  clear_value x7
  refine canonS_ite (fun _ => ?_) (fun _ => ?_)
  assumption
  refine canonS_ite (fun _ => ?_) (fun _ => ?_)
  assumption
  apply canonS_setLane
  assumption
  refine canon_mk ?_ rfl rfl rfl
  assumption

theorem canonS_answerBuffer {s : State} (h : State.Canon s) (k : LaneId) : State.Canon (State.answerBuffer s k) := by
  unfold State.answerBuffer
  lift_lets
  intro x1
  have h1 : Canon k x1 := by
    unfold x1
    apply canon_state_lane
    assumption
  clear_value x1
  refine canonS_ite (fun _ => ?_) (fun _ => ?_)
  assumption
  apply canonS_setLane
  assumption
  apply canon_setNet
  assumption

theorem canonS_linksPassed {s : State} (h : State.Canon s) (k : LaneId) (links : Nat) : State.Canon (State.linksPassed s k links) := by
  unfold State.linksPassed
  lift_lets
  intro x1
  clear_value x1
  intro x2
  clear_value x2
  refine canonS_foldl ?_ (fun s3 j3 hs3 => ?_)
  assumption
  lift_lets
  intro x4
  have h4 : State.Canon x4 := by
    unfold x4
    apply canonS_setLane
    assumption
    apply canon_setPeer
    apply canon_state_lane
    assumption
  clear_value x4
  apply canonS_setLane
  assumption
  apply canon_setPeer
  apply canon_state_lane
  assumption

theorem canonS_fullProof {s : State} (h : State.Canon s) (k : LaneId) (failStep : Option (Fin 9)) (links : Nat) : State.Canon (State.fullProof s k failStep links) := by
  unfold State.fullProof
  lift_lets
  intro x1
  have h1 : Canon k x1 := by
    unfold x1
    apply canon_state_lane
    assumption
  clear_value x1
  intro x2
  have h2 : State.Canon x2 := by
    unfold x2
    apply canonS_setLane
    assumption
    apply canon_readmissionProof
    assumption
  clear_value x2
  intro x3
  have h3 : State.Canon x3 := by
    unfold x3
    apply canonS_setLane
    assumption
    apply canon_startupProof
    assumption
  clear_value x3
  refine canonS_ite (fun _ => ?_) (fun _ => ?_)
  assumption
  refine canonS_ite (fun _ => ?_) (fun _ => ?_)
  refine canonS_ite (fun _ => ?_) (fun _ => ?_)
  apply canonS_linksPassed
  assumption
  assumption
  refine canonS_ite (fun _ => ?_) (fun _ => ?_)
  refine canonS_ite (fun _ => ?_) (fun _ => ?_)
  apply canonS_linksPassed
  assumption
  assumption
  assumption

theorem canonS_setSnap {s : State} (h : State.Canon s) (k : LaneId) (x : Option Snapshot) : State.Canon (State.setSnap s k x) := by
  intro j
  cases j <;> exact h _

theorem canonS_readmitAligned {s : State} (h : State.Canon s) (k : LaneId) : State.Canon (State.readmitAligned s k) := by
  unfold State.readmitAligned
  lift_lets
  intro x1
  have h1 : Canon k x1 := by
    unfold x1
    apply canon_state_lane
    assumption
  clear_value x1
  intro x2
  have h2 : Canon k x2 := by
    unfold x2
    apply canon_setTime
    assumption
  clear_value x2
  intro x3
  clear_value x3
  refine canonS_ite (fun _ => ?_) (fun _ => ?_)
  assumption
  apply canonS_setLane
  apply canonS_setSnap
  assumption
  refine canon_mk ?_ rfl rfl rfl
  assumption

theorem canonS_staticState {s : State} (h : State.Canon s) (k : LaneId) (src : Arrival) (data : List Byte) : State.Canon (State.staticState s k src data) := by
  unfold State.staticState
  refine canonS_ite (fun _ => ?_) (fun _ => ?_)
  assumption
  lift_lets
  intro x1
  have h1 : Canon k x1 := by
    unfold x1
    apply canon_heard
    apply canon_state_lane
    assumption
  clear_value x1
  intro x2
  clear_value x2
  refine canonS_ite (fun _ => ?_) (fun _ => ?_)
  apply canonS_setLane
  assumption
  refine canon_mk ?_ rfl rfl rfl
  assumption
  apply canonS_setLane
  assumption
  assumption

theorem canonS_capture {s : State} (h : State.Canon s) (j : LaneId) (k : LaneId) : State.Canon (State.capture s j k) := by
  unfold State.capture
  lift_lets
  intro x1
  have h1 : Canon k x1 := by
    unfold x1
    apply canon_state_lane
    assumption
  clear_value x1
  intro x2
  have h2 : Canon j x2 := by
    unfold x2
    apply canon_state_lane
    assumption
  clear_value x2
  intro x3
  clear_value x3
  refine canonS_ite (fun _ => ?_) (fun _ => ?_)
  apply canonS_setLane
  apply canonS_setSnap
  assumption
  apply canon_setPeer
  assumption
  assumption

theorem canonS_captures {s : State} (h : State.Canon s) (j : LaneId) : State.Canon (State.captures s j) := by
  unfold State.captures
  refine canonS_foldl ?_ (fun s1 j1 hs1 => ?_)
  assumption
  apply canonS_capture
  assumption

theorem canonS_dynamicState {s : State} (h : State.Canon s) (k : LaneId) (src : Arrival) (part : Nat) : State.Canon (State.dynamicState s k src part) := by
  unfold State.dynamicState
  refine canonS_ite (fun _ => ?_) (fun _ => ?_)
  assumption
  lift_lets
  intro x1
  have h1 : Canon k x1 := by
    unfold x1
    apply canon_heard
    apply canon_state_lane
    assumption
  clear_value x1
  split
  apply canonS_setLane
  assumption
  assumption
  lift_lets
  intro x2
  have h2 : Canon k x2 := by
    unfold x2
    apply canon_takePart
    assumption
  clear_value x2
  intro x3
  clear_value x3
  refine canonS_ite (fun _ => ?_) (fun _ => ?_)
  apply canonS_setLane
  assumption
  refine canon_mk ?_ rfl rfl rfl
  assumption
  apply canonS_setLane
  assumption
  assumption

theorem canonS_transferEnd {s : State} (h : State.Canon s) (k : LaneId) : State.Canon (State.transferEnd s k) := by
  have h1 : State.Canon (s.setSnap k none) := canonS_setSnap h k none
  unfold State.transferEnd
  dsimp only
  refine canonS_ite (fun _ => h) (fun _ => ?_)
  split
  · exact h
  · refine canonS_ite (fun _ => ?_) (fun _ => canonS_ite (fun _ => ?_) (fun _ => ?_))
    · exact canonS_setLane h1 (canon_startShadow (h k) _ _)
    · exact canonS_setLane h1 (canon_readmitFailed (h k))
    · exact canonS_setLane h1 (canon_mk (h k) rfl rfl rfl)

theorem canonS_safeResetLane {s : State} (h : State.Canon s) (k : LaneId) : State.Canon (State.safeResetLane s k) := by
  unfold State.safeResetLane
  split
  assumption
  lift_lets
  intro x1
  clear_value x1
  intro x2
  have h2 : State.Canon x2 := by
    unfold x2
    apply canonS_setLane
    assumption
    apply canon_withDesc
    apply canon_state_lane
    assumption
    intro _
    intro _
    intro _
    intro _
    refine canon_ite (fun _ => ?_) (fun _ => ?_)
    apply canon_complete
    assumption
    refine canon_ite (fun _ => ?_) (fun _ => ?_)
    apply canon_deny
    assumption
    refine canon_ite (fun _ => ?_) (fun _ => ?_)
    refine canon_ite (fun _ => ?_) (fun _ => ?_)
    apply canon_okOutcome
    assumption
    apply canon_deny
    assumption
    apply canon_laneReset
    assumption
  clear_value x2
  refine canonS_ite (fun _ => ?_) (fun _ => ?_)
  refine canonS_foldl ?_ (fun s3 j3 hs3 => ?_)
  assumption
  lift_lets
  intro x4
  have h4 : Canon j3 x4 := by
    unfold x4
    apply canon_state_lane
    assumption
  clear_value x4
  intro x5
  clear_value x5
  apply canonS_setLane
  assumption
  refine canon_mk ?_ rfl rfl rfl
  assumption
  refine canonS_ite (fun _ => ?_) (fun _ => ?_)
  apply canonS_setLane
  assumption
  apply canon_exclude
  apply canon_state_lane
  assumption
  assumption
  assumption

theorem canonS_laneClear {s : State} (h : State.Canon s) (k : LaneId) : State.Canon (State.laneClear s k) := by
  unfold State.laneClear
  split
  lift_lets
  intro x1
  clear_value x1
  intro x2
  clear_value x2
  intro x3
  have h3 : State.Canon x3 := by
    unfold x3
    apply canonS_setLane
    assumption
    apply canon_withDesc
    apply canon_state_lane
    assumption
    intro _
    intro _
    intro _
    intro _
    apply canon_state_likeOthers
    assumption
    intro _
    intro _
    apply canon_permittedSession
    assumption
    intro _
    intro _
    apply canon_okOutcome
    assumption
  clear_value x3
  intro x4
  clear_value x4
  refine canonS_ite (fun _ => ?_) (fun _ => ?_)
  assumption
  refine canonS_foldl ?_ (fun s5 j5 hs5 => ?_)
  assumption
  apply canonS_setLane
  assumption
  apply canon_laneCleared
  apply canon_state_lane
  assumption
  assumption

theorem canonS_hostReset {s : State} (h : State.Canon s) (k : LaneId) : State.Canon (State.hostReset s k) := by
  unfold State.hostReset
  lift_lets
  intro x1
  clear_value x1
  refine canonS_ite (fun _ => ?_) (fun _ => ?_)
  apply canonS_setLane
  assumption
  apply canon_coldReset
  apply canon_state_lane
  assumption
  assumption

theorem canonS_aliveToggle {s : State} (h : State.Canon s) (k : LaneId) : State.Canon (State.aliveToggle s k) := by
  unfold State.aliveToggle
  lift_lets
  intro x1
  have h1 : Canon k x1 := by
    unfold x1
    apply canon_state_lane
    assumption
  clear_value x1
  intro x2
  have h2 : State.Canon x2 := by
    unfold x2
    apply canonS_setLane
    assumption
    apply canon_wrB
    assumption
    decide
  clear_value x2
  refine canonS_ite (fun _ => ?_) (fun _ => ?_)
  assumption
  refine canonS_foldl ?_ (fun s3 j3 hs3 => ?_)
  assumption
  apply canonS_setLane
  assumption
  apply canon_wr
  apply canon_state_lane
  assumption
  apply off_aliveF

theorem canonS_at' {s : State} (h : State.Canon s) (k : LaneId) (f : LaneSt → LaneSt) (hf : ∀ y, Canon k y → Canon k (f y)) : State.Canon (State.at' s k f) := by
  unfold State.at'
  apply canonS_setLane
  assumption
  apply_assumption
  apply canon_state_lane
  assumption

theorem canonS_admissions {s : State} (h : State.Canon s) (k : LaneId) : State.Canon (State.admissions s k) := by
  unfold State.admissions
  dsimp only
  refine canonS_ite (fun _ => h) (fun _ => canonS_ite (fun _ => ?_) (fun _ => canonS_ite (fun _ => ?_) (fun _ => h)))
  · split
    · exact h
    · refine canonS_setLane h (canon_driveAgain (canon_mk (canon_trialPassed (canon_readmitted ?_ _)) rfl rfl rfl))
      exact canon_wr (canon_adopt (h k) _) (by decide) _
  · refine canonS_setLane h (canon_foldl (h k) (fun _ _ hl => canon_ite (fun _ => ?_) (fun _ => hl)))
    exact canon_setPeer (canon_readmitted hl _) _ _

theorem canonS_applyMembership {s : State} (h : State.Canon s) (k : LaneId) : State.Canon (State.applyMembership s k) := by
  unfold State.applyMembership
  lift_lets
  intro x1
  have h1 : Canon k x1 := by
    unfold x1
    apply canon_state_lane
    assumption
  clear_value x1
  intro x2
  have h2 : State.Canon x2 := by
    unfold x2
    apply canonS_setLane
    assumption
    apply canon_clearOut
    apply canon_newMembers
    assumption
  clear_value x2
  refine canonS_ite (fun _ => ?_) (fun _ => ?_)
  refine canonS_ite (fun _ => ?_) (fun _ => ?_)
  assumption
  apply canonS_waitRecheck
  refine canonS_foldl ?_ (fun s3 j3 hs3 => ?_)
  assumption
  apply canonS_endTune
  assumption
  split
  apply canonS_setLane
  assumption
  apply canon_wr
  apply canon_wr
  assumption
  decide
  decide
  refine canonS_ite (fun _ => ?_) (fun _ => ?_)
  apply canonS_setLane
  assumption
  apply canon_laneSafe
  apply canon_setReadmit
  apply canon_wr
  assumption
  decide
  assumption

theorem canonS_faultedChannels {s : State} (h : State.Canon s) (k : LaneId) : State.Canon (State.faultedChannels s k) := by
  unfold State.faultedChannels
  lift_lets
  intro x1
  intro x2
  have h2 : State.Canon x2 := by
    unfold x2
    refine canonS_foldl ?_ (fun s3 j3 hs3 => ?_)
    assumption
    refine canonS_ite (fun _ => ?_) (fun _ => ?_)
    apply canonS_at'
    assumption
    intro _
    intro _
    refine canon_foldl ?_ (fun _ _ _ => ?_)
    assumption
    refine canon_ite (fun _ => ?_) (fun _ => ?_)
    apply canon_toFaulted
    assumption
    assumption
    assumption
  clear_value x2
  refine canonS_ite (fun _ => ?_) (fun _ => ?_)
  assumption
  apply canonS_at'
  assumption
  intro _
  intro _
  lift_lets
  intro x4
  clear_value x4
  refine canon_mk ?_ rfl rfl rfl
  assumption

theorem canonS_stopEnters {s : State} (h : State.Canon s) (k : LaneId) : State.Canon (State.stopEnters s k) := by
  unfold State.stopEnters
  dsimp only
  split
  · split
    · exact h
    · exact canonS_setLane h (canon_ite (fun _ => canon_mk (h k) rfl rfl rfl) (fun _ => canon_stopAll (canon_mk (h k) rfl rfl rfl) _ _))
  · split
    · split
      · exact h
      · split
        · exact canonS_setLane h (canon_stopAll (h k) _ _)
        · exact h
    · exact h

theorem canonS_speakers {s : State} (h : State.Canon s) (k : LaneId) : State.Canon (State.speakers s k) := by
  unfold State.speakers
  lift_lets
  intro x1
  clear_value x1
  intro x2
  clear_value x2
  intro x3
  clear_value x3
  apply canonS_at'
  assumption
  intro _
  intro _
  refine canon_foldl ?_ (fun _ _ _ => ?_)
  assumption
  apply canon_wrB
  apply canon_wrB
  assumption
  exact off_add (by decide)
  exact off_add (by decide)

theorem canonS_napDecide {s : State} (h : State.Canon s) (k : LaneId) : State.Canon (State.napDecide s k) := by
  unfold State.napDecide
  lift_lets
  intro x1
  have h1 : Canon k x1 := by
    unfold x1
    apply canon_state_lane
    assumption
  clear_value x1
  intro x2
  clear_value x2
  intro x3
  clear_value x3
  intro x4
  have h4 : Canon k x4 := by
    unfold x4
    refine canon_foldl ?_ (fun _ _ _ => ?_)
    assumption
    apply canon_setPeer
    assumption
  clear_value x4
  intro x5
  have h5 : Canon k x5 := by
    unfold x5
    apply canon_wr
    assumption
    decide
  clear_value x5
  intro x6
  clear_value x6
  intro x7
  have h7 : Canon k x7 := by
    unfold x7
    refine canon_mk ?_ rfl rfl rfl
    assumption
  clear_value x7
  intro x8
  have h8 : Canon k x8 := by
    unfold x8
    apply canon_ywClose
    apply canon_ywClose
    assumption
  clear_value x8
  intro x9
  clear_value x9
  intro x10
  clear_value x10
  intro x11
  have h11 : Canon k x11 := by
    unfold x11
    refine canon_ite (fun _ => ?_) (fun _ => ?_)
    apply canon_send
    assumption
    assumption
  clear_value x11
  intro x12
  clear_value x12
  refine canonS_ite (fun _ => ?_) (fun _ => ?_)
  apply canonS_setLane
  assumption
  refine canon_ite (fun _ => ?_) (fun _ => ?_)
  apply canon_closeSession
  assumption
  apply canon_showSession
  refine canon_mk ?_ rfl rfl rfl
  assumption
  refine canonS_ite (fun _ => ?_) (fun _ => ?_)
  apply canonS_setLane
  assumption
  assumption
  apply canonS_setLane
  assumption
  refine canon_mk ?_ rfl rfl rfl
  assumption

theorem canonS_votingBoundary {s : State} (h : State.Canon s) (k : LaneId) (sends : Bool) : State.Canon (State.votingBoundary s k sends) := by
  unfold State.votingBoundary
  refine canonS_ite (fun _ => ?_) (fun _ => ?_)
  assumption
  lift_lets
  intro x1
  have h1 : State.Canon x1 := by
    unfold x1
    apply canonS_ywFollow
    apply canonS_at'
    assumption
    intro _
    intro _
    apply canon_boundaryBegin
    assumption
  clear_value x1
  intro x2
  have h2 : State.Canon x2 := by
    unfold x2
    apply canonS_applyMembership
    apply canonS_admissions
    apply canonS_at'
    assumption
    intro _
    intro _
    apply canon_formation
    assumption
  clear_value x2
  intro x3
  have h3 : State.Canon x3 := by
    unfold x3
    apply canonS_at'
    assumption
    intro _
    intro _
    apply canon_outsider
    apply canon_rampStep
    assumption
  clear_value x3
  intro x4
  have h4 : State.Canon x4 := by
    unfold x4
    apply canonS_stopEnters
    apply canonS_faultedChannels
    assumption
  clear_value x4
  intro x5
  have h5 : State.Canon x5 := by
    unfold x5
    apply canonS_at'
    assumption
    intro _
    intro _
    apply canon_evalLead
    refine canon_ite (fun _ => ?_) (fun _ => ?_)
    apply canon_judgeK1
    assumption
    assumption
  clear_value x5
  intro x6
  have h6 : State.Canon x6 := by
    unfold x6
    apply canonS_at'
    assumption
    intro _
    intro _
    apply canon_folioClose
    apply canon_fleetTake
    apply canon_commitClose
    assumption
  clear_value x6
  intro x7
  have h7 : State.Canon x7 := by
    unfold x7
    apply canonS_speakers
    apply canonS_stampResults
    assumption
  clear_value x7
  intro x8
  have h8 : State.Canon x8 := by
    unfold x8
    apply canonS_at'
    assumption
    intro _
    intro _
    apply canon_telSettle
    apply canon_proofLeavers
    assumption
  clear_value x8
  intro x9
  have h9 : State.Canon x9 := by
    unfold x9
    apply canonS_answerBuffer
    apply canonS_at'
    apply canonS_napDecide
    assumption
    intro _
    intro _
    apply canon_judgeSlots
    apply canon_forceDirect
    assumption
  clear_value x9
  apply canonS_captures
  apply canonS_at'
  assumption
  intro _
  intro _
  apply canon_boundaryFrames
  assumption

end Sys2Proof.Machine
end

