-- ==== Sys2Proof/Laws/CanonCommands.lean ====
section
/-!
SUPPORT. Every command keeps the device sound: one lemma per meaning.
-/

namespace Sys2Proof.Machine

open Sys2Proof LaneSt

theorem sound_execIrqEntry {s : State} (h : State.Canon s) (l : LaneId) (split : Bool) : Sound (execIrqEntry l split s) := by
  unfold execIrqEntry
  refine sound_onLane ‹_› (fun _ _ => ?_)
  apply canon_irqEntry
  assumption

theorem sound_execIrqLeadingEnd {s : State} (h : State.Canon s) (l : LaneId) (group : Fin 32) : Sound (execIrqLeadingEnd l group s) := by
  unfold execIrqLeadingEnd
  refine sound_onLane ‹_› (fun _ _ => ?_)
  refine canon_ite (fun _ => ?_) (fun _ => ?_)
  apply canon_setStage
  assumption
  assumption

theorem sound_execMsixRelease {s : State} (h : State.Canon s) (l : LaneId) (vec : Fin 64) : Sound (execMsixRelease l vec s) := by
  unfold execMsixRelease
  refine sound_onLane ‹_› (fun _ _ => ?_)
  apply canon_msixRelease
  assumption

theorem sound_execIrqMaskWrite {s : State} (h : State.Canon s) (l : LaneId) (fast : Bool) (k : Fin 8) (value : Word) : Sound (execIrqMaskWrite l fast k value s) := by
  unfold execIrqMaskWrite
  refine sound_onBar ‹_› (fun _ _ => ?_)
  apply canon_bankWrite
  assumption

theorem sound_execIrqCauseWrite {s : State} (h : State.Canon s) (l : LaneId) (fast : Bool) (k : Fin 8) (value : Word) : Sound (execIrqCauseWrite l fast k value s) := by
  unfold execIrqCauseWrite
  refine sound_onBar ‹_› (fun _ _ => ?_)
  apply canon_bankWrite
  assumption

theorem sound_execIrqRaisedClear {s : State} (h : State.Canon s) (l : LaneId) (fast : Bool) (k : Fin 8) (value : Word) : Sound (execIrqRaisedClear l fast k value s) := by
  unfold execIrqRaisedClear
  refine sound_onBar ‹_› (fun _ _ => ?_)
  apply canon_bankWrite
  assumption

theorem sound_execIrqSwset {s : State} (h : State.Canon s) (l : LaneId) (fast : Bool) (k : Fin 8) (value : Word) : Sound (execIrqSwset l fast k value s) := by
  unfold execIrqSwset
  refine sound_onBar ‹_› (fun _ _ => ?_)
  apply canon_bankWrite
  assumption

theorem sound_execIrqAckWrite {s : State} (h : State.Canon s) (l : LaneId) (fast : Bool) (value : Word) : Sound (execIrqAckWrite l fast value s) := by
  unfold execIrqAckWrite
  refine sound_onBar ‹_› (fun _ _ => ?_)
  apply canon_bankWrite
  assumption

theorem sound_execIrqWriteRefusedClear {s : State} (h : State.Canon s) (l : LaneId) (fast : Bool) (value : Word) : Sound (execIrqWriteRefusedClear l fast value s) := by
  unfold execIrqWriteRefusedClear
  refine sound_onBar ‹_› (fun _ _ => ?_)
  apply canon_refusedClear
  assumption

theorem sound_execIrqRaiseReceive {s : State} (h : State.Canon s) (l : LaneId) (src : Arrival) (group : Fin 32) (sources : Byte) (raiser : LaneId) : Sound (execIrqRaiseReceive l src group sources raiser s) := by
  unfold execIrqRaiseReceive
  refine sound_onReceive ‹_› (fun _ _ => ?_)
  apply canon_pend
  assumption

theorem sound_execIrqDeliverReceive {s : State} (h : State.Canon s) (l : LaneId) (src : Arrival) (group : Fin 32) (snap : Byte) (dseq : Word) : Sound (execIrqDeliverReceive l src group snap dseq s) := by
  unfold execIrqDeliverReceive
  refine sound_onReceive ‹_› (fun _ _ => ?_)
  apply canon_mirrorEntry
  assumption

theorem sound_execIrqWriteReceive {s : State} (h : State.Canon s) (l : LaneId) (src : Arrival) (fast : Bool) (off : Fin 2048) (value : Word) : Sound (execIrqWriteReceive l src fast off value s) := by
  unfold execIrqWriteReceive
  refine sound_onReceive ‹_› (fun _ _ => ?_)
  apply canon_bankApply
  assumption

theorem sound_execReg64LowRead {s : State} (h : State.Canon s) (l : LaneId) (off : Nat) : Sound (execReg64LowRead l off s) := by
  unfold execReg64LowRead
  refine sound_onBar ‹_› (fun _ _ => ?_)
  apply canon_hostRead
  assumption

theorem sound_execBar0BadRequest {s : State} (h : State.Canon s) (l : LaneId) : Sound (execBar0BadRequest l s) := by
  unfold execBar0BadRequest
  refine sound_onBar ‹_› (fun _ _ => ?_)
  apply canon_badRequest
  assumption

theorem sound_execHifEnable {s : State} (h : State.Canon s) (l : LaneId) (value : Word) : Sound (execHifEnable l value s) := by
  unfold execHifEnable
  refine sound_onBar ‹_› (fun _ _ => ?_)
  apply canon_ctrlWrite
  assumption

theorem sound_execSetupHashReceive {s : State} (h : State.Canon s) (l : LaneId) (src : Arrival) (hash : BitVec 512) : Sound (execSetupHashReceive l src hash s) := by
  unfold execSetupHashReceive
  refine sound_onReceive ‹_› (fun _ _ => ?_)
  apply canon_judgeSetup
  apply canon_setPeer
  assumption

theorem sound_execNop {s : State} (h : State.Canon s) (l : LaneId) : Sound (execNop l s) := by
  unfold execNop
  refine sound_onLane ‹_› (fun _ _ => ?_)
  apply canon_withDesc
  assumption
  intro _
  intro _
  intro _
  intro _
  apply canon_complete
  assumption

theorem sound_execDoorbellPoll {s : State} (h : State.Canon s) (l : LaneId) (page : Option (List Byte)) : Sound (execDoorbellPoll l page s) := by
  unfold execDoorbellPoll
  refine sound_onLane ‹_› (fun _ _ => ?_)
  refine canon_ite (fun _ => ?_) (fun _ => ?_)
  apply canon_poll
  assumption
  assumption

theorem sound_execHostLinkLost {s : State} (h : State.Canon s) (l : LaneId) : Sound (execHostLinkLost l s) := by
  unfold execHostLinkLost
  refine sound_onLane ‹_› (fun _ _ => ?_)
  apply canon_linkLost
  assumption

theorem sound_execPerstReset {s : State} (h : State.Canon s) (l : LaneId) : Sound (execPerstReset l s) := by
  unfold execPerstReset
  refine sound_onLane ‹_› (fun _ _ => ?_)
  apply canon_hostIslandReset
  assumption

theorem sound_execLinkProbe {s : State} (h : State.Canon s) (l : LaneId) (trained : Fin 4) (page : Option (List Byte)) : Sound (execLinkProbe l trained page s) := by
  unfold execLinkProbe
  refine sound_onLane ‹_› (fun _ _ => ?_)
  apply canon_probe
  assumption

theorem sound_execGalleyCountsReceive {s : State} (h : State.Canon s) (l : LaneId) (src : Arrival) (counts : List Dword) : Sound (execGalleyCountsReceive l src counts s) := by
  unfold execGalleyCountsReceive
  refine sound_onReceive ‹_› (fun _ _ => ?_)
  refine canon_ite (fun _ => ?_) (fun _ => ?_)
  assumption
  apply canon_galleyCounts
  assumption

theorem sound_execHostTimeout {s : State} (h : State.Canon s) (l : LaneId) : Sound (execHostTimeout l s) := by
  unfold execHostTimeout
  refine sound_onLane ‹_› (fun _ _ => ?_)
  apply canon_hostSilent
  assumption

theorem sound_execDescFetch {s : State} (h : State.Canon s) (l : LaneId) : Sound (execDescFetch l s) := by
  unfold execDescFetch
  refine sound_onLane ‹_› (fun _ _ => ?_)
  apply canon_fetch
  assumption

theorem sound_execDescFetchComplete {s : State} (h : State.Canon s) (l : LaneId) (read : Transfer) : Sound (execDescFetchComplete l read s) := by
  unfold execDescFetchComplete
  refine sound_onLane ‹_› (fun _ _ => ?_)
  apply canon_fetchDone
  assumption

theorem sound_execDescFpReceive {s : State} (h : State.Canon s) (l : LaneId) (src : Arrival) (sg : Fin 16) (seq : Word) (fp : Option Dword) : Sound (execDescFpReceive l src sg seq fp s) := by
  unfold execDescFpReceive
  refine sound_onReceive ‹_› (fun _ _ => ?_)
  apply canon_fpReceive
  assumption

theorem sound_execSingleWaitExpired {s : State} (h : State.Canon s) (l : LaneId) (sg : Fin 16) (seq : Word) : Sound (execSingleWaitExpired l sg seq s) := by
  unfold execSingleWaitExpired
  refine sound_onLane ‹_› (fun _ _ => ?_)
  apply canon_decideOn
  assumption

theorem sound_execBulkMismatchCopy {s : State} (h : State.Canon s) (l : LaneId) (src : Arrival) (sg : Fin 16) (seq : Word) (bytes : List Byte) : Sound (execBulkMismatchCopy l src sg seq bytes s) := by
  unfold execBulkMismatchCopy
  refine sound_onReceive ‹_› (fun _ _ => ?_)
  lift_lets
  intro x1
  clear_value x1
  intro x2
  clear_value x2
  apply canon_finishMismatch
  apply canon_putCopies
  assumption

theorem sound_execCompletionWrite {s : State} (h : State.Canon s) (l : LaneId) : Sound (execCompletionWrite l s) := by
  unfold execCompletionWrite
  apply sound_next
  apply canonS_completionWrite
  assumption

theorem sound_execParamRead {s : State} (h : State.Canon s) (l : LaneId) : Sound (execParamRead l s) := by
  unfold execParamRead
  apply sound_next
  apply canonS_paramRead
  assumption

theorem sound_execCarrierValley {s : State} (h : State.Canon s) (l : LaneId) (c : Fin 8) (alignErr : Int) : Sound (execCarrierValley l c alignErr s) := by
  unfold execCarrierValley
  refine sound_onLane ‹_› (fun _ _ => ?_)
  apply canon_valley
  assumption

theorem sound_execChopShorted {s : State} (h : State.Canon s) (l : LaneId) (leg : Fin 2) : Sound (execChopShorted l leg s) := by
  unfold execChopShorted
  refine sound_onLane ‹_› (fun _ _ => ?_)
  apply canon_chopShorted
  assumption

theorem sound_execOv3Release {s : State} (h : State.Canon s) (l : LaneId) : Sound (execOv3Release l s) := by
  unfold execOv3Release
  refine sound_onLane ‹_› (fun _ _ => ?_)
  apply canon_ov3Release
  assumption

theorem sound_execOv4Trip {s : State} (h : State.Canon s) (l : LaneId) (die : Fin 2) : Sound (execOv4Trip l die s) := by
  unfold execOv4Trip
  refine sound_onLane ‹_› (fun _ _ => ?_)
  apply canon_ov4Trip
  assumption

theorem sound_execVgdLoss {s : State} (h : State.Canon s) (l : LaneId) : Sound (execVgdLoss l s) := by
  unfold execVgdLoss
  refine sound_onLane ‹_› (fun _ _ => ?_)
  apply canon_vgdLoss
  assumption

theorem sound_execForceSafe {s : State} (h : State.Canon s) (l : LaneId) (die : Fin 2) : Sound (execForceSafe l die s) := by
  unfold execForceSafe
  refine sound_onLane ‹_› (fun _ _ => ?_)
  apply canon_forceSafe
  assumption

theorem sound_execEdgeLink {s : State} (h : State.Canon s) (l : LaneId) (die : Fin 2) : Sound (execEdgeLink l die s) := by
  unfold execEdgeLink
  refine sound_onLane ‹_› (fun _ _ => ?_)
  apply canon_edgeLink
  assumption

theorem sound_execDesatTrip {s : State} (h : State.Canon s) (l : LaneId) (leg : Fin 26) (low : Bool) : Sound (execDesatTrip l leg low s) := by
  unfold execDesatTrip
  refine sound_onLane ‹_› (fun _ _ => ?_)
  apply canon_desat
  assumption

theorem sound_execCoarseTrip {s : State} (h : State.Canon s) (l : LaneId) (leg : Fin 26) (low : Bool) : Sound (execCoarseTrip l leg low s) := by
  unfold execCoarseTrip
  refine sound_onLane ‹_› (fun _ _ => ?_)
  apply canon_coarse
  assumption

theorem sound_execInterlockStuck {s : State} (h : State.Canon s) (l : LaneId) (leg : Fin 26) (low : Bool) : Sound (execInterlockStuck l leg low s) := by
  unfold execInterlockStuck
  refine sound_onLane ‹_› (fun _ _ => ?_)
  apply canon_interlockStuck
  assumption

theorem sound_execGateStuckOff {s : State} (h : State.Canon s) (l : LaneId) (leg : Fin 26) (low : Bool) : Sound (execGateStuckOff l leg low s) := by
  unfold execGateStuckOff
  refine sound_onLane ‹_› (fun _ _ => ?_)
  apply canon_gateStuckOff
  assumption

theorem sound_execBsUv {s : State} (h : State.Canon s) (l : LaneId) (leg : Fin 26) : Sound (execBsUv l leg s) := by
  unfold execBsUv
  refine sound_onLane ‹_› (fun _ _ => ?_)
  apply canon_bsUv
  assumption

theorem sound_execDiagComparatorSelftest {s : State} (h : State.Canon s) (l : LaneId) : Sound (execDiagComparatorSelftest l s) := by
  unfold execDiagComparatorSelftest
  apply sound_next
  apply canonS_diagExec
  assumption

theorem sound_execDiagTestCurrentScan {s : State} (h : State.Canon s) (l : LaneId) : Sound (execDiagTestCurrentScan l s) := by
  unfold execDiagTestCurrentScan
  apply sound_next
  apply canonS_diagExec
  assumption

theorem sound_execDiagSelftestTimeout {s : State} (h : State.Canon s) (l : LaneId) (ch : Fin 8) : Sound (execDiagSelftestTimeout l ch s) := by
  unfold execDiagSelftestTimeout
  apply sound_next
  apply canonS_diagTimeout
  assumption

theorem sound_execComparatorSelftestStep {s : State} (h : State.Canon s) (l : LaneId) (leg : Fin 26) (low : Bool) (cmp : Fin 3) (aborted : Bool) (tripped : Bool) : Sound (execComparatorSelftestStep l leg low cmp aborted tripped s) := by
  unfold execComparatorSelftestStep
  apply sound_next
  apply canonS_diagSettle
  apply canonS_setLane
  assumption
  apply canon_selftestStep
  apply canon_state_lane
  assumption

theorem sound_execSequenceHold {s : State} (h : State.Canon s) (l : LaneId) (sq : Fin 16) : Sound (execSequenceHold l sq s) := by
  unfold execSequenceHold
  refine sound_onLane ‹_› (fun _ _ => ?_)
  apply canon_seqHold
  assumption

theorem sound_execConversionComplete {s : State} (h : State.Canon s) (l : LaneId) (ain : Fin 72) (result : Converted) : Sound (execConversionComplete l ain result s) := by
  unfold execConversionComplete
  refine sound_onLane ‹_› (fun _ _ => ?_)
  apply canon_convert
  assumption

theorem sound_execAdcCalibration {s : State} (h : State.Canon s) (l : LaneId) (core : Fin 24) (low : BitVec 16) (high : BitVec 16) : Sound (execAdcCalibration l core low high s) := by
  unfold execAdcCalibration
  refine sound_onLane ‹_› (fun _ _ => ?_)
  apply canon_calibrate
  assumption

theorem sound_execSessionTimeout {s : State} (h : State.Canon s) (l : LaneId) : Sound (execSessionTimeout l s) := by
  unfold execSessionTimeout
  refine sound_onLane ‹_› (fun _ _ => ?_)
  refine canon_ite (fun _ => ?_) (fun _ => ?_)
  apply canon_closeSession
  assumption
  assumption

theorem sound_execSecSyncReceive {s : State} (h : State.Canon s) (l : LaneId) (src : Arrival) (words : List Dword) : Sound (execSecSyncReceive l src words s) := by
  unfold execSecSyncReceive
  refine sound_onReceive ‹_› (fun _ _ => ?_)
  refine canon_ite (fun _ => ?_) (fun _ => ?_)
  assumption
  apply canon_secSync
  assumption

theorem sound_execLockoutEnd {s : State} (h : State.Canon s) (l : LaneId) : Sound (execLockoutEnd l s) := by
  unfold execLockoutEnd
  refine sound_onLane ‹_› (fun _ hl => canon_ite (fun _ => hl) (fun _ => ?_))
  apply canon_showSession
  refine canon_mk ?_ rfl rfl rfl
  assumption

theorem sound_execPtTransitionEmit {s : State} (h : State.Canon s) (l : LaneId) (pt : Fin 4) : Sound (execPtTransitionEmit l pt s) := by
  unfold execPtTransitionEmit
  refine sound_onLane ‹_› (fun _ _ => ?_)
  apply canon_ptEmit
  assumption

theorem sound_execPortBypassEnd {s : State} (h : State.Canon s) (l : LaneId) (port : Fin 24) : Sound (execPortBypassEnd l port s) := by
  unfold execPortBypassEnd
  refine sound_onLane ‹_› (fun _ _ => ?_)
  apply canon_bypassEnd
  assumption

theorem sound_execQuadTransition {s : State} (h : State.Canon s) (l : LaneId) (port : Fin 24) (a : Bool) (b : Bool) (seen : LineSample) : Sound (execQuadTransition l port a b seen s) := by
  unfold execQuadTransition
  refine sound_onLane ‹_› (fun _ _ => ?_)
  apply canon_quad
  assumption

theorem sound_execDoubleStep {s : State} (h : State.Canon s) (l : LaneId) (port : Fin 24) (held : Nat) (mismatch : Bool) : Sound (execDoubleStep l port held mismatch s) := by
  unfold execDoubleStep
  refine sound_onLane ‹_› (fun _ _ => ?_)
  apply canon_double
  assumption

theorem sound_execIndexPulse {s : State} (h : State.Canon s) (l : LaneId) (edge : ZEdge) : Sound (execIndexPulse l edge s) := by
  unfold execIndexPulse
  refine sound_onLane ‹_› (fun _ _ => ?_)
  apply canon_index
  assumption

theorem sound_execHallState {s : State} (h : State.Canon s) (l : LaneId) (port : Fin 24) (seen : HallSample) : Sound (execHallState l port seen s) := by
  unfold execHallState
  refine sound_onLane ‹_› (fun _ _ => ?_)
  apply canon_hall
  assumption

theorem sound_execSsiTrigger {s : State} (h : State.Canon s) (l : LaneId) (port : Fin 24) : Sound (execSsiTrigger l port s) := by
  unfold execSsiTrigger
  refine sound_onLane ‹_› (fun _ _ => ?_)
  apply canon_ssiTrigger
  assumption

theorem sound_execSsiFrameEnd {s : State} (h : State.Canon s) (l : LaneId) (port : Fin 24) (seen : SsiSample) : Sound (execSsiFrameEnd l port seen s) := by
  unfold execSsiFrameEnd
  refine sound_onLane ‹_› (fun _ _ => ?_)
  apply canon_ssiFrame
  assumption

theorem sound_execSentFrame {s : State} (h : State.Canon s) (l : LaneId) (port : Fin 24) (pulses : List Nat) (level : Bool) (mismatch : Bool) : Sound (execSentFrame l port pulses level mismatch s) := by
  unfold execSentFrame
  refine sound_onLane ‹_› (fun _ _ => ?_)
  apply canon_sentFrame
  assumption

theorem sound_execFeedbackStale {s : State} (h : State.Canon s) (l : LaneId) (port : Fin 24) : Sound (execFeedbackStale l port s) := by
  unfold execFeedbackStale
  refine sound_onLane ‹_› (fun _ _ => ?_)
  apply canon_stale
  assumption

theorem sound_execVelocityTimeout {s : State} (h : State.Canon s) (l : LaneId) (port : Fin 24) : Sound (execVelocityTimeout l port s) := by
  unfold execVelocityTimeout
  refine sound_onLane ‹_› (fun _ _ => ?_)
  apply canon_velTimeout
  assumption

theorem sound_execProbeEdge {s : State} (h : State.Canon s) (l : LaneId) (probe : Fin 8) (edge : RawLevel) : Sound (execProbeEdge l probe edge s) := by
  unfold execProbeEdge
  refine sound_onLane ‹_› (fun _ _ => ?_)
  apply canon_probeEdge
  assumption

theorem sound_execReplan {s : State} (h : State.Canon s) (l : LaneId) (g : Fin 16) : Sound (execReplan l g s) := by
  unfold execReplan
  refine sound_onLane ‹_› (fun _ _ => ?_)
  apply canon_changesDue
  assumption

theorem sound_execTimedEntryApply {s : State} (h : State.Canon s) (l : LaneId) (g : Fin 16) : Sound (execTimedEntryApply l g s) := by
  unfold execTimedEntryApply
  refine sound_onLane ‹_› (fun _ _ => ?_)
  apply canon_changesDue
  assumption

theorem sound_execSetpoint {s : State} (h : State.Canon s) (l : LaneId) : Sound (execSetpoint l s) := by
  unfold execSetpoint
  refine sound_onLane ‹_› (fun _ _ => ?_)
  apply canon_withDesc
  assumption
  intro _
  intro _
  intro _
  intro _
  split
  apply canon_setpoint
  assumption
  assumption

theorem sound_execLimits {s : State} (h : State.Canon s) (l : LaneId) : Sound (execLimits l s) := by
  unfold execLimits
  refine sound_onLane ‹_› (fun _ _ => ?_)
  apply canon_withDesc
  assumption
  intro _
  intro _
  intro _
  intro _
  split
  apply canon_limits
  assumption
  assumption

theorem sound_execHomingRefEdge {s : State} (h : State.Canon s) (l : LaneId) (g : Fin 16) : Sound (execHomingRefEdge l g s) := by
  unfold execHomingRefEdge
  refine sound_onLane ‹_› (fun _ _ => ?_)
  apply canon_homeRefEdge
  assumption

theorem sound_execHomingIndex {s : State} (h : State.Canon s) (l : LaneId) (g : Fin 16) : Sound (execHomingIndex l g s) := by
  unfold execHomingIndex
  refine sound_onLane ‹_› (fun _ _ => ?_)
  apply canon_homeIndex
  assumption

theorem sound_execHomingNoEdge {s : State} (h : State.Canon s) (l : LaneId) (g : Fin 16) : Sound (execHomingNoEdge l g s) := by
  unfold execHomingNoEdge
  refine sound_onLane ‹_› (fun _ _ => ?_)
  refine canon_ite (fun _ => ?_) (fun _ => ?_)
  apply canon_homeFail
  assumption
  assumption

theorem sound_execHomingNoIndex {s : State} (h : State.Canon s) (l : LaneId) (g : Fin 16) : Sound (execHomingNoIndex l g s) := by
  unfold execHomingNoIndex
  refine sound_onLane ‹_› (fun _ _ => ?_)
  refine canon_ite (fun _ => ?_) (fun _ => ?_)
  apply canon_homeFail
  assumption
  assumption

theorem sound_execStepPulseEmit {s : State} (h : State.Canon s) (l : LaneId) (g : Fin 16) : Sound (execStepPulseEmit l g s) := by
  unfold execStepPulseEmit
  refine sound_onLane ‹_› (fun _ _ => ?_)
  apply canon_stepPulse
  assumption

theorem sound_execPlanStep {s : State} (h : State.Canon s) (l : LaneId) (g : Fin 16) : Sound (execPlanStep l g s) := by
  unfold execPlanStep
  refine sound_onLane ‹_› (fun _ _ => ?_)
  apply canon_planStep
  assumption

theorem sound_execProfLatchEdge {s : State} (h : State.Canon s) (l : LaneId) (g : Fin 16) (rising : Bool) : Sound (execProfLatchEdge l g rising s) := by
  unfold execProfLatchEdge
  refine sound_onLane ‹_› (fun _ _ => ?_)
  apply canon_latchEdge
  assumption

theorem sound_execLimitSwitchEdge {s : State} (h : State.Canon s) (l : LaneId) (g : Fin 16) (positive : Bool) : Sound (execLimitSwitchEdge l g positive s) := by
  unfold execLimitSwitchEdge
  refine sound_onLane ‹_› (fun _ _ => ?_)
  apply canon_limitEdge
  assumption

theorem sound_execLimitSwitchRelease {s : State} (h : State.Canon s) (l : LaneId) (g : Fin 16) (positive : Bool) : Sound (execLimitSwitchRelease l g positive s) := by
  unfold execLimitSwitchRelease
  refine sound_onLane ‹_› (fun _ _ => ?_)
  apply canon_limitRelease
  assumption

theorem sound_execZeroCalMeasure {s : State} (h : State.Canon s) (l : LaneId) (ain : Fin 72) (z : Int) : Sound (execZeroCalMeasure l ain z s) := by
  unfold execZeroCalMeasure
  refine sound_onLane ‹_› (fun _ _ => ?_)
  apply canon_zeroMeasure
  assumption

theorem sound_execTimetableTick {s : State} (h : State.Canon s) (l : LaneId) (t : Fin 4) : Sound (execTimetableTick l t s) := by
  unfold execTimetableTick
  refine sound_onLane ‹_› (fun _ _ => ?_)
  apply canon_tickTT
  assumption

theorem sound_execPipeRotation {s : State} (h : State.Canon s) (l : LaneId) : Sound (execPipeRotation l s) := by
  unfold execPipeRotation
  refine sound_onLane ‹_› (fun _ _ => ?_)
  apply canon_rotatePipe
  assumption

theorem sound_execSlotIssue {s : State} (h : State.Canon s) (l : LaneId) (n : Fin 128) (residueFails : Bool) : Sound (execSlotIssue l n residueFails s) := by
  unfold execSlotIssue
  refine sound_onLane ‹_› (fun _ _ => ?_)
  apply canon_issue
  assumption

theorem sound_execAutotune {s : State} (h : State.Canon s) (l : LaneId) : Sound (execAutotune l s) := by
  unfold execAutotune
  refine sound_onLane ‹_› (fun _ _ => ?_)
  apply canon_withDesc
  assumption
  intro _
  intro _
  intro _
  intro _
  split
  apply canon_autotune
  assumption
  assumption

theorem sound_execTuneEnd {s : State} (h : State.Canon s) (l : LaneId) (n : Fin 128) : Sound (execTuneEnd l n s) := by
  unfold execTuneEnd
  apply sound_next
  split
  assumption
  refine canonS_ite (fun _ => ?_) (fun _ => ?_)
  apply canonS_endTune
  assumption
  assumption

theorem sound_execTuneTimeout {s : State} (h : State.Canon s) (l : LaneId) (n : Fin 128) : Sound (execTuneTimeout l n s) := by
  unfold execTuneTimeout
  refine sound_onLane ‹_› (fun _ _ => ?_)
  lift_lets
  intro x1
  clear_value x1
  split
  assumption
  refine canon_ite (fun _ => ?_) (fun _ => ?_)
  apply canon_tuneAbort
  assumption
  assumption

theorem sound_execObsReacqTimeout {s : State} (h : State.Canon s) (l : LaneId) (ch : Fin 8) : Sound (execObsReacqTimeout l ch s) := by
  unfold execObsReacqTimeout
  refine sound_onLane ‹_› (fun _ _ => ?_)
  apply canon_reacqTimeout
  assumption

theorem sound_execStartupContactorReady {s : State} (h : State.Canon s) (l : LaneId) (ch : Fin 8) : Sound (execStartupContactorReady l ch s) := by
  unfold execStartupContactorReady
  refine sound_onLane ‹_› (fun _ _ => ?_)
  apply canon_contactorReady
  assumption

theorem sound_execScanStep {s : State} (h : State.Canon s) (l : LaneId) (ch : Fin 8) (u v w : BitVec 72) : Sound (execScanStep l ch u v w s) := by
  unfold execScanStep
  apply sound_next
  apply canonS_scanStepExec
  assumption

theorem sound_execBootstrapChargeDone {s : State} (h : State.Canon s) (l : LaneId) (ch : Fin 8) : Sound (execBootstrapChargeDone l ch s) := by
  unfold execBootstrapChargeDone
  refine sound_onLane ‹_› (fun _ _ => ?_)
  apply canon_chargeDone
  assumption

theorem sound_execAngleAcquisitionStart {s : State} (h : State.Canon s) (l : LaneId) (ch : Fin 8) : Sound (execAngleAcquisitionStart l ch s) := by
  unfold execAngleAcquisitionStart
  apply sound_next
  lift_lets
  intro x1
  have h1 : Canon l x1 := by
    unfold x1
    apply canon_state_lane
    assumption
  clear_value x1
  refine canonS_ite (fun _ => ?_) (fun _ => ?_)
  apply canonS_setLane
  assumption
  apply canon_acquire
  assumption
  assumption

theorem sound_execAlignHoldExpired {s : State} (h : State.Canon s) (l : LaneId) (ch : Fin 8) : Sound (execAlignHoldExpired l ch s) := by
  unfold execAlignHoldExpired
  refine sound_onLane ‹_› (fun _ _ => ?_)
  apply canon_alignEnd
  assumption

theorem sound_execAlignSearchExhausted {s : State} (h : State.Canon s) (l : LaneId) (ch : Fin 8) : Sound (execAlignSearchExhausted l ch s) := by
  unfold execAlignSearchExhausted
  refine sound_onLane ‹_› (fun _ _ => ?_)
  apply canon_searchFails
  assumption

theorem sound_execAcquisitionEnd {s : State} (h : State.Canon s) (l : LaneId) (ch : Fin 8) : Sound (execAcquisitionEnd l ch s) := by
  unfold execAcquisitionEnd
  apply sound_next
  lift_lets
  intro x1
  have h1 : Canon l x1 := by
    unfold x1
    apply canon_state_lane
    assumption
  clear_value x1
  refine canonS_ite (fun _ => ?_) (fun _ => ?_)
  apply canonS_setLane
  assumption
  apply canon_setStep
  assumption
  assumption

theorem sound_execChannelStartupBoundary {s : State} (h : State.Canon s) (l : LaneId) (ch : Fin 8) : Sound (execChannelStartupBoundary l ch s) := by
  unfold execChannelStartupBoundary
  apply sound_next
  lift_lets
  intro x1
  have h1 : Canon l x1 := by
    unfold x1
    apply canon_state_lane
    assumption
  clear_value x1
  refine canonS_ite (fun _ => ?_) (fun _ => ?_)
  apply canonS_setLane
  assumption
  apply canon_startBoundary
  assumption
  assumption

theorem sound_execChannelStartupComplete {s : State} (h : State.Canon s) (l : LaneId) (ch : Fin 8) : Sound (execChannelStartupComplete l ch s) := by
  unfold execChannelStartupComplete
  apply sound_next
  lift_lets
  intro x1
  have h1 : Canon l x1 := by
    unfold x1
    apply canon_state_lane
    assumption
  clear_value x1
  refine canonS_ite (fun _ => ?_) (fun _ => ?_)
  apply canonS_setLane
  assumption
  apply canon_startComplete
  assumption
  assumption

theorem sound_execStartTimeout {s : State} (h : State.Canon s) (l : LaneId) (ch : Fin 8) : Sound (execStartTimeout l ch s) := by
  unfold execStartTimeout
  refine sound_onLane ‹_› (fun _ _ => ?_)
  apply canon_startTimeout
  assumption

theorem sound_execChannelShutdownComplete {s : State} (h : State.Canon s) (l : LaneId) (ch : Fin 8) : Sound (execChannelShutdownComplete l ch s) := by
  unfold execChannelShutdownComplete
  apply sound_next
  apply canonS_shutdownComplete
  assumption

theorem sound_execShutdownOverrun {s : State} (h : State.Canon s) (l : LaneId) (ch : Fin 8) : Sound (execShutdownOverrun l ch s) := by
  unfold execShutdownOverrun
  refine sound_onLane ‹_› (fun _ _ => ?_)
  apply canon_shutdownOverrun
  assumption

theorem sound_execChannelModeEnable {s : State} (h : State.Canon s) (l : LaneId) : Sound (execChannelModeEnable l s) := by
  unfold execChannelModeEnable
  apply sound_next
  apply canonS_modeExec
  assumption

theorem sound_execChannelModeTune {s : State} (h : State.Canon s) (l : LaneId) : Sound (execChannelModeTune l s) := by
  unfold execChannelModeTune
  apply sound_next
  apply canonS_modeExec
  assumption

theorem sound_execChannelModeDisable {s : State} (h : State.Canon s) (l : LaneId) : Sound (execChannelModeDisable l s) := by
  unfold execChannelModeDisable
  apply sound_next
  apply canonS_modeExec
  assumption

theorem sound_execSafeResetChannel {s : State} (h : State.Canon s) (l : LaneId) : Sound (execSafeResetChannel l s) := by
  unfold execSafeResetChannel
  refine sound_onLane ‹_› (fun _ _ => ?_)
  apply canon_withDesc
  assumption
  intro _
  intro _
  intro _
  intro _
  split
  apply canon_state_channelReset
  assumption
  assumption

theorem sound_execReversalRelease {s : State} (h : State.Canon s) (l : LaneId) (ch : Fin 8) : Sound (execReversalRelease l ch s) := by
  unfold execReversalRelease
  refine sound_onLane ‹_› (fun _ _ => ?_)
  apply canon_releaseHold
  assumption

theorem sound_execReversalStall {s : State} (h : State.Canon s) (l : LaneId) (ch : Fin 8) : Sound (execReversalStall l ch s) := by
  unfold execReversalStall
  refine sound_onLane ‹_› (fun _ _ => ?_)
  apply canon_reversalStall
  assumption

theorem sound_execOverspeed {s : State} (h : State.Canon s) (l : LaneId) (ch : Fin 8) : Sound (execOverspeed l ch s) := by
  unfold execOverspeed
  refine sound_onLane ‹_› (fun _ _ => ?_)
  apply canon_overspeed
  assumption

theorem sound_execSiLevelChange {s : State} (h : State.Canon s) (l : LaneId) (i : Fin 20) (change : RawLevel) : Sound (execSiLevelChange l i change s) := by
  unfold execSiLevelChange
  refine sound_onLane ‹_› (fun _ _ => ?_)
  apply canon_siChange
  assumption

theorem sound_execTpWindowStart {s : State} (h : State.Canon s) (l : LaneId) (t : Fin 4) : Sound (execTpWindowStart l t s) := by
  unfold execTpWindowStart
  apply sound_next
  apply canonS_tpStart
  assumption

theorem sound_execTpWindowMidpoint {s : State} (h : State.Canon s) (l : LaneId) (t : Fin 4) : Sound (execTpWindowMidpoint l t s) := by
  unfold execTpWindowMidpoint
  refine sound_onLane ‹_› (fun _ _ => ?_)
  apply canon_tpMid
  assumption

theorem sound_execTpWindowEnd {s : State} (h : State.Canon s) (l : LaneId) (t : Fin 4) : Sound (execTpWindowEnd l t s) := by
  unfold execTpWindowEnd
  apply sound_next
  split
  · assumption
  refine canonS_foldl ?_ (fun s1 j1 hs1 => ?_)
  assumption
  apply canonS_setLane
  assumption
  apply canon_tpEnd
  apply canon_state_lane
  assumption

theorem sound_execTpFault {s : State} (h : State.Canon s) (l : LaneId) (t : Fin 4) : Sound (execTpFault l t s) := by
  unfold execTpFault
  refine sound_onLane ‹_› (fun _ _ => ?_)
  apply canon_tpFault
  assumption

theorem sound_execSafetyXchgReceive {s : State} (h : State.Canon s) (l : LaneId) (src : Arrival) (words : List Dword) : Sound (execSafetyXchgReceive l src words s) := by
  unfold execSafetyXchgReceive
  refine sound_onReceive ‹_› (fun _ _ => ?_)
  apply canon_xchgReceive
  assumption

theorem sound_execSafetyInputsLost {s : State} (h : State.Canon s) (l : LaneId) (peer : LaneId) : Sound (execSafetyInputsLost l peer s) := by
  unfold execSafetyInputsLost
  refine sound_onLane ‹_› (fun _ _ => ?_)
  refine canon_ite (fun _ => ?_) (fun _ => ?_)
  assumption
  apply canon_inputsLost
  assumption

theorem sound_execDiscrepancy {s : State} (h : State.Canon s) (l : LaneId) (f : Fin 16) (pair : Fin 2) : Sound (execDiscrepancy l f pair s) := by
  unfold execDiscrepancy
  refine sound_onLane ‹_› (fun _ _ => ?_)
  apply canon_discrepancy
  assumption

theorem sound_execSyncExceeded {s : State} (h : State.Canon s) (l : LaneId) (f : Fin 16) : Sound (execSyncExceeded l f s) := by
  unfold execSyncExceeded
  refine sound_onLane ‹_› (fun _ _ => ?_)
  apply canon_syncExceeded
  assumption

theorem sound_execSfPermitGrant {s : State} (h : State.Canon s) (l : LaneId) (f : Fin 16) : Sound (execSfPermitGrant l f s) := by
  unfold execSfPermitGrant
  refine sound_onLane ‹_› (fun _ _ => ?_)
  apply canon_permit
  assumption

theorem sound_execEdmConfirm {s : State} (h : State.Canon s) (l : LaneId) (k : Fin 8) : Sound (execEdmConfirm l k s) := by
  unfold execEdmConfirm
  refine sound_onLane ‹_› (fun _ _ => ?_)
  refine canon_ite (fun _ => ?_) (fun _ => ?_)
  apply canon_edmConfirm
  assumption
  assumption

theorem sound_execEdmFault {s : State} (h : State.Canon s) (l : LaneId) (k : Fin 8) : Sound (execEdmFault l k s) := by
  unfold execEdmFault
  refine sound_onLane ‹_› (fun _ _ => ?_)
  apply canon_edmFault
  assumption

theorem sound_execSoTestStart {s : State} (h : State.Canon s) (l : LaneId) (k : Fin 8) : Sound (execSoTestStart l k s) := by
  unfold execSoTestStart
  refine sound_onLane ‹_› (fun _ _ => ?_)
  apply canon_soTest
  assumption

theorem sound_execSoTestRetry {s : State} (h : State.Canon s) (l : LaneId) (k : Fin 8) : Sound (execSoTestRetry l k s) := by
  unfold execSoTestRetry
  refine sound_onLane ‹_› (fun _ _ => ?_)
  refine canon_ite (fun _ => ?_) (fun _ => ?_)
  apply canon_soTest
  assumption
  assumption

theorem sound_execSoTestEnd {s : State} (h : State.Canon s) (l : LaneId) (k : Fin 8) (readbackOk : Bool) : Sound (execSoTestEnd l k readbackOk s) := by
  unfold execSoTestEnd
  refine sound_onLane ‹_› (fun _ _ => ?_)
  apply canon_soTestEnd
  assumption

theorem sound_execSoOverload {s : State} (h : State.Canon s) (l : LaneId) (k : Fin 8) : Sound (execSoOverload l k s) := by
  unfold execSoOverload
  refine sound_onLane ‹_› (fun _ _ => ?_)
  refine canon_ite (fun _ => ?_) (fun _ => ?_)
  apply canon_soLatch
  assumption
  assumption

theorem sound_execSafeResetSafetyFunction {s : State} (h : State.Canon s) (l : LaneId) : Sound (execSafeResetSafetyFunction l s) := by
  unfold execSafeResetSafetyFunction
  refine sound_onLane ‹_› (fun _ _ => ?_)
  apply canon_withDesc
  assumption
  intro _
  intro _
  intro _
  intro _
  split
  apply canon_state_safetyReset
  assumption
  assumption

theorem sound_execPeerAliveStop {s : State} (h : State.Canon s) (l : LaneId) (peer : LaneId) : Sound (execPeerAliveStop l peer s) := by
  unfold execPeerAliveStop
  refine sound_onLane ‹_› (fun _ _ => ?_)
  apply canon_aliveStop
  assumption

theorem sound_execAttributionEnd {s : State} (h : State.Canon s) (l : LaneId) (found : Bool) : Sound (execAttributionEnd l found s) := by
  unfold execAttributionEnd
  refine sound_onLane ‹_› (fun _ _ => ?_)
  apply canon_attributionEnd
  assumption

theorem sound_execAttribReceive {s : State} (h : State.Canon s) (l : LaneId) (src : Arrival) : Sound (execAttribReceive l src s) := by
  unfold execAttribReceive
  refine sound_onReceive ‹_› (fun _ _ => ?_)
  apply canon_excludePeer
  refine canon_mk ?_ rfl rfl rfl
  assumption

theorem sound_execCycleFrameReceive {s : State} (h : State.Canon s) (l : LaneId) (sender : LaneId) (frame : CycleFrame) (tail : FrameTail) : Sound (execCycleFrameReceive l sender frame tail s) := by
  unfold execCycleFrameReceive
  apply sound_next
  apply canonS_cycleFrameReceive
  assumption

theorem sound_execFrameRetransmit {s : State} (h : State.Canon s) (l : LaneId) : Sound (execFrameRetransmit l s) := by
  unfold execFrameRetransmit
  refine sound_onLane ‹_› (fun _ _ => ?_)
  apply canon_retransmit
  assumption

theorem sound_execLinkLossReceive {s : State} (h : State.Canon s) (l : LaneId) (src : Arrival) (lost : LaneId) : Sound (execLinkLossReceive l src lost s) := by
  unfold execLinkLossReceive
  refine sound_onReceive ‹_› (fun _ _ => ?_)
  apply canon_lossReceive
  assumption

theorem sound_execProofResultReceive {s : State} (h : State.Canon s) (l : LaneId) (src : Arrival) (injector : LaneId) (disagreeing : Bool) : Sound (execProofResultReceive l src injector disagreeing s) := by
  unfold execProofResultReceive
  refine sound_onReceive ‹_› (fun _ _ => ?_)
  apply canon_proofResult
  assumption

theorem sound_execVoteCompute {s : State} (h : State.Canon s) (l : LaneId) : Sound (execVoteCompute l s) := by
  unfold execVoteCompute
  refine sound_onLane ‹_› (fun _ _ => ?_)
  apply canon_voteCompute
  assumption

theorem sound_execControlledStopEnd {s : State} (h : State.Canon s) (l : LaneId) : Sound (execControlledStopEnd l s) := by
  unfold execControlledStopEnd
  refine sound_onLane ‹_› (fun _ _ => ?_)
  apply canon_stopsEnd
  assumption

theorem sound_execStopTmaxExpired {s : State} (h : State.Canon s) (l : LaneId) : Sound (execStopTmaxExpired l s) := by
  unfold execStopTmaxExpired
  refine sound_onLane ‹_› (fun _ _ => ?_)
  apply canon_stopsEnd
  assumption

theorem sound_execTimeCounter {s : State} (h : State.Canon s) (l : LaneId) : Sound (execTimeCounter l s) := by
  unfold execTimeCounter
  refine sound_onLane ‹_› (fun _ _ => ?_)
  apply canon_fault
  assumption

theorem sound_execTimeStep {s : State} (h : State.Canon s) (l : LaneId) : Sound (execTimeStep l s) := by
  unfold execTimeStep
  refine sound_onLane ‹_› (fun _ _ => ?_)
  apply canon_timeStep
  assumption

theorem sound_execAnnounceReceive {s : State} (h : State.Canon s) (l : LaneId) (blue : Bool) (rank : Nat) (gmId : Dword) : Sound (execAnnounceReceive l blue rank gmId s) := by
  unfold execAnnounceReceive
  refine sound_onLane ‹_› (fun _ _ => ?_)
  apply canon_announce
  assumption

theorem sound_execPtpSyncReceive {s : State} (h : State.Canon s) (l : LaneId) (blue : Bool) (offset : Int) : Sound (execPtpSyncReceive l blue offset s) := by
  unfold execPtpSyncReceive
  refine sound_onLane ‹_› (fun _ _ => ?_)
  apply canon_syncReceive
  assumption

theorem sound_execGmLost {s : State} (h : State.Canon s) (l : LaneId) : Sound (execGmLost l s) := by
  unfold execGmLost
  refine sound_onLane ‹_› (fun _ _ => ?_)
  apply canon_gmLost
  assumption

theorem sound_execTimeComparison {s : State} (h : State.Canon s) (l : LaneId) : Sound (execTimeComparison l s) := by
  unfold execTimeComparison
  refine sound_onLane ‹_› (fun _ _ => ?_)
  apply canon_timeComparison
  assumption

theorem sound_execTimeCmpReceive {s : State} (h : State.Canon s) (l : LaneId) (src : Arrival) (t32 : Bool) (source : BitVec 3) (stepReady : Bool) (locked : Bool) (ns : Word) (sec : Word) : Sound (execTimeCmpReceive l src t32 source stepReady locked ns sec s) := by
  unfold execTimeCmpReceive
  refine sound_onReceive ‹_› (fun _ _ => ?_)
  apply canon_timeCmp
  assumption

theorem sound_execHoldoverExpired {s : State} (h : State.Canon s) (l : LaneId) : Sound (execHoldoverExpired l s) := by
  unfold execHoldoverExpired
  refine sound_onLane ‹_› (fun _ _ => ?_)
  apply canon_holdoverExpired
  assumption

theorem sound_execCompareUnit {s : State} (h : State.Canon s) (l : LaneId) (c : Fin 4) : Sound (execCompareUnit l c s) := by
  unfold execCompareUnit
  refine sound_onLane ‹_› (fun _ _ => ?_)
  apply canon_compareUnit
  assumption

theorem sound_execPortLinkDown {s : State} (h : State.Canon s) (l : LaneId) (port : Fin 4) : Sound (execPortLinkDown l port s) := by
  unfold execPortLinkDown
  refine sound_onLane ‹_› (fun _ _ => ?_)
  apply canon_linkChange
  assumption

theorem sound_execPortDrainTimeout {s : State} (h : State.Canon s) (l : LaneId) (port : Fin 4) : Sound (execPortDrainTimeout l port s) := by
  unfold execPortDrainTimeout
  refine sound_onLane ‹_› (fun _ _ => ?_)
  apply canon_drainPort
  assumption

theorem sound_execQbvGateEntry {s : State} (h : State.Canon s) (l : LaneId) (port : Fin 4) : Sound (execQbvGateEntry l port s) := by
  unfold execQbvGateEntry
  refine sound_onLane ‹_› (fun _ _ => ?_)
  apply canon_gateEntry
  assumption

theorem sound_execEthFrameReceive {s : State} (h : State.Canon s) (l : LaneId) (port : Fin 4) (frame : EthFrame) : Sound (execEthFrameReceive l port frame s) := by
  unfold execEthFrameReceive
  refine sound_onLane ‹_› (fun _ _ => ?_)
  apply canon_ethReceive
  assumption

theorem sound_execBridgeAgeOut {s : State} (h : State.Canon s) (l : LaneId) (blue : Bool) (mac : BitVec 48) : Sound (execBridgeAgeOut l blue mac s) := by
  unfold execBridgeAgeOut
  refine sound_onLane ‹_› (fun _ _ => ?_)
  apply canon_setNet
  assumption

theorem sound_execPdelayReq {s : State} (h : State.Canon s) (l : LaneId) (port : Fin 4) (seq : BitVec 16) (residence : Nat) : Sound (execPdelayReq l port seq residence s) := by
  unfold execPdelayReq
  refine sound_onLane ‹_› (fun _ _ => ?_)
  refine canon_ite (fun _ => ?_) (fun _ => ?_)
  apply canon_egress
  assumption
  assumption

theorem sound_execGrandmasterSync {s : State} (h : State.Canon s) (l : LaneId) : Sound (execGrandmasterSync l s) := by
  unfold execGrandmasterSync
  refine sound_onLane ‹_› (fun _ _ => ?_)
  apply canon_grandmaster
  assumption

theorem sound_execFleetCopyReceive {s : State} (h : State.Canon s) (l : LaneId) (src : Arrival) (record : List Byte) : Sound (execFleetCopyReceive l src record s) := by
  unfold execFleetCopyReceive
  refine sound_onReceive ‹_› (fun _ _ => ?_)
  apply canon_fleetRecord
  assumption

theorem sound_execFleetStopApply {s : State} (h : State.Canon s) (l : LaneId) : Sound (execFleetStopApply l s) := by
  unfold execFleetStopApply
  refine sound_onLane ‹_› (fun _ _ => ?_)
  apply canon_fleetApply
  assumption

theorem sound_execFleetStopExpire {s : State} (h : State.Canon s) (l : LaneId) : Sound (execFleetStopExpire l s) := by
  unfold execFleetStopExpire
  refine sound_onLane ‹_› (fun _ _ => ?_)
  apply canon_fleetExpire
  assumption

theorem sound_execYwSkewExpired {st : State} (h : State.Canon st) (l : LaneId) (s : Fin 2) : Sound (execYwSkewExpired l s st) := by
  unfold execYwSkewExpired
  apply sound_next
  apply canonS_skewExpired
  assumption

theorem sound_execYwPoll {s : State} (h : State.Canon s) (l : LaneId) (blue : Bool) (frame : List Byte) : Sound (execYwPoll l blue frame s) := by
  unfold execYwPoll
  apply sound_next
  apply canonS_ywReceive
  assumption

theorem sound_execYwFleetFrame {s : State} (h : State.Canon s) (l : LaneId) (blue : Bool) (frame : List Byte) : Sound (execYwFleetFrame l blue frame s) := by
  unfold execYwFleetFrame
  apply sound_next
  apply canonS_ywReceive
  assumption

theorem sound_execYwRxReceive {st : State} (h : State.Canon st) (l : LaneId) (src : Arrival) (s : Fin 2) (_single : Bool) (words : List Dword) : Sound (execYwRxReceive l src s _single words st) := by
  unfold execYwRxReceive
  refine sound_onReceive ‹_› (fun _ _ => ?_)
  apply canon_ywRx
  assumption

theorem sound_execYwAnswerSend {st : State} (h : State.Canon st) (l : LaneId) (s : Fin 2) : Sound (execYwAnswerSend l s st) := by
  unfold execYwAnswerSend
  refine sound_onLane ‹_› (fun _ _ => ?_)
  apply canon_answerSend
  assumption

theorem sound_execYwKeyInit {st : State} (h : State.Canon st) (l : LaneId) (blue : Bool) (s : Fin 2) (frame : List Byte) : Sound (execYwKeyInit l blue s frame st) := by
  unfold execYwKeyInit
  refine sound_onLane ‹_› (fun _ _ => ?_)
  apply canon_keyInit
  assumption

theorem sound_execYwKeyReceive {st : State} (h : State.Canon st) (l : LaneId) (src : Arrival) (s : Fin 2) (sid : Word) (keys : List Dword) : Sound (execYwKeyReceive l src s sid keys st) := by
  unfold execYwKeyReceive
  lift_lets
  intro x1
  clear_value x1
  refine sound_onReceive ‹_› (fun _ _ => ?_)
  apply canon_ywKeying
  assumption

theorem sound_execYwKeyConfirm {st : State} (h : State.Canon st) (l : LaneId) (blue : Bool) (s : Fin 2) (frame : List Byte) : Sound (execYwKeyConfirm l blue s frame st) := by
  unfold execYwKeyConfirm
  apply sound_next
  apply canonS_keyConfirm
  assumption

theorem sound_execYwCommandApply {s : State} (h : State.Canon s) (l : LaneId) : Sound (execYwCommandApply l s) := by
  unfold execYwCommandApply
  refine sound_onLane ‹_› (fun _ _ => ?_)
  apply canon_commandApply
  assumption

theorem sound_execNetLost {s : State} (h : State.Canon s) (l : LaneId) (blue : Bool) : Sound (execNetLost l blue s) := by
  unfold execNetLost
  apply sound_next
  apply canonS_netLost
  assumption

theorem sound_execCanFrameReceive {s : State} (h : State.Canon s) (l : LaneId) (can : Fin 2) (f : CanFrame) : Sound (execCanFrameReceive l can f s) := by
  unfold execCanFrameReceive
  refine sound_onLane ‹_› (fun _ _ => ?_)
  apply canon_canReceive
  assumption

theorem sound_execCanTxObject {s : State} (h : State.Canon s) (l : LaneId) (can : Fin 2) (obj : Fin 16) : Sound (execCanTxObject l can obj s) := by
  unfold execCanTxObject
  refine sound_onLane ‹_› (fun _ _ => ?_)
  apply canon_canSend
  assumption

theorem sound_execCanBusOff {s : State} (h : State.Canon s) (l : LaneId) (can : Fin 2) : Sound (execCanBusOff l can s) := by
  unfold execCanBusOff
  refine sound_onLane ‹_› (fun _ _ => ?_)
  apply canon_busOff
  assumption

theorem sound_execBusOffRecovery {s : State} (h : State.Canon s) (l : LaneId) (can : Fin 2) : Sound (execBusOffRecovery l can s) := by
  unfold execBusOffRecovery
  refine sound_onLane ‹_› (fun _ _ => ?_)
  apply canon_busRecovery
  assumption

theorem sound_execProofXchgReceive {s : State} (h : State.Canon s) (l : LaneId) (src : Arrival) (words : List Dword) : Sound (execProofXchgReceive l src words s) := by
  unfold execProofXchgReceive
  refine sound_onReceive ‹_› (fun _ _ => ?_)
  apply canon_proofXchg
  assumption

theorem sound_execOnlineProofStart {s : State} (h : State.Canon s) (l : LaneId) (cls : Fin 6) : Sound (execOnlineProofStart l cls s) := by
  unfold execOnlineProofStart
  refine sound_onLane ‹_› (fun _ _ => ?_)
  apply canon_proofStart
  assumption

theorem sound_execOnlineProofEnd {s : State} (h : State.Canon s) (l : LaneId) (cls : Fin 6) (passed : Bool) (coverage : BitVec 10) (duration : BitVec 16) : Sound (execOnlineProofEnd l cls passed coverage duration s) := by
  unfold execOnlineProofEnd
  refine sound_onLane ‹_› (fun _ _ => ?_)
  apply canon_proofEnd
  assumption

theorem sound_execProofOverdue {s : State} (h : State.Canon s) (l : LaneId) (cls : Fin 6) (region : Byte) : Sound (execProofOverdue l cls region s) := by
  unfold execProofOverdue
  refine sound_onLane ‹_› (fun _ _ => ?_)
  apply canon_proofOverdue
  assumption

theorem sound_execProofReq {s : State} (h : State.Canon s) (l : LaneId) : Sound (execProofReq l s) := by
  unfold execProofReq
  refine sound_onLane ‹_› (fun _ _ => ?_)
  apply canon_withDesc
  assumption
  intro _
  intro _
  intro _
  intro _
  split
  apply canon_proofReq
  assumption
  assumption

theorem sound_execOscXcheck {s : State} (h : State.Canon s) (l : LaneId) (ppm0 : Int) (ppm1 : Int) (ppmK32 : Int) : Sound (execOscXcheck l ppm0 ppm1 ppmK32 s) := by
  unfold execOscXcheck
  refine sound_onLane ‹_› (fun _ _ => ?_)
  apply canon_oscXcheck
  assumption

theorem sound_execBackgroundLag {s : State} (h : State.Canon s) (l : LaneId) (a : Fin 8) : Sound (execBackgroundLag l a s) := by
  unfold execBackgroundLag
  refine sound_onLane ‹_› (fun _ _ => ?_)
  apply canon_bgLag
  assumption

theorem sound_execBackgroundStarved {s : State} (h : State.Canon s) (l : LaneId) (a : Fin 8) : Sound (execBackgroundStarved l a s) := by
  unfold execBackgroundStarved
  refine sound_onLane ‹_› (fun _ _ => ?_)
  apply canon_bgStarved
  assumption

theorem sound_execSramScrub {s : State} (h : State.Canon s) (l : LaneId) (bank : Fin 9) (cycle : ScrubCycle) : Sound (execSramScrub l bank cycle s) := by
  unfold execSramScrub
  refine sound_onLane ‹_› (fun _ _ => ?_)
  apply canon_scrub
  assumption

theorem sound_execNvmPageRead {s : State} (h : State.Canon s) (l : LaneId) (block : Byte) (corrected : Nat) (ok : Bool) : Sound (execNvmPageRead l block corrected ok s) := by
  unfold execNvmPageRead
  refine sound_onLane ‹_› (fun _ _ => ?_)
  apply canon_pageRead
  assumption

theorem sound_execNvmRefresh {s : State} (h : State.Canon s) (l : LaneId) : Sound (execNvmRefresh l s) := by
  unfold execNvmRefresh
  refine sound_onLane ‹_› (fun _ _ => ?_)
  apply canon_nvmRefresh
  assumption

theorem sound_execNvmWear {s : State} (h : State.Canon s) (l : LaneId) : Sound (execNvmWear l s) := by
  unfold execNvmWear
  refine sound_onLane ‹_› (fun _ _ => ?_)
  apply canon_nvmWear
  assumption

theorem sound_execTelemetrySample {s : State} (h : State.Canon s) (l : LaneId) (logic : Int) (gd0 : Int) (gd1 : Int) (vin : Nat) (vgd : Nat) (vio : Nat) : Sound (execTelemetrySample l logic gd0 gd1 vin vgd vio s) := by
  unfold execTelemetrySample
  refine sound_onLane ‹_› (fun _ _ => ?_)
  apply canon_telSample
  assumption

theorem sound_execTelemetrySave {s : State} (h : State.Canon s) (l : LaneId) : Sound (execTelemetrySave l s) := by
  unfold execTelemetrySave
  refine sound_onLane ‹_› (fun _ _ => ?_)
  apply canon_telSaveDue
  assumption

theorem sound_execTelemetryBatch {s : State} (h : State.Canon s) (l : LaneId) : Sound (execTelemetryBatch l s) := by
  unfold execTelemetryBatch
  refine sound_onLane ‹_› (fun _ _ => ?_)
  apply canon_telBatch
  assumption

theorem sound_execBulkTelemetryCopy {s : State} (h : State.Canon s) (l : LaneId) (src : Arrival) (bytes : List Byte) : Sound (execBulkTelemetryCopy l src bytes s) := by
  unfold execBulkTelemetryCopy
  refine sound_onReceiveN ‹_› (fun _ _ => ?_)
  apply canon_telSettle
  apply canon_setMem
  assumption

theorem sound_execQuoin {s : State} (h : State.Canon s) (l : LaneId) (key : Word) : Sound (execQuoin l key s) := by
  unfold execQuoin
  refine sound_onBar ‹_› (fun _ _ => ?_)
  apply canon_quoinWrite
  assumption

theorem sound_execMacsecSakWrite {s : State} (h : State.Canon s) (l : LaneId) (net : Fin 2) (port : Fin 2) (n : Fin 4) (value : Word) : Sound (execMacsecSakWrite l net port n value s) := by
  unfold execMacsecSakWrite
  refine sound_onBar ‹_› (fun _ _ => ?_)
  apply canon_sakWrite
  assumption

theorem sound_execRegisterWrite {s : State} (h : State.Canon s) (l : LaneId) (off : Nat) (value : Word) : Sound (execRegisterWrite l off value s) := by
  unfold execRegisterWrite
  refine sound_onBar ‹_› (fun _ _ => ?_)
  refine canon_ite (fun _ => ?_) (fun _ => ?_)
  apply canon_otherWrite
  assumption
  refine canon_ite (fun _ => ?_) (fun _ => ?_)
  apply canon_quoinWrite
  assumption
  split
  apply canon_sakWrite
  assumption
  apply canon_registerWrite
  assumption

theorem sound_execConfigCommit {s : State} (h : State.Canon s) (l : LaneId) : Sound (execConfigCommit l s) := by
  unfold execConfigCommit
  refine sound_onLane ‹_› (fun _ _ => ?_)
  apply canon_withDesc
  assumption
  intro _
  intro _
  intro _
  intro _
  split
  lift_lets
  intro x1
  clear_value x1
  apply canon_permittedSession
  assumption
  intro _
  intro _
  apply canon_commitStart
  assumption
  assumption

theorem sound_execCommitReadyCheck {s : State} (h : State.Canon s) (l : LaneId) : Sound (execCommitReadyCheck l s) := by
  unfold execCommitReadyCheck
  refine sound_onLane ‹_› (fun _ _ => ?_)
  apply canon_readyCheck
  assumption

theorem sound_execCommitRecordReceive {s : State} (h : State.Canon s) (l : LaneId) (src : Arrival) (kind : Fin 4) (reason : Byte) (payload : Dword) : Sound (execCommitRecordReceive l src kind reason payload s) := by
  unfold execCommitRecordReceive
  refine sound_onReceive ‹_› (fun _ _ => ?_)
  apply canon_setPeer
  assumption

theorem sound_execCommitReadyDeadline {s : State} (h : State.Canon s) (l : LaneId) : Sound (execCommitReadyDeadline l s) := by
  unfold execCommitReadyDeadline
  refine sound_onLane ‹_› (fun _ _ => ?_)
  apply canon_readyDeadline
  assumption

theorem sound_execCommitDecisionDeadline {s : State} (h : State.Canon s) (l : LaneId) : Sound (execCommitDecisionDeadline l s) := by
  unfold execCommitDecisionDeadline
  refine sound_onLane ‹_› (fun _ _ => ?_)
  apply canon_decisionDeadline
  assumption

theorem sound_execCommitEpoch {s : State} (h : State.Canon s) (l : LaneId) : Sound (execCommitEpoch l s) := by
  unfold execCommitEpoch
  refine sound_onLane ‹_› (fun _ _ => ?_)
  apply canon_epoch
  assumption

theorem sound_execFwVerifyComplete {s : State} (h : State.Canon s) (l : LaneId) : Sound (execFwVerifyComplete l s) := by
  unfold execFwVerifyComplete
  apply sound_next
  apply canonS_fwVerified
  assumption

theorem sound_execHostBufferRead {s : State} (h : State.Canon s) (l : LaneId) (read : Transfer) : Sound (execHostBufferRead l read s) := by
  unfold execHostBufferRead
  apply sound_next
  apply canonS_hostBufferRead
  assumption

theorem sound_execBulkHostBufferCopy {s : State} (h : State.Canon s) (l : LaneId) (src : Arrival) (bytes : List Byte) : Sound (execBulkHostBufferCopy l src bytes s) := by
  unfold execBulkHostBufferCopy
  lift_lets
  intro x1
  have h1 : Canon l x1 := by
    unfold x1
    apply canon_state_lane
    assumption
  clear_value x1
  apply sound_next
  refine canonS_ite (fun _ => ?_) (fun _ => ?_)
  apply canonS_hostBufferCopy
  apply canonS_setLane
  assumption
  apply canon_heard
  assumption
  assumption

theorem sound_execConfigStage {s : State} (h : State.Canon s) (l : LaneId) : Sound (execConfigStage l s) := by
  unfold execConfigStage
  refine sound_onLane ‹_› (fun _ _ => ?_)
  apply canon_withDesc
  assumption
  intro _
  intro _
  intro _
  intro _
  apply canon_permittedSession
  assumption
  intro _
  intro _
  apply canon_awaitBuffer
  assumption

theorem sound_execFwStage {s : State} (h : State.Canon s) (l : LaneId) : Sound (execFwStage l s) := by
  unfold execFwStage
  refine sound_onLane ‹_› (fun _ _ => ?_)
  apply canon_withDesc
  assumption
  intro _
  intro _
  intro _
  intro _
  apply canon_permittedSession
  assumption
  intro _
  intro _
  apply canon_awaitBuffer
  assumption

theorem sound_execFleetKey {s : State} (h : State.Canon s) (l : LaneId) : Sound (execFleetKey l s) := by
  unfold execFleetKey
  refine sound_onLane ‹_› (fun _ _ => ?_)
  apply canon_withDesc
  assumption
  intro _
  intro _
  intro _
  intro _
  split
  apply canon_permittedSession
  assumption
  intro _
  intro _
  apply canon_awaitBuffer
  assumption
  assumption

theorem sound_execBulkReportCopy {s : State} (h : State.Canon s) (l : LaneId) (src : Arrival) (bytes : List Byte) : Sound (execBulkReportCopy l src bytes s) := by
  unfold execBulkReportCopy
  lift_lets
  intro x1
  have h1 : Canon l x1 := by
    unfold x1
    apply canon_state_lane
    assumption
  clear_value x1
  apply sound_next
  refine canonS_ite (fun _ => ?_) (fun _ => ?_)
  apply canonS_reportCopy
  apply canonS_setLane
  assumption
  apply canon_heard
  assumption
  assumption

theorem sound_execLogRead {s : State} (h : State.Canon s) (l : LaneId) : Sound (execLogRead l s) := by
  unfold execLogRead
  apply sound_next
  apply canonS_reportDesc
  assumption

theorem sound_execAttest {s : State} (h : State.Canon s) (l : LaneId) : Sound (execAttest l s) := by
  unfold execAttest
  apply sound_next
  apply canonS_reportDesc
  assumption

theorem sound_execFltSumReceive {s : State} (h : State.Canon s) (l : LaneId) (src : Arrival) (words : List Dword) : Sound (execFltSumReceive l src words s) := by
  unfold execFltSumReceive
  refine sound_onReceive ‹_› (fun _ _ => ?_)
  refine canon_mk ?_ rfl rfl rfl
  assumption

theorem sound_execFltEventReceive {s : State} (h : State.Canon s) (l : LaneId) (src : Arrival) (entry : BitVec 72) (_total : Word) : Sound (execFltEventReceive l src entry _total s) := by
  unfold execFltEventReceive
  refine sound_onReceive ‹_› (fun _ _ => ?_)
  apply canon_fltEvent
  assumption

theorem sound_execFirstRead {s : State} (h : State.Canon s) (l : LaneId) (b : Fin 24) : Sound (execFirstRead l b s) := by
  unfold execFirstRead
  refine sound_onBar ‹_› (fun _ _ => ?_)
  apply canon_firstRead
  assumption

theorem sound_execFolioSnapshot {s : State} (h : State.Canon s) (l : LaneId) : Sound (execFolioSnapshot l s) := by
  unfold execFolioSnapshot
  apply sound_next
  apply canonS_folioSnapshot
  assumption

theorem sound_execFolioFpReceive {s : State} (h : State.Canon s) (l : LaneId) (src : Arrival) (seq : Dword) (fp : Dword) : Sound (execFolioFpReceive l src seq fp s) := by
  unfold execFolioFpReceive
  refine sound_onReceive ‹_› (fun _ _ => ?_)
  lift_lets
  intro x1
  clear_value x1
  intro x2
  have h2 : Canon l x2 := by
    unfold x2
    refine canon_mk ?_ rfl rfl rfl
    assumption
  clear_value x2
  apply canon_setPeer
  assumption

theorem sound_execFolioWrite {s : State} (h : State.Canon s) (l : LaneId) : Sound (execFolioWrite l s) := by
  unfold execFolioWrite
  refine sound_onLane ‹_› (fun _ _ => ?_)
  apply canon_folioWrite
  assumption

theorem sound_execReadmissionStart {s : State} (h : State.Canon s) (l : LaneId) : Sound (execReadmissionStart l s) := by
  unfold execReadmissionStart
  refine sound_onLane ‹_› (fun _ _ => ?_)
  apply canon_readmissionStart
  assumption

theorem sound_execProofWaitRecheck {s : State} (h : State.Canon s) (l : LaneId) : Sound (execProofWaitRecheck l s) := by
  unfold execProofWaitRecheck
  refine sound_onLane ‹_› (fun _ _ => ?_)
  apply canon_proofRecheck
  assumption

theorem sound_execFullProofComplete {s : State} (h : State.Canon s) (l : LaneId) (failStep : Option (Fin 9)) (links : BitVec 4) : Sound (execFullProofComplete l failStep links s) := by
  unfold execFullProofComplete
  apply sound_next
  apply canonS_fullProof
  assumption

theorem sound_execReadmitTimeAligned {s : State} (h : State.Canon s) (l : LaneId) : Sound (execReadmitTimeAligned l s) := by
  unfold execReadmitTimeAligned
  apply sound_next
  apply canonS_readmitAligned
  assumption

theorem sound_execBulkStaticState {s : State} (h : State.Canon s) (l : LaneId) (src : Arrival) (data : List Byte) : Sound (execBulkStaticState l src data s) := by
  unfold execBulkStaticState
  apply sound_next
  apply canonS_staticState
  assumption

theorem sound_execBulkDynamicState {s : State} (h : State.Canon s) (l : LaneId) (src : Arrival) (part : Fin 11) : Sound (execBulkDynamicState l src part s) := by
  unfold execBulkDynamicState
  apply sound_next
  apply canonS_dynamicState
  assumption

theorem sound_execBulkDescriptorCopy {s : State} (h : State.Canon s) (l : LaneId) (src : Arrival) (sg : Fin 16) (seq : Word) (copy : DescCopy) : Sound (execBulkDescriptorCopy l src sg seq copy s) := by
  unfold execBulkDescriptorCopy
  refine sound_onReceive ‹_› (fun _ _ => ?_)
  apply canon_descriptorCopy
  assumption

theorem sound_execStateTransferComplete {s : State} (h : State.Canon s) (l : LaneId) : Sound (execStateTransferComplete l s) := by
  unfold execStateTransferComplete
  apply sound_next
  apply canonS_transferEnd
  assumption

theorem sound_execShadowTimeout {s : State} (h : State.Canon s) (l : LaneId) : Sound (execShadowTimeout l s) := by
  unfold execShadowTimeout
  refine sound_onLane ‹_› (fun _ _ => ?_)
  refine canon_ite (fun _ => ?_) (fun _ => ?_)
  apply canon_readmitFailed
  assumption
  assumption

theorem sound_execSafeResetLane {s : State} (h : State.Canon s) (l : LaneId) : Sound (execSafeResetLane l s) := by
  unfold execSafeResetLane
  apply sound_next
  apply canonS_safeResetLane
  assumption

theorem sound_execLaneClear {s : State} (h : State.Canon s) (l : LaneId) : Sound (execLaneClear l s) := by
  unfold execLaneClear
  apply sound_next
  apply canonS_laneClear
  assumption

theorem sound_execHostReset {s : State} (h : State.Canon s) (l : LaneId) : Sound (execHostReset l s) := by
  unfold execHostReset
  apply sound_next
  apply canonS_hostReset
  assumption

theorem sound_execFunctionShutdownComplete {s : State} (h : State.Canon s) (l : LaneId) (f : FunctionId) : Sound (execFunctionShutdownComplete l f s) := by
  unfold execFunctionShutdownComplete
  refine sound_onLane ‹_› (fun _ _ => ?_)
  apply canon_shutdownDone
  assumption

theorem sound_execFunctionShutdownOverrun {s : State} (h : State.Canon s) (l : LaneId) (f : FunctionId) : Sound (execFunctionShutdownOverrun l f s) := by
  unfold execFunctionShutdownOverrun
  refine sound_onLane ‹_› (fun _ _ => ?_)
  apply canon_functionOverrun
  assumption

theorem sound_execAliveToggle {s : State} (h : State.Canon s) (l : LaneId) : Sound (execAliveToggle l s) := by
  unfold execAliveToggle
  apply sound_next
  apply canonS_aliveToggle
  assumption

theorem sound_execAliveReadback {s : State} (h : State.Canon s) (l : LaneId) (level : Bool) : Sound (execAliveReadback l level s) := by
  unfold execAliveReadback
  refine sound_onLane ‹_› (fun _ _ => ?_)
  apply canon_aliveReadback
  assumption

theorem sound_execVinUv {s : State} (h : State.Canon s) (l : LaneId) : Sound (execVinUv l s) := by
  unfold execVinUv
  refine sound_onLane ‹_› (fun _ _ => ?_)
  apply canon_monitor
  assumption

theorem sound_execVioUv {s : State} (h : State.Canon s) (l : LaneId) : Sound (execVioUv l s) := by
  unfold execVioUv
  refine sound_onLane ‹_› (fun _ _ => ?_)
  apply canon_monitor
  assumption

theorem sound_execTempWarn {s : State} (h : State.Canon s) (l : LaneId) : Sound (execTempWarn l s) := by
  unfold execTempWarn
  refine sound_onLane ‹_› (fun _ _ => ?_)
  apply canon_monitor
  assumption

theorem sound_execTempTrip {s : State} (h : State.Canon s) (l : LaneId) : Sound (execTempTrip l s) := by
  unfold execTempTrip
  refine sound_onLane ‹_› (fun _ _ => ?_)
  apply canon_monitor
  assumption

theorem sound_execRegFault {s : State} (h : State.Canon s) (l : LaneId) (reg : Byte) : Sound (execRegFault l reg s) := by
  unfold execRegFault
  refine sound_onLane ‹_› (fun _ _ => ?_)
  apply canon_regFault
  assumption

theorem sound_execXtalFail {s : State} (h : State.Canon s) (l : LaneId) : Sound (execXtalFail l s) := by
  unfold execXtalFail
  refine sound_onLane ‹_› (fun _ _ => ?_)
  refine canon_ite (fun _ => ?_) (fun _ => ?_)
  assumption
  apply canon_monitor
  apply canon_wr
  assumption
  decide

theorem sound_execPllUnlock {s : State} (h : State.Canon s) (l : LaneId) (island : Fin 8) : Sound (execPllUnlock l island s) := by
  unfold execPllUnlock
  refine sound_onLane ‹_› (fun _ _ => ?_)
  apply canon_pllUnlock
  assumption

theorem sound_execPowerOn {s : State} (h : State.Canon s) (l : LaneId) : Sound (execPowerOn l s) := by
  unfold execPowerOn
  refine sound_onLane ‹_› (fun _ _ => ?_)
  refine canon_ite (fun _ => ?_) (fun _ => ?_)
  apply canon_coldReset
  assumption
  assumption

theorem sound_execPowerOff {s : State} (h : State.Canon s) (l : LaneId) : Sound (execPowerOff l s) := by
  unfold execPowerOff
  refine sound_onLane ‹_› (fun _ _ => ?_)
  lift_lets
  intro x1
  have h1 : Canon l x1 := by
    unfold x1
    apply canon_cleared
    assumption
  clear_value x1
  intro x2
  clear_value x2
  refine canon_mk ?_ rfl rfl rfl
  assumption

theorem sound_execBrownout {s : State} (h : State.Canon s) (l : LaneId) : Sound (execBrownout l s) := by
  unfold execBrownout
  refine sound_onLane ‹_› (fun _ _ => ?_)
  refine canon_ite (fun _ => ?_) (fun _ => ?_)
  assumption
  apply canon_coldReset
  apply canon_satInc
  assumption
  decide

theorem sound_execPinReset {s : State} (h : State.Canon s) (l : LaneId) : Sound (execPinReset l s) := by
  unfold execPinReset
  refine sound_onLane ‹_› (fun _ _ => ?_)
  refine canon_ite (fun _ => ?_) (fun _ => ?_)
  assumption
  apply canon_coldReset
  assumption

theorem sound_execSupWdog {s : State} (h : State.Canon s) (l : LaneId) : Sound (execSupWdog l s) := by
  unfold execSupWdog
  refine sound_onLane ‹_› (fun _ _ => ?_)
  refine canon_ite (fun _ => ?_) (fun _ => ?_)
  assumption
  apply canon_satInc
  assumption
  decide

theorem sound_execHoldEntry {s : State} (h : State.Canon s) (l : LaneId) : Sound (execHoldEntry l s) := by
  unfold execHoldEntry
  refine sound_onLane ‹_› (fun _ _ => ?_)
  apply canon_holdEntry
  assumption

theorem sound_execHoldToRun {s : State} (h : State.Canon s) (l : LaneId) : Sound (execHoldToRun l s) := by
  unfold execHoldToRun
  refine sound_onLane ‹_› (fun _ _ => ?_)
  apply canon_holdToRun
  assumption

theorem sound_execSleepRequest {s : State} (h : State.Canon s) (l : LaneId) (pin : Bool) : Sound (execSleepRequest l pin s) := by
  unfold execSleepRequest
  refine sound_onLane ‹_› (fun _ _ => ?_)
  apply canon_sleepRequest
  assumption

theorem sound_execSleepRequestWithdrawn {s : State} (h : State.Canon s) (l : LaneId) (pin : Bool) : Sound (execSleepRequestWithdrawn l pin s) := by
  unfold execSleepRequestWithdrawn
  refine sound_onLane ‹_› (fun _ _ => ?_)
  refine canon_ite (fun _ => ?_) (fun _ => ?_)
  apply canon_sleepWithdrawn
  assumption
  assumption

theorem sound_execPwrSyncReceive {s : State} (h : State.Canon s) (l : LaneId) (src : Arrival) (ready : Bool) : Sound (execPwrSyncReceive l src ready s) := by
  unfold execPwrSyncReceive
  refine sound_onReceive ‹_› (fun _ _ => ?_)
  apply canon_setPeer
  assumption

theorem sound_execNapEntryComplete {s : State} (h : State.Canon s) (l : LaneId) : Sound (execNapEntryComplete l s) := by
  unfold execNapEntryComplete
  refine sound_onLane ‹_› (fun _ _ => ?_)
  apply canon_napEntered
  assumption

theorem sound_execWakeSource {s : State} (h : State.Canon s) (l : LaneId) (src : Fin 9) : Sound (execWakeSource l src s) := by
  unfold execWakeSource
  refine sound_onLane ‹_› (fun _ _ => ?_)
  apply canon_wakeBy
  assumption

theorem sound_execPeerWake {s : State} (h : State.Canon s) (l : LaneId) (peer : LaneId) : Sound (execPeerWake l peer s) := by
  unfold execPeerWake
  refine sound_onLane ‹_› (fun _ _ => ?_)
  refine canon_ite (fun _ => ?_) (fun _ => ?_)
  assumption
  apply canon_wakeBy
  assumption

theorem sound_execWakeComplete {s : State} (h : State.Canon s) (l : LaneId) (ok : Bool) : Sound (execWakeComplete l ok s) := by
  unfold execWakeComplete
  refine sound_onLane ‹_› (fun _ _ => ?_)
  apply canon_wakeComplete
  assumption

theorem sound_execFormationWindowExpired {s : State} (h : State.Canon s) (l : LaneId) : Sound (execFormationWindowExpired l s) := by
  unfold execFormationWindowExpired
  refine sound_onLane ‹_› (fun _ _ => ?_)
  refine canon_ite (fun _ => ?_) (fun _ => ?_)
  refine canon_mk ?_ rfl rfl rfl
  assumption
  assumption

theorem sound_execVotingBoundary {s : State} (h : State.Canon s) (at_ : LaneBoundary) : Sound (execVotingBoundary at_ s) := by
  unfold execVotingBoundary
  apply sound_next
  apply canonS_votingBoundary
  assumption

end Sys2Proof.Machine
end

