-- ==== Sys2Proof/Laws/State.lean ====
section
/-!
SUPPORT. Laws of the state: what each named update of a lane leaves as it was, one lemma for each field and update, and the
lanes of the state after one is replaced.
-/

namespace Sys2Proof.Machine

open Sys2Proof

/-! ## Lanes of the state -/

@[simp] theorem State.setLane_lane_same (s : State) (l : LaneId) (x : LaneSt) : (s.setLane l x).lane l = x := by
  cases l <;> rfl

theorem State.setLane_lane_ne (s : State) {l k : LaneId} (h : k ≠ l) (x : LaneSt) : (s.setLane l x).lane k = s.lane k := by
  cases l <;> cases k <;> first | rfl | exact absurd rfl h

@[simp] theorem State.setLane_pending (s : State) (l : LaneId) (x : LaneSt) : (s.setLane l x).pending = s.pending := by
  cases l <;> rfl

@[simp] theorem State.setLane_self (s : State) (l : LaneId) : s.setLane l (s.lane l) = s := by
  cases l <;> rfl

@[simp] theorem State.setLane_setLane (s : State) (l : LaneId) (x y : LaneSt) : (s.setLane l x).setLane l y = s.setLane l y := by
  cases l <;> rfl

@[simp] theorem State.setLane_snaps (s : State) (l : LaneId) (x : LaneSt) : (s.setLane l x).snaps = s.snaps := by
  cases l <;> rfl

@[simp] theorem State.setLane_ticks (s : State) (l : LaneId) (x : LaneSt) : (s.setLane l x).ticks = s.ticks := by
  cases l <;> rfl

@[simp] theorem State.setSnap_lane (s : State) (k j : LaneId) (x : Option Snapshot) : (s.setSnap k x).lane j = s.lane j := by
  cases j <;> rfl

@[simp] theorem State.setSnap_pending (s : State) (k : LaneId) (x : Option Snapshot) : (s.setSnap k x).pending = s.pending := rfl

/-- What each step of a fold leaves as it was, the fold leaves. -/
theorem foldl_keep {α β γ : Type} (g : α → γ) (f : α → β → α) (h : ∀ a b, g (f a b) = g a) (xs : List β) (a : α) :
    g (xs.foldl f a) = g a := by
  induction xs generalizing a with
  | nil => rfl
  | cons x xs ih => rw [List.foldl_cons, ih, h]

/-! ## setWord -/

@[simp] theorem LaneSt.setWord_id (l : LaneSt) (off : Nat) (w : Word) : (l.setWord off w).id = l.id := rfl
@[simp] theorem LaneSt.setWord_time (l : LaneSt) (off : Nat) (w : Word) : (l.setWord off w).time = l.time := rfl
@[simp] theorem LaneSt.setWord_xing (l : LaneSt) (off : Nat) (w : Word) : (l.setWord off w).xing = l.xing := rfl
@[simp] theorem LaneSt.setWord_hif (l : LaneSt) (off : Nat) (w : Word) : (l.setWord off w).hif = l.hif := rfl
@[simp] theorem LaneSt.setWord_vote (l : LaneSt) (off : Nat) (w : Word) : (l.setWord off w).vote = l.vote := rfl
@[simp] theorem LaneSt.setWord_folio (l : LaneSt) (off : Nat) (w : Word) : (l.setWord off w).folio = l.folio := rfl
@[simp] theorem LaneSt.setWord_commit (l : LaneSt) (off : Nat) (w : Word) : (l.setWord off w).commit = l.commit := rfl
@[simp] theorem LaneSt.setWord_staging (l : LaneSt) (off : Nat) (w : Word) : (l.setWord off w).staging = l.staging := rfl
@[simp] theorem LaneSt.setWord_irq (l : LaneSt) (off : Nat) (w : Word) : (l.setWord off w).irq = l.irq := rfl
@[simp] theorem LaneSt.setWord_flt (l : LaneSt) (off : Nat) (w : Word) : (l.setWord off w).flt = l.flt := rfl
@[simp] theorem LaneSt.setWord_bist (l : LaneSt) (off : Nat) (w : Word) : (l.setWord off w).bist = l.bist := rfl
@[simp] theorem LaneSt.setWord_comm (l : LaneSt) (off : Nat) (w : Word) : (l.setWord off w).comm = l.comm := rfl
@[simp] theorem LaneSt.setWord_gate (l : LaneSt) (off : Nat) (w : Word) : (l.setWord off w).gate = l.gate := rfl
@[simp] theorem LaneSt.setWord_adc (l : LaneSt) (off : Nat) (w : Word) : (l.setWord off w).adc = l.adc := rfl
@[simp] theorem LaneSt.setWord_fbk (l : LaneSt) (off : Nat) (w : Word) : (l.setWord off w).fbk = l.fbk := rfl
@[simp] theorem LaneSt.setWord_loop (l : LaneSt) (off : Nat) (w : Word) : (l.setWord off w).loop = l.loop := rfl
@[simp] theorem LaneSt.setWord_prof (l : LaneSt) (off : Nat) (w : Word) : (l.setWord off w).prof = l.prof := rfl
@[simp] theorem LaneSt.setWord_sec (l : LaneSt) (off : Nat) (w : Word) : (l.setWord off w).sec = l.sec := rfl
@[simp] theorem LaneSt.setWord_sio (l : LaneSt) (off : Nat) (w : Word) : (l.setWord off w).sio = l.sio := rfl
@[simp] theorem LaneSt.setWord_net (l : LaneSt) (off : Nat) (w : Word) : (l.setWord off w).net = l.net := rfl
@[simp] theorem LaneSt.setWord_mem (l : LaneSt) (off : Nat) (w : Word) : (l.setWord off w).mem = l.mem := rfl
@[simp] theorem LaneSt.setWord_pwr (l : LaneSt) (off : Nat) (w : Word) : (l.setWord off w).pwr = l.pwr := rfl
@[simp] theorem LaneSt.setWord_posted (l : LaneSt) (off : Nat) (w : Word) : (l.setWord off w).posted = l.posted := rfl
@[simp] theorem LaneSt.setWord_free (l : LaneSt) (off : Nat) (w : Word) : (l.setWord off w).free = l.free := rfl

/-! ## wr -/

@[simp] theorem LaneSt.wr_id (l : LaneSt) (f : Field) (n : Nat) : (l.wr f n).id = l.id := by unfold LaneSt.wr; split <;> rfl
@[simp] theorem LaneSt.wr_time (l : LaneSt) (f : Field) (n : Nat) : (l.wr f n).time = l.time := by unfold LaneSt.wr; split <;> rfl
@[simp] theorem LaneSt.wr_xing (l : LaneSt) (f : Field) (n : Nat) : (l.wr f n).xing = l.xing := by unfold LaneSt.wr; split <;> rfl
@[simp] theorem LaneSt.wr_hif (l : LaneSt) (f : Field) (n : Nat) : (l.wr f n).hif = l.hif := by unfold LaneSt.wr; split <;> rfl
@[simp] theorem LaneSt.wr_vote (l : LaneSt) (f : Field) (n : Nat) : (l.wr f n).vote = l.vote := by unfold LaneSt.wr; split <;> rfl
@[simp] theorem LaneSt.wr_folio (l : LaneSt) (f : Field) (n : Nat) : (l.wr f n).folio = l.folio := by unfold LaneSt.wr; split <;> rfl
@[simp] theorem LaneSt.wr_commit (l : LaneSt) (f : Field) (n : Nat) : (l.wr f n).commit = l.commit := by unfold LaneSt.wr; split <;> rfl
@[simp] theorem LaneSt.wr_staging (l : LaneSt) (f : Field) (n : Nat) : (l.wr f n).staging = l.staging := by unfold LaneSt.wr; split <;> rfl
@[simp] theorem LaneSt.wr_irq (l : LaneSt) (f : Field) (n : Nat) : (l.wr f n).irq = l.irq := by unfold LaneSt.wr; split <;> rfl
@[simp] theorem LaneSt.wr_flt (l : LaneSt) (f : Field) (n : Nat) : (l.wr f n).flt = l.flt := by unfold LaneSt.wr; split <;> rfl
@[simp] theorem LaneSt.wr_bist (l : LaneSt) (f : Field) (n : Nat) : (l.wr f n).bist = l.bist := by unfold LaneSt.wr; split <;> rfl
@[simp] theorem LaneSt.wr_comm (l : LaneSt) (f : Field) (n : Nat) : (l.wr f n).comm = l.comm := by unfold LaneSt.wr; split <;> rfl
@[simp] theorem LaneSt.wr_gate (l : LaneSt) (f : Field) (n : Nat) : (l.wr f n).gate = l.gate := by unfold LaneSt.wr; split <;> rfl
@[simp] theorem LaneSt.wr_adc (l : LaneSt) (f : Field) (n : Nat) : (l.wr f n).adc = l.adc := by unfold LaneSt.wr; split <;> rfl
@[simp] theorem LaneSt.wr_fbk (l : LaneSt) (f : Field) (n : Nat) : (l.wr f n).fbk = l.fbk := by unfold LaneSt.wr; split <;> rfl
@[simp] theorem LaneSt.wr_loop (l : LaneSt) (f : Field) (n : Nat) : (l.wr f n).loop = l.loop := by unfold LaneSt.wr; split <;> rfl
@[simp] theorem LaneSt.wr_prof (l : LaneSt) (f : Field) (n : Nat) : (l.wr f n).prof = l.prof := by unfold LaneSt.wr; split <;> rfl
@[simp] theorem LaneSt.wr_sec (l : LaneSt) (f : Field) (n : Nat) : (l.wr f n).sec = l.sec := by unfold LaneSt.wr; split <;> rfl
@[simp] theorem LaneSt.wr_sio (l : LaneSt) (f : Field) (n : Nat) : (l.wr f n).sio = l.sio := by unfold LaneSt.wr; split <;> rfl
@[simp] theorem LaneSt.wr_net (l : LaneSt) (f : Field) (n : Nat) : (l.wr f n).net = l.net := by unfold LaneSt.wr; split <;> rfl
@[simp] theorem LaneSt.wr_mem (l : LaneSt) (f : Field) (n : Nat) : (l.wr f n).mem = l.mem := by unfold LaneSt.wr; split <;> rfl
@[simp] theorem LaneSt.wr_pwr (l : LaneSt) (f : Field) (n : Nat) : (l.wr f n).pwr = l.pwr := by unfold LaneSt.wr; split <;> rfl
@[simp] theorem LaneSt.wr_posted (l : LaneSt) (f : Field) (n : Nat) : (l.wr f n).posted = l.posted := by unfold LaneSt.wr; split <;> rfl
@[simp] theorem LaneSt.wr_free (l : LaneSt) (f : Field) (n : Nat) : (l.wr f n).free = l.free := by unfold LaneSt.wr; split <;> rfl

/-! ## wrB -/

@[simp] theorem LaneSt.wrB_id (l : LaneSt) (f : Field) (b : Bool) : (l.wrB f b).id = l.id := by simp [LaneSt.wrB]
@[simp] theorem LaneSt.wrB_time (l : LaneSt) (f : Field) (b : Bool) : (l.wrB f b).time = l.time := by simp [LaneSt.wrB]
@[simp] theorem LaneSt.wrB_xing (l : LaneSt) (f : Field) (b : Bool) : (l.wrB f b).xing = l.xing := by simp [LaneSt.wrB]
@[simp] theorem LaneSt.wrB_hif (l : LaneSt) (f : Field) (b : Bool) : (l.wrB f b).hif = l.hif := by simp [LaneSt.wrB]
@[simp] theorem LaneSt.wrB_vote (l : LaneSt) (f : Field) (b : Bool) : (l.wrB f b).vote = l.vote := by simp [LaneSt.wrB]
@[simp] theorem LaneSt.wrB_folio (l : LaneSt) (f : Field) (b : Bool) : (l.wrB f b).folio = l.folio := by simp [LaneSt.wrB]
@[simp] theorem LaneSt.wrB_commit (l : LaneSt) (f : Field) (b : Bool) : (l.wrB f b).commit = l.commit := by simp [LaneSt.wrB]
@[simp] theorem LaneSt.wrB_staging (l : LaneSt) (f : Field) (b : Bool) : (l.wrB f b).staging = l.staging := by simp [LaneSt.wrB]
@[simp] theorem LaneSt.wrB_irq (l : LaneSt) (f : Field) (b : Bool) : (l.wrB f b).irq = l.irq := by simp [LaneSt.wrB]
@[simp] theorem LaneSt.wrB_flt (l : LaneSt) (f : Field) (b : Bool) : (l.wrB f b).flt = l.flt := by simp [LaneSt.wrB]
@[simp] theorem LaneSt.wrB_bist (l : LaneSt) (f : Field) (b : Bool) : (l.wrB f b).bist = l.bist := by simp [LaneSt.wrB]
@[simp] theorem LaneSt.wrB_comm (l : LaneSt) (f : Field) (b : Bool) : (l.wrB f b).comm = l.comm := by simp [LaneSt.wrB]
@[simp] theorem LaneSt.wrB_gate (l : LaneSt) (f : Field) (b : Bool) : (l.wrB f b).gate = l.gate := by simp [LaneSt.wrB]
@[simp] theorem LaneSt.wrB_adc (l : LaneSt) (f : Field) (b : Bool) : (l.wrB f b).adc = l.adc := by simp [LaneSt.wrB]
@[simp] theorem LaneSt.wrB_fbk (l : LaneSt) (f : Field) (b : Bool) : (l.wrB f b).fbk = l.fbk := by simp [LaneSt.wrB]
@[simp] theorem LaneSt.wrB_loop (l : LaneSt) (f : Field) (b : Bool) : (l.wrB f b).loop = l.loop := by simp [LaneSt.wrB]
@[simp] theorem LaneSt.wrB_prof (l : LaneSt) (f : Field) (b : Bool) : (l.wrB f b).prof = l.prof := by simp [LaneSt.wrB]
@[simp] theorem LaneSt.wrB_sec (l : LaneSt) (f : Field) (b : Bool) : (l.wrB f b).sec = l.sec := by simp [LaneSt.wrB]
@[simp] theorem LaneSt.wrB_sio (l : LaneSt) (f : Field) (b : Bool) : (l.wrB f b).sio = l.sio := by simp [LaneSt.wrB]
@[simp] theorem LaneSt.wrB_net (l : LaneSt) (f : Field) (b : Bool) : (l.wrB f b).net = l.net := by simp [LaneSt.wrB]
@[simp] theorem LaneSt.wrB_mem (l : LaneSt) (f : Field) (b : Bool) : (l.wrB f b).mem = l.mem := by simp [LaneSt.wrB]
@[simp] theorem LaneSt.wrB_pwr (l : LaneSt) (f : Field) (b : Bool) : (l.wrB f b).pwr = l.pwr := by simp [LaneSt.wrB]
@[simp] theorem LaneSt.wrB_posted (l : LaneSt) (f : Field) (b : Bool) : (l.wrB f b).posted = l.posted := by simp [LaneSt.wrB]
@[simp] theorem LaneSt.wrB_free (l : LaneSt) (f : Field) (b : Bool) : (l.wrB f b).free = l.free := by simp [LaneSt.wrB]

/-! ## inc -/

@[simp] theorem LaneSt.inc_id (l : LaneSt) (f : Field) : (l.inc f).id = l.id := by simp [LaneSt.inc]
@[simp] theorem LaneSt.inc_time (l : LaneSt) (f : Field) : (l.inc f).time = l.time := by simp [LaneSt.inc]
@[simp] theorem LaneSt.inc_xing (l : LaneSt) (f : Field) : (l.inc f).xing = l.xing := by simp [LaneSt.inc]
@[simp] theorem LaneSt.inc_hif (l : LaneSt) (f : Field) : (l.inc f).hif = l.hif := by simp [LaneSt.inc]
@[simp] theorem LaneSt.inc_vote (l : LaneSt) (f : Field) : (l.inc f).vote = l.vote := by simp [LaneSt.inc]
@[simp] theorem LaneSt.inc_folio (l : LaneSt) (f : Field) : (l.inc f).folio = l.folio := by simp [LaneSt.inc]
@[simp] theorem LaneSt.inc_commit (l : LaneSt) (f : Field) : (l.inc f).commit = l.commit := by simp [LaneSt.inc]
@[simp] theorem LaneSt.inc_staging (l : LaneSt) (f : Field) : (l.inc f).staging = l.staging := by simp [LaneSt.inc]
@[simp] theorem LaneSt.inc_irq (l : LaneSt) (f : Field) : (l.inc f).irq = l.irq := by simp [LaneSt.inc]
@[simp] theorem LaneSt.inc_flt (l : LaneSt) (f : Field) : (l.inc f).flt = l.flt := by simp [LaneSt.inc]
@[simp] theorem LaneSt.inc_bist (l : LaneSt) (f : Field) : (l.inc f).bist = l.bist := by simp [LaneSt.inc]
@[simp] theorem LaneSt.inc_comm (l : LaneSt) (f : Field) : (l.inc f).comm = l.comm := by simp [LaneSt.inc]
@[simp] theorem LaneSt.inc_gate (l : LaneSt) (f : Field) : (l.inc f).gate = l.gate := by simp [LaneSt.inc]
@[simp] theorem LaneSt.inc_adc (l : LaneSt) (f : Field) : (l.inc f).adc = l.adc := by simp [LaneSt.inc]
@[simp] theorem LaneSt.inc_fbk (l : LaneSt) (f : Field) : (l.inc f).fbk = l.fbk := by simp [LaneSt.inc]
@[simp] theorem LaneSt.inc_loop (l : LaneSt) (f : Field) : (l.inc f).loop = l.loop := by simp [LaneSt.inc]
@[simp] theorem LaneSt.inc_prof (l : LaneSt) (f : Field) : (l.inc f).prof = l.prof := by simp [LaneSt.inc]
@[simp] theorem LaneSt.inc_sec (l : LaneSt) (f : Field) : (l.inc f).sec = l.sec := by simp [LaneSt.inc]
@[simp] theorem LaneSt.inc_sio (l : LaneSt) (f : Field) : (l.inc f).sio = l.sio := by simp [LaneSt.inc]
@[simp] theorem LaneSt.inc_net (l : LaneSt) (f : Field) : (l.inc f).net = l.net := by simp [LaneSt.inc]
@[simp] theorem LaneSt.inc_mem (l : LaneSt) (f : Field) : (l.inc f).mem = l.mem := by simp [LaneSt.inc]
@[simp] theorem LaneSt.inc_pwr (l : LaneSt) (f : Field) : (l.inc f).pwr = l.pwr := by simp [LaneSt.inc]
@[simp] theorem LaneSt.inc_posted (l : LaneSt) (f : Field) : (l.inc f).posted = l.posted := by simp [LaneSt.inc]
@[simp] theorem LaneSt.inc_free (l : LaneSt) (f : Field) : (l.inc f).free = l.free := by simp [LaneSt.inc]

/-! ## satInc -/

@[simp] theorem LaneSt.satInc_id (l : LaneSt) (b : Nat) (f : Field) : (l.satInc b f).id = l.id := by unfold LaneSt.satInc; split <;> simp
@[simp] theorem LaneSt.satInc_time (l : LaneSt) (b : Nat) (f : Field) : (l.satInc b f).time = l.time := by unfold LaneSt.satInc; split <;> simp
@[simp] theorem LaneSt.satInc_xing (l : LaneSt) (b : Nat) (f : Field) : (l.satInc b f).xing = l.xing := by unfold LaneSt.satInc; split <;> simp
@[simp] theorem LaneSt.satInc_hif (l : LaneSt) (b : Nat) (f : Field) : (l.satInc b f).hif = l.hif := by unfold LaneSt.satInc; split <;> simp
@[simp] theorem LaneSt.satInc_vote (l : LaneSt) (b : Nat) (f : Field) : (l.satInc b f).vote = l.vote := by unfold LaneSt.satInc; split <;> simp
@[simp] theorem LaneSt.satInc_folio (l : LaneSt) (b : Nat) (f : Field) : (l.satInc b f).folio = l.folio := by unfold LaneSt.satInc; split <;> simp
@[simp] theorem LaneSt.satInc_commit (l : LaneSt) (b : Nat) (f : Field) : (l.satInc b f).commit = l.commit := by unfold LaneSt.satInc; split <;> simp
@[simp] theorem LaneSt.satInc_staging (l : LaneSt) (b : Nat) (f : Field) : (l.satInc b f).staging = l.staging := by unfold LaneSt.satInc; split <;> simp
@[simp] theorem LaneSt.satInc_irq (l : LaneSt) (b : Nat) (f : Field) : (l.satInc b f).irq = l.irq := by unfold LaneSt.satInc; split <;> simp
@[simp] theorem LaneSt.satInc_flt (l : LaneSt) (b : Nat) (f : Field) : (l.satInc b f).flt = l.flt := by unfold LaneSt.satInc; split <;> simp
@[simp] theorem LaneSt.satInc_bist (l : LaneSt) (b : Nat) (f : Field) : (l.satInc b f).bist = l.bist := by unfold LaneSt.satInc; split <;> simp
@[simp] theorem LaneSt.satInc_comm (l : LaneSt) (b : Nat) (f : Field) : (l.satInc b f).comm = l.comm := by unfold LaneSt.satInc; split <;> simp
@[simp] theorem LaneSt.satInc_gate (l : LaneSt) (b : Nat) (f : Field) : (l.satInc b f).gate = l.gate := by unfold LaneSt.satInc; split <;> simp
@[simp] theorem LaneSt.satInc_adc (l : LaneSt) (b : Nat) (f : Field) : (l.satInc b f).adc = l.adc := by unfold LaneSt.satInc; split <;> simp
@[simp] theorem LaneSt.satInc_fbk (l : LaneSt) (b : Nat) (f : Field) : (l.satInc b f).fbk = l.fbk := by unfold LaneSt.satInc; split <;> simp
@[simp] theorem LaneSt.satInc_loop (l : LaneSt) (b : Nat) (f : Field) : (l.satInc b f).loop = l.loop := by unfold LaneSt.satInc; split <;> simp
@[simp] theorem LaneSt.satInc_prof (l : LaneSt) (b : Nat) (f : Field) : (l.satInc b f).prof = l.prof := by unfold LaneSt.satInc; split <;> simp
@[simp] theorem LaneSt.satInc_sec (l : LaneSt) (b : Nat) (f : Field) : (l.satInc b f).sec = l.sec := by unfold LaneSt.satInc; split <;> simp
@[simp] theorem LaneSt.satInc_sio (l : LaneSt) (b : Nat) (f : Field) : (l.satInc b f).sio = l.sio := by unfold LaneSt.satInc; split <;> simp
@[simp] theorem LaneSt.satInc_net (l : LaneSt) (b : Nat) (f : Field) : (l.satInc b f).net = l.net := by unfold LaneSt.satInc; split <;> simp
@[simp] theorem LaneSt.satInc_mem (l : LaneSt) (b : Nat) (f : Field) : (l.satInc b f).mem = l.mem := by unfold LaneSt.satInc; split <;> simp
@[simp] theorem LaneSt.satInc_pwr (l : LaneSt) (b : Nat) (f : Field) : (l.satInc b f).pwr = l.pwr := by unfold LaneSt.satInc; split <;> simp
@[simp] theorem LaneSt.satInc_posted (l : LaneSt) (b : Nat) (f : Field) : (l.satInc b f).posted = l.posted := by unfold LaneSt.satInc; split <;> simp
@[simp] theorem LaneSt.satInc_free (l : LaneSt) (b : Nat) (f : Field) : (l.satInc b f).free = l.free := by unfold LaneSt.satInc; split <;> simp

/-! ## setPeer -/

@[simp] theorem LaneSt.setPeer_id (l : LaneSt) (p : LaneId) (f : PeerView → PeerView) : (l.setPeer p f).id = l.id := by unfold LaneSt.setPeer; split <;> rfl
@[simp] theorem LaneSt.setPeer_regs (l : LaneSt) (p : LaneId) (f : PeerView → PeerView) : (l.setPeer p f).regs = l.regs := by unfold LaneSt.setPeer; split <;> rfl
@[simp] theorem LaneSt.setPeer_time (l : LaneSt) (p : LaneId) (f : PeerView → PeerView) : (l.setPeer p f).time = l.time := by unfold LaneSt.setPeer; split <;> rfl
@[simp] theorem LaneSt.setPeer_xing (l : LaneSt) (p : LaneId) (f : PeerView → PeerView) : (l.setPeer p f).xing = l.xing := by unfold LaneSt.setPeer; split <;> rfl
@[simp] theorem LaneSt.setPeer_hif (l : LaneSt) (p : LaneId) (f : PeerView → PeerView) : (l.setPeer p f).hif = l.hif := by unfold LaneSt.setPeer; split <;> rfl
@[simp] theorem LaneSt.setPeer_folio (l : LaneSt) (p : LaneId) (f : PeerView → PeerView) : (l.setPeer p f).folio = l.folio := by unfold LaneSt.setPeer; split <;> rfl
@[simp] theorem LaneSt.setPeer_commit (l : LaneSt) (p : LaneId) (f : PeerView → PeerView) : (l.setPeer p f).commit = l.commit := by unfold LaneSt.setPeer; split <;> rfl
@[simp] theorem LaneSt.setPeer_staging (l : LaneSt) (p : LaneId) (f : PeerView → PeerView) : (l.setPeer p f).staging = l.staging := by unfold LaneSt.setPeer; split <;> rfl
@[simp] theorem LaneSt.setPeer_irq (l : LaneSt) (p : LaneId) (f : PeerView → PeerView) : (l.setPeer p f).irq = l.irq := by unfold LaneSt.setPeer; split <;> rfl
@[simp] theorem LaneSt.setPeer_flt (l : LaneSt) (p : LaneId) (f : PeerView → PeerView) : (l.setPeer p f).flt = l.flt := by unfold LaneSt.setPeer; split <;> rfl
@[simp] theorem LaneSt.setPeer_bist (l : LaneSt) (p : LaneId) (f : PeerView → PeerView) : (l.setPeer p f).bist = l.bist := by unfold LaneSt.setPeer; split <;> rfl
@[simp] theorem LaneSt.setPeer_comm (l : LaneSt) (p : LaneId) (f : PeerView → PeerView) : (l.setPeer p f).comm = l.comm := by unfold LaneSt.setPeer; split <;> rfl
@[simp] theorem LaneSt.setPeer_gate (l : LaneSt) (p : LaneId) (f : PeerView → PeerView) : (l.setPeer p f).gate = l.gate := by unfold LaneSt.setPeer; split <;> rfl
@[simp] theorem LaneSt.setPeer_adc (l : LaneSt) (p : LaneId) (f : PeerView → PeerView) : (l.setPeer p f).adc = l.adc := by unfold LaneSt.setPeer; split <;> rfl
@[simp] theorem LaneSt.setPeer_fbk (l : LaneSt) (p : LaneId) (f : PeerView → PeerView) : (l.setPeer p f).fbk = l.fbk := by unfold LaneSt.setPeer; split <;> rfl
@[simp] theorem LaneSt.setPeer_loop (l : LaneSt) (p : LaneId) (f : PeerView → PeerView) : (l.setPeer p f).loop = l.loop := by unfold LaneSt.setPeer; split <;> rfl
@[simp] theorem LaneSt.setPeer_prof (l : LaneSt) (p : LaneId) (f : PeerView → PeerView) : (l.setPeer p f).prof = l.prof := by unfold LaneSt.setPeer; split <;> rfl
@[simp] theorem LaneSt.setPeer_sec (l : LaneSt) (p : LaneId) (f : PeerView → PeerView) : (l.setPeer p f).sec = l.sec := by unfold LaneSt.setPeer; split <;> rfl
@[simp] theorem LaneSt.setPeer_sio (l : LaneSt) (p : LaneId) (f : PeerView → PeerView) : (l.setPeer p f).sio = l.sio := by unfold LaneSt.setPeer; split <;> rfl
@[simp] theorem LaneSt.setPeer_net (l : LaneSt) (p : LaneId) (f : PeerView → PeerView) : (l.setPeer p f).net = l.net := by unfold LaneSt.setPeer; split <;> rfl
@[simp] theorem LaneSt.setPeer_mem (l : LaneSt) (p : LaneId) (f : PeerView → PeerView) : (l.setPeer p f).mem = l.mem := by unfold LaneSt.setPeer; split <;> rfl
@[simp] theorem LaneSt.setPeer_pwr (l : LaneSt) (p : LaneId) (f : PeerView → PeerView) : (l.setPeer p f).pwr = l.pwr := by unfold LaneSt.setPeer; split <;> rfl
@[simp] theorem LaneSt.setPeer_posted (l : LaneSt) (p : LaneId) (f : PeerView → PeerView) : (l.setPeer p f).posted = l.posted := by unfold LaneSt.setPeer; split <;> rfl
@[simp] theorem LaneSt.setPeer_free (l : LaneSt) (p : LaneId) (f : PeerView → PeerView) : (l.setPeer p f).free = l.free := by unfold LaneSt.setPeer; split <;> rfl

/-! ## setBlk -/

@[simp] theorem LaneSt.setBlk_id (l : LaneSt) (k : LaneId) (f : LaneBlk → LaneBlk) : (l.setBlk k f).id = l.id := rfl
@[simp] theorem LaneSt.setBlk_regs (l : LaneSt) (k : LaneId) (f : LaneBlk → LaneBlk) : (l.setBlk k f).regs = l.regs := rfl
@[simp] theorem LaneSt.setBlk_time (l : LaneSt) (k : LaneId) (f : LaneBlk → LaneBlk) : (l.setBlk k f).time = l.time := rfl
@[simp] theorem LaneSt.setBlk_xing (l : LaneSt) (k : LaneId) (f : LaneBlk → LaneBlk) : (l.setBlk k f).xing = l.xing := rfl
@[simp] theorem LaneSt.setBlk_hif (l : LaneSt) (k : LaneId) (f : LaneBlk → LaneBlk) : (l.setBlk k f).hif = l.hif := rfl
@[simp] theorem LaneSt.setBlk_folio (l : LaneSt) (k : LaneId) (f : LaneBlk → LaneBlk) : (l.setBlk k f).folio = l.folio := rfl
@[simp] theorem LaneSt.setBlk_commit (l : LaneSt) (k : LaneId) (f : LaneBlk → LaneBlk) : (l.setBlk k f).commit = l.commit := rfl
@[simp] theorem LaneSt.setBlk_staging (l : LaneSt) (k : LaneId) (f : LaneBlk → LaneBlk) : (l.setBlk k f).staging = l.staging := rfl
@[simp] theorem LaneSt.setBlk_irq (l : LaneSt) (k : LaneId) (f : LaneBlk → LaneBlk) : (l.setBlk k f).irq = l.irq := rfl
@[simp] theorem LaneSt.setBlk_flt (l : LaneSt) (k : LaneId) (f : LaneBlk → LaneBlk) : (l.setBlk k f).flt = l.flt := rfl
@[simp] theorem LaneSt.setBlk_bist (l : LaneSt) (k : LaneId) (f : LaneBlk → LaneBlk) : (l.setBlk k f).bist = l.bist := rfl
@[simp] theorem LaneSt.setBlk_comm (l : LaneSt) (k : LaneId) (f : LaneBlk → LaneBlk) : (l.setBlk k f).comm = l.comm := rfl
@[simp] theorem LaneSt.setBlk_gate (l : LaneSt) (k : LaneId) (f : LaneBlk → LaneBlk) : (l.setBlk k f).gate = l.gate := rfl
@[simp] theorem LaneSt.setBlk_adc (l : LaneSt) (k : LaneId) (f : LaneBlk → LaneBlk) : (l.setBlk k f).adc = l.adc := rfl
@[simp] theorem LaneSt.setBlk_fbk (l : LaneSt) (k : LaneId) (f : LaneBlk → LaneBlk) : (l.setBlk k f).fbk = l.fbk := rfl
@[simp] theorem LaneSt.setBlk_loop (l : LaneSt) (k : LaneId) (f : LaneBlk → LaneBlk) : (l.setBlk k f).loop = l.loop := rfl
@[simp] theorem LaneSt.setBlk_prof (l : LaneSt) (k : LaneId) (f : LaneBlk → LaneBlk) : (l.setBlk k f).prof = l.prof := rfl
@[simp] theorem LaneSt.setBlk_sec (l : LaneSt) (k : LaneId) (f : LaneBlk → LaneBlk) : (l.setBlk k f).sec = l.sec := rfl
@[simp] theorem LaneSt.setBlk_sio (l : LaneSt) (k : LaneId) (f : LaneBlk → LaneBlk) : (l.setBlk k f).sio = l.sio := rfl
@[simp] theorem LaneSt.setBlk_net (l : LaneSt) (k : LaneId) (f : LaneBlk → LaneBlk) : (l.setBlk k f).net = l.net := rfl
@[simp] theorem LaneSt.setBlk_mem (l : LaneSt) (k : LaneId) (f : LaneBlk → LaneBlk) : (l.setBlk k f).mem = l.mem := rfl
@[simp] theorem LaneSt.setBlk_pwr (l : LaneSt) (k : LaneId) (f : LaneBlk → LaneBlk) : (l.setBlk k f).pwr = l.pwr := rfl
@[simp] theorem LaneSt.setBlk_posted (l : LaneSt) (k : LaneId) (f : LaneBlk → LaneBlk) : (l.setBlk k f).posted = l.posted := rfl
@[simp] theorem LaneSt.setBlk_free (l : LaneSt) (k : LaneId) (f : LaneBlk → LaneBlk) : (l.setBlk k f).free = l.free := rfl

/-! ## setGroup -/

@[simp] theorem LaneSt.setGroup_id (l : LaneSt) (g : Nat) (f : IrqGroup → IrqGroup) : (l.setGroup g f).id = l.id := rfl
@[simp] theorem LaneSt.setGroup_regs (l : LaneSt) (g : Nat) (f : IrqGroup → IrqGroup) : (l.setGroup g f).regs = l.regs := rfl
@[simp] theorem LaneSt.setGroup_time (l : LaneSt) (g : Nat) (f : IrqGroup → IrqGroup) : (l.setGroup g f).time = l.time := rfl
@[simp] theorem LaneSt.setGroup_xing (l : LaneSt) (g : Nat) (f : IrqGroup → IrqGroup) : (l.setGroup g f).xing = l.xing := rfl
@[simp] theorem LaneSt.setGroup_hif (l : LaneSt) (g : Nat) (f : IrqGroup → IrqGroup) : (l.setGroup g f).hif = l.hif := rfl
@[simp] theorem LaneSt.setGroup_vote (l : LaneSt) (g : Nat) (f : IrqGroup → IrqGroup) : (l.setGroup g f).vote = l.vote := rfl
@[simp] theorem LaneSt.setGroup_folio (l : LaneSt) (g : Nat) (f : IrqGroup → IrqGroup) : (l.setGroup g f).folio = l.folio := rfl
@[simp] theorem LaneSt.setGroup_commit (l : LaneSt) (g : Nat) (f : IrqGroup → IrqGroup) : (l.setGroup g f).commit = l.commit := rfl
@[simp] theorem LaneSt.setGroup_staging (l : LaneSt) (g : Nat) (f : IrqGroup → IrqGroup) : (l.setGroup g f).staging = l.staging := rfl
@[simp] theorem LaneSt.setGroup_flt (l : LaneSt) (g : Nat) (f : IrqGroup → IrqGroup) : (l.setGroup g f).flt = l.flt := rfl
@[simp] theorem LaneSt.setGroup_bist (l : LaneSt) (g : Nat) (f : IrqGroup → IrqGroup) : (l.setGroup g f).bist = l.bist := rfl
@[simp] theorem LaneSt.setGroup_comm (l : LaneSt) (g : Nat) (f : IrqGroup → IrqGroup) : (l.setGroup g f).comm = l.comm := rfl
@[simp] theorem LaneSt.setGroup_gate (l : LaneSt) (g : Nat) (f : IrqGroup → IrqGroup) : (l.setGroup g f).gate = l.gate := rfl
@[simp] theorem LaneSt.setGroup_adc (l : LaneSt) (g : Nat) (f : IrqGroup → IrqGroup) : (l.setGroup g f).adc = l.adc := rfl
@[simp] theorem LaneSt.setGroup_fbk (l : LaneSt) (g : Nat) (f : IrqGroup → IrqGroup) : (l.setGroup g f).fbk = l.fbk := rfl
@[simp] theorem LaneSt.setGroup_loop (l : LaneSt) (g : Nat) (f : IrqGroup → IrqGroup) : (l.setGroup g f).loop = l.loop := rfl
@[simp] theorem LaneSt.setGroup_prof (l : LaneSt) (g : Nat) (f : IrqGroup → IrqGroup) : (l.setGroup g f).prof = l.prof := rfl
@[simp] theorem LaneSt.setGroup_sec (l : LaneSt) (g : Nat) (f : IrqGroup → IrqGroup) : (l.setGroup g f).sec = l.sec := rfl
@[simp] theorem LaneSt.setGroup_sio (l : LaneSt) (g : Nat) (f : IrqGroup → IrqGroup) : (l.setGroup g f).sio = l.sio := rfl
@[simp] theorem LaneSt.setGroup_net (l : LaneSt) (g : Nat) (f : IrqGroup → IrqGroup) : (l.setGroup g f).net = l.net := rfl
@[simp] theorem LaneSt.setGroup_mem (l : LaneSt) (g : Nat) (f : IrqGroup → IrqGroup) : (l.setGroup g f).mem = l.mem := rfl
@[simp] theorem LaneSt.setGroup_pwr (l : LaneSt) (g : Nat) (f : IrqGroup → IrqGroup) : (l.setGroup g f).pwr = l.pwr := rfl
@[simp] theorem LaneSt.setGroup_posted (l : LaneSt) (g : Nat) (f : IrqGroup → IrqGroup) : (l.setGroup g f).posted = l.posted := rfl
@[simp] theorem LaneSt.setGroup_free (l : LaneSt) (g : Nat) (f : IrqGroup → IrqGroup) : (l.setGroup g f).free = l.free := rfl

/-! ## setGateCh -/

@[simp] theorem LaneSt.setGateCh_id (l : LaneSt) (n : Nat) (f : GateCh → GateCh) : (l.setGateCh n f).id = l.id := rfl
@[simp] theorem LaneSt.setGateCh_regs (l : LaneSt) (n : Nat) (f : GateCh → GateCh) : (l.setGateCh n f).regs = l.regs := rfl
@[simp] theorem LaneSt.setGateCh_time (l : LaneSt) (n : Nat) (f : GateCh → GateCh) : (l.setGateCh n f).time = l.time := rfl
@[simp] theorem LaneSt.setGateCh_xing (l : LaneSt) (n : Nat) (f : GateCh → GateCh) : (l.setGateCh n f).xing = l.xing := rfl
@[simp] theorem LaneSt.setGateCh_hif (l : LaneSt) (n : Nat) (f : GateCh → GateCh) : (l.setGateCh n f).hif = l.hif := rfl
@[simp] theorem LaneSt.setGateCh_vote (l : LaneSt) (n : Nat) (f : GateCh → GateCh) : (l.setGateCh n f).vote = l.vote := rfl
@[simp] theorem LaneSt.setGateCh_folio (l : LaneSt) (n : Nat) (f : GateCh → GateCh) : (l.setGateCh n f).folio = l.folio := rfl
@[simp] theorem LaneSt.setGateCh_commit (l : LaneSt) (n : Nat) (f : GateCh → GateCh) : (l.setGateCh n f).commit = l.commit := rfl
@[simp] theorem LaneSt.setGateCh_staging (l : LaneSt) (n : Nat) (f : GateCh → GateCh) : (l.setGateCh n f).staging = l.staging := rfl
@[simp] theorem LaneSt.setGateCh_irq (l : LaneSt) (n : Nat) (f : GateCh → GateCh) : (l.setGateCh n f).irq = l.irq := rfl
@[simp] theorem LaneSt.setGateCh_flt (l : LaneSt) (n : Nat) (f : GateCh → GateCh) : (l.setGateCh n f).flt = l.flt := rfl
@[simp] theorem LaneSt.setGateCh_bist (l : LaneSt) (n : Nat) (f : GateCh → GateCh) : (l.setGateCh n f).bist = l.bist := rfl
@[simp] theorem LaneSt.setGateCh_comm (l : LaneSt) (n : Nat) (f : GateCh → GateCh) : (l.setGateCh n f).comm = l.comm := rfl
@[simp] theorem LaneSt.setGateCh_adc (l : LaneSt) (n : Nat) (f : GateCh → GateCh) : (l.setGateCh n f).adc = l.adc := rfl
@[simp] theorem LaneSt.setGateCh_fbk (l : LaneSt) (n : Nat) (f : GateCh → GateCh) : (l.setGateCh n f).fbk = l.fbk := rfl
@[simp] theorem LaneSt.setGateCh_loop (l : LaneSt) (n : Nat) (f : GateCh → GateCh) : (l.setGateCh n f).loop = l.loop := rfl
@[simp] theorem LaneSt.setGateCh_prof (l : LaneSt) (n : Nat) (f : GateCh → GateCh) : (l.setGateCh n f).prof = l.prof := rfl
@[simp] theorem LaneSt.setGateCh_sec (l : LaneSt) (n : Nat) (f : GateCh → GateCh) : (l.setGateCh n f).sec = l.sec := rfl
@[simp] theorem LaneSt.setGateCh_sio (l : LaneSt) (n : Nat) (f : GateCh → GateCh) : (l.setGateCh n f).sio = l.sio := rfl
@[simp] theorem LaneSt.setGateCh_net (l : LaneSt) (n : Nat) (f : GateCh → GateCh) : (l.setGateCh n f).net = l.net := rfl
@[simp] theorem LaneSt.setGateCh_mem (l : LaneSt) (n : Nat) (f : GateCh → GateCh) : (l.setGateCh n f).mem = l.mem := rfl
@[simp] theorem LaneSt.setGateCh_pwr (l : LaneSt) (n : Nat) (f : GateCh → GateCh) : (l.setGateCh n f).pwr = l.pwr := rfl
@[simp] theorem LaneSt.setGateCh_posted (l : LaneSt) (n : Nat) (f : GateCh → GateCh) : (l.setGateCh n f).posted = l.posted := rfl
@[simp] theorem LaneSt.setGateCh_free (l : LaneSt) (n : Nat) (f : GateCh → GateCh) : (l.setGateCh n f).free = l.free := rfl

/-! ## setSio -/

@[simp] theorem LaneSt.setSio_id (l : LaneSt) (f : SioSt → SioSt) : (l.setSio f).id = l.id := rfl
@[simp] theorem LaneSt.setSio_regs (l : LaneSt) (f : SioSt → SioSt) : (l.setSio f).regs = l.regs := rfl
@[simp] theorem LaneSt.setSio_time (l : LaneSt) (f : SioSt → SioSt) : (l.setSio f).time = l.time := rfl
@[simp] theorem LaneSt.setSio_xing (l : LaneSt) (f : SioSt → SioSt) : (l.setSio f).xing = l.xing := rfl
@[simp] theorem LaneSt.setSio_hif (l : LaneSt) (f : SioSt → SioSt) : (l.setSio f).hif = l.hif := rfl
@[simp] theorem LaneSt.setSio_vote (l : LaneSt) (f : SioSt → SioSt) : (l.setSio f).vote = l.vote := rfl
@[simp] theorem LaneSt.setSio_folio (l : LaneSt) (f : SioSt → SioSt) : (l.setSio f).folio = l.folio := rfl
@[simp] theorem LaneSt.setSio_commit (l : LaneSt) (f : SioSt → SioSt) : (l.setSio f).commit = l.commit := rfl
@[simp] theorem LaneSt.setSio_staging (l : LaneSt) (f : SioSt → SioSt) : (l.setSio f).staging = l.staging := rfl
@[simp] theorem LaneSt.setSio_irq (l : LaneSt) (f : SioSt → SioSt) : (l.setSio f).irq = l.irq := rfl
@[simp] theorem LaneSt.setSio_flt (l : LaneSt) (f : SioSt → SioSt) : (l.setSio f).flt = l.flt := rfl
@[simp] theorem LaneSt.setSio_bist (l : LaneSt) (f : SioSt → SioSt) : (l.setSio f).bist = l.bist := rfl
@[simp] theorem LaneSt.setSio_comm (l : LaneSt) (f : SioSt → SioSt) : (l.setSio f).comm = l.comm := rfl
@[simp] theorem LaneSt.setSio_gate (l : LaneSt) (f : SioSt → SioSt) : (l.setSio f).gate = l.gate := rfl
@[simp] theorem LaneSt.setSio_adc (l : LaneSt) (f : SioSt → SioSt) : (l.setSio f).adc = l.adc := rfl
@[simp] theorem LaneSt.setSio_fbk (l : LaneSt) (f : SioSt → SioSt) : (l.setSio f).fbk = l.fbk := rfl
@[simp] theorem LaneSt.setSio_loop (l : LaneSt) (f : SioSt → SioSt) : (l.setSio f).loop = l.loop := rfl
@[simp] theorem LaneSt.setSio_prof (l : LaneSt) (f : SioSt → SioSt) : (l.setSio f).prof = l.prof := rfl
@[simp] theorem LaneSt.setSio_sec (l : LaneSt) (f : SioSt → SioSt) : (l.setSio f).sec = l.sec := rfl
@[simp] theorem LaneSt.setSio_net (l : LaneSt) (f : SioSt → SioSt) : (l.setSio f).net = l.net := rfl
@[simp] theorem LaneSt.setSio_mem (l : LaneSt) (f : SioSt → SioSt) : (l.setSio f).mem = l.mem := rfl
@[simp] theorem LaneSt.setSio_pwr (l : LaneSt) (f : SioSt → SioSt) : (l.setSio f).pwr = l.pwr := rfl
@[simp] theorem LaneSt.setSio_posted (l : LaneSt) (f : SioSt → SioSt) : (l.setSio f).posted = l.posted := rfl
@[simp] theorem LaneSt.setSio_free (l : LaneSt) (f : SioSt → SioSt) : (l.setSio f).free = l.free := rfl

/-! ## setNet -/

@[simp] theorem LaneSt.setNet_id (l : LaneSt) (f : NetSt → NetSt) : (l.setNet f).id = l.id := rfl
@[simp] theorem LaneSt.setNet_regs (l : LaneSt) (f : NetSt → NetSt) : (l.setNet f).regs = l.regs := rfl
@[simp] theorem LaneSt.setNet_time (l : LaneSt) (f : NetSt → NetSt) : (l.setNet f).time = l.time := rfl
@[simp] theorem LaneSt.setNet_xing (l : LaneSt) (f : NetSt → NetSt) : (l.setNet f).xing = l.xing := rfl
@[simp] theorem LaneSt.setNet_hif (l : LaneSt) (f : NetSt → NetSt) : (l.setNet f).hif = l.hif := rfl
@[simp] theorem LaneSt.setNet_vote (l : LaneSt) (f : NetSt → NetSt) : (l.setNet f).vote = l.vote := rfl
@[simp] theorem LaneSt.setNet_folio (l : LaneSt) (f : NetSt → NetSt) : (l.setNet f).folio = l.folio := rfl
@[simp] theorem LaneSt.setNet_commit (l : LaneSt) (f : NetSt → NetSt) : (l.setNet f).commit = l.commit := rfl
@[simp] theorem LaneSt.setNet_staging (l : LaneSt) (f : NetSt → NetSt) : (l.setNet f).staging = l.staging := rfl
@[simp] theorem LaneSt.setNet_irq (l : LaneSt) (f : NetSt → NetSt) : (l.setNet f).irq = l.irq := rfl
@[simp] theorem LaneSt.setNet_flt (l : LaneSt) (f : NetSt → NetSt) : (l.setNet f).flt = l.flt := rfl
@[simp] theorem LaneSt.setNet_bist (l : LaneSt) (f : NetSt → NetSt) : (l.setNet f).bist = l.bist := rfl
@[simp] theorem LaneSt.setNet_comm (l : LaneSt) (f : NetSt → NetSt) : (l.setNet f).comm = l.comm := rfl
@[simp] theorem LaneSt.setNet_gate (l : LaneSt) (f : NetSt → NetSt) : (l.setNet f).gate = l.gate := rfl
@[simp] theorem LaneSt.setNet_adc (l : LaneSt) (f : NetSt → NetSt) : (l.setNet f).adc = l.adc := rfl
@[simp] theorem LaneSt.setNet_fbk (l : LaneSt) (f : NetSt → NetSt) : (l.setNet f).fbk = l.fbk := rfl
@[simp] theorem LaneSt.setNet_loop (l : LaneSt) (f : NetSt → NetSt) : (l.setNet f).loop = l.loop := rfl
@[simp] theorem LaneSt.setNet_prof (l : LaneSt) (f : NetSt → NetSt) : (l.setNet f).prof = l.prof := rfl
@[simp] theorem LaneSt.setNet_sec (l : LaneSt) (f : NetSt → NetSt) : (l.setNet f).sec = l.sec := rfl
@[simp] theorem LaneSt.setNet_sio (l : LaneSt) (f : NetSt → NetSt) : (l.setNet f).sio = l.sio := rfl
@[simp] theorem LaneSt.setNet_mem (l : LaneSt) (f : NetSt → NetSt) : (l.setNet f).mem = l.mem := rfl
@[simp] theorem LaneSt.setNet_pwr (l : LaneSt) (f : NetSt → NetSt) : (l.setNet f).pwr = l.pwr := rfl
@[simp] theorem LaneSt.setNet_posted (l : LaneSt) (f : NetSt → NetSt) : (l.setNet f).posted = l.posted := rfl
@[simp] theorem LaneSt.setNet_free (l : LaneSt) (f : NetSt → NetSt) : (l.setNet f).free = l.free := rfl

/-! ## setMem -/

@[simp] theorem LaneSt.setMem_id (l : LaneSt) (f : MemSt → MemSt) : (l.setMem f).id = l.id := rfl
@[simp] theorem LaneSt.setMem_regs (l : LaneSt) (f : MemSt → MemSt) : (l.setMem f).regs = l.regs := rfl
@[simp] theorem LaneSt.setMem_time (l : LaneSt) (f : MemSt → MemSt) : (l.setMem f).time = l.time := rfl
@[simp] theorem LaneSt.setMem_xing (l : LaneSt) (f : MemSt → MemSt) : (l.setMem f).xing = l.xing := rfl
@[simp] theorem LaneSt.setMem_hif (l : LaneSt) (f : MemSt → MemSt) : (l.setMem f).hif = l.hif := rfl
@[simp] theorem LaneSt.setMem_vote (l : LaneSt) (f : MemSt → MemSt) : (l.setMem f).vote = l.vote := rfl
@[simp] theorem LaneSt.setMem_folio (l : LaneSt) (f : MemSt → MemSt) : (l.setMem f).folio = l.folio := rfl
@[simp] theorem LaneSt.setMem_commit (l : LaneSt) (f : MemSt → MemSt) : (l.setMem f).commit = l.commit := rfl
@[simp] theorem LaneSt.setMem_staging (l : LaneSt) (f : MemSt → MemSt) : (l.setMem f).staging = l.staging := rfl
@[simp] theorem LaneSt.setMem_irq (l : LaneSt) (f : MemSt → MemSt) : (l.setMem f).irq = l.irq := rfl
@[simp] theorem LaneSt.setMem_flt (l : LaneSt) (f : MemSt → MemSt) : (l.setMem f).flt = l.flt := rfl
@[simp] theorem LaneSt.setMem_bist (l : LaneSt) (f : MemSt → MemSt) : (l.setMem f).bist = l.bist := rfl
@[simp] theorem LaneSt.setMem_comm (l : LaneSt) (f : MemSt → MemSt) : (l.setMem f).comm = l.comm := rfl
@[simp] theorem LaneSt.setMem_gate (l : LaneSt) (f : MemSt → MemSt) : (l.setMem f).gate = l.gate := rfl
@[simp] theorem LaneSt.setMem_adc (l : LaneSt) (f : MemSt → MemSt) : (l.setMem f).adc = l.adc := rfl
@[simp] theorem LaneSt.setMem_fbk (l : LaneSt) (f : MemSt → MemSt) : (l.setMem f).fbk = l.fbk := rfl
@[simp] theorem LaneSt.setMem_loop (l : LaneSt) (f : MemSt → MemSt) : (l.setMem f).loop = l.loop := rfl
@[simp] theorem LaneSt.setMem_prof (l : LaneSt) (f : MemSt → MemSt) : (l.setMem f).prof = l.prof := rfl
@[simp] theorem LaneSt.setMem_sec (l : LaneSt) (f : MemSt → MemSt) : (l.setMem f).sec = l.sec := rfl
@[simp] theorem LaneSt.setMem_sio (l : LaneSt) (f : MemSt → MemSt) : (l.setMem f).sio = l.sio := rfl
@[simp] theorem LaneSt.setMem_net (l : LaneSt) (f : MemSt → MemSt) : (l.setMem f).net = l.net := rfl
@[simp] theorem LaneSt.setMem_pwr (l : LaneSt) (f : MemSt → MemSt) : (l.setMem f).pwr = l.pwr := rfl
@[simp] theorem LaneSt.setMem_posted (l : LaneSt) (f : MemSt → MemSt) : (l.setMem f).posted = l.posted := rfl
@[simp] theorem LaneSt.setMem_free (l : LaneSt) (f : MemSt → MemSt) : (l.setMem f).free = l.free := rfl

/-! ## setBist -/

@[simp] theorem LaneSt.setBist_id (l : LaneSt) (f : BistSt → BistSt) : (l.setBist f).id = l.id := rfl
@[simp] theorem LaneSt.setBist_regs (l : LaneSt) (f : BistSt → BistSt) : (l.setBist f).regs = l.regs := rfl
@[simp] theorem LaneSt.setBist_time (l : LaneSt) (f : BistSt → BistSt) : (l.setBist f).time = l.time := rfl
@[simp] theorem LaneSt.setBist_xing (l : LaneSt) (f : BistSt → BistSt) : (l.setBist f).xing = l.xing := rfl
@[simp] theorem LaneSt.setBist_hif (l : LaneSt) (f : BistSt → BistSt) : (l.setBist f).hif = l.hif := rfl
@[simp] theorem LaneSt.setBist_vote (l : LaneSt) (f : BistSt → BistSt) : (l.setBist f).vote = l.vote := rfl
@[simp] theorem LaneSt.setBist_folio (l : LaneSt) (f : BistSt → BistSt) : (l.setBist f).folio = l.folio := rfl
@[simp] theorem LaneSt.setBist_commit (l : LaneSt) (f : BistSt → BistSt) : (l.setBist f).commit = l.commit := rfl
@[simp] theorem LaneSt.setBist_staging (l : LaneSt) (f : BistSt → BistSt) : (l.setBist f).staging = l.staging := rfl
@[simp] theorem LaneSt.setBist_irq (l : LaneSt) (f : BistSt → BistSt) : (l.setBist f).irq = l.irq := rfl
@[simp] theorem LaneSt.setBist_flt (l : LaneSt) (f : BistSt → BistSt) : (l.setBist f).flt = l.flt := rfl
@[simp] theorem LaneSt.setBist_comm (l : LaneSt) (f : BistSt → BistSt) : (l.setBist f).comm = l.comm := rfl
@[simp] theorem LaneSt.setBist_gate (l : LaneSt) (f : BistSt → BistSt) : (l.setBist f).gate = l.gate := rfl
@[simp] theorem LaneSt.setBist_adc (l : LaneSt) (f : BistSt → BistSt) : (l.setBist f).adc = l.adc := rfl
@[simp] theorem LaneSt.setBist_fbk (l : LaneSt) (f : BistSt → BistSt) : (l.setBist f).fbk = l.fbk := rfl
@[simp] theorem LaneSt.setBist_loop (l : LaneSt) (f : BistSt → BistSt) : (l.setBist f).loop = l.loop := rfl
@[simp] theorem LaneSt.setBist_prof (l : LaneSt) (f : BistSt → BistSt) : (l.setBist f).prof = l.prof := rfl
@[simp] theorem LaneSt.setBist_sec (l : LaneSt) (f : BistSt → BistSt) : (l.setBist f).sec = l.sec := rfl
@[simp] theorem LaneSt.setBist_sio (l : LaneSt) (f : BistSt → BistSt) : (l.setBist f).sio = l.sio := rfl
@[simp] theorem LaneSt.setBist_net (l : LaneSt) (f : BistSt → BistSt) : (l.setBist f).net = l.net := rfl
@[simp] theorem LaneSt.setBist_mem (l : LaneSt) (f : BistSt → BistSt) : (l.setBist f).mem = l.mem := rfl
@[simp] theorem LaneSt.setBist_pwr (l : LaneSt) (f : BistSt → BistSt) : (l.setBist f).pwr = l.pwr := rfl
@[simp] theorem LaneSt.setBist_posted (l : LaneSt) (f : BistSt → BistSt) : (l.setBist f).posted = l.posted := rfl
@[simp] theorem LaneSt.setBist_free (l : LaneSt) (f : BistSt → BistSt) : (l.setBist f).free = l.free := rfl

/-! ## setPort -/

@[simp] theorem LaneSt.setPort_id (l : LaneSt) (p : Nat) (f : FbkPort → FbkPort) : (l.setPort p f).id = l.id := rfl
@[simp] theorem LaneSt.setPort_regs (l : LaneSt) (p : Nat) (f : FbkPort → FbkPort) : (l.setPort p f).regs = l.regs := rfl
@[simp] theorem LaneSt.setPort_time (l : LaneSt) (p : Nat) (f : FbkPort → FbkPort) : (l.setPort p f).time = l.time := rfl
@[simp] theorem LaneSt.setPort_xing (l : LaneSt) (p : Nat) (f : FbkPort → FbkPort) : (l.setPort p f).xing = l.xing := rfl
@[simp] theorem LaneSt.setPort_hif (l : LaneSt) (p : Nat) (f : FbkPort → FbkPort) : (l.setPort p f).hif = l.hif := rfl
@[simp] theorem LaneSt.setPort_vote (l : LaneSt) (p : Nat) (f : FbkPort → FbkPort) : (l.setPort p f).vote = l.vote := rfl
@[simp] theorem LaneSt.setPort_folio (l : LaneSt) (p : Nat) (f : FbkPort → FbkPort) : (l.setPort p f).folio = l.folio := rfl
@[simp] theorem LaneSt.setPort_commit (l : LaneSt) (p : Nat) (f : FbkPort → FbkPort) : (l.setPort p f).commit = l.commit := rfl
@[simp] theorem LaneSt.setPort_staging (l : LaneSt) (p : Nat) (f : FbkPort → FbkPort) : (l.setPort p f).staging = l.staging := rfl
@[simp] theorem LaneSt.setPort_irq (l : LaneSt) (p : Nat) (f : FbkPort → FbkPort) : (l.setPort p f).irq = l.irq := rfl
@[simp] theorem LaneSt.setPort_flt (l : LaneSt) (p : Nat) (f : FbkPort → FbkPort) : (l.setPort p f).flt = l.flt := rfl
@[simp] theorem LaneSt.setPort_bist (l : LaneSt) (p : Nat) (f : FbkPort → FbkPort) : (l.setPort p f).bist = l.bist := rfl
@[simp] theorem LaneSt.setPort_comm (l : LaneSt) (p : Nat) (f : FbkPort → FbkPort) : (l.setPort p f).comm = l.comm := rfl
@[simp] theorem LaneSt.setPort_gate (l : LaneSt) (p : Nat) (f : FbkPort → FbkPort) : (l.setPort p f).gate = l.gate := rfl
@[simp] theorem LaneSt.setPort_adc (l : LaneSt) (p : Nat) (f : FbkPort → FbkPort) : (l.setPort p f).adc = l.adc := rfl
@[simp] theorem LaneSt.setPort_loop (l : LaneSt) (p : Nat) (f : FbkPort → FbkPort) : (l.setPort p f).loop = l.loop := rfl
@[simp] theorem LaneSt.setPort_prof (l : LaneSt) (p : Nat) (f : FbkPort → FbkPort) : (l.setPort p f).prof = l.prof := rfl
@[simp] theorem LaneSt.setPort_sec (l : LaneSt) (p : Nat) (f : FbkPort → FbkPort) : (l.setPort p f).sec = l.sec := rfl
@[simp] theorem LaneSt.setPort_sio (l : LaneSt) (p : Nat) (f : FbkPort → FbkPort) : (l.setPort p f).sio = l.sio := rfl
@[simp] theorem LaneSt.setPort_net (l : LaneSt) (p : Nat) (f : FbkPort → FbkPort) : (l.setPort p f).net = l.net := rfl
@[simp] theorem LaneSt.setPort_mem (l : LaneSt) (p : Nat) (f : FbkPort → FbkPort) : (l.setPort p f).mem = l.mem := rfl
@[simp] theorem LaneSt.setPort_pwr (l : LaneSt) (p : Nat) (f : FbkPort → FbkPort) : (l.setPort p f).pwr = l.pwr := rfl
@[simp] theorem LaneSt.setPort_posted (l : LaneSt) (p : Nat) (f : FbkPort → FbkPort) : (l.setPort p f).posted = l.posted := rfl
@[simp] theorem LaneSt.setPort_free (l : LaneSt) (p : Nat) (f : FbkPort → FbkPort) : (l.setPort p f).free = l.free := rfl

/-! ## setAng -/

@[simp] theorem LaneSt.setAng_id (l : LaneSt) (n : Nat) (f : AngSt → AngSt) : (l.setAng n f).id = l.id := rfl
@[simp] theorem LaneSt.setAng_regs (l : LaneSt) (n : Nat) (f : AngSt → AngSt) : (l.setAng n f).regs = l.regs := rfl
@[simp] theorem LaneSt.setAng_time (l : LaneSt) (n : Nat) (f : AngSt → AngSt) : (l.setAng n f).time = l.time := rfl
@[simp] theorem LaneSt.setAng_xing (l : LaneSt) (n : Nat) (f : AngSt → AngSt) : (l.setAng n f).xing = l.xing := rfl
@[simp] theorem LaneSt.setAng_hif (l : LaneSt) (n : Nat) (f : AngSt → AngSt) : (l.setAng n f).hif = l.hif := rfl
@[simp] theorem LaneSt.setAng_vote (l : LaneSt) (n : Nat) (f : AngSt → AngSt) : (l.setAng n f).vote = l.vote := rfl
@[simp] theorem LaneSt.setAng_folio (l : LaneSt) (n : Nat) (f : AngSt → AngSt) : (l.setAng n f).folio = l.folio := rfl
@[simp] theorem LaneSt.setAng_commit (l : LaneSt) (n : Nat) (f : AngSt → AngSt) : (l.setAng n f).commit = l.commit := rfl
@[simp] theorem LaneSt.setAng_staging (l : LaneSt) (n : Nat) (f : AngSt → AngSt) : (l.setAng n f).staging = l.staging := rfl
@[simp] theorem LaneSt.setAng_irq (l : LaneSt) (n : Nat) (f : AngSt → AngSt) : (l.setAng n f).irq = l.irq := rfl
@[simp] theorem LaneSt.setAng_flt (l : LaneSt) (n : Nat) (f : AngSt → AngSt) : (l.setAng n f).flt = l.flt := rfl
@[simp] theorem LaneSt.setAng_bist (l : LaneSt) (n : Nat) (f : AngSt → AngSt) : (l.setAng n f).bist = l.bist := rfl
@[simp] theorem LaneSt.setAng_comm (l : LaneSt) (n : Nat) (f : AngSt → AngSt) : (l.setAng n f).comm = l.comm := rfl
@[simp] theorem LaneSt.setAng_gate (l : LaneSt) (n : Nat) (f : AngSt → AngSt) : (l.setAng n f).gate = l.gate := rfl
@[simp] theorem LaneSt.setAng_adc (l : LaneSt) (n : Nat) (f : AngSt → AngSt) : (l.setAng n f).adc = l.adc := rfl
@[simp] theorem LaneSt.setAng_fbk (l : LaneSt) (n : Nat) (f : AngSt → AngSt) : (l.setAng n f).fbk = l.fbk := rfl
@[simp] theorem LaneSt.setAng_prof (l : LaneSt) (n : Nat) (f : AngSt → AngSt) : (l.setAng n f).prof = l.prof := rfl
@[simp] theorem LaneSt.setAng_sec (l : LaneSt) (n : Nat) (f : AngSt → AngSt) : (l.setAng n f).sec = l.sec := rfl
@[simp] theorem LaneSt.setAng_sio (l : LaneSt) (n : Nat) (f : AngSt → AngSt) : (l.setAng n f).sio = l.sio := rfl
@[simp] theorem LaneSt.setAng_net (l : LaneSt) (n : Nat) (f : AngSt → AngSt) : (l.setAng n f).net = l.net := rfl
@[simp] theorem LaneSt.setAng_mem (l : LaneSt) (n : Nat) (f : AngSt → AngSt) : (l.setAng n f).mem = l.mem := rfl
@[simp] theorem LaneSt.setAng_pwr (l : LaneSt) (n : Nat) (f : AngSt → AngSt) : (l.setAng n f).pwr = l.pwr := rfl
@[simp] theorem LaneSt.setAng_posted (l : LaneSt) (n : Nat) (f : AngSt → AngSt) : (l.setAng n f).posted = l.posted := rfl
@[simp] theorem LaneSt.setAng_free (l : LaneSt) (n : Nat) (f : AngSt → AngSt) : (l.setAng n f).free = l.free := rfl

/-! ## setComm -/

@[simp] theorem LaneSt.setComm_id (l : LaneSt) (n : Nat) (f : CommCh → CommCh) : (l.setComm n f).id = l.id := rfl
@[simp] theorem LaneSt.setComm_regs (l : LaneSt) (n : Nat) (f : CommCh → CommCh) : (l.setComm n f).regs = l.regs := rfl
@[simp] theorem LaneSt.setComm_time (l : LaneSt) (n : Nat) (f : CommCh → CommCh) : (l.setComm n f).time = l.time := rfl
@[simp] theorem LaneSt.setComm_xing (l : LaneSt) (n : Nat) (f : CommCh → CommCh) : (l.setComm n f).xing = l.xing := rfl
@[simp] theorem LaneSt.setComm_hif (l : LaneSt) (n : Nat) (f : CommCh → CommCh) : (l.setComm n f).hif = l.hif := rfl
@[simp] theorem LaneSt.setComm_vote (l : LaneSt) (n : Nat) (f : CommCh → CommCh) : (l.setComm n f).vote = l.vote := rfl
@[simp] theorem LaneSt.setComm_folio (l : LaneSt) (n : Nat) (f : CommCh → CommCh) : (l.setComm n f).folio = l.folio := rfl
@[simp] theorem LaneSt.setComm_commit (l : LaneSt) (n : Nat) (f : CommCh → CommCh) : (l.setComm n f).commit = l.commit := rfl
@[simp] theorem LaneSt.setComm_staging (l : LaneSt) (n : Nat) (f : CommCh → CommCh) : (l.setComm n f).staging = l.staging := rfl
@[simp] theorem LaneSt.setComm_irq (l : LaneSt) (n : Nat) (f : CommCh → CommCh) : (l.setComm n f).irq = l.irq := rfl
@[simp] theorem LaneSt.setComm_flt (l : LaneSt) (n : Nat) (f : CommCh → CommCh) : (l.setComm n f).flt = l.flt := rfl
@[simp] theorem LaneSt.setComm_bist (l : LaneSt) (n : Nat) (f : CommCh → CommCh) : (l.setComm n f).bist = l.bist := rfl
@[simp] theorem LaneSt.setComm_gate (l : LaneSt) (n : Nat) (f : CommCh → CommCh) : (l.setComm n f).gate = l.gate := rfl
@[simp] theorem LaneSt.setComm_adc (l : LaneSt) (n : Nat) (f : CommCh → CommCh) : (l.setComm n f).adc = l.adc := rfl
@[simp] theorem LaneSt.setComm_fbk (l : LaneSt) (n : Nat) (f : CommCh → CommCh) : (l.setComm n f).fbk = l.fbk := rfl
@[simp] theorem LaneSt.setComm_loop (l : LaneSt) (n : Nat) (f : CommCh → CommCh) : (l.setComm n f).loop = l.loop := rfl
@[simp] theorem LaneSt.setComm_prof (l : LaneSt) (n : Nat) (f : CommCh → CommCh) : (l.setComm n f).prof = l.prof := rfl
@[simp] theorem LaneSt.setComm_sec (l : LaneSt) (n : Nat) (f : CommCh → CommCh) : (l.setComm n f).sec = l.sec := rfl
@[simp] theorem LaneSt.setComm_sio (l : LaneSt) (n : Nat) (f : CommCh → CommCh) : (l.setComm n f).sio = l.sio := rfl
@[simp] theorem LaneSt.setComm_net (l : LaneSt) (n : Nat) (f : CommCh → CommCh) : (l.setComm n f).net = l.net := rfl
@[simp] theorem LaneSt.setComm_mem (l : LaneSt) (n : Nat) (f : CommCh → CommCh) : (l.setComm n f).mem = l.mem := rfl
@[simp] theorem LaneSt.setComm_pwr (l : LaneSt) (n : Nat) (f : CommCh → CommCh) : (l.setComm n f).pwr = l.pwr := rfl
@[simp] theorem LaneSt.setComm_posted (l : LaneSt) (n : Nat) (f : CommCh → CommCh) : (l.setComm n f).posted = l.posted := rfl
@[simp] theorem LaneSt.setComm_free (l : LaneSt) (n : Nat) (f : CommCh → CommCh) : (l.setComm n f).free = l.free := rfl

/-! ## setSlot -/

@[simp] theorem LaneSt.setSlot_id (l : LaneSt) (n : Nat) (f : SlotSt → SlotSt) : (l.setSlot n f).id = l.id := rfl
@[simp] theorem LaneSt.setSlot_regs (l : LaneSt) (n : Nat) (f : SlotSt → SlotSt) : (l.setSlot n f).regs = l.regs := rfl
@[simp] theorem LaneSt.setSlot_time (l : LaneSt) (n : Nat) (f : SlotSt → SlotSt) : (l.setSlot n f).time = l.time := rfl
@[simp] theorem LaneSt.setSlot_xing (l : LaneSt) (n : Nat) (f : SlotSt → SlotSt) : (l.setSlot n f).xing = l.xing := rfl
@[simp] theorem LaneSt.setSlot_hif (l : LaneSt) (n : Nat) (f : SlotSt → SlotSt) : (l.setSlot n f).hif = l.hif := rfl
@[simp] theorem LaneSt.setSlot_vote (l : LaneSt) (n : Nat) (f : SlotSt → SlotSt) : (l.setSlot n f).vote = l.vote := rfl
@[simp] theorem LaneSt.setSlot_folio (l : LaneSt) (n : Nat) (f : SlotSt → SlotSt) : (l.setSlot n f).folio = l.folio := rfl
@[simp] theorem LaneSt.setSlot_commit (l : LaneSt) (n : Nat) (f : SlotSt → SlotSt) : (l.setSlot n f).commit = l.commit := rfl
@[simp] theorem LaneSt.setSlot_staging (l : LaneSt) (n : Nat) (f : SlotSt → SlotSt) : (l.setSlot n f).staging = l.staging := rfl
@[simp] theorem LaneSt.setSlot_irq (l : LaneSt) (n : Nat) (f : SlotSt → SlotSt) : (l.setSlot n f).irq = l.irq := rfl
@[simp] theorem LaneSt.setSlot_flt (l : LaneSt) (n : Nat) (f : SlotSt → SlotSt) : (l.setSlot n f).flt = l.flt := rfl
@[simp] theorem LaneSt.setSlot_bist (l : LaneSt) (n : Nat) (f : SlotSt → SlotSt) : (l.setSlot n f).bist = l.bist := rfl
@[simp] theorem LaneSt.setSlot_comm (l : LaneSt) (n : Nat) (f : SlotSt → SlotSt) : (l.setSlot n f).comm = l.comm := rfl
@[simp] theorem LaneSt.setSlot_gate (l : LaneSt) (n : Nat) (f : SlotSt → SlotSt) : (l.setSlot n f).gate = l.gate := rfl
@[simp] theorem LaneSt.setSlot_adc (l : LaneSt) (n : Nat) (f : SlotSt → SlotSt) : (l.setSlot n f).adc = l.adc := rfl
@[simp] theorem LaneSt.setSlot_fbk (l : LaneSt) (n : Nat) (f : SlotSt → SlotSt) : (l.setSlot n f).fbk = l.fbk := rfl
@[simp] theorem LaneSt.setSlot_prof (l : LaneSt) (n : Nat) (f : SlotSt → SlotSt) : (l.setSlot n f).prof = l.prof := rfl
@[simp] theorem LaneSt.setSlot_sec (l : LaneSt) (n : Nat) (f : SlotSt → SlotSt) : (l.setSlot n f).sec = l.sec := rfl
@[simp] theorem LaneSt.setSlot_sio (l : LaneSt) (n : Nat) (f : SlotSt → SlotSt) : (l.setSlot n f).sio = l.sio := rfl
@[simp] theorem LaneSt.setSlot_net (l : LaneSt) (n : Nat) (f : SlotSt → SlotSt) : (l.setSlot n f).net = l.net := rfl
@[simp] theorem LaneSt.setSlot_mem (l : LaneSt) (n : Nat) (f : SlotSt → SlotSt) : (l.setSlot n f).mem = l.mem := rfl
@[simp] theorem LaneSt.setSlot_pwr (l : LaneSt) (n : Nat) (f : SlotSt → SlotSt) : (l.setSlot n f).pwr = l.pwr := rfl
@[simp] theorem LaneSt.setSlot_posted (l : LaneSt) (n : Nat) (f : SlotSt → SlotSt) : (l.setSlot n f).posted = l.posted := rfl
@[simp] theorem LaneSt.setSlot_free (l : LaneSt) (n : Nat) (f : SlotSt → SlotSt) : (l.setSlot n f).free = l.free := rfl

/-! ## setPg -/

@[simp] theorem LaneSt.setPg_id (l : LaneSt) (g : Nat) (f : PgSt → PgSt) : (l.setPg g f).id = l.id := rfl
@[simp] theorem LaneSt.setPg_regs (l : LaneSt) (g : Nat) (f : PgSt → PgSt) : (l.setPg g f).regs = l.regs := rfl
@[simp] theorem LaneSt.setPg_time (l : LaneSt) (g : Nat) (f : PgSt → PgSt) : (l.setPg g f).time = l.time := rfl
@[simp] theorem LaneSt.setPg_xing (l : LaneSt) (g : Nat) (f : PgSt → PgSt) : (l.setPg g f).xing = l.xing := rfl
@[simp] theorem LaneSt.setPg_hif (l : LaneSt) (g : Nat) (f : PgSt → PgSt) : (l.setPg g f).hif = l.hif := rfl
@[simp] theorem LaneSt.setPg_vote (l : LaneSt) (g : Nat) (f : PgSt → PgSt) : (l.setPg g f).vote = l.vote := rfl
@[simp] theorem LaneSt.setPg_folio (l : LaneSt) (g : Nat) (f : PgSt → PgSt) : (l.setPg g f).folio = l.folio := rfl
@[simp] theorem LaneSt.setPg_commit (l : LaneSt) (g : Nat) (f : PgSt → PgSt) : (l.setPg g f).commit = l.commit := rfl
@[simp] theorem LaneSt.setPg_staging (l : LaneSt) (g : Nat) (f : PgSt → PgSt) : (l.setPg g f).staging = l.staging := rfl
@[simp] theorem LaneSt.setPg_irq (l : LaneSt) (g : Nat) (f : PgSt → PgSt) : (l.setPg g f).irq = l.irq := rfl
@[simp] theorem LaneSt.setPg_flt (l : LaneSt) (g : Nat) (f : PgSt → PgSt) : (l.setPg g f).flt = l.flt := rfl
@[simp] theorem LaneSt.setPg_bist (l : LaneSt) (g : Nat) (f : PgSt → PgSt) : (l.setPg g f).bist = l.bist := rfl
@[simp] theorem LaneSt.setPg_comm (l : LaneSt) (g : Nat) (f : PgSt → PgSt) : (l.setPg g f).comm = l.comm := rfl
@[simp] theorem LaneSt.setPg_gate (l : LaneSt) (g : Nat) (f : PgSt → PgSt) : (l.setPg g f).gate = l.gate := rfl
@[simp] theorem LaneSt.setPg_adc (l : LaneSt) (g : Nat) (f : PgSt → PgSt) : (l.setPg g f).adc = l.adc := rfl
@[simp] theorem LaneSt.setPg_fbk (l : LaneSt) (g : Nat) (f : PgSt → PgSt) : (l.setPg g f).fbk = l.fbk := rfl
@[simp] theorem LaneSt.setPg_loop (l : LaneSt) (g : Nat) (f : PgSt → PgSt) : (l.setPg g f).loop = l.loop := rfl
@[simp] theorem LaneSt.setPg_sec (l : LaneSt) (g : Nat) (f : PgSt → PgSt) : (l.setPg g f).sec = l.sec := rfl
@[simp] theorem LaneSt.setPg_sio (l : LaneSt) (g : Nat) (f : PgSt → PgSt) : (l.setPg g f).sio = l.sio := rfl
@[simp] theorem LaneSt.setPg_net (l : LaneSt) (g : Nat) (f : PgSt → PgSt) : (l.setPg g f).net = l.net := rfl
@[simp] theorem LaneSt.setPg_mem (l : LaneSt) (g : Nat) (f : PgSt → PgSt) : (l.setPg g f).mem = l.mem := rfl
@[simp] theorem LaneSt.setPg_pwr (l : LaneSt) (g : Nat) (f : PgSt → PgSt) : (l.setPg g f).pwr = l.pwr := rfl
@[simp] theorem LaneSt.setPg_posted (l : LaneSt) (g : Nat) (f : PgSt → PgSt) : (l.setPg g f).posted = l.posted := rfl
@[simp] theorem LaneSt.setPg_free (l : LaneSt) (g : Nat) (f : PgSt → PgSt) : (l.setPg g f).free = l.free := rfl

/-! ## setYw -/

@[simp] theorem LaneSt.setYw_id (l : LaneSt) (s : Nat) (f : YwSess → YwSess) : (l.setYw s f).id = l.id := rfl
@[simp] theorem LaneSt.setYw_regs (l : LaneSt) (s : Nat) (f : YwSess → YwSess) : (l.setYw s f).regs = l.regs := rfl
@[simp] theorem LaneSt.setYw_time (l : LaneSt) (s : Nat) (f : YwSess → YwSess) : (l.setYw s f).time = l.time := rfl
@[simp] theorem LaneSt.setYw_xing (l : LaneSt) (s : Nat) (f : YwSess → YwSess) : (l.setYw s f).xing = l.xing := rfl
@[simp] theorem LaneSt.setYw_hif (l : LaneSt) (s : Nat) (f : YwSess → YwSess) : (l.setYw s f).hif = l.hif := rfl
@[simp] theorem LaneSt.setYw_vote (l : LaneSt) (s : Nat) (f : YwSess → YwSess) : (l.setYw s f).vote = l.vote := rfl
@[simp] theorem LaneSt.setYw_folio (l : LaneSt) (s : Nat) (f : YwSess → YwSess) : (l.setYw s f).folio = l.folio := rfl
@[simp] theorem LaneSt.setYw_commit (l : LaneSt) (s : Nat) (f : YwSess → YwSess) : (l.setYw s f).commit = l.commit := rfl
@[simp] theorem LaneSt.setYw_staging (l : LaneSt) (s : Nat) (f : YwSess → YwSess) : (l.setYw s f).staging = l.staging := rfl
@[simp] theorem LaneSt.setYw_irq (l : LaneSt) (s : Nat) (f : YwSess → YwSess) : (l.setYw s f).irq = l.irq := rfl
@[simp] theorem LaneSt.setYw_flt (l : LaneSt) (s : Nat) (f : YwSess → YwSess) : (l.setYw s f).flt = l.flt := rfl
@[simp] theorem LaneSt.setYw_bist (l : LaneSt) (s : Nat) (f : YwSess → YwSess) : (l.setYw s f).bist = l.bist := rfl
@[simp] theorem LaneSt.setYw_comm (l : LaneSt) (s : Nat) (f : YwSess → YwSess) : (l.setYw s f).comm = l.comm := rfl
@[simp] theorem LaneSt.setYw_gate (l : LaneSt) (s : Nat) (f : YwSess → YwSess) : (l.setYw s f).gate = l.gate := rfl
@[simp] theorem LaneSt.setYw_adc (l : LaneSt) (s : Nat) (f : YwSess → YwSess) : (l.setYw s f).adc = l.adc := rfl
@[simp] theorem LaneSt.setYw_fbk (l : LaneSt) (s : Nat) (f : YwSess → YwSess) : (l.setYw s f).fbk = l.fbk := rfl
@[simp] theorem LaneSt.setYw_loop (l : LaneSt) (s : Nat) (f : YwSess → YwSess) : (l.setYw s f).loop = l.loop := rfl
@[simp] theorem LaneSt.setYw_prof (l : LaneSt) (s : Nat) (f : YwSess → YwSess) : (l.setYw s f).prof = l.prof := rfl
@[simp] theorem LaneSt.setYw_sec (l : LaneSt) (s : Nat) (f : YwSess → YwSess) : (l.setYw s f).sec = l.sec := rfl
@[simp] theorem LaneSt.setYw_sio (l : LaneSt) (s : Nat) (f : YwSess → YwSess) : (l.setYw s f).sio = l.sio := rfl
@[simp] theorem LaneSt.setYw_mem (l : LaneSt) (s : Nat) (f : YwSess → YwSess) : (l.setYw s f).mem = l.mem := rfl
@[simp] theorem LaneSt.setYw_pwr (l : LaneSt) (s : Nat) (f : YwSess → YwSess) : (l.setYw s f).pwr = l.pwr := rfl
@[simp] theorem LaneSt.setYw_posted (l : LaneSt) (s : Nat) (f : YwSess → YwSess) : (l.setYw s f).posted = l.posted := rfl
@[simp] theorem LaneSt.setYw_free (l : LaneSt) (s : Nat) (f : YwSess → YwSess) : (l.setYw s f).free = l.free := rfl

/-! ## setCommit -/

@[simp] theorem LaneSt.setCommit_id (l : LaneSt) (f : Commit → Commit) : (l.setCommit f).id = l.id := rfl
@[simp] theorem LaneSt.setCommit_regs (l : LaneSt) (f : Commit → Commit) : (l.setCommit f).regs = l.regs := rfl
@[simp] theorem LaneSt.setCommit_time (l : LaneSt) (f : Commit → Commit) : (l.setCommit f).time = l.time := rfl
@[simp] theorem LaneSt.setCommit_xing (l : LaneSt) (f : Commit → Commit) : (l.setCommit f).xing = l.xing := rfl
@[simp] theorem LaneSt.setCommit_hif (l : LaneSt) (f : Commit → Commit) : (l.setCommit f).hif = l.hif := rfl
@[simp] theorem LaneSt.setCommit_vote (l : LaneSt) (f : Commit → Commit) : (l.setCommit f).vote = l.vote := rfl
@[simp] theorem LaneSt.setCommit_folio (l : LaneSt) (f : Commit → Commit) : (l.setCommit f).folio = l.folio := rfl
@[simp] theorem LaneSt.setCommit_staging (l : LaneSt) (f : Commit → Commit) : (l.setCommit f).staging = l.staging := rfl
@[simp] theorem LaneSt.setCommit_irq (l : LaneSt) (f : Commit → Commit) : (l.setCommit f).irq = l.irq := rfl
@[simp] theorem LaneSt.setCommit_flt (l : LaneSt) (f : Commit → Commit) : (l.setCommit f).flt = l.flt := rfl
@[simp] theorem LaneSt.setCommit_bist (l : LaneSt) (f : Commit → Commit) : (l.setCommit f).bist = l.bist := rfl
@[simp] theorem LaneSt.setCommit_comm (l : LaneSt) (f : Commit → Commit) : (l.setCommit f).comm = l.comm := rfl
@[simp] theorem LaneSt.setCommit_gate (l : LaneSt) (f : Commit → Commit) : (l.setCommit f).gate = l.gate := rfl
@[simp] theorem LaneSt.setCommit_adc (l : LaneSt) (f : Commit → Commit) : (l.setCommit f).adc = l.adc := rfl
@[simp] theorem LaneSt.setCommit_fbk (l : LaneSt) (f : Commit → Commit) : (l.setCommit f).fbk = l.fbk := rfl
@[simp] theorem LaneSt.setCommit_loop (l : LaneSt) (f : Commit → Commit) : (l.setCommit f).loop = l.loop := rfl
@[simp] theorem LaneSt.setCommit_prof (l : LaneSt) (f : Commit → Commit) : (l.setCommit f).prof = l.prof := rfl
@[simp] theorem LaneSt.setCommit_sec (l : LaneSt) (f : Commit → Commit) : (l.setCommit f).sec = l.sec := rfl
@[simp] theorem LaneSt.setCommit_sio (l : LaneSt) (f : Commit → Commit) : (l.setCommit f).sio = l.sio := rfl
@[simp] theorem LaneSt.setCommit_net (l : LaneSt) (f : Commit → Commit) : (l.setCommit f).net = l.net := rfl
@[simp] theorem LaneSt.setCommit_mem (l : LaneSt) (f : Commit → Commit) : (l.setCommit f).mem = l.mem := rfl
@[simp] theorem LaneSt.setCommit_pwr (l : LaneSt) (f : Commit → Commit) : (l.setCommit f).pwr = l.pwr := rfl
@[simp] theorem LaneSt.setCommit_posted (l : LaneSt) (f : Commit → Commit) : (l.setCommit f).posted = l.posted := rfl
@[simp] theorem LaneSt.setCommit_free (l : LaneSt) (f : Commit → Commit) : (l.setCommit f).free = l.free := rfl

/-! ## setSw -/

@[simp] theorem LaneSt.setSw_id (l : LaneSt) (i : Nat) (x : Switch) : (l.setSw i x).id = l.id := rfl
@[simp] theorem LaneSt.setSw_regs (l : LaneSt) (i : Nat) (x : Switch) : (l.setSw i x).regs = l.regs := rfl
@[simp] theorem LaneSt.setSw_time (l : LaneSt) (i : Nat) (x : Switch) : (l.setSw i x).time = l.time := rfl
@[simp] theorem LaneSt.setSw_xing (l : LaneSt) (i : Nat) (x : Switch) : (l.setSw i x).xing = l.xing := rfl
@[simp] theorem LaneSt.setSw_hif (l : LaneSt) (i : Nat) (x : Switch) : (l.setSw i x).hif = l.hif := rfl
@[simp] theorem LaneSt.setSw_vote (l : LaneSt) (i : Nat) (x : Switch) : (l.setSw i x).vote = l.vote := rfl
@[simp] theorem LaneSt.setSw_folio (l : LaneSt) (i : Nat) (x : Switch) : (l.setSw i x).folio = l.folio := rfl
@[simp] theorem LaneSt.setSw_commit (l : LaneSt) (i : Nat) (x : Switch) : (l.setSw i x).commit = l.commit := rfl
@[simp] theorem LaneSt.setSw_staging (l : LaneSt) (i : Nat) (x : Switch) : (l.setSw i x).staging = l.staging := rfl
@[simp] theorem LaneSt.setSw_irq (l : LaneSt) (i : Nat) (x : Switch) : (l.setSw i x).irq = l.irq := rfl
@[simp] theorem LaneSt.setSw_flt (l : LaneSt) (i : Nat) (x : Switch) : (l.setSw i x).flt = l.flt := rfl
@[simp] theorem LaneSt.setSw_bist (l : LaneSt) (i : Nat) (x : Switch) : (l.setSw i x).bist = l.bist := rfl
@[simp] theorem LaneSt.setSw_comm (l : LaneSt) (i : Nat) (x : Switch) : (l.setSw i x).comm = l.comm := rfl
@[simp] theorem LaneSt.setSw_adc (l : LaneSt) (i : Nat) (x : Switch) : (l.setSw i x).adc = l.adc := rfl
@[simp] theorem LaneSt.setSw_fbk (l : LaneSt) (i : Nat) (x : Switch) : (l.setSw i x).fbk = l.fbk := rfl
@[simp] theorem LaneSt.setSw_loop (l : LaneSt) (i : Nat) (x : Switch) : (l.setSw i x).loop = l.loop := rfl
@[simp] theorem LaneSt.setSw_prof (l : LaneSt) (i : Nat) (x : Switch) : (l.setSw i x).prof = l.prof := rfl
@[simp] theorem LaneSt.setSw_sec (l : LaneSt) (i : Nat) (x : Switch) : (l.setSw i x).sec = l.sec := rfl
@[simp] theorem LaneSt.setSw_sio (l : LaneSt) (i : Nat) (x : Switch) : (l.setSw i x).sio = l.sio := rfl
@[simp] theorem LaneSt.setSw_net (l : LaneSt) (i : Nat) (x : Switch) : (l.setSw i x).net = l.net := rfl
@[simp] theorem LaneSt.setSw_mem (l : LaneSt) (i : Nat) (x : Switch) : (l.setSw i x).mem = l.mem := rfl
@[simp] theorem LaneSt.setSw_pwr (l : LaneSt) (i : Nat) (x : Switch) : (l.setSw i x).pwr = l.pwr := rfl
@[simp] theorem LaneSt.setSw_posted (l : LaneSt) (i : Nat) (x : Switch) : (l.setSw i x).posted = l.posted := rfl
@[simp] theorem LaneSt.setSw_free (l : LaneSt) (i : Nat) (x : Switch) : (l.setSw i x).free = l.free := rfl

/-! ## setHi -/

@[simp] theorem LaneSt.setHi_id (l : LaneSt) (m : Nat) (t : Option Nat) : (l.setHi m t).id = l.id := rfl
@[simp] theorem LaneSt.setHi_regs (l : LaneSt) (m : Nat) (t : Option Nat) : (l.setHi m t).regs = l.regs := rfl
@[simp] theorem LaneSt.setHi_time (l : LaneSt) (m : Nat) (t : Option Nat) : (l.setHi m t).time = l.time := rfl
@[simp] theorem LaneSt.setHi_xing (l : LaneSt) (m : Nat) (t : Option Nat) : (l.setHi m t).xing = l.xing := rfl
@[simp] theorem LaneSt.setHi_hif (l : LaneSt) (m : Nat) (t : Option Nat) : (l.setHi m t).hif = l.hif := rfl
@[simp] theorem LaneSt.setHi_vote (l : LaneSt) (m : Nat) (t : Option Nat) : (l.setHi m t).vote = l.vote := rfl
@[simp] theorem LaneSt.setHi_folio (l : LaneSt) (m : Nat) (t : Option Nat) : (l.setHi m t).folio = l.folio := rfl
@[simp] theorem LaneSt.setHi_commit (l : LaneSt) (m : Nat) (t : Option Nat) : (l.setHi m t).commit = l.commit := rfl
@[simp] theorem LaneSt.setHi_staging (l : LaneSt) (m : Nat) (t : Option Nat) : (l.setHi m t).staging = l.staging := rfl
@[simp] theorem LaneSt.setHi_irq (l : LaneSt) (m : Nat) (t : Option Nat) : (l.setHi m t).irq = l.irq := rfl
@[simp] theorem LaneSt.setHi_flt (l : LaneSt) (m : Nat) (t : Option Nat) : (l.setHi m t).flt = l.flt := rfl
@[simp] theorem LaneSt.setHi_bist (l : LaneSt) (m : Nat) (t : Option Nat) : (l.setHi m t).bist = l.bist := rfl
@[simp] theorem LaneSt.setHi_comm (l : LaneSt) (m : Nat) (t : Option Nat) : (l.setHi m t).comm = l.comm := rfl
@[simp] theorem LaneSt.setHi_adc (l : LaneSt) (m : Nat) (t : Option Nat) : (l.setHi m t).adc = l.adc := rfl
@[simp] theorem LaneSt.setHi_fbk (l : LaneSt) (m : Nat) (t : Option Nat) : (l.setHi m t).fbk = l.fbk := rfl
@[simp] theorem LaneSt.setHi_loop (l : LaneSt) (m : Nat) (t : Option Nat) : (l.setHi m t).loop = l.loop := rfl
@[simp] theorem LaneSt.setHi_prof (l : LaneSt) (m : Nat) (t : Option Nat) : (l.setHi m t).prof = l.prof := rfl
@[simp] theorem LaneSt.setHi_sec (l : LaneSt) (m : Nat) (t : Option Nat) : (l.setHi m t).sec = l.sec := rfl
@[simp] theorem LaneSt.setHi_sio (l : LaneSt) (m : Nat) (t : Option Nat) : (l.setHi m t).sio = l.sio := rfl
@[simp] theorem LaneSt.setHi_net (l : LaneSt) (m : Nat) (t : Option Nat) : (l.setHi m t).net = l.net := rfl
@[simp] theorem LaneSt.setHi_mem (l : LaneSt) (m : Nat) (t : Option Nat) : (l.setHi m t).mem = l.mem := rfl
@[simp] theorem LaneSt.setHi_pwr (l : LaneSt) (m : Nat) (t : Option Nat) : (l.setHi m t).pwr = l.pwr := rfl
@[simp] theorem LaneSt.setHi_posted (l : LaneSt) (m : Nat) (t : Option Nat) : (l.setHi m t).posted = l.posted := rfl
@[simp] theorem LaneSt.setHi_free (l : LaneSt) (m : Nat) (t : Option Nat) : (l.setHi m t).free = l.free := rfl

/-! ## setHeld -/

@[simp] theorem LaneSt.setHeld_id (l : LaneSt) (c : Nat) (f : List Held → List Held) : (l.setHeld c f).id = l.id := rfl
@[simp] theorem LaneSt.setHeld_regs (l : LaneSt) (c : Nat) (f : List Held → List Held) : (l.setHeld c f).regs = l.regs := rfl
@[simp] theorem LaneSt.setHeld_time (l : LaneSt) (c : Nat) (f : List Held → List Held) : (l.setHeld c f).time = l.time := rfl
@[simp] theorem LaneSt.setHeld_xing (l : LaneSt) (c : Nat) (f : List Held → List Held) : (l.setHeld c f).xing = l.xing := rfl
@[simp] theorem LaneSt.setHeld_hif (l : LaneSt) (c : Nat) (f : List Held → List Held) : (l.setHeld c f).hif = l.hif := rfl
@[simp] theorem LaneSt.setHeld_vote (l : LaneSt) (c : Nat) (f : List Held → List Held) : (l.setHeld c f).vote = l.vote := rfl
@[simp] theorem LaneSt.setHeld_folio (l : LaneSt) (c : Nat) (f : List Held → List Held) : (l.setHeld c f).folio = l.folio := rfl
@[simp] theorem LaneSt.setHeld_commit (l : LaneSt) (c : Nat) (f : List Held → List Held) : (l.setHeld c f).commit = l.commit := rfl
@[simp] theorem LaneSt.setHeld_staging (l : LaneSt) (c : Nat) (f : List Held → List Held) : (l.setHeld c f).staging = l.staging := rfl
@[simp] theorem LaneSt.setHeld_irq (l : LaneSt) (c : Nat) (f : List Held → List Held) : (l.setHeld c f).irq = l.irq := rfl
@[simp] theorem LaneSt.setHeld_flt (l : LaneSt) (c : Nat) (f : List Held → List Held) : (l.setHeld c f).flt = l.flt := rfl
@[simp] theorem LaneSt.setHeld_bist (l : LaneSt) (c : Nat) (f : List Held → List Held) : (l.setHeld c f).bist = l.bist := rfl
@[simp] theorem LaneSt.setHeld_comm (l : LaneSt) (c : Nat) (f : List Held → List Held) : (l.setHeld c f).comm = l.comm := rfl
@[simp] theorem LaneSt.setHeld_gate (l : LaneSt) (c : Nat) (f : List Held → List Held) : (l.setHeld c f).gate = l.gate := rfl
@[simp] theorem LaneSt.setHeld_fbk (l : LaneSt) (c : Nat) (f : List Held → List Held) : (l.setHeld c f).fbk = l.fbk := rfl
@[simp] theorem LaneSt.setHeld_loop (l : LaneSt) (c : Nat) (f : List Held → List Held) : (l.setHeld c f).loop = l.loop := rfl
@[simp] theorem LaneSt.setHeld_prof (l : LaneSt) (c : Nat) (f : List Held → List Held) : (l.setHeld c f).prof = l.prof := rfl
@[simp] theorem LaneSt.setHeld_sec (l : LaneSt) (c : Nat) (f : List Held → List Held) : (l.setHeld c f).sec = l.sec := rfl
@[simp] theorem LaneSt.setHeld_sio (l : LaneSt) (c : Nat) (f : List Held → List Held) : (l.setHeld c f).sio = l.sio := rfl
@[simp] theorem LaneSt.setHeld_net (l : LaneSt) (c : Nat) (f : List Held → List Held) : (l.setHeld c f).net = l.net := rfl
@[simp] theorem LaneSt.setHeld_mem (l : LaneSt) (c : Nat) (f : List Held → List Held) : (l.setHeld c f).mem = l.mem := rfl
@[simp] theorem LaneSt.setHeld_pwr (l : LaneSt) (c : Nat) (f : List Held → List Held) : (l.setHeld c f).pwr = l.pwr := rfl
@[simp] theorem LaneSt.setHeld_posted (l : LaneSt) (c : Nat) (f : List Held → List Held) : (l.setHeld c f).posted = l.posted := rfl
@[simp] theorem LaneSt.setHeld_free (l : LaneSt) (c : Nat) (f : List Held → List Held) : (l.setHeld c f).free = l.free := rfl

/-! ## setTime -/

@[simp] theorem LaneSt.setTime_id (l : LaneSt) (t : Nat) : (l.setTime t).id = l.id := rfl
@[simp] theorem LaneSt.setTime_regs (l : LaneSt) (t : Nat) : (l.setTime t).regs = l.regs := rfl
@[simp] theorem LaneSt.setTime_xing (l : LaneSt) (t : Nat) : (l.setTime t).xing = l.xing := rfl
@[simp] theorem LaneSt.setTime_hif (l : LaneSt) (t : Nat) : (l.setTime t).hif = l.hif := rfl
@[simp] theorem LaneSt.setTime_vote (l : LaneSt) (t : Nat) : (l.setTime t).vote = l.vote := rfl
@[simp] theorem LaneSt.setTime_folio (l : LaneSt) (t : Nat) : (l.setTime t).folio = l.folio := rfl
@[simp] theorem LaneSt.setTime_commit (l : LaneSt) (t : Nat) : (l.setTime t).commit = l.commit := rfl
@[simp] theorem LaneSt.setTime_staging (l : LaneSt) (t : Nat) : (l.setTime t).staging = l.staging := rfl
@[simp] theorem LaneSt.setTime_irq (l : LaneSt) (t : Nat) : (l.setTime t).irq = l.irq := rfl
@[simp] theorem LaneSt.setTime_flt (l : LaneSt) (t : Nat) : (l.setTime t).flt = l.flt := rfl
@[simp] theorem LaneSt.setTime_bist (l : LaneSt) (t : Nat) : (l.setTime t).bist = l.bist := rfl
@[simp] theorem LaneSt.setTime_comm (l : LaneSt) (t : Nat) : (l.setTime t).comm = l.comm := rfl
@[simp] theorem LaneSt.setTime_gate (l : LaneSt) (t : Nat) : (l.setTime t).gate = l.gate := rfl
@[simp] theorem LaneSt.setTime_adc (l : LaneSt) (t : Nat) : (l.setTime t).adc = l.adc := rfl
@[simp] theorem LaneSt.setTime_fbk (l : LaneSt) (t : Nat) : (l.setTime t).fbk = l.fbk := rfl
@[simp] theorem LaneSt.setTime_loop (l : LaneSt) (t : Nat) : (l.setTime t).loop = l.loop := rfl
@[simp] theorem LaneSt.setTime_prof (l : LaneSt) (t : Nat) : (l.setTime t).prof = l.prof := rfl
@[simp] theorem LaneSt.setTime_sec (l : LaneSt) (t : Nat) : (l.setTime t).sec = l.sec := rfl
@[simp] theorem LaneSt.setTime_sio (l : LaneSt) (t : Nat) : (l.setTime t).sio = l.sio := rfl
@[simp] theorem LaneSt.setTime_net (l : LaneSt) (t : Nat) : (l.setTime t).net = l.net := rfl
@[simp] theorem LaneSt.setTime_mem (l : LaneSt) (t : Nat) : (l.setTime t).mem = l.mem := rfl
@[simp] theorem LaneSt.setTime_pwr (l : LaneSt) (t : Nat) : (l.setTime t).pwr = l.pwr := rfl
@[simp] theorem LaneSt.setTime_posted (l : LaneSt) (t : Nat) : (l.setTime t).posted = l.posted := rfl
@[simp] theorem LaneSt.setTime_free (l : LaneSt) (t : Nat) : (l.setTime t).free = l.free := rfl

/-! ## setXing -/

@[simp] theorem LaneSt.setXing_id (l : LaneSt) (f : XingSt → XingSt) : (l.setXing f).id = l.id := rfl
@[simp] theorem LaneSt.setXing_regs (l : LaneSt) (f : XingSt → XingSt) : (l.setXing f).regs = l.regs := rfl
@[simp] theorem LaneSt.setXing_time (l : LaneSt) (f : XingSt → XingSt) : (l.setXing f).time = l.time := rfl
@[simp] theorem LaneSt.setXing_hif (l : LaneSt) (f : XingSt → XingSt) : (l.setXing f).hif = l.hif := rfl
@[simp] theorem LaneSt.setXing_vote (l : LaneSt) (f : XingSt → XingSt) : (l.setXing f).vote = l.vote := rfl
@[simp] theorem LaneSt.setXing_folio (l : LaneSt) (f : XingSt → XingSt) : (l.setXing f).folio = l.folio := rfl
@[simp] theorem LaneSt.setXing_commit (l : LaneSt) (f : XingSt → XingSt) : (l.setXing f).commit = l.commit := rfl
@[simp] theorem LaneSt.setXing_staging (l : LaneSt) (f : XingSt → XingSt) : (l.setXing f).staging = l.staging := rfl
@[simp] theorem LaneSt.setXing_irq (l : LaneSt) (f : XingSt → XingSt) : (l.setXing f).irq = l.irq := rfl
@[simp] theorem LaneSt.setXing_flt (l : LaneSt) (f : XingSt → XingSt) : (l.setXing f).flt = l.flt := rfl
@[simp] theorem LaneSt.setXing_bist (l : LaneSt) (f : XingSt → XingSt) : (l.setXing f).bist = l.bist := rfl
@[simp] theorem LaneSt.setXing_comm (l : LaneSt) (f : XingSt → XingSt) : (l.setXing f).comm = l.comm := rfl
@[simp] theorem LaneSt.setXing_gate (l : LaneSt) (f : XingSt → XingSt) : (l.setXing f).gate = l.gate := rfl
@[simp] theorem LaneSt.setXing_adc (l : LaneSt) (f : XingSt → XingSt) : (l.setXing f).adc = l.adc := rfl
@[simp] theorem LaneSt.setXing_fbk (l : LaneSt) (f : XingSt → XingSt) : (l.setXing f).fbk = l.fbk := rfl
@[simp] theorem LaneSt.setXing_loop (l : LaneSt) (f : XingSt → XingSt) : (l.setXing f).loop = l.loop := rfl
@[simp] theorem LaneSt.setXing_prof (l : LaneSt) (f : XingSt → XingSt) : (l.setXing f).prof = l.prof := rfl
@[simp] theorem LaneSt.setXing_sec (l : LaneSt) (f : XingSt → XingSt) : (l.setXing f).sec = l.sec := rfl
@[simp] theorem LaneSt.setXing_sio (l : LaneSt) (f : XingSt → XingSt) : (l.setXing f).sio = l.sio := rfl
@[simp] theorem LaneSt.setXing_net (l : LaneSt) (f : XingSt → XingSt) : (l.setXing f).net = l.net := rfl
@[simp] theorem LaneSt.setXing_mem (l : LaneSt) (f : XingSt → XingSt) : (l.setXing f).mem = l.mem := rfl
@[simp] theorem LaneSt.setXing_pwr (l : LaneSt) (f : XingSt → XingSt) : (l.setXing f).pwr = l.pwr := rfl
@[simp] theorem LaneSt.setXing_posted (l : LaneSt) (f : XingSt → XingSt) : (l.setXing f).posted = l.posted := rfl
@[simp] theorem LaneSt.setXing_free (l : LaneSt) (f : XingSt → XingSt) : (l.setXing f).free = l.free := rfl

/-! ## setReadmit -/

@[simp] theorem LaneSt.setReadmit_id (l : LaneSt) (r : Readmit) : (l.setReadmit r).id = l.id := rfl
@[simp] theorem LaneSt.setReadmit_regs (l : LaneSt) (r : Readmit) : (l.setReadmit r).regs = l.regs := rfl
@[simp] theorem LaneSt.setReadmit_time (l : LaneSt) (r : Readmit) : (l.setReadmit r).time = l.time := rfl
@[simp] theorem LaneSt.setReadmit_xing (l : LaneSt) (r : Readmit) : (l.setReadmit r).xing = l.xing := rfl
@[simp] theorem LaneSt.setReadmit_hif (l : LaneSt) (r : Readmit) : (l.setReadmit r).hif = l.hif := rfl
@[simp] theorem LaneSt.setReadmit_folio (l : LaneSt) (r : Readmit) : (l.setReadmit r).folio = l.folio := rfl
@[simp] theorem LaneSt.setReadmit_commit (l : LaneSt) (r : Readmit) : (l.setReadmit r).commit = l.commit := rfl
@[simp] theorem LaneSt.setReadmit_staging (l : LaneSt) (r : Readmit) : (l.setReadmit r).staging = l.staging := rfl
@[simp] theorem LaneSt.setReadmit_irq (l : LaneSt) (r : Readmit) : (l.setReadmit r).irq = l.irq := rfl
@[simp] theorem LaneSt.setReadmit_flt (l : LaneSt) (r : Readmit) : (l.setReadmit r).flt = l.flt := rfl
@[simp] theorem LaneSt.setReadmit_bist (l : LaneSt) (r : Readmit) : (l.setReadmit r).bist = l.bist := rfl
@[simp] theorem LaneSt.setReadmit_comm (l : LaneSt) (r : Readmit) : (l.setReadmit r).comm = l.comm := rfl
@[simp] theorem LaneSt.setReadmit_gate (l : LaneSt) (r : Readmit) : (l.setReadmit r).gate = l.gate := rfl
@[simp] theorem LaneSt.setReadmit_adc (l : LaneSt) (r : Readmit) : (l.setReadmit r).adc = l.adc := rfl
@[simp] theorem LaneSt.setReadmit_fbk (l : LaneSt) (r : Readmit) : (l.setReadmit r).fbk = l.fbk := rfl
@[simp] theorem LaneSt.setReadmit_loop (l : LaneSt) (r : Readmit) : (l.setReadmit r).loop = l.loop := rfl
@[simp] theorem LaneSt.setReadmit_prof (l : LaneSt) (r : Readmit) : (l.setReadmit r).prof = l.prof := rfl
@[simp] theorem LaneSt.setReadmit_sec (l : LaneSt) (r : Readmit) : (l.setReadmit r).sec = l.sec := rfl
@[simp] theorem LaneSt.setReadmit_sio (l : LaneSt) (r : Readmit) : (l.setReadmit r).sio = l.sio := rfl
@[simp] theorem LaneSt.setReadmit_net (l : LaneSt) (r : Readmit) : (l.setReadmit r).net = l.net := rfl
@[simp] theorem LaneSt.setReadmit_mem (l : LaneSt) (r : Readmit) : (l.setReadmit r).mem = l.mem := rfl
@[simp] theorem LaneSt.setReadmit_pwr (l : LaneSt) (r : Readmit) : (l.setReadmit r).pwr = l.pwr := rfl
@[simp] theorem LaneSt.setReadmit_posted (l : LaneSt) (r : Readmit) : (l.setReadmit r).posted = l.posted := rfl
@[simp] theorem LaneSt.setReadmit_free (l : LaneSt) (r : Readmit) : (l.setReadmit r).free = l.free := rfl

/-! ## post -/

@[simp] theorem LaneSt.post_id (l : LaneSt) (a n : Nat) (fs : List (Nat × Nat × Nat)) : (l.post a n fs).id = l.id := rfl
@[simp] theorem LaneSt.post_regs (l : LaneSt) (a n : Nat) (fs : List (Nat × Nat × Nat)) : (l.post a n fs).regs = l.regs := rfl
@[simp] theorem LaneSt.post_time (l : LaneSt) (a n : Nat) (fs : List (Nat × Nat × Nat)) : (l.post a n fs).time = l.time := rfl
@[simp] theorem LaneSt.post_xing (l : LaneSt) (a n : Nat) (fs : List (Nat × Nat × Nat)) : (l.post a n fs).xing = l.xing := rfl
@[simp] theorem LaneSt.post_hif (l : LaneSt) (a n : Nat) (fs : List (Nat × Nat × Nat)) : (l.post a n fs).hif = l.hif := rfl
@[simp] theorem LaneSt.post_vote (l : LaneSt) (a n : Nat) (fs : List (Nat × Nat × Nat)) : (l.post a n fs).vote = l.vote := rfl
@[simp] theorem LaneSt.post_folio (l : LaneSt) (a n : Nat) (fs : List (Nat × Nat × Nat)) : (l.post a n fs).folio = l.folio := rfl
@[simp] theorem LaneSt.post_commit (l : LaneSt) (a n : Nat) (fs : List (Nat × Nat × Nat)) : (l.post a n fs).commit = l.commit := rfl
@[simp] theorem LaneSt.post_staging (l : LaneSt) (a n : Nat) (fs : List (Nat × Nat × Nat)) : (l.post a n fs).staging = l.staging := rfl
@[simp] theorem LaneSt.post_irq (l : LaneSt) (a n : Nat) (fs : List (Nat × Nat × Nat)) : (l.post a n fs).irq = l.irq := rfl
@[simp] theorem LaneSt.post_flt (l : LaneSt) (a n : Nat) (fs : List (Nat × Nat × Nat)) : (l.post a n fs).flt = l.flt := rfl
@[simp] theorem LaneSt.post_bist (l : LaneSt) (a n : Nat) (fs : List (Nat × Nat × Nat)) : (l.post a n fs).bist = l.bist := rfl
@[simp] theorem LaneSt.post_comm (l : LaneSt) (a n : Nat) (fs : List (Nat × Nat × Nat)) : (l.post a n fs).comm = l.comm := rfl
@[simp] theorem LaneSt.post_gate (l : LaneSt) (a n : Nat) (fs : List (Nat × Nat × Nat)) : (l.post a n fs).gate = l.gate := rfl
@[simp] theorem LaneSt.post_adc (l : LaneSt) (a n : Nat) (fs : List (Nat × Nat × Nat)) : (l.post a n fs).adc = l.adc := rfl
@[simp] theorem LaneSt.post_fbk (l : LaneSt) (a n : Nat) (fs : List (Nat × Nat × Nat)) : (l.post a n fs).fbk = l.fbk := rfl
@[simp] theorem LaneSt.post_loop (l : LaneSt) (a n : Nat) (fs : List (Nat × Nat × Nat)) : (l.post a n fs).loop = l.loop := rfl
@[simp] theorem LaneSt.post_prof (l : LaneSt) (a n : Nat) (fs : List (Nat × Nat × Nat)) : (l.post a n fs).prof = l.prof := rfl
@[simp] theorem LaneSt.post_sec (l : LaneSt) (a n : Nat) (fs : List (Nat × Nat × Nat)) : (l.post a n fs).sec = l.sec := rfl
@[simp] theorem LaneSt.post_sio (l : LaneSt) (a n : Nat) (fs : List (Nat × Nat × Nat)) : (l.post a n fs).sio = l.sio := rfl
@[simp] theorem LaneSt.post_net (l : LaneSt) (a n : Nat) (fs : List (Nat × Nat × Nat)) : (l.post a n fs).net = l.net := rfl
@[simp] theorem LaneSt.post_mem (l : LaneSt) (a n : Nat) (fs : List (Nat × Nat × Nat)) : (l.post a n fs).mem = l.mem := rfl
@[simp] theorem LaneSt.post_pwr (l : LaneSt) (a n : Nat) (fs : List (Nat × Nat × Nat)) : (l.post a n fs).pwr = l.pwr := rfl
@[simp] theorem LaneSt.post_free (l : LaneSt) (a n : Nat) (fs : List (Nat × Nat × Nat)) : (l.post a n fs).free = l.free := rfl

/-! ## complete -/

@[simp] theorem LaneSt.complete_id (l : LaneSt) (d : Decided) (st det res : Nat) : (l.complete d st det res).id = l.id := rfl
@[simp] theorem LaneSt.complete_regs (l : LaneSt) (d : Decided) (st det res : Nat) : (l.complete d st det res).regs = l.regs := rfl
@[simp] theorem LaneSt.complete_time (l : LaneSt) (d : Decided) (st det res : Nat) : (l.complete d st det res).time = l.time := rfl
@[simp] theorem LaneSt.complete_xing (l : LaneSt) (d : Decided) (st det res : Nat) : (l.complete d st det res).xing = l.xing := rfl
@[simp] theorem LaneSt.complete_vote (l : LaneSt) (d : Decided) (st det res : Nat) : (l.complete d st det res).vote = l.vote := rfl
@[simp] theorem LaneSt.complete_folio (l : LaneSt) (d : Decided) (st det res : Nat) : (l.complete d st det res).folio = l.folio := rfl
@[simp] theorem LaneSt.complete_commit (l : LaneSt) (d : Decided) (st det res : Nat) : (l.complete d st det res).commit = l.commit := rfl
@[simp] theorem LaneSt.complete_staging (l : LaneSt) (d : Decided) (st det res : Nat) : (l.complete d st det res).staging = l.staging := rfl
@[simp] theorem LaneSt.complete_irq (l : LaneSt) (d : Decided) (st det res : Nat) : (l.complete d st det res).irq = l.irq := rfl
@[simp] theorem LaneSt.complete_flt (l : LaneSt) (d : Decided) (st det res : Nat) : (l.complete d st det res).flt = l.flt := rfl
@[simp] theorem LaneSt.complete_bist (l : LaneSt) (d : Decided) (st det res : Nat) : (l.complete d st det res).bist = l.bist := rfl
@[simp] theorem LaneSt.complete_comm (l : LaneSt) (d : Decided) (st det res : Nat) : (l.complete d st det res).comm = l.comm := rfl
@[simp] theorem LaneSt.complete_gate (l : LaneSt) (d : Decided) (st det res : Nat) : (l.complete d st det res).gate = l.gate := rfl
@[simp] theorem LaneSt.complete_adc (l : LaneSt) (d : Decided) (st det res : Nat) : (l.complete d st det res).adc = l.adc := rfl
@[simp] theorem LaneSt.complete_fbk (l : LaneSt) (d : Decided) (st det res : Nat) : (l.complete d st det res).fbk = l.fbk := rfl
@[simp] theorem LaneSt.complete_loop (l : LaneSt) (d : Decided) (st det res : Nat) : (l.complete d st det res).loop = l.loop := rfl
@[simp] theorem LaneSt.complete_prof (l : LaneSt) (d : Decided) (st det res : Nat) : (l.complete d st det res).prof = l.prof := rfl
@[simp] theorem LaneSt.complete_sec (l : LaneSt) (d : Decided) (st det res : Nat) : (l.complete d st det res).sec = l.sec := rfl
@[simp] theorem LaneSt.complete_sio (l : LaneSt) (d : Decided) (st det res : Nat) : (l.complete d st det res).sio = l.sio := rfl
@[simp] theorem LaneSt.complete_net (l : LaneSt) (d : Decided) (st det res : Nat) : (l.complete d st det res).net = l.net := rfl
@[simp] theorem LaneSt.complete_mem (l : LaneSt) (d : Decided) (st det res : Nat) : (l.complete d st det res).mem = l.mem := rfl
@[simp] theorem LaneSt.complete_pwr (l : LaneSt) (d : Decided) (st det res : Nat) : (l.complete d st det res).pwr = l.pwr := rfl
@[simp] theorem LaneSt.complete_posted (l : LaneSt) (d : Decided) (st det res : Nat) : (l.complete d st det res).posted = l.posted := rfl
@[simp] theorem LaneSt.complete_free (l : LaneSt) (d : Decided) (st det res : Nat) : (l.complete d st det res).free = l.free := rfl

/-! ## sendFrame -/

@[simp] theorem LaneSt.sendFrame_id (l : LaneSt) (p : LaneId) (t h : Nat) (ws : List Nat) : (l.sendFrame p t h ws).id = l.id := by unfold LaneSt.sendFrame; simp
@[simp] theorem LaneSt.sendFrame_regs (l : LaneSt) (p : LaneId) (t h : Nat) (ws : List Nat) : (l.sendFrame p t h ws).regs = l.regs := by unfold LaneSt.sendFrame; simp
@[simp] theorem LaneSt.sendFrame_time (l : LaneSt) (p : LaneId) (t h : Nat) (ws : List Nat) : (l.sendFrame p t h ws).time = l.time := by unfold LaneSt.sendFrame; simp
@[simp] theorem LaneSt.sendFrame_xing (l : LaneSt) (p : LaneId) (t h : Nat) (ws : List Nat) : (l.sendFrame p t h ws).xing = l.xing := by unfold LaneSt.sendFrame; simp
@[simp] theorem LaneSt.sendFrame_hif (l : LaneSt) (p : LaneId) (t h : Nat) (ws : List Nat) : (l.sendFrame p t h ws).hif = l.hif := by unfold LaneSt.sendFrame; simp
@[simp] theorem LaneSt.sendFrame_folio (l : LaneSt) (p : LaneId) (t h : Nat) (ws : List Nat) : (l.sendFrame p t h ws).folio = l.folio := by unfold LaneSt.sendFrame; simp
@[simp] theorem LaneSt.sendFrame_commit (l : LaneSt) (p : LaneId) (t h : Nat) (ws : List Nat) : (l.sendFrame p t h ws).commit = l.commit := by unfold LaneSt.sendFrame; simp
@[simp] theorem LaneSt.sendFrame_staging (l : LaneSt) (p : LaneId) (t h : Nat) (ws : List Nat) : (l.sendFrame p t h ws).staging = l.staging := by unfold LaneSt.sendFrame; simp
@[simp] theorem LaneSt.sendFrame_irq (l : LaneSt) (p : LaneId) (t h : Nat) (ws : List Nat) : (l.sendFrame p t h ws).irq = l.irq := by unfold LaneSt.sendFrame; simp
@[simp] theorem LaneSt.sendFrame_flt (l : LaneSt) (p : LaneId) (t h : Nat) (ws : List Nat) : (l.sendFrame p t h ws).flt = l.flt := by unfold LaneSt.sendFrame; simp
@[simp] theorem LaneSt.sendFrame_bist (l : LaneSt) (p : LaneId) (t h : Nat) (ws : List Nat) : (l.sendFrame p t h ws).bist = l.bist := by unfold LaneSt.sendFrame; simp
@[simp] theorem LaneSt.sendFrame_comm (l : LaneSt) (p : LaneId) (t h : Nat) (ws : List Nat) : (l.sendFrame p t h ws).comm = l.comm := by unfold LaneSt.sendFrame; simp
@[simp] theorem LaneSt.sendFrame_gate (l : LaneSt) (p : LaneId) (t h : Nat) (ws : List Nat) : (l.sendFrame p t h ws).gate = l.gate := by unfold LaneSt.sendFrame; simp
@[simp] theorem LaneSt.sendFrame_adc (l : LaneSt) (p : LaneId) (t h : Nat) (ws : List Nat) : (l.sendFrame p t h ws).adc = l.adc := by unfold LaneSt.sendFrame; simp
@[simp] theorem LaneSt.sendFrame_fbk (l : LaneSt) (p : LaneId) (t h : Nat) (ws : List Nat) : (l.sendFrame p t h ws).fbk = l.fbk := by unfold LaneSt.sendFrame; simp
@[simp] theorem LaneSt.sendFrame_loop (l : LaneSt) (p : LaneId) (t h : Nat) (ws : List Nat) : (l.sendFrame p t h ws).loop = l.loop := by unfold LaneSt.sendFrame; simp
@[simp] theorem LaneSt.sendFrame_prof (l : LaneSt) (p : LaneId) (t h : Nat) (ws : List Nat) : (l.sendFrame p t h ws).prof = l.prof := by unfold LaneSt.sendFrame; simp
@[simp] theorem LaneSt.sendFrame_sec (l : LaneSt) (p : LaneId) (t h : Nat) (ws : List Nat) : (l.sendFrame p t h ws).sec = l.sec := by unfold LaneSt.sendFrame; simp
@[simp] theorem LaneSt.sendFrame_sio (l : LaneSt) (p : LaneId) (t h : Nat) (ws : List Nat) : (l.sendFrame p t h ws).sio = l.sio := by unfold LaneSt.sendFrame; simp
@[simp] theorem LaneSt.sendFrame_net (l : LaneSt) (p : LaneId) (t h : Nat) (ws : List Nat) : (l.sendFrame p t h ws).net = l.net := by unfold LaneSt.sendFrame; simp
@[simp] theorem LaneSt.sendFrame_mem (l : LaneSt) (p : LaneId) (t h : Nat) (ws : List Nat) : (l.sendFrame p t h ws).mem = l.mem := by unfold LaneSt.sendFrame; simp
@[simp] theorem LaneSt.sendFrame_pwr (l : LaneSt) (p : LaneId) (t h : Nat) (ws : List Nat) : (l.sendFrame p t h ws).pwr = l.pwr := by unfold LaneSt.sendFrame; simp
@[simp] theorem LaneSt.sendFrame_posted (l : LaneSt) (p : LaneId) (t h : Nat) (ws : List Nat) : (l.sendFrame p t h ws).posted = l.posted := by unfold LaneSt.sendFrame; simp
@[simp] theorem LaneSt.sendFrame_free (l : LaneSt) (p : LaneId) (t h : Nat) (ws : List Nat) : (l.sendFrame p t h ws).free = l.free := by unfold LaneSt.sendFrame; simp

/-! ## sendTo -/

@[simp] theorem LaneSt.sendTo_id (l : LaneSt) (p : LaneId) (t h : Nat) (ws : List Nat) : (l.sendTo p t h ws).id = l.id := by unfold LaneSt.sendTo; split; rfl; split; split <;> simp; exact foldl_keep _ _ (by simp) _ _
@[simp] theorem LaneSt.sendTo_regs (l : LaneSt) (p : LaneId) (t h : Nat) (ws : List Nat) : (l.sendTo p t h ws).regs = l.regs := by unfold LaneSt.sendTo; split; rfl; split; split <;> simp; exact foldl_keep _ _ (by simp) _ _
@[simp] theorem LaneSt.sendTo_time (l : LaneSt) (p : LaneId) (t h : Nat) (ws : List Nat) : (l.sendTo p t h ws).time = l.time := by unfold LaneSt.sendTo; split; rfl; split; split <;> simp; exact foldl_keep _ _ (by simp) _ _
@[simp] theorem LaneSt.sendTo_xing (l : LaneSt) (p : LaneId) (t h : Nat) (ws : List Nat) : (l.sendTo p t h ws).xing = l.xing := by unfold LaneSt.sendTo; split; rfl; split; split <;> simp; exact foldl_keep _ _ (by simp) _ _
@[simp] theorem LaneSt.sendTo_hif (l : LaneSt) (p : LaneId) (t h : Nat) (ws : List Nat) : (l.sendTo p t h ws).hif = l.hif := by unfold LaneSt.sendTo; split; rfl; split; split <;> simp; exact foldl_keep _ _ (by simp) _ _
@[simp] theorem LaneSt.sendTo_folio (l : LaneSt) (p : LaneId) (t h : Nat) (ws : List Nat) : (l.sendTo p t h ws).folio = l.folio := by unfold LaneSt.sendTo; split; rfl; split; split <;> simp; exact foldl_keep _ _ (by simp) _ _
@[simp] theorem LaneSt.sendTo_commit (l : LaneSt) (p : LaneId) (t h : Nat) (ws : List Nat) : (l.sendTo p t h ws).commit = l.commit := by unfold LaneSt.sendTo; split; rfl; split; split <;> simp; exact foldl_keep _ _ (by simp) _ _
@[simp] theorem LaneSt.sendTo_staging (l : LaneSt) (p : LaneId) (t h : Nat) (ws : List Nat) : (l.sendTo p t h ws).staging = l.staging := by unfold LaneSt.sendTo; split; rfl; split; split <;> simp; exact foldl_keep _ _ (by simp) _ _
@[simp] theorem LaneSt.sendTo_irq (l : LaneSt) (p : LaneId) (t h : Nat) (ws : List Nat) : (l.sendTo p t h ws).irq = l.irq := by unfold LaneSt.sendTo; split; rfl; split; split <;> simp; exact foldl_keep _ _ (by simp) _ _
@[simp] theorem LaneSt.sendTo_flt (l : LaneSt) (p : LaneId) (t h : Nat) (ws : List Nat) : (l.sendTo p t h ws).flt = l.flt := by unfold LaneSt.sendTo; split; rfl; split; split <;> simp; exact foldl_keep _ _ (by simp) _ _
@[simp] theorem LaneSt.sendTo_bist (l : LaneSt) (p : LaneId) (t h : Nat) (ws : List Nat) : (l.sendTo p t h ws).bist = l.bist := by unfold LaneSt.sendTo; split; rfl; split; split <;> simp; exact foldl_keep _ _ (by simp) _ _
@[simp] theorem LaneSt.sendTo_comm (l : LaneSt) (p : LaneId) (t h : Nat) (ws : List Nat) : (l.sendTo p t h ws).comm = l.comm := by unfold LaneSt.sendTo; split; rfl; split; split <;> simp; exact foldl_keep _ _ (by simp) _ _
@[simp] theorem LaneSt.sendTo_gate (l : LaneSt) (p : LaneId) (t h : Nat) (ws : List Nat) : (l.sendTo p t h ws).gate = l.gate := by unfold LaneSt.sendTo; split; rfl; split; split <;> simp; exact foldl_keep _ _ (by simp) _ _
@[simp] theorem LaneSt.sendTo_adc (l : LaneSt) (p : LaneId) (t h : Nat) (ws : List Nat) : (l.sendTo p t h ws).adc = l.adc := by unfold LaneSt.sendTo; split; rfl; split; split <;> simp; exact foldl_keep _ _ (by simp) _ _
@[simp] theorem LaneSt.sendTo_fbk (l : LaneSt) (p : LaneId) (t h : Nat) (ws : List Nat) : (l.sendTo p t h ws).fbk = l.fbk := by unfold LaneSt.sendTo; split; rfl; split; split <;> simp; exact foldl_keep _ _ (by simp) _ _
@[simp] theorem LaneSt.sendTo_loop (l : LaneSt) (p : LaneId) (t h : Nat) (ws : List Nat) : (l.sendTo p t h ws).loop = l.loop := by unfold LaneSt.sendTo; split; rfl; split; split <;> simp; exact foldl_keep _ _ (by simp) _ _
@[simp] theorem LaneSt.sendTo_prof (l : LaneSt) (p : LaneId) (t h : Nat) (ws : List Nat) : (l.sendTo p t h ws).prof = l.prof := by unfold LaneSt.sendTo; split; rfl; split; split <;> simp; exact foldl_keep _ _ (by simp) _ _
@[simp] theorem LaneSt.sendTo_sec (l : LaneSt) (p : LaneId) (t h : Nat) (ws : List Nat) : (l.sendTo p t h ws).sec = l.sec := by unfold LaneSt.sendTo; split; rfl; split; split <;> simp; exact foldl_keep _ _ (by simp) _ _
@[simp] theorem LaneSt.sendTo_sio (l : LaneSt) (p : LaneId) (t h : Nat) (ws : List Nat) : (l.sendTo p t h ws).sio = l.sio := by unfold LaneSt.sendTo; split; rfl; split; split <;> simp; exact foldl_keep _ _ (by simp) _ _
@[simp] theorem LaneSt.sendTo_net (l : LaneSt) (p : LaneId) (t h : Nat) (ws : List Nat) : (l.sendTo p t h ws).net = l.net := by unfold LaneSt.sendTo; split; rfl; split; split <;> simp; exact foldl_keep _ _ (by simp) _ _
@[simp] theorem LaneSt.sendTo_mem (l : LaneSt) (p : LaneId) (t h : Nat) (ws : List Nat) : (l.sendTo p t h ws).mem = l.mem := by unfold LaneSt.sendTo; split; rfl; split; split <;> simp; exact foldl_keep _ _ (by simp) _ _
@[simp] theorem LaneSt.sendTo_pwr (l : LaneSt) (p : LaneId) (t h : Nat) (ws : List Nat) : (l.sendTo p t h ws).pwr = l.pwr := by unfold LaneSt.sendTo; split; rfl; split; split <;> simp; exact foldl_keep _ _ (by simp) _ _
@[simp] theorem LaneSt.sendTo_posted (l : LaneSt) (p : LaneId) (t h : Nat) (ws : List Nat) : (l.sendTo p t h ws).posted = l.posted := by unfold LaneSt.sendTo; split; rfl; split; split <;> simp; exact foldl_keep _ _ (by simp) _ _
@[simp] theorem LaneSt.sendTo_free (l : LaneSt) (p : LaneId) (t h : Nat) (ws : List Nat) : (l.sendTo p t h ws).free = l.free := by unfold LaneSt.sendTo; split; rfl; split; split <;> simp; exact foldl_keep _ _ (by simp) _ _

/-! ## acked -/

@[simp] theorem LaneSt.acked_id (l : LaneSt) (p : LaneId) (n : Nat) : (l.acked p n).id = l.id := rfl
@[simp] theorem LaneSt.acked_regs (l : LaneSt) (p : LaneId) (n : Nat) : (l.acked p n).regs = l.regs := rfl
@[simp] theorem LaneSt.acked_time (l : LaneSt) (p : LaneId) (n : Nat) : (l.acked p n).time = l.time := rfl
@[simp] theorem LaneSt.acked_xing (l : LaneSt) (p : LaneId) (n : Nat) : (l.acked p n).xing = l.xing := rfl
@[simp] theorem LaneSt.acked_hif (l : LaneSt) (p : LaneId) (n : Nat) : (l.acked p n).hif = l.hif := rfl
@[simp] theorem LaneSt.acked_folio (l : LaneSt) (p : LaneId) (n : Nat) : (l.acked p n).folio = l.folio := rfl
@[simp] theorem LaneSt.acked_commit (l : LaneSt) (p : LaneId) (n : Nat) : (l.acked p n).commit = l.commit := rfl
@[simp] theorem LaneSt.acked_staging (l : LaneSt) (p : LaneId) (n : Nat) : (l.acked p n).staging = l.staging := rfl
@[simp] theorem LaneSt.acked_irq (l : LaneSt) (p : LaneId) (n : Nat) : (l.acked p n).irq = l.irq := rfl
@[simp] theorem LaneSt.acked_flt (l : LaneSt) (p : LaneId) (n : Nat) : (l.acked p n).flt = l.flt := rfl
@[simp] theorem LaneSt.acked_bist (l : LaneSt) (p : LaneId) (n : Nat) : (l.acked p n).bist = l.bist := rfl
@[simp] theorem LaneSt.acked_comm (l : LaneSt) (p : LaneId) (n : Nat) : (l.acked p n).comm = l.comm := rfl
@[simp] theorem LaneSt.acked_gate (l : LaneSt) (p : LaneId) (n : Nat) : (l.acked p n).gate = l.gate := rfl
@[simp] theorem LaneSt.acked_adc (l : LaneSt) (p : LaneId) (n : Nat) : (l.acked p n).adc = l.adc := rfl
@[simp] theorem LaneSt.acked_fbk (l : LaneSt) (p : LaneId) (n : Nat) : (l.acked p n).fbk = l.fbk := rfl
@[simp] theorem LaneSt.acked_loop (l : LaneSt) (p : LaneId) (n : Nat) : (l.acked p n).loop = l.loop := rfl
@[simp] theorem LaneSt.acked_prof (l : LaneSt) (p : LaneId) (n : Nat) : (l.acked p n).prof = l.prof := rfl
@[simp] theorem LaneSt.acked_sec (l : LaneSt) (p : LaneId) (n : Nat) : (l.acked p n).sec = l.sec := rfl
@[simp] theorem LaneSt.acked_sio (l : LaneSt) (p : LaneId) (n : Nat) : (l.acked p n).sio = l.sio := rfl
@[simp] theorem LaneSt.acked_net (l : LaneSt) (p : LaneId) (n : Nat) : (l.acked p n).net = l.net := rfl
@[simp] theorem LaneSt.acked_mem (l : LaneSt) (p : LaneId) (n : Nat) : (l.acked p n).mem = l.mem := rfl
@[simp] theorem LaneSt.acked_pwr (l : LaneSt) (p : LaneId) (n : Nat) : (l.acked p n).pwr = l.pwr := rfl
@[simp] theorem LaneSt.acked_posted (l : LaneSt) (p : LaneId) (n : Nat) : (l.acked p n).posted = l.posted := rfl
@[simp] theorem LaneSt.acked_free (l : LaneSt) (p : LaneId) (n : Nat) : (l.acked p n).free = l.free := rfl

/-! ## heard -/

@[simp] theorem LaneSt.heard_id (l : LaneSt) (src : Arrival) (k : Nat) : (l.heard src k).id = l.id := by unfold LaneSt.heard; split <;> simp
@[simp] theorem LaneSt.heard_regs (l : LaneSt) (src : Arrival) (k : Nat) : (l.heard src k).regs = l.regs := by unfold LaneSt.heard; split <;> simp
@[simp] theorem LaneSt.heard_time (l : LaneSt) (src : Arrival) (k : Nat) : (l.heard src k).time = l.time := by unfold LaneSt.heard; split <;> simp
@[simp] theorem LaneSt.heard_xing (l : LaneSt) (src : Arrival) (k : Nat) : (l.heard src k).xing = l.xing := by unfold LaneSt.heard; split <;> simp
@[simp] theorem LaneSt.heard_hif (l : LaneSt) (src : Arrival) (k : Nat) : (l.heard src k).hif = l.hif := by unfold LaneSt.heard; split <;> simp
@[simp] theorem LaneSt.heard_folio (l : LaneSt) (src : Arrival) (k : Nat) : (l.heard src k).folio = l.folio := by unfold LaneSt.heard; split <;> simp
@[simp] theorem LaneSt.heard_commit (l : LaneSt) (src : Arrival) (k : Nat) : (l.heard src k).commit = l.commit := by unfold LaneSt.heard; split <;> simp
@[simp] theorem LaneSt.heard_staging (l : LaneSt) (src : Arrival) (k : Nat) : (l.heard src k).staging = l.staging := by unfold LaneSt.heard; split <;> simp
@[simp] theorem LaneSt.heard_irq (l : LaneSt) (src : Arrival) (k : Nat) : (l.heard src k).irq = l.irq := by unfold LaneSt.heard; split <;> simp
@[simp] theorem LaneSt.heard_flt (l : LaneSt) (src : Arrival) (k : Nat) : (l.heard src k).flt = l.flt := by unfold LaneSt.heard; split <;> simp
@[simp] theorem LaneSt.heard_bist (l : LaneSt) (src : Arrival) (k : Nat) : (l.heard src k).bist = l.bist := by unfold LaneSt.heard; split <;> simp
@[simp] theorem LaneSt.heard_comm (l : LaneSt) (src : Arrival) (k : Nat) : (l.heard src k).comm = l.comm := by unfold LaneSt.heard; split <;> simp
@[simp] theorem LaneSt.heard_gate (l : LaneSt) (src : Arrival) (k : Nat) : (l.heard src k).gate = l.gate := by unfold LaneSt.heard; split <;> simp
@[simp] theorem LaneSt.heard_adc (l : LaneSt) (src : Arrival) (k : Nat) : (l.heard src k).adc = l.adc := by unfold LaneSt.heard; split <;> simp
@[simp] theorem LaneSt.heard_fbk (l : LaneSt) (src : Arrival) (k : Nat) : (l.heard src k).fbk = l.fbk := by unfold LaneSt.heard; split <;> simp
@[simp] theorem LaneSt.heard_loop (l : LaneSt) (src : Arrival) (k : Nat) : (l.heard src k).loop = l.loop := by unfold LaneSt.heard; split <;> simp
@[simp] theorem LaneSt.heard_prof (l : LaneSt) (src : Arrival) (k : Nat) : (l.heard src k).prof = l.prof := by unfold LaneSt.heard; split <;> simp
@[simp] theorem LaneSt.heard_sec (l : LaneSt) (src : Arrival) (k : Nat) : (l.heard src k).sec = l.sec := by unfold LaneSt.heard; split <;> simp
@[simp] theorem LaneSt.heard_sio (l : LaneSt) (src : Arrival) (k : Nat) : (l.heard src k).sio = l.sio := by unfold LaneSt.heard; split <;> simp
@[simp] theorem LaneSt.heard_net (l : LaneSt) (src : Arrival) (k : Nat) : (l.heard src k).net = l.net := by unfold LaneSt.heard; split <;> simp
@[simp] theorem LaneSt.heard_mem (l : LaneSt) (src : Arrival) (k : Nat) : (l.heard src k).mem = l.mem := by unfold LaneSt.heard; split <;> simp
@[simp] theorem LaneSt.heard_pwr (l : LaneSt) (src : Arrival) (k : Nat) : (l.heard src k).pwr = l.pwr := by unfold LaneSt.heard; split <;> simp
@[simp] theorem LaneSt.heard_posted (l : LaneSt) (src : Arrival) (k : Nat) : (l.heard src k).posted = l.posted := by unfold LaneSt.heard; split <;> simp
@[simp] theorem LaneSt.heard_free (l : LaneSt) (src : Arrival) (k : Nat) : (l.heard src k).free = l.free := by unfold LaneSt.heard; split <;> simp

/-! ## send -/

@[simp] theorem LaneSt.send_id (l : LaneSt) (t h : Nat) (ws : List Nat) : (l.send t h ws).id = l.id := by simp [LaneSt.send, LaneSt.peers]
@[simp] theorem LaneSt.send_regs (l : LaneSt) (t h : Nat) (ws : List Nat) : (l.send t h ws).regs = l.regs := by simp [LaneSt.send, LaneSt.peers]
@[simp] theorem LaneSt.send_time (l : LaneSt) (t h : Nat) (ws : List Nat) : (l.send t h ws).time = l.time := by simp [LaneSt.send, LaneSt.peers]
@[simp] theorem LaneSt.send_xing (l : LaneSt) (t h : Nat) (ws : List Nat) : (l.send t h ws).xing = l.xing := by simp [LaneSt.send, LaneSt.peers]
@[simp] theorem LaneSt.send_hif (l : LaneSt) (t h : Nat) (ws : List Nat) : (l.send t h ws).hif = l.hif := by simp [LaneSt.send, LaneSt.peers]
@[simp] theorem LaneSt.send_folio (l : LaneSt) (t h : Nat) (ws : List Nat) : (l.send t h ws).folio = l.folio := by simp [LaneSt.send, LaneSt.peers]
@[simp] theorem LaneSt.send_commit (l : LaneSt) (t h : Nat) (ws : List Nat) : (l.send t h ws).commit = l.commit := by simp [LaneSt.send, LaneSt.peers]
@[simp] theorem LaneSt.send_staging (l : LaneSt) (t h : Nat) (ws : List Nat) : (l.send t h ws).staging = l.staging := by simp [LaneSt.send, LaneSt.peers]
@[simp] theorem LaneSt.send_irq (l : LaneSt) (t h : Nat) (ws : List Nat) : (l.send t h ws).irq = l.irq := by simp [LaneSt.send, LaneSt.peers]
@[simp] theorem LaneSt.send_flt (l : LaneSt) (t h : Nat) (ws : List Nat) : (l.send t h ws).flt = l.flt := by simp [LaneSt.send, LaneSt.peers]
@[simp] theorem LaneSt.send_bist (l : LaneSt) (t h : Nat) (ws : List Nat) : (l.send t h ws).bist = l.bist := by simp [LaneSt.send, LaneSt.peers]
@[simp] theorem LaneSt.send_comm (l : LaneSt) (t h : Nat) (ws : List Nat) : (l.send t h ws).comm = l.comm := by simp [LaneSt.send, LaneSt.peers]
@[simp] theorem LaneSt.send_gate (l : LaneSt) (t h : Nat) (ws : List Nat) : (l.send t h ws).gate = l.gate := by simp [LaneSt.send, LaneSt.peers]
@[simp] theorem LaneSt.send_adc (l : LaneSt) (t h : Nat) (ws : List Nat) : (l.send t h ws).adc = l.adc := by simp [LaneSt.send, LaneSt.peers]
@[simp] theorem LaneSt.send_fbk (l : LaneSt) (t h : Nat) (ws : List Nat) : (l.send t h ws).fbk = l.fbk := by simp [LaneSt.send, LaneSt.peers]
@[simp] theorem LaneSt.send_loop (l : LaneSt) (t h : Nat) (ws : List Nat) : (l.send t h ws).loop = l.loop := by simp [LaneSt.send, LaneSt.peers]
@[simp] theorem LaneSt.send_prof (l : LaneSt) (t h : Nat) (ws : List Nat) : (l.send t h ws).prof = l.prof := by simp [LaneSt.send, LaneSt.peers]
@[simp] theorem LaneSt.send_sec (l : LaneSt) (t h : Nat) (ws : List Nat) : (l.send t h ws).sec = l.sec := by simp [LaneSt.send, LaneSt.peers]
@[simp] theorem LaneSt.send_sio (l : LaneSt) (t h : Nat) (ws : List Nat) : (l.send t h ws).sio = l.sio := by simp [LaneSt.send, LaneSt.peers]
@[simp] theorem LaneSt.send_net (l : LaneSt) (t h : Nat) (ws : List Nat) : (l.send t h ws).net = l.net := by simp [LaneSt.send, LaneSt.peers]
@[simp] theorem LaneSt.send_mem (l : LaneSt) (t h : Nat) (ws : List Nat) : (l.send t h ws).mem = l.mem := by simp [LaneSt.send, LaneSt.peers]
@[simp] theorem LaneSt.send_pwr (l : LaneSt) (t h : Nat) (ws : List Nat) : (l.send t h ws).pwr = l.pwr := by simp [LaneSt.send, LaneSt.peers]
@[simp] theorem LaneSt.send_posted (l : LaneSt) (t h : Nat) (ws : List Nat) : (l.send t h ws).posted = l.posted := by simp [LaneSt.send, LaneSt.peers]
@[simp] theorem LaneSt.send_free (l : LaneSt) (t h : Nat) (ws : List Nat) : (l.send t h ws).free = l.free := by simp [LaneSt.send, LaneSt.peers]

@[simp] theorem LaneSt.setPeer_lead (l : LaneSt) (p : LaneId) (f : PeerView → PeerView) :
    (l.setPeer p f).vote.lead = l.vote.lead := by unfold LaneSt.setPeer; split <;> rfl
@[simp] theorem LaneSt.heard_lead (l : LaneSt) (src : Arrival) (k : Nat) : (l.heard src k).vote.lead = l.vote.lead := by
  unfold LaneSt.heard; split <;> simp [LaneSt.acked]
@[simp] theorem LaneSt.heard_rd (l : LaneSt) (src : Arrival) (k : Nat) (f : Field) : (l.heard src k).rd f = l.rd f := by
  simp [LaneSt.rd, LaneSt.word]

end Sys2Proof.Machine
end

