-- ==== Sys2Proof/Laws/Desc.lean ====
section
/-!
SUPPORT. Laws of the descriptor engine and of the ways a command reaches its lane: which lane changes and to what.
-/

namespace Sys2Proof.Machine

open Sys2Proof

theorem onBar_answers {l : LaneId} {f : LaneSt → LaneSt} {s : State} (h : (s.lane l).answers) :
    onBar l f s = .next (s.setLane l (f (s.lane l))) := by
  simp [onBar, onLane, h.1, h.2]

theorem onBar_silent {l : LaneId} {f : LaneSt → LaneSt} {s : State} (h : ¬(s.lane l).answers) : onBar l f s = .next s := by
  have : (s.lane l).pwr.off = true ∨ (s.lane l).pwr.nap = true := by
    by_contra hc
    simp only [not_or, Bool.not_eq_true] at hc
    exact h hc
  rcases this with h | h <;> simp [onBar, onLane, h]

theorem onReceiveN_heard {l : LaneId} {src : Arrival} {k : Nat} {f : LaneSt → LaneSt} {s : State}
    (h : (s.lane l).accepts src = true) :
    onReceiveN l src k f s = .next (s.setLane l (f ((s.lane l).heard src k))) := by
  simp [onReceiveN, onLane, h]

theorem onReceive_heard {l : LaneId} {src : Arrival} {f : LaneSt → LaneSt} {s : State} (h : (s.lane l).accepts src = true) :
    onReceive l src f s = .next (s.setLane l (f ((s.lane l).heard src 1))) := onReceiveN_heard h

/-- What is not accepted is discarded (R91 to R94). -/
theorem onReceive_discards {l : LaneId} {src : Arrival} {f : LaneSt → LaneSt} {s : State}
    (h : (s.lane l).accepts src = false) : onReceive l src f s = .next s := by
  simp [onReceive, onReceiveN, onLane, h]

/-- The first descriptor in the order of execution is taken when it may be. -/
theorem takeFrom_first {l : LaneSt} {p : DescOp → Bool} {d : Decided} {op : DescOp} {rest : List Decided}
    (h : l.firstReady d op rest) (hp : p op = true) : takeFrom l p [] l.hif.exec = some (d, op, rest) := by
  obtain ⟨h1, h2, h3⟩ := h
  rw [h1]
  simp only [takeFrom, h2]
  rcases h3 with h3 | h3 <;> simp_all [LaneSt.mayConsume]

/-- A descriptor at the front is executed: taken, its effect, and what only completes is settled. -/
theorem LaneSt.withDesc_first {l : LaneSt} {p : DescOp → Bool} {f : Decided → DescOp → LaneSt → LaneSt} {d : Decided}
    {op : DescOp} {rest : List Decided} (h : l.firstReady d op rest) (hp : p op = true) :
    l.withDesc p f = (f d op (l.takes d op rest)).settle := by
  unfold LaneSt.withDesc
  rw [takeFrom_first h hp]
  rfl

end Sys2Proof.Machine
end

