-- ==== Sys2Proof/Laws/Regs.lean ====
section
/-!
SUPPORT. Laws of the register file: a word and a field read back what was written, and every other word or field reads as
before.
-/

namespace Sys2Proof.Machine

open Sys2Proof

/-- The register file of a lane is in canonical form. -/
abbrev LaneSt.regsWf (l : LaneSt) : Prop := Sparse.wf (regReset l.id) l.regs = true

theorem LaneSt.word_setWord_same {l : LaneSt} (h : l.regsWf) (off : Nat) (w : Word) : (l.setWord off w).word off = w :=
  Sparse.get_set_same h off w

theorem LaneSt.word_setWord_ne (l : LaneSt) {off o : Nat} (h : o ≠ off) (w : Word) : (l.setWord off w).word o = l.word o :=
  Sparse.get_set_ne l.regs h w

theorem LaneSt.regsWf_setWord {l : LaneSt} (h : l.regsWf) (off : Nat) (w : Word) : (l.setWord off w).regsWf :=
  Sparse.wf_set h off w

theorem LaneSt.regsWf_wr {l : LaneSt} (h : l.regsWf) (f : Field) (n : Nat) : (l.wr f n).regsWf := by
  unfold LaneSt.wr
  split
  · exact regsWf_setWord (regsWf_setWord h _ _) _ _
  · exact regsWf_setWord h _ _

/-- A field write leaves every word outside the field's register as it is. -/
theorem LaneSt.word_wr_ne (l : LaneSt) {f : Field} {o : Nat} (h : o ≠ f.off) (h' : f.width ≠ 64) (n : Nat) :
    (l.wr f n).word o = l.word o := by
  unfold LaneSt.wr
  rw [if_neg h']
  exact word_setWord_ne l h _

theorem getField_putField (lo width w n : Nat) : getField lo width (putField lo width w n) = n % 2 ^ width := by
  unfold getField putField
  have h1 : w % 2 ^ lo < 2 ^ lo := Nat.mod_lt _ (Nat.two_pow_pos lo)
  have h2 : w / 2 ^ (lo + width) * 2 ^ (lo + width) + n % 2 ^ width * 2 ^ lo + w % 2 ^ lo
      = 2 ^ lo * (w / 2 ^ (lo + width) * 2 ^ width + n % 2 ^ width) + w % 2 ^ lo := by
    rw [Nat.pow_add]; ring
  rw [h2, Nat.mul_add_div (Nat.two_pow_pos lo), Nat.div_eq_of_lt h1, Nat.add_zero, Nat.mul_add_mod', Nat.mod_mod]

theorem putField_lt {lo width w n : Nat} (h : lo + width ≤ 32) (hw : w < 2 ^ 32) : putField lo width w n < 2 ^ 32 := by
  unfold putField
  have h1 : w % 2 ^ lo < 2 ^ lo := Nat.mod_lt _ (Nat.two_pow_pos lo)
  have h2 : n % 2 ^ width < 2 ^ width := Nat.mod_lt _ (Nat.two_pow_pos width)
  have h3 : n % 2 ^ width * 2 ^ lo + w % 2 ^ lo < 2 ^ (lo + width) := by
    have : n % 2 ^ width * 2 ^ lo + 2 ^ lo ≤ 2 ^ width * 2 ^ lo := by
      rw [← Nat.succ_mul]; exact Nat.mul_le_mul_right _ h2
    rw [Nat.pow_add, Nat.mul_comm (2 ^ lo)]; omega
  obtain ⟨k, hk⟩ : ∃ k, 32 = lo + width + k := ⟨32 - (lo + width), by omega⟩
  have h4 : w / 2 ^ (lo + width) < 2 ^ k := by
    apply Nat.div_lt_of_lt_mul; rw [← Nat.pow_add, ← hk]; exact hw
  have h5 : w / 2 ^ (lo + width) * 2 ^ (lo + width) + 2 ^ (lo + width) ≤ 2 ^ k * 2 ^ (lo + width) := by
    rw [← Nat.succ_mul]; exact Nat.mul_le_mul_right _ h4
  have h6 : 2 ^ k * 2 ^ (lo + width) = 2 ^ 32 := by rw [← Nat.pow_add, Nat.add_comm, ← hk]
  omega

/-- A field below another in the same word is not touched by a write of the upper one. -/
theorem getField_putField_low {lo width w n lo' width' : Nat} (h : lo' + width' ≤ lo) :
    getField lo' width' (putField lo width w n) = getField lo' width' w := by
  unfold getField
  obtain ⟨k, rfl⟩ : ∃ k, lo = lo' + width' + k := ⟨lo - (lo' + width'), by omega⟩
  have e : ∀ x, x / 2 ^ lo' % 2 ^ width' = x % 2 ^ (lo' + width') / 2 ^ lo' := by
    intro x; rw [Nat.pow_add, Nat.mod_mul_right_div_self]
  rw [e, e]
  congr 1
  unfold putField
  have h1 : 2 ^ (lo' + width') ∣ 2 ^ (lo' + width' + k + width) := ⟨2 ^ (k + width), by rw [← Nat.pow_add]; congr 1; omega⟩
  have h2 : 2 ^ (lo' + width') ∣ 2 ^ (lo' + width' + k) := ⟨2 ^ k, by rw [← Nat.pow_add]⟩
  rw [Nat.add_mod, Nat.add_mod (_ * _), Nat.mod_eq_zero_of_dvd (Dvd.dvd.mul_left h1 _), Nat.mod_eq_zero_of_dvd (Dvd.dvd.mul_left h2 _),
    Nat.mod_mod_of_dvd _ h2]
  simp

/-- A field above another in the same word is not touched by a write of the lower one. -/
theorem getField_putField_high {lo width w n lo' width' : Nat} (h : lo + width ≤ lo') :
    getField lo' width' (putField lo width w n) = getField lo' width' w := by
  unfold getField
  obtain ⟨k, rfl⟩ : ∃ k, lo' = lo + width + k := ⟨lo' - (lo + width), by omega⟩
  congr 1
  rw [Nat.pow_add, ← Nat.div_div_eq_div_mul, ← Nat.div_div_eq_div_mul]
  congr 1
  unfold putField
  have h1 : w % 2 ^ lo < 2 ^ lo := Nat.mod_lt _ (Nat.two_pow_pos lo)
  have h2 : n % 2 ^ width < 2 ^ width := Nat.mod_lt _ (Nat.two_pow_pos width)
  have h3 : n % 2 ^ width * 2 ^ lo + w % 2 ^ lo < 2 ^ (lo + width) := by
    have : n % 2 ^ width * 2 ^ lo + 2 ^ lo ≤ 2 ^ width * 2 ^ lo := by
      rw [← Nat.succ_mul]; exact Nat.mul_le_mul_right _ h2
    rw [Nat.pow_add, Nat.mul_comm (2 ^ lo)]; omega
  rw [Nat.add_assoc, Nat.add_comm, Nat.add_mul_div_right _ _ (Nat.two_pow_pos _), Nat.div_eq_of_lt h3, Nat.zero_add]

/-- A field reads back what was written, cut to its width. -/
theorem LaneSt.rd_wr_same {l : LaneSt} (h : l.regsWf) {f : Field} (hw : f.lo + f.width ≤ 32) (n : Nat) :
    (l.wr f n).rd f = n % 2 ^ f.width := by
  have h64 : f.width ≠ 64 := by omega
  unfold LaneSt.rd LaneSt.wr
  rw [if_neg h64, if_neg h64, word_setWord_same h]
  rw [BitVec.toNat_ofNat, Nat.mod_eq_of_lt (putField_lt hw (l.word f.off).isLt), getField_putField]

/-- A field of another word reads as before. -/
theorem LaneSt.rd_wr_ne (l : LaneSt) {f g : Field} (h : g.off ≠ f.off) (hf : f.width ≠ 64) (hg : g.width ≠ 64) (n : Nat) :
    (l.wr f n).rd g = l.rd g := by
  unfold LaneSt.rd
  rw [if_neg hg, if_neg hg, word_wr_ne l h hf]

/-- Another field of the same word reads as before. -/
theorem LaneSt.rd_wr_disjoint {l : LaneSt} (h : l.regsWf) {f g : Field} (ho : g.off = f.off) (hf : f.lo + f.width ≤ 32)
    (hg : g.lo + g.width ≤ 32) (hd : g.lo + g.width ≤ f.lo ∨ f.lo + f.width ≤ g.lo) (n : Nat) :
    (l.wr f n).rd g = l.rd g := by
  have h64 : f.width ≠ 64 := by omega
  have h64' : g.width ≠ 64 := by omega
  unfold LaneSt.rd LaneSt.wr
  rw [if_neg h64', if_neg h64, if_neg h64', ho, word_setWord_same h, BitVec.toNat_ofNat,
    Nat.mod_eq_of_lt (putField_lt hf (l.word f.off).isLt)]
  rcases hd with hd | hd
  · exact getField_putField_low hd
  · exact getField_putField_high hd

end Sys2Proof.Machine
end

