-- ==== Sys2Proof/Laws/Sram.lean ====
section
/-!
SUPPORT. The SRAM words a requester or the scrub writes (R421, R422): a read after a write, the words beside it, and the
canonical form of the list that holds them.
-/

namespace Sys2Proof.Machine

open Sys2Proof

/-- The SRAM words of a lane are in canonical form: keys rising, no word listed that an unlisted one reads as. -/
abbrev LaneSt.SramWf (l : LaneSt) : Prop := Sparse.wf (fun _ => 0) l.mem.sram = true

theorem reset_sramWf (k : LaneId) : (LaneSt.reset k).SramWf := rfl

theorem sramPut_sramWf {l : LaneSt} (h : l.SramWf) (key : Nat) (v : Dword) : (l.sramPut key v).SramWf := Sparse.wf_set h key v

theorem sramLeave_sramWf {l : LaneSt} (h : l.SramWf) (key : Nat) : (l.sramLeave key).SramWf := h

theorem sramPut_sramWord {l : LaneSt} (h : l.SramWf) (key : Nat) (v : Dword) : (l.sramPut key v).sramWord key = v :=
  Sparse.get_set_same h key v

theorem sramPut_sramWord_ne (l : LaneSt) {key other : Nat} (h : other ≠ key) (v : Dword) :
    (l.sramPut key v).sramWord other = l.sramWord other := Sparse.get_set_ne _ h v

end Sys2Proof.Machine
end

