-- ==== Sys2Proof/Tests/Slice0.lean ====
section
/-!
SUPPORT. Tests: states that meet the hypotheses of the statements, the refusals of the well-formedness checks, and small
checks of single commands against values worked out from the spec (its worked examples).
-/

namespace Sys2Proof.Tests

open Sys2Proof Sys2Proof.Machine

set_option Elab.async false

/-! ## States for the tests -/

/-- Lane A with register fields written. -/
def lane (ws : List (Field × Nat)) : LaneSt := ws.foldl (fun x w => x.wr w.1 w.2) (LaneSt.reset .A)

/-- The device after reset but for lane A. -/
def st (ws : List (Field × Nat)) (f : LaneSt → LaneSt) : State := State.reset.setLane .A (f (lane ws))

theorem canon_start {k : LaneId} : LaneSt.Canon k (LaneSt.reset k) := ⟨rfl, rfl, rfl, fun _ _ => rfl⟩

/-- A state so built is sound where no identity register was written and `f` leaves the registers and the staging area. -/
theorem sound_st {ws : List (Field × Nat)} {f : LaneSt → LaneSt} (hw : ws.all (fun w => decide (4096 ≤ w.1.off)) = true)
    (hf : ∀ x, (f x).id = x.id ∧ (f x).regs = x.regs ∧ (f x).staging = x.staging) : State.Canon (st ws f) := by
  have hl : ∀ (vs : List (Field × Nat)) (x : LaneSt), vs.all (fun w => decide (4096 ≤ w.1.off)) = true →
      LaneSt.Canon .A x → LaneSt.Canon .A (vs.foldl (fun x w => x.wr w.1 w.2) x) := by
    intro vs
    induction vs with
    | nil => intro x _ h; exact h
    | cons v vs ih =>
      intro x hv h
      simp only [List.all_cons, Bool.and_eq_true, decide_eq_true_eq] at hv
      exact ih _ hv.2 (canon_wr h hv.1 _)
  have h := hl ws _ hw canon_start
  obtain ⟨h1, h2, h3⟩ := hf (lane ws)
  have hA : LaneSt.Canon .A (f (lane ws)) := by
    refine ⟨h1.trans h.id, ?_, ?_, fun off ho => ?_⟩
    · rw [h2]; exact h.regs
    · rw [h3]; exact h.staging
    · have := h.ident off ho
      unfold LaneSt.word at this ⊢
      rw [h1, h2]
      exact this
  intro k
  cases k
  · exact hA
  · exact canon_start
  · exact canon_start

/-- A member of three, lead, sealed, with its host queues on. -/
def run : List (Field × Nat) :=
  [(PWR.STATUS.STATE, 1), (VOTE.STATUS.SELF, 0), (VOTE.STATUS.MEMBERS, 7), (VOTE.STATUS.MODE, 0), (HIF.STATUS.SEALED, 1),
   (HIF.STATUS.LEAD, 1), (HIF.STATUS.LINK_UP, 1), (HIF.CTRL.EN, 1)]

/-- Its lead is itself, its peers are sealed with a hash, and a session is open. -/
def led (x : LaneSt) : LaneSt :=
  { x with
    vote := { x.vote with lead := some .A, p0 := { x.vote.p0 with setupHash := some 0, memb := 0 },
                          p1 := { x.vote.p1 with setupHash := some 0, memb := 0 } },
    sec := { x.sec with session := some 0x1234 } }

/-- A decided descriptor that asks for an operation. -/
def dd (op : DescOp) : Decided := ⟨0, 0, 0, 7, 1, false, false, 0x1234, 7, false, .execute op, none⟩

/-- A member may consume the descriptor now. -/
def may (x : LaneSt) (d : Decided) : Bool := x.isMember && x.mayConsume d

/-- The lead of three with the descriptor first in its order. -/
def sd (op : DescOp) (ws : List (Field × Nat)) (f : LaneSt → LaneSt) : State :=
  st (run ++ ws) (fun x => let y := f (led x); { y with hif := { y.hif with exec := [dd op] } })

/-- The lane when it has taken that descriptor. -/
def took (op : DescOp) (ws : List (Field × Nat)) (f : LaneSt → LaneSt) : LaneSt :=
  ((sd op ws f).lane .A).takes (dd op) op []

/-- That descriptor may be consumed. -/
theorem ready_sd {op : DescOp} {ws : List (Field × Nat)} {f : LaneSt → LaneSt}
    (h : may ((sd op ws f).lane .A) (dd op) = true) :
    ((sd op ws f).lane .A).firstReady (dd op) op [] := by
  rw [may, Bool.and_eq_true] at h
  exact ⟨rfl, rfl, Or.inl h⟩

/-- A message frame of lane B, and a record of it appended to its cycle frame. -/
def fromB : Arrival := ⟨.B, false, some 1, 0⟩

def withB : Arrival := ⟨.B, true, none, 0⟩

/-- The next state of an outcome. -/
def after (o : Host.Outcome State Fault Refusal) : State :=
  match o with
  | .next t => t
  | _ => State.reset

/-- Lane A after a command. -/
def aft (c : Instr) (s : State) : LaneSt := (after (exec c s)).lane .A


/-- A cycle frame of a member with its host link up. -/
def cf (cycle : Nat) : CycleFrame :=
  ⟨false, false, 0, 7, 0, 0, cycle, true, (0, 0), true, false, false, 15, 0, Vector.replicate 8 0, 0xFF, 7, 0, 0⟩

/-- Copies of one descriptor in lanes A and B. -/
def copies (a b : Option Nat) : Copies := { Copies.empty 0 0 with own := a.map (fun _ => [1]), fps := #v[a, b, none] }

/-! ## Host link and galleys: states that meet the hypotheses -/

theorem wit_Machine : State.Canon (st run led) ∧ (∃ t, step (st run led) = .next t) ∧
    ({ st run led with pending := [.nop .A] } : State).pending = [.nop .A] ∧ (st run led).pending = [] :=
  ⟨sound_st (by decide +kernel) (fun _ => ⟨rfl, rfl, rfl⟩), ⟨_, rfl⟩, rfl, rfl⟩

theorem wit_SealedLaneDiscardsWrites : ((st run led).lane .A).answers ∧ ((st run led).lane .A).sealed = true ∧ 0x3FFC < 0x4000 ∧
    0x400 ≤ 0x4400 % 0x800 ∧ ((st run led).lane .A).on HIF.CTRL.EN = true ∧ lockedByEn 0x3010 = true ∧ regRow 0x3010 ≠ none ∧
    regRow 0x3FFC = none ∧ lockedByEn 0x5040 = false :=
  ⟨⟨by decide +kernel, by decide +kernel⟩, by decide +kernel⟩

theorem wit_RegisterWrite_sound : State.Canon (st [] id) ∧ State.Canon (st [(HIF.CTRL.EN, 1)] id) ∧ ((st [] id).lane .A).answers ∧
    ((st [(HIF.CTRL.EN, 1)] id).lane .A).answers :=
  ⟨sound_st (by decide +kernel) (fun _ => ⟨rfl, rfl, rfl⟩), sound_st (by decide +kernel) (fun _ => ⟨rfl, rfl, rfl⟩), ⟨rfl, rfl⟩, ⟨rfl, rfl⟩⟩

theorem wit_RegisterWrite_words : ((st [] id).lane .A).sealed = false ∧ ((st [(HIF.CTRL.EN, 1)] id).lane .A).sealed = false ∧
    (regRow 0x3010).isSome = true ∧ sakWordAt 0x3010 = none ∧ ((st [] id).lane .A).on HIF.CTRL.EN = false ∧
    ((st [(HIF.CTRL.EN, 1)] id).lane .A).on HIF.CTRL.EN = true ∧ lockedByEn 0x3010 = true ∧ regRow 0x3FFC = none ∧
    sakWordAt 0x3FFC = none ∧ (0x12345679#32).toNat % 2 = 1 := by decide +kernel

theorem wit_HostLink : ((st run led).lane .A).answers ∧ isReg64 0x20040 = true ∧ ((st run led).lane .A).on HIF.STATUS.LINK_UP = true ∧
    ((st run led).lane .A).on HIF.STATUS.HOST_SILENT = false ∧ 0x20042 % 4 ≠ 0 ∧ ((st run led).lane .A).on FLT.CTRL.COMPAT = false ∧
    ((st [(FLT.CTRL.COMPAT, 1)] id).lane .A).on FLT.CTRL.COMPAT = true ∧ ((st [(FLT.CTRL.COMPAT, 1)] id).lane .A).answers :=
  ⟨⟨rfl, rfl⟩, by decide +kernel, by decide +kernel, by decide +kernel, by decide, by decide +kernel, by decide +kernel, ⟨rfl, rfl⟩⟩

/-- Galley 0 enabled with two descriptors to fetch. -/
def fetchable : State :=
  st (run ++ [(HIF.SG_CTRL.EN 0, 1), (HIF.SG_CTRL.WEIGHT 0, 1), (HIF.CG_CTRL.EN 0, 1)])
    (fun x => { led x with hif := { x.hif with sgTail := x.hif.sgTail.set 0 2 } })

/-- A lane whose link is lost and whose host has set Bus Master Enable. -/
def unlinked : State := st [] (fun x => { x with hif := { x.hif with pci := { x.hif.pci with command := 6 } } })

theorem wit_Doorbells : ((st run led).lane .A).on HIF.CTRL.EN = true ∧ ((st run led).lane .A).rd PWR.STATUS.STATE ≠ 3 ∧
    ((st run led).lane .A).on HIF.STATUS.LINK_UP = true ∧ (unlinked.lane .A).on HIF.STATUS.LINK_UP = false ∧
    bit (unlinked.lane .A).hif.pci.command 2 = true ∧ (unlinked.lane .A).hif.pci.d3 = false ∧ (fetchable.lane .A).nextGalley = some (0, 1) := by decide +kernel

/-- Lane B leads; lane A waits for its counts. -/
def follower (wait : Bool) : State :=
  st run (fun x => { led x with vote := { x.vote with lead := some .B }, hif := { x.hif with awaitCounts := wait } })

theorem wit_GalleyCounts : ((follower false).lane .A).accepts fromB = true ∧ ((follower true).lane .A).accepts withB = true ∧
    ((follower false).lane .A).vote.lead = some .B ∧ ((follower false).lane .A).hif.awaitCounts = false ∧
    ((follower true).lane .A).vote.lead = some .B ∧ ((follower true).lane .A).hif.awaitCounts = true := by decide +kernel

theorem wit_SetupHash : ((st run led).lane .A).accepts fromB = true ∧ ((st [] id).lane .A).accepts fromB = true ∧
    ((((st run led).lane .A).heard fromB 1).setPeer .B (fun v => { v with setupHash := some 5 })).sealed = true ∧
    ((((st [] id).lane .A).heard fromB 1).setPeer .B (fun v => { v with setupHash := some 5 })).sealed = false := by decide +kernel

/-- A read in flight of descriptor 0 of galley 0, whose copies stand as given. -/
def reading (c : List Copies) : State := st run (fun x => { led x with hif := { x.hif with reads := [(0, 0, 1)], copies := c } })

theorem wit_DescFetchComplete (b : List Byte) : ((reading []).lane .A).hif.reads = (0, 0, 1) :: [] ∧
    (((reading []).lane .A).copiesOf 0 0).agreed = none ∧ (((reading []).lane .A).copiesOf 0 0).wantMismatch = false ∧
    (((reading [{ Copies.empty 0 0 with wantMismatch := true }]).lane .A).copiesOf 0 0).wantMismatch = true ∧
    (((reading [{ Copies.empty 0 0 with agreed := some (descFp 0 b) }]).lane .A).copiesOf 0 0).wantCopy = none ∧
    (((reading [{ Copies.empty 0 0 with agreed := some (descFp 0 b), wantCopy := some (2, true, false) }]).lane .A).copiesOf 0 0).wantCopy =
      some (2, true, false) ∧
    (((reading [{ Copies.empty 0 0 with agreed := some (descFp 0 b + 1) }]).lane .A).copiesOf 0 0).agreed = some (descFp 0 b + 1) ∧
    descFp 0 b + 1 ≠ descFp 0 b := ⟨rfl, rfl, rfl, rfl, rfl, rfl, rfl, by omega⟩

theorem wit_DescFp : ((reading []).lane .A).accepts fromB = true ∧ ((((reading []).lane .A).heard fromB 1).copiesOf 0 0).agreed = none ∧
    ((((reading []).lane .A).heard fromB 1).copiesOf 0 0).wantMismatch = false ∧
    ((((reading [{ Copies.empty 0 0 with wantMismatch := true }]).lane .A).heard fromB 1).copiesOf 0 0).wantMismatch = true ∧
    ((((reading [{ Copies.empty 0 0 with agreed := some 9 }]).lane .A).heard fromB 1).copiesOf 0 0).agreed = some (9#64).toNat ∧
    9 ≠ (8#64).toNat := by decide +kernel

/-- A lane whose peers have their host link up, in a mode. -/
def waiting (mode en : Nat) : LaneSt :=
  let x := ((lane run).wr VOTE.STATUS.MODE mode).wr HIF.AGREE_CTRL.SINGLE_EN en
  { x with vote := { x.vote with p0 := { x.vote.p0 with last := some (cf 0) }, p1 := { x.vote.p1 with last := some (cf 0) } } }

theorem wit_Decision : (copies (some 1) (some 1)).agreed = none ∧ (copies (some 1) (some 1)).have ≠ 0 ∧
    (copies (some 1) (some 2)).agreeing ≠ (copies (some 1) (some 2)).have ∧ (copies (some 1) (some 2)).own = some [1] ∧
    (copies (some 1) (some 1)).agreeing = (copies (some 1) (some 1)).have ∧ (waiting 0 0).waited (copies (some 1) (some 1)) = true ∧
    (waiting 0 0).mode ≠ 2 ∧ 2 ≤ popCount 3 (copies (some 1) (some 1)).have ∧
    popCount 3 (copies (some 1) none).have = 1 ∧ (copies (some 1) none).agreeing = (copies (some 1) none).have ∧
    (waiting 2 0).mode = 2 ∧ (lane run).waited (copies (some 1) none) = false ∧ (lane run).mode ≠ 2 ∧
    (waiting 0 1).waited (copies (some 1) none) = true ∧ (waiting 0 1).on HIF.AGREE_CTRL.SINGLE_EN = true ∧
    (waiting 0 0).waited (copies (some 1) none) = true ∧ (waiting 0 0).on HIF.AGREE_CTRL.SINGLE_EN = false := by decide +kernel

/-! ## Descriptors: states that meet the hypotheses -/

/-- Channel 0 in RUN with a position generator, nothing limited. -/
def ch0 (state : Nat) : List (Field × Nat) :=
  [(COMM.STATUS.STATE 0, state), (PROF.CTRL.ROLE 0, 1), (PROF.CTRL.POS_OK 0, 1), (PROF.VMAX_CFG.VALUE 0, 1000)]

theorem wit_Nop : ((sd .nop [] id).lane .A).firstReady (dd .nop) .nop [] := ready_sd (by decide +kernel)

theorem wit_ParamRead : ((sd (.paramRead 0x3000 0 3) [] id).lane .A).firstReady (dd (.paramRead 0x3000 0 3)) (.paramRead 0x3000 0 3) [] ∧
    bit (took (.paramRead 0x3000 0 3) [] id).members LaneId.A.num = true ∧ (took (.paramRead 0x3000 0 3) [] id).vote.lead = some .A :=
  ⟨ready_sd (by decide +kernel), by decide +kernel, by decide +kernel⟩

/-- A SETPOINT of channel 0. -/
def sp (timed : Bool) : DescOp := .setpoint 0 0 timed 5 1 0

theorem wit_Setpoint : ((sd (sp false) (ch0 2) id).lane .A).firstReady (dd (sp false)) (sp false) [] ∧
    (let y := took (sp false) (ch0 2) id
     y.targetRejected 0 0 5 = none ∧ y.permSetup = none ∧ y.permMode = none ∧ y.motionDenied 0 true = none ∧
       y.kindDenied 0 0 = none ∧ y.targetBlocked 0 y.replanNs 0 5 = none) :=
  ⟨ready_sd (by decide +kernel), by decide +kernel⟩

theorem wit_SetpointTimed : ((sd (sp true) (ch0 2 ++ [(TIME.STATUS.FORM, 1)]) id).lane .A).firstReady (dd (sp true)) (sp true) [] ∧
    (let y := took (sp true) (ch0 2 ++ [(TIME.STATUS.FORM, 1)]) id
     y.targetRejected 0 0 5 = none ∧ y.permSetup = none ∧ y.permMode = none ∧ y.motionDenied 0 true = none ∧ y.permTime = none ∧
       y.kindDenied 0 0 = none ∧ y.targetBlocked 0 y.replanNs 0 5 = none ∧ y.replanNs ≤ time80 1 0 ∧
       (y.enqueue 0 ((time80 1 0 + 999) / 1000 * 1000) (.target 7 0 5)).isSome = true) :=
  ⟨ready_sd (by decide +kernel), by decide +kernel⟩

/-- A LIMITS of channel 0. -/
def lim : DescOp := .limits 0 1 false 1000 0 0 0 0 0 0

theorem wit_Limits : ((sd lim (ch0 2) id).lane .A).firstReady (dd lim) lim [] ∧
    (let y := took lim (ch0 2) id
     y.limitBad 0 1 1000 0 0 0 0 = none ∧ y.permSetup = none ∧ y.permMode = none ∧ y.motionDenied 0 false = none) :=
  ⟨ready_sd (by decide +kernel), by decide +kernel⟩

theorem wit_SetpointDenied :
    (let y := took (sp false) (ch0 2 ++ [(HIF.STATUS.SEALED, 0)]) id
     y.targetRejected 0 0 5 = none ∧ y.unsealedMembers ≠ 0) ∧
    (let y := took (sp false) (ch0 2 ++ [(HIF.STATUS.SETUP_DIFFERS, 1)]) id
     y.targetRejected 0 0 5 = none ∧ y.unsealedMembers = 0 ∧ y.on HIF.STATUS.SETUP_DIFFERS = true) ∧
    (let y := took (sp false) (ch0 2 ++ [(VOTE.STATUS.MODE, 2)]) id
     y.targetRejected 0 0 5 = none ∧ y.unsealedMembers = 0 ∧ y.on HIF.STATUS.SETUP_DIFFERS = false ∧ 2 ≤ y.mode) ∧
    (let y := took (sp false) (ch0 0) id
     y.targetRejected 0 0 5 = none ∧ y.unsealedMembers = 0 ∧ y.on HIF.STATUS.SETUP_DIFFERS = false ∧ y.mode < 2 ∧
       y.motionDenied 0 true = some (0x09, 0)) := by decide +kernel

theorem wit_SetpointDenied_first : ((sd (sp false) (ch0 2 ++ [(HIF.STATUS.SEALED, 0)]) id).lane .A).firstReady (dd (sp false)) (sp false) [] ∧
    ((sd (sp false) (ch0 2 ++ [(HIF.STATUS.SETUP_DIFFERS, 1)]) id).lane .A).firstReady (dd (sp false)) (sp false) [] ∧
    ((sd (sp false) (ch0 2 ++ [(VOTE.STATUS.MODE, 2)]) id).lane .A).firstReady (dd (sp false)) (sp false) [] ∧
    ((sd (sp false) (ch0 0) id).lane .A).firstReady (dd (sp false)) (sp false) [] :=
  ⟨ready_sd (by decide +kernel), ready_sd (by decide +kernel), ready_sd (by decide +kernel), ready_sd (by decide +kernel)⟩

/-- A CHANNEL_MODE of channel 0 in a lane whose channel has a state, and what the lane checks. -/
def modeOk (r state : Nat) : Bool :=
  let s := sd (.channelMode 0 r) (ch0 state) id
  let y := took (.channelMode 0 r) (ch0 state) id
  may (s.lane .A) (dd (.channelMode 0 r)) && !s.faultDue .A 0 && y.permSetup.isNone && y.permMode.isNone && decide (y.chState 0 = state)
    && (r = 0 || (y.enableDenied 0 (s.faultArg .A 0) false).isNone)

theorem wit_ChannelMode : modeOk 1 0 = true ∧ modeOk 2 0 = true ∧ modeOk 2 2 = true ∧ modeOk 1 3 = true ∧ modeOk 0 2 = true ∧
    modeOk 0 3 = true ∧ modeOk 0 0 = true ∧ modeOk 0 5 = true := by decide +kernel

/-- A FAULTED channel whose event is past. -/
def faulted (x : LaneSt) : LaneSt := { x with flt := { x.flt with source := x.flt.source.set 0 (some (0x10D, 0)) } }

theorem wit_SafeResetFaulted :
    may ((sd (.safeReset 0 0 0) (ch0 5) faulted).lane .A) (dd (.safeReset 0 0 0)) = true ∧
    (took (.safeReset 0 0 0) (ch0 5) faulted).chState 0 = 5 ∧ ((sd (.safeReset 0 0 0) (ch0 5) faulted).lane .A).inSafe = false ∧
    ((sd (.safeReset 0 0 0) (ch0 5) faulted).membersOf .A).any (fun j => ((sd (.safeReset 0 0 0) (ch0 5) faulted).lane j).sourcePresent 0) = false := by
  decide +kernel

/-- A channel stopped with a latch whose cause has gone. -/
def latched (x : LaneSt) : LaneSt := x.setComm 0 (fun c => { c with latch := 4, latchCat := 2 })

theorem wit_SafeResetLatched :
    may ((sd (.safeReset 0 0 0) (ch0 6) latched).lane .A) (dd (.safeReset 0 0 0)) = true ∧
    (let y := took (.safeReset 0 0 0) (ch0 6) latched
     y.chState 0 = 6 ∧ (y.ch 0).latch ≠ 0 ∧ y.latchCleared 0 = true) := by decide +kernel

/-- Function 15 in a state. -/
def sfIn (state : Nat) : State := sd (.safeReset 1 15 0) [(SIO.SF_CTRL.TYPE 15, 1), (SIO.SF_STATUS.STATE 15, state)] id

theorem wit_SafeResetFunction : may ((sfIn 3).lane .A) (dd (.safeReset 1 15 0)) = true ∧ ((sfIn 3).lane .A).sf 15 = 3 ∧ ((sfIn 0).lane .A).sf 15 = 0 ∧
    ((sfIn 2).lane .A).sf 15 = 2 ∧ ((sfIn 2).lane .A).sfType 15 ≠ 3 := by decide +kernel

/-- The session step of a descriptor passes. -/
def passes (op : DescOp) (ws : List (Field × Nat)) (f : LaneSt → LaneSt) : Bool :=
  may ((sd op ws f).lane .A) (dd op) &&
    ((took op ws f).sessionStep ((sd op ws f).leadSession .A (dd op)) (dd op)).2.isNone

theorem wit_Buffers : passes (.configStage 0 64 0 0) [] id = true ∧ (took (.configStage 0 64 0 0) [] id).committing = false ∧
    passes (.fwStage 0 false 0 64 0 0) [(PWR.STATUS.STATE, 2)] id = true ∧
    (took (.fwStage 0 false 0 64 0 0) [(PWR.STATUS.STATE, 2)] id).inHold = true ∧
    passes (.fleetKey 7 0 64) [] id = true ∧ (took (.fleetKey 7 0 64) [] id).permLanes 7 = none := by decide +kernel

/-- A buffer awaited, with or without an own copy of its descriptor. -/
def awaiting (own : Bool) : State :=
  st run (fun x => { led x with hif := { x.hif with
    bufWait := [(dd (.configStage 0 2 0 0), 0, 2)], copies := if own then [copies (some 1) none] else [] } })

theorem wit_HostBuffer :
    ((awaiting true).lane .A).hif.bufWait.find? (fun w => ((awaiting true).lane .A).hasOwn w.1) = some (dd (.configStage 0 2 0 0), 0, 2) ∧
    (((awaiting false).lane .A).heard fromB 1).hif.bufWait.find? (fun w => !(((awaiting false).lane .A).heard fromB 1).hasOwn w.1) =
      some (dd (.configStage 0 2 0 0), 0, 2) ∧ ((awaiting false).lane .A).accepts fromB = true ∧ frameCount [1, 2] = 1 ∧
    (({ (awaiting true).lane .A with hif := { ((awaiting true).lane .A).hif with dmaFails := 0 } } : LaneSt).crossBytes 0 [1, 2] []).2 =
      some [1, 2] ∧
    (({ (awaiting true).lane .A with hif := { ((awaiting true).lane .A).hif with dmaFails := 0 } } : LaneSt).crossBytes 0 [1, 2] [3]).2 =
      none := by decide +kernel

theorem wit_FwVerify : ((st run (fun x => { led x with sec := { x.sec with fwVerify := [dd (.fwStage 0 true 0 64 0 0)] } })).lane .A).sec.fwVerify =
    [dd (.fwStage 0 true 0 64 0 0)] ∧ LaneId.ofNum 0 = .A := ⟨rfl, rfl⟩

/-- Slot 0 of channel 0 in TUNE, with travel and limits. -/
def tuned : List (Field × Nat) :=
  ch0 3 ++ [(LOOP.CTRL.CH 0, 0), (LOOP.ENTRY.EN 0, 1), (LOOP.TUNE_TRAVEL.COUNTS 0, 1), (LOOP.OUT_MAX.VALUE 0, 2 ^ 20), (LOOP.OUT_MIN.VALUE 0, 2 ^ 32 - 2 ^ 20)]

theorem wit_Autotune : passes (.autotune 0 0 6 65536 65536) tuned id = true ∧
    (let y := took (.autotune 0 0 6 65536 65536) tuned id
     y.permSetup = none ∧ y.permMode = none ∧
     (let z := (y.sessionStep ((sd (.autotune 0 0 6 65536 65536) tuned id).leadSession .A (dd (.autotune 0 0 6 65536 65536))) (dd (.autotune 0 0 6 65536 65536))).1
      z.tuneBad 0 0 6 65536 65536 = none ∧ z.tuneDenied 0 0 (rescale 65536 (z.outFrac 0)) = none)) := by decide +kernel

/-- A DIAG of channel 0 in lane A. -/
def diagOk (test : Nat) : Bool :=
  let op : DescOp := .diag 0 test 1 0
  let ws := ch0 0 ++ [(COMM.CTRL.CLASS 0, test)]
  let y := took op ws id
  may ((sd op ws id).lane .A) (dd op) && y.permSetup.isNone && (y.diagDenied 0 test 1).isNone && bit 1 y.id.num

theorem wit_Diag : diagOk 0 = true ∧ diagOk 1 = true := by decide +kernel

/-- A PROOF_REQ that every lane can do. -/
def proves (region index : Nat) : Bool :=
  let op : DescOp := .proofReq region index 1
  let ws := [(BIST.CTRL.ONLINE_EN, 1), (BIST.STATUS.UNPROVED, 0)]
  let y := took op ws id
  may ((sd op ws id).lane .A) (dd op) && decide (index < regionCount region) && decide (1 - (1 &&& y.members) = 0)
    && y.on BIST.CTRL.ONLINE_EN && (region ≠ 5 || y.portUsers index = 0) && (sd op ws id).unprovable region index 1 = 0

theorem wit_ProofReq : proves 1 4 = true ∧ proves 5 23 = true := by decide +kernel

/-- A change log of one entry. -/
def logged (x : LaneSt) : LaneSt := { x with sec := { x.sec with log := [⟨0, 1, 0, true, false, 0, 0, 0, 5, 0⟩] } }

theorem wit_Reports : may ((sd (.attest [] 0 0) [] id).lane .A) (dd (.attest [] 0 0)) = true ∧
    (((sd (.attest [] 0 0) [] id).lane .A).consume (dd (.attest [] 0 0))).permLanes (2 ^ (DescOp.attest [] 0 0).reporter.num) = none ∧
    (sd (.logRead 0 false 0 1 0 4096) [] logged).logReadCheck (.logRead 0 false 0 1 0 4096) = none := by decide +kernel

/-- The lead awaits a report of lane B. -/
def reported : LaneSt := (st run (fun x => { led x with sec := { x.sec with report := [dd (.attest [] 1 0)] } })).lane .A

theorem wit_ReportCopy : reported.accepts fromB = true ∧ (reported.heard fromB 1).sec.report.find? (fun d => d.op.reporter = .B) =
      some (dd (.attest [] 1 0)) ∧ (reported.heard fromB 1).isLead = true := by decide +kernel

/-- A staged completion. -/
def done : Completion := ⟨0, 0, 7, 0, 0, 0, 0, 0, 7, false, true, some 0⟩

/-- Lane A alone a member, with a completion staged. -/
def staged : State := st (run ++ [(VOTE.STATUS.MEMBERS, 1)]) (fun x => { led x with hif := { x.hif with staged := [done] } })

theorem wit_CompletionWrite : (staged.lane .A).isLead = true ∧ ((staged.lane .A).hif.staged.find? (staged.stagedByAll (staged.lane .A).members)) = some done ∧
    (staged.lane .A).on HIF.STATUS.LINK_UP = true := by decide +kernel

theorem wit_SafeResetLane :
    (let s := sd (.safeReset 2 0 0) [] id
     let y := took (.safeReset 2 0 0) [] id
     may (s.lane .A) (dd (.safeReset 2 0 0)) = true ∧ (s.lane .A).inSafe = false ∧ y.inSafe = false ∧ y.id = .A ∧ y.self = 0 ∧ y.members ≠ 1) ∧
    (let s := sd (.safeReset 2 3 0) [] id
     may (s.lane .A) (dd (.safeReset 2 3 0)) = true ∧ (s.lane .A).activeChannels = 0 ∧ (took (.safeReset 2 3 0) [] id).activeChannels = 0) := by decide +kernel

theorem wit_LaneClear :
    (let op : DescOp := .laneClear 4 true
     let s := sd op [] id
     let y := took op [] id
     let x := (((y.sessionStep (s.leadSession .A (dd op)) (dd op)).1.okOutcome (dd op) (if s.restarts 4 true then 2 else 0) 0).settle)
     passes op [] id = true ∧ s.stagedElsewhere .A (dd op) = none ∧
       x.hif.staged.any (fun c => c.sg = (dd op).sg && c.seq = (dd op).found && c.status = 0) = true) ∧
    (let s := st run (fun x => { led x with vote := { x.vote with restartAll := true } })
     (s.lane .A).vote.restartAll = true ∧ LaneId.all.any (fun j => (s.lane j).hif.staged.any (fun c => c.opcode = 0x40)) = false) := by
  decide +kernel

/-! ## Folio, commit, vote and readmission: states that meet the hypotheses -/

/-- A member with a page for the present snapshot, and the fingerprint its peer in slot 0 has sent. -/
def paged (lead fp : Nat) : State :=
  st (run ++ [(HIF.STATUS.LEAD, lead)]) (fun x => { led x with
    folio := { x.folio with page := some [(0, 8, 2)], fp := (2, 9) },
    vote := { (led x).vote with p0 := { (led x).vote.p0 with folio := some (2, fp) } } })

/-- A FORMING lane whose boundaries run. -/
def forming : State := st [(PWR.STATUS.STATE, 1), (BIST.STATUS.FULL_RUNNING, 0)] id

theorem wit_Folio : ((st run led).lane .A).voting = true ∧ ((st run led).lane .A).isMember = true ∧
    (forming.lane .A).isMember = false ∧ (forming.lane .A).voting = true ∧
    ((st run led).lane .A).accepts fromB = true ∧ ((paged 1 9).lane .A).folio.page = some [(0, 8, 2)] ∧ ((paged 1 9).lane .A).folio.fp.1 ≠ 0 ∧
    ((paged 1 9).lane .A).folioAgrees = true ∧ ((paged 1 9).lane .A).isLead = true ∧ ((paged 0 9).lane .A).folioAgrees = true ∧
    ((paged 0 9).lane .A).isLead = false ∧ ((paged 1 8).lane .A).folioAgrees = false := by decide +kernel

/-- A CONFIG_COMMIT one second ahead. -/
def cc : DescOp := .configCommit 1 0 32 0

theorem wit_ConfigCommit : passes cc [(TIME.STATUS.FORM, 1)] id = true ∧
    (let y := took cc [(TIME.STATUS.FORM, 1)] id
     y.permTime = none ∧ y.committing = false ∧ y.time.now + y.leadTime * 2 ^ 32 ≤ time80 1 0 * 2 ^ 32 ∧
       time80 1 0 * 2 ^ 32 ≤ y.time.now + 10 ^ 10 * 2 ^ 32 ∧ (sd cc [(TIME.STATUS.FORM, 1)] id).logFull y.members = 0) := by
  decide +kernel

/-- The header of an image of no items. -/
def header : List Byte := toLe 4 0x54313643 ++ toLe 2 1 ++ toLe 2 0 ++ toLe 4 32 ++ List.replicate 20 0

/-- A commit of the staged 32 bytes. -/
def pendingCommit (crc : Nat) (apply : Bool) : Commit :=
  { d := dd cc, epoch := 0, length := 32, crc := crc, members := 7, changed := false, own := none, go := none, reason := none,
    apply := apply, oldFp := none }

/-- A member with that commit pending and some bytes staged. -/
def committed (c : Commit) (bytes : List Byte) : State :=
  st run (fun x => { led x with commit := some c, staging := (bytes.zipIdx.map (fun b => (b.2, b.1))).filter (fun p => p.2 ≠ 0) })

theorem wit_CommitReadyCheck : ((committed (pendingCommit 0 false) header).lane .A).commit = some (pendingCommit 0 false) ∧
    (pendingCommit 0 false).own = none ∧ crc32c (((committed (pendingCommit 0 false) header).lane .A).staged 0 32) ≠ 0 ∧
    crc32c (((committed (pendingCommit (crc32c header) false) header).lane .A).staged 0 32) = crc32c header := by decide +kernel

theorem wit_CommitRecord : ((committed (pendingCommit 0 false) header).lane .A).accepts fromB = true ∧
    ((committed (pendingCommit 0 false) header).lane .A).isMember = true ∧ (pendingCommit 0 false).go = none := by decide +kernel

theorem wit_AbortReason : (let x := led (lane run)
    let y : LaneSt := { x with vote := { x.vote with p0 := { x.vote.p0 with go := some false, nogo := (0x46, 3) } } }
    bit y.members LaneId.B.num = true ∧ LaneId.B ≠ y.id ∧ (y.peer .B).go = some false ∧ (y.peer .B).nogo.1 ≠ 0 ∧
      bit y.members y.id.num = true) := by decide +kernel

theorem wit_CommitDeadlines : ((st run led).lane .A).isMember = true ∧
    (pendingCommit 0 false).epoch ≤ ((st run led).lane .A).time.now + 4 * ((st run led).lane .A).tVote * 2 ^ 32 ∧
    (pendingCommit 0 false).epoch ≤ ((st run led).lane .A).time.now + 2 * ((st run led).lane .A).tVote * 2 ^ 32 ∧
    ((st run led).lane .A).membersWith (fun k => (if k = LaneId.A then (pendingCommit 0 false).go else (((st run led).lane .A).peer k).go) != some true) = 7 ∧
    (let x := led (lane run)
     let y : LaneSt := { x with vote := { x.vote with p0 := { x.vote.p0 with go := some true }, p1 := { x.vote.p1 with go := some true } } }
     y.membersWith (fun k => (if k = LaneId.A then some true else (y.peer k).go) != some true) = 0) := by decide +kernel

theorem wit_Epoch : ((committed (pendingCommit 0 true) header).lane .A).commit = some (pendingCommit 0 true) ∧
    (pendingCommit 0 true).apply = true ∧ (pendingCommit 0 true).oldFp = none ∧ (pendingCommit 0 true).epoch ≤ 0 ∧
    ((committed { pendingCommit 0 true with epoch := 5 } header).lane .A).time.now < 5 := by decide +kernel

theorem wit_Vote_tolerance : ((led (lane run)).tune 7) = none ∧ (led (lane run)).torqueAgree 7 0 0 = true ∧
    (led (lane run)).torqueAgree 7 0 99999999 = false := by decide +kernel

/-- A frame with one torque on every channel. -/
def torque (t : Int) : CycleFrame := { cf 0 with torque := Vector.replicate 8 t }

theorem wit_Vote_channels : (let x := led (lane run)
    (∀ f ∈ [(LaneId.A, torque 1), (.B, torque 1), (.C, torque 1)], bit f.2.tvalid 7 = true ∧ ¬ (f.2.proof = true ∧ f.2.proofCh = 7)) ∧
    bit { torque 0 with tvalid := 0 }.tvalid 7 = false ∧
    x.torqueAgree 7 1 1 = true ∧ x.torqueAgree 7 1 99999 = false ∧ x.torqueAgree 7 99999 1 = false ∧
    x.torqueAgree 7 1 999999 = false ∧ x.torqueAgree 7 99999 999999 = false) := by decide +kernel

/-- Three tolerance bands that overlap pairwise on one side only: a and b agree, b and c agree, a and c do not. -/
theorem wit_Vote_chain : (let x := ((led (lane run)).wr (VOTE.TOL.ABS 0) 1).wr (VOTE.TOL.REL 0) 0
    x.torqueAgree 0 0 256 = true ∧ x.torqueAgree 0 256 512 = true ∧ x.torqueAgree 0 0 512 = false) := by decide +kernel

/-- A member that has not voted in this cycle. -/
def unvoted (x : LaneSt) : LaneSt := { led x with vote := { (led x).vote with done := false } }

theorem wit_VoteCompute : ((st run unvoted).lane .A).vote.done = false ∧ ((st run unvoted).lane .A).voting = true ∧
    (let x : LaneSt := { (st run unvoted).lane .A with vote := { ((st run unvoted).lane .A).vote with done := true } }
     (if x.time.stepped then x else x.peers.foldl LaneSt.judgeLinks x).noteLeavers.isMember = true) := by decide +kernel

/-- The END word of the frame of lane B for cycle 0, and one with a bit changed. -/
def ending (flip : Nat) : Dword :=
  BitVec.ofNat 64 (crc32c ((frameBody .B (cf 0)).flatMap wordBytes) + 2 ^ 32 * countRecords 0 [] + flip)

theorem wit_Boundaries : (forming.lane .A).self = 4 ∧ (forming.lane .A).voting = true ∧ LaneId.B ≠ .A ∧
    endChecks .B (cf 0) [] (ending 0) = true ∧ endChecks .B (cf 0) [] (ending 2) = false ∧
    (let x := ((st run led).formStep .A .B (cf 0)).lane .A
     (x.peer .B).failed.1 = false ∧
     ((((x.acked .B 0).noteBlock .B (cf 0)).noteSelf .B (cf 0)).setPeer .B (fun v => { v with fresh := true, last := some (cf 0) })).cycleIndex = 0) := by
  decide +kernel

theorem wit_Records : ((st run led).lane .A).accepts fromB = true ∧ ((st run led).lane .A).accepts withB = true ∧
    ((st run led).lane .A).voting = true := by decide +kernel

theorem wit_Retransmit : ((st run (fun x => { led x with vote := { x.vote with tx := [⟨.C, some 5, false, 1, 0, []⟩] } })).lane .A).vote.tx.findIdx?
    (fun x => x.num.isSome && !x.spare && !(((st run led).lane .A).peer x.dest).failed.2) = some 0 := by decide +kernel

/-- A lane that awaits lane B's answer to a proof frame. -/
def proving : LaneSt := (st run (fun x => { led x with vote := { x.vote with p0 := { x.vote.p0 with proofSent := some 3 } } })).lane .A

theorem wit_ProofResult : proving.accepts fromB = true ∧ (proving.heard fromB 1).id = .A ∧
    ((proving.heard fromB 1).peer .B).proofSent.isSome = true := by decide +kernel

theorem wit_AliveStop : State.Canon (st run led) ∧ LaneId.C ≠ .A ∧ ((st run led).lane .A).isMember = true ∧ (((st run led).lane .A).peer .C).memb = 0 ∧
    ((st run led).lane .A).inSafe = false :=
  ⟨sound_st (by decide +kernel) (fun _ => ⟨rfl, rfl, rfl⟩), by decide, by decide +kernel, rfl, by decide +kernel⟩

/-- Attribution runs in lane A. -/
def attributing (triple : Bool) (attr : Nat) : State :=
  st (run ++ [(VOTE.STATUS.ATTRIBUTING, 1)]) (fun x => { led x with vote := { x.vote with attrTriple := triple, peerAttr := attr } })

theorem wit_Attribution_checks : (attributing false 2).ownChecks .A = 0 ∧ (attributing false 2).ownChecks .A + 64 * b2n true ≠ 0 ∧
    (attributing false 2).ownChecks .A + 64 * b2n false = 0 := by decide +kernel

theorem wit_Attribution : ((attributing false 2).lane .A).on VOTE.STATUS.ATTRIBUTING = true ∧ ((attributing false 2).lane .A).vote.attrTriple = false ∧
    ((attributing false 2).lane .A).vote.peerAttr ≠ 0 ∧ ((attributing true 0).lane .A).vote.attrTriple = true ∧
    ((attributing false 0).lane .A).vote.peerAttr = 0 := by decide +kernel

theorem wit_Stops : (let x := (st (run ++ [(VOTE.STATUS.STOPPING, 1)]) led).lane .A
    let stops (force : Bool) : LaneSt := (List.range 16).foldl (fun x f =>
      if x.on (SIO.SF_STATUS.STOPPING f) ∧ (force ∨ x.allRest (x.rd (SIO.SF_CTRL.STOP_MAP f))) then x.sfStopEnd f else x) x
    (stops false).on VOTE.STATUS.STOPPING = true ∧ (stops false).allRest 0xFF = true ∧ (stops true).on VOTE.STATUS.STOPPING = true) := by
  decide +kernel

/-- Lane A out of the membership at a point of its readmission; lane B a member. -/
def readmitting (self full state : Nat) (r : Readmit) (fails : Nat) : State :=
  (st [(PWR.STATUS.STATE, state), (VOTE.STATUS.SELF, self), (VOTE.STATUS.MEMBERS, 6), (VOTE.STATUS.MODE, 1), (BIST.STATUS.FULL_RUNNING, full)]
    (fun x => { x with vote := { x.vote with readmit := r, transferFails := fails } })).setLane .B ((LaneSt.reset .B).wr VOTE.STATUS.SELF 0)

/-- The readmitting lane when the frame of lane B has come. -/
def told (self : Nat) (r : Readmit) : LaneSt := ((readmitting self 0 1 r 0).lane .A).heard fromB 1

theorem wit_Readmission : ((readmitting 1 0 1 .waitRejoin 0).lane .A).self = 1 ∧ ((readmitting 1 0 1 .proofWait 0).lane .A).vote.readmit = .proofWait ∧
    ((readmitting 1 1 1 .proof 0).lane .A).vote.readmit = .proof ∧ ((readmitting 1 1 1 .proof 0).lane .A).on BIST.STATUS.FULL_RUNNING = true ∧
    ((readmitting 4 1 0 .none 0).lane .A).rd PWR.STATUS.STATE = 0 ∧ 2 ≤ ((readmitting 4 1 0 .none 0).lane .A).rd BIST.LAST_FULL.RESULT ∧
    (readmitting 1 0 1 .align 0).donor .A = some .B ∧ ((readmitting 1 0 1 .align 0).lane .A).self = 1 ∧
    (readmitting 1 0 1 .static 0).donor .A = some .B ∧ ((readmitting 1 0 1 .static 0).lane .A).accepts fromB = true ∧
    (told 1 .static).vote.readmit = .static ∧ frameCount [1] = 1 ∧ (told 1 .dynamic).vote.readmit = .dynamic ∧
    ((readmitting 2 0 1 .none 0).lane .A).self = 2 ∧ (told 1 .dynamic).isMember = false ∧ (told 2 .none).self = 2 := by decide +kernel

/-- A member without an own copy of a descriptor that was agreed. -/
def wanting (b : List Byte) : LaneSt :=
  (st run (fun x => { led x with hif := { x.hif with
    copies := [{ Copies.empty 0 0 with agreed := some (descFp 0 b), wantCopy := some (2, true, false) }] } })).lane .A

theorem wit_DescriptorCopy : (wanting [1]).accepts fromB = true ∧ ((wanting [1]).heard fromB 1).isMember = true ∧
    (((wanting [1]).heard fromB 1).copiesOf 0 0).wantCopy = some (2, true, false) ∧
    (((wanting [1]).heard fromB 1).copiesOf 0 0).agreed = some (descFp 0 [1]) := by decide +kernel

theorem wit_DynamicState : ((readmitting 1 0 1 .static 0).setSnap .A (some ⟨LaneSt.reset .B, Vector.replicate 24 0⟩)).snapOf .A =
    some ⟨LaneSt.reset .B, Vector.replicate 24 0⟩ := rfl

theorem wit_Readmission_powered : ((readmitting 1 1 1 .proof 0).lane .A).answers ∧ ((readmitting 4 1 0 .none 0).lane .A).answers :=
  ⟨⟨rfl, rfl⟩, ⟨rfl, rfl⟩⟩

theorem wit_FailedReadmission : (readmitting 1 0 1 .dynamic 1).donor .A = some .B ∧
    (readmitting 1 0 1 .dynamic 1).transferOk .A ((readmitting 1 0 1 .dynamic 1).lane .B) = false ∧
    1 ≤ ((readmitting 1 0 1 .dynamic 1).lane .A).vote.transferFails ∧
    ((readmitting 1 0 1 .dynamic 1).lane .A).inSafe = false := by decide +kernel

theorem wit_FailedReadmission_sound :
    State.Canon (st [(PWR.STATUS.STATE, 1), (VOTE.STATUS.SELF, 2)] id) ∧
    ((st [(PWR.STATUS.STATE, 1), (VOTE.STATUS.SELF, 2)] id).lane .A).self = 2 ∧
    State.Canon (st [(VOTE.STATUS.SELF, 1), (BIST.STATUS.FULL_RUNNING, 1)] (fun x => { x with vote := { x.vote with readmit := .proof } })) :=
  ⟨sound_st (by decide +kernel) (fun _ => ⟨rfl, rfl, rfl⟩), by decide +kernel, sound_st (by decide +kernel) (fun _ => ⟨rfl, rfl, rfl⟩)⟩

/-- Shutdowns of chopper leg 1, port 3 and output 7 run. -/
def shutting : State :=
  st (run ++ [(SIO.CTRL.EN, 1), (GATE.CHP_CTRL.OFF_I, 5), (NET.PORT_STATUS.STOPPING 1, 2)])
    (fun x => { led x with sio := { x.sio with shut := 0x80 }, gate := { x.gate with chpStop := (true, true) } })

theorem wit_Shutdowns : (shutting.lane .A).chopperStops 1 = true ∧ bit ((shutting.lane .A).rd GATE.OV_STATUS.CHP_ON) 1 = false ∧
    10 * (shutting.lane .A).rdI (ADC.RESULT.VALUE 51) < ((shutting.lane .A).rd GATE.CHP_CTRL.OFF_I : Int) * 65536 ∧
    (shutting.lane .A).portStopping 3 = true ∧ bit (shutting.lane .A).sio.shut 7 = true ∧ (shutting.lane .A).on SIO.CTRL.EN = true := by
  decide +kernel

/-! ## Profile generators, the loop engine, channels and feedback: states that meet the hypotheses -/

/-- Lane A of such a state. -/
def laneA (ws : List (Field × Nat)) (f : LaneSt → LaneSt) : LaneSt := (st ws f).lane .A

/-- A MOTION generator 0, moving. -/
def moving (ws : List (Field × Nat)) (f : PgSt → PgSt) : LaneSt :=
  laneA ([(PROF.CTRL.ROLE 0, 1), (PROF.STATUS.STATE 0, pgMoving)] ++ ws) (fun x => x.setPg 0 f)

/-- A target due now, and limits due at the same time. -/
def dueNow : List (Nat × ProfAct) := [(0, .target 1 0 5), (0, .limits 1 2 3 4 5 6)]

theorem wit_ProfileEvents : ((moving [] (fun q => { q with queue := dueNow })).dueList 0 0).length = 2 ∧
    firstDue ((moving [] (fun q => { q with queue := dueNow })).dueList 0 0) = some ⟨0, true, .limits 1 2 3 4 5 6⟩ ∧
    (moving [] id).role 0 ≠ 0 ∧ (moving [] id).rd (PROF.STATUS.STATE 0) ≠ pgOff ∧
    (((moving [] id).reversalCheck 0 0).pg 0).travelStop = none ∧
    (((moving [] (fun q => { q with travelStop := some 0 })).reversalCheck 0 0).pg 0).travelStop = some 0 ∧
    (moving [(PROF.SW_CTRL.LATCH_SRC 0, 0)] id).rd (PROF.SW_CTRL.LATCH_SRC 0) ≤ 8 ∧ (moving [] id).rd (PROF.SW_CTRL.LATCH_EDGE 0) = 0 ∧
    (moving [(PROF.SW_CTRL.LATCH_SRC 0, 8), (PROF.SW_CTRL.LATCH_EDGE 0, 2)] id).rd (PROF.SW_CTRL.LATCH_SRC 0) = 8 ∧
    (moving [(PROF.SW_CTRL.LIMP_SRC 0, 7), (PROF.SW_CTRL.LIMN_SRC 0, 0)] id).rd (PROF.SW_CTRL.LIMP_SRC 0) < 8 ∧
    (moving [(PROF.SW_CTRL.LIMP_SRC 0, 7), (PROF.SW_CTRL.LIMN_SRC 0, 0)] id).rd (PROF.SW_CTRL.LIMN_SRC 0) < 8 := by decide +kernel

/-- Slot 0 of timetable 0 due, in a given STATE, with a tune of its channel. -/
def due (state : Nat) : LaneSt :=
  laneA (run ++ [(LOOP.ENTRY.EN 0, 1), (LOOP.STATUS.STATE 0, state), (LOOP.CTRL.CH 0, 0)]) (fun x =>
    { led x with loop := { (led x).loop with tick := (led x).loop.tick.setIfInBounds 0 ⟨1, 0, [], false⟩ } })

/-- A tune of slot 0. -/
def tuneOf (aborted : Option (Nat × Nat)) : TuneSt :=
  ⟨dd (.autotune 0 0 0 1 1), 0, 0, 1, 1, 0, none, false, none, (0, 0), [], 0, false, aborted⟩

/-- The three members with that tune in lane A. -/
def tuning (aborted : Option (Nat × Nat)) : State := st run (fun x => (led x).setTune 0 (some (tuneOf aborted)))

theorem wit_HomingAndLoop : ((moving [] (fun q => { q with home := .search })).pg 0).home = .search ∧
    ((moving [] (fun q => { q with home := .toIndex })).pg 0).home = .toIndex ∧
    ((moving [] (fun q => { q with home := .indexStop })).pg 0).home = .indexStop ∧
    (laneA [(LOOP.TT_CTRL.SRC 3, 1)] id).rd (LOOP.TT_CTRL.SRC 3) = 1 ∧ (laneA [(LOOP.TT_CTRL.SRC 3, 1)] id).inHold = false ∧
    (due 1).inHold = false ∧ ((due 1).tt ((due 1).swapSetup.rd (LOOP.ENTRY.TT 0))).old = false ∧
    (due 1).slotDue 0 = true ∧ (due 1).rd (LOOP.STATUS.STATE 0) = 1 ∧ (due 2).slotDue 0 = true ∧ (due 2).rd (LOOP.STATUS.STATE 0) = 2 ∧
    (((due 2).setTune 0 (some (tuneOf none))).tune ((due 2).rd (LOOP.CTRL.CH 0))).isSome = true ∧
    ((tuning none).lane .A).tune 0 = some (tuneOf none) ∧ (tuneOf none).slot = 0 ∧
    ((tuning (some (0x75, 3))).tuneEnds .A 0).isSome = true ∧
    (laneA [(COMM.STATUS.WSTATE 7, 4)] id).rd (COMM.STATUS.WSTATE 7) = 4 ∧ ((laneA [] id).gateCh 7).resume = false := by decide +kernel

/-- A step output that owes steps. -/
def owing (b : Nat) : State :=
  st [(PROF.CTRL.ROLE 15, 1), (PROF.STEP_CTRL.EN 15, 1), (PROF.STEP_BACKLOG.STEPS 15, b)] id

theorem wit_StepPulse : State.Canon (owing 65) ∧ ((owing 65).lane .A).on (PROF.STEP_CTRL.EN 15) = true ∧ ((owing 65).lane .A).role 15 = 1 ∧
    (((owing 65).lane .A).pg 15).stepStop = false ∧ (((owing 65).lane .A).pg 15).pulseAt = none ∧ (((owing 65).lane .A).pg 15).dirAt = none ∧ ((owing 65).lane .A).rdI (PROF.STEP_BACKLOG.STEPS 15) = 65 ∧
    ((owing (2 ^ 32 - 65)).lane .A).rdI (PROF.STEP_BACKLOG.STEPS 15) = -65 :=
  ⟨sound_st (by decide +kernel) (fun _ => ⟨rfl, rfl, rfl⟩), by decide +kernel⟩

theorem wit_PipeRotation : State.Canon (st [] id) ∧ (laneA [] id).inHold = false ∧ (laneA [] id).rd LOOP.PIPE_STATUS.SPARE = 4 ∧ (laneA [] id).rd LOOP.PIPE_STATUS.RETIRED = 0 ∧
    (List.range 4).map (fun i => (laneA [] id).rd (logicalF i)) = [0, 1, 2, 3] :=
  ⟨sound_st (by decide +kernel) (fun _ => ⟨rfl, rfl, rfl⟩), by decide +kernel⟩

/-- Channel 0 of a lone member, in STARTING at a step. -/
def starting (step acq : Nat) (ws : List (Field × Nat)) : State :=
  st (run ++ [(VOTE.STATUS.MEMBERS, 1), (COMM.STATUS.STATE 0, 1)] ++ ws) (fun x =>
    ((led x).setComm 0 (fun c => { c with step := step })).setAng 0 (fun a => { a with acq := acq }))

theorem wit_ChannelSteps_start : ((starting 2 0 []).lane .A).chState 0 = 1 ∧ ((starting 2 0 []).lane .A).isMember = true ∧
    (((starting 2 0 []).lane .A).ch 0).step = 2 ∧ ((starting 2 0 []).lane .A).phaseIsoReady 0 = true ∧
    (starting 5 0 []).allAt .A 0 (fun c _ => 5 ≤ c.step) = true ∧ (((starting 5 0 []).lane .A).ang 0).acq = 0 ∧
    (((starting 5 2 []).lane .A).ang 0).acq = 2 ∧ (starting 5 3 []).allAt .A 0 (fun c a => 6 ≤ c.step || a.acq = 3) = true ∧
    (starting 6 0 []).allAt .A 0 (fun c _ => 6 ≤ c.step) = true ∧ (starting 7 0 []).allAt .A 0 (fun c _ => 7 ≤ c.step) = true ∧
    (starting 6 0 []).faultDue .A 0 = false ∧ (starting 7 0 []).faultDue .A 0 = false := by
  decide +kernel

theorem wit_ChannelSteps_align : (let x := (starting 5 2 [(COMM.SRC.PORT_P 0, 0), (FBK.STATUS.STATE 0, 1)]).lane .A
     x.rd (COMM.SRC.PORT_P 0) = 0 ∧ x.on (FBK.CTRL.IDX_EN 0) = false ∧ x.rd (FBK.STATUS.STATE 0) = 1) ∧
    ((starting 5 2 [(FBK.CTRL.IDX_EN 0, 1)]).lane .A).on (FBK.CTRL.IDX_EN 0) = true := by decide +kernel

/-- Channel 0 of a lone member in STOPPING, its winding rested or not. -/
def stopping (rested : Bool) : State :=
  st (run ++ [(VOTE.STATUS.MEMBERS, 1), (COMM.STATUS.STATE 0, 4), (GATE.LEG_CTRL.USE 0, 1)]) (fun x =>
    (led x).setComm 0 (fun c => { c with rested := rested }))

theorem wit_ChannelSteps_stop : ((stopping true).lane .A).chState 0 = 4 ∧ (stopping true).faultDue .A 0 = false ∧
    (((stopping true).lane .A).genRests 0 && ((stopping true).lane .A).genRests 1) = true ∧ ((stopping true).lane .A).hasRested 0 = true ∧
    ((stopping true).membersOf .A).all (fun j => ((stopping true).lane j).chState 0 ≠ 4 || ((stopping true).lane j).hasRested 0) = true ∧
    ((stopping false).lane .A).hasRested 0 = false ∧
    (laneA [(COMM.STATUS.ANGLE_SRC 0, 1), (COMM.THRESH.REV_PCT 0, 1)] id).slowEnough 0 = true ∧
    (let x := laneA [(COMM.STATUS.ANGLE_SRC 0, 1), (COMM.SRC.PORT_P 0, 0), (FBK.VELOCITY.VALUE 0, 9 * 65536), (PROF.VMAX_CFG.VALUE 0, 7 * 65536)] id
     9 * x.speedLimitNow 0 < 8 * (x.chSpeed 0).natAbs) := by decide +kernel

/-- Port 23 counting in a MODE. -/
def port (mode : Nat) (ws : List (Field × Nat)) (f : FbkPort → FbkPort) : LaneSt :=
  laneA ([(FBK.CTRL.MODE 23, mode), (FBK.STATUS.STATE 23, 2)] ++ ws) (fun x => x.setPort 23 f)

theorem wit_FeedbackDecoding_quad : (port 1 [] id).rd (FBK.CTRL.MODE 23) = 1 ∧
    (let y := ((port 1 [] id).line 23 0 true 99).line 23 1 false 99
     y.portCounts 23 = true ∧ y.level 23 0 ≠ (port 1 [] id).level 23 0 ∧ y.level 23 1 = (port 1 [] id).level 23 1) ∧
    (let y := ((port 1 [(FBK.CTRL.FILT 23, 3)] id).line 23 0 true 3).line 23 1 false 3
     y.portCounts 23 = true ∧ y.level 23 0 = false ∧ y.level 23 1 = false) ∧
    (let y := ((port 1 [] id).line 23 0 true 99).line 23 1 true 99
     y.portCounts 23 = true ∧ y.level 23 0 = true ∧ y.level 23 1 = true) ∧
    (let x := port 1 [(FBK.CTRL.IDX_EN 23, 1)] id
     x.on (FBK.CTRL.IDX_EN 23) = true ∧ x.level 23 2 = false ∧ (x.line 23 2 true 99).level 23 2 = true ∧
       (x.line 23 2 true 99).portCounts 23 = true) := by decide +kernel

theorem wit_FeedbackDecoding_frames : ((port 2 [] id).line 23 0 true 99).portCounts 23 = true ∧
    ((port 2 [] id).line 23 0 true 99).rd (FBK.STATUS.LINES 23) = 1 ∧ (port 2 [] id).rd (FBK.STATUS.LINES 23) ≠ 1 ∧ hallSector 0 = none ∧
    hallSector 1 = some 0 ∧ ((port 2 [] id).port 23).sector = none ∧ ((port 2 [] (fun q => { q with sector := some 5 })).port 23).sector = some 5 ∧
    (port 3 [] id).portCounts 23 = true ∧ ((port 3 [] id).port 23).ssiEnd = none ∧ ((port 3 [] id).port 23).ssiAt = none ∧
    ((port 3 [] (fun q => { q with ssiAt := some 0 })).port 23).ssiAt.isSome = true ∧ (port 3 [] id).ssiPosition 23 [] = none ∧
    (port 3 [(FBK.SSI_CTRL.LEN 23, 2), (FBK.SSI_FIELD.POS_LSB 23, 0), (FBK.SSI_FIELD.POS_WIDTH 23, 2), (FBK.SSI_CTRL.PAR 23, 0)] id).ssiPosition 23
      [true, true, true, false] = some 3 ∧ (port 4 [] id).portCounts 23 = true ∧ (port 4 [] id).sentNibbles 23 [] = none ∧
    ((port 4 [(FBK.SENT_CTRL.TICK 23, 5), (FBK.SENT_CTRL.NIBS 23, 1)] id).sentNibbles 23 [2800, 600, 600, 1100]) = some [0, 0, 10] := by decide +kernel

theorem wit_LongEnough : (let x := moving [] (fun q => { q with hold := some 0 })
      let y : LaneSt := { x with time := { x.time with now := 10 ^ 10 * 2 ^ 32 } }
      (y.pg 0).hold = some 0 ∧ 0 + 10 ^ 7 * y.rd (COMM.TMO.REV 0) * 2 ^ 32 < y.time.now) ∧
    (port 1 [] id).rd (FBK.STATUS.STATE 23) ≠ 4 ∧ (port 1 [] id).velMoves 23 = false ∧
    (let x := port 1 [(FBK.VEL.TMO 23, 10)] (fun q => { q with changes := [(0, 4)] })
     ({ x with time := { x.time with now := 10000 * 2 ^ 32 } } : LaneSt).velMoves 23 = false ∧
       ({ x with time := { x.time with now := 9990 * 2 ^ 32 } } : LaneSt).velMoves 23 = true) := by decide +kernel

theorem wit_FeedbackAndAcquisition : (port 3 [] id).on (FBK.STATUS.STALE 23) = false ∧ (port 3 [] id).rd (FBK.STATUS.STATE 23) ≠ 4 ∧
    (laneA [(FBK.STATUS.STATE 23, 4)] id).rd (FBK.STATUS.STATE 23) = 4 ∧ (laneA [] id).bist.out.contains (5, 23) = false ∧
    (let x := laneA [(FBK.PT_CTRL.MODE 3, 2), (FBK.POS_RAW.VALUE 0, 5), (FBK.PT_EMU.DIV 3, 1)] id
     x.rd (FBK.PT_CTRL.MODE 3) = 2 ∧ x.on (FBK.PT_STATUS.STOPPED 3) = false ∧ x.on (FBK.PT_STATUS.HELD 3) = false ∧
       x.fbk.pt.getD 3 0 ≠ x.ptTarget 3 ∧ x.fbk.ptAt.getD 3 none = none) ∧
    (let x := laneA [(FBK.PRB_CTRL.PORT 7, 23)] id
     x.rd (FBK.PRB_CTRL.PORT 7) < 24 ∧ x.rd (FBK.PRB_CTRL.EDGE 7) = 0 ∧ x.fbk.prbLevel.getD 7 false = false ∧
       filterLevel (x.rd (FBK.PRB_CTRL.PFILT 7) + 1) (holdLevel (x.fbk.prb.getD 7 (false, 0)) true 99) false = true ∧
       filterLevel (x.rd (FBK.PRB_CTRL.PFILT 7) + 1) (holdLevel (x.fbk.prb.getD 7 (false, 0)) false 99) false = false) := by decide +kernel

theorem wit_PositionCountLaw : State.Canon (st [] id) ∧
    (List.range 24).all (fun p => decide ((laneA [] id).rdI (FBK.POS_RAW.VALUE p) = 0 ∧ (laneA [] id).rdI (FBK.POS_BASE.VALUE p) = 0 ∧
      (laneA [] id).rdI (FBK.NET_DECODED.VALUE p) = 0 ∧ (laneA [] id).rdI (FBK.INFERRED_NET.VALUE p) = 0)) = true :=
  ⟨sound_st (by decide +kernel) (fun _ => ⟨rfl, rfl, rfl⟩), by decide +kernel⟩

theorem wit_DoubleStep : State.Canon (st [(FBK.CTRL.MODE 23, 1), (FBK.STATUS.STATE 23, 2)] (fun x => x.setPort 23 (fun q => { q with last := some 0 }))) ∧
    (List.range 4).all (fun k => decide ((port 1 [] id).rd (FBK.PT_CTRL.SRC k) ≠ 23 ∨ (port 1 [] id).rd (FBK.PT_CTRL.MODE k) ≠ 2)) = true ∧
    (port 1 [] (fun q => { q with last := some 0 })).gap 23 = some 0 ∧ (port 1 [] id).gap 23 = none ∧
    (port 1 [] id).portCounts 23 = true ∧ true ≠ (port 1 [] id).level 23 0 ∧ true ≠ (port 1 [] id).level 23 1 ∧
    (port 1 [] id).rd (FBK.CTRL.FILT 23) < 99 :=
  ⟨sound_st (by decide +kernel) (fun _ => ⟨rfl, rfl, rfl⟩), by decide +kernel⟩

/-! ## Acquisition and the power stage: states that meet the hypotheses -/

/-- ADC enabled; sequence 15 triggered by a source, with input 71 in it. -/
def acquiring (trig : Nat) (held : List Held) : LaneSt :=
  laneA [(ADC.CTRL.EN, 1), (ADC.CTRL.CAL_EN, 1), (ADC.SQ_CTRL.TRIG 15, trig), (ADC.SQ_MASK_X.MASK 15, 2 ^ 23)]
    (fun x => x.setHeld (x.coreOf 71) (fun _ => held))

theorem wit_Acquisition : (acquiring 4 []).on ADC.CTRL.EN = true ∧ (acquiring 4 []).rd (ADC.SQ_CTRL.TRIG 15) = 4 ∧
    (acquiring 4 []).seqDue 15 = true ∧ (acquiring 1 []).rd (ADC.SQ_CTRL.TRIG 15) = 1 ∧ (acquiring 1 []).seqDue 15 = true ∧
    (acquiring 3 []).rd (ADC.SQ_CTRL.TRIG 15) = 3 ∧ (acquiring 1 []).inHold = false ∧
    (acquiring 4 []).tooFew (((acquiring 4 []).seqInputs 15).filter (fun i => !(acquiring 4 []).pairLost (homeCore i))) = false ∧
    (acquiring 1 (List.replicate 4 ⟨71, 15, 0, none⟩)).seqDue 15 = true ∧
    (acquiring 1 (List.replicate 4 ⟨71, 15, 0, none⟩)).tooFew (((acquiring 1 []).seqInputs 15).filter
      (fun i => !(acquiring 1 []).pairLost (homeCore i))) = true ∧
    (acquiring 4 [⟨71, 15, 0, none⟩]).heldBy ((acquiring 4 []).coreOf 71) = [⟨71, 15, 0, none⟩] ∧
    (acquiring 4 []).on ADC.CTRL.CAL_EN = true ∧ bit ((acquiring 4 []).rd ADC.RETIRED.CORES) 23 = false := by decide +kernel

theorem wit_ZeroCal : (let x := laneA [(ADC.CTRL.EN, 1), (ADC.CTRL.CAL_EN, 1), (ADC.IN_CFG.ZC 23, 1), (COMM.STATUS.WSTATE 7, 3)] id
    x.on ADC.CTRL.EN = true ∧ x.on ADC.CTRL.CAL_EN = true ∧ x.rd (ADC.IN_CFG.ZC 23) ≠ 0 ∧ x.zeroWindow 23 = true ∧
      x.heldBy (x.coreOf 23) = []) := by decide +kernel

/-- Every carrier and leg in use, a test and a scan of channel 7. -/
def stage (ws : List (Field × Nat)) (scan : Option ScanSt) (test : Option CompTest) : LaneSt :=
  laneA ([(GATE.CAR_CTRL.EN 7, 1), (GATE.LEG_CTRL.USE 23, 1), (GATE.LEG_CTRL.USE 25, 3), (GATE.DESAT.COARSE_EN 23, 1)] ++ ws)
    (fun x => x.setGateCh 7 (fun g => { g with scan := scan, test := test }))

theorem wit_PowerStage : (stage [] none none).on (GATE.CAR_CTRL.EN 7) = true ∧ (stage [] none none).rd (GATE.LEG_CTRL.USE 25) ≠ 0 ∧
    (stage [] none none).rd (GATE.LEG_CTRL.USE 23) = 1 ∧ (stage [] none none).on (GATE.DESAT.COARSE_EN 23) = true ∧
    (stage [(GATE.ST_CTRL.BG_EN, 1)] none none).on GATE.ST_CTRL.BG_EN = true ∧ (stage [] none none).armed 23 true = true ∧ (stage [] none none).rd (COMM.CTRL.CLASS 7) = 0 ∧
    ((stage [] none (some ⟨0, 0, 0, 0, false⟩)).gateCh 7).test ≠ none ∧
    (stage [(GATE.STATUS.GS_L 23, 1)] none none).testWindow 23 false = true ∧ (stage [(GATE.STATUS.GS_H 23, 1)] none none).testWindow 23 true = true ∧
    ((stage [] (some ⟨10, true, [], 0⟩) none).gateCh 7).scan = some ⟨10, true, [], 0⟩ ∧
    ((stage [] (some ⟨1, false, [], 0⟩) none).gateCh 7).scan = some ⟨1, false, [], 0⟩ := by decide +kernel

theorem wit_Overvoltage : (stage [] none none).rd (GATE.LEG_CTRL.USE 25) = 3 ∧
    bit ((stage [] none none).rd GATE.OV_STATUS.CHP_ON) 1 = false ∧ bit ((stage [] none none).rd GATE.OV_STATUS.CHP_FAULT) 1 = false ∧
    (stage [(GATE.OV_STATUS.OV3_ACTIVE, 1)] none none).on GATE.OV_STATUS.OV3_ACTIVE = true ∧
    (stage [(GATE.OV_A.OV2, 9000)] none none).vdcAt ((stage [(GATE.OV_A.OV2, 9000)] none none).rd GATE.OV_A.OV2) = false ∧
    bit ((stage [] none none).rd GATE.DIE_STATUS.OV4) 1 = false ∧ (stage [] none none).vote.readmit ≠ .proof ∧ (stage [] none none).inHold = false ∧
    (stage [(GATE.DIE_STATUS.VGD_OK, 1)] none none).on GATE.DIE_STATUS.VGD_OK = true := by
  decide +kernel

theorem wit_SwitchEvent : State.Canon (st [(GATE.LEG_CTRL.USE 23, 1), (GATE.DESAT.COARSE_EN 23, 1)] id) ∧
    (laneA [(GATE.LEG_CTRL.USE 23, 1)] id).rd (GATE.LEG_CTRL.USE 23) = 1 ∧
    (laneA [(GATE.DESAT.COARSE_EN 23, 1)] id).on (GATE.DESAT.COARSE_EN 23) = true ∧
    (laneA [] id).armed 23 true = true ∧ (laneA [] id).armed 23 false = true ∧
    ¬ ((laneA [] id).rd (COMM.STATUS.WSTATE 7) = 3 ∨ ((laneA [] id).gateCh 7).naming = 2) :=
  ⟨sound_st (by decide +kernel) (fun _ => ⟨rfl, rfl, rfl⟩), by decide +kernel⟩

/-! ## Time, networks and CAN: states that meet the hypotheses -/

/-- A lane with its lane time running, PTP on, and time state changed. -/
def timed (ws : List (Field × Nat)) (f : TimeSt → TimeSt) : LaneSt :=
  laneA (run ++ [(TIME.CTRL.PTP_EN, 1)] ++ ws) (fun x => let y := led x; { y with time := f { y.time with running := true } })

theorem wit_Time : (timed [] id).on TIME.CTRL.PTP_EN = true ∧ (timed [] id).time.running = true ∧ (timed [] id).timeSource ≠ 5 ∧
    ((timed [] (fun t => { t with gmIds := (none, some 7) })).gmHeard true).isSome = true ∧
    (timed [] (fun t => { t with gmIds := (none, some 7) })).gmNetwork = some true ∧
    ((timed [] (fun t => { t with gmIds := (none, some 7) })).gmHeard false) = none ∧ (timed [] id).isMember = true ∧
    (timed [(TIME.STATUS.SOURCE, 4)] id).timeSource = 4 ∧
    (timed [(TIME.STATUS.SOURCE, 4), (TIME.HOLD.HOLDOVER, 1)] (fun t => { t with holdStart := some 0, now := 10 ^ 9 * 2 ^ 32 })).holdoverOver = true ∧
    (timed [] (fun t => { t with agreedAt := 0, now := 10 ^ 6 * 2 ^ 32 })).boundaryNs = 10 ^ 6 ∧
    (timed [(TIME.STATUS.SOURCE, 2)] (fun t => { t with stepAgreed := true, gmOffset := -5 })).targetOffset = some (-5) ∧
    (timed [(TIME.STATUS.SOURCE, 2)] (fun t => { t with stepAgreed := true })).stepPermitted = true ∧
    (timed [(TIME.CMP_CTRL.EN 3, 1)] id).on (TIME.CMP_CTRL.EN 3) = true ∧
    (timed [(TIME.CMP_CTRL.PHASE 3, 1)] id).compareIndex 3 = 0 ∧
    (timed [(TIME.CMP_CTRL.PHASE 3, 1)] (fun t => { t with now := 1000 * 2 ^ 32 })).compareIndex 3 = 1 ∧
    (timed [(TIME.CMP_CTRL.PHASE 3, 1)] (fun t => { t with now := 1000 * 2 ^ 32 })).time.cmpAt.get 3 = 0 ∧
    (timed [(NET.PORT_CTRL.EN1 1, 1), (TIME.CTRL.DELAY_MECH, 1), (BIST.STATUS.FULL_RUNNING, 0)] id).bridgeRuns = true ∧
    (timed [(NET.PORT_CTRL.EN1 1, 1), (TIME.CTRL.DELAY_MECH, 1)] id).portActive 3 = true ∧
    (timed [(TIME.CTRL.DELAY_MECH, 1)] id).on TIME.CTRL.DELAY_MECH = true := by decide +kernel

/-- A lane whose identity register has a value. -/
def identity (off : Nat) (w : Word) (x : LaneSt) : LaneSt :=
  { x with regs := x.regs.takeWhile (fun p => p.1 < off) ++ (off, w) :: x.regs.dropWhile (fun p => p.1 < off) }

/-- Running bridges with port 3 active and the internal address of the Blue bridge 9. -/
def bridged (ws : List (Field × Nat)) (f : NetSt → NetSt) : LaneSt :=
  laneA (run ++ [(BIST.STATUS.FULL_RUNNING, 0), (NET.PORT_CTRL.EN1 1, 1)] ++ ws) (fun x =>
    identity (NET.MAC_HI.ADDR 1).off 0 (identity (NET.MAC_LO.ADDR 1).off 9 ((led x).setNet f)))

/-- A frame of a length. -/
def frame (len : Nat) (ok : Bool) : EthFrame := ⟨2#48, 4#48, ok, none, 0, 0, none, len⟩

theorem wit_Network_frames : (bridged [] id).bridgeRuns = true ∧ (bridged [] id).portActive 3 = true ∧
    64 ≤ (frame 64 false).length ∧ (frame 64 false).fcsOk = false ∧ 1522 < (frame 1523 true).length ∧ (frame 1522 true).length ≤ 1522 ∧
    ((bridged [] id).verify 3 (frame 64 true)).1 = true ∧
    ((bridged [(NET.PORT_CTRL.MACSEC1 1, 1), (NET.MS_CTRL.STRICT 1 1, 1)] id).verify 3 (frame 64 true)).1 = false ∧
    (bridged [] id).forwardTo 3 2#48 = some 2 ∧
    (bridged [] (fun n => { n with table := n.table.setIfInBounds 1 [(2#48, 3, 0)] })).forwardTo 3 2#48 = none := by
  and_intros <;> decide +kernel

theorem wit_Network_ports : (bridged [(NET.PORT_STATUS.LINK1 1, 1)] id).on (portLinkF 3) = true ∧
    (bridged [] id).on (portLinkF 3) = false ∧ (bridged [(NET.PORT_STATUS.STOPPING 1, 2)] id).portStopping 3 = true ∧
    (bridged [(NET.PORT_CTRL.QBV1 1, 1)] id).on (portQbvF 3) = true ∧
    (bridged [(NET.QBV_CYCLE.CYCLE 1 1, 100)] id).qbvPlace 3 = some 0 ∧ (bridged [] id).qbvIndex 3 0 = 0 ∧
    (bridged [(NET.QBV_BASE_NS.NS 1 1, 1)] id).qbvPlace 3 = none := by
  and_intros <;> decide +kernel

/-- CAN bus 1 enabled, with its ring, filter 31 and object 15. -/
def canned (ws : List (Field × Nat)) : LaneSt :=
  laneA (run ++ [(BIST.STATUS.FULL_RUNNING, 0), (CAN.CAN_CTRL.EN 1, 1), (CAN.CAN_CTRL.PROTO 1, 2), (CAN.CAN_CTRL.RX_EN 1, 1), (CAN.FLT_ID.EN 1 31, 1),
    (CAN.TXO_ID.EN 1 15, 1), (CAN.STATUS.SPEAKER 1, 1)] ++ ws) (fun x => { led x with folio := { x.folio with agreed := [(0, 8, 2)] } })

/-- A frame with a payload. -/
def canFrame (kind : Fin 3) (n : Nat) : CanFrame := ⟨0, false, kind, 0, 0, 0, 0, List.replicate n 0⟩

theorem wit_Network_can : (canned []).canRuns 1 = true ∧ (2 : Nat) ≤ (canned []).rd (CAN.CAN_CTRL.PROTO 1) ∧
    (canned []).canFilter 1 (canFrame 2 105) = true ∧ 104 < (canFrame 2 105).data.length ∧ (canned []).vote.lead ≠ none ∧
    (canned []).on (CAN.CAN_CTRL.RX_EN 1) = true ∧ ¬ ((canFrame 2 104).kind = 2 ∧ 104 < (canFrame 2 104).data.length) ∧
    (canned []).on (CAN.CAN_CTRL.EN 1) = true ∧ (canned []).bridgeRuns = true ∧ (canned []).on (CAN.TXO_ID.EN 1 15) = true ∧
    (canned []).on (CAN.STATUS.SPEAKER 1) = true ∧ (canned []).folio.agreed ≠ [] ∧ (canned []).rd (CAN.STATUS.BUS 1) = 0 ∧
    (canned [(CAN.STATUS.BUS 1, 2)]).rd (CAN.STATUS.BUS 1) = 2 := by decide +kernel

theorem wit_RateStaysBounded : State.Canon (st [] id) ∧ (laneA [(TIME.RATE.VALUE, 200000)] id).rdI TIME.RATE.VALUE = 200000 ∧
    (laneA [(TIME.RATE.VALUE, 2 ^ 32 - 200000)] id).rdI TIME.RATE.VALUE = -200000 ∧ (laneA [] id).time.lockedRate = 0 ∧
    (st [] id).pending = [] ∧ ((st [] id).lane .B).time.running = false :=
  ⟨sound_st (by decide +kernel) (fun _ => ⟨rfl, rfl, rfl⟩), by decide +kernel, by decide +kernel, rfl, rfl, rfl⟩

/-- The last entry of a gate list keeps to the cycle's end (R298): times of 30, 20 and 40. -/
theorem test_gcl_index : gclIndex [30, 20, 40] 29 = 0 ∧ gclIndex [30, 20, 40] 30 = 1 ∧ gclIndex [30, 20, 40] 50 = 2 ∧
    gclIndex [30, 20, 40] 99 = 2 := by decide

/-! ## Yuwil and safety: states that meet the hypotheses -/

/-- A lane of running bridges with Yuwil on, its node 0, the master node 1, session 0 changed. -/
def yuwil (ws : List (Field × Nat)) (f : YwSess → YwSess) (g : NetSt → NetSt) : State :=
  st (run ++ [(BIST.STATUS.FULL_RUNNING, 0), (NET.YW_CTRL.EN, 1), (NET.YW_MASTER.NODE, 1), (NET.PORT_CTRL.EN1 1, 1)] ++ ws)
    (fun x => identity ID.NODE.off 0 (((led x).setYw 0 f).setNet g))

/-- A frame of the master to node 0. -/
def fromMaster (type n : Nat) : List Byte := ywBuild type 0 1 0 5 0 (List.replicate n 0) none

/-- Whether an ingress check lets a frame through for a session. -/
def through (b : List Byte) (q : Nat) : Bool :=
  match ((yuwil [] id id).lane .A).ywIngress true b with
  | .inr (r, _) => r = q
  | .inl _ => false

theorem wit_Yuwil_frames : through (fromMaster 1 16) 0 = true ∧ ywType (fromMaster 1 16) = 1 ∧ through (fromMaster 6 112) 0 = true ∧
    ywType (fromMaster 6 112) = 6 ∧ through (fromMaster 5 0) 0 = true ∧ ywFormOk (fromMaster 5 0) = true ∧ ywType (fromMaster 5 0) = 5 ∧
    through (fromMaster 3 112) 0 = true ∧ ywFormOk (fromMaster 3 112) = true ∧ ywType (fromMaster 3 112) = 3 ∧
    ((yuwil [] id id).lane .A).isLead = true ∧ (((yuwil [] id id).lane .A).yw 0).keyUntil ≤ ((yuwil [] id id).lane .A).run ∧ ((yuwil [] id id).lane .A).accepts fromB = true ∧
    (((yuwil [] id id).lane .A).yw 0).keyLast = none := by
  and_intros <;> decide +kernel

/-- A copy that waits for its partner, and an answer owed. -/
def aCopy : YwCopy := ⟨3, false, [], 0⟩
def anAnswer : YwAnswer := ⟨true, 5, 3, 10000, 0⟩

theorem wit_Yuwil_answers : (((yuwil [] (fun y => { y with copies := [aCopy] }) id).lane .A).yw 0).copies = [aCopy] ∧
    aCopy.at' + 1000 * ((yuwil [(NET.YW_TMO.SKEW, 0)] id id).lane .A).rd NET.YW_TMO.SKEW ≤ ((yuwil [] id id).lane .A).run ∧
    anAnswer.at' + 500 * ((yuwil [(NET.YW_CTRL.ANS_DLY, 0)] id id).lane .A).rd NET.YW_CTRL.ANS_DLY ≤ ((yuwil [] id id).lane .A).run + 100 ∧
    (let x := (yuwil [] (fun y => { y with owed := [anAnswer], keys := some ([1], [2]) }) (fun n => { n with buffers := [(0, List.replicate 48 0)] })).lane .A
     (x.yw 0).owed = [anAnswer] ∧ (x.yw 0).keys = some ([1], [2]) ∧
       ((x.setYw 0 (fun w => { w with owed := [] })).answerBuffer 10000).isSome = true) := by
  and_intros <;> decide +kernel

/-- A command that is due, the permit standing or not. -/
def commanded (cmd : Nat) (permit : Bool) : State :=
  st run (fun x => let y := (led x).setNet (fun n => { n with poll := some (1, cmd, 0), permit := permit })
                   { y with time := { y.time with now := 1000000 * 2 ^ 32 } })

/-- A fleet stop that is due. -/
def fleet (applied : Bool) : State :=
  st run (fun x => let y := (led x).setNet (fun n => { n with fleet := some ⟨1, 9, 0, applied⟩ })
                   { y with time := { y.time with now := 1000000 * 2 ^ 32 } })

theorem wit_Yuwil_commands : ((commanded 1 false).lane .A).net.poll = some (1, 1, 0) ∧ ((commanded 1 false).lane .A).isMember = true ∧
    3000 ≤ ((commanded 1 false).lane .A).boundaryNs ∧ bit 1 0 = true ∧ bit 0 0 = false ∧ ((commanded 0 true).lane .A).net.permit = true ∧ ((commanded 0 false).lane .A).net.permit = false ∧
    ((yuwil [] id id).lane .A).on NET.YW_CTRL.EN = true ∧ (yuwil [] id id).lastAccepted true = none ∧
    ((yuwil [] id id).lane .A).on (NET.PORT_STATUS.LOST 1) = false ∧
    ((fleet false).lane .A).net.fleet = some ⟨1, 9, 0, false⟩ ∧ ((st run led).lane .A).on (NET.PORT_STATUS.LOST 1) = false ∧ ((fleet true).lane .A).net.fleet = some ⟨1, 9, 0, true⟩ ∧
    100000 ≤ ((fleet false).lane .A).boundaryNs ∧ 9 < ((fleet true).lane .A).ns := by
  and_intros <;> decide +kernel

/-- A lane with its safety inputs and outputs enabled. -/
def safe (ws : List (Field × Nat)) (f : SioSt → SioSt) : LaneSt :=
  laneA (run ++ [(SIO.CTRL.EN, 1)] ++ ws) (fun x => (led x).setSio f)

theorem wit_Safety_inputs : (safe [] id).on SIO.CTRL.EN = true ∧ (safe [(BIST.STATUS.FULL_RUNNING, 0)] id).sampling = true ∧
    1000 * ((safe [] id).rd (SIO.SI_CFG.FILT 19) + (safe [] id).rd (SIO.SI_CFG.OSSD_FILT 19)) ≤ 2000000 ∧
    (safe [(SIO.SI_CFG.TP 19, 4)] id).fedBy 19 3 = true ∧ (safe [] id).fedBy 19 3 = false ∧ (safe [(SIO.TP_CFG.EN, 8)] id).tpOn 3 = true ∧
    (safe [] id).accepts fromB = true ∧ bit (safe [] id).sio.filt 19 = false ∧ (safe [] id).sio.win = none ∧
    bit ((safe [(SIO.TP_CFG.EN, 8)] id).rd SIO.TP_CFG.EN) 3 = true ∧ bit ((safe [] id).rd SIO.TP_STATUS.FAULT) 3 = false ∧
    (safe [] (fun q => { q with win := some (.A, 3) })).sio.win = some ((safe [] id).id, 3) ∧
    -- the window of TP0 in lane A starts at 0: 300 µs, half of it off
    (let x (ns : Nat) : LaneSt := { safe [(SIO.TP_CFG.PERIOD, 100), (SIO.TP_CFG.WIDTH, 30)] id with time := { TimeSt.reset with now := ns * 2 ^ 32 } }
     (x 0).tpFirst 0 = true ∧ (x 149999).tpFirst 0 = true ∧ (x 150000).tpFirst 0 = false ∧ (x 150000).tpSecond 0 = true ∧
       (x 299999).tpSecond 0 = true ∧ (x 300000).tpSecond 0 = false ∧ (x 300000).tpFirst 0 = false ∧ (x 8333333).tpFirst 1 = true) := by decide +kernel

/-- Function 15 of a TYPE in a STATE, with its inputs IN0 to IN3 the SI0 to SI3 of lane A at a level. -/
def function (type state level : Nat) (ws : List (Field × Nat)) (f : SioSt → SioSt) : LaneSt :=
  safe ([(SIO.SF_CTRL.TYPE 15, type), (SIO.SF_STATUS.STATE 15, state), (SIO.SI_LEVEL.LEVEL, level), (VOTE.STATUS.MEMBERS, 1)]
    ++ (List.range 4).map (fun m => (⟨0x28104 + 32 * 15, 8 * m, 8⟩, 4 * m)) ++ ws) f

theorem wit_Safety_functions : (function 1 1 1 [] id).sf 15 ≠ 0 ∧ bit ((function 1 1 1 [] id).sfUsed 15) 0 = true ∧
    bit ((function 1 1 1 [] id).sfActive 15) 0 ≠ bit ((function 1 1 1 [] id).sfActive 15) 1 ∧
    [0, 1].find? (fun m => ((function 1 1 1 [] id).sfIn 15 m).1 = (function 1 1 1 [] id).id.num) = some 0 ∧
    bit ((function 1 1 1 [] id).rd SIO.SI_FAULT.FAULT) 0 = false ∧
    (function 3 2 3 [] id).sfType 15 = 3 ∧ (function 3 2 3 [] id).sf 15 = 2 ∧
    (let a := (function 3 2 3 [] id).sfActive 15
     (bit a 0 && bit a 1) ≠ (bit a 2 && bit a 3)) ∧
    (let x := function 3 2 15 [] id
     x.isMember = true ∧ x.sf 15 = 2 ∧ x.on (SIO.SF_STATUS.RESTART_REFUSED 15) = false ∧ x.sfAgreed 15 = true ∧ x.sfAsked 15 = true) := by
  decide +kernel

/-- Output 7 configured for the lane with EDM and light tests, on or off. -/
def output (on : Nat) : State :=
  st (run ++ [(SIO.CTRL.EN, 1), (SIO.CTRL.SO_TEST_EN, 1), (SIO.SO_CFG.ROLE 7, 1), (SIO.SO_CFG.LANES 7, 7), (SIO.SO_CFG.EDM_EN 7, 1),
    (SIO.SO_CFG.LIGHT_EN 7, 1), (SIO.SO_CFG.DARK_EN 7, 1), (SIO.SO_STATUS.ON, on)]) led

/-- A test of output 7 that runs. -/
def testing : State :=
  st (run ++ [(SIO.CTRL.EN, 1), (SIO.SO_CFG.ROLE 7, 1)]) (fun x => (led x).setSio (fun q => { q with test := some (7, true), retry := 0x80 }))

theorem wit_Safety_outputs : ((output 0).lane .A).soTestable 7 = true ∧ ((output 0x80).lane .A).soTestable 7 = true ∧
    bit (testing.lane .A).sio.retry 7 = true ∧ (testing.lane .A).sio.test = some (7, true) ∧ ((output 0).lane .A).on SIO.CTRL.EN = true ∧
    ((output 0).lane .A).rd (SIO.SO_CFG.ROLE 7) ≠ 0 ∧ ((output 0).lane .A).on (SIO.SO_CFG.EDM_EN 7) = true ∧
    bit (((output 0x80).lane .A).rd SIO.SO_STATUS.ON) 7 = true := by decide +kernel

theorem wit_FaultyOutput : State.Canon (output 0x80) ∧ State.Canon testing :=
  ⟨sound_st (by decide +kernel) (fun _ => ⟨rfl, rfl, rfl⟩), sound_st (by decide +kernel) (fun _ => ⟨rfl, rfl, rfl⟩)⟩

/-! ## Setup, interrupts, self-test, services and power: states that meet the hypotheses -/

theorem wit_SetupAndSession : (laneA [] id).answers ∧ (laneA [] id).sealed = false ∧ (0 : Word) ≠ 0x5EA10316#32 ∧
    (let x := laneA [] (fun x => { x with sec := { x.sec with saks := x.sec.saks.setIfInBounds (sakSlot 1 1 0) (List.replicate 16 7) } })
     x.answers ∧ x.rd (NET.MS_CTRL.AN 1 1) = 0 ∧ x.sec.saks.getD (sakSlot 1 1 0) [] = List.replicate 16 7) ∧
    (laneA run led).isLead = true ∧ (laneA run led).sec.session.isSome = true ∧
    (let x : LaneSt := { laneA (run ++ [(SEC.CTRL.SESS_TMO, 300)]) led with time := { TimeSt.reset with now := 300 * 10 ^ 9 * 2 ^ 32 } }
     x.sec.idleFrom + x.rd SEC.CTRL.SESS_TMO * 10 ^ 9 ≤ x.ns) ∧ (laneA run led).sec.lockUntil = none ∧ (laneA run led).vote.lead = some .A ∧
    ((laneA run id).heard fromB 1).vote.lead ≠ some .B ∧ ((laneA run (fun x => { x with vote := { x.vote with lead := some .B } })).heard fromB 1).vote.lead = some .B ∧ (laneA run id).accepts fromB = true := by
  refine ⟨⟨rfl, rfl⟩, ?_, by decide, ⟨⟨rfl, rfl⟩, ?_⟩, ?_⟩ <;> decide +kernel

/-- The lead with groups of the two classes in stages. -/
def delivering (ws : List (Field × Nat)) (gs : List (Nat × IrqStage)) : LaneSt :=
  laneA (run ++ ws) (fun x => gs.foldl (fun x g => x.setStage g.1 g.2) (led x))

/-- A normal group 0 and a fast group 6 with a pending unmasked source each. -/
def pending : List (Field × Nat) :=
  [(IRQ.CTRL.EN, 1), (IRQ.CLASS.FAST, 0x40), (irqCauseF 0 0, 1), (irqMaskF 0 0, 0), (irqCauseF 1 6, 0x81), (irqMaskF 1 6, 0x80)]

theorem wit_Interrupts : (delivering pending []).isLead = true ∧ (delivering pending [(6, .entry)]).inEntry 1 = some 6 ∧
    (delivering pending []).inEntry 1 = none ∧ (delivering pending []).nextGroup 1 = some 6 ∧ (delivering pending []).inEntry 0 = none ∧
    (delivering pending [(0, .entry)]).inEntry 0 = some 0 ∧ (delivering (pending ++ [(irqMaskF 1 6, 0xFF)]) []).nextGroup 1 = none ∧
    (delivering (pending ++ [(irqMaskF 1 6, 0xFF)]) []).nextGroup 0 = some 0 ∧ ((delivering [] [(30, .leading)]).group 30).stage = .leading ∧
    ((delivering [] [(30, .leading)]).group 30).leadAt + 1000 * (delivering [] [(30, .leading)]).rd (IRQ.GCFG.LEADING 30) ≤ (delivering [] [(30, .leading)]).run ∧
    bit 2 1 = true ∧ (laneA [] id).isLead = false := by decide +kernel

theorem wit_BankWrite : State.Canon (st (run ++ pending) led) ∧ (delivering pending []).bank 6 = 1 ∧ (delivering pending []).bank 0 = 0 ∧
    groupReserved 6 = false ∧ groupReserved 30 = false ∧ groupReserved 31 = true :=
  ⟨sound_st (by decide +kernel) (fun _ => ⟨rfl, rfl, rfl⟩), by decide +kernel, by decide +kernel, by decide, by decide, by decide⟩

theorem wit_Snapshot : State.Canon (st (run ++ pending) led) ∧ ((st (run ++ pending) led).lane .A).nextGroup 1 = some 6 ∧
    ((st (run ++ pending) led).lane .A).inEntry 0 = none :=
  ⟨sound_st (by decide +kernel) (fun _ => ⟨rfl, rfl, rfl⟩), by decide +kernel, by decide +kernel⟩

/-- A lane past its bring-up, its proof over. -/
def awake (ws : List (Field × Nat)) (f : LaneSt → LaneSt) : LaneSt := laneA (run ++ [(BIST.STATUS.FULL_RUNNING, 0)] ++ ws) (fun x => f (led x))

theorem wit_FaultAndAlive : (awake [] id).answers ∧ (awake [] id).accepts fromB = true ∧ (awake [(FLT.CTRL.COMPAT, 1)] id).on FLT.CTRL.COMPAT = true ∧
    (awake [(FLT.CTRL.COMPAT, 0)] id).on FLT.CTRL.COMPAT = false ∧ (BitVec.ofNat 72 (4 * 2 ^ 51)).toNat / 2 ^ 51 % 8 = 4 ∧
    (BitVec.ofNat 72 (3 * 2 ^ 51)).toNat / 2 ^ 51 % 8 = 3 ∧ (awake [(FLT.STATUS.ALIVE_RUN, 1)] id).released = true ∧
    (awake [(FLT.STATUS.ALIVE_RUN, 1)] id).on FLT.STATUS.ALIVE_RUN = true := by
  refine ⟨⟨rfl, rfl⟩, ?_⟩
  decide +kernel

theorem wit_Supply : State.Canon (st run led) ∧ ((st run led).lane .A).answers ∧ ((st run led).lane .A).rd PWR.STATUS.STATE = 1 ∧
    ((st (run ++ [(PWR.STATUS.STATE, 3)]) led).lane .A).rd PWR.STATUS.STATE = 3 :=
  ⟨sound_st (by decide +kernel) (fun _ => ⟨rfl, rfl, rfl⟩), ⟨rfl, rfl⟩, by decide +kernel, by decide +kernel⟩

theorem wit_Proofs : (awake [] id).on BIST.STATUS.FULL_RUNNING = false ∧ (awake [] id).bist.active.getD 5 none = none ∧
    ((awake [(BIST.CTRL.ONLINE_EN, 0)] id).setUnproved 1 false).nextRegion 1 = none ∧
    ((awake [(BIST.CTRL.ONLINE_EN, 1)] id).setUnproved 1 false).nextRegion 1 = some 4 ∧
    (awake [] (fun x => { x with bist := { x.bist with active := x.bist.active.setIfInBounds 0 (some 4) } })).bist.active.getD 0 none = some 4 ∧
    (awake [] id).inHold = false ∧ (awake [] id).bist.spoiled.getD 0 false = false ∧ (awake [] id).accepts fromB = true ∧
    (awake [] (fun x => { x with bist := { x.bist with spoiled := x.bist.spoiled.setIfInBounds 0 true } })).bist.spoiled.getD 0 false = true ∧
    (let x := awake [] (fun x => { x with time := { x.time with now := 5 * 10 ^ 8 * 2 ^ 32 } })
     x.unprovedLong 1 4 = true ∧ x.unprovedLong 2 4 = false ∧ x.ns / 10 ^ 9 = x.time.crystal) ∧
    (let x := awake [] (fun x => { x with time := { x.time with now := 10 ^ 9 * 2 ^ 32 } }); x.ns / 10 ^ 9 ≠ x.time.crystal) ∧
    (awake [] id).provable 1 4 = true ∧ (awake [(BIST.CTRL.ONLINE_EN, 1)] id).rotationOn 1 = true := by decide +kernel

theorem wit_Proofs_crystals : ((laneA (run ++ [(VOTE.STATUS.MEMBERS, 7)]) led).bgWork 5 1).memberPeers = [.B, .C] ∧
    ((laneA (run ++ [(VOTE.STATUS.MEMBERS, 5)]) led).bgWork 5 1).memberPeers = [.C] ∧
    ((laneA (run ++ [(VOTE.STATUS.MEMBERS, 1)]) led).bgWork 5 1).memberPeers = [] := by decide +kernel

theorem wit_Background : (awake [] id).background = true ∧ (awake [(MEM.CTRL.SCRUB_EN, 1)] id).on MEM.CTRL.SCRUB_EN = true ∧
    bit (awake [] id).mem.scrubSkip 8 = false ∧ (awake [] id).bgComplete 7 = false ∧
    5 * (awake [] id).mem.work.getD 7 0 < (awake [] id).bgTotal 7 ∧ (awake [] (fun x => x.setMem (fun m => { m with bgDone := 1 }))).bgComplete 0 = true ∧
    (awake [] id).accepts fromB = true ∧ ((awake [] id).block 0).use = 0 ∧ (awake [(MEM.CTRL.TG_EN, 1)] id).on MEM.CTRL.TG_EN = true ∧
    (let x := awake [(MEM.CTRL.TG_EN, 1)] (fun x => { x with time := { x.time with now := 601 * 10 ^ 9 * 2 ^ 32 } })
     x.telMultiple = 600 ∧ x.mem.batchAt = 0 ∧ x.isMember = true ∧ x.background = true ∧ x.ns / 10 ^ 6 ≠ x.mem.sampledAt ∧
       x.mem.savedAt + 600 * 10 ^ 9 ≤ x.run) ∧
    (awake [] id).isMember = true ∧ (awake [] id).vote.lead = some (awake [] id).id ∧
    (awake [] (fun x => { x with vote := { x.vote with lead := none } })).vote.lead = none ∧
    (awake [] (fun x => { x with vote := { x.vote with lead := some .C } })).vote.lead = some .C := by decide +kernel

/-- The lane at an NVM wear period that finds no block due. -/
def wearing (f : MemSt → MemSt) : LaneSt := ((awake [] (fun x => x.setMem f)).bgWork 2 1).setMem (fun m => { m with nvmDue := [] })

theorem wit_Background_wear : ((wearing id).pickBlock 0 (fun i j => decide (j < i))).isSome = true ∧
    ((wearing id).pickBlock 0 (fun i j => decide (i < j))).isSome = true ∧ ((wearing id).pickBlock 1 (fun i j => decide (j < i))).isSome = true ∧
    (wearing (fun m => { m with nvm := Vector.replicate 256 ⟨0, 0, 0⟩ })).pickBlock 1 (fun i j => decide (j < i)) = none := by decide +kernel

/-- A lane that is off, in NAP, or in a power state. -/
def powered (state : Nat) (off nap : Bool) (ws : List (Field × Nat)) : LaneSt :=
  laneA (run ++ [(PWR.STATUS.STATE, state)] ++ ws) (fun x => let y := led x; { y with pwr := { y.pwr with off := off, nap := nap } })

theorem wit_Power : (powered 1 true false []).pwr.off = true ∧ (powered 0 false false []).pwr.off = false ∧ (powered 0 false false []).pwr.nap = false ∧
    (pllOf 0).isSome = true ∧ (powered 0 false false []).rd PWR.STATUS.STATE = 0 ∧
    (let x := powered 1 false false [(PWR.CTRL.HOLD_EN, 1)]
     x.rd PWR.STATUS.STATE = 1 ∧ x.isMember = true ∧ x.on PWR.CTRL.HOLD_EN = true ∧ x.parkCondition = true) ∧
    (let y := powered 1 false false [(PWR.CTRL.HOLD_EN, 1)]
     let x := { y with time := { y.time with now := 100 * 10 ^ 6 * 2 ^ 32 } }
     x.pwr.parkFrom + 10 ^ 6 * x.rd PWR.CTRL.HOLD_DLY ≤ x.run ∧ x.parkCondition = true ∧ x.isMember = true ∧ x.rd PWR.STATUS.STATE = 1) ∧
    (powered 2 false false []).rd PWR.STATUS.STATE = 2 ∧
    (((powered 2 false false []).setComm 7 (fun c => { c with fromHold := true })).ch 7).fromHold = true ∧
    (powered 1 false false []).released = true ∧ (powered 1 false false [(PWR.CTRL.SLEEP_PIN, 1)]).on PWR.CTRL.SLEEP_PIN = true ∧
    (powered 1 false false [(PWR.CTRL.SLEEP_LINK, 1), (HIF.STATUS.LINK_UP, 0)]).on PWR.CTRL.SLEEP_LINK = true ∧
    (powered 1 false false [(HIF.STATUS.LINK_UP, 0)]).on HIF.STATUS.LINK_UP = false ∧ (powered 3 false false []).rd PWR.STATUS.STATE = 3 ∧
    (powered 3 false true []).wakeEnabled 7 = true ∧ (powered 3 false true []).pwr.nap = true ∧ (powered 4 false false []).rd PWR.STATUS.STATE = 4 ∧
    (powered 4 false false []).on FLT.STATUS.FATAL = false ∧ (powered 4 false false [(FLT.STATUS.FATAL, 1)]).on FLT.STATUS.FATAL = true ∧
    (powered 4 false false [(PWR.CTRL.WAKE_PROOF, 1)]).on PWR.CTRL.WAKE_PROOF = true ∧
    (powered 4 false false [(PWR.CTRL.WAKE_PROOF, 0)]).on PWR.CTRL.WAKE_PROOF = false ∧ (powered 4 false false []).fwLoad.2 = true ∧
    (powered 4 false false []).fwLoad.1.sec.colophonOk = true := by decide +kernel

theorem wit_ColdReset : State.Canon (st run led) ∧ ((st run led).lane .A).pwr.off = false ∧
    State.Canon (st run (fun x => { x with pwr := { x.pwr with off := true } })) ∧
    ((st run (fun x => { x with pwr := { x.pwr with off := true } })).lane .A).pwr.off = true :=
  ⟨sound_st (by decide +kernel) (fun _ => ⟨rfl, rfl, rfl⟩), rfl, sound_st (by decide +kernel) (fun _ => ⟨rfl, rfl, rfl⟩), rfl⟩

theorem wit_Nap : State.Canon (st [(PWR.STATUS.STATE, 3)] id) ∧ ((st [(PWR.STATUS.STATE, 3)] id).lane .A).rd PWR.STATUS.STATE = 3 ∧
    ((st [(PWR.STATUS.STATE, 3)] id).lane .A).pwr.wake = 0 :=
  ⟨sound_st (by decide +kernel) (fun _ => ⟨rfl, rfl, rfl⟩), by decide +kernel, rfl⟩

theorem wit_CommandsKeepToTheirLane : deviceLevel (.nop .A) = false ∧ deviceLevel (.wakeSource .C 8) = false := by decide

/-! ## Ill-formed commands: one term for every check of WellFormed -/

/-- A message frame of lane `k` that comes to lane A: ill formed where `k` is A itself. -/
def fromLane (k : LaneId) : Arrival := ⟨k, false, some 1, 0⟩

theorem test_ill_words : (Instr.registerWrite .A 2 0).wellFormed = false ∧ (Instr.registerWrite .A 0x201000 0).wellFormed = false ∧
    (Instr.reg64LowRead .A 0x9029).wellFormed = false := by decide +kernel

theorem test_ill_senders : (Instr.setupHashReceive .A (fromLane .A) 0).wellFormed = false ∧ (Instr.linkLossReceive .A fromB .B).wellFormed = false ∧
    (Instr.attribReceive .C (fromLane .C)).wellFormed = false ∧ (Instr.peerAliveStop .B .B).wellFormed = false ∧
    (Instr.peerWake .A .A).wellFormed = false ∧ (Instr.safetyInputsLost .A .A).wellFormed = false := by decide +kernel

theorem test_ill_lengths : (Instr.doorbellPoll .A (some (List.replicate 255 0))).wellFormed = false ∧
    (Instr.linkProbe .A 0 (some [])).wellFormed = false ∧ (Instr.descFetchComplete .A ⟨some (List.replicate 63 0), []⟩).wellFormed = false ∧
    (Instr.descFetchComplete .A ⟨some (List.replicate 576 0), []⟩).wellFormed = false ∧
    (Instr.galleyCountsReceive .A fromB (List.replicate 15 0)).wellFormed = false ∧
    (Instr.bulkStaticState .A fromB (List.replicate 233 0)).wellFormed = false ∧
    (Instr.bulkHostBufferCopy .A fromB (List.replicate 4097 0)).wellFormed = false ∧
    (Instr.bulkDescriptorCopy .A fromB 0 0 ⟨[], none⟩).wellFormed = false ∧ (Instr.bulkMismatchCopy .A fromB 0 0 []).wellFormed = false ∧
    (Instr.ywKeyReceive .A fromB 0 0 []).wellFormed = false ∧ (Instr.fleetCopyReceive .A fromB []).wellFormed = false ∧
    (Instr.safetyXchgReceive .A fromB (List.replicate 31 0)).wellFormed = false ∧
    (Instr.cycleFrameReceive .A .B (cf 0) ⟨List.replicate 31 0, 0⟩).wellFormed = false ∧
    (Instr.sentFrame .A 0 (List.replicate 11 0) true false).wellFormed = false := by
  decide +kernel

theorem test_ill_fields : (Instr.pdelayReq .A 0 0 (2 ^ 32)).wellFormed = false ∧ (Instr.announceReceive .A true (2 ^ 48) 0).wellFormed = false ∧
    (Instr.irqWriteReceive .A fromB true 0x21 0).wellFormed = false ∧ { cf 0 with self := 5 }.wellFormed = false ∧
    { cf 0 with ramp := 1001 }.wellFormed = false ∧ { cf 0 with ack := 2 ^ 16 }.wellFormed = false ∧
    { frame 64 true with ptpEvent := some (2 ^ 32) }.wellFormed = false ∧ { frame 64 true with macsec := some (true, 2 ^ 64) }.wellFormed = false ∧
    (canFrame 0 9).wellFormed = false ∧ (canFrame 1 65).wellFormed = false ∧ (canFrame 2 2049).wellFormed = false ∧
    { canFrame 0 8 with id := 0x800 }.wellFormed = false ∧ { canFrame 0 8 with id := 0x800, ide := true }.wellFormed = true := by decide +kernel

/-! ## Single commands against values worked out from the spec -/

/-- The check value of CRC-32C, which completions and images use (R85, 98 Glossary). -/
theorem test_crc32c : crc32c [0x31, 0x32, 0x33, 0x34, 0x35, 0x36, 0x37, 0x38, 0x39] = 0xE3069283 := by decide +kernel

/-- The current sense of chapter 09's worked example: code 45,000 on AIN9 reads 0x0017_54A8. -/
theorem test_conversion : (aft (.conversionComplete .A 9 ⟨45000, 0⟩)
    (st [(ADC.IN_SCALE.VALUE 9, 32000), (ADC.IN_ZERO.CODE 9, 32768)] (fun x => x.setHeld (x.coreOf 9) (fun _ => [⟨9, 1, 0, none⟩])))).rd
      (ADC.RESULT.VALUE 9) = 0x1754A8 := by decide +kernel

/-- The noise burst of chapter 08's worked example, 310 samples after the last transition with DBL_WINDOW 77. -/
def burst (gap : Nat) : LaneSt :=
  aft (.doubleStep .A 0 16 false) (st [(FBK.CTRL.MODE 0, 1), (FBK.STATUS.STATE 0, 2), (FBK.CTRL.DBL_WINDOW 0, 77)] (fun x =>
    { x with time := { x.time with now := 10 * gap * 2 ^ 32 }, fbk := { x.fbk with port := x.fbk.port.setIfInBounds 0 { x.port 0 with last := some 0 } } }))

theorem test_double_step_lost : (burst 310).rd (FBK.LOST_EVENTS.EVENTS 0) = 1 ∧ (burst 310).rd (FBK.STATUS.STATE 0) = 3 ∧
    (burst 310).rd (FBK.DBL_LOG.KIND 0 0) = 2 ∧ (burst 310).rd (FBK.INFERRED.STEPS 0) = 0 := by decide +kernel

/-- The brake motor of the same example: 46 samples are within the window, two counts are inferred. -/
theorem test_double_step_inferred : (burst 46).rd (FBK.INFERRED.STEPS 0) = 2 ∧ (burst 46).rd (FBK.LOST_EVENTS.EVENTS 0) = 0 ∧
    (burst 46).rd (FBK.STATUS.STATE 0) = 2 := by decide +kernel

/-- The bridge of CH3 of chapter 15's worked example. -/
def bridge3 (side : Nat) : State :=
  st (run ++ [(GATE.LEG_CTRL.USE 9, 1), (GATE.LEG_CTRL.USE 10, 1), (GATE.LEG_CTRL.USE 11, 1), (GATE.DESAT.COARSE_EN 10, 1),
    (GATE.BRIDGE.SIDE 3, side)]) led

/-- COARSE on the high side of HB10 names the side LOW and enters 0x183 with source 0x14 as event 0 of GATE. -/
theorem test_coarse_trip : (aft (.coarseTrip .A 10 false) (bridge3 0)).rd (GATE.BRIDGE.SIDE 3) = 1 ∧
    (aft (.coarseTrip .A 10 false) (bridge3 0)).rd (FLT.HIST_LO.ENTRY 12 0) / 2 ^ 54 = 0x183 ∧
    (aft (.coarseTrip .A 10 false) (bridge3 0)).rd (FLT.HIST_HI.SOURCE 12 0) = 0x14 := by decide +kernel

/-- DESAT on the low side of HB11 after it: no side is left, 0x182 with source 0x17 and then 0x188. -/
theorem test_desat_second : (aft (.desatTrip .A 11 true) (bridge3 1)).rd (GATE.BRIDGE.SIDE 3) = 3 ∧
    (aft (.desatTrip .A 11 true) (bridge3 1)).rd (FLT.HIST_LO.ENTRY 12 0) / 2 ^ 54 = 0x182 ∧
    (aft (.desatTrip .A 11 true) (bridge3 1)).rd (FLT.HIST_HI.SOURCE 12 0) = 0x17 ∧
    (aft (.desatTrip .A 11 true) (bridge3 1)).rd (FLT.HIST_LO.ENTRY 12 1) / 2 ^ 54 = 0x188 := by decide +kernel

/-- The fast group of chapter 14's worked example, in the lead, after its snapshot while group 0 is in its entry. -/
def fastInside : LaneSt :=
  aft (.irqEntry .A true) (st (run ++ [(IRQ.CTRL.EN, 1), (IRQ.CLASS.FAST, 2 ^ 20), (irqCauseF 1 20, 8), (irqMaskF 1 20, 0)])
    (fun x => (led x).setStage 0 .entry))

theorem test_fast_inside_normal : fastInside.rd (irqSnapF 1 20) = 8 ∧ fastInside.rd (irqCauseF 1 20) = 0 ∧
    (fastInside.group 20).stage = .entry ∧ (fastInside.group 0).preempted = true := by decide +kernel

end Sys2Proof.Tests
end

/-!
SUPPORT. Every step keeps every lane sound.
-/

namespace Sys2Proof.Machine

open Sys2Proof

/-- Every command keeps the device sound. -/
theorem sound_exec {s : State} (h : State.Canon s) (c : Instr) : Sound (exec c s) := by
  cases c with
  | registerWrite l off value => exact sound_execRegisterWrite h l off value
  | reg64LowRead l off => exact sound_execReg64LowRead h l off
  | bar0BadRequest l => exact sound_execBar0BadRequest h l
  | quoin l key => exact sound_execQuoin h l key
  | hifEnable l value => exact sound_execHifEnable h l value
  | macsecSakWrite l net port n value => exact sound_execMacsecSakWrite h l net port n value
  | setupHashReceive l src hash => exact sound_execSetupHashReceive h l src hash
  | doorbellPoll l page => exact sound_execDoorbellPoll h l page
  | descFetch l => exact sound_execDescFetch h l
  | descFetchComplete l read => exact sound_execDescFetchComplete h l read
  | descFpReceive l src sg seq fp => exact sound_execDescFpReceive h l src sg seq fp
  | singleWaitExpired l sg seq => exact sound_execSingleWaitExpired h l sg seq
  | hostLinkLost l => exact sound_execHostLinkLost h l
  | perstReset l => exact sound_execPerstReset h l
  | linkProbe l trained page => exact sound_execLinkProbe h l trained page
  | galleyCountsReceive l src counts => exact sound_execGalleyCountsReceive h l src counts
  | hostTimeout l => exact sound_execHostTimeout h l
  | completionWrite l => exact sound_execCompletionWrite h l
  | nop l => exact sound_execNop h l
  | setpoint l => exact sound_execSetpoint h l
  | limits l => exact sound_execLimits h l
  | channelModeEnable l => exact sound_execChannelModeEnable h l
  | channelModeTune l => exact sound_execChannelModeTune h l
  | channelModeDisable l => exact sound_execChannelModeDisable h l
  | configStage l => exact sound_execConfigStage h l
  | configCommit l => exact sound_execConfigCommit h l
  | paramRead l => exact sound_execParamRead h l
  | autotune l => exact sound_execAutotune h l
  | diagComparatorSelftest l => exact sound_execDiagComparatorSelftest h l
  | diagTestCurrentScan l => exact sound_execDiagTestCurrentScan h l
  | diagSelftestTimeout l ch => exact sound_execDiagSelftestTimeout h l ch
  | proofReq l => exact sound_execProofReq h l
  | fwStage l => exact sound_execFwStage h l
  | logRead l => exact sound_execLogRead h l
  | attest l => exact sound_execAttest h l
  | fleetKey l => exact sound_execFleetKey h l
  | safeResetChannel l => exact sound_execSafeResetChannel h l
  | safeResetSafetyFunction l => exact sound_execSafeResetSafetyFunction h l
  | safeResetLane l => exact sound_execSafeResetLane h l
  | laneClear l => exact sound_execLaneClear h l
  | hostReset l => exact sound_execHostReset h l
  | folioSnapshot l => exact sound_execFolioSnapshot h l
  | folioFpReceive l src seq fp => exact sound_execFolioFpReceive h l src seq fp
  | folioWrite l => exact sound_execFolioWrite h l
  | commitReadyCheck l => exact sound_execCommitReadyCheck h l
  | commitRecordReceive l src kind reason payload => exact sound_execCommitRecordReceive h l src kind reason payload
  | commitReadyDeadline l => exact sound_execCommitReadyDeadline h l
  | commitDecisionDeadline l => exact sound_execCommitDecisionDeadline h l
  | commitEpoch l => exact sound_execCommitEpoch h l
  | votingBoundary at_ => exact sound_execVotingBoundary h at_
  | formationWindowExpired l => exact sound_execFormationWindowExpired h l
  | cycleFrameReceive l sender frame tail => exact sound_execCycleFrameReceive h l sender frame tail
  | frameRetransmit l => exact sound_execFrameRetransmit h l
  | voteCompute l => exact sound_execVoteCompute h l
  | proofResultReceive l src injector disagreeing => exact sound_execProofResultReceive h l src injector disagreeing
  | linkLossReceive l src lost => exact sound_execLinkLossReceive h l src lost
  | attribReceive l src => exact sound_execAttribReceive h l src
  | attributionEnd l found => exact sound_execAttributionEnd h l found
  | peerAliveStop l peer => exact sound_execPeerAliveStop h l peer
  | readmissionStart l => exact sound_execReadmissionStart h l
  | proofWaitRecheck l => exact sound_execProofWaitRecheck h l
  | readmitTimeAligned l => exact sound_execReadmitTimeAligned h l
  | bulkStaticState l src data => exact sound_execBulkStaticState h l src data
  | bulkDynamicState l src part => exact sound_execBulkDynamicState h l src part
  | bulkDescriptorCopy l src sg seq copy => exact sound_execBulkDescriptorCopy h l src sg seq copy
  | bulkHostBufferCopy l src bytes => exact sound_execBulkHostBufferCopy h l src bytes
  | bulkMismatchCopy l src sg seq bytes => exact sound_execBulkMismatchCopy h l src sg seq bytes
  | bulkReportCopy l src bytes => exact sound_execBulkReportCopy h l src bytes
  | bulkTelemetryCopy l src bytes => exact sound_execBulkTelemetryCopy h l src bytes
  | stateTransferComplete l => exact sound_execStateTransferComplete h l
  | shadowTimeout l => exact sound_execShadowTimeout h l
  | controlledStopEnd l => exact sound_execControlledStopEnd h l
  | stopTmaxExpired l => exact sound_execStopTmaxExpired h l
  | replan l g => exact sound_execReplan h l g
  | planStep l g => exact sound_execPlanStep h l g
  | timedEntryApply l g => exact sound_execTimedEntryApply h l g
  | profLatchEdge l g rising => exact sound_execProfLatchEdge h l g rising
  | limitSwitchEdge l g positive => exact sound_execLimitSwitchEdge h l g positive
  | limitSwitchRelease l g positive => exact sound_execLimitSwitchRelease h l g positive
  | homingRefEdge l g => exact sound_execHomingRefEdge h l g
  | homingIndex l g => exact sound_execHomingIndex h l g
  | homingNoEdge l g => exact sound_execHomingNoEdge h l g
  | homingNoIndex l g => exact sound_execHomingNoIndex h l g
  | timetableTick l t => exact sound_execTimetableTick h l t
  | slotIssue l n residueFails => exact sound_execSlotIssue h l n residueFails
  | pipeRotation l => exact sound_execPipeRotation h l
  | tuneEnd l n => exact sound_execTuneEnd h l n
  | tuneTimeout l n => exact sound_execTuneTimeout h l n
  | obsReacqTimeout l ch => exact sound_execObsReacqTimeout h l ch
  | reversalRelease l ch => exact sound_execReversalRelease h l ch
  | reversalStall l ch => exact sound_execReversalStall h l ch
  | overspeed l ch => exact sound_execOverspeed h l ch
  | startupContactorReady l ch => exact sound_execStartupContactorReady h l ch
  | bootstrapChargeDone l ch => exact sound_execBootstrapChargeDone h l ch
  | angleAcquisitionStart l ch => exact sound_execAngleAcquisitionStart h l ch
  | alignHoldExpired l ch => exact sound_execAlignHoldExpired h l ch
  | alignSearchExhausted l ch => exact sound_execAlignSearchExhausted h l ch
  | acquisitionEnd l ch => exact sound_execAcquisitionEnd h l ch
  | channelStartupBoundary l ch => exact sound_execChannelStartupBoundary h l ch
  | channelStartupComplete l ch => exact sound_execChannelStartupComplete h l ch
  | startTimeout l ch => exact sound_execStartTimeout h l ch
  | channelShutdownComplete l ch => exact sound_execChannelShutdownComplete h l ch
  | shutdownOverrun l ch => exact sound_execShutdownOverrun h l ch
  | functionShutdownComplete l f => exact sound_execFunctionShutdownComplete h l f
  | functionShutdownOverrun l f => exact sound_execFunctionShutdownOverrun h l f
  | quadTransition l port a b seen => exact sound_execQuadTransition h l port a b seen
  | doubleStep l port held mismatch => exact sound_execDoubleStep h l port held mismatch
  | indexPulse l edge => exact sound_execIndexPulse h l edge
  | hallState l port seen => exact sound_execHallState h l port seen
  | ssiTrigger l port => exact sound_execSsiTrigger h l port
  | ssiFrameEnd l port seen => exact sound_execSsiFrameEnd h l port seen
  | sentFrame l port pulses level mismatch => exact sound_execSentFrame h l port pulses level mismatch
  | ptTransitionEmit l pt => exact sound_execPtTransitionEmit h l pt
  | feedbackStale l port => exact sound_execFeedbackStale h l port
  | velocityTimeout l port => exact sound_execVelocityTimeout h l port
  | probeEdge l probe edge => exact sound_execProbeEdge h l probe edge
  | portBypassEnd l port => exact sound_execPortBypassEnd h l port
  | sequenceHold l sq => exact sound_execSequenceHold h l sq
  | conversionComplete l ain result => exact sound_execConversionComplete h l ain result
  | adcCalibration l core low high => exact sound_execAdcCalibration h l core low high
  | zeroCalMeasure l ain z => exact sound_execZeroCalMeasure h l ain z
  | carrierValley l c alignErr => exact sound_execCarrierValley h l c alignErr
  | desatTrip l leg low => exact sound_execDesatTrip h l leg low
  | coarseTrip l leg low => exact sound_execCoarseTrip h l leg low
  | interlockStuck l leg low => exact sound_execInterlockStuck h l leg low
  | gateStuckOff l leg low => exact sound_execGateStuckOff h l leg low
  | bsUv l leg => exact sound_execBsUv h l leg
  | forceSafe l die => exact sound_execForceSafe h l die
  | edgeLink l die => exact sound_execEdgeLink h l die
  | chopShorted l leg => exact sound_execChopShorted h l leg
  | ov3Release l => exact sound_execOv3Release h l
  | ov4Trip l die => exact sound_execOv4Trip h l die
  | vgdLoss l => exact sound_execVgdLoss h l
  | comparatorSelftestStep l leg low cmp aborted tripped => exact sound_execComparatorSelftestStep h l leg low cmp aborted tripped
  | scanStep l ch u v w => exact sound_execScanStep h l ch u v w
  | ptpSyncReceive l blue offset => exact sound_execPtpSyncReceive h l blue offset
  | gmLost l => exact sound_execGmLost h l
  | pdelayReq l port seq residence => exact sound_execPdelayReq h l port seq residence
  | timeComparison l => exact sound_execTimeComparison h l
  | timeCmpReceive l src t32 source stepReady locked ns sec => exact sound_execTimeCmpReceive h l src t32 source stepReady locked ns sec
  | holdoverExpired l => exact sound_execHoldoverExpired h l
  | timeStep l => exact sound_execTimeStep h l
  | compareUnit l c => exact sound_execCompareUnit h l c
  | timeCounter l => exact sound_execTimeCounter h l
  | ethFrameReceive l port frame => exact sound_execEthFrameReceive h l port frame
  | portLinkDown l port => exact sound_execPortLinkDown h l port
  | portDrainTimeout l port => exact sound_execPortDrainTimeout h l port
  | qbvGateEntry l port => exact sound_execQbvGateEntry h l port
  | bridgeAgeOut l blue mac => exact sound_execBridgeAgeOut h l blue mac
  | ywPoll l blue frame => exact sound_execYwPoll h l blue frame
  | ywAnswerSend l y => exact sound_execYwAnswerSend h l y
  | ywSkewExpired l y => exact sound_execYwSkewExpired h l y
  | ywRxReceive l src y single words => exact sound_execYwRxReceive h l src y single words
  | ywCommandApply l => exact sound_execYwCommandApply h l
  | netLost l blue => exact sound_execNetLost h l blue
  | ywKeyInit l blue y frame => exact sound_execYwKeyInit h l blue y frame
  | ywKeyReceive l src y sid keys => exact sound_execYwKeyReceive h l src y sid keys
  | ywKeyConfirm l blue y frame => exact sound_execYwKeyConfirm h l blue y frame
  | ywFleetFrame l blue frame => exact sound_execYwFleetFrame h l blue frame
  | fleetCopyReceive l src record => exact sound_execFleetCopyReceive h l src record
  | fleetStopApply l => exact sound_execFleetStopApply h l
  | fleetStopExpire l => exact sound_execFleetStopExpire h l
  | canFrameReceive l can f => exact sound_execCanFrameReceive h l can f
  | canTxObject l can obj => exact sound_execCanTxObject h l can obj
  | canBusOff l can => exact sound_execCanBusOff h l can
  | siLevelChange l si change => exact sound_execSiLevelChange h l si change
  | tpWindowStart l t => exact sound_execTpWindowStart h l t
  | tpWindowMidpoint l t => exact sound_execTpWindowMidpoint h l t
  | tpWindowEnd l t => exact sound_execTpWindowEnd h l t
  | tpFault l t => exact sound_execTpFault h l t
  | safetyXchgReceive l src words => exact sound_execSafetyXchgReceive h l src words
  | safetyInputsLost l peer => exact sound_execSafetyInputsLost h l peer
  | discrepancy l f pair => exact sound_execDiscrepancy h l f pair
  | syncExceeded l f => exact sound_execSyncExceeded h l f
  | sfPermitGrant l f => exact sound_execSfPermitGrant h l f
  | soTestStart l k => exact sound_execSoTestStart h l k
  | soTestEnd l k readbackOk => exact sound_execSoTestEnd h l k readbackOk
  | soTestRetry l k => exact sound_execSoTestRetry h l k
  | edmConfirm l k => exact sound_execEdmConfirm h l k
  | edmFault l k => exact sound_execEdmFault h l k
  | soOverload l k => exact sound_execSoOverload h l k
  | irqRaiseReceive l src group sources raiser => exact sound_execIrqRaiseReceive h l src group sources raiser
  | irqEntry l split => exact sound_execIrqEntry h l split
  | irqDeliverReceive l src group snap dseq => exact sound_execIrqDeliverReceive h l src group snap dseq
  | irqWriteReceive l src fast off value => exact sound_execIrqWriteReceive h l src fast off value
  | irqAckWrite l fast value => exact sound_execIrqAckWrite h l fast value
  | irqMaskWrite l fast k value => exact sound_execIrqMaskWrite h l fast k value
  | irqCauseWrite l fast k value => exact sound_execIrqCauseWrite h l fast k value
  | irqRaisedClear l fast k value => exact sound_execIrqRaisedClear h l fast k value
  | irqSwset l fast k value => exact sound_execIrqSwset h l fast k value
  | irqWriteRefusedClear l fast value => exact sound_execIrqWriteRefusedClear h l fast value
  | irqLeadingEnd l group => exact sound_execIrqLeadingEnd h l group
  | msixRelease l vec => exact sound_execMsixRelease h l vec
  | fltEventReceive l src entry total => exact sound_execFltEventReceive h l src entry total
  | fltSumReceive l src words => exact sound_execFltSumReceive h l src words
  | firstRead l b => exact sound_execFirstRead h l b
  | aliveToggle l => exact sound_execAliveToggle h l
  | aliveReadback l level => exact sound_execAliveReadback h l level
  | fullProofComplete l failStep links => exact sound_execFullProofComplete h l failStep links
  | onlineProofStart l cls => exact sound_execOnlineProofStart h l cls
  | onlineProofEnd l cls passed coverage duration => exact sound_execOnlineProofEnd h l cls passed coverage duration
  | proofOverdue l cls region => exact sound_execProofOverdue h l cls region
  | proofXchgReceive l src words => exact sound_execProofXchgReceive h l src words
  | oscXcheck l ppm0 ppm1 ppmK32 => exact sound_execOscXcheck h l ppm0 ppm1 ppmK32
  | sessionTimeout l => exact sound_execSessionTimeout h l
  | secSyncReceive l src words => exact sound_execSecSyncReceive h l src words
  | lockoutEnd l => exact sound_execLockoutEnd h l
  | sramScrub l bank cycle => exact sound_execSramScrub h l bank cycle
  | nvmPageRead l block corrected ok => exact sound_execNvmPageRead h l block corrected ok
  | nvmRefresh l => exact sound_execNvmRefresh h l
  | nvmWear l => exact sound_execNvmWear h l
  | backgroundLag l a => exact sound_execBackgroundLag h l a
  | backgroundStarved l a => exact sound_execBackgroundStarved h l a
  | telemetrySample l logic gd0 gd1 vin vgd vio => exact sound_execTelemetrySample h l logic gd0 gd1 vin vgd vio
  | telemetrySave l => exact sound_execTelemetrySave h l
  | telemetryBatch l => exact sound_execTelemetryBatch h l
  | powerOn l => exact sound_execPowerOn h l
  | powerOff l => exact sound_execPowerOff h l
  | vinUv l => exact sound_execVinUv h l
  | vioUv l => exact sound_execVioUv h l
  | regFault l reg => exact sound_execRegFault h l reg
  | brownout l => exact sound_execBrownout h l
  | pinReset l => exact sound_execPinReset h l
  | supWdog l => exact sound_execSupWdog h l
  | tempWarn l => exact sound_execTempWarn h l
  | tempTrip l => exact sound_execTempTrip h l
  | xtalFail l => exact sound_execXtalFail h l
  | pllUnlock l island => exact sound_execPllUnlock h l island
  | holdEntry l => exact sound_execHoldEntry h l
  | sleepRequest l pin => exact sound_execSleepRequest h l pin
  | pwrSyncReceive l src ready => exact sound_execPwrSyncReceive h l src ready
  | napEntryComplete l => exact sound_execNapEntryComplete h l
  | wakeSource l src => exact sound_execWakeSource h l src
  | peerWake l peer => exact sound_execPeerWake h l peer
  | wakeComplete l ok => exact sound_execWakeComplete h l ok
  | hostBufferRead l read => exact sound_execHostBufferRead h l read
  | fwVerifyComplete l => exact sound_execFwVerifyComplete h l
  | holdToRun l => exact sound_execHoldToRun h l
  | sleepRequestWithdrawn l pin => exact sound_execSleepRequestWithdrawn h l pin
  | busOffRecovery l can => exact sound_execBusOffRecovery h l can
  | announceReceive l blue rank gmId => exact sound_execAnnounceReceive h l blue rank gmId
  | grandmasterSync l => exact sound_execGrandmasterSync h l
  | stepPulseEmit l g => exact sound_execStepPulseEmit h l g

/-- With an empty queue a step lets lane time pass (log entry 9). -/
theorem step_of_pending_nil {s : State} (h : s.pending = []) : step s = .next s.tick := by
  unfold step
  rw [h]

/-- A step runs the command at the front of the queue with the queue's rest. -/
theorem step_of_pending_cons {s : State} {c : Instr} {cs : List Instr} (h : s.pending = c :: cs) :
    step s = exec c { s with pending := cs } := by
  unfold step
  rw [h]

theorem canonS_setPending {s : State} (h : State.Canon s) (p : List Instr) : State.Canon { s with pending := p } :=
  canonS_mk h rfl rfl rfl

theorem sound_step {s : State} (h : State.Canon s) : Sound (step s) := by
  cases hp : s.pending with
  | nil =>
    rw [step_of_pending_nil hp]
    exact sound_next (canonS_tick h)
  | cons c cs =>
    rw [step_of_pending_cons hp]
    exact sound_exec (canonS_setPending h cs) c

/-- Settles O1: the step is the passing of time or one command, and each command has its own `sound_exec…` lemma. -/
theorem everyStepKeepsLanesSound : Obligations.EveryStepKeepsLanesSound := by
  unfold Obligations.EveryStepKeepsLanesSound
  intro s t hs hstep
  exact sound_step hs t hstep

end Sys2Proof.Machine

/-!
SUPPORT. A command of one lane replaces that lane and leaves the rest of the machine as it was.
-/

namespace Sys2Proof.Machine

open Sys2Proof

/-- `t` is `s` with lane `k` replaced: the other lanes, the snapshots and the queue are what they were. -/
def State.ChangesOnly (s : State) (k : LaneId) (t : State) : Prop := ∃ y, t = s.setLane k y

theorem changesOnly_self (s : State) (k : LaneId) : s.ChangesOnly k s := ⟨s.lane k, (State.setLane_self s k).symm⟩

theorem changesOnly_setLane (s : State) (k : LaneId) (x : LaneSt) : s.ChangesOnly k (s.setLane k x) := ⟨x, rfl⟩

theorem changesOnly_setLane_of {s t : State} {k : LaneId} (h : s.ChangesOnly k t) (x : LaneSt) :
    s.ChangesOnly k (t.setLane k x) := by
  obtain ⟨y, rfl⟩ := h
  exact ⟨x, State.setLane_setLane s k y x⟩

theorem changesOnly_ite {s t u : State} {k : LaneId} {p : Prop} [Decidable p] (ht : s.ChangesOnly k t)
    (hu : s.ChangesOnly k u) : s.ChangesOnly k (if p then t else u) := by
  split
  · exact ht
  · exact hu

/-- A lane that is replaced or left alone. -/
theorem changesOnly_setLane_or_self (s : State) (k : LaneId) (x : LaneSt) (p : Prop) [Decidable p] :
    s.ChangesOnly k (if p then s.setLane k x else s) :=
  changesOnly_ite (changesOnly_setLane s k x) (changesOnly_self s k)

theorem changesOnly_shutdownComplete (s : State) (k : LaneId) (n : Nat) : s.ChangesOnly k (shutdownComplete k n s) :=
  changesOnly_ite (changesOnly_self s k)
    (changesOnly_ite (changesOnly_setLane s k _) (changesOnly_setLane_or_self s k _ _))

theorem changesOnly_formStep (s : State) (k p : LaneId) (f : CycleFrame) : s.ChangesOnly k (s.formStep k p f) :=
  changesOnly_setLane_or_self s k _ _

theorem changesOnly_cycleFrameReceive (s : State) (k p : LaneId) (good : Bool) (f : CycleFrame) :
    s.ChangesOnly k (cycleFrameReceive k p good f s) :=
  changesOnly_ite (changesOnly_self s k) (changesOnly_setLane_of (changesOnly_formStep s k p f) _)

theorem changesOnly_netLost (s : State) (k : LaneId) (blue : Bool) : s.ChangesOnly k (s.netLost k blue) :=
  changesOnly_ite (changesOnly_self s k) (changesOnly_ite (changesOnly_setLane s k _) (changesOnly_setLane s k _))

theorem changesOnly_folioSnapshot (s : State) (k : LaneId) : s.ChangesOnly k (s.folioSnapshot k) :=
  changesOnly_ite (changesOnly_self s k)
    (changesOnly_ite (changesOnly_setLane s k _) (changesOnly_setLane_of (changesOnly_setLane s k _) _))

theorem changesOnly_staticState (s : State) (k : LaneId) (src : Arrival) (data : List Byte) :
    s.ChangesOnly k (s.staticState k src data) :=
  changesOnly_ite (changesOnly_self s k) (changesOnly_ite (changesOnly_setLane s k _) (changesOnly_setLane s k _))

theorem changesOnly_hostReset (s : State) (k : LaneId) : s.ChangesOnly k (s.hostReset k) :=
  changesOnly_setLane_or_self s k _ _

/-- A lane whose time is aligned gives up what its donor had captured for it (R109). -/
theorem readmitAligned_changesOnly (s : State) (k : LaneId) :
    s.ChangesOnly k (s.readmitAligned k) ∨ (s.setSnap k none).ChangesOnly k (s.readmitAligned k) := by
  unfold State.readmitAligned
  lift_lets
  intro l
  split
  · exact .inl (changesOnly_self s k)
  · exact .inr (changesOnly_setLane _ k _)

/-- A transfer that ends gives up what the donor had captured for the lane (R110). -/
theorem transferEnd_changesOnly (s : State) (k : LaneId) :
    s.ChangesOnly k (s.transferEnd k) ∨ (s.setSnap k none).ChangesOnly k (s.transferEnd k) := by
  unfold State.transferEnd
  lift_lets
  intro l
  split
  · exact .inl (changesOnly_self s k)
  · split
    · exact .inl (changesOnly_self s k)
    · exact .inr (changesOnly_ite (changesOnly_setLane _ k _)
        (changesOnly_ite (changesOnly_setLane _ k _) (changesOnly_setLane _ k _)))

/-- Apart from the two ends of a state transfer, a command of one lane changes only that lane: most are `onLane` or a form
of it, the ones named first read other lanes before they replace their own. -/
theorem exec_changesOnly (c : Instr) (s : State) (hc : deviceLevel c = false) (h1 : c ≠ .readmitTimeAligned (laneOf c))
    (h2 : c ≠ .stateTransferComplete (laneOf c)) : ∃ t, exec c s = .next t ∧ s.ChangesOnly (laneOf c) t := by
  cases c with
  | readmitTimeAligned l => exact absurd rfl h1
  | stateTransferComplete l => exact absurd rfl h2
  | angleAcquisitionStart l ch => exact ⟨_, rfl, changesOnly_setLane_or_self s l _ _⟩
  | acquisitionEnd l ch => exact ⟨_, rfl, changesOnly_setLane_or_self s l _ _⟩
  | channelStartupBoundary l ch => exact ⟨_, rfl, changesOnly_setLane_or_self s l _ _⟩
  | channelStartupComplete l ch => exact ⟨_, rfl, changesOnly_setLane_or_self s l _ _⟩
  | channelShutdownComplete l ch => exact ⟨_, rfl, changesOnly_shutdownComplete s l _⟩
  | cycleFrameReceive l sender frame tail => exact ⟨_, rfl, changesOnly_cycleFrameReceive s l sender _ frame⟩
  | netLost l blue => exact ⟨_, rfl, changesOnly_netLost s l blue⟩
  | folioSnapshot l => exact ⟨_, rfl, changesOnly_folioSnapshot s l⟩
  | bulkStaticState l src data => exact ⟨_, rfl, changesOnly_staticState s l src data⟩
  | hostReset l => exact ⟨_, rfl, changesOnly_hostReset s l⟩
  | scanStep | completionWrite | tuneEnd | diagSelftestTimeout | comparatorSelftestStep | diagComparatorSelftest
  | diagTestCurrentScan | aliveToggle | fullProofComplete | bulkDynamicState | safeResetLane | laneClear
  | fwVerifyComplete | hostBufferRead | bulkHostBufferCopy | bulkReportCopy | logRead | attest | tpWindowStart
  | tpWindowEnd | votingBoundary | ywSkewExpired | ywPoll | ywFleetFrame | ywKeyConfirm => cases hc
  | _ => exact ⟨_, rfl, changesOnly_setLane s _ _⟩

/-- Settles O60: two commands also give up the captured snapshot; every other command of one lane replaces that lane at
most. -/
theorem commandsKeepToTheirLane : Obligations.CommandsKeepToTheirLane := by
  unfold Obligations.CommandsKeepToTheirLane
  intro c s hc
  by_cases h1 : c = .readmitTimeAligned (laneOf c)
  · rw [h1]
    rcases readmitAligned_changesOnly s (laneOf c) with ⟨y, hy⟩ | ⟨y, hy⟩
    · exact ⟨s, y, congrArg _ hy, .inl rfl⟩
    · exact ⟨_, y, congrArg _ hy, .inr ⟨.inl rfl, rfl⟩⟩
  by_cases h2 : c = .stateTransferComplete (laneOf c)
  · rw [h2]
    rcases transferEnd_changesOnly s (laneOf c) with ⟨y, hy⟩ | ⟨y, hy⟩
    · exact ⟨s, y, congrArg _ hy, .inl rfl⟩
    · exact ⟨_, y, congrArg _ hy, .inr ⟨.inr rfl, rfl⟩⟩
  obtain ⟨_, ht, y, rfl⟩ := exec_changesOnly c s hc h1 h2
  exact ⟨s, y, ht, .inl rfl⟩

end Sys2Proof.Machine

/-!
SUPPORT. What the host's accesses to BAR0 and the losses of its link do.
-/

namespace Sys2Proof.Machine

open Sys2Proof

/-! ## Register writes (R8, R30, R31, R63) -/

theorem hostWindow_of_bar0 {off : Nat} (h4 : off % 4 = 0) (hlt : off < 0x100000) : hostWindow off = true := by
  have : off < 0x102000 := by omega
  simp [hostWindow, h4, this]

theorem hostWindow_of_unaligned {off : Nat} (h4 : off % 4 ≠ 0) : hostWindow off = false := by
  simp [hostWindow, h4]

section
variable {s : State} {l : LaneId} {off : Nat}

/-- A host write of a BAR0 word that is neither the quoin nor a MACsec key word goes to the register block. -/
theorem exec_registerWrite_bar0 (ha : (s.lane l).answers) (h4 : off % 4 = 0) (hlt : off < 0x100000) (hq : off ≠ 0x300C)
    (hsak : sakWordAt off = none) (v : Word) :
    exec (.registerWrite l off v) s = .next (s.setLane l ((s.lane l).registerWrite off v)) := by
  have hbar : ¬(0x100000 ≤ off) := by omega
  change execRegisterWrite l off v s = _
  unfold execRegisterWrite
  rw [onBar_answers ha]
  simp [hostWindow_of_bar0 h4 hlt, hbar, hq, hsak]

/-- A host write that R30 does not accept is a bad request. -/
theorem exec_registerWrite_unaligned (ha : (s.lane l).answers) (h4 : off % 4 ≠ 0) (v : Word) :
    exec (.registerWrite l off v) s = .next (s.setLane l (s.lane l).badRequest) := by
  change execRegisterWrite l off v s = _
  unfold execRegisterWrite
  rw [onBar_answers ha]
  simp [hostWindow_of_unaligned h4, LaneSt.otherWrite]

end

/-- Outside HIF.CTRL and the runtime words of the IRQ banks a register write is a setup write. -/
theorem LaneSt.registerWrite_eq_setupWrite (x : LaneSt) {off : Nat} (hc : off ≠ 0x3000)
    (hirq : off < 0x4000 ∨ 0x5000 ≤ off ∨ 0x400 ≤ off % 0x800) (v : Word) : x.registerWrite off v = x.setupWrite off v := by
  have hbank : ¬(0x4000 ≤ off ∧ off < 0x5000 ∧ off % 0x800 < 0x400) := by omega
  unfold LaneSt.registerWrite
  rw [if_neg hc, if_neg hbank]

theorem LaneSt.setupWrite_noRow (x : LaneSt) {off : Nat} (h : regRow off = none) (v : Word) : x.setupWrite off v = x := by
  simp [LaneSt.setupWrite, h]

theorem LaneSt.setupWrite_locked {x : LaneSt} {off : Nat} {r : RegRow} (h : regRow off = some r)
    (hen : x.on HIF.CTRL.EN = true) (hl : lockedByEn off = true) (v : Word) : x.setupWrite off v = x.fault 0x003 0 := by
  simp [LaneSt.setupWrite, h, hen, hl]

theorem LaneSt.setupWrite_unlocked {x : LaneSt} {off : Nat} {r : RegRow} (h : regRow off = some r)
    (hl : x.on HIF.CTRL.EN = false ∨ lockedByEn off = false) (hs : x.sealed = false) (v : Word) :
    x.setupWrite off v =
      x.setWord off ((x.word off &&& ~~~(BitVec.ofNat 32 r.rws)) ||| (v &&& BitVec.ofNat 32 r.rws)) := by
  have hlock : (x.on HIF.CTRL.EN && lockedByEn off) = false := by
    rcases hl with hl | hl <;> simp [hl]
  simp [LaneSt.setupWrite, h, hlock, hs]

/-- The register file of a sound lane is in canonical form. -/
theorem regsWf_of_canon {k : LaneId} {x : LaneSt} (h : LaneSt.Canon k x) : x.regsWf := by
  obtain ⟨rfl, hregs, -, -⟩ := h
  exact hregs

/-- Settles O6: the write is a `setupWrite`, which has a case for a row, a locked row and no row. -/
theorem registerWriteSetsWritableBits : Obligations.RegisterWriteSetsWritableBits := by
  unfold Obligations.RegisterWriteSetsWritableBits
  intro s l off v hs ha hsealed h4 hlt hctrl hq hsak hirq
  have hexec := exec_registerWrite_bar0 ha h4 hlt hq hsak v
  rw [LaneSt.registerWrite_eq_setupWrite _ hctrl hirq] at hexec
  refine ⟨fun r hr hlock => ?_, fun r hr hen hlock => ?_, fun hr => ?_⟩
  · rw [LaneSt.setupWrite_unlocked hr hlock hsealed] at hexec
    refine ⟨_, hexec, ?_, fun o ho => ?_, ?_⟩
    · rw [State.setLane_lane_same, LaneSt.word_setWord_same (regsWf_of_canon (hs l))]
    · rw [State.setLane_lane_same, LaneSt.word_setWord_ne _ ho]
    · rw [State.setLane_lane_same]
      rfl
  · rw [hexec, LaneSt.setupWrite_locked hr hen hlock]
  · rw [hexec, LaneSt.setupWrite_noRow _ hr, State.setLane_self]

/-! ## Reads and losses of the host link (R7, R30, R38, R39, R46, R376) -/

theorem LaneSt.hostWord_bar0 (x : LaneSt) {off : Nat} (hlt : off < 0x100000) :
    x.hostWord off = (x.hif.latched.find? (fun y => y.1 = off)).elim (x.regRead off) (·.2) := by
  have h1 : ¬(0x200000 ≤ off) := by omega
  have h2 : ¬(0x100000 ≤ off) := by omega
  unfold LaneSt.hostWord
  rw [if_neg h1, if_neg h2]
  cases x.hif.latched.find? (fun y => y.1 = off) <;> rfl

theorem LaneSt.hostRead_bar0 (x : LaneSt) {off : Nat} (h4 : off % 4 = 0) (hlt : off < 0x100000) :
    x.hostRead off = { x.lowRead off with hif := { (x.lowRead off).hif with answer := some (x.hostWord off) } } := by
  simp [LaneSt.hostRead, hostWindow_of_bar0 h4 hlt, hlt]

theorem LaneSt.hostRead_unaligned (x : LaneSt) {off : Nat} (h4 : off % 4 ≠ 0) : x.hostRead off = x.badRequest := by
  unfold LaneSt.hostRead
  rw [hostWindow_of_unaligned h4]
  rfl

/-- The latched words after a read of BAR0: the read word's own latch is gone, a low word latches what lies above it. -/
theorem LaneSt.lowRead_latched (x : LaneSt) (off : Nat) :
    let keep := x.hif.latched.filter (fun y => y.1 ≠ off)
    let now := [(0x902C, x.regRead 0x902C), (0x9030, x.regRead 0x9030)]
    x.lowRead off = { x with hif := { x.hif with
      latched :=
        if isReg64 off = false then keep
        else if off = 0x9028 then now ++ keep.filter (fun y => y.1 ≠ 0x902C ∧ y.1 ≠ 0x9030)
        else (off + 4, x.regRead (off + 4)) :: keep.filter (fun y => y.1 ≠ off + 4) } } := by
  unfold LaneSt.lowRead
  cases h64 : isReg64 off with
  | false => simp
  | true =>
    by_cases hnow : off = 0x9028
    · subst hnow
      simp
    · simp [hnow]

theorem LaneSt.linkLost_up {x : LaneSt} (h : x.on HIF.STATUS.LINK_UP = true) :
    x.linkLost =
      let y := (x.wr HIF.STATUS.LINK_UP 0).setBlk x.id (fun b => { b with degrade := setBit b.degrade 2 true })
      LaneSt.fault { y with hif := { y.hif with reads := [], dmaFails := 0 } } 0x007 0 := by
  simp only [LaneSt.linkLost, h]
  rfl

theorem LaneSt.hostSilent_first {x : LaneSt} (h : x.on HIF.STATUS.HOST_SILENT = false) :
    x.hostSilent =
      let y := (x.wr HIF.STATUS.HOST_SILENT 1).raise 2 6
      { y with vote := { y.vote with causes := setBit y.vote.causes 5 true,
                                     stopReq := if y.vote.stopReq = 0 then 5 else y.vote.stopReq } } := by
  simp only [LaneSt.hostSilent, h]
  rfl

theorem LaneSt.firstRead_compat {x : LaneSt} (h : x.on FLT.CTRL.COMPAT = true) (b : Nat) :
    x.firstRead b =
      let y := (x.wr (FLT.FIRST.VALID b) 0).wr (FLT.FIRST.OVERFLOW b) 0
      { y with flt := { y.flt with
        firstNs := (b, x.rd (FLT.FIRST_NS.NS b)) :: y.flt.firstNs.filter (fun q => q.1 ≠ b) } } := by
  simp only [LaneSt.firstRead, h]
  rfl

theorem LaneSt.firstRead_noCompat {x : LaneSt} (h : x.on FLT.CTRL.COMPAT = false) (b : Nat) : x.firstRead b = x := by
  simp [LaneSt.firstRead, h]

section
variable {s : State} {l : LaneId}

theorem exec_reg64LowRead (ha : (s.lane l).answers) (off : Nat) :
    exec (.reg64LowRead l off) s = .next (s.setLane l ((s.lane l).hostRead off)) :=
  onBar_answers (f := fun x => x.hostRead off) ha

theorem exec_bar0BadRequest (ha : (s.lane l).answers) :
    exec (.bar0BadRequest l) s = .next (s.setLane l (s.lane l).badRequest) :=
  onBar_answers (f := LaneSt.badRequest) ha

theorem exec_firstRead (ha : (s.lane l).answers) (b : Fin 24) :
    exec (.firstRead l b) s = .next (s.setLane l ((s.lane l).firstRead b)) :=
  onBar_answers (f := fun x => x.firstRead b) ha

end

theorem exec_hostLinkLost (s : State) (l : LaneId) : exec (.hostLinkLost l) s = .next (s.setLane l (s.lane l).linkLost) := rfl

theorem exec_perstReset (s : State) (l : LaneId) :
    exec (.perstReset l) s = .next (s.setLane l (s.lane l).hostIslandReset) := rfl

theorem exec_hostTimeout (s : State) (l : LaneId) : exec (.hostTimeout l) s = .next (s.setLane l (s.lane l).hostSilent) := rfl

/-- Settles O8: each event is one operation on its lane, and each operation has its equation above. -/
theorem hostLinkEventsComplete : Obligations.HostLinkEventsComplete := by
  unfold Obligations.HostLinkEventsComplete
  refine ⟨fun s l off ha h4 hlt => ?_, fun s l ha => ?_, fun s l hup => ?_, fun s l hsilent => ?_, fun s l b ha => ?_⟩
  · rw [exec_reg64LowRead ha, LaneSt.hostRead_bar0 _ h4 hlt, LaneSt.hostWord_bar0 _ hlt, LaneSt.lowRead_latched]
  · refine ⟨exec_bar0BadRequest ha, fun off h4 => ?_, fun off v h4 => exec_registerWrite_unaligned ha h4 v⟩
    rw [exec_reg64LowRead ha, LaneSt.hostRead_unaligned _ h4]
    rfl
  · rw [exec_hostLinkLost, exec_perstReset, LaneSt.hostIslandReset, LaneSt.linkLost_up hup]
    exact ⟨rfl, rfl⟩
  · rw [exec_hostTimeout, LaneSt.hostSilent_first hsilent]
  · refine ⟨fun hcompat => ?_, fun hcompat => ?_⟩
    · rw [exec_firstRead ha, LaneSt.firstRead_compat hcompat]
    · rw [exec_firstRead ha, LaneSt.firstRead_noCompat hcompat]

end Sys2Proof.Machine

/-!
SUPPORT. What a sealed lane makes of the host's writes, and the equations of the quoin and of the MACsec key words.
-/

namespace Sys2Proof.Machine

open Sys2Proof

/-! ## The quoin and the MACsec key words (R31, R62, R64, R299) -/

theorem LaneSt.quoinWrite_wrongKey (x : LaneSt) {key : Nat} (h : key ≠ 0x5EA10316) : x.quoinWrite key = x.fault 0x004 0 := by
  simp [LaneSt.quoinWrite, h]

theorem LaneSt.quoinWrite_sealed {x : LaneSt} (h : x.sealed = true) : x.quoinWrite 0x5EA10316 = x := by
  simp [LaneSt.quoinWrite, h]

theorem LaneSt.quoinWrite_unsealed {x : LaneSt} (h : x.sealed = false) :
    x.quoinWrite 0x5EA10316 = match x.noteSched.sealCheck with
      | some (code, i) => (x.noteSched.wr HIF.SEAL_ERR.CODE code).wr HIF.SEAL_ERR.INDEX i
      | none => x.noteSched.sealNow := by
  unfold LaneSt.quoinWrite
  exact (if_neg (not_not.mpr rfl)).trans (if_neg (by simp [h]))

theorem LaneSt.sakWrite_sealed {x : LaneSt} (h : x.sealed = true) (net port n v : Nat) : x.sakWrite net port n v = x := by
  simp [LaneSt.sakWrite, h]

theorem LaneSt.sakWrite_unsealed {x : LaneSt} (h : x.sealed = false) {net port : Nat} {k : List Byte}
    (hk : x.sec.saks.getD (sakSlot net port (x.rd (NET.MS_CTRL.AN net port))) [] = k) (hlen : k.length = 16) (n v : Nat) :
    x.sakWrite net port n v = x.installSak net port (x.rd (NET.MS_CTRL.AN net port))
      (k.take (4 * n) ++ toBe 4 v ++ k.drop (4 * n + 4)) := by
  subst hk
  simp [LaneSt.sakWrite, h, hlen]

section
variable {s : State} {l : LaneId}

theorem exec_quoin (ha : (s.lane l).answers) (key : Word) :
    exec (.quoin l key) s = .next (s.setLane l ((s.lane l).quoinWrite key.toNat)) :=
  onBar_answers (f := fun x => x.quoinWrite key.toNat) ha

theorem exec_hifEnable (ha : (s.lane l).answers) (v : Word) :
    exec (.hifEnable l v) s = .next (s.setLane l ((s.lane l).ctrlWrite v)) :=
  onBar_answers (f := fun x => x.ctrlWrite v) ha

theorem exec_macsecSakWrite (ha : (s.lane l).answers) (net port : Fin 2) (n : Fin 4) (v : Word) :
    exec (.macsecSakWrite l net port n v) s =
      .next (s.setLane l ((s.lane l).sakWrite net.val port.val n.val v.toNat)) :=
  onBar_answers (f := fun x => x.sakWrite net.val port.val n.val v.toNat) ha

/-- The quoin reached by its offset. -/
theorem exec_registerWrite_quoin (ha : (s.lane l).answers) (v : Word) :
    exec (.registerWrite l 0x300C v) s = .next (s.setLane l ((s.lane l).quoinWrite v.toNat)) := by
  change execRegisterWrite l 0x300C v s = _
  unfold execRegisterWrite
  rw [onBar_answers ha]
  simp [hostWindow]

/-- A MACsec key word reached by its offset. -/
theorem exec_registerWrite_sak {off i j k : Nat} (ha : (s.lane l).answers) (h4 : off % 4 = 0) (hlt : off < 0x100000)
    (hq : off ≠ 0x300C) (hsak : sakWordAt off = some (i, j, k)) (v : Word) :
    exec (.registerWrite l off v) s = .next (s.setLane l ((s.lane l).sakWrite i j k v.toNat)) := by
  have hbar : ¬(0x100000 ≤ off) := by omega
  change execRegisterWrite l off v s = _
  unfold execRegisterWrite
  rw [onBar_answers ha]
  simp [hostWindow_of_bar0 h4 hlt, hbar, hq, hsak]

end

/-! ## Writes after the quoin (R31, R63) -/

/-- The registers that HIF.CTRL.EN locks lie below the MACsec key words. -/
theorem sakWordAt_of_lockedByEn {off : Nat} (h : lockedByEn off = true) : sakWordAt off = none := by
  have hlt : off < 0x3300 := by
    simp only [lockedByEn, Bool.or_eq_true, Bool.and_eq_true, decide_eq_true_eq] at h
    omega
  unfold sakWordAt
  rw [List.find?_eq_none]
  intro ⟨i, j, k⟩ _
  have hne : NET.MS_SAK.off i j k ≠ off := by
    unfold NET.MS_SAK.off
    omega
  simp [hne]

theorem ne_ctrl_of_lockedByEn {off : Nat} (h : lockedByEn off = true) : off ≠ 0x3000 := by
  rintro rfl
  cases h

theorem LaneSt.setupWrite_sealed {x : LaneSt} {off : Nat} (hs : x.sealed = true)
    (h : x.on HIF.CTRL.EN = false ∨ lockedByEn off = false ∨ regRow off = none) (v : Word) : x.setupWrite off v = x := by
  cases hr : regRow off with
  | none => exact LaneSt.setupWrite_noRow x hr v
  | some r =>
    have hlock : (x.on HIF.CTRL.EN && lockedByEn off) = false := by
      rcases h with h | h | h
      · simp [h]
      · simp [h]
      · rw [hr] at h
        cases h
    simp [LaneSt.setupWrite, hr, hlock, hs]

theorem LaneSt.ctrlWrite_sealed {x : LaneSt} (h : x.sealed = true) (v : Word) : x.ctrlWrite v = x := by
  simp [LaneSt.ctrlWrite, h]

/-- A sealed lane discards a register write outside the runtime words of the IRQ banks, unless EN locks the register. -/
theorem LaneSt.registerWrite_sealed {x : LaneSt} {off : Nat} (hs : x.sealed = true)
    (hirq : off < 0x4000 ∨ 0x5000 ≤ off ∨ 0x400 ≤ off % 0x800)
    (h : x.on HIF.CTRL.EN = false ∨ lockedByEn off = false ∨ regRow off = none) (v : Word) :
    x.registerWrite off v = x := by
  by_cases hc : off = 0x3000
  · rw [LaneSt.registerWrite, if_pos hc, LaneSt.ctrlWrite_sealed hs]
  · rw [LaneSt.registerWrite_eq_setupWrite x hc hirq, LaneSt.setupWrite_sealed hs h]

/-- Settles O5: a word's write goes to the quoin, a MACsec key or the register block, and each has an equation for a sealed
lane; no word that EN locks is a key word. -/
theorem sealedLaneDiscardsWrites : Obligations.SealedLaneDiscardsWrites := by
  unfold Obligations.SealedLaneDiscardsWrites
  intro s l v ha hs
  refine ⟨fun off h4 hlt hq hirq => ⟨fun hfree => ?_, fun hen hlock hrow => ?_⟩, ?_, ?_, ?_, ?_⟩
  · cases hsak : sakWordAt off with
    | none =>
      rw [exec_registerWrite_bar0 ha h4 hlt hq hsak, LaneSt.registerWrite_sealed hs hirq hfree, State.setLane_self]
    | some w =>
      rw [exec_registerWrite_sak ha h4 hlt hq hsak, LaneSt.sakWrite_sealed hs, State.setLane_self]
  · obtain ⟨r, hr⟩ := Option.ne_none_iff_exists'.mp hrow
    rw [exec_registerWrite_bar0 ha h4 hlt hq (sakWordAt_of_lockedByEn hlock),
      LaneSt.registerWrite_eq_setupWrite _ (ne_ctrl_of_lockedByEn hlock) hirq, LaneSt.setupWrite_locked hr hen hlock]
  · rw [exec_hifEnable ha, LaneSt.ctrlWrite_sealed hs, State.setLane_self]
  · rintro rfl
    have hkey : (s.lane l).quoinWrite (0x5EA10316 : Word).toNat = s.lane l := LaneSt.quoinWrite_sealed hs
    rw [exec_quoin ha, exec_registerWrite_quoin ha, hkey, State.setLane_self]
    exact ⟨rfl, rfl⟩
  · intro hv
    have hkey : v.toNat ≠ 0x5EA10316 := fun h => hv (BitVec.eq_of_toNat_eq h)
    rw [exec_quoin ha, exec_registerWrite_quoin ha, LaneSt.quoinWrite_wrongKey _ hkey]
    exact ⟨rfl, rfl⟩
  · intro net port n
    rw [exec_macsecSakWrite ha, LaneSt.sakWrite_sealed hs, State.setLane_self]

end Sys2Proof.Machine

/-!
SUPPORT. What the end and the overrun of a function's shutdown do.
-/

namespace Sys2Proof.Machine

open Sys2Proof

section
variable {x : LaneSt}

theorem LaneSt.shutdownDone_chopper {k : Fin 2} (hstop : x.chopperStops k.val = true)
    (hoff : bit (x.rd GATE.OV_STATUS.CHP_ON) k.val = false)
    (hi : 10 * x.rdI (ADC.RESULT.VALUE (50 + k.val)) < (x.rd GATE.CHP_CTRL.OFF_I : Int) * 65536) :
    x.shutdownDone (.chopper k) = x.chopperRests k.val := by
  simp [LaneSt.shutdownDone, hstop, hoff, hi]

theorem LaneSt.shutdownDone_port {p : Fin 4} (hstop : x.portStopping p.val = true) :
    x.shutdownDone (.port p) = x.portRests p.val := if_pos hstop

theorem LaneSt.shutdownDone_output {k : Fin 8} (hshut : bit x.sio.shut k.val = true) (hen : x.on SIO.CTRL.EN = true) :
    x.shutdownDone (.safetyOutput k) = x.edmConfirm k.val := if_pos ⟨hshut, hen⟩

theorem LaneSt.functionOverrun_chopper {k : Fin 2} (hstop : x.chopperStops k.val = true) :
    x.functionOverrun (.chopper k) = ((x.chopperRests k.val).chpLatch k.val).fault 0x18B k.val := if_pos hstop

theorem netCode_eq (p red blue : Nat) : netCode p red blue = if p < 2 then red else blue := by
  have h : p / 2 = 0 ↔ p < 2 := by omega
  simp only [netCode, h]

theorem LaneSt.functionOverrun_port {p : Fin 4} (hstop : x.portStopping p.val = true) :
    x.functionOverrun (.port p) =
      ((x.portRests p.val).setNet (fun n => { n with cancelled := setBit n.cancelled p.val true })).fault
        (if p.val < 2 then 0x082 else 0x0A2) (p.val % 2) := by
  rw [← netCode_eq]
  exact if_pos hstop

theorem LaneSt.functionOverrun_output {k : Fin 8} (hshut : bit x.sio.shut k.val = true) :
    x.functionOverrun (.safetyOutput k) = x.edmFault k.val := if_pos hshut

end

theorem exec_functionShutdownComplete (s : State) (l : LaneId) (f : FunctionId) :
    exec (.functionShutdownComplete l f) s = .next (s.setLane l ((s.lane l).shutdownDone f)) := rfl

theorem exec_functionShutdownOverrun (s : State) (l : LaneId) (f : FunctionId) :
    exec (.functionShutdownOverrun l f) s = .next (s.setLane l ((s.lane l).functionOverrun f)) := rfl

/-- Settles O27: each kind of function has one equation for its end and one for its overrun. -/
theorem functionShutdownsComplete : Obligations.FunctionShutdownsComplete := by
  unfold Obligations.FunctionShutdownsComplete
  refine ⟨fun s l k hstop hoff hi => ?_, fun s l k hstop => ?_, fun s l p hstop => ⟨?_, ?_⟩,
    fun s l k hshut => ⟨fun hen => ?_, ?_⟩, fun s l => ⟨rfl, rfl⟩⟩
  · rw [exec_functionShutdownComplete, LaneSt.shutdownDone_chopper hstop hoff hi]
  · rw [exec_functionShutdownOverrun, LaneSt.functionOverrun_chopper hstop]
  · rw [exec_functionShutdownComplete, LaneSt.shutdownDone_port hstop]
  · rw [exec_functionShutdownOverrun, LaneSt.functionOverrun_port hstop]
  · rw [exec_functionShutdownComplete, LaneSt.shutdownDone_output hshut hen]
  · rw [exec_functionShutdownOverrun, LaneSt.functionOverrun_output hshut]

end Sys2Proof.Machine

/-!
SUPPORT. What the session's time-outs and the lead's SEC_SYNC records do.
-/

namespace Sys2Proof.Machine

open Sys2Proof

section
variable {s : State} {l : LaneId}

theorem exec_sessionTimeout_idle (hlead : (s.lane l).isLead = true) (hopen : (s.lane l).sec.session.isSome = true)
    (hidle : (s.lane l).sec.idleFrom + (s.lane l).rd SEC.CTRL.SESS_TMO * 10 ^ 9 ≤ (s.lane l).ns) :
    exec (.sessionTimeout l) s = .next (s.setLane l (s.lane l).closeSession) := by
  change execSessionTimeout l s = _
  rw [execSessionTimeout, onLane, if_pos ⟨hlead, hopen, hidle⟩]

theorem exec_lockoutEnd_over (h : ∀ t, (s.lane l).sec.lockUntil = some t → t ≤ (s.lane l).ns) :
    exec (.lockoutEnd l) s = .next (s.setLane l
      ({ s.lane l with sec := { (s.lane l).sec with lockUntil := none } } : LaneSt).showSession) := by
  have hover : ¬(s.lane l).sec.lockUntil.any (fun t => decide ((s.lane l).ns < t)) = true := by
    rw [Option.any_eq_true]
    rintro ⟨t, ht, hlt⟩
    exact absurd (h t ht) (Nat.not_le.mpr (of_decide_eq_true hlt))
  change execLockoutEnd l s = _
  rw [execLockoutEnd, onLane, if_neg hover]

/-- An accepted SEC_SYNC record is taken over where its sender leads. -/
theorem exec_secSyncReceive {src : Arrival} (h : (s.lane l).accepts src = true) (words : List Dword) :
    exec (.secSyncReceive l src words) s = .next (s.setLane l
      (if ((s.lane l).heard src 1).vote.lead = some src.lane then ((s.lane l).heard src 1).secSync words
       else (s.lane l).heard src 1)) := by
  change execSecSyncReceive l src words s = _
  rw [execSecSyncReceive, onReceive_heard h, ite_not]

end

/-- Settles O48: each command has its equation, and the record's words are read off by their places. -/
theorem setupAndSessionCommandsComplete : Obligations.SetupAndSessionCommandsComplete := by
  unfold Obligations.SetupAndSessionCommandsComplete
  refine ⟨fun s l key ha => ⟨fun hkey => ?_, fun hs => ?_, fun hs => ?_⟩, fun s l net port n v k ha hs => ?_,
    fun s l => ⟨exec_sessionTimeout_idle, exec_lockoutEnd_over⟩, fun s l src c0 c1 st until_ rest hacc => ⟨fun hlead => ?_, fun hlead => ?_⟩⟩
  · have hne : key.toNat ≠ 0x5EA10316 := fun h => hkey (BitVec.eq_of_toNat_eq h)
    rw [exec_quoin ha, LaneSt.quoinWrite_wrongKey _ hne]
  · rw [exec_quoin ha]
    exact congrArg _ (congrArg _ (LaneSt.quoinWrite_sealed hs))
  · rw [exec_quoin ha]
    exact congrArg _ (congrArg _ (LaneSt.quoinWrite_unsealed hs))
  · intro an hk hlen
    rw [exec_macsecSakWrite ha, LaneSt.sakWrite_unsealed hs hk hlen]
  · rw [exec_secSyncReceive hacc, if_pos hlead]
    rfl
  · rw [exec_secSyncReceive hacc, if_neg hlead]

end Sys2Proof.Machine

/-!
SUPPORT. What CHANNEL_MODE and SAFE_RESET do in the states of a channel and of a safety function.
-/

namespace Sys2Proof.Machine

open Sys2Proof

/-! ## CHANNEL_MODE (R32, R33, R50, R193) -/

/-- With every permission check passed the effect runs. -/
theorem LaneSt.permitted_granted (x : LaneSt) (d : Decided) {checks : List (Option (Nat × Nat))}
    (h : ∀ c ∈ checks, c = none) (f : LaneSt → LaneSt) : x.permitted d checks f = f x := by
  have hnone : firstDenied checks = none := by
    rw [firstDenied, List.find?_eq_none.mpr (fun c hc => by simp [h c hc])]
    rfl
  rw [LaneSt.permitted, hnone]

section
variable {y : LaneSt} {n arg : Nat}

section
variable (hsetup : y.permSetup = none) (hmode : y.permMode = none) (hdenied : y.enableDenied n arg false = none)
include hsetup hmode hdenied

theorem LaneSt.enable_checks_pass : ∀ c ∈ [y.permSetup, y.permMode, y.enableDenied n arg false], c = none := by
  simp [hsetup, hmode, hdenied]

/-- Of a DISABLED channel: the descriptor waits, and the start-up begins. -/
theorem LaneSt.enable_disabled (h : y.chState n = 0) (d : Decided) (tune : Bool) :
    y.enable d n tune arg false =
      (y.setComm n (fun q => { q with enables := q.enables ++ [d], wantTune := tune })).startBegin n := by
  rw [LaneSt.enable, LaneSt.permitted_granted _ _ (LaneSt.enable_checks_pass hsetup hmode hdenied)]
  exact if_pos h

/-- TUNE of a channel in RUN. -/
theorem LaneSt.enable_tune_of_run (h : y.chState n = 2) (d : Decided) :
    y.enable d n true arg false = (y.setCh n 3).okOutcome d 0 0 := by
  rw [LaneSt.enable, LaneSt.permitted_granted _ _ (LaneSt.enable_checks_pass hsetup hmode hdenied)]
  simp [h, chDisabled, chStarting, chStopping, chTune, chRun]

/-- ENABLE of a channel in TUNE. -/
theorem LaneSt.enable_run_of_tune (h : y.chState n = 3) (d : Decided) :
    y.enable d n false arg false = ((y.tuneAbort n 0x77 0).setCh n 2).okOutcome d 0 0 := by
  rw [LaneSt.enable, LaneSt.permitted_granted _ _ (LaneSt.enable_checks_pass hsetup hmode hdenied)]
  simp [h, chDisabled, chStarting, chStopping, chTune, chRun]

end

/-- DISABLE of a channel in RUN or TUNE: the descriptor waits, and the shutdown starts. -/
theorem LaneSt.disable_running (hsetup : y.permSetup = none) (h : y.chState n = 2 ∨ y.chState n = 3) (d : Decided) :
    y.disable d n false = (y.setComm n (fun q => { q with disable := some d })).shutdownStart n := by
  rw [LaneSt.disable, LaneSt.permitted_granted _ _ (by simp [hsetup])]
  rcases h with h | h
  · simp [h, chStarting, chRun, chTune]
  · simp [h, chStarting, chRun, chTune]

/-- DISABLE of a DISABLED or FAULTED channel. -/
theorem LaneSt.disable_stopped (hsetup : y.permSetup = none) (h : y.chState n = 0 ∨ y.chState n = 5) (d : Decided) :
    y.disable d n false = y.okOutcome d 0 0 := by
  rw [LaneSt.disable, LaneSt.permitted_granted _ _ (by simp [hsetup])]
  rcases h with h | h
  · simp [h, chStarting, chRun, chTune, chLatched, chStopping]
  · simp [h, chStarting, chRun, chTune, chLatched, chStopping]

end

section
variable {s : State} {l : LaneId} {d : Decided} {rest : List Decided} {n : Nat}

/-- The next CHANNEL_MODE, where it stands first and asks for the REQUEST of the command. -/
theorem modeExec_first {r : Nat} (h : (s.lane l).firstReady d (.channelMode n r) rest) :
    modeExec l r s = s.setLane l ((if r = 0 then ((s.lane l).takes d (.channelMode n r) rest).disable d n (s.faultDue l n)
      else ((s.lane l).takes d (.channelMode n r) rest).enable d n (r = 2) (s.faultArg l n) (s.faultDue l n)).settle) := by
  rw [modeExec, LaneSt.withDesc_first h (by simp [DescOp.isMode])]

theorem exec_channelModeDisable (h : (s.lane l).firstReady d (.channelMode n 0) rest) (hdue : s.faultDue l n = false) :
    exec (.channelModeDisable l) s = .next (s.setLane l
      ((((s.lane l).takes d (.channelMode n 0) rest).disable d n false).settle)) := by
  have hrun := modeExec_first h
  rw [hdue, if_pos rfl] at hrun
  exact congrArg _ hrun

theorem exec_channelModeEnable (h : (s.lane l).firstReady d (.channelMode n 1) rest) (hdue : s.faultDue l n = false) :
    exec (.channelModeEnable l) s = .next (s.setLane l
      ((((s.lane l).takes d (.channelMode n 1) rest).enable d n false (s.faultArg l n) false).settle)) := by
  have hrun := modeExec_first h
  rw [hdue, if_neg (by decide)] at hrun
  exact congrArg _ hrun

theorem exec_channelModeTune (h : (s.lane l).firstReady d (.channelMode n 2) rest) (hdue : s.faultDue l n = false) :
    exec (.channelModeTune l) s = .next (s.setLane l
      ((((s.lane l).takes d (.channelMode n 2) rest).enable d n true (s.faultArg l n) false).settle)) := by
  have hrun := modeExec_first h
  rw [hdue, if_neg (by decide)] at hrun
  exact congrArg _ hrun

end

/-! ## SAFE_RESET (R115, R193, R220, R256, R333) -/

section
variable {s : State} {l : LaneId} {y : LaneSt} {n : Nat}

/-- Of a FAULTED channel outside SAFE whose cause is gone in every member. -/
theorem State.channelReset_faulted (h : y.chState n = 5) (hsafe : (s.lane l).inSafe = false)
    (hgone : (s.membersOf l).any (fun j => (s.lane j).sourcePresent n) = false) (d : Decided) :
    let z := ((y.clearBridge n).clearPorts n).setCh n 0
    s.channelReset l n d y =
      ({ z with flt := { z.flt with source := z.flt.source.setIfInBounds n none } } : LaneSt).complete d 0 0 0 := by
  have hpresent : ¬(s.faultedBySafe l = true ∨ (s.membersOf l).any (fun j => (s.lane j).sourcePresent n) = true) := by
    rw [State.faultedBySafe, hsafe, hgone]
    simp
  unfold State.channelReset
  exact (if_pos h).trans (if_neg hpresent)

/-- Of a STOP_LATCHED channel whose cause has cleared. -/
theorem State.channelReset_latched (h : y.chState n = 6) (hcleared : y.latchCleared n = true) (d : Decided) :
    s.channelReset l n d y =
      ((y.setComm n (fun q => { q with latch := 0, latchCat := 1 })).setCh n
        (if (y.ch n).latchCat = 2 then 2 else 0)).complete d 0 0 0 := by
  have hnotFaulted : ¬y.chState n = chFaulted := by
    rw [h]
    decide
  unfold State.channelReset
  exact (if_neg hnotFaulted).trans ((if_neg (by simp [hcleared])).trans (by simp [h, chLatched, chRun, chDisabled, stOk]))

/-- One more SAFE_RESET counted (R327). -/
def LaneSt.countReset (y : LaneSt) : LaneSt := y.setSio (fun x => { x with resets := (x.resets + 1) % 256 })

/-- Of a safety function in PERMIT or OFF: there is nothing to reset. -/
theorem State.functionReset_idle {f : Nat} (h : y.countReset.sf f = 3 ∨ y.countReset.sf f = 0) (d : Decided) :
    s.functionReset l f d y = (y.countReset.okOutcome d 0 0).xchgSend := by
  have hidle : y.countReset.sf f = sfPermit ∨ y.countReset.sf f = sfOff ∨
      (y.countReset.sf f = sfReady ∧ y.countReset.sfType f = 3) := h.elim .inl (fun h => .inr (.inl h))
  unfold State.functionReset
  exact if_pos hidle

/-- Of a safety function in READY under manual restart: the descriptor waits for the grant. -/
theorem State.functionReset_ready {f : Nat} (h : y.countReset.sf f = 2) (ht : y.countReset.sfType f ≠ 3) (d : Decided) :
    s.functionReset l f d y = (y.countReset.setSio (fun x =>
      { x with grant := x.grant.setIfInBounds f (x.grant.getD f [] ++ [d]) })).xchgSend := by
  have hbusy : ¬(y.countReset.sf f = sfPermit ∨ y.countReset.sf f = sfOff ∨
      (y.countReset.sf f = sfReady ∧ y.countReset.sfType f = 3)) := by
    rw [h]
    simp [sfPermit, sfOff, ht]
  unfold State.functionReset
  exact (if_neg hbusy).trans (if_pos h)

end

section
variable {s : State} {l : LaneId} {d : Decided} {rest : List Decided}

theorem exec_safeResetChannel {n lanes : Nat} (h : (s.lane l).firstReady d (.safeReset 0 n lanes) rest) :
    exec (.safeResetChannel l) s = .next (s.setLane l
      ((s.channelReset l n d ((s.lane l).takes d (.safeReset 0 n lanes) rest)).settle)) := by
  change execSafeResetChannel l s = _
  rw [execSafeResetChannel, onLane, LaneSt.withDesc_first h rfl]

theorem exec_safeResetSafetyFunction {f : Nat} (hf : f < 16) (h : (s.lane l).firstReady d (.safeReset 1 f 0) rest) :
    exec (.safeResetSafetyFunction l) s = .next (s.setLane l
      ((s.functionReset l f d ((s.lane l).takes d (.safeReset 1 f 0) rest)).settle)) := by
  change execSafeResetSafetyFunction l s = _
  rw [execSafeResetSafetyFunction, onLane, LaneSt.withDesc_first h rfl]
  simp only [State.safetyReset, if_pos hf]
  rfl

end

/-- Settles O14: the descriptor is taken, and its effect has an equation for each state of the channel or function. -/
theorem channelModeAndResetsComplete : Obligations.ChannelModeAndResetsComplete := by
  unfold Obligations.ChannelModeAndResetsComplete
  refine ⟨fun s l d rest n r hr h => ?_, fun s l d rest n h => ?_, fun s l d rest n lanes h => ?_,
    fun s l d rest f hf h => ?_⟩
  · intro y c hdue hsetup hmode hdenied
    rcases hr with rfl | rfl
    · have hexec := exec_channelModeEnable h hdue
      refine ⟨fun hst => ?_, fun _ hr => absurd hr (by decide), fun hst _ => ?_⟩
      · rw [LaneSt.enable_disabled hsetup hmode hdenied hst] at hexec
        exact hexec
      · rw [LaneSt.enable_run_of_tune hsetup hmode hdenied hst] at hexec
        exact hexec
    · have hexec := exec_channelModeTune h hdue
      refine ⟨fun hst => ?_, fun hst _ => ?_, fun _ hr => absurd hr (by decide)⟩
      · rw [LaneSt.enable_disabled hsetup hmode hdenied hst] at hexec
        exact hexec
      · rw [LaneSt.enable_tune_of_run hsetup hmode hdenied hst] at hexec
        exact hexec
  · intro y hsetup hdue
    refine ⟨fun hst => ?_, fun hst => ?_⟩
    · rw [exec_channelModeDisable h hdue, LaneSt.disable_running hsetup hst]
    · rw [exec_channelModeDisable h hdue, LaneSt.disable_stopped hsetup hst]
  · intro y
    refine ⟨fun hst hsafe hgone => ?_, fun hst _ hcleared => ?_⟩
    · rw [exec_safeResetChannel h, State.channelReset_faulted hst hsafe hgone]
    · rw [exec_safeResetChannel h, State.channelReset_latched hst hcleared]
  · intro y
    refine ⟨fun hst => ?_, fun hst ht => ?_⟩
    · rw [exec_safeResetSafetyFunction hf h, State.functionReset_idle hst]
      rfl
    · rw [exec_safeResetSafetyFunction hf h, State.functionReset_ready hst ht]
      rfl

end Sys2Proof.Machine

/-!
SUPPORT. What the background services, the NVM and the telemetry do while they run.
-/

namespace Sys2Proof.Machine

open Sys2Proof

/-! ## Progress (R25) -/

section
variable {x : LaneSt}

section
variable (hbg : x.background = true)
include hbg

theorem LaneSt.bgLag_behind {a : Nat} (hc : x.bgComplete a = false) (hw : 5 * x.mem.work.getD a 0 < x.bgTotal a) :
    x.bgLag a =
      let y := x.wr MEM.STATUS.LAG (setBit (x.rd MEM.STATUS.LAG) a true)
      ((y.satInc 1 (MEM.BG.LAGS a)).fault 0x028 a).raise 14 2 := by
  have hdue : ¬(!x.background ∨ x.bgComplete a ∨ x.bgTotal a ≤ 5 * x.mem.work.getD a 0) := by
    simp [hbg, hc, hw]
  exact if_neg hdue

theorem LaneSt.bgStarved_running (a : Nat) :
    x.bgStarved a =
      let y := x.wr MEM.STATUS.STARVED (setBit (x.rd MEM.STATUS.STARVED) a true)
      let z := y.wr MEM.STATUS.LAG (setBit (y.rd MEM.STATUS.LAG) a false)
      if x.bgComplete a then x.setMem (fun m => { m with bgDone := setBit m.bgDone a false })
      else ((z.satInc 1 (MEM.BG.STARVED a)).fault 0x029 a).raise 14 2 := by
  unfold LaneSt.bgStarved
  exact if_neg (by simp [hbg])

/-! ## Scrubbing (R421, R422) -/

section
variable {bank : Nat} (hen : x.on MEM.CTRL.SCRUB_EN = true) (hskip : bit x.mem.scrubSkip bank = false)
include hen hskip

theorem LaneSt.scrub_runs : ¬(!x.background ∨ !x.on MEM.CTRL.SCRUB_EN ∨ bit x.mem.scrubSkip bank) := by
  simp [hbg, hen, hskip]

theorem LaneSt.scrub_alone (errs : Nat) :
    x.scrub bank errs none = (x.scrubWord.scrubRead bank errs (x.scrubKey bank)).scrubNext bank := by
  unfold LaneSt.scrub
  exact if_neg (LaneSt.scrub_runs hbg hen hskip)

theorem LaneSt.scrub_writeFirst (errs : Nat) (v : Dword) :
    x.scrub bank errs (some (true, v)) = (x.sramPut (x.scrubKey bank) v).scrubWord.scrubNext bank := by
  unfold LaneSt.scrub
  exact if_neg (LaneSt.scrub_runs hbg hen hskip)

theorem LaneSt.scrub_writeDuring (errs : Nat) (v : Dword) :
    x.scrub bank errs (some (false, v)) =
      ((x.scrubWord.scrubRead bank errs (x.scrubKey bank)).sramPut (x.scrubKey bank) v).scrubNext bank := by
  unfold LaneSt.scrub
  exact if_neg (LaneSt.scrub_runs hbg hen hskip)

end

/-! ## NVM (R423 to R425) -/

theorem LaneSt.nvmRefresh_running :
    x.nvmRefresh = (List.range 256).foldl (fun l b =>
      if (l.block b).use ≠ 0 then l
      else
        let n := (l.block b).reads + 256
        let l := l.setBlock b { l.block b with reads := n }
        if 10000 * l.rd MEM.NVM_CTRL.RD_LIMIT ≤ n then l.refreshBlock b else l) (x.bgWork 1 1) := by
  unfold LaneSt.nvmRefresh
  exact if_neg (by simp [hbg])

end

/-- The lane once the blocks that are due have been refreshed in a wear period. -/
def LaneSt.wearRefreshed (x : LaneSt) : LaneSt :=
  x.mem.nvmDue.foldl (fun l b => if (l.block b).use = 0 then l.refreshBlock b else l)
    ((x.bgWork 2 1).setMem (fun m => { m with nvmDue := [] }))

/-- The levelling step of a wear period, with the blocks it has picked. -/
def LaneSt.wearLevel (z : LaneSt) : Option Nat → Option Nat → Option Nat → LaneSt
  | some h, some b, some c =>
    if 10 * z.rd MEM.NVM_CTRL.WEAR_SPREAD < (z.block h).erases - (z.block b).erases
    then (z.moveBlock b c).satInc 1 MEM.NVM_COUNTS.MOVES else z
  | _, _, _ => z

theorem LaneSt.wearLevel_noFree (z : LaneSt) (h b : Option Nat) : z.wearLevel h b none = z := by
  cases h <;> cases b <;> rfl

section
variable (hbg : x.background = true)
include hbg

theorem LaneSt.nvmWear_running :
    x.nvmWear = x.wearRefreshed.wearLevel (x.wearRefreshed.pickBlock 0 (fun i j => decide (j < i)))
      (x.wearRefreshed.pickBlock 0 (fun i j => decide (i < j))) (x.wearRefreshed.pickBlock 1 (fun i j => decide (j < i))) := by
  unfold LaneSt.nvmWear
  exact if_neg (by simp [hbg])

theorem LaneSt.nvmWear_picked {h b c : Nat} (hh : x.wearRefreshed.pickBlock 0 (fun i j => decide (j < i)) = some h)
    (hb : x.wearRefreshed.pickBlock 0 (fun i j => decide (i < j)) = some b)
    (hc : x.wearRefreshed.pickBlock 1 (fun i j => decide (j < i)) = some c) :
    x.nvmWear = x.wearRefreshed.wearLevel (some h) (some b) (some c) := by
  rw [LaneSt.nvmWear_running hbg, hh, hb, hc]

theorem LaneSt.nvmWear_noFree (hc : x.wearRefreshed.pickBlock 1 (fun i j => decide (j < i)) = none) :
    x.nvmWear = x.wearRefreshed := by
  rw [LaneSt.nvmWear_running hbg, hc, LaneSt.wearLevel_noFree]

end

/-- A page read of a block in service, handled by the bits its code corrected. -/
theorem LaneSt.pageRead_used {b : Byte} (huse : (x.block b.toNat).use = 0) (n : Nat) (ok : Bool) :
    x.pageRead b.toNat n ok =
      let z := x.setBlock b.toNat { x.block b.toNat with reads := (x.block b.toNat).reads + 1 }
      let y := if n = 0 then z else z.fault 0x025 b.toNat
      if 8 < n then z.fault 0x027 b.toNat
      else if y.rd MEM.NVM_CTRL.CORR_TH ≤ n ∨ ok = false ∨ 20000 ≤ (x.block b.toNat).erases then y.retireBlock b.toNat (!ok)
      else if y.rd MEM.NVM_CTRL.REFRESH_TH ≤ n then
        y.setMem (fun m => { m with nvmDue := m.nvmDue.filter (· ≠ b.toNat) ++ [b.toNat] })
      else y := by
  have hmod : b.toNat % 256 = b.toNat := Nat.mod_eq_of_lt b.isLt
  unfold LaneSt.pageRead
  simp only [huse, hmod, Bool.not_eq_true', ne_eq, not_true_eq_false, if_false]

/-! ## Telemetry (R426, R427, R429) -/

theorem LaneSt.telSample_due (hbg : x.background = true) (hns : x.ns / 10 ^ 6 ≠ x.mem.sampledAt)
    (t g0 g1 : Int) (vin vgd vio : Nat) :
    x.telSample t g0 g1 vin vgd vio =
      (x.setMem (fun m => { m with sampledAt := x.ns / 10 ^ 6 })).telSampleNow t g0 g1 vin vgd vio := by
  have hdue : ¬(!x.background ∨ x.ns / 10 ^ 6 = x.mem.sampledAt) := not_or.mpr ⟨by simp [hbg], hns⟩
  exact if_neg hdue

theorem LaneSt.telSaveDue_elapsed (h : x.mem.savedAt + 600 * 10 ^ 9 ≤ x.run) :
    x.telSaveDue = (x.setMem (fun m => { m with savedAt := x.run })).telSave := if_neg (Nat.not_lt.mpr h)

/-- The lane with the present multiple of PERIOD noted as its last batch. -/
def LaneSt.noteBatch (x : LaneSt) : LaneSt := x.setMem (fun m => { m with batchAt := x.telMultiple })

theorem LaneSt.telBatch_due (hen : x.on MEM.CTRL.TG_EN = true) (hm : x.isMember = true)
    (hnew : x.telMultiple ≠ x.mem.batchAt) : x.telBatch = x.noteBatch.telBatchNow := by
  have hdue : ¬(!x.on MEM.CTRL.TG_EN ∨ !x.isMember ∨ x.telMultiple = x.mem.batchAt) := by
    simp [hen, hm, hnew]
  exact if_neg hdue

theorem LaneSt.telBatchNow_noLead (h : x.vote.lead = none) : x.telBatchNow = x.inc MEM.TG_SKIPPED.COUNT := by
  simp only [LaneSt.telBatchNow, h]

theorem LaneSt.telBatchNow_toLead {k : LaneId} (h : x.vote.lead = some k) (hk : k ≠ x.id) :
    x.telBatchNow = (x.setMem (fun m => { m with restored := false })).sendTo k 0x107 0 (wordsOf x.telBytes) := by
  simp only [LaneSt.telBatchNow, h]
  exact if_pos hk

theorem LaneSt.telBatchNow_ofLead (h : x.vote.lead = some x.id) :
    x.telBatchNow =
      let y := x.setMem (fun m => { m with restored := false })
      (y.setMem (fun m => { m with batch := some ⟨y.stamp64, y.members⟩
                                   copies := m.copies.set y.id.fin (some x.telBytes) })).telSettle := by
  simp only [LaneSt.telBatchNow, h]
  exact if_neg (fun hne => hne rfl)

end

section
variable (s : State) (l : LaneId)

theorem exec_backgroundLag (a : Fin 8) :
    exec (.backgroundLag l a) s = .next (s.setLane l ((s.lane l).bgLag a.val)) := rfl

theorem exec_backgroundStarved (a : Fin 8) :
    exec (.backgroundStarved l a) s = .next (s.setLane l ((s.lane l).bgStarved a.val)) := rfl

theorem exec_sramScrub (bank : Fin 9) (e : Fin 3) (w : Option (Bool × Dword)) :
    exec (.sramScrub l bank ⟨e, w⟩) s = .next (s.setLane l ((s.lane l).scrub bank.val e.val w)) := rfl

theorem exec_nvmRefresh : exec (.nvmRefresh l) s = .next (s.setLane l (s.lane l).nvmRefresh) := rfl

theorem exec_nvmWear : exec (.nvmWear l) s = .next (s.setLane l (s.lane l).nvmWear) := rfl

theorem exec_nvmPageRead (b : Byte) (n : Nat) (ok : Bool) :
    exec (.nvmPageRead l b n ok) s = .next (s.setLane l ((s.lane l).pageRead b.toNat n ok)) := rfl

theorem exec_telemetrySample (t g0 g1 : Int) (vin vgd vio : Nat) :
    exec (.telemetrySample l t g0 g1 vin vgd vio) s =
      .next (s.setLane l ((s.lane l).telSample t g0 g1 vin vgd vio)) := rfl

theorem exec_telemetrySave : exec (.telemetrySave l) s = .next (s.setLane l (s.lane l).telSaveDue) := rfl

theorem exec_telemetryBatch : exec (.telemetryBatch l) s = .next (s.setLane l (s.lane l).telBatch) := rfl

theorem exec_bulkTelemetryCopy {s : State} {l : LaneId} {src : Arrival} (h : (s.lane l).accepts src = true)
    (bs : List Byte) :
    exec (.bulkTelemetryCopy l src bs) s = .next (s.setLane l
      ((((s.lane l).heard src (frameCount bs)).setMem (fun m =>
        { m with copies := m.copies.set src.lane.fin (some bs) })).telSettle)) :=
  onReceiveN_heard (f := fun x => (x.setMem (fun m => { m with copies := m.copies.set src.lane.fin (some bs) })).telSettle) h

end

/-- Settles O55: each service has its equation for the case that it is due. -/
theorem backgroundEventsComplete : Obligations.BackgroundEventsComplete := by
  unfold Obligations.BackgroundEventsComplete
  refine ⟨fun s l hbg => ⟨fun a hc hw => ?_, fun a => ?_, fun bank hen hskip => ?_, ?_, ⟨?_, ?_⟩, ?_⟩, ?_, ?_, ?_⟩
  · rw [exec_backgroundLag, LaneSt.bgLag_behind hbg hc hw]
  · rw [exec_backgroundStarved, LaneSt.bgStarved_running hbg]
  · intro key put bad read next e
    refine ⟨?_, fun v => ⟨?_, ?_⟩⟩
    · rw [exec_sramScrub, LaneSt.scrub_alone hbg hen hskip]
      rfl
    · rw [exec_sramScrub, LaneSt.scrub_writeFirst hbg hen hskip]
      rfl
    · rw [exec_sramScrub, LaneSt.scrub_writeDuring hbg hen hskip]
      rfl
  · rw [exec_nvmRefresh, LaneSt.nvmRefresh_running hbg]
  · intro h b c hh hb hc
    rw [exec_nvmWear, LaneSt.nvmWear_picked hbg hh hb hc]
    rfl
  · intro hc
    rw [exec_nvmWear, LaneSt.nvmWear_noFree hbg hc]
    rfl
  · intro t g0 g1 vin vgd vio hns
    rw [exec_telemetrySample, LaneSt.telSample_due hbg hns]
    rfl
  · intro s l b n ok huse
    rw [exec_nvmPageRead, LaneSt.pageRead_used huse]
  · intro s l
    refine ⟨fun h => ?_, fun hen hm hnew => ⟨fun hlead => ?_, fun k hlead hk => ?_, fun hlead => ?_⟩⟩
    · rw [exec_telemetrySave, LaneSt.telSaveDue_elapsed h]
      rfl
    · rw [exec_telemetryBatch, LaneSt.telBatch_due hen hm hnew,
        LaneSt.telBatchNow_noLead (x := (s.lane l).noteBatch) hlead]
      rfl
    · rw [exec_telemetryBatch, LaneSt.telBatch_due hen hm hnew,
        LaneSt.telBatchNow_toLead (x := (s.lane l).noteBatch) hlead hk]
      rfl
    · rw [exec_telemetryBatch, LaneSt.telBatch_due hen hm hnew,
        LaneSt.telBatchNow_ofLead (x := (s.lane l).noteBatch) hlead]
      rfl
  · intro s l src bs hacc
    exact exec_bulkTelemetryCopy hacc bs

end Sys2Proof.Machine

/-!
SUPPORT. What the write of HIF.CTRL that sets EN does.
-/

namespace Sys2Proof.Machine

open Sys2Proof

/-! ## The write of HIF.CTRL (R31, R62) -/

/-- Every named bit of HIF.CTRL is writable, and no other. -/
theorem regRow_hifCtrl : ∃ r, regRow 0x3000 = some r ∧ r.rws = 0xFF := ⟨_, rfl, rfl⟩

/-- HIF.CTRL after a write of `v`: its eight low bits are taken over. -/
def LaneSt.ctrlWord (x : LaneSt) (v : Word) : Word := (x.word 0x3000 &&& ~~~(0xFF : Word)) ||| (v &&& 0xFF)

theorem LaneSt.ctrlWord_low (x : LaneSt) (v : Word) : (x.ctrlWord v).toNat % 2 ^ 8 = v.toNat % 2 ^ 8 := by
  have hlow : (x.ctrlWord v).setWidth 8 = v.setWidth 8 := by
    have hcleared : (~~~(0xFF : Word)).setWidth 8 = 0#8 := by decide
    have htaken : (0xFF : Word).setWidth 8 = BitVec.allOnes 8 := by decide
    rw [LaneSt.ctrlWord, BitVec.setWidth_or, BitVec.setWidth_and, BitVec.setWidth_and, hcleared, htaken,
      BitVec.and_zero, BitVec.zero_or, BitVec.and_allOnes]
  simpa using congrArg BitVec.toNat hlow

theorem LaneSt.ctrlWrite_rising {x : LaneSt} {v : Word} (hs : x.sealed = false) (hen : x.on HIF.CTRL.EN = false)
    (hv : v.toNat % 2 = 1) : x.ctrlWrite v = (x.setWord 0x3000 (x.ctrlWord v)).setPoll.clearGalleys := by
  obtain ⟨r, hr, hrws⟩ := regRow_hifCtrl
  have hbit : bit v.toNat 0 = true := by simp [bit, hv]
  simp only [LaneSt.ctrlWrite, hs, hen, hbit, LaneSt.setupWrite_unlocked hr (.inl hen) hs, hrws]
  rfl

/-! ## The poll period (R44) -/

section
variable {x : LaneSt} (h : x.regsWf)
include h

theorem LaneSt.rd_ctrlWritten {v : Word} {f : Field} (hoff : f.off = 0x3000) (hw : f.lo + f.width ≤ 8) :
    (x.setWord 0x3000 (x.ctrlWord v)).rd f = v.toNat / 2 ^ f.lo % 2 ^ f.width := by
  have hlow : ∀ n : Nat, n / 2 ^ f.lo % 2 ^ f.width = n % 2 ^ 8 / 2 ^ f.lo % 2 ^ f.width := by
    intro n
    obtain ⟨k, hk⟩ : ∃ k, 8 = f.lo + (f.width + k) := ⟨8 - (f.lo + f.width), by omega⟩
    rw [hk, Nat.pow_add, Nat.mod_mul_right_div_self, Nat.pow_add, Nat.mod_mul_right_mod]
  have h64 : f.width ≠ 64 := by omega
  rw [LaneSt.rd, if_neg h64, hoff, LaneSt.word_setWord_same h, getField, hlow, LaneSt.ctrlWord_low, ← hlow]

theorem LaneSt.regsWf_setPoll : x.setPoll.regsWf := LaneSt.regsWf_wr (LaneSt.regsWf_wr h _ _) _ _

theorem LaneSt.rd_setPoll_pollEff :
    x.setPoll.rd HIF.STATUS.POLL_EFF = max (x.rd HIF.CTRL.POLL) (minPoll x.hif.link) := by
  have hpoll : x.rd HIF.CTRL.POLL < 2 ^ 7 := Nat.mod_lt _ (by decide)
  have hmin : minPoll x.hif.link < 2 ^ 7 := by
    unfold minPoll
    split <;> decide
  have hother := LaneSt.rd_wr_disjoint (LaneSt.regsWf_wr h HIF.STATUS.POLL_EFF (max (x.rd HIF.CTRL.POLL) (minPoll x.hif.link)))
    (f := HIF.STATUS.POLL_CLAMPED) (g := HIF.STATUS.POLL_EFF) rfl (by decide) (by decide) (.inr (by decide))
  have hsame := LaneSt.rd_wr_same h (f := HIF.STATUS.POLL_EFF) (by decide) (max (x.rd HIF.CTRL.POLL) (minPoll x.hif.link))
  exact (hother _).trans (hsame.trans (Nat.mod_eq_of_lt (max_lt hpoll hmin)))

theorem LaneSt.rd_setPoll_pollClamped :
    x.setPoll.rd HIF.STATUS.POLL_CLAMPED = b2n (decide (x.rd HIF.CTRL.POLL < minPoll x.hif.link)) := by
  have hsame := LaneSt.rd_wr_same (LaneSt.regsWf_wr h HIF.STATUS.POLL_EFF (max (x.rd HIF.CTRL.POLL) (minPoll x.hif.link)))
    (f := HIF.STATUS.POLL_CLAMPED) (by decide) (b2n (decide (x.rd HIF.CTRL.POLL < minPoll x.hif.link)))
  have hlt : ∀ b, b2n b < 2 ^ 1 := by decide
  exact hsame.trans (Nat.mod_eq_of_lt (hlt _))

end

theorem LaneSt.word_setPoll_ne (x : LaneSt) {o : Nat} (ho : o ≠ 0x3004) : x.setPoll.word o = x.word o :=
  (LaneSt.word_wr_ne _ ho (by decide) _).trans (LaneSt.word_wr_ne _ ho (by decide) _)

/-! ## The galley counters (R62) -/

/-- A field that is one whole word, as the counters are, is no register pair. -/
theorem wholeWord_notPair : (32 : Nat) ≠ 64 := by decide

/-- Such a field lies in its word. -/
theorem wholeWord_fits : 0 + 32 ≤ 32 := Nat.le_refl _

/-- The counters of the first `k` galleys cleared. -/
def LaneSt.clearCounts (x : LaneSt) (k : Nat) : LaneSt :=
  (List.range k).foldl (fun l n => (l.wr (HIF.SG_CONSUMED.COUNT n) 0).wr (HIF.CG_WRITTEN.COUNT n) 0) x

theorem LaneSt.clearCounts_succ (x : LaneSt) (k : Nat) :
    x.clearCounts (k + 1) = ((x.clearCounts k).wr (HIF.SG_CONSUMED.COUNT k) 0).wr (HIF.CG_WRITTEN.COUNT k) 0 := by
  simp [LaneSt.clearCounts, List.range_succ]

/-- What the galleys hold once they start over. -/
def HifSt.clearedGalleys (h : HifSt) : HifSt :=
  { h with
    sgTail := Vector.replicate 16 0, fetched := Vector.replicate 16 0, cgHead := Vector.replicate 16 0,
    cgReserved := Vector.replicate 16 0, openD := [], reads := [], copies := [], exec := [], staged := [],
    written := [], peerWritten := Vector.replicate 16 0 }

theorem LaneSt.clearGalleys_eq (x : LaneSt) :
    x.clearGalleys = { x.clearCounts 16 with hif := (x.clearCounts 16).hif.clearedGalleys } := rfl

theorem LaneSt.word_withHif (x : LaneSt) (h : HifSt) (o : Nat) : ({ x with hif := h } : LaneSt).word o = x.word o := rfl

theorem LaneSt.word_clearGalleys (x : LaneSt) (o : Nat) : x.clearGalleys.word o = (x.clearCounts 16).word o := by
  rw [LaneSt.clearGalleys_eq, LaneSt.word_withHif]

/-- Clearing the galleys leaves the registers as clearing the sixteen pairs of counters does. -/
theorem LaneSt.rd_clearGalleys (x : LaneSt) (f : Field) : x.clearGalleys.rd f = (x.clearCounts 16).rd f := by
  rw [LaneSt.rd, LaneSt.rd, LaneSt.word_clearGalleys, LaneSt.word_clearGalleys]

theorem LaneSt.regsWf_clearCounts {x : LaneSt} (h : x.regsWf) : ∀ k, (x.clearCounts k).regsWf
  | 0 => h
  | k + 1 => by
    rw [LaneSt.clearCounts_succ]
    exact LaneSt.regsWf_wr (LaneSt.regsWf_wr (LaneSt.regsWf_clearCounts h k) _ _) _ _

/-- Words outside the counters of the galleys stay. -/
theorem LaneSt.word_clearCounts_outside (x : LaneSt) {o : Nat} (ho : o < 0x3300 ∨ 0x3380 ≤ o) :
    ∀ {k : Nat}, k ≤ 16 → (x.clearCounts k).word o = x.word o
  | 0, _ => rfl
  | k + 1, hk => by
    have hsg : o ≠ 0x3300 + 4 * k := by omega
    have hcg : o ≠ 0x3340 + 4 * k := by omega
    rw [LaneSt.clearCounts_succ, LaneSt.word_wr_ne _ hcg wholeWord_notPair, LaneSt.word_wr_ne _ hsg wholeWord_notPair,
      LaneSt.word_clearCounts_outside x ho (by omega)]

theorem LaneSt.rd_clearGalleys_below (x : LaneSt) {f : Field} (ho : f.off < 0x3300) (hw : f.width ≠ 64) :
    x.clearGalleys.rd f = x.rd f := by
  rw [LaneSt.rd_clearGalleys, LaneSt.rd, LaneSt.rd, if_neg hw, if_neg hw, LaneSt.word_clearCounts_outside x (.inl ho) (Nat.le_refl _)]

theorem LaneSt.rd_clearCounts_consumed {x : LaneSt} (h : x.regsWf) {n : Nat} :
    ∀ {k : Nat}, k ≤ 16 → n < k → (x.clearCounts k).rd (HIF.SG_CONSUMED.COUNT n) = 0
  | k + 1, hk, hn => by
    have hcg : 0x3300 + 4 * n ≠ 0x3340 + 4 * k := by omega
    rw [LaneSt.clearCounts_succ, LaneSt.rd_wr_ne _ hcg wholeWord_notPair wholeWord_notPair]
    by_cases hnk : n = k
    · subst hnk
      exact LaneSt.rd_wr_same (LaneSt.regsWf_clearCounts h n) wholeWord_fits 0
    · have hsg : 0x3300 + 4 * n ≠ 0x3300 + 4 * k := by omega
      rw [LaneSt.rd_wr_ne _ hsg wholeWord_notPair wholeWord_notPair, LaneSt.rd_clearCounts_consumed h (by omega) (by omega)]

theorem LaneSt.rd_clearCounts_written {x : LaneSt} (h : x.regsWf) {n : Nat} :
    ∀ {k : Nat}, k ≤ 16 → n < k → (x.clearCounts k).rd (HIF.CG_WRITTEN.COUNT n) = 0
  | k + 1, hk, hn => by
    rw [LaneSt.clearCounts_succ]
    by_cases hnk : n = k
    · subst hnk
      exact LaneSt.rd_wr_same (LaneSt.regsWf_wr (LaneSt.regsWf_clearCounts h n) _ _) wholeWord_fits 0
    · have hcg : 0x3340 + 4 * n ≠ 0x3340 + 4 * k := by omega
      have hsg : 0x3340 + 4 * n ≠ 0x3300 + 4 * k := by omega
      rw [LaneSt.rd_wr_ne _ hcg wholeWord_notPair wholeWord_notPair, LaneSt.rd_wr_ne _ hsg wholeWord_notPair wholeWord_notPair,
        LaneSt.rd_clearCounts_written h (by omega) (by omega)]

/-- Settles O7: the write sets HIF.CTRL, then the poll period, then clears the counters, and each step leaves the words of
the steps before it. -/
theorem hifEnableClearsGalleyCounters : Obligations.HifEnableClearsGalleyCounters := by
  unfold Obligations.HifEnableClearsGalleyCounters
  intro s l v hs ha hsealed hen hv
  have hwf : (s.lane l).regsWf := regsWf_of_canon (hs l)
  let w := (s.lane l).setWord 0x3000 ((s.lane l).ctrlWord v)
  have hwfw : w.regsWf := LaneSt.regsWf_setWord hwf _ _
  have hpollw : w.rd HIF.CTRL.POLL = v.toNat / 2 % 2 ^ 7 := LaneSt.rd_ctrlWritten hwf rfl (by decide)
  have hctrl : ∀ f : Field, f.off = 0x3000 → f.width ≠ 64 → w.setPoll.clearGalleys.rd f = w.rd f := by
    intro f hf hw
    rw [LaneSt.rd_clearGalleys_below _ (by omega) hw, LaneSt.rd, LaneSt.rd, if_neg hw, if_neg hw,
      LaneSt.word_setPoll_ne _ (by omega)]
  have hwfp := LaneSt.regsWf_setPoll hwfw
  refine ⟨w.setPoll.clearGalleys, ?_, ?_, ?_, ?_, ?_, fun n hn => ⟨?_, ?_⟩, fun off h0 h4 hoff => ?_,
    rfl, rfl, rfl, rfl, rfl, rfl⟩
  · rw [exec_hifEnable ha, LaneSt.ctrlWrite_rising hsealed hen hv]
  · have henw : w.rd HIF.CTRL.EN = v.toNat / 2 ^ 0 % 2 ^ 1 := LaneSt.rd_ctrlWritten hwf rfl (by decide)
    rw [hctrl _ rfl (by decide), henw]
    simpa using hv
  · rw [hctrl _ rfl (by decide), hpollw]
  · rw [LaneSt.rd_clearGalleys_below _ (by decide) (by decide), LaneSt.rd_setPoll_pollEff hwfw, hpollw]
    rfl
  · rw [LaneSt.rd_clearGalleys_below _ (by decide) (by decide), LaneSt.rd_setPoll_pollClamped hwfw, hpollw]
    rfl
  · rw [LaneSt.rd_clearGalleys, LaneSt.rd_clearCounts_consumed hwfp (Nat.le_refl _) hn]
  · rw [LaneSt.rd_clearGalleys, LaneSt.rd_clearCounts_written hwfp (Nat.le_refl _) hn]
  · rw [LaneSt.word_clearGalleys, LaneSt.word_clearCounts_outside _ hoff (Nat.le_refl _), LaneSt.word_setPoll_ne _ h4,
      LaneSt.word_setWord_ne _ h0]

end Sys2Proof.Machine

/-!
SUPPORT. The order of the permission checks of SETPOINT and LIMITS, and what an accepted change does.
-/

namespace Sys2Proof.Machine

open Sys2Proof

/-! ## Permission checks (R50, R51, R65) -/

@[simp] theorem firstDenied_none (checks : List (Option (Nat × Nat))) : firstDenied (none :: checks) = firstDenied checks := rfl

@[simp] theorem firstDenied_some (r : Nat × Nat) (checks : List (Option (Nat × Nat))) : firstDenied (some r :: checks) = some r := rfl

/-- With a failing permission check the descriptor completes DENIED, and the effect does not run. -/
theorem LaneSt.permitted_denied (x : LaneSt) (d : Decided) {checks : List (Option (Nat × Nat))} {code arg : Nat}
    (h : firstDenied checks = some (code, arg)) (f : LaneSt → LaneSt) : x.permitted d checks f = x.deny d code arg := by
  rw [LaneSt.permitted, h]

section
variable {y : LaneSt}

theorem LaneSt.permSetup_unsealed (h : y.unsealedMembers ≠ 0) : y.permSetup = some (0x05, y.unsealedMembers) := if_pos h

theorem LaneSt.permSetup_differs (h : y.unsealedMembers = 0) (hd : y.on HIF.STATUS.SETUP_DIFFERS = true) :
    y.permSetup = some (0x06, y.differingMembers) := (if_neg (not_not.mpr h)).trans (if_pos hd)

theorem LaneSt.permSetup_agreed (h : y.unsealedMembers = 0) (hd : y.on HIF.STATUS.SETUP_DIFFERS = false) :
    y.permSetup = none := (if_neg (not_not.mpr h)).trans (if_neg (by simp [hd]))

theorem LaneSt.permMode_soloOrSafe (h : 2 ≤ y.mode) : y.permMode = some (0x08, y.mode) := if_pos h

theorem LaneSt.permMode_tripleOrDuplex (h : y.mode < 2) : y.permMode = none := if_neg (Nat.not_le.mpr h)

end

/-! ## SETPOINT (R121, R125, R126, R132) -/

/-- The generator that a SETPOINT of channel `n` is for: a torque target has its own. -/
abbrev setpointGen (n kind : Nat) : Nat := if kind = 2 then 2 * n + 1 else 2 * n

/-- The permission checks of SETPOINT in their order. -/
def LaneSt.setpointChecks (y : LaneSt) (n kind : Nat) (timed : Bool) (x : Int) : List (Option (Nat × Nat)) :=
  [y.permSetup, y.permMode, y.motionDenied n true, if timed then y.permTime else none,
    y.kindDenied (setpointGen n kind) kind, y.targetBlocked (setpointGen n kind) y.replanNs kind x]

section
variable {y : LaneSt} {n kind : Nat} {timed : Bool} {x : Int}

theorem LaneSt.setpoint_inRange (h : y.targetRejected (setpointGen n kind) kind x = none) (d : Decided)
    (sec ns : Nat) :
    y.setpoint d n kind timed x sec ns = y.permitted d (y.setpointChecks n kind timed x)
      (fun y => y.acceptAct d (setpointGen n kind) timed (time80 sec ns) (.target d.tag kind x)) := by
  simp only [LaneSt.setpoint, h]
  rfl

theorem LaneSt.setpoint_denied {code arg : Nat}
    (h : y.targetRejected (setpointGen n kind) kind x = none)
    (hden : firstDenied (y.setpointChecks n kind timed x) = some (code, arg)) (d : Decided) (sec ns : Nat) :
    y.setpoint d n kind timed x sec ns = y.deny d code arg := by
  rw [LaneSt.setpoint_inRange h, LaneSt.permitted_denied y d hden]

end

theorem exec_setpoint {s : State} {l : LaneId} {d : Decided} {rest : List Decided} {n kind : Nat} {timed : Bool} {x : Int}
    {sec ns : Nat} (h : (s.lane l).firstReady d (.setpoint n kind timed x sec ns) rest) :
    exec (.setpoint l) s = .next (s.setLane l
      ((((s.lane l).takes d (.setpoint n kind timed x sec ns) rest).setpoint d n kind timed x sec ns).settle)) := by
  change execSetpoint l s = _
  rw [execSetpoint, onLane, LaneSt.withDesc_first h rfl]

/-- SETPOINT with its target in range and a failing permission check. -/
theorem exec_setpoint_denied {s : State} {l : LaneId} {d : Decided} {rest : List Decided} {n kind : Nat} {timed : Bool}
    {x : Int} {sec ns code arg : Nat} {y : LaneSt} (h : (s.lane l).firstReady d (.setpoint n kind timed x sec ns) rest)
    (hy : (s.lane l).takes d (.setpoint n kind timed x sec ns) rest = y)
    (hrange : y.targetRejected (setpointGen n kind) kind x = none)
    (hden : firstDenied (y.setpointChecks n kind timed x) = some (code, arg)) :
    exec (.setpoint l) s = .next (s.setLane l ((y.deny d code arg).settle)) := by
  subst hy
  rw [exec_setpoint h, LaneSt.setpoint_denied hrange hden]

/-- Settles O13: a failing check is the first of the list once those before it pass. -/
theorem motionDescriptorDeniedByFirstCheck : Obligations.MotionDescriptorDeniedByFirstCheck := by
  unfold Obligations.MotionDescriptorDeniedByFirstCheck
  intro s l d rest n kind timed x sec ns h y g hrange
  refine ⟨fun hu => exec_setpoint_denied h rfl hrange ?_, fun hu hd => exec_setpoint_denied h rfl hrange ?_,
    fun hu hd hm => exec_setpoint_denied h rfl hrange ?_, fun code arg hu hd hm hden => exec_setpoint_denied h rfl hrange ?_⟩
  · simp [LaneSt.setpointChecks, LaneSt.permSetup_unsealed hu]
  · simp [LaneSt.setpointChecks, LaneSt.permSetup_differs hu hd]
  · simp [LaneSt.setpointChecks, LaneSt.permSetup_agreed hu hd, LaneSt.permMode_soloOrSafe hm]
  · simp [LaneSt.setpointChecks, LaneSt.permSetup_agreed hu hd, LaneSt.permMode_tripleOrDuplex hm, hden]

/-! ## Accepted changes (R126, R130) -/

/-- What the plan computed in advance for a change at the next replan instant gives (R132). -/
def LaneSt.planAhead (y : LaneSt) (g : Nat) (act : ProfAct) : PlanInfo :=
  let due := (y.dueList g y.replanNs).filter (fun q => !(⟨y.replanNs, false, act⟩ : Due).before q)
  ((y.applyAll g due.length due).applyAct g y.replanNs act).2

/-- A change waits for the next replan instant. -/
def LaneSt.awaitReplan (y : LaneSt) (g : Nat) (act : ProfAct) : LaneSt :=
  y.setPg g (fun q => { q with reqs := q.reqs ++ [(y.replanNs, act)] })

section
variable {y : LaneSt} {g : Nat}

theorem LaneSt.acceptAct_target (d : Decided) (at' tag kind : Nat) (x : Int) :
    y.acceptAct d g false at' (.target tag kind x) =
      (y.awaitReplan g (.target tag kind x)).complete d 0 (y.planAhead g (.target tag kind x)).detail
        (y.planAhead g (.target tag kind x)).ns := rfl

theorem LaneSt.acceptAct_limits (d : Decided) (at' mask vmax amax jmax tmax speed : Nat) :
    y.acceptAct d g false at' (.limits mask vmax amax jmax tmax speed) =
      (y.awaitReplan g (.limits mask vmax amax jmax tmax speed)).complete d 0
        (b2n (y.planAhead g (.limits mask vmax amax jmax tmax speed)).reduce) 0 := rfl

/-- A TIMED change whose AT is not before the replan instant, with room in the queue. -/
theorem LaneSt.acceptAct_timed {at' k : Nat} {act : ProfAct} {z : LaneSt} {repl : Bool} (hat : y.replanNs ≤ at')
    (hq : y.enqueue g ((at' + 999) / 1000 * 1000) act = some (z, k, repl)) (d : Decided) :
    y.acceptAct d g true at' act = z.complete d 6 (k + 16 * b2n repl) 0 := by
  unfold LaneSt.acceptAct
  simp only [hat, hq]
  rfl

end

/-- SETPOINT with its target in range and every check passed. -/
theorem LaneSt.setpoint_granted {y : LaneSt} {n kind : Nat} {timed : Bool} {x : Int}
    (h : y.targetRejected (setpointGen n kind) kind x = none)
    (hall : ∀ c ∈ y.setpointChecks n kind timed x, c = none) (d : Decided) (sec ns : Nat) :
    y.setpoint d n kind timed x sec ns =
      y.acceptAct d (setpointGen n kind) timed (time80 sec ns) (.target d.tag kind x) := by
  rw [LaneSt.setpoint_inRange h, LaneSt.permitted_granted y d hall]

/-! ## LIMITS (R122, R178, R481) -/

/-- LIMITS with every field in range and every check passed. -/
theorem LaneSt.limits_granted {y : LaneSt} {n mask vmax amax jmax tmax speed : Nat} {timed : Bool}
    (hrange : y.limitBad n mask vmax amax jmax tmax speed = none)
    (hall : ∀ c ∈ [y.permSetup, y.permMode, y.motionDenied n false, if timed then y.permTime else none], c = none)
    (d : Decided) (sec ns : Nat) :
    y.limits d n mask timed vmax amax jmax tmax speed sec ns =
      y.acceptAct d (2 * n) timed (time80 sec ns) (.limits mask vmax amax jmax tmax speed) := by
  simp only [LaneSt.limits, hrange]
  exact LaneSt.permitted_granted y d hall _

section
variable {s : State} {l : LaneId} {d : Decided} {rest : List Decided}

theorem exec_nop (h : (s.lane l).firstReady d .nop rest) :
    exec (.nop l) s = .next (s.setLane l ((((s.lane l).takes d .nop rest).complete d 0 0 0).settle)) := by
  change execNop l s = _
  rw [execNop, onLane, LaneSt.withDesc_first h rfl]
  rfl

theorem exec_limits {n mask vmax amax jmax tmax speed sec ns : Nat} {timed : Bool}
    (h : (s.lane l).firstReady d (.limits n mask timed vmax amax jmax tmax speed sec ns) rest) :
    exec (.limits l) s = .next (s.setLane l
      ((((s.lane l).takes d (.limits n mask timed vmax amax jmax tmax speed sec ns) rest).limits d n mask timed vmax amax jmax
        tmax speed sec ns).settle)) := by
  change execLimits l s = _
  rw [execLimits, onLane, LaneSt.withDesc_first h rfl]

end

/-! ## PARAM_READ (R48, R52, R376) -/

/-- The lane whose register a PARAM_READ names: LANE 3 is the lead. -/
def LaneSt.readTarget (y : LaneSt) (lane : Nat) : LaneId := if lane = 3 then y.vote.lead.getD y.id else LaneId.ofNum lane

/-- The lane `y` once it has completed a PARAM_READ of lane `t`; it gives up the first-error latch it has read of itself. -/
def State.readDone (s : State) (t : LaneId) (d : Decided) (off width : Nat) (y : LaneSt) : LaneSt :=
  let z := y.complete d 0 0 ((s.lane t).regRead off + (if width = 1 then 2 ^ 32 * (s.lane t).regRead (off + 4) else 0))
  if t = z.id ∧ 0x51C0 ≤ off ∧ off < 0x5320 ∧ off % 16 = 8 then z.firstRead ((off - 0x51C0) / 16) else z

theorem exec_paramRead {s : State} {l : LaneId} {d : Decided} {rest : List Decided} {off width lane : Nat}
    (h : (s.lane l).firstReady d (.paramRead off width lane) rest) :
    let y := (s.lane l).takes d (.paramRead off width lane) rest
    let t := y.readTarget lane
    exec (.paramRead l) s = .next (s.setLane l
      (if !bit y.members t.num then y.deny d 0x0C (2 ^ t.num) else s.readDone t d off width y).settle) := by
  change Host.Outcome.next (paramRead l s) = _
  rw [paramRead, LaneSt.withDesc_first h rfl]
  rfl

/-- PARAM_READ of a member. -/
theorem exec_paramRead_member {s : State} {l : LaneId} {d : Decided} {rest : List Decided} {off width lane : Nat} {y : LaneSt}
    (h : (s.lane l).firstReady d (.paramRead off width lane) rest) (hy : (s.lane l).takes d (.paramRead off width lane) rest = y)
    (hmember : bit y.members (y.readTarget lane).num = true) :
    exec (.paramRead l) s = .next (s.setLane l ((s.readDone (y.readTarget lane) d off width y).settle)) := by
  subst hy
  rw [exec_paramRead h, hmember]
  rfl

/-- Settles O12: the descriptor is taken and its checks pass, which leaves the equation of its effect. -/
theorem motionDescriptorsComplete : Obligations.MotionDescriptorsComplete := by
  unfold Obligations.MotionDescriptorsComplete
  refine ⟨fun s l d rest h => exec_nop h, fun s l d rest off width lane h => ?_, fun s l d rest n kind x sec ns h => ?_,
    fun s l d rest n kind x sec ns z k repl h => ?_, fun s l d rest n mask vmax amax jmax tmax speed sec ns h => ?_,
    fun s l d rest n mask vmax amax jmax tmax speed sec ns z k repl h => ?_⟩
  · intro y t v z hmember
    rw [exec_paramRead_member h rfl hmember, State.readDone, apply_ite LaneSt.settle]
    rfl
  · intro y g act due r hrange hsetup hmode hmotion hkind hblocked
    have hall : ∀ c ∈ y.setpointChecks n kind false x, c = none := by
      simp [LaneSt.setpointChecks, hsetup, hmode, hmotion, hkind, hblocked, g]
    rw [exec_setpoint h, LaneSt.setpoint_granted hrange hall, LaneSt.acceptAct_target]
    rfl
  · intro y g hrange hsetup hmode hmotion htime hkind hblocked hat hq
    have hall : ∀ c ∈ y.setpointChecks n kind true x, c = none := by
      simp [LaneSt.setpointChecks, hsetup, hmode, hmotion, htime, hkind, hblocked, g]
    rw [exec_setpoint h, LaneSt.setpoint_granted hrange hall, LaneSt.acceptAct_timed hat hq]
  · intro y act due r hrange hsetup hmode hmotion
    rw [exec_limits h, LaneSt.limits_granted hrange (by simp [y, hsetup, hmode, hmotion]), LaneSt.acceptAct_limits]
    rfl
  · intro y hrange hsetup hmode hmotion htime hat hq
    rw [exec_limits h, LaneSt.limits_granted hrange (by simp [hsetup, hmode, hmotion, htime]), LaneSt.acceptAct_timed hat hq]

end Sys2Proof.Machine

namespace Sys2Proof.Tests

open Sys2Proof Sys2Proof.Machine

/-- A TIMED LIMITS of channel 0. -/
def limTimed : DescOp := .limits 0 1 true 1000 0 0 0 0 1 0

/-- A state that meets the hypotheses of the TIMED LIMITS clause of O12. -/
theorem wit_LimitsTimed :
    ((sd limTimed (ch0 2 ++ [(TIME.STATUS.FORM, 1)]) id).lane .A).firstReady (dd limTimed) limTimed [] ∧
    (let y := took limTimed (ch0 2 ++ [(TIME.STATUS.FORM, 1)]) id
     y.limitBad 0 1 1000 0 0 0 0 = none ∧ y.permSetup = none ∧ y.permMode = none ∧ y.motionDenied 0 false = none ∧
       y.permTime = none ∧ y.replanNs ≤ time80 1 0 ∧
       (y.enqueue 0 ((time80 1 0 + 999) / 1000 * 1000) (.limits 1 1000 0 0 0 0)).isSome = true) :=
  ⟨ready_sd (by decide +kernel), by decide +kernel⟩

end Sys2Proof.Tests

/-!
SUPPORT. What a poll, a probe, a fetch and the records of the peers about the galleys do.
-/

namespace Sys2Proof.Machine

open Sys2Proof

/-! ## Polls and probes (R39, R40, R44, R444) -/

section
variable {s : State} {l : LaneId}

theorem exec_doorbellPoll (hen : (s.lane l).on HIF.CTRL.EN = true) (hup : (s.lane l).on HIF.STATUS.LINK_UP = true)
    (hnap : (s.lane l).rd PWR.STATUS.STATE ≠ 3) (page : Option (List Byte)) :
    exec (.doorbellPoll l page) s = .next (s.setLane l ((s.lane l).poll page)) := by
  have hrun : ((s.lane l).on HIF.CTRL.EN && (s.lane l).on HIF.STATUS.LINK_UP && (s.lane l).rd PWR.STATUS.STATE != 3) = true := by
    simp [hen, hup, hnap]
  change execDoorbellPoll l page s = _
  rw [execDoorbellPoll, onLane, if_pos hrun]

theorem exec_linkProbe (s : State) (l : LaneId) (trained : Fin 4) (page : Option (List Byte)) :
    exec (.linkProbe l trained page) s = .next (s.setLane l ((s.lane l).probe trained.val page)) := rfl

end

theorem LaneSt.probe_failed (x : LaneSt) (trained : Nat) : x.probe trained none = x := by
  unfold LaneSt.probe
  exact ite_self x

/-- Another lane leads, so that the galley counts come from it. -/
def LaneSt.followsLead (x : LaneSt) : Bool :=
  match x.vote.lead with
  | none => false
  | some k => k ≠ x.id

theorem LaneSt.followsLead_eq (x : LaneSt) : x.followsLead = decide (x.vote.lead ≠ none ∧ x.vote.lead ≠ some x.id) := by
  unfold LaneSt.followsLead
  cases x.vote.lead <;> simp

/-- The lane with its host link shown up again. -/
def LaneSt.linkShownUp (x : LaneSt) : LaneSt :=
  (x.wr HIF.STATUS.LINK_UP 1).setBlk x.id (fun b => { b with degrade := setBit b.degrade 2 false })

/-- The lane once a probe has restored its host link, before its page is taken; `wait` says whether it waits for the lead's
counts. -/
def LaneSt.restoreLink (x : LaneSt) (trained : Nat) (wait : Bool) : LaneSt :=
  let y := x.linkShownUp
  ({ y with hif := { y.hif with
      link := trained, dmaFails := 0, awaitCounts := wait,
      fetched := Vector.ofFn (fun n : Fin 16 => y.rd (HIF.SG_CONSUMED.COUNT n.val)) } } : LaneSt).setPoll

/-- The doorbell page as the first poll of a restored link. -/
def LaneSt.firstPoll (x : LaneSt) (page : List Byte) : LaneSt := if x.on HIF.CTRL.EN then x.takePage page else x

theorem LaneSt.probe_completed {x : LaneSt} (hdown : x.on HIF.STATUS.LINK_UP = false)
    (hbm : bit x.hif.pci.command 2 = true) (hd0 : x.hif.pci.d3 = false) (trained : Nat) (page : List Byte) :
    x.probe trained (some page) = (x.restoreLink trained x.linkShownUp.followsLead).firstPoll page := by
  have hlost : ¬(x.on HIF.STATUS.LINK_UP || !bit x.hif.pci.command 2 || x.hif.pci.d3) = true := by
    simp [hdown, hbm, hd0]
  unfold LaneSt.probe
  exact if_neg hlost

/-! ## Fetches (R59) -/

theorem exec_descFetch (s : State) (l : LaneId) : exec (.descFetch l) s = .next (s.setLane l (s.lane l).fetch) := rfl

theorem LaneSt.fetch_served {x : LaneSt} {n left : Nat} (h : x.nextGalley = some (n, left)) :
    x.fetch =
      let start := x.hif.fetched.getD n 0
      let k := min (min 8 left) (min (x.fetchable n) (x.sgSize n - start % x.sgSize n))
      { x with hif := { x.hif with
        reads := x.hif.reads ++ [(n, start, k)],
        fetched := x.hif.fetched.setIfInBounds n ((start + k) % 2 ^ 32), rr := (n, left - k) } } := by
  rw [LaneSt.fetch, h]

/-! ## The lead's counts (R40, R57) -/

/-- The lead's written counts, kept. -/
def LaneSt.keepWritten (x : LaneSt) (counts : List Dword) : LaneSt :=
  { x with hif := { x.hif with
    peerWritten := Vector.ofFn (fun n : Fin 16 => (counts.getD n.val 0).toNat / 2 ^ 32) } }

theorem exec_galleyCountsReceive {s : State} {l : LaneId} {src : Arrival} (hacc : (s.lane l).accepts src = true)
    (hlead : (s.lane l).vote.lead = some src.lane) (counts : List Dword) :
    exec (.galleyCountsReceive l src counts) s =
      .next (s.setLane l (((s.lane l).heard src 1).galleyCounts counts)) := by
  have hown : ¬((s.lane l).heard src 1).vote.lead ≠ some src.lane := by simp [hlead]
  change execGalleyCountsReceive l src counts s = _
  rw [execGalleyCountsReceive, onReceive_heard hacc, if_neg hown]

theorem LaneSt.galleyCounts_kept {x : LaneSt} (h : x.hif.awaitCounts = false) (counts : List Dword) :
    x.galleyCounts counts = x.keepWritten counts := by
  unfold LaneSt.galleyCounts
  exact if_pos (by simp [h])

/-- A lane that waits takes the counts that are ahead of its own, and fetches from there. -/
theorem LaneSt.galleyCounts_taken {x : LaneSt} (h : x.hif.awaitCounts = true) (counts : List Dword) :
    x.galleyCounts counts =
      let z := (List.range 16).foldl (fun z n =>
        (z.wr (HIF.SG_CONSUMED.COUNT n) (later32 ((counts.getD n 0).toNat % 2 ^ 32) (z.rd (HIF.SG_CONSUMED.COUNT n)))).wr
          (HIF.CG_WRITTEN.COUNT n) (later32 ((counts.getD n 0).toNat / 2 ^ 32) (z.rd (HIF.CG_WRITTEN.COUNT n)))) (x.keepWritten counts)
      { z with hif := { z.hif with
        awaitCounts := false
        exec := z.hif.exec.filter (fun d => decide (diff32 d.seq (z.rd (HIF.SG_CONSUMED.COUNT d.sg)) < 2 ^ 31))
        fetched := Vector.ofFn (fun n : Fin 16 => z.rd (HIF.SG_CONSUMED.COUNT n.val)) } } := by
  unfold LaneSt.galleyCounts
  exact if_neg (by simp [h])

/-! ## Setup hashes (R65) -/

theorem exec_setupHashReceive {s : State} {l : LaneId} {src : Arrival} (hacc : (s.lane l).accepts src = true)
    (hash : BitVec 512) :
    exec (.setupHashReceive l src hash) s = .next (s.setLane l
      ((((s.lane l).heard src 1).setPeer src.lane (fun v => { v with setupHash := some hash.toNat })).judgeSetup)) :=
  onReceive_heard (f := fun x => (x.setPeer src.lane (fun v => { v with setupHash := some hash.toNat })).judgeSetup) hacc

theorem LaneSt.judgeSetup_unsealed {x : LaneSt} (h : x.sealed = false) : x.judgeSetup = x := by
  unfold LaneSt.judgeSetup
  exact if_pos (by simp [h])

/-- The setup hash of peer `p` is known and is not this lane's. -/
def LaneSt.hashDiffers (x : LaneSt) (p : LaneId) : Bool :=
  match (x.peer p).setupHash with
  | some h => h != x.setupHash
  | none => false

theorem LaneSt.judgeSetup_sealed {x : LaneSt} (h : x.sealed = true) :
    x.judgeSetup = x.wrB HIF.STATUS.SETUP_DIFFERS (x.memberPeers.any x.hashDiffers) := by
  unfold LaneSt.judgeSetup
  exact if_neg (by simp [h])

/-- Settles O9: each event has its equation, and what a lane has heard changes neither its lead nor its host interface. -/
theorem doorbellsAndFetchesComplete : Obligations.DoorbellsAndFetchesComplete := by
  unfold Obligations.DoorbellsAndFetchesComplete
  refine ⟨fun s l hen hup hnap => ⟨fun page => exec_doorbellPoll hen hup hnap _, exec_doorbellPoll hen hup hnap _⟩,
    fun s l trained => ?_, fun s l trained page hdown hbm hd0 => ?_, fun s l n left h => ?_,
    fun s l src counts hacc hlead => ?_, fun s l src hash hacc => ?_⟩
  · rw [exec_linkProbe, LaneSt.probe_failed, State.setLane_self]
  · rw [exec_linkProbe, LaneSt.probe_completed hdown hbm hd0, LaneSt.followsLead_eq]
    exact rfl
  · rw [exec_descFetch, LaneSt.fetch_served h]
  · intro x y z
    have hhif : x.hif = (s.lane l).hif := LaneSt.heard_hif _ _ _
    rw [exec_galleyCountsReceive hacc hlead]
    refine ⟨fun hkeep => ?_, fun hawait => ?_⟩
    · rw [LaneSt.galleyCounts_kept (by rw [hhif, hkeep])]
      rfl
    · rw [LaneSt.galleyCounts_taken (by rw [hhif, hawait])]
      rfl
  · intro x
    rw [exec_setupHashReceive hacc]
    exact ⟨fun hs => congrArg _ (congrArg _ (LaneSt.judgeSetup_unsealed hs)),
      fun hs => congrArg _ (congrArg _ (LaneSt.judgeSetup_sealed hs))⟩

end Sys2Proof.Machine

/-!
SUPPORT. What the write of a completion, the resets of lanes and LANE_CLEAR do.
-/

namespace Sys2Proof.Machine

open Sys2Proof

/-! ## Completions (R52, R56, R57, R60) -/

/-- What the lead keeps of a completion it writes. -/
def LaneSt.writtenOf (x : LaneSt) (c : Completion) : Written :=
  { cg := c.cg, idx := x.rd (HIF.CG_WRITTEN.COUNT c.cg), stamp := c.stamp.getD x.boundaryStamp, c := c }

/-- The interrupt of a completion, where its IRQ was set. -/
def LaneSt.raiseFor (x : LaneSt) (c : Completion) : LaneSt := if c.irq then x.raise (c.cg / 8) (c.cg % 8) else x

theorem exec_completionWrite {s : State} {k : LaneId} {c : Completion} (hlead : (s.lane k).isLead = true)
    (hup : (s.lane k).on HIF.STATUS.LINK_UP = true)
    (hc : (s.lane k).hif.staged.find? (s.stagedByAll (s.lane k).members) = some c) :
    let w := (s.lane k).writtenOf c
    let s' := LaneId.all.foldl (fun r j =>
      if j ≠ k ∧ bit (s.lane k).members j.num then r.setLane j (((r.lane j).noteWritten w).settle) else r) s
    exec (.completionWrite k) s =
      .next (s'.setLane k (((((s.lane k).noteWritten w).postCompletion w).raiseFor c).settle)) := by
  change Host.Outcome.next (completionWrite k s) = _
  simp only [completionWrite, hlead, hup, hc]
  rfl

/-! ## SAFE_RESET with SCOPE LANE (R113) -/

theorem LaneId.num_ne_three (l : LaneId) : l.num ≠ 3 := by cases l <;> decide

theorem LaneId.ofNum_num (l : LaneId) : LaneId.ofNum l.num = l := by cases l <;> rfl

/-- SAFE_RESET of a lane in a lane that has taken it, INDEX 3 naming them all. -/
def LaneSt.scopeLaneReset (y : LaneSt) (d : Decided) (index : Nat) : LaneSt :=
  if y.inSafe ∧ index ≠ 3 then y.deny d 0x51 y.members
  else if index = 3 then
    if y.inSafe ∨ y.activeChannels = 0 then y.okOutcome d 1 0 else y.deny d 0x54 y.activeChannels
  else y.laneReset (LaneId.ofNum index) d

/-- Every lane marked for restart. -/
def State.restartAll (s : State) : State :=
  LaneId.all.foldl (fun r j => r.setLane j { r.lane j with vote := { (r.lane j).vote with restartAll := true } }) s

section
variable {y : LaneSt} {d : Decided}

theorem LaneSt.scopeLaneReset_one (hsafe : y.inSafe = false) {index : Nat} (hi : index ≠ 3) :
    y.scopeLaneReset d index = y.laneReset (LaneId.ofNum index) d :=
  (if_neg (by simp [hsafe])).trans (if_neg hi)

theorem LaneSt.scopeLaneReset_all (hact : y.activeChannels = 0) : y.scopeLaneReset d 3 = y.okOutcome d 1 0 :=
  (if_neg (by simp)).trans ((if_pos rfl).trans (if_pos (.inr hact)))

/-- The reset of this lane as a MEMBER or SHADOW that is not the last member. -/
theorem LaneSt.laneReset_own {l : LaneId} (hid : y.id = l) (hself : y.self = 0 ∨ y.self = 2)
    (hlast : y.members ≠ 2 ^ l.num) : y.laneReset l d = (y.okOutcome d 1 0).exclude causeHostReset := by
  subst hid
  have hview : y.membOf y.id = y.self := if_pos rfl
  have hid : (y.okOutcome d 1 0).id = y.id := rfl
  rcases hself with hself | hself
  · simp [LaneSt.laneReset, hview, hself, hlast, hid, selfDead, selfMember]
  · simp [LaneSt.laneReset, hview, hself, hlast, hid, selfDead, selfMember, selfShadow]

end

section
variable {s : State} {l : LaneId} {d : Decided} {rest : List Decided}

/-- The descriptor's effect in this lane, then what it does to the other lanes. -/
theorem exec_safeResetLane {index : Nat} (h : (s.lane l).firstReady d (.safeReset 2 index 0) rest) :
    let s' := s.setLane l ((((s.lane l).takes d (.safeReset 2 index 0) rest).scopeLaneReset d index).settle)
    exec (.safeResetLane l) s = .next (
      if decide (index = 3) && ((s.lane l).inSafe || decide ((s.lane l).activeChannels = 0)) then s'.restartAll
      else if !(s.lane l).inSafe ∧ index < 3 ∧ LaneId.ofNum index ≠ l ∧ (s'.lane (LaneId.ofNum index)).self = selfShadow then
        s'.setLane (LaneId.ofNum index) ((s'.lane (LaneId.ofNum index)).exclude causeHostReset)
      else s') := by
  change Host.Outcome.next (s.safeResetLane l) = _
  rw [State.safeResetLane, takeFrom_first h rfl]
  dsimp only
  rw [LaneSt.withDesc_first h (by simp [DescOp.isReset])]
  simp only [true_and, ne_eq, not_true_eq_false, if_false]
  rfl

/-- SAFE_RESET of this lane leaves the other lanes alone. -/
theorem exec_safeResetLane_own (h : (s.lane l).firstReady d (.safeReset 2 l.num 0) rest) :
    exec (.safeResetLane l) s = .next (s.setLane l
      ((((s.lane l).takes d (.safeReset 2 l.num 0) rest).scopeLaneReset d l.num).settle)) := by
  rw [exec_safeResetLane h]
  simp [LaneId.num_ne_three, LaneId.ofNum_num]

/-- SAFE_RESET of all lanes, with every channel DISABLED, marks them all. -/
theorem exec_safeResetLane_all (h : (s.lane l).firstReady d (.safeReset 2 3 0) rest) (hact : (s.lane l).activeChannels = 0) :
    exec (.safeResetLane l) s = .next (s.setLane l
      ((((s.lane l).takes d (.safeReset 2 3 0) rest).scopeLaneReset d 3).settle)).restartAll := by
  rw [exec_safeResetLane h, if_pos (by simp [hact])]

end

/-! ## LANE_CLEAR (R113) -/

/-- LANE_CLEAR acts on lane after lane. -/
def State.clearLanes (s : State) (lanes : Nat) (clearCount : Bool) : State :=
  LaneId.all.foldl (fun r j => r.setLane j ((r.lane j).laneCleared lanes clearCount)) s

/-- With its session step passed and no check left to fail the effect runs. -/
theorem LaneSt.permittedSession_passed {y : LaneSt} {lead : Option (Option (Nat × Nat))} {d : Decided}
    (h : (y.sessionStep lead d).2 = none) {after : List (Option (Nat × Nat))} (hafter : ∀ c ∈ after, c = none)
    (f : LaneSt → LaneSt) : y.permittedSession lead d [] after f = f (y.sessionStep lead d).1 := by
  have hstep : y.permittedSession lead d [] after f = match (y.sessionStep lead d).2 with
    | some (code, arg) => (y.sessionStep lead d).1.deny d code arg
    | none => (y.sessionStep lead d).1.permitted d after f := rfl
  rw [hstep, h]
  exact LaneSt.permitted_granted _ d hafter f

theorem State.likeOthers_first {s : State} {l : LaneId} {d : Decided} (h : s.stagedElsewhere l d = none) (y : LaneSt)
    (f : LaneSt → LaneSt) : s.likeOthers l d y f = f y := by
  rw [State.likeOthers, h]

section
variable {s : State} {l : LaneId} {d : Decided} {rest : List Decided} {lanes : Nat}

/-- LANE_CLEAR with CLEAR_COUNT = 1: the descriptor's effect in this lane, and, completed OK, what it does in every lane. -/
theorem exec_laneClear {x : LaneSt} (h : (s.lane l).firstReady d (.laneClear lanes true) rest)
    (hfirst : s.stagedElsewhere l d = none)
    (hx : (((s.lane l).takes d (.laneClear lanes true) rest).permittedSession (s.leadSession l d) d [] [none]
      (fun y => y.okOutcome d (if s.restarts lanes true then 2 else 0) 0)).settle = x)
    (hok : x.hif.staged.any (fun c => c.sg = d.sg && c.seq = d.found && c.status = 0) = true) :
    exec (.laneClear l) s = .next ((s.setLane l x).clearLanes lanes true) := by
  change Host.Outcome.next (s.laneClear l) = _
  have hrun : s.laneClear l = if (s.stagedElsewhere l d).isSome ∨
      !((s.setLane l x).lane l).hif.staged.any (fun c => c.sg = d.sg && c.seq = d.found && c.status = 0)
      then s.setLane l x else (s.setLane l x).clearLanes lanes true := by
    rw [State.laneClear, takeFrom_first h rfl]
    dsimp only
    rw [LaneSt.withDesc_first h rfl, State.likeOthers_first hfirst]
    subst hx
    rfl
  rw [hrun, State.setLane_lane_same, if_neg (by simp [hfirst, hok])]

end

/-! ## HOST_RESET (R113) -/

theorem exec_hostReset {s : State} {l : LaneId} (hmarked : (s.lane l).vote.restartAll = true)
    (hwritten : LaneId.all.any (fun j => (s.lane j).hif.staged.any (fun c => c.opcode = 0x40)) = false) :
    exec (.hostReset l) s = .next (s.setLane l ((s.lane l).coldReset 3)) := by
  change Host.Outcome.next (s.hostReset l) = _
  rw [State.hostReset]
  exact congrArg _ (if_pos ⟨hmarked, by rw [hwritten]; rfl⟩)

/-- Settles O17: each command has its equation for the case that its conditions hold. -/
theorem completionsAndLaneResetsComplete : Obligations.CompletionsAndLaneResetsComplete := by
  unfold Obligations.CompletionsAndLaneResetsComplete
  refine ⟨fun s k c hlead hup hc => exec_completionWrite hlead hup hc, fun s l d rest h => ?_, fun s l d rest h => ?_,
    fun s l d rest lanes h => ?_, fun s l hmarked hwritten => exec_hostReset hmarked hwritten⟩
  · intro y _ hsafe hid hself hlast
    rw [exec_safeResetLane_own h, LaneSt.scopeLaneReset_one hsafe (LaneId.num_ne_three l), LaneId.ofNum_num,
      LaneSt.laneReset_own hid hself hlast]
  · intro y hact hacty
    rw [exec_safeResetLane_all h hact, LaneSt.scopeLaneReset_all hacty]
    rfl
  · intro y x hfirst hstep hok
    refine exec_laneClear h hfirst ?_ hok
    rw [LaneSt.permittedSession_passed hstep (by simp)]

end Sys2Proof.Machine

/-!
SUPPORT. How the copies of a fetched descriptor come together, and what is decided on them.
-/

namespace Sys2Proof.Machine

open Sys2Proof

/-! ## The decision (R78 to R80, R82) -/

/-- Nothing is decided on the descriptor, and at least one copy of it is held. -/
structure Copies.Undecided (c : Copies) : Prop where
  agreed : c.agreed = none
  mismatch : c.wantMismatch = false
  held : c.have ≠ 0

/-- The copies with their mismatch noted; the own copy, if lane `k` has one, is in the exchange. -/
def Copies.noteMismatch (c : Copies) (k : LaneId) : Copies :=
  match c.own with
  | some b => { c with wantMismatch := true, full := c.full.set k.fin (some b) }
  | none => { c with wantMismatch := true }

/-- The rows of the table of R78 for equal copies. -/
def LaneSt.decideEqual (l : LaneSt) (c : Copies) (expired : Bool) : LaneSt :=
  if l.waited c ∧ !expired ∧ l.mode ≠ 2 then l.putCopies c
  else if 2 ≤ popCount 3 c.have then l.decideExecute c false false
  else if l.mode = 2 then l.decideExecute c false false
  else if expired ∧ l.waited c ∧ !l.on HIF.AGREE_CTRL.SINGLE_EN then l.decideExecute c false true
  else l.decideExecute c true false

section
variable {l : LaneSt} {c : Copies} {expired : Bool} {b : List Byte}

theorem LaneSt.sendFull_own (hown : c.own = some b) :
    l.sendFull c = l.send 0x105 (c.sg + 2 ^ 16 * c.seq) (descWords b) := by
  rw [LaneSt.sendFull, hown]
  rfl

theorem LaneSt.sendFull_without (hown : c.own = none) : l.sendFull c = l := by
  rw [LaneSt.sendFull, hown]
  rfl

theorem LaneSt.decideOn_differing (hu : c.Undecided) (hd : c.agreeing ≠ c.have) :
    l.decideOn c expired = ((l.putCopies (c.noteMismatch l.id)).sendFull (c.noteMismatch l.id)).finishMismatch
      (c.noteMismatch l.id) := by
  unfold LaneSt.decideOn
  rw [if_neg (by simp [hu.agreed, hu.mismatch, hu.held]), if_pos (by simpa [Copies.differ] using hd)]
  rfl

theorem LaneSt.decideOn_differing_own (hu : c.Undecided) (hd : c.agreeing ≠ c.have) (hown : c.own = some b) :
    let c' := { c with wantMismatch := true, full := c.full.set l.id.fin (some b) }
    l.decideOn c expired = ((l.putCopies c').send 0x105 (c.sg + 2 ^ 16 * c.seq) (descWords b)).finishMismatch c' := by
  intro c'
  have hnoted : c.noteMismatch l.id = c' := by simp only [Copies.noteMismatch, hown, c']
  rw [LaneSt.decideOn_differing hu hd, hnoted, LaneSt.sendFull_own (show c'.own = some b from hown)]

theorem LaneSt.decideOn_differing_without (hu : c.Undecided) (hd : c.agreeing ≠ c.have) (hown : c.own = none) :
    let c' := { c with wantMismatch := true }
    l.decideOn c expired = (l.putCopies c').finishMismatch c' := by
  intro c'
  have hnoted : c.noteMismatch l.id = c' := by simp only [Copies.noteMismatch, hown, c']
  rw [LaneSt.decideOn_differing hu hd, hnoted, LaneSt.sendFull_without (show c'.own = none from hown)]

theorem LaneSt.decideOn_equal (hu : c.Undecided) (heq : c.agreeing = c.have) :
    l.decideOn c expired = l.decideEqual c expired := by
  unfold LaneSt.decideOn
  rw [if_neg (by simp [hu.agreed, hu.mismatch, hu.held]), if_neg (by simp [Copies.differ, heq])]
  rfl

theorem LaneSt.decideEqual_waiting (hw : l.waited c = true) (he : expired = false) (hm : l.mode ≠ 2) :
    l.decideEqual c expired = l.putCopies c := if_pos ⟨hw, by simp [he], hm⟩

theorem LaneSt.decideEqual_majority (h : l.waited c = false ∨ expired = true ∨ l.mode = 2)
    (hp : 2 ≤ popCount 3 c.have) : l.decideEqual c expired = l.decideExecute c false false := by
  have hdue : ¬(l.waited c = true ∧ (!expired) = true ∧ l.mode ≠ 2) := by
    rcases h with h | h | h <;> simp [h]
  exact (if_neg hdue).trans (if_pos hp)

theorem LaneSt.decideEqual_solo (hp : popCount 3 c.have = 1) (hm : l.mode = 2) :
    l.decideEqual c expired = l.decideExecute c false false := by
  unfold LaneSt.decideEqual
  rw [if_neg (by simp [hm]), if_neg (by omega), if_pos hm]

theorem LaneSt.decideEqual_alone (hp : popCount 3 c.have = 1) (hm : l.mode ≠ 2) (hw : l.waited c = false) :
    l.decideEqual c expired = l.decideExecute c true false := by
  unfold LaneSt.decideEqual
  rw [if_neg (by simp [hw]), if_neg (by omega), if_neg hm, if_neg (by simp [hw])]

theorem LaneSt.decideEqual_expired (hp : popCount 3 c.have = 1) (hm : l.mode ≠ 2) (hw : l.waited c = true)
    (he : expired = true) :
    l.decideEqual c expired = if l.on HIF.AGREE_CTRL.SINGLE_EN then l.decideExecute c true false
      else l.decideExecute c false true := by
  unfold LaneSt.decideEqual
  rw [if_neg (by simp [he]), if_neg (by omega), if_neg hm]
  cases hs : l.on HIF.AGREE_CTRL.SINGLE_EN <;> simp [he, hw]

/-- Without the own copy the lane waits for the agreed bytes. -/
theorem LaneSt.decideExecute_without (hown : c.own = none) (single deny : Bool) :
    l.decideExecute c single deny = l.putCopies { c with
      agreed := c.lowest.bind (fun k => c.fps.get k.fin), wantCopy := some (c.have, single, deny) } := by
  unfold LaneSt.decideExecute
  rw [hown]

/-- The members that the lane sends the bytes to: those without a fingerprint, if it holds the lowest-lettered copy (R80). -/
def LaneSt.sendsTo (l : LaneSt) (c : Copies) : List LaneId :=
  if c.lowest = some l.id then l.memberPeers.filter (fun p => (c.fps.get p.fin).isNone) else []

/-- With the own copy the descriptor takes its place in the order of execution. -/
theorem LaneSt.decideExecute_own (hown : c.own = some b) (single deny : Bool) :
    l.decideExecute c single deny =
      ((l.sendsTo c).foldl (fun x p => x.sendTo p 0x101 (c.sg + 2 ^ 16 * c.seq) (descWords b))
        (l.putCopies { c with
          agreed := c.lowest.bind (fun k => c.fps.get k.fin)
          sentTo := ((l.sendsTo c).map (fun p => 2 ^ p.num)).sum })).pushDecided
        (decidedAs c.sg c.seq b (c.have, single, deny)) := by
  unfold LaneSt.decideExecute
  rw [hown]
  rfl

end

/-- Settles O11: copies that differ start the exchange of full copies, and equal copies are decided by the rows of the table,
each of which has its equation. -/
theorem descriptorDecisionFollowsItsTable : Obligations.DescriptorDecisionFollowsItsTable := by
  unfold Obligations.DescriptorDecisionFollowsItsTable
  refine ⟨fun l c expired hagreed hmis hheld => ?_,
    fun l c single deny => ⟨fun hown => LaneSt.decideExecute_without hown single deny, fun b hown => ?_⟩⟩
  · have hu : c.Undecided := ⟨hagreed, hmis, hheld⟩
    refine ⟨fun b hd hown => LaneSt.decideOn_differing_own hu hd hown,
      fun hd hown => LaneSt.decideOn_differing_without hu hd hown, fun heq hw he hm => ?_, fun heq h hp => ?_,
      fun heq hp hm => ?_, fun heq hp hm hw => ?_, fun heq hp hm hw he => ?_⟩
    · rw [LaneSt.decideOn_equal hu heq, LaneSt.decideEqual_waiting hw he hm]
    · rw [LaneSt.decideOn_equal hu heq, LaneSt.decideEqual_majority h hp]
    · rw [LaneSt.decideOn_equal hu heq, LaneSt.decideEqual_solo hp hm]
    · rw [LaneSt.decideOn_equal hu heq, LaneSt.decideEqual_alone hp hm hw]
    · rw [LaneSt.decideOn_equal hu heq, LaneSt.decideEqual_expired hp hm hw he]
  · rw [LaneSt.decideExecute_own hown]
    rfl

/-! ## Reads of descriptors (R77, R39) -/

theorem exec_descFetchComplete (s : State) (l : LaneId) (read : Transfer) :
    exec (.descFetchComplete l read) s = .next (s.setLane l ((s.lane l).fetchDone read.bytes read.flips)) := rfl

section
variable {x : LaneSt} {sg first k : Nat} {rest : List (Nat × Nat × Nat)} (h : x.hif.reads = (sg, first, k) :: rest)
include h

theorem LaneSt.fetchDone_failed (flips : List (BitVec 72)) :
    x.fetchDone none flips = ((List.range k).foldl (fun (l : LaneSt) i => l.copyFailed sg ((first + i) % 2 ^ 32))
      { x with hif := { x.hif with reads := rest } }).dmaFailed := by
  rw [LaneSt.fetchDone, h]

theorem LaneSt.fetchDone_read (bytes : List Byte) (flips : List (BitVec 72)) :
    x.fetchDone (some bytes) flips = (List.range k).foldl (fun (l : LaneSt) i =>
      l.fetchOne sg ((first + i) % 2 ^ 32) (sliceBytes bytes (64 * i) 64) (flips.drop (8 * i)))
      { x with hif := { x.hif with reads := rest, dmaFails := 0 } } := by
  rw [LaneSt.fetchDone, h]

end

/-! ## The own copy (R77 to R82) -/

/-- The copies with the fingerprint of lane `k`. -/
def Copies.addFp (c : Copies) (k : LaneId) (fp : Nat) : Copies := { c with fps := c.fps.set k.fin (some fp) }

/-- The copies with a failed read of lane `k` noted. -/
def Copies.addFailed (c : Copies) (k : LaneId) : Copies := { c with failed := setBit c.failed k.num true }

/-- The fingerprint of the own copy is sent to the peers (R77). -/
def LaneSt.tellFp (x : LaneSt) (sg seq : Nat) (b : List Byte) : LaneSt := x.send 0x01 (sg + 2 ^ 16 * seq) [descFp sg b]

section
variable {x : LaneSt} {sg seq : Nat} {b : List Byte}

/-- What is held of a descriptor is filed under its galley and number. -/
theorem LaneSt.copiesOf_key : (x.copiesOf sg seq).sg = sg ∧ (x.copiesOf sg seq).seq = seq := by
  unfold LaneSt.copiesOf
  cases hc : x.hif.copies.find? (fun c => c.sg = sg && c.seq = seq) with
  | none => exact ⟨rfl, rfl⟩
  | some c => simpa using List.find?_some hc

theorem LaneSt.copyFetched_undecided (ha : (x.copiesOf sg seq).agreed = none)
    (hm : (x.copiesOf sg seq).wantMismatch = false) :
    let c := { (x.copiesOf sg seq).addFp x.id (descFp sg b) with own := some b }
    x.copyFetched sg seq b = ((x.tellFp sg seq b).putCopies c).decideOn c false := by
  unfold LaneSt.copyFetched
  simp only [LaneSt.send_id]
  rw [if_neg (by simp [ha]), if_neg (by simp [hm])]
  rfl

theorem LaneSt.copyFetched_exchanging (ha : (x.copiesOf sg seq).agreed = none)
    (hm : (x.copiesOf sg seq).wantMismatch = true) :
    let h := x.copiesOf sg seq
    let c := { h.addFp x.id (descFp sg b) with own := some b, full := h.full.set x.id.fin (some b) }
    x.copyFetched sg seq b =
      (((x.tellFp sg seq b).putCopies c).send 0x105 (sg + 2 ^ 16 * seq) (descWords b)).finishMismatch c := by
  intro h c
  obtain ⟨hsg, hseq⟩ : c.sg = sg ∧ c.seq = seq := LaneSt.copiesOf_key
  have hjoins : x.copyFetched sg seq b = (((x.tellFp sg seq b).putCopies c).sendFull c).finishMismatch c := by
    unfold LaneSt.copyFetched
    simp only [LaneSt.send_id]
    rw [if_neg (by simp [ha]), if_pos hm]
    rfl
  rw [hjoins, LaneSt.sendFull_own (show c.own = some b from rfl), hsg, hseq]

theorem LaneSt.copyFetched_equal (ha : (x.copiesOf sg seq).agreed = some (descFp sg b))
    (hw : (x.copiesOf sg seq).wantCopy = none) :
    x.copyFetched sg seq b = (x.tellFp sg seq b).putCopies ((x.copiesOf sg seq).addFp x.id (descFp sg b)) := by
  unfold LaneSt.copyFetched
  simp only [LaneSt.send_id]
  rw [if_pos (by simp [ha]), if_pos ha]
  simp only [hw, LaneSt.tellFp, Copies.addFp]

/-- A lane that still waits for the agreed bytes takes them from its own copy. -/
theorem LaneSt.copyFetched_awaited {w : Nat × Bool × Bool} (ha : (x.copiesOf sg seq).agreed = some (descFp sg b))
    (hw : (x.copiesOf sg seq).wantCopy = some w) :
    x.copyFetched sg seq b =
      ((x.tellFp sg seq b).putCopies { (x.copiesOf sg seq).addFp x.id (descFp sg b) with
        own := some b, wantCopy := none }).pushDecided (decidedAs sg seq b w) := by
  unfold LaneSt.copyFetched
  simp only [LaneSt.send_id]
  rw [if_pos (by simp [ha]), if_pos ha]
  simp only [hw, LaneSt.tellFp, Copies.addFp]

theorem LaneSt.copyFetched_odd {f : Nat} (ha : (x.copiesOf sg seq).agreed = some f) (hf : f ≠ descFp sg b) :
    x.copyFetched sg seq b =
      (((x.tellFp sg seq b).putCopies ((x.copiesOf sg seq).addFp x.id (descFp sg b))).oddFetch x.id).fault 0x006 sg := by
  unfold LaneSt.copyFetched
  simp only [LaneSt.send_id]
  rw [if_pos (by simp [ha]), if_neg (by simpa [ha] using hf)]
  rfl

theorem LaneSt.copyFailed_eq :
    let c := (x.copiesOf sg seq).addFailed x.id
    let y := (x.send 0x01 (sg + 2 ^ 4 + 2 ^ 16 * seq) [0]).putCopies c
    x.copyFailed sg seq = if c.agreed.isSome then y else y.decideOn c false := by
  unfold LaneSt.copyFailed
  simp only [LaneSt.send_id]
  rfl

end

/-! ## The copies of the peers (R77 to R82) -/

theorem exec_descFpReceive {s : State} {l : LaneId} {src : Arrival} (hacc : (s.lane l).accepts src = true) (sg : Fin 16)
    (seq : Word) (fp : Option Dword) :
    exec (.descFpReceive l src sg seq fp) s = .next (s.setLane l
      (((s.lane l).heard src 1).fpReceive src.lane sg.val seq.toNat (fp.map (·.toNat)))) := by
  change execDescFpReceive l src sg seq fp s = _
  rw [execDescFpReceive, onReceive_heard hacc]

section
variable {x : LaneSt} {p : LaneId} {sg seq fp : Nat}

theorem LaneSt.fpReceive_failed :
    let c := (x.copiesOf sg seq).addFailed p
    x.fpReceive p sg seq none = (x.putCopies c).decideOn c false := rfl

theorem LaneSt.fpReceive_undecided (ha : (x.copiesOf sg seq).agreed = none)
    (hm : (x.copiesOf sg seq).wantMismatch = false) :
    let c := (x.copiesOf sg seq).addFp p fp
    x.fpReceive p sg seq (some fp) = (x.putCopies c).decideOn c false := by
  unfold LaneSt.fpReceive
  exact (if_neg (by simp [ha])).trans (if_neg (by simp [hm]))

theorem LaneSt.fpReceive_exchanging (ha : (x.copiesOf sg seq).agreed = none)
    (hm : (x.copiesOf sg seq).wantMismatch = true) :
    let c := (x.copiesOf sg seq).addFp p fp
    x.fpReceive p sg seq (some fp) = (x.putCopies c).finishMismatch c := by
  unfold LaneSt.fpReceive
  exact (if_neg (by simp [ha])).trans (if_pos hm)

theorem LaneSt.fpReceive_equal (ha : (x.copiesOf sg seq).agreed = some fp) :
    x.fpReceive p sg seq (some fp) = x.putCopies ((x.copiesOf sg seq).addFp p fp) := by
  unfold LaneSt.fpReceive
  exact (if_pos (by simp [ha])).trans (if_pos ha)

theorem LaneSt.fpReceive_odd {f : Nat} (ha : (x.copiesOf sg seq).agreed = some f) (hf : f ≠ fp) :
    x.fpReceive p sg seq (some fp) = (x.putCopies ((x.copiesOf sg seq).addFp p fp)).oddFetch p := by
  unfold LaneSt.fpReceive
  exact (if_pos (by simp [ha])).trans (if_neg (by simpa [ha] using hf))

end

theorem exec_singleWaitExpired (s : State) (l : LaneId) (sg : Fin 16) (seq : Word) :
    exec (.singleWaitExpired l sg seq) s =
      .next (s.setLane l ((s.lane l).decideOn ((s.lane l).copiesOf sg.val seq.toNat) true)) := rfl

theorem exec_bulkMismatchCopy {s : State} {l : LaneId} {src : Arrival} (hacc : (s.lane l).accepts src = true) (sg : Fin 16)
    (seq : Word) (bytes : List Byte) :
    let x := (s.lane l).heard src 1
    let h := x.copiesOf sg.val seq.toNat
    let c := { h with full := h.full.set src.lane.fin (some bytes) }
    exec (.bulkMismatchCopy l src sg seq bytes) s = .next (s.setLane l ((x.putCopies c).finishMismatch c)) := by
  change execBulkMismatchCopy l src sg seq bytes s = _
  rw [execBulkMismatchCopy, onReceive_heard hacc]

/-- Settles O10: the ends of a read and each way a copy joins have their equations. -/
theorem descriptorAgreementCompletes : Obligations.DescriptorAgreementCompletes := by
  unfold Obligations.DescriptorAgreementCompletes
  refine ⟨fun s l flips sg first k rest h => ⟨?_, fun bytes => ?_⟩, fun x b sg seq => ?_, fun x sg seq => ?_,
    fun s l src sg seq fp hacc => ?_, fun s l src sg seq hacc => exec_descFpReceive hacc sg seq none,
    fun s l sg seq => exec_singleWaitExpired s l sg seq, fun s l src sg seq bytes hacc => exec_bulkMismatchCopy hacc sg seq bytes⟩
  · rw [exec_descFetchComplete, LaneSt.fetchDone_failed h]
    rfl
  · rw [exec_descFetchComplete, LaneSt.fetchDone_read h]
    rfl
  · refine ⟨fun ha hm => LaneSt.copyFetched_undecided ha hm, fun ha hm => LaneSt.copyFetched_exchanging ha hm,
      fun ha hw => LaneSt.copyFetched_equal ha hw, fun w ha hw => LaneSt.copyFetched_awaited ha hw,
      fun f ha hf => LaneSt.copyFetched_odd ha hf⟩
  · exact LaneSt.copyFailed_eq
  · intro x h c
    rw [exec_descFpReceive hacc, Option.map_some]
    refine ⟨fun ha hm => ?_, fun ha hm => ?_, fun ha => ?_, fun f ha hf => ?_⟩
    · rw [LaneSt.fpReceive_undecided ha hm]
      rfl
    · rw [LaneSt.fpReceive_exchanging ha hm]
      rfl
    · rw [LaneSt.fpReceive_equal ha]
      rfl
    · rw [LaneSt.fpReceive_odd ha hf]
      rfl

end Sys2Proof.Machine

/-!
SUPPORT. What descriptors with a host buffer wait for, what a buffer's read leaves, and how a firmware's verification ends.
-/

namespace Sys2Proof.Machine

open Sys2Proof

/-! ## The descriptors that ask for a buffer (R83, R402, R404, R412) -/

section
variable {s : State} {l : LaneId} {d : Decided} {rest : List Decided} {y : LaneSt} {length src crc : Nat}

theorem exec_configStage {offset : Nat} (h : (s.lane l).firstReady d (.configStage offset length src crc) rest)
    (hy : (s.lane l).takes d (.configStage offset length src crc) rest = y)
    (hstep : (y.sessionStep (s.leadSession l d) d).2 = none) (hfree : y.committing = false) :
    exec (.configStage l) s =
      .next (s.setLane l (((y.sessionStep (s.leadSession l d) d).1.awaitBuffer d).settle)) := by
  subst hy
  change execConfigStage l s = _
  rw [execConfigStage, onLane, LaneSt.withDesc_first h rfl, LaneSt.permittedSession_passed hstep (by simp [hfree])]

theorem exec_fwStage {t offset : Nat} {last : Bool}
    (h : (s.lane l).firstReady d (.fwStage t last offset length src crc) rest)
    (hy : (s.lane l).takes d (.fwStage t last offset length src crc) rest = y)
    (hstep : (y.sessionStep (s.leadSession l d) d).2 = none) (hhold : y.inHold = true) :
    exec (.fwStage l) s =
      .next (s.setLane l (((y.sessionStep (s.leadSession l d) d).1.awaitBuffer d).settle)) := by
  subst hy
  change execFwStage l s = _
  rw [execFwStage, onLane, LaneSt.withDesc_first h rfl, LaneSt.permittedSession_passed hstep (by simp [hhold])]

theorem exec_fleetKey {lanes : Nat} (h : (s.lane l).firstReady d (.fleetKey lanes src length) rest)
    (hy : (s.lane l).takes d (.fleetKey lanes src length) rest = y)
    (hstep : (y.sessionStep (s.leadSession l d) d).2 = none) (hlanes : y.permLanes lanes = none) :
    exec (.fleetKey l) s =
      .next (s.setLane l (((y.sessionStep (s.leadSession l d) d).1.awaitBuffer d).settle)) := by
  subst hy
  change execFleetKey l s = _
  rw [execFleetKey, onLane, LaneSt.withDesc_first h rfl]
  dsimp only
  rw [LaneSt.permittedSession_passed hstep (by simp [hlanes])]

end

/-! ## The buffers (R79, R83) -/

/-- The buffer as the lane sends it to the members without a copy, where it serves them (R79). -/
def LaneSt.serveBuffer (y : LaneSt) (d : Decided) (bytes : List Byte) : LaneSt :=
  if y.serves d then (y.without d).foldl (fun z p => z.sendTo p 0x102 0 (bulkWords bytes)) y else y

section
variable {x z : LaneSt} {d : Decided} {n : Nat} {b : List Byte} {flips : List (BitVec 72)} (hlen : b.length = n)
include hlen

theorem LaneSt.bufferRead_crossed {c : List Byte}
    (hcross : ({ x with hif := { x.hif with dmaFails := 0 } } : LaneSt).crossBytes 0 b flips = (z, some c)) :
    x.bufferRead d n (some b) flips = (z.bufferDone d (some c)).serveBuffer d c := by
  simp only [LaneSt.bufferRead, hlen, hcross]
  exact if_neg (not_not.mpr rfl)

/-- A word that the crossing discards leaves the buffer unread. -/
theorem LaneSt.bufferRead_discarded
    (hcross : ({ x with hif := { x.hif with dmaFails := 0 } } : LaneSt).crossBytes 0 b flips = (z, none)) :
    x.bufferRead d n (some b) flips = z.bufferDone d none := by
  simp only [LaneSt.bufferRead, hlen, hcross]
  exact if_neg (not_not.mpr rfl)

end

section
variable {s : State} {l : LaneId} {d : Decided} {a n : Nat}

theorem exec_hostBufferRead (hw : (s.lane l).hif.bufWait.find? (fun w => (s.lane l).hasOwn w.1) = some (d, a, n))
    (read : Transfer) :
    exec (.hostBufferRead l read) s =
      .next ((s.setLane l ((s.lane l).bufferRead d n read.bytes read.flips)).bufferSettle l d) := by
  change Host.Outcome.next (s.hostBufferRead l read.bytes read.flips) = _
  rw [State.hostBufferRead, hw]

theorem State.hostBufferCopy_awaited {b : List Byte}
    (hw : (s.lane l).hif.bufWait.find? (fun w => !(s.lane l).hasOwn w.1) = some (d, a, n)) (hlen : n ≤ b.length) :
    s.hostBufferCopy l b = (s.setLane l ((s.lane l).bufferDone d (some (b.take n)))).bufferSettle l d := by
  rw [State.hostBufferCopy, hw]
  exact if_neg (by omega)

theorem exec_bulkHostBufferCopy {src : Arrival} (hacc : (s.lane l).accepts src = true) (b : List Byte) :
    exec (.bulkHostBufferCopy l src b) s =
      .next ((s.setLane l ((s.lane l).heard src (frameCount b))).hostBufferCopy l b) :=
  congrArg _ (if_pos hacc)

end

/-! ## The verification of a staged firmware (R402) -/

/-- Lane `j`, which waits with the descriptor `d`, after the verification in lane `t` has ended. -/
def LaneSt.fwVerifyEnds (x : LaneSt) (s : State) (t j : LaneId) (d : Decided) : LaneSt :=
  let x : LaneSt := { x with sec := { x.sec with fwVerify := x.sec.fwVerify.erase d } }
  let x := if j = t then x.fwEnd (s.fwFault t) else x
  match s.fwFault t with
  | none => x.complete d 0 0 (leAt ((s.lane t).sec.fw.getD (s.lane t).idleSlot []) 0 4)
  | some step => x.abort d 0x4D step

theorem exec_fwVerifyComplete {s : State} {t : LaneId} {d : Decided} {rest : List Decided} {n offset length src crc : Nat}
    {last : Bool} (hq : (s.lane t).sec.fwVerify = d :: rest) (hop : d.op = .fwStage n last offset length src crc)
    (ht : LaneId.ofNum n = t) :
    exec (.fwVerifyComplete t) s = .next (LaneId.all.foldl (fun r j =>
      if (r.lane j).sec.fwVerify.contains d then r.setLane j ((r.lane j).fwVerifyEnds s t j d) else r) s) := by
  change Host.Outcome.next (s.fwVerified t) = _
  simp only [State.fwVerified, hq, List.find?_cons, hop, ht, decide_true]
  congr 2
  funext r j
  cases hwait : (r.lane j).sec.fwVerify.contains d <;> rfl

/-- Settles O15: a descriptor that passes its checks waits, and each end of a read, copy or verification has its equation. -/
theorem bufferDescriptorsComplete : Obligations.BufferDescriptorsComplete := by
  unfold Obligations.BufferDescriptorsComplete
  refine ⟨fun s l d rest offset length src crc h => exec_configStage h rfl,
    fun s l d rest t offset length src crc last h => exec_fwStage h rfl,
    fun s l d rest lanes src length h => exec_fleetKey h rfl, fun s l d a n b flips hw hlen => ?_,
    fun s l src d a n b hacc => ?_, fun s t d rest n offset length src crc last hq hop ht =>
      exec_fwVerifyComplete hq hop ht⟩
  · intro x y
    rw [exec_hostBufferRead hw]
    refine ⟨fun c hc => ?_, fun hc => ?_⟩
    · have hy : y = x.1.bufferDone d (some c) := congrArg (x.1.bufferDone d) hc
      rw [LaneSt.bufferRead_crossed hlen (Prod.ext rfl hc), hy]
      rfl
    · have hy : y = x.1.bufferDone d none := congrArg (x.1.bufferDone d) hc
      rw [LaneSt.bufferRead_discarded hlen (Prod.ext rfl hc), hy]
  · intro x hw hlen
    rw [exec_bulkHostBufferCopy hacc, State.hostBufferCopy_awaited (by rw [State.setLane_lane_same]; exact hw) hlen,
      State.setLane_lane_same, State.setLane_setLane]

end Sys2Proof.Machine

/-!
SUPPORT. Snapshots of the folio, the records its lanes exchange, and the write of a page.
-/

namespace Sys2Proof.Machine

open Sys2Proof

/-! ## The snapshot (R70, R73, R375) -/

/-- The lane once a snapshot has sent its fault summary; a page that was not written is skipped. -/
def LaneSt.summarySent (x : LaneSt) (l : LaneId) : LaneSt :=
  let ws := sectionWords x.fltSection
  let y := x.send 0x1A 0 ws
  { y with folio := { y.folio with
    sums := y.folio.sums.set l.fin (ws.mapIdx (fun i w => (8 * i, 8, w)))
    sumValid := (Vector.replicate 3 false).set l.fin true
    skipped := if x.folio.page.isSome then (x.folio.skipped + 1) % 2 ^ 32 else x.folio.skipped } }

section
variable {s : State} {l : LaneId} (hv : (s.lane l).voting = true)
include hv

theorem exec_folioSnapshot_outsider (hm : (s.lane l).isMember = false) :
    exec (.folioSnapshot l) s = .next (s.setLane l ((s.lane l).summarySent l)) := by
  change Host.Outcome.next (s.folioSnapshot l) = _
  unfold State.folioSnapshot
  rw [if_neg (by simp [hv])]
  exact congrArg _ (if_pos (by simp [hm]))

theorem exec_folioSnapshot_member (hm : (s.lane l).isMember = true) :
    let y := (s.lane l).summarySent l
    exec (.folioSnapshot l) s = .next (s.setLane l { y with folio := { y.folio with
      page := some ((s.setLane l y).folioPage l ((s.lane l).vote.folioSeq + 2)), fp := (0, 0) } }) := by
  intro y
  change Host.Outcome.next (s.folioSnapshot l) = _
  unfold State.folioSnapshot
  rw [if_neg (by simp [hv]), ← State.setLane_setLane s l y]
  exact congrArg _ (if_neg (by simp [hm]))

end

/-! ## The exchange (R71, R375) -/

section
variable {s : State} {l : LaneId} {src : Arrival} (hacc : (s.lane l).accepts src = true)
include hacc

theorem exec_folioFpReceive (seq fp : Dword) :
    let x := (s.lane l).heard src 1
    exec (.folioFpReceive l src seq fp) s = .next (s.setLane l
      (({ x with vote := { x.vote with folioSeq := max x.vote.folioSeq seq.toNat } } : LaneSt).setPeer src.lane
        (fun v => { v with folio := some (seq.toNat, fp.toNat) }))) := by
  change execFolioFpReceive l src seq fp s = _
  rw [execFolioFpReceive, onReceive_heard hacc]

theorem exec_fltSumReceive (w : List Dword) :
    let x := (s.lane l).heard src 1
    exec (.fltSumReceive l src w) s = .next (s.setLane l { x with folio := { x.folio with
      sums := x.folio.sums.set src.lane.fin ((List.range 20).map (fun i => (8 * i, 8, (w.getD i 0).toNat)))
      sumValid := x.folio.sumValid.set src.lane.fin true } }) := by
  change execFltSumReceive l src w s = _
  rw [execFltSumReceive, onReceive_heard hacc]

end

/-! ## The write (R70 to R73, R104) -/

/-- The lane with page `fp` as the agreed one, its hand-over mark ended. -/
def LaneSt.pageAgreed (x : LaneSt) (fp : List (Nat × Nat × Nat)) : LaneSt :=
  { x with folio := { x.folio with page := none, agreed := fp, handover := false } }

/-- The lane with its page given up. -/
def LaneSt.pageSkipped (x : LaneSt) : LaneSt :=
  { x with folio := { x.folio with page := none, skipped := (x.folio.skipped + 1) % 2 ^ 32 } }

/-- The lane with page `fp` written to host memory: an odd SEQ, the rest of the page, the even SEQ; its interrupt raised. -/
def LaneSt.postPage (x : LaneSt) (seq : Nat) (fp : List (Nat × Nat × Nat)) : LaneSt :=
  let base := 2 ^ 12 * x.rd HIF.FOLIO_BASE.ADDR + 2 ^ 32 * x.rd HIF.FOLIO_BASE_HI.ADDR_HI
  (((x.post base 8 [(0, 8, seq - 1)]).post (base + 8) 4088
    ((fp.filter (fun f => 8 ≤ f.1)).map (fun f => (f.1 - 8, f.2.1, f.2.2)))).post base 8 [(0, 8, seq)]).raise 2 0

theorem exec_folioWrite (s : State) (l : LaneId) : exec (.folioWrite l) s = .next (s.setLane l (s.lane l).folioWrite) := rfl

section
variable {x : LaneSt} {p : List (Nat × Nat × Nat)} (hp : x.folio.page = some p) (hseq : x.folio.fp.1 ≠ 0)
  (hm : x.isMember = true)
include hp hseq hm

/-- With the agreement of R71 the page is the agreed one, and the lead writes it. -/
theorem LaneSt.folioWrite_agreed (hok : x.folioAgrees = true) :
    x.folioWrite = (if x.isLead then (x.pageAgreed (x.finalPage p)).postPage x.folio.fp.1 (x.finalPage p)
      else x.pageAgreed (x.finalPage p)).judgeFolio := by
  unfold LaneSt.folioWrite
  rw [hp]
  dsimp only
  rw [if_neg (by simp [hseq, hm]), if_pos hok, if_pos hok, if_pos hok]
  exact congrArg LaneSt.judgeFolio (if_congr (and_iff_right hok) rfl rfl)

theorem LaneSt.folioWrite_skipped (hok : x.folioAgrees = false) : x.folioWrite = x.pageSkipped.judgeFolio := by
  unfold LaneSt.folioWrite
  rw [hp]
  dsimp only
  rw [if_neg (by simp [hseq, hm])]
  simp [hok, LaneSt.pageSkipped]

end

/-- Settles O18: each event of the folio has its equation, the write one for each outcome. -/
theorem folioCommandsComplete : Obligations.FolioCommandsComplete := by
  unfold Obligations.FolioCommandsComplete
  refine ⟨fun s l hv => ⟨fun hm => exec_folioSnapshot_outsider hv hm, fun hm => exec_folioSnapshot_member hv hm⟩,
    fun s l src seq fp hacc => exec_folioFpReceive hacc seq fp, fun s l src w hacc => exec_fltSumReceive hacc w,
    fun s l p hp hseq hm => ⟨fun hok hlead => ?_, fun hok hlead => ?_, fun hok => ?_⟩⟩
  · rw [exec_folioWrite, LaneSt.folioWrite_agreed hp hseq hm hok, if_pos hlead]
    rfl
  · rw [exec_folioWrite, LaneSt.folioWrite_agreed hp hseq hm hok, if_neg (by simp [hlead])]
    rfl
  · rw [exec_folioWrite, LaneSt.folioWrite_skipped hp hseq hm hok]
    rfl

end Sys2Proof.Machine

/-!
SUPPORT. The steps of an epoch commit: its acceptance, the check of the image, the decision, and the epoch.
-/

namespace Sys2Proof.Machine

open Sys2Proof

/-! ## The pending commit (R84, R412, R415) -/

theorem LaneSt.setCommit_pending {x : LaneSt} {c : Commit} (h : x.commit = some c) (f : Commit → Commit) :
    x.setCommit f = { x with commit := some (f c) } := by
  rw [LaneSt.setCommit, h]
  rfl

theorem LaneSt.commitChecks_pass {y : LaneSt} {full epoch : Nat} (htime : y.permTime = none)
    (hfree : y.committing = false) (hearly : y.time.now + y.leadTime * 2 ^ 32 ≤ epoch)
    (hlate : epoch ≤ y.time.now + 10 ^ 10 * 2 ^ 32) (hlog : full = 0) : ∀ c ∈ y.commitChecks full epoch, c = none := by
  simpa [LaneSt.commitChecks, htime, hfree, hlog] using ⟨hearly, hlate⟩

theorem exec_configCommit {s : State} {l : LaneId} {d : Decided} {rest : List Decided} {sec ns length crc : Nat} {y : LaneSt}
    (h : (s.lane l).firstReady d (.configCommit sec ns length crc) rest)
    (hy : (s.lane l).takes d (.configCommit sec ns length crc) rest = y)
    (hstep : (y.sessionStep (s.leadSession l d) d).2 = none)
    (hchecks : ∀ c ∈ y.commitChecks (s.logFull y.members) (time80 sec ns * 2 ^ 32), c = none) :
    exec (.configCommit l) s = .next (s.setLane l
      (((y.sessionStep (s.leadSession l d) d).1.commitStart d (time80 sec ns * 2 ^ 32) length crc).settle)) := by
  subst hy
  change execConfigCommit l s = _
  rw [execConfigCommit, onLane, LaneSt.withDesc_first h rfl]
  dsimp only
  rw [LaneSt.permittedSession_passed hstep hchecks]

/-! ## The check of the image (R84) -/

/-- The lane with SCHED_ERR as the schedule of an image sets it. -/
def LaneSt.schedNoted (x : LaneSt) (img : List Byte) : LaneSt :=
  x.setWord LOOP.SCHED_ERR.off (((x.loadImage (imageItems img)).noteSched).word LOOP.SCHED_ERR.off)

/-- READY with the image's fingerprint is sent and kept, or FAIL with the first bad offset. -/
def LaneSt.judgeImage (y : LaneSt) (img : List Byte) (length : Nat) : LaneSt :=
  match y.imageFault img length with
  | some off => (y.setCommit (fun c => { c with own := some (false, 0x46 + 2 ^ 8 * off) })).send 0x03 (1 + 2 ^ 8 * 0x46) [off]
  | none => (y.setCommit (fun c => { c with own := some (true, fingerprint img) })).send 0x03 0 [fingerprint img]

theorem exec_commitReadyCheck (s : State) (l : LaneId) :
    exec (.commitReadyCheck l) s = .next (s.setLane l (s.lane l).readyCheck) := rfl

section
variable {x : LaneSt} {c : Commit} (hc : x.commit = some c) (hown : c.own = none)
include hc hown

theorem LaneSt.readyCheck_badCrc (hcrc : crc32c (x.staged 0 c.length) ≠ c.crc) :
    x.readyCheck = (x.setCommit (fun c => { c with own := some (false, 0x45) })).send 0x03 (1 + 2 ^ 8 * 0x45) [0] := by
  simp only [LaneSt.readyCheck, hc, hown]
  exact if_pos hcrc

theorem LaneSt.readyCheck_goodCrc (hcrc : crc32c (x.staged 0 c.length) = c.crc) :
    x.readyCheck = (x.schedNoted (x.staged 0 c.length)).judgeImage (x.staged 0 c.length) c.length := by
  simp only [LaneSt.readyCheck, hc, hown]
  exact if_neg (not_not.mpr hcrc)

end

/-! ## The decision (R85, R87, R88, R288) -/

/-- What a commit record of a peer leaves in the view of it: READY 0, FAIL 1, GO 2, NOGO 3. -/
def PeerView.commitRecord (v : PeerView) (kind : Fin 4) (reason : Byte) (payload : Dword) : PeerView :=
  match kind.val with
  | 0 => { v with ready := some (true, payload.toNat) }
  | 1 => { v with ready := some (false, reason.toNat + 2 ^ 8 * payload.toNat) }
  | 2 => { v with go := some true }
  | _ => { v with go := some false, nogo := (reason.toNat, payload.toNat) }

theorem exec_commitRecordReceive {s : State} {l : LaneId} {src : Arrival} (hacc : (s.lane l).accepts src = true)
    (kind : Fin 4) (reason : Byte) (payload : Dword) :
    exec (.commitRecordReceive l src kind reason payload) s = .next (s.setLane l
      (((s.lane l).heard src 1).setPeer src.lane (fun v => v.commitRecord kind reason payload))) :=
  onReceive_heard (f := fun x => x.setPeer src.lane (fun v => v.commitRecord kind reason payload)) hacc

theorem exec_commitReadyDeadline {s : State} {l : LaneId} {c : Commit} {x : LaneSt} (hx : s.lane l = x)
    (hc : x.commit = some c) (hgo : c.go = none) (hm : x.isMember = true)
    (hdue : c.epoch ≤ x.time.now + 4 * x.tVote * 2 ^ 32) :
    let why := x.commitReason c
    let go := why.isNone && !x.t32
    exec (.commitReadyDeadline l) s = .next (s.setLane l
      ((x.setCommit (fun c => { c with go := some go, reason := why })).send 0x03
        (if go then 2 else 3 + 2 ^ 8 * (why.getD (0, 0)).1)
        [(if go then (c.own.map (·.2)).getD 0 else (why.getD (0, 0)).2) % 2 ^ 64])) := by
  subst hx
  change Host.Outcome.next (s.setLane l (s.lane l).readyDeadline) = _
  unfold LaneSt.readyDeadline
  rw [hc]
  exact congrArg (fun y => Host.Outcome.next (s.setLane l y)) (if_neg (by simpa [hgo, hm] using hdue))

theorem exec_commitDecisionDeadline (s : State) (l : LaneId) :
    exec (.commitDecisionDeadline l) s = .next (s.setLane l (s.lane l).decisionDeadline) := rfl

/-- The members that have not said GO. -/
def LaneSt.withoutGo (x : LaneSt) (c : Commit) : Nat :=
  x.membersWith (fun k => (if k = x.id then c.go else (x.peer k).go) != some true)

section
variable {x : LaneSt} {c : Commit} (hc : x.commit = some c) (hopen : c.apply = false)
  (hdue : c.epoch ≤ x.time.now + 2 * x.tVote * 2 ^ 32)
include hc hopen hdue

theorem LaneSt.decisionDeadline_go (hgo : x.withoutGo c = 0) :
    x.decisionDeadline = x.setCommit (fun c => { c with apply := true }) := by
  unfold LaneSt.decisionDeadline
  rw [hc]
  exact (if_neg (by simpa [hopen] using hdue)).trans (if_pos hgo)

theorem LaneSt.decisionDeadline_abort (hgo : x.withoutGo c ≠ 0) :
    x.decisionDeadline = x.setCommit (fun c' => { c' with reason := some (x.abortReason c (x.withoutGo c)) }) := by
  rw [LaneSt.setCommit_pending hc]
  unfold LaneSt.decisionDeadline
  rw [hc]
  refine (if_neg (by simpa [hopen] using hdue)).trans ((if_neg hgo).trans ?_)
  exact LaneSt.setCommit_pending hc _

end

/-! ## The reason of an abort (R87, R88) -/

/-- The reason that lane `k` stands by as a member: this lane its own, a peer that of its NOGO. -/
def LaneSt.standsBy (x : LaneSt) (c : Commit) (k : LaneId) : Option (Nat × Nat) :=
  if !bit x.members k.num then none
  else if k = x.id then c.reason
  else if (x.peer k).go = some false ∧ (x.peer k).nogo.1 ≠ 0 then some (x.peer k).nogo else none

/-- The reasons held, in the order of the lanes. -/
def LaneSt.reasonsHeld (x : LaneSt) (c : Commit) : List (Nat × Nat) := LaneId.all.filterMap (x.standsBy c)

/-- Reason `r` is the first of `rs` in the order of the table of R88. -/
def isFirstOf (rs : List (Nat × Nat)) (r : Nat × Nat) : Bool := rs.all (fun q => decide (r.1 ≤ q.1))

theorem isFirstOf_iff {rs : List (Nat × Nat)} {r : Nat × Nat} : isFirstOf rs r = true ↔ ∀ q ∈ rs, r.1 ≤ q.1 := by
  simp [isFirstOf]

section
variable {x : LaneSt} {c : Commit} {r : Nat × Nat}

theorem LaneSt.abortReason_eq (missing : Nat) :
    x.abortReason c missing = ((x.reasonsHeld c).find? (isFirstOf (x.reasonsHeld c))).getD (0x4B, missing) := rfl

theorem LaneSt.standsBy_eq_some {k : LaneId} : x.standsBy c k = some r ↔
    bit x.members k.num = true ∧ ((k = x.id ∧ c.reason = some r) ∨
      (k ≠ x.id ∧ (x.peer k).go = some false ∧ (x.peer k).nogo.1 ≠ 0 ∧ (x.peer k).nogo = r)) := by
  unfold LaneSt.standsBy
  by_cases hm : bit x.members k.num = true
  · by_cases hk : k = x.id
    · subst hk
      simp [hm]
    · simp [hm, hk, and_assoc]
  · simp [hm]

theorem LaneSt.mem_reasonsHeld : r ∈ x.reasonsHeld c ↔ ∃ k, x.standsBy c k = some r := by
  have hall : ∀ k, k ∈ LaneId.all := by intro k; cases k <;> decide
  simp [LaneSt.reasonsHeld, hall]

theorem LaneSt.abortReason_none_held (h : ∀ k r, x.standsBy c k ≠ some r) (missing : Nat) :
    x.abortReason c missing = (0x4B, missing) := by
  have hnil : x.reasonsHeld c = [] :=
    List.eq_nil_iff_forall_not_mem.mpr (fun r hr => by
      obtain ⟨k, hk⟩ := LaneSt.mem_reasonsHeld.mp hr
      exact h k r hk)
  rw [LaneSt.abortReason_eq, hnil]
  rfl

/-- With a reason held the abort takes one of those held, and none of them comes before it. -/
theorem LaneSt.abortReason_held (h : ∃ k r, x.standsBy c k = some r) (missing : Nat) :
    x.abortReason c missing ∈ x.reasonsHeld c ∧ ∀ q ∈ x.reasonsHeld c, (x.abortReason c missing).1 ≤ q.1 := by
  obtain ⟨k, r, hr⟩ := h
  obtain ⟨m, hm, hmin⟩ := Finset.exists_min_image (x.reasonsHeld c).toFinset Prod.fst
    ⟨r, List.mem_toFinset.mpr (LaneSt.mem_reasonsHeld.mpr ⟨k, hr⟩)⟩
  have hfirst : isFirstOf (x.reasonsHeld c) m = true :=
    isFirstOf_iff.mpr (fun q hq => hmin q (List.mem_toFinset.mpr hq))
  obtain ⟨f, hf⟩ := Option.isSome_iff_exists.mp (List.find?_isSome.mpr ⟨m, List.mem_toFinset.mp hm, hfirst⟩)
  rw [LaneSt.abortReason_eq, hf]
  exact ⟨List.mem_of_find?_eq_some hf, isFirstOf_iff.mp (List.find?_some hf)⟩

end

/-- Settles O19: each step has its equation for the case that it is due, and the reason of an abort is the least of those
held. -/
theorem commitStepsComplete : Obligations.CommitStepsComplete := by
  unfold Obligations.CommitStepsComplete
  refine ⟨fun s l d rest sec ns length crc h => ?_, fun s l c hc hown => ⟨fun hcrc => ?_, fun hcrc => ?_⟩,
    fun s l src reason payload hacc => ⟨?_, ?_, ?_, ?_⟩,
    fun s l c hc hgo hm hdue => exec_commitReadyDeadline rfl hc hgo hm hdue,
    fun s l c hc hopen hdue => ⟨fun hgo => ?_, fun hgo => ?_⟩, fun x c missing => ⟨fun hnone => ?_, fun hheld => ?_⟩⟩
  · intro y epoch hstep htime hfree hearly hlate hlog
    exact exec_configCommit h rfl hstep (LaneSt.commitChecks_pass htime hfree hearly hlate hlog)
  · rw [exec_commitReadyCheck, LaneSt.readyCheck_badCrc hc hown hcrc]
  · rw [exec_commitReadyCheck, LaneSt.readyCheck_goodCrc hc hown hcrc]
    rfl
  · exact exec_commitRecordReceive hacc 0 reason payload
  · exact exec_commitRecordReceive hacc 1 reason payload
  · exact exec_commitRecordReceive hacc 2 reason payload
  · exact exec_commitRecordReceive hacc 3 reason payload
  · rw [exec_commitDecisionDeadline, LaneSt.decisionDeadline_go hc hopen hdue hgo]
  · rw [exec_commitDecisionDeadline, LaneSt.decisionDeadline_abort hc hopen hdue hgo]
    rfl
  · exact LaneSt.abortReason_none_held (fun k r h => hnone k r (LaneSt.standsBy_eq_some.mp h)) missing
  · obtain ⟨k, r, h⟩ := hheld
    obtain ⟨hmem, hfirst⟩ := LaneSt.abortReason_held ⟨k, r, LaneSt.standsBy_eq_some.mpr h⟩ missing
    obtain ⟨j, hj⟩ := LaneSt.mem_reasonsHeld.mp hmem
    refine ⟨⟨j, LaneSt.standsBy_eq_some.mp hj⟩, fun i q hq => ?_⟩
    exact hfirst q (LaneSt.mem_reasonsHeld.mpr ⟨i, LaneSt.standsBy_eq_some.mpr hq⟩)

/-! ## The epoch (R86, R87, R150, R220, R233, R297) -/

/-- The lane as the epoch finds it: the holds in flight keep their settings, and a tick in progress is over. -/
def LaneSt.epochOld (x : LaneSt) : LaneSt := (List.range 4).foldl LaneSt.endOldTick x.freezeHolds

/-- The image is loaded, its keys, password and SAKs installed. -/
def LaneSt.epochLoad (old : LaneSt) (c : Commit) (img : List Byte) : LaneSt :=
  let a : LaneSt := { old with sec := { old.sec with ywKeys := Vector.replicate 2 [] } }
  (imageItems img).foldl (LaneSt.applyItem c.d.tag) (a.loadImage (imageItems img))

/-- What runs is carried across, each against the settings before. -/
def LaneSt.epochCarry (a old : LaneSt) : LaneSt :=
  let a := a.carryTicks old
  let a := (List.range 24).foldl (fun a p => a.carryPort old p) a
  let a := (List.range 72).foldl (fun a i => a.carryInput old i) a
  let a := (List.range 4).foldl (fun a p => a.carryNet old p) a
  (List.range 2).foldl (fun a k => a.carryChopper old k) a

/-- The image is the stored one, the commit is counted, and the setup is in force. -/
def LaneSt.epochTake (a : LaneSt) (img : List Byte) : LaneSt :=
  ((((a.setImage (storedImage img)).inc CFG.COMMIT_COUNT.VALUE)).wr CFG.STATUS.DEFAULTED 0).takeSetup

/-- The setup hashes of the peers that agreed with that of `old` agree with the new one. -/
def LaneSt.epochHashes (a old : LaneSt) : LaneSt :=
  a.peers.foldl (fun b p => b.setPeer p (fun v =>
    { v with setupHash := if v.setupHash = some old.setupHash then some a.setupHash else v.setupHash })) a

theorem exec_commitEpoch (s : State) (l : LaneId) : exec (.commitEpoch l) s = .next (s.setLane l (s.lane l).epoch) := rfl

section
variable {x : LaneSt} {c : Commit} (hc : x.commit = some c)
include hc

theorem LaneSt.epoch_due (happly : c.apply = true) (hfirst : c.oldFp = none) (hm : x.isMember = true)
    (hdue : c.epoch ≤ x.time.now) :
    let img := x.staged 0 c.length
    let old := x.epochOld
    x.epoch = ((((old.epochLoad c img).epochCarry old).epochTake img).epochHashes old).setCommit
      (fun c => { c with oldFp := some old.configFp }) := by
  simp only [LaneSt.epoch, hc]
  rw [if_neg (by simpa [happly, hfirst, hm] using hdue)]
  simp only [LaneSt.epochOld, LaneSt.epochLoad, LaneSt.epochCarry, LaneSt.epochTake, LaneSt.epochHashes]
  rfl

theorem LaneSt.epoch_early (h : x.time.now < c.epoch) : x.epoch = x := by
  unfold LaneSt.epoch
  rw [hc]
  exact if_pos (.inr (.inr (.inr h)))

end

/-- Settles O20: the epoch runs in five parts, load, carry, take, hashes and the commit's mark, or not at all. -/
theorem epochAppliesTheStagedImage : Obligations.EpochAppliesTheStagedImage := by
  unfold Obligations.EpochAppliesTheStagedImage
  refine ⟨fun s l c hc happly hfirst hm hdue => ?_, fun s l c hc hearly => ?_⟩
  · rw [exec_commitEpoch, LaneSt.epoch_due hc happly hfirst hm hdue]
    simp only [LaneSt.epochOld, LaneSt.epochLoad, LaneSt.epochCarry, LaneSt.epochTake, LaneSt.epochHashes]
    rfl
  · rw [exec_commitEpoch, LaneSt.epoch_early hc hearly, State.setLane_self]

end Sys2Proof.Machine

/-!
SUPPORT. What a voting boundary, the cycle frames and the records of the vote do.
-/

namespace Sys2Proof.Machine

open Sys2Proof

/-! ## The boundary (R76, R91, R102, R114, R443) -/

theorem LaneSt.boundaryFrames_eq (x : LaneSt) (sends : Bool) :
    x.boundaryFrames sends =
      let y := x.rotateFrames
      if sends then
        let z := y.sendFrames.sendCounts
        if z.on SIO.CTRL.EN then z.xchgSend else z
      else ({ y with vote := { y.vote with sent := none } } : LaneSt).fault 0x047 0 := by
  cases sends <;> rfl

/-- A boundary with frames in a lane whose boundaries run: its parts in their order. -/
theorem exec_votingBoundary {s : State} {l : LaneId} (hv : (s.lane l).voting = true) (sends : Bool) :
    let s1 := ((((s.at' l LaneSt.boundaryBegin).ywFollow l).at' l LaneSt.formation).admissions l).applyMembership l
    let s2 := ((s1.at' l (fun x => x.rampStep.outsider)).faultedChannels l).stopEnters l
    let s3 := s2.at' l (fun x => (if x.computes then x.judgeK1 (s2.k1Due l) else x).evalLead)
    let s4 := ((s3.at' l (fun x => x.commitClose.fleetTake.folioClose)).stampResults l).speakers l
    let s5 := (s4.at' l (fun x => x.proofLeavers.telSettle)).napDecide l
    let s6 := (s5.at' l (fun x => x.forceDirect.judgeSlots)).answerBuffer l
    exec (.votingBoundary ⟨l, sends⟩) s = .next ((s6.at' l (fun x => x.boundaryFrames sends)).captures l) := by
  intro s1 s2 s3 s4 s5 s6
  change Host.Outcome.next (s.votingBoundary l sends) = _
  unfold State.votingBoundary
  exact congrArg _ (if_neg (by simp [hv]))

theorem exec_formationWindowExpired {s : State} {l : LaneId} (hself : (s.lane l).self = 4) (hv : (s.lane l).voting = true) :
    exec (.formationWindowExpired l) s = .next (s.setLane l
      { s.lane l with vote := { (s.lane l).vote with formExpired := true } }) := by
  change execFormationWindowExpired l s = _
  rw [execFormationWindowExpired, onLane, if_pos ⟨hself, hv⟩]

/-! ## The END word (R5, R91) -/

theorem crcBit_lt {c : Nat} (h : c < 2 ^ 32) : crcBit c < 2 ^ 32 := by
  have hhalf : c / 2 < 2 ^ 32 := by omega
  unfold crcBit
  split
  · exact Nat.xor_lt_two_pow hhalf (by decide)
  · exact hhalf

theorem crcByte_lt {c : Nat} (h : c < 2 ^ 32) (b : Byte) : crcByte c b < 2 ^ 32 := by
  have hb : c ^^^ b.toNat < 2 ^ 32 := Nat.xor_lt_two_pow h (by omega)
  have hrep : ∀ k, Nat.repeat crcBit k (c ^^^ b.toNat) < 2 ^ 32 := by
    intro k
    induction k with
    | zero => exact hb
    | succ k ih => exact crcBit_lt ih
  exact hrep 8

theorem crc32c_lt (bs : List Byte) : crc32c bs < 2 ^ 32 := by
  have hfold : bs.foldl crcByte 0xFFFFFFFF < 2 ^ 32 :=
    List.foldlRecOn (motive := (· < 2 ^ 32)) bs crcByte (by decide) (fun _ h b _ => crcByte_lt h b)
  unfold crc32c
  exact Nat.xor_lt_two_pow hfold (by decide)

/-- The low 40 bits of a word hold a CRC in the low 32 and a count above it. -/
theorem low40_eq_iff {w crc n : Nat} (h : crc < 2 ^ 32) :
    w % 2 ^ 40 = crc + 2 ^ 32 * n ↔ w % 2 ^ 32 = crc ∧ w / 2 ^ 32 % 2 ^ 8 = n := by
  omega

theorem endChecks_iff (p : LaneId) (f : CycleFrame) (extra : List Dword) (endWord : Dword) :
    endChecks p f extra endWord = true ↔
      endWord.toNat % 2 ^ 32 = crc32c ((frameBody p f ++ extra.map (·.toNat)).flatMap wordBytes) ∧
        endWord.toNat / 2 ^ 32 % 2 ^ 8 = countRecords extra.length (extra.map (·.toNat)) := by
  simp only [endChecks, endWordOf, decide_eq_true_eq, List.length_map]
  exact low40_eq_iff (crc32c_lt _)

/-! ## Cycle frames (R91, R94, R97) -/

/-- What a usable cycle frame of peer `p` tells beside its torques: acknowledgement, lane block, membership; it is the last
one of its sender. -/
def LaneSt.frameNoted (x : LaneSt) (p : LaneId) (f : CycleFrame) : LaneSt :=
  (((x.acked p f.ack).noteBlock p f).noteSelf p f).setPeer p (fun v => { v with fresh := true, last := some f })

section
variable {x : LaneSt} {p : LaneId} {f : CycleFrame} (hlink : (if f.spare then (x.peer p).failed.2 else (x.peer p).failed.1) = false)
include hlink

theorem LaneSt.frameReceive_present (hnow : f.cycle = (x.frameNoted p f).cycleIndex) (hopen : (x.frameNoted p f).vote.done = false) :
    x.frameReceive p f = (x.frameNoted p f).setPeer p (fun v => { v with frame := takeFrame v.frame f, got := linkSet v.got f.spare }) := by
  unfold LaneSt.frameReceive
  exact (if_neg (by simp [hlink])).trans (if_pos ⟨hnow, by rw [← LaneSt.frameNoted, hopen]; rfl⟩)

theorem LaneSt.frameReceive_next (hnow : f.cycle ≠ (x.frameNoted p f).cycleIndex)
    (hnext : f.cycle = ((x.frameNoted p f).cycleIndex + 1) % 2 ^ 32) :
    x.frameReceive p f =
      (x.frameNoted p f).setPeer p (fun v => { v with next := (takeFrame v.next.1 f, linkSet v.next.2 f.spare) }) := by
  unfold LaneSt.frameReceive
  exact (if_neg (by simp [hlink])).trans ((if_neg (fun h => hnow h.1)).trans (if_pos hnext))

end

theorem exec_cycleFrameReceive {s : State} {l p : LaneId} {f : CycleFrame} {extra : List Dword} {endWord : Dword} (hp : p ≠ l)
    (hv : (s.lane l).voting = true) (hend : endChecks p f extra endWord = true) :
    exec (.cycleFrameReceive l p f ⟨extra, endWord⟩) s =
      .next ((s.formStep l p f).setLane l (((s.formStep l p f).lane l).frameReceive p f)) := by
  change Host.Outcome.next (cycleFrameReceive l p (endChecks p f extra endWord) f s) = _
  unfold cycleFrameReceive
  exact congrArg _ (if_neg (by simp [hp, hv, hend]))

theorem exec_cycleFrameReceive_discards {p : LaneId} {f : CycleFrame} {extra : List Dword} {endWord : Dword}
    (hend : endChecks p f extra endWord = false) (s : State) (l : LaneId) :
    exec (.cycleFrameReceive l p f ⟨extra, endWord⟩) s = .next s := by
  change Host.Outcome.next (cycleFrameReceive l p (endChecks p f extra endWord) f s) = _
  unfold cycleFrameReceive
  exact congrArg _ (if_pos (by simp [hend]))

theorem exec_frameRetransmit {s : State} {l : LaneId} {i : Nat}
    (h : (s.lane l).vote.tx.findIdx? (fun x => x.num.isSome && !x.spare && !((s.lane l).peer x.dest).failed.2) = some i) :
    exec (.frameRetransmit l) s = .next (s.setLane l
      { s.lane l with vote := { (s.lane l).vote with tx := (s.lane l).vote.tx.modify i (fun x => { x with spare := true }) } }) := by
  change execFrameRetransmit l s = _
  rw [execFrameRetransmit, onLane, LaneSt.retransmit, h]

/-! ## Records of the vote (R95, R101, R107) -/

theorem LaneSt.proofResult_own {x : LaneSt} {p l : LaneId} (hid : x.id = l) (hsent : (x.peer p).proofSent.isSome = true) (b : Bool) :
    let y := x.setPeer p (fun v => { v with proofSent := none })
    x.proofResult p l b = if b then y else (y.requestExclusion p causePeerVoter).fault 0x046 p.num := by
  intro y
  have hmine : ¬(l ≠ x.id ∨ (x.peer p).proofSent.isNone) := by
    simp [hid, Option.isSome_iff_ne_none.mp hsent]
  exact if_neg hmine

section
variable {s : State} {l : LaneId} {src : Arrival} (hacc : (s.lane l).accepts src = true)
include hacc

theorem exec_linkLossReceive (lost : LaneId) :
    exec (.linkLossReceive l src lost) s = .next (s.setLane l (((s.lane l).heard src 1).lossReceive src.lane lost)) :=
  onReceive_heard (f := fun x => x.lossReceive src.lane lost) hacc

theorem exec_attribReceive :
    let x := (s.lane l).heard src 1
    exec (.attribReceive l src) s = .next (s.setLane l
      (({ x with vote := { x.vote with peerAttr := setBit x.vote.peerAttr src.lane.num true } } : LaneSt).excludePeer src.lane
        causeSelfAttributed)) := by
  change execAttribReceive l src s = _
  rw [execAttribReceive, onReceive_heard hacc]

theorem exec_proofResultReceive (injector : LaneId) (b : Bool) :
    exec (.proofResultReceive l src injector b) s =
      .next (s.setLane l (((s.lane l).heard src 1).proofResult src.lane injector b)) :=
  onReceive_heard (f := fun x => x.proofResult src.lane injector b) hacc

end

/-- Settles O22: the boundary is the sequence of its parts, and each frame or record has an equation for its case. -/
theorem boundariesAndFramesComplete : Obligations.BoundariesAndFramesComplete := by
  unfold Obligations.BoundariesAndFramesComplete
  refine ⟨fun s l sends hv => ?_, fun s l hself hv => exec_formationWindowExpired hself hv,
    fun s l p f extra endWord hp hv hend => ?_, fun s l p f extra endWord hend => exec_cycleFrameReceive_discards hend s l,
    endChecks_iff, fun s l i h => exec_frameRetransmit h, fun s l lost src hacc => exec_linkLossReceive hacc lost,
    fun s l src hacc => exec_attribReceive hacc, fun s l src b hacc => ?_⟩
  · intro s1 s2 s3 s4 s5 s6
    rw [exec_votingBoundary hv, funext (fun x => LaneSt.boundaryFrames_eq x sends)]
  · intro r x hlink y
    rw [exec_cycleFrameReceive hp hv hend]
    refine ⟨fun hnow hopen => ?_, fun hnow hnext => ?_⟩
    · rw [LaneSt.frameReceive_present hlink hnow hopen]
      rfl
    · rw [LaneSt.frameReceive_next hlink hnow hnext]
      rfl
  · intro x hid hsent y
    rw [exec_proofResultReceive hacc, LaneSt.proofResult_own hid hsent]

end Sys2Proof.Machine

/-!
SUPPORT. What the end of attribution, the ends of controlled stops and the fault events of peers do.
-/

namespace Sys2Proof.Machine

open Sys2Proof

/-! ## Attribution (R100, R107) -/

/-- The lane with its attribution over: nothing is counted for the disagreement any more. -/
def LaneSt.attributionOver (x : LaneSt) : LaneSt :=
  let y : LaneSt := { x.wr VOTE.STATUS.ATTRIBUTING 0 with vote := { (x.wr VOTE.STATUS.ATTRIBUTING 0).vote with
    attrTriple := false, selfDis := 0, noMaj := 0 } }
  y.peers.foldl (fun y p => y.setPeer p (fun v => { v with dis := 0 })) y

/-- The ATTRIB record with the checks that found a fault. -/
def LaneSt.sendAttrib (x : LaneSt) (checks : Nat) : LaneSt := x.send 0x07 0 [1 + 2 ^ 8 * checks]

theorem exec_attributionEnd (s : State) (l : LaneId) (found : Bool) :
    exec (.attributionEnd l found) s =
      .next (s.setLane l ((s.lane l).attributionEnd (s.ownChecks l + 64 * b2n found))) := rfl

section
variable {x : LaneSt} (hrun : x.on VOTE.STATUS.ATTRIBUTING = true)
include hrun

/-- The end of a running attribution. -/
theorem LaneSt.attributionEnd_running (checks : Nat) :
    x.attributionEnd checks =
      let y := x.attributionOver
      let z := y.sendAttrib checks
      if checks ≠ 0 then
        if !x.vote.attrTriple && z.vote.peerAttr != 0 then z.enterSafe 2
        else { z.exclude causeSelfAttributed with vote := { (z.exclude causeSelfAttributed).vote with attrSelf := true } }
      else if x.vote.attrTriple then { y with vote := { y.vote with noMajWait := true } }
      else if y.vote.peerAttr ≠ 0 then y
      else y.enterSafe 2 := by
  unfold LaneSt.attributionEnd
  exact if_neg (by simp [hrun])

section
variable {checks : Nat} (hfound : checks ≠ 0)
include hfound

theorem LaneSt.attributionEnd_bothAttributed (hduplex : x.vote.attrTriple = false)
    (hpeer : (x.attributionOver.sendAttrib checks).vote.peerAttr ≠ 0) :
    x.attributionEnd checks = (x.attributionOver.sendAttrib checks).enterSafe 2 := by
  rw [LaneSt.attributionEnd_running hrun]
  exact (if_pos hfound).trans (if_pos (by simp [hduplex, hpeer]))

theorem LaneSt.attributionEnd_own (h : x.vote.attrTriple = true ∨ (x.attributionOver.sendAttrib checks).vote.peerAttr = 0) :
    x.attributionEnd checks =
      let z := (x.attributionOver.sendAttrib checks).exclude causeSelfAttributed
      { z with vote := { z.vote with attrSelf := true } } := by
  rw [LaneSt.attributionEnd_running hrun]
  exact (if_pos hfound).trans (if_neg (by rcases h with h | h <;> simp [h]))

end

section
variable {checks : Nat} (hnone : checks = 0)
include hnone

theorem LaneSt.attributionEnd_triple (htriple : x.vote.attrTriple = true) :
    x.attributionEnd checks =
      { x.attributionOver with vote := { x.attributionOver.vote with noMajWait := true } } := by
  rw [LaneSt.attributionEnd_running hrun]
  exact (if_neg (not_not.mpr hnone)).trans (if_pos htriple)

variable (hduplex : x.vote.attrTriple = false)
include hduplex

theorem LaneSt.attributionEnd_peerAttributed (hpeer : x.attributionOver.vote.peerAttr ≠ 0) :
    x.attributionEnd checks = x.attributionOver := by
  rw [LaneSt.attributionEnd_running hrun]
  exact (if_neg (not_not.mpr hnone)).trans ((if_neg (by simp [hduplex])).trans (if_pos hpeer))

theorem LaneSt.attributionEnd_undecided (hpeer : x.attributionOver.vote.peerAttr = 0) :
    x.attributionEnd checks = x.attributionOver.enterSafe 2 := by
  rw [LaneSt.attributionEnd_running hrun]
  exact (if_neg (not_not.mpr hnone)).trans ((if_neg (by simp [hduplex])).trans (if_neg (by simp [hpeer])))

end

end

/-! ## Controlled stops (R114) -/

/-- The stops of safety functions end where their channels rest, or with `force` where they are. -/
def LaneSt.functionStopsEnd (x : LaneSt) (force : Bool) : LaneSt :=
  (List.range 16).foldl (fun x f =>
    if x.on (SIO.SF_STATUS.STOPPING f) ∧ (force ∨ x.allRest (x.rd (SIO.SF_CTRL.STOP_MAP f))) then x.sfStopEnd f else x) x

theorem LaneSt.stopsEnd_resting {x : LaneSt} {force : Bool} (h : force = true ∨ (x.functionStopsEnd force).allRest 0xFF = true) :
    x.stopsEnd force = (x.functionStopsEnd force).stopDone := if_pos h

theorem LaneSt.stopDone_stopping {x : LaneSt} (h : x.on VOTE.STATUS.STOPPING = true) :
    x.stopDone =
      (((((List.range 8).foldl (fun x n => if (x.ch n).sfStop = 0 then x.stopEnd n else x) x).wr VOTE.STATUS.STOPPING 0).judgeOutputs).raise
        2 4) := by
  unfold LaneSt.stopDone
  rw [if_neg (by simp [h])]
  simp only [decide_eq_true_eq]

theorem exec_controlledStopEnd (s : State) (l : LaneId) :
    exec (.controlledStopEnd l) s = .next (s.setLane l ((s.lane l).stopsEnd false)) := rfl

theorem exec_stopTmaxExpired (s : State) (l : LaneId) :
    exec (.stopTmaxExpired l) s = .next (s.setLane l ((s.lane l).stopsEnd true)) := rfl

/-! ## Fault events of peers (R370, R374) -/

theorem exec_fltEventReceive {s : State} {l : LaneId} {src : Arrival} (hacc : (s.lane l).accepts src = true) (e : BitVec 72)
    (total : Word) :
    exec (.fltEventReceive l src e total) s = .next (s.setLane l (((s.lane l).heard src 1).fltEvent src.lane e.toNat)) :=
  onReceive_heard (f := fun x => x.fltEvent src.lane e.toNat) hacc

theorem LaneSt.fltEvent_fatal (x : LaneSt) (p : LaneId) {e : Nat} (h : e / 2 ^ 51 % 8 = 4) :
    x.fltEvent p e = x.excludePeer p causeSelfFatal := if_pos h

theorem LaneSt.fltEvent_exclReq (x : LaneSt) (p : LaneId) {e : Nat} (h : e / 2 ^ 51 % 8 = 3) :
    x.fltEvent p e = x.excludePeer p (if e / 2 ^ 54 % 2 ^ 10 = 0x066 then causePeerTime else causeSelfRequest) :=
  (if_neg (by omega)).trans (if_pos h)

/-- Settles O24: attribution has one equation for each of its outcomes, and the stops and fault events one each. -/
theorem attributionAndStopsComplete : Obligations.AttributionAndStopsComplete := by
  unfold Obligations.AttributionAndStopsComplete
  refine ⟨fun s l found hrun => ?_, fun s l => ?_, fun s l src e total hacc => ?_⟩
  · intro checks x y z
    rw [exec_attributionEnd]
    refine ⟨fun hfound hduplex hpeer => ?_, fun hfound h => ?_, fun hnone htriple => ?_, fun hnone hduplex hpeer => ?_,
      fun hnone hduplex hpeer => ?_⟩
    · exact congrArg _ (congrArg _ (LaneSt.attributionEnd_bothAttributed hrun hfound hduplex hpeer))
    · exact congrArg _ (congrArg _ (LaneSt.attributionEnd_own hrun hfound h))
    · exact congrArg _ (congrArg _ (LaneSt.attributionEnd_triple hrun hnone htriple))
    · exact congrArg _ (congrArg _ (LaneSt.attributionEnd_peerAttributed hrun hnone hduplex hpeer))
    · exact congrArg _ (congrArg _ (LaneSt.attributionEnd_undecided hrun hnone hduplex hpeer))
  · intro stops
    rw [exec_controlledStopEnd, exec_stopTmaxExpired]
    refine ⟨fun _ hrest => ?_, fun _ => ?_, fun x h => LaneSt.stopDone_stopping h⟩
    · exact congrArg _ (congrArg _ (LaneSt.stopsEnd_resting (.inr hrest)))
    · exact congrArg _ (congrArg _ (LaneSt.stopsEnd_resting (.inl rfl)))
  · intro x code reaction
    rw [exec_fltEventReceive hacc]
    exact ⟨fun h => by rw [LaneSt.fltEvent_fatal _ _ h], fun h => by rw [LaneSt.fltEvent_exclReq _ _ h]⟩

end Sys2Proof.Machine

/-!
SUPPORT. What each step of a readmission does.
-/

namespace Sys2Proof.Machine

open Sys2Proof

/-! ## The proof (R108, R384 to R386) -/

theorem exec_readmissionStart {s : State} {l : LaneId} (hself : (s.lane l).self = 1) (hr : (s.lane l).vote.readmit = .waitRejoin) :
    exec (.readmissionStart l) s = .next (s.setLane l (s.lane l).proofBegin) := by
  change execReadmissionStart l s = _
  rw [execReadmissionStart, onLane, LaneSt.readmissionStart, if_pos ⟨hself, hr⟩]

theorem exec_proofWaitRecheck {s : State} {l : LaneId} (hr : (s.lane l).vote.readmit = .proofWait) :
    exec (.proofWaitRecheck l) s = .next (s.setLane l (s.lane l).proofBegin) := by
  change execProofWaitRecheck l s = _
  rw [execProofWaitRecheck, onLane, LaneSt.proofRecheck, if_pos hr]

theorem exec_fullProofComplete (s : State) (l : LaneId) (fail : Option (Fin 9)) (links : BitVec 4) :
    exec (.fullProofComplete l fail links) s = .next (s.fullProof l fail links.toNat) := rfl

section
variable {s : State} {l : LaneId} (ha : (s.lane l).answers)
include ha

/-- The end of a readmission proof. -/
theorem State.fullProof_readmission (hr : (s.lane l).vote.readmit = .proof) (hrun : (s.lane l).on BIST.STATUS.FULL_RUNNING = true)
    (fail : Option (Fin 9)) (links : Nat) :
    s.fullProof l fail links =
      if fail.isNone then (s.setLane l ((s.lane l).readmissionProof fail)).linksPassed l links
      else s.setLane l ((s.lane l).readmissionProof fail) := by
  unfold State.fullProof
  exact (if_neg (by simp [ha.1, ha.2])).trans (if_pos ⟨hr, hrun⟩)

/-- The end of a start-up proof. -/
theorem State.fullProof_startup
    (hr : ¬((s.lane l).vote.readmit = .proof ∧ (s.lane l).on BIST.STATUS.FULL_RUNNING = true))
    (hoff : (s.lane l).rd PWR.STATUS.STATE = 0) (hres : 2 ≤ (s.lane l).rd BIST.LAST_FULL.RESULT)
    (fail : Option (Fin 9)) (links : Nat) :
    s.fullProof l fail links =
      if fail.isNone then (s.setLane l ((s.lane l).startupProof fail)).linksPassed l links
      else s.setLane l ((s.lane l).startupProof fail) := by
  unfold State.fullProof
  exact (if_neg (by simp [ha.1, ha.2])).trans ((if_neg hr).trans (if_pos ⟨hoff, hres⟩))

end

/-! ## Alignment and transfer (R109, R110) -/

theorem exec_readmitTimeAligned {s : State} {l j : LaneId} (hself : (s.lane l).self = 1) (hr : (s.lane l).vote.readmit = .align)
    (hd : s.donor l = some j) :
    let x := (s.lane l).setTime (s.memberTime l)
    exec (.readmitTimeAligned l) s = .next ((s.setSnap l none).setLane l
      { x with vote := { x.vote with readmit := .static, transfer := [], transferParts := 0 } }) := by
  have hdue : ¬((s.lane l).self ≠ selfExcluded ∨ (s.lane l).vote.readmit ≠ .align ∨ (s.donor l).isNone) := by
    simp [hself, hr, hd, selfExcluded]
  change Host.Outcome.next (s.readmitAligned l) = _
  unfold State.readmitAligned
  exact congrArg _ (if_neg hdue)

section
variable {s : State} {l : LaneId} {src : Arrival} (hacc : (s.lane l).accepts src = true)
include hacc

theorem exec_bulkStaticState {bs : List Byte} (hr : ((s.lane l).heard src (frameCount bs)).vote.readmit = .static)
    (hd : s.donor l = some src.lane) :
    let x := (s.lane l).heard src (frameCount bs)
    exec (.bulkStaticState l src bs) s = .next (s.setLane l { x with vote := { x.vote with transfer := x.vote.transfer ++ bs } }) := by
  change Host.Outcome.next (s.staticState l src bs) = _
  unfold State.staticState
  exact congrArg _ ((if_neg (by simp [hacc])).trans (if_pos ⟨hr, hd⟩))

theorem exec_bulkDynamicState {part : Fin 11} {snap : Snapshot}
    (hr : ((s.lane l).heard src 1).vote.readmit = .static ∨ ((s.lane l).heard src 1).vote.readmit = .dynamic)
    (hd : s.donor l = some src.lane) (hsnap : s.snapOf l = some snap) :
    let y := ((s.lane l).heard src 1).takePart snap part.val
    exec (.bulkDynamicState l src part) s = .next (s.setLane l { y with vote := { y.vote with
      readmit := .dynamic, transferParts := setBit y.vote.transferParts part.val true } }) := by
  change Host.Outcome.next (s.dynamicState l src part.val) = _
  unfold State.dynamicState
  rw [if_neg (by simp [hacc]), hsnap]
  exact congrArg _ (if_pos ⟨hr, hd⟩)

theorem exec_bulkDescriptorCopy (sg : Fin 16) (seq : Word) (bs : List Byte) (at_ : Option Nat) :
    exec (.bulkDescriptorCopy l src sg seq ⟨bs, at_⟩) s =
      .next (s.setLane l (((s.lane l).heard src 1).descriptorCopy sg.val seq.toNat bs at_)) :=
  onReceive_heard (f := fun x => x.descriptorCopy sg.val seq.toNat bs at_) hacc

end

section
variable {x : LaneSt} {sg seq : Nat} {bs : List Byte}

/-- A member takes the bytes it waits for when they have the agreed fingerprint (R79). -/
theorem LaneSt.descriptorCopy_member {w : Nat × Bool × Bool} (hm : x.isMember = true)
    (hw : (x.copiesOf sg seq).wantCopy = some w) (ha : (x.copiesOf sg seq).agreed = some (descFp sg bs)) (at_ : Option Nat) :
    x.descriptorCopy sg seq bs at_ =
      (x.putCopies { x.copiesOf sg seq with wantCopy := none }).pushDecided (decidedAs sg seq bs w) := by
  unfold LaneSt.descriptorCopy
  rw [if_pos hm]
  simp only [hw, ha]
  exact if_neg (not_not.mpr rfl)

/-- A lane that follows the members executes what they do, when they do (R109). -/
theorem LaneSt.descriptorCopy_follower (hm : x.isMember = false) (hr : x.vote.readmit = .dynamic ∨ x.self = 2) (at_ : Option Nat) :
    x.descriptorCopy sg seq bs at_ = x.pushDecided { decided sg seq bs 0 false with instant := at_ } :=
  (if_neg (by simp [hm])).trans (if_pos hr)

end

/-! ## The end of a transfer and of SHADOW (R102, R110) -/

theorem exec_stateTransferComplete {s : State} {l j : LaneId}
    (hr : (s.lane l).vote.readmit = .dynamic ∨ (s.lane l).vote.readmit = .static) (hd : s.donor l = some j) :
    exec (.stateTransferComplete l) s = .next ((s.setSnap l none).setLane l
      (if s.transferOk l (s.lane j) = true then (s.lane l).startShadow (s.lane j) (((s.snapOf l).map (·.donor)).getD (s.lane j))
       else if 1 ≤ (s.lane l).vote.transferFails then (s.lane l).readmitFailed
       else { s.lane l with vote := { (s.lane l).vote with
         readmit := .static, transferFails := 1, transfer := [], transferParts := 0 } })) := by
  have hopen : ¬((s.lane l).vote.readmit ≠ .dynamic ∧ (s.lane l).vote.readmit ≠ .static) := by
    rcases hr with hr | hr <;> simp [hr]
  have hcheck : (s.setSnap l none).transferOk l ((s.setSnap l none).lane j) = s.transferOk l (s.lane j) := by
    simp [State.transferOk]
  change Host.Outcome.next (s.transferEnd l) = _
  unfold State.transferEnd
  rw [if_neg hopen, hd]
  dsimp only
  rw [hcheck, State.setSnap_lane, ← apply_ite (State.setLane (s.setSnap l none) l), ← apply_ite (State.setLane (s.setSnap l none) l)]

theorem exec_shadowTimeout {s : State} {l : LaneId} (hself : (s.lane l).self = 2) :
    exec (.shadowTimeout l) s = .next (s.setLane l (s.lane l).readmitFailed) := by
  change execShadowTimeout l s = _
  rw [execShadowTimeout, onLane, if_pos (show (s.lane l).self = selfShadow from hself)]

/-- Settles O25: each step of a readmission has one equation for the case it stands in. -/
theorem readmissionStepsComplete : Obligations.ReadmissionStepsComplete := by
  unfold Obligations.ReadmissionStepsComplete
  refine ⟨fun s l hself hr => exec_readmissionStart hself hr, fun s l hr => exec_proofWaitRecheck hr,
    fun s l fail links ha => ?_, fun s l j hself hr hd => exec_readmitTimeAligned hself hr hd,
    fun s l src bs hacc => fun hr hd => exec_bulkStaticState hacc hr hd,
    fun s l src part snap hacc => fun hr hd hsnap => exec_bulkDynamicState hacc hr hd hsnap,
    fun s l src sg seq bs at_ hacc => ?_, fun s l j hr hd => exec_stateTransferComplete hr hd,
    fun s l hself => exec_shadowTimeout hself⟩
  · intro readmission startUp
    rw [exec_fullProofComplete]
    refine ⟨fun hr hfail => ?_, fun hr hfail => ?_, fun hs hfail => ?_, fun hs hfail => ?_⟩
    · rw [State.fullProof_readmission ha hr.1 hr.2, if_neg (by simpa using hfail)]
    · subst hfail
      rw [State.fullProof_readmission ha hr.1 hr.2]
      rfl
    · obtain ⟨hr, hoff, hres⟩ := hs
      rw [State.fullProof_startup ha hr hoff hres, if_neg (by simpa using hfail)]
    · obtain ⟨hr, hoff, hres⟩ := hs
      subst hfail
      rw [State.fullProof_startup ha hr hoff hres]
      rfl
  · intro x c
    rw [exec_bulkDescriptorCopy hacc]
    exact ⟨fun w hm hw hag => by rw [LaneSt.descriptorCopy_member hm hw hag],
      fun hm hr => by rw [LaneSt.descriptorCopy_follower hm hr]⟩

end Sys2Proof.Machine

/-!
SUPPORT. What a lane's place in the membership and its voted commands rest on, and the operations that leave it alone.
-/

namespace Sys2Proof.Machine

open Sys2Proof

/-! ## Standing -/

/-- What a lane's membership, its view of its peers and its voted commands rest on. -/
structure Standing where
  id : LaneId
  /-- The words VOTE.STATUS, VOTE.LINKS and FLT.STATUS. -/
  status : Word
  links : Word
  flt : Word
  memb0 : Nat
  memb1 : Nat
  readmit : Readmit
  done : Bool
  voted : Vector Int 8

def LaneSt.standing (x : LaneSt) : Standing :=
  { id := x.id, status := x.word VOTE.STATUS.off, links := x.word VOTE.LINKS.off, flt := x.word FLT.STATUS.off,
    memb0 := x.vote.p0.memb, memb1 := x.vote.p1.memb, readmit := x.vote.readmit, done := x.vote.done, voted := x.vote.voted }

/-- The standing without the voted commands. -/
def Standing.seat (s : Standing) : Standing := { s with voted := Vector.replicate 8 0 }

/-- Whether the lane has voted this cycle, and the voted commands. -/
def Standing.ballot (s : Standing) : Bool × Vector Int 8 := (s.done, s.voted)

/-- A field lies in none of the words of the standing. -/
def Field.Apart (f : Field) : Prop :=
  f.off ≠ 0xC020 ∧ f.off ≠ 0xC024 ∧ f.off ≠ 0x5004 ∧ f.off + 4 ≠ 0xC020 ∧ f.off + 4 ≠ 0xC024 ∧ f.off + 4 ≠ 0x5004

/-- So does every field above VOTE.LINKS. -/
@[simp] theorem apart_above {f : Field} (h : 0xC028 ≤ f.off) : f.Apart := by
  unfold Field.Apart
  omega

@[simp] theorem apart_indexed {base : Nat} (h : 0xC028 ≤ base) (k lo width : Nat) : Field.Apart ⟨base + k, lo, width⟩ :=
  apart_above (Nat.le_add_right_of_le h)

section
variable (l : LaneSt)

@[simp] theorem LaneSt.standing_ite (c : Prop) [Decidable c] (x y : LaneSt) :
    (if c then x else y).standing = if c then x.standing else y.standing := apply_ite _ c x y

/-! ## Registers -/

theorem LaneSt.setWord_standing {off : Nat} (hs : off ≠ 0xC020) (hl : off ≠ 0xC024) (hf : off ≠ 0x5004) (w : Word) :
    (l.setWord off w).standing = l.standing := by
  have hword : ∀ o, o ≠ off → (l.setWord off w).word o = l.word o := fun o h => LaneSt.word_setWord_ne l h w
  simp only [LaneSt.standing, hword _ (Ne.symm hs), hword _ (Ne.symm hl), hword _ (Ne.symm hf), VOTE.STATUS.off, VOTE.LINKS.off, FLT.STATUS.off]
  rfl

@[simp] theorem LaneSt.wr_standing {f : Field} (h : f.Apart) (n : Nat) : (l.wr f n).standing = l.standing := by
  obtain ⟨h1, h2, h3, h4, h5, h6⟩ := h
  unfold LaneSt.wr
  split
  · rw [LaneSt.setWord_standing _ h4 h5 h6, LaneSt.setWord_standing _ h1 h2 h3]
  · exact LaneSt.setWord_standing l h1 h2 h3 _

@[simp] theorem LaneSt.wrI_standing {f : Field} (h : f.Apart) (i : Int) : (l.wrI f i).standing = l.standing :=
  LaneSt.wr_standing l h _

@[simp] theorem LaneSt.wrB_standing {f : Field} (h : f.Apart) (b : Bool) : (l.wrB f b).standing = l.standing :=
  LaneSt.wr_standing l h _

@[simp] theorem LaneSt.inc_standing {f : Field} (h : f.Apart) : (l.inc f).standing = l.standing :=
  LaneSt.wr_standing l h _

theorem satCount_apart {b : Nat} (h : b < 32) : (FLT.SATURATED.COUNT b).Apart := by
  simp only [Field.Apart, FLT.SATURATED.COUNT]
  omega

@[simp] theorem LaneSt.satInc_standing {b : Nat} {f : Field} (hb : b < 32) (h : f.Apart) : (l.satInc b f).standing = l.standing := by
  simp [LaneSt.satInc, h, satCount_apart hb]

/-! ## State that is no register -/

@[simp] theorem LaneSt.setPeer_standing (p : LaneId) {f : PeerView → PeerView} (h : ∀ v, (f v).memb = v.memb) :
    (l.setPeer p f).standing = l.standing := by
  unfold LaneSt.setPeer
  split <;> simp [LaneSt.standing, h, LaneSt.word]

@[simp] theorem LaneSt.setBlk_standing (k : LaneId) (f : LaneBlk → LaneBlk) : (l.setBlk k f).standing = l.standing := rfl
@[simp] theorem LaneSt.setGroup_standing (g : Nat) (f : IrqGroup → IrqGroup) : (l.setGroup g f).standing = l.standing := rfl
@[simp] theorem LaneSt.setSw_standing (i : Nat) (x : Switch) : (l.setSw i x).standing = l.standing := rfl
@[simp] theorem LaneSt.setWait_standing (i : Nat) (b : Bool) : (l.setWait i b).standing = l.standing := rfl
@[simp] theorem LaneSt.setGateCh_standing (n : Nat) (f : GateCh → GateCh) : (l.setGateCh n f).standing = l.standing := rfl
@[simp] theorem LaneSt.setSio_standing (f : SioSt → SioSt) : (l.setSio f).standing = l.standing := rfl
@[simp] theorem LaneSt.setComm_standing (n : Nat) (f : CommCh → CommCh) : (l.setComm n f).standing = l.standing := rfl
@[simp] theorem LaneSt.setAng_standing (n : Nat) (f : AngSt → AngSt) : (l.setAng n f).standing = l.standing := rfl
@[simp] theorem LaneSt.setPg_standing (g : Nat) (f : PgSt → PgSt) : (l.setPg g f).standing = l.standing := rfl
@[simp] theorem LaneSt.setSlot_standing (n : Nat) (f : SlotSt → SlotSt) : (l.setSlot n f).standing = l.standing := rfl
@[simp] theorem LaneSt.setPort_standing (p : Nat) (f : FbkPort → FbkPort) : (l.setPort p f).standing = l.standing := rfl
@[simp] theorem LaneSt.okOutcome_standing (d : Decided) (o m : Nat) : (l.okOutcome d o m).standing = l.standing := rfl
@[simp] theorem LaneSt.complete_standing (d : Decided) (st dt r : Nat) : (l.complete d st dt r).standing = l.standing := rfl

@[simp] theorem LaneSt.sendFrame_standing (p : LaneId) (t h : Nat) (ws : List Nat) : (l.sendFrame p t h ws).standing = l.standing := by
  have hpeer : ∀ n, (l.setPeer p (fun v => { v with txNum := n })).standing = l.standing :=
    fun n => LaneSt.setPeer_standing l p (fun _ => rfl)
  exact hpeer _

@[simp] theorem LaneSt.sendTo_standing (p : LaneId) (t h : Nat) (ws : List Nat) : (l.sendTo p t h ws).standing = l.standing := by
  unfold LaneSt.sendTo
  split
  · rfl
  split
  · split
    · rfl
    · simp
  · exact foldl_keep LaneSt.standing _ (fun _ _ => by simp) _ _

@[simp] theorem LaneSt.send_standing (t h : Nat) (ws : List Nat) : (l.send t h ws).standing = l.standing :=
  foldl_keep LaneSt.standing _ (fun _ _ => by simp) _ _

/-! ## Interrupts -/

theorem groupByte_apart {base b g : Nat} (hbase : base < 0x4700) (hb : b ≤ 1) (hg : g < 32) : (groupByte base b g).Apart := by
  simp only [Field.Apart, groupByte]
  omega

theorem LaneSt.bank_le_one (g : Nat) : l.bank g ≤ 1 := by
  unfold LaneSt.bank
  split <;> omega

theorem group_lt_of_not_reserved {g : Nat} (h : groupReserved g = false) : g < 32 := by
  simp only [groupReserved, Bool.or_eq_false_iff, decide_eq_false_iff_not] at h
  omega

@[simp] theorem LaneSt.pend_standing (g srcs lanes : Nat) (soft : Bool) : (l.pend g srcs lanes soft).standing = l.standing := by
  unfold LaneSt.pend
  split
  · rfl
  · rename_i h
    have hg : g < 32 := group_lt_of_not_reserved (by simpa using h)
    have hcause : (irqCauseF (l.bank g) g).Apart := groupByte_apart (by decide) (l.bank_le_one g) hg
    have hraised : (irqRaisedF (l.bank g) g).Apart := groupByte_apart (by decide) (l.bank_le_one g) hg
    simp [hcause, hraised]

@[simp] theorem LaneSt.raise_standing (g s : Nat) : (l.raise g s).standing = l.standing := by
  simp [LaneSt.raise]

/-! ## Switches, legs and windings -/

theorem gsF_apart (i : Nat) : (gsF i).Apart := by
  unfold gsF
  split
  · simp [GATE.STATUS.GS_H]
  · simp [GATE.STATUS.GS_L]

@[simp] theorem LaneSt.swOff_standing (i : Nat) (soft : Bool) : (l.swOff i soft).standing = l.standing := by
  simp [LaneSt.swOff, gsF_apart]

@[simp] theorem LaneSt.swOn_standing (i : Nat) : (l.swOn i).standing = l.standing := by
  simp [LaneSt.swOn, gsF_apart]

@[simp] theorem LaneSt.driveLeg_standing (m : Nat) (high low : Bool) : (l.driveLeg m high low).standing = l.standing := by
  simp [LaneSt.driveLeg]

@[simp] theorem LaneSt.setLeg_standing (m st : Nat) : (l.setLeg m st).standing = l.standing := by
  simp [LaneSt.setLeg, GATE.STATUS.STATE]

@[simp] theorem LaneSt.setBridge_standing (n st : Nat) : (l.setBridge n st).standing = l.standing := by
  simp [LaneSt.setBridge]

@[simp] theorem LaneSt.setWstate_standing (n w : Nat) : (l.setWstate n w).standing = l.standing := by
  unfold LaneSt.setWstate
  split
  · rfl
  · simp [COMM.STATUS.WSTATE]

@[simp] theorem LaneSt.dropDue_standing (n : Nat) : (l.dropDue n).standing = l.standing := rfl

@[simp] theorem LaneSt.windingOff_standing (n : Nat) : (l.windingOff n).standing = l.standing := by
  simp [LaneSt.windingOff]

@[simp] theorem LaneSt.shortOn_standing (n side : Nat) : (l.shortOn n side).standing = l.standing := by
  simp [LaneSt.shortOn]

@[simp] theorem LaneSt.activeShort_standing (n : Nat) : (l.activeShort n).standing = l.standing :=
  LaneSt.shortOn_standing l n _

@[simp] theorem LaneSt.windingSafe_standing (n : Nat) : (l.windingSafe n).standing = l.standing := by
  simp [LaneSt.windingSafe]

@[simp] theorem LaneSt.windingK5_standing (n : Nat) : (l.windingK5 n).standing = l.standing := by
  simp [LaneSt.windingK5]

@[simp] theorem LaneSt.allSafe_standing : l.allSafe.standing = l.standing :=
  foldl_keep LaneSt.standing _ (fun _ _ => by simp) _ _

@[simp] theorem LaneSt.auxOff_standing : l.auxOff.standing = l.standing :=
  foldl_keep LaneSt.standing _ (fun _ _ => by simp) _ _

@[simp] theorem LaneSt.soChange_standing (k : Nat) (on : Bool) : (l.soChange k on).standing = l.standing := by
  simp [LaneSt.soChange, SIO.SO_STATUS.ON]

@[simp] theorem LaneSt.soOff_standing (k : Nat) : (l.soOff k).standing = l.standing := by
  simp [LaneSt.soOff]

@[simp] theorem LaneSt.outputsOff_standing : l.outputsOff.standing = l.standing :=
  foldl_keep LaneSt.standing _ (fun _ _ => by simp) _ _

/-! ## Slots, outputs and generators -/

@[simp] theorem LaneSt.judgeOutput_standing (k : Nat) : (l.judgeOutput k).standing = l.standing := by
  simp [LaneSt.judgeOutput, SIO.SO_OPS.COUNT]

@[simp] theorem LaneSt.judgeOutputs_standing : l.judgeOutputs.standing = l.standing :=
  foldl_keep LaneSt.standing _ (fun _ _ => by simp) _ _

@[simp] theorem LaneSt.tuneAbort_standing (n code arg : Nat) : (l.tuneAbort n code arg).standing = l.standing := rfl

@[simp] theorem LaneSt.slotIdle_standing (n : Nat) : (l.slotIdle n).standing = l.standing := by
  have hwords : (((((((l.wr (LOOP.STATUS.STATE n) 0).wr (LOOP.OUT.VALUE n) 0).wr (LOOP.INTEG.VALUE n) 0).wr (LOOP.DSTATE.VALUE n) 0).wr
      (LOOP.STATUS.SAT_HI n) 0).wr (LOOP.STATUS.SAT_LO n) 0)).standing = l.standing := by
    simp [LOOP.STATUS.STATE, LOOP.OUT.VALUE, LOOP.INTEG.VALUE, LOOP.DSTATE.VALUE, LOOP.STATUS.SAT_HI, LOOP.STATUS.SAT_LO]
  have htorque : ∀ (y : LaneSt) (t : Vector Int 8), ({ y with vote := { y.vote with torque := t } } : LaneSt).standing = y.standing :=
    fun _ _ => rfl
  unfold LaneSt.slotIdle
  dsimp only
  rw [LaneSt.standing_ite, htorque, ite_self, hwords]

@[simp] theorem LaneSt.judgeSlot_standing (n : Nat) : (l.judgeSlot n).standing = l.standing := by
  unfold LaneSt.judgeSlot
  dsimp only
  split
  · simp [LOOP.STATUS.STATE, LOOP.INTEG.VALUE, LOOP.DSTATE.VALUE]
  · split <;> simp

@[simp] theorem LaneSt.judgeAux_standing : l.judgeAux.standing = l.standing :=
  foldl_keep LaneSt.standing _ (fun _ _ => by simp) _ _

@[simp] theorem LaneSt.judgeSlots_standing : l.judgeSlots.standing = l.standing := by
  unfold LaneSt.judgeSlots
  rw [LaneSt.judgeAux_standing]
  exact foldl_keep LaneSt.standing _ (fun _ _ => by simp) _ _

@[simp] theorem LaneSt.setCh_standing (n st : Nat) : (l.setCh n st).standing = l.standing := by
  unfold LaneSt.setCh
  split
  · rfl
  · simp [COMM.STATUS.STATE]

@[simp] theorem LaneSt.discardQueue_standing (g : Nat) : (l.discardQueue g).standing = l.standing := by
  have hcount : ∀ k, ((List.range k).foldl (fun l _ => l.satInc 9 (PROF.COUNTS.DISCARDED g)) l).standing = l.standing :=
    fun k => foldl_keep LaneSt.standing _ (fun _ _ => by simp [PROF.COUNTS.DISCARDED]) _ _
  simp [LaneSt.discardQueue, PROF.STATUS.QUEUE, hcount]

@[simp] theorem LaneSt.discardBoth_standing (n : Nat) : (l.discardBoth n).standing = l.standing := by
  simp [LaneSt.discardBoth]

@[simp] theorem LaneSt.dropHold_standing (g : Nat) : (l.dropHold g).standing = l.standing := by
  unfold LaneSt.dropHold
  dsimp only
  split
  · split
    · simp [COMM.STATUS.REVERSAL_PENDING]
    · rfl
  · rfl

@[simp] theorem LaneSt.showPlanEnd_standing (g : Nat) : (l.showPlanEnd g).standing = l.standing := by
  unfold LaneSt.showPlanEnd
  split
  · rfl
  · simp [PROF.PLAN_END.TIME]

@[simp] theorem LaneSt.setPlan_standing (g : Nat) (segs : List Seg) (shape : Nat) (target : Int) (stop : Bool) :
    (l.setPlan g segs shape target stop).standing = l.standing := by
  simp [LaneSt.setPlan, PROF.TARGET.VALUE, PROF.STATUS.SHAPE, PROF.COUNTS.REPLANS]

@[simp] theorem LaneSt.replan_standing (g t kind : Nat) (x : Int) (stop redStop : Bool) :
    (l.replan g t kind x stop redStop).1.standing = l.standing := by
  unfold LaneSt.replan
  dsimp only
  split <;> simp

@[simp] theorem LaneSt.replanRest_standing (g t : Nat) : (l.replanRest g t).standing = l.standing := by
  simp [LaneSt.replanRest]

@[simp] theorem LaneSt.stopGen_standing (g t : Nat) (force : Int) : (l.stopGen g t force).standing = l.standing := by
  have hplan : (if l.role g = 1 then l.replanRest g t
      else if l.role g = 2 then ((l.replan g t 2 force true false).1).setPg g (fun s => { s with ask := none }) else l).standing =
        l.standing := by
    simp
  unfold LaneSt.stopGen
  dsimp only
  rw [LaneSt.standing_ite, LaneSt.wr_standing _ (by simp [PROF.STATUS.STATE]), LaneSt.setPg_standing, hplan, ite_self]

/-! ## Channels that stop -/

@[simp] theorem LaneSt.endEnables_standing (n status outcome : Nat) : (l.endEnables n status outcome).standing = l.standing := by
  unfold LaneSt.endEnables
  rw [LaneSt.setComm_standing]
  exact foldl_keep LaneSt.standing _ (fun _ _ => by simp) _ _

@[simp] theorem LaneSt.endDisables_standing (n : Nat) : (l.endDisables n).standing = l.standing := by
  unfold LaneSt.endDisables
  dsimp only
  rw [LaneSt.setComm_standing]
  refine (foldl_keep LaneSt.standing _ (fun _ _ => by simp) _ _).trans ?_
  cases (l.ch n).disable <;> rfl

@[simp] theorem LaneSt.clearRun_standing (n : Nat) : (l.clearRun n).standing = l.standing := rfl

@[simp] theorem LaneSt.clearStop_standing (n : Nat) : (l.clearStop n).standing = l.standing := by
  simp [LaneSt.clearStop, COMM.STATUS.STOPPING]

@[simp] theorem LaneSt.zeroTorque_seat (n : Nat) : (l.zeroTorque n).standing.seat = l.standing.seat := rfl

/-- A channel that is cut loses its voted command; nothing else of the standing changes. -/
@[simp] theorem LaneSt.cut_seat (n dest : Nat) (k5 : Bool) : (l.cut n dest k5).standing.seat = l.standing.seat := by
  simp [LaneSt.cut]

@[simp] theorem LaneSt.toFaulted_seat (n : Nat) (k5 : Bool) : (l.toFaulted n k5).standing.seat = l.standing.seat := by
  unfold LaneSt.toFaulted
  split
  · split <;> simp
  · simp

end

end Sys2Proof.Machine

/-!
SUPPORT. What a fault and an exclusion leave of a lane's standing.
-/

namespace Sys2Proof.Machine

open Sys2Proof

/-- What each step of a fold over the members of a list leaves as it was, the fold leaves. -/
theorem foldl_mem_keep {α β γ : Type} (g : α → γ) {f : α → β → α} {xs : List β} (h : ∀ a, ∀ b ∈ xs, g (f a b) = g a) (a : α) :
    g (xs.foldl f a) = g a :=
  List.foldlRecOn (motive := fun y => g y = g a) xs f rfl (fun y hy b hb => (h y b hb).trans hy)

/-! ## The record of a fault (R367 to R376) -/

/-- A fault as it is recorded and reported, before its reaction acts. -/
def LaneSt.faultNoted (l : LaneSt) (code source : Nat) : LaneSt :=
  let l := l.spoilProof code source
  let r := l.reaction code source
  let e := l.entry code source r
  let src := l.raisesSource code r
  let l := ((l.history code e).tally code e).firstError code source e
  let l := if src then l.raise (16 + 3 * (faultClass code - 1) + code / 32 / 8) (code / 32 % 8) else l
  let chans := l.faultChannels code source
  let also (l : LaneSt) (s : Nat) : LaneSt :=
    (List.range 8).foldl (fun l n => if bit chans n then l.raise (6 + n) s else l) l
  let l := if code / 32 = 10 then also l 5 else if 0x182 ≤ code ∧ code ≤ 0x186 then also l 6 else l
  if r = 0 then l else l.send 0x19 0 [e % 2 ^ 64, e / 2 ^ 64 + 2 ^ 32 * l.rd (FLT.TOTAL.COUNT (code / 32))]

/-- The reaction `r` to a fault. -/
def LaneSt.faultReaction (l : LaneSt) (r code source : Nat) : LaneSt :=
  if r = 2 then l.channelSafe (l.faultChannels code source) code source
  else if r = 3 then l.exclReqReaction code
  else if r = 4 then l.laneFatal code source
  else l

/-- A fault is recorded, then its reaction acts; that of the VOTE events 0x043 to 0x046 sets only the interrupt (R381). -/
theorem LaneSt.fault_eq (l : LaneSt) (code source : Nat) :
    l.fault code source =
      if 0x043 ≤ code ∧ code ≤ 0x046 then l.faultNoted code source
      else (l.faultNoted code source).faultReaction ((l.spoilProof code source).reaction code source) code source := rfl

section
variable (l : LaneSt) {code : Nat} (hcode : code < 0x400)

@[simp] theorem LaneSt.spoilProof_standing (code source : Nat) : (l.spoilProof code source).standing = l.standing := by
  unfold LaneSt.spoilProof
  split
  · rfl
  · split <;> rfl

@[simp] theorem LaneSt.tally_standing (code e : Nat) : (l.tally code e).standing = l.standing := by
  unfold LaneSt.tally
  rfl

include hcode in
theorem LaneSt.history_standing (e : Nat) : (l.history code e).standing = l.standing := by
  have hlo : ∀ k, (FLT.HIST_LO.ENTRY (code / 32) (k % 8)).Apart := fun k => by
    simp only [Field.Apart, FLT.HIST_LO.ENTRY]
    omega
  have hhi : ∀ k, (FLT.HIST_HI.SOURCE (code / 32) (k % 8)).Apart := fun k => by
    simp only [Field.Apart, FLT.HIST_HI.SOURCE]
    omega
  have hnum : ∀ k, (FLT.HIST_NUM.NUMBER (code / 32) (k % 8)).Apart := fun k => by
    simp only [Field.Apart, FLT.HIST_NUM.NUMBER]
    omega
  have htotal : (FLT.TOTAL.COUNT (code / 32)).Apart := by
    simp only [Field.Apart, FLT.TOTAL.COUNT]
    omega
  simp [LaneSt.history, hlo, hhi, hnum, htotal]

include hcode in
theorem LaneSt.firstError_standing (source e : Nat) : (l.firstError code source e).standing = l.standing := by
  have hfirst : ∀ lo w, Field.Apart ⟨0x51C8 + 16 * (code / 32), lo, w⟩ := fun lo w => by
    simp only [Field.Apart]
    omega
  have hns : (FLT.FIRST_NS.NS (code / 32)).Apart := by
    simp only [Field.Apart, FLT.FIRST_NS.NS]
    omega
  unfold LaneSt.firstError
  dsimp only
  split
  · rfl
  · split
    · exact LaneSt.wr_standing l (hfirst _ _) _
    · simp [FLT.FIRST.CODE, FLT.FIRST.CLASS, FLT.FIRST.SOURCE, FLT.FIRST.VALID, FLT.FIRST.T32, hfirst, hns]

include hcode in
/-- The record of a fault leaves the standing as it was. -/
theorem LaneSt.faultNoted_standing (source : Nat) : (l.faultNoted code source).standing = l.standing := by
  have hraise : ∀ (x : LaneSt) (chans s : Nat),
      ((List.range 8).foldl (fun x n => if bit chans n then x.raise (6 + n) s else x) x).standing = x.standing :=
    fun x chans s => foldl_keep LaneSt.standing _ (fun _ _ => by simp) _ _
  unfold LaneSt.faultNoted
  simp only [LaneSt.standing_ite, LaneSt.send_standing, hraise, LaneSt.raise_standing, LaneSt.firstError_standing _ hcode,
    LaneSt.tally_standing, LaneSt.history_standing _ hcode, LaneSt.spoilProof_standing, ite_self]

end

section
variable (l : LaneSt)

@[simp] theorem LaneSt.faultTakes_standing (n : Nat) : (l.faultTakes n).standing = l.standing := by
  have hcomm : ∀ (y : LaneSt) (c : Vector CommCh 8), ({ y with comm := c } : LaneSt).standing = y.standing := fun _ _ => rfl
  unfold LaneSt.faultTakes
  dsimp only
  split
  · rfl
  · rw [hcomm]
    exact foldl_keep LaneSt.standing _ (fun _ _ => by simp) _ _

/-- CHANNEL_SAFE acts on windings and channels only. -/
@[simp] theorem LaneSt.channelSafe_standing (mask code source : Nat) : (l.channelSafe mask code source).standing = l.standing := by
  have hflt : ∀ (y : LaneSt) (f : FltSt), ({ y with flt := f } : LaneSt).standing = y.standing := fun _ _ => rfl
  have hsafe : ((List.range 8).foldl (fun l n => if bit mask n then l.windingSafe n else l) l).standing = l.standing :=
    foldl_keep LaneSt.standing _ (fun _ _ => by simp) _ _
  have htakes : ∀ y : LaneSt, ((List.range 8).foldl (fun y n => if bit mask n then y.faultTakes n else y) y).standing = y.standing :=
    fun y => foldl_keep LaneSt.standing _ (fun _ _ => by simp) _ _
  unfold LaneSt.channelSafe
  dsimp only
  rw [hflt, LaneSt.satInc_standing _ (by decide) (by simp [Field.Apart, FLT.COUNTS.REACT_SAFE]), LaneSt.standing_ite, htakes, ite_self, hsafe]

@[simp] theorem LaneSt.dieSafe_standing (die : Nat) : (l.dieSafe die).standing = l.standing := by
  have hbridges : ((List.range 4).foldl (fun l i =>
      let n := 4 * die + i
      if l.gate.dieUse.getD (3 * n) 0 = 1 then
        l.shortOn n (if l.bridgeSide n = 0 then 1 + (l.gateCh n).dieAsc else l.bridgeSide n)
      else l) l).standing = l.standing := foldl_keep LaneSt.standing _ (fun _ _ => by simp) _ _
  have hlegs : ∀ y : LaneSt, ((List.range 12).foldl (fun l i =>
      let m := 12 * die + i
      if l.gate.dieUse.getD m 0 = 2 ∧ l.rd (GATE.STATUS.STATE m) ≠ 5 then l.setLeg m 0 else l) y).standing = y.standing :=
    fun y => foldl_keep LaneSt.standing _ (fun _ _ => by simp) _ _
  unfold LaneSt.dieSafe
  dsimp only at hbridges hlegs ⊢
  rw [LaneSt.wr_standing _ (by simp [GATE.OV_STATUS.CHP_ON]), LaneSt.standing_ite, LaneSt.setLeg_standing, ite_self, hlegs, hbridges]

@[simp] theorem LaneSt.abortProofs_standing : l.abortProofs.standing = l.standing := by
  have hresult : ∀ c ∈ List.range 6, (BIST.CLS_STATUS.RESULT (c + 1)).Apart := fun c hc => by
    have hlt : c < 6 := List.mem_range.mp hc
    simp only [Field.Apart, BIST.CLS_STATUS.RESULT]
    omega
  have haborted : BIST.COUNTS.ABORTED.Apart := by simp [Field.Apart, BIST.COUNTS.ABORTED]
  have hclasses : ((List.range 6).foldl (fun l c =>
      if (l.bist.active.getD c none).isSome then
        ((l.wr (BIST.CLS_STATUS.RESULT (c + 1)) 3).satInc 18 BIST.COUNTS.ABORTED).raise 14 0
      else l) l).standing = l.standing :=
    foldl_mem_keep LaneSt.standing (fun y c hc => by simp [hresult c hc, haborted]) l
  have hbist : ∀ (y : LaneSt) (b : BistSt), ({ y with bist := b } : LaneSt).standing = y.standing := fun _ _ => rfl
  unfold LaneSt.abortProofs
  dsimp only
  rw [hbist, LaneSt.wr_standing _ (by simp [Field.Apart, BIST.STATUS.SRAM_MIRROR]),
    LaneSt.wr_standing _ (by simp [Field.Apart, BIST.STATUS.ACTIVE]), hclasses]

/-! ## Exclusion (R102, R104, R106) -/

@[simp] theorem LaneSt.wr_ballot (f : Field) (n : Nat) : (l.wr f n).standing.ballot = l.standing.ballot := by
  simp [Standing.ballot, LaneSt.standing]

@[simp] theorem LaneSt.setPeer_ballot (p : LaneId) (f : PeerView → PeerView) :
    (l.setPeer p f).standing.ballot = l.standing.ballot := by
  unfold LaneSt.setPeer
  split <;> rfl

@[simp] theorem Standing.ballot_ite (c : Prop) [Decidable c] (s t : Standing) :
    (if c then s else t).ballot = if c then s.ballot else t.ballot := apply_ite _ c s t

/-- A ballot that both branches of a choice leave. -/
theorem LaneSt.ite_ballot {c : Prop} [Decidable c] {x y : LaneSt} {b : Bool × Vector Int 8} (hx : x.standing.ballot = b)
    (hy : y.standing.ballot = b) : (if c then x else y).standing.ballot = b := by
  split
  · exact hx
  · exact hy

@[simp] theorem LaneSt.setMembers_ballot (m : Nat) : (l.setMembers m).standing.ballot = l.standing.ballot := by
  simp [LaneSt.setMembers]

@[simp] theorem LaneSt.laneSafe_ballot (fatal : Bool) : (l.laneSafe fatal).standing.ballot = l.standing.ballot := by
  simp [LaneSt.laneSafe]

@[simp] theorem LaneSt.noteExclusion_standing (k : LaneId) (cause : Nat) : (l.noteExclusion k cause).standing = l.standing := rfl

/-- Whether this lane has voted and what it has voted stay when it is excluded. -/
@[simp] theorem LaneSt.exclude_ballot (cause : Nat) : (l.exclude cause).standing.ballot = l.standing.ballot := by
  have hvote : ∀ (y : LaneSt) (r : Readmit), ({ y with vote := { y.vote with
      readmit := r, transferFails := 0, exclReq := 0, attrSelf := false } } : LaneSt).standing.ballot = y.standing.ballot :=
    fun _ _ => rfl
  unfold LaneSt.exclude
  split
  · rfl
  · dsimp only
    rw [hvote, LaneSt.wr_ballot, LaneSt.abortProofs_standing, LaneSt.laneSafe_ballot, LaneSt.noteExclusion_standing,
      LaneSt.wr_ballot, LaneSt.setMembers_ballot, LaneSt.wr_ballot]

@[simp] theorem LaneSt.excludePeer_ballot (p : LaneId) (cause : Nat) : (l.excludePeer p cause).standing.ballot = l.standing.ballot := by
  have hvote : ∀ (y : LaneSt) (e : Nat) (g : Option Nat), ({ y with vote := { y.vote with
      exclReq := e, gapFrom := g } } : LaneSt).standing.ballot = y.standing.ballot := fun _ _ _ => rfl
  unfold LaneSt.excludePeer
  dsimp only
  split
  · rfl
  · rw [LaneSt.setBlk_standing, hvote, LaneSt.setPeer_ballot, LaneSt.noteExclusion_standing]

@[simp] theorem LaneSt.requestExclusion_standing (p : LaneId) (cause : Nat) : (l.requestExclusion p cause).standing = l.standing := by
  unfold LaneSt.requestExclusion
  split <;> rfl

@[simp] theorem LaneSt.holdRef_ballot (b : Bool) : (l.holdRef b).standing.ballot = l.standing.ballot := by
  have hvote : ∀ (y : LaneSt) (t : Option Nat), ({ y with vote := { y.vote with holdFrom := t } } : LaneSt).standing.ballot =
      y.standing.ballot := fun _ _ => rfl
  unfold LaneSt.holdRef
  dsimp only
  split
  · rfl
  · split
    · rw [hvote, LaneSt.raise_standing, LaneSt.wr_ballot]
    · rw [hvote, LaneSt.wr_ballot, LaneSt.wr_ballot]

theorem noMajAttrib_apart : VOTE.NOMAJ.ATTRIB.Apart := by simp [VOTE.NOMAJ.ATTRIB]

/-- The begin of attribution (R100, R107), as the counts and requests of a vote call it: the model's own function, whose
name a command of Lean has too, unfolds to this. -/
def LaneSt.attributionBegun (triple : Bool) : LaneSt :=
  if l.on VOTE.STATUS.ATTRIBUTING ∨ l.inSafe then l
  else
    let l := ((l.wr VOTE.STATUS.ATTRIBUTING 1).satInc 2 VOTE.NOMAJ.ATTRIB).holdRef true
    { l with vote := { l.vote with attrTriple := triple, peerAttr := 0 } }

theorem LaneSt.attributionBegun_ballot (triple : Bool) : (l.attributionBegun triple).standing.ballot = l.standing.ballot := by
  have hvote : ∀ (y : LaneSt) (t : Bool) (a : Nat), ({ y with vote := { y.vote with attrTriple := t, peerAttr := a } } : LaneSt).standing.ballot =
      y.standing.ballot := fun _ _ _ => rfl
  unfold LaneSt.attributionBegun
  dsimp only
  split
  · rfl
  · rw [hvote, LaneSt.holdRef_ballot, LaneSt.satInc_standing _ (by decide) noMajAttrib_apart, LaneSt.wr_ballot]

end

end Sys2Proof.Machine

/-!
SUPPORT. VOTE.STATUS of a member, and the entry into SAFE.
-/

namespace Sys2Proof.Machine

open Sys2Proof

/-! ## VOTE.STATUS of a member -/

/-- A write of a word other than its reset value is read back, whatever else the store lists. -/
theorem Sparse.get_set_of_ne {α : Type} [DecidableEq α] {d : Nat → α} {k : Nat} {v : α} (hv : v ≠ d k) :
    ∀ m : List (Nat × α), Sparse.get d (Sparse.set d m k v) k = v
  | [] => by simp [Sparse.set, hv, Sparse.get]
  | (j, w) :: m => by
    unfold Sparse.set
    split
    · simp [Sparse.get]
    · split
      · simp [Sparse.get]
      · rename_i hjk
        rw [Sparse.get, if_neg hjk]
        exact Sparse.get_set_of_ne hv m

/-- VOTE.STATUS shows FORMING at reset. -/
theorem regReset_self (k : LaneId) : getField 4 3 (regReset k 0xC020).toNat = 4 := by
  cases k <;> rfl

/-- A field of VOTE.STATUS other than SELF. -/
def Field.BesideSelf (f : Field) : Prop := f.off = 0xC020 ∧ f.lo + f.width ≤ 32 ∧ (f.lo + f.width ≤ 4 ∨ 7 ≤ f.lo)

section
variable {l : LaneSt} (hm : l.isMember = true) {f : Field} (hf : f.BesideSelf)
include hm hf

/-- A member's VOTE.STATUS is not the reset word, so that a write of it is read back. -/
theorem LaneSt.word_wr_member (n : Nat) :
    (l.wr f n).word 0xC020 = BitVec.ofNat 32 (putField f.lo f.width (l.word 0xC020).toNat n) := by
  obtain ⟨hoff, hfit, hself⟩ := hf
  have hself0 : getField 4 3 (l.word 0xC020).toNat = 0 := of_decide_eq_true hm
  have hput : getField 4 3 (BitVec.ofNat 32 (putField f.lo f.width (l.word 0xC020).toNat n)).toNat = 0 := by
    rw [BitVec.toNat_ofNat, Nat.mod_eq_of_lt (putField_lt hfit (l.word 0xC020).isLt)]
    rcases hself with h | h
    · rw [getField_putField_high h, hself0]
    · rw [getField_putField_low h, hself0]
  have hne : BitVec.ofNat 32 (putField f.lo f.width (l.word 0xC020).toNat n) ≠ regReset l.id 0xC020 := fun h => by
    rw [h, regReset_self] at hput
    cases hput
  have hword : l.wr f n = l.setWord 0xC020 (BitVec.ofNat 32 (putField f.lo f.width (l.word 0xC020).toNat n)) := by
    unfold LaneSt.wr
    rw [if_neg (by omega), hoff]
  rw [hword]
  exact Sparse.get_set_of_ne hne _

theorem LaneSt.rd_wr_member_same (n : Nat) : (l.wr f n).rd f = n % 2 ^ f.width := by
  have hword := LaneSt.word_wr_member hm hf n
  obtain ⟨hoff, hfit, hself⟩ := hf
  unfold LaneSt.rd
  rw [if_neg (by omega), hoff, hword, BitVec.toNat_ofNat, Nat.mod_eq_of_lt (putField_lt hfit (l.word 0xC020).isLt), getField_putField]

theorem LaneSt.rd_wr_member_ne {g : Field} (hg : g.off = 0xC020) (hfit : g.lo + g.width ≤ 32)
    (hd : g.lo + g.width ≤ f.lo ∨ f.lo + f.width ≤ g.lo) (n : Nat) : (l.wr f n).rd g = l.rd g := by
  have hword := LaneSt.word_wr_member hm hf n
  unfold LaneSt.rd
  rw [if_neg (by omega), if_neg (by omega), hg, hword, BitVec.toNat_ofNat,
    Nat.mod_eq_of_lt (putField_lt hf.2.1 (l.word 0xC020).isLt)]
  rcases hd with h | h
  · exact getField_putField_low h
  · exact getField_putField_high h

theorem LaneSt.isMember_wr (n : Nat) : (l.wr f n).isMember = true := by
  have hself : (l.wr f n).self = l.self := LaneSt.rd_wr_member_ne hm hf rfl (by decide) (by
    rcases hf.2.2 with h | h
    · exact .inr h
    · exact .inl h) n
  unfold LaneSt.isMember
  rw [hself]
  exact hm

end

theorem mode_besideSelf : VOTE.STATUS.MODE.BesideSelf := ⟨rfl, by decide, by decide⟩
theorem attributing_besideSelf : VOTE.STATUS.ATTRIBUTING.BesideSelf := ⟨rfl, by decide, by decide⟩
theorem stopping_besideSelf : VOTE.STATUS.STOPPING.BesideSelf := ⟨rfl, by decide, by decide⟩
theorem refHeld_besideSelf : VOTE.STATUS.REF_HELD.BesideSelf := ⟨rfl, by decide, by decide⟩

/-! ## Words of a seat -/

section
variable {x y : LaneSt} (h : y.standing.seat = x.standing.seat)
include h

theorem LaneSt.rd_status_of_seat {f : Field} (hoff : f.off = 0xC020) (hw : f.width ≠ 64) : y.rd f = x.rd f := by
  have hword : y.word 0xC020 = x.word 0xC020 := congrArg Standing.status h
  unfold LaneSt.rd
  rw [if_neg hw, if_neg hw, hoff, hword]

theorem LaneSt.mode_of_seat : y.mode = x.mode := LaneSt.rd_status_of_seat h rfl (by decide)

theorem LaneSt.isMember_of_seat : y.isMember = x.isMember := by
  have hself : y.self = x.self := LaneSt.rd_status_of_seat h rfl (by decide)
  unfold LaneSt.isMember
  rw [hself]

theorem LaneSt.done_of_seat : y.vote.done = x.vote.done := congrArg Standing.done h

end

theorem LaneSt.seat_of_standing {x y : LaneSt} (h : y.standing = x.standing) : y.standing.seat = x.standing.seat :=
  congrArg Standing.seat h

/-! ## SAFE (R102, R103, R116) -/

@[simp] theorem LaneSt.sfCause_standing (l : LaneSt) (f cause m : Nat) : (l.sfCause f cause m).standing = l.standing := by
  simp [LaneSt.sfCause, SIO.SF_STATUS.CAUSE, SIO.SF_STATUS.CAUSE_IN]

/-- VOTE.STATUS as the entry into SAFE writes it. -/
def LaneSt.modeSafe (l : LaneSt) : LaneSt := ((l.wr VOTE.STATUS.MODE 3).wr VOTE.STATUS.ATTRIBUTING 0).wr VOTE.STATUS.STOPPING 0

theorem LaneSt.enterSafe_seat {l : LaneSt} (h : l.inSafe = false) (cause : Nat) :
    (l.enterSafe cause).standing.seat = l.modeSafe.standing.seat := by
  have hvote : ∀ y : LaneSt, ({ y with vote := { y.vote with
      stopCause := cause, stopReq := 0, attrTriple := false, noMajWait := false } } : LaneSt).standing = y.standing := fun _ => rfl
  have hfaulted : ∀ y : LaneSt, ((List.range 8).foldl (fun y n => y.toFaulted n true) y).standing.seat = y.standing.seat :=
    fun y => foldl_keep (fun y : LaneSt => y.standing.seat) _ (fun _ _ => LaneSt.toFaulted_seat _ _ _) _ _
  have hcauses : ∀ y : LaneSt,
      ((List.range 16).foldl (fun y f => if y.sf f = 0 then y else y.sfCause f 0x0A 0xF) y).standing = y.standing :=
    fun y => foldl_keep LaneSt.standing _ (fun _ _ => by simp) _ _
  unfold LaneSt.enterSafe
  rw [if_neg (by simp [h])]
  dsimp only
  rw [LaneSt.raise_standing, LaneSt.raise_standing, hcauses, LaneSt.outputsOff_standing, hfaulted, hvote]
  rfl

theorem LaneSt.modeSafe_member {l : LaneSt} (hm : l.isMember = true) : l.modeSafe.mode = 3 ∧ l.modeSafe.isMember = true := by
  have hm1 := LaneSt.isMember_wr hm mode_besideSelf 3
  have hm2 := LaneSt.isMember_wr hm1 attributing_besideSelf 0
  refine ⟨?_, LaneSt.isMember_wr hm2 stopping_besideSelf 0⟩
  unfold LaneSt.modeSafe LaneSt.mode
  rw [LaneSt.rd_wr_member_ne hm2 stopping_besideSelf rfl (by decide) (by decide),
    LaneSt.rd_wr_member_ne hm1 attributing_besideSelf rfl (by decide) (by decide), LaneSt.rd_wr_member_same hm mode_besideSelf]
  rfl

/-- A member that enters SAFE shows it. -/
theorem LaneSt.enterSafe_member {l : LaneSt} (hm : l.isMember = true) (h : l.inSafe = false) (cause : Nat) :
    (l.enterSafe cause).mode = 3 ∧ (l.enterSafe cause).isMember = true := by
  rw [LaneSt.mode_of_seat (LaneSt.enterSafe_seat h cause), LaneSt.isMember_of_seat (LaneSt.enterSafe_seat h cause)]
  exact LaneSt.modeSafe_member hm

theorem LaneSt.enterSafe_safe {l : LaneSt} (h : l.inSafe = true) (cause : Nat) : l.enterSafe cause = l := if_pos h

theorem holdMax_apart : VOTE.HOLD_MAX.NS.Apart := by simp [VOTE.HOLD_MAX.NS]

/-- The hold of the references does not touch MODE. -/
theorem LaneSt.holdRef_mode {l : LaneSt} (hm : l.isMember = true) (b : Bool) : (l.holdRef b).mode = l.mode := by
  have hhold : ∀ n, (l.wr VOTE.STATUS.REF_HELD n).mode = l.mode := fun n =>
    LaneSt.rd_wr_member_ne hm refHeld_besideSelf rfl (by decide) (by decide) n
  have hvote : ∀ (y : LaneSt) (t : Option Nat), ({ y with vote := { y.vote with holdFrom := t } } : LaneSt).mode = y.mode :=
    fun _ _ => rfl
  unfold LaneSt.holdRef
  dsimp only
  split
  · rfl
  · split
    · rw [hvote, LaneSt.mode_of_seat (LaneSt.seat_of_standing (LaneSt.raise_standing _ 2 5)), hhold]
    · rw [hvote, LaneSt.mode_of_seat (LaneSt.seat_of_standing (LaneSt.wr_standing _ holdMax_apart _)), hhold]

end Sys2Proof.Machine

/-!
SUPPORT. The table of voted values, and what VOTE_COMPUTE makes of it.
-/

namespace Sys2Proof.Machine

open Sys2Proof

/-! ## The table (R98, R479) -/

theorem LaneSt.torqueAgree_untuned {x : LaneSt} {n : Nat} (h : x.tune n = none) (a b : Int) :
    x.torqueAgree n a b = true ↔
      1024 * (a - b).natAbs ≤ 1024 * (256 * x.rd (VOTE.TOL.ABS n)) + x.rd (VOTE.TOL.REL n) * max a.natAbs b.natAbs := by
  simp [LaneSt.torqueAgree, h]

section
variable {x : LaneSt} {n : Nat} {fs : List (LaneId × CycleFrame)}

theorem LaneSt.voteChannel_idle (h : ∀ f ∈ fs, bit f.2.tvalid n = false) : x.voteChannel fs n = ⟨some 0, 0, false, true⟩ :=
  if_pos (List.all_eq_true.mpr (fun f hf => by simp [h f hf]))

theorem LaneSt.voteChannel_partial (hsome : ∃ f ∈ fs, bit f.2.tvalid n = true) (hnot : ∃ f ∈ fs, bit f.2.tvalid n = false) :
    x.voteChannel fs n = ⟨none, 0, false, false⟩ := by
  obtain ⟨f, hf, hmark⟩ := hsome
  obtain ⟨g, hg, hbare⟩ := hnot
  have hidle : ¬(fs.all (fun x => !bit x.2.tvalid n) = true) := fun h => by
    simpa [hmark] using List.all_eq_true.mp h f hf
  have hall : (!fs.all (fun x => bit x.2.tvalid n)) = true := by
    simpa using ⟨g.1, g.2, hg, hbare⟩
  exact (if_neg hidle).trans (if_pos hall)

/-- With every frame marking the channel and none injecting into it the table decides on the frames' values. -/
theorem LaneSt.voteChannel_marked (hne : fs ≠ [])
    (h : ∀ f ∈ fs, bit f.2.tvalid n = true ∧ ¬(f.2.proof = true ∧ f.2.proofCh = n)) :
    x.voteChannel fs n = voteValues (x.torqueAgree n) (fs.map (fun f => (f.1, f.2.torque.getD n 0))) := by
  obtain ⟨f, hf⟩ := List.exists_mem_of_ne_nil fs hne
  have hidle : ¬(fs.all (fun x => !bit x.2.tvalid n) = true) := fun h' => by
    simpa [(h f hf).1] using List.all_eq_true.mp h' f hf
  have hall : fs.all (fun x => bit x.2.tvalid n) = true := List.all_eq_true.mpr (fun g hg => (h g hg).1)
  have hkeep : fs.filter (fun x => !(x.2.proof && x.2.proofCh = n)) = fs :=
    List.filter_eq_self.mpr (fun g hg => by simpa [imp_iff_not_or] using (h g hg).2)
  unfold LaneSt.voteChannel
  rw [if_neg hidle, if_neg (by simp [hall]), hkeep]

end

section
variable (agree : Int → Int → Bool) (x y z : LaneId × Int)

theorem voteValues_two : voteValues agree [x, y] =
    if agree x.2 y.2 then ⟨some (qdiv (x.2 + y.2) 2), 0, false, false⟩
    else ⟨none, 2 ^ x.1.num + 2 ^ y.1.num, false, false⟩ := rfl

theorem voteValues_three : voteValues agree [x, y, z] =
    if !agree x.2 y.2 && !agree x.2 z.2 && !agree y.2 z.2 then ⟨none, 0, true, false⟩
    else ⟨some (median3 x.2 y.2 z.2),
      (if !agree x.2 y.2 && !agree x.2 z.2 then 2 ^ x.1.num else 0) + (if !agree x.2 y.2 && !agree y.2 z.2 then 2 ^ y.1.num else 0)
        + (if !agree x.2 z.2 && !agree y.2 z.2 then 2 ^ z.1.num else 0), false, false⟩ := rfl

end

/-! ## Operations of the vote that leave the ballot alone (R95, R99 to R101, R104, R111) -/

section
variable (l : LaneSt)

theorem LaneSt.faultReaction_ballot (r code source : Nat) : (l.faultReaction r code source).standing.ballot = l.standing.ballot := by
  have hexcl : (l.exclReqReaction code).standing.ballot = l.standing.ballot := by
    have hflt : ∀ (y : LaneSt) (f : FltSt), ({ y with flt := f } : LaneSt).standing = y.standing := fun _ _ => rfl
    unfold LaneSt.exclReqReaction
    dsimp only
    rw [LaneSt.exclude_ballot, hflt, LaneSt.satInc_standing _ (by decide) (by simp [Field.Apart, FLT.COUNTS.REACT_EXCL])]
  have hfatal : (l.laneFatal code source).standing.ballot = l.standing.ballot := by
    have hflt : ∀ (y : LaneSt) (f : FltSt), ({ y with flt := f } : LaneSt).standing = y.standing := fun _ _ => rfl
    unfold LaneSt.laneFatal
    dsimp only
    rw [hflt, LaneSt.laneSafe_ballot, LaneSt.exclude_ballot]
    split
    · rfl
    · simp only [LaneSt.wr_ballot]
  unfold LaneSt.faultReaction
  split
  · rw [LaneSt.channelSafe_standing]
  split
  · exact hexcl
  split
  · exact hfatal
  · rfl

theorem LaneSt.fault_ballot {code : Nat} (hcode : code < 0x400) (source : Nat) :
    (l.fault code source).standing.ballot = l.standing.ballot := by
  rw [LaneSt.fault_eq]
  split
  · rw [LaneSt.faultNoted_standing _ hcode]
  · rw [LaneSt.faultReaction_ballot, LaneSt.faultNoted_standing _ hcode]

@[simp] theorem LaneSt.reportProofs_ballot (fs : List (LaneId × CycleFrame)) : (l.reportProofs fs).standing.ballot = l.standing.ballot :=
  foldl_keep (fun y : LaneSt => y.standing.ballot) _ (fun _ _ => by simp) _ _

@[simp] theorem LaneSt.shadowVote_ballot (vs : List (Nat × ChVote)) (k : LaneId) (f : Option CycleFrame) :
    (l.shadowVote vs k f).standing.ballot = l.standing.ballot := by
  cases f <;> rfl

theorem LaneSt.disagreeF_apart (p : LaneId) : (l.disagreeF p).Apart := by
  unfold LaneSt.disagreeF
  split
  · simp [VOTE.DISAGREE.P0]
  · simp [VOTE.DISAGREE.P1]

@[simp] theorem LaneSt.countVote_ballot (k : LaneId) (dis : Bool) : (l.countVote k dis).standing.ballot = l.standing.ballot := by
  have hcount : ∀ c, (if k = l.id then { l with vote := { l.vote with selfDis := c } }
      else l.setPeer k (fun v => { v with dis := c }) : LaneSt).standing.ballot = l.standing.ballot :=
    fun c => LaneSt.ite_ballot rfl (LaneSt.setPeer_ballot l k _)
  have hpeer : ∀ y : LaneSt, (if k = y.id then y else y.satInc 2 (y.disagreeF k)).standing.ballot = y.standing.ballot :=
    fun y => LaneSt.ite_ballot rfl (congrArg Standing.ballot (LaneSt.satInc_standing y (by decide) (y.disagreeF_apart k)))
  have hfault : ∀ (c : Prop) [Decidable c] (y : LaneSt) (n : Nat), (if c then y.fault 0x044 n else y).standing.ballot = y.standing.ballot :=
    fun c _ y n => LaneSt.ite_ballot (LaneSt.fault_ballot y (by decide) n) rfl
  unfold LaneSt.countVote
  dsimp only
  refine LaneSt.ite_ballot (hcount _) ?_
  rw [hfault, hpeer, LaneSt.setBlk_standing, hcount]

@[simp] theorem LaneSt.countNoMaj_ballot (b : Bool) : (l.countNoMaj b).standing.ballot = l.standing.ballot := by
  have hvote : ∀ (y : LaneSt) (c t : Nat), ({ y with vote := { y.vote with noMaj := c, noMajTotal := t } } : LaneSt).standing.ballot =
      y.standing.ballot := fun _ _ _ => rfl
  have hnomaj : VOTE.NOMAJ.VOTES.Apart := by simp [VOTE.NOMAJ.VOTES]
  unfold LaneSt.countNoMaj
  dsimp only
  split
  · rfl
  · split
    · refine (LaneSt.attributionBegun_ballot _ true).trans ?_
      rw [LaneSt.fault_ballot _ (by decide), hvote, LaneSt.satInc_standing _ (by decide) hnomaj]
    · rw [hvote, LaneSt.satInc_standing _ (by decide) hnomaj]

@[simp] theorem LaneSt.judgeEstablished_ballot : l.judgeEstablished.standing.ballot = l.standing.ballot := by
  unfold LaneSt.judgeEstablished
  dsimp only
  split
  · rfl
  split
  · exact LaneSt.attributionBegun_ballot l false
  split
  · exact LaneSt.exclude_ballot l _
  · exact foldl_keep (fun y : LaneSt => y.standing.ballot) _ (fun y p => congrArg Standing.ballot (y.requestExclusion_standing p _)) _ _

@[simp] theorem LaneSt.judgeRequests_ballot : l.judgeRequests.standing.ballot = l.standing.ballot := by
  have hreq : ∀ y : LaneSt, ({ y with vote := { y.vote with exclReq := 0 } } : LaneSt).standing.ballot = y.standing.ballot := fun _ => rfl
  have hout : ∀ (y : LaneSt) (c : Bool) (p : LaneId) (cause : Nat),
      (if c then (y.holdRef true).excludePeer p cause else y).standing.ballot = y.standing.ballot := by
    intro y c p cause
    split
    · rw [LaneSt.excludePeer_ballot, LaneSt.holdRef_ballot]
    · rfl
  unfold LaneSt.judgeRequests
  dsimp only
  split
  · rfl
  split
  · split
    · exact LaneSt.exclude_ballot l _
    · rw [hout, hout]
  split
  · exact (LaneSt.attributionBegun_ballot _ false).trans (hreq l)
  · rfl

end

end Sys2Proof.Machine

/-!
SUPPORT. VOTE_COMPUTE in a member: the voted commands, the counts of disagreement, and the references.
-/

namespace Sys2Proof.Machine

open Sys2Proof

/-! ## Before the vote (R94, R95, R102) -/

section
variable (l : LaneSt)

theorem LaneSt.showLink_ballot (p : LaneId) : (l.showLink p).standing.ballot = l.standing.ballot := by
  simp [LaneSt.showLink, LaneSt.setDegrade]

theorem LaneSt.failLink_ballot (p : LaneId) (spare : Bool) : (l.failLink p spare).standing.ballot = l.standing.ballot := by
  have htx : ∀ (y : LaneSt) (t : List DoxTx), ({ y with vote := { y.vote with tx := t } } : LaneSt).standing.ballot =
      y.standing.ballot := fun _ _ => rfl
  have hspare : ∀ y : LaneSt, (y.spareUsed 7).standing.ballot = y.standing.ballot := fun y => by
    rw [LaneSt.spareUsed, LaneSt.raise_standing, LaneSt.fault_ballot _ (by decide)]
  have hfault : ∀ y : LaneSt, (((y.satInc 2 VOTE.LINKS.FAILOVERS).showLink p).fault 0x042 p.num).standing.ballot = y.standing.ballot :=
    fun y => by
      rw [LaneSt.fault_ballot _ (by decide), LaneSt.showLink_ballot, LaneSt.satInc, LaneSt.inc, LaneSt.inc]
      exact LaneSt.ite_ballot (LaneSt.wr_ballot y _ _) (LaneSt.wr_ballot y _ _)
  unfold LaneSt.failLink
  dsimp only
  refine LaneSt.ite_ballot ?_ ?_
  · rw [hspare, hfault, htx, LaneSt.setPeer_ballot]
  · rw [hfault, htx, LaneSt.setPeer_ballot]

theorem LaneSt.doxelLost_ballot (p : LaneId) : (l.doxelLost p).standing.ballot = l.standing.ballot := by
  have hfault : (l.fault 0x043 p.num).standing.ballot = l.standing.ballot := LaneSt.fault_ballot l (by decide) _
  unfold LaneSt.doxelLost
  dsimp only
  refine LaneSt.ite_ballot hfault (LaneSt.ite_ballot ?_ (LaneSt.ite_ballot ?_ hfault))
  · rw [LaneSt.exclude_ballot, hfault]
  · rw [LaneSt.excludePeer_ballot, hfault]

theorem LaneSt.judgeLinks_ballot (p : LaneId) : (l.judgeLinks p).standing.ballot = l.standing.ballot := by
  have hsend : ∀ (c : Prop) [Decidable c] (y : LaneSt), (if c then y.send 0x06 p.num [] else y).standing.ballot = y.standing.ballot :=
    fun c _ y => LaneSt.ite_ballot (congrArg Standing.ballot (LaneSt.send_standing y _ _ _)) rfl
  have hfail : ∀ (c : Prop) [Decidable c] (y : LaneSt) (b : Bool),
      (if c then y.failLink p b else y).standing.ballot = y.standing.ballot :=
    fun c _ y b => LaneSt.ite_ballot (y.failLink_ballot p b) rfl
  have hlost : ∀ (c : Prop) [Decidable c] (y : LaneSt), (if c then y.doxelLost p else y).standing.ballot = y.standing.ballot :=
    fun c _ y => LaneSt.ite_ballot (y.doxelLost_ballot p) rfl
  unfold LaneSt.judgeLinks
  dsimp only
  refine LaneSt.ite_ballot rfl ?_
  rw [hlost, hfail, hfail, hsend, LaneSt.setPeer_ballot]

theorem LaneSt.noteLeavers_ballot : l.noteLeavers.standing.ballot = l.standing.ballot := by
  unfold LaneSt.noteLeavers
  refine foldl_keep (fun y : LaneSt => y.standing.ballot) _ (fun y p => ?_) _ _
  split
  · rfl
  · exact LaneSt.ite_ballot (y.excludePeer_ballot p _) rfl

end

/-! ## The vote in its parts (R98 to R101, R106, R111, R479) -/

/-- The votes of the channels on the member frames `fs`. -/
def LaneSt.channelVotes (l : LaneSt) (fs : List (LaneId × CycleFrame)) : List (Nat × ChVote) :=
  (List.range 8).map (fun n => (n, l.voteChannel fs n))

/-- The voted commands are taken, proof frames reported, and the votes of SHADOW lanes counted. -/
def LaneSt.voteTaken (l : LaneSt) (fs : List (LaneId × CycleFrame)) (vs : List (Nat × ChVote)) : LaneSt :=
  let l := (l.setVoted vs).reportProofs fs
  let l := if l.self = selfShadow then l.shadowVote vs l.id l.ownFrame else l
  l.peers.foldl (fun l p => if (l.peer p).memb = selfShadow then l.shadowVote vs p (l.peer p).frame else l) l

/-- The votes of the members are counted, and what they establish acts. -/
def LaneSt.voteJudged (l : LaneSt) (fs : List (LaneId × CycleFrame)) (marked : Nat) (noMaj : Bool) : LaneSt :=
  let l := fs.foldl (fun l x => l.countVote x.1 (bit marked x.1.num)) l
  if l.isMember then (l.countNoMaj noMaj).judgeEstablished.judgeRequests else l

/-- The references follow the vote or are held; a vote that waits for a majority enters SAFE without one. -/
def LaneSt.voteReferenced (l : LaneSt) (bad : Bool) : LaneSt :=
  if !l.isMember then (if l.self = selfShadow ∧ !bad then { l with vote := { l.vote with ref := l.vote.voted } } else l)
  else
    let l := if l.vote.noMajWait then (if bad then l.enterSafe 3 else { l with vote := { l.vote with noMajWait := false } }) else l
    if bad ∨ l.on VOTE.STATUS.ATTRIBUTING ∨ l.memberView.length < popCount 3 l.members then l.holdRef true
    else { l.holdRef false with vote := { l.vote with ref := l.vote.voted, holdFrom := none } }

/-- The lane with the links to its peers judged and its leavers noted, as the vote starts. -/
def LaneSt.voteBegun (x : LaneSt) : LaneSt := (if x.time.stepped then x else x.peers.foldl LaneSt.judgeLinks x).noteLeavers

/-- The vote of a member lane. -/
def LaneSt.memberVote (l : LaneSt) : LaneSt :=
  let fs := l.memberFrames
  let vs := l.channelVotes fs
  let marked := vs.foldl (fun m x => m ||| x.2.marked) 0
  let t := l.voteTaken fs vs
  if t.time.stepped then t
  else (t.voteJudged fs marked (vs.any (fun x => x.2.noMaj))).voteReferenced
    (decide (fs.length < l.memberView.length) || vs.any (fun x => x.2.value.isNone) || marked != 0)

theorem LaneSt.voteCompute_member {x : LaneSt} (hopen : x.vote.done = false) (hv : x.voting = true)
    (hm : ({ x with vote := { x.vote with done := true } } : LaneSt).voteBegun.isMember = true) :
    x.voteCompute = ({ x with vote := { x.vote with done := true } } : LaneSt).voteBegun.memberVote := by
  unfold LaneSt.voteCompute
  rw [if_neg (by simp [hopen, hv])]
  exact if_neg (fun h => by simp [LaneSt.voteBegun] at hm; simp [hm] at h)

end Sys2Proof.Machine

/-!
VOTE_COMPUTE as a whole (O21).
-/

namespace Sys2Proof.Machine

open Sys2Proof

/-! ## The voted commands taken (R98) -/

/-- A channel outside the votes keeps its command. -/
theorem votes_getD_of_not_mem (f : Nat → ChVote) {n : Nat} : ∀ (ns : List Nat) (w : Vector Int 8), n ∉ ns →
    ((ns.map (fun k => (k, f k))).foldl (fun v x => x.2.value.elim v (fun t => v.setIfInBounds x.1 t)) w).getD n 0 = w.getD n 0
  | [], _, _ => rfl
  | k :: ns, w, h => by
    obtain ⟨hne, hns⟩ := not_or.mp (mt List.mem_cons.mpr h)
    rw [List.map_cons, List.foldl_cons, votes_getD_of_not_mem f ns _ hns]
    cases (f k).value with
    | none => rfl
    | some t => simp [Vector.getD, Array.getD_eq_getD_getElem?, Array.getElem?_setIfInBounds_ne (Ne.symm hne)]

/-- A channel with one vote takes its value, or keeps its command where the vote has none. -/
theorem votes_getD (f : Nat → ChVote) {n : Nat} (hn : n < 8) : ∀ (ns : List Nat) (w : Vector Int 8), ns.Nodup → n ∈ ns →
    ((ns.map (fun k => (k, f k))).foldl (fun v x => x.2.value.elim v (fun t => v.setIfInBounds x.1 t)) w).getD n 0 =
      (f n).value.getD (w.getD n 0)
  | k :: ns, w, hnd, hmem => by
    obtain ⟨hk, hns⟩ := List.nodup_cons.mp hnd
    rw [List.map_cons, List.foldl_cons]
    rcases List.mem_cons.mp hmem with rfl | hin
    · rw [votes_getD_of_not_mem f ns _ hk]
      cases (f n).value with
      | none => rfl
      | some t => simp [Vector.getD, Array.getD_eq_getD_getElem?, hn]
    · rw [votes_getD f hn ns _ hns hin]
      have hne : k ≠ n := fun h => hk (h ▸ hin)
      cases (f k).value with
      | none => rfl
      | some t => simp [Vector.getD, Array.getD_eq_getD_getElem?, Array.getElem?_setIfInBounds_ne hne]

theorem LaneSt.setVoted_getD (l : LaneSt) (fs : List (LaneId × CycleFrame)) {n : Nat} (hn : n < 8) :
    ((l.setVoted (l.channelVotes fs)).vote.voted).getD n 0 = (l.voteChannel fs n).value.getD (l.vote.voted.getD n 0) :=
  votes_getD (l.voteChannel fs) hn (List.range 8) l.vote.voted List.nodup_range (List.mem_range.mpr hn)

/-! ## What the parts of the vote leave of it -/

section
variable (l : LaneSt)

theorem LaneSt.voteBegun_ballot : l.voteBegun.standing.ballot = l.standing.ballot := by
  unfold LaneSt.voteBegun
  rw [LaneSt.noteLeavers_ballot]
  exact LaneSt.ite_ballot rfl (foldl_keep (fun y : LaneSt => y.standing.ballot) _ (fun y p => y.judgeLinks_ballot p) _ _)

theorem LaneSt.voteTaken_ballot (fs : List (LaneId × CycleFrame)) (vs : List (Nat × ChVote)) :
    (l.voteTaken fs vs).standing.ballot = (l.setVoted vs).standing.ballot := by
  unfold LaneSt.voteTaken
  refine (foldl_keep (fun y : LaneSt => y.standing.ballot) _ (fun y p => ?_) _ _).trans (LaneSt.ite_ballot ?_ ?_)
  · exact LaneSt.ite_ballot (y.shadowVote_ballot vs p _) rfl
  · rw [LaneSt.shadowVote_ballot, LaneSt.reportProofs_ballot]
  · exact LaneSt.reportProofs_ballot _ fs

theorem LaneSt.voteJudged_ballot (fs : List (LaneId × CycleFrame)) (marked : Nat) (noMaj : Bool) :
    (l.voteJudged fs marked noMaj).standing.ballot = l.standing.ballot := by
  have hcount : ∀ y : LaneSt,
      (fs.foldl (fun y x => y.countVote x.1 (bit marked x.1.num)) y).standing.ballot = y.standing.ballot :=
    fun y => foldl_keep (fun y : LaneSt => y.standing.ballot) _ (fun y (x : LaneId × CycleFrame) => y.countVote_ballot x.1 _) _ _
  unfold LaneSt.voteJudged
  refine LaneSt.ite_ballot ?_ (hcount l)
  rw [LaneSt.judgeRequests_ballot, LaneSt.judgeEstablished_ballot, LaneSt.countNoMaj_ballot, hcount]

end

/-- A vote that waits for a majority: SAFE without one, else the wait ends. -/
def LaneSt.majorityAwaited (l : LaneSt) (bad : Bool) : LaneSt :=
  if l.vote.noMajWait then (if bad then l.enterSafe 3 else { l with vote := { l.vote with noMajWait := false } }) else l

/-- The references of a member held or following. -/
def LaneSt.refsTaken (l : LaneSt) (bad : Bool) : LaneSt :=
  if bad ∨ l.on VOTE.STATUS.ATTRIBUTING ∨ l.memberView.length < popCount 3 l.members then l.holdRef true
  else { l.holdRef false with vote := { l.vote with ref := l.vote.voted, holdFrom := none } }

section
variable {l : LaneSt}

theorem LaneSt.voteReferenced_member (hm : l.isMember = true) (bad : Bool) :
    l.voteReferenced bad = (l.majorityAwaited bad).refsTaken bad := if_neg (by simp [hm])

theorem LaneSt.voteReferenced_outsider (hm : l.isMember = false) (bad : Bool) :
    (l.voteReferenced bad).standing.ballot = l.standing.ballot := by
  unfold LaneSt.voteReferenced
  rw [if_pos (by simp [hm])]
  exact LaneSt.ite_ballot rfl rfl

theorem LaneSt.refsTaken_ballot (bad : Bool) : (l.refsTaken bad).standing.ballot = l.standing.ballot := by
  have hfollow : ∀ y : LaneSt, ({ y with vote := { l.vote with ref := l.vote.voted, holdFrom := none } } : LaneSt).standing.ballot =
      l.standing.ballot := fun _ => rfl
  exact LaneSt.ite_ballot (l.holdRef_ballot true) (hfollow _)

theorem LaneSt.refsTaken_mode (hm : l.isMember = true) (bad : Bool) : (l.refsTaken bad).mode = l.mode := by
  have hfollow : ∀ y : LaneSt, ({ y with vote := { l.vote with ref := l.vote.voted, holdFrom := none } } : LaneSt).mode = y.mode :=
    fun _ => rfl
  unfold LaneSt.refsTaken
  split
  · exact LaneSt.holdRef_mode hm true
  · rw [hfollow, LaneSt.holdRef_mode hm false]

/-- A member keeps its ballot while it waits for a majority, unless it enters SAFE. -/
theorem LaneSt.majorityAwaited_ballot (hm : l.isMember = true) (bad : Bool) :
    (l.majorityAwaited bad).vote.done = l.vote.done ∧ (l.majorityAwaited bad).isMember = true ∧
      ((l.majorityAwaited bad).mode ≠ 3 → (l.majorityAwaited bad).standing.ballot = l.standing.ballot) := by
  unfold LaneSt.majorityAwaited
  split
  · split
    · by_cases hsafe : l.inSafe = true
      · rw [LaneSt.enterSafe_safe hsafe]
        exact ⟨rfl, hm, fun _ => rfl⟩
      · have hout : l.inSafe = false := Bool.eq_false_iff.mpr hsafe
        obtain ⟨hmode, hmem⟩ := LaneSt.enterSafe_member hm hout 3
        refine ⟨?_, hmem, fun h => absurd hmode h⟩
        rw [LaneSt.done_of_seat (LaneSt.enterSafe_seat hout 3)]
        exact congrArg Prod.fst (((LaneSt.wr_ballot _ _ _).trans (LaneSt.wr_ballot _ _ _)).trans (LaneSt.wr_ballot _ _ _))
    · exact ⟨rfl, hm, fun _ => rfl⟩
  · exact ⟨rfl, hm, fun _ => rfl⟩

/-- The references follow without a change of the ballot, unless the lane enters SAFE. -/
theorem LaneSt.voteReferenced_ballot (l : LaneSt) (bad : Bool) :
    (l.voteReferenced bad).vote.done = l.vote.done ∧
      ((l.voteReferenced bad).mode ≠ 3 → (l.voteReferenced bad).standing.ballot = l.standing.ballot) := by
  cases hm : l.isMember with
  | false =>
    have hballot := LaneSt.voteReferenced_outsider hm bad
    exact ⟨congrArg Prod.fst hballot, fun _ => hballot⟩
  | true =>
    obtain ⟨hdone, hmem, hkeep⟩ := LaneSt.majorityAwaited_ballot hm bad
    have htaken : ((l.majorityAwaited bad).refsTaken bad).standing.ballot = (l.majorityAwaited bad).standing.ballot :=
      LaneSt.refsTaken_ballot bad
    rw [LaneSt.voteReferenced_member hm, htaken, LaneSt.refsTaken_mode hmem]
    exact ⟨(congrArg Prod.fst htaken).trans hdone, hkeep⟩

/-- So do the counts before them. -/
theorem LaneSt.judgedReferenced_ballot (l : LaneSt) (fs : List (LaneId × CycleFrame)) (marked : Nat) (noMaj bad : Bool) :
    ((l.voteJudged fs marked noMaj).voteReferenced bad).vote.done = l.vote.done ∧
      (((l.voteJudged fs marked noMaj).voteReferenced bad).mode ≠ 3 →
        ((l.voteJudged fs marked noMaj).voteReferenced bad).standing.ballot = l.standing.ballot) := by
  have hjudged := l.voteJudged_ballot fs marked noMaj
  obtain ⟨hdone, hkeep⟩ := (l.voteJudged fs marked noMaj).voteReferenced_ballot bad
  exact ⟨hdone.trans (congrArg Prod.fst hjudged), fun h => (hkeep h).trans hjudged⟩

/-- A member's vote takes every voted value, unless the lane enters SAFE at it. -/
theorem LaneSt.memberVote_ballot (l : LaneSt) :
    l.memberVote.vote.done = l.vote.done ∧
      (l.memberVote.mode ≠ 3 → l.memberVote.vote.voted = (l.setVoted (l.channelVotes l.memberFrames)).vote.voted) := by
  have htaken := l.voteTaken_ballot l.memberFrames (l.channelVotes l.memberFrames)
  unfold LaneSt.memberVote
  dsimp only
  split
  · exact ⟨congrArg Prod.fst htaken, fun _ => congrArg Prod.snd htaken⟩
  · exact (LaneSt.judgedReferenced_ballot _ _ _ _ _).imp (fun hdone => hdone.trans (congrArg Prod.fst htaken))
      (fun hkeep h => congrArg Prod.snd ((hkeep h).trans htaken))

end

/-! ## The obligation -/

theorem exec_voteCompute (s : State) (l : LaneId) : exec (.voteCompute l) s = .next (s.setLane l (s.lane l).voteCompute) := rfl

/-- Settles O21: the table by its cases; VOTE_COMPUTE takes the voted values in `setVoted`, and what follows leaves them
but for the entry into SAFE. -/
theorem voteFollowsItsTable : Obligations.VoteFollowsItsTable := by
  unfold Obligations.VoteFollowsItsTable
  refine ⟨fun x n a b h => LaneSt.torqueAgree_untuned h a b, fun x n fs => ⟨fun h => ?_, fun h1 h0 => ?_, fun h => ?_⟩, ?_⟩
  · rw [LaneSt.voteChannel_idle h]
  · rw [LaneSt.voteChannel_partial h1 h0]
  · refine ⟨?_, ?_, ?_, ?_⟩
    · rintro p f rfl
      rw [LaneSt.voteChannel_marked (by simp) h]
      rfl
    · rintro p q f g rfl hagree
      rw [LaneSt.voteChannel_marked (by simp) h, List.map_cons, List.map_cons, List.map_nil, voteValues_two, if_pos hagree]
    · rintro p q f g rfl hagree
      rw [LaneSt.voteChannel_marked (by simp) h, List.map_cons, List.map_cons, List.map_nil, voteValues_two,
        if_neg (by simp [hagree])]
    · rintro p q r f g k rfl
      rw [LaneSt.voteChannel_marked (by simp) h, List.map_cons, List.map_cons, List.map_cons, List.map_nil, voteValues_three]
      dsimp only
      refine ⟨?_, ?_, ?_, ?_, ?_⟩
      · rintro ⟨h1, h2, h3⟩
        simp [h1, h2, h3]
      · rintro ⟨h1, h2, h3⟩
        simp [h1, h2, h3]
      · rintro ⟨h1, h2, h3⟩
        simp [h1, h2, h3]
      · rintro ⟨h1, h2, h3⟩
        simp [h1, h2, h3]
      · rintro (⟨h1, h2⟩ | ⟨h1, h2⟩ | ⟨h1, h2⟩) <;> simp [h1, h2]
  · intro s l hv hopen x y hm
    have hvote : (s.lane l).voteCompute = y.memberVote := LaneSt.voteCompute_member hopen hv hm
    obtain ⟨hdone, hkeep⟩ := LaneSt.memberVote_ballot y
    refine ⟨(s.lane l).voteCompute, exec_voteCompute s l, ?_, fun hmode n hn => ?_⟩
    · rw [hvote, hdone]
      exact congrArg Prod.fst (LaneSt.voteBegun_ballot x)
    · rw [hvote] at hmode ⊢
      rw [hkeep hmode]
      exact LaneSt.setVoted_getD y y.memberFrames hn

end Sys2Proof.Machine

/-!
SUPPORT. Properties of a lane that outlive its faults: what the exclusion of the lane, its safe state and the latched
FATAL keep.
-/

namespace Sys2Proof.Machine

open Sys2Proof LaneSt

/-- A field of FLT.STATUS other than ALIVE_RUN. -/
def Field.BesideAlive (f : Field) : Prop := f.off = 0x5004 ∧ f.lo + f.width ≤ 32 ∧ (f.lo + f.width ≤ 1 ∨ 2 ≤ f.lo)

theorem fatal_besideAlive : FLT.STATUS.FATAL.BesideAlive := ⟨rfl, by decide, by decide⟩
theorem fatalCode_besideAlive : FLT.STATUS.FATAL_CODE.BesideAlive := ⟨rfl, by decide, by decide⟩
theorem fatalSource_besideAlive : FLT.STATUS.FATAL_SOURCE.BesideAlive := ⟨rfl, by decide, by decide⟩

/-- A property of lane `k` that rests on its seat and outlives exclusion, the stop of ALIVE and the latched FATAL. -/
structure Lasting (k : LaneId) (I : LaneSt → Prop) : Prop where
  seat : ∀ {x y : LaneSt}, y.standing.seat = x.standing.seat → I x → I y
  exclude : ∀ {x : LaneSt} (cause : Nat), Canon k x → I x → I (x.exclude cause)
  alive : ∀ {x : LaneSt}, Canon k x → I x → I (x.wr FLT.STATUS.ALIVE_RUN 0)
  fatal : ∀ {x : LaneSt} {f : Field} (n : Nat), f.BesideAlive → Canon k x → I x → I (x.wr f n)

/-- The lane is sound and has the property. -/
def Steady (k : LaneId) (I : LaneSt → Prop) (x : LaneSt) : Prop := Canon k x ∧ I x

section
variable {k : LaneId} {I : LaneSt → Prop} {x y : LaneSt}

theorem Steady.ite {c : Prop} [Decidable c] (hx : Steady k I x) (hy : Steady k I y) : Steady k I (if c then x else y) := by
  split
  · exact hx
  · exact hy

theorem Steady.foldl {α : Type} {f : LaneSt → α → LaneSt} {xs : List α} (hf : ∀ y a, Steady k I y → Steady k I (f y a))
    (hx : Steady k I x) : Steady k I (xs.foldl f x) :=
  List.foldlRecOn (motive := Steady k I) xs f hx (fun y hy a _ => hf y a hy)

section
variable (hI : Lasting k I) (hx : Steady k I x)
include hI hx

theorem Lasting.seated (hseat : y.standing.seat = x.standing.seat) (hc : Canon k y) : Steady k I y :=
  ⟨hc, hI.seat hseat hx.2⟩

theorem Lasting.stands (hst : y.standing = x.standing) (hc : Canon k y) : Steady k I y :=
  hI.seated hx (LaneSt.seat_of_standing hst) hc

theorem Lasting.wr {f : Field} (hf : f.Apart) (ho : 4096 ≤ f.off) (n : Nat) : Steady k I (x.wr f n) :=
  hI.stands hx (LaneSt.wr_standing x hf n) (canon_wr hx.1 ho n)

theorem Lasting.excluded (cause : Nat) : Steady k I (x.exclude cause) := ⟨canon_exclude hx.1 cause, hI.exclude cause hx.1 hx.2⟩

theorem Lasting.fatalLatched {f : Field} (hf : f.BesideAlive) (n : Nat) : Steady k I (x.wr f n) :=
  ⟨canon_wr hx.1 (by rw [hf.1]; decide) n, hI.fatal n hf hx.1 hx.2⟩

theorem Lasting.laneSafe (fatal : Bool) : Steady k I (x.laneSafe fatal) := by
  have hout : Steady k I (if x.inSafe then x else x.allSafe.auxOff.outputsOff) :=
    Steady.ite hx (hI.stands hx (by simp) (canon_outputsOff (canon_auxOff (canon_allSafe hx.1))))
  have halive : Steady k I ((if x.inSafe then x else x.allSafe.auxOff.outputsOff).wr FLT.STATUS.ALIVE_RUN 0) :=
    ⟨canon_wr hout.1 (by decide) 0, hI.alive hout.1 hout.2⟩
  refine ⟨canon_laneSafe hx.1 fatal, ?_⟩
  unfold LaneSt.laneSafe
  dsimp only
  split
  · refine hI.seat (LaneSt.seat_of_standing ?_) halive.2
    rw [LaneSt.dieSafe_standing, LaneSt.dieSafe_standing, LaneSt.wr_standing _ (by simp [Field.Apart, GATE.DIE_STATUS.FORCE])]
  · exact halive.2

theorem Lasting.faultNoted {code : Nat} (hcode : code < 0x400) (source : Nat) : Steady k I (x.faultNoted code source) := by
  have hsends : ∀ (c : Prop) [Decidable c] {y : LaneSt} (ws : List Nat), Canon k y → Canon k (if c then y else y.send 0x19 0 ws) :=
    fun c _ y ws h => canon_ite (fun _ => h) (fun _ => canon_send h _ _ _)
  have halso : ∀ (chans s : Nat) {y : LaneSt}, Canon k y →
      Canon k ((List.range 8).foldl (fun y n => if bit chans n then y.raise (6 + n) s else y) y) :=
    fun chans s y h => canon_foldl h (fun y n h => canon_ite (fun _ => canon_raise h _ _) (fun _ => h))
  refine hI.stands hx (LaneSt.faultNoted_standing x hcode source) ?_
  unfold LaneSt.faultNoted
  refine hsends _ _ (canon_ite (fun _ => halso _ _ ?_) (fun _ => canon_ite (fun _ => halso _ _ ?_) (fun _ => ?_)))
  all_goals
    exact canon_ite (fun _ => canon_raise (canon_firstError (canon_tally (canon_history (canon_spoilProof hx.1 _ _) _ _) _ _) _ _ _) _ _)
      (fun _ => canon_firstError (canon_tally (canon_history (canon_spoilProof hx.1 _ _) _ _) _ _) _ _ _)

theorem Lasting.exclReqReaction (code : Nat) : Steady k I (x.exclReqReaction code) := by
  have hflt : ∀ (y : LaneSt) (f : FltSt), ({ y with flt := f } : LaneSt).standing = y.standing := fun _ _ => rfl
  unfold LaneSt.exclReqReaction
  dsimp only
  refine hI.excluded (hI.stands hx ?_ (canon_mk (canon_satInc hx.1 _ _ (by decide)) rfl rfl rfl)) _
  rw [hflt, LaneSt.satInc_standing _ (by decide) (by simp [Field.Apart, FLT.COUNTS.REACT_EXCL])]

theorem Lasting.laneFatal (code source : Nat) : Steady k I (x.laneFatal code source) := by
  have hflt : ∀ (y : LaneSt) (f : FltSt), ({ y with flt := f } : LaneSt).standing = y.standing := fun _ _ => rfl
  unfold LaneSt.laneFatal
  dsimp only
  refine hI.stands (hI.laneSafe (hI.excluded (Steady.ite hx ?_) causeSelfFatal) true) (hflt _ _) ?_
  · exact hI.fatalLatched (hI.fatalLatched (hI.fatalLatched hx fatal_besideAlive 1) fatalCode_besideAlive code)
      fatalSource_besideAlive source
  · exact canon_laneFatal hx.1 code source

/-- What is lasting outlives a fault with any reaction. -/
theorem Lasting.fault {code : Nat} (hcode : code < 0x400) (source : Nat) : Steady k I (x.fault code source) := by
  have hnoted := hI.faultNoted hx hcode source
  have hreact : ∀ r, Steady k I ((x.faultNoted code source).faultReaction r code source) := fun r => by
    unfold LaneSt.faultReaction
    exact Steady.ite (hI.stands hnoted (LaneSt.channelSafe_standing _ _ _ _) (canon_channelSafe hnoted.1 _ _ _))
      (Steady.ite (hI.exclReqReaction hnoted code) (Steady.ite (hI.laneFatal hnoted code source) hnoted))
  rw [LaneSt.fault_eq]
  exact Steady.ite hnoted (hreact _)

end

end

/-! ## Lasting properties of the place in the membership -/

/-- The seat without FLT.STATUS and the readmission. -/
def Standing.place (s : Standing) : Standing := { s.seat with flt := 0, readmit := .none }

theorem LaneSt.wr_fltStatus_place (x : LaneSt) {f : Field} (hoff : f.off = 0x5004) (hw : f.width ≠ 64) (n : Nat) :
    (x.wr f n).standing.place = x.standing.place := by
  have hword : ∀ o, o ≠ 0x5004 → (x.wr f n).word o = x.word o := fun o ho => LaneSt.word_wr_ne x (by rw [hoff]; exact ho) hw n
  simp only [Standing.place, Standing.seat, LaneSt.standing, hword VOTE.STATUS.off (by decide), hword VOTE.LINKS.off (by decide)]
  simp

theorem Standing.place_of_seat {s t : Standing} (h : t.seat = s.seat) : t.place = s.place :=
  congrArg (fun u : Standing => { u with flt := 0, readmit := .none }) h

theorem LaneSt.laneSafe_place (x : LaneSt) (fatal : Bool) : (x.laneSafe fatal).standing.place = x.standing.place := by
  unfold LaneSt.laneSafe
  dsimp only
  have hout : (if x.inSafe then x else x.allSafe.auxOff.outputsOff).standing = x.standing := by
    rw [LaneSt.standing_ite]
    simp
  split
  · rw [LaneSt.dieSafe_standing, LaneSt.dieSafe_standing, LaneSt.wr_standing _ (by simp [Field.Apart, GATE.DIE_STATUS.FORCE]),
      LaneSt.wr_fltStatus_place _ rfl (by decide), hout]
  · rw [LaneSt.wr_fltStatus_place _ rfl (by decide), hout]

/-- A property of the place lasts when the writes of VOTE.STATUS at an exclusion keep it. -/
theorem Lasting.of_place {k : LaneId} {I : LaneSt → Prop}
    (hplace : ∀ {x y : LaneSt}, y.standing.place = x.standing.place → I x → I y)
    (hself : ∀ {x : LaneSt} (n : Nat), Canon k x → I x → I (x.wr VOTE.STATUS.SELF n))
    (hcause : ∀ {x : LaneSt} (n : Nat), Canon k x → I x → I (x.wr VOTE.STATUS.CAUSE n))
    (hmembers : ∀ {x : LaneSt} (m : Nat), Canon k x → I x → I (x.setMembers m)) : Lasting k I where
  seat h := hplace (Standing.place_of_seat h)
  alive _ := hplace (LaneSt.wr_fltStatus_place _ rfl (by decide) 0)
  fatal n hf _ := hplace (LaneSt.wr_fltStatus_place _ hf.1 (by obtain ⟨-, h, -⟩ := hf; omega) n)
  exclude cause hc hx := by
    have hvote : ∀ (y : LaneSt) (r : Readmit), ({ y with vote := { y.vote with
        readmit := r, transferFails := 0, exclReq := 0, attrSelf := false } } : LaneSt).standing.place = y.standing.place :=
      fun _ _ => rfl
    have hlead : HIF.STATUS.LEAD.Apart := by simp [Field.Apart, HIF.STATUS.LEAD]
    have hself' := fun n => (⟨canon_wr hc (by decide) n, hself n hc hx⟩ : Steady k I _)
    have hmembers' := fun n m => (⟨canon_setMembers (hself' n).1 m, hmembers m (hself' n).1 (hself' n).2⟩ : Steady k I _)
    unfold LaneSt.exclude
    split
    · exact hx
    · refine hplace (hvote _ _) (hplace (congrArg Standing.place (LaneSt.wr_standing _ hlead 0))
        (hplace (congrArg Standing.place (LaneSt.abortProofs_standing _)) (hplace (LaneSt.laneSafe_place _ _)
        (hplace (congrArg Standing.place (LaneSt.noteExclusion_standing _ _ _)) ?_))))
      exact hcause cause (hmembers' _ _).1 (hmembers' _ _).2

end Sys2Proof.Machine

/-!
A failed readmission makes the lane DEAD (O26).
-/

namespace Sys2Proof.Machine

open Sys2Proof LaneSt

/-! ## Outside SAFE -/

theorem LaneSt.mode_of_place {x y : LaneSt} (h : y.standing.place = x.standing.place) : y.mode = x.mode := by
  have hword : y.word 0xC020 = x.word 0xC020 := congrArg Standing.status h
  exact congrArg (fun w : Word => getField 0 2 w.toNat) hword

theorem LaneSt.members_of_place {x y : LaneSt} (h : y.standing.place = x.standing.place) : y.members = x.members := by
  have hword : y.word 0xC020 = x.word 0xC020 := congrArg Standing.status h
  exact congrArg (fun w : Word => getField 8 3 w.toNat) hword

theorem LaneSt.inSafe_congr {x y : LaneSt} (hmode : y.mode = x.mode) (hmem : y.members = x.members) : y.inSafe = x.inSafe := by
  unfold LaneSt.inSafe
  rw [hmode, hmem]

section
variable {k : LaneId} {x : LaneSt} (hc : Canon k x)
include hc

/-- A field of VOTE.STATUS that overlaps neither MODE nor MEMBERS leaves SAFE as it is. -/
theorem LaneSt.inSafe_wr_status {f : Field} (hoff : f.off = 0xC020) (hfit : f.lo + f.width ≤ 32)
    (hmode : 2 ≤ f.lo) (hmem : f.lo + f.width ≤ 8 ∨ 11 ≤ f.lo) (n : Nat) : (x.wr f n).inSafe = x.inSafe :=
  LaneSt.inSafe_congr (LaneSt.rd_wr_disjoint (g := VOTE.STATUS.MODE) (regsWf_of_canon hc) hoff.symm hfit (by decide) (.inl hmode) n)
    (LaneSt.rd_wr_disjoint (g := VOTE.STATUS.MEMBERS) (regsWf_of_canon hc) hoff.symm hfit (by decide) hmem.symm n)

/-- A mask of members leads no lane into SAFE. -/
theorem LaneSt.setMembers_notSafe (hx : x.inSafe = false) (m : Nat) : (x.setMembers m).inSafe = false := by
  have hstay : ¬(x.mode = 3 ∧ x.members ≠ 0) := fun h => by simp [LaneSt.inSafe, h.1, h.2] at hx
  have hset : (x.setMembers m).mode = modeOf m % 4 := by
    unfold LaneSt.setMembers
    rw [if_neg hstay]
    exact LaneSt.rd_wr_same (regsWf_of_canon (canon_wr hc (by decide) m)) (by decide) (modeOf m)
  have hmode : modeOf m % 4 ≠ 3 := by
    unfold modeOf
    split
    · decide
    · split <;> decide
  simp [LaneSt.inSafe, hset, hmode]

end

theorem notSafe_lasting (k : LaneId) : Lasting k (fun x => x.inSafe = false) :=
  Lasting.of_place (fun h hx => (LaneSt.inSafe_congr (LaneSt.mode_of_place h) (LaneSt.members_of_place h)).trans hx)
    (fun n hc hx => (LaneSt.inSafe_wr_status hc rfl (by decide) (by decide) (by decide) n).trans hx)
    (fun n hc hx => (LaneSt.inSafe_wr_status hc rfl (by decide) (by decide) (by decide) n).trans hx)
    (fun m hc hx => LaneSt.setMembers_notSafe hc hx m)

/-! ## DEAD after a failed readmission -/

/-- The lane is DEAD with cause READMIT_FAILED, its ALIVE stopped and no readmission under way. -/
def LaneSt.failedDead (x : LaneSt) : Prop :=
  x.self = 3 ∧ x.rd VOTE.STATUS.CAUSE = 0x0B ∧ x.on FLT.STATUS.ALIVE_RUN = false ∧ x.vote.readmit = .none

/-- The lane has taken the failure, its ALIVE aside. -/
def LaneSt.failedSeat (x : LaneSt) : Prop := x.self = 3 ∧ x.rd VOTE.STATUS.CAUSE = 0x0B ∧ x.vote.readmit = .none

theorem LaneSt.failedSeat_of_seat {x y : LaneSt} (h : y.standing.seat = x.standing.seat) (hx : x.failedSeat) : y.failedSeat := by
  obtain ⟨hself, hcause, hreadmit⟩ := hx
  exact ⟨(LaneSt.rd_status_of_seat h rfl (by decide)).trans hself, (LaneSt.rd_status_of_seat h rfl (by decide)).trans hcause,
    (congrArg Standing.readmit h).trans hreadmit⟩

theorem LaneSt.failedSeat_wr {x : LaneSt} {f : Field} (hoff : f.off = 0x5004) (hw : f.width ≠ 64) (n : Nat) (hx : x.failedSeat) :
    (x.wr f n).failedSeat := by
  obtain ⟨hself, hcause, hreadmit⟩ := hx
  have hne : (0xC020 : Nat) ≠ f.off := by omega
  exact ⟨(LaneSt.rd_wr_ne x hne hw (by decide) n).trans hself, (LaneSt.rd_wr_ne x hne hw (by decide) n).trans hcause,
    (congrArg VoteSt.readmit (LaneSt.wr_vote x f n)).trans hreadmit⟩

/-- A lane that is DEAD is excluded no more. -/
theorem LaneSt.exclude_dead {x : LaneSt} (h : x.self = 3) (cause : Nat) : x.exclude cause = x := if_pos (.inr (.inl h))

theorem failedDead_iff (x : LaneSt) : x.failedDead ↔ x.failedSeat ∧ x.on FLT.STATUS.ALIVE_RUN = false := by
  unfold LaneSt.failedDead LaneSt.failedSeat
  tauto

theorem LaneSt.aliveRun_of_seat {x y : LaneSt} (h : y.standing.seat = x.standing.seat) :
    y.on FLT.STATUS.ALIVE_RUN = x.on FLT.STATUS.ALIVE_RUN := by
  have hword : y.word 0x5004 = x.word 0x5004 := congrArg Standing.flt h
  exact congrArg (fun w : Word => getField 1 1 w.toNat != 0) hword

theorem LaneSt.aliveRun_stopped {k : LaneId} {x : LaneSt} (hc : Canon k x) : (x.wr FLT.STATUS.ALIVE_RUN 0).on FLT.STATUS.ALIVE_RUN = false := by
  unfold LaneSt.on
  rw [LaneSt.rd_wr_same (regsWf_of_canon hc) (by decide)]
  rfl

theorem failedDead_lasting (k : LaneId) : Lasting k LaneSt.failedDead where
  seat h hx := by
    obtain ⟨hseat, halive⟩ := (failedDead_iff _).mp hx
    exact (failedDead_iff _).mpr ⟨LaneSt.failedSeat_of_seat h hseat, (LaneSt.aliveRun_of_seat h).trans halive⟩
  exclude cause _ hx := by rwa [LaneSt.exclude_dead hx.1]
  alive hc hx := by
    obtain ⟨hseat, -⟩ := (failedDead_iff _).mp hx
    exact (failedDead_iff _).mpr ⟨LaneSt.failedSeat_wr rfl (by decide) 0 hseat, LaneSt.aliveRun_stopped hc⟩
  fatal {x f} n hf hc hx := by
    obtain ⟨hseat, halive⟩ := (failedDead_iff _).mp hx
    obtain ⟨hoff, hfit, hbeside⟩ := hf
    refine (failedDead_iff _).mpr ⟨LaneSt.failedSeat_wr hoff (by omega) n hseat, ?_⟩
    have hrd : (x.wr f n).rd FLT.STATUS.ALIVE_RUN = x.rd FLT.STATUS.ALIVE_RUN :=
      LaneSt.rd_wr_disjoint (g := FLT.STATUS.ALIVE_RUN) (regsWf_of_canon hc) hoff.symm hfit (by decide) hbeside.symm n
    unfold LaneSt.on
    rw [hrd]
    exact halive

/-- The lane as the failure writes it, before its safe state. -/
def LaneSt.failureNoted (x : LaneSt) : LaneSt :=
  let x := (x.wr VOTE.STATUS.SELF selfDead).wr VOTE.STATUS.CAUSE causeReadmitFailed
  (x.noteExclusion x.id causeReadmitFailed).setReadmit .none

theorem LaneSt.failureNoted_canon {k : LaneId} {x : LaneSt} (hc : Canon k x) : Canon k x.failureNoted :=
  canon_setReadmit (canon_noteExclusion (canon_wr (canon_wr hc (by decide) _) (by decide) _) _ _) _

theorem LaneSt.failureNoted_seat {k : LaneId} {x : LaneSt} (hc : Canon k x) : x.failureNoted.failedSeat := by
  have hw := regsWf_of_canon hc
  have hw1 := regsWf_of_canon (canon_wr hc (show 4096 ≤ VOTE.STATUS.SELF.off by decide) selfDead)
  have hself : ((x.wr VOTE.STATUS.SELF selfDead).wr VOTE.STATUS.CAUSE causeReadmitFailed).rd VOTE.STATUS.SELF = 3 := by
    rw [LaneSt.rd_wr_disjoint (f := VOTE.STATUS.CAUSE) (g := VOTE.STATUS.SELF) hw1 rfl (by decide) (by decide) (by decide), LaneSt.rd_wr_same hw (by decide)]
    rfl
  have hcause : ((x.wr VOTE.STATUS.SELF selfDead).wr VOTE.STATUS.CAUSE causeReadmitFailed).rd VOTE.STATUS.CAUSE = 0x0B := by
    rw [LaneSt.rd_wr_same hw1 (by decide)]
    rfl
  have hnote : ∀ (y : LaneSt) (f : Field), ((y.noteExclusion y.id causeReadmitFailed).setReadmit .none).rd f = y.rd f := fun _ _ => rfl
  exact ⟨(hnote _ _).trans hself, (hnote _ _).trans hcause, rfl⟩

/-- The safe state stops ALIVE. -/
theorem LaneSt.laneSafe_failedDead {k : LaneId} {x : LaneSt} (hc : Canon k x) (hx : x.failedSeat) :
    Steady k LaneSt.failedDead (x.laneSafe false) := by
  have hsafe : x.laneSafe false = (if x.inSafe then x else x.allSafe.auxOff.outputsOff).wr FLT.STATUS.ALIVE_RUN 0 := by
    unfold LaneSt.laneSafe
    exact if_neg Bool.false_ne_true
  refine ⟨canon_laneSafe hc false, (failedDead_iff _).mpr ?_⟩
  rw [hsafe]
  have hout : (if x.inSafe then x else x.allSafe.auxOff.outputsOff).standing = x.standing := by
    rw [LaneSt.standing_ite]
    simp
  have hcanon : Canon k (if x.inSafe then x else x.allSafe.auxOff.outputsOff) :=
    canon_ite (fun _ => hc) (fun _ => canon_outputsOff (canon_auxOff (canon_allSafe hc)))
  exact ⟨LaneSt.failedSeat_wr rfl (by decide) 0 (LaneSt.failedSeat_of_seat (LaneSt.seat_of_standing hout) hx),
    LaneSt.aliveRun_stopped hcanon⟩

/-! ## The change log, and the failure itself (R102, R415) -/

theorem fwStateF_apart (n : Nat) : (fwStateF n).Apart := by
  unfold fwStateF
  split
  · simp [Field.Apart, SEC.FW_STATUS.SLOT_A]
  · simp [Field.Apart, SEC.FW_STATUS.SLOT_B]

theorem LaneSt.wr512_logHead_standing (x : LaneSt) (bs : List Byte) : (x.wr512 CFG.LOG_HEAD.BYTES bs).standing = x.standing := by
  have hapart : ∀ i ∈ List.range 16, (CFG.LOG_HEAD.BYTES i).Apart := fun i hi => by
    have hlt := List.mem_range.mp hi
    simp only [Field.Apart, CFG.LOG_HEAD.BYTES]
    omega
  exact foldl_mem_keep LaneSt.standing (fun y i hi => LaneSt.wr_standing y (hapart i hi) _) x

theorem LaneSt.showLog_standing (x : LaneSt) : x.showLog.standing = x.standing := by
  have hheld : CFG.LOG_STATUS.HELD.Apart := by simp [Field.Apart, CFG.LOG_STATUS.HELD]
  have hfull : CFG.LOG_STATUS.FULL.Apart := by simp [Field.Apart, CFG.LOG_STATUS.FULL]
  rw [LaneSt.showLog, LaneSt.wrB_standing _ hfull, LaneSt.wr_standing _ hheld]

section
variable {k : LaneId} {I : LaneSt → Prop} {x : LaneSt} (hI : Lasting k I) (hx : Steady k I x)
include hI hx

/-- An entry of the change log is added, or its fault raised. -/
theorem Lasting.appendLog (kind arg tag oldFp newFp : Nat) (recovered : Bool) :
    Steady k I (x.appendLog kind arg tag oldFp newFp recovered) := by
  have hlog : ∀ y : LaneSt, ∀ es, ({ y with sec := { y.sec with log := es } } : LaneSt).standing = y.standing := fun _ _ => rfl
  have hcanon := canon_appendLog hx.1 kind arg tag oldFp newFp recovered
  have hnumber : CFG.LOG_NUMBER.NUMBER.Apart := by simp [Field.Apart, CFG.LOG_NUMBER.NUMBER]
  have hfull : Steady k I ((x.inc (FLT.SATURATED.COUNT 20)).fault 0x284 0) :=
    hI.fault (hI.stands hx (LaneSt.inc_standing x (satCount_apart (by decide))) (canon_inc hx.1 _ (by decide))) (by decide) 0
  refine ⟨hcanon, ?_⟩
  unfold LaneSt.appendLog
  split
  · exact hfull.2
  · refine hI.seat (LaneSt.seat_of_standing ?_) hx.2
    dsimp only
    rw [LaneSt.showLog_standing, LaneSt.wr512_logHead_standing, LaneSt.inc_standing _ hnumber, hlog]

theorem Lasting.trialFailed : Steady k I x.trialFailed := by
  have hoff : 4096 ≤ (fwStateF (x.rd SEC.FW_STATUS.RUNNING)).off := by
    unfold fwStateF
    split <;> decide
  exact Steady.ite hx (hI.appendLog (hI.wr hx (fwStateF_apart _) hoff 3) _ _ _ _ _ _)

end

/-- A failed readmission outside SAFE makes the lane DEAD. -/
theorem LaneSt.readmitFailed_dead {k : LaneId} {x : LaneSt} (hx : Steady k (fun y => y.inSafe = false) x) :
    Steady k LaneSt.failedDead x.readmitFailed := by
  have hdead : x.readmitFailed = (x.failureNoted.laneSafe false).trialFailed := if_neg (Bool.eq_false_iff.mp hx.2)
  rw [hdead]
  exact (failedDead_lasting k).trialFailed (LaneSt.laneSafe_failedDead (LaneSt.failureNoted_canon hx.1) (LaneSt.failureNoted_seat hx.1))

end Sys2Proof.Machine

/-!
The ports come back after a failed readmission proof; the lane is DEAD (O26).
-/

namespace Sys2Proof.Machine

open Sys2Proof LaneSt

/-! ## The end of the proof -/

section
variable (l : LaneSt)

theorem LaneSt.fresh_standing : l.fresh.2.standing = l.standing := rfl

theorem LaneSt.proofEnded_standing (step : Fin 9) : (l.proofEnded (some step)).standing = l.standing := by
  have hrun : BIST.STATUS.FULL_RUNNING.Apart := by simp [Field.Apart, BIST.STATUS.FULL_RUNNING]
  have hresult : BIST.LAST_FULL.RESULT.Apart := by simp [Field.Apart, BIST.LAST_FULL.RESULT]
  have hstep : BIST.LAST_FULL.FAIL_STEP.Apart := by simp [Field.Apart, BIST.LAST_FULL.FAIL_STEP]
  have hdur : BIST.LAST_FULL.DURATION.Apart := by simp [Field.Apart, BIST.LAST_FULL.DURATION]
  have hstuck : BIST.COVERAGE.STUCK_AT.Apart := by simp [Field.Apart, BIST.COVERAGE.STUCK_AT]
  have htrans : BIST.COVERAGE.TRANSITION.Apart := by simp [Field.Apart, BIST.COVERAGE.TRANSITION]
  unfold LaneSt.proofEnded
  dsimp only
  split
  · rw [LaneSt.wr_standing _ hdur, LaneSt.wr_standing _ hstep, LaneSt.wr_standing _ hresult, LaneSt.fresh_standing,
      LaneSt.wr_standing _ hrun]
  · rw [LaneSt.wr_standing _ htrans, LaneSt.wr_standing _ hstuck, LaneSt.wr_standing _ hdur, LaneSt.wr_standing _ hstep,
      LaneSt.wr_standing _ hresult, LaneSt.fresh_standing, LaneSt.wr_standing _ hrun]

/-! ## A port returns to ACQUIRE (R220, R224) -/

theorem fbk_apart {f : Field} (h : 0x20000 ≤ f.off) : f.Apart := apart_above (Nat.le_trans (by decide) h)

/-- The registers of the ports begin at 0x20000. -/
theorem fbk_off {base k : Nat} (h : 0x20000 ≤ base) : 0x20000 ≤ base + k := Nat.le_add_right_of_le h

theorem LaneSt.judgeAbs_standing (p : Nat) : (l.judgeAbs p).standing = l.standing :=
  LaneSt.wrB_standing l (fbk_apart (fbk_off (by decide))) _

theorem LaneSt.sourceBad_standing (p : Nat) : (l.sourceBad p).standing = l.standing :=
  foldl_keep LaneSt.standing _ (fun _ _ => LaneSt.setAng_standing _ _ _) _ _

theorem LaneSt.setPos_standing (p : Nat) : (l.setPos p).standing = l.standing := by
  have hmail : ∀ (y : LaneSt) (f : Mailbox → Mailbox), (y.mailPort p f).standing = y.standing := fun _ _ => rfl
  have hpos : (FBK.POS.VALUE p).Apart := fbk_apart (fbk_off (by decide))
  unfold LaneSt.setPos
  split
  · rfl
  · rw [hmail, LaneSt.wrI_standing _ hpos]

theorem LaneSt.ledgerStart_standing (p : Nat) : (l.ledgerStart p).standing = l.standing := by
  have hbase : (FBK.POS_BASE.VALUE p).Apart := fbk_apart (fbk_off (by decide))
  have hnet : (FBK.NET_DECODED.VALUE p).Apart := fbk_apart (fbk_off (by decide))
  have hinferred : (FBK.INFERRED_NET.VALUE p).Apart := fbk_apart (fbk_off (by decide))
  unfold LaneSt.ledgerStart
  dsimp only
  rw [LaneSt.setPort_standing, LaneSt.wr_standing _ hinferred, LaneSt.wr_standing _ hnet, LaneSt.wrI_standing _ hbase]

end

section
variable {k : LaneId} {I : LaneSt → Prop} {x : LaneSt} (hI : Lasting k I) (hx : Steady k I x)
include hI hx

theorem Lasting.faultIf {c : Prop} [Decidable c] {code : Nat} (hcode : code < 0x400) (source : Nat) :
    Steady k I (if c then x.fault code source else x) := Steady.ite (hI.fault hx hcode source) hx

/-- A write of a port's register. -/
theorem Lasting.wrFbk {f : Field} (h : 0x20000 ≤ f.off) (n : Nat) : Steady k I (x.wr f n) :=
  hI.wr hx (fbk_apart h) (Nat.le_trans (by decide) h) n

theorem Lasting.ptJudge (n : Nat) : Steady k I (x.ptJudge n) := by
  have hjudged : ∀ owed above, Steady k I ((x.wrI (FBK.PT_STATUS.BACKLOG n) owed).wrB (FBK.PT_STATUS.OVERRUN n) above) :=
    fun _ _ => hI.wrFbk (hI.wrFbk hx (fbk_off (by decide)) _) (fbk_off (by decide)) _
  unfold LaneSt.ptJudge
  dsimp only
  refine Steady.ite hx (Steady.ite ?_ (hI.faultIf (hjudged _ _) (by decide) n))
  exact hI.fault (hI.wrFbk (hI.faultIf (hjudged _ _) (by decide) n) (fbk_off (by decide)) _) (by decide) n

theorem Lasting.ptRestart (p : Nat) : Steady k I (x.ptRestart p) := by
  have hfbk : ∀ (y : LaneSt) (f : FbkSt), ({ y with fbk := f } : LaneSt).standing = y.standing := fun _ _ => rfl
  unfold LaneSt.ptRestart
  refine Steady.foldl (fun y n hy => Steady.ite hy (hI.ptJudge (hI.wrFbk (hI.stands hy (hfbk _ _) ?_) (fbk_off (by decide)) 0) n)) hx
  exact canon_mk hy.1 rfl rfl rfl

theorem Lasting.setPortState (p st : Nat) : Steady k I (x.setPortState p st) := by
  have hw : Steady k I (x.wr (FBK.STATUS.STATE p) st) := hI.wrFbk hx (fbk_off (by decide)) st
  have hjudged : Steady k I ((x.wr (FBK.STATUS.STATE p) st).judgeAbs p) :=
    hI.stands hw (LaneSt.judgeAbs_standing _ p) (canon_judgeAbs hw.1 p)
  have hbad : ∀ y : LaneSt, Steady k I y → Steady k I (y.sourceBad p) :=
    fun y hy => hI.stands hy (y.sourceBad_standing p) (canon_sourceBad hy.1 p)
  have hrestart : Steady k I (if st = portAcquire then ((x.wr (FBK.STATUS.STATE p) st).judgeAbs p).ptRestart p
      else (x.wr (FBK.STATUS.STATE p) st).judgeAbs p) := Steady.ite (hI.ptRestart hjudged p) hjudged
  exact Steady.ite (hbad _ hrestart) hrestart

theorem Lasting.bypassEnd (p : Nat) : Steady k I (x.bypassEnd p) := by
  have hcleared : Steady k I ((x.wr (FBK.INDEX_REF.VALUE p) 0).wr (FBK.STATUS.IDX_SEEN p) 0) :=
    hI.wrFbk (hI.wrFbk hx (fbk_off (by decide)) 0) (fbk_off (by decide)) 0
  have hstarted := hI.setPortState (hI.stands hcleared (LaneSt.ledgerStart_standing _ p) (canon_ledgerStart hcleared.1 p)) p portAcquire
  exact Steady.ite hx (hI.stands hstarted (LaneSt.setPos_standing _ p) (canon_setPos hstarted.1 p))

end

/-- The proof recorded as failed in the lane block, and what it had saved dropped. -/
def LaneSt.proofDropped (l : LaneSt) : LaneSt :=
  let l := l.setBlk l.id (fun b => { b with proof := 1 })
  { l with bist := { l.bist with save := none } }

theorem LaneSt.readmissionProof_failed (l : LaneSt) (step : Fin 9) : l.readmissionProof (some step) =
    ((List.range 24).foldl LaneSt.bypassEnd (l.proofEnded (some step)).proofDropped).readmitFailed.fault 0x242 0 := rfl

/-- A readmission proof that fails outside SAFE makes the lane DEAD, and the fault it records leaves it so. -/
theorem LaneSt.readmissionProof_dead {k : LaneId} {x : LaneSt} (hc : Canon k x) (hsafe : x.inSafe = false) (step : Fin 9) :
    Steady k LaneSt.failedDead (x.readmissionProof (some step)) := by
  have hout := notSafe_lasting k
  have hended : Steady k (fun y => y.inSafe = false) (x.proofEnded (some step)) :=
    hout.stands ⟨hc, hsafe⟩ (LaneSt.proofEnded_standing x step) (canon_proofEnded hc _)
  have hdropped : ∀ y : LaneSt, y.proofDropped.standing = y.standing := fun _ => rfl
  have hports := Steady.foldl (xs := List.range 24) (fun y p hy => hout.bypassEnd hy p)
    (hout.stands hended (hdropped _) (canon_mk (canon_setBlk hended.1 _ _) rfl rfl rfl))
  rw [LaneSt.readmissionProof_failed]
  exact (failedDead_lasting k).fault (LaneSt.readmitFailed_dead hports) (by decide) 0

/-- Settles O26: the three failures all come to `readmitFailed`, and the fault that a failed proof records finds the lane
DEAD already. -/
theorem failedReadmissionIsDead : Obligations.FailedReadmissionIsDead := by
  unfold Obligations.FailedReadmissionIsDead
  intro s l hcanon hsafe
  have hfailed : Steady l LaneSt.failedDead (s.lane l).readmitFailed := LaneSt.readmitFailed_dead ⟨hcanon l, hsafe⟩
  refine ⟨fun hself => ⟨_, exec_shadowTimeout hself, hfailed.2⟩, fun j hr hd htransfer hfails => ?_, fun step links ha hr hrun => ?_⟩
  · refine ⟨(s.lane l).readmitFailed, ?_, hfailed.2⟩
    rw [exec_stateTransferComplete hr hd, if_neg (by simp [htransfer]), if_pos hfails]
  · refine ⟨(s.lane l).readmissionProof (some step), ?_, (LaneSt.readmissionProof_dead (hcanon l) hsafe step).2⟩
    rw [exec_fullProofComplete, State.fullProof_readmission ha hr hrun]
    rfl

end Sys2Proof.Machine

/-!
SUPPORT. The safety functions judged anew keep what outlives faults.
-/

namespace Sys2Proof.Machine

open Sys2Proof LaneSt

/-! ## Stops of the channels (R114, R329) -/

section
variable (l : LaneSt)

theorem LaneSt.stopGens_standing (n cause : Nat) : (l.stopGens n cause).standing = l.standing := by
  have hone : ∀ (y : LaneSt) (g : Nat) (c d : Prop) [Decidable c] [Decidable d] (t : Nat) (v : Int),
      (if c then y.stopGen g t v else if d then y.stopGen g t 0 else y).standing = y.standing := by
    intro y g c d _ _ t v
    simp only [LaneSt.standing_ite, LaneSt.stopGen_standing, ite_self]
  unfold LaneSt.stopGens
  dsimp only
  rw [hone, hone, LaneSt.standing_ite, LaneSt.discardBoth_standing, ite_self]

/-- A seat that both branches of a choice leave. -/
theorem LaneSt.ite_seat {c : Prop} [Decidable c] {x y : LaneSt} {t : Standing} (hx : x.standing.seat = t) (hy : y.standing.seat = t) :
    (if c then x else y).standing.seat = t := by
  split
  · exact hx
  · exact hy

theorem LaneSt.stopEntry_seat (n cause cat : Nat) : (l.stopEntry n cause cat).standing.seat = l.standing.seat := by
  have hmark : ∀ (y : LaneSt) (c : Prop) [Decidable c] (f : CommCh → CommCh), (if c then y.setComm n f else y).standing = y.standing := by
    intro y c _ f
    rw [LaneSt.standing_ite, LaneSt.setComm_standing, ite_self]
  have hstopping : (COMM.STATUS.STOPPING n).Apart := apart_above (Nat.le_add_right_of_le (by decide))
  unfold LaneSt.stopEntry
  dsimp only
  refine LaneSt.ite_seat ?_ (LaneSt.ite_seat ?_ (LaneSt.ite_seat (LaneSt.ite_seat ?_ ?_) rfl))
  · rw [LaneSt.cut_seat, hmark]
  · rw [LaneSt.cut_seat, hmark]
  · rw [LaneSt.setComm_standing, LaneSt.standing_ite, LaneSt.discardBoth_standing, ite_self]
  · rw [LaneSt.stopGens_standing, LaneSt.wr_standing _ hstopping, hmark, LaneSt.standing_ite, LaneSt.tuneAbort_standing, ite_self]

theorem sio_apart {f : Field} (h : 0x28000 ≤ f.off) : f.Apart := apart_above (Nat.le_trans (by decide) h)

theorem LaneSt.sfStop_seat (f : Nat) : (l.sfStop f).standing.seat = l.standing.seat := by
  have hcause : ∀ (c : Prop) [Decidable c] (y : LaneSt),
      (if c then y else { y with vote := { y.vote with stopCause := 7 } } : LaneSt).standing = y.standing := by
    intro c _ y
    split <;> rfl
  have hstopping : (SIO.SF_STATUS.STOPPING f).Apart := sio_apart (Nat.le_add_right_of_le (by decide))
  have hruns : ∀ (c : Prop) [Decidable c] (y : LaneSt),
      (if c then ((y.wr (SIO.SF_STATUS.STOPPING f) 1).judgeOutputs).raise 2 4 else y).standing = y.standing := by
    intro c _ y
    rw [LaneSt.standing_ite, LaneSt.raise_standing, LaneSt.judgeOutputs_standing, LaneSt.wr_standing _ hstopping, ite_self]
  unfold LaneSt.sfStop
  dsimp only
  rw [hcause, hruns]
  refine foldl_keep (fun y : LaneSt => y.standing.seat) _ (fun y n => ?_) _ _
  refine LaneSt.ite_seat rfl (LaneSt.ite_seat ?_ (LaneSt.ite_seat (y.cut_seat n _ _) (LaneSt.ite_seat ?_ rfl)))
  · rw [LaneSt.setComm_standing, LaneSt.stopEntry_seat]
  · rw [LaneSt.windingK5_standing]

/-! ## A safety function changes its state (R323 to R331) -/

theorem LaneSt.denyGrant_standing (f code arg : Nat) : (l.denyGrant f code arg).standing = l.standing :=
  (LaneSt.setSio_standing _ _).trans (foldl_keep LaneSt.standing _ (fun _ _ => LaneSt.complete_standing _ _ _ _ _) _ _)

theorem LaneSt.sfSummary_standing : l.sfSummary.standing = l.standing := by
  have hpermit : SIO.SF_SUMMARY.PERMIT.Apart := sio_apart (by decide)
  have hfault : SIO.SF_SUMMARY.FAULT.Apart := sio_apart (by decide)
  rw [LaneSt.sfSummary, LaneSt.wr_standing _ hfault, LaneSt.wr_standing _ hpermit]

theorem LaneSt.setSf_standing (f st : Nat) : (l.setSf f st).standing = l.standing := by
  have hstate : (SIO.SF_STATUS.STATE f).Apart := sio_apart (Nat.le_add_right_of_le (by decide))
  unfold LaneSt.setSf
  split
  · rfl
  · rw [LaneSt.judgeOutputs_standing, LaneSt.sfSummary_standing, LaneSt.raise_standing, LaneSt.wr_standing _ hstate]

theorem LaneSt.xchgChanged_standing : l.xchgChanged.standing = l.standing := by
  unfold LaneSt.xchgChanged
  split
  · exact (LaneSt.send_standing _ _ _ _).trans (LaneSt.setSio_standing _ _)
  · rfl

end

section
variable {k : LaneId} {I : LaneSt → Prop} {x : LaneSt} (hI : Lasting k I) (hx : Steady k I x)
include hI hx

theorem Lasting.sfCause (f cause m : Nat) : Steady k I (x.sfCause f cause m) :=
  hI.stands hx (LaneSt.sfCause_standing x f cause m) (canon_sfCause hx.1 f cause m)

theorem Lasting.denyGrant (f code arg : Nat) : Steady k I (x.denyGrant f code arg) :=
  hI.stands hx (LaneSt.denyGrant_standing x f code arg) (canon_denyGrant hx.1 f code arg)

theorem Lasting.setSf (f st : Nat) : Steady k I (x.setSf f st) :=
  hI.stands hx (LaneSt.setSf_standing x f st) (canon_setSf hx.1 f st)

/-- The stop of a safety function, with its outputs and its interrupt. -/
theorem Lasting.sfStopped (f s : Nat) : Steady k I (((x.sfStop f).judgeOutputs).raise 4 s) := by
  refine hI.seated hx ?_ (canon_raise (canon_judgeOutputs (canon_sfStop hx.1 f)) 4 s)
  rw [LaneSt.raise_standing, LaneSt.judgeOutputs_standing, LaneSt.sfStop_seat]

theorem Lasting.sfCount {f : Field} (h : 0x28000 ≤ f.off) : Steady k I (x.satInc 13 f) :=
  hI.stands hx (LaneSt.satInc_standing x (by decide) (sio_apart h)) (canon_satInc hx.1 13 f (Nat.le_trans (by decide) h))

theorem Lasting.wrSio {f : Field} (h : 0x28000 ≤ f.off) (n : Nat) : Steady k I (x.wr f n) :=
  hI.wr hx (sio_apart h) (Nat.le_trans (by decide) h) n

theorem Lasting.sfToDemand (f cause m : Nat) : Steady k I (x.sfToDemand f cause m) := by
  have hdemand : Steady k I (((x.sfCause f cause m).denyGrant f 0x58 (x.sfUnreleased f)).setSf f sfDemand) :=
    hI.setSf (hI.denyGrant (hI.sfCause hx f cause m) f _ _) f _
  have hstamp : ∀ (y : LaneSt) (a b : Nat) (c : Bool), Steady k I y →
      Steady k I ((((y.wr (SIO.SF_STAMP.NS f) a).wr (SIO.SF_STAMP.S f) b).wrB (SIO.SF_STAMP.T32 f) c).satInc 13 (SIO.SF_COUNTS.DEMANDS f)) :=
    fun y a b c hy => hI.sfCount (hI.wrSio (hI.wrSio (hI.wrSio hy (Nat.le_add_right_of_le (by decide)) a)
      (Nat.le_add_right_of_le (by decide)) b) (Nat.le_add_right_of_le (by decide)) _) (Nat.le_add_right_of_le (by decide))
  unfold LaneSt.sfToDemand
  dsimp only
  exact Steady.ite hdemand (hI.fault (hI.sfStopped (hstamp _ _ _ _ hdemand) f 1) (by decide) f)

theorem Lasting.sfToFault (f m : Nat) : Steady k I (x.sfToFault f m) := by
  have hfault : Steady k I (((x.sfCause f (x.faultCause f m) m).denyGrant f 0x57 (x.sfFaulty f)).setSf f sfFault) :=
    hI.setSf (hI.denyGrant (hI.sfCause hx f _ m) f _ _) f _
  have hcount : Steady k I ((((x.sfCause f (x.faultCause f m) m).denyGrant f 0x57 (x.sfFaulty f)).setSf f sfFault).satInc 13
      (SIO.SF_COUNTS.FAULTS f)) := hI.sfCount hfault (Nat.le_add_right_of_le (by decide))
  exact hI.fault (code := 0x1A7) (hI.sfStopped hcount f 2) (by decide) f

theorem Lasting.evalSf (f : Nat) : Steady k I (x.evalSf f) := by
  have hsf : ∀ {y : LaneSt} {g : Field} (v : Nat), 0x28000 ≤ g.off → Steady k I y → Steady k I (y.wr g v) :=
    fun v h hy => hI.wrSio hy h v
  have hcause : ∀ {y : LaneSt} (c : Prop) [Decidable c] (a b : Nat), Steady k I y → Steady k I (if c then y.sfCause f a b else y) :=
    fun c _ a b hy => Steady.ite (hI.sfCause hy f a b) hy
  have hout : ∀ {y : LaneSt} (c : Prop) [Decidable c], Steady k I y →
      Steady k I (if c then (y.wr (SIO.SF_STATUS.OUT_FAULT f) 1).sfCause f 9 15 else y) :=
    fun c _ hy => Steady.ite (hI.sfCause (hsf 1 (Nat.le_add_right_of_le (by decide)) hy) f 9 15) hy
  have hrefused : ∀ {y : LaneSt} (c : Prop) [Decidable c], Steady k I y →
      Steady k I (if c then y.wr (SIO.SF_STATUS.RESTART_REFUSED f) 1 else y) :=
    fun c _ hy => Steady.ite (hsf 1 (Nat.le_add_right_of_le (by decide)) hy) hy
  have hnext : ∀ {y : LaneSt} (c1 c2 c3 c4 : Prop) [Decidable c1] [Decidable c2] [Decidable c3] [Decidable c4] (a b d : Nat),
      Steady k I y → Steady k I (if c1 then y else if c2 then y.sfToFault f a else if c3 then y.sfToDemand f b d
        else if c4 then y.setSf f sfReady else y) :=
    fun c1 c2 c3 c4 _ _ _ _ a b d hy => Steady.ite hy (Steady.ite (hI.sfToFault hy f a)
      (Steady.ite (hI.sfToDemand hy f b d) (Steady.ite (hI.setSf hy f _) hy)))
  unfold LaneSt.evalSf
  dsimp only
  exact Steady.ite hx (hnext _ _ _ _ _ _ _ (hrefused _ (hsf _ (Nat.le_add_right_of_le (by decide)) (hout _ (hcause _ _ _ hx)))))

/-- The safety inputs of a peer are lost. -/
theorem Lasting.inputsLost (p : LaneId) : Steady k I (x.inputsLost p) := by
  have hlost : Steady k I (x.setSio (fun x => { x with lost := x.lost.setIfInBounds p.num true })) :=
    hI.stands hx (LaneSt.setSio_standing x _) (canon_setSio hx.1 _)
  have hjudged : Steady k I ((List.range 16).foldl LaneSt.evalSf (x.setSio (fun x => { x with lost := x.lost.setIfInBounds p.num true }))) :=
    Steady.foldl (fun y f hy => hI.evalSf hy f) hlost
  exact hI.stands hjudged (LaneSt.xchgChanged_standing _) (canon_xchgChanged hjudged.1)

end

end Sys2Proof.Machine

/-!
A stopped ALIVE excludes the peer (O23).
-/

namespace Sys2Proof.Machine

open Sys2Proof LaneSt

/-! ## The peer is out and the references are held -/

/-- The lane's view of peer `p` is `m`, its references are held, and ALIVE of the peer shows stopped. -/
def LaneSt.heldWithout (p : LaneId) (m : Nat) (x : LaneSt) : Prop :=
  (x.peer p).memb = m ∧ x.on VOTE.STATUS.REF_HELD = true ∧ x.on (x.aliveF p) = false

theorem LaneSt.peerMemb_eq (x : LaneSt) (p : LaneId) :
    (x.peer p).memb = if p = x.id.peer0 then x.vote.p0.memb else x.vote.p1.memb := by
  unfold LaneSt.peer
  split <;> rfl

theorem LaneSt.aliveF_off (x : LaneSt) (p : LaneId) : (x.aliveF p).off = 0xC024 := by
  unfold LaneSt.aliveF
  split <;> rfl

theorem LaneSt.aliveF_width (x : LaneSt) (p : LaneId) : (x.aliveF p).width = 1 := by
  unfold LaneSt.aliveF
  split <;> rfl

theorem LaneSt.aliveF_fit (x : LaneSt) (p : LaneId) : (x.aliveF p).lo + (x.aliveF p).width ≤ 32 := by
  unfold LaneSt.aliveF
  split <;> decide

theorem LaneSt.aliveF_of_id {x y : LaneSt} (h : y.id = x.id) (p : LaneId) : y.aliveF p = x.aliveF p := by
  unfold LaneSt.aliveF
  rw [h]

theorem LaneSt.heldWithout_of_place {x y : LaneSt} {p : LaneId} {m : Nat} (h : y.standing.place = x.standing.place)
    (hx : x.heldWithout p m) : y.heldWithout p m := by
  obtain ⟨hmemb, hheld, halive⟩ := hx
  have hid : y.id = x.id := congrArg Standing.id h
  have hstatus : y.word 0xC020 = x.word 0xC020 := congrArg Standing.status h
  have hlinks : y.word 0xC024 = x.word 0xC024 := congrArg Standing.links h
  have hm0 : y.vote.p0.memb = x.vote.p0.memb := congrArg Standing.memb0 h
  have hm1 : y.vote.p1.memb = x.vote.p1.memb := congrArg Standing.memb1 h
  refine ⟨?_, ?_, ?_⟩
  · rw [LaneSt.peerMemb_eq, hid, hm0, hm1, ← LaneSt.peerMemb_eq, hmemb]
  · rw [← hheld]
    exact congrArg (fun w : Word => getField 11 1 w.toNat != 0) hstatus
  · rw [← halive, LaneSt.aliveF_of_id hid]
    have hw : (x.aliveF p).width ≠ 64 := by rw [LaneSt.aliveF_width]; decide
    unfold LaneSt.on LaneSt.rd
    rw [if_neg hw, if_neg hw, LaneSt.aliveF_off, hlinks]

/-- A write of VOTE.STATUS beside REF_HELD. -/
theorem LaneSt.heldWithout_wr {k : LaneId} {x : LaneSt} (hc : Canon k x) {p : LaneId} {m : Nat} {f : Field} (hoff : f.off = 0xC020)
    (hfit : f.lo + f.width ≤ 32) (hd : f.lo + f.width ≤ 11 ∨ 12 ≤ f.lo) (n : Nat) (hx : x.heldWithout p m) :
    (x.wr f n).heldWithout p m := by
  obtain ⟨hmemb, hheld, halive⟩ := hx
  have hrefs : (x.wr f n).rd VOTE.STATUS.REF_HELD = x.rd VOTE.STATUS.REF_HELD :=
    LaneSt.rd_wr_disjoint (g := VOTE.STATUS.REF_HELD) (regsWf_of_canon hc) hoff.symm hfit (by decide) hd.symm n
  refine ⟨?_, ?_, ?_⟩
  · rw [LaneSt.peerMemb_eq, LaneSt.wr_id, LaneSt.wr_vote, ← LaneSt.peerMemb_eq, hmemb]
  · unfold LaneSt.on
    rw [hrefs]
    exact hheld
  · unfold LaneSt.on
    rw [LaneSt.aliveF_of_id (LaneSt.wr_id x f n), LaneSt.rd_wr_ne x (by rw [LaneSt.aliveF_off, hoff]; decide) (by omega)
      (by rw [LaneSt.aliveF_width]; decide)]
    exact halive

theorem heldWithout_lasting (k p : LaneId) (m : Nat) : Lasting k (LaneSt.heldWithout p m) :=
  Lasting.of_place (fun h hx => LaneSt.heldWithout_of_place h hx)
    (fun n hc hx => LaneSt.heldWithout_wr hc rfl (by decide) (by decide) n hx)
    (fun n hc hx => LaneSt.heldWithout_wr hc rfl (by decide) (by decide) n hx)
    (fun {x} n hc hx => by
      have hmembers := LaneSt.heldWithout_wr hc (f := VOTE.STATUS.MEMBERS) rfl (by decide) (by decide) n hx
      unfold LaneSt.setMembers
      dsimp only
      split
      · exact hmembers
      · exact LaneSt.heldWithout_wr (canon_wr hc (by decide) _) rfl (by decide) (by decide) _ hmembers)

/-! ## What the exclusion of a peer rests on -/

/-- What the exclusion of a peer and its cause rest on beside the standing. -/
def LaneSt.peerCase (x : LaneSt) : Nat × Vector LaneBlk 3 × Nat × Vector Nat 3 × (Nat × Nat) :=
  (x.rd VOTE.READMIT.MAX, x.vote.blk, x.vote.exclReq, x.vote.reqCause, x.vote.linkLoss)

section
variable (x : LaneSt)

theorem LaneSt.wr_peerCase {f : Field} (hoff : f.off ≠ 0xC004) (hw : f.width ≠ 64) (n : Nat) : (x.wr f n).peerCase = x.peerCase := by
  have hmax : (x.wr f n).rd VOTE.READMIT.MAX = x.rd VOTE.READMIT.MAX := LaneSt.rd_wr_ne x hoff.symm hw (by decide) n
  unfold LaneSt.peerCase
  rw [hmax, LaneSt.wr_vote]

theorem LaneSt.sendFrame_peerCase (p : LaneId) (t h : Nat) (ws : List Nat) : (x.sendFrame p t h ws).peerCase = x.peerCase := by
  have hset : ∀ (g : PeerView → PeerView), (x.setPeer p g).peerCase = x.peerCase := fun g => by
    unfold LaneSt.setPeer
    split <;> rfl
  exact hset _

theorem LaneSt.sendTo_peerCase (p : LaneId) (t h : Nat) (ws : List Nat) : (x.sendTo p t h ws).peerCase = x.peerCase := by
  unfold LaneSt.sendTo
  split
  · rfl
  split
  · split
    · rfl
    · exact x.sendFrame_peerCase p t h ws
  · exact foldl_keep LaneSt.peerCase _ (fun y _ => y.sendFrame_peerCase _ _ _ _) _ _

theorem LaneSt.send_peerCase (t h : Nat) (ws : List Nat) : (x.send t h ws).peerCase = x.peerCase :=
  foldl_keep LaneSt.peerCase _ (fun y p => y.sendTo_peerCase p t h ws) _ _

theorem groupByte_ne {base b g : Nat} (hbase : base < 0x4700) (hb : b ≤ 1) (hg : g < 32) : (groupByte base b g).off ≠ 0xC004 := by
  simp only [groupByte]
  omega

theorem LaneSt.pend_peerCase (g srcs lanes : Nat) (soft : Bool) : (x.pend g srcs lanes soft).peerCase = x.peerCase := by
  have hgroup : ∀ (y : LaneSt) (f : IrqGroup → IrqGroup), (y.setGroup g f).peerCase = y.peerCase := fun _ _ => rfl
  unfold LaneSt.pend
  split
  · rfl
  · rename_i h
    have hg : g < 32 := group_lt_of_not_reserved (by simpa using h)
    have hcause : (irqCauseF (x.bank g) g).off ≠ 0xC004 := groupByte_ne (by decide) (x.bank_le_one g) hg
    have hraised : (irqRaisedF (x.bank g) g).off ≠ 0xC004 := groupByte_ne (by decide) (x.bank_le_one g) hg
    dsimp only
    rw [hgroup, LaneSt.wr_peerCase _ hraised (by simp [irqRaisedF, groupByte]), LaneSt.wr_peerCase _ hcause (by simp [irqCauseF, groupByte])]

theorem LaneSt.raise_peerCase (g s : Nat) : (x.raise g s).peerCase = x.peerCase := by
  unfold LaneSt.raise
  split
  · rfl
  dsimp only
  split
  · rw [LaneSt.send_peerCase, LaneSt.pend_peerCase]
  · rw [LaneSt.pend_peerCase]

/-- The references are held, with their time. -/
theorem LaneSt.holdRef_on : x.holdRef true = if x.on VOTE.STATUS.REF_HELD = true then x else
    { (x.wr VOTE.STATUS.REF_HELD 1).raise 2 5 with vote := { ((x.wr VOTE.STATUS.REF_HELD 1).raise 2 5).vote with
      holdFrom := some ((x.wr VOTE.STATUS.REF_HELD 1).raise 2 5).runUnits } } := rfl

theorem LaneSt.holdRef_peerCase : (x.holdRef true).peerCase = x.peerCase := by
  have hvote : ∀ (y : LaneSt) (t : Option Nat), ({ y with vote := { y.vote with holdFrom := t } } : LaneSt).peerCase = y.peerCase :=
    fun _ _ => rfl
  rw [LaneSt.holdRef_on]
  split
  · rfl
  · rw [hvote, LaneSt.raise_peerCase, LaneSt.wr_peerCase _ (by decide) (by decide)]

/-- Outside the hold it writes REF_HELD, and nothing else of the standing. -/
theorem LaneSt.holdRef_standing : (x.holdRef true).standing =
    if x.on VOTE.STATUS.REF_HELD = true then x.standing else (x.wr VOTE.STATUS.REF_HELD 1).standing := by
  have hvote : ∀ (y : LaneSt) (t : Option Nat), ({ y with vote := { y.vote with holdFrom := t } } : LaneSt).standing = y.standing :=
    fun _ _ => rfl
  rw [LaneSt.holdRef_on]
  split
  · rfl
  · rw [hvote, LaneSt.raise_standing]

end

/-- The cause of a peer's exclusion rests on its case and on VOTE.LINKS. -/
theorem LaneSt.peerCause_congr {x y : LaneSt} (hid : y.id = x.id) (hlinks : y.word 0xC024 = x.word 0xC024)
    (hcase : y.peerCase = x.peerCase) (p : LaneId) : y.peerCause p = x.peerCause p := by
  simp only [LaneSt.peerCase, Prod.mk.injEq] at hcase
  obtain ⟨-, -, hreq, hcauses, hloss⟩ := hcase
  have hlink : y.rd (y.linkF p) = x.rd (x.linkF p) := by
    unfold LaneSt.linkF
    rw [hid]
    split
    · exact congrArg (fun w : Word => getField 0 2 w.toNat) hlinks
    · exact congrArg (fun w : Word => getField 2 2 w.toNat) hlinks
  unfold LaneSt.peerCause
  rw [hreq, hcauses, hloss, hlink]

/-! ## The exclusion itself (R102, R113) -/

theorem LaneSt.setPeer_peer_same (x : LaneSt) (p : LaneId) (f : PeerView → PeerView) : ((x.setPeer p f).peer p) = f (x.peer p) := by
  unfold LaneSt.setPeer LaneSt.peer
  split
  · rfl
  · rfl

/-- The view of a MEMBER peer after its exclusion. -/
def LaneSt.excludedView (x : LaneSt) (p : LaneId) (cause : Nat) : Nat :=
  if cause ≠ causeHostReset ∧ (x.blkOf p).readmits = x.rd VOTE.READMIT.MAX then 3 else 1

theorem LaneSt.excludePeer_regs (x : LaneSt) (p : LaneId) (cause : Nat) :
    (x.excludePeer p cause).regs = x.regs ∧ (x.excludePeer p cause).id = x.id := by
  unfold LaneSt.excludePeer
  dsimp only
  split
  · exact ⟨rfl, rfl⟩
  · exact ⟨LaneSt.setPeer_regs _ _ _, LaneSt.setPeer_id _ _ _⟩

theorem LaneSt.excludePeer_memb {x : LaneSt} {p : LaneId} (hmemb : (x.peer p).memb = 0) (hsafe : x.inSafe = false) (cause : Nat) :
    ((x.excludePeer p cause).peer p).memb = x.excludedView p cause := by
  have hvote : ∀ (y : LaneSt) (e : Nat) (g : Option Nat) (f : LaneBlk → LaneBlk),
      (((({ y with vote := { y.vote with exclReq := e, gapFrom := g } } : LaneSt).setBlk p f)).peer p) = y.peer p := fun _ _ _ _ => rfl
  unfold LaneSt.excludePeer
  dsimp only
  rw [if_neg (by simp [hmemb, hsafe, selfMember]), hvote, LaneSt.setPeer_peer_same]
  unfold LaneSt.excludedView
  simp [hmemb, selfMember, selfDead, selfExcluded]

theorem LaneSt.excludedView_congr {x y : LaneSt} (hcase : y.peerCase = x.peerCase) (p : LaneId) (cause : Nat) :
    y.excludedView p cause = x.excludedView p cause := by
  simp only [LaneSt.peerCase, Prod.mk.injEq] at hcase
  obtain ⟨hmax, hblk, -, -, -⟩ := hcase
  unfold LaneSt.excludedView LaneSt.blkOf
  rw [hmax, hblk]

/-- The exclusion of a MEMBER peer changes the view of it, and no word. -/
theorem LaneSt.excludePeer_heldWithout {x : LaneSt} {p : LaneId} (hx : x.heldWithout p 0) (hsafe : x.inSafe = false) (cause : Nat) :
    (x.excludePeer p cause).heldWithout p (x.excludedView p cause) := by
  obtain ⟨hmemb, hheld, halive⟩ := hx
  obtain ⟨hregs, hid⟩ := x.excludePeer_regs p cause
  have hword : ∀ o, (x.excludePeer p cause).word o = x.word o := fun o => by rw [LaneSt.word, LaneSt.word, hregs, hid]
  have hon : ∀ f, (x.excludePeer p cause).on f = x.on f := fun f => by
    unfold LaneSt.on LaneSt.rd
    rw [hword, hword]
  exact ⟨LaneSt.excludePeer_memb hmemb hsafe cause, (hon _).trans hheld, by rw [LaneSt.aliveF_of_id hid, hon, halive]⟩

/-! ## The stop of a peer's ALIVE (R104, R378) -/

section
variable {k p : LaneId} {x : LaneSt} (hc : Canon k x)
include hc

theorem LaneSt.stoppedAlive_off : (x.wr (x.aliveF p) 0).on (x.aliveF p) = false := by
  unfold LaneSt.on
  rw [LaneSt.rd_wr_same (regsWf_of_canon hc) (x.aliveF_fit p), Nat.zero_mod]
  rfl

/-- A member's hold of its references, its peer still MEMBER and ALIVE of the peer stopped. -/
theorem LaneSt.holdRef_heldWithout (hmemb : (x.peer p).memb = 0) (halive : x.on (x.aliveF p) = false) :
    (x.holdRef true).heldWithout p 0 := by
  have hset : (x.wr VOTE.STATUS.REF_HELD 1).heldWithout p 0 := by
    refine ⟨?_, ?_, ?_⟩
    · rw [LaneSt.peerMemb_eq, LaneSt.wr_id, LaneSt.wr_vote, ← LaneSt.peerMemb_eq, hmemb]
    · unfold LaneSt.on
      rw [LaneSt.rd_wr_same (regsWf_of_canon hc) (by decide)]
      rfl
    · unfold LaneSt.on
      rw [LaneSt.aliveF_of_id (LaneSt.wr_id x _ 1), LaneSt.rd_wr_ne x (by rw [LaneSt.aliveF_off]; decide) (by decide)
        (by rw [LaneSt.aliveF_width]; decide)]
      exact halive
  have hst := x.holdRef_standing
  by_cases hheld : x.on VOTE.STATUS.REF_HELD = true
  · rw [if_pos hheld] at hst
    exact LaneSt.heldWithout_of_place (congrArg Standing.place hst) ⟨hmemb, hheld, halive⟩
  · rw [if_neg hheld] at hst
    exact LaneSt.heldWithout_of_place (congrArg Standing.place hst) hset

theorem LaneSt.holdRef_inSafe : (x.holdRef true).inSafe = x.inSafe := by
  have hset : (x.wr VOTE.STATUS.REF_HELD 1).inSafe = x.inSafe :=
    LaneSt.inSafe_wr_status hc rfl (by decide) (by decide) (by decide) 1
  have hplace : ∀ {y : LaneSt}, (x.holdRef true).standing = y.standing → (x.holdRef true).inSafe = y.inSafe := fun h =>
    LaneSt.inSafe_congr (LaneSt.mode_of_place (congrArg Standing.place h)) (LaneSt.members_of_place (congrArg Standing.place h))
  have hst := x.holdRef_standing
  by_cases hheld : x.on VOTE.STATUS.REF_HELD = true
  · rw [if_pos hheld] at hst
    exact hplace hst
  · rw [if_neg hheld] at hst
    exact (hplace hst).trans hset

omit hc in
theorem LaneSt.holdRef_peerCause : (x.holdRef true).peerCause p = x.peerCause p := by
  have hset : (x.wr VOTE.STATUS.REF_HELD 1).word 0xC024 = x.word 0xC024 := LaneSt.word_wr_ne x (by decide) (by decide) 1
  have hst := x.holdRef_standing
  by_cases hheld : x.on VOTE.STATUS.REF_HELD = true
  · rw [if_pos hheld] at hst
    exact LaneSt.peerCause_congr (congrArg Standing.id hst) (congrArg Standing.links hst) x.holdRef_peerCase p
  · rw [if_neg hheld] at hst
    exact LaneSt.peerCause_congr ((congrArg Standing.id hst).trans (LaneSt.wr_id x _ 1)) ((congrArg Standing.links hst).trans hset)
      x.holdRef_peerCase p

/-- The hold and the exclusion together. -/
theorem LaneSt.holdRef_excluded (hmemb : (x.peer p).memb = 0) (hsafe : x.inSafe = false) (halive : x.on (x.aliveF p) = false) :
    Steady k (LaneSt.heldWithout p (x.excludedView p (x.peerCause p)))
      ((x.holdRef true).excludePeer p ((x.holdRef true).peerCause p)) := by
  refine ⟨canon_excludePeer (canon_holdRef hc true) p _, ?_⟩
  rw [← LaneSt.excludedView_congr x.holdRef_peerCase, LaneSt.holdRef_peerCause]
  exact LaneSt.excludePeer_heldWithout (LaneSt.holdRef_heldWithout hc hmemb halive) ((LaneSt.holdRef_inSafe hc).trans hsafe) _

/-- A member whose peer is MEMBER leaves it out of the membership when its ALIVE stops. -/
theorem LaneSt.aliveStop_heldWithout (hp : p ≠ k) (hmember : x.isMember = true) (hmemb : (x.peer p).memb = 0) (hsafe : x.inSafe = false) :
    Steady k (LaneSt.heldWithout p (x.excludedView p ((x.wr (x.aliveF p) 0).peerCause p))) (x.aliveStop p) := by
  have hoff : (0xC020 : Nat) ≠ (x.aliveF p).off := by rw [LaneSt.aliveF_off]; decide
  have hw : (x.aliveF p).width ≠ 64 := by rw [LaneSt.aliveF_width]; decide
  have hrd : ∀ f : Field, f.off = 0xC020 → f.width ≠ 64 → (x.wr (x.aliveF p) 0).rd f = x.rd f :=
    fun f hf hfw => LaneSt.rd_wr_ne x (by rw [hf]; exact hoff) hw hfw 0
  have hmember' : (x.wr (x.aliveF p) 0).isMember = true := by
    unfold LaneSt.isMember LaneSt.self
    rw [hrd VOTE.STATUS.SELF rfl (by decide)]
    exact hmember
  have hsafe' : (x.wr (x.aliveF p) 0).inSafe = false :=
    (LaneSt.inSafe_congr (hrd VOTE.STATUS.MODE rfl (by decide)) (hrd VOTE.STATUS.MEMBERS rfl (by decide))).trans hsafe
  have hmemb' : ((x.wr (x.aliveF p) 0).peer p).memb = 0 := by
    rw [LaneSt.peerMemb_eq, LaneSt.wr_id, LaneSt.wr_vote, ← LaneSt.peerMemb_eq, hmemb]
  have halive' : (x.wr (x.aliveF p) 0).on ((x.wr (x.aliveF p) 0).aliveF p) = false := by
    rw [LaneSt.aliveF_of_id (LaneSt.wr_id x _ 0)]
    exact LaneSt.stoppedAlive_off hc
  have hstop : x.aliveStop p = (((x.wr (x.aliveF p) 0).holdRef true).excludePeer p
      (((x.wr (x.aliveF p) 0).holdRef true).peerCause p)).inputsLost p := by
    unfold LaneSt.aliveStop
    rw [if_neg (by rw [hc.id]; exact hp)]
    dsimp only
    rw [if_pos ⟨hmember', hmemb', by simp [hsafe']⟩]
  have hexcluded := LaneSt.holdRef_excluded (canon_wr hc (by rw [LaneSt.aliveF_off]; decide) 0) hmemb' hsafe' halive'
  rw [LaneSt.excludedView_congr (LaneSt.wr_peerCase x (by rw [LaneSt.aliveF_off]; decide) hw 0)] at hexcluded
  rw [hstop]
  exact (heldWithout_lasting k p _).inputsLost hexcluded p

end

theorem exec_peerAliveStop (s : State) (l p : LaneId) : exec (.peerAliveStop l p) s = .next (s.setLane l ((s.lane l).aliveStop p)) := rfl

/-- Settles O23: the hold and the exclusion set what is stated, and it outlives every fault of the safety functions that
lose the peer's inputs. -/
theorem aliveStopExcludesThePeer : Obligations.AliveStopExcludesThePeer := by
  unfold Obligations.AliveStopExcludesThePeer
  intro s l p hcanon hp hmember hmemb hsafe
  exact ⟨_, exec_peerAliveStop s l p, (LaneSt.aliveStop_heldWithout (hcanon l) hp hmember hmemb hsafe).2⟩

end Sys2Proof.Machine

/-!
SUPPORT. Signed fields read back, the state of a generator that is no register, and the step output.
-/

namespace Sys2Proof.Machine

open Sys2Proof

/-! ## Signed fields (R7) -/

/-- `toSigned` reads a bit vector as the signed number it stands for. -/
theorem toSigned_eq_toInt {w : Nat} (hw : 0 < w) (n : Nat) : toSigned w n = (BitVec.ofNat w n).toInt := by
  have hhalf : 2 ^ w = 2 * 2 ^ (w - 1) := by rw [← Nat.pow_succ', Nat.succ_eq_add_one, Nat.sub_add_cancel hw]
  rw [toSigned, BitVec.toInt_eq_toNat_cond, BitVec.toNat_ofNat, Nat.cast_pow, Nat.cast_ofNat]
  exact if_congr (by omega) rfl rfl

theorem ofSigned_eq_toNat (w : Nat) (i : Int) : ofSigned w i = (BitVec.ofInt w i).toNat := by
  rw [ofSigned, BitVec.toNat_ofInt, Nat.cast_pow, Nat.cast_ofNat]

/-- `i` is a signed number of `w` bits. -/
def FitsSigned (w : Nat) (i : Int) : Prop := -(2 ^ (w - 1) : Int) ≤ i ∧ i < (2 ^ (w - 1) : Int)

theorem toSigned_fits {w : Nat} (hw : 0 < w) (n : Nat) : FitsSigned w (toSigned w n) := by
  rw [toSigned_eq_toInt hw]
  exact ⟨BitVec.le_toInt _, BitVec.toInt_lt⟩

theorem toSigned_ofSigned {w : Nat} (hw : 0 < w) {i : Int} (h : FitsSigned w i) : toSigned w (ofSigned w i) = i := by
  rw [toSigned_eq_toInt hw, ofSigned_eq_toNat, BitVec.ofNat_toNat, BitVec.setWidth_eq]
  exact BitVec.toInt_ofInt_eq_self hw h.1 h.2

/-- A signed field reads back a number it can hold. -/
theorem LaneSt.rdI_wrI_same {x : LaneSt} (h : x.regsWf) {f : Field} (hpos : 0 < f.width) (hw : f.lo + f.width ≤ 32) {i : Int}
    (hi : FitsSigned f.width i) : (x.wrI f i).rdI f = i := by
  have hmod : ofSigned f.width i % 2 ^ f.width = ofSigned f.width i := by
    rw [ofSigned_eq_toNat]
    exact Nat.mod_eq_of_lt (BitVec.isLt _)
  rw [LaneSt.rdI, LaneSt.wrI, LaneSt.rd_wr_same h hw, hmod, toSigned_ofSigned hpos hi]

/-- A one-bit field reads back a truth value. -/
theorem LaneSt.on_wrB_same {x : LaneSt} (h : x.regsWf) {f : Field} (hone : f.width = 1) (hw : f.lo + 1 ≤ 32) (b : Bool) :
    (x.wrB f b).on f = b := by
  rw [LaneSt.on, LaneSt.wrB, LaneSt.rd_wr_same h (by rw [hone]; exact hw), hone]
  cases b <;> rfl

/-- Neither the field's word nor the next, which is the high word of a register pair, stands at an offset. -/
def Field.ClearOf (f : Field) (off : Nat) : Prop := f.off ≠ off ∧ f.off + 4 ≠ off

theorem LaneSt.rd_wr_clear (x : LaneSt) {f g : Field} (hf : f.width ≠ 64) (h : g.ClearOf f.off) (n : Nat) :
    (x.wr f n).rd g = x.rd g := by
  simp only [LaneSt.rd, LaneSt.word_wr_ne x h.1 hf, LaneSt.word_wr_ne x h.2 hf]

/-! ## The state of a generator that is no register -/

@[simp] theorem LaneSt.pg_wr (x : LaneSt) (f : Field) (n g : Nat) : (x.wr f n).pg g = x.pg g := by
  rw [LaneSt.pg, LaneSt.wr_prof, LaneSt.pg]

@[simp] theorem LaneSt.rd_setPg (x : LaneSt) (g : Nat) (u : PgSt → PgSt) (f : Field) : (x.setPg g u).rd f = x.rd f := rfl

@[simp] theorem LaneSt.on_setPg (x : LaneSt) (g : Nat) (u : PgSt → PgSt) (f : Field) : (x.setPg g u).on f = x.on f := rfl

theorem LaneSt.pg_setPg_same (x : LaneSt) {g : Nat} (hg : g < 16) (u : PgSt → PgSt) : (x.setPg g u).pg g = u (x.pg g) := by
  simp [LaneSt.setPg, LaneSt.pg, Vector.getD, hg]

theorem LaneSt.pg_setPg_ne (x : LaneSt) {g o : Nat} (h : o ≠ g) (u : PgSt → PgSt) : (x.setPg g u).pg o = x.pg o := by
  simp [LaneSt.setPg, LaneSt.pg, Vector.getD, h.symm]

/-! ## The step output (R139) -/

theorem exec_stepPulseEmit (s : State) (l : LaneId) (g : Fin 16) :
    exec (.stepPulseEmit l g) s = .next (s.setLane l ((s.lane l).stepPulse g.val)) := rfl

theorem LaneSt.stepReady_iff {x : LaneSt} {g : Nat} : x.stepReady g = true ↔
    (∀ t, (x.pg g).pulseAt = some t → t + 5 * (x.rd (PROF.STEP_CTRL.HIGH g) + x.rd (PROF.STEP_CTRL.LOW g)) ≤ x.run) ∧
    (∀ t, (x.pg g).dirAt = some t → t + 5 * x.rd (PROF.STEP_CTRL.SETUP g) ≤ x.run) := by
  simp only [LaneSt.stepReady, Bool.and_eq_true, Option.all_eq_true, decide_eq_true_eq]

/-- The conditions under which generator `g` puts a step on its step line. -/
def LaneSt.StepDue (x : LaneSt) (g : Nat) : Prop :=
  x.on (PROF.STEP_CTRL.EN g) = true ∧ x.role g = 1 ∧ (x.pg g).stepStop = false ∧ x.rdI (PROF.STEP_BACKLOG.STEPS g) ≠ 0 ∧
    x.stepReady g = true

/-- The lane with a step pulse of generator `g` begun, `b` steps being left. -/
def LaneSt.pulseBegun (x : LaneSt) (g : Nat) (b : Int) : LaneSt :=
  ((x.wrI (PROF.STEP_BACKLOG.STEPS g) b).wrB (PROF.STATUS.STEP_OVERRUN g) (decide (64 < b.natAbs))).setPg g
    (fun q => { q with pulseAt := some x.run })

/-- A backlog one step nearer to 0. -/
def oneStepLess (b : Int) : Int := if 0 < b then b - 1 else b + 1

theorem sub_sgn {b : Int} (h : b ≠ 0) : b - sgn b = oneStepLess b := by
  rcases lt_or_gt_of_ne h with hneg | hpos
  · rw [sgn, if_pos hneg, oneStepLess, if_neg (by omega), sub_neg_eq_add]
  · rw [sgn, if_neg (by omega), if_neg h, oneStepLess, if_pos hpos]

theorem oneStepLess_fits {w : Nat} {b : Int} (h : FitsSigned w b) (hb : b ≠ 0) : FitsSigned w (oneStepLess b) := by
  obtain ⟨hlo, hhi⟩ := h
  unfold oneStepLess
  split
  · exact ⟨by omega, by omega⟩
  · exact ⟨by omega, by omega⟩

theorem LaneSt.stepPulse_due {x : LaneSt} {g : Nat} (h : x.StepDue g) :
    x.stepPulse g = x.pulseBegun g (oneStepLess (x.rdI (PROF.STEP_BACKLOG.STEPS g))) := by
  obtain ⟨hen, hrole, hstop, hb, hready⟩ := h
  rw [← sub_sgn hb]
  exact if_neg (by simp [hen, hrole, hstop, hb, hready])

theorem LaneSt.stepPulse_notDue {x : LaneSt} {g : Nat} (h : ¬x.StepDue g) : x.stepPulse g = x := by
  refine if_pos ?_
  by_contra hno
  simp only [not_or, Bool.not_eq_true', Bool.not_eq_true, Bool.not_eq_false, not_not] at hno
  exact h hno

section
variable (x : LaneSt) {g : Nat} (b : Int)

/-- A pulse writes the backlog and the status word of its generator and no other register. -/
theorem LaneSt.rdI_pulseBegun_clear {f : Field} (h : f.ClearOf (PROF.STEP_BACKLOG.off g) ∧ f.ClearOf (PROF.STATUS.off g)) :
    (x.pulseBegun g b).rdI f = x.rdI f := by
  rw [LaneSt.rdI, LaneSt.rdI, LaneSt.pulseBegun, LaneSt.rd_setPg, LaneSt.wrB, LaneSt.wrI,
    LaneSt.rd_wr_clear _ (by simp [PROF.STATUS.STEP_OVERRUN]) h.2,
    LaneSt.rd_wr_clear _ (by simp [PROF.STEP_BACKLOG.STEPS]) h.1]

theorem LaneSt.rdI_pulseBegun_backlog (h : x.regsWf) (hb : FitsSigned 32 b) :
    (x.pulseBegun g b).rdI (PROF.STEP_BACKLOG.STEPS g) = b := by
  have hclear : (PROF.STEP_BACKLOG.STEPS g).ClearOf (PROF.STATUS.off g) := by
    simp only [Field.ClearOf, PROF.STEP_BACKLOG.STEPS, PROF.STATUS.off]
    omega
  have hkeep : (x.pulseBegun g b).rdI (PROF.STEP_BACKLOG.STEPS g) =
      (x.wrI (PROF.STEP_BACKLOG.STEPS g) b).rdI (PROF.STEP_BACKLOG.STEPS g) := by
    rw [LaneSt.rdI, LaneSt.rdI, LaneSt.pulseBegun, LaneSt.rd_setPg, LaneSt.wrB,
      LaneSt.rd_wr_clear _ (by simp [PROF.STATUS.STEP_OVERRUN]) hclear]
  exact hkeep.trans (LaneSt.rdI_wrI_same h (by simp [PROF.STEP_BACKLOG.STEPS]) (by simp [PROF.STEP_BACKLOG.STEPS]) hb)

theorem LaneSt.on_pulseBegun_overrun (h : x.regsWf) :
    (x.pulseBegun g b).on (PROF.STATUS.STEP_OVERRUN g) = decide (64 < b.natAbs) := by
  rw [LaneSt.pulseBegun, LaneSt.on_setPg]
  exact LaneSt.on_wrB_same (LaneSt.regsWf_wr h _ _) (by simp [PROF.STATUS.STEP_OVERRUN]) (by simp [PROF.STATUS.STEP_OVERRUN]) _

theorem LaneSt.pg_pulseBegun_same (hg : g < 16) : (x.pulseBegun g b).pg g = { x.pg g with pulseAt := some x.run } := by
  rw [LaneSt.pulseBegun, LaneSt.pg_setPg_same _ hg, LaneSt.wrB, LaneSt.wrI, LaneSt.pg_wr, LaneSt.pg_wr]

theorem LaneSt.pg_pulseBegun_ne {o : Nat} (h : o ≠ g) : (x.pulseBegun g b).pg o = x.pg o := by
  rw [LaneSt.pulseBegun, LaneSt.pg_setPg_ne _ h, LaneSt.wrB, LaneSt.wrI, LaneSt.pg_wr, LaneSt.pg_wr]

end

/-- Settles O30: the pulse writes the backlog and the status word of its generator, and the state of that generator that is
no register. -/
theorem stepPulseTakesOneStep : Obligations.StepPulseTakesOneStep := by
  unfold Obligations.StepPulseTakesOneStep
  intro s l g hcanon x b due
  have hdue : due ↔ x.StepDue g.val := by
    rw [LaneSt.StepDue, LaneSt.stepReady_iff]
  refine ⟨fun h => ?_, fun h => ?_⟩
  · obtain ⟨-, -, -, hb, -⟩ := hdue.mp h
    have hwf : x.regsWf := regsWf_of_canon (hcanon l)
    have hfits : FitsSigned 32 (oneStepLess b) := oneStepLess_fits (toSigned_fits (by decide) _) hb
    have hleft := x.rdI_pulseBegun_backlog (g := g.val) _ hwf hfits
    refine ⟨x.pulseBegun g.val (oneStepLess b), ?_, hleft, ?_, x.pg_pulseBegun_same _ g.isLt,
      fun o _ ho => ⟨?_, ?_⟩, ?_, ?_⟩
    · rw [exec_stepPulseEmit, LaneSt.stepPulse_due (hdue.mp h)]
    · rw [hleft, x.on_pulseBegun_overrun _ hwf]
    · exact x.rdI_pulseBegun_clear _ (by
        simp only [Field.ClearOf, PROF.STEP_BACKLOG.STEPS, PROF.STEP_BACKLOG.off, PROF.STATUS.off]; omega)
    · exact x.pg_pulseBegun_ne _ ho
    · exact x.rdI_pulseBegun_clear _ (by
        simp only [Field.ClearOf, PROF.POS.VALUE, PROF.STEP_BACKLOG.off, PROF.STATUS.off]; omega)
    · exact x.rdI_pulseBegun_clear _ (by
        simp only [Field.ClearOf, PROF.VEL.VALUE, PROF.STEP_BACKLOG.off, PROF.STATUS.off]; omega)
  · rw [exec_stepPulseEmit, LaneSt.stepPulse_notDue (mt hdue.mpr h), State.setLane_self]

end Sys2Proof.Machine

/-!
SUPPORT. What replan instants, plan steps, latch edges and limit edges do to a generator.
-/

namespace Sys2Proof.Machine

open Sys2Proof

/-! ## The order of changes that are due (R131) -/

theorem Due.before_iff (a b : Due) : a.before b = true ↔ a.t < b.t ∨ (a.t = b.t ∧
    ((a.act.isLimits = true ∧ b.act.isLimits = false) ∨
      (a.act.isLimits = b.act.isLimits ∧ a.timed = true ∧ b.timed = false))) := by
  simp [Due.before, and_assoc]

/-- The place of a change in the order: its instant, then SETPOINT after LIMITS, then untimed after timed. -/
def Due.rank (e : Due) : Nat := 4 * e.t + 2 * b2n (!e.act.isLimits) + b2n (!e.timed)

theorem b2n_not_lt (a b : Bool) : b2n (!a) < b2n (!b) ↔ a = true ∧ b = false := by cases a <;> cases b <;> decide

theorem b2n_not_inj (a b : Bool) : b2n (!a) = b2n (!b) ↔ a = b := by cases a <;> cases b <;> decide

theorem b2n_le_one (a : Bool) : b2n a ≤ 1 := by cases a <;> decide

theorem Due.before_iff_rank (a b : Due) : a.before b = true ↔ a.rank < b.rank := by
  have ha := b2n_le_one (!a.timed)
  have hb := b2n_le_one (!b.timed)
  have ha' := b2n_le_one (!a.act.isLimits)
  have hb' := b2n_le_one (!b.act.isLimits)
  rw [Due.before_iff, ← b2n_not_lt, ← b2n_not_lt, ← b2n_not_inj, Due.rank, Due.rank]
  omega

theorem Due.before_eq_false (a b : Due) : a.before b = false ↔ b.rank ≤ a.rank := by
  rw [← Bool.not_eq_true, Due.before_iff_rank, not_lt]

/-- The change of those so far and one more that comes first; of equals the one that stands first. -/
def earlier (r : Option Due) (x : Due) : Option Due :=
  match r with
  | none => some x
  | some y => if x.before y then some x else some y

theorem firstDue_eq (es : List Due) : firstDue es = es.foldl earlier none := rfl

/-- From one change on, the first is that one or in the list, and none ranks below it. -/
theorem foldl_earlier (es : List Due) (d : Due) :
    ∃ e ∈ d :: es, es.foldl earlier (some d) = some e ∧ ∀ f ∈ d :: es, e.rank ≤ f.rank := by
  induction es generalizing d with
  | nil => exact ⟨d, by simp, rfl, by simp⟩
  | cons c es ih =>
    rw [List.foldl_cons]
    by_cases hcd : c.before d = true
    · obtain ⟨e, he, hfold, hle⟩ := ih c
      have hrank := (Due.before_iff_rank c d).mp hcd
      have hec := hle c (List.mem_cons_self ..)
      refine ⟨e, List.mem_cons_of_mem d he, ?_, List.forall_mem_cons.mpr ⟨by omega, hle⟩⟩
      rw [show earlier (some d) c = some c from if_pos hcd, hfold]
    · obtain ⟨e, he, hfold, hle⟩ := ih d
      have hrank := (Due.before_eq_false c d).mp (by simpa using hcd)
      obtain ⟨hed, hes⟩ := List.forall_mem_cons.mp hle
      refine ⟨e, ?_, ?_, List.forall_mem_cons.mpr ⟨hed, List.forall_mem_cons.mpr ⟨by omega, hes⟩⟩⟩
      · rcases List.mem_cons.mp he with rfl | he
        · exact List.mem_cons_self ..
        · exact List.mem_cons_of_mem _ (List.mem_cons_of_mem _ he)
      · rw [show earlier (some d) c = some d from if_neg hcd, hfold]

theorem firstDue_first {es : List Due} (h : es ≠ []) :
    ∃ e ∈ es, firstDue es = some e ∧ ∀ f ∈ es, f.before e = false := by
  cases es with
  | nil => exact absurd rfl h
  | cons d es =>
    obtain ⟨e, he, hfold, hle⟩ := foldl_earlier es d
    exact ⟨e, he, (firstDue_eq _).trans hfold, fun f hf => (Due.before_eq_false f e).mpr (hle f hf)⟩

theorem LaneSt.applyAll_succ (x : LaneSt) (g k : Nat) {es : List Due} {e : Due} (h : firstDue es = some e) :
    x.applyAll g (k + 1) es = (x.applyDue g e.t e.act).applyAll g k (es.erase e) := by
  rw [LaneSt.applyAll, h]

/-- The changes that are due are the timed ones whose instant has come, unless a commit goes first, and the untimed ones
whose replan instant has come (R87, R126, R130). -/
theorem LaneSt.mem_dueList (x : LaneSt) (g t : Nat) (e : Due) : e ∈ x.dueList g t ↔
    e.t ≤ t ∧ ((e.timed = true ∧ (e.t, e.act) ∈ (x.pg g).queue ∧ x.waitsEpoch e.t = false) ∨
      (e.timed = false ∧ (e.t, e.act) ∈ (x.pg g).reqs)) := by
  obtain ⟨et, timed, act⟩ := e
  cases timed with
  | true => simp [LaneSt.dueList]; tauto
  | false => simp [LaneSt.dueList]; tauto

theorem exec_replan (s : State) (l : LaneId) (g : Fin 16) :
    exec (.replan l g) s = .next (s.setLane l ((s.lane l).changesDue g.val)) := rfl

theorem exec_timedEntryApply (s : State) (l : LaneId) (g : Fin 16) :
    exec (.timedEntryApply l g) s = .next (s.setLane l ((s.lane l).changesDue g.val)) := rfl

/-! ## Plan steps (R123, R125, R181) -/

theorem exec_planStep (s : State) (l : LaneId) (g : Fin 16) :
    exec (.planStep l g) s = .next (s.setLane l ((s.lane l).planStep g.val)) := rfl

/-- A plan that has come to its stop before a travel limit, and is not held, turns into that stop (R125). -/
def LaneSt.travelTurn (x : LaneSt) (g t : Nat) : LaneSt :=
  match (x.pg g).travelStop with
  | some k => if k ≤ t ∧ (x.pg g).hold.isNone then (x.replanRest g k).wr (PROF.STATUS.STATE g) pgStopping else x
  | none => x

section
variable {x : LaneSt} {g t k : Nat}

theorem LaneSt.travelTurn_none (h : (x.pg g).travelStop = none) : x.travelTurn g t = x := by
  rw [LaneSt.travelTurn, h]

theorem LaneSt.travelTurn_later (h : (x.pg g).travelStop = some k) (hk : t < k ∨ (x.pg g).hold ≠ none) :
    x.travelTurn g t = x := by
  rw [LaneSt.travelTurn, h]
  refine if_neg fun ⟨hle, hhold⟩ => ?_
  rcases hk with hlt | hheld
  · omega
  · exact hheld (Option.isNone_iff_eq_none.mp hhold)

theorem LaneSt.travelTurn_now (h : (x.pg g).travelStop = some k) (hk : k ≤ t) (hhold : (x.pg g).hold = none) :
    x.travelTurn g t = (x.replanRest g k).wr (PROF.STATUS.STATE g) pgStopping := by
  rw [LaneSt.travelTurn, h]
  exact if_pos ⟨hk, by rw [hhold]; rfl⟩

theorem LaneSt.planStep_running (hrole : x.role g ≠ 0) (hstate : x.rd (PROF.STATUS.STATE g) ≠ pgOff) :
    x.planStep g = (((x.reversalCheck g (nsUnits x.stepNs)).travelTurn g x.stepNs).loadStep g x.stepNs).planDone g x.stepNs :=
  if_neg (not_or.mpr ⟨hrole, hstate⟩)

end

/-! ## Latch and limit inputs (R135, R136) -/

theorem exec_profLatchEdge (s : State) (l : LaneId) (g : Fin 16) (rising : Bool) :
    exec (.profLatchEdge l g rising) s = .next (s.setLane l ((s.lane l).latchEdge g.val rising)) := rfl

theorem exec_limitSwitchEdge (s : State) (l : LaneId) (g : Fin 16) (pos : Bool) :
    exec (.limitSwitchEdge l g pos) s = .next (s.setLane l ((s.lane l).limitEdge g.val pos)) := rfl

theorem exec_limitSwitchRelease (s : State) (l : LaneId) (g : Fin 16) (pos : Bool) :
    exec (.limitSwitchRelease l g pos) s = .next (s.setLane l ((s.lane l).limitRelease g.val pos)) := rfl

/-- PWM clocks from the sample of the registered edge to its arrival; an edge that its source has not registered is
sampled at its arrival (R135). -/
def LaneSt.edgeClocks (x : LaneSt) (g : Nat) (rising : Bool) : Nat :=
  match (x.pg g).edge with
  | some (t, r) => if r = rising then (x.run - t) / 5 else 0
  | none => 0

/-- The accumulator `clocks` PWM clocks before now (R123, R135). -/
def LaneSt.spPosBefore (x : LaneSt) (g clocks : Nat) : Int :=
  let q := x.pg g
  x.wrapPos g (q.acc + q.inc * ((x.ns - q.stepAt) / 5 : Nat) - q.inc * clocks)

/-- The position of generator `g` without wrap, as a limit edge latches it (R123, R136). -/
def LaneSt.unwrappedPos (x : LaneSt) (g : Nat) : Int := (x.pg g).acc + (x.pg g).inc * ((x.ns - (x.pg g).stepAt) / 5 : Nat)

/-- The flag and the latched position of the limit input that has come (R136). -/
def LaneSt.limitLatched (x : LaneSt) (g : Nat) (pos : Bool) : LaneSt :=
  (x.wr (if pos then PROF.STATUS.LIMP_HIT g else PROF.STATUS.LIMN_HIT g) 1).setPg g
    (fun q => { q with lim := if pos then (x.unwrappedPos g, q.lim.2) else (q.lim.1, x.unwrappedPos g) })

/-- An edge of a selected polarity is none of those that the latch passes over. -/
theorem latch_selects {e : Nat} {rising : Bool} (h : e = 2 ∨ e = (if rising then 0 else 1)) :
    ¬((e = 0 ∧ !rising) ∨ (e = 1 ∧ rising) ∨ e = 3) := by
  cases rising <;> simp at h ⊢ <;> omega

section
variable {x : LaneSt} {g : Nat} (hrole : x.role g = 1)
include hrole

theorem LaneSt.latchEdge_taken {rising : Bool} (hsrc : x.rd (PROF.SW_CTRL.LATCH_SRC g) ≤ 8)
    (hedge : x.rd (PROF.SW_CTRL.LATCH_EDGE g) = 2 ∨ x.rd (PROF.SW_CTRL.LATCH_EDGE g) = (if rising then 0 else 1)) :
    x.latchEdge g rising = (((x.setPg g (fun q => { q with edge := none })).wrI (PROF.LATCH.VALUE g)
      (x.spPosBefore g (x.edgeClocks g rising))).inc (PROF.STATUS.LATCH_COUNT g)).raise (6 + g / 2) 3 :=
  if_neg (not_or.mpr ⟨Nat.not_lt.mpr hsrc, not_or.mpr ⟨not_not.mpr hrole, latch_selects hedge⟩⟩)

/-- A homing in the direction of the limit fails, and the generator comes to rest HELD (R136). -/
theorem LaneSt.limitEdge_taken {pos : Bool}
    (hsrc : x.rd (if pos then PROF.SW_CTRL.LIMP_SRC g else PROF.SW_CTRL.LIMN_SRC g) < 8) :
    x.limitEdge g pos =
      let y := x.limitLatched g pos
      let homing := (x.pg g).home ≠ .none ∧ (x.pg g).home ≠ .done ∧ (y.homeDir g = if pos then 1 else -1)
      let z := if homing then y.homeFail g 2 else y
      let w := (z.replanRest g z.stepNs).setPg g (fun q => { q with home := if homing then .none else q.home })
      (((w.wr (PROF.STATUS.STATE g) pgHeld).raise (6 + g / 2) 4).tuneAbort (g / 2) 0x77 4).fault 0x122 g :=
  if_neg (not_or.mpr ⟨not_not.mpr hrole, Nat.not_le.mpr hsrc⟩)

end

theorem LaneSt.limitRelease_eq (x : LaneSt) (g : Nat) (pos : Bool) :
    x.limitRelease g pos =
      let y := x.wr (if pos then PROF.STATUS.LIMP_HIT g else PROF.STATUS.LIMN_HIT g) 0
      if y.rd (PROF.STATUS.STATE g) = pgHeld ∧ y.on (PROF.STATUS.LIMP_HIT g) = false ∧ y.on (PROF.STATUS.LIMN_HIT g) = false
      then y.wr (PROF.STATUS.STATE g) pgStopping else y := by
  simp only [LaneSt.limitRelease, Bool.not_eq_true']

/-- Settles O28: the first of the changes that are due is the one of the least rank, and each event has its equation for the
case that its conditions hold. -/
theorem profileEventsComplete : Obligations.ProfileEventsComplete := by
  unfold Obligations.ProfileEventsComplete
  refine ⟨?_, LaneSt.mem_dueList, ?_, Due.before_iff, ?_, ?_, ?_, ?_⟩
  · intro s l g
    exact ⟨exec_replan s l g, exec_timedEntryApply s l g⟩
  · intro x g k es hes
    obtain ⟨e, he, hfirst, hbefore⟩ := firstDue_first hes
    exact ⟨e, he, hbefore, LaneSt.applyAll_succ x g k hfirst⟩
  · intro s l g hrole hstate t x
    have hstep : exec (.planStep l g) s = .next (s.setLane l (((x.travelTurn g.val t).loadStep g.val t).planDone g.val t)) := by
      rw [exec_planStep, LaneSt.planStep_running hrole hstate]
    refine ⟨fun hnone => ?_, fun k hk hlater => ?_, fun k hk hnow hhold => ?_⟩
    · rw [hstep, LaneSt.travelTurn_none hnone]
    · rw [hstep, LaneSt.travelTurn_later hk hlater]
    · rw [hstep, LaneSt.travelTurn_now hk hnow hhold]
  · intro s l g rising hrole hsrc hedge x q clocks at'
    rw [exec_profLatchEdge]
    exact congrArg _ (congrArg _ (LaneSt.latchEdge_taken hrole hsrc hedge))
  · intro s l g pos hrole hsrc x q here y homing z w
    rw [exec_limitSwitchEdge]
    exact congrArg _ (congrArg _ (LaneSt.limitEdge_taken hrole hsrc))
  · intro s l g pos x
    rw [exec_limitSwitchRelease, LaneSt.limitRelease_eq]

end Sys2Proof.Machine

/-!
SUPPORT. What the events of homing, ticks, slot issues, the ends of a tune and a late re-acquisition do.
-/

namespace Sys2Proof.Machine

open Sys2Proof

/-! ## Homing (R137) -/

section
variable {x : LaneSt} {g : Nat}

theorem LaneSt.homeRefEdge_search (h : (x.pg g).home = .search) :
    x.homeRefEdge g = (x.setPg g (fun q => { q with homeRef := x.spPos g })).homeStop g
      (if 3 ≤ x.rd (PROF.HOME_CTRL.MODE g) then .indexStop else .refStop) := if_neg (not_not.mpr h)

theorem LaneSt.homeIndex_toIndex (h : (x.pg g).home = .toIndex) :
    x.homeIndex g = ((x.setPg g (fun q => { q with homeRef := x.spPos g })).homeFinish g).homeStop g .done :=
  if_neg (not_not.mpr h)

end

theorem exec_homingRefEdge (s : State) (l : LaneId) (g : Fin 16) :
    exec (.homingRefEdge l g) s = .next (s.setLane l ((s.lane l).homeRefEdge g.val)) := rfl

theorem exec_homingIndex (s : State) (l : LaneId) (g : Fin 16) :
    exec (.homingIndex l g) s = .next (s.setLane l ((s.lane l).homeIndex g.val)) := rfl

section
variable {s : State} {l : LaneId} {g : Fin 16}

theorem exec_homingNoEdge (h : ((s.lane l).pg g.val).home = .search) :
    exec (.homingNoEdge l g) s = .next (s.setLane l ((s.lane l).homeFail g.val 1)) := by
  change execHomingNoEdge l g s = _
  rw [execHomingNoEdge, onLane, if_pos h]

theorem exec_homingNoIndex (h : ((s.lane l).pg g.val).home = .toIndex ∨ ((s.lane l).pg g.val).home = .indexStop) :
    exec (.homingNoIndex l g) s = .next (s.setLane l ((s.lane l).homeFail g.val 3)) := by
  change execHomingNoIndex l g s = _
  rw [execHomingNoIndex, onLane, if_pos h]

end

/-! ## Ticks and slots (R143, R146, R148, R150) -/

theorem exec_timetableTick (s : State) (l : LaneId) (t : Fin 4) :
    exec (.timetableTick l t) s = .next (s.setLane l ((s.lane l).tickTT t.val)) := rfl

theorem LaneSt.tickTT_running {x : LaneSt} {t : Nat} (hoff : x.rd (LOOP.TT_CTRL.SRC t) ≠ 0)
    (h3 : x.rd (LOOP.TT_CTRL.SRC t) ≠ 3) (hhold : x.inHold = false) :
    x.tickTT t =
      let y := (List.range 8).foldl LaneSt.showTorque ((x.endOldTick t).lateResults t)
      let k : TickSt := { count := (y.tt t).count + 1, k := y.tickIndex t, samples := y.tickSamples t, old := false }
      { y.readMail t with loop := { y.loop with tick := y.loop.tick.setIfInBounds t k } } :=
  if_neg (by simp [hoff, h3, hhold])

theorem exec_slotIssue (s : State) (l : LaneId) (n : Fin 128) (bad : Bool) :
    exec (.slotIssue l n bad) s = .next (s.setLane l ((s.lane l).issue n.val bad)) := rfl

section
variable {x : LaneSt} {n : Nat}

theorem LaneSt.issue_oldTick (hhold : x.inHold = false) (hold : (x.tt (x.swapSetup.rd (LOOP.ENTRY.TT n))).old = true)
    (bad : Bool) : x.issue n bad = ((x.swapSetup.issueNow n bad).swapSetup).carryKept n := by
  simp [LaneSt.issue, hhold, hold]

theorem LaneSt.issue_newTick (hhold : x.inHold = false) (hold : (x.tt (x.swapSetup.rd (LOOP.ENTRY.TT n))).old = false)
    (hnew : (x.tt (x.rd (LOOP.ENTRY.TT n))).old = false) (bad : Bool) : x.issue n bad = x.issueNow n bad := by
  simp [LaneSt.issue, hhold, hold, hnew]

/-- The angle of the channel of a d or q slot is evaluated before its first slot in a tick, and the slot counts as issued in
it (R148, R171). -/
def LaneSt.slotBegun (x : LaneSt) (n : Nat) : LaneSt :=
  let t := x.rd (LOOP.ENTRY.TT n)
  let c := x.rd (LOOP.ROUTE.INDEX n)
  let y := if x.isDq n = true ∧ (x.ang c).tick ≠ (x.tt t).count then x.commEval c t else x
  y.setSlot n (fun q => { q with tick := (y.tt t).count })

/-- What follows the evaluation of slot `n` of lane `x`, which left lane `w`: with the last d or q slot of its channel in the
tick the vector becomes duties (R174, R175). -/
def LaneSt.slotEnded (x w : LaneSt) (n : Nat) : LaneSt :=
  if w.isDq n then w.afterDq (x.rd (LOOP.ROUTE.INDEX n)) (x.rd (LOOP.ENTRY.TT n)) else w

/-- Slot `n` of timetable `t` evaluates in a state: in TUNE the relay of its channel's tune, else the law (R154, R162). -/
def LaneSt.slotEvaluated (y : LaneSt) (n t st : Nat) : LaneSt :=
  match (if st = 2 then y.tune (y.rd (LOOP.CTRL.CH n)) else none) with
  | some u => y.relayEval n t u
  | none => y.lawEval n t

theorem LaneSt.slotEvaluated_run (y : LaneSt) (n t : Nat) : y.slotEvaluated n t 1 = y.lawEval n t := by
  rw [LaneSt.slotEvaluated, if_neg (by decide)]

theorem LaneSt.slotEvaluated_tune (y : LaneSt) (t : Nat) {u : TuneSt} (hu : y.tune (y.rd (LOOP.CTRL.CH n)) = some u) :
    y.slotEvaluated n t 2 = y.relayEval n t u := by
  rw [LaneSt.slotEvaluated, if_pos rfl, hu]

/-- A due slot in RUN or TUNE discards a failed residue check and evaluates else (R143, R148). -/
theorem LaneSt.issueNow_due (hdue : x.slotDue n = true) (hst : x.rd (LOOP.STATUS.STATE n) = 1 ∨ x.rd (LOOP.STATUS.STATE n) = 2)
    (bad : Bool) :
    x.issueNow n bad = x.slotEnded (if bad then (x.slotBegun n).residueFail n
      else ((x.slotBegun n).wr (LOOP.STATUS.RESIDUE_ERR n) 0).slotEvaluated n (x.rd (LOOP.ENTRY.TT n))
        (x.rd (LOOP.STATUS.STATE n))) n :=
  if_neg (by simp [hdue]; omega)

end

/-! ## Ends of a tune (R165, R166) -/

theorem State.endTune_due {s : State} {k : LaneId} {c st det res : Nat} {r : Option Nat}
    (h : s.tuneEnds k c = some (st, det, res, r)) :
    s.endTune k c = LaneId.all.foldl (fun s j => s.setLane j ((s.lane j).tuneFinish c st det res r)) s := by
  rw [State.endTune, h]

section
variable {s : State} {l : LaneId} {n : Fin 128} {t : TuneSt}
  (htune : (s.lane l).tune ((s.lane l).rd (LOOP.CTRL.CH n.val)) = some t) (hslot : t.slot = n.val)
include htune hslot

theorem exec_tuneEnd {st det res : Nat} {r : Option Nat}
    (hends : s.tuneEnds l ((s.lane l).rd (LOOP.CTRL.CH n.val)) = some (st, det, res, r)) :
    exec (.tuneEnd l n) s = .next (LaneId.all.foldl (fun u j =>
      u.setLane j ((u.lane j).tuneFinish ((s.lane l).rd (LOOP.CTRL.CH n.val)) st det res r)) s) := by
  change execTuneEnd l n s = _
  simp only [execTuneEnd, htune, if_pos hslot, State.endTune_due hends]

theorem exec_tuneTimeout :
    exec (.tuneTimeout l n) s = .next (s.setLane l
      ((s.lane l).tuneAbort ((s.lane l).rd (LOOP.CTRL.CH n.val)) 0x75 t.done.length)) := by
  change execTuneTimeout l n s = _
  rw [execTuneTimeout, onLane]
  simp only [htune, if_pos hslot]

end

/-! ## Re-acquisition out of time (R190) -/

theorem exec_obsReacqTimeout (s : State) (l : LaneId) (n : Fin 8) :
    exec (.obsReacqTimeout l n) s = .next (s.setLane l ((s.lane l).reacqTimeout n.val)) := rfl

theorem LaneSt.reacqTimeout_waiting {x : LaneSt} {n : Nat} (hw : x.rd (COMM.STATUS.WSTATE n) = 4)
    (hr : (x.gateCh n).resume = false) :
    x.reacqTimeout n = ((x.windingOff n).satInc 8 (COMM.COUNTS2.REACQ_FAIL n)).fault 0x106 n :=
  if_neg (by simp [hw, hr])

/-- Settles O29: each event has its equation for the case that its conditions hold; an issue begins its slot, evaluates it
or discards it, and ends. -/
theorem homingAndLoopEventsComplete : Obligations.HomingAndLoopEventsComplete := by
  unfold Obligations.HomingAndLoopEventsComplete
  refine ⟨?_, ?_, ?_, ?_, ?_, ?_⟩
  · intro s l g x y
    refine ⟨fun h => ?_, fun h => ?_, exec_homingNoEdge, exec_homingNoIndex⟩
    · rw [exec_homingRefEdge, LaneSt.homeRefEdge_search h]
    · rw [exec_homingIndex, LaneSt.homeIndex_toIndex h]
  · intro s l t hoff h3 hhold x k
    rw [exec_timetableTick, LaneSt.tickTT_running hoff h3 hhold]
  · intro s l n bad hhold x o
    refine ⟨fun hold => ?_, fun hold hnew => ?_⟩
    · rw [exec_slotIssue, LaneSt.issue_oldTick hhold hold]
    · rw [exec_slotIssue, LaneSt.issue_newTick hhold hold hnew]
  · intro x n hdue t c y z done
    have hbegun : x.slotBegun n = z := rfl
    have hended : ∀ w, x.slotEnded w n = done w := fun _ => rfl
    refine ⟨fun hst => ?_, fun hrun => ?_, fun u htune hu => ?_⟩
    · rw [LaneSt.issueNow_due hdue hst true, if_pos rfl, hbegun, hended]
    · rw [LaneSt.issueNow_due hdue (.inl hrun) false, hrun, if_neg (by decide), LaneSt.slotEvaluated_run, hbegun, hended]
    · rw [LaneSt.issueNow_due hdue (.inr htune) false, htune, if_neg (by decide), hbegun,
        LaneSt.slotEvaluated_tune _ _ hu, hended]
  · intro s l n t htune hslot c
    exact ⟨fun st det res r hends => exec_tuneEnd htune hslot hends, exec_tuneTimeout htune hslot⟩
  · intro s l n hw hr
    rw [exec_obsReacqTimeout, LaneSt.reacqTimeout_waiting hw hr]

end Sys2Proof.Machine

/-!
SUPPORT. A rotation of the pipelines: which registers it writes, and that it exchanges two physical pipelines.
-/

namespace Sys2Proof.Machine

open Sys2Proof

/-! ## Rotations (R142, R144) -/

/-- A saturating count leaves the fields of other words as they are. -/
theorem LaneSt.rd_satInc_ne (x : LaneSt) {b : Nat} {f g : Field} (h : g.off ≠ f.off)
    (hs : g.off ≠ (FLT.SATURATED.COUNT b).off) (hf : f.width ≠ 64) (hg : g.width ≠ 64) :
    (x.satInc b f).rd g = x.rd g := by
  rw [LaneSt.satInc]
  split
  · exact LaneSt.rd_wr_ne x hs (by simp [FLT.SATURATED.COUNT]) hg _
  · exact LaneSt.rd_wr_ne x h hf hg _

/-- The lane with logical pipeline `i` on the old spare and `q` the new spare, the rotation counted. -/
def LaneSt.pipeExchanged (x : LaneSt) (i q : Nat) : LaneSt :=
  ((x.wr (logicalF i) (x.rd LOOP.PIPE_STATUS.SPARE)).wr LOOP.PIPE_STATUS.SPARE q).satInc 7 LOOP.ENG_COUNTS.ROTATIONS

/-- Every pipeline field stands in PIPE_STATUS, which no counter shares. -/
theorem LaneSt.rd_pipeExchanged (x : LaneSt) (i q : Nat) {g : Field} (hoff : g.off = 0x18040) (hg : g.width ≠ 64) :
    (x.pipeExchanged i q).rd g =
      ((x.wr (logicalF i) (x.rd LOOP.PIPE_STATUS.SPARE)).wr LOOP.PIPE_STATUS.SPARE q).rd g :=
  LaneSt.rd_satInc_ne _ (by simp [hoff, LOOP.ENG_COUNTS.ROTATIONS]) (by simp [hoff, FLT.SATURATED.COUNT])
    (by simp [LOOP.ENG_COUNTS.ROTATIONS]) hg

theorem logicalF_fits {i : Nat} (hi : i < 4) : (logicalF i).lo + (logicalF i).width ≤ 32 := by
  simp only [logicalF]
  omega

section
variable {x : LaneSt} {i q : Nat} (hwf : x.regsWf)
include hwf

theorem LaneSt.pipeExchanged_spare (hq : q < 8) : (x.pipeExchanged i q).rd LOOP.PIPE_STATUS.SPARE = q := by
  rw [LaneSt.rd_pipeExchanged x i q rfl (by decide), LaneSt.rd_wr_same (LaneSt.regsWf_wr hwf _ _) (by decide)]
  exact Nat.mod_eq_of_lt hq

/-- The write of the spare's field leaves the field of a logical pipeline. -/
theorem LaneSt.rd_pipeExchanged_logical {j : Nat} (hj : j < 4) :
    (x.pipeExchanged i q).rd (logicalF j) =
      (x.wr (logicalF i) (x.rd LOOP.PIPE_STATUS.SPARE)).rd (logicalF j) := by
  have hfit : (logicalF j).lo + (logicalF j).width ≤ LOOP.PIPE_STATUS.SPARE.lo := by
    simp only [logicalF, LOOP.PIPE_STATUS.SPARE]
    omega
  rw [LaneSt.rd_pipeExchanged x i q rfl (by simp [logicalF]),
    LaneSt.rd_wr_disjoint (f := LOOP.PIPE_STATUS.SPARE) (g := logicalF j) (LaneSt.regsWf_wr hwf _ _) rfl (by decide)
      (logicalF_fits hj) (.inl hfit)]

theorem LaneSt.pipeExchanged_same (hi : i < 4) (hsp : x.rd LOOP.PIPE_STATUS.SPARE < 5) :
    (x.pipeExchanged i q).rd (logicalF i) = x.rd LOOP.PIPE_STATUS.SPARE := by
  rw [LaneSt.rd_pipeExchanged_logical hwf hi, LaneSt.rd_wr_same hwf (logicalF_fits hi)]
  exact Nat.mod_eq_of_lt (Nat.lt_trans hsp (by simp [logicalF]))

theorem LaneSt.pipeExchanged_ne {j : Nat} (hi : i < 4) (hj : j < 4) (hne : j ≠ i) :
    (x.pipeExchanged i q).rd (logicalF j) = x.rd (logicalF j) := by
  have hapart : (logicalF j).lo + (logicalF j).width ≤ (logicalF i).lo ∨
      (logicalF i).lo + (logicalF i).width ≤ (logicalF j).lo := by
    simp only [logicalF]
    omega
  rw [LaneSt.rd_pipeExchanged_logical hwf hj,
    LaneSt.rd_wr_disjoint (f := logicalF i) (g := logicalF j) hwf rfl (logicalF_fits hi) (logicalF_fits hj) hapart]

end

/-- Four different pipelines beside the spare are all of the five: each pipeline that is not the spare serves one of them. -/
theorem exists_logical_of_ne_spare {p : Nat → Nat} {sp q : Nat} (hsp : sp < 5) (hp : ∀ i, i < 4 → p i < 5 ∧ p i ≠ sp)
    (hinj : ∀ i j, i < 4 → j < 4 → p i = p j → i = j) (hq : q < 5) (hne : q ≠ sp) : ∃ i, i < 4 ∧ p i = q := by
  have hsub : (Finset.range 4).image p ⊆ (Finset.range 5).erase sp := by
    simpa [Finset.image_subset_iff, and_comm] using hp
  have hcard : ((Finset.range 4).image p).card = 4 := by
    rw [Finset.card_image_of_injOn (fun i hi j hj => hinj i j (by simpa using hi) (by simpa using hj)), Finset.card_range]
  have hall : (Finset.range 4).image p = (Finset.range 5).erase sp :=
    Finset.eq_of_subset_of_card_le hsub (by rw [hcard, Finset.card_erase_of_mem (by simpa using hsp), Finset.card_range])
  have hmem : q ∈ (Finset.range 4).image p := by simp [hall, hq, hne]
  simpa using hmem

/-- Outside HOLD, with no pipeline retired, the spare changes places with the pipeline that follows it. -/
theorem LaneSt.rotatePipe_serving {x : LaneSt} {q i : Nat} (hhold : x.inHold = false)
    (hsp : x.rd LOOP.PIPE_STATUS.SPARE < 5) (hret : x.rd LOOP.PIPE_STATUS.RETIRED = 0)
    (hq : (x.rd LOOP.PIPE_STATUS.SPARE + 1) % 5 = q)
    (hserves : (List.range 4).find? (fun i => x.rd (logicalF i) = q) = some i) :
    x.rotatePipe = x.pipeExchanged i q := by
  have horder : ∀ sp, ((List.range 4).map (fun k => (sp + 1 + k) % 5)).filter (fun p => !bit 0 p) =
      [(sp + 1) % 5, (sp + 2) % 5, (sp + 3) % 5, (sp + 4) % 5] := by
    intro sp
    simp [List.range_succ, bit, Nat.add_assoc]
  rw [LaneSt.rotatePipe, if_neg (by simp [hhold, hsp]), hret, horder, hq]
  simp only [List.findSome?_cons, hserves, Option.map_some]
  rfl

theorem exec_pipeRotation (s : State) (l : LaneId) :
    exec (.pipeRotation l) s = .next (s.setLane l ((s.lane l).rotatePipe)) := rfl

/-- Settles O31: the pipeline after the spare serves a logical one, and the rotation exchanges the two, so that the five
stay different as the images of a transposition do. -/
theorem pipeRotationKeepsThePipelinesApart : Obligations.PipeRotationKeepsThePipelinesApart := by
  unfold Obligations.PipeRotationKeepsThePipelinesApart
  intro s l hcanon x sp hhold hsp hret hp hinj
  have hwf : x.regsWf := regsWf_of_canon (hcanon l)
  obtain ⟨q, hq⟩ : ∃ q, (sp + 1) % 5 = q := ⟨_, rfl⟩
  obtain ⟨k, hk, hkq⟩ := exists_logical_of_ne_spare (q := q) hsp hp hinj (by omega) (by omega)
  obtain ⟨i, hserves⟩ : ∃ i, (List.range 4).find? (fun i => x.rd (logicalF i) = q) = some i :=
    Option.isSome_iff_exists.mp (List.find?_isSome.mpr ⟨k, List.mem_range.mpr hk, by simpa using hkq⟩)
  have hi : i < 4 := List.mem_range.mp (List.mem_of_find?_eq_some hserves)
  have hiq : x.rd (logicalF i) = q := by simpa using List.find?_some hserves
  have hspare : (x.pipeExchanged i q).rd LOOP.PIPE_STATUS.SPARE = q := LaneSt.pipeExchanged_spare hwf (by omega)
  have hswap : ∀ j, j < 4 → (x.pipeExchanged i q).rd (logicalF j) = Equiv.swap sp q (x.rd (logicalF j)) := by
    intro j hj
    obtain rfl | hne := eq_or_ne j i
    · rw [LaneSt.pipeExchanged_same hwf hj hsp, hiq, Equiv.swap_apply_right]
    · have hjq : x.rd (logicalF j) ≠ q := fun h => hne (hinj j i hj hi (h.trans hiq.symm))
      rw [LaneSt.pipeExchanged_ne hwf hi hj hne, Equiv.swap_apply_of_ne_of_ne (hp j hj).2 hjq]
  rw [hq]
  refine ⟨x.pipeExchanged i q, ?_, hspare, fun j hj => ?_, fun a b ha hb hab => ?_, fun j hj => ?_⟩
  · rw [exec_pipeRotation, LaneSt.rotatePipe_serving hhold hsp hret hq hserves]
  · rw [hswap j hj, Equiv.swap_apply_def, if_neg (hp j hj).2]
  · rw [hswap a ha, hswap b hb] at hab
    exact hinj a b ha hb ((Equiv.swap sp q).injective hab)
  · rw [hswap j hj, hspare]
    exact fun h => (hp j hj).2 ((Equiv.swap sp q).injective (h.trans (Equiv.swap_apply_left sp q).symm))

end Sys2Proof.Machine

/-!
SUPPORT. The descriptors that ask for a tune, a test, a proof or a report, and what they complete with.
-/

namespace Sys2Proof.Machine

open Sys2Proof

/-! ## AUTOTUNE (R161) -/

/-- Checks before the session step that pass leave no trace. -/
theorem LaneSt.permittedSession_before {y : LaneSt} {before : List (Option (Nat × Nat))} (h : ∀ c ∈ before, c = none)
    (lead : Option (Option (Nat × Nat))) (d : Decided) (after : List (Option (Nat × Nat))) (f : LaneSt → LaneSt) :
    y.permittedSession lead d before after f = y.permittedSession lead d [] after f := by
  have hnone : firstDenied before = firstDenied [] := by
    rw [firstDenied, List.find?_eq_none.mpr (fun c hc => by simp [h c hc])]
    rfl
  rw [LaneSt.permittedSession, hnone]
  rfl

section
variable {s : State} {l : LaneId} {d : Decided} {rest : List Decided}

/-- AUTOTUNE accepted by its table. -/
theorem LaneSt.autotune_accepted {y z : LaneSt} {lead : Option (Option (Nat × Nat))} {ch slot rule eps : Nat} {x : Int}
    (hz : (y.sessionStep lead d).1 = z) (hsetup : y.permSetup = none) (hstep : (y.sessionStep lead d).2 = none)
    (hmode : y.permMode = none) (hbad : z.tuneBad ch slot rule x eps = none)
    (hdenied : z.tuneDenied ch slot (rescale x (z.outFrac slot)) = none) :
    y.autotune lead d ch slot rule x eps =
      z.tuneStart d ch slot rule (rescale x (z.outFrac slot)) (rescale eps (z.errFrac slot)) := by
  rw [LaneSt.autotune, LaneSt.permittedSession_before (by simp [hsetup]),
    LaneSt.permittedSession_passed hstep (by simp [hmode]), hz]
  simp only [hbad, hdenied]

theorem exec_autotune {ch slot rule eps : Nat} {x : Int} (h : (s.lane l).firstReady d (.autotune ch slot rule x eps) rest) :
    exec (.autotune l) s = .next (s.setLane l ((((s.lane l).takes d (.autotune ch slot rule x eps) rest).autotune
      (s.leadSession l d) d ch slot rule x eps).settle)) := by
  change execAutotune l s = _
  rw [execAutotune, onLane, LaneSt.withDesc_first h rfl]

/-! ## DIAG (R268, R269) -/

/-- The self-test (TEST 0) or the scan (TEST 1) of channel `ch` starts in a lane that the descriptor names. -/
def LaneSt.diagStart (y : LaneSt) (d : Decided) (ch test lanes dst : Nat) : LaneSt :=
  let z := y.setComm ch (fun c => { c with diag := some ⟨d, test, lanes, dst⟩ })
  if test = 0 then z.setGateCh ch (fun g => { g with test := some ⟨0, 0, 0, 0, false⟩ }) else z.scanStart ch false

theorem LaneSt.diag_accepted {y : LaneSt} {ch test lanes : Nat} (hsetup : y.permSetup = none)
    (hdenied : y.diagDenied ch test lanes = none) (hnamed : bit lanes y.id.num = true) (dst : Nat) :
    y.diag d ch test lanes dst = y.diagStart d ch test lanes dst := by
  rw [LaneSt.diag, LaneSt.permitted_granted _ _ (by simp [hsetup, hdenied])]
  exact if_neg (by simp [hnamed])

theorem diagExec_first {ch test lanes dst : Nat} (h : (s.lane l).firstReady d (.diag ch test lanes dst) rest) :
    diagExec l test s = (List.range 8).foldl State.diagSettle (s.setLane l
      ((((s.lane l).takes d (.diag ch test lanes dst) rest).diag d ch test lanes dst).settle)) := by
  rw [diagExec, LaneSt.withDesc_first h (by simp [DescOp.isDiag])]

/-- Each of the two tests has a command of its own. -/
theorem exec_diag {test : Nat} (htest : test = 0 ∨ test = 1) (s : State) (l : LaneId) :
    exec (if test = 0 then .diagComparatorSelftest l else .diagTestCurrentScan l) s = .next (diagExec l test s) := by
  rcases htest with rfl | rfl
  · rfl
  · rfl

theorem exec_diagSelftestTimeout (s : State) (l : LaneId) (ch : Fin 8) :
    exec (.diagSelftestTimeout l ch) s = .next
      ((s.setLane l ((s.lane l).setTest ch.val (fun t => { t with expired := true }))).diagSettle ch.val) := rfl

/-! ## PROOF_REQ (R395) -/

section
variable {y : LaneSt} {region index lanes : Nat} (hlow : 1 ≤ region) (hhigh : region ≤ 6)
  (hindex : index < regionCount region) (hlanes : lanes ≠ 0) (hmembers : lanes - (lanes &&& y.members) = 0)
  (honline : y.on BIST.CTRL.ONLINE_EN = true) (husers : region = 5 → y.portUsers index = 0)
  (hprovable : s.unprovable region index lanes = 0)
include hlow hhigh hindex hlanes hmembers honline husers hprovable

/-- PROOF_REQ whose fields are valid and whose checks pass. -/
theorem LaneSt.proofReq_accepted : LaneSt.proofReq s y d region index lanes =
    y.setBist (fun b => { b with reqs := b.reqs ++ [⟨d, region, index, lanes, 0, 0, 0, 0, 1023⟩] }) := by
  have hregion : ¬(region = 0 ∨ 6 < region) := by omega
  rw [LaneSt.proofReq, if_neg hregion, if_neg (Nat.not_le.mpr hindex), if_neg hlanes]
  exact LaneSt.permitted_granted y d (by simpa [hmembers, honline, hprovable] using husers) _

end

theorem exec_proofReq {region index lanes : Nat} (h : (s.lane l).firstReady d (.proofReq region index lanes) rest) :
    exec (.proofReq l) s = .next (s.setLane l
      ((LaneSt.proofReq s ((s.lane l).takes d (.proofReq region index lanes) rest) d region index lanes).settle)) := by
  change execProofReq l s = _
  rw [execProofReq, onLane, LaneSt.withDesc_first h rfl]

/-! ## LOG_READ and ATTEST (R400, R416) -/

/-- The lane after it has taken a report descriptor: it is not copied to a lane in readmission. -/
def LaneSt.takesReport (x : LaneSt) (d : Decided) (rest : List Decided) : LaneSt :=
  let x : LaneSt := { x with hif := { x.hif with exec := rest } }
  let x : LaneSt := if d.single then { x with folio := { x.folio with single := (x.folio.single + 1) % 2 ^ 32 } } else x
  x.consume d

/-- A report descriptor of a member that passes its check asks for the report. -/
theorem State.reportDesc_first {op : DescOp} {p : DescOp → Bool} {check : DescOp → Option (Nat × Nat)} {r : State}
    (h : (s.lane l).firstReady d op rest) (hp : p op = true)
    (hmember : ((s.lane l).takesReport d rest).permLanes (2 ^ op.reporter.num) = none) (hcheck : check op = none)
    (hr : (s.setLane l ((s.lane l).takesReport d rest)).askReport l d = r) :
    s.reportDesc l p check = r.setLane l ((r.lane l).settle) := by
  subst hr
  unfold LaneSt.takesReport at hmember ⊢
  simp only [State.reportDesc, takeFrom_first h hp, hmember, hcheck]

theorem exec_bulkReportCopy {src : Arrival} (hacc : (s.lane l).accepts src = true) (bs : List Byte) :
    exec (.bulkReportCopy l src bs) s =
      .next ((s.setLane l ((s.lane l).heard src (frameCount bs))).reportCopy l src.lane bs) :=
  congrArg _ (if_pos hacc)

theorem State.reportCopy_awaited {k sender : LaneId}
    (hw : (s.lane k).sec.report.find? (fun d => d.op.reporter = sender) = some d) (hlead : (s.lane k).isLead = true)
    (bs : List Byte) : s.reportCopy k sender bs = s.reportWritten k d bs := by
  rw [State.reportCopy, hw]
  exact if_pos hlead

end

/-- Settles O16: a descriptor that passes its checks has one effect, and the command of each runs it where it stands
first. -/
theorem testAndReportDescriptorsComplete : Obligations.TestAndReportDescriptorsComplete := by
  unfold Obligations.TestAndReportDescriptorsComplete
  refine ⟨?_, ?_, exec_diagSelftestTimeout, ?_, ?_, ?_⟩
  · intro s l d rest ch slot rule eps x h y z hsetup hstep hmode hbad hdenied
    rw [exec_autotune h, LaneSt.autotune_accepted rfl hsetup hstep hmode hbad hdenied]
  · intro s l d rest ch test lanes dst htest h y hsetup hdenied hnamed
    rw [exec_diag htest, diagExec_first h, LaneSt.diag_accepted hsetup hdenied hnamed]
    rfl
  · intro s l d rest region index lanes h y hlow hhigh hindex hlanes hmembers honline husers hprovable
    rw [exec_proofReq h,
      LaneSt.proofReq_accepted hlow hhigh hindex hlanes hmembers honline husers hprovable]
  · intro s l d op rest h x x' y r hmember
    refine ⟨?_, ?_⟩
    · rintro ⟨t, sign, first, count, dst, len, rfl⟩ hcheck
      exact congrArg _ (State.reportDesc_first h rfl hmember hcheck rfl)
    · rintro ⟨nonce, t, dst, rfl⟩
      exact congrArg _ (State.reportDesc_first h rfl hmember rfl rfl)
  · intro s l src d bs hacc x hwaits hlead
    rw [exec_bulkReportCopy hacc, State.reportCopy_awaited (by rw [State.setLane_lane_same]; exact hwaits)
      (by rw [State.setLane_lane_same]; exact hlead)]

end Sys2Proof.Machine

/-!
SUPPORT. What each event of a start-up, a shutdown, a held reversal and a speed limit does where its condition holds.
-/

namespace Sys2Proof.Machine

open Sys2Proof

/-! ## Start-up in one lane (R194, R195) -/

/-- Where the bootstrap charge of channel `n` leads: to the acquisition, step 5, if no port source is valid and ALIGN.EN is
1, else to step 6. -/
def LaneSt.stepAfterCharge (x : LaneSt) (n : Nat) : Nat :=
  if !(x.portValid n false || x.portValid n true) && x.on (COMM.ALIGN.EN n) then 5 else 6

/-- The lane with port `p` referenced so that RAW_ANGLE of channel `n` is ZERO_P. -/
def LaneSt.portAligned (x : LaneSt) (n p : Nat) : LaneSt :=
  ((x.wrI (FBK.INDEX_REF.VALUE p) (((x.rd (FBK.ANGLE_CNT.VALUE p) : Int) - x.rd (COMM.ZERO_P.COUNT n))
    % (x.cprCh n : Int))).wr (FBK.STATUS.IDX_SEEN p) 1).setPort p (fun q => { q with seeded := true })

section
variable {x : LaneSt} {n : Nat} (hstate : x.chState n = chStarting)
include hstate

theorem LaneSt.contactorReady_ready (hstep : (x.ch n).step = 2) (hready : x.phaseIsoReady n = true) :
    x.contactorReady n = x.scanPhase n := if_pos ⟨hstate, hstep, hready⟩

theorem LaneSt.chargeDone_charging (hstep : (x.ch n).step = 4) :
    x.chargeDone n =
      let y := if x.rd (COMM.STATUS.WSTATE n) = 5 then x.windingOff n else x
      y.setStep n (y.stepAfterCharge n) :=
  if_neg (not_or.mpr ⟨not_not.mpr hstate, not_not.mpr hstep⟩)

theorem LaneSt.startTimeout_running (hrun : (x.ch n).step ≠ 0 ∨ (x.ch n).fromHold = true) :
    x.startTimeout n = (x.windingSafe n).startFail n
      (if (x.ch n).step = 2 then 7 else if (x.ch n).step = 5 then 0x0A else 9) := by
  have hnotIdle : ¬((x.ch n).step = 0 ∧ !(x.ch n).fromHold) := by
    rintro ⟨hstep, hhold⟩
    rcases hrun with h | h
    · exact h hstep
    · simp [h] at hhold
  exact if_neg (not_or.mpr ⟨not_not.mpr hstate, hnotIdle⟩)

variable (hacq : (x.ang n).acq = 2)
include hacq

/-- An alignment fails with an index search that found none, or with a port that has left ACQUIRE. -/
theorem LaneSt.alignEnd_fails (hfails : x.on (FBK.CTRL.IDX_EN (x.rd (COMM.SRC.PORT_P n))) = true ∨
      x.rd (FBK.STATUS.STATE (x.rd (COMM.SRC.PORT_P n))) ≠ portAcquire) :
    x.alignEnd n = (x.windingSafe n).startFail n 0x0A :=
  (if_neg (not_or.mpr ⟨not_not.mpr hstate, not_not.mpr hacq⟩)).trans (if_pos hfails)

theorem LaneSt.alignEnd_tracks (hidx : x.on (FBK.CTRL.IDX_EN (x.rd (COMM.SRC.PORT_P n))) = false)
    (hport : x.rd (FBK.STATUS.STATE (x.rd (COMM.SRC.PORT_P n))) = portAcquire) :
    x.alignEnd n =
      let p := x.rd (COMM.SRC.PORT_P n)
      ((x.portAligned n p).setPortState p portTrack).setAng n (fun a => { a with acq := 3 }) :=
  (if_neg (not_or.mpr ⟨not_not.mpr hstate, not_not.mpr hacq⟩)).trans (if_neg (by simp [hidx, hport]))

theorem LaneSt.searchFails_searching (hidx : x.on (FBK.CTRL.IDX_EN (x.rd (COMM.SRC.PORT_P n))) = true) :
    x.searchFails n = (x.windingSafe n).startFail n 0x0A :=
  if_neg (not_or.mpr ⟨not_not.mpr hstate, not_or.mpr ⟨not_not.mpr hacq, by simp [hidx]⟩⟩)

end

/-! ## Steps that every member takes together (R194) -/

section
variable {s : State} {l : LaneId} {n : Fin 8} (hmember : (s.lane l).isMember = true)
  (hstate : (s.lane l).chState n.val = chStarting)
include hmember hstate

theorem exec_angleAcquisitionStart_due (hstep : ((s.lane l).ch n.val).step = 5) (hacq : ((s.lane l).ang n.val).acq = 0)
    (hall : s.allAt l n.val (fun c _ => 5 ≤ c.step) = true) :
    exec (.angleAcquisitionStart l n) s = .next (s.setLane l ((s.lane l).acquire n.val)) :=
  congrArg _ (if_pos ⟨hmember, hstate, hstep, hacq, hall⟩)

theorem exec_acquisitionEnd_due (hstep : ((s.lane l).ch n.val).step = 5) (hacq : ((s.lane l).ang n.val).acq = 3)
    (hall : s.allAt l n.val (fun c a => 6 ≤ c.step || a.acq = 3) = true) :
    exec (.acquisitionEnd l n) s = .next (s.setLane l ((s.lane l).setStep n.val 6)) :=
  congrArg _ (if_pos ⟨hmember, hstate, hstep, hacq, hall⟩)

variable (hfault : s.faultDue l n.val = false)
include hfault

theorem exec_channelStartupBoundary_due (hstep : ((s.lane l).ch n.val).step = 6)
    (hall : s.allAt l n.val (fun c _ => 6 ≤ c.step) = true) :
    exec (.channelStartupBoundary l n) s =
      .next (s.setLane l ((s.lane l).startBoundary n.val (s.votedPos l n.val))) :=
  congrArg _ (if_pos ⟨hmember, hstate, hstep, by simp [hfault], hall⟩)

theorem exec_channelStartupComplete_due (hstep : ((s.lane l).ch n.val).step = 7)
    (hall : s.allAt l n.val (fun c _ => 7 ≤ c.step) = true) :
    exec (.channelStartupComplete l n) s = .next (s.setLane l ((s.lane l).startComplete n.val)) :=
  congrArg _ (if_pos ⟨hmember, hstate, hstep, by simp [hfault], hall⟩)

end

/-! ## Shutdown (R196) -/

theorem LaneSt.shutdownOverrun_stopping {x : LaneSt} {n : Nat} (hstate : x.chState n = chStopping) :
    x.shutdownOverrun n = (x.cut n chDisabled false).fault 0x10D n := if_neg (not_not.mpr hstate)

section
variable {s : State} {l : LaneId} {n : Nat} (hstate : (s.lane l).chState n = chStopping)
  (hfault : s.faultDue l n = false) (hrests : ((s.lane l).genRests (2 * n) && (s.lane l).genRests (2 * n + 1)) = true)
include hstate hfault hrests

/-- With both generators at rest a shutdown waits only for the windings: this lane's first, then every member's. -/
theorem shutdownComplete_resting :
    shutdownComplete l n s =
      if !(s.lane l).hasRested n then s.setLane l ((s.lane l).setGateCh n (fun g => { g with park := true }))
      else if (s.membersOf l).all (fun j => (s.lane j).chState n ≠ chStopping || (s.lane j).hasRested n)
        then s.setLane l ((s.lane l).shutdownEnd n) else s :=
  if_neg (by simp [hstate, hfault, hrests])

theorem shutdownComplete_parks (hrested : (s.lane l).hasRested n = false) :
    shutdownComplete l n s = s.setLane l ((s.lane l).setGateCh n (fun g => { g with park := true })) := by
  rw [shutdownComplete_resting hstate hfault hrests, if_pos (by simp [hrested])]

theorem shutdownComplete_ends (hrested : (s.lane l).hasRested n = true)
    (hall : (s.membersOf l).all (fun j => (s.lane j).chState n ≠ chStopping || (s.lane j).hasRested n) = true) :
    shutdownComplete l n s = s.setLane l ((s.lane l).shutdownEnd n) := by
  rw [shutdownComplete_resting hstate hfault hrests, if_neg (by simp [hrested]), if_pos hall]

end

theorem exec_channelShutdownComplete (s : State) (l : LaneId) (n : Fin 8) :
    exec (.channelShutdownComplete l n) s = .next (shutdownComplete l n.val s) := rfl

/-! ## Held reversals and the speed limit (R178, R181, R182) -/

/-- The lane with the reversal of generator `g`, held since `h`, released: what is left of its plan comes later by the length
of the hold. -/
def LaneSt.holdShifted (x : LaneSt) (g h : Nat) : LaneSt :=
  (x.dropHold g).setPg g (fun q => { q with
    plan := q.plan.map (fun z => if h ≤ z.t then { z with t := z.t + (x.time.now - h) } else z) })

/-- The lane with the step of a stop before a travel limit found anew for the plan in force. -/
def LaneSt.travelStopMoved (x : LaneSt) (g : Nat) : LaneSt :=
  if (x.pg g).travelStop.isNone then x else x.setPg g (fun q => { q with
    travelStop := x.travelStopAt g x.stepNs (x.pg g).plan ((planEnd (x.pg g).plan).elim 0 (·.v)) })

section
variable {x : LaneSt} {n : Nat}

theorem LaneSt.releaseHold_slow {h : Nat} (hhold : (x.pg (2 * n)).hold = some h) (hslow : x.slowEnough n = true) :
    x.releaseHold n = (((x.holdShifted (2 * n) h).travelStopMoved (2 * n)).showPlanEnd (2 * n)).satInc 8
      (COMM.COUNTS2.REVERSALS n) := by
  simp only [LaneSt.releaseHold, hhold]
  exact if_neg (by simp [hslow])

theorem LaneSt.reversalStall_late {h : Nat} (hhold : (x.pg (2 * n)).hold = some h)
    (hlate : h + 10 ^ 7 * x.rd (COMM.TMO.REV n) * 2 ^ 32 < x.time.now) : x.reversalStall n = x.fault 0x109 n := by
  simp only [LaneSt.reversalStall, hhold]
  exact if_neg (Nat.not_le.mpr hlate)

theorem LaneSt.overspeed_above (h : 9 * x.speedLimitNow n < 8 * (x.chSpeed n).natAbs) :
    x.overspeed n = x.fault 0x10A n := if_pos h

end

/-- Settles O32: each event has its equation for the case that its conditions hold. -/
theorem channelStepsComplete : Obligations.ChannelStepsComplete := by
  unfold Obligations.ChannelStepsComplete
  refine ⟨?_, ?_, ?_, ?_⟩
  · intro s l n hstate x
    refine ⟨fun hstep hready => ?_, fun hstep => ?_, fun hmember => exec_angleAcquisitionStart_due hmember hstate,
      fun hacq => ⟨fun hfails => ?_, fun hidx hport => ?_, fun hidx => ?_⟩,
      fun hmember => exec_acquisitionEnd_due hmember hstate,
      fun hmember hstep hfault => exec_channelStartupBoundary_due hmember hstate hfault hstep,
      fun hmember hstep hfault => exec_channelStartupComplete_due hmember hstate hfault hstep, fun hrun => ?_⟩
    · exact congrArg _ (congrArg _ (LaneSt.contactorReady_ready hstate hstep hready))
    · exact congrArg _ (congrArg _ (LaneSt.chargeDone_charging hstate hstep))
    · exact congrArg _ (congrArg _ (LaneSt.alignEnd_fails hstate hacq hfails))
    · exact congrArg _ (congrArg _ (LaneSt.alignEnd_tracks hstate hacq hidx hport))
    · exact congrArg _ (congrArg _ (LaneSt.searchFails_searching hstate hacq hidx))
    · exact congrArg _ (congrArg _ (LaneSt.startTimeout_running hstate hrun))
  · intro s l n hstate x
    refine ⟨fun hfault hrests => ⟨fun hrested => ?_, fun hrested hall => ?_⟩, ?_⟩
    · rw [exec_channelShutdownComplete, shutdownComplete_parks hstate hfault hrests hrested]
    · rw [exec_channelShutdownComplete, shutdownComplete_ends hstate hfault hrests hrested hall]
    · exact congrArg _ (congrArg _ (LaneSt.shutdownOverrun_stopping hstate))
  · intro s l n h hhold x
    exact ⟨fun hslow => congrArg _ (congrArg _ (LaneSt.releaseHold_slow hhold hslow)),
      fun hlate => congrArg _ (congrArg _ (LaneSt.reversalStall_late hhold hlate))⟩
  · intro s l n habove
    exact congrArg _ (congrArg _ (LaneSt.overspeed_above habove))

end Sys2Proof.Machine

/-!
SUPPORT. What each transition, index edge, Hall state and frame of a feedback port does where its condition holds.
-/

namespace Sys2Proof.Machine

open Sys2Proof

/-! ## Quadrature and the index (R209 to R213) -/

section
variable {s : State} {l : LaneId} {p : Fin 24} (hmode : (s.lane l).rd (FBK.CTRL.MODE p.val) = 1)

/-- The lane with both lines of port `p` at raw levels `a` and `b` for `held` samples. -/
def LaneSt.linesShown (x : LaneSt) (p : Nat) (a b : Bool) (held : Nat) : LaneSt := (x.line p 0 a held).line p 1 b held

include hmode

theorem exec_quadTransition_quad {a b m : Bool} {held : Nat} {z : LaneSt}
    (hone : a = (s.lane l).level p.val 0 ∨ b = (s.lane l).level p.val 1)
    (hstep : ((s.lane l).linesShown p.val a b held).quadStep p.val ((s.lane l).level p.val 0) ((s.lane l).level p.val 1) = z) :
    exec (.quadTransition l p a b ⟨held, m⟩) s = .next (s.setLane l (z.judgeDecoders p.val m)) := by
  subst hstep
  have hboth : ¬(a ≠ (s.lane l).level p.val 0 ∧ b ≠ (s.lane l).level p.val 1) := by tauto
  exact congrArg _ (congrArg _ ((if_neg hboth).trans (if_neg (not_not.mpr hmode))))

theorem exec_doubleStep_quad {m : Bool} {held : Nat} {z : LaneSt}
    (hstep : ((s.lane l).linesShown p.val (!(s.lane l).level p.val 0) (!(s.lane l).level p.val 1) held).quadStep p.val
      ((s.lane l).level p.val 0) ((s.lane l).level p.val 1) = z) :
    exec (.doubleStep l p held m) s = .next (s.setLane l (z.judgeDecoders p.val m)) := by
  subst hstep
  exact congrArg _ (congrArg _ (if_neg (not_not.mpr hmode)))

end

section
variable {y : LaneSt} {p : Nat} {a0 b0 : Bool}

theorem LaneSt.quadStep_none (ha : y.level p 0 = a0) (hb : y.level p 1 = b0) : y.quadStep p a0 b0 = y :=
  if_pos (.inl ⟨ha, hb⟩)

variable (hcounts : y.portCounts p = true)
include hcounts

/-- A change of a filtered level is a double step or one count, in the ×4 sense inverted by DIR. -/
theorem LaneSt.quadStep_changed (h : ¬(y.level p 0 = a0 ∧ y.level p 1 = b0)) :
    y.quadStep p a0 b0 =
      if y.level p 0 ≠ a0 ∧ y.level p 1 ≠ b0 then (y.satInc 10 (FBK.COUNTS.DOUBLES p)).gapRule p
      else y.decodedStep p
        (if (if y.level p 0 ≠ a0 then a0 = b0 else a0 ≠ b0) ≠ (y.on (FBK.CTRL.DIR p) = true) then 1 else -1) :=
  if_neg (not_or.mpr ⟨h, by simp [hcounts]⟩)

theorem LaneSt.quadStep_both (ha : y.level p 0 ≠ a0) (hb : y.level p 1 ≠ b0) :
    y.quadStep p a0 b0 = (y.satInc 10 (FBK.COUNTS.DOUBLES p)).gapRule p :=
  (LaneSt.quadStep_changed hcounts (fun h => ha h.1)).trans (if_pos ⟨ha, hb⟩)

theorem LaneSt.quadStep_one (h : (y.level p 0 ≠ a0 ∧ y.level p 1 = b0) ∨ (y.level p 0 = a0 ∧ y.level p 1 ≠ b0)) :
    y.quadStep p a0 b0 = y.decodedStep p
      (if (if y.level p 0 ≠ a0 then a0 = b0 else a0 ≠ b0) ≠ (y.on (FBK.CTRL.DIR p) = true) then 1 else -1) :=
  (LaneSt.quadStep_changed hcounts (by tauto)).trans (if_neg (by tauto))

end

/-- A rising edge of the filtered index of a counting port. -/
theorem exec_indexPulse_rises {s : State} {l : LaneId} {p : Fin 24} {held : Nat} {z : LaneSt}
    (hmode : (s.lane l).rd (FBK.CTRL.MODE p.val) = 1) (hen : (s.lane l).on (FBK.CTRL.IDX_EN p.val) = true)
    (hlow : (s.lane l).level p.val 2 = false) (hhigh : ((s.lane l).line p.val 2 true held).level p.val 2 = true)
    (hcounts : ((s.lane l).line p.val 2 true held).portCounts p.val = true)
    (hedge : ((s.lane l).line p.val 2 true held).indexEdge p.val = z) :
    exec (.indexPulse l ⟨p, true, held⟩) s = .next (s.setLane l z) := by
  subst hedge
  have hacts : (s.lane l).index p.val true held = ((s.lane l).line p.val 2 true held).indexEdge p.val := by
    simp [LaneSt.index, hmode, hen, hlow, hhigh, hcounts]
  exact congrArg _ (congrArg _ hacts)

/-- The lane whose index edge is handed on and has latched the position. -/
def LaneSt.indexLatched (w : LaneSt) (p : Nat) : LaneSt := (w.handEdge 8 p true).wrI (FBK.IDX_LATCH.VALUE p) (w.latchPos p)

/-- The lane with what the index edge of this sample did: 0 the first, 1 a check passed, 2 a check failed. -/
def LaneSt.indexNoted (x : LaneSt) (p k : Nat) : LaneSt := x.setPort p (fun q => { q with idxAt := some (x.sample, k) })

section
variable {w : LaneSt} {p : Nat}

theorem LaneSt.indexEdge_first (h : (w.indexLatched p).on (FBK.STATUS.IDX_SEEN p) = false) :
    w.indexEdge p =
      let x := w.indexLatched p
      let y := ((x.wr (FBK.INDEX_REF.VALUE p) (x.rd (FBK.ANGLE_CNT.VALUE p))).wr (FBK.STATUS.IDX_SEEN p) 1).indexNoted p 0
      if y.rd (FBK.STATUS.STATE p) = portAcquire then (y.setPortState p portTrack).searchEnds p else y :=
  if_pos (by rw [Bool.not_eq_true']; exact h)

theorem LaneSt.indexEdge_again (h : (w.indexLatched p).on (FBK.STATUS.IDX_SEEN p) = true) :
    w.indexEdge p =
      let x := w.indexLatched p
      let err := signedMod ((x.rd (FBK.ANGLE_CNT.VALUE p) : Int) - x.rd (FBK.INDEX_REF.VALUE p)) (x.cprOf p)
      if err.natAbs ≤ x.rd (FBK.IDX.TOL p) then
        if (x.indexNoted p 1).rd (FBK.STATUS.STATE p) = portUncertain then
          ((x.indexNoted p 1).wr (FBK.STATUS.LOST p) 0).setPortState p portTrack
        else x.indexNoted p 1
      else ((x.indexNoted p 2).setPortState p portUncertain).fault 0x145 p :=
  if_neg (by rw [Bool.not_eq_true', Bool.not_eq_false]; exact h)

end

/-! ## Hall (R214) -/

/-- The lane with the three lines of port `p` at the raw levels `h` for `held` samples. -/
def LaneSt.hallShown (x : LaneSt) (p h held : Nat) : LaneSt :=
  ((x.line p 0 (bit h 0) held).line p 1 (bit h 1) held).line p 2 (bit h 2) held

/-- A new filtered state, or the first since the ledger started, is decoded. -/
theorem exec_hallState_new {s : State} {l : LaneId} {p : Fin 24} {h : BitVec 3} {held : Nat} {m : Bool} {z : LaneSt}
    (hmode : (s.lane l).rd (FBK.CTRL.MODE p.val) = 2)
    (hcounts : ((s.lane l).hallShown p.val h.toNat held).portCounts p.val = true)
    (hnew : (s.lane l).rd (FBK.STATUS.LINES p.val) ≠ ((s.lane l).hallShown p.val h.toNat held).rd (FBK.STATUS.LINES p.val) ∨
      (((s.lane l).hallShown p.val h.toNat held).port p.val).sector = none)
    (hstep : ((s.lane l).hallShown p.val h.toNat held).hallStep p.val
      (((s.lane l).hallShown p.val h.toNat held).rd (FBK.STATUS.LINES p.val)) = z) :
    exec (.hallState l p ⟨h, held, m⟩) s = .next (s.setLane l (z.judgeDecoders p.val m)) := by
  subst hstep
  have hacts : ¬((!((s.lane l).hallShown p.val h.toNat held).portCounts p.val) = true ∨
      (s.lane l).rd (FBK.STATUS.LINES p.val) = ((s.lane l).hallShown p.val h.toNat held).rd (FBK.STATUS.LINES p.val) ∧
        (((s.lane l).hallShown p.val h.toNat held).port p.val).sector.isSome = true) := by
    rw [hcounts]
    rintro (hno | ⟨hsame, hseen⟩)
    · cases hno
    · rcases hnew with h | h
      · exact h hsame
      · rw [h] at hseen
        cases hseen
  exact congrArg _ (congrArg _ ((if_neg (not_not.mpr hmode)).trans (if_neg hacts)))

theorem signedMod_six (n : Int) : -3 ≤ signedMod n 6 ∧ signedMod n 6 < 3 := by
  simp only [signedMod]
  omega

section
variable {x : LaneSt} {p h : Nat}

theorem LaneSt.hallStep_invalid (hh : hallSector h = none) :
    x.hallStep p h = (x.satInc 10 (FBK.COUNTS.ERRORS p)).fault 0x146 p := by
  rw [LaneSt.hallStep, hh]

theorem LaneSt.hallStep_first {c : Nat} (hh : hallSector h = some c) (hsector : (x.port p).sector = none) :
    x.hallStep p h = (x.setPort p (fun q => { q with sector := some c })).seed p c := by
  simp only [LaneSt.hallStep, hh, hsector]

/-- A valid sector after another: of the six differences −3 alone has no direction. -/
theorem LaneSt.hallStep_next {c c0 : Nat} {d : Int} (hh : hallSector h = some c) (hsector : (x.port p).sector = some c0)
    (hd : signedMod ((c : Int) - c0) 6 = d) :
    x.hallStep p h =
      let y := x.setPort p (fun q => { q with sector := some c })
      if d = 0 then y else if d = 1 ∨ d = -1 then y.decodedStep p d
      else if (d = 2 ∨ d = -2) ∧ decide (d < 0) = y.on (FBK.STATUS.DIR p) then y.gapRule p
      else y.loseStep p := by
  have hrange := signedMod_six ((c : Int) - c0)
  rw [hd] at hrange
  simp only [LaneSt.hallStep, hh, hsector, hd]
  split
  · rfl
  split
  · rfl
  split
  · rw [if_neg (by omega)]
  · have htwo : d = 2 ∨ d = -2 := by omega
    simp only [htwo, true_and]

end

/-! ## SSI and SENT (R215 to R217) -/

section
variable {x : LaneSt} {p : Nat} (hcounts : x.portCounts p = true)
include hcounts

theorem LaneSt.ssiTrigger_idle (hmode : x.rd (FBK.CTRL.MODE p) = 3)
    (hmono : ∀ t, (x.port p).ssiEnd = some t → t + x.rd (FBK.SSI_TRIG.MONO p) * 100 ≤ x.sample)
    (hidle : (x.port p).ssiAt = none) :
    x.ssiTrigger p = x.setPort p (fun q => { q with ssiAt := some x.sample }) := by
  have hlate : (x.port p).ssiEnd.any (fun t => decide (x.sample < t + x.rd (FBK.SSI_TRIG.MONO p) * 100)) = false := by
    simpa [Option.any_eq_false] using hmono
  exact if_neg (by simp [hmode, hcounts, hlate, hidle])

end

/-- The lane with the SSI frame of port `p` ended and its raw levels shown on the data line. -/
def LaneSt.ssiEnded (x : LaneSt) (p : Nat) (runs : List (Bool × Nat)) : LaneSt :=
  runs.foldl (fun z r => z.line p 0 r.1 r.2) (x.setPort p (fun q => { q with ssiAt := none, ssiEnd := some x.sample }))

section
variable {x : LaneSt} {p : Nat} (hcounts : x.portCounts p = true)
include hcounts

theorem LaneSt.ssiFrame_bad {runs : List (Bool × Nat)} (hmode : x.rd (FBK.CTRL.MODE p) = 3)
    (hread : (x.port p).ssiAt.isSome = true) (hbad : (x.ssiEnded p runs).ssiPosition p (x.ssiBits p runs) = none) (m : Bool) :
    x.ssiFrame p runs m = (x.ssiEnded p runs).frameError p := by
  unfold LaneSt.ssiEnded at hbad ⊢
  simp [LaneSt.ssiFrame, hmode, hcounts, Option.isSome_iff_ne_none.mp hread, hbad]

theorem LaneSt.ssiFrame_good {runs : List (Bool × Nat)} {v : Nat} (hmode : x.rd (FBK.CTRL.MODE p) = 3)
    (hread : (x.port p).ssiAt.isSome = true) (hgood : (x.ssiEnded p runs).ssiPosition p (x.ssiBits p runs) = some v) (m : Bool) :
    x.ssiFrame p runs m = ((x.ssiEnded p runs).frameValue p v).judgeDecoders p m := by
  unfold LaneSt.ssiEnded at hgood ⊢
  simp [LaneSt.ssiFrame, hmode, hcounts, Option.isSome_iff_ne_none.mp hread, hgood]

/-- A frame whose pulses fail a check is an error, and no slow-channel message goes on after it. -/
theorem LaneSt.sentFrame_bad {pulses : List Nat} (hmode : x.rd (FBK.CTRL.MODE p) = 4)
    (hbad : x.sentNibbles p pulses = none) (level m : Bool) :
    x.sentFrame p pulses level m = ((x.line p 0 level (x.rd (FBK.CTRL.FILT p) + 1)).setPort p
      (fun q => { q with cal := pulses.head?, slow := [] })).frameError p := by
  simp [LaneSt.sentFrame, hmode, hcounts, hbad]

/-- A good frame: its status nibble, then its value. -/
theorem LaneSt.sentFrame_good {pulses ns : List Nat} (hmode : x.rd (FBK.CTRL.MODE p) = 4)
    (hgood : x.sentNibbles p pulses = some ns) (level m : Bool) :
    x.sentFrame p pulses level m =
      let y := ((x.line p 0 level (x.rd (FBK.CTRL.FILT p) + 1)).setPort p (fun q => { q with cal := pulses.head? })).sentSlow p
        (ns.getD 0 0)
      (y.frameValue p (((ns.drop 1).take (y.rd (FBK.SENT_CTRL.POS_NIBS p))).foldl (fun n b => 16 * n + b) 0)).judgeDecoders p m := by
  simp [LaneSt.sentFrame, hmode, hcounts, hgood]

end

/-- Settles O33: each event has its equation for the case it finds, and the second decoder is compared after it. -/
theorem feedbackDecodingCompletes : Obligations.FeedbackDecodingCompletes := by
  unfold Obligations.FeedbackDecodingCompletes
  refine ⟨?_, ?_, ?_, ?_, ?_⟩
  · intro s l p a b held m hmode x a0 b0 y hcounts
    refine ⟨fun hone => ⟨fun hchange => ?_, fun ⟨ha, hb⟩ => ?_⟩, fun ha hb hna hnb => ?_⟩
    · exact exec_quadTransition_quad hmode hone (LaneSt.quadStep_one hcounts hchange)
    · exact exec_quadTransition_quad hmode hone (LaneSt.quadStep_none ha hb)
    · obtain rfl : a = !a0 := Bool.eq_not.mpr ha
      obtain rfl : b = !b0 := Bool.eq_not.mpr hb
      exact exec_doubleStep_quad hmode (LaneSt.quadStep_both hcounts hna hnb)
  · intro s l p held hmode hen hlow w hhigh hcounts x note cnt
    exact ⟨fun hseen => exec_indexPulse_rises hmode hen hlow hhigh hcounts (LaneSt.indexEdge_first hseen),
      fun hseen => exec_indexPulse_rises hmode hen hlow hhigh hcounts (LaneSt.indexEdge_again hseen)⟩
  · intro s l p h held m hmode x now hcounts hnew
    exact ⟨fun hh => exec_hallState_new hmode hcounts hnew (LaneSt.hallStep_invalid hh),
      fun c hh hsector => exec_hallState_new hmode hcounts hnew (LaneSt.hallStep_first hh hsector),
      fun c c0 d hh hsector hd => exec_hallState_new hmode hcounts hnew (LaneSt.hallStep_next hh hsector hd)⟩
  · intro s l p hmode hcounts x
    refine ⟨fun hmono hidle => congrArg _ (congrArg _ (LaneSt.ssiTrigger_idle hcounts hmode hmono hidle)),
      fun runs m hread => ⟨fun hbad => ?_, fun v hgood => ?_⟩⟩
    · exact congrArg _ (congrArg _ (LaneSt.ssiFrame_bad hcounts hmode hread hbad m))
    · exact congrArg _ (congrArg _ (LaneSt.ssiFrame_good hcounts hmode hread hgood m))
  · intro s l p pulses level m hmode hcounts x
    exact ⟨fun hbad => congrArg _ (congrArg _ (LaneSt.sentFrame_bad hcounts hmode hbad level m)),
      fun ns hgood => congrArg _ (congrArg _ (LaneSt.sentFrame_good hcounts hmode hgood level m))⟩

end Sys2Proof.Machine

/-!
SUPPORT. What stale ports, velocity time-outs, ends of a bypass, pass-through outputs and probes do where their conditions hold.
-/

namespace Sys2Proof.Machine

open Sys2Proof

/-! ## Stale ports, velocity and the end of a bypass (R218 to R220, R224) -/

section
variable {x : LaneSt} {p : Nat}

theorem LaneSt.stale_due (hmode : x.rd (FBK.CTRL.MODE p) = 3 ∨ x.rd (FBK.CTRL.MODE p) = 4) (hcounts : x.portCounts p = true)
    (hfresh : x.on (FBK.STATUS.STALE p) = false) :
    x.stale p = (((x.wr (FBK.STATUS.STALE p) 1).judgeAbs p).sourceBad p).fault 0x148 p := by
  have hframes : ¬(x.rd (FBK.CTRL.MODE p) ≠ 3 ∧ x.rd (FBK.CTRL.MODE p) ≠ 4) := by tauto
  exact if_neg (by simp only [hframes, hcounts, hfresh]; decide)

theorem LaneSt.velTimeout_rests (hstate : x.rd (FBK.STATUS.STATE p) ≠ portBypassed)
    (hrests : ∀ c, (x.port p).changes.head? = some c → x.rd (FBK.VEL.TMO p) * 100 ≤ x.sample - c.1) :
    x.velTimeout p = x.wr (FBK.VELOCITY.VALUE p) 0 := by
  have hmoves : x.velMoves p = false := by
    simpa only [LaneSt.velMoves, Option.any_eq_false, Bool.not_eq_true, decide_eq_false_iff_not, Nat.not_lt] using hrests
  exact if_neg (by simp [hstate, hmoves])

/-- The lane with pass-through output `k` at its target without a transition and held no longer. -/
def LaneSt.ptRestarted (y : LaneSt) (k : Nat) : LaneSt :=
  (({ y with fbk := { y.fbk with pt := y.fbk.pt.setIfInBounds k (
    if y.rd (FBK.PT_CTRL.MODE k) = 2 then y.ptTarget k else y.fbk.pt.getD k 0) } } : LaneSt).wr (FBK.PT_STATUS.HELD k) 0).ptJudge k

theorem LaneSt.ptRestart_eq (y : LaneSt) (p : Nat) :
    y.ptRestart p = (List.range 4).foldl (fun y k => if y.rd (FBK.PT_CTRL.SRC k) = p then y.ptRestarted k else y) y := by
  unfold LaneSt.ptRestart
  simp only [ne_eq, ite_not]
  rfl

/-- In ACQUIRE the outputs of a port start again; it stays a source. -/
theorem LaneSt.setPortState_acquire (y : LaneSt) (p : Nat) :
    y.setPortState p portAcquire = ((y.wr (FBK.STATUS.STATE p) 1).judgeAbs p).ptRestart p := rfl

theorem LaneSt.bypassEnd_returns (hstate : x.rd (FBK.STATUS.STATE p) = portBypassed)
    (hin : x.bist.out.contains (5, p) = false) :
    x.bypassEnd p =
      ((((x.wr (FBK.INDEX_REF.VALUE p) 0).wr (FBK.STATUS.IDX_SEEN p) 0).ledgerStart p).setPortState p portAcquire).setPos p :=
  if_neg (by rw [hstate, hin]; decide)

end

/-! ## Pass-through outputs (R224) -/

theorem LaneSt.ptEmit_owed {x : LaneSt} {k : Nat} (hmode : x.rd (FBK.PT_CTRL.MODE k) = 2)
    (hruns : x.on (FBK.PT_STATUS.STOPPED k) = false) (hfree : x.on (FBK.PT_STATUS.HELD k) = false)
    (howed : x.fbk.pt.getD k 0 ≠ x.ptTarget k)
    (hgap : ∀ t, x.fbk.ptAt.getD k none = some t → t + x.rd (FBK.PT_EMU.MINGAP k) ≤ x.sample) :
    x.ptEmit k = ({ x with fbk := { x.fbk with
      pt := x.fbk.pt.setIfInBounds k (if x.fbk.pt.getD k 0 < x.ptTarget k then x.fbk.pt.getD k 0 + 1 else x.fbk.pt.getD k 0 - 1),
      ptAt := x.fbk.ptAt.setIfInBounds k (some x.sample) } } : LaneSt).ptJudge k := by
  have hlate : (x.fbk.ptAt.getD k none).any (fun t => decide (x.sample < t + x.rd (FBK.PT_EMU.MINGAP k))) = false := by
    simpa [Option.any_eq_false] using hgap
  exact if_neg (by simp [hmode, hruns, hfree, howed, hlate])

/-! ## Probes (R222) -/

/-- The lane with the latch of probe `k`: position, count and stamp. -/
def LaneSt.probeTaken (x : LaneSt) (k : Nat) : LaneSt :=
  let y := (x.wrI (FBK.PRB_POS.VALUE k) (x.latchPos (x.rd (FBK.PRB_CTRL.PORT k)))).inc (FBK.PRB_COUNT.EDGES k)
  ((y.wr (FBK.PRB_STAMP.NS k) (stampNs y.t32 y.ns)).wr (FBK.PRB_STAMP.S k) (stampS y.t32 y.ns)).wrB (FBK.PRB_STAMP.T32 k) y.t32

/-- An edge of a selected polarity. -/
theorem LaneSt.probeLatch_selected {x : LaneSt} {k : Nat} {rising : Bool} (hport : x.rd (FBK.PRB_CTRL.PORT k) < 24)
    (hedge : x.rd (FBK.PRB_CTRL.EDGE k) = 2 ∨ x.rd (FBK.PRB_CTRL.EDGE k) = (if rising then 0 else 1)) :
    x.probeLatch k rising = ((List.range 24).foldl (fun z q =>
      if z.rd (FBK.CTRL.REF_SRC q) = k ∧ z.on (FBK.CTRL.REF_EDGE q) = !rising
      then z.wrI (FBK.REF_LATCH.VALUE q) (z.latchPos q) else z) (x.probeTaken k)).handEdge k 0 rising := by
  have hselected : ¬(24 ≤ x.rd (FBK.PRB_CTRL.PORT k) ∨ (x.rd (FBK.PRB_CTRL.EDGE k) = 0 ∧ (!rising) = true) ∨
      (x.rd (FBK.PRB_CTRL.EDGE k) = 1 ∧ rising = true) ∨ x.rd (FBK.PRB_CTRL.EDGE k) = 3) := by
    rcases hedge with h | h
    · simp [h, hport]
    · cases rising <;> simp [h, hport]
  exact congrArg (fun z : LaneSt => ((List.range 24).foldl (fun z q =>
      if z.rd (FBK.CTRL.REF_SRC q) = k ∧ z.on (FBK.CTRL.REF_EDGE q) = !rising
      then z.wrI (FBK.REF_LATCH.VALUE q) (z.latchPos q) else z) z).handEdge k 0 rising) (if_neg hselected)

/-- Settles O34: each event has its equation for the case that its conditions hold. -/
theorem feedbackAndAcquisitionEventsComplete : Obligations.FeedbackAndAcquisitionEventsComplete := by
  unfold Obligations.FeedbackAndAcquisitionEventsComplete
  refine ⟨?_, ?_, ?_⟩
  · intro s l p x
    refine ⟨fun hmode hcounts hfresh => congrArg _ (congrArg _ (LaneSt.stale_due hmode hcounts hfresh)),
      fun hstate hrests => congrArg _ (congrArg _ (LaneSt.velTimeout_rests hstate hrests)), fun hstate hin => ?_⟩
    refine congrArg _ (congrArg _ ((LaneSt.bypassEnd_returns hstate hin).trans ?_))
    rw [LaneSt.setPortState_acquire, LaneSt.ptRestart_eq]
    rfl
  · intro s l k hmode hruns hfree x e howed hgap
    exact congrArg _ (congrArg _ (LaneSt.ptEmit_owed hmode hruns hfree howed hgap))
  · intro s l k rising held w v was now x
    refine ⟨fun hsame => ?_, fun hnew hport hedge => ?_⟩
    · exact congrArg _ (congrArg _ (if_pos hsame))
    · exact congrArg _ (congrArg _ ((if_neg hnew).trans (LaneSt.probeLatch_selected hport hedge)))

end Sys2Proof.Machine

/-!
SUPPORT. A double step that takes INFERRED_NET past the end of its 32 bits.
-/

namespace Sys2Proof.Machine

open Sys2Proof

/-! ## The position-count law (R208, R211, R226) -/

/-- Every port keeps POS_RAW − POS_BASE = NET_DECODED + INFERRED_NET modulo 2^64, and both sums are 0 before the first
valid frame or sector. -/
def LaneSt.CountLaw (x : LaneSt) : Prop := ∀ p, p < 24 →
  (x.rdI (FBK.POS_RAW.VALUE p) - x.rdI (FBK.POS_BASE.VALUE p) - x.rdI (FBK.NET_DECODED.VALUE p)
    - x.rdI (FBK.INFERRED_NET.VALUE p)) % 2 ^ 64 = 0 ∧
  ((3 ≤ x.rd (FBK.CTRL.MODE p) ∧ (x.port p).seeded = false) ∨ (x.rd (FBK.CTRL.MODE p) = 2 ∧ (x.port p).sector = none) →
    x.rdI (FBK.NET_DECODED.VALUE p) = 0 ∧ x.rdI (FBK.INFERRED_NET.VALUE p) = 0)

/-- Port 0 of lane A counts quadrature, has had a valid transition in this sample and holds 2^31 − 1 inferred steps: the most
that the 32 bits of INFERRED_NET take, where POS_RAW has 64. -/
def inferredAtMax : State :=
  Tests.st [(FBK.CTRL.MODE 0, 1), (FBK.STATUS.STATE 0, 2), (FBK.POS_RAW.VALUE 0, 2 ^ 31 - 1), (FBK.INFERRED_NET.VALUE 0, 2 ^ 31 - 1)]
    (fun x => x.setPort 0 (fun q => { q with last := some 0 }))

/-- Its lane A after a double step held for 16 samples, which infers two counts forward. -/
def inferredPastMax : LaneSt := (inferredAtMax.lane .A).double 0 16 false

theorem inferredAtMax_canon : State.Canon inferredAtMax := Tests.sound_st (by decide +kernel) (fun _ => ⟨rfl, rfl, rfl⟩)

theorem inferredAtMax_law : (inferredAtMax.lane .A).CountLaw := by
  unfold LaneSt.CountLaw
  decide +kernel

theorem inferredAtMax_inferredNet : (inferredAtMax.lane .A).rdI (FBK.INFERRED_NET.VALUE 0) = 2 ^ 31 - 1 := by decide +kernel

theorem inferredAtMax_counts : (inferredAtMax.lane .A).rd (FBK.CTRL.MODE 0) = 1 ∧ (inferredAtMax.lane .A).portCounts 0 = true ∧
    (inferredAtMax.lane .A).rd (FBK.CTRL.FILT 0) < 16 := by decide +kernel

theorem inferredAtMax_notEmulated : ∀ k, k < 4 →
    (inferredAtMax.lane .A).rd (FBK.PT_CTRL.SRC k) ≠ 0 ∨ (inferredAtMax.lane .A).rd (FBK.PT_CTRL.MODE k) ≠ 2 := by decide +kernel

/-- The last valid transition was forward and no sample ago. -/
theorem inferredAtMax_gap : (inferredAtMax.lane .A).gap 0 = some 0 ∧ (inferredAtMax.lane .A).on (FBK.STATUS.DIR 0) = false := by
  decide +kernel

/-- POS_RAW goes two counts up, and INFERRED_NET wraps. -/
theorem inferredPastMax_ledger : inferredPastMax.rdI (FBK.POS_RAW.VALUE 0) = 2 ^ 31 + 1 ∧
    inferredPastMax.rdI (FBK.POS_BASE.VALUE 0) = 0 ∧ inferredPastMax.rdI (FBK.NET_DECODED.VALUE 0) = 0 ∧
    inferredPastMax.rdI (FBK.INFERRED_NET.VALUE 0) = 1 - 2 ^ 31 := by decide +kernel

/-- The double step leaves no other lane A than this one. -/
theorem eq_inferredPastMax {y : LaneSt} (h : exec (.doubleStep .A 0 16 false) inferredAtMax = .next (inferredAtMax.setLane .A y)) :
    y = inferredPastMax := by
  have hnext : inferredAtMax.setLane .A inferredPastMax = inferredAtMax.setLane .A y := Host.Outcome.next.inj h
  have hlane := congrArg (fun t => State.lane t .A) hnext
  rwa [State.setLane_lane_same, State.setLane_lane_same, eq_comm] at hlane

/-- Refutes O35: INFERRED_NET has 32 bits. With 2^31 − 1 inferred steps in it a double step takes POS_RAW two counts up and
INFERRED_NET from 2^31 − 1 to 1 − 2^31, so that the two sides of the law differ by 2^32. -/
theorem not_feedbackKeepsThePositionCountLaw : ¬ Obligations.FeedbackKeepsThePositionCountLaw := by
  unfold Obligations.FeedbackKeepsThePositionCountLaw
  intro h
  obtain ⟨y, hexec, hlaw⟩ := h inferredAtMax .A 0 0 0 false false false 16 0 [] [] inferredAtMax_canon inferredAtMax_law
    (.doubleStep .A 0 16 false) (by simp)
  obtain ⟨hraw, hbase, hnet, hinferred⟩ := inferredPastMax_ledger
  have hport := (hlaw 0 (by decide)).1
  rw [eq_inferredPastMax hexec, hraw, hbase, hnet, hinferred] at hport
  exact absurd hport (by decide)

/-- Refutes O36: in the same state the gap is within DBL_WINDOW, and INFERRED_NET, which wraps at 32 bits, moves by 2 − 2^32
where POS_RAW moves by 2. -/
theorem not_doubleStepFollowsTheGap : ¬ Obligations.DoubleStepFollowsTheGap := by
  unfold Obligations.DoubleStepFollowsTheGap
  intro h
  obtain ⟨hmode, hcounts, hfilt⟩ := inferredAtMax_counts
  obtain ⟨hgap, hforward⟩ := inferredAtMax_gap
  obtain ⟨-, -, -, hwrapped⟩ := inferredPastMax_ledger
  obtain ⟨y, hexec, -, -, hinside, -⟩ :=
    h inferredAtMax .A 0 false 16 inferredAtMax_canon hmode hcounts hfilt inferredAtMax_notEmulated
  obtain ⟨-, hmoved, -⟩ := hinside 0 hgap (Nat.zero_le _)
  rw [eq_inferredPastMax hexec] at hmoved
  simp only [Fin.val_zero, inferredAtMax_inferredNet, hwrapped, hforward] at hmoved
  exact absurd hmoved (by decide)

end Sys2Proof.Machine

/-!
SUPPORT. What holds, conversions, calibrations and zero measurements do where their conditions hold.
-/

namespace Sys2Proof.Machine

open Sys2Proof

/-! ## Holds (R229, R231, R232, R442) -/

theorem exec_sequenceHold (s : State) (l : LaneId) (q : Fin 16) :
    exec (.sequenceHold l q) s = .next (s.setLane l ((s.lane l).seqHold q.val)) := rfl

/-- The inputs of sequence `s` that have a converter (R239). -/
def LaneSt.convertedInputs (x : LaneSt) (s : Nat) : List Nat := (x.seqInputs s).filter (fun i => !x.pairLost (homeCore i))

section
variable {x : LaneSt} {q : Nat} (hen : x.on ADC.CTRL.EN = true) (hdue : x.seqDue q = true)
  (hruns : x.inHold = true → x.rd (ADC.SQ_CTRL.TRIG q) ≠ 1 ∧ x.rd (ADC.SQ_CTRL.TRIG q) ≠ 2)
include hen hdue hruns

/-- A trigger that is due is not ignored: what it does turns on the free stages alone. -/
theorem LaneSt.seqHold_due : x.seqHold q =
    if x.tooFew (x.convertedInputs q) then
      if x.rd (ADC.SQ_CTRL.TRIG q) = 1 then (x.satInc 11 ADC.COUNTS.LATE).fault 0x163 q
      else (x.satInc 11 (ADC.SQ_COUNTS.SKIPPED q)).fault 0x162 q
    else (x.strobe q (x.convertedInputs q)).inc (ADC.SQ_COUNTS.RUNS q) := by
  have hacts : ¬((!x.on ADC.CTRL.EN) = true ∨ (!x.seqDue q) = true ∨
      x.inHold = true ∧ (x.rd (ADC.SQ_CTRL.TRIG q) = 1 ∨ x.rd (ADC.SQ_CTRL.TRIG q) = 2)) := by
    rw [hen, hdue]
    rintro (h | h | ⟨hhold, htrig⟩)
    · cases h
    · cases h
    · obtain ⟨hone, htwo⟩ := hruns hhold
      exact htrig.elim hone htwo
  exact if_neg hacts

theorem LaneSt.seqHold_free (hfree : x.tooFew (x.convertedInputs q) = false) :
    x.seqHold q = (x.strobe q (x.convertedInputs q)).inc (ADC.SQ_COUNTS.RUNS q) :=
  (LaneSt.seqHold_due hen hdue hruns).trans (if_neg (ne_true_of_eq_false hfree))

theorem LaneSt.seqHold_tooFew (hfew : x.tooFew (x.convertedInputs q) = true) :
    x.seqHold q = if x.rd (ADC.SQ_CTRL.TRIG q) = 1 then (x.satInc 11 ADC.COUNTS.LATE).fault 0x163 q
      else (x.satInc 11 (ADC.SQ_COUNTS.SKIPPED q)).fault 0x162 q :=
  (LaneSt.seqHold_due hen hdue hruns).trans (if_pos hfew)

end

/-! ## Conversions (R234, R235, R237) -/

theorem exec_conversionComplete (s : State) (l : LaneId) (i : Fin 72) (raw : BitVec 16) (flip : BitVec 72) :
    exec (.conversionComplete l i ⟨raw, flip⟩) s = .next (s.setLane l ((s.lane l).convert i.val raw.toNat flip)) := rfl

/-- The value of input `h.ain` at the head of its core is taken off, and the word with its result is delivered or discarded;
`code` is the corrected code. -/
def LaneSt.convertHead (x : LaneSt) (h : Held) (rest : List Held) (code : Nat) (clip : Bool) (flip : BitVec 72) : LaneSt :=
  let c := x.coreOf h.ain
  let y := x.setHeld c (fun _ => rest)
  let word := y.cross 7 [XWord.make (BitVec.ofNat 64 (ofSigned 32 (y.scaled h code))) flip]
  let z := if word.2.all (·.isSome) then word.1.deliver h c code clip else word.1
  ((if clip then z.fault 0x164 h.ain else z).takeCorr c (some h)).judgeMoves

theorem LaneSt.convert_head {x : LaneSt} {h : Held} {rest : List Held} (hhead : x.heldBy (x.coreOf h.ain) = h :: rest)
    (raw : Nat) (flip : BitVec 72) :
    x.convert h.ain raw flip =
      x.convertHead h rest (x.corrected (x.coreOf h.ain) raw) (decide (raw = 0 ∨ raw = 65535)) flip := by
  unfold LaneSt.convert
  simp only [hhead]
  exact if_neg (not_not.mpr rfl)

/-! ## Calibration of a core (R237, R239) -/

theorem exec_adcCalibration (s : State) (l : LaneId) (c : Fin 24) (low high : BitVec 16) :
    exec (.adcCalibration l c low high) s = .next (s.setLane l ((s.lane l).calibrate c.val low.toNat high.toNat)) := rfl

theorem LaneSt.calibrate_runs {x : LaneSt} {c : Nat} (hen : x.on ADC.CTRL.EN = true) (hcal : x.on ADC.CTRL.CAL_EN = true)
    (hserves : bit (x.rd ADC.RETIRED.CORES) c = false) (lo hi : Nat) :
    x.calibrate c lo hi =
      let y := x.bgWork 3 (24 - popCount 24 (x.rd ADC.RETIRED.CORES))
      let k := refCorrection lo hi
      let z : LaneSt := { y with adc := { y.adc with newCorr := y.adc.newCorr.setIfInBounds c (some k) } }
      if 256 < k.1.natAbs ∨ k.2 < 0x7D71 ∨ 0x828F < k.2 then y.retireCore c
      else if (z.heldBy c).isEmpty then z.takeCorr c none else z :=
  if_neg (by rw [hen, hcal, hserves]; decide)

/-! ## Zero measurements (R238) -/

theorem exec_zeroCalMeasure (s : State) (l : LaneId) (i : Fin 72) (z : Int) :
    exec (.zeroCalMeasure l i z) s = .next (s.setLane l ((s.lane l).zeroMeasure i.val z)) := rfl

theorem LaneSt.zeroMeasure_runs {x : LaneSt} {i : Nat} (hcurrent : i < 24) (hen : x.on ADC.CTRL.EN = true)
    (hcal : x.on ADC.CTRL.CAL_EN = true) (hzc : x.rd (ADC.IN_CFG.ZC i) ≠ 0) (hwindow : x.zeroWindow i = true)
    (hidle : x.heldBy (x.coreOf i) = []) (z : Int) :
    x.zeroMeasure i z =
      let old := x.rdI (ADC.ZERO_CAL.VALUE i)
      let v := old + qdiv (z * 16 - old) 16
      let lim : Int := x.rd (ADC.IN_CFG.ZLIM i) * 256
      if v.natAbs ≤ lim.natAbs then x.wrI (ADC.ZERO_CAL.VALUE i) v
      else (x.wrI (ADC.ZERO_CAL.VALUE i) (max (-lim) (min lim v))).fault 0x165 i :=
  if_neg (by simp [hcurrent, hen, hcal, hzc, hwindow, hidle])

/-- Settles O37: each event has its equation for the case that its conditions hold. -/
theorem acquisitionEventsComplete : Obligations.AcquisitionEventsComplete := by
  unfold Obligations.AcquisitionEventsComplete
  refine ⟨?_, ?_, ?_, ?_⟩
  · intro s l q hen hdue x trig hruns ins
    refine ⟨fun hfree => ?_, fun hfew => ?_⟩
    · rw [exec_sequenceHold, LaneSt.seqHold_free hen hdue hruns hfree]
      rfl
    · rw [exec_sequenceHold, LaneSt.seqHold_tooFew hen hdue hruns hfew]
  · rintro s l i raw flip ⟨ain, sq, ns, old⟩ rest c hhead (rfl : ain = i.val)
    rw [exec_conversionComplete, LaneSt.convert_head (h := ⟨i.val, sq, ns, old⟩) hhead]
    rfl
  · intro s l c low high hen hcal hserves x k y
    rw [exec_adcCalibration, LaneSt.calibrate_runs hen hcal hserves]
  · intro s l i z hcurrent hen hcal hzc hwindow hidle x old v lim
    rw [exec_zeroCalMeasure, LaneSt.zeroMeasure_runs hcurrent hen hcal hzc hwindow hidle]

end Sys2Proof.Machine

/-!
SUPPORT. What chopper, overvoltage and supply events of the power stage do where their conditions hold.
-/

namespace Sys2Proof.Machine

open Sys2Proof

section
variable {x : LaneSt}

/-- A chopper leg that conducts while it is off and not yet faulty is latched off (R262). -/
theorem LaneSt.chopShorted_latches {k : Nat} (huse : x.rd (GATE.LEG_CTRL.USE (24 + k)) = 3)
    (hoff : bit (x.rd GATE.OV_STATUS.CHP_ON) k = false) (hgood : bit (x.rd GATE.OV_STATUS.CHP_FAULT) k = false) :
    x.chopShorted k = (x.chpLatch k).fault 0x18B k :=
  if_neg (by simp [huse, hoff, hgood])

/-- Bridge `n` is released from OV3: one that it had shorted resumes at its next valley (R264). -/
def LaneSt.ov3Resume (x : LaneSt) (n : Nat) : LaneSt :=
  if (x.gateCh n).ov3 then x.setGateCh n (fun g => { g with ov3 := false, resume := true }) else x

theorem LaneSt.ov3Release_ends (hactive : x.on GATE.OV_STATUS.OV3_ACTIVE = true) (hbelow : x.vdcAt (x.rd GATE.OV_A.OV2) = false) :
    x.ov3Release = (List.range 8).foldl LaneSt.ov3Resume (x.wr GATE.OV_STATUS.OV3_ACTIVE 0) :=
  if_neg (by simp [hactive, hbelow])

/-- The MOTOR bridges of a die in their active short. -/
def LaneSt.dieShorted (x : LaneSt) (die : Nat) : LaneSt :=
  (List.range 4).foldl (fun x i => if x.isMotor (4 * die + i) then x.activeShort (4 * die + i) else x) x

/-- The chopper of a die turned on where it is usable and the die is not held in its force-safe state (R265). -/
def LaneSt.dieChopped (x : LaneSt) (die : Nat) : LaneSt :=
  if x.chpEnabled die && !x.chpFaulty die && !x.dieHeld die then x.setChp die true else x

/-- OV4 of a die shown and latched. -/
def LaneSt.ov4Shown (x : LaneSt) (die : Nat) : LaneSt :=
  ((x.wr GATE.DIE_STATUS.OV4 (setBit (x.rd GATE.DIE_STATUS.OV4) die true)).wr GATE.OV_STATUS.OV4_LATCHED 1).satInc 12 GATE.GATE_COUNTS.OV4

theorem LaneSt.ov4Trip_acts {die : Nat} (hfirst : bit (x.rd GATE.DIE_STATUS.OV4) die = false) (hproof : x.vote.readmit ≠ .proof)
    (hrun : x.inHold = false) :
    x.ov4Trip die = (((x.dieShorted die).dieChopped die).ov4Shown die).fault 0x18D die :=
  if_neg (by simp [hfirst, hproof, hrun])

theorem LaneSt.vgdLoss_acts (hok : x.on GATE.DIE_STATUS.VGD_OK = true) :
    x.vgdLoss = ((List.range 8).foldl (fun x n => if x.isMotor n then x.windingOff n else x)
      ((x.wr GATE.DIE_STATUS.VGD_OK 0).fault 0x18E 0)).gatesDown :=
  if_neg (by simp [hok])

end

theorem exec_chopShorted (s : State) (l : LaneId) (k : Fin 2) :
    exec (.chopShorted l k) s = .next (s.setLane l ((s.lane l).chopShorted k.val)) := rfl

theorem exec_ov3Release (s : State) (l : LaneId) : exec (.ov3Release l) s = .next (s.setLane l (s.lane l).ov3Release) := rfl

theorem exec_ov4Trip (s : State) (l : LaneId) (die : Fin 2) :
    exec (.ov4Trip l die) s = .next (s.setLane l ((s.lane l).ov4Trip die.val)) := rfl

theorem exec_vgdLoss (s : State) (l : LaneId) : exec (.vgdLoss l) s = .next (s.setLane l (s.lane l).vgdLoss) := rfl

/-- Settles O39: each event has its equation for the case that its conditions hold. -/
theorem overvoltageEventsComplete : Obligations.OvervoltageEventsComplete := by
  unfold Obligations.OvervoltageEventsComplete
  refine ⟨?_, ?_, ?_, ?_⟩
  · intro s l k huse hoff hgood
    rw [exec_chopShorted, LaneSt.chopShorted_latches huse hoff hgood]
  · intro s l hactive hbelow
    rw [exec_ov3Release, LaneSt.ov3Release_ends hactive hbelow]
    rfl
  · intro s l die hfirst hproof hrun x y z
    rw [exec_ov4Trip, LaneSt.ov4Trip_acts hfirst hproof hrun]
    rfl
  · intro s l hok
    rw [exec_vgdLoss, LaneSt.vgdLoss_acts hok]

end Sys2Proof.Machine

/-!
SUPPORT. What carrier valleys, switch events, force-safe, self-test steps and scan steps do where their conditions hold.
-/

namespace Sys2Proof.Machine

open Sys2Proof

/-! ## Carrier valleys (R244, R246, R260) -/

theorem exec_carrierValley (s : State) (l : LaneId) (c : Fin 8) (err : Int) :
    exec (.carrierValley l c err) s = .next (s.setLane l ((s.lane l).valley c.val err)) := rfl

/-- What the channels and legs of carrier `c` do at its valley, the carrier aligned. -/
def LaneSt.valleyTaken (x : LaneSt) (c : Nat) : LaneSt :=
  let y := (List.range 8).foldl (fun x n => if x.rd (COMM.CTRL.CARRIER n) = c then x.valleyChannel n else x) x
  let aux (y : LaneSt) (m : Nat) : Bool := y.rd (GATE.LEG_CTRL.USE m) = 2 && y.rd (GATE.LEG_CTRL.CARRIER m) = c
  let z := (List.range 24).foldl (fun y m => if aux y m then y.loadAux m else y) y
  (List.range 24).foldl (fun z m =>
    if aux z m || (z.rd (GATE.LEG_CTRL.USE m) = 1 && z.rd (COMM.CTRL.CARRIER (m / 3)) = c) then z.refresh m (z.carrierUnits c) else z) z

theorem LaneSt.valley_enabled {x : LaneSt} {c : Nat} (hen : x.on (GATE.CAR_CTRL.EN c) = true) (err : Int) :
    x.valley c err = (x.align c err).valleyTaken c :=
  if_neg (by simp [hen])

/-! ## Switch events (R250 to R254, R257, R260) -/

theorem exec_desatTrip (s : State) (l : LaneId) (m : Fin 26) (low : Bool) :
    exec (.desatTrip l m low) s = .next (s.setLane l ((s.lane l).desat m.val low)) := rfl

theorem exec_coarseTrip (s : State) (l : LaneId) (m : Fin 26) (low : Bool) :
    exec (.coarseTrip l m low) s = .next (s.setLane l ((s.lane l).coarse m.val low)) := rfl

theorem exec_interlockStuck (s : State) (l : LaneId) (m : Fin 26) (low : Bool) :
    exec (.interlockStuck l m low) s = .next (s.setLane l ((s.lane l).interlockStuck m.val low)) := rfl

theorem exec_gateStuckOff (s : State) (l : LaneId) (m : Fin 26) (low : Bool) :
    exec (.gateStuckOff l m low) s = .next (s.setLane l ((s.lane l).gateStuckOff m.val low)) := rfl

theorem exec_bsUv (s : State) (l : LaneId) (m : Fin 26) :
    exec (.bsUv l m) s = .next (s.setLane l ((s.lane l).bsUv m.val)) := rfl

/-- The flag of a switch event shown, and the event counted for its leg. -/
def LaneSt.eventShown (x : LaneSt) (flag count : Field) : LaneSt := (x.wr flag 1).satInc 12 count

/-- LEG_CTRL stands apart from the flags and the counts of every leg. -/
theorem LaneSt.eventShown_use (x : LaneSt) {leg : Nat} {flag count : Field} (hflag : flag.off = GATE.STATUS.off leg)
    (hcount : count.off = GATE.COUNTS.off leg) (hf : flag.width ≠ 64) (hc : count.width ≠ 64) (m : Nat) :
    (x.eventShown flag count).rd (GATE.LEG_CTRL.USE m) = x.rd (GATE.LEG_CTRL.USE m) := by
  have hbeside : (GATE.LEG_CTRL.USE m).off ≠ GATE.STATUS.off leg ∧ (GATE.LEG_CTRL.USE m).off ≠ GATE.COUNTS.off leg ∧
      (GATE.LEG_CTRL.USE m).off ≠ (FLT.SATURATED.COUNT 12).off := by
    simp only [GATE.LEG_CTRL.USE, GATE.STATUS.off, GATE.COUNTS.off, FLT.SATURATED.COUNT]
    omega
  obtain ⟨hstatus, hcounts, hsaturated⟩ := hbeside
  rw [LaneSt.eventShown, LaneSt.rd_satInc_ne _ (hcount ▸ hcounts) hsaturated hc (by simp [GATE.LEG_CTRL.USE]),
    LaneSt.rd_wr_ne _ (hflag ▸ hstatus) hf (by simp [GATE.LEG_CTRL.USE])]

section
variable {x : LaneSt} {leg : Nat} {low : Bool} (huse : x.rd (GATE.LEG_CTRL.USE leg) ≠ 0)
include huse

section
variable (harmed : x.armed leg low = true)
include harmed

theorem LaneSt.desat_armed : x.desat leg low =
    (x.eventShown (if low then GATE.STATUS.DESAT_L leg else GATE.STATUS.DESAT_H leg) (GATE.COUNTS.TRIPS leg)).switchEvent
      0x182 leg low (if low then 2 else 1) true := by
  simp only [LaneSt.desat, harmed, huse, LaneSt.eventShown, Bool.not_true, Bool.false_eq_true, if_false]

theorem LaneSt.coarse_armed (hen : x.on (GATE.DESAT.COARSE_EN leg) = true) : x.coarse leg low =
    (x.eventShown (if low then GATE.STATUS.COARSE_L leg else GATE.STATUS.COARSE_H leg) (GATE.COUNTS.TRIPS leg)).switchEvent
      0x183 leg low (if low then 2 else 1) true :=
  if_neg (by simp [huse, hen, harmed])

theorem LaneSt.gateStuckOff_armed : x.gateStuckOff leg low =
    (x.eventShown (if low then GATE.STATUS.OFF_L leg else GATE.STATUS.OFF_H leg) (GATE.COUNTS.ILK leg)).switchEvent
      0x185 leg low (if low then 2 else 1) true := by
  simp only [LaneSt.gateStuckOff, harmed, huse, LaneSt.eventShown, Bool.not_true, Bool.false_eq_true, if_false]

/-- The leg is still in use when its flag has been shown and its count taken. -/
theorem LaneSt.interlockStuck_armed : x.interlockStuck leg low =
    ((x.eventShown (if low then GATE.STATUS.ILK_L leg else GATE.STATUS.ILK_H leg) (GATE.COUNTS.ILK leg)).switchEvent
      0x184 leg low (if low then 1 else 2) false).wr (gsF (2 * leg + b2n low)) 1 := by
  have hstill : (x.eventShown (if low then GATE.STATUS.ILK_L leg else GATE.STATUS.ILK_H leg) (GATE.COUNTS.ILK leg)).rd
      (GATE.LEG_CTRL.USE leg) ≠ 0 := by
    rwa [x.eventShown_use (leg := leg) (by cases low <;> rfl) rfl (by cases low <;> simp [GATE.STATUS.ILK_L, GATE.STATUS.ILK_H])
      (by simp [GATE.COUNTS.ILK])]
  simp only [LaneSt.interlockStuck, harmed, huse, Bool.not_true, Bool.false_eq_true, if_false]
  exact if_neg hstill

end

theorem LaneSt.bsUv_armed (harmed : x.armed leg false = true) : x.bsUv leg =
    let y := (x.wr (GATE.STATUS.BS_UV leg) 1).swOff (2 * leg) false
    if y.rd (GATE.LEG_CTRL.USE leg) = 1 ∧ (y.rd (COMM.STATUS.WSTATE (leg / 3)) = 3 ∨ (y.gateCh (leg / 3)).naming = 2) then
      (y.windingOff (leg / 3)).fault 0x187 (leg / 3)
    else y.switchEvent 0x186 leg false 1 false :=
  if_neg (by simp [huse, harmed])

end

/-! ## Force-safe (R243) -/

theorem exec_forceSafe (s : State) (l : LaneId) (die : Fin 2) :
    exec (.forceSafe l die) s = .next (s.setLane l ((s.lane l).forceSafe die.val)) := rfl

theorem exec_edgeLink (s : State) (l : LaneId) (die : Fin 2) :
    exec (.edgeLink l die) s = .next (s.setLane l ((s.lane l).edgeLink die.val)) := rfl

/-! ## Steps of the comparator self-test (R267) -/

theorem exec_comparatorSelftestStep (s : State) (l : LaneId) (m : Fin 26) (low : Bool) (cmp : Fin 3) (aborted tripped : Bool) :
    exec (.comparatorSelftestStep l m low cmp aborted tripped) s =
      .next ((s.setLane l ((s.lane l).selftestStep m.val low cmp.val aborted tripped)).diagSettle (m.val / 3)) := rfl

/-- A window of the DIAG self-test of channel `n` used, and counted as aborted where it was. -/
def LaneSt.windowUsed (x : LaneSt) (n : Nat) (aborted : Bool) : LaneSt :=
  x.setTest n (fun t => { t with windows := (t.windows + 1) % 2 ^ 16, aborted := (t.aborted + b2n aborted) % 2 ^ 16 })

/-- The comparator at DAC step `k` of its sweep has tripped or not: its result, or the next step (R267). -/
def LaneSt.sweepJudged (x : LaneSt) (leg : Nat) (low : Bool) (cmp : Nat) (tripped : Bool) : LaneSt :=
  let i := 6 * leg + 3 * b2n low + cmp
  let k := x.sweepStep i
  let v := x.cmpSetting leg cmp
  if tripped then
    ((x.setSweep i none).cmpResult leg low cmp (some (qdiv ((v : Int) * (630 + 20 * (k : Int))) 700))
      (decide (((v : Int) * (20 * (k : Int) - 70)).natAbs ≤ cmpTol cmp * 700))).bgWork 4 x.compTotal
  else if k = 7 then ((x.setSweep i none).cmpResult leg low cmp none false).bgWork 4 x.compTotal
  else x.setSweep i (some (k + 1))

theorem LaneSt.selftestStep_taken {x : LaneSt} {leg cmp : Nat} {low aborted : Bool} (hleg : leg < 24)
    (huse : x.rd (GATE.LEG_CTRL.USE leg) = 1) (hcmp : low = true → cmp ≠ 2)
    (hasked : x.on GATE.ST_CTRL.BG_EN = true ∧ x.rd (COMM.CTRL.CLASS (leg / 3)) = 0 ∨ (x.gateCh (leg / 3)).test ≠ none)
    (hwindow : aborted = false → x.testWindow leg low = true) (tripped : Bool) :
    x.selftestStep leg low cmp aborted tripped =
      let y := x.windowUsed (leg / 3) aborted
      if aborted then y else y.sweepJudged leg low cmp tripped := by
  refine if_neg ?_
  rintro (hbeyond | hother | ⟨hlow, htwo⟩ | ⟨hbg, hnone⟩ | ⟨hjudged, hout⟩)
  · exact absurd hleg (Nat.not_lt.mpr hbeyond)
  · exact hother huse
  · exact hcmp hlow htwo
  · rcases hasked with ⟨hen, hclass⟩ | htest
    · simp [hen, hclass] at hbg
    · exact htest (Option.isNone_iff_eq_none.mp hnone)
  · rw [hwindow hjudged] at hout
    cases hout

/-! ## Steps of a scan (R268) -/

theorem exec_scanStep (s : State) (l : LaneId) (n : Fin 8) (u v w : BitVec 72) :
    exec (.scanStep l n u v w) s =
      .next ((s.setLane l (((s.lane l).scanStep n.val u v w).scanJudge n.val)).diagSettle n.val) := rfl

/-- The step of a scan that runs: three voltages read, the finding recorded, every switch off after the last step. -/
def LaneSt.scanTaken (x : LaneSt) (n : Nat) (sc : ScanSt) (a b c : BitVec 72) : LaneSt :=
  let u := x.scanVolt (24 + 3 * n) a
  let v := u.2.scanVolt (25 + 3 * n) b
  let w := v.2.scanVolt (26 + 3 * n) c
  let y := w.2.setGateCh n (fun g => { g with scan := some (sc.next u.1 v.1 w.1) })
  if sc.step = 10 then y.setWstate n 0 else y

theorem LaneSt.scanStep_running {x : LaneSt} {n : Nat} {sc : ScanSt} (hscan : (x.gateCh n).scan = some sc) (hfirst : 1 ≤ sc.step)
    (hlast : sc.step ≤ 10) (a b c : BitVec 72) : x.scanStep n a b c = x.scanTaken n sc a b c := by
  unfold LaneSt.scanStep
  simp only [hscan]
  exact if_neg (by omega)

/-- Settles O38: each event has its equation for the case that its conditions hold. The linear sweep of the self-test and
BS_UV naming no high-side short are log entry 42, the free value of a discarded scan word log entry 48. -/
theorem powerStageEventsComplete : Obligations.PowerStageEventsComplete := by
  unfold Obligations.PowerStageEventsComplete
  refine ⟨?_, ?_, ?_, ?_, ?_⟩
  · intro s l c err hen x y aux z
    rw [exec_carrierValley, LaneSt.valley_enabled hen]
    rfl
  · intro s l m low huse x
    refine ⟨fun harmed => ⟨?_, fun hen => ?_, ?_, ?_⟩, fun harmed => ?_⟩
    · rw [exec_desatTrip, LaneSt.desat_armed huse harmed, LaneSt.eventShown]
    · rw [exec_coarseTrip, LaneSt.coarse_armed huse harmed hen, LaneSt.eventShown]
    · rw [exec_interlockStuck, LaneSt.interlockStuck_armed huse harmed, LaneSt.eventShown]
    · rw [exec_gateStuckOff, LaneSt.gateStuckOff_armed huse harmed, LaneSt.eventShown]
    · rw [exec_bsUv, LaneSt.bsUv_armed huse harmed]
  · intro s l die x
    exact ⟨exec_forceSafe s l die, exec_edgeLink s l die⟩
  · intro s l m low cmp aborted tripped hleg huse hcmp hasked hwindow i x k v
    rw [exec_comparatorSelftestStep, LaneSt.selftestStep_taken hleg huse hcmp hasked hwindow]
    rfl
  · intro s l n sc a b c hscan hfirst hlast read u v w x
    rw [exec_scanStep, LaneSt.scanStep_running hscan hfirst hlast]
    rfl

end Sys2Proof.Machine

/-!
SUPPORT. The side of a bridge's short: where it is latched, and the operations that leave it, up to a fault with any
reaction.
-/

namespace Sys2Proof.Machine

open Sys2Proof

/-- What the side of the short of bridge `k` rests on (R255): SIDE of BRIDGE_k, and the side that is ordered and waits. -/
def LaneSt.short (x : LaneSt) (k : Fin 8) : Nat × Nat := (x.rd (GATE.BRIDGE.SIDE k.val), (x.gateCh k.val).naming)

theorem LaneSt.bridgeSide_of_short {x y : LaneSt} {k : Fin 8} (h : y.short k = x.short k) : y.bridgeSide k.val = x.bridgeSide k.val :=
  congrArg (fun p : Nat × Nat => if p.1 = 0 then p.2 else p.1) h

theorem LaneSt.short_of_stores {x y : LaneSt} (hid : y.id = x.id) (hregs : y.regs = x.regs) (hgate : y.gate = x.gate) (k : Fin 8) :
    y.short k = x.short k := by
  simp only [LaneSt.short, LaneSt.rd, LaneSt.word, LaneSt.gateCh, hid, hregs, hgate]

@[simp] theorem LaneSt.short_ite (c : Prop) [Decidable c] (x y : LaneSt) (k : Fin 8) :
    (if c then x else y).short k = if c then x.short k else y.short k := apply_ite (LaneSt.short · k) c x y

/-- Neither word of a field stands among BRIDGE_0 to BRIDGE_7. -/
def Field.BesideBridges (f : Field) : Prop := f.off + 4 < 0x25140 ∨ 0x25160 ≤ f.off

theorem besideBridges_below {f : Field} (h : f.off < 0x2513C) : f.BesideBridges := .inl (by omega)

theorem besideBridges_leg {f : Field} {m : Nat} (hm : m < 26) (h : f.off ≤ 0x24044 + 128 * m) : f.BesideBridges :=
  besideBridges_below (by omega)

theorem besideBridges_gsF {i : Nat} (hi : i < 52) : (gsF i).BesideBridges := by
  refine besideBridges_leg (m := i / 2) (by omega) ?_
  unfold gsF
  split
  · exact Nat.add_le_add_right (by decide) _
  · exact Nat.add_le_add_right (by decide) _

/-! ## The state of a bridge that is no register -/

theorem LaneSt.gateCh_wr (x : LaneSt) (f : Field) (v n : Nat) : (x.wr f v).gateCh n = x.gateCh n := by
  rw [LaneSt.gateCh, LaneSt.wr_gate, LaneSt.gateCh]

theorem LaneSt.gateCh_setGateCh_same (x : LaneSt) {n : Nat} (hn : n < 8) (u : GateCh → GateCh) :
    (x.setGateCh n u).gateCh n = u (x.gateCh n) := by
  simp [LaneSt.setGateCh, LaneSt.gateCh, Vector.getD, hn]

theorem LaneSt.gateCh_setGateCh_ne (x : LaneSt) {n o : Nat} (h : o ≠ n) (u : GateCh → GateCh) :
    (x.setGateCh n u).gateCh o = x.gateCh o := by
  simp [LaneSt.setGateCh, LaneSt.gateCh, Vector.getD, h.symm]

section
variable (l : LaneSt) (k : Fin 8)

@[simp] theorem LaneSt.setGateCh_short (n : Nat) {u : GateCh → GateCh} (hu : ∀ g, (u g).naming = g.naming) :
    (l.setGateCh n u).short k = l.short k := by
  have hnaming : ((l.setGateCh n u).gateCh k.val).naming = (l.gateCh k.val).naming := by
    by_cases h : k.val = n
    · rw [← h, LaneSt.gateCh_setGateCh_same l k.isLt, hu]
    · rw [LaneSt.gateCh_setGateCh_ne l h]
  exact Prod.ext rfl hnaming

theorem LaneSt.setGateCh_short_ne {n : Nat} (h : k.val ≠ n) (u : GateCh → GateCh) : (l.setGateCh n u).short k = l.short k :=
  Prod.ext rfl (congrArg GateCh.naming (LaneSt.gateCh_setGateCh_ne l h u))

/-! ## Registers and records -/

@[simp] theorem LaneSt.wr_short {f : Field} (h : f.BesideBridges) (n : Nat) : (l.wr f n).short k = l.short k := by
  have hk := k.isLt
  have hlow : GATE.BRIDGE.off k.val ≠ f.off ∧ GATE.BRIDGE.off k.val ≠ f.off + 4 := by
    simp only [Field.BesideBridges] at h
    simp only [GATE.BRIDGE.off]
    omega
  have hword : (l.wr f n).word (GATE.BRIDGE.off k.val) = l.word (GATE.BRIDGE.off k.val) := by
    unfold LaneSt.wr
    split
    · rw [LaneSt.word_setWord_ne _ hlow.2, LaneSt.word_setWord_ne _ hlow.1]
    · rw [LaneSt.word_setWord_ne _ hlow.1]
  exact Prod.ext (congrArg (fun w : Word => getField 1 2 w.toNat) hword) (congrArg GateCh.naming (l.gateCh_wr f n k.val))

@[simp] theorem LaneSt.inc_short {f : Field} (h : f.BesideBridges) : (l.inc f).short k = l.short k := LaneSt.wr_short l k h _

theorem besideBridges_saturated {b : Nat} (hb : b < 32) : (FLT.SATURATED.COUNT b).BesideBridges :=
  besideBridges_below (by simp only [FLT.SATURATED.COUNT]; omega)

@[simp] theorem LaneSt.satInc_short {b : Nat} {f : Field} (hb : b < 32) (h : f.BesideBridges) :
    (l.satInc b f).short k = l.short k := by
  simp [LaneSt.satInc, h, besideBridges_saturated hb]

@[simp] theorem LaneSt.send_short (t h : Nat) (ws : List Nat) : (l.send t h ws).short k = l.short k :=
  LaneSt.short_of_stores (LaneSt.send_id l t h ws) (LaneSt.send_regs l t h ws) (LaneSt.send_gate l t h ws) k

@[simp] theorem LaneSt.complete_short (d : Decided) (st detail result : Nat) : (l.complete d st detail result).short k = l.short k := rfl

@[simp] theorem LaneSt.setGroup_short (g : Nat) (f : IrqGroup → IrqGroup) : (l.setGroup g f).short k = l.short k := rfl

@[simp] theorem LaneSt.pend_short (g srcs lanes : Nat) (soft : Bool) : (l.pend g srcs lanes soft).short k = l.short k := by
  have hbyte : ∀ base, base < 0x4700 → groupReserved g = false → (groupByte base (l.bank g) g).BesideBridges := fun base hbase h =>
    besideBridges_below (by
      have hbank := l.bank_le_one g
      have hg := group_lt_of_not_reserved h
      simp only [groupByte]
      omega)
  unfold LaneSt.pend
  split
  · rfl
  · rename_i h
    have hfree : groupReserved g = false := by simpa using h
    have hcause : (irqCauseF (l.bank g) g).BesideBridges := hbyte 0x4040 (by decide) hfree
    have hraised : (irqRaisedF (l.bank g) g).BesideBridges := hbyte 0x4060 (by decide) hfree
    simp [hcause, hraised]

@[simp] theorem LaneSt.raise_short (g s : Nat) : (l.raise g s).short k = l.short k := by
  simp [LaneSt.raise]

/-! ## Switches, legs and windings -/

theorem LaneSt.swOff_short {i : Nat} (hi : i < 52) (soft : Bool) : (l.swOff i soft).short k = l.short k := by
  have hsw : ∀ (y : LaneSt) (z : Switch), (y.setSw i z).short k = y.short k := fun _ _ => rfl
  unfold LaneSt.swOff
  dsimp only
  split
  · rw [hsw, LaneSt.wr_short _ k (besideBridges_gsF hi)]
    rfl
  · rfl

theorem LaneSt.swOn_short {i : Nat} (hi : i < 52) : (l.swOn i).short k = l.short k := by
  have hsw : ∀ (y : LaneSt) (z : Switch), (y.setSw i z).short k = y.short k := fun _ _ => rfl
  unfold LaneSt.swOn
  dsimp only
  split
  · rfl
  · split
    · rw [hsw, LaneSt.wr_short _ k (besideBridges_gsF hi)]
      rfl
    · rfl

theorem LaneSt.driveLeg_short {m : Nat} (hm : m < 26) (high low : Bool) : (l.driveLeg m high low).short k = l.short k := by
  have hswitch : 2 * m < 52 ∧ 2 * m + 1 < 52 := by omega
  simp [LaneSt.driveLeg, LaneSt.swOff_short _ k hswitch.1, LaneSt.swOff_short _ k hswitch.2, LaneSt.swOn_short _ k hswitch.1,
    LaneSt.swOn_short _ k hswitch.2]

theorem besideBridges_state {m : Nat} (hm : m < 26) : (GATE.STATUS.STATE m).BesideBridges :=
  besideBridges_leg hm (Nat.add_le_add_right (by decide) _)

theorem LaneSt.setLeg_short {m : Nat} (hm : m < 26) (st : Nat) : (l.setLeg m st).short k = l.short k := by
  simp [LaneSt.setLeg, LaneSt.driveLeg_short _ k hm, besideBridges_state hm]

theorem LaneSt.setBridge_short {n : Nat} (hn : n < 8) (st : Nat) : (l.setBridge n st).short k = l.short k := by
  rw [LaneSt.setBridge, LaneSt.setLeg_short _ k (by omega), LaneSt.setLeg_short _ k (by omega), LaneSt.setLeg_short _ k (by omega)]

theorem LaneSt.setWstate_short {n : Nat} (hn : n < 8) (w : Nat) : (l.setWstate n w).short k = l.short k := by
  have hfield : (COMM.STATUS.WSTATE n).BesideBridges := besideBridges_below (by simp only [COMM.STATUS.WSTATE]; omega)
  simp [LaneSt.setWstate, hfield]

@[simp] theorem LaneSt.dropDue_short (n : Nat) : (l.dropDue n).short k = l.short k :=
  LaneSt.setGateCh_short l k n (fun _ => rfl)

/-- The bridge forced into a state, as WSTATE shows it. -/
theorem LaneSt.forced_short {n : Nat} (hn : n < 8) (st w : Nat) : (((l.dropDue n).setBridge n st).setWstate n w).short k = l.short k := by
  rw [LaneSt.setWstate_short _ k hn, LaneSt.setBridge_short _ k hn, LaneSt.dropDue_short]

theorem LaneSt.windingOff_short {n : Nat} (hn : n < 8) : (l.windingOff n).short k = l.short k := LaneSt.forced_short l k hn 0 0

theorem LaneSt.shortOn_short {n : Nat} (hn : n < 8) (side : Nat) : (l.shortOn n side).short k = l.short k := by
  simp [LaneSt.shortOn, LaneSt.windingOff_short _ k hn, LaneSt.forced_short _ k hn]

theorem LaneSt.windingSafe_short {n : Nat} (hn : n < 8) : (l.windingSafe n).short k = l.short k := by
  simp [LaneSt.windingSafe, LaneSt.activeShort, LaneSt.windingOff_short _ k hn, LaneSt.shortOn_short _ k hn]

/-- What each step of a fold over the first `m` numbers leaves of a short, the fold leaves. -/
theorem LaneSt.foldl_range_short {m : Nat} {f : LaneSt → Nat → LaneSt} (h : ∀ y i, i < m → (f y i).short k = y.short k) :
    ((List.range m).foldl f l).short k = l.short k :=
  foldl_mem_keep (LaneSt.short · k) (fun y i hi => h y i (List.mem_range.mp hi)) l

@[simp] theorem LaneSt.allSafe_short : l.allSafe.short k = l.short k :=
  LaneSt.foldl_range_short l k (fun y _ hn => y.windingSafe_short k hn)

@[simp] theorem LaneSt.auxOff_short : l.auxOff.short k = l.short k :=
  LaneSt.foldl_range_short l k (fun y m hm => by simp [LaneSt.setLeg_short y k (show m < 26 by omega)])

@[simp] theorem LaneSt.soOff_short (i : Nat) : (l.soOff i).short k = l.short k := by
  have hchange : (l.soChange i false).short k = (l.wr SIO.SO_STATUS.ON (setBit (l.rd SIO.SO_STATUS.ON) i false)).short k := rfl
  have hon : SIO.SO_STATUS.ON.BesideBridges := .inr (by decide)
  simp [LaneSt.soOff, hchange, hon]

@[simp] theorem LaneSt.outputsOff_short : l.outputsOff.short k = l.short k :=
  LaneSt.foldl_range_short l k (fun y i _ => y.soOff_short k i)

theorem LaneSt.dieSafe_short {die : Nat} (hdie : die < 2) : (l.dieSafe die).short k = l.short k := by
  have hchop : GATE.OV_STATUS.CHP_ON.BesideBridges := besideBridges_below (by decide)
  have hleg : ∀ (y : LaneSt) (m : Nat), m < 26 → (y.setLeg m 0).short k = y.short k := fun y m hm => y.setLeg_short k hm 0
  unfold LaneSt.dieSafe
  dsimp only
  rw [LaneSt.wr_short _ k hchop, LaneSt.short_ite, hleg _ _ (by omega), ite_self,
    LaneSt.foldl_range_short _ k (fun y i hi => by rw [LaneSt.short_ite, hleg y _ (by omega), ite_self]),
    LaneSt.foldl_range_short _ k (fun y i hi => by rw [LaneSt.short_ite, LaneSt.shortOn_short y k (by omega), ite_self])]

/-! ## Exclusion (R102, R104, R106) -/

@[simp] theorem LaneSt.setMembers_short (m : Nat) : (l.setMembers m).short k = l.short k := by
  have hmembers : VOTE.STATUS.MEMBERS.BesideBridges := besideBridges_below (by decide)
  have hmode : VOTE.STATUS.MODE.BesideBridges := besideBridges_below (by decide)
  simp [LaneSt.setMembers, hmembers, hmode]

@[simp] theorem LaneSt.abortProofs_short : l.abortProofs.short k = l.short k := by
  have haborted : BIST.COUNTS.ABORTED.BesideBridges := besideBridges_below (by decide)
  have hclasses : ((List.range 6).foldl (fun l c =>
      if (l.bist.active.getD c none).isSome then
        ((l.wr (BIST.CLS_STATUS.RESULT (c + 1)) 3).satInc 18 BIST.COUNTS.ABORTED).raise 14 0
      else l) l).short k = l.short k :=
    LaneSt.foldl_range_short l k (fun y c hc => by
      have hresult : (BIST.CLS_STATUS.RESULT (c + 1)).BesideBridges :=
        besideBridges_below (by simp only [BIST.CLS_STATUS.RESULT]; omega)
      simp [hresult, haborted])
  have hbist : ∀ (y : LaneSt) (b : BistSt), ({ y with bist := b } : LaneSt).short k = y.short k := fun _ _ => rfl
  unfold LaneSt.abortProofs
  dsimp only
  rw [hbist, LaneSt.wr_short _ k (besideBridges_below (by decide)), LaneSt.wr_short _ k (besideBridges_below (by decide)), hclasses]

@[simp] theorem LaneSt.laneSafe_short (fatal : Bool) : (l.laneSafe fatal).short k = l.short k := by
  have hforce : GATE.DIE_STATUS.FORCE.BesideBridges := besideBridges_below (by decide)
  have halive : FLT.STATUS.ALIVE_RUN.BesideBridges := besideBridges_below (by decide)
  simp [LaneSt.laneSafe, LaneSt.dieSafe_short, hforce, halive]

@[simp] theorem LaneSt.exclude_short (cause : Nat) : (l.exclude cause).short k = l.short k := by
  have hself : VOTE.STATUS.SELF.BesideBridges := besideBridges_below (by decide)
  have hcause : VOTE.STATUS.CAUSE.BesideBridges := besideBridges_below (by decide)
  have hlead : HIF.STATUS.LEAD.BesideBridges := besideBridges_below (by decide)
  have hvote : ∀ (y : LaneSt) (r : Readmit), ({ y with vote := { y.vote with
      readmit := r, transferFails := 0, exclReq := 0, attrSelf := false } } : LaneSt).short k = y.short k := fun _ _ => rfl
  have hnote : ∀ (y : LaneSt) (j : LaneId), (y.noteExclusion j cause).short k = y.short k := fun _ _ => rfl
  unfold LaneSt.exclude
  split
  · rfl
  · dsimp only
    rw [hvote, LaneSt.wr_short _ k hlead, LaneSt.abortProofs_short, LaneSt.laneSafe_short, hnote, LaneSt.wr_short _ k hcause,
      LaneSt.setMembers_short, LaneSt.wr_short _ k hself]

/-! ## Faults (R367 to R376) -/

theorem LaneSt.history_short {code : Nat} (hcode : code < 0x400) (e : Nat) : (l.history code e).short k = l.short k := by
  have hlo : ∀ i, (FLT.HIST_LO.ENTRY (code / 32) (i % 8)).BesideBridges := fun i =>
    besideBridges_below (by simp only [FLT.HIST_LO.ENTRY]; omega)
  have hhi : ∀ i, (FLT.HIST_HI.SOURCE (code / 32) (i % 8)).BesideBridges := fun i =>
    besideBridges_below (by simp only [FLT.HIST_HI.SOURCE]; omega)
  have hnum : ∀ i, (FLT.HIST_NUM.NUMBER (code / 32) (i % 8)).BesideBridges := fun i =>
    besideBridges_below (by simp only [FLT.HIST_NUM.NUMBER]; omega)
  have htotal : (FLT.TOTAL.COUNT (code / 32)).BesideBridges := besideBridges_below (by simp only [FLT.TOTAL.COUNT]; omega)
  simp [LaneSt.history, hlo, hhi, hnum, htotal]

theorem LaneSt.firstError_short {code : Nat} (hcode : code < 0x400) (source e : Nat) :
    (l.firstError code source e).short k = l.short k := by
  have hfirst : ∀ lo w, Field.BesideBridges ⟨0x51C8 + 16 * (code / 32), lo, w⟩ := fun lo w => besideBridges_below (by dsimp only; omega)
  have hns : (FLT.FIRST_NS.NS (code / 32)).BesideBridges := besideBridges_below (by simp only [FLT.FIRST_NS.NS]; omega)
  unfold LaneSt.firstError
  dsimp only
  split
  · rfl
  · split
    · exact LaneSt.wr_short l k (hfirst _ _) _
    · simp [FLT.FIRST.CODE, FLT.FIRST.CLASS, FLT.FIRST.SOURCE, FLT.FIRST.VALID, FLT.FIRST.T32, hfirst, hns]

theorem LaneSt.faultNoted_short {code : Nat} (hcode : code < 0x400) (source : Nat) :
    (l.faultNoted code source).short k = l.short k := by
  have hraise : ∀ (x : LaneSt) (chans s : Nat),
      ((List.range 8).foldl (fun x n => if bit chans n then x.raise (6 + n) s else x) x).short k = x.short k :=
    fun x chans s => LaneSt.foldl_range_short x k (fun y _ _ => by simp)
  have hspoil : (l.spoilProof code source).short k = l.short k := by
    unfold LaneSt.spoilProof
    split
    · rfl
    · split <;> rfl
  have htally : ∀ (x : LaneSt) (e : Nat), (x.tally code e).short k = x.short k := fun _ _ => rfl
  unfold LaneSt.faultNoted
  simp only [LaneSt.short_ite, LaneSt.send_short, hraise, LaneSt.raise_short, LaneSt.firstError_short _ k hcode, htally,
    LaneSt.history_short _ k hcode, hspoil, ite_self]

theorem LaneSt.faultTakes_short (n : Nat) : (l.faultTakes n).short k = l.short k := by
  have hcomm : ∀ (y : LaneSt) (c : Vector CommCh 8), ({ y with comm := c } : LaneSt).short k = y.short k := fun _ _ => rfl
  unfold LaneSt.faultTakes
  dsimp only
  split
  · rfl
  · rw [hcomm]
    exact foldl_keep (LaneSt.short · k) _ (fun y d => LaneSt.complete_short y k d _ _ _) _ _

/-- CHANNEL_SAFE brings windings to their safe states; no side is named or forgotten. -/
@[simp] theorem LaneSt.channelSafe_short (mask code source : Nat) : (l.channelSafe mask code source).short k = l.short k := by
  have hflt : ∀ (y : LaneSt) (f : FltSt), ({ y with flt := f } : LaneSt).short k = y.short k := fun _ _ => rfl
  have hsafe : ((List.range 8).foldl (fun l n => if bit mask n then l.windingSafe n else l) l).short k = l.short k :=
    LaneSt.foldl_range_short l k (fun y n hn => by simp [LaneSt.windingSafe_short y k hn])
  have htakes : ∀ y : LaneSt, ((List.range 8).foldl (fun y n => if bit mask n then y.faultTakes n else y) y).short k = y.short k :=
    fun y => LaneSt.foldl_range_short y k (fun z n _ => by simp [LaneSt.faultTakes_short])
  unfold LaneSt.channelSafe
  dsimp only
  rw [hflt, LaneSt.satInc_short _ k (by decide) (besideBridges_below (by decide)), LaneSt.short_ite, htakes, ite_self, hsafe]

@[simp] theorem LaneSt.exclReqReaction_short (code : Nat) : (l.exclReqReaction code).short k = l.short k := by
  have hflt : ∀ (y : LaneSt) (f : FltSt), ({ y with flt := f } : LaneSt).short k = y.short k := fun _ _ => rfl
  unfold LaneSt.exclReqReaction
  dsimp only
  rw [LaneSt.exclude_short, hflt, LaneSt.satInc_short _ k (by decide) (besideBridges_below (by decide))]

@[simp] theorem LaneSt.laneFatal_short (code source : Nat) : (l.laneFatal code source).short k = l.short k := by
  have hflt : ∀ (y : LaneSt) (f : FltSt), ({ y with flt := f } : LaneSt).short k = y.short k := fun _ _ => rfl
  have hlatch : ∀ (y : LaneSt) (f : Field) (n : Nat), f.off = 0x5004 → (y.wr f n).short k = y.short k :=
    fun y f n hf => y.wr_short k (besideBridges_below (by omega)) n
  unfold LaneSt.laneFatal
  dsimp only
  rw [hflt, LaneSt.laneSafe_short, LaneSt.exclude_short, LaneSt.short_ite, hlatch _ _ _ rfl, hlatch _ _ _ rfl, hlatch _ _ _ rfl,
    ite_self]

/-- A fault leaves the side of every short, whatever the frisket's reaction to it. -/
theorem LaneSt.fault_short {code : Nat} (hcode : code < 0x400) (source : Nat) : (l.fault code source).short k = l.short k := by
  have hnoted := LaneSt.faultNoted_short l k hcode source
  rw [LaneSt.fault_eq]
  simp [LaneSt.faultReaction, hnoted]

end

end Sys2Proof.Machine

/-!
A switch event of a motor leg names the side of the bridge's short (O40).
-/

namespace Sys2Proof.Machine

open Sys2Proof

/-! ## Naming the side (R255) -/

/-- The registers of BRIDGE_n counted up and locked at a switch event that changes its side. -/
def LaneSt.sideCounted (x : LaneSt) (n : Nat) : LaneSt :=
  let y := x.satInc 12 (GATE.BRIDGE.EVENTS n)
  if 3 ≤ x.rd (GATE.BRIDGE.EVENTS n) + 1 then y.wr (GATE.BRIDGE.SHORT_LOCK n) 1 else y

/-- The bridge with no safe side: every switch is off (R255). -/
def LaneSt.noSide (x : LaneSt) (n : Nat) : LaneSt :=
  ((((x.wr (GATE.BRIDGE.SIDE n) 3).setGateCh n (fun g => { g with naming := 0 })).windingOff n).satInc 12 GATE.GATE_COUNTS.NO_SIDE)

/-- The side in GATE_STATUS of the leg that has named it. -/
def LaneSt.legSideShown (x : LaneSt) (leg side : Nat) : LaneSt :=
  x.wr (GATE.STATUS.SIDE leg) (x.rd (GATE.STATUS.SIDE leg) ||| side)

theorem LaneSt.nameSide_eq (x : LaneSt) (leg side : Nat) : x.nameSide leg side =
    let y := x.legSideShown leg side
    if x.bridgeSide (leg / 3) = side ∨ x.bridgeSide (leg / 3) = 3 then (y, false)
    else if x.bridgeSide (leg / 3) = 0 then ((y.sideCounted (leg / 3)).takeShort (leg / 3) side, false)
    else ((y.sideCounted (leg / 3)).noSide (leg / 3), true) := rfl

/-- Every switch of the other side of bridge `n` told to turn off through its soft-off output, the side ordered. -/
def LaneSt.sideOrdered (x : LaneSt) (n side : Nat) : LaneSt :=
  (List.range 3).foldl (fun l k =>
    (l.wr (GATE.STATUS.STATE (3 * n + k)) (1 + side)).swOff (6 * n + 2 * k + b2n (side = 2)) true)
    ((x.dropDue n).setGateCh n (fun g => { g with naming := side }))

theorem LaneSt.takeShort_eq (x : LaneSt) (n side : Nat) : x.takeShort n side = (x.sideOrdered n side).shortStep n := rfl

theorem LaneSt.bridgeSide_of_unlatched {x : LaneSt} {k : Fin 8} {side : Nat} (h : x.short k = (0, side)) :
    x.bridgeSide k.val = side := by
  have hside : x.rd (GATE.BRIDGE.SIDE k.val) = 0 := congrArg Prod.fst h
  rw [LaneSt.bridgeSide, if_pos hside]
  exact congrArg Prod.snd h

theorem LaneSt.bridgeSide_of_latched {x : LaneSt} {k : Fin 8} {side : Nat} (hside : side ≠ 0)
    (h : (x.short k).1 = side) : x.bridgeSide k.val = side :=
  (if_neg (h.trans_ne hside)).trans h

/-- SIDE and the counts of BRIDGE_n are different fields of its word, and another bridge has another word. -/
theorem LaneSt.wr_bridge_short {x : LaneSt} (hx : x.regsWf) (k : Fin 8) {f : Field} {n : Nat} (hoff : f.off = GATE.BRIDGE.off n)
    (hlow : 3 ≤ f.lo) (hfit : f.lo + f.width ≤ 32) (v : Nat) : (x.wr f v).short k = x.short k := by
  refine Prod.ext ?_ (congrArg GateCh.naming (x.gateCh_wr f v k.val))
  by_cases h : k.val = n
  · have hword : (GATE.BRIDGE.SIDE k.val).off = f.off := by rw [hoff, ← h]; rfl
    exact LaneSt.rd_wr_disjoint hx hword hfit (show 1 + 2 ≤ 32 by decide) (.inl hlow) v
  · have hother : (GATE.BRIDGE.SIDE k.val).off ≠ f.off := by
      rw [hoff]
      simp only [GATE.BRIDGE.SIDE, GATE.BRIDGE.off]
      omega
    exact LaneSt.rd_wr_ne x hother (by omega) (by simp [GATE.BRIDGE.SIDE]) v

theorem LaneSt.sideLatched_short_ne (x : LaneSt) {k : Fin 8} {n : Nat} (hk : k.val ≠ n) (side : Nat) :
    ((x.wr (GATE.BRIDGE.SIDE n) side).setGateCh n (fun g => { g with naming := 0 })).short k = x.short k := by
  have hother : (GATE.BRIDGE.SIDE k.val).off ≠ (GATE.BRIDGE.SIDE n).off := by
    simp only [GATE.BRIDGE.SIDE]
    omega
  rw [LaneSt.setGateCh_short_ne _ k hk]
  exact Prod.ext (LaneSt.rd_wr_ne x hother (by simp [GATE.BRIDGE.SIDE]) (by simp [GATE.BRIDGE.SIDE]) side)
    (congrArg GateCh.naming (x.gateCh_wr _ side k.val))

theorem LaneSt.sideLatched_short {x : LaneSt} (hx : x.regsWf) (k : Fin 8) {side : Nat} (hside : side < 4) (u : GateCh → GateCh) :
    (((x.wr (GATE.BRIDGE.SIDE k.val) side).setGateCh k.val u).short k).1 = side :=
  (LaneSt.rd_wr_same hx (f := GATE.BRIDGE.SIDE k.val) (show 1 + 2 ≤ 32 by decide) side).trans (Nat.mod_eq_of_lt hside)

section
variable {κ : LaneId} {x : LaneSt} (hx : LaneSt.Canon κ x)

include hx in
theorem LaneSt.sideCounted_short (n : Nat) (k : Fin 8) : (x.sideCounted n).short k = x.short k := by
  have hevents : (x.satInc 12 (GATE.BRIDGE.EVENTS n)).short k = x.short k := by
    rw [LaneSt.satInc, LaneSt.short_ite, LaneSt.inc_short _ k (besideBridges_saturated (by decide)), LaneSt.inc,
      LaneSt.wr_bridge_short (regsWf_of_canon hx) k (n := n) rfl (by simp [GATE.BRIDGE.EVENTS]) (by simp [GATE.BRIDGE.EVENTS]), ite_self]
  have hcounted := regsWf_of_canon (canon_satInc hx 12 (GATE.BRIDGE.EVENTS n) (off_add (by decide)))
  rw [LaneSt.sideCounted, LaneSt.short_ite,
    LaneSt.wr_bridge_short hcounted k (n := n) rfl (by simp [GATE.BRIDGE.SHORT_LOCK]) (by simp [GATE.BRIDGE.SHORT_LOCK]), ite_self, hevents]

include hx in
theorem canon_sideCounted (n : Nat) : LaneSt.Canon κ (x.sideCounted n) :=
  canon_ite (fun _ => canon_wr (canon_satInc hx 12 _ (off_add (by decide))) (off_add (by decide)) 1)
    (fun _ => canon_satInc hx 12 _ (off_add (by decide)))

/-- The switches of the other side turn off; the sides of the bridges are as they were ordered. -/
theorem LaneSt.sideOrdered_short (x : LaneSt) {n : Nat} (hn : n < 8) (side : Nat) (k : Fin 8) :
    (x.sideOrdered n side).short k = ((x.dropDue n).setGateCh n (fun g => { g with naming := side })).short k :=
  LaneSt.foldl_range_short _ k (fun y i hi => by
    have hswitch : 6 * n + 2 * i + b2n (side = 2) < 52 := by
      have hbit := b2n_le_one (side = 2)
      omega
    rw [LaneSt.swOff_short _ k hswitch, LaneSt.wr_short _ k (besideBridges_state (by omega))])

include hx in
theorem canon_sideOrdered (n side : Nat) : LaneSt.Canon κ (x.sideOrdered n side) :=
  canon_foldl (canon_setGateCh (canon_dropDue hx n) _ _) (fun _ _ h => canon_swOff (canon_wr h (off_add (by decide)) _) _ _)

theorem LaneSt.shortStep_short_ne (x : LaneSt) {n : Nat} (hn : n < 8) {k : Fin 8} (hk : k.val ≠ n) :
    (x.shortStep n).short k = x.short k := by
  unfold LaneSt.shortStep
  dsimp only
  split
  · rfl
  · split
    · rw [LaneSt.setWstate_short _ k hn, LaneSt.setBridge_short _ k hn, LaneSt.sideLatched_short_ne x hk]
    · rfl

include hx in
/-- A side that is ordered stays the side of the short, whether or not its switches may turn on already. -/
theorem LaneSt.shortStep_bridgeSide {k : Fin 8} {side : Nat} (hpos : side ≠ 0) (hside : side < 4) (hordered : x.short k = (0, side)) :
    (x.shortStep k.val).bridgeSide k.val = side := by
  have hnaming : (x.gateCh k.val).naming = side := congrArg Prod.snd hordered
  unfold LaneSt.shortStep
  dsimp only
  rw [hnaming, if_neg hpos]
  split
  · refine LaneSt.bridgeSide_of_latched hpos ?_
    rw [LaneSt.setWstate_short _ k k.isLt, LaneSt.setBridge_short _ k k.isLt]
    exact LaneSt.sideLatched_short (regsWf_of_canon hx) k hside _
  · exact LaneSt.bridgeSide_of_unlatched hordered

include hx in
/-- The first event puts the bridge in the short that it names. -/
theorem LaneSt.takeShort_bridgeSide {k : Fin 8} {side : Nat} (hpos : side ≠ 0) (hside : side < 4) (hfree : x.bridgeSide k.val = 0) :
    (x.takeShort k.val side).bridgeSide k.val = side := by
  have hunlatched : x.rd (GATE.BRIDGE.SIDE k.val) = 0 := by
    by_contra h
    rw [LaneSt.bridgeSide, if_neg h] at hfree
    exact h hfree
  rw [LaneSt.takeShort_eq]
  refine LaneSt.shortStep_bridgeSide (canon_sideOrdered hx k.val side) hpos hside ?_
  rw [LaneSt.sideOrdered_short x k.isLt]
  exact Prod.ext hunlatched (congrArg GateCh.naming (LaneSt.gateCh_setGateCh_same _ k.isLt _))

theorem LaneSt.takeShort_short_ne (x : LaneSt) {n : Nat} (hn : n < 8) {k : Fin 8} (hk : k.val ≠ n) (side : Nat) :
    (x.takeShort n side).short k = x.short k := by
  rw [LaneSt.takeShort_eq, LaneSt.shortStep_short_ne _ hn hk, LaneSt.sideOrdered_short x hn, LaneSt.setGateCh_short_ne _ k hk,
    LaneSt.dropDue_short]

theorem besideBridges_noSide : GATE.GATE_COUNTS.NO_SIDE.BesideBridges := besideBridges_below (by decide)

include hx in
theorem LaneSt.noSide_bridgeSide (k : Fin 8) : (x.noSide k.val).bridgeSide k.val = 3 := by
  refine LaneSt.bridgeSide_of_latched (by decide) ?_
  rw [LaneSt.noSide, LaneSt.satInc_short _ k (by decide) besideBridges_noSide, LaneSt.windingOff_short _ k k.isLt]
  exact LaneSt.sideLatched_short (regsWf_of_canon hx) k (by decide) _

theorem LaneSt.noSide_short_ne (x : LaneSt) {n : Nat} (hn : n < 8) {k : Fin 8} (hk : k.val ≠ n) : (x.noSide n).short k = x.short k := by
  rw [LaneSt.noSide, LaneSt.satInc_short _ k (by decide) besideBridges_noSide, LaneSt.windingOff_short _ k hn,
    LaneSt.sideLatched_short_ne x hk]

/-! ## What a switch event makes of the sides (R254, R255) -/

/-- From `x` to `y` an event has named `side` for bridge `n`, and nothing for another. -/
def LaneSt.Named (x y : LaneSt) (n side : Nat) : Prop :=
  y.bridgeSide n = (if x.bridgeSide n = 0 ∨ x.bridgeSide n = side then side else 3) ∧
    ∀ k, k < 8 → k ≠ n → y.bridgeSide k = x.bridgeSide k

/-- What leaves the shorts before and after an event has no part in the naming. -/
theorem LaneSt.Named.of_short {x x' y' y : LaneSt} {n side : Nat} (h : LaneSt.Named x' y' n side) (hn : n < 8)
    (hbefore : ∀ k, x'.short k = x.short k) (hafter : ∀ k, y.short k = y'.short k) : LaneSt.Named x y n side := by
  have hx : ∀ k, k < 8 → x'.bridgeSide k = x.bridgeSide k := fun k hk => LaneSt.bridgeSide_of_short (hbefore ⟨k, hk⟩)
  have hy : ∀ k, k < 8 → y.bridgeSide k = y'.bridgeSide k := fun k hk => LaneSt.bridgeSide_of_short (hafter ⟨k, hk⟩)
  obtain ⟨hnamed, hothers⟩ := h
  refine ⟨?_, fun k hk hne => ?_⟩
  · rw [hy n hn, hnamed, hx n hn]
  · rw [hy k hk, hothers k hk hne, hx k hk]

section
variable {leg side : Nat} (hleg : leg < 24)
include hleg

theorem LaneSt.legSideShown_short (x : LaneSt) (k : Fin 8) : (x.legSideShown leg side).short k = x.short k :=
  LaneSt.wr_short x k (besideBridges_leg (m := leg) (by omega) (Nat.add_le_add_right (by decide) _)) _

include hx in
/-- The rule for the side in the three cases of the side before: none or the same, none safe, the other one. -/
theorem LaneSt.nameSide_named (hside : side = 1 ∨ side = 2) : LaneSt.Named x (x.nameSide leg side).1 (leg / 3) side := by
  obtain ⟨k, hk⟩ : ∃ k : Fin 8, k.val = leg / 3 := ⟨⟨leg / 3, by omega⟩, rfl⟩
  obtain ⟨hpos, hfit⟩ : side ≠ 0 ∧ side < 4 := by omega
  have hcanon : LaneSt.Canon κ (x.legSideShown leg side) := canon_wr hx (off_add (by decide)) _
  have hkept := fun j => LaneSt.legSideShown_short (side := side) hleg x j
  have hstart : ∀ j, ((x.legSideShown leg side).sideCounted k.val).short j = x.short j := fun j =>
    (LaneSt.sideCounted_short hcanon _ j).trans (hkept j)
  have hothers : ∀ {y : LaneSt}, (∀ j : Fin 8, j.val ≠ k.val → y.short j = x.short j) →
      ∀ j, j < 8 → j ≠ k.val → y.bridgeSide j = x.bridgeSide j := fun h j hj hne => LaneSt.bridgeSide_of_short (h ⟨j, hj⟩ hne)
  rw [LaneSt.nameSide_eq, ← hk]
  dsimp only
  split
  case isTrue hsame =>
    refine ⟨(LaneSt.bridgeSide_of_short (hkept k)).trans ?_, hothers (fun j _ => hkept j)⟩
    split <;> omega
  case isFalse hchange =>
    have hcounted := canon_sideCounted hcanon k.val
    split
    case isTrue hfree =>
      dsimp only
      refine ⟨?_, hothers (fun j hj => (LaneSt.takeShort_short_ne _ k.isLt hj side).trans (hstart j))⟩
      rw [if_pos (.inl hfree)]
      exact LaneSt.takeShort_bridgeSide hcounted hpos hfit ((LaneSt.bridgeSide_of_short (hstart k)).trans hfree)
    case isFalse hother =>
      dsimp only
      refine ⟨?_, hothers (fun j hj => (LaneSt.noSide_short_ne _ k.isLt hj).trans (hstart j))⟩
      rw [if_neg (by omega)]
      exact LaneSt.noSide_bridgeSide hcounted k

include hx in
/-- A fault follows the naming, and BRIDGE_NO_SIDE where no side is left; neither has a part in it. -/
theorem LaneSt.switchEvent_named (huse : x.rd (GATE.LEG_CTRL.USE leg) = 1) (hside : side = 1 ∨ side = 2) {code : Nat}
    (hcode : code < 0x400) (low chop : Bool) : LaneSt.Named x (x.switchEvent code leg low side chop) (leg / 3) side := by
  have hlow := b2n_le_one low
  have hswitch : 2 * leg + b2n low < 52 := by omega
  obtain ⟨y, hy, hshort, heq⟩ : ∃ y, LaneSt.Canon κ y ∧ (∀ k, y.short k = x.short k) ∧ x.switchEvent code leg low side chop =
      let z := (y.nameSide leg side).1.fault code (2 * leg + b2n low)
      if (y.nameSide leg side).2 then z.fault 0x188 (leg / 3) else z := by
    refine ⟨if code = 0x182 ∨ code = 0x183 then x.swOff (2 * leg + b2n low) true else x,
      canon_ite (fun _ => canon_swOff hx _ _) (fun _ => hx), fun k => ?_, ?_⟩
    · rw [LaneSt.short_ite, LaneSt.swOff_short x k hswitch, ite_self]
    · simp [LaneSt.switchEvent, huse]
  rw [heq]
  refine (LaneSt.nameSide_named hy hleg hside).of_short (by omega) hshort (fun k => ?_)
  dsimp only
  rw [LaneSt.short_ite, LaneSt.fault_short _ k (by decide), ite_self, LaneSt.fault_short _ k hcode]

theorem LaneSt.eventShown_short (x : LaneSt) {flag count : Field} (hflag : flag.off = GATE.STATUS.off leg)
    (hcount : count.off = GATE.COUNTS.off leg) (k : Fin 8) : (x.eventShown flag count).short k = x.short k := by
  have hbeside : flag.BesideBridges ∧ count.BesideBridges := by
    simp only [Field.BesideBridges, hflag, hcount, GATE.STATUS.off, GATE.COUNTS.off]
    omega
  rw [LaneSt.eventShown, LaneSt.satInc_short _ k (by decide) hbeside.2, LaneSt.wr_short _ k hbeside.1]

include hx in
theorem LaneSt.shownEvent_named (huse : x.rd (GATE.LEG_CTRL.USE leg) = 1) (hside : side = 1 ∨ side = 2) {flag count : Field}
    (hflag : flag.off = GATE.STATUS.off leg ∧ flag.width = 1) (hcount : count.off = GATE.COUNTS.off leg ∧ count.width = 8)
    {code : Nat} (hcode : code < 0x400) (low chop : Bool) :
    LaneSt.Named x ((x.eventShown flag count).switchEvent code leg low side chop) (leg / 3) side := by
  have hregister : 4096 ≤ flag.off ∧ 4096 ≤ count.off := by
    simp only [hflag, hcount, GATE.STATUS.off, GATE.COUNTS.off]
    omega
  have hshown : LaneSt.Canon κ (x.eventShown flag count) := canon_satInc (canon_wr hx hregister.1 1) 12 count hregister.2
  have huse' : (x.eventShown flag count).rd (GATE.LEG_CTRL.USE leg) = 1 := by
    rw [x.eventShown_use hflag.1 hcount.1 (by omega) (by omega), huse]
  exact (LaneSt.switchEvent_named hshown hleg huse' hside hcode low chop).of_short (by omega)
    (fun k => LaneSt.eventShown_short hleg x hflag.1 hcount.1 k) (fun _ => rfl)

end

theorem LaneSt.swOff_rd_ne (x : LaneSt) {i : Nat} {g : Field} (h : g.off ≠ (gsF i).off) (hg : g.width ≠ 64) (soft : Bool) :
    (x.swOff i soft).rd g = x.rd g := by
  have hwidth : (gsF i).width ≠ 64 := by unfold gsF; split <;> simp [GATE.STATUS.GS_H, GATE.STATUS.GS_L]
  unfold LaneSt.swOff
  dsimp only
  split
  · exact LaneSt.rd_wr_ne _ h hwidth hg 0
  · rfl

/-- The lane with BS_UV of a leg shown and its high side turned off. -/
def LaneSt.bootLost (x : LaneSt) (leg : Nat) : LaneSt := (x.wr (GATE.STATUS.BS_UV leg) 1).swOff (2 * leg) false

theorem LaneSt.bootLost_rd (x : LaneSt) {leg : Nat} {g : Field} (h : g.off ≠ GATE.STATUS.off leg) (hg : g.width ≠ 64) :
    (x.bootLost leg).rd g = x.rd g := by
  have hgate : (gsF (2 * leg)).off = GATE.STATUS.off leg := by
    simp [gsF, GATE.STATUS.GS_H, GATE.STATUS.off]
  rw [LaneSt.bootLost, LaneSt.swOff_rd_ne _ (hgate ▸ h) hg, LaneSt.rd_wr_ne _ h (by simp [GATE.STATUS.BS_UV]) hg]

theorem LaneSt.bootLost_short (x : LaneSt) {leg : Nat} (hleg : leg < 24) (k : Fin 8) : (x.bootLost leg).short k = x.short k := by
  rw [LaneSt.bootLost, LaneSt.swOff_short _ k (by omega),
    LaneSt.wr_short _ k (besideBridges_leg (m := leg) (by omega) (Nat.add_le_add_right (by decide) _))]

include hx in
/-- Where the bridge neither holds nor takes ASC_HIGH, a lost bootstrap names LOW (R254, R257). -/
theorem LaneSt.bsUv_named {leg : Nat} (hleg : leg < 24) (huse : x.rd (GATE.LEG_CTRL.USE leg) = 1) (harmed : x.armed leg false = true)
    (hasc : ¬(x.rd (COMM.STATUS.WSTATE (leg / 3)) = 3 ∨ (x.gateCh (leg / 3)).naming = 2)) :
    LaneSt.Named x (x.bsUv leg) (leg / 3) 1 := by
  obtain ⟨k, hk⟩ : ∃ k : Fin 8, k.val = leg / 3 := ⟨⟨leg / 3, by omega⟩, rfl⟩
  have hnaming : ((x.bootLost leg).gateCh (leg / 3)).naming = (x.gateCh (leg / 3)).naming := by
    rw [← hk]
    exact congrArg Prod.snd (LaneSt.bootLost_short x hleg k)
  have hwstate : (x.bootLost leg).rd (COMM.STATUS.WSTATE (leg / 3)) = x.rd (COMM.STATUS.WSTATE (leg / 3)) :=
    LaneSt.bootLost_rd x (by simp only [COMM.STATUS.WSTATE, GATE.STATUS.off]; omega) (by simp [COMM.STATUS.WSTATE])
  have huse' : (x.bootLost leg).rd (GATE.LEG_CTRL.USE leg) = 1 := by
    rw [LaneSt.bootLost_rd x (by simp only [GATE.LEG_CTRL.USE, GATE.STATUS.off]; omega) (by simp [GATE.LEG_CTRL.USE]), huse]
  have hcanon : LaneSt.Canon κ (x.bootLost leg) := canon_swOff (canon_wr hx (off_add (by decide)) 1) _ _
  have hevent : x.bsUv leg = (x.bootLost leg).switchEvent 0x186 leg false 1 false := by
    rw [LaneSt.bsUv_armed (by omega) harmed]
    rw [← hwstate, ← hnaming] at hasc
    exact if_neg (fun h => hasc h.2)
  rw [hevent]
  exact (LaneSt.switchEvent_named hcanon hleg huse' (.inl rfl) (by decide) false false).of_short (by omega)
    (LaneSt.bootLost_short x hleg) (fun _ => rfl)

end

/-- Settles O40: an event shows its flag and its count, then names its side; what the fault does afterwards leaves every side. -/
theorem switchEventNamesTheShortSide : Obligations.SwitchEventNamesTheShortSide := by
  unfold Obligations.SwitchEventNamesTheShortSide
  intro s l m low hcanon hleg huse n x named
  have hinUse : x.rd (GATE.LEG_CTRL.USE m.val) ≠ 0 := huse.trans_ne (by decide)
  have hside : (if low then 2 else 1) = 1 ∨ (if low then 2 else 1) = 2 := by cases low <;> decide
  have hopposite : (if low then 1 else 2) = 1 ∨ (if low then 1 else 2) = 2 := by cases low <;> decide
  refine ⟨fun harmed => ⟨?_, fun hen => ?_, ?_, ?_⟩, fun harmed hasc => ?_⟩
  · refine ⟨_, exec_desatTrip s l m low, ?_⟩
    rw [LaneSt.desat_armed hinUse harmed]
    exact LaneSt.shownEvent_named (hcanon l) hleg huse hside (by cases low <;> exact ⟨rfl, rfl⟩) ⟨rfl, rfl⟩ (by decide) low true
  · refine ⟨_, exec_coarseTrip s l m low, ?_⟩
    rw [LaneSt.coarse_armed hinUse harmed hen]
    exact LaneSt.shownEvent_named (hcanon l) hleg huse hside (by cases low <;> exact ⟨rfl, rfl⟩) ⟨rfl, rfl⟩ (by decide) low true
  · have hlow := b2n_le_one low
    have hgate : 2 * m.val + b2n low < 52 := by omega
    refine ⟨_, exec_interlockStuck s l m low, ?_⟩
    rw [LaneSt.interlockStuck_armed hinUse harmed]
    exact (LaneSt.shownEvent_named (hcanon l) hleg huse hopposite (by cases low <;> exact ⟨rfl, rfl⟩) ⟨rfl, rfl⟩ (by decide) low
      false).of_short (by omega) (fun _ => rfl) (fun k => LaneSt.wr_short _ k (besideBridges_gsF hgate) 1)
  · refine ⟨_, exec_gateStuckOff s l m low, ?_⟩
    rw [LaneSt.gateStuckOff_armed hinUse harmed]
    exact LaneSt.shownEvent_named (hcanon l) hleg huse hside (by cases low <;> exact ⟨rfl, rfl⟩) ⟨rfl, rfl⟩ (by decide) low true
  · exact ⟨_, exec_bsUv s l m, LaneSt.bsUv_named (hcanon l) hleg huse harmed hasc⟩

end Sys2Proof.Machine

/-!
SUPPORT. The machine after reset, and the queue of waiting commands, which no command touches.
-/

namespace Sys2Proof.Machine

open Sys2Proof

/-! ## The machine after reset (R367, R398, R438, R441) -/

theorem State.reset_lane (k : LaneId) : State.reset.lane k = LaneSt.reset k := by
  cases k <;> rfl

/-- What `ResetLanesAreSound` says of the registers of a lane after reset, as one check over the reset words. -/
def resetValues (k : LaneId) : Bool :=
  let x := LaneSt.reset k
  x.rd PWR.STATUS.STATE == 0 && x.rd PWR.RESET_CAUSE.CAUSE == 0 && x.self == selfForming && x.members == 0 &&
    x.rd HIF.STATUS.SEALED == 0 && x.rd HIF.CTRL.EN == 0 && x.rd SIO.SO_STATUS.ON == 0 &&
    (List.range 8).all (fun n => x.chState n == chDisabled && x.rd (COMM.STATUS.WSTATE n) == 0) &&
    (List.range 24).all (fun b => x.rd (FLT.TOTAL.COUNT b) == 0) && x.rd ID.PART.LANE == k.num

theorem resetValues_hold (k : LaneId) : resetValues k = true := by
  cases k <;> decide +kernel

/-- Settles O2: the stores after reset list nothing, and the reset words are as stated in each lane. -/
theorem resetLanesAreSound : Obligations.ResetLanesAreSound := by
  unfold Obligations.ResetLanesAreSound
  refine ⟨fun k => ?_, rfl, fun l => ?_⟩
  · rw [State.reset_lane]
    exact ⟨rfl, rfl, rfl, fun _ _ => rfl⟩
  · have hvalues := resetValues_hold l
    simp only [resetValues, Bool.and_eq_true, beq_iff_eq, List.all_eq_true, List.mem_range] at hvalues
    obtain ⟨⟨⟨⟨⟨⟨⟨⟨⟨hstate, hcause⟩, hself⟩, hmembers⟩, hseal⟩, hhif⟩, houtputs⟩, hchannels⟩, hfaults⟩, hpart⟩ := hvalues
    rw [State.reset_lane]
    exact ⟨hstate, hcause, hself, hmembers, hseal, hhif, houtputs, rfl, hchannels, hfaults, hpart⟩

/-- Settles O3: the step has one equation for an empty queue and one for a queue with a front. -/
theorem stepRunsTheFrontCommand : Obligations.StepRunsTheFrontCommand := by
  unfold Obligations.StepRunsTheFrontCommand
  exact ⟨fun _ _ _ => step_of_pending_cons, fun _ => step_of_pending_nil⟩

/-! ## The queue -/

section
variable (s : State) (k : LaneId)

@[simp] theorem State.pending_ite (c : Prop) [Decidable c] (s t : State) :
    (if c then s else t).pending = if c then s.pending else t.pending := apply_ite State.pending c s t

theorem State.foldl_pending {α : Type} {f : State → α → State} (h : ∀ s a, (f s a).pending = s.pending) (xs : List α) (s : State) :
    (xs.foldl f s).pending = s.pending := foldl_keep State.pending f h xs s

/-- Lanes that are replaced one after the other leave the queue. -/
@[simp] theorem State.foldl_setLane_pending {α : Type} (g : State → α → LaneId) (f : State → α → LaneSt) (xs : List α) (s : State) :
    (xs.foldl (fun s a => s.setLane (g s a) (f s a)) s).pending = s.pending :=
  State.foldl_pending (fun _ _ => State.setLane_pending _ _ _) xs s

theorem State.diagSettle_pending (n : Nat) : (s.diagSettle n).pending = s.pending := by
  refine State.foldl_pending (fun t k => ?_) _ s
  dsimp only
  split
  · rfl
  · split
    · exact State.setLane_pending _ _ _
    · rfl

theorem diagExec_pending (t : Nat) : (diagExec k t s).pending = s.pending :=
  (State.foldl_pending State.diagSettle_pending _ _).trans (State.setLane_pending _ _ _)

theorem completionWrite_pending : (completionWrite k s).pending = s.pending := by
  unfold completionWrite
  dsimp only
  split
  · rfl
  · split
    · rfl
    · refine (State.setLane_pending _ _ _).trans (State.foldl_pending (fun t j => ?_) _ s)
      split
      · exact State.setLane_pending _ _ _
      · rfl

theorem State.endTune_pending (c : Nat) : (s.endTune k c).pending = s.pending := by
  unfold State.endTune
  split
  · rfl
  · exact State.foldl_setLane_pending (fun _ j => j) _ _ s

theorem State.aliveToggle_pending : (s.aliveToggle k).pending = s.pending := by
  unfold State.aliveToggle
  dsimp only
  split
  · rfl
  · exact (State.foldl_setLane_pending (fun _ p => p) _ _ _).trans (State.setLane_pending _ _ _)

theorem State.linksPassed_pending (links : Nat) : (s.linksPassed k links).pending = s.pending :=
  State.foldl_pending (fun _ _ => (State.setLane_pending _ _ _).trans (State.setLane_pending _ _ _)) _ s

theorem State.fullProof_pending (fail : Option (Fin 9)) (links : Nat) : (s.fullProof k fail links).pending = s.pending := by
  simp [State.fullProof, State.linksPassed_pending]

theorem State.dynamicState_pending (src : Arrival) (part : Nat) : (s.dynamicState k src part).pending = s.pending := by
  unfold State.dynamicState
  dsimp only
  split
  · rfl
  · split
    · exact State.setLane_pending _ _ _
    · split <;> exact State.setLane_pending _ _ _

theorem State.safeResetLane_pending : (s.safeResetLane k).pending = s.pending := by
  unfold State.safeResetLane
  split
  · rfl
  · simp [State.foldl_setLane_pending (fun _ j => j)]
  · rfl

theorem State.laneClear_pending : (s.laneClear k).pending = s.pending := by
  unfold State.laneClear
  split
  · simp [State.foldl_setLane_pending (fun _ j => j)]
  · rfl

theorem State.fwVerified_pending : (s.fwVerified k).pending = s.pending := by
  unfold State.fwVerified
  dsimp only
  split
  · rfl
  · refine State.foldl_pending (fun t j => ?_) _ s
    split
    · rfl
    · exact State.setLane_pending _ _ _

theorem State.bufferSettle_pending (d : Decided) : (s.bufferSettle k d).pending = s.pending := by
  simp [State.bufferSettle, State.foldl_setLane_pending (fun _ j => j)]

theorem State.hostBufferRead_pending (bytes : Option (List Byte)) (flips : List (BitVec 72)) :
    (s.hostBufferRead k bytes flips).pending = s.pending := by
  unfold State.hostBufferRead
  split
  · rfl
  · exact (State.bufferSettle_pending _ _ _).trans (State.setLane_pending _ _ _)

theorem State.hostBufferCopy_pending (bytes : List Byte) : (s.hostBufferCopy k bytes).pending = s.pending := by
  unfold State.hostBufferCopy
  split
  · rfl
  · split
    · rfl
    · exact (State.bufferSettle_pending _ _ _).trans (State.setLane_pending _ _ _)

theorem State.reportWritten_pending (d : Decided) (bs : List Byte) : (s.reportWritten k d bs).pending = s.pending := by
  refine (State.foldl_pending (fun t j => ?_) _ _).trans (State.setLane_pending _ _ _)
  dsimp only
  split
  · rfl
  · exact State.setLane_pending _ _ _

theorem State.reportCopy_pending (sender : LaneId) (bs : List Byte) : (s.reportCopy k sender bs).pending = s.pending := by
  unfold State.reportCopy
  split
  · rfl
  · split
    · exact State.reportWritten_pending _ _ _ _
    · rfl

theorem State.askReport_pending (d : Decided) : (s.askReport k d).pending = s.pending := by
  unfold State.askReport
  split
  · exact State.setLane_pending _ _ _
  · dsimp only
    split
    · exact State.setLane_pending _ _ _
    · split
      · exact State.setLane_pending _ _ _
      · split
        · exact (State.reportWritten_pending _ _ _ _).trans (State.setLane_pending _ _ _)
        · exact State.setLane_pending _ _ _

theorem State.reportDesc_pending (p : DescOp → Bool) (check : DescOp → Option (Nat × Nat)) :
    (s.reportDesc k p check).pending = s.pending := by
  unfold State.reportDesc
  dsimp only
  split
  · rfl
  · rw [State.setLane_pending]
    split
    · simp
    · split
      · simp
      · rw [State.askReport_pending, State.setLane_pending]

theorem tpStart_pending (t : Nat) : (tpStart k t s).pending = s.pending := by
  simp [tpStart, State.foldl_setLane_pending (fun _ j => j)]

theorem State.netAccepted_pending (blue : Bool) : (s.netAccepted k blue).pending = s.pending := by
  simp [State.netAccepted, State.foldl_setLane_pending (fun _ j => j)]

theorem State.ywPaired_pending (x : YwPaired) : (s.ywPaired k x).pending = s.pending := by
  unfold State.ywPaired
  cases x.red <;> cases x.blue <;> simp [State.netAccepted_pending]

theorem State.skewExpired_pending (q : Nat) : (s.skewExpired k q).pending = s.pending := by
  unfold State.skewExpired
  dsimp only
  split
  · rfl
  · split
    · rfl
    · exact (State.netAccepted_pending _ _ _).trans (State.setLane_pending _ _ _)

theorem State.settleSkew_pending (q : Nat) : (s.settleSkew k q).pending = s.pending :=
  State.foldl_pending (fun t _ => t.skewExpired_pending k q) _ s

theorem State.ywReceive_pending (blue : Bool) (type : Nat) (b : List Byte) : (s.ywReceive k blue type b).pending = s.pending := by
  unfold State.ywReceive
  split
  · rfl
  · split
    · exact State.setLane_pending _ _ _
    · split
      · exact State.setLane_pending _ _ _
      · exact (State.ywPaired_pending _ _ _).trans ((State.settleSkew_pending _ _ _).trans (State.setLane_pending _ _ _))

theorem State.keyConfirm_pending (blue : Bool) (q : Nat) (b : List Byte) : (s.keyConfirm k blue q b).pending = s.pending := by
  unfold State.keyConfirm
  split
  · exact State.setLane_pending _ _ _
  · split
    · exact State.setLane_pending _ _ _
    · split
      · exact State.setLane_pending _ _ _
      · simp [State.ywPaired_pending, State.settleSkew_pending]

/-! ### The parts of a voting boundary -/

@[simp] theorem State.at'_pending (f : LaneSt → LaneSt) : (s.at' k f).pending = s.pending := State.setLane_pending _ _ _

@[simp] theorem State.ywFollow_pending : (s.ywFollow k).pending = s.pending := by
  refine State.foldl_pending (fun t q => ?_) _ s
  dsimp only
  split
  · rfl
  · split
    · rfl
    · exact State.setLane_pending _ _ _

@[simp] theorem State.admissions_pending : (s.admissions k).pending = s.pending := by
  unfold State.admissions
  dsimp only
  split
  · rfl
  · split
    · split
      · rfl
      · exact State.setLane_pending _ _ _
    · split
      · exact State.setLane_pending _ _ _
      · rfl

theorem State.waitRecheck_pending : (s.waitRecheck k).pending = s.pending :=
  (State.foldl_pending (fun t d => t.bufferSettle_pending k d) _ _).trans (State.setLane_pending _ _ _)

@[simp] theorem State.applyMembership_pending : (s.applyMembership k).pending = s.pending := by
  unfold State.applyMembership
  dsimp only
  split
  · split
    · rfl
    · exact (State.waitRecheck_pending _ _).trans
        ((State.foldl_pending (fun t n => t.endTune_pending k n) _ _).trans (State.setLane_pending _ _ _))
  · split
    · exact State.setLane_pending _ _ _
    · split
      · exact State.setLane_pending _ _ _
      · rfl

@[simp] theorem State.faultedChannels_pending : (s.faultedChannels k).pending = s.pending := by
  unfold State.faultedChannels
  dsimp only
  split
  · rfl
  · refine (State.at'_pending _ _ _).trans (State.foldl_pending (fun t j => ?_) _ s)
    split
    · exact State.at'_pending _ _ _
    · rfl

@[simp] theorem State.stopEnters_pending : (s.stopEnters k).pending = s.pending := by
  unfold State.stopEnters
  dsimp only
  split
  · split
    · rfl
    · exact State.setLane_pending _ _ _
  · split
    · split
      · rfl
      · split
        · exact State.setLane_pending _ _ _
        · rfl
    · rfl

@[simp] theorem State.stampResults_pending : (s.stampResults k).pending = s.pending := by
  unfold State.stampResults
  dsimp only
  split
  · rfl
  · refine State.foldl_pending (fun t j => ?_) _ s
    split
    · exact State.setLane_pending _ _ _
    · rfl

@[simp] theorem State.speakers_pending : (s.speakers k).pending = s.pending := State.at'_pending _ _ _

@[simp] theorem State.napDecide_pending : (s.napDecide k).pending = s.pending := by
  simp [State.napDecide]

@[simp] theorem State.answerBuffer_pending : (s.answerBuffer k).pending = s.pending := by
  simp [State.answerBuffer]

@[simp] theorem State.captures_pending : (s.captures k).pending = s.pending :=
  State.foldl_pending (fun t j => by simp [State.capture]) _ s

theorem State.votingBoundary_pending (sends : Bool) : (s.votingBoundary k sends).pending = s.pending := by
  unfold State.votingBoundary
  dsimp only
  split
  · rfl
  · simp only [State.captures_pending, State.at'_pending, State.answerBuffer_pending, State.napDecide_pending, State.speakers_pending,
      State.stampResults_pending, State.stopEnters_pending, State.faultedChannels_pending, State.applyMembership_pending,
      State.admissions_pending, State.ywFollow_pending]

end

/-- A command that no lane carries out alone leaves the queue too. -/
theorem exec_deviceLevel_pending {c : Instr} (h : deviceLevel c = true) (s : State) : ∃ t, exec c s = .next t ∧ t.pending = s.pending := by
  cases c with
  | scanStep l n u v w => exact ⟨_, rfl, (State.diagSettle_pending _ _).trans (State.setLane_pending _ _ _)⟩
  | completionWrite l => exact ⟨_, rfl, completionWrite_pending s l⟩
  | tuneEnd l n =>
    refine ⟨_, rfl, ?_⟩
    split
    · rfl
    · split
      · exact State.endTune_pending s l _
      · rfl
  | diagSelftestTimeout l n => exact ⟨_, rfl, (State.diagSettle_pending _ _).trans (State.setLane_pending _ _ _)⟩
  | comparatorSelftestStep l m low cmp aborted tripped =>
    exact ⟨_, rfl, (State.diagSettle_pending _ _).trans (State.setLane_pending _ _ _)⟩
  | diagComparatorSelftest l => exact ⟨_, rfl, diagExec_pending s l 0⟩
  | diagTestCurrentScan l => exact ⟨_, rfl, diagExec_pending s l 1⟩
  | aliveToggle l => exact ⟨_, rfl, State.aliveToggle_pending s l⟩
  | fullProofComplete l fail links => exact ⟨_, rfl, State.fullProof_pending s l fail _⟩
  | bulkDynamicState l src part => exact ⟨_, rfl, State.dynamicState_pending s l src _⟩
  | safeResetLane l => exact ⟨_, rfl, State.safeResetLane_pending s l⟩
  | laneClear l => exact ⟨_, rfl, State.laneClear_pending s l⟩
  | fwVerifyComplete l => exact ⟨_, rfl, State.fwVerified_pending s l⟩
  | hostBufferRead l read => exact ⟨_, rfl, State.hostBufferRead_pending s l _ _⟩
  | bulkHostBufferCopy l src bytes =>
    exact ⟨_, rfl, by simp [State.hostBufferCopy_pending]⟩
  | bulkReportCopy l src bytes => exact ⟨_, rfl, by simp [State.reportCopy_pending]⟩
  | logRead l => exact ⟨_, rfl, State.reportDesc_pending s l _ _⟩
  | attest l => exact ⟨_, rfl, State.reportDesc_pending s l _ _⟩
  | tpWindowStart l t => exact ⟨_, rfl, tpStart_pending s l _⟩
  | tpWindowEnd l t => exact ⟨_, rfl, by simp [State.foldl_setLane_pending (fun _ j => j)]⟩
  | votingBoundary b => exact ⟨_, rfl, State.votingBoundary_pending s _ _⟩
  | ywSkewExpired l q => exact ⟨_, rfl, State.skewExpired_pending s l _⟩
  | ywPoll l blue b => exact ⟨_, rfl, State.ywReceive_pending s l blue 1 b⟩
  | ywFleetFrame l blue b => exact ⟨_, rfl, State.ywReceive_pending s l blue 6 b⟩
  | ywKeyConfirm l blue q b => exact ⟨_, rfl, State.keyConfirm_pending s l blue _ b⟩
  | _ => cases h

/-- Settles O4: a command of one lane replaces that lane at most, and every other command leaves the queue by its lemma above.
That every command on every state answers a next state is log entry 1. -/
theorem everyCommandRunsAndKeepsTheQueue : Obligations.EveryCommandRunsAndKeepsTheQueue := by
  unfold Obligations.EveryCommandRunsAndKeepsTheQueue
  intro c s
  cases hlevel : deviceLevel c with
  | true => exact exec_deviceLevel_pending hlevel s
  | false =>
    obtain ⟨t, y, hexec, rfl | ⟨-, rfl⟩⟩ := commandsKeepToTheirLane c s hlevel
    · exact ⟨_, hexec, State.setLane_pending _ _ _⟩
    · exact ⟨_, hexec, (State.setLane_pending _ _ _).trans (State.setSnap_pending _ _ _)⟩

end Sys2Proof.Machine

/-!
SUPPORT. What the events of the time base do where their conditions hold.
-/

namespace Sys2Proof.Machine

open Sys2Proof

/-! ## The grandmaster (R277, R278, R282, R285) -/

theorem exec_ptpSyncReceive (s : State) (l : LaneId) (blue : Bool) (offset : Int) :
    exec (.ptpSyncReceive l blue offset) s = .next (s.setLane l ((s.lane l).syncReceive blue offset)) := rfl

theorem exec_gmLost (s : State) (l : LaneId) : exec (.gmLost l) s = .next (s.setLane l (s.lane l).gmLost) := rfl

theorem exec_announceReceive (s : State) (l : LaneId) (blue : Bool) (rank : Nat) (gm : Dword) :
    exec (.announceReceive l blue rank gm) s = .next (s.setLane l ((s.lane l).announce blue rank gm.toNat)) := rfl

section
variable {x : LaneSt}

/-- The measured link delay of a network and the offset of its grandmaster noted (R282). -/
def LaneSt.syncNoted (x : LaneSt) (blue : Bool) (offset : Int) : LaneSt :=
  let y := x.fresh.2.wr (if blue then TIME.PATH_DELAY.BLUE else TIME.PATH_DELAY.RED) (x.fresh.1 % 2 ^ 16)
  let z : LaneSt := { y with time := { y.time with gmOffset := offset, gmBlue := blue } }
  (z.wrSat TIME.OFFSET_GM.NS offset).showGm

/-- The lane locks to the grandmaster of a network (R277). -/
def LaneSt.lockTo (w : LaneSt) (blue : Bool) : LaneSt :=
  let u := (w.wr TIME.STATUS.ACQUIRING 0).wr TIME.STATUS.STEP_PENDING 0
  ((({ u with time := { u.time with lockRun := 0, stepReady := false, holdStart := none, lockedRate := u.rdI TIME.RATE.VALUE } } :
    LaneSt).wr TIME.STATUS.HOLD_LEFT 0).setSource (if blue then 2 else 1)).showGm

/-- What a noted offset makes of the lane: it tracks the grandmaster it is locked to, or counts towards LOCK_N (R277, R278). -/
def LaneSt.syncJudged (z : LaneSt) (blue : Bool) (offset : Int) : LaneSt :=
  let run := if offset.natAbs ≤ 1000 then z.time.lockRun + 1 else 0
  let w : LaneSt := { z with time := { z.time with lockRun := run } }
  if z.on TIME.STATUS.GM_SUSPECT then z
  else if z.timeSource = 1 ∨ z.timeSource = 2 then (if z.self = selfExcluded then z else z.trackRate.judgeStep offset)
  else if w.rd TIME.SERVO.LOCK_N ≤ run then w.lockTo blue else w.steer

theorem LaneSt.syncReceive_followed {blue : Bool} (hen : x.on TIME.CTRL.PTP_EN = true) (hrun : x.time.running = true)
    (hown : x.timeSource ≠ 5) (hheard : (x.gmHeard blue).isSome = true) (hnet : x.gmNetwork = some blue) (offset : Int) :
    x.syncReceive blue offset = (x.syncNoted blue offset).syncJudged blue offset := by
  refine if_neg ?_
  rintro (hoff | hstopped | hsource | hnone | hother)
  · simp [hen] at hoff
  · simp [hrun] at hstopped
  · exact hown hsource
  · rw [Option.isNone_iff_eq_none.mp hnone] at hheard
    cases hheard
  · exact hother hnet

theorem LaneSt.gmLost_followed {b : Bool} (hnet : x.gmNetwork = some b) :
    x.gmLost =
      let y := x.forgetGm b
      if y.timeSource = 1 ∨ y.timeSource = 2 then
        ((((y.setSource (if y.otherLocked then 3 else 4)).satInc 3 TIME.COUNTS.GM_LOSSES).fault 0x062 0)).judgeElection
      else y.judgeElection := by
  unfold LaneSt.gmLost
  rw [hnet]
  rfl

/-- An Announce on a network where no master was heard is the best there. -/
theorem LaneSt.announce_first {blue : Bool} (hen : x.on TIME.CTRL.PTP_EN = true) (hrun : x.time.running = true)
    (hheard : x.gmHeard blue = none) (rank gm : Nat) :
    x.announce blue rank gm =
      (if blue then { x with time := { x.time with best := (x.time.best.1, some rank), gmIds := (x.time.gmIds.1, some gm) } }
        else { x with time := { x.time with best := (some rank, x.time.best.2), gmIds := (some gm, x.time.gmIds.2) } } :
        LaneSt).judgeElection := by
  have hacts : ¬((!x.on TIME.CTRL.PTP_EN) = true ∨ (!x.time.running) = true) := by simp [hen, hrun]
  unfold LaneSt.announce
  rw [if_neg hacts, hheard]
  cases x.gmRank blue <;> rfl

end

/-! ## The comparison and holdover (R279, R286, R287, R482) -/

theorem exec_timeComparison (s : State) (l : LaneId) : exec (.timeComparison l) s = .next (s.setLane l (s.lane l).timeComparison) := rfl

theorem exec_timeCmpReceive {s : State} {l : LaneId} {src : Arrival} (hacc : (s.lane l).accepts src = true) (t32 : Bool)
    (source : BitVec 3) (ready locked : Bool) (ns sec : Word) :
    exec (.timeCmpReceive l src t32 source ready locked ns sec) s = .next (s.setLane l
      (((s.lane l).heard src 1).timeCmp src.lane t32 source.toNat ready locked ns.toNat sec.toNat)) :=
  congrArg (fun y => Host.Outcome.next (s.setLane l y)) (if_pos hacc)

theorem exec_holdoverExpired (s : State) (l : LaneId) : exec (.holdoverExpired l) s = .next (s.setLane l (s.lane l).holdoverExpired) := rfl

theorem exec_timeStep (s : State) (l : LaneId) : exec (.timeStep l) s = .next (s.setLane l (s.lane l).timeStep) := rfl

theorem exec_compareUnit (s : State) (l : LaneId) (c : Fin 4) :
    exec (.compareUnit l c) s = .next (s.setLane l ((s.lane l).compareUnit c)) := rfl

section
variable {x : LaneSt}

theorem LaneSt.timeComparison_member (hm : x.isMember = true) (hrun : x.time.running = true) :
    x.timeComparison =
      let hdr := b2n x.t32 + 2 * x.timeSource + 16 * b2n x.time.stepReady + 32 * b2n (lockedSource x.timeSource)
      let y := x.send 0x11 hdr [stampNs x.t32 x.ns + 2 ^ 32 * (stampS x.t32 x.ns % 2 ^ 32)]
      if y.memberPeers.isEmpty then y.compareTimes else y :=
  if_neg (by simp [hm, hrun])

theorem LaneSt.holdoverExpired_over (hsource : x.timeSource = 4) (hover : x.holdoverOver = true) :
    x.holdoverExpired = (((x.setSource 0).wr TIME.STATUS.HOLD_LEFT 0).fault 0x065 0).showGm :=
  if_neg (by simp [srcHoldover, hsource, hover])

theorem LaneSt.timeStep_agreed {t : Int} (htarget : x.targetOffset = some t) (hagreed : x.time.stepAgreed = true)
    (hm : x.isMember = true) (hperm : x.stepPermitted = true) (hdue : x.time.agreedAt + 10 ^ 6 ≤ x.boundaryNs) :
    x.timeStep =
      let z := ((x.stepBy t).wr TIME.STATUS.STEP_PENDING 0).satInc 3 TIME.COUNTS.STEPS
      let y := z.wrSat TIME.OFFSET_GM.NS z.time.gmOffset
      { y with time := { y.time with stepped := true }, net := { y.net with gate := y.net.gate.map (fun g => (64, g.2)) } } := by
  have hacts : ¬((!x.time.stepAgreed) = true ∨ (!x.isMember) = true ∨ x.boundaryNs < x.time.agreedAt + 10 ^ 6) := by
    simp only [hagreed, hm, Bool.not_true, Bool.false_eq_true, false_or]
    omega
  unfold LaneSt.timeStep
  rw [htarget]
  dsimp only
  rw [if_neg hacts, if_neg (by simp [hperm])]

theorem LaneSt.compareUnit_reached {c : Fin 4} (hen : x.on (TIME.CMP_CTRL.EN c) = true) (hnew : x.compareIndex c ≠ x.time.cmpAt.get c) :
    x.compareUnit c =
      let y : LaneSt := { x with time := { x.time with cmpAt := x.time.cmpAt.set c (x.compareIndex c) } }
      if y.on (TIME.CMP_CTRL.TIME80_ONLY c) && y.t32 then y else y.raise 3 c.val :=
  if_neg (by simp [hen, hnew])

end

/-! ## Counter and PTP messages of the lane (R275, R283, R285) -/

theorem exec_timeCounter (s : State) (l : LaneId) : exec (.timeCounter l) s = .next (s.setLane l ((s.lane l).fault 0x067 0)) := rfl

theorem exec_pdelayReq {s : State} {l : LaneId} {p : Fin 4} (hrun : (s.lane l).bridgeRuns = true)
    (hactive : (s.lane l).portActive p = true) (hmech : (s.lane l).on TIME.CTRL.DELAY_MECH = true) (seq : BitVec 16) (r : Nat) :
    exec (.pdelayReq l p seq r) s = .next (s.setLane l ((s.lane l).egress ⟨p, 7, .pdelayResp seq.toNat r⟩)) :=
  congrArg (fun y => Host.Outcome.next (s.setLane l y)) (if_pos ⟨hrun, hactive, hmech⟩)

theorem exec_grandmasterSync (s : State) (l : LaneId) : exec (.grandmasterSync l) s = .next (s.setLane l (s.lane l).grandmaster) := rfl

theorem LaneSt.grandmaster_running {x : LaneSt} (hrun : x.bridgeRuns = true) :
    x.grandmaster =
      let y := x.judgeElection
      let ann : NetOut := .announce (y.rd TIME.GM_CFG.PRIO1) (y.rd TIME.GM_CFG.CLASS) (y.rd TIME.GM_CFG.PRIO2)
      if y.timeSource = 5 then [0, 1].foldl (fun y i => (y.sendBoth i 7 (.sync y.ns)).sendBoth i 7 ann) y else y := by
  unfold LaneSt.grandmaster
  rw [if_neg (by simp [hrun])]
  exact ite_not _ _ _

/-- Settles O41: each event has its equation for the case that its conditions hold. That a comparison waits for the record of
every member peer is log entry 15, what COUNTS.STEPS and the gates do at a step log entry 52. -/
theorem timeEventsComplete : Obligations.TimeEventsComplete := by
  unfold Obligations.TimeEventsComplete
  refine ⟨?_, ?_, ?_, ?_, ?_, ?_, ?_, ?_, exec_timeCounter, ?_, ?_⟩
  · intro s l blue offset hen hrun hown hheard hnet
    rw [exec_ptpSyncReceive, LaneSt.syncReceive_followed hen hrun hown hheard hnet]
    rfl
  · intro s l b hnet
    rw [exec_gmLost, LaneSt.gmLost_followed hnet]
  · intro s l blue rank gm hen hrun hheard
    rw [exec_announceReceive, LaneSt.announce_first hen hrun hheard]
  · intro s l hm hrun
    rw [exec_timeComparison, LaneSt.timeComparison_member hm hrun]
  · intro s l src t32 source ready locked ns sec hacc
    exact exec_timeCmpReceive hacc t32 source ready locked ns sec
  · intro s l hsource hover
    rw [exec_holdoverExpired, LaneSt.holdoverExpired_over hsource hover]
  · intro s l t htarget hagreed hm hperm hdue
    rw [exec_timeStep, LaneSt.timeStep_agreed htarget hagreed hm hperm hdue]
  · intro s l c hen hnew
    rw [exec_compareUnit, LaneSt.compareUnit_reached hen hnew]
    simp only [Bool.and_eq_true]
  · intro s l p seq r hrun hactive hmech
    exact exec_pdelayReq hrun hactive hmech seq r
  · intro s l hrun
    rw [exec_grandmasterSync, LaneSt.grandmaster_running hrun]

end Sys2Proof.Machine

/-!
SUPPORT. What the events of the bridges and of the CAN controllers do where their conditions hold.
-/

namespace Sys2Proof.Machine

open Sys2Proof

/-! ## Frames at a port (R295, R299) -/

theorem exec_ethFrameReceive (s : State) (l : LaneId) (p : Fin 4) (f : EthFrame) :
    exec (.ethFrameReceive l p f) s = .next (s.setLane l ((s.lane l).ethReceive p f)) := rfl

section
variable {x : LaneSt} {p : Nat} {f : EthFrame}

/-- A frame that passed the checks of its port: its source learned, and counted where the internal port drops it. -/
def LaneSt.ethTaken (x : LaneSt) (p : Nat) (f : EthFrame) : LaneSt :=
  let y := x.learn p f.src
  if y.toInternal p f && f.kind = 0 then y.satInc (netBlock p) (NET.PORT_CNT1.INT_DROP (p / 2) (p % 2)) else y

section
variable (hrun : x.bridgeRuns = true) (hactive : x.portActive p = true) (hlen : 64 ≤ f.length)
include hrun hactive hlen

theorem LaneSt.ethReceive_checked : x.ethReceive p f =
    if !f.fcsOk then x.satInc (netBlock p) (NET.PORT_CNT0.FCS_ERR (p / 2) (p % 2))
    else if 1522 < f.length then x.satInc (netBlock p) (NET.PORT_CNT0.DROPPED (p / 2) (p % 2))
    else if !(x.verify p f).1 then (x.verify p f).2
    else match ((x.verify p f).2.ethTaken p f).forwardTo p f.dst with
      | none => (x.verify p f).2.ethTaken p f
      | some q => ((x.verify p f).2.ethTaken p f).forward p q f := by
  have hacts : ¬((!x.bridgeRuns) = true ∨ (!x.portActive p) = true ∨ f.length < 64) := by
    simp only [hrun, hactive, Bool.not_true, Bool.false_eq_true, false_or]
    omega
  unfold LaneSt.ethReceive
  rw [if_neg hacts]
  rfl

theorem LaneSt.ethReceive_badFcs (hfcs : f.fcsOk = false) :
    x.ethReceive p f = x.satInc (netBlock p) (NET.PORT_CNT0.FCS_ERR (p / 2) (p % 2)) := by
  rw [LaneSt.ethReceive_checked hrun hactive hlen, if_pos (by rw [hfcs]; rfl)]

section
variable (hfcs : f.fcsOk = true)
include hfcs

theorem LaneSt.ethReceive_tooLong (hlong : 1522 < f.length) :
    x.ethReceive p f = x.satInc (netBlock p) (NET.PORT_CNT0.DROPPED (p / 2) (p % 2)) := by
  rw [LaneSt.ethReceive_checked hrun hactive hlen, if_neg (by simp [hfcs]), if_pos hlong]

variable (hfits : f.length ≤ 1522)
include hfits

theorem LaneSt.ethReceive_unverified (hbad : (x.verify p f).1 = false) : x.ethReceive p f = (x.verify p f).2 := by
  rw [LaneSt.ethReceive_checked hrun hactive hlen, if_neg (by simp [hfcs]), if_neg (by omega), if_pos (by rw [hbad]; rfl)]

theorem LaneSt.ethReceive_verified (hgood : (x.verify p f).1 = true) : x.ethReceive p f =
    match ((x.verify p f).2.ethTaken p f).forwardTo p f.dst with
    | none => (x.verify p f).2.ethTaken p f
    | some q => ((x.verify p f).2.ethTaken p f).forward p q f := by
  rw [LaneSt.ethReceive_checked hrun hactive hlen, if_neg (by simp [hfcs]), if_neg (by omega), if_neg (by simp [hgood])]

end

end

end

/-! ## Links, drains, gates and ageing (R294, R296, R297, R298) -/

theorem exec_portLinkDown (s : State) (l : LaneId) (p : Fin 4) :
    exec (.portLinkDown l p) s = .next (s.setLane l ((s.lane l).linkChange p)) := rfl

theorem exec_portDrainTimeout (s : State) (l : LaneId) (p : Fin 4) :
    exec (.portDrainTimeout l p) s = .next (s.setLane l ((s.lane l).drainPort p)) := rfl

theorem exec_qbvGateEntry (s : State) (l : LaneId) (p : Fin 4) :
    exec (.qbvGateEntry l p) s = .next (s.setLane l ((s.lane l).gateEntry p)) := rfl

theorem exec_bridgeAgeOut (s : State) (l : LaneId) (blue : Bool) (mac : BitVec 48) :
    exec (.bridgeAgeOut l blue mac) s = .next (s.setLane l ((s.lane l).setNet (fun n => { n with
      table := n.table.setIfInBounds (b2n blue) ((n.table.getD (b2n blue) []).filter (fun e =>
        e.1 ≠ mac || decide ((s.lane l).run < e.2.2 + (s.lane l).rd (NET.BRIDGE.AGE (b2n blue)) * 10 ^ 9))) }))) := rfl

section
variable {x : LaneSt} {p : Nat}

theorem LaneSt.linkChange_up (hlink : x.on (portLinkF p) = true) : x.linkChange p =
    if x.portActive p then (x.linkDown p).fault (netCode p 0x082 0x0A2) (p % 2) else x.linkDown p := by
  unfold LaneSt.linkChange
  rw [if_pos hlink]

theorem LaneSt.linkChange_down (hlink : x.on (portLinkF p) = false) (hactive : x.portActive p = true) (hrun : x.bridgeRuns = true) :
    x.linkChange p =
      let y := if x.rd (portSpeedF p) = 0 then x.fresh.2.wr (portRateF p) (1 + x.fresh.1 % 3) else x.wr (portRateF p) (x.rd (portSpeedF p))
      (y.wr (portLinkF p) 1).showNetUp := by
  unfold LaneSt.linkChange
  rw [if_neg (by simp [hlink]), if_neg (by simp [hactive, hrun])]

theorem LaneSt.drainPort_stopping (hstop : x.portStopping p = true) :
    x.drainPort p = (x.setNet (fun n => { n with waiting := n.waiting.filter (fun e => e.port ≠ p) })).linkDown p :=
  if_neg (by simp [hstop])

section
variable (hqbv : x.on (portQbvF p) = true)
include hqbv

theorem LaneSt.gateEntry_beforeBase (hplace : x.qbvPlace p = none) : x.gateEntry p = x := by
  unfold LaneSt.gateEntry
  rw [if_neg (by simp [hqbv]), hplace]

theorem LaneSt.gateEntry_called {t : Nat} (hplace : x.qbvPlace p = some t)
    (hcalled : ¬((x.net.gate.getD p (0, 255)).1 = 64 ∧ x.qbvIndex p t ≠ 0)) : x.gateEntry p = x.setGates p (x.qbvIndex p t) := by
  unfold LaneSt.gateEntry
  rw [if_neg (by simp [hqbv]), hplace]
  exact if_neg hcalled

end

/-- The entry's gates are set, and each open queue sends what waits in it, the highest first (R298). -/
theorem LaneSt.setGates_eq (x : LaneSt) (p i : Nat) : x.setGates p i =
    let g := x.rd (NET.GCL.GATES (p / 2) (p % 2) i)
    let y := x.setNet (fun v => { v with gate := v.gate.setIfInBounds p (i, g) })
    [7, 6, 5, 4, 3, 2, 1, 0].foldl (fun y q =>
      if bit g q then (y.net.waiting.filter (fun e => e.port = p && e.queue = q)).foldl LaneSt.transmit
        (y.setNet (fun v => { v with waiting := v.waiting.filter (fun e => !(e.port = p && e.queue = q)) })) else y) y := by
  unfold LaneSt.setGates
  refine congrArg (fun f => List.foldl f _ _) (funext fun y => funext fun q => ?_)
  cases bit (x.rd (NET.GCL.GATES (p / 2) (p % 2) i)) q <;> rfl

end

/-! ## CAN (R314, R316, R317) -/

theorem exec_canFrameReceive (s : State) (l : LaneId) (k : Fin 2) (f : CanFrame) :
    exec (.canFrameReceive l k f) s = .next (s.setLane l ((s.lane l).canReceive k f)) := rfl

theorem exec_canTxObject (s : State) (l : LaneId) (k : Fin 2) (j : Fin 16) :
    exec (.canTxObject l k j) s = .next (s.setLane l ((s.lane l).canSend k j)) := rfl

theorem exec_canBusOff (s : State) (l : LaneId) (k : Fin 2) :
    exec (.canBusOff l k) s = .next (s.setLane l ((s.lane l).busOff k)) := rfl

theorem exec_busOffRecovery (s : State) (l : LaneId) (k : Fin 2) :
    exec (.busOffRecovery l k) s = .next (s.setLane l ((s.lane l).busRecovery k)) := rfl

section
variable {x : LaneSt} {k : Nat}

section
variable {f : CanFrame} (hrun : x.canRuns k = true) (hproto : f.kind.val ≤ x.rd (CAN.CAN_CTRL.PROTO k)) (hpass : x.canFilter k f = true)
include hrun hproto hpass

theorem LaneSt.canReceive_passes : ¬(!x.canRuns k ∨ x.rd (CAN.CAN_CTRL.PROTO k) < f.kind.val ∨ !x.canFilter k f) := by
  simp only [hrun, hpass, Bool.not_true, Bool.false_eq_true, false_or, or_false]
  omega

theorem LaneSt.canReceive_dropped (hno : x.vote.lead = none ∨ x.on (CAN.CAN_CTRL.RX_EN k) = false ∨ (f.kind = 2 ∧ 104 < f.data.length)) :
    x.canReceive k f = x.satInc 6 (CAN.COUNTS.DROPPED k) := by
  unfold LaneSt.canReceive
  rw [if_neg (LaneSt.canReceive_passes hrun hproto hpass), if_pos (by simpa using hno)]

/-- The frame that passed takes the next entry of the ring, which the lead writes (R317). -/
theorem LaneSt.canReceive_kept (hlead : x.vote.lead ≠ none) (hrx : x.on (CAN.CAN_CTRL.RX_EN k) = true)
    (hfits : ¬(f.kind = 2 ∧ 104 < f.data.length)) :
    x.canReceive k f =
      let n := x.rd (CAN.RX_COUNT.ENTRIES k)
      let y := x.inc (CAN.RX_COUNT.ENTRIES k)
      let base := 2 ^ 7 * y.rd (CAN.RX_BASE.ADDR k) + 2 ^ 32 * y.rd (CAN.RX_BASE_HI.ADDR_HI k)
      let id := f.id.toNat + 2 ^ 29 * b2n f.ide + 2 ^ 30 * b2n (f.kind = 1) + 2 ^ 31 * b2n (f.kind = 2)
      if y.isLead then
        (y.post (base + 128 * (n % 2 ^ (y.rd (CAN.RX_CTRL.SIZE k) + 4))) 128
          [(0, 4, (n + 1) % 2 ^ 32), (4, 4, id), (8, 2, f.data.length), (10, 1, f.ctrl.toNat),
           (11, 1, if f.kind = 2 then f.sdt.toNat else 0), (12, 4, stampNs y.t32 y.ns),
           (16, (canData f).length, leBytes (canData f))]).raise 5 k else y := by
  have hkept : ¬(x.vote.lead.isNone = true ∨ (!x.on (CAN.CAN_CTRL.RX_EN k)) = true ∨ (f.kind = 2 ∧ 104 < f.data.length)) := by
    rintro (hnone | hoff | hlong)
    · exact hlead (Option.isNone_iff_eq_none.mp hnone)
    · simp [hrx] at hoff
    · exact hfits hlong
  unfold LaneSt.canReceive
  rw [if_neg (LaneSt.canReceive_passes hrun hproto hpass), if_neg hkept]
  dsimp only
  cases (x.inc (CAN.RX_COUNT.ENTRIES k)).isLead <;> rfl

end

section
variable {j : Nat} (hen : x.on (CAN.CAN_CTRL.EN k) = true) (hrun : x.bridgeRuns = true) (hobj : x.on (CAN.TXO_ID.EN k j) = true)
  (hspeaks : x.on (CAN.STATUS.SPEAKER k) = true) (hpage : x.folio.agreed ≠ [])
include hen hrun hobj hspeaks hpage

theorem LaneSt.canSend_due : x.canSend k j =
    if x.rd (CAN.STATUS.BUS k) = 2 then
      if (x.net.canWait.getD k []).contains j then x.satInc 6 (CAN.COUNTS.TX_LATE k)
      else x.setNet (fun n => { n with canWait := n.canWait.setIfInBounds k (n.canWait.getD k [] ++ [j]) })
    else x.setNet (fun n => { n with canSent := n.canSent ++ [x.canFrame k j] }) :=
  if_neg (by simp [hen, hrun, hobj, hspeaks, hpage])

theorem LaneSt.canSend_onBus (hbus : x.rd (CAN.STATUS.BUS k) ≠ 2) :
    x.canSend k j = x.setNet (fun n => { n with canSent := n.canSent ++ [x.canFrame k j] }) := by
  rw [LaneSt.canSend_due hen hrun hobj hspeaks hpage, if_neg hbus]

theorem LaneSt.canSend_offBus (hbus : x.rd (CAN.STATUS.BUS k) = 2) : x.canSend k j =
    if (x.net.canWait.getD k []).contains j then x.satInc 6 (CAN.COUNTS.TX_LATE k)
    else x.setNet (fun n => { n with canWait := n.canWait.setIfInBounds k (n.canWait.getD k [] ++ [j]) }) := by
  rw [LaneSt.canSend_due hen hrun hobj hspeaks hpage, if_pos hbus]

end

theorem LaneSt.busOff_running (hrun : x.canRuns k = true) : x.busOff k =
    let z := (x.fresh.2.fresh.2.wr (CAN.ERRCNT.TEC k) (x.fresh.1 % 256)).wr (CAN.ERRCNT.REC k) (x.fresh.2.fresh.1 % 256)
    ((z.wr (CAN.STATUS.BUS k) 2).satInc 6 (CAN.ERRCNT.BUS_OFFS k)).fault 0x0C2 k :=
  if_neg (by simp [hrun])

theorem LaneSt.busRecovery_off (hbus : x.rd (CAN.STATUS.BUS k) = 2) : x.busRecovery k =
    let y := ((x.wr (CAN.STATUS.BUS k) 0).wr (CAN.ERRCNT.TEC k) 0).wr (CAN.ERRCNT.REC k) 0
    (y.net.canWait.getD k []).foldl (fun y j => y.canSend k j) (y.setNet (fun n => { n with canWait := n.canWait.setIfInBounds k [] })) :=
  if_neg (by simp [hbus])

end

/-- Settles O42: each event has its equation for the case that its conditions hold. That gates stand before QBV_BASE and that CAN
frames wait only off the bus is log entry 31, that gates stand after a time step log entry 52, that every lane keeps RX_COUNT log
entry 16. -/
theorem networkEventsComplete : Obligations.NetworkEventsComplete := by
  unfold Obligations.NetworkEventsComplete
  refine ⟨?_, ?_, exec_bridgeAgeOut, ?_, ?_, ?_, ?_⟩
  · intro s l p f hrun hactive hlen x
    refine ⟨fun hfcs => ?_, fun hfcs hlong => ?_, fun hfcs hfits => ⟨fun hbad => ?_, fun hgood => ⟨fun hnone => ?_, fun q hsome => ?_⟩⟩⟩
    · rw [exec_ethFrameReceive, LaneSt.ethReceive_badFcs hrun hactive hlen hfcs]
    · rw [exec_ethFrameReceive, LaneSt.ethReceive_tooLong hrun hactive hlen hfcs hlong]
    · rw [exec_ethFrameReceive, LaneSt.ethReceive_unverified hrun hactive hlen hfcs hfits hbad]
    · rw [exec_ethFrameReceive, LaneSt.ethReceive_verified hrun hactive hlen hfcs hfits hgood, LaneSt.ethTaken]
      rw [hnone]
    · rw [exec_ethFrameReceive, LaneSt.ethReceive_verified hrun hactive hlen hfcs hfits hgood, LaneSt.ethTaken]
      rw [hsome]
  · intro s l p x
    refine ⟨fun hlink => ?_, fun hlink hactive hrun => ?_, fun hstop => ?_, fun hqbv hplace => ?_, fun t hqbv hplace hcalled => ?_⟩
    · rw [exec_portLinkDown, LaneSt.linkChange_up hlink]
    · rw [exec_portLinkDown, LaneSt.linkChange_down hlink hactive hrun]
    · rw [exec_portDrainTimeout, LaneSt.drainPort_stopping hstop]
    · rw [exec_qbvGateEntry, LaneSt.gateEntry_beforeBase hqbv hplace]
    · rw [exec_qbvGateEntry, LaneSt.gateEntry_called hqbv hplace hcalled, LaneSt.setGates_eq]
  · intro s l k f hrun hproto hpass x
    refine ⟨fun hno => ?_, fun hlead hrx hfits => ?_⟩
    · rw [exec_canFrameReceive, LaneSt.canReceive_dropped hrun hproto hpass hno]
    · rw [exec_canFrameReceive, LaneSt.canReceive_kept hrun hproto hpass hlead hrx hfits]
  · intro s l k j hen hrun hobj hspeaks hpage x
    refine ⟨fun hbus => ?_, fun hbus => ?_⟩
    · rw [exec_canTxObject, LaneSt.canSend_onBus hen hrun hobj hspeaks hpage hbus]
    · rw [exec_canTxObject, LaneSt.canSend_offBus hen hrun hobj hspeaks hpage hbus]
  · intro s l k hrun x y z
    rw [exec_canBusOff, LaneSt.busOff_running hrun]
  · intro s l k hbus x y
    rw [exec_busOffRecovery, LaneSt.busRecovery_off hbus]

end Sys2Proof.Machine

/-!
SUPPORT. What the Yuwil frames and records, the common command, the loss of a network and the fleet stop do where their
conditions hold.
-/

namespace Sys2Proof.Machine

open Sys2Proof

/-- A choice on a negated truth value. -/
theorem ite_bnot {α : Type} (c : Bool) (a b : α) : (if (!c) = true then a else b) = if c = true then b else a := by
  cases c <;> rfl

/-! ## POLL and FLEET frames (R304, R305) -/

/-- The answer that the speaker of a network owes to a live copy joins the session's (R304). -/
def YwPaired.owing (y : YwPaired) (q : Nat) (a : YwAnswer) : YwPaired :=
  { y with lane := y.lane.setYw q (fun w => { w with owed := w.owed ++ [a] }) }

section
variable {st : State} {k : LaneId} {blue : Bool} {b : List Byte} {q : Nat} {x : LaneSt}
  (hin : (st.lane k).ywIngress blue b = .inr (q, x))
include hin

/-- A frame of its command's type that passes the ingress limits fails its checks, or is paired, and a live copy at the speaker
owes an answer where the type is POLL. -/
theorem State.ywReceive_taken {type : Nat} (htype : ywType b = type) : st.ywReceive k blue type b =
    let r := (st.setLane k x).settleSkew k q
    let y := (r.lane k).ywPair q ⟨ywSeq b, blue, ywBody b, (r.lane k).run⟩
    if ywFormOk b = false ∨ x.ywVerify q b = false then st.setLane k (x.authFail q)
    else r.ywPaired k (if y.live && type = 1 && (r.lane k).on (NET.PORT_STATUS.SPEAKER (b2n blue)) then
      y.owing q ⟨blue, ywSession b, ywSeq b, time80 (beAt b 24 4) (beAt b 28 4), (r.lane k).run⟩ else y) := by
  have hown : ¬(ywFormOk b && ywType b != type && ywType b != 2 && ywType b != 4) = true := by simp [htype]
  unfold State.ywReceive
  rw [if_neg hown, hin]
  simp only [ite_bnot]
  simp only [Bool.not_eq_true']
  rfl

theorem exec_ywPoll (htype : ywType b = 1) : exec (.ywPoll k blue b) st = .next
    (let r := (st.setLane k x).settleSkew k q
     let y := (r.lane k).ywPair q ⟨ywSeq b, blue, ywBody b, (r.lane k).run⟩
     if ywFormOk b = false ∨ x.ywVerify q b = false then st.setLane k (x.authFail q)
     else r.ywPaired k (if y.live && (r.lane k).on (NET.PORT_STATUS.SPEAKER (b2n blue)) then
       y.owing q ⟨blue, ywSession b, ywSeq b, time80 (beAt b 24 4) (beAt b 28 4), (r.lane k).run⟩ else y)) := by
  refine congrArg Host.Outcome.next ((State.ywReceive_taken hin htype).trans ?_)
  simp only [decide_true, Bool.and_true]

theorem exec_ywFleetFrame (htype : ywType b = 6) : exec (.ywFleetFrame k blue b) st = .next
    (let r := (st.setLane k x).settleSkew k q
     if ywFormOk b = false ∨ x.ywVerify q b = false then st.setLane k (x.authFail q)
     else r.ywPaired k ((r.lane k).ywPair q ⟨ywSeq b, blue, ywBody b, (r.lane k).run⟩)) := by
  refine congrArg Host.Outcome.next ((State.ywReceive_taken hin htype).trans ?_)
  simp only [show ¬(6 = 1) by decide, decide_false, Bool.and_false, Bool.false_and, Bool.false_eq_true, if_false]

/-! ## Key exchange (R307, R310) -/

theorem State.keyConfirm_taken (hform : ywFormOk b = true) (htype : ywType b = 5) : st.keyConfirm k blue q b =
    let r := (st.setLane k x).settleSkew k q
    let new := ((r.lane k).yw q).next.filter (fun n => n.1 = ywSession b && ywMacOk n.2.1 b)
    let y := new.elim (r.lane k) (fun n => (r.lane k).ywSwitch q n.1 (ywSeq b) n.2)
    if y.ywVerify q b = true then r.ywPaired k (y.ywPair q ⟨ywSeq b, blue, ywBody b, y.run⟩) else r.setLane k (y.authFail q) := by
  have hgood : ¬((!ywFormOk b) = true ∨ ywType b ≠ 5) := by simp [hform, htype]
  unfold State.keyConfirm
  rw [hin]
  dsimp only
  rw [if_neg (not_not.mpr rfl), if_neg hgood]
  rw [ite_bnot]
  cases (((st.setLane k x).settleSkew k q).lane k |>.yw q).next.filter (fun n => n.1 = ywSession b && ywMacOk n.2.1 b) <;> rfl

end

section
variable {x y : LaneSt} {blue : Bool} {b : List Byte} {q : Nat}

theorem LaneSt.keyInit_examined (hin : x.ywIngress blue b = .inr (q, y)) (hform : ywFormOk b = true) (htype : ywType b = 3)
    (hlead : y.isLead = true) (huntil : (y.yw q).keyUntil ≤ y.run)
    (hlast : ∀ t, (y.yw q).keyLast = some t → t + 100000000 ≤ y.run) : x.keyInit blue q b =
      let z := y.setYw q (fun w => { w with keyLast := some y.run })
      let key := z.sec.ywKeys.getD q []
      if key.length = 32 ∧ ed25519Verify key (b.take 68) (sliceBytes b 68 64) = true then z.keyReply q b else z.keyFail q := by
  have hgood : ¬((!ywFormOk b) = true ∨ ywType b ≠ 3) := by simp [hform, htype]
  have hlimits : ¬((!y.isLead) = true ∨ y.run < (y.yw q).keyUntil ∨
      (y.yw q).keyLast.any (fun t => decide (y.run < t + 100000000)) = true) := by
    rintro (hno | hearly | hrecent)
    · simp [hlead] at hno
    · omega
    · obtain ⟨t, ht, hlt⟩ := (Option.any_eq_true _ _).mp hrecent
      exact absurd (hlast t ht) (Nat.not_le.mpr (of_decide_eq_true hlt))
  unfold LaneSt.keyInit
  rw [hin]
  dsimp only
  rw [if_neg (not_not.mpr rfl), if_neg hgood, if_neg hlimits]

end

theorem exec_ywKeyConfirm (st : State) (l : LaneId) (blue : Bool) (q : Fin 2) (b : List Byte) :
    exec (.ywKeyConfirm l blue q b) st = .next (st.keyConfirm l blue q b) := rfl

theorem exec_ywKeyInit (st : State) (l : LaneId) (blue : Bool) (q : Fin 2) (b : List Byte) :
    exec (.ywKeyInit l blue q b) st = .next (st.setLane l ((st.lane l).keyInit blue q b)) := rfl

/-! ## Records of the peers (R302, R308, R312) -/

section
variable {st : State} {l : LaneId} {src : Arrival} (hacc : (st.lane l).accepts src = true)
include hacc

theorem exec_ywRxReceive (q : Fin 2) (single : Bool) (w : List Dword) :
    exec (.ywRxReceive l src q single w) st = .next (st.setLane l (((st.lane l).heard src 1).ywRx q w)) :=
  congrArg (fun y => Host.Outcome.next (st.setLane l y)) (if_pos hacc)

theorem exec_ywKeyReceive (q : Fin 2) (sid : Word) (keys : List Dword) :
    exec (.ywKeyReceive l src q sid keys) st = .next (st.setLane l (((st.lane l).heard src 1).ywKeying q sid.toNat
      ((keys.flatMap (fun w => toLe 8 w.toNat)).take 16, sliceBytes (keys.flatMap (fun w => toLe 8 w.toNat)) 16 16))) :=
  congrArg (fun y => Host.Outcome.next (st.setLane l y)) (if_pos hacc)

theorem exec_fleetCopyReceive (r : List Byte) :
    exec (.fleetCopyReceive l src r) st = .next (st.setLane l (((st.lane l).heard src 1).fleetRecord r)) :=
  congrArg (fun y => Host.Outcome.next (st.setLane l y)) (if_pos hacc)

end

/-! ## SKEW and answers (R304, R305) -/

theorem exec_ywSkewExpired (st : State) (l : LaneId) (q : Fin 2) : exec (.ywSkewExpired l q) st = .next (st.skewExpired l q) := rfl

theorem State.skewExpired_oldest {st : State} {k : LaneId} {q : Nat} {c : YwCopy} {cs : List YwCopy}
    (hcopies : ((st.lane k).yw q).copies = c :: cs) (hpassed : c.at' + 1000 * (st.lane k).rd NET.YW_TMO.SKEW ≤ (st.lane k).run) :
    st.skewExpired k q = (st.setLane k
      ((((st.lane k).ywDecide q c.seq (NET.SINGLE.COUNT q)).fault 0x085 q).ywAccept q c true)).netAccepted k c.blue := by
  unfold State.skewExpired
  simp only [hcopies]
  exact if_neg (by simp [LaneSt.skewPassed, hpassed])

theorem exec_ywAnswerSend (st : State) (l : LaneId) (q : Fin 2) :
    exec (.ywAnswerSend l q) st = .next (st.setLane l ((st.lane l).answerSend q)) := rfl

theorem LaneSt.answerSend_due {x : LaneSt} {q : Nat} {a : YwAnswer} {rest : List YwAnswer} {k : List Byte × List Byte}
    {pay : List Byte} {nosync : Bool} (howed : (x.yw q).owed = a :: rest) (hkeys : (x.yw q).keys = some k)
    (hdue : a.at' + 500 * x.rd NET.YW_CTRL.ANS_DLY ≤ x.run + 100)
    (hbuffer : (x.setYw q (fun w => { w with owed := rest })).answerBuffer a.tPoll = some (pay, nosync)) :
    x.answerSend q =
      let y := x.setYw q (fun w => { w with owed := rest })
      let ports := [2 * b2n a.blue, 2 * b2n a.blue + 1].filter (fun p => y.portUp p && y.gateOpen p 7)
      let mine := pay.take 1 ++ [BitVec.ofNat 8 (leAt pay 1 1 % 16 + 16 * y.id.num)] ++ pay.drop 2
      let frame := ywBuild 2 (b2n nosync) y.node (y.ywPartner q) a.sid a.seq mine (some k.2)
      if ports.isEmpty ∨ a.at' + 12000 < y.run then (y.inc (NET.ANS_LATE.COUNT q)).fault 0x08A q
      else ports.foldl (fun y p => y.transmit ⟨p, 7, .yuwil (y.ywFrame (b2n a.blue) (y.ywPartner q) frame)⟩) y := by
  unfold LaneSt.answerSend
  simp only [howed, hkeys]
  rw [if_neg (by omega), hbuffer]

/-! ## The common command and network loss (R308, R309) -/

theorem exec_ywCommandApply (st : State) (l : LaneId) : exec (.ywCommandApply l) st = .next (st.setLane l (st.lane l).commandApply) := rfl

section
variable {x : LaneSt} {seq cmd td : Nat} (hpoll : x.net.poll = some (seq, cmd, td)) (hm : x.isMember = true)
  (hdue : td + 3000 ≤ x.boundaryNs)
include hpoll hm hdue

/-- The command taken: its RUN_PERMIT is the one in force, and what follows turns on the one before. -/
theorem LaneSt.commandApply_due : x.commandApply =
    let y := x.setNet (fun n => { n with permit := bit cmd 0 })
    let cat := 1 + b2n (bit cmd 1)
    if bit cmd 0 = true then (if x.net.permit = true then y else (y.setCause 8 false).raise 5 5)
    else
      let z := if x.net.permit = true then (y.setCause 8 true).raise 5 5 else y
      if x.net.permit = true ∨ (z.on VOTE.STATUS.STOPPING = true ∧ z.vote.stopCause = 8 ∧ cat < z.vote.stopCat)
        then z.stopAll 8 cat else z := by
  have hacts : ¬((!x.isMember) = true ∨ x.boundaryNs < td + 3000) := by
    simp only [hm, Bool.not_true, Bool.false_eq_true, false_or]
    omega
  unfold LaneSt.commandApply
  simp only [hpoll]
  exact if_neg hacts

theorem LaneSt.commandApply_permits (hcmd : bit cmd 0 = true) : x.commandApply =
    if x.net.permit = true then x.setNet (fun n => { n with permit := bit cmd 0 })
    else ((x.setNet (fun n => { n with permit := bit cmd 0 })).setCause 8 false).raise 5 5 := by
  rw [LaneSt.commandApply_due hpoll hm hdue, if_pos hcmd]

theorem LaneSt.commandApply_withdraws (hcmd : bit cmd 0 = false) (hwas : x.net.permit = true) : x.commandApply =
    (((x.setNet (fun n => { n with permit := bit cmd 0 })).setCause 8 true).raise 5 5).stopAll 8 (1 + b2n (bit cmd 1)) := by
  rw [LaneSt.commandApply_due hpoll hm hdue, if_neg (by simp [hcmd])]
  dsimp only
  rw [if_pos hwas, if_pos (.inl hwas)]

theorem LaneSt.commandApply_withheld (hcmd : bit cmd 0 = false) (hwas : x.net.permit = false) : x.commandApply =
    if x.on VOTE.STATUS.STOPPING = true ∧ x.vote.stopCause = 8 ∧ 1 + b2n (bit cmd 1) < x.vote.stopCat
    then (x.setNet (fun n => { n with permit := bit cmd 0 })).stopAll 8 (1 + b2n (bit cmd 1))
    else x.setNet (fun n => { n with permit := bit cmd 0 }) := by
  rw [LaneSt.commandApply_due hpoll hm hdue, if_neg (by simp [hcmd])]
  simp only [hwas, Bool.false_eq_true, if_false, false_or]
  rfl

end

theorem exec_netLost (st : State) (l : LaneId) (blue : Bool) : exec (.netLost l blue) st = .next (st.netLost l blue) := rfl

/-- A network without an accepted copy for SAFE_TMO is shown lost, with its fault and its source (R309). -/
def LaneSt.lostShown (x : LaneSt) (blue : Bool) : LaneSt :=
  (((x.wr (NET.PORT_STATUS.LOST (b2n blue)) 1).setDegrade (b2n blue) true).fault (if blue then 0x0A3 else 0x083) 0).raise 5 (2 + b2n blue)

theorem State.netLost_silent {st : State} {k : LaneId} {blue : Bool} (hm : (st.lane k).isMember = true)
    (hen : (st.lane k).on NET.YW_CTRL.EN = true)
    (hlate : ∀ t, st.lastAccepted blue = some t → t + 10 ^ 6 * (st.lane k).rd NET.YW_TMO.SAFE_TMO ≤ (st.lane k).boundaryNs)
    (hfirst : (st.lane k).on (NET.PORT_STATUS.LOST (b2n blue)) = false) : st.netLost k blue =
      let x := (st.lane k).lostShown blue
      st.setLane k (if x.on (NET.PORT_STATUS.LOST 0) = true ∧ x.on (NET.PORT_STATUS.LOST 1) = true
        then (x.setCause 4 true).stopAll 4 (x.stopCategory 4) else x) := by
  have hall : (st.lastAccepted blue).all
      (fun t => decide (t + 10 ^ 6 * (st.lane k).rd NET.YW_TMO.SAFE_TMO ≤ (st.lane k).boundaryNs)) = true := by
    cases hlast : st.lastAccepted blue with
    | none => rfl
    | some t => exact decide_eq_true (hlate t hlast)
  unfold State.netLost
  dsimp only
  rw [hall, if_neg (by simp [hm, hen, hfirst]), ← apply_ite (st.setLane k)]
  simp only [Bool.and_eq_true]
  rfl

/-! ## The fleet stop (R313) -/

theorem exec_fleetStopApply (st : State) (l : LaneId) : exec (.fleetStopApply l) st = .next (st.setLane l (st.lane l).fleetApply) := rfl

theorem exec_fleetStopExpire (st : State) (l : LaneId) : exec (.fleetStopExpire l) st = .next (st.setLane l (st.lane l).fleetExpire) := rfl

section
variable {x : LaneSt} {f : FleetStop} (hfleet : x.net.fleet = some f)
include hfleet

theorem LaneSt.fleetApply_due (hnew : f.applied = false) (hm : x.isMember = true) (hdue : f.td + 100000 ≤ x.boundaryNs) :
    x.fleetApply =
      let y := x.setNet (fun n => { n with fleet := some { f with applied := true } })
      if y.on VOTE.STATUS.STOPPING = true ∧ y.vote.stopCat ≤ f.cat then y else (y.setCause 9 true).stopAll 9 f.cat := by
  have hacts : ¬(f.applied = true ∨ (!x.isMember) = true ∨ x.boundaryNs < f.td + 100000) := by
    simp only [hnew, hm, Bool.not_true, Bool.false_eq_true, false_or]
    omega
  unfold LaneSt.fleetApply
  simp only [hfleet]
  exact if_neg hacts

theorem LaneSt.fleetExpire_past (happlied : f.applied = true) (hpast : f.notAfter < x.ns) : x.fleetExpire =
    ((x.setNet (fun n => { n with fleet := none })).wr NET.FLEET_STATUS.ACTIVE 0).setCause 9 false := by
  have hacts : ¬((!f.applied) = true ∨ x.ns ≤ f.notAfter) := by
    simp only [happlied, Bool.not_true, Bool.false_eq_true, false_or]
    omega
  unfold LaneSt.fleetExpire
  simp only [hfleet]
  exact if_neg hacts

end

/-- Settles O45: each frame, record and event has its equation for the case that its conditions hold. That answers go out on every
open port, what counts as late and as lost, and that a stop is tightened by a lower category is log entry 32. -/
theorem yuwilEventsComplete : Obligations.YuwilEventsComplete := by
  unfold Obligations.YuwilEventsComplete
  refine ⟨?_, ?_, ?_, ?_, ?_, ?_, ?_, ?_⟩
  · intro st l blue b q x hin r y owe z fails
    refine ⟨fun htype => ?_, fun htype => ?_⟩
    · rw [exec_ywPoll hin htype]
      rfl
    · rw [exec_ywFleetFrame hin htype]
  · intro st l blue b q x hin
    refine ⟨fun hform htype => ?_, fun hform htype hlead huntil hlast => ?_⟩
    · rw [exec_ywKeyConfirm, State.keyConfirm_taken hin hform htype]
    · rw [exec_ywKeyInit, LaneSt.keyInit_examined hin hform htype hlead huntil hlast]
  · intro st l q c cs hcopies hpassed
    rw [exec_ywSkewExpired, State.skewExpired_oldest hcopies hpassed]
  · intro st l q a rest k pay nosync howed hkeys hdue x hbuffer
    rw [exec_ywAnswerSend, LaneSt.answerSend_due howed hkeys hdue hbuffer]
  · intro st l src q single w keys sid r hacc x bytes
    exact ⟨exec_ywRxReceive hacc q single w, exec_ywKeyReceive hacc q sid keys, exec_fleetCopyReceive hacc r⟩
  · intro st l seq cmd td hpoll hm hdue x y cat
    refine ⟨fun hcmd => ?_, fun hcmd hwas => ?_, fun hcmd hwas => ?_⟩
    · rw [exec_ywCommandApply, LaneSt.commandApply_permits hpoll hm hdue hcmd]
    · rw [exec_ywCommandApply, LaneSt.commandApply_withdraws hpoll hm hdue hcmd hwas]
    · rw [exec_ywCommandApply, LaneSt.commandApply_withheld hpoll hm hdue hcmd hwas]
  · intro st l blue hm hen hlate hfirst x
    rw [exec_netLost, State.netLost_silent hm hen hlate hfirst]
    rfl
  · intro st l f hfleet
    refine ⟨fun hnew hm hdue => ?_, fun happlied hpast => ?_⟩
    · rw [exec_fleetStopApply, LaneSt.fleetApply_due hfleet hnew hm hdue]
    · rw [exec_fleetStopExpire, LaneSt.fleetExpire_past hfleet happlied hpast]

end Sys2Proof.Machine

/-!
SUPPORT. What the events of the safety inputs and outputs do where their conditions hold.
-/

namespace Sys2Proof.Machine

open Sys2Proof

/-! ## Inputs and test pulses (R323 to R326) -/

theorem exec_siLevelChange (s : State) (l : LaneId) (i : Fin 20) (lvl : Bool) (held : Nat) :
    exec (.siLevelChange l i ⟨lvl, held⟩) s = .next (s.setLane l ((s.lane l).siChange i.val lvl held)) := rfl

section
variable {x : LaneSt} {i : Nat} {lvl : Bool} {held : Nat}

/-- Input `i` stamped with the first sample of a level that has been held (R326). -/
def LaneSt.siStamped (x : LaneSt) (i held : Nat) : LaneSt :=
  let t := x.ns - x.ns % 10 - held * 10
  ((x.wr (SIO.SI_STAMP.NS i) (stampNs x.t32 t)).wr (SIO.SI_STAMP.S i) (stampS x.t32 t)).wrB (SIO.SI_STAMP.T32 i) x.t32

/-- The filtered level of input `i` taken, its sample in the mailbox, and its fall noted where `fell` (R325). -/
def LaneSt.siFiltered (x : LaneSt) (i : Nat) (lvl fell : Bool) : LaneSt :=
  (x.mailSi i Mailbox.put).setSio (fun q => { q with
    filt := setBit q.filt i lvl, fell := if fell then setBit q.fell i true else q.fell })

/-- The evaluated level of input `i` taken from its mailbox, and the functions evaluated. -/
def LaneSt.siShown (x : LaneSt) (i : Nat) : LaneSt := ((x.mailSi i Mailbox.take).siTake i).evalSafety

/-- Input `i` is fed by the source whose window runs, a source of this lane. -/
def LaneSt.inOwnWindow (x : LaneSt) (i : Nat) : Bool :=
  match x.sio.win with
  | some (k, t) => k = x.id && x.fedBy i t
  | none => false

section
variable (hsample : x.sampling = true) (hnew : bit x.sio.filt i = !lvl)
  (hheld : 1000 * (x.rd (SIO.SI_CFG.FILT i) + (if lvl then 0 else x.rd (SIO.SI_CFG.OSSD_FILT i))) ≤ held)
include hsample hnew hheld

/-- A level held long enough is stamped and filtered; in its own source's window it waits. -/
theorem LaneSt.siChange_held : x.siChange i lvl held =
    let y := x.siStamped i held
    let tested : Bool := y.sio.win.isSome && !y.inOwnWindow i && y.rd (SIO.SI_CFG.TP i) != 0
    let z := y.siFiltered i lvl (tested && !lvl)
    if y.inOwnWindow i then z else z.siShown i := by
  have hacts : ¬((!x.sampling) = true ∨ bit x.sio.filt i = lvl ∨
      held < 1000 * (x.rd (SIO.SI_CFG.FILT i) + (if lvl then 0 else x.rd (SIO.SI_CFG.OSSD_FILT i)))) := by
    rintro (hno | hold | hshort)
    · simp [hsample] at hno
    · rw [hnew] at hold
      exact absurd hold (Bool.not_ne_self lvl)
    · exact absurd hheld (Nat.not_le.mpr hshort)
  unfold LaneSt.siChange
  rw [if_neg hacts]
  rfl

theorem LaneSt.siChange_noWindow (hwin : x.sio.win = none) :
    x.siChange i lvl held = ((x.siStamped i held).siFiltered i lvl false).siShown i := by
  have hwin' : (x.siStamped i held).sio.win = none := hwin
  rw [LaneSt.siChange_held hsample hnew hheld]
  simp only [LaneSt.inOwnWindow, hwin', Option.isSome_none, Bool.false_and, Bool.false_eq_true, if_false]

section
variable {k : LaneId} {u : Nat} (hwin : x.sio.win = some (k, u))
include hwin

theorem LaneSt.siChange_ownWindow (hmine : k = (x.siStamped i held).id ∧ (x.siStamped i held).fedBy i u = true) :
    x.siChange i lvl held = (x.siStamped i held).siFiltered i lvl false := by
  have hwin' : (x.siStamped i held).sio.win = some (k, u) := hwin
  rw [LaneSt.siChange_held hsample hnew hheld]
  simp [LaneSt.inOwnWindow, hwin', hmine]

theorem LaneSt.siChange_otherWindow (hother : ¬(k = (x.siStamped i held).id ∧ (x.siStamped i held).fedBy i u = true)) :
    x.siChange i lvl held =
      ((x.siStamped i held).siFiltered i lvl ((x.siStamped i held).rd (SIO.SI_CFG.TP i) != 0 && !lvl)).siShown i := by
  have hwin' : (x.siStamped i held).sio.win = some (k, u) := hwin
  have hout : (x.siStamped i held).inOwnWindow i = false := by
    simpa [LaneSt.inOwnWindow, hwin'] using hother
  rw [LaneSt.siChange_held hsample hnew hheld]
  simp only [hout, hwin', Option.isSome_some, Bool.not_false, Bool.and_self, Bool.true_and, Bool.false_eq_true, if_false]

end

end

end

section
variable {s : State} {l : LaneId} {t : Fin 4}

theorem exec_tpWindowStart_first (hen : (s.lane l).on SIO.CTRL.EN = true) (hsource : bit ((s.lane l).rd SIO.TP_CFG.EN) t.val = true)
    (hfirst : (s.lane l).tpFirst t.val = true) :
    exec (.tpWindowStart l t) s = .next (LaneId.all.foldl (fun r j =>
      r.setLane j ((r.lane j).setSio (fun y => { y with win := some (l, t.val), winHalf := false, fell := 0 })))
      (s.setLane l ((s.lane l).wr SIO.TP_STATUS.ACTIVE (setBit ((s.lane l).rd SIO.TP_STATUS.ACTIVE) t.val true)))) :=
  congrArg Host.Outcome.next (if_neg (by simp [hen, hsource, hfirst]))

theorem exec_tpWindowEnd_past (hfirst : (s.lane l).tpFirst t.val = false) (hsecond : (s.lane l).tpSecond t.val = false) :
    exec (.tpWindowEnd l t) s = .next (LaneId.all.foldl (fun r j => r.setLane j ((r.lane j).tpEnd l t.val)) s) :=
  congrArg Host.Outcome.next (if_neg (by simp [hfirst, hsecond]))

theorem exec_tpWindowMidpoint (s : State) (l : LaneId) (t : Fin 4) :
    exec (.tpWindowMidpoint l t) s = .next (s.setLane l ((s.lane l).tpMid t.val)) := rfl

theorem exec_tpFault (s : State) (l : LaneId) (t : Fin 4) : exec (.tpFault l t) s = .next (s.setLane l ((s.lane l).tpFault t.val)) := rfl

end

section
variable {x : LaneSt} {t : Nat}

theorem LaneSt.tpMid_second (hwin : x.sio.win = some (x.id, t)) (hsecond : x.tpSecond t = true) : x.tpMid t =
    ((List.range 20).foldl (fun y i => if y.fedBy i t && bit y.sio.filt i then y.crossShort i else y)
      (x.setSio (fun q => { q with winHalf := true }))).evalSafety :=
  if_neg (by simp [hwin, hsecond])

theorem LaneSt.tpFault_supplying (hon : x.tpOn t = true) (hfirst : bit (x.rd SIO.TP_STATUS.FAULT) t = false) : x.tpFault t =
    let y := x.wr SIO.TP_STATUS.FAULT (setBit (x.rd SIO.TP_STATUS.FAULT) t true)
    let z := (List.range 20).foldl (fun z i => if z.fedBy i t then z.siFail i 7 else z) y
    ((z.raise 4 6).fault 0x1A4 t).evalSafety :=
  if_neg (by simp [hon, hfirst])

end

/-! ## Exchange, discrepancy, SYNC and permits (R327, R328, R330, R331) -/

theorem exec_safetyXchgReceive {s : State} {l : LaneId} {src : Arrival} (hacc : (s.lane l).accepts src = true) (w : List Dword) :
    exec (.safetyXchgReceive l src w) s = .next (s.setLane l (((s.lane l).heard src 1).xchgReceive src.lane w)) :=
  congrArg (fun y => Host.Outcome.next (s.setLane l y)) (if_pos hacc)

theorem exec_safetyInputsLost_peer {s : State} {l p : LaneId} (hp : p ≠ l) :
    exec (.safetyInputsLost l p) s = .next (s.setLane l ((s.lane l).inputsLost p)) :=
  congrArg (fun y => Host.Outcome.next (s.setLane l y)) (if_neg hp)

theorem exec_discrepancy (s : State) (l : LaneId) (f : Fin 16) (pair : Fin 2) :
    exec (.discrepancy l f pair) s = .next (s.setLane l ((s.lane l).discrepancy f.val pair.val)) := rfl

theorem exec_syncExceeded (s : State) (l : LaneId) (f : Fin 16) :
    exec (.syncExceeded l f) s = .next (s.setLane l ((s.lane l).syncExceeded f.val)) := rfl

theorem exec_sfPermitGrant (s : State) (l : LaneId) (f : Fin 16) :
    exec (.sfPermitGrant l f) s = .next (s.setLane l ((s.lane l).permit f.val)) := rfl

section
variable {x : LaneSt} {f : Nat}

theorem LaneSt.discrepancy_ownChannel {pair m : Nat} (hon : x.sf f ≠ 0) (hused : bit (x.sfUsed f) (2 * pair) = true)
    (hdiffer : bit (x.sfActive f) (2 * pair) ≠ bit (x.sfActive f) (2 * pair + 1))
    (hown : [2 * pair, 2 * pair + 1].find? (fun m => (x.sfIn f m).1 = x.id.num) = some m)
    (hfirst : bit (x.rd SIO.SI_FAULT.FAULT) (x.sfIn f m).2 = false) :
    x.discrepancy f pair =
      (((x.siFail (x.sfIn f m).2 6).raise 4 5).fault 0x1A3 (x.sfIn f m).2).evalSafety := by
  have hacts : ¬(x.sf f = sfOff ∨ (!bit (x.sfUsed f) (2 * pair)) = true ∨
      bit (x.sfActive f) (2 * pair) = bit (x.sfActive f) (2 * pair + 1)) := by
    rintro (hoff | hunused | hsame)
    · exact hon hoff
    · simp [hused] at hunused
    · exact hdiffer hsame
  unfold LaneSt.discrepancy
  dsimp only
  rw [if_neg hacts, hown]
  exact if_neg (by simp [hfirst])

theorem LaneSt.syncExceeded_hands (htype : x.sfType f = 3) (hready : x.sf f = 2)
    (hhands : (bit (x.sfActive f) 0 && bit (x.sfActive f) 1) ≠ (bit (x.sfActive f) 2 && bit (x.sfActive f) 3)) :
    x.syncExceeded f =
      (((x.sfToDemand f 4 (if bit (x.sfActive f) 0 && bit (x.sfActive f) 1 then 2 else 0)).fault 0x1A9 f).xchgChanged) := by
  refine if_neg ?_
  rintro (hother | hnot | hsame)
  · exact hother htype
  · exact hnot hready
  · exact hhands hsame

theorem LaneSt.permit_asked (hm : x.isMember = true) (hready : x.sf f = 2) (hrestart : x.on (SIO.SF_STATUS.RESTART_REFUSED f) = false)
    (hagreed : x.sfAgreed f = true) (hasked : x.sfAsked f = true) : x.permit f =
      let y := x.setSf f 3
      let z := (y.sio.grant.getD f []).foldl (fun z d => z.complete d 0 0 0) y
      (z.setSio (fun q => { q with grant := q.grant.setIfInBounds f [] })).xchgChanged :=
  if_neg (by simp [hm, hready, hrestart, hagreed, hasked, sfReady])

end

/-! ## Outputs (R338, R340, R341, R471) -/

section
variable {s : State} {l : LaneId} {k : Fin 8}

theorem exec_soTestStart (s : State) (l : LaneId) (k : Fin 8) :
    exec (.soTestStart l k) s = .next (s.setLane l ((s.lane l).soTest k.val)) := rfl

theorem exec_soTestRetry (hretry : bit (s.lane l).sio.retry k.val = true) :
    exec (.soTestRetry l k) s = .next (s.setLane l ((s.lane l).soTest k.val)) :=
  congrArg (fun y => Host.Outcome.next (s.setLane l y)) (if_pos hretry)

theorem exec_soTestEnd (s : State) (l : LaneId) (k : Fin 8) (ok : Bool) :
    exec (.soTestEnd l k ok) s = .next (s.setLane l ((s.lane l).soTestEnd k.val ok)) := rfl

theorem exec_edmConfirm (hen : (s.lane l).on SIO.CTRL.EN = true) :
    exec (.edmConfirm l k) s = .next (s.setLane l ((s.lane l).edmConfirm k.val)) :=
  congrArg (fun y => Host.Outcome.next (s.setLane l y)) (if_pos hen)

theorem exec_edmFault (s : State) (l : LaneId) (k : Fin 8) :
    exec (.edmFault l k) s = .next (s.setLane l ((s.lane l).edmFault k.val)) := rfl

theorem exec_soOverload (hon : bit ((s.lane l).rd SIO.SO_STATUS.ON) k.val = true) :
    exec (.soOverload l k) s = .next (s.setLane l ((s.lane l).soLatch k.val 0x1A5)) :=
  congrArg (fun y => Host.Outcome.next (s.setLane l y)) (if_pos hon)

end

section
variable {x : LaneSt} {k : Nat}

theorem LaneSt.soTest_testable (htest : x.soTestable k = true) : x.soTest k =
    x.setSio (fun q => { q with test := some (k, bit (x.rd SIO.SO_STATUS.ON) k), retry := setBit q.retry k false }) :=
  if_neg (by simp [htest])

/-- The test that ran on output `k` is over, and a dark test goes to the other switch next time. -/
def LaneSt.testEnded (x : LaneSt) (k : Nat) (dark : Bool) : LaneSt :=
  x.setSio (fun q => { q with test := none, testSw := if dark then setBit q.testSw k (!bit q.testSw k) else q.testSw })

theorem LaneSt.soTestEnd_running {dark : Bool} (htest : x.sio.test = some (k, dark)) (ok : Bool) :
    x.soTestEnd k ok = if ok then x.testEnded k dark else (x.testEnded k dark).soLatch k 0x1A5 := by
  unfold LaneSt.soTestEnd
  simp only [htest]
  exact if_neg (not_not.mpr rfl)

/-- EDM of output `k` shown away from the level expected, its fault and its source raised, its shutdown over (R340). -/
def LaneSt.edmShown (x : LaneSt) (k : Nat) : LaneSt :=
  let y := x.wr SIO.SO_STATUS.EDM (setBit (x.rd SIO.SO_STATUS.EDM) k (!x.edmExpected k))
  let z := (y.wr SIO.SO_STATUS.EDM_FAULT (setBit (y.rd SIO.SO_STATUS.EDM_FAULT) k true)).raise 4 4
  z.setSio (fun q => { q with conf := setBit q.conf k false, shut := setBit q.shut k false })

theorem LaneSt.edmFault_monitored (hen : x.on SIO.CTRL.EN = true) (hrole : x.rd (SIO.SO_CFG.ROLE k) ≠ 0)
    (hedm : x.on (SIO.SO_CFG.EDM_EN k) = true) : x.edmFault k = (x.edmShown k).soLatch k 0x1A6 :=
  if_neg (by simp [hen, hrole, hedm])

end

/-- Settles O46: each event has its equation for the case that its conditions hold. -/
theorem safetyEventsComplete : Obligations.SafetyEventsComplete := by
  unfold Obligations.SafetyEventsComplete
  refine ⟨?_, ?_, ?_, ?_, ?_, ?_, ?_, ?_, ?_, ?_⟩
  · intro s l i lvl held hsample hnew x hheld t y z shown
    refine ⟨fun hwin => ?_, fun k u hwin hk hfed => ?_, fun k u hwin hother => ?_⟩
    · rw [exec_siLevelChange, LaneSt.siChange_noWindow hsample hnew hheld hwin]
      rfl
    · rw [exec_siLevelChange, LaneSt.siChange_ownWindow hsample hnew hheld hwin ⟨hk, hfed⟩]
      rfl
    · rw [exec_siLevelChange, LaneSt.siChange_otherWindow hsample hnew hheld hwin hother]
      rfl
  · intro s l t hen hsource x
    refine ⟨fun hfirst => exec_tpWindowStart_first hen hsource hfirst, fun hon hfirst => ?_⟩
    rw [exec_tpFault, LaneSt.tpFault_supplying hon hfirst]
  · intro s l t hwin hsecond
    rw [exec_tpWindowMidpoint, LaneSt.tpMid_second hwin hsecond]
  · intro s l t hfirst hsecond
    exact exec_tpWindowEnd_past hfirst hsecond
  · intro s l src w hacc
    exact exec_safetyXchgReceive hacc w
  · intro s l p hp
    exact exec_safetyInputsLost_peer hp
  · intro s l f pair m hon hused hdiffer hown i hfirst
    rw [exec_discrepancy, LaneSt.discrepancy_ownChannel hon hused hdiffer hown hfirst]
  · intro s l f htype hready a hhands
    rw [exec_syncExceeded, LaneSt.syncExceeded_hands htype hready hhands]
  · intro s l f hm hready hrestart hagreed hasked x y
    rw [exec_sfPermitGrant, LaneSt.permit_asked hm hready hrestart hagreed hasked]
  · intro s l k ok x test
    refine ⟨fun htest => ⟨?_, fun hretry => ?_⟩, fun dark hrun => ?_, exec_edmConfirm, fun hen hrole hedm => ?_, exec_soOverload⟩
    · rw [exec_soTestStart, LaneSt.soTest_testable htest]
    · rw [exec_soTestRetry hretry, LaneSt.soTest_testable htest]
    · rw [exec_soTestEnd, LaneSt.soTestEnd_running hrun]
      rfl
    · rw [exec_edmFault, LaneSt.edmFault_monitored hen hrole hedm]
      rfl

end Sys2Proof.Machine

/-!
SUPPORT. What the events of the interrupt controller do: the delivery engine, held messages, bank writes and the mirrors of
the other lanes.
-/

namespace Sys2Proof.Machine

open Sys2Proof

/-! ## Delivery (R354, R355, R360) -/

theorem exec_irqEntry (s : State) (l : LaneId) (split : Bool) :
    exec (.irqEntry l split) s = .next (s.setLane l ((s.lane l).irqEntry split)) := rfl

theorem LaneSt.group_setGroup (x : LaneSt) {g : Nat} (hg : g < 32) (f : IrqGroup → IrqGroup) :
    (x.setGroup g f).group g = f (x.group g) := by
  simp [LaneSt.group, LaneSt.setGroup, Vector.getD, hg]

theorem LaneSt.group_out_of_range (x : LaneSt) {g : Nat} (hg : 32 ≤ g) : x.group g = .reset := by
  simp [LaneSt.group, Vector.getD, Nat.not_lt.mpr hg]

theorem LaneSt.group_send (x : LaneSt) (t h : Nat) (w : List Nat) (g : Nat) : (x.send t h w).group g = x.group g := by
  simp [LaneSt.group]

/-- A snapshot has issued nothing of the entry's record yet. -/
theorem LaneSt.snapshot_issued (x : LaneSt) (g : Nat) : ((x.snapshot g).group g).issued = false := by
  unfold LaneSt.snapshot
  rw [LaneSt.group_send]
  by_cases hg : g < 32
  · rw [LaneSt.group_setGroup _ hg]
  · rw [LaneSt.group_out_of_range _ (by omega)]
    rfl

section
variable {x : LaneSt}

/-- An entry of group `g` that starts: its snapshot alone, or the whole of it (R355). -/
theorem LaneSt.entryStart_stages (x : LaneSt) (g : Nat) (split : Bool) :
    x.entryStart g split = if split then x.snapshot g else ((x.snapshot g).postHead g).finalUnit g := by
  unfold LaneSt.entryStart LaneSt.entryStep
  rw [x.snapshot_issued g]
  rfl

variable (hlead : x.isLead = true)
include hlead

theorem LaneSt.irqEntry_fastGoesOn {g : Nat} (h : x.inEntry 1 = some g) (split : Bool) :
    x.irqEntry split = x.entryStep g split := by
  simp [LaneSt.irqEntry, hlead, h]

theorem LaneSt.irqEntry_fastStarts {g : Nat} (h : x.inEntry 1 = none) (hg : x.nextGroup 1 = some g)
    (hn : x.inEntry 0 = none) (split : Bool) : x.irqEntry split = x.entryStart g split := by
  simp [LaneSt.irqEntry, hlead, h, hg, hn]

theorem LaneSt.irqEntry_fastPauses {g n : Nat} (h : x.inEntry 1 = none) (hg : x.nextGroup 1 = some g)
    (hn : x.inEntry 0 = some n) (split : Bool) :
    x.irqEntry split =
      ((x.setGroup n (fun v => { v with preempted := true })).satInc 14 (IRQ.EVENTS.PREEMPTED 0)).entryStart g split := by
  simp [LaneSt.irqEntry, hlead, h, hg, hn]

theorem LaneSt.irqEntry_normalGoesOn {g : Nat} (h : x.inEntry 1 = none) (hg : x.nextGroup 1 = none)
    (hn : x.inEntry 0 = some g) (split : Bool) : x.irqEntry split = x.entryStep g split := by
  simp [LaneSt.irqEntry, hlead, h, hg, hn]

theorem LaneSt.irqEntry_normalStarts {g : Nat} (h : x.inEntry 1 = none) (hn : x.nextGroup 1 = none)
    (hn0 : x.inEntry 0 = none) (hg : x.nextGroup 0 = some g) (split : Bool) : x.irqEntry split = x.entryStart g split := by
  simp [LaneSt.irqEntry, hlead, h, hn, hn0, hg]

end

theorem exec_irqLeadingEnd {s : State} {l : LaneId} {g : Fin 32} (hlead : ((s.lane l).group g.val).stage = .leading)
    (hover : ((s.lane l).group g.val).leadAt + 1000 * (s.lane l).rd (IRQ.GCFG.LEADING g.val) ≤ (s.lane l).run) :
    exec (.irqLeadingEnd l g) s = .next (s.setLane l ((s.lane l).setStage g.val .idle)) :=
  congrArg (fun y => Host.Outcome.next (s.setLane l y)) (if_pos ⟨hlead, decide_eq_true hover⟩)

theorem exec_msixRelease (s : State) (l : LaneId) (v : Fin 64) :
    exec (.msixRelease l v) s = .next (s.setLane l ((s.lane l).msixRelease v.val)) := rfl

/-! ## Bank writes (R353, R363, R364, R357) -/

theorem exec_irqMaskWrite {s : State} {l : LaneId} (ha : (s.lane l).answers) (fast : Bool) (k : Fin 8) (v : Word) :
    exec (.irqMaskWrite l fast k v) s = .next (s.setLane l ((s.lane l).bankWrite (b2n fast) (0x20 + 4 * k.val) v)) :=
  onBar_answers (f := fun x => x.bankWrite (b2n fast) (0x20 + 4 * k.val) v) ha

theorem exec_irqCauseWrite {s : State} {l : LaneId} (ha : (s.lane l).answers) (fast : Bool) (k : Fin 8) (v : Word) :
    exec (.irqCauseWrite l fast k v) s = .next (s.setLane l ((s.lane l).bankWrite (b2n fast) (0x40 + 4 * k.val) v)) :=
  onBar_answers (f := fun x => x.bankWrite (b2n fast) (0x40 + 4 * k.val) v) ha

theorem exec_irqRaisedClear {s : State} {l : LaneId} (ha : (s.lane l).answers) (fast : Bool) (k : Fin 8) (v : Word) :
    exec (.irqRaisedClear l fast k v) s = .next (s.setLane l ((s.lane l).bankWrite (b2n fast) (0x60 + 4 * k.val) v)) :=
  onBar_answers (f := fun x => x.bankWrite (b2n fast) (0x60 + 4 * k.val) v) ha

theorem exec_irqSwset {s : State} {l : LaneId} (ha : (s.lane l).answers) (fast : Bool) (k : Fin 8) (v : Word) :
    exec (.irqSwset l fast k v) s = .next (s.setLane l ((s.lane l).bankWrite (b2n fast) (0xA0 + 4 * k.val) v)) :=
  onBar_answers (f := fun x => x.bankWrite (b2n fast) (0xA0 + 4 * k.val) v) ha

theorem exec_irqAckWrite {s : State} {l : LaneId} (ha : (s.lane l).answers) (fast : Bool) (v : Word) :
    exec (.irqAckWrite l fast v) s = .next (s.setLane l ((s.lane l).bankWrite (b2n fast) 0xC0 v)) :=
  onBar_answers (f := fun x => x.bankWrite (b2n fast) 0xC0 v) ha

theorem exec_irqWriteRefusedClear {s : State} {l : LaneId} (ha : (s.lane l).answers) (fast : Bool) (v : Word) :
    exec (.irqWriteRefusedClear l fast v) s = .next (s.setLane l ((s.lane l).refusedClear (b2n fast) v)) :=
  onBar_answers (f := fun x => x.refusedClear (b2n fast) v) ha

/-- The bank offsets of the registers written at run time: MASK, CAUSE and RAISED, SWSET and ACK (R353). -/
def bankRuntime (off : Nat) : Prop := 0x20 ≤ off ∧ off < 0x80 ∨ 0xA0 ≤ off ∧ off ≤ 0xC0

theorem bankRuntime_mask (k : Fin 8) : bankRuntime (0x20 + 4 * k.val) := by unfold bankRuntime; omega

theorem bankRuntime_cause (k : Fin 8) : bankRuntime (0x40 + 4 * k.val) := by unfold bankRuntime; omega

theorem bankRuntime_raised (k : Fin 8) : bankRuntime (0x60 + 4 * k.val) := by unfold bankRuntime; omega

theorem bankRuntime_swset (k : Fin 8) : bankRuntime (0xA0 + 4 * k.val) := by unfold bankRuntime; omega

theorem bankRuntime_ack : bankRuntime 0xC0 := by unfold bankRuntime; omega

section
variable {x : LaneSt} {off : Nat} (hoff : bankRuntime off)
include hoff

theorem LaneSt.bankWrite_runtime (x : LaneSt) (b : Nat) (v : Word) :
    x.bankWrite b off v = if x.isLead then (x.bankApply b off v.toNat).send 0x18 0 [off + 2 ^ 11 * b + 2 ^ 32 * v.toNat]
      else x.wr (IRQ.STATUS.WRITE_REFUSED b) 1 := by
  unfold bankRuntime at hoff
  unfold LaneSt.bankWrite
  rw [if_neg (by omega), if_neg (by simp; omega)]
  cases x.isLead <;> rfl

theorem LaneSt.bankWrite_lead (hlead : x.isLead = true) (b : Nat) (v : Word) :
    x.bankWrite b off v = (x.bankApply b off v.toNat).send 0x18 0 [off + 2 ^ 11 * b + 2 ^ 32 * v.toNat] := by
  rw [LaneSt.bankWrite_runtime hoff, if_pos hlead]

theorem LaneSt.bankWrite_refused (hlead : x.isLead = false) (b : Nat) (v : Word) :
    x.bankWrite b off v = x.wr (IRQ.STATUS.WRITE_REFUSED b) 1 := by
  rw [LaneSt.bankWrite_runtime hoff, if_neg (by simp [hlead])]

end

section
variable (x : LaneSt) (b v : Nat)

theorem LaneSt.bankApply_mask (k : Fin 8) : x.bankApply b (0x20 + 4 * k.val) v = (x.maskApply b k.val v).releaseExits := by
  unfold LaneSt.bankApply LaneSt.bankWord
  rw [if_pos (by omega), show (0x20 + 4 * k.val - 0x20) / 4 = k.val by omega]

theorem LaneSt.bankApply_cause (k : Fin 8) : x.bankApply b (0x40 + 4 * k.val) v = (x.causeApply b k.val v).releaseExits := by
  unfold LaneSt.bankApply LaneSt.bankWord
  rw [if_neg (by omega), if_pos (by omega), show (0x40 + 4 * k.val - 0x40) / 4 = k.val by omega]

theorem LaneSt.bankApply_raised (k : Fin 8) : x.bankApply b (0x60 + 4 * k.val) v = (x.raisedApply b k.val v).releaseExits := by
  unfold LaneSt.bankApply LaneSt.bankWord
  rw [if_neg (by omega), if_neg (by omega), if_pos (by omega), show (0x60 + 4 * k.val - 0x60) / 4 = k.val by omega]

theorem LaneSt.bankApply_swset (k : Fin 8) : x.bankApply b (0xA0 + 4 * k.val) v = (x.swsetApply b k.val v).releaseExits := by
  unfold LaneSt.bankApply LaneSt.bankWord
  rw [if_neg (by omega), if_neg (by omega), if_neg (by omega), if_pos (by omega),
    show (0xA0 + 4 * k.val - 0xA0) / 4 = k.val by omega]

theorem LaneSt.bankApply_ack : x.bankApply b 0xC0 v = (x.ackApply b v).releaseExits := by
  unfold LaneSt.bankApply LaneSt.bankWord
  rw [if_neg (by omega), if_neg (by omega), if_neg (by omega), if_neg (by omega), if_pos rfl]

end

section
variable {s : State} {l : LaneId} {fast : Bool} {v : Word}

/-- In a lane that is not the lead every bank write is discarded with WRITE_REFUSED (R353). -/
theorem exec_bankWrite_refused (ha : (s.lane l).answers) (hlead : (s.lane l).isLead = false) (k : Fin 8) :
    ∀ c ∈ [Instr.irqMaskWrite l fast k v, .irqCauseWrite l fast k v, .irqRaisedClear l fast k v, .irqSwset l fast k v,
        .irqAckWrite l fast v],
      exec c s = .next (s.setLane l ((s.lane l).wr (IRQ.STATUS.WRITE_REFUSED (b2n fast)) 1)) := by
  simp only [List.forall_mem_cons, List.not_mem_nil, false_implies, implies_true, and_true]
  refine ⟨?_, ?_, ?_, ?_, ?_⟩
  · rw [exec_irqMaskWrite ha, LaneSt.bankWrite_refused (bankRuntime_mask k) hlead]
  · rw [exec_irqCauseWrite ha, LaneSt.bankWrite_refused (bankRuntime_cause k) hlead]
  · rw [exec_irqRaisedClear ha, LaneSt.bankWrite_refused (bankRuntime_raised k) hlead]
  · rw [exec_irqSwset ha, LaneSt.bankWrite_refused (bankRuntime_swset k) hlead]
  · rw [exec_irqAckWrite ha, LaneSt.bankWrite_refused bankRuntime_ack hlead]

/-! ## Mirrors (R350, R353, R362) -/

variable {src : Arrival} (hacc : (s.lane l).accepts src = true)
include hacc

theorem exec_irqRaiseReceive (g : Fin 32) (srcs : Byte) (k : LaneId) :
    exec (.irqRaiseReceive l src g srcs k) s = .next (s.setLane l (((s.lane l).heard src 1).pend g.val srcs.toNat
      (if groupLane g.val then 2 ^ k.num else ((s.lane l).heard src 1).members) false)) :=
  onReceive_heard (f := fun x => x.pend g.val srcs.toNat (if groupLane g.val then 2 ^ k.num else x.members) false) hacc

theorem exec_irqDeliverReceive (g : Fin 32) (snap : Byte) (dseq : Word) :
    exec (.irqDeliverReceive l src g snap dseq) s =
      .next (s.setLane l (((s.lane l).heard src 1).mirrorEntry g.val snap.toNat dseq.toNat)) :=
  onReceive_heard (f := fun x => x.mirrorEntry g.val snap.toNat dseq.toNat) hacc

theorem exec_irqWriteReceive (off : Fin 2048) :
    exec (.irqWriteReceive l src fast off v) s =
      .next (s.setLane l (((s.lane l).heard src 1).bankApply (b2n fast) off.val v.toNat)) :=
  onReceive_heard (f := fun x => x.bankApply (b2n fast) off.val v.toNat) hacc

end

/-- Settles O49: the engine's choice of its next step by the entries in flight and the groups that are ready, and one
equation for each other event. -/
theorem interruptEventsComplete : Obligations.InterruptEventsComplete := by
  unfold Obligations.InterruptEventsComplete
  refine ⟨?_, ?_, ?_, ?_, ?_⟩
  · intro s l split hlead
    refine ⟨?_, ?_, ?_⟩
    · intro g h
      rw [exec_irqEntry, LaneSt.irqEntry_fastGoesOn hlead h]
      rfl
    · intro g h hg
      refine ⟨?_, ?_⟩
      · intro hn
        rw [exec_irqEntry, LaneSt.irqEntry_fastStarts hlead h hg hn, LaneSt.entryStart_stages]
      · intro n hn
        rw [exec_irqEntry, LaneSt.irqEntry_fastPauses hlead h hg hn, LaneSt.entryStart_stages]
    · intro h hg
      refine ⟨?_, ?_⟩
      · intro g hn
        rw [exec_irqEntry, LaneSt.irqEntry_normalGoesOn hlead h hg hn]
        rfl
      · intro g hn0 hg0
        rw [exec_irqEntry, LaneSt.irqEntry_normalStarts hlead h hg hn0 hg0, LaneSt.entryStart_stages]
  · intro s l g hlead hover
    exact exec_irqLeadingEnd hlead hover
  · intro s l v
    rw [exec_msixRelease]
    simp only [LaneSt.msixRelease, Bool.and_eq_true]
  · intro s l fast k v ha
    refine ⟨?_, ?_, ?_⟩
    · intro hlead
      refine ⟨?_, ?_, ?_, ?_, ?_⟩
      · rw [exec_irqMaskWrite ha, LaneSt.bankWrite_lead (bankRuntime_mask k) hlead, LaneSt.bankApply_mask]
      · rw [exec_irqCauseWrite ha, LaneSt.bankWrite_lead (bankRuntime_cause k) hlead, LaneSt.bankApply_cause]
      · rw [exec_irqRaisedClear ha, LaneSt.bankWrite_lead (bankRuntime_raised k) hlead, LaneSt.bankApply_raised]
      · rw [exec_irqSwset ha, LaneSt.bankWrite_lead (bankRuntime_swset k) hlead, LaneSt.bankApply_swset]
      · rw [exec_irqAckWrite ha, LaneSt.bankWrite_lead bankRuntime_ack hlead, LaneSt.bankApply_ack]
    · intro hlead
      exact exec_bankWrite_refused ha hlead k
    · intro hbit
      rw [exec_irqWriteRefusedClear ha, LaneSt.refusedClear, if_pos hbit]
  · intro s l src g srcs snap k dseq v fast hacc
    refine ⟨exec_irqRaiseReceive hacc g srcs k, exec_irqDeliverReceive hacc g snap dseq, ?_, ?_⟩
    · intro j
      refine ⟨?_, ?_, ?_, ?_⟩
      · rw [exec_irqWriteReceive hacc, LaneSt.bankApply_mask]
      · rw [exec_irqWriteReceive hacc, LaneSt.bankApply_cause]
      · rw [exec_irqWriteReceive hacc, LaneSt.bankApply_raised]
      · rw [exec_irqWriteReceive hacc, LaneSt.bankApply_swset]
    · rw [exec_irqWriteReceive hacc]
      exact congrArg (fun y => Host.Outcome.next (s.setLane l y)) (LaneSt.bankApply_ack _ _ _)

end Sys2Proof.Machine

/-!
SUPPORT. The bank words of the interrupt controller: what a bank write sets and what a snapshot takes, byte by byte, and what
the delivery state writes beside them.
-/

namespace Sys2Proof.Machine

open Sys2Proof

/-! ## Bits -/

theorem ldiff_add_and (a b : Nat) : a.ldiff b + (a &&& b) = a := by
  induction a using Nat.binaryRec generalizing b with
  | zero => simp [Nat.ldiff]
  | bit x a ih =>
    cases b using Nat.binaryRec with
    | zero => simp [Nat.ldiff]
    | bit y b =>
      have hrest := ih b
      rw [Nat.ldiff_bit, Nat.land_bit]
      cases x <;> cases y <;> simp [Nat.bit_val] <;> omega

/-- Taking the common bits away clears them and no other. -/
theorem bit_sub_and (a b i : Nat) : bit (a - (a &&& b)) i = (bit a i && !bit b i) := by
  rw [bit, Nat.sub_eq_of_eq_add (ldiff_add_and a b).symm, Nat.testBit_ldiff]
  rfl

theorem bit_unmasked {m i : Nat} (hm : m < 2 ^ 8) (hi : i < 8) : bit (0xFF - m) i = !bit m i := by
  rw [bit, show 0xFF - m = 2 ^ 8 - (m + 1) by omega, Nat.testBit_two_pow_sub_succ hm]
  simp [hi, bit]

/-- The bits of a byte that a mask byte leaves. -/
theorem bit_and_unmasked (a : Nat) {m i : Nat} (hm : m < 2 ^ 8) (hi : i < 8) : bit (a &&& (0xFF - m)) i = (bit a i && !bit m i) := by
  rw [bit, Nat.testBit_and, ← bit, ← bit, bit_unmasked hm hi]

theorem bit_setBit_same (n i : Nat) : bit (setBit n i true) i = true := by
  simp [bit, setBit, Nat.testBit_or, Nat.testBit_two_pow_self]

theorem getField_lt (lo width w : Nat) : getField lo width w < 2 ^ width := Nat.mod_lt _ (Nat.two_pow_pos width)

theorem LaneSt.rd_lt (x : LaneSt) {f : Field} (h : f.width ≠ 64) : x.rd f < 2 ^ f.width := by
  rw [LaneSt.rd, if_neg h]
  exact getField_lt ..

/-! ## Registers of one lane in two states -/

section
variable {x y : LaneSt}

theorem LaneSt.word_congr (hid : y.id = x.id) (hregs : y.regs = x.regs) (o : Nat) : y.word o = x.word o := by
  rw [LaneSt.word, hid, hregs, LaneSt.word]

theorem LaneSt.rd_of_word {f : Field} (hw : f.width ≠ 64) (h : y.word f.off = x.word f.off) : y.rd f = x.rd f := by
  rw [LaneSt.rd, if_neg hw, h, LaneSt.rd, if_neg hw]

theorem LaneSt.regsWf_congr (hid : y.id = x.id) (hregs : y.regs = x.regs) (h : x.regsWf) : y.regsWf := by
  rw [LaneSt.regsWf, hid, hregs]
  exact h

theorem LaneSt.bank_of_word (h : y.word 0x4404 = x.word 0x4404) (g : Nat) : y.bank g = x.bank g := by
  rw [LaneSt.bank, LaneSt.rd_of_word (f := IRQ.CLASS.FAST) (by decide) h, LaneSt.bank]

end

theorem LaneSt.bank_lt_two (x : LaneSt) (g : Nat) : x.bank g < 2 := by
  unfold LaneSt.bank
  split <;> decide

/-! ## What the delivery state writes (R354, R365) -/

/-- The words of IN_SERVICE and LEADING in either bank. -/
def StageWord (o : Nat) : Prop := o = 0x40C4 ∨ o = 0x40C8 ∨ o = 0x48C4 ∨ o = 0x48C8

/-- The words of SNAP, IN_SERVICE and LEADING in either bank. -/
def DeliveryWord (o : Nat) : Prop := StageWord o ∨ 0x4080 ≤ o ∧ o < 0x40A0 ∨ 0x4880 ≤ o ∧ o < 0x48A0

theorem stageWord_inService {b : Nat} (hb : b < 2) : StageWord (IRQ.IN_SERVICE.GROUPS b).off := by
  simp only [StageWord, IRQ.IN_SERVICE.GROUPS]
  omega

theorem stageWord_leading {b : Nat} (hb : b < 2) : StageWord (IRQ.LEADING.GROUPS b).off := by
  simp only [StageWord, IRQ.LEADING.GROUPS]
  omega

theorem deliveryWord_snap {b g : Nat} (hb : b < 2) (hg : g < 32) : DeliveryWord (irqSnapF b g).off := by
  simp only [DeliveryWord, irqSnapF, groupByte]
  omega

theorem LaneSt.setStage_word {o : Nat} (ho : ¬StageWord o) (x : LaneSt) (g : Nat) (st : IrqStage) :
    (x.setStage g st).word o = x.word o := by
  have hin : o ≠ (IRQ.IN_SERVICE.GROUPS (x.bank g)).off := fun h => ho (h ▸ stageWord_inService (x.bank_lt_two g))
  have hlead : o ≠ (IRQ.LEADING.GROUPS (x.bank g)).off := fun h => ho (h ▸ stageWord_leading (x.bank_lt_two g))
  unfold LaneSt.setStage
  dsimp only
  exact (LaneSt.word_wr_ne _ hlead (by simp [IRQ.LEADING.GROUPS]) _).trans
    (LaneSt.word_wr_ne (x.setGroup g _) hin (by simp [IRQ.IN_SERVICE.GROUPS]) _)

section
variable {o : Nat} (ho : ¬DeliveryWord o)
include ho

theorem LaneSt.irqLead_word (x : LaneSt) {g : Nat} (hg : g < 32) : (x.irqLead g).word o = x.word o := by
  have hsnap : o ≠ (irqSnapF (x.bank g) g).off := fun h => ho (h ▸ deliveryWord_snap (x.bank_lt_two g) hg)
  unfold LaneSt.irqLead
  dsimp only
  rw [LaneSt.setStage_word (fun h => ho (.inl h))]
  exact LaneSt.word_wr_ne x hsnap (by simp [irqSnapF, groupByte]) 0

/-- The exits that go on write the delivery words alone. -/
theorem LaneSt.releaseExits_word (x : LaneSt) : x.releaseExits.word o = x.word o := by
  unfold LaneSt.releaseExits
  split
  · rfl
  · refine foldl_mem_keep (LaneSt.word · o) (fun y g hg => ?_) x
    split
    · exact LaneSt.irqLead_word ho y (List.mem_range.mp hg)
    · rfl

end

/-- A record to the peers writes no register. -/
theorem LaneSt.word_send (x : LaneSt) (t h : Nat) (w : List Nat) (o : Nat) : (x.send t h w).word o = x.word o :=
  LaneSt.word_congr (by simp) (by simp) o

/-! ## A bank word written byte by byte (R363) -/

/-- `y` is `x` after the bytes of the first `n` groups of word `k` of bank `b` at `base` have been written: where the group is
of the bank's class and not reserved, `new` of the old byte, and nothing else. -/
structure BytesWritten (base b k : Nat) (new : Nat → Nat → Nat) (n : Nat) (x y : LaneSt) : Prop where
  id : y.id = x.id
  wf : y.regsWf
  word : ∀ o, o ≠ base + 0x800 * b + 4 * k → y.word o = x.word o
  byte : ∀ j, j < 4 → y.rd (groupByte base b (4 * k + j)) =
    if j < n ∧ x.bank (4 * k + j) = b ∧ groupReserved (4 * k + j) = false
    then new (x.rd (groupByte base b (4 * k + j))) j % 2 ^ 8 else x.rd (groupByte base b (4 * k + j))

section
variable {base b k : Nat} {new : Nat → Nat → Nat}

theorem groupByte_word {base b k j : Nat} (hj : j < 4) : groupByte base b (4 * k + j) = ⟨base + 0x800 * b + 4 * k, 8 * j, 8⟩ := by
  simp only [groupByte, Field.mk.injEq, and_true]
  omega

theorem bytesWritten_none {x : LaneSt} (hx : x.regsWf) : BytesWritten base b k new 0 x x :=
  ⟨rfl, hx, fun _ _ => rfl, fun j _ => by simp⟩

variable {n : Nat} {x y z : LaneSt}

/-- A step of a bank write: a group of another class or a reserved one is passed over, another's byte is written. -/
theorem BytesWritten.next (hclass : base + 0x800 * b + 4 * k ≠ 0x4404) (h : BytesWritten base b k new n x y) (hn : n < 4)
    (hskip : y.bank (4 * k + n) ≠ b ∨ groupReserved (4 * k + n) = true → z = y)
    (hwrite : y.bank (4 * k + n) = b → groupReserved (4 * k + n) = false → z.id = y.id ∧
      z.regs = (y.wr (groupByte base b (4 * k + n)) (new (y.rd (groupByte base b (4 * k + n))) n)).regs) :
    BytesWritten base b k new (n + 1) x z := by
  have hbank : ∀ g, y.bank g = x.bank g := LaneSt.bank_of_word (h.word _ hclass.symm)
  by_cases hmine : y.bank (4 * k + n) = b ∧ groupReserved (4 * k + n) = false
  · obtain ⟨hid, hregs⟩ := hwrite hmine.1 hmine.2
    rw [groupByte_word hn] at hregs
    have hzid : z.id = (y.wr ⟨base + 0x800 * b + 4 * k, 8 * n, 8⟩
        (new (y.rd ⟨base + 0x800 * b + 4 * k, 8 * n, 8⟩) n)).id := by simp [hid]
    refine ⟨hid.trans h.id, LaneSt.regsWf_congr hzid hregs (LaneSt.regsWf_wr h.wf _ _), ?_, ?_⟩
    · intro o ho
      rw [LaneSt.word_congr hzid hregs, LaneSt.word_wr_ne _ ho (by simp), h.word o ho]
    · intro j hj
      have hz : z.rd (groupByte base b (4 * k + j)) = (y.wr ⟨base + 0x800 * b + 4 * k, 8 * n, 8⟩
          (new (y.rd ⟨base + 0x800 * b + 4 * k, 8 * n, 8⟩) n)).rd (groupByte base b (4 * k + j)) :=
        LaneSt.rd_of_word (by simp [groupByte]) (LaneSt.word_congr hzid hregs _)
      have hold := h.byte j hj
      rcases eq_or_ne j n with rfl | hne
      · rw [groupByte_word hj] at hold
        rw [hz, groupByte_word hj, LaneSt.rd_wr_same h.wf (by simp; omega), hold, ← hbank, if_neg (by simp), if_pos ⟨by omega, hmine⟩]
      · have hkeep (v : Nat) : (y.wr ⟨base + 0x800 * b + 4 * k, 8 * n, 8⟩ v).rd (groupByte base b (4 * k + j)) =
            y.rd (groupByte base b (4 * k + j)) := by
          rw [groupByte_word hj]
          refine LaneSt.rd_wr_disjoint h.wf ?_ ?_ ?_ ?_ v
          · rfl
          · show 8 * n + 8 ≤ 32
            omega
          · show 8 * j + 8 ≤ 32
            omega
          · show 8 * j + 8 ≤ 8 * n ∨ 8 * n + 8 ≤ 8 * j
            omega
        rw [hz, hkeep, hold]
        exact if_congr (by rw [show j < n ↔ j < n + 1 by omega]) rfl rfl
  · obtain rfl : z = y := hskip (by
      rcases not_and_or.mp hmine with hb | hr
      · exact .inl hb
      · exact .inr (by simpa using hr))
    refine ⟨h.id, h.wf, h.word, fun j hj => ?_⟩
    rw [h.byte j hj]
    refine if_congr ?_ rfl rfl
    rcases eq_or_ne j n with rfl | hne
    · simp only [lt_irrefl, false_and, Nat.lt_succ_self, true_and, false_iff, ← hbank]
      exact hmine
    · rw [show j < n ↔ j < n + 1 by omega]

/-- A bank write goes through the four groups of its word. -/
theorem bytesWritten_foldl {f : LaneSt → Nat → LaneSt} (hclass : base + 0x800 * b + 4 * k ≠ 0x4404)
    (hskip : ∀ y j, y.bank (4 * k + j) ≠ b ∨ groupReserved (4 * k + j) = true → f y j = y)
    (hwrite : ∀ y j, y.bank (4 * k + j) = b → groupReserved (4 * k + j) = false → (f y j).id = y.id ∧
      (f y j).regs = (y.wr (groupByte base b (4 * k + j)) (new (y.rd (groupByte base b (4 * k + j))) j)).regs)
    (hx : x.regsWf) : BytesWritten base b k new 4 x ((List.range 4).foldl f x) := by
  suffices h : ∀ n, n ≤ 4 → BytesWritten base b k new n x ((List.range n).foldl f x) from h 4 le_rfl
  intro n hn
  induction n with
  | zero => exact bytesWritten_none hx
  | succ n ih =>
    rw [List.range_succ, List.foldl_append]
    exact (ih (by omega)).next hclass hn (hskip _ n) (hwrite _ n)

end

section
variable {x : LaneSt} (hx : x.regsWf) (b : Nat) {k : Nat} (hk : k < 8) (v : Nat)
include hx hk

theorem LaneSt.maskApply_bytes : BytesWritten 0x4020 b k (fun _ j => byteOf v j) 4 x (x.maskApply b k v) := by
  refine bytesWritten_foldl (by omega) (fun y j h => if_pos h) (fun y j hb' hr => ?_) hx
  dsimp only
  rw [if_neg (by simp [hb', hr])]
  split <;> simp [irqMaskF]

theorem LaneSt.causeApply_bytes : BytesWritten 0x4040 b k (fun _ j => byteOf v j) 4 x (x.causeApply b k v) := by
  refine bytesWritten_foldl (by omega) (fun y j h => if_pos h) (fun y j hb' hr => ?_) hx
  dsimp only
  rw [if_neg (by simp [hb', hr])]
  simp [irqCauseF]

theorem LaneSt.raisedApply_bytes :
    BytesWritten 0x4060 b k (fun old j => old - (old &&& byteOf v j)) 4 x (x.raisedApply b k v) := by
  refine bytesWritten_foldl (by omega) (fun y j h => if_pos h) (fun y j hb' hr => ?_) hx
  dsimp only
  rw [if_neg (by simp [hb', hr])]
  simp [irqRaisedF]

end

/-! ## What a bank write leaves to read -/

section
variable {base b k : Nat} {new : Nat → Nat → Nat} {x y : LaneSt} (h : BytesWritten base b k new 4 x y)
  (t hdr : Nat) (w : List Nat)
include h

/-- A bank word that the write does not name reads as before, once the exits have gone on and the peers are told. -/
theorem BytesWritten.rd_other {f : Field} (hf : f.width ≠ 64) (hd : ¬DeliveryWord f.off) (ho : f.off ≠ base + 0x800 * b + 4 * k) :
    (y.releaseExits.send t hdr w).rd f = x.rd f :=
  LaneSt.rd_of_word hf (by rw [LaneSt.word_send, LaneSt.releaseExits_word hd, h.word _ ho])

variable {g : Nat} (hd : ¬DeliveryWord (groupByte base b g).off) (hg : g / 4 = k)
include hd hg

theorem BytesWritten.rd_byte : (y.releaseExits.send t hdr w).rd (groupByte base b g) =
    if x.bank g = b ∧ groupReserved g = false then new (x.rd (groupByte base b g)) (g % 4) % 2 ^ 8
    else x.rd (groupByte base b g) := by
  have hbyte := h.byte (g % 4) (Nat.mod_lt _ (by decide))
  rw [show 4 * k + g % 4 = g by omega] at hbyte
  rw [LaneSt.rd_of_word (x := y) (by simp [groupByte]) (by rw [LaneSt.word_send, LaneSt.releaseExits_word hd]), hbyte]
  exact if_congr (by simp [Nat.mod_lt]) rfl rfl

end

/-- The pending state of a group stands in no delivery word. -/
theorem not_deliveryWord_pending {base b g : Nat} (hbase : base = 0x4020 ∨ base = 0x4040 ∨ base = 0x4060)
    (hg : g < 32) : ¬DeliveryWord (groupByte base b g).off := by
  simp only [DeliveryWord, StageWord, groupByte]
  omega

/-- What is said of a register of pending state: group `g` of bank `b` reads `val` where the write is its own, and as before
elsewhere. -/
theorem BytesWritten.rd_pending {base bw k : Nat} {new : Nat → Nat → Nat} {x y : LaneSt} (h : BytesWritten base bw k new 4 x y)
    (hbase : base = 0x4020 ∨ base = 0x4040 ∨ base = 0x4060) (hbw : bw < 2) (hk : k < 8) (t hdr : Nat) (w : List Nat)
    {b g : Nat} (hg : g < 32) :
    ((b = bw ∧ g / 4 = k ∧ x.bank g = b ∧ groupReserved g = false) →
      (y.releaseExits.send t hdr w).rd (groupByte base b g) = new (x.rd (groupByte base b g)) (g % 4) % 2 ^ 8) ∧
    (¬(b = bw ∧ g / 4 = k ∧ x.bank g = b ∧ groupReserved g = false) →
      (y.releaseExits.send t hdr w).rd (groupByte base b g) = x.rd (groupByte base b g)) ∧
    (∀ base', base' = 0x4020 ∨ base' = 0x4040 ∨ base' = 0x4060 → base' ≠ base →
      (y.releaseExits.send t hdr w).rd (groupByte base' b g) = x.rd (groupByte base' b g)) := by
  have hd := not_deliveryWord_pending (b := b) hbase hg
  refine ⟨?_, ?_, ?_⟩
  · rintro ⟨rfl, hgk, hmine⟩
    rw [h.rd_byte t hdr w hd hgk, if_pos hmine]
  · intro hno
    by_cases hword : b = bw ∧ g / 4 = k
    · obtain ⟨rfl, hgk⟩ := hword
      rw [h.rd_byte t hdr w hd hgk, if_neg (fun hmine => hno ⟨rfl, hgk, hmine⟩)]
    · refine h.rd_other t hdr w (by simp [groupByte]) hd ?_
      simp only [groupByte]
      omega
  · intro base' hbase' hne
    refine h.rd_other t hdr w (by simp [groupByte]) (not_deliveryWord_pending hbase' hg) ?_
    simp only [groupByte]
    omega

theorem b2n_lt_two (b : Bool) : b2n b < 2 := by cases b <;> decide

/-- Settles O50: a bank write goes through the four bytes of its word, and the exits that go on after it write the delivery
words alone. -/
theorem bankWriteSetsItsOwnBytes : Obligations.BankWriteSetsItsOwnBytes := by
  unfold Obligations.BankWriteSetsItsOwnBytes
  intro s l fast k v hc ha hlead x mine byte
  have hx : x.regsWf := regsWf_of_canon (hc l)
  have hfast := b2n_lt_two fast
  refine ⟨⟨_, by rw [exec_irqMaskWrite ha, LaneSt.bankWrite_lead (bankRuntime_mask k) hlead, LaneSt.bankApply_mask], ?_⟩,
    ⟨_, by rw [exec_irqCauseWrite ha, LaneSt.bankWrite_lead (bankRuntime_cause k) hlead, LaneSt.bankApply_cause], ?_⟩,
    ⟨_, by rw [exec_irqRaisedClear ha, LaneSt.bankWrite_lead (bankRuntime_raised k) hlead, LaneSt.bankApply_raised], ?_⟩⟩
  · intro b g _ hg
    obtain ⟨hown, hkeep, hbeside⟩ := (LaneSt.maskApply_bytes hx (b2n fast) k.isLt v.toNat).rd_pending (by decide) hfast k.isLt
      0x18 0 [0x20 + 4 * k.val + 2 ^ 11 * b2n fast + 2 ^ 32 * v.toNat] (b := b) hg
    exact ⟨fun hm => (hown hm).trans (Nat.mod_mod _ _), hkeep, hbeside 0x4040 (by decide) (by decide),
      hbeside 0x4060 (by decide) (by decide)⟩
  · intro b g _ hg
    obtain ⟨hown, hkeep, hbeside⟩ := (LaneSt.causeApply_bytes hx (b2n fast) k.isLt v.toNat).rd_pending (by decide) hfast k.isLt
      0x18 0 [0x40 + 4 * k.val + 2 ^ 11 * b2n fast + 2 ^ 32 * v.toNat] (b := b) hg
    exact ⟨fun hm => (hown hm).trans (Nat.mod_mod _ _), hkeep, hbeside 0x4020 (by decide) (by decide),
      hbeside 0x4060 (by decide) (by decide)⟩
  · intro b g _ hg
    obtain ⟨hown, hkeep, hbeside⟩ := (LaneSt.raisedApply_bytes hx (b2n fast) k.isLt v.toNat).rd_pending (by decide) hfast k.isLt
      0x18 0 [0x60 + 4 * k.val + 2 ^ 11 * b2n fast + 2 ^ 32 * v.toNat] (b := b) hg
    refine ⟨fun hm i _ => ?_, hkeep, hbeside 0x4020 (by decide) (by decide), hbeside 0x4040 (by decide) (by decide)⟩
    have hold : x.rd (groupByte 0x4060 b g) < 2 ^ 8 := x.rd_lt (by simp [groupByte])
    rw [irqRaisedF, hown hm, Nat.mod_eq_of_lt (by omega), bit_sub_and]
    rfl

/-! ## A snapshot (R354) -/

theorem LaneSt.nextGroup_some {x : LaneSt} {b g : Nat} (h : x.nextGroup b = some g) : x.bank g = b ∧ g < 32 := by
  unfold LaneSt.nextGroup at h
  have hmem := List.mem_of_find?_eq_some h
  have hsome := List.find?_some h
  simp only [Bool.and_eq_true, decide_eq_true_eq] at hsome
  obtain ⟨i, -, rfl⟩ := List.mem_map.mp hmem
  exact ⟨hsome.1, Nat.mod_lt _ (by decide)⟩

/-- The pending sources of group `g` that no mask bit holds back. -/
def LaneSt.unmasked (x : LaneSt) (g : Nat) : Nat :=
  x.rd (irqCauseF (x.bank g) g) &&& (0xFF - x.rd (irqMaskF (x.bank g) g))

/-- The lane with the unmasked pending sources of group `g` moved from CAUSE to SNAP. -/
def LaneSt.sourcesTaken (x : LaneSt) (g : Nat) : LaneSt :=
  (x.wr (irqSnapF (x.bank g) g) (x.unmasked g)).wr (irqCauseF (x.bank g) g) (x.rd (irqCauseF (x.bank g) g) - x.unmasked g)

theorem LaneSt.snapshot_id (x : LaneSt) (g : Nat) : (x.snapshot g).id = ((x.sourcesTaken g).setStage g .entry).id := by
  rw [LaneSt.snapshot, LaneSt.send_id, LaneSt.setGroup_id]
  rfl

theorem LaneSt.snapshot_regs (x : LaneSt) (g : Nat) :
    (x.snapshot g).regs = ((x.sourcesTaken g).setStage g .entry).regs := by
  rw [LaneSt.snapshot, LaneSt.send_regs, LaneSt.setGroup_regs]
  rfl

theorem LaneSt.snapshot_word {o : Nat} (ho : ¬StageWord o) (x : LaneSt) (g : Nat) :
    (x.snapshot g).word o = (x.sourcesTaken g).word o := by
  rw [LaneSt.word_congr (x.snapshot_id g) (x.snapshot_regs g), LaneSt.setStage_word ho]

theorem not_stageWord_bank {base b g : Nat} (hbase : base ∈ [0x4020, 0x4040, 0x4060, 0x4080]) (hg : g < 32) :
    ¬StageWord (groupByte base b g).off := by
  simp only [List.mem_cons, List.not_mem_nil, or_false] at hbase
  simp only [StageWord, groupByte]
  omega

/-- The byte of another group, bank or register reads as before. -/
theorem LaneSt.rd_wr_groupByte_ne {x : LaneSt} (h : x.regsWf) {base base' b b' g g' : Nat}
    (hbase : base ∈ [0x4020, 0x4040, 0x4060, 0x4080]) (hbase' : base' ∈ [0x4020, 0x4040, 0x4060, 0x4080])
    (hg : g < 32) (hg' : g' < 32) (hne : ¬(base' = base ∧ b' = b ∧ g' = g)) (v : Nat) :
    (x.wr (groupByte base b g) v).rd (groupByte base' b' g') = x.rd (groupByte base' b' g') := by
  simp only [List.mem_cons, List.not_mem_nil, or_false] at hbase hbase'
  by_cases hoff : (groupByte base' b' g').off = (groupByte base b g).off
  · refine LaneSt.rd_wr_disjoint h hoff ?_ ?_ ?_ v
    · simp only [groupByte]
      omega
    · simp only [groupByte]
      omega
    · simp only [groupByte] at hoff ⊢
      omega
  · exact LaneSt.rd_wr_ne x hoff (by simp [groupByte]) (by simp [groupByte]) v

section
variable {x : LaneSt} (hx : x.regsWf) {g : Nat} (hg : g < 32)
include hx hg

theorem LaneSt.sourcesTaken_snap : (x.sourcesTaken g).rd (irqSnapF (x.bank g) g) = x.unmasked g := by
  have hlt : x.unmasked g < 2 ^ 8 := lt_of_le_of_lt Nat.and_le_left (x.rd_lt (by simp [irqCauseF, groupByte]))
  rw [LaneSt.sourcesTaken, irqSnapF, irqCauseF,
    LaneSt.rd_wr_groupByte_ne (LaneSt.regsWf_wr hx _ _) (by decide) (by decide) hg hg (by omega),
    LaneSt.rd_wr_same hx (by simp only [groupByte]; omega)]
  exact Nat.mod_eq_of_lt hlt

omit hg in
theorem LaneSt.sourcesTaken_cause :
    (x.sourcesTaken g).rd (irqCauseF (x.bank g) g) = x.rd (irqCauseF (x.bank g) g) - x.unmasked g := by
  have hlt : x.rd (irqCauseF (x.bank g) g) < 2 ^ 8 := x.rd_lt (by simp [irqCauseF, groupByte])
  rw [LaneSt.sourcesTaken, LaneSt.rd_wr_same (LaneSt.regsWf_wr hx _ _) (by simp only [irqCauseF, groupByte]; omega)]
  exact Nat.mod_eq_of_lt (show _ < 2 ^ 8 by omega)

/-- Every other byte of the banks reads as before. -/
theorem LaneSt.sourcesTaken_other {base b g' : Nat} (hbase : base ∈ [0x4020, 0x4040, 0x4060, 0x4080]) (hg' : g' < 32)
    (hsnap : ¬(base = 0x4080 ∧ b = x.bank g ∧ g' = g)) (hcause : ¬(base = 0x4040 ∧ b = x.bank g ∧ g' = g)) :
    (x.sourcesTaken g).rd (groupByte base b g') = x.rd (groupByte base b g') := by
  rw [LaneSt.sourcesTaken, irqSnapF, irqCauseF,
    LaneSt.rd_wr_groupByte_ne (LaneSt.regsWf_wr hx _ _) (by decide) hbase hg hg' hcause,
    LaneSt.rd_wr_groupByte_ne hx (by decide) hbase hg hg' hsnap]

omit hx hg in
theorem LaneSt.rd_snapshot {base b g' : Nat} (hbase : base ∈ [0x4020, 0x4040, 0x4060, 0x4080]) (hg' : g' < 32) :
    (x.snapshot g).rd (groupByte base b g') = (x.sourcesTaken g).rd (groupByte base b g') :=
  LaneSt.rd_of_word (by simp [groupByte]) (LaneSt.snapshot_word (not_stageWord_bank hbase hg') x g)

/-- A group in ENTRY is in service (R365). -/
theorem LaneSt.setStage_inService : bit ((x.setStage g .entry).rd (IRQ.IN_SERVICE.GROUPS (x.bank g))) g = true := by
  unfold LaneSt.setStage
  dsimp only
  rw [LaneSt.rd_wr_ne _ (by simp only [IRQ.IN_SERVICE.GROUPS, IRQ.LEADING.GROUPS]; omega) (by simp [IRQ.LEADING.GROUPS])
      (by simp [IRQ.IN_SERVICE.GROUPS]),
    LaneSt.rd_wr_same (by simpa [LaneSt.regsWf] using hx) (by simp [IRQ.IN_SERVICE.GROUPS]), bit, IRQ.IN_SERVICE.GROUPS,
    Nat.testBit_mod_two_pow, decide_eq_true hg, Bool.true_and]
  exact bit_setBit_same _ g

theorem LaneSt.snapshot_inService : bit ((x.snapshot g).rd (IRQ.IN_SERVICE.GROUPS (x.bank g))) g = true := by
  have hbank : (x.sourcesTaken g).bank g = x.bank g := by
    have hclass : (x.sourcesTaken g).word 0x4404 = x.word 0x4404 := by
      have hb := x.bank_lt_two g
      rw [LaneSt.sourcesTaken, LaneSt.word_wr_ne _ (by simp only [irqCauseF, groupByte]; omega) (by simp [irqCauseF, groupByte]),
        LaneSt.word_wr_ne _ (by simp only [irqSnapF, groupByte]; omega) (by simp [irqSnapF, groupByte])]
    exact LaneSt.bank_of_word hclass g
  have hwf : (x.sourcesTaken g).regsWf := LaneSt.regsWf_wr (LaneSt.regsWf_wr hx _ _) _ _
  rw [LaneSt.rd_of_word (x := (x.sourcesTaken g).setStage g .entry) (by simp [IRQ.IN_SERVICE.GROUPS])
    (LaneSt.word_congr (x.snapshot_id g) (x.snapshot_regs g) _), ← hbank]
  exact LaneSt.setStage_inService hwf hg

end

theorem LaneSt.group_wr (x : LaneSt) (f : Field) (n g : Nat) : (x.wr f n).group g = x.group g := by
  simp [LaneSt.group]

theorem LaneSt.group_setStage (x : LaneSt) {g : Nat} (hg : g < 32) (st : IrqStage) :
    (x.setStage g st).group g = { x.group g with stage := st } := by
  unfold LaneSt.setStage
  dsimp only
  rw [LaneSt.group_wr, LaneSt.group_wr, LaneSt.group_setGroup x hg]

/-- The group of a snapshot is in ENTRY, with the next sequence number (R354, R356). -/
theorem LaneSt.snapshot_group (x : LaneSt) {g : Nat} (hg : g < 32) :
    ((x.snapshot g).group g).stage = .entry ∧ ((x.snapshot g).group g).dseq = ((x.group g).dseq + 1) % 2 ^ 32 := by
  unfold LaneSt.snapshot
  dsimp only
  rw [LaneSt.group_send, LaneSt.group_setGroup _ hg, LaneSt.group_setStage _ hg, LaneSt.group_wr, LaneSt.group_wr]
  exact ⟨rfl, rfl⟩

/-- Settles O51: the snapshot moves the unmasked bits of one byte from CAUSE to SNAP and writes its stage beside them. -/
theorem snapshotLosesNoSource : Obligations.SnapshotLosesNoSource := by
  unfold Obligations.SnapshotLosesNoSource
  intro s l g b hc hlead hb hfast hnormal hnone hnext x
  have hx : x.regsWf := regsWf_of_canon (hc l)
  obtain ⟨rfl, hg⟩ := LaneSt.nextGroup_some hnext
  have hrun : exec (.irqEntry l true) s = .next (s.setLane l (x.snapshot g)) := by
    have hcase : x.bank g = 0 ∨ x.bank g = 1 := by
      have hlt := x.bank_lt_two g
      omega
    rcases hcase with hb0 | hb1
    · rw [hb0] at hnext
      rw [exec_irqEntry, LaneSt.irqEntry_normalStarts hlead hfast (hnone hb0) hnormal hnext]
      rfl
    · rw [hb1] at hnext
      rw [exec_irqEntry, LaneSt.irqEntry_fastStarts hlead hfast hnext hnormal]
      rfl
  have hmask : x.rd (irqMaskF (x.bank g) g) < 2 ^ 8 := x.rd_lt (by simp [irqMaskF, groupByte])
  refine ⟨_, hrun, ?_, ?_, ?_, (x.snapshot_group hg).1, (x.snapshot_group hg).2, LaneSt.snapshot_inService hx hg, ?_⟩
  · intro i hi
    refine ⟨?_, ?_⟩
    · rw [irqSnapF, LaneSt.rd_snapshot (by decide) hg, ← irqSnapF, LaneSt.sourcesTaken_snap hx hg]
      exact bit_and_unmasked _ hmask hi
    · rw [irqCauseF, LaneSt.rd_snapshot (by decide) hg, ← irqCauseF, LaneSt.sourcesTaken_cause hx]
      rw [LaneSt.unmasked, bit_sub_and, bit_unmasked hmask hi, Bool.not_not]
  · rw [irqMaskF, LaneSt.rd_snapshot (by decide) hg, LaneSt.sourcesTaken_other hx hg (by decide) hg (by omega) (by omega)]
  · rw [irqRaisedF, LaneSt.rd_snapshot (by decide) hg, LaneSt.sourcesTaken_other hx hg (by decide) hg (by omega) (by omega)]
  · intro b' g' _ hg' hne
    have hsame (p : Prop) : ¬(p ∧ b' = x.bank g ∧ g' = g) := fun h => hne.elim (fun hb' => hb' h.2.1) (fun hg' => hg' h.2.2)
    have hother (base : Nat) (hbase : base ∈ [0x4020, 0x4040, 0x4060, 0x4080]) :
        (x.snapshot g).rd (groupByte base b' g') = x.rd (groupByte base b' g') := by
      rw [LaneSt.rd_snapshot hbase hg', LaneSt.sourcesTaken_other hx hg hbase hg' (hsame _) (hsame _)]
    exact ⟨hother 0x4040 (by decide), hother 0x4020 (by decide), hother 0x4060 (by decide), hother 0x4080 (by decide)⟩

end Sys2Proof.Machine

/-!
SUPPORT. What the fault records of peers, the ALIVE signal and the events of supplies, clocks and power states do where their
conditions hold.
-/

namespace Sys2Proof.Machine

open Sys2Proof

/-! ## ALIVE (R377, R378) -/

theorem exec_aliveToggle (s : State) (l : LaneId) : exec (.aliveToggle l) s = .next (s.aliveToggle l) := rfl

theorem State.aliveToggle_runs {s : State} {k : LaneId} (hreleased : (s.lane k).released = true)
    (hrun : (s.lane k).on FLT.STATUS.ALIVE_RUN = true) :
    s.aliveToggle k = (s.lane k).peers.foldl (fun t p => t.setLane p ((t.lane p).wr ((t.lane p).aliveF k) 1))
      (s.setLane k ((s.lane k).wrB FLT.STATUS.ALIVE_LEVEL (!(s.lane k).on FLT.STATUS.ALIVE_LEVEL))) :=
  if_neg (by simp [hreleased, hrun])

theorem State.aliveToggle_still {s : State} {k : LaneId}
    (h : (s.lane k).released = false ∨ (s.lane k).on FLT.STATUS.ALIVE_RUN = false) : s.aliveToggle k = s :=
  if_pos (by simpa using h)

theorem exec_aliveReadback (s : State) (l : LaneId) (level : Bool) :
    exec (.aliveReadback l level) s = .next (s.setLane l
      (if (s.lane l).released = true ∧ level ≠ (s.lane l).on FLT.STATUS.ALIVE_LEVEL then (s.lane l).fault 0x222 0 else s.lane l)) := rfl

/-- Settles O52: the fault record of a peer by its reaction, and one equation for each other event. The cause of an exclusion by
a fault record is inferred as log entry 14 says, the move to FAULTED at the boundary is log entry 57. -/
theorem faultAndAliveEventsComplete : Obligations.FaultAndAliveEventsComplete := by
  unfold Obligations.FaultAndAliveEventsComplete
  refine ⟨?_, ?_, ?_, exec_aliveReadback⟩
  · intro s l src e total w hacc x p code reaction
    refine ⟨?_, exec_fltSumReceive hacc w⟩
    rw [exec_fltEventReceive hacc]
    rfl
  · intro s l b ha
    refine ⟨fun h => ?_, fun h => ?_⟩
    · rw [exec_firstRead ha, LaneSt.firstRead_compat h]
    · rw [exec_firstRead ha, LaneSt.firstRead_noCompat h]
  · intro s l
    refine ⟨fun hreleased hrun => ?_, fun h => ?_⟩
    · rw [exec_aliveToggle, State.aliveToggle_runs hreleased hrun]
    · rw [exec_aliveToggle, State.aliveToggle_still h]

/-! ## Supplies, clocks and resets (R432, R433, R436 to R438) -/

section
variable {s : State} {l : LaneId}

theorem exec_powerOn (hoff : (s.lane l).pwr.off = true) :
    exec (.powerOn l) s = .next (s.setLane l ((s.lane l).coldReset 0)) :=
  congrArg (fun y => Host.Outcome.next (s.setLane l y)) (if_pos hoff)

theorem exec_powerOff (s : State) (l : LaneId) :
    exec (.powerOff l) s = .next (s.setLane l { (s.lane l).cleared with pwr := { PwrSt.reset with off := true } }) := rfl

section
variable (hoff : (s.lane l).pwr.off = false)
include hoff

theorem exec_brownout :
    exec (.brownout l) s = .next (s.setLane l (((s.lane l).satInc 15 PWR.COUNTS.BROWNOUTS).coldReset 1)) :=
  congrArg (fun y => Host.Outcome.next (s.setLane l y)) (if_neg (by simp [hoff]))

theorem exec_pinReset : exec (.pinReset l) s = .next (s.setLane l ((s.lane l).coldReset 2)) :=
  congrArg (fun y => Host.Outcome.next (s.setLane l y)) (if_neg (by simp [hoff]))

theorem exec_xtalFail : exec (.xtalFail l) s = .next (s.setLane l (((s.lane l).wr CLK.STATUS.XTAL_OK 0).monitor 0x204 0)) :=
  congrArg (fun y => Host.Outcome.next (s.setLane l y)) (if_neg (by simp [hoff]))

theorem exec_supWdog (hnap : (s.lane l).pwr.nap = false) :
    exec (.supWdog l) s = .next (s.setLane l ((s.lane l).satInc 15 PWR.RESET_CAUSE.SUP_WDOG)) :=
  congrArg (fun y => Host.Outcome.next (s.setLane l y)) (if_neg (by simp [hoff, hnap]))

end

theorem exec_pllUnlock (s : State) (l : LaneId) (i : Fin 8) :
    exec (.pllUnlock l i) s = .next (s.setLane l ((s.lane l).pllUnlock i.val)) := rfl

theorem exec_regFault (s : State) (l : LaneId) (r : Byte) :
    exec (.regFault l r) s = .next (s.setLane l ((s.lane l).regFault r.toNat)) := rfl

theorem exec_vinUv (s : State) (l : LaneId) : exec (.vinUv l) s = .next (s.setLane l ((s.lane l).monitor 0x1E4 0)) := rfl

theorem exec_vioUv (s : State) (l : LaneId) : exec (.vioUv l) s = .next (s.setLane l ((s.lane l).monitor 0x1E5 0)) := rfl

theorem exec_tempWarn (s : State) (l : LaneId) : exec (.tempWarn l) s = .next (s.setLane l ((s.lane l).monitor 0x1E2 0)) := rfl

theorem exec_tempTrip (s : State) (l : LaneId) : exec (.tempTrip l) s = .next (s.setLane l ((s.lane l).monitor 0x1E3 0)) := rfl

end

section
variable {x : LaneSt} (hoff : x.pwr.off = false)
include hoff

theorem LaneSt.pllUnlock_fed {island : Nat} {f : Field} {n : Nat} (h : pllOf island = some (f, n)) :
    x.pllUnlock island = (x.wr f 0).monitor 0x203 n := by
  rw [LaneSt.pllUnlock, h]
  exact if_neg (by simp [hoff])

variable (hnap : x.pwr.nap = false)
include hnap

theorem LaneSt.monitor_past_bringUp (hboot : x.rd PWR.STATUS.STATE ≠ 0) (hwake : x.rd PWR.STATUS.STATE ≠ 4) (code source : Nat) :
    x.monitor code source = x.fault code source := if_neg (by simp [hoff, hnap, hboot, hwake])

theorem LaneSt.regFault_boot {reg : Nat} (hreg : reg < 3) (hboot : x.rd PWR.STATUS.STATE = 0) :
    x.regFault reg = ((x.fault 0x1E7 reg).wr BIST.STATUS.FULL_RUNNING 0).wr BIST.LAST_FULL.RESULT 1 := by
  unfold LaneSt.regFault
  rw [if_neg (by simp [hoff, hnap]; omega), if_pos hboot]

theorem LaneSt.regFault_later {reg : Nat} (hreg : reg < 3) (hboot : x.rd PWR.STATUS.STATE ≠ 0) :
    x.regFault reg = x.fault 0x1E7 reg := by
  unfold LaneSt.regFault
  rw [if_neg (by simp [hoff, hnap]; omega), if_neg hboot]

end

/-! ## HOLD (R442) -/

theorem exec_holdEntry (s : State) (l : LaneId) : exec (.holdEntry l) s = .next (s.setLane l (s.lane l).holdEntry) := rfl

theorem exec_holdToRun (s : State) (l : LaneId) : exec (.holdToRun l) s = .next (s.setLane l (s.lane l).holdToRun) := rfl

section
variable {x : LaneSt}

theorem LaneSt.holdEntry_parked (hrun : x.rd PWR.STATUS.STATE = 1) (hm : x.isMember = true) (hen : x.on PWR.CTRL.HOLD_EN = true)
    (hpark : x.parkCondition = true) (hlong : x.pwr.parkFrom + 10 ^ 6 * x.rd PWR.CTRL.HOLD_DLY ≤ x.run) :
    x.holdEntry = (x.wr PWR.STATUS.STATE 2).standbyDies.telSave :=
  if_pos ⟨hrun, hm, hen, by rw [LaneSt.parkedLong, hpark, decide_eq_true hlong]; rfl⟩

theorem LaneSt.holdToRun_enabled {n : Nat} (hn : n < 8) (hhold : x.rd PWR.STATUS.STATE = 2) (hfrom : (x.ch n).fromHold = true) :
    x.holdToRun = (List.range 8).foldl (fun l n =>
      if (l.ch n).fromHold = true then (l.setComm n (fun c => { c with fromHold := false })).startChecks n else l)
      (x.wr PWR.STATUS.STATE 1).wakeDies := by
  refine if_neg ?_
  rintro (hrun | hnone)
  · exact hrun hhold
  · have hn' := List.all_eq_true.mp hnone n (List.mem_range.mpr hn)
    simp [hfrom] at hn'

end

/-! ## Sleep requests, NAP and wake (R443 to R447) -/

theorem exec_sleepRequest (s : State) (l : LaneId) (pin : Bool) :
    exec (.sleepRequest l pin) s = .next (s.setLane l ((s.lane l).sleepRequest pin)) := rfl

theorem exec_sleepRequestWithdrawn {s : State} {l : LaneId} (h : (s.lane l).released = true) (pin : Bool) :
    exec (.sleepRequestWithdrawn l pin) s = .next (s.setLane l ((s.lane l).sleepWithdrawn pin)) :=
  congrArg (fun y => Host.Outcome.next (s.setLane l y)) (if_pos h)

theorem exec_pwrSyncReceive {s : State} {l : LaneId} {src : Arrival} (hacc : (s.lane l).accepts src = true) (ready : Bool) :
    exec (.pwrSyncReceive l src ready) s = .next (s.setLane l
      (((s.lane l).heard src 1).setPeer src.lane (fun v => { v with napReady := ready }))) :=
  onReceive_heard (f := fun x => x.setPeer src.lane (fun v => { v with napReady := ready })) hacc

theorem exec_napEntryComplete (s : State) (l : LaneId) :
    exec (.napEntryComplete l) s = .next (s.setLane l (s.lane l).napEntered) := rfl

theorem exec_wakeSource (s : State) (l : LaneId) (src : Fin 9) :
    exec (.wakeSource l src) s = .next (s.setLane l ((s.lane l).wakeBy src.val).1) := rfl

theorem exec_peerWake {s : State} {l p : LaneId} (h : p ≠ l) :
    exec (.peerWake l p) s = .next (s.setLane l ((s.lane l).wakeBy 7).1) :=
  congrArg (fun y => Host.Outcome.next (s.setLane l y)) (if_neg h)

theorem exec_wakeComplete (s : State) (l : LaneId) (ok : Bool) :
    exec (.wakeComplete l ok) s = .next (s.setLane l ((s.lane l).wakeComplete ok)) := rfl

section
variable {x : LaneSt}

theorem LaneSt.sleepRequest_pin (hreleased : x.released = true) (hen : x.on PWR.CTRL.SLEEP_PIN = true) :
    x.sleepRequest true = ({ x with pwr := { x.pwr with pin := true } } : LaneSt).showSleep := by
  simp [LaneSt.sleepRequest, hreleased, hen]

theorem LaneSt.sleepRequest_link (hreleased : x.released = true) (hen : x.on PWR.CTRL.SLEEP_LINK = true)
    (hdown : x.on HIF.STATUS.LINK_UP = false) :
    x.sleepRequest false = ({ x with pwr := { x.pwr with link := true } } : LaneSt).showSleep := by
  simp [LaneSt.sleepRequest, hreleased, hen, hdown]

theorem LaneSt.napEntered_entering (hstate : x.rd PWR.STATUS.STATE = 3) :
    x.napEntered =
      let y := (x.telSave.satInc 15 PWR.COUNTS.NAPS).napped
      if x.pwr.wake = 0 then y else (y.satInc 15 PWR.COUNTS.LATE_WAKES).wakeStart (setBit x.pwr.wake 9 true) :=
  if_neg (by simp [hstate])

/-- The lane with a wake source shown, where it is a CAN transceiver's (R446). -/
def LaneSt.wakeShown (x : LaneSt) (src : Nat) : LaneSt :=
  if src = 1 ∨ src = 2 then x.wr (CAN.STATUS.WAKE (src - 1)) 1 else x

theorem LaneSt.wakeShown_pwr (x : LaneSt) (src : Nat) : (x.wakeShown src).pwr = x.pwr := by
  unfold LaneSt.wakeShown
  split
  · exact LaneSt.wr_pwr ..
  · rfl

/-- What is shown of a source does not change whether it is enabled. -/
theorem LaneSt.wakeShown_wakeEnabled (x : LaneSt) (src : Nat) : (x.wakeShown src).wakeEnabled src = x.wakeEnabled src := by
  unfold LaneSt.wakeShown
  split
  case isTrue hcan =>
    have hoff : PWR.WAKE_EN.off ≠ (CAN.STATUS.WAKE (src - 1)).off := by
      simp only [CAN.STATUS.WAKE, PWR.WAKE_EN.off]
      omega
    unfold LaneSt.wakeEnabled
    rw [if_neg (by omega), if_neg (by omega), if_neg (by omega), if_neg (by omega),
      LaneSt.word_wr_ne x hoff (by simp [CAN.STATUS.WAKE])]
  case isFalse => rfl

section
variable {src : Nat} (hoff : x.pwr.off = false) (hen : x.wakeEnabled src = true)
include hoff hen

/-- An enabled source of a lane that has its supply, after it has been shown (R446). -/
theorem LaneSt.wakeBy_enabled :
    x.wakeBy src =
      let y := x.wakeShown src
      if y.pwr.nap then (y.wakeStart (2 ^ src), true)
      else if y.rd PWR.STATUS.STATE = 4 then
        (y.setWord PWR.WAKE_CAUSE.off (BitVec.ofNat 32 (setBit (y.word PWR.WAKE_CAUSE.off).toNat src true)), false)
      else if y.rd PWR.STATUS.STATE = 0 then (y, false)
      else ({ y with pwr := { y.pwr with wake := setBit y.pwr.wake src true } }, false) := by
  have hshown : (if !x.pwr.off ∧ (src = 1 ∨ src = 2) then x.wr (CAN.STATUS.WAKE (src - 1)) 1 else x) = x.wakeShown src := by
    simp [hoff, LaneSt.wakeShown]
  unfold LaneSt.wakeBy
  dsimp only
  rw [hshown]
  exact if_neg (by simp [LaneSt.wakeShown_pwr, hoff, LaneSt.wakeShown_wakeEnabled, hen])

theorem LaneSt.wakeBy_nap (hnap : (x.wakeShown src).pwr.nap = true) :
    (x.wakeBy src).1 = (x.wakeShown src).wakeStart (2 ^ src) := by
  simp [LaneSt.wakeBy_enabled hoff hen, hnap]

variable (hnap : (x.wakeShown src).pwr.nap = false)
include hnap

theorem LaneSt.wakeBy_wake (hstate : (x.wakeShown src).rd PWR.STATUS.STATE = 4) :
    (x.wakeBy src).1 = (x.wakeShown src).setWord PWR.WAKE_CAUSE.off
      (BitVec.ofNat 32 (setBit ((x.wakeShown src).word PWR.WAKE_CAUSE.off).toNat src true)) := by
  simp [LaneSt.wakeBy_enabled hoff hen, hnap, hstate]

theorem LaneSt.wakeBy_kept (hwake : (x.wakeShown src).rd PWR.STATUS.STATE ≠ 4) (hboot : (x.wakeShown src).rd PWR.STATUS.STATE ≠ 0) :
    (x.wakeBy src).1 =
      { x.wakeShown src with pwr := { (x.wakeShown src).pwr with wake := setBit (x.wakeShown src).pwr.wake src true } } := by
  simp [LaneSt.wakeBy_enabled hoff hen, hnap, hwake, hboot]

end

section
variable (hstate : x.rd PWR.STATUS.STATE = 4) (hoff : x.pwr.off = false)
include hstate hoff

theorem LaneSt.wakeComplete_failed : x.wakeComplete false = (x.coldReset 4).wr PWR.STATUS.RETAIN_LOST 1 := by
  simp [LaneSt.wakeComplete, hstate, hoff]

theorem LaneSt.wakeComplete_fatal (hfatal : x.on FLT.STATUS.FATAL = true) : x.wakeComplete true = x.coldReset 4 := by
  simp [LaneSt.wakeComplete, hstate, hoff, hfatal]

variable (hfatal : x.on FLT.STATUS.FATAL = false)
include hfatal

theorem LaneSt.wakeComplete_proof (hproof : x.on PWR.CTRL.WAKE_PROOF = true) :
    x.wakeComplete true = (({ x with pwr := PwrSt.reset } : LaneSt).wr PWR.STATUS.STATE 0).proofReleased false := by
  simp [LaneSt.wakeComplete, hstate, hoff, hfatal, hproof]

theorem LaneSt.wakeComplete_released (hproof : x.on PWR.CTRL.WAKE_PROOF = false) (hfw : x.fwLoad.2 = true)
    (hcolophon : x.sec.colophonOk = true) :
    x.wakeComplete true =
      let y := (x.fwLoad.1.wr SEC.STATUS.KEYS_OK 1).restoreTelemetry
      ((y.releasePads 5700000 (decide (y.self = selfDead))).wr PWR.STATUS.WOKEN 1).wr PWR.STATUS.RETAIN_LOST 0 := by
  simp [LaneSt.wakeComplete, hstate, hoff, hfatal, hproof, hfw, hcolophon]

end

end

/-- Settles O57: each event has its equation for the case that its conditions hold. What a wake keeps before its proof and where
lane time starts at a wake are log entry 22. -/
theorem powerEventsComplete : Obligations.PowerEventsComplete := by
  unfold Obligations.PowerEventsComplete
  refine ⟨?_, ?_, ?_, ?_, ?_, ?_, ?_⟩
  · intro s l x
    refine ⟨exec_powerOn, exec_powerOff s l, fun hoff => ⟨exec_brownout hoff, exec_pinReset hoff, exec_xtalFail hoff, ?_, ?_⟩⟩
    · intro i f n hfed
      rw [exec_pllUnlock, LaneSt.pllUnlock_fed hoff hfed]
    · intro hnap
      refine ⟨exec_supWdog hoff hnap, ?_, ?_⟩
      · intro r hr
        refine ⟨fun hboot => ?_, fun hboot => ?_⟩
        · rw [exec_regFault, LaneSt.regFault_boot hoff hnap hr hboot]
        · rw [exec_regFault, LaneSt.regFault_later hoff hnap hr hboot]
      · intro hboot hwake
        have hmonitor := LaneSt.monitor_past_bringUp hoff hnap hboot hwake
        refine ⟨?_, ?_, ?_, ?_⟩
        · rw [exec_vinUv, hmonitor]
        · rw [exec_vioUv, hmonitor]
        · rw [exec_tempWarn, hmonitor]
        · rw [exec_tempTrip, hmonitor]
  · intro s l x
    refine ⟨?_, ?_, ?_⟩
    · intro hrun hm hen hpark hlong
      rw [exec_holdEntry, LaneSt.holdEntry_parked hrun hm hen hpark hlong]
    · intro n hn hhold hfrom
      rw [exec_holdToRun, LaneSt.holdToRun_enabled hn hhold hfrom]
    · intro hreleased
      refine ⟨fun hen => ?_, fun hen hdown => ?_, exec_sleepRequestWithdrawn hreleased true,
        exec_sleepRequestWithdrawn hreleased false⟩
      · rw [exec_sleepRequest, LaneSt.sleepRequest_pin hreleased hen]
      · rw [exec_sleepRequest, LaneSt.sleepRequest_link hreleased hen hdown]
  · intro s l src ready hacc
    exact exec_pwrSyncReceive hacc ready
  · intro s l level
    refine ⟨exec_aliveReadback s l level, fun hreleased hrun => ?_⟩
    rw [exec_aliveToggle, State.aliveToggle_runs hreleased hrun]
  · intro s l hstate
    rw [exec_napEntryComplete, LaneSt.napEntered_entering hstate]
  · intro s l src hoff hen x does
    have hdoes : does ((s.lane l).wakeBy src.val).1 := ⟨exec_wakeSource s l src, fun hsrc p hp => hsrc ▸ exec_peerWake hp⟩
    refine ⟨fun hnap => ?_, fun hnap hstate => ?_, fun hnap hwake hboot => ?_⟩
    · rwa [LaneSt.wakeBy_nap hoff hen hnap] at hdoes
    · rwa [LaneSt.wakeBy_wake hoff hen hnap hstate] at hdoes
    · rwa [LaneSt.wakeBy_kept hoff hen hnap hwake hboot] at hdoes
  · intro s l hstate hoff x
    refine ⟨?_, fun hfatal => ?_, fun hfatal => ⟨fun hproof => ?_, fun hproof hfw hcolophon => ?_⟩⟩
    · rw [exec_wakeComplete, LaneSt.wakeComplete_failed hstate hoff]
    · rw [exec_wakeComplete, LaneSt.wakeComplete_fatal hstate hoff hfatal]
    · rw [exec_wakeComplete, LaneSt.wakeComplete_proof hstate hoff hfatal hproof]
    · rw [exec_wakeComplete, LaneSt.wakeComplete_released hstate hoff hfatal hproof hfw hcolophon]

end Sys2Proof.Machine

/-!
SUPPORT. What the online proofs of regions and the crystal cross-check do where their conditions hold.
-/

namespace Sys2Proof.Machine

open Sys2Proof

/-! ## A proof starts (R388, R389) -/

theorem exec_onlineProofStart (s : State) (l : LaneId) (c : Fin 6) :
    exec (.onlineProofStart l c) s = .next (s.setLane l ((s.lane l).proofStart (c.val + 1))) := rfl

section
variable {x : LaneSt} {c : Nat}

/-- The lane as a start of class `c` finds it: whether the class has a provable region noted, a request whose region is gone
ended (log entry 57). -/
def LaneSt.proofPrepared (x : LaneSt) (c : Nat) : LaneSt := (x.setUnproved c (x.regions c).isEmpty).dropRequest c

/-- Region `r` of class `c` noted as the active one and shown running. -/
def LaneSt.proofShown (x : LaneSt) (c r : Nat) : LaneSt :=
  let y := x.setBist (fun b => { b with
    active := b.active.setIfInBounds (c - 1) (some r), spoiled := b.spoiled.setIfInBounds (c - 1) false,
    lastRegion := b.lastRegion.setIfInBounds (c - 1) (some r) })
  ((y.wr BIST.STATUS.ACTIVE (setBit (y.rd BIST.STATUS.ACTIVE) (c - 1) true)).wr (BIST.CLS_STATUS.INDEX c) r).wr
    (BIST.CLS_STATUS.RESULT c) 2

/-- Region `r` of class `c` out of use: a bank on its mirror, a core with its inputs moved, a port bypassed. -/
def LaneSt.regionTaken (x : LaneSt) (c r : Nat) : LaneSt :=
  if c = 2 then (x.wr BIST.STATUS.SRAM_MIRROR 1).setMem (fun m => { m with scrubSkip := setBit m.scrubSkip r true })
  else if c = 4 then
    let u := (((x.wr ADC.STATUS.PROOF_BUSY 1).wr ADC.PROOF.CORE r).wr ADC.PROOF.RESULT 2).wr (ADC.CORE_STATUS.STATE r) 1
    ({ u with adc := { u.adc with proof := some r } } : LaneSt).judgeMoves
  else if c = 5 then x.bypass r else x

variable (hfull : x.on BIST.STATUS.FULL_RUNNING = false) (hactive : x.bist.active.getD (c - 1) none = none)
  (hhold : c = 1 → x.inHold = false)
include hfull hactive hhold

theorem LaneSt.proofStart_none (hnone : (x.proofPrepared c).nextRegion c = none) : x.proofStart c = (x.proofPrepared c).showAge c := by
  rw [LaneSt.proofPrepared] at hnone ⊢
  unfold LaneSt.proofStart
  rw [if_neg (by simp [hfull, hactive]; exact hhold)]
  dsimp only
  rw [hnone]

theorem LaneSt.proofStart_region {r : Nat} (hr : (x.proofPrepared c).nextRegion c = some r) :
    x.proofStart c = (((x.proofPrepared c).proofShown c r).regionTaken c r).showAge c := by
  rw [LaneSt.proofPrepared] at hr
  unfold LaneSt.proofStart
  rw [if_neg (by simp [hfull, hactive]; exact hhold)]
  dsimp only
  rw [hr]
  dsimp only
  refine congrArg (fun y => LaneSt.showAge y c) ?_
  split
  case h_1 => rfl
  case h_2 => simp [LaneSt.regionTaken, LaneSt.proofShown, LaneSt.proofPrepared]
  case h_3 => rfl
  case h_4 h2 h4 h5 =>
    rw [LaneSt.regionTaken, if_neg h2, if_neg h4, if_neg h5]
    rfl

end

/-! ## A proof ends (R390, R391) -/

theorem exec_onlineProofEnd (s : State) (l : LaneId) (c : Fin 6) (passed : Bool) (cov : BitVec 10) (dur : BitVec 16) :
    exec (.onlineProofEnd l c passed cov dur) s =
      .next (s.setLane l ((s.lane l).proofEnd (c.val + 1) passed cov.toNat dur.toNat)) := rfl

section
variable {x : LaneSt} {c r : Nat} (hactive : x.bist.active.getD (c - 1) none = some r)
include hactive

/-- A proof that did not pass, or whose region had a fault meanwhile, has the consequence of its class. -/
theorem LaneSt.proofEnd_failed {passed : Bool} (h : (passed && !x.bist.spoiled.getD (c - 1) false) = false) (coverage duration : Nat) :
    x.proofEnd c passed coverage duration = ((x.proofClose c r 1 duration coverage).proofFailed c r).showAge c := by
  unfold LaneSt.proofEnd
  rw [hactive]
  dsimp only
  rw [h]
  rfl

/-- The pass of region `r` of class `c` noted, and the region no more the overdue one of its class. -/
def LaneSt.passNoted (x : LaneSt) (c r : Nat) : LaneSt :=
  x.setBist (fun b => { b with
    passedAt := (c, r, x.run) :: b.passedAt.filter (fun q => !(q.1 = c && q.2.1 = r)),
    overdue := if b.overdue.getD (c - 1) none = some r then b.overdue.setIfInBounds (c - 1) none else b.overdue })

theorem LaneSt.proofEnd_passed (h : x.bist.spoiled.getD (c - 1) false = false) (coverage duration : Nat) :
    x.proofEnd c true coverage duration =
      let y := (x.proofClose c r 0 duration coverage).passNoted c r
      (if (y.bist.overdue.getD (c - 1) none).isNone = true then y.wr (BIST.CLS_STATUS.OVERDUE c) 0 else y).showAge c := by
  unfold LaneSt.proofEnd
  rw [hactive]
  dsimp only
  rw [h]
  rfl

end

/-! ## Overdue proofs and reports of peers (R389, R395) -/

theorem exec_proofOverdue (s : State) (l : LaneId) (c : Fin 6) (r : Byte) :
    exec (.proofOverdue l c r) s = .next (s.setLane l ((s.lane l).proofOverdue (c.val + 1) r.toNat)) := rfl

theorem LaneSt.proofOverdue_long {x : LaneSt} {c r : Nat} (hprovable : x.provable c r = true) (hon : x.rotationOn c = true)
    (hhold : c = 1 → x.inHold = false) (hlong : x.unprovedLong c r = true) :
    x.proofOverdue c r = ((((x.setBist (fun b => { b with overdue := b.overdue.setIfInBounds (c - 1) (some r) })).wr
      (BIST.CLS_STATUS.OVERDUE c) 1).fault 0x244 c).showAge c) :=
  if_neg (by simp [hprovable, hon, hlong]; exact hhold)

theorem exec_proofXchgReceive {s : State} {l : LaneId} {src : Arrival} (hacc : (s.lane l).accepts src = true) (w : Dword)
    (rest : List Dword) :
    exec (.proofXchgReceive l src (w :: rest)) s =
      .next (s.setLane l (((s.lane l).heard src 1).proofXchg src.lane w.toNat)) :=
  onReceive_heard (f := fun x => x.proofXchg src.lane w.toNat) hacc

/-! ## The crystal cross-check (R393) -/

theorem exec_oscXcheck (s : State) (l : LaneId) (a b k : Int) :
    exec (.oscXcheck l a b k) s = .next (s.setLane l ((s.lane l).oscXcheck a b k)) := rfl

/-- The lane with the comparison of this second of lane time noted, shown and counted as background work. -/
def LaneSt.crystalsShown (x : LaneSt) (a b k : Int) : LaneSt :=
  let z : LaneSt := { x with time := { x.time with crystal := x.ns / 10 ^ 9 } }
  (((z.wrSat CLK.XTAL_PPM.PPM k).wrSat CLK.PEER_PPM.P0 a).wrSat CLK.PEER_PPM.P1 b).bgWork 5 1

/-- A measured rate is farther than 500 ppm. -/
def crystalFar (i : Int) : Bool := decide (5000 < i.natAbs)

section
variable {x : LaneSt} (hnew : x.ns / 10 ^ 9 ≠ x.time.crystal) {a b k : Int}
include hnew

theorem LaneSt.oscXcheck_new :
    x.oscXcheck a b k =
      let y := x.crystalsShown a b k
      match y.memberPeers with
      | [p] => if y.isMember && crystalFar (if p = y.id.peer0 then a else b) && crystalFar k then y.oscEvent p else y
      | [p, q] => if y.isMember && crystalFar a && crystalFar b && !crystalFar (a - b) then (y.oscEvent p).oscEvent q else y
      | _ => y := if_neg hnew

theorem LaneSt.oscXcheck_alone (hpeers : (x.crystalsShown a b k).memberPeers = []) : x.oscXcheck a b k = x.crystalsShown a b k := by
  rw [LaneSt.oscXcheck_new hnew]
  simp only [hpeers]

theorem LaneSt.oscXcheck_duplex {p : LaneId} (hpeers : (x.crystalsShown a b k).memberPeers = [p]) :
    x.oscXcheck a b k =
      let y := x.crystalsShown a b k
      if y.isMember = true ∧ crystalFar (if p = y.id.peer0 then a else b) = true ∧ crystalFar k = true then y.oscEvent p else y := by
  rw [LaneSt.oscXcheck_new hnew]
  simp only [hpeers, Bool.and_eq_true, and_assoc]

theorem LaneSt.oscXcheck_triple {p q : LaneId} (hpeers : (x.crystalsShown a b k).memberPeers = [p, q]) :
    x.oscXcheck a b k =
      let y := x.crystalsShown a b k
      if y.isMember = true ∧ crystalFar a = true ∧ crystalFar b = true ∧ crystalFar (a - b) = false
      then (y.oscEvent p).oscEvent q else y := by
  rw [LaneSt.oscXcheck_new hnew]
  simp only [hpeers, Bool.and_eq_true, Bool.not_eq_true', and_assoc]

end

/-- Settles O54: a proof's start by the region that is next, its end by its outcome, and one equation for each other event. The
end of a request whose region is gone is log entry 57. -/
theorem proofEventsComplete : Obligations.ProofEventsComplete := by
  unfold Obligations.ProofEventsComplete
  refine ⟨?_, ?_, ?_, ?_, ?_⟩
  · intro s l c hfull hactive hhold cls x
    have hhold' : c.val + 1 = 1 → (s.lane l).inHold = false := fun h => hhold (by omega)
    refine ⟨fun hnone => ?_, fun r hr => ?_⟩
    · rw [exec_onlineProofStart, LaneSt.proofStart_none (c := c.val + 1) hfull hactive hhold' hnone]
      rfl
    · rw [exec_onlineProofStart, LaneSt.proofStart_region (c := c.val + 1) hfull hactive hhold' hr]
      rfl
  · intro s l c cov dur r hactive cls spoiled
    refine ⟨fun passed h => ?_, fun h => ?_⟩
    · rw [exec_onlineProofEnd, LaneSt.proofEnd_failed hactive h]
    · rw [exec_onlineProofEnd, LaneSt.proofEnd_passed hactive h]
      rfl
  · intro s l c r hprovable hon hhold hlong
    rw [exec_proofOverdue, LaneSt.proofOverdue_long hprovable hon (fun h => hhold (by omega)) hlong]
    rfl
  · intro s l src w rest hacc
    exact exec_proofXchgReceive hacc w rest
  · intro s l a b k hnew
    refine ⟨fun p q hpeers => ?_, fun p hpeers => ?_, fun hpeers => ?_⟩
    · rw [exec_oscXcheck, LaneSt.oscXcheck_triple hnew hpeers]
      rfl
    · rw [exec_oscXcheck, LaneSt.oscXcheck_duplex hnew hpeers]
      rfl
    · rw [exec_oscXcheck, LaneSt.oscXcheck_alone hnew hpeers]
      rfl

end Sys2Proof.Machine

/-!
SUPPORT. What a fault leaves alone, whatever its reaction: a property of a lane that rests on registers outside the fault
ladder's reach, on lane time, on the networks or on the NVM stands through every step of the ladder.
-/

namespace Sys2Proof.Machine

open Sys2Proof

/-! ## Words beside a written field -/

/-- A field write leaves the words outside the field's register, one word or a pair, as they are. -/
theorem LaneSt.word_wr_other (x : LaneSt) {f : Field} {o : Nat} (ho : o ≠ f.off) (hpair : f.width = 64 → o ≠ f.off + 4) (n : Nat) :
    (x.wr f n).word o = x.word o := by
  unfold LaneSt.wr
  split
  case isTrue hw => rw [LaneSt.word_setWord_ne _ (hpair hw), LaneSt.word_setWord_ne _ ho]
  case isFalse => exact LaneSt.word_setWord_ne _ ho _

/-! ## Sheltered properties -/

/-- The words of the fault histories: TOTAL of each block, and the queues of entries (R367). -/
def HistoryWord (o : Nat) : Prop := (∃ b, b < 24 ∧ o = 0x51C0 + 16 * b) ∨ 0x5400 ≤ o ∧ o < 0x6000

/-- A word outside TIME.RATE, SO_STATUS and the fault histories. -/
structure PlainWord (o : Nat) : Prop where
  rate : o ≠ 0x9044
  output : o ≠ 0x28018
  history : ¬HistoryWord o

/-- A field of plain words. -/
structure Field.Plain (f : Field) : Prop where
  low : PlainWord f.off
  high : f.width = 64 → PlainWord (f.off + 4)

/-- A property of a lane that rests on its identity, registers, lane time, networks and NVM, and that neither a write of a plain
field nor a safety output turned off ends. -/
structure Sheltered (I : LaneSt → Prop) : Prop where
  stores : ∀ {x y : LaneSt}, I x → y.id = x.id → y.regs = x.regs → y.time = x.time → y.net = x.net → y.mem = x.mem → I y
  wr : ∀ {x : LaneSt} {f : Field}, f.Plain → I x → ∀ n, I (x.wr f n)
  soOff : ∀ {x : LaneSt}, I x → ∀ k, I (x.soOff k)

/-- A field write leaves the words that are not plain. -/
theorem LaneSt.word_wr_plain (x : LaneSt) {f : Field} (hf : f.Plain) {o : Nat} (ho : ¬PlainWord o) (n : Nat) :
    (x.wr f n).word o = x.word o :=
  x.word_wr_other (fun heq => ho (by rw [heq]; exact hf.low)) (fun hw heq => ho (by rw [heq]; exact hf.high hw)) n

theorem plain_single {f : Field} (hw : f.width ≠ 64) (h : PlainWord f.off) : f.Plain := ⟨h, fun hpair => absurd hpair hw⟩

theorem plain_above {f : Field} (hw : f.width ≠ 64) (hlow : 0x9048 ≤ f.off) (hne : f.off ≠ 0x28018) : f.Plain :=
  plain_single hw ⟨by omega, hne, by unfold HistoryWord; omega⟩

/-- A field, one word or a pair, above TIME.RATE and below SO_STATUS. -/
theorem plain_inner {f : Field} (hlow : 0x9048 ≤ f.off) (hhigh : f.off < 0x28014) : f.Plain :=
  ⟨⟨by omega, by omega, by unfold HistoryWord; omega⟩, fun _ => ⟨by omega, by omega, by unfold HistoryWord; omega⟩⟩

theorem plain_below {f : Field} (hw : f.width ≠ 64) (hhigh : f.off < 0x51C0) : f.Plain :=
  plain_single hw ⟨by omega, by omega, by unfold HistoryWord; omega⟩

/-- A field in the words between the fault histories and TIME.RATE. -/
theorem plain_between {f : Field} (hw : f.width ≠ 64) (hlow : 0x6000 ≤ f.off) (hhigh : f.off < 0x9044) : f.Plain :=
  plain_single hw ⟨by omega, by omega, by unfold HistoryWord; omega⟩

theorem plain_saturated (b : Nat) (hb : b < 24) : (FLT.SATURATED.COUNT b).Plain := by
  refine plain_single (by simp [FLT.SATURATED.COUNT]) ⟨?_, ?_, ?_⟩ <;> simp only [FLT.SATURATED.COUNT, HistoryWord] <;> omega

/-- What each step of a fold over the first `m` numbers keeps, the fold keeps. -/
theorem foldl_range_holds {I : LaneSt → Prop} {m : Nat} {f : LaneSt → Nat → LaneSt} (h : ∀ y i, i < m → I y → I (f y i)) {x : LaneSt}
    (hx : I x) : I ((List.range m).foldl f x) :=
  List.foldlRecOn (motive := I) _ f hx (fun y hy i hi => h y i (List.mem_range.mp hi) hy)

theorem ite_holds {I : LaneSt → Prop} {c : Prop} [Decidable c] {x y : LaneSt} (hx : I x) (hy : I y) : I (if c then x else y) := by
  split
  · exact hx
  · exact hy

section
variable {I : LaneSt → Prop} (hI : Sheltered I) {x : LaneSt}
include hI

/-! ## Registers and records -/

theorem Sheltered.inc {f : Field} (hf : f.Plain) (h : I x) : I (x.inc f) := hI.wr hf h _

theorem Sheltered.satInc {b : Nat} {f : Field} (hb : b < 24) (hf : f.Plain) (h : I x) : I (x.satInc b f) :=
  ite_holds (hI.inc (plain_saturated b hb) h) (hI.inc hf h)

theorem Sheltered.send (t hdr : Nat) (ws : List Nat) (h : I x) : I (x.send t hdr ws) :=
  hI.stores h (by simp) (by simp) (by simp) (by simp) (by simp)

theorem Sheltered.setBlk (k : LaneId) (f : LaneBlk → LaneBlk) (h : I x) : I (x.setBlk k f) := hI.stores h rfl rfl rfl rfl rfl

theorem Sheltered.pend (g srcs lanes : Nat) (soft : Bool) (h : I x) : I (x.pend g srcs lanes soft) := by
  unfold LaneSt.pend
  split
  · exact h
  case isFalse hfree =>
    have hg : g < 32 := group_lt_of_not_reserved (by simpa using hfree)
    have hbank := x.bank_lt_two g
    have hbyte (base : Nat) (hbase : base < 0x4100) : (groupByte base (x.bank g) g).Plain :=
      plain_below (by simp [groupByte]) (by simp only [groupByte]; omega)
    have hcause := hI.wr (hbyte 0x4040 (by decide)) h (x.rd (irqCauseF (x.bank g) g) ||| srcs)
    exact hI.stores (hI.wr (hbyte 0x4060 (by decide)) hcause _) rfl rfl rfl rfl rfl

theorem Sheltered.raise (g s : Nat) (h : I x) : I (x.raise g s) := by
  unfold LaneSt.raise
  split
  · exact h
  · exact ite_holds (hI.send _ _ _ (hI.pend _ _ _ _ h)) (hI.pend _ _ _ _ h)

/-! ## Switches, legs and windings -/

omit hI in
theorem plain_gsF {i : Nat} (hi : i < 52) : (gsF i).Plain := by
  unfold gsF
  split
  · exact plain_above (by simp [GATE.STATUS.GS_H]) (by simp only [GATE.STATUS.GS_H]; omega) (by simp only [GATE.STATUS.GS_H]; omega)
  · exact plain_above (by simp [GATE.STATUS.GS_L]) (by simp only [GATE.STATUS.GS_L]; omega) (by simp only [GATE.STATUS.GS_L]; omega)

theorem Sheltered.swOff {i : Nat} (hi : i < 52) (soft : Bool) (h : I x) : I (x.swOff i soft) := by
  have hwait : I (x.setWait i false) := hI.stores h rfl rfl rfl rfl rfl
  unfold LaneSt.swOff
  exact ite_holds (hI.stores (hI.wr (plain_gsF hi) hwait 0) rfl rfl rfl rfl rfl) (hI.stores hwait rfl rfl rfl rfl rfl)

theorem Sheltered.swOn {i : Nat} (hi : i < 52) (h : I x) : I (x.swOn i) := by
  have hwait (b : Bool) : I (x.setWait i b) := hI.stores h rfl rfl rfl rfl rfl
  unfold LaneSt.swOn
  exact ite_holds (hwait false) (ite_holds (hI.stores (hI.wr (plain_gsF hi) (hwait false) 1) rfl rfl rfl rfl rfl) (hwait true))

theorem Sheltered.driveLeg {m : Nat} (hm : m < 26) (high low : Bool) (h : I x) : I (x.driveLeg m high low) := by
  have hhigh : 2 * m < 52 := by omega
  have hlow : 2 * m + 1 < 52 := by omega
  have hoff := ite_holds (c := high = true) h (hI.swOff hhigh false h)
  have hboth := ite_holds (c := low = true) hoff (hI.swOff hlow false hoff)
  have hon := ite_holds (c := high = true) (hI.swOn hhigh hboth) hboth
  exact ite_holds (hI.swOn hlow hon) hon

theorem Sheltered.setLeg {m : Nat} (hm : m < 26) (st : Nat) (h : I x) : I (x.setLeg m st) := by
  have hstate : (GATE.STATUS.STATE m).Plain :=
    plain_above (by simp [GATE.STATUS.STATE]) (by simp only [GATE.STATUS.STATE]; omega) (by simp only [GATE.STATUS.STATE]; omega)
  exact ite_holds (hI.wr hstate h st) (hI.driveLeg hm _ _ (hI.wr hstate h st))

theorem Sheltered.setBridge {n : Nat} (hn : n < 8) (st : Nat) (h : I x) : I (x.setBridge n st) :=
  hI.setLeg (by omega) st (hI.setLeg (by omega) st (hI.setLeg (by omega) st h))

theorem Sheltered.setWstate {n : Nat} (hn : n < 8) (w : Nat) (h : I x) : I (x.setWstate n w) := by
  have hfield : (COMM.STATUS.WSTATE n).Plain :=
    plain_above (by simp [COMM.STATUS.WSTATE]) (by simp only [COMM.STATUS.WSTATE]; omega) (by simp only [COMM.STATUS.WSTATE]; omega)
  exact ite_holds h (hI.raise _ _ (hI.wr hfield h w))

/-- The bridge forced into a state, as WSTATE shows it. -/
theorem Sheltered.forced {n : Nat} (hn : n < 8) (st w : Nat) (h : I x) : I (((x.dropDue n).setBridge n st).setWstate n w) :=
  hI.setWstate hn w (hI.setBridge hn st (hI.stores h rfl rfl rfl rfl rfl))

theorem Sheltered.windingOff {n : Nat} (hn : n < 8) (h : I x) : I (x.windingOff n) := hI.forced hn 0 0 h

theorem Sheltered.shortOn {n : Nat} (hn : n < 8) (side : Nat) (h : I x) : I (x.shortOn n side) := by
  have hoff := hI.windingOff hn h
  exact ite_holds (hI.stores hoff rfl rfl rfl rfl rfl) (ite_holds (hI.forced hn 2 2 h) (ite_holds (hI.forced hn 3 3 h) hoff))

theorem Sheltered.windingSafe {n : Nat} (hn : n < 8) (h : I x) : I (x.windingSafe n) :=
  ite_holds h (ite_holds (hI.windingOff hn h) (hI.shortOn hn _ h))

theorem Sheltered.allSafe (h : I x) : I x.allSafe := foldl_range_holds (fun _ _ hn hy => hI.windingSafe hn hy) h

theorem Sheltered.auxOff (h : I x) : I x.auxOff :=
  foldl_range_holds (fun _ _ hm hy => ite_holds (hI.setLeg (by omega) 0 hy) hy) h

theorem Sheltered.outputsOff (h : I x) : I x.outputsOff := foldl_range_holds (I := I) (m := 8) (f := LaneSt.soOff) (fun _ k _ hy => hI.soOff hy k) h

theorem Sheltered.dieSafe {die : Nat} (hdie : die < 2) (h : I x) : I (x.dieSafe die) := by
  have hbridges : I ((List.range 4).foldl (fun l i =>
      let n := 4 * die + i
      if l.gate.dieUse.getD (3 * n) 0 = 1 then
        l.shortOn n (if l.bridgeSide n = 0 then 1 + (l.gateCh n).dieAsc else l.bridgeSide n)
      else l) x) := foldl_range_holds (fun _ _ _ hy => ite_holds (hI.shortOn (by omega) _ hy) hy) h
  have hlegs {y : LaneSt} (hy : I y) : I ((List.range 12).foldl (fun l i =>
      let m := 12 * die + i
      if l.gate.dieUse.getD m 0 = 2 ∧ l.rd (GATE.STATUS.STATE m) ≠ 5 then l.setLeg m 0 else l) y) :=
    foldl_range_holds (fun _ _ _ hz => ite_holds (hI.setLeg (by omega) 0 hz) hz) hy
  exact hI.wr (plain_above (by decide) (by decide) (by decide)) (ite_holds (hI.setLeg (by omega) 0 (hlegs hbridges)) (hlegs hbridges)) _

/-! ## Exclusion (R102, R104, R106) -/

theorem Sheltered.setMembers (m : Nat) (h : I x) : I (x.setMembers m) := by
  have hmembers : I (x.wr VOTE.STATUS.MEMBERS m) := hI.wr (plain_above (by decide) (by decide) (by decide)) h m
  exact ite_holds hmembers (hI.wr (plain_above (by decide) (by decide) (by decide)) hmembers _)

theorem Sheltered.abortProofs (h : I x) : I x.abortProofs := by
  have hclass {y : LaneSt} {c : Nat} (hc : c < 6) (hy : I y) :
      I (((y.wr (BIST.CLS_STATUS.RESULT (c + 1)) 3).satInc 18 BIST.COUNTS.ABORTED).raise 14 0) := by
    have hresult : (BIST.CLS_STATUS.RESULT (c + 1)).Plain :=
      plain_between (by simp [BIST.CLS_STATUS.RESULT]) (by simp only [BIST.CLS_STATUS.RESULT]; omega)
        (by simp only [BIST.CLS_STATUS.RESULT]; omega)
    have haborted : BIST.COUNTS.ABORTED.Plain := plain_between (by decide) (by decide) (by decide)
    exact hI.raise 14 0 (hI.satInc (by decide) haborted (hI.wr hresult hy 3))
  unfold LaneSt.abortProofs
  extract_lets y1 y2
  have h1 : I y1 := foldl_range_holds (I := I) (fun _ _ hc hy => ite_holds (hclass hc hy) hy) h
  have hshown {f : Field} (hf : f.off = 0x6004) (hw : f.width ≠ 64) {y : LaneSt} (hy : I y) (n : Nat) : I (y.wr f n) :=
    hI.wr (plain_between hw (by omega) (by omega)) hy n
  have h2 : I y2 := hshown rfl (by decide) (hshown (f := BIST.STATUS.ACTIVE) rfl (by decide) h1 0) 0
  clear_value y2
  exact hI.stores h2 rfl rfl rfl rfl rfl

theorem Sheltered.laneSafe (fatal : Bool) (h : I x) : I (x.laneSafe fatal) := by
  have hsafe : I (if x.inSafe then x else x.allSafe.auxOff.outputsOff) := ite_holds h (hI.outputsOff (hI.auxOff (hI.allSafe h)))
  have halive := hI.wr (f := FLT.STATUS.ALIVE_RUN) (plain_below (by decide) (by decide)) hsafe 0
  have hforce := hI.wr (f := GATE.DIE_STATUS.FORCE) (plain_above (by decide) (by decide) (by decide)) halive 3
  unfold LaneSt.laneSafe
  exact ite_holds (hI.dieSafe (by decide) (hI.dieSafe (by decide) hforce)) halive

theorem Sheltered.exclude (cause : Nat) (h : I x) : I (x.exclude cause) := by
  unfold LaneSt.exclude
  split
  · exact h
  · have hvote {f : Field} (hf : f.off = 0xC020) (hw : f.width ≠ 64) {y : LaneSt} (hy : I y) (n : Nat) : I (y.wr f n) :=
      hI.wr (plain_above hw (by omega) (by omega)) hy n
    extract_lets shadow dead y1 y2 y3 y4
    have h1 : I y1 := hvote (f := VOTE.STATUS.SELF) rfl (by decide) h _
    have h2 : I y2 := hvote (f := VOTE.STATUS.CAUSE) rfl (by decide) (hI.setMembers _ h1) _
    have h3 : I y3 := hI.laneSafe _ (hI.setBlk _ _ h2)
    have h4 : I y4 := hI.wr (plain_below (by decide) (by decide)) (hI.abortProofs h3) 0
    clear_value y4
    exact hI.stores h4 rfl rfl rfl rfl rfl

/-! ## Reactions (R370 to R374) -/

theorem Sheltered.faultTakes (n : Nat) (h : I x) : I (x.faultTakes n) := by
  unfold LaneSt.faultTakes
  dsimp only
  split
  · exact h
  · have hcomplete : ∀ (y : LaneSt) (d : Decided) (k : Nat), I y → I (y.complete d stAborted (outcomeDetail 5 k) 0) :=
      fun _ _ _ hy => hI.stores hy rfl rfl rfl rfl rfl
    refine hI.stores (List.foldlRecOn (motive := I) _ (fun l d => l.complete d stAborted
      (outcomeDetail 5 ((x.comm.getD n CommCh.reset).enables.length - 1)) 0) h (fun y hy d _ => hcomplete y d _ hy)) rfl rfl rfl rfl rfl

theorem Sheltered.channelSafe (mask code source : Nat) (h : I x) : I (x.channelSafe mask code source) := by
  have hsafe : I ((List.range 8).foldl (fun l n => if bit mask n then l.windingSafe n else l) x) :=
    foldl_range_holds (fun _ _ hn hy => ite_holds (hI.windingSafe hn hy) hy) h
  have htakes {y : LaneSt} (hy : I y) : I ((List.range 8).foldl (fun l n => if bit mask n then l.faultTakes n else l) y) :=
    foldl_range_holds (fun _ n _ hz => ite_holds (hI.faultTakes n hz) hz) hy
  have hcounted := hI.satInc (b := 17) (f := FLT.COUNTS.REACT_SAFE) (by decide) (plain_below (by decide) (by decide))
    (ite_holds (c := ((List.range 8).foldl (fun l n => if bit mask n then l.windingSafe n else l) x).isMember = true) (htakes hsafe) hsafe)
  exact hI.stores hcounted rfl rfl rfl rfl rfl

theorem Sheltered.exclReqReaction (code : Nat) (h : I x) : I (x.exclReqReaction code) :=
  hI.exclude _ (hI.stores (hI.satInc (b := 17) (f := FLT.COUNTS.REACT_EXCL) (by decide) (plain_below (by decide) (by decide)) h)
    rfl rfl rfl rfl rfl)

theorem Sheltered.laneFatal (code source : Nat) (h : I x) : I (x.laneFatal code source) := by
  have hlatch {f : Field} (hf : f.off = 0x5004) (hw : f.width ≠ 64) {y : LaneSt} (hy : I y) (n : Nat) : I (y.wr f n) :=
    hI.wr (plain_below hw (by omega)) hy n
  have hfatal := hlatch (f := FLT.STATUS.FATAL) rfl (by decide) h 1
  have hcode := hlatch (f := FLT.STATUS.FATAL_CODE) rfl (by decide) hfatal code
  have hsource := hlatch (f := FLT.STATUS.FATAL_SOURCE) rfl (by decide) hcode source
  exact hI.stores (hI.laneSafe true (hI.exclude causeSelfFatal (ite_holds (c := x.on FLT.STATUS.FATAL = true) h hsource)))
    rfl rfl rfl rfl rfl

theorem Sheltered.faultReaction (r code source : Nat) (h : I x) : I (x.faultReaction r code source) :=
  ite_holds (hI.channelSafe _ _ _ h) (ite_holds (hI.exclReqReaction _ h) (ite_holds (hI.laneFatal _ _ h) h))

/-! ## The record of a fault (R367 to R376) -/

theorem Sheltered.firstError {code : Nat} (hcode : code < 0x300) (source e : Nat) (h : I x) : I (x.firstError code source e) := by
  have hfirst {f : Field} (hoff : f.off = 0x51C8 + 16 * (code / 32) ∨ f.off = 0x51CC + 16 * (code / 32)) (hw : f.width ≠ 64)
      {y : LaneSt} (hy : I y) (n : Nat) : I (y.wr f n) :=
    hI.wr (plain_single hw ⟨by omega, by omega, by unfold HistoryWord; omega⟩) hy n
  unfold LaneSt.firstError
  dsimp only
  split
  · exact h
  · split
    · exact hfirst (.inl rfl) (by simp [FLT.FIRST.OVERFLOW]) h 1
    · exact hfirst (.inr rfl) (by simp [FLT.FIRST_NS.NS]) (hfirst (.inl rfl) (by simp [FLT.FIRST.T32])
        (hfirst (.inl rfl) (by simp [FLT.FIRST.VALID]) (hfirst (.inl rfl) (by simp [FLT.FIRST.SOURCE])
          (hfirst (.inl rfl) (by simp [FLT.FIRST.CLASS]) (hfirst (.inl rfl) (by simp [FLT.FIRST.CODE]) h _) _) _) _) _) _

omit hI in
/-- What follows the history entry of a fault: tallies and first-error latch, the class source where it is raised, the channels'
sources, and the record to the peers. -/
def LaneSt.faultTold (x : LaneSt) (code source r e : Nat) (raised : Bool) : LaneSt :=
  let y := (x.tally code e).firstError code source e
  let y := if raised then y.raise (16 + 3 * (faultClass code - 1) + code / 32 / 8) (code / 32 % 8) else y
  let chans := y.faultChannels code source
  let also (s : Nat) : LaneSt := (List.range 8).foldl (fun l n => if bit chans n then l.raise (6 + n) s else l) y
  let y := if code / 32 = 10 then also 5 else if 0x182 ≤ code ∧ code ≤ 0x186 then also 6 else y
  if r = 0 then y else y.send 0x19 0 [e % 2 ^ 64, e / 2 ^ 64 + 2 ^ 32 * y.rd (FLT.TOTAL.COUNT (code / 32))]

omit hI in
theorem LaneSt.faultNoted_eq (x : LaneSt) (code source : Nat) :
    x.faultNoted code source =
      let z := x.spoilProof code source
      let r := z.reaction code source
      let e := z.entry code source r
      (z.history code e).faultTold code source r e (z.raisesSource code r) := rfl

theorem Sheltered.faultTold {code : Nat} (hcode : code < 0x300) (source r e : Nat) (raised : Bool) (h : I x) :
    I (x.faultTold code source r e raised) := by
  have halso {y : LaneSt} (hy : I y) (chans s : Nat) :
      I ((List.range 8).foldl (fun l n => if bit chans n then l.raise (6 + n) s else l) y) :=
    foldl_range_holds (fun _ _ _ hz => ite_holds (hI.raise _ _ hz) hz) hy
  have htally : I (x.tally code e) := hI.stores h rfl rfl rfl rfl rfl
  have hfirst := hI.firstError hcode source e htally
  unfold LaneSt.faultTold
  extract_lets y1 y2 chans also y3
  have h2 : I y2 := ite_holds (hI.raise _ _ hfirst) hfirst
  have h3 : I y3 := ite_holds (halso h2 _ _) (ite_holds (halso h2 _ _) h2)
  exact ite_holds h3 (hI.send _ _ _ h3)

theorem Sheltered.spoilProof (code source : Nat) (h : I x) : I (x.spoilProof code source) := by
  unfold LaneSt.spoilProof
  split
  · exact h
  · exact ite_holds (hI.stores h rfl rfl rfl rfl rfl) h

/-- A property that stands once the history entry of a fault is written stands after the fault. -/
theorem Sheltered.fault_of_history {code : Nat} (hcode : code < 0x300) (source : Nat)
    (h : let z := x.spoilProof code source
      I (z.history code (z.entry code source (z.reaction code source)))) : I (x.fault code source) := by
  have hnoted : I (x.faultNoted code source) := by
    rw [LaneSt.faultNoted_eq]
    exact hI.faultTold hcode _ _ _ _ h
  rw [LaneSt.fault_eq]
  exact ite_holds hnoted (hI.faultReaction _ _ _ hnoted)

/-- A property that a history entry does not end stands through a fault, whatever its reaction. -/
theorem Sheltered.fault {code : Nat} (hcode : code < 0x300) (source : Nat)
    (hhistory : ∀ {y : LaneSt} (e : Nat), I y → I (y.history code e)) (h : I x) : I (x.fault code source) :=
  hI.fault_of_history hcode source (hhistory _ (hI.spoilProof code source h))

end

/-! ## What stands beside the registers -/

theorem LaneSt.soOff_word (x : LaneSt) (k : Nat) {o : Nat} (ho : o ≠ 0x28018) : (x.soOff k).word o = x.word o := by
  unfold LaneSt.soOff
  split
  · exact LaneSt.word_wr_ne x ho (by decide) _
  · rfl

theorem LaneSt.soOff_net (x : LaneSt) (k : Nat) : (x.soOff k).net = x.net := by
  unfold LaneSt.soOff
  split
  · exact LaneSt.wr_net ..
  · rfl

theorem LaneSt.soOff_mem (x : LaneSt) (k : Nat) : (x.soOff k).mem = x.mem := by
  unfold LaneSt.soOff
  split
  · exact LaneSt.wr_mem ..
  · rfl

theorem LaneSt.soOff_time (x : LaneSt) (k : Nat) : (x.soOff k).time = x.time := by
  unfold LaneSt.soOff
  split
  · exact LaneSt.wr_time ..
  · rfl

theorem sheltered_net (n : NetSt) : Sheltered (fun y => y.net = n) where
  stores h _ _ _ hnet _ := hnet.trans h
  wr _ h _ := (LaneSt.wr_net ..).trans h
  soOff h k := (LaneSt.soOff_net _ k).trans h

theorem sheltered_mem (m : MemSt) : Sheltered (fun y => y.mem = m) where
  stores h _ _ _ _ hmem := hmem.trans h
  wr _ h _ := (LaneSt.wr_mem ..).trans h
  soOff h k := (LaneSt.soOff_mem _ k).trans h

section
variable (x : LaneSt) {code : Nat} (hcode : code < 0x300) (source : Nat)
include hcode

/-- A fault leaves the networks alone. -/
theorem LaneSt.fault_net : (x.fault code source).net = x.net :=
  (sheltered_net x.net).fault hcode source (fun _ h => by simpa [LaneSt.history, LaneSt.inc] using h) rfl

/-- A fault leaves the NVM and the background state alone. -/
theorem LaneSt.fault_mem : (x.fault code source).mem = x.mem :=
  (sheltered_mem x.mem).fault hcode source (fun _ h => by simpa [LaneSt.history, LaneSt.inc] using h) rfl

end

end Sys2Proof.Machine

/-!
SUPPORT. The NVM's erase blocks: content moves from a block in service to a free one, so that as many are in service as before,
none comes back from retirement and no erase count falls.
-/

namespace Sys2Proof.Machine

open Sys2Proof

/-! ## One block replaced -/

theorem LaneSt.block_congr {x y : LaneSt} (h : y.mem.nvm = x.mem.nvm) (i : Nat) : y.block i = x.block i := by
  rw [LaneSt.block, h, LaneSt.block]

theorem LaneSt.block_setBlock_same (x : LaneSt) {b : Nat} (hb : b < 256) (v : NvmBlock) : (x.setBlock b v).block b = v := by
  simp [LaneSt.block, LaneSt.setBlock, LaneSt.setMem, Vector.getD, hb]

theorem LaneSt.block_setBlock_ne (x : LaneSt) {b i : Nat} (h : i ≠ b) (v : NvmBlock) : (x.setBlock b v).block i = x.block i := by
  simp [LaneSt.block, LaneSt.setBlock, LaneSt.setMem, Vector.getD, h.symm]

/-- What stands beyond the 256 blocks is retired. -/
theorem LaneSt.block_lt (x : LaneSt) {b : Nat} (h : (x.block b).use ≠ 2) : b < 256 := by
  by_contra hb
  exact h (by simp [LaneSt.block, Vector.getD, hb])

/-! ## What is kept -/

/-- The number of erase blocks in service. -/
def LaneSt.served (x : LaneSt) : Nat := ((List.range 256).filter (fun i => (x.block i).use = 0)).length

/-- As many blocks are in service in `y` as in `x`, those retired stay so, and no erase count has fallen. -/
structure NvmKept (x y : LaneSt) : Prop where
  served : y.served = x.served
  retired : ∀ i, (x.block i).use = 2 → (y.block i).use = 2
  erases : ∀ i, (x.block i).erases ≤ (y.block i).erases

theorem NvmKept.trans {x y z : LaneSt} (h : NvmKept x y) (h' : NvmKept y z) : NvmKept x z :=
  ⟨h'.served.trans h.served, fun i hi => h'.retired i (h.retired i hi), fun i => (h.erases i).trans (h'.erases i)⟩

/-- A change that leaves each block's use alone and lowers no erase count. -/
theorem nvmKept_of_uses {x y : LaneSt} (huse : ∀ i, (y.block i).use = (x.block i).use)
    (herases : ∀ i, (x.block i).erases ≤ (y.block i).erases) : NvmKept x y :=
  ⟨by simp only [LaneSt.served, huse], fun i hi => (huse i).trans hi, herases⟩

theorem nvmKept_of_nvm {x y : LaneSt} (h : y.mem.nvm = x.mem.nvm) : NvmKept x y :=
  nvmKept_of_uses (fun i => by rw [LaneSt.block_congr h]) (fun i => by rw [LaneSt.block_congr h])

theorem nvmKept_refl (x : LaneSt) : NvmKept x x := nvmKept_of_nvm rfl

/-- What keeps the blocks in each step of a fold keeps them in the fold. -/
theorem nvmKept_foldl {α : Type} {f : LaneSt → α → LaneSt} (h : ∀ y a, NvmKept y (f y a)) (xs : List α) (x : LaneSt) :
    NvmKept x (xs.foldl f x) :=
  List.foldlRecOn (motive := NvmKept x) xs f (nvmKept_refl x) (fun y hy a _ => hy.trans (h y a))

/-- Block `b` with its reads counted up to `n`. -/
def LaneSt.readsCounted (x : LaneSt) (b n : Nat) : LaneSt := x.setBlock b { x.block b with reads := n }

theorem LaneSt.readsCounted_same (x : LaneSt) {b : Nat} (hb : b < 256) (n : Nat) :
    (x.readsCounted b n).block b = { x.block b with reads := n } := LaneSt.block_setBlock_same x hb _

theorem nvmKept_readsCounted (x : LaneSt) {b : Nat} (hb : b < 256) (n : Nat) : NvmKept x (x.readsCounted b n) := by
  have hblock (i : Nat) : ((x.readsCounted b n).block i).use = (x.block i).use ∧
      ((x.readsCounted b n).block i).erases = (x.block i).erases := by
    by_cases hi : i = b
    · rw [hi, LaneSt.readsCounted_same x hb]
      exact ⟨rfl, rfl⟩
    · rw [LaneSt.readsCounted, LaneSt.block_setBlock_ne x hi]
      exact ⟨rfl, rfl⟩
  exact nvmKept_of_uses (fun i => (hblock i).1) (fun i => (hblock i).2.ge)

theorem card_filter_swap (p : Nat → Prop) [DecidablePred p] {b c n : Nat} (hb : b < n) (hc : c < n) :
    ((List.range n).filter (fun i => p (Equiv.swap b c i))).length = ((List.range n).filter (fun i => p i)).length := by
  have hcard (q : Nat → Prop) [DecidablePred q] :
      ((List.range n).filter (fun i => q i)).length = ((Finset.range n).filter q).card := rfl
  rw [hcard, hcard]
  have hswap (i : Nat) (hi : i < n) : Equiv.swap b c i < n := by
    by_cases h1 : i = b
    · rwa [h1, Equiv.swap_apply_left]
    · by_cases h2 : i = c
      · rwa [h2, Equiv.swap_apply_right]
      · rwa [Equiv.swap_apply_of_ne_of_ne h1 h2]
  refine Finset.card_bij' (fun i _ => Equiv.swap b c i) (fun i _ => Equiv.swap b c i) ?_ ?_ ?_ ?_
  · intro i hi
    simp only [Finset.mem_filter, Finset.mem_range] at hi ⊢
    exact ⟨hswap i hi.1, hi.2⟩
  · intro i hi
    simp only [Finset.mem_filter, Finset.mem_range] at hi ⊢
    exact ⟨hswap i hi.1, by simpa using hi.2⟩
  · intro i _
    simp
  · intro i _
    simp

/-- Block `b`, in service, gives its content to the free block `c`. -/
theorem nvmKept_moved {x y : LaneSt} {b c : Nat} (hb : (x.block b).use = 0) (hc : (x.block c).use = 1) (hyb : (y.block b).use ≠ 0)
    (hyc : (y.block c).use = 0) (hbe : (x.block b).erases ≤ (y.block b).erases) (hce : (x.block c).erases ≤ (y.block c).erases)
    (hother : ∀ i, i ≠ b → i ≠ c → y.block i = x.block i) : NvmKept x y := by
  have hswap (i : Nat) : (y.block i).use = 0 ↔ (x.block (Equiv.swap b c i)).use = 0 := by
    by_cases h1 : i = b
    · rw [h1, Equiv.swap_apply_left, hc]
      simpa using hyb
    · by_cases h2 : i = c
      · rw [h2, Equiv.swap_apply_right, hb, hyc]
      · rw [Equiv.swap_apply_of_ne_of_ne h1 h2, hother i h1 h2]
  have hcases {P : Nat → Prop} (h1 : P b) (h2 : P c) (h3 : ∀ i, y.block i = x.block i → P i) (i : Nat) : P i := by
    by_cases hib : i = b
    · exact hib ▸ h1
    · by_cases hic : i = c
      · exact hic ▸ h2
      · exact h3 i (hother i hib hic)
  refine ⟨?_, hcases (fun h => by omega) (fun h => by omega) (fun i h hi => by rw [h, hi]), hcases hbe hce (fun i h => by rw [h])⟩
  have hfilter : (fun i => decide ((y.block i).use = 0)) = fun i => decide ((x.block (Equiv.swap b c i)).use = 0) :=
    funext fun i => decide_eq_decide.mpr (hswap i)
  rw [LaneSt.served, hfilter]
  exact card_filter_swap (fun i => (x.block i).use = 0) (x.block_lt (by omega)) (x.block_lt (by omega))

/-! ## The operations of the NVM (R423 to R425) -/

/-- The block that is picked has the use it is picked by. -/
theorem LaneSt.pickBlock_use {x : LaneSt} {use b : Nat} {better : Nat → Nat → Bool} (h : x.pickBlock use better = some b) :
    (x.block b).use = use := by
  have hall : ∀ r ∈ x.pickBlock use better, (x.block r).use = use := by
    unfold LaneSt.pickBlock
    refine List.foldlRecOn (motive := fun o => ∀ r ∈ o, (x.block r).use = use) _ _ (by simp) (fun o ho c _ => ?_)
    split
    · exact ho
    case isFalse huse =>
      have hc : (x.block c).use = use := not_not.mp huse
      split
      · simpa using hc
      · split
        · simpa using hc
        · exact ho
  exact hall b h

theorem LaneSt.showNvm_nvm (x : LaneSt) : x.showNvm.mem.nvm = x.mem.nvm := by
  simp [LaneSt.showNvm, LaneSt.wrB]

theorem LaneSt.satInc_nvm (x : LaneSt) (b : Nat) (f : Field) : (x.satInc b f).mem.nvm = x.mem.nvm := by
  rw [LaneSt.satInc_mem]

theorem LaneSt.bgWork_nvm (x : LaneSt) (a n : Nat) : (x.bgWork a n).mem.nvm = x.mem.nvm := by
  unfold LaneSt.bgWork
  dsimp only
  split
  · rfl
  · simp

section
variable {x : LaneSt} {b c : Nat} (hb : (x.block b).use = 0) (hc : (x.block c).use = 1)
include hb hc

/-- A free block takes the content, the old one becomes `v`. -/
theorem nvmKept_handed {v : NvmBlock} (huse : v.use ≠ 0) (herases : (x.block b).erases ≤ v.erases) :
    NvmKept x ((x.setBlock c { x.block c with use := 0, reads := 0 }).setBlock b v) := by
  have hbc : b ≠ c := fun h => by rw [h] at hb; omega
  have hb256 : b < 256 := x.block_lt (by omega)
  have hc256 : c < 256 := x.block_lt (by omega)
  refine nvmKept_moved hb hc ?_ ?_ ?_ ?_ ?_
  · rwa [LaneSt.block_setBlock_same _ hb256]
  · rw [LaneSt.block_setBlock_ne _ hbc.symm, LaneSt.block_setBlock_same _ hc256]
  · rwa [LaneSt.block_setBlock_same _ hb256]
  · rw [LaneSt.block_setBlock_ne _ hbc.symm, LaneSt.block_setBlock_same _ hc256]
  · intro i h1 h2
    rw [LaneSt.block_setBlock_ne _ h1, LaneSt.block_setBlock_ne _ h2]

theorem nvmKept_moveBlock : NvmKept x (x.moveBlock b c) := by
  have hbc : b ≠ c := fun h => by rw [h] at hb; omega
  have hold : (x.setBlock c { x.block c with use := 0, reads := 0 }).block b = x.block b := LaneSt.block_setBlock_ne _ hbc _
  unfold LaneSt.moveBlock
  dsimp only
  rw [hold]
  exact (nvmKept_handed hb hc (by simp) (Nat.le_succ _)).trans (nvmKept_of_nvm (LaneSt.showNvm_nvm _))

end

section
variable {x : LaneSt} {b : Nat} (hb : (x.block b).use = 0)
include hb

theorem nvmKept_refreshBlock : NvmKept x (x.refreshBlock b) := by
  unfold LaneSt.refreshBlock
  split
  · exact nvmKept_refl x
  case h_2 c hpick =>
    exact (nvmKept_moveBlock hb (LaneSt.pickBlock_use hpick)).trans (nvmKept_of_nvm (LaneSt.satInc_nvm _ _ _))

theorem nvmKept_retireBlock (writeFailed : Bool) : NvmKept x (x.retireBlock b writeFailed) := by
  have hshown : NvmKept x x.showNvm := nvmKept_of_nvm (LaneSt.showNvm_nvm x)
  unfold LaneSt.retireBlock
  split
  · split
    · exact hshown.trans (nvmKept_of_nvm (by rw [LaneSt.fault_mem _ (by decide)]))
    · exact hshown
  case h_2 c hpick =>
    have hc := LaneSt.pickBlock_use hpick
    have hbc : b ≠ c := fun h => by rw [h] at hb; omega
    dsimp only
    rw [LaneSt.block_setBlock_ne _ hbc]
    refine (nvmKept_handed hb hc (v := { x.block b with use := 2 }) (by simp) le_rfl).trans (nvmKept_of_nvm ?_)
    rw [LaneSt.fault_mem _ (by decide), LaneSt.satInc_nvm, LaneSt.showNvm_nvm]

end

theorem nvmKept_pageRead (x : LaneSt) (b : Byte) (n : Nat) (ok : Bool) : NvmKept x (x.pageRead b.toNat n ok) := by
  by_cases huse : (x.block b.toNat).use = 0
  case neg =>
    rw [LaneSt.pageRead, if_pos huse]
    exact nvmKept_refl x
  case pos =>
    have hb : b.toNat < 256 := b.isLt
    have hz := nvmKept_readsCounted x hb ((x.block b.toNat).reads + 1)
    have hzuse : ((x.readsCounted b.toNat ((x.block b.toNat).reads + 1)).block b.toNat).use = 0 := by
      rw [LaneSt.readsCounted_same x hb]
      exact huse
    rw [LaneSt.pageRead_used huse, ← LaneSt.readsCounted]
    generalize x.readsCounted b.toNat ((x.block b.toNat).reads + 1) = z at hz hzuse
    extract_lets _ y
    have hfault (code : Nat) (hcode : code < 0x300) : (z.fault code b.toNat).mem.nvm = z.mem.nvm := by
      rw [LaneSt.fault_mem _ hcode]
    have hy : y.mem.nvm = z.mem.nvm := by
      unfold y
      split
      · rfl
      · exact hfault 0x025 (by decide)
    have hyuse : (y.block b.toNat).use = 0 := by rw [LaneSt.block_congr hy, hzuse]
    clear_value y
    have hread : NvmKept x y := hz.trans (nvmKept_of_nvm hy)
    split
    · exact hz.trans (nvmKept_of_nvm (hfault 0x027 (by decide)))
    · split
      · exact hread.trans (nvmKept_retireBlock hyuse _)
      · split
        · exact hread.trans (nvmKept_of_nvm rfl)
        · exact hread

/-- One block of a refresh period: its reads counted, and it is rewritten where they are too many. -/
theorem nvmKept_blockRefreshed (x : LaneSt) (b : Nat) :
    NvmKept x (if (x.block b).use ≠ 0 then x
      else
        let y := x.readsCounted b ((x.block b).reads + 256)
        if 10000 * y.rd MEM.NVM_CTRL.RD_LIMIT ≤ (x.block b).reads + 256 then y.refreshBlock b else y) := by
  split
  · exact nvmKept_refl x
  case isFalse huse =>
    have huse0 : (x.block b).use = 0 := not_not.mp huse
    have hb : b < 256 := x.block_lt (by omega)
    have hread := nvmKept_readsCounted x hb ((x.block b).reads + 256)
    dsimp only
    split
    · refine hread.trans (nvmKept_refreshBlock ?_)
      rw [LaneSt.readsCounted_same x hb]
      exact huse0
    · exact hread

theorem nvmKept_nvmRefresh (x : LaneSt) : NvmKept x x.nvmRefresh := by
  unfold LaneSt.nvmRefresh
  split
  · exact nvmKept_refl x
  · exact (nvmKept_of_nvm (x.bgWork_nvm 1 1)).trans (nvmKept_foldl nvmKept_blockRefreshed _ _)

theorem nvmKept_nvmWear (x : LaneSt) : NvmKept x x.nvmWear := by
  by_cases hbg : x.background = true
  case neg =>
    rw [LaneSt.nvmWear, if_pos (by simpa using hbg)]
    exact nvmKept_refl x
  case pos =>
    have hdue : NvmKept x x.wearRefreshed := by
      refine NvmKept.trans (y := (x.bgWork 2 1).setMem (fun m => { m with nvmDue := [] }))
        (nvmKept_of_nvm (x.bgWork_nvm 2 1)) (nvmKept_foldl (fun y b => ?_) _ _)
      split
      case isTrue huse => exact nvmKept_refreshBlock huse
      case isFalse => exact nvmKept_refl y
    rw [LaneSt.nvmWear_running hbg]
    refine hdue.trans ?_
    unfold LaneSt.wearLevel
    split
    case h_1 h b c hh hb hc =>
      split
      · exact (nvmKept_moveBlock (LaneSt.pickBlock_use hb) (LaneSt.pickBlock_use hc)).trans (nvmKept_of_nvm (LaneSt.satInc_nvm _ _ _))
      · exact nvmKept_refl _
    case h_2 => exact nvmKept_refl _

/-- Settles O56: each of the three commands is made of reads counted, content moved from a block in service to a free one, and
records that leave the NVM alone. -/
theorem nvmKeepsItsBlocksInService : Obligations.NvmKeepsItsBlocksInService := by
  unfold Obligations.NvmKeepsItsBlocksInService
  intro s l b n ok c hc served
  have hdone : ∃ y, exec c s = .next (s.setLane l y) ∧ NvmKept (s.lane l) y := by
    simp only [List.mem_cons, List.not_mem_nil, or_false] at hc
    rcases hc with rfl | rfl | rfl
    · exact ⟨_, exec_nvmPageRead s l b n ok, nvmKept_pageRead _ b n ok⟩
    · exact ⟨_, exec_nvmRefresh s l, nvmKept_nvmRefresh _⟩
    · exact ⟨_, exec_nvmWear s l, nvmKept_nvmWear _⟩
  obtain ⟨y, hrun, hkept⟩ := hdone
  exact ⟨y, hrun, hkept.served, fun i _ => ⟨hkept.retired i, hkept.erases i⟩⟩

end Sys2Proof.Machine

/-!
SUPPORT. What a frame that comes in leaves on the wire: one frame for one port at most, and the gates as they stood.
-/

namespace Sys2Proof.Machine

open Sys2Proof

/-- The gates, the frames sent and the frames queued. -/
def LaneSt.wire (x : LaneSt) : Vector (Nat × Nat) 4 × List Egress × List Egress := (x.net.gate, x.net.sent, x.net.waiting)

theorem LaneSt.wire_of_net {x y : LaneSt} (h : y.net = x.net) : y.wire = x.wire := by
  rw [LaneSt.wire, h, LaneSt.wire]

@[simp] theorem LaneSt.wire_ite (c : Prop) [Decidable c] (x y : LaneSt) :
    (if c then x else y).wire = if c then x.wire else y.wire := apply_ite _ c x y

@[simp] theorem LaneSt.wr_wire (x : LaneSt) (f : Field) (n : Nat) : (x.wr f n).wire = x.wire := LaneSt.wire_of_net (by simp)

@[simp] theorem LaneSt.inc_wire (x : LaneSt) (f : Field) : (x.inc f).wire = x.wire := LaneSt.wr_wire ..

@[simp] theorem LaneSt.satInc_wire (x : LaneSt) (b : Nat) (f : Field) : (x.satInc b f).wire = x.wire :=
  LaneSt.wire_of_net (by simp)

theorem netCode_lt {red blue : Nat} (p : Nat) (hred : red < 0x300) (hblue : blue < 0x300) : netCode p red blue < 0x300 := by
  unfold netCode
  split
  · exact hred
  · exact hblue

/-! ## What comes in (R295, R299) -/

@[simp] theorem LaneSt.verify_wire (x : LaneSt) (p : Nat) (f : EthFrame) : (x.verify p f).2.wire = x.wire := by
  unfold LaneSt.verify
  split
  · rfl
  · split
    · rfl
    · dsimp only
      split
      · rfl
      · rw [LaneSt.wire_of_net (LaneSt.fault_net _ (netCode_lt p (by decide) (by decide)) _), LaneSt.satInc_wire]

@[simp] theorem LaneSt.learn_wire (x : LaneSt) (p : Nat) (src : BitVec 48) : (x.learn p src).wire = x.wire := by
  unfold LaneSt.learn
  dsimp only
  split
  · rfl
  · split <;> rfl

/-! ## What goes out (R295, R298, R299) -/

/-- Between `x` and `y` at most one frame has been sent or queued, for port `q`; frames that waited may be gone. -/
structure SentOn (q : Nat) (x y : LaneSt) : Prop where
  gate : y.net.gate = x.net.gate
  sent : ∃ new, y.net.sent = x.net.sent ++ new ∧ new.length ≤ 1 ∧ ∀ e ∈ new, e.port = q
  waiting : ∀ e ∈ y.net.waiting, e ∈ x.net.waiting ∨ e.port = q
  count : y.net.waiting.length ≤ x.net.waiting.length + 1

section
variable {q : Nat} {x y : LaneSt}

/-- Only what the wire shows matters. -/
theorem SentOn.of_wire {x' y' : LaneSt} (h : SentOn q x y) (hx : x'.wire = x.wire) (hy : y'.wire = y.wire) : SentOn q x' y' := by
  simp only [LaneSt.wire, Prod.mk.injEq] at hx hy
  obtain ⟨hxg, hxs, hxw⟩ := hx
  obtain ⟨hyg, hys, hyw⟩ := hy
  refine ⟨?_, ?_, ?_, ?_⟩
  · rw [hyg, hxg, h.gate]
  · rw [hys, hxs]
    exact h.sent
  · rw [hyw, hxw]
    exact h.waiting
  · rw [hyw, hxw]
    exact h.count

theorem sentOn_refl (x : LaneSt) : SentOn q x x :=
  ⟨rfl, ⟨[], by simp⟩, fun _ he => .inl he, Nat.le_succ _⟩

theorem sentOn_of_wire (h : y.wire = x.wire) : SentOn q x y := (sentOn_refl x).of_wire rfl h

/-- A frame sent, with some of those that waited dropped. -/
theorem sentOn_sent {e : Egress} (hgate : y.net.gate = x.net.gate) (hsent : y.net.sent = x.net.sent ++ [e])
    (hwaiting : y.net.waiting.Sublist x.net.waiting) : SentOn e.port x y :=
  ⟨hgate, ⟨[e], hsent, by simp⟩, fun _ he => .inl (hwaiting.subset he), hwaiting.length_le.trans (Nat.le_succ _)⟩

/-- A frame queued. -/
theorem sentOn_queued {e : Egress} (hgate : y.net.gate = x.net.gate) (hsent : y.net.sent = x.net.sent)
    (hwaiting : y.net.waiting = x.net.waiting ++ [e]) : SentOn e.port x y := by
  refine ⟨hgate, ⟨[], by simp [hsent]⟩, fun w hw => ?_, by simp [hwaiting]⟩
  rw [hwaiting, List.mem_append, List.mem_singleton] at hw
  exact hw.imp_right (fun h => by rw [h])

end

/-- The packet numbers of port `p` exhausted: what waits there is gone. -/
theorem LaneSt.exhaust_net (x : LaneSt) (p : Nat) :
    (x.exhaust p).net = { x.net with waiting := x.net.waiting.filter (fun e => e.port ≠ p || e.ptp) } := by
  unfold LaneSt.exhaust
  dsimp only
  rw [LaneSt.fault_net _ (netCode_lt p (by decide) (by decide))]
  have hlost (lost : List Egress) (f : Field) : (lost.foldl (fun l _ => l.satInc (netBlock p) f) x).net = x.net :=
    foldl_keep LaneSt.net _ (fun _ _ => by simp) _ _
  simp only [LaneSt.setNet, hlost]

theorem sentOn_transmit (x : LaneSt) (e : Egress) : SentOn e.port x (x.transmit e) := by
  unfold LaneSt.transmit
  dsimp only
  split
  · exact sentOn_sent rfl rfl (List.Sublist.refl _)
  · split
    · exact sentOn_of_wire (by simp)
    · split
      · refine sentOn_sent ?_ ?_ ?_ <;> rw [LaneSt.fault_net _ (netCode_lt _ (by decide) (by decide))]
        · rfl
        · rfl
        · exact List.Sublist.refl _
      · split
        · refine sentOn_sent ?_ ?_ ?_ <;> rw [LaneSt.exhaust_net]
          · rfl
          · rfl
          · exact List.filter_sublist
        · exact sentOn_sent rfl rfl (List.Sublist.refl _)

theorem sentOn_egress (x : LaneSt) (e : Egress) : SentOn e.port x (x.egress e) := by
  unfold LaneSt.egress
  split
  · exact sentOn_refl x
  · split
    · exact sentOn_transmit x e
    · exact sentOn_queued rfl rfl rfl

theorem sentOn_forward (x : LaneSt) (p q : Nat) (f : EthFrame) : SentOn q x (x.forward p q f) := by
  unfold LaneSt.forward
  split
  · split
    · exact sentOn_egress x ⟨q, f.pcp, .forward f 0⟩
    · exact (sentOn_egress _ ⟨q, f.pcp, _⟩).of_wire (by simp) rfl
  · exact sentOn_egress x ⟨q, f.pcp, .forward f 0⟩

/-- A frame is forwarded to no other port than the other one of its bridge. -/
theorem LaneSt.forwardTo_other {x : LaneSt} {p q : Nat} {dst : BitVec 48} (h : x.forwardTo p dst = some q) :
    q = p / 2 * 2 + (1 - p % 2) := by
  unfold LaneSt.forwardTo at h
  dsimp only at h
  split at h
  · exact absurd h (by simp)
  · split at h
    · split at h
      · exact absurd h (by simp)
      · exact (Option.some.inj h).symm
    · exact (Option.some.inj h).symm

theorem sentOn_ethReceive (x : LaneSt) (p : Nat) (f : EthFrame) : SentOn (p / 2 * 2 + (1 - p % 2)) x (x.ethReceive p f) := by
  unfold LaneSt.ethReceive
  split
  · exact sentOn_refl x
  · split
    · exact sentOn_of_wire (by simp)
    · split
      · exact sentOn_of_wire (by simp)
      · dsimp only
        split
        · exact sentOn_of_wire (by simp)
        · split
          · exact sentOn_of_wire (by simp)
          case h_2 q hto =>
            rw [← LaneSt.forwardTo_other hto]
            exact (sentOn_forward _ p q f).of_wire (by simp) rfl

/-- Settles O44: what comes in counts, verifies and learns, and goes out as one frame for the port that `forwardTo` names. -/
theorem bridgesStayApart : Obligations.BridgesStayApart := by
  unfold Obligations.BridgesStayApart
  intro s l p f
  have h := sentOn_ethReceive (s.lane l) p.val f
  exact ⟨_, exec_ethFrameReceive s l p f, h.gate, h.sent, h.waiting, h.count⟩

end Sys2Proof.Machine

/-!
SUPPORT. RATE and RATE_locked through the time events: each of them writes RATE only as the servo and the lock do, within
200 ppm, and a lane's time follows.
-/

namespace Sys2Proof.Machine

open Sys2Proof

/-- A sound register file with RATE and RATE_locked within 200 ppm, in units of 0.001 ppm. -/
structure LaneSt.RateSafe (x : LaneSt) : Prop where
  wf : x.regsWf
  low : -200000 ≤ x.rdI TIME.RATE.VALUE
  high : x.rdI TIME.RATE.VALUE ≤ 200000
  lockedLow : -200000 ≤ x.time.lockedRate
  lockedHigh : x.time.lockedRate ≤ 200000

namespace LaneSt.RateSafe

variable {x y : LaneSt}

theorem of_word (h : x.RateSafe) (hwf : y.regsWf) (hword : y.word 0x9044 = x.word 0x9044)
    (htime : y.time.lockedRate = x.time.lockedRate) : y.RateSafe := by
  have hrate : y.rdI TIME.RATE.VALUE = x.rdI TIME.RATE.VALUE := by
    have hrd : y.rd TIME.RATE.VALUE = x.rd TIME.RATE.VALUE := LaneSt.rd_of_word (by decide) hword
    simp only [LaneSt.rdI, hrd]
  exact ⟨hwf, by rw [hrate]; exact h.low, by rw [hrate]; exact h.high, htime ▸ h.lockedLow, htime ▸ h.lockedHigh⟩

theorem of_stores (h : x.RateSafe) (hid : y.id = x.id) (hregs : y.regs = x.regs) (htime : y.time.lockedRate = x.time.lockedRate) :
    y.RateSafe := h.of_word (LaneSt.regsWf_congr hid hregs h.wf) (LaneSt.word_congr hid hregs 0x9044) htime

/-- A write beside RATE. -/
theorem wr (h : x.RateSafe) {f : Field} (hf : f.off ≠ 0x9044) (hpair : f.width = 64 → f.off + 4 ≠ 0x9044) (n : Nat) :
    (x.wr f n).RateSafe := by
  exact h.of_word (LaneSt.regsWf_wr h.wf f n) (LaneSt.word_wr_other x hf.symm (fun hw => (hpair hw).symm) n) (by rw [LaneSt.wr_time])

end LaneSt.RateSafe

theorem sheltered_rateSafe : Sheltered LaneSt.RateSafe where
  stores h hid hregs htime _ _ := h.of_stores hid hregs (by rw [htime])
  wr hf h n := h.wr hf.low.rate (fun hw => (hf.high hw).rate) n
  soOff h k := by
    unfold LaneSt.soOff
    split
    · exact (h.wr (f := SIO.SO_STATUS.ON) (by decide) (by decide) _).of_stores rfl rfl rfl
    · exact h

namespace LaneSt.RateSafe

variable {x : LaneSt} (h : x.RateSafe)
include h

/-! ## Records -/

theorem history {code : Nat} (hcode : code < 0x300) (e : Nat) : (x.history code e).RateSafe := by
  have hword {f : Field} (hlow : 0x51C0 ≤ f.off) (hhigh : f.off < 0x8000) {y : LaneSt} (hy : y.RateSafe) (n : Nat) :
      (y.wr f n).RateSafe := hy.wr (by omega) (fun _ => by omega) n
  unfold LaneSt.history
  dsimp only
  refine hword ?_ ?_ (hword ?_ ?_ (hword ?_ ?_ (hword ?_ ?_ h _) _) _) _ <;>
    simp only [FLT.TOTAL.COUNT, FLT.HIST_NUM.NUMBER, FLT.HIST_HI.SOURCE, FLT.HIST_LO.ENTRY] <;> omega

theorem fault {code : Nat} (hcode : code < 0x300) (source : Nat) : (x.fault code source).RateSafe :=
  sheltered_rateSafe.fault hcode source (fun e hy => hy.history hcode e) h

theorem raise (g s : Nat) : (x.raise g s).RateSafe := sheltered_rateSafe.raise g s h

/-- A field of the time block, or of one above it, that is not RATE. -/
theorem satInc {b : Nat} (hb : b < 24) {f : Field} (hf : f.off ≠ 0x9044) (hw : f.width ≠ 64) : (x.satInc b f).RateSafe :=
  ite_holds (h.wr (by simp only [FLT.SATURATED.COUNT]; omega) (by simp [FLT.SATURATED.COUNT]) _)
    (h.wr hf (fun hpair => absurd hpair hw) _)

/-- State of the time base that is no register and not RATE_locked. -/
theorem timed (t : TimeSt) (ht : t.lockedRate = x.time.lockedRate) : ({ x with time := t } : LaneSt).RateSafe :=
  h.of_stores rfl rfl ht

/-! ## Sources (R277) -/

theorem setSource (src : Nat) : (x.setSource src).RateSafe := by
  have hstatus {f : Field} (hf : f.off = 0x9020) (hw : f.width ≠ 64) {y : LaneSt} (hy : y.RateSafe) (n : Nat) : (y.wr f n).RateSafe :=
    hy.wr (by omega) (fun hpair => absurd hpair hw) n
  unfold LaneSt.setSource
  extract_lets form y1
  have h1 : y1.RateSafe := ite_holds h ((hstatus rfl (by decide) h _).raise 3 5)
  clear_value y1
  refine ite_holds h1 (foldl_range_holds (fun y g hg hy => ?_) ((hstatus rfl (by decide) h1 _).raise 3 4))
  unfold LaneSt.showPlanEnd
  split
  · exact hy
  · exact hy.wr (by simp only [PROF.PLAN_END.TIME]; omega) (fun _ => by simp only [PROF.PLAN_END.TIME]; omega) _

theorem showGm : x.showGm.RateSafe := by
  unfold LaneSt.showGm
  extract_lets ids y1 acq past y2 y3 past' y4
  have h1 : y1.RateSafe := h.wr (by decide) (by decide) _
  have h2 : y2.RateSafe := ite_holds (h1.timed _ rfl) h1
  have h3 : y3.RateSafe := h2.wr (by decide) (by decide) _
  have h4 : y4.RateSafe := by
    unfold y4
    split
    · exact h3
    · exact h3.timed _ rfl
  exact h4.wr (f := TIME.GM_ID.ID) (by decide) (by decide) _

theorem judgeElection : x.judgeElection.RateSafe :=
  ite_holds (h.setSource _).showGm (ite_holds (h.setSource _).showGm h.showGm)

/-! ## Servo and steps (R278, R279) -/

omit h in
theorem fits_rate {r : Int} (hlow : -200000 ≤ r) (hhigh : r ≤ 200000) : FitsSigned 32 r := by
  constructor <;> omega

/-- RATE written with a rate within 200 ppm. -/
theorem wrRate {r : Int} (hlow : -200000 ≤ r) (hhigh : r ≤ 200000) : (x.wrI TIME.RATE.VALUE r).RateSafe := by
  have hrate : (x.wrI TIME.RATE.VALUE r).rdI TIME.RATE.VALUE = r :=
    LaneSt.rdI_wrI_same h.wf (by decide) (by decide) (fits_rate hlow hhigh)
  have htime : (x.wrI TIME.RATE.VALUE r).time = x.time := LaneSt.wr_time ..
  exact ⟨LaneSt.regsWf_wr h.wf _ _, by rw [hrate]; exact hlow, by rw [hrate]; exact hhigh, htime ▸ h.lockedLow, htime ▸ h.lockedHigh⟩

theorem fresh : x.fresh.2.RateSafe := h.of_stores rfl rfl rfl

theorem servo (t : Int) : (x.servo t).RateSafe := h.fresh.wrRate (by omega) (by omega)

theorem trackRate : x.trackRate.RateSafe := by
  unfold LaneSt.trackRate
  extract_lets v rate y
  have hlow : -200000 ≤ rate := by unfold rate; omega
  have hhigh : rate ≤ 200000 := by unfold rate; omega
  have hy : y.RateSafe := h.fresh.wrRate hlow hhigh
  exact ⟨hy.wf, hy.low, hy.high, hlow, hhigh⟩

theorem judgeStep (t : Int) : (x.judgeStep t).RateSafe := by
  unfold LaneSt.judgeStep
  dsimp only
  split
  · have hready := h.timed { x.time with stepReady := false } rfl
    exact ite_holds hready ((hready.wr (by decide) (by decide) _).fault (by decide) _)
  · exact (ite_holds (h.wr (by decide) (by decide) _) h).timed _ rfl

theorem steer : x.steer.RateSafe := by
  unfold LaneSt.steer
  split
  · exact h
  · exact (h.servo _).judgeStep _

theorem wrSat {f : Field} (hf : f.off ≠ 0x9044) (hw : f.width ≠ 64) (i : Int) : (x.wrSat f i).RateSafe :=
  h.wr hf (fun hpair => absurd hpair hw) _

theorem stepBy (t : Int) : (x.stepBy t).RateSafe := h.of_stores rfl rfl rfl

theorem timeStep : x.timeStep.RateSafe := by
  unfold LaneSt.timeStep
  split
  case h_1 => exact h
  case h_2 t htarget =>
    refine ite_holds h (ite_holds (h.timed _ rfl) ?_)
    have hsteps : (((x.stepBy t).wr TIME.STATUS.STEP_PENDING 0).satInc 3 TIME.COUNTS.STEPS).RateSafe :=
      ((h.stepBy t).wr (by decide) (by decide) 0).satInc (by decide) (by decide) (by decide)
    exact (hsteps.wrSat (f := TIME.OFFSET_GM.NS) (by decide) (by decide) _).of_stores rfl rfl rfl

/-! ## Grandmasters (R277, R282, R285) -/

theorem announce (blue : Bool) (rank gm : Nat) : (x.announce blue rank gm).RateSafe := by
  unfold LaneSt.announce
  extract_lets better past y
  have hy : y.RateSafe := ite_holds h (ite_holds (h.timed _ rfl) (h.timed _ rfl))
  exact ite_holds h hy.judgeElection

/-- A lane that locks takes the rate it has as RATE_locked. -/
theorem lockedAt {t : TimeSt} (ht : t.lockedRate = x.rdI TIME.RATE.VALUE) : ({ x with time := t } : LaneSt).RateSafe :=
  ⟨h.wf, h.low, h.high, ht ▸ h.low, ht ▸ h.high⟩

theorem syncReceive (blue : Bool) (offset : Int) : (x.syncReceive blue offset).RateSafe := by
  unfold LaneSt.syncReceive
  extract_lets free y1 past1 y2 y3 run past2 y4 y5 past3 y6
  have h1 : y1.RateSafe := h.fresh.wr (by split <;> decide) (by split <;> decide) _
  have h2 : y2.RateSafe := h1.timed _ rfl
  have h3 : y3.RateSafe := (h2.wrSat (f := TIME.OFFSET_GM.NS) (by decide) (by decide) _).showGm
  have h4 : y4.RateSafe := h3.timed _ rfl
  have h5 : y5.RateSafe := (h4.wr (f := TIME.STATUS.ACQUIRING) (by decide) (by decide) 0).wr (by decide) (by decide) 0
  have h6 : y6.RateSafe := h5.lockedAt rfl
  have hlocks := ((h6.wr (f := TIME.STATUS.HOLD_LEFT) (by decide) (by decide) 0).setSource
    (if blue = true then srcGmBlue else srcGmRed)).showGm
  exact ite_holds h (ite_holds h3 (ite_holds (ite_holds h3 (h3.trackRate.judgeStep _)) (ite_holds hlocks h4.steer)))

theorem gmLost : x.gmLost.RateSafe := by
  unfold LaneSt.gmLost
  split
  case h_1 => exact h
  case h_2 b hb =>
    have hforgot : (x.forgetGm b).RateSafe := ite_holds (h.timed _ rfl) (h.timed _ rfl)
    exact ite_holds ((((hforgot.setSource _).satInc (by decide) (by decide) (by decide)).fault (by decide) 0).judgeElection)
      hforgot.judgeElection

theorem holdoverExpired : x.holdoverExpired.RateSafe :=
  ite_holds h ((((h.setSource _).wr (by decide) (by decide) 0).fault (by decide) 0).showGm)

theorem compareUnit (c : Fin 4) : (x.compareUnit c).RateSafe := by
  have hreached := h.timed { x.time with cmpAt := x.time.cmpAt.set c (x.compareIndex c) } rfl
  exact ite_holds h (ite_holds hreached (hreached.raise _ _))

/-! ## The comparison (R286, R287, R482) -/

theorem judgeLock : x.judgeLock.RateSafe := by
  unfold LaneSt.judgeLock
  extract_lets own y1 y2 locked past y3 left
  have h1 : y1.RateSafe := ite_holds (h.setSource _) (ite_holds (h.setSource _) h)
  have h3 : y3.RateSafe := h1.showGm.timed _ rfl
  exact h3.wr (f := TIME.STATUS.HOLD_LEFT) (by decide) (by decide) _

theorem judgeSuspect (offs : List Int) : (x.judgeSuspect offs).RateSafe := by
  unfold LaneSt.judgeSuspect
  extract_lets tol heard gm good past1 y1 past2 bad n y2 past3 y3
  have h1 : y1.RateSafe := h.timed _ rfl
  have h2 : y2.RateSafe := h.timed _ rfl
  have h3 : y3.RateSafe := h2.timed _ rfl
  have hcleared := (((h1.timed { y1.time with cmpGood := 0 } rfl).wr (f := TIME.STATUS.GM_SUSPECT) (by decide) (by decide) 0).setSource
    y1.time.suspectFrom).showGm
  have hset := (((h3.wr (f := TIME.STATUS.GM_SUSPECT) (by decide) (by decide) 1).setSource srcPeer).satInc (b := 3)
    (f := TIME.COUNTS.SUSPECT) (by decide) (by decide) (by decide)).fault (code := 0x063) (by decide) 0
  exact ite_holds (ite_holds h1 hcleared) (ite_holds h2 hset)

theorem holdRef (b : Bool) : (x.holdRef b).RateSafe := by
  unfold LaneSt.holdRef
  extract_lets y1 past t y2
  have h1 : y1.RateSafe := (h.wr (f := VOTE.STATUS.REF_HELD) (by decide) (by decide) 1).raise _ _
  have h2 : y2.RateSafe := (h.wr (f := VOTE.STATUS.REF_HELD) (by decide) (by decide) 0).wr (by decide) (by decide) _
  clear_value y1 y2
  exact ite_holds h (ite_holds (h1.of_stores rfl rfl rfl) (h2.of_stores rfl rfl rfl))

/-- The registers of a lane that begins an attribution. -/
theorem attributing : (((x.wr VOTE.STATUS.ATTRIBUTING 1).satInc 2 VOTE.NOMAJ.ATTRIB).holdRef true).RateSafe :=
  ((h.wr (f := VOTE.STATUS.ATTRIBUTING) (by decide) (by decide) 1).satInc (b := 2) (f := VOTE.NOMAJ.ATTRIB) (by decide) (by decide)
    (by decide)).holdRef true

theorem requestExclusion (p : LaneId) (cause : Nat) : (x.requestExclusion p cause).RateSafe :=
  ite_holds h (h.of_stores rfl rfl rfl)

theorem judgeDiff : x.judgeDiff.RateSafe := by
  unfold LaneSt.judgeDiff
  extract_lets same past y o out past'
  have hy : y.RateSafe := h.timed _ rfl
  have hout {p q : LaneId} {z : LaneSt} (hz : z.RateSafe) : (out p q z).RateSafe := ite_holds (hz.requestExclusion p _) hz
  refine ite_holds hy ?_
  split
  case h_1 p _ => exact ite_holds (ite_holds hy (hy.attributing.of_stores rfl rfl rfl)) hy
  case h_2 p q _ =>
    have hown := ((hy.timed { y.time with differs := true } rfl).satInc (b := 3) (f := TIME.COUNTS.TIME_DIFF) (by decide) (by decide)
      (by decide)).fault (code := 0x066) (by decide) 0
    exact ite_holds hown (hout (hout hy))
  case h_3 => exact hy

theorem compareTimes : x.compareTimes.RateSafe := by
  unfold LaneSt.compareTimes
  extract_lets offs med y1 past y2 y3
  have h1 : y1.RateSafe := List.foldlRecOn _ _ h (fun _ hz _ _ => hz.of_stores rfl rfl rfl)
  have h2 : y2.RateSafe := h1.timed _ rfl
  have h3 : y3.RateSafe := ite_holds (h2.judgeSuspect offs).judgeLock.judgeDiff h2
  exact ite_holds h3 h3.steer

theorem timeComparison : x.timeComparison.RateSafe := by
  unfold LaneSt.timeComparison
  extract_lets hdr y
  have hy : y.RateSafe := sheltered_rateSafe.send _ _ _ h
  exact ite_holds h (ite_holds hy.compareTimes hy)

theorem heard (src : Arrival) (k : Nat) : (x.heard src k).RateSafe := by
  unfold LaneSt.heard
  split
  · exact h
  · exact h.of_stores (by simp) (by simp) (by simp)

theorem timeCmp (p : LaneId) (t32 : Bool) (src : Nat) (ready locked : Bool) (ns sec : Nat) :
    (x.timeCmp p t32 src ready locked ns sec).RateSafe := by
  unfold LaneSt.timeCmp
  extract_lets o past y1 y2
  have h1 : y1.RateSafe := ite_holds (h.timed _ rfl) (h.timed _ rfl)
  have h2 : y2.RateSafe := h1.wrSat (by split <;> decide) (by split <;> decide) o
  exact ite_holds h2.compareTimes h2

/-! ## The elected grandmaster's frames (R283, R285) -/

theorem dropped {p : Nat} (hp : p < 4) : (x.satInc (netBlock p) (NET.PORT_CNT0.DROPPED (p / 2) (p % 2))).RateSafe :=
  h.satInc (by unfold netBlock; omega) (by simp only [NET.PORT_CNT0.DROPPED]; omega) (by simp [NET.PORT_CNT0.DROPPED])

theorem setNet (f : NetSt → NetSt) : (x.setNet f).RateSafe := h.of_stores rfl rfl rfl

theorem exhaust {p : Nat} (hp : p < 4) : (x.exhaust p).RateSafe := by
  have hlost : ((x.net.waiting.filter (fun e => e.port = p && !e.ptp)).foldl
      (fun l _ => l.satInc (netBlock p) (NET.PORT_CNT0.DROPPED (p / 2) (p % 2))) x).RateSafe :=
    List.foldlRecOn _ _ h (fun _ hy _ _ => hy.dropped hp)
  exact (hlost.setNet _).fault (netCode_lt p (by decide) (by decide)) _

theorem transmit {e : Egress} (hp : e.port < 4) : (x.transmit e).RateSafe := by
  unfold LaneSt.transmit
  extract_lets p pn y
  have hy : y.RateSafe := h.setNet _
  exact ite_holds (h.setNet _) (ite_holds (h.dropped hp)
    (ite_holds (hy.fault (netCode_lt p (by decide) (by decide)) _) (ite_holds (hy.exhaust hp) hy)))

theorem egress {e : Egress} (hp : e.port < 4) : (x.egress e).RateSafe :=
  ite_holds h (ite_holds (h.transmit hp) (h.setNet _))

theorem sendBoth {i : Nat} (hi : i < 2) (q : Nat) (what : NetOut) : (x.sendBoth i q what).RateSafe :=
  (h.egress (e := ⟨2 * i, q, what⟩) (by dsimp only; omega)).egress (by dsimp only; omega)

theorem grandmaster : x.grandmaster.RateSafe := by
  have hsent {y : LaneSt} (hy : y.RateSafe) (ann : NetOut) :
      ([0, 1].foldl (fun l i => (l.sendBoth i 7 (.sync l.ns)).sendBoth i 7 ann) y).RateSafe :=
    List.foldlRecOn _ _ hy (fun z hz i hi => by
      have hi2 : i < 2 := by
        simp only [List.mem_cons, List.not_mem_nil, or_false] at hi
        omega
      exact (hz.sendBoth hi2 7 _).sendBoth hi2 7 _)
  exact ite_holds h (ite_holds h.judgeElection (hsent h.judgeElection _))

end LaneSt.RateSafe

/-! ## Lane time goes on (R274) -/

theorem sheltered_time (t : TimeSt) : Sheltered (fun y => y.time = t) where
  stores h _ _ htime _ _ := htime.trans h
  wr _ h _ := (LaneSt.wr_time ..).trans h
  soOff h k := (LaneSt.soOff_time _ k).trans h

section
variable (x : LaneSt)

theorem LaneSt.swOn_time (i : Nat) : (x.swOn i).time = x.time := by
  unfold LaneSt.swOn
  extract_lets sw
  have hwait (b : Bool) : (x.setWait i b).time = x.time := rfl
  simp [apply_ite LaneSt.time, hwait]

theorem LaneSt.pwmEdge_time {m : Nat} (hm : m < 26) : (x.pwmEdge m).time = x.time := by
  unfold LaneSt.pwmEdge
  exact ite_holds (I := fun y => y.time = x.time) rfl ((sheltered_time x.time).driveLeg hm _ _ rfl)

theorem LaneSt.shortStep_time {n : Nat} (hn : n < 8) : (x.shortStep n).time = x.time := by
  have h := sheltered_time x.time
  have hside (side : Nat) : (GATE.BRIDGE.SIDE n).Plain :=
    plain_above (by simp [GATE.BRIDGE.SIDE]) (by simp only [GATE.BRIDGE.SIDE]; omega) (by simp only [GATE.BRIDGE.SIDE]; omega)
  unfold LaneSt.shortStep
  extract_lets side low y
  have hy : y.time = x.time := h.stores (h.wr (hside side) rfl side) rfl rfl rfl rfl rfl
  exact ite_holds (I := fun y => y.time = x.time) rfl
    (ite_holds (I := fun y => y.time = x.time) (h.setWstate hn _ (h.setBridge hn _ hy)) rfl)

theorem LaneSt.gateClock_time : x.gateClock.time = x.time := by
  have hshort := foldl_range_holds (I := fun y => y.time = x.time) (m := 8) (f := LaneSt.shortStep)
    (fun y _ hn hy => (y.shortStep_time hn).trans hy) rfl
  have hpwm := foldl_range_holds (I := fun y => y.time = x.time) (m := 26) (f := LaneSt.pwmEdge)
    (fun y _ hm hy => (y.pwmEdge_time hm).trans hy) hshort
  exact List.foldlRecOn (motive := fun y => y.time = x.time) _ LaneSt.swOn hpwm (fun y hy i _ => (y.swOn_time i).trans hy)

theorem LaneSt.setVel_time (p : Nat) : (x.setVel p).time = x.time :=
  ite_holds (I := fun y => y.time = x.time) rfl (LaneSt.wr_time ..)

theorem LaneSt.clockEdge_stopped (hstop : x.time.running = false) : x.clockEdge = x := by
  have hnet : x.netClock = x := if_pos (by simp [hstop])
  simp [LaneSt.clockEdge, hnet]

theorem LaneSt.netClock_now (hrun : x.time.running = true) : x.netClock.time.now =
    (x.time.now + 8 * 2 ^ 32 + qdiv (8 * 2 ^ 32 * x.rdI TIME.RATE.VALUE) (10 ^ 9)).toNat := by
  unfold LaneSt.netClock
  rw [if_neg (by simp [hrun])]
  extract_lets past y
  have hvel : ((List.range 24).foldl (fun l p => if l.rd (FBK.STATUS.STATE p) = 0 then l else l.setVel p) y).time = y.time :=
    foldl_range_holds (I := fun z => z.time = y.time)
      (fun z p _ hz => ite_holds (I := fun z => z.time = y.time) hz ((z.setVel_time p).trans hz)) rfl
  rw [LaneSt.gateClock_time, hvel]

theorem LaneSt.clockEdge_now (hrun : x.time.running = true) : x.clockEdge.time.now =
    (x.time.now + 8 * 2 ^ 32 + qdiv (8 * 2 ^ 32 * x.rdI TIME.RATE.VALUE) (10 ^ 9)).toNat := by
  rw [← x.netClock_now hrun]
  unfold LaneSt.clockEdge
  extract_lets n
  have hages : ((List.range 6).foldl (fun l c => l.showAge (c + 1)) n).time = n.time :=
    foldl_range_holds (I := fun z => z.time = n.time) (fun _ _ _ hz => (LaneSt.wr_time ..).trans hz) rfl
  split
  · rfl
  · rw [hages]

end

/-- A quotient lies at the floor or one above it. -/
theorem qdiv_near (n : Int) {d : Nat} (hd : d ≠ 0) : n / (d : Int) ≤ qdiv n d ∧ qdiv n d ≤ n / (d : Int) + 1 := by
  unfold qdiv
  rw [if_neg hd]
  split <;> omega

/-- Within 200 ppm a NET clock advances lane time by 8 ns to within 10 ps. -/
theorem LaneSt.clockEdge_advance {x : LaneSt} (hrun : x.time.running = true) (hlow : -200000 ≤ x.rdI TIME.RATE.VALUE)
    (hhigh : x.rdI TIME.RATE.VALUE ≤ 200000) : 799 * 2 ^ 32 < 100 * (x.clockEdge.time.now - x.time.now : Int) ∧
      100 * (x.clockEdge.time.now - x.time.now : Int) < 801 * 2 ^ 32 := by
  rw [x.clockEdge_now hrun]
  obtain ⟨hfloor, hceil⟩ := qdiv_near (8 * 2 ^ 32 * x.rdI TIME.RATE.VALUE) (d := 10 ^ 9) (by decide)
  generalize x.rdI TIME.RATE.VALUE = r at *
  generalize qdiv (8 * 2 ^ 32 * r) (10 ^ 9) = q at *
  omega

/-! ## The obligation -/

theorem State.tick_lane (s : State) (l : LaneId) :
    s.tick.lane l = if Config.netEdge l s.ticks = true then (s.lane l).clockEdge else s.lane l := by
  cases l <;> rfl

/-- A time event of a lane whose effect keeps the rates safe. -/
theorem exec_rateSafe {s : State} {l : LaneId} {i : Instr} {x : LaneSt} (hrun : exec i s = .next (s.setLane l x)) (h : x.RateSafe) :
    ∃ x, exec i s = .next (s.setLane l x) ∧ -200000 ≤ x.rdI TIME.RATE.VALUE ∧ x.rdI TIME.RATE.VALUE ≤ 200000 ∧
      -200000 ≤ x.time.lockedRate ∧ x.time.lockedRate ≤ 200000 :=
  ⟨x, hrun, h.low, h.high, h.lockedLow, h.lockedHigh⟩

/-- Settles O43. RATE is written by the servo and by the lock alone, each within 200 ppm; the idle step is the model's choice
(log entry 9). -/
theorem rateStaysBoundedAndTimeRuns : Obligations.RateStaysBoundedAndTimeRuns := by
  unfold Obligations.RateStaysBoundedAndTimeRuns
  refine ⟨fun s l src blue t32 ready locked offset rank gm source ns sec c hc hbound i hi => ?_, fun s hpend => ?_⟩
  · obtain ⟨hlow, hhigh, hlockedLow, hlockedHigh⟩ := hbound
    have h : (s.lane l).RateSafe := ⟨regsWf_of_canon (hc l), hlow, hhigh, hlockedLow, hlockedHigh⟩
    simp only [List.mem_cons, List.not_mem_nil, or_false] at hi
    rcases hi with rfl | rfl | rfl | rfl | rfl | rfl | rfl | rfl | rfl
    · exact exec_rateSafe (exec_ptpSyncReceive ..) (h.syncReceive blue offset)
    · exact exec_rateSafe (exec_announceReceive ..) (h.announce blue rank _)
    · exact exec_rateSafe (exec_gmLost ..) h.gmLost
    · exact exec_rateSafe (exec_timeComparison ..) h.timeComparison
    · have hheard : ((s.lane l).heard src 1).RateSafe := h.heard src 1
      exact exec_rateSafe (x := if (s.lane l).accepts src then _ else _) rfl (ite_holds (hheard.timeCmp ..) h)
    · exact exec_rateSafe (exec_holdoverExpired ..) h.holdoverExpired
    · exact exec_rateSafe (exec_timeStep ..) h.timeStep
    · exact exec_rateSafe (exec_compareUnit ..) (h.compareUnit c)
    · exact exec_rateSafe (exec_grandmasterSync ..) h.grandmaster
  · refine ⟨s.tick, step_of_pending_nil hpend, rfl, fun l => ⟨fun hno => ?_, fun hrun hedge hbound => ?_⟩⟩
    · rw [State.tick_lane]
      split
      case isTrue hedge => exact (s.lane l).clockEdge_stopped (hno.resolve_right (by simp [hedge]))
      case isFalse => rfl
    · obtain ⟨hlow, hhigh, -, -⟩ := hbound
      rw [State.tick_lane, if_pos hedge]
      exact LaneSt.clockEdge_advance hrun hlow hhigh

end Sys2Proof.Machine

/-!
SUPPORT. What a fault enters in the history of its block (R367), whatever its reaction does after it.
-/

namespace Sys2Proof.Machine

open Sys2Proof

/-! ## Register pairs -/

theorem LaneSt.rd_of_words {x y : LaneSt} {f : Field} (hlow : y.word f.off = x.word f.off)
    (hhigh : y.word (f.off + 4) = x.word (f.off + 4)) : y.rd f = x.rd f := by
  rw [LaneSt.rd, hlow, hhigh, LaneSt.rd]

/-- A register pair reads back what was written, cut to 64 bits. -/
theorem LaneSt.rd_wr_pair {x : LaneSt} (h : x.regsWf) {f : Field} (hw : f.width = 64) (n : Nat) : (x.wr f n).rd f = n % 2 ^ 64 := by
  have hne : f.off ≠ f.off + 4 := by omega
  rw [LaneSt.wr, if_pos hw, LaneSt.rd, if_pos hw, LaneSt.word_setWord_ne _ hne, LaneSt.word_setWord_same h,
    LaneSt.word_setWord_same (LaneSt.regsWf_setWord h _ _), BitVec.toNat_ofNat, BitVec.toNat_ofNat]
  omega

/-! ## The history (R367) -/

theorem sheltered_history (z : LaneSt) : Sheltered (fun y => ∀ o, HistoryWord o → y.word o = z.word o) where
  stores h hid hregs _ _ _ o ho := (LaneSt.word_congr hid hregs o).trans (h o ho)
  wr hf h n o ho := (LaneSt.word_wr_plain _ hf (fun hplain => hplain.history ho) n).trans (h o ho)
  soOff h k o ho := (LaneSt.soOff_word _ k (by unfold HistoryWord at ho; omega)).trans (h o ho)

/-- The words of the histories after a fault are those its entry left. -/
theorem LaneSt.fault_historyWord (x : LaneSt) {code : Nat} (hcode : code < 0x300) (source : Nat) {o : Nat} (ho : HistoryWord o) :
    let z := x.spoilProof code source
    (x.fault code source).word o = (z.history code (z.entry code source (z.reaction code source))).word o := by
  intro z
  exact (sheltered_history (z.history code (z.entry code source (z.reaction code source)))).fault_of_history hcode source
    (fun _ _ => rfl) o ho

/-- A field whose words lie in the fault histories. -/
def Field.Historic (f : Field) : Prop := HistoryWord f.off ∧ (f.width = 64 → HistoryWord (f.off + 4))

theorem LaneSt.fault_historic (x : LaneSt) {code : Nat} (hcode : code < 0x300) (source : Nat) {f : Field} (hf : f.Historic) :
    let z := x.spoilProof code source
    (x.fault code source).rd f = (z.history code (z.entry code source (z.reaction code source))).rd f := by
  intro z
  have hlow := x.fault_historyWord hcode source hf.1
  by_cases hw : f.width = 64
  · exact LaneSt.rd_of_words hlow (x.fault_historyWord hcode source (hf.2 hw))
  · exact LaneSt.rd_of_word hw hlow

theorem historic_total {b : Nat} (hb : b < 24) : (FLT.TOTAL.COUNT b).Historic :=
  ⟨.inl ⟨b, hb, rfl⟩, fun hw => absurd hw (by simp [FLT.TOTAL.COUNT])⟩

theorem historic_entry {b j : Nat} (hb : b < 24) (hj : j < 8) : (FLT.HIST_LO.ENTRY b j).Historic := by
  constructor <;> simp only [HistoryWord, FLT.HIST_LO.ENTRY] <;> omega

theorem historic_source {b j : Nat} (hb : b < 24) (hj : j < 8) : (FLT.HIST_HI.SOURCE b j).Historic := by
  constructor <;> simp only [HistoryWord, FLT.HIST_HI.SOURCE] <;> omega

theorem historic_number {b j : Nat} (hb : b < 24) (hj : j < 8) : (FLT.HIST_NUM.NUMBER b j).Historic := by
  constructor <;> simp only [HistoryWord, FLT.HIST_NUM.NUMBER] <;> omega

/-- The slot of the next entry of an event's block. -/
def LaneSt.nextSlot (x : LaneSt) (code : Nat) : Nat := x.rd (FLT.TOTAL.COUNT (code / 32)) % 8

/-- An event's entry in its slot, before TOTAL counts it. -/
def LaneSt.slotWritten (x : LaneSt) (code e : Nat) : LaneSt :=
  ((x.wr (FLT.HIST_LO.ENTRY (code / 32) (x.nextSlot code)) (e % 2 ^ 64)).wr (FLT.HIST_HI.SOURCE (code / 32) (x.nextSlot code))
    (e / 2 ^ 64)).wr (FLT.HIST_NUM.NUMBER (code / 32) (x.nextSlot code)) (x.rd (FLT.TOTAL.COUNT (code / 32)))

theorem LaneSt.history_eq (x : LaneSt) (code e : Nat) : x.history code e = (x.slotWritten code e).inc (FLT.TOTAL.COUNT (code / 32)) := rfl

section
variable (x : LaneSt) (code e : Nat)

theorem LaneSt.nextSlot_lt : x.nextSlot code < 8 := Nat.mod_lt _ (by decide)

/-- The words beside the slot stand. -/
theorem LaneSt.slotWritten_word {o : Nat} (ho : o / 16 ≠ 0x540 + 8 * (code / 32) + x.nextSlot code) :
    (x.slotWritten code e).word o = x.word o := by
  have hlt := x.nextSlot_lt code
  unfold LaneSt.slotWritten
  generalize x.nextSlot code = j at *
  rw [LaneSt.word_wr_other _ (by simp only [FLT.HIST_NUM.NUMBER]; omega) (by simp [FLT.HIST_NUM.NUMBER]),
    LaneSt.word_wr_other _ (by simp only [FLT.HIST_HI.SOURCE]; omega) (by simp [FLT.HIST_HI.SOURCE]),
    LaneSt.word_wr_other _ (by simp only [FLT.HIST_LO.ENTRY]; omega) (by simp only [FLT.HIST_LO.ENTRY]; omega)]

/-- A history entry changes its slot and TOTAL of its block alone. -/
theorem LaneSt.history_word {o : Nat} (htotal : o ≠ 0x51C0 + 16 * (code / 32))
    (hslot : o / 16 ≠ 0x540 + 8 * (code / 32) + x.nextSlot code) : (x.history code e).word o = x.word o := by
  rw [LaneSt.history_eq, LaneSt.inc, LaneSt.word_wr_other _ htotal (by simp [FLT.TOTAL.COUNT]), LaneSt.slotWritten_word _ _ _ hslot]

end

/-- A field of the slot reads after the entry as before TOTAL counted it. -/
theorem LaneSt.rd_history_slot (x : LaneSt) {code : Nat} (hcode : code < 0x300) (e : Nat) {f : Field} (hf : 0x5400 ≤ f.off) :
    (x.history code e).rd f = (x.slotWritten code e).rd f := by
  have hword {o : Nat} (ho : 0x5400 ≤ o) : (x.history code e).word o = (x.slotWritten code e).word o :=
    LaneSt.word_wr_other _ (by simp only [FLT.TOTAL.COUNT]; omega) (by simp [FLT.TOTAL.COUNT]) _
  exact LaneSt.rd_of_words (hword hf) (hword (by omega))

section
variable {x : LaneSt} (h : x.regsWf) {code : Nat} (hcode : code < 0x300) (e : Nat)
include h

theorem LaneSt.regsWf_slotWritten : (x.slotWritten code e).regsWf :=
  LaneSt.regsWf_wr (LaneSt.regsWf_wr (LaneSt.regsWf_wr h _ _) _ _) _ _

include hcode

theorem LaneSt.rd_history_total :
    (x.history code e).rd (FLT.TOTAL.COUNT (code / 32)) = (x.rd (FLT.TOTAL.COUNT (code / 32)) + 1) % 2 ^ 32 := by
  have hstand : (x.slotWritten code e).rd (FLT.TOTAL.COUNT (code / 32)) = x.rd (FLT.TOTAL.COUNT (code / 32)) :=
    LaneSt.rd_of_word (by simp [FLT.TOTAL.COUNT]) (x.slotWritten_word code e (by simp only [FLT.TOTAL.COUNT]; omega))
  rw [LaneSt.history_eq, LaneSt.inc, LaneSt.rd_wr_same (LaneSt.regsWf_slotWritten h e) (by simp [FLT.TOTAL.COUNT]), hstand]
  rfl

theorem LaneSt.rd_history_number :
    (x.history code e).rd (FLT.HIST_NUM.NUMBER (code / 32) (x.nextSlot code)) = x.rd (FLT.TOTAL.COUNT (code / 32)) := by
  have hlt : x.rd (FLT.TOTAL.COUNT (code / 32)) < 2 ^ 32 := x.rd_lt (by simp [FLT.TOTAL.COUNT])
  rw [LaneSt.rd_history_slot x hcode e (by simp only [FLT.HIST_NUM.NUMBER]; omega), LaneSt.slotWritten,
    LaneSt.rd_wr_same (LaneSt.regsWf_wr (LaneSt.regsWf_wr h _ _) _ _) (by simp [FLT.HIST_NUM.NUMBER])]
  exact Nat.mod_eq_of_lt hlt

theorem LaneSt.rd_history_source :
    (x.history code e).rd (FLT.HIST_HI.SOURCE (code / 32) (x.nextSlot code)) = e / 2 ^ 64 % 2 ^ 8 := by
  rw [LaneSt.rd_history_slot x hcode e (by simp only [FLT.HIST_HI.SOURCE]; omega), LaneSt.slotWritten,
    LaneSt.rd_wr_ne _ (by simp only [FLT.HIST_HI.SOURCE, FLT.HIST_NUM.NUMBER]; omega) (by simp [FLT.HIST_NUM.NUMBER])
      (by simp [FLT.HIST_HI.SOURCE]), LaneSt.rd_wr_same (LaneSt.regsWf_wr h _ _) (by simp [FLT.HIST_HI.SOURCE])]
  rfl

theorem LaneSt.rd_history_entry :
    (x.history code e).rd (FLT.HIST_LO.ENTRY (code / 32) (x.nextSlot code)) = e % 2 ^ 64 := by
  rw [LaneSt.rd_history_slot x hcode e (by simp only [FLT.HIST_LO.ENTRY]; omega), LaneSt.slotWritten]
  have hbeside {y : LaneSt} {f : Field} (hw : f.width ≠ 64) (hlow : f.off ≠ (FLT.HIST_LO.ENTRY (code / 32) (x.nextSlot code)).off)
      (hhigh : f.off ≠ (FLT.HIST_LO.ENTRY (code / 32) (x.nextSlot code)).off + 4) (n : Nat) :
      (y.wr f n).rd (FLT.HIST_LO.ENTRY (code / 32) (x.nextSlot code)) = y.rd (FLT.HIST_LO.ENTRY (code / 32) (x.nextSlot code)) :=
    LaneSt.rd_of_words (LaneSt.word_wr_ne y hlow.symm hw n) (LaneSt.word_wr_ne y hhigh.symm hw n)
  rw [hbeside (by simp [FLT.HIST_NUM.NUMBER]), hbeside (by simp [FLT.HIST_HI.SOURCE]), LaneSt.rd_wr_pair h (by simp [FLT.HIST_LO.ENTRY]),
    Nat.mod_mod] <;> simp only [FLT.HIST_NUM.NUMBER, FLT.HIST_HI.SOURCE, FLT.HIST_LO.ENTRY] <;> omega

end

/-! ## The fields of an entry (R367) -/

theorem stampNs_lt (t32 : Bool) (ns : Nat) : stampNs t32 ns < 2 ^ 32 := by
  unfold stampNs
  split <;> omega

/-- What a history entry of source 0 holds. -/
structure EntryFields (x : LaneSt) (code e : Nat) : Prop where
  number : e / 2 ^ 54 = code
  reaction : e / 2 ^ 51 % 8 = x.reaction code 0
  cls : e / 2 ^ 49 % 4 = faultClass code
  form : e / 2 ^ 48 % 2 = b2n x.t32
  seconds : e / 2 ^ 32 % 2 ^ 16 = stampS x.t32 x.ns % 2 ^ 16
  nanoseconds : e % 2 ^ 32 = stampNs x.t32 x.ns / 10 * 10

theorem LaneSt.reaction_lt (x : LaneSt) {code : Nat} (hdefault : faultDefault code < 8) (source : Nat) : x.reaction code source < 8 := by
  unfold LaneSt.reaction
  split
  · decide
  · dsimp only
    split
    · exact hdefault
    · omega

section
variable (x : LaneSt) {code : Nat} (hdefault : faultDefault code < 8) (hcls : faultClass code < 4)
include hdefault hcls

theorem LaneSt.entry_lt (hcode : code < 0x400) : x.entry code 0 (x.reaction code 0) < 2 ^ 64 := by
  have hns := stampNs_lt x.t32 x.ns
  have hform : b2n x.t32 < 2 := by cases x.t32 <;> decide
  have hreaction := x.reaction_lt hdefault 0
  unfold LaneSt.entry
  dsimp only
  omega

theorem LaneSt.entryFields : EntryFields x code (x.entry code 0 (x.reaction code 0)) := by
  have hns := stampNs_lt x.t32 x.ns
  have hform : b2n x.t32 < 2 := by cases x.t32 <;> decide
  have hreaction := x.reaction_lt hdefault 0
  unfold LaneSt.entry
  extract_lets ns
  set s := stampS x.t32 x.ns % 2 ^ 16
  set e := (ns - ns % 10) + 2 ^ 32 * s + 2 ^ 48 * b2n x.t32 + 2 ^ 49 * faultClass code + 2 ^ 51 * x.reaction code 0 + 2 ^ 54 * code
    + 2 ^ 64 * (0 % 2 ^ 8) with he
  have hs : s < 2 ^ 16 := Nat.mod_lt _ (by decide)
  have h51 : e / 2 ^ 51 = x.reaction code 0 + 8 * code := by omega
  have h49 : e / 2 ^ 49 = faultClass code + 4 * (x.reaction code 0 + 8 * code) := by omega
  have h48 : e / 2 ^ 48 = b2n x.t32 + 2 * (faultClass code + 4 * (x.reaction code 0 + 8 * code)) := by omega
  have h32 : e / 2 ^ 32 = s + 2 ^ 16 * (b2n x.t32 + 2 * (faultClass code + 4 * (x.reaction code 0 + 8 * code))) := by omega
  refine ⟨?_, ?_, ?_, ?_, show _ = s from ?_, ?_⟩ <;> omega

end

/-! ## The obligation -/

/-- An event of the supplies or the temperature in the history of the PWR block. -/
theorem LaneSt.fault_supply {x : LaneSt} (h : x.regsWf) {code : Nat} (hblock : code / 32 = 15) (hevent : eventClass code = none)
    (hdefault : faultDefault code < 8) (hcls : faultClass code < 4) :
    let y := x.fault code 0
    let k := x.rd (FLT.TOTAL.COUNT 15)
    y.rd (FLT.TOTAL.COUNT 15) = (k + 1) % 2 ^ 32 ∧ EntryFields x code (y.rd (FLT.HIST_LO.ENTRY 15 (k % 8))) ∧
      y.rd (FLT.HIST_HI.SOURCE 15 (k % 8)) = 0 ∧ y.rd (FLT.HIST_NUM.NUMBER 15 (k % 8)) = k ∧
      (∀ j, j < 8 → j ≠ k % 8 → y.rd (FLT.HIST_LO.ENTRY 15 j) = x.rd (FLT.HIST_LO.ENTRY 15 j) ∧
        y.rd (FLT.HIST_HI.SOURCE 15 j) = x.rd (FLT.HIST_HI.SOURCE 15 j) ∧
        y.rd (FLT.HIST_NUM.NUMBER 15 j) = x.rd (FLT.HIST_NUM.NUMBER 15 j)) ∧
      (∀ b, b < 24 → b ≠ 15 → y.rd (FLT.TOTAL.COUNT b) = x.rd (FLT.TOTAL.COUNT b)) := by
  intro y k
  have hcode : code < 0x300 := by omega
  have hspoil : x.spoilProof code 0 = x := by rw [LaneSt.spoilProof, hevent]
  have hread {f : Field} (hf : f.Historic) : y.rd f = (x.history code (x.entry code 0 (x.reaction code 0))).rd f := by
    have hfault := x.fault_historic hcode 0 hf
    rwa [hspoil] at hfault
  have hslot : x.nextSlot code = k % 8 := by rw [LaneSt.nextSlot, hblock]
  have hk : k % 8 < 8 := Nat.mod_lt _ (by decide)
  have hstands {f : Field} (hf : f.Historic) (htotal : f.off ≠ 0x52B0) (htotal4 : f.off + 4 ≠ 0x52B0)
      (hbeside : f.off / 16 ≠ 0x5B8 + k % 8) (hbeside4 : (f.off + 4) / 16 ≠ 0x5B8 + k % 8) : y.rd f = x.rd f := by
    rw [hread hf]
    exact LaneSt.rd_of_words (x.history_word code _ (by omega) (by omega)) (x.history_word code _ (by omega) (by omega))
  refine ⟨?_, ?_, ?_, ?_, fun j hj hne => ⟨?_, ?_, ?_⟩, fun b hb hne => ?_⟩
  · rw [hread (historic_total (by decide)), ← hblock, LaneSt.rd_history_total h hcode, hblock]
  · rw [hread (historic_entry (by decide) hk), ← hslot, ← hblock, LaneSt.rd_history_entry h hcode]
    rw [Nat.mod_eq_of_lt (x.entry_lt hdefault hcls (by omega))]
    exact x.entryFields hdefault hcls
  · rw [hread (historic_source (by decide) hk), ← hslot, ← hblock, LaneSt.rd_history_source h hcode,
      Nat.div_eq_of_lt (x.entry_lt hdefault hcls (by omega))]
    decide
  · rw [hread (historic_number (by decide) hk), ← hslot, ← hblock, LaneSt.rd_history_number h hcode, hblock]
  · exact hstands (historic_entry (by decide) hj) (by simp only [FLT.HIST_LO.ENTRY]; omega) (by simp only [FLT.HIST_LO.ENTRY]; omega)
      (by simp only [FLT.HIST_LO.ENTRY]; omega) (by simp only [FLT.HIST_LO.ENTRY]; omega)
  · exact hstands (historic_source (by decide) hj) (by simp only [FLT.HIST_HI.SOURCE]; omega)
      (by simp only [FLT.HIST_HI.SOURCE]; omega) (by simp only [FLT.HIST_HI.SOURCE]; omega) (by simp only [FLT.HIST_HI.SOURCE]; omega)
  · rw [hread (historic_number (by decide) hj)]
    exact LaneSt.rd_of_word (by simp [FLT.HIST_NUM.NUMBER])
      (x.history_word code _ (by simp only [FLT.HIST_NUM.NUMBER]; omega) (by simp only [FLT.HIST_NUM.NUMBER]; omega))
  · exact hstands (historic_total hb) (by simp only [FLT.TOTAL.COUNT]; omega) (by simp only [FLT.TOTAL.COUNT]; omega)
      (by simp only [FLT.TOTAL.COUNT]; omega) (by simp only [FLT.TOTAL.COUNT]; omega)

/-- Settles O53: the monitors' events are faults of the PWR block, and nothing that a reaction does reaches a history. -/
theorem supplyEventsAreRecorded : Obligations.SupplyEventsAreRecorded := by
  unfold Obligations.SupplyEventsAreRecorded
  intro s l hc ⟨hoff, hnap⟩ hlow hhigh c code hmem x k
  have hfault (code : Nat) : x.monitor code 0 = x.fault code 0 :=
    LaneSt.monitor_past_bringUp hoff hnap (by omega) (by omega) code 0
  have hwf : x.regsWf := regsWf_of_canon (hc l)
  have hrun : exec c s = .next (s.setLane l (x.fault code 0)) ∧ code / 32 = 15 ∧ eventClass code = none ∧ faultDefault code < 8 ∧
      faultClass code < 4 := by
    simp only [List.mem_cons, Prod.mk.injEq, List.not_mem_nil, or_false] at hmem
    rcases hmem with ⟨rfl, rfl⟩ | ⟨rfl, rfl⟩ | ⟨rfl, rfl⟩ | ⟨rfl, rfl⟩
    · exact ⟨by rw [exec_vinUv, hfault], by decide, by decide, by decide, by decide⟩
    · exact ⟨by rw [exec_vioUv, hfault], by decide, by decide, by decide, by decide⟩
    · exact ⟨by rw [exec_tempWarn, hfault], by decide, by decide, by decide, by decide⟩
    · exact ⟨by rw [exec_tempTrip, hfault], by decide, by decide, by decide, by decide⟩
  obtain ⟨hexec, hblock, hevent, hdefault, hcls⟩ := hrun
  obtain ⟨htotal, hentry, hrest⟩ := LaneSt.fault_supply hwf hblock hevent hdefault hcls
  exact ⟨_, hexec, htotal, ⟨hentry.number, hentry.reaction, hentry.cls, hentry.form, hentry.seconds, hentry.nanoseconds⟩, hrest⟩

end Sys2Proof.Machine

/-!
SUPPORT. What an evaluation of the safety functions leaves alone, whatever stops and faults it brings: a property that neither
a plain field, nor an output brought to its commanded state, nor a history entry ends.
-/

namespace Sys2Proof.Machine

open Sys2Proof

/-- A sheltered property that an output brought to its commanded state and a history entry leave too. -/
structure Settled (I : LaneSt → Prop) : Prop extends Sheltered I where
  judgeOutput : ∀ {x : LaneSt}, I x → ∀ k, I (x.judgeOutput k)
  history : ∀ {x : LaneSt} {code : Nat}, code < 0x300 → I x → ∀ e, I (x.history code e)

section
variable {I : LaneSt → Prop} (hI : Settled I) {x : LaneSt}
include hI

theorem Settled.faulted {code : Nat} (hcode : code < 0x300) (source : Nat) (h : I x) : I (x.fault code source) :=
  hI.fault hcode source (fun e hy => hI.history hcode hy e) h

theorem Settled.judgeOutputs (h : I x) : I x.judgeOutputs :=
  foldl_range_holds (I := I) (m := 8) (f := LaneSt.judgeOutput) (fun _ k _ hy => hI.judgeOutput hy k) h

/-! ## Slots (R159) -/

omit hI in
theorem plain_loop {f : Field} {n : Nat} (hn : n < 128) (hlow : 0x10080 + 256 * n ≤ f.off) (hhigh : f.off < 0x10100 + 256 * n) : f.Plain :=
  plain_inner (by omega) (by omega)

theorem Settled.slotIdle {n : Nat} (hn : n < 128) (h : I x) : I (x.slotIdle n) := by
  have hwr {f : Field} (hlow : 0x10080 + 256 * n ≤ f.off) (hhigh : f.off < 0x10100 + 256 * n) {y : LaneSt} (hy : I y) : I (y.wr f 0) :=
    hI.wr (plain_loop hn hlow hhigh) hy 0
  unfold LaneSt.slotIdle
  extract_lets y1 y2
  have h1 : I y1 := by
    refine hwr ?_ ?_ (hwr ?_ ?_ (hwr ?_ ?_ (hwr ?_ ?_ h))) <;>
      simp only [LOOP.STATUS.STATE, LOOP.OUT.VALUE, LOOP.INTEG.VALUE, LOOP.DSTATE.VALUE] <;> omega
  have h2 : I y2 := by
    refine hwr ?_ ?_ (hwr ?_ ?_ h1) <;> simp only [LOOP.STATUS.SAT_HI, LOOP.STATUS.SAT_LO] <;> omega
  clear_value y2
  exact ite_holds (hI.stores h2 rfl rfl rfl rfl rfl) h2

theorem Settled.tuneAbort (n code arg : Nat) (h : I x) : I (x.tuneAbort n code arg) := hI.stores h rfl rfl rfl rfl rfl

theorem Settled.judgeSlot {n : Nat} (hn : n < 128) (h : I x) : I (x.judgeSlot n) := by
  unfold LaneSt.judgeSlot
  extract_lets st y1 y2
  have h1 : I y1 := by
    have hwr {f : Field} (hlow : 0x10080 + 256 * n ≤ f.off) (hhigh : f.off < 0x10100 + 256 * n) {y : LaneSt} (hy : I y) (v : Nat) :
        I (y.wr f v) := hI.wr (plain_loop hn hlow hhigh) hy v
    refine hwr ?_ ?_ (hwr ?_ ?_ (hwr ?_ ?_ h 1) 0) 0 <;> simp only [LOOP.STATUS.STATE, LOOP.INTEG.VALUE, LOOP.DSTATE.VALUE] <;> omega
  have h2 : I y2 := ite_holds (hI.tuneAbort _ _ _ h) h
  clear_value y1
  exact ite_holds (hI.stores h1 rfl rfl rfl rfl rfl) (ite_holds (hI.slotIdle hn h2) h)

theorem Settled.judgeSlots (h : I x) : I x.judgeSlots := by
  have hslots : I ((List.range 128).foldl LaneSt.judgeSlot x) :=
    foldl_range_holds (I := I) (m := 128) (f := LaneSt.judgeSlot) (fun _ _ hn hy => hI.judgeSlot hn hy) h
  exact foldl_range_holds (fun _ _ hm hy =>
    ite_holds hy (ite_holds (ite_holds (hI.setLeg (by omega) 1 hy) hy) (hI.setLeg (by omega) 0 hy))) hslots

/-! ## Generators (R126 to R134) -/

omit hI in
theorem plain_prof {f : Field} {g : Nat} (hg : g < 16) (hlow : 0x1E080 + 256 * g ≤ f.off) (hhigh : f.off < 0x1E100 + 256 * g) : f.Plain :=
  plain_inner (by omega) (by omega)

theorem Settled.setPg (g : Nat) (f : PgSt → PgSt) (h : I x) : I (x.setPg g f) := hI.stores h rfl rfl rfl rfl rfl

theorem Settled.setComm (n : Nat) (f : CommCh → CommCh) (h : I x) : I (x.setComm n f) := hI.stores h rfl rfl rfl rfl rfl

theorem Settled.discardQueue {g : Nat} (hg : g < 16) (h : I x) : I (x.discardQueue g) := by
  have hcount : (PROF.COUNTS.DISCARDED g).Plain :=
    plain_prof hg (by simp only [PROF.COUNTS.DISCARDED]; omega) (by simp only [PROF.COUNTS.DISCARDED]; omega)
  have hqueue : (PROF.STATUS.QUEUE g).Plain :=
    plain_prof hg (by simp only [PROF.STATUS.QUEUE]; omega) (by simp only [PROF.STATUS.QUEUE]; omega)
  exact hI.wr hqueue (hI.setPg g _ (foldl_range_holds (fun _ _ _ hy => hI.satInc (by decide) hcount hy) h)) 0

theorem Settled.discardBoth {n : Nat} (hn : n < 8) (h : I x) : I (x.discardBoth n) :=
  hI.discardQueue (by omega) (hI.discardQueue (by omega) h)

theorem Settled.dropHold {g : Nat} (hg : g < 16) (h : I x) : I (x.dropHold g) := by
  have hpending : (COMM.STATUS.REVERSAL_PENDING (g / 2)).Plain :=
    plain_inner (by simp only [COMM.STATUS.REVERSAL_PENDING]; omega) (by simp only [COMM.STATUS.REVERSAL_PENDING]; omega)
  have hdropped := hI.setPg g (fun s => { s with hold := none }) h
  exact ite_holds (ite_holds (hI.raise _ _ (hI.wr hpending hdropped 0)) hdropped) hdropped

theorem Settled.showPlanEnd {g : Nat} (hg : g < 16) (h : I x) : I (x.showPlanEnd g) := by
  unfold LaneSt.showPlanEnd
  split
  · exact h
  · exact hI.wr (plain_prof hg (by simp only [PROF.PLAN_END.TIME]; omega) (by simp only [PROF.PLAN_END.TIME]; omega)) h _

theorem Settled.setPlan {g : Nat} (hg : g < 16) (segs : List Seg) (shape : Nat) (target : Int) (stop : Bool) (h : I x) :
    I (x.setPlan g segs shape target stop) := by
  have htarget : (PROF.TARGET.VALUE g).Plain :=
    plain_prof hg (by simp only [PROF.TARGET.VALUE]; omega) (by simp only [PROF.TARGET.VALUE]; omega)
  have hshape : (PROF.STATUS.SHAPE g).Plain :=
    plain_prof hg (by simp only [PROF.STATUS.SHAPE]; omega) (by simp only [PROF.STATUS.SHAPE]; omega)
  have hreplans : (PROF.COUNTS.REPLANS g).Plain :=
    plain_prof hg (by simp only [PROF.COUNTS.REPLANS]; omega) (by simp only [PROF.COUNTS.REPLANS]; omega)
  exact hI.satInc (by decide) hreplans (hI.showPlanEnd hg (hI.wr hshape (hI.wr htarget (hI.setPg g _ (hI.dropHold hg h)) _) shape))

theorem Settled.replan {g : Nat} (hg : g < 16) (t kind : Nat) (v : Int) (stop redStop : Bool) (h : I x) :
    I (x.replan g t kind v stop redStop).1 := by
  unfold LaneSt.replan
  extract_lets s lim red b above vt b' segs y pt r
  have hy : I y := hI.setPg g _ (hI.setPlan hg _ _ _ _ h)
  split
  · exact hy
  · exact hI.setPlan hg _ _ _ _ h

theorem Settled.replanRest {g : Nat} (hg : g < 16) (t : Nat) (h : I x) : I (x.replanRest g t) := by
  unfold LaneSt.replanRest
  exact hI.setPg g _ (hI.setPlan hg _ _ _ _ h)

theorem Settled.stopGen {g : Nat} (hg : g < 16) (t : Nat) (force : Int) (h : I x) : I (x.stopGen g t force) := by
  have hstate : (PROF.STATUS.STATE g).Plain :=
    plain_prof hg (by simp only [PROF.STATUS.STATE]; omega) (by simp only [PROF.STATUS.STATE]; omega)
  have hplanned : I (if x.role g = 1 then x.replanRest g t
      else if x.role g = 2 then ((x.replan g t 2 force true false).1).setPg g (fun s => { s with ask := none }) else x) :=
    ite_holds (hI.replanRest hg t h) (ite_holds (hI.setPg g _ (hI.replan hg t 2 force true false h)) h)
  exact ite_holds hplanned (hI.wr hstate (hI.setPg g _ hplanned) _)

theorem Settled.stopGens {n : Nat} (hn : n < 8) (cause : Nat) (h : I x) : I (x.stopGens n cause) := by
  unfold LaneSt.stopGens
  extract_lets y one
  have hy : I y := ite_holds (hI.discardBoth hn h) h
  have hone {g : Nat} (hg : g < 16) {z : LaneSt} (hz : I z) : I (one z g) :=
    ite_holds (hI.stopGen hg _ _ hz) (ite_holds (hI.stopGen hg _ _ hz) hz)
  exact hone (by omega) (hone (by omega) hy)

/-! ## Channels (R32, R114, R191, R192) -/

omit hI in
theorem plain_commStatus {f : Field} {n : Nat} (hn : n < 8) (hoff : f.off = 0x19100 + 512 * n) : f.Plain := plain_inner (by omega) (by omega)

theorem Settled.setCh {n : Nat} (hn : n < 8) (st : Nat) (h : I x) : I (x.setCh n st) :=
  ite_holds h (hI.judgeOutputs (hI.judgeSlots (hI.raise _ _ (hI.wr (plain_commStatus hn rfl) h st))))

theorem Settled.windingK5 {n : Nat} (hn : n < 8) (h : I x) : I (x.windingK5 n) :=
  ite_holds h (ite_holds (hI.windingOff hn h) (hI.shortOn hn _ h))

/-- Descriptors completed one after the other. -/
theorem Settled.completed (ds : List Decided) (status detail result : Nat) (h : I x) :
    I (ds.foldl (fun l d => l.complete d status detail result) x) :=
  List.foldlRecOn (motive := I) _ _ h (fun _ hy _ _ => hI.stores hy rfl rfl rfl rfl rfl)

theorem Settled.clearRun (n : Nat) (h : I x) : I (x.clearRun n) := hI.stores h rfl rfl rfl rfl rfl

theorem Settled.endEnables (n status outcome : Nat) (h : I x) : I (x.endEnables n status outcome) := by
  unfold LaneSt.endEnables
  exact hI.setComm n _ (hI.completed _ status _ 0 h)

theorem Settled.endDisables (n : Nat) (h : I x) : I (x.endDisables n) := by
  unfold LaneSt.endDisables
  extract_lets c y
  have hy : I y := by
    unfold y
    cases c.disable with
    | none => exact h
    | some d => exact hI.stores h rfl rfl rfl rfl rfl
  exact hI.setComm n _ (hI.completed _ stOk (outcomeDetail 0 0) 0 hy)

theorem Settled.clearStop {n : Nat} (hn : n < 8) (h : I x) : I (x.clearStop n) :=
  hI.setComm n _ (hI.wr (plain_commStatus hn rfl) h 0)

theorem Settled.cut {n : Nat} (hn : n < 8) (dest : Nat) (k5 : Bool) (h : I x) : I (x.cut n dest k5) := by
  unfold LaneSt.cut
  extract_lets y1 y2 y3 y4
  have h1 : I y1 := ite_holds (hI.tuneAbort _ _ _ h) h
  have h2 : I y2 := hI.clearRun n (ite_holds (hI.windingK5 hn h1) (hI.windingSafe hn h1))
  have h3 : I y3 := hI.discardBoth hn (hI.endDisables n (hI.endEnables n _ _ h2))
  have h4 : I y4 := hI.stopGen (by omega) _ _ (hI.stopGen (by omega) _ _ h3)
  clear_value y4
  have hzero : I (y4.zeroTorque n) := hI.stores h4 rfl rfl rfl rfl rfl
  exact hI.setCh hn dest (hI.clearStop hn hzero)

theorem Settled.stopEntry {n : Nat} (hn : n < 8) (cause cat : Nat) (h : I x) : I (x.stopEntry n cause cat) := by
  unfold LaneSt.stopEntry
  extract_lets st mark runs y1 y2
  have hmark {y : LaneSt} (hy : I y) (c : Nat) : I (mark y c) := ite_holds (hI.setComm n _ hy) hy
  have h1 : I y1 := ite_holds (hI.discardBoth hn h) h
  have h2 : I y2 := ite_holds (hI.tuneAbort _ _ _ h) h
  exact ite_holds (hI.cut hn _ _ (hmark h 1)) (ite_holds (hI.cut hn _ _ (hmark h 1)) (ite_holds
    (ite_holds (hI.setComm n _ h1) (hI.stopGens hn _ (hI.wr (plain_commStatus hn rfl) (hmark h2 _) 1))) h))

/-! ## Safety functions (R327 to R334) -/

omit hI in
theorem plain_function {f : Field} (hw : f.width ≠ 64) (hlow : 0x2801C ≤ f.off) : f.Plain := plain_above hw (by omega) (by omega)

theorem Settled.setSio (f : SioSt → SioSt) (h : I x) : I (x.setSio f) := hI.stores h rfl rfl rfl rfl rfl

theorem Settled.xchgChanged (h : I x) : I x.xchgChanged := ite_holds (hI.send _ _ _ (hI.setSio _ h)) h

theorem Settled.sfCause (f cause m : Nat) (h : I x) : I (x.sfCause f cause m) := by
  refine hI.wr (plain_function ?_ ?_) (hI.wr (plain_function ?_ ?_) h cause) m <;>
    simp only [SIO.SF_STATUS.CAUSE, SIO.SF_STATUS.CAUSE_IN] <;> omega

theorem Settled.denyGrant (f code arg : Nat) (h : I x) : I (x.denyGrant f code arg) :=
  hI.setSio _ (hI.completed _ stDenied (reasonDetail code arg) 0 h)

theorem Settled.sfSummary (h : I x) : I x.sfSummary :=
  hI.wr (plain_function (by decide) (by decide)) (hI.wr (plain_function (by decide) (by decide)) h _) _

theorem Settled.setSf (f st : Nat) (h : I x) : I (x.setSf f st) := by
  have hstate : (SIO.SF_STATUS.STATE f).Plain :=
    plain_function (by simp [SIO.SF_STATUS.STATE]) (by simp only [SIO.SF_STATUS.STATE]; omega)
  exact ite_holds h (hI.judgeOutputs (hI.sfSummary (hI.raise 4 0 (hI.wr hstate h st))))

theorem Settled.sfStop (f : Nat) (h : I x) : I (x.sfStop f) := by
  have hstopping : (SIO.SF_STATUS.STOPPING f).Plain :=
    plain_function (by simp [SIO.SF_STATUS.STOPPING]) (by simp only [SIO.SF_STATUS.STOPPING]; omega)
  unfold LaneSt.sfStop
  extract_lets map cat1 y1 runs y2
  have h1 : I y1 := foldl_range_holds (fun _ n hn hy => ite_holds hy (ite_holds (hI.setComm n _ (hI.stopEntry hn _ _ hy))
    (ite_holds (hI.cut hn _ _ hy) (ite_holds (hI.windingK5 hn hy) hy)))) h
  have h2 : I y2 := ite_holds (hI.raise _ _ (hI.judgeOutputs (hI.wr hstopping h1 1))) h1
  clear_value y2
  exact ite_holds h2 (hI.stores h2 rfl rfl rfl rfl rfl)

omit hI in
theorem plain_sfCounts {f : Field} {i : Nat} (hw : f.width ≠ 64) (hoff : f.off = 0x28110 + 32 * i) : f.Plain := plain_function hw (by omega)

theorem Settled.sfToDemand (f cause m : Nat) (h : I x) : I (x.sfToDemand f cause m) := by
  unfold LaneSt.sfToDemand
  extract_lets was y1 y2 y3 y4
  have h2 : I y2 := hI.setSf f _ (hI.denyGrant f _ _ (hI.sfCause f cause m h))
  have h3 : I y3 := by
    refine hI.wr (plain_function ?_ ?_) (hI.wr (plain_function ?_ ?_) h2 _) _ <;> simp only [SIO.SF_STAMP.NS, SIO.SF_STAMP.S] <;> omega
  have h4 : I y4 := by
    refine hI.satInc (by decide) (plain_sfCounts (i := f) (by simp [SIO.SF_COUNTS.DEMANDS]) rfl) (hI.wr (plain_function ?_ ?_) h3 _) <;>
      simp only [SIO.SF_STAMP.T32] <;> omega
  exact ite_holds h2 (hI.faulted (by decide) f (hI.raise _ _ (hI.judgeOutputs (hI.sfStop f h4))))

theorem Settled.sfToFault (f m : Nat) (h : I x) : I (x.sfToFault f m) := by
  have hfault := hI.setSf f sfFault (hI.denyGrant f 0x57 (x.sfFaulty f) (hI.sfCause f (x.faultCause f m) m h))
  have hcounted := hI.satInc (b := 13) (by decide) (plain_sfCounts (f := SIO.SF_COUNTS.FAULTS f) (i := f) (by simp [SIO.SF_COUNTS.FAULTS]) rfl)
    hfault
  exact hI.faulted (code := 0x1A7) (by decide) f (hI.raise 4 2 (hI.judgeOutputs (hI.sfStop f hcounted)))

theorem Settled.evalSf (f : Nat) (h : I x) : I (x.evalSf f) := by
  have hstatus {g : Field} (hoff : g.off = 0x2810C + 32 * f) (hw : g.width ≠ 64) {y : LaneSt} (hy : I y) (v : Nat) : I (y.wr g v) :=
    hI.wr (plain_function hw (by omega)) hy v
  unfold LaneSt.evalSf
  extract_lets bad old new y1 out y2 y3 y4 dem
  have h1 : I y1 := ite_holds (hI.sfCause _ _ _ h) h
  have h2 : I y2 := ite_holds (hI.sfCause _ _ _ (hstatus (g := SIO.SF_STATUS.OUT_FAULT f) rfl (by simp [SIO.SF_STATUS.OUT_FAULT]) h1 1)) h1
  have h3 : I y3 := hstatus rfl (by simp [SIO.SF_STATUS.CH_FAULT]) h2 bad
  have h4 : I y4 := ite_holds (hstatus rfl (by simp [SIO.SF_STATUS.RESTART_REFUSED]) h3 1) h3
  exact ite_holds h (ite_holds h4 (ite_holds (hI.sfToFault f _ h4)
    (ite_holds (hI.sfToDemand f _ _ h4) (ite_holds (hI.setSf f _ h4) h4))))

theorem Settled.evalSafety (h : I x) : I x.evalSafety :=
  hI.xchgChanged (foldl_range_holds (I := I) (m := 16) (f := LaneSt.evalSf) (fun _ f _ hy => hI.evalSf f hy) h)

end

/-! ## An output off and latched (R341) -/

/-- Setting a bit changes that bit and no other. -/
theorem bit_setBit (n i : Nat) (b : Bool) (j : Nat) : bit (setBit n i b) j = if j = i then b else bit n j := by
  cases b with
  | true =>
    rw [setBit, if_pos rfl, bit, bit, Nat.testBit_or, Nat.testBit_two_pow]
    split
    case isTrue h => simp [h]
    case isFalse h => simp [Ne.symm h]
  | false =>
    have hsub : setBit n i false = n - (n &&& 2 ^ i) := by
      rw [setBit, if_neg (by decide), Nat.and_two_pow]
      cases n.testBit i <;> simp
    rw [hsub, bit_sub_and, bit, bit, Nat.testBit_two_pow]
    split
    case isTrue h => simp [h]
    case isFalse h => simp [Ne.symm h]

/-- A sound register file with output `k` off and latched. -/
structure OutputOff (k : Nat) (x : LaneSt) : Prop where
  wf : x.regsWf
  off : bit (x.rd SIO.SO_STATUS.ON) k = false
  latched : bit (x.rd SIO.SO_STATUS.FAULT) k = true

section
variable {k : Nat} {x y : LaneSt} (h : OutputOff k x)
include h

theorem OutputOff.of_word (hwf : y.regsWf) (hword : y.word 0x28018 = x.word 0x28018) : OutputOff k y := by
  have hon : y.rd SIO.SO_STATUS.ON = x.rd SIO.SO_STATUS.ON := LaneSt.rd_of_word (by decide) hword
  have hfault : y.rd SIO.SO_STATUS.FAULT = x.rd SIO.SO_STATUS.FAULT := LaneSt.rd_of_word (by decide) hword
  exact ⟨hwf, by rw [hon]; exact h.off, by rw [hfault]; exact h.latched⟩

theorem OutputOff.of_stores (hid : y.id = x.id) (hregs : y.regs = x.regs) : OutputOff k y :=
  h.of_word (LaneSt.regsWf_congr hid hregs h.wf) (LaneSt.word_congr hid hregs 0x28018)

theorem OutputOff.wr {f : Field} (hf : f.off ≠ 0x28018) (hpair : f.width = 64 → f.off + 4 ≠ 0x28018) (n : Nat) : OutputOff k (x.wr f n) :=
  h.of_word (LaneSt.regsWf_wr h.wf f n) (x.word_wr_other hf.symm (fun hw => (hpair hw).symm) n)

/-- Another output switched, or this one switched off. -/
theorem OutputOff.soChange {i : Nat} {on : Bool} (hon : i = k → on = false) : OutputOff k (x.soChange i on) := by
  have hchanged : OutputOff k (x.wr SIO.SO_STATUS.ON (setBit (x.rd SIO.SO_STATUS.ON) i on)) := by
    refine ⟨LaneSt.regsWf_wr h.wf _ _, ?_, ?_⟩
    · rw [LaneSt.rd_wr_same h.wf (by decide), bit, Nat.testBit_mod_two_pow, ← bit, bit_setBit]
      split
      case isTrue hk => simp [hon hk.symm]
      case isFalse => simp [h.off]
    · rw [LaneSt.rd_wr_disjoint (f := SIO.SO_STATUS.ON) (g := SIO.SO_STATUS.FAULT) h.wf rfl (by decide) (by decide) (by decide)]
      exact h.latched
  exact hchanged.of_stores rfl rfl

theorem OutputOff.soOff (i : Nat) : OutputOff k (x.soOff i) := by
  unfold LaneSt.soOff
  split
  · exact h.soChange (fun _ => rfl)
  · exact h

/-- A latched output is not to be energized (R341). -/
theorem OutputOff.unwanted : x.soWanted k = false := by
  unfold LaneSt.soWanted
  simp [h.latched]

theorem OutputOff.judgeOutput (i : Nat) : OutputOff k (x.judgeOutput i) := by
  unfold LaneSt.judgeOutput
  dsimp only
  split
  case isTrue hwanted =>
    have hother : i ≠ k := fun hi => by simp [hi, h.unwanted] at hwanted
    have hops : (SIO.SO_OPS.COUNT i).off ≠ 0x28018 := by
      simp only [SIO.SO_OPS.COUNT]
      omega
    exact ite_holds h ((h.soChange (fun hi => absurd hi hother)).wr hops (by simp [SIO.SO_OPS.COUNT]) _)
  case isFalse => exact h.soOff i

end

theorem settled_outputOff (k : Nat) : Settled (OutputOff k) where
  stores h hid hregs _ _ _ := h.of_stores hid hregs
  wr hf h n := h.wr hf.low.output (fun hw => (hf.high hw).output) n
  soOff h i := h.soOff i
  judgeOutput h i := h.judgeOutput i
  history {x code} hcode h e := by
    have hslot := x.nextSlot_lt code
    exact h.of_word (LaneSt.regsWf_wr (LaneSt.regsWf_slotWritten h.wf e) _ _) (x.history_word code e (by omega) (by omega))

theorem sheltered_regsWf : Sheltered LaneSt.regsWf where
  stores h hid hregs _ _ _ := LaneSt.regsWf_congr hid hregs h
  wr _ h n := LaneSt.regsWf_wr h _ n
  soOff h k := by
    unfold LaneSt.soOff
    exact ite_holds (LaneSt.regsWf_wr h _ _) h

section
variable {x : LaneSt} (hx : x.regsWf) {k : Nat}
include hx

theorem LaneSt.soOff_off : bit ((x.soOff k).rd SIO.SO_STATUS.ON) k = false := by
  unfold LaneSt.soOff
  split
  case isTrue =>
    have hread : (x.soChange k false).rd SIO.SO_STATUS.ON = setBit (x.rd SIO.SO_STATUS.ON) k false % 2 ^ 8 :=
      LaneSt.rd_wr_same hx (by decide) _
    rw [hread, bit, Nat.testBit_mod_two_pow, ← bit, bit_setBit, if_pos rfl, Bool.and_false]
  case isFalse hoff => simpa using hoff

/-- An output switched off and its latch set. -/
theorem OutputOff.of_latch (hk : k < 8) : OutputOff k ((x.soOff k).wr SIO.SO_STATUS.FAULT (setBit (x.rd SIO.SO_STATUS.FAULT) k true)) := by
  have hwf : (x.soOff k).regsWf := sheltered_regsWf.soOff hx k
  refine ⟨LaneSt.regsWf_wr hwf _ _, ?_, ?_⟩
  · rw [LaneSt.rd_wr_disjoint (f := SIO.SO_STATUS.FAULT) (g := SIO.SO_STATUS.ON) hwf rfl (by decide) (by decide) (by decide)]
    exact LaneSt.soOff_off hx
  · rw [LaneSt.rd_wr_same hwf (by decide), bit, Nat.testBit_mod_two_pow, ← bit, bit_setBit_same]
    simp [SIO.SO_STATUS.FAULT, hk]

/-- An output latched faulty stays off and latched through the reaction and the evaluation that follow. -/
theorem LaneSt.soLatch_off (hk : k < 8) {code : Nat} (hcode : code < 0x300) : OutputOff k (x.soLatch k code) := by
  have hI := settled_outputOff k
  unfold LaneSt.soLatch
  extract_lets y1 role y2 y3 y4
  have h1 : OutputOff k y1 := OutputOff.of_latch hx hk
  have h2 : OutputOff k y2 := ite_holds (hI.setBlk _ _ h1) h1
  have h3 : OutputOff k y3 := hI.faulted hcode k (hI.raise 4 3 h2)
  have h4 : OutputOff k y4 := ite_holds (hI.exclude _ h3) h3
  exact hI.evalSafety h4

theorem LaneSt.regsWf_edmShown : (x.edmShown k).regsWf :=
  LaneSt.regsWf_congr rfl rfl (sheltered_regsWf.raise 4 4 (LaneSt.regsWf_wr (LaneSt.regsWf_wr hx _ _) _ _))

end

/-- Settles O47: once off and latched, an output is neither wanted by its role nor switched on by a stop or a reaction. -/
theorem faultyOutputIsOffAndLatched : Obligations.FaultyOutputIsOffAndLatched := by
  unfold Obligations.FaultyOutputIsOffAndLatched
  intro s l k hc x off
  have hx : x.regsWf := regsWf_of_canon (hc l)
  have hlatch {c : Instr} {y : LaneSt} {code : Nat} (hrun : exec c s = .next (s.setLane l (y.soLatch k.val code))) (hy : y.regsWf)
      (hcode : code < 0x300) : off c := by
    have hoff := LaneSt.soLatch_off hy k.isLt hcode
    exact ⟨_, hrun, hoff.off, hoff.latched⟩
  refine ⟨fun dark htest => ?_, fun hen hrole hedm => ?_, fun hon => ?_⟩
  · refine hlatch (y := x.testEnded k.val dark) (code := 0x1A5) ?_ (LaneSt.regsWf_congr rfl rfl hx) (by decide)
    rw [exec_soTestEnd, LaneSt.soTestEnd_running htest, if_neg (by decide)]
  · refine hlatch (y := x.edmShown k.val) (code := 0x1A6) ?_ (LaneSt.regsWf_edmShown hx) (by decide)
    rw [exec_edmFault, LaneSt.edmFault_monitored hen hrole hedm]
  · exact hlatch (exec_soOverload hon) hx (by decide)

end Sys2Proof.Machine

/-!
SUPPORT. What a reset with a cold bring-up leaves of a lane: the words that stand in NVM, and the stores beside the registers.
-/

namespace Sys2Proof.Machine

open Sys2Proof

/-! ## Words taken over -/

/-- A lane without its registers. -/
def LaneSt.bare (x : LaneSt) : LaneSt := { x with regs := [] }

section
variable (x : LaneSt)

theorem LaneSt.bare_id : x.bare.id = x.id := rfl

@[simp] theorem LaneSt.setWord_bare (o : Nat) (w : Word) : (x.setWord o w).bare = x.bare := rfl

@[simp] theorem LaneSt.wr_bare (f : Field) (n : Nat) : (x.wr f n).bare = x.bare := by
  unfold LaneSt.wr
  split <;> rfl

@[simp] theorem LaneSt.wrB_bare (f : Field) (b : Bool) : (x.wrB f b).bare = x.bare := LaneSt.wr_bare ..

@[simp] theorem LaneSt.keepWords_bare (src : Nat → Word) (offs : List Nat) : (x.keepWords src offs).bare = x.bare :=
  foldl_keep LaneSt.bare (fun (y : LaneSt) o => y.setWord o (src o)) (fun y o => y.setWord_bare o _) offs x

@[simp] theorem LaneSt.takeFields_bare (d : LaneSt) (fs : List Field) : (x.takeFields d fs).bare = x.bare :=
  foldl_keep LaneSt.bare _ (fun y f => y.wr_bare f _) fs x

end

theorem LaneSt.regsWf_keepWords {x : LaneSt} (h : x.regsWf) (src : Nat → Word) (offs : List Nat) : (x.keepWords src offs).regsWf :=
  List.foldlRecOn (motive := LaneSt.regsWf) _ _ h (fun _ hy _ _ => LaneSt.regsWf_setWord hy _ _)

/-- A word taken over reads as in the source, another as before. -/
theorem LaneSt.word_keepWords {x : LaneSt} (h : x.regsWf) (src : Nat → Word) (offs : List Nat) (o : Nat) :
    (x.keepWords src offs).word o = if o ∈ offs then src o else x.word o := by
  induction offs generalizing x with
  | nil => rfl
  | cons a rest ih =>
    have hstep : x.keepWords src (a :: rest) = (x.setWord a (src a)).keepWords src rest := rfl
    rw [hstep, ih (LaneSt.regsWf_setWord h _ _)]
    by_cases hrest : o ∈ rest
    · simp [hrest]
    · by_cases ha : o = a
      · subst ha
        simp [hrest, LaneSt.word_setWord_same h]
      · simp [hrest, ha, LaneSt.word_setWord_ne]

theorem LaneSt.regsWf_takeFields {x : LaneSt} (h : x.regsWf) (d : LaneSt) (fs : List Field) : (x.takeFields d fs).regsWf :=
  List.foldlRecOn (motive := LaneSt.regsWf) _ _ h (fun _ hy _ _ => LaneSt.regsWf_wr hy _ _)

/-- Fields taken over leave the other words. -/
theorem LaneSt.word_takeFields (x d : LaneSt) {fs : List Field} {o : Nat} (h : ∀ f ∈ fs, o ≠ f.off ∧ f.width ≠ 64) :
    (x.takeFields d fs).word o = x.word o :=
  List.foldlRecOn (motive := fun y => y.word o = x.word o) _ (fun (y : LaneSt) f => y.wr f (d.rd f)) rfl
    (fun y hy f hf => (y.word_wr_ne (h f hf).1 (h f hf).2 _).trans hy)

/-! ## The cleared lane (R438) -/

/-- The stores of a cleared lane: reset but for what stands in NVM, and what the lane has sent. -/
def LaneSt.clearedStores (x : LaneSt) : LaneSt :=
  let z := LaneSt.reset x.id
  { z with
    sec := { z.sec with pwHash := x.sec.pwHash, fleetKeys := x.sec.fleetKeys, fw := x.sec.fw, saks := x.sec.saks,
                        copies := x.sec.copies, log := x.sec.log, ownRecord := x.sec.ownRecord, colophonOk := x.sec.colophonOk },
    mem := { z.mem with nvm := x.mem.nvm, telSaved := x.mem.telSaved },
    net := { z.net with sent := x.net.sent, canSent := x.net.canSent }, posted := x.posted, free := x.free }

/-- The fields of a cleared lane that are taken over beside the words of NVM. -/
def clearedFields : List Field := [SEC.STATUS.PW_SET, SEC.STATUS.KEYS_OK, SEC.STATUS.FAILS, PWR.COUNTS.BROWNOUTS]

section
variable (x : LaneSt)

theorem LaneSt.cleared_eq :
    x.cleared = ((x.clearedStores.keepWords x.word nvmWords).wr SEC.FW_STATUS.STAGING 0).takeFields x clearedFields := rfl

theorem LaneSt.cleared_bare : x.cleared.bare = x.clearedStores := by
  rw [LaneSt.cleared_eq, LaneSt.takeFields_bare, LaneSt.wr_bare, LaneSt.keepWords_bare]
  rfl

theorem LaneSt.regsWf_clearedStores : x.clearedStores.regsWf := rfl

theorem LaneSt.regsWf_cleared : x.cleared.regsWf :=
  LaneSt.regsWf_takeFields (LaneSt.regsWf_wr (LaneSt.regsWf_keepWords x.regsWf_clearedStores _ _) _ _) _ _

/-- A word that is none of SEC.STATUS, PWR.COUNTS and FW_STATUS keeps its value where it stands in NVM and is at reset elsewhere. -/
theorem LaneSt.cleared_word {o : Nat} (ho : o ∉ [0x7004, 0x102C, 0x7040]) :
    x.cleared.word o = if o ∈ nvmWords then x.word o else regReset x.id o := by
  simp only [List.mem_cons, List.not_mem_nil, or_false, not_or] at ho
  obtain ⟨hsec, hpwr, hfw⟩ := ho
  rw [LaneSt.cleared_eq, LaneSt.word_takeFields, LaneSt.word_wr_ne _ hfw (by decide), LaneSt.word_keepWords x.regsWf_clearedStores]
  · rfl
  · intro f hf
    simp only [clearedFields, List.mem_cons, List.not_mem_nil, or_false] at hf
    rcases hf with rfl | rfl | rfl | rfl
    · exact ⟨hsec, by decide⟩
    · exact ⟨hsec, by decide⟩
    · exact ⟨hsec, by decide⟩
    · exact ⟨hpwr, by decide⟩

end

/-! ## The cold reset (R437 to R439) -/

/-- The registers that show a full proof released. -/
def LaneSt.fullProofShown (x : LaneSt) (readmission : Bool) : LaneSt :=
  (((x.wr BIST.STATUS.FULL_RUNNING 1).wr BIST.STATUS.FULL_WAIT 0).wr BIST.LAST_FULL.RESULT 2).wrB BIST.LAST_FULL.READMISSION readmission
    |>.wr BIST.LAST_FULL.FAIL_STEP 0

theorem LaneSt.proofReleased_eq (x : LaneSt) (readmission : Bool) : x.proofReleased readmission =
    (x.fullProofShown readmission).setBlk (x.fullProofShown readmission).id (fun b => { b with proof := 2 }) := rfl

section
variable (x : LaneSt) (readmission : Bool)

/-- The release of a full proof changes BIST.STATUS and BIST.LAST_FULL alone of the registers. -/
theorem LaneSt.proofReleased_word {o : Nat} (hstatus : o ≠ 0x6004) (hlast : o ≠ 0x6008) :
    (x.proofReleased readmission).word o = x.word o := by
  have hshown : (x.fullProofShown readmission).word o = x.word o := by
    unfold LaneSt.fullProofShown LaneSt.wrB
    rw [LaneSt.word_wr_ne _ hlast (by decide), LaneSt.word_wr_ne _ hlast (by decide), LaneSt.word_wr_ne _ hlast (by decide),
      LaneSt.word_wr_ne _ hstatus (by decide), LaneSt.word_wr_ne _ hstatus (by decide)]
  rw [LaneSt.proofReleased_eq, ← hshown]
  exact LaneSt.word_congr rfl rfl o

theorem LaneSt.proofReleased_running (h : x.regsWf) : (x.proofReleased readmission).rd BIST.STATUS.FULL_RUNNING = 1 := by
  have hshown : (x.fullProofShown readmission).rd BIST.STATUS.FULL_RUNNING = 1 := by
    unfold LaneSt.fullProofShown LaneSt.wrB
    rw [LaneSt.rd_wr_ne _ (by decide) (by decide) (by decide), LaneSt.rd_wr_ne _ (by decide) (by decide) (by decide),
      LaneSt.rd_wr_ne _ (by decide) (by decide) (by decide),
      LaneSt.rd_wr_disjoint (f := BIST.STATUS.FULL_WAIT) (g := BIST.STATUS.FULL_RUNNING) (LaneSt.regsWf_wr h _ _) rfl (by decide)
        (by decide) (by decide), LaneSt.rd_wr_same h (by decide)]
    decide
  rw [LaneSt.proofReleased_eq, ← hshown]
  exact LaneSt.rd_of_word (by decide) (LaneSt.word_congr rfl rfl _)

theorem LaneSt.proofReleased_bare : (x.proofReleased readmission).bare = x.bare.setBlk x.id (fun b => { b with proof := 2 }) := by
  have hshown : (x.fullProofShown readmission).bare = x.bare := by simp [LaneSt.fullProofShown]
  have hid : (x.fullProofShown readmission).id = x.id := by rw [← LaneSt.bare_id, hshown, LaneSt.bare_id]
  rw [LaneSt.proofReleased_eq, hid, ← hshown]
  rfl

end

/-- The words that a cold reset writes beside those it keeps or clears. -/
def coldWords : List Nat := [0x7004, 0x102C, 0x7040, 0x1024, 0x1020, 0x6004, 0x6008]

section
variable (x : LaneSt) {cause : Nat} (hcause : cause < 3)
include hcause

theorem LaneSt.coldReset_eq : x.coldReset cause =
    ((x.cleared.wr PWR.RESET_CAUSE.CAUSE cause).wr PWR.STATUS.PADS_LATCHED 1).proofReleased false := by
  have hother : ¬(cause = 3 ∨ cause = 4) := by omega
  unfold LaneSt.coldReset
  dsimp only
  rw [if_neg hother]

/-- The words of a cold reset: NVM as before, the rest at reset. -/
theorem LaneSt.coldReset_word {o : Nat} (ho : o ∉ coldWords) :
    (x.coldReset cause).word o = if o ∈ nvmWords then x.word o else regReset x.id o := by
  simp only [coldWords, List.mem_cons, List.not_mem_nil, or_false, not_or] at ho
  obtain ⟨hsec, hcounts, hfw, hreset, hstatus, hproof, hlast⟩ := ho
  rw [x.coldReset_eq hcause, LaneSt.proofReleased_word _ _ hproof hlast, LaneSt.word_wr_ne _ hstatus (by decide),
    LaneSt.word_wr_ne _ hreset (by decide), x.cleared_word (by simp [hsec, hcounts, hfw])]

/-- A field outside NVM and the words that a cold reset writes reads as at reset. -/
theorem LaneSt.coldReset_rd {f : Field} (hw : f.width ≠ 64) (ho : f.off ∉ coldWords)
    (hnvm : f.off ∉ nvmWords) : (x.coldReset cause).rd f = (LaneSt.reset x.id).rd f := by
  refine LaneSt.rd_of_word hw ?_
  rw [x.coldReset_word hcause ho, if_neg hnvm]
  rfl

theorem LaneSt.coldReset_cause : (x.coldReset cause).rd PWR.RESET_CAUSE.CAUSE = cause := by
  have hword : (x.coldReset cause).word 0x1024 = (x.cleared.wr PWR.RESET_CAUSE.CAUSE cause).word 0x1024 := by
    rw [x.coldReset_eq hcause, LaneSt.proofReleased_word _ _ (by decide) (by decide), LaneSt.word_wr_ne _ (by decide) (by decide)]
  rw [LaneSt.rd_of_word (f := PWR.RESET_CAUSE.CAUSE) (by decide) hword, LaneSt.rd_wr_same x.regsWf_cleared (by decide)]
  exact Nat.mod_eq_of_lt (hcause.trans (by decide))

theorem LaneSt.coldReset_state : (x.coldReset cause).rd PWR.STATUS.STATE = (LaneSt.reset x.id).rd PWR.STATUS.STATE := by
  have hword : (x.coldReset cause).word 0x1020 = ((x.cleared.wr PWR.RESET_CAUSE.CAUSE cause).wr PWR.STATUS.PADS_LATCHED 1).word 0x1020 := by
    rw [x.coldReset_eq hcause, LaneSt.proofReleased_word _ _ (by decide) (by decide)]
  rw [LaneSt.rd_of_word (f := PWR.STATUS.STATE) (by decide) hword,
    LaneSt.rd_wr_disjoint (f := PWR.STATUS.PADS_LATCHED) (g := PWR.STATUS.STATE) (LaneSt.regsWf_wr x.regsWf_cleared _ _) rfl (by decide)
      (by decide) (by decide), LaneSt.rd_wr_ne _ (by decide) (by decide) (by decide)]
  refine LaneSt.rd_of_word (by decide) ?_
  exact (x.cleared_word (by decide)).trans (if_neg (by decide))

theorem LaneSt.coldReset_running : (x.coldReset cause).rd BIST.STATUS.FULL_RUNNING = 1 := by
  rw [x.coldReset_eq hcause]
  exact LaneSt.proofReleased_running _ false (LaneSt.regsWf_wr (LaneSt.regsWf_wr x.regsWf_cleared _ _) _ _)

/-- The stores beside the registers after a cold reset are those of a cleared lane, with its proof waited for. -/
theorem LaneSt.coldReset_bare :
    (x.coldReset cause).bare = x.clearedStores.setBlk x.id (fun b => { b with proof := 2 }) := by
  have hid : x.cleared.id = x.id := by
    rw [← LaneSt.bare_id, x.cleared_bare]
    rfl
  rw [x.coldReset_eq hcause, LaneSt.proofReleased_bare, LaneSt.wr_bare, LaneSt.wr_bare, x.cleared_bare, LaneSt.wr_id, LaneSt.wr_id, hid]

end

/-- The counts and states that a cold reset starts anew, at reset. -/
def coldValues (k : LaneId) : Bool :=
  let x := LaneSt.reset k
  x.rd VOTE.STATUS.READMITS == 0 &&
    (List.range 16).all (fun n => x.rd (HIF.SG_CONSUMED.COUNT n) == 0 && x.rd (HIF.CG_WRITTEN.COUNT n) == 0)

theorem coldValues_hold (k : LaneId) : coldValues k = true := by
  cases k <;> decide +kernel

theorem nvmWords_above : ∀ o ∈ nvmWords, 0x7020 ≤ o := by decide +kernel

/-- FW_STATUS is the one word of NVM that a cold reset writes. -/
theorem nvmWords_coldWords : ∀ o ∈ nvmWords, o ∈ coldWords → o = SEC.FW_STATUS.STAGING.off := by
  decide +kernel

/-- Settles O58: each register of the statement stands either in NVM or at its reset value. -/
theorem coldResetKeepsOnlyNvm : Obligations.ColdResetKeepsOnlyNvm := by
  unfold Obligations.ColdResetKeepsOnlyNvm
  intro s l hc c cause hmem hoff x
  have hrun : exec c s = .next (s.setLane l (x.coldReset cause)) ∧ cause < 3 := by
    simp only [List.mem_cons, Prod.mk.injEq, List.not_mem_nil, or_false] at hmem
    rcases hmem with ⟨rfl, rfl⟩ | ⟨rfl, rfl⟩
    · exact ⟨exec_powerOn (by simpa using hoff), by decide⟩
    · exact ⟨exec_pinReset (by simpa using hoff), by decide⟩
  obtain ⟨hexec, hcause⟩ := hrun
  have hreset {f : Field} (hw : f.width ≠ 64) (ho : f.off ∉ coldWords)
      (hnvm : f.off ∉ nvmWords) : (x.coldReset cause).rd f = (LaneSt.reset x.id).rd f := x.coldReset_rd hcause hw ho hnvm
  have hbare := x.coldReset_bare hcause
  have hvalues := resetValues_hold x.id
  simp only [resetValues, Bool.and_eq_true, beq_iff_eq, List.all_eq_true, List.mem_range] at hvalues
  obtain ⟨⟨⟨⟨⟨⟨⟨⟨⟨hstate, -⟩, hself⟩, hmembers⟩, hseal⟩, -⟩, -⟩, -⟩, hfaults⟩, -⟩ := hvalues
  have hcold := coldValues_hold x.id
  simp only [coldValues, Bool.and_eq_true, beq_iff_eq, List.all_eq_true, List.mem_range] at hcold
  obtain ⟨hreadmits, hgalleys⟩ := hcold
  refine ⟨_, hexec, x.coldReset_cause hcause, (x.coldReset_state hcause).trans hstate, x.coldReset_running hcause,
    (hreset (by decide) (by decide) (by decide)).trans hself, (hreset (by decide) (by decide) (by decide)).trans hmembers,
    (hreset (by decide) (by decide) (by decide)).trans hseal, (hreset (by decide) (by decide) (by decide)).trans hreadmits,
    fun b hb => ?_, fun n hn => ?_, congrArg LaneSt.hif hbare, congrArg LaneSt.commit hbare, congrArg (fun y => y.sec.session) hbare,
    congrArg LaneSt.staging hbare, congrArg LaneSt.pwr hbare, congrArg (fun y => y.sec.pwHash) hbare,
    congrArg (fun y => y.sec.copies) hbare, congrArg (fun y => y.sec.log) hbare, congrArg (fun y => y.sec.fleetKeys) hbare,
    congrArg (fun y => y.sec.fw) hbare, congrArg (fun y => y.mem.nvm) hbare, fun off hnvm hfw => ?_⟩
  · have hword : (FLT.TOTAL.COUNT b).off ∉ coldWords := by
      simp only [FLT.TOTAL.COUNT, coldWords, List.mem_cons, List.not_mem_nil, or_false]
      omega
    have hnvm : (FLT.TOTAL.COUNT b).off ∉ nvmWords := fun hmem => by
      have habove := nvmWords_above _ hmem
      simp only [FLT.TOTAL.COUNT] at habove
      omega
    exact (hreset (by simp [FLT.TOTAL.COUNT]) hword hnvm).trans (hfaults b hb)
  · have hgalley {f : Field} (hw : f.width ≠ 64) (hlow : 0x3300 ≤ f.off) (hhigh : f.off < 0x3380) :
        (x.coldReset cause).rd f = (LaneSt.reset x.id).rd f := by
      refine hreset hw ?_ (fun hmem => ?_)
      · simp only [coldWords, List.mem_cons, List.not_mem_nil, or_false]
        omega
      · have habove := nvmWords_above _ hmem
        omega
    refine ⟨(hgalley ?_ ?_ ?_).trans (hgalleys n hn).1, (hgalley ?_ ?_ ?_).trans (hgalleys n hn).2⟩ <;>
      simp only [HIF.SG_CONSUMED.COUNT, HIF.CG_WRITTEN.COUNT] <;> omega
  · have hword : off ∉ coldWords := fun hmem =>
      hfw (nvmWords_coldWords off hnvm hmem)
    rw [x.coldReset_word hcause hword, if_pos hnvm]

end Sys2Proof.Machine

/-!
SUPPORT. NAP entry with a side ordered that BRIDGE_n.SIDE cannot hold.
-/

namespace Sys2Proof.Machine

open Sys2Proof

/-- Lane A in NAP_ENTRY with a short of bridge 0 ordered whose side is 4: soundness bounds no side that waits, and SIDE has two
bits. -/
def wideSideOrdered : State :=
  Tests.st [(PWR.STATUS.STATE, 3)] (fun x => x.setGateCh 0 (fun g => { g with naming := 4 }))

theorem wideSideOrdered_canon : State.Canon wideSideOrdered := Tests.sound_st (by decide +kernel) (fun _ => ⟨rfl, rfl, rfl⟩)

theorem wideSideOrdered_entering : (wideSideOrdered.lane .A).rd PWR.STATUS.STATE = 3 ∧ (wideSideOrdered.lane .A).pwr.wake = 0 := by
  decide +kernel

theorem wideSideOrdered_side : (wideSideOrdered.lane .A).bridgeSide 0 = 4 := by decide +kernel

/-- Refutes O59: the side that a bridge is about to short is a number without bound in a sound lane. NAP records it in the two
bits of BRIDGE_n.SIDE, so that a side 4 that waits in NAP_ENTRY is not the one read in NAP. -/
theorem not_napKeepsTheRetentionImage : ¬ Obligations.NapKeepsTheRetentionImage := by
  unfold Obligations.NapKeepsTheRetentionImage
  intro h
  obtain ⟨hstate, hwake⟩ := wideSideOrdered_entering
  obtain ⟨y, -, -, -, -, -, -, -, -, hbridges, -⟩ := h wideSideOrdered .A wideSideOrdered_canon hstate hwake
  have hside : y.rd (GATE.BRIDGE.SIDE 0) = 4 := (hbridges 0 (by decide)).1.trans wideSideOrdered_side
  have hlt : y.rd (GATE.BRIDGE.SIDE 0) < 2 ^ 2 := y.rd_lt (by decide)
  omega

end Sys2Proof.Machine
